-- ==== Sys2Proof/Word.lean ====
section
/-! DEFINITION. The word types of the ZM-960 model and the block names of its register pages. -/

namespace Sys2Proof

/-- A register word or an instruction word of 64 bits (R54, R179). -/
abbrev Word := BitVec 64
/-- A thread register or an FP32 pattern of 32 bits (R178). -/
abbrev W32 := BitVec 32
/-- One byte of memory. -/
abbrev Byte := BitVec 8
/-- The bytes of a structure, lowest address first (R5). -/
abbrev Bytes := List Byte

/-- The nineteen kinds of block, each with its own register page layout (R53, R57). -/
inductive Blk where
  | dev | rcc | mbx | hlk | mem | sdm | xlt | sth | cor | act | shl | kvp | fab | inl | shr | red | ras | tlm | sec
  deriving DecidableEq, Repr

end Sys2Proof
end

