-- ==== Sys2Proof/Syntax.lean ====
section
/-! DEFINITION. The commands of the block: one constructor for each row of spec/opcode_table.json, with the
operands that the row's rule names (a page, a channel, a ring, a core, a packet, a value measured outside). -/

namespace Sys2Proof

/-- What training finds in a DIMM socket (R214, R215, R220). -/
structure Dimm where
  /-- a DIMM is fitted -/
  fitted : Bool
  /-- type code of R220: 1 MRDIMM-8800, 2 RDIMM-6400, 0xFF unsupported -/
  typ : BitVec 8
  ranks : BitVec 8
  capGB : BitVec 16
  /-- the DIMM meets every row of R214 -/
  supported : Bool
  trainOk : Bool
  spdOk : Bool
  deriving DecidableEq, Repr

/-- A Colsar packet: the header of R330 and its payload. -/
structure Pkt where
  typ : BitVec 8
  vc : BitVec 4
  nf : Bool
  poison : Bool
  resent : Bool
  dst : BitVec 16
  src : BitVec 16
  len : BitVec 13
  addr : BitVec 64
  txid : BitVec 32
  code : BitVec 8
  hops : BitVec 8
  seq : BitVec 64
  step : BitVec 64
  payload : Bytes
  deriving DecidableEq, Repr

/-- Where an SPDM message comes from: the host's DOE mailbox, or Colsar link `2·port + half` (R425). -/
inductive Transport where
  | host
  | link (l : Nat)
  deriving DecidableEq, Repr

/-- A DOE request in configuration space (R87). -/
inductive DoeReq where
  | discovery (index : BitVec 8)
  | cdat (entry : BitVec 16)
  | spdm (msg : Bytes)
  deriving DecidableEq, Repr

/-- The outcome that a matrix tile or a thread instruction meets in its checkers (R172, R173, R192). -/
inductive Check where
  | ok | residue | parity | fetchParity | regParity
  deriving DecidableEq, Repr

/-- The commands. Operand names: `b i` a page's block and instance; `c` a logical core; `p t` a processor
(0–2303 logical core, 2304+n inlet unit n, 2316+n shore unit n) and a shoal slot; `q` a stream queue
(`8·core + k`, or `18432 + 8·basin + k` for hub queue k); `r` a ring; `l` a Colsar link `2·port + half`. -/
inductive Instr where
  -- module, power, removal (chapter 1)
  | v36Make
  | inputLoss
  | presMake
  | presDebounceDone
  | mainRailsUp
  | presBreak
  | uvTrip (mv : BitVec 16)
  | ovTrip (mv : BitVec 16)
  | uvRelease (mv : BitVec 16)
  | ovRelease (mv : BitVec 16)
  | vinBandChange (mv : BitVec 16)
  | inletHigh (t : BitVec 16)
  | inletTripTimer
  | dieHot (t : BitVec 16)
  | dieOvertempTrip (t : BitVec 16)
  | dimmRefreshDouble (ch : Nat)
  | dimmHot (ch : Nat)
  | opticHot (engine : Nat)
  | thermalRestart
  | removeReq
  | removalDrainResume
  | removeDrainTimeout
  -- clocks, reset, readiness (chapter 2)
  | logicPllLockLost
  | logicPllLockReturn
  | rootRefStop
  | rootRefReturn
  | ddrPhyPllLockLost
  | phyPllLockLost (host : Bool)
  | rstCtrlCold (key : BitVec 16)
  | rstCtrlWarm (key : BitVec 16)
  | rstCtrlBasin (key : BitVec 16) (mask : BitVec 4)
  | coldResetAssert
  | warmResetAssert
  | basinResetAssert (basin : Nat)
  | coldResetRelease
  | warmResetRelease
  | basinResetRelease (basin : Nat)
  | blockReady (b : Blk) (i : Nat)
  | memTrainingDone (ch : Nat) (d : Dimm)
  | powerOnCoreTestDone (basin : Nat) (failed : List Nat)
  | basinReady (basin : Nat)
  | readyLate (b : Blk) (i : Nat)
  | wellheadWatchdogExpiry
  | blkReset (b : Blk) (i : Nat)
  | deferredResetStart (b : Blk) (i : Nat)
  | blockResetDone (b : Blk) (i : Nat)
  | journalResolutionBegin
  | journalTwinAnswer (phase : Nat) (twinCold : Bool)
  | journalTwinTimeout
  | twinLost
  -- register pages (chapter 3)
  | registerWrite (wh : Bool) (addr size : Nat) (v : Word)
  | refusedAccess (wh write : Bool) (addr size : Nat) (v : Word)
  | broadcastWrite (wh : Bool) (addr size : Nat) (v : Word)
  | quiesceWrite (b : Blk) (i : Nat) (on : Bool)
  | blockQuiesced (b : Blk) (i : Nat)
  | eventRegWrite (b : Blk) (i off : Nat) (v : Word)
  | msixUnmask (vec : Nat)
  | cntSnapTake (b : Blk) (i : Nat)
  | devIfCapFloorWrite (n : Nat) (cap floor : BitVec 8)
  | devLockWrite (v : Bool)
  -- host link, rings, mailbox (chapter 4)
  | hostLinkTrained (offer : List (BitVec 8)) (width speed : BitVec 8) (lit : BitVec 16)
  | hostLightLoss (lit : BitVec 16)
  | hostHotReset
  | functionLevelReset
  | cxlReset
  | hdmDecoderCommit (n : Nat) (hpa dpa size : Nat) (ways : Nat)
  | hdmExposeWrite (e : BitVec 11)
  | hlkBiasWrite (n : Nat) (v : Word)
  | biasSettled
  | hostHdmAccess (write : Bool) (hpa len : Nat) (data : Bytes)
  | doeRequest (q : DoeReq)
  | ringOpen (r : Nat) (v : Word)
  | ringClose (r : Nat)
  | ringCloseDone (r : Nat)
  | ringReset (r : Nat)
  | ringResetDone (r : Nat)
  | commandTailDoorbell (r : Nat) (tail : BitVec 16)
  | completionHeadDoorbell (r : Nat) (head : BitVec 16)
  | commandFetch (r : Nat)
  | ringNop (r : Nat)
  | loadKernel (r : Nat)
  | launch (r : Nat)
  | stream (r : Nat)
  | copy (r : Nat)
  | fence (r : Nat)
  | signal (r : Nat)
  | wait (r : Nat)
  | waitPoll (r i : Nat)
  | stepBegin (r : Nat)
  | commandComplete (r i : Nat)
  | getInfo (seq len : BitVec 16)
  | faultLogOpen (seq len : BitVec 16)
  | faultRead (seq len : BitVec 16)
  | tlmRead (seq len : BitVec 16)
  | fwStage (seq len : BitVec 16)
  | fwActivateTrial (seq len : BitVec 16)
  | fwActivateRestart (seq len : BitVec 16)
  | fwActivateCancel (seq len : BitVec 16)
  | wellheadActivationRestart (after30s : Bool)
  | getNonce (seq len : BitVec 16)
  | unlock (seq len : BitVec 16)
  | lock (seq len : BitVec 16)
  | provision (seq len : BitVec 16)
  | revoke (seq len : BitVec 16)
  | xltResolveRetry (seq len : BitVec 16)
  | xltResolveFail (seq len : BitVec 16)
  | mbxResponse
  | mbxTimeout
  -- cores, launches, swaps (chapter 5)
  | launchStart (c : Nat) (fill : Bool)
  | launchEndOnCore (c : Nat) (fill : Bool)
  | swapRequest (c : Nat) (forTest : Bool)
  | swapDrainPoint (c : Nat)
  | swapCopyStart (c : Nat)
  | swapCopyDone (c : Nat)
  | corPartWrite (c : Nat) (v : Word)
  | partApply (c : Nat)
  | corFlagsSet (c : Nat) (v : Word)
  | corFlagsClr (c : Nat) (v : Word)
  | barrierRelease (c : Nat) (fill : Bool) (scope id : Nat)
  | barrierTimeout (c : Nat) (fill : Bool) (scope id : Nat)
  | efWaitRelease (c : Nat) (flag : Nat)
  -- Septoon (chapter 8)
  | nop (p t : Nat) (k : Check)
  | endThread (p t : Nat) (k : Check)
  | bar (p t : Nat) (k : Check)
  | efset (p t : Nat) (k : Check)
  | efclr (p t : Nat) (k : Check)
  | efwait (p t : Nat) (k : Check)
  | efwaitc (p t : Nat) (k : Check)
  | braAny (p t : Nat) (k : Check)
  | braAll (p t : Nat) (k : Check)
  | braNone (p t : Nat) (k : Check)
  | iadd (p t : Nat) (k : Check)
  | isub (p t : Nat) (k : Check)
  | imul (p t : Nat) (k : Check)
  | imulh (p t : Nat) (k : Check)
  | and (p t : Nat) (k : Check)
  | or (p t : Nat) (k : Check)
  | xor (p t : Nat) (k : Check)
  | shl (p t : Nat) (k : Check)
  | shr (p t : Nat) (k : Check)
  | sar (p t : Nat) (k : Check)
  | imin (p t : Nat) (k : Check)
  | imax (p t : Nat) (k : Check)
  | sel (p t : Nat) (k : Check)
  | iaddImm (p t : Nat) (k : Check)
  | isubImm (p t : Nat) (k : Check)
  | imulImm (p t : Nat) (k : Check)
  | imulhImm (p t : Nat) (k : Check)
  | andImm (p t : Nat) (k : Check)
  | orImm (p t : Nat) (k : Check)
  | xorImm (p t : Nat) (k : Check)
  | shlImm (p t : Nat) (k : Check)
  | shrImm (p t : Nat) (k : Check)
  | sarImm (p t : Nat) (k : Check)
  | iminImm (p t : Nat) (k : Check)
  | imaxImm (p t : Nat) (k : Check)
  | movi (p t : Nat) (k : Check)
  | fadd (p t : Nat) (k : Check)
  | fmul (p t : Nat) (k : Check)
  | ffma (p t : Nat) (k : Check)
  | fmin (p t : Nat) (k : Check)
  | fmax (p t : Nat) (k : Check)
  | faddi (p t : Nat) (k : Check)
  | fmuli (p t : Nat) (k : Check)
  | hadd2 (p t : Nat) (k : Check)
  | hmul2 (p t : Nat) (k : Check)
  | hfma2 (p t : Nat) (k : Check)
  | exp2 (p t : Nat) (k : Check)
  | log2 (p t : Nat) (k : Check)
  | rcp (p t : Nat) (k : Check)
  | rsqrt (p t : Nat) (k : Check)
  | sqrt (p t : Nat) (k : Check)
  | tanh (p t : Nat) (k : Check)
  | sint (p t : Nat) (k : Check)
  | cost (p t : Nat) (k : Check)
  | fsetp (p t : Nat) (k : Check)
  | isetp (p t : Nat) (k : Check)
  | pand (p t : Nat) (k : Check)
  | por (p t : Nat) (k : Check)
  | pxor (p t : Nat) (k : Check)
  | vote (p t : Nat) (k : Check)
  | pbit (p t : Nat) (k : Check)
  | cvt (p t : Nat) (k : Check)
  | ld8 (p t : Nat) (k : Check)
  | ld16 (p t : Nat) (k : Check)
  | ld32 (p t : Nat) (k : Check)
  | ld64 (p t : Nat) (k : Check)
  | st8 (p t : Nat) (k : Check)
  | st16 (p t : Nat) (k : Check)
  | st32 (p t : Nat) (k : Check)
  | st64 (p t : Nat) (k : Check)
  | shfl (p t : Nat) (k : Check)
  | shflx (p t : Nat) (k : Check)
  | rsum (p t : Nat) (k : Check)
  | rmax (p t : Nat) (k : Check)
  | rmin (p t : Nat) (k : Check)
  | risum (p t : Nat) (k : Check)
  | mma (p t : Nat) (k : Check)
  | sqpush (p t : Nat) (k : Check)
  | sqsync (p t : Nat) (k : Check)
  | chain (p t : Nat) (k : Check)
  | ldm40 (p t : Nat) (k : Check)
  | stm40 (p t : Nat) (k : Check)
  | m40fma (p t : Nat) (k : Check)
  | sreg (p t : Nat) (k : Check)
  | sfrd (p t : Nat) (k : Check)
  | sfclr (p t : Nat) (k : Check)
  | sfset (p t : Nat) (k : Check)
  | cvtctx (p t : Nat) (k : Check)
  | chainRetire (p t : Nat)
  | kernelReplaceApply (slot : Nat)
  -- matrix engine (chapter 7)
  | matrixTileStart (c : Nat)
  | tileOverflowReplay (c : Nat) (k : Check)
  | matrixTileDone (c : Nat) (k : Check)
  | mxDebugHalt (c : Nat)
  | mxDebugResume (c : Nat)
  -- scaling (chapter 6)
  | devScalecfgWrite (v : Word)
  | devScalebaseWrite (v : Word)
  | devRecipeWrite (k : Nat) (exp : BitVec 8)
  | scaleLoaded
  | scaleReseed
  -- memory and translation (chapter 9)
  | sdmCfgWrite (basin : Nat) (v : Word)
  | sdmScrubStep (basin : Nat) (off : Nat) (ue ce : Bool) (passEnd : Bool)
  | sdmRowRemap (basin vault row : Nat)
  | memScrubStep (ch : Nat) (off : Nat) (ue ce : Bool) (dev : BitVec 4) (passEnd : Bool)
  | memSppr (ch rank bankGroup sub : Nat)
  | install (slices : BitVec 4)
  | update (slices : BitVec 4)
  | invRange (slices : BitVec 4)
  | invUnpinned (slices : BitVec 4)
  | invAll (slices : BitVec 4)
  | lookup (slices : BitVec 4)
  | xltInvalidationDone
  | translationMiss (slice req : Nat) (va : Nat) (write : Bool) (holder : Nat)
  | mapSearchDone (fault : Nat)
  | mapDescRecheck (fault : Nat)
  | xltFaultTimeout (fault : Nat)
  -- streams (chapter 10)
  | streamIn (q : Nat)
  | streamOut (q : Nat)
  | streamCopy (q : Nat)
  | transferGrant (q : Nat)
  | transferLanded (q n : Nat)
  | streamOpComplete (q : Nat)
  | streamWaitPoll (q : Nat)
  | streamTransferTimeout (q n : Nat)
  | cowCopyStart (basin : Nat) (va : Nat) (q : Nat)
  | cowCopyDone (basin : Nat)
  -- activation store (chapter 11)
  | actSave (q : Nat)
  | actRestore (q : Nat)
  | actSaveRoomFreed (q : Nat)
  | actRoomTimeout (q : Nat)
  | actPurge (basin : Nat)
  -- convolution and shallows (chapter 12)
  | convPatch (q : Nat)
  | convTpatch (q : Nat)
  | featureMapCodec (q : Nat)
  | shlRun (q : Nat)
  | convFwd (basin : Nat) (k : Check)
  | convBwdData (basin : Nat) (k : Check)
  | convBwdWeight (basin : Nat) (k : Check)
  | poolMax (basin : Nat) (k : Check)
  | poolAvg (basin : Nat) (k : Check)
  | poolMaxBwd (basin : Nat) (k : Check)
  | poolAvgBwd (basin : Nat) (k : Check)
  | padFold (basin : Nat) (k : Check)
  | shlJobDone (basin : Nat)
  | shlJobTimeout (basin : Nat)
  -- attention and KV (chapter 13)
  | attMask (q : Nat)
  | kvGather (q : Nat)
  | kvWrite (q : Nat)
  | kvPageCopyDone (q : Nat)
  | kvPoolWaitResume (q : Nat)
  | kvPoolWaitTimeout (q : Nat)
  | kvSend (q : Nat)
  | create (seq : BitVec 16)
  | fork (seq seq2 : BitVec 16) (len : Word)
  | truncate (seq : BitVec 16) (len : Word)
  | release (seq : BitVec 16)
  | rxSet (seq : BitVec 16) (len : Word)
  | kvpPoolConfig (n : Nat) (base cfg map : Word)
  -- Colsar fabric (chapter 14)
  | fabTrainingStart (l : Nat)
  | fabLinkUp (l : Nat)
  | fabTrainingTimeout (l : Nat)
  | fabLightLoss (l : Nat) (lit : BitVec 8)
  | flitRetry (l : Nat) (n : Nat)
  | fabRetrainDone (l : Nat)
  | put (l : Nat) (k : Pkt)
  | get (l : Nat) (k : Pkt)
  | getData (l : Nat) (k : Pkt)
  | ack (l : Nat) (k : Pkt)
  | nack (l : Nat) (k : Pkt)
  | hold (l : Nat) (k : Pkt)
  | ping (l : Nat) (k : Pkt)
  | pong (l : Nat) (k : Pkt)
  | identify (l : Nat) (k : Pkt)
  | leaving (l : Nat) (k : Pkt)
  | resetNotice (l : Nat) (k : Pkt)
  | adopt (l : Nat) (k : Pkt)
  | reset (l : Nat) (k : Pkt)
  | resetAck (l : Nat) (k : Pkt)
  | spdmMessage (l : Nat) (k : Pkt)
  | red (l : Nat) (k : Pkt)
  | redC (l : Nat) (k : Pkt)
  | upd (l : Nat) (k : Pkt)
  | kv (l : Nat) (k : Pkt)
  | kvAck (l : Nat) (k : Pkt)
  | mirror (l : Nat) (k : Pkt)
  | fabTxnTimeout (txid : BitVec 32) (within4ms : Bool)
  | fabHoldResend (port n : Nat)
  | dupKeyExpiry (n : Nat)
  | fabPut (q : Nat)
  | fabGet (q : Nat)
  | fabMcmdPing (port : Nat) (dst : BitVec 16) (len : BitVec 8)
  | fabMcmdReset (port : Nat) (dst : BitVec 16) (len : BitVec 8)
  | fabMcmdSpdm (port : Nat) (dst : BitVec 16) (len : BitVec 8)
  | fabMcmdTimeout (port : Nat)
  | devFabidWrite (v : Word)
  | routeFlush
  -- reduction and update (chapter 15)
  | redTileAccept (c : Nat) (k : Check)
  | redPush (q : Nat)
  | basinPieceReduce (basin slot piece : Nat) (k : Check)
  | redNodeSend (slot piece slab : Nat) (k : Check)
  | updateSlabStart (shore : Bool) (n : Nat)
  | updateSlabDone (shore : Bool) (n : Nat)
  | updateKernelTimeout (shore : Bool) (n : Nat)
  | stepClose (step : BitVec 62)
  | stepAbandon (step : BitVec 62)
  | stepVote
  | verdictCombine
  | verdictReceived
  | twinStaged (digest : Word)
  | mirrorRedoDone
  | twinFlipped
  | verdictTimeout
  | commitTimeout
  | redBanksetWrite (cur : Bool)
  | lwClearEntry (n : BitVec 12)
  | lwClearAll
  -- job mapping (chapter 16)
  | bsteerStateWrite (v : Word)
  | bsteerEmaLoad (ema : W32)
  | stgAcquire (q : Nat)
  | stgPublish (q : Nat)
  | stgAwait (q : Nat)
  | stgRelease (q : Nat)
  | sthStgcfgWrite (j : Nat) (v : Word)
  | stageOccupancySample (j : Nat)
  | stageWaitLong (q : Nat)
  | workUnitExpiry (c : Nat) (fill : Bool)
  | clockPowerLoopTick (p : BitVec 16)
  | powerLimitRiseTick (p t : BitVec 16)
  | powerLimitFallTick (p t : BitVec 16)
  -- reliability and telemetry (chapter 17)
  | rasReplayctlSet (step : BitVec 48) (attempt : BitVec 4)
  | testDue (phys : Nat)
  | inFieldTestStart (phys : Nat)
  | inFieldTestDone (phys : Nat) (pass : Bool)
  | inFieldTestTimeout (phys : Nat)
  | testDeferExpiry (phys : Nat)
  | testOverdue (phys : Nat)
  | suspicionExpiry (phys : Nat)
  | rasTestreq (phys : BitVec 12)
  | rasVinject
  | rasLoadgateWrite (hold : Bool)
  | tlmPersistNow (ok : Bool)
  | tlmPersistPeriodic (ok : Bool)
  | tlmHistSample (tDie tInlet pin : BitVec 16)
  -- security and firmware (chapter 18)
  | wellheadSramUe
  | wellheadBoot
  | fwTrialConfirm
  | getVersion (x : Transport) (msg : Bytes)
  | getCapabilities (x : Transport) (msg : Bytes)
  | negotiateAlgorithms (x : Transport) (msg : Bytes)
  | getDigests (x : Transport) (msg : Bytes)
  | getCertificate (x : Transport) (msg : Bytes)
  | challenge (x : Transport) (msg : Bytes)
  | getMeasurements (x : Transport) (msg : Bytes)
  | spdmUnsupportedRequest (x : Transport) (msg : Bytes)
  | mbxBadOpcode (seq len op : BitVec 16)
  | notReadyTimeout (r : Nat)
  | inletDeratingEnd (t : BitVec 16)
  deriving DecidableEq, Repr

end Sys2Proof
end

