-- ==== Sys2Proof/Decode.lean ====
section
/-! DEFINITION. The word form of commands. The commands of this block come from outside as register writes, packets and
pin events; the opcode table gives none of them bits, so no word spells one. -/

namespace Sys2Proof

/-- The command that a word spells by the table's bits: the table gives no row any, so there is none. -/
def decodeTableWord (_nbits _w : Nat) : Option Instr := none

end Sys2Proof
end

