-- ==== Sys2Proof/Config.lean ====
section
/-! DEFINITION. What the spec leaves open: free values, opaque so that nothing can be proved of a particular one,
and functions whose standard the spec names without giving its algorithm. -/

namespace Sys2Proof.Config

/-- The value a result takes where the spec calls it undefined (R8, R207, R258): the n-th such value. Assumption 3. -/
opaque freeByte : Nat → Byte
/-- The 32-byte random nonce of GET_NONCE, SPDM nonces (R427): the n-th draw. Assumption 4. -/
opaque freeNonce : Nat → BitVec 256
/-- SM3 digest (GB/T 32905), named by R416, R417, R426 and not defined in the spec. Assumption 5. -/
opaque sm3 : Bytes → BitVec 256
/-- SM2 signature check (GB/T 32918.2): public key, message, signature (R417, R428). Assumption 5. -/
opaque sm2Verify : Bytes → Bytes → Bytes → Bool
/-- SM2 signature by the device key derived from the device secret (R423): secret, message, draw. Assumption 5. -/
opaque sm2Sign : BitVec 256 → Bytes → Nat → Bytes
/-- CRC-64 over the staged shard list (R47); the spec gives no polynomial. Assumption 6. -/
opaque crc64 : Bytes → Word
/-- Fuse contents of this module: UUID, vendor key hashes, device secret, defect list (R418, R43). Assumption 7. -/
opaque fuseUuid : BitVec 128
/-- Fused vendor key hash of slot 0 or 1 (R418). Assumption 7. -/
opaque fuseVendorKey : Bool → BitVec 256
/-- The 256-bit device secret (R418). Assumption 7. -/
opaque fuseSecret : BitVec 256
/-- The boot ROM version and the SM3 digest of the boot ROM (R426, R429). Assumption 7. -/
opaque romVersion : W32
/-- SM3 digest of the boot ROM (R426). Assumption 7. -/
opaque romDigest : BitVec 256
/-- The certificate chain in flash, written at manufacture (R423). Assumption 7. -/
opaque certChain : Bytes
/-- CDAT table bytes behind one DSMAS entry for E GiB (R87). Assumption 8. -/
opaque cdat : Nat → Bytes

/-- The sign of a zero result of SINT (false) and COST (true) for an input; R184 gives none. Assumption 13. -/
opaque sincosZero : Bool → W32 → Bool

/-- The sign of the NaN that the matrix engine gives a marked element (R167), by element 64·i + j. Assumption 17. -/
opaque mxNanSign : Nat → Bool
/-- POOL_AVG over no tap inside, with POOL_DIV 1 (R291 divides by 0): the FP32 result for a sum. Assumption 18. -/
opaque poolDivZero : Nat → W32

/-- PEND_OP of a KV record while a page copy runs, less 1 modulo 255 (R305 gives no code for a copy). Assumption 20. -/
opaque kvPendCopy : Nat

end Sys2Proof.Config
end

