-- ==== Sys2Proof/Machine/State.lean ====
section
/-! DEFINITION. The machine's state: everything the spec gives the ZM-960 module, as plain data, and its value right
after the Cold reset that follows the main rails (R20, R37). -/

namespace Sys2Proof.Machine

/-- A sparse table in canonical form: keys strictly rising, no entry equal to what an unlisted key reads as. -/
abbrev Tab (α : Type) := List (Nat × α)

/-- Why the machine stops. The spec gives every command an effect, so nothing raises it; it is kept for the interface. -/
inductive Fault where
  /-- raised by nobody; safe -/
  | none
  deriving DecidableEq, Repr

/-- Why a command has no meaning. -/
inductive Refusal where
  /-- raised by an arm of exec whose meaning is not written; safe -/
  | notModelled (mnemonic : String)
  deriving DecidableEq, Repr

/-! ### Power and standby domain -/

/-- How far an orderly removal has gone (R22, R25). -/
inductive Drain where
  | none | running | done
  deriving DecidableEq, Repr

/-- Power input, presence and thermal state (R11, R15, R18, R20, R22, R383). -/
structure Power where
  /-- the standby rail is up (V36 made and above 20 V) -/
  standby : Bool
  pres : Bool
  /-- the 5 ms debounce count runs (R11) -/
  debounce : Bool
  /-- main converters enabled (R11) -/
  converters : Bool
  /-- main rails in regulation (R20) -/
  rails : Bool
  /-- transmitters may light (R22, R23) -/
  txOn : Bool
  /-- an undervoltage, overvoltage or thermal trip has not released (R15, R18, R25) -/
  uvHeld : Bool
  ovHeld : Bool
  thermHeld : Bool
  drain : Drain
  /-- channels with doubled refresh, and limited to 50 % bandwidth (R18) -/
  dimmDouble : BitVec 24
  dimmHalf : BitVec 24
  /-- optical engines turned off: F0 to F11, then the host's (R18) -/
  opticOff : BitVec 13
  /-- a die sensor reached 95 °C and has not fallen below 93 °C (R383) -/
  dieHot : Bool
  /-- inlet derating in force and the cap in W (R18, R383) -/
  inletHigh : Bool
  capW : BitVec 16
  nLoop : Nat
  nWin : Nat
  nLim : Nat
  /-- source of the Cold reset that the next rails-up runs: 0x01, or 0x02 after a thermal trip (R32) -/
  coldSrc : BitVec 8
  deriving DecidableEq, Repr

/-- Clocks and the local timer (R26, R29, R30, R31). -/
structure Clock where
  rootOk : Bool
  logicLock : Bool
  ddrLock : Bool
  colsarLock : Bool
  hostLock : Bool
  degraded : Bool
  timer : Word
  deriving DecidableEq, Repr

/-! ### Resets and readiness -/

/-- The reset classes that RCC sequences (R32). -/
inductive RstClass where
  | cold | warm | basin
  deriving DecidableEq, Repr

/-- A Cold, Warm or Basin reset requested or running (R432). -/
structure RstReq where
  cls : RstClass
  /-- the basin of a Basin reset; 0 otherwise -/
  basin : Nat
  src : BitVec 8
  asserted : Bool
  deriving DecidableEq, Repr

/-- A Block reset of one page (R35, R60). -/
inductive BlkRst where
  | none | deferred | running
  deriving DecidableEq, Repr

/-- Reset sequencing, READY bits and latched faults (R37 to R42, R58 to R60). -/
structure Rst where
  reqs : List RstReq
  /-- the die is held in reset: no main power, or a clock lost (R30) -/
  held : Bool
  /-- RCC_READY0, RCC_READY1 and RCC_READY2 (R42): the READY bit of every page but COR -/
  ready0 : Word
  ready1 : Word
  ready2 : Word
  /-- COR pages whose READY is 0 although their basin is ready, by logical core -/
  coreDown : Tab Bool
  /-- faults latched without an EVENT bit (R41, R112), by page offset -/
  faultLatch : Tab Bool
  /-- Block resets, by page offset -/
  blk : Tab BlkRst
  /-- QUIESCED, by page offset (R59) -/
  quiesced : Tab Bool
  /-- pages whose running Block reset follows a PHY PLL loss (R30), by page offset -/
  phyLost : Tab Bool
  /-- broadcast writes waiting for a member's Block reset (R63): address, value -/
  waiting : List (Nat × Nat × Word)
  /-- power-on core tests ended, by basin (R399) -/
  tested : BitVec 4
  /-- channels trained since the last Cold reset (R215) -/
  trained : BitVec 24
  dimms : Tab (Option Dimm)
  deriving DecidableEq, Repr

/-- Resolution of an open commit after a Warm reset, and the hold of R51 (R49, R51). -/
structure Jrn where
  /-- a Warm reset found a commit open; its resolution has not begun (R38) -/
  due : Bool
  /-- a Warm reset found a commit open and the twin has been asked -/
  resolving : Bool
  /-- the commit is held because the twin does not answer -/
  held : Bool
  /-- FLIPPED is to be resent once the twin answers -/
  resend : Bool
  deriving DecidableEq, Repr

/-! ### Host link -/

/-- How far a ring command has gone (R96, R98). -/
inductive CmdPhase where
  | fetched
  | started
  | finished (status : BitVec 16) (result : Word)
  deriving DecidableEq, Repr

/-- A ring command after its fetch (R95). -/
structure Cmd where
  uid : Nat
  op : Byte
  flags : Byte
  tag : W32
  step : Word
  wu : Word
  /-- bytes 24 to 47 of format 2 -/
  opnd : BitVec 192
  phase : CmdPhase
  deriving DecidableEq, Repr

/-- A ring (R91, R94): the fields of HLK_RSTAT, the posted tail, the free completion head, the commands in hand. -/
structure Ring where
  head : Nat
  ctail : Nat
  fmt : BitVec 8
  err : BitVec 8
  phase : Bool
  st : BitVec 3
  tail : Nat
  chead : Nat
  /-- CLASS at open: fill ring -/
  fill : Bool
  closing : Bool
  cmds : List Cmd
  deriving DecidableEq, Repr

/-- An HDM decoder (R84). -/
structure Hdm where
  hpa : Nat
  dpa : Nat
  size : Nat
  committed : Bool
  notCommitted : Bool
  deriving DecidableEq, Repr

/-- A mailbox command in flight (R101): its answer is ready when `answer` is set. -/
structure MbxRun where
  op : BitVec 16
  seq : BitVec 16
  /-- the response will be discarded (R101, R106) -/
  answer : Option (BitVec 16 × Bytes)
  deriving DecidableEq, Repr

/-- One MSI-X table entry (R88). -/
structure Msix where
  addr : Word
  data : W32
  masked : Bool
  pend : Bool
  deriving DecidableEq, Repr

/-- What leaves the module. -/
inductive OutMsg where
  /-- an MSI-X message on a vector (R68) -/
  | msix (vec : Nat)
  /-- a packet on Colsar link `2·port + half` -/
  | packet (l : Nat) (k : Pkt)
  /-- an answer to a DOE request (R87) -/
  | doe (data : Bytes)
  /-- an SPDM answer (R425) -/
  | spdm (x : Transport) (data : Bytes)
  /-- data returned to a host CXL.mem read, and whether it is poisoned (R85, R105) -/
  | hdm (data : Bytes) (poison : Bool)
  deriving DecidableEq, Repr

/-- Host link state beside its registers. -/
structure Hlk where
  rings : Tab Ring
  hdm : Tab Hdm
  /-- EXPOSE in force on the link (R84) -/
  exposed : Nat
  biasSettling : Bool
  mbx : Option MbxRun
  msix : Tab Msix
  nextUid : Nat
  /-- last ring served among primary and fill rings (R122) -/
  lastPri : Nat
  lastFill : Nat
  outbox : List OutMsg
  deriving DecidableEq, Repr

/-! ### Cores -/

/-- A kernel in the store (R203, R204). -/
structure Kernel where
  isa : BitVec 8
  gen : BitVec 24
  target : BitVec 8
  code : List Word
  need : Nat
  entry : Nat
  deriving DecidableEq, Repr

/-- A REPLACE load waiting for the users of the old handle (R204). -/
structure PendLoad where
  ring : Nat
  uid : Nat
  slot : Nat
  handle : Word
  kernel : Kernel
  deriving DecidableEq, Repr

/-- A launch from its dispatch to its completion (R122 to R124, R380). -/
structure Launch where
  ring : Nat
  uid : Nat
  fill : Bool
  handle : Word
  kernel : Kernel
  args : Word
  targets : List Nat
  shoals : Nat
  step : Word
  /-- the counted-cycle budget of R380; 0 when the launch declares no work units -/
  budget : Nat
  started : List Nat
  ended : List Nat
  /-- operations ended with a poisoned tail since the last stream-end barrier (R248): queue, cursor, cause -/
  poisoned : List (Nat × Nat × Nat)
  deriving DecidableEq, Repr

/-- What a shoal waits for. -/
inductive Wait where
  | run
  | bar (scope id : Nat)
  | flag (n : Nat) (clr : Bool)
  /-- a chain holds the shoal until it retires (R201); its descriptor as the CHAIN read it -/
  | chain (desc : Bytes)
  deriving DecidableEq, Repr

/-- A shoal slot in use (R116, R117, R186, R194). -/
structure Shoal where
  launch : Nat
  fill : Bool
  idx : Nat
  pc : Nat
  ended : BitVec 32
  wait : Wait
  ctxTensor : W32
  ctxSlot : Option Nat
  flags : BitVec 4
  deriving DecidableEq, Repr

/-- A matrix instruction held by the engine (R156). -/
structure Tile where
  launch : Nat
  fill : Bool
  slot : Nat
  mtdAddr : Nat
  maskAddr : Nat
  /-- word index of the MMA, and the MTD as read when the tile started -/
  word : Nat
  mtd : Bytes
  started : Bool
  mask : Word
  /-- H of the first attempt, and the replays made (R163, R165) -/
  headroom : Nat
  attempt : Nat
  fp32 : Bool
  /-- an all-ones mask skips the tile (R170) -/
  skip : Bool
  halted : Bool
  deriving DecidableEq, Repr

/-- A tile sent towards the basin reduction tree and not yet accepted (R157, R347). -/
structure RedTile where
  launch : Nat
  fill : Bool
  slot : Nat
  tensor : W32
  baseIdx : Word
  rowLen : W32
  mask : Word
  nf : Bool
  poison : Bool
  /-- FP32 values of the 4,096 elements, empty for a header-only tile -/
  data : List W32
  deriving DecidableEq, Repr

/-- A spare swap of a logical core (R111). -/
inductive Swap where
  | none
  /-- requested for a test or a retirement, with the spare assigned in request order (R112) -/
  | waiting (forTest : Bool) (spare : Nat)
  /-- the drain point is reached -/
  | drained (forTest : Bool) (spare : Nat)
  | copying (forTest : Bool) (spare : Nat)
  deriving DecidableEq, Repr

/-- A logical core (R109, R123, R125, R130). -/
structure Core where
  pri : Option Nat
  fill : Option Nat
  priQ : List Nat
  fillQ : List Nat
  part : Option Word
  flags : Word
  mxRun : Option Tile
  mxWait : Option Tile
  redOut : Option RedTile
  swap : Swap
  /-- slot that last issued to the vector, matrix, stream and synchronisation units (R115) -/
  lastIssue : List Nat
  deriving DecidableEq, Repr

/-! ### Streams -/

/-- A transfer in flight (R237, R242). -/
structure Xfer where
  off : Nat
  len : Nat
  /-- memory-side address; none for bytes that no memory serves (an index out of range, R240; generated bytes) -/
  va : Option Nat
  deriving DecidableEq, Repr

/-- What a started operation waits for besides its transfers. -/
inductive OpWait where
  | none
  /-- WAIT_VAL (R245) -/
  | val
  /-- room in the activation store (R269) -/
  | room
  /-- a page of a KV pool (R309), and a page copy under way: old page, new page, list index -/
  | page
  | pageCopy (old new idx : Nat)
  /-- a stage count (R376); the flag says the wait has been reported -/
  | stage (long : Bool)
  /-- a shallows job (R287) -/
  | job
  /-- an acknowledgement from the fabric (R314, R375) -/
  | ack
  deriving DecidableEq, Repr

/-- A stream operation in a core or hub queue (R233 to R251). -/
structure Op where
  id : Nat
  launch : Option Nat
  /-- ring command that carries the operation, and the descriptor's index in its list -/
  cmd : Option (Nat × Nat × Nat)
  fill : Bool
  step : Word
  /-- the descriptor copied at SQPUSH: 128 or 192 bytes (R233) -/
  desc : Bytes
  /-- SRAM base of the pushing launch's region, and its size (R120, R233) -/
  base : Nat
  size : Nat
  flag : Option Nat
  started : Bool
  /-- packed bytes whose transfers have been issued, and transfers issued -/
  issued : Nat
  nissued : Nat
  xfers : List Xfer
  /-- packed ranges landed: offset, length -/
  landed : List (Nat × Nat)
  /-- lowest chunk that met an uncorrectable word (R252) -/
  mark : Option Nat
  /-- cursor: chunks delivered, released or written (R249) -/
  cursor : Nat
  consumed : List Nat
  /-- poisoned tail: cause and first chunk (R251) -/
  poison : Option (Nat × Nat)
  wait : OpWait
  held : Bool
  /-- values an operation of a codec keeps while it runs -/
  aux : List Nat
  /-- packed bytes a codec has taken and not yet stored whole (R262, R296, R309) -/
  buf : Bytes
  /-- the descriptor stood at a 32-byte aligned address (R239) -/
  aligned : Bool
  deriving DecidableEq, Repr

/-- A COW copy under way in a basin (R254, R255). -/
structure Cow where
  va : Nat
  oldPa : Nat
  newPa : Nat
  log2 : Nat
  /-- MPA of the pool entry taken, and STEP of the writing command -/
  entry : Nat
  step : Word
  deriving DecidableEq, Repr

/-! ### Translation and memory -/

/-- A directory entry (R223). Lists of entries are kept most recently used first. -/
structure Xent where
  va : Nat
  log2 : Nat
  pa : Nat
  /-- bytes 16 and 17 -/
  flags : BitVec 16
  ref : BitVec 16
  tag : W32
  deriving DecidableEq, Repr

/-- How far the wellhead has gone with a translation fault (R228 to R230). -/
inductive XStage where
  | search
  /-- a map descriptor failed its check and is read again (R229) -/
  | recheck
  /-- bound for the host, and in its queue or waiting at the wellhead for room there (R230) -/
  | queued | hostWait
  deriving DecidableEq, Repr

/-- A merged translation fault. -/
structure XFault where
  id : Nat
  slice : Nat
  /-- kind of R229: 0 while MISS is searched, 2 PERM, 5 FULL … -/
  kind : Nat
  va : Nat
  write : Bool
  req : Nat
  round : Nat
  stage : XStage
  /-- who is held: a stream queue for REQ 1 to 4, a unit, or a ring -/
  holders : List (Nat × Nat)
  deriving DecidableEq, Repr

/-- Memory and translation state (R208 to R231). -/
structure Mem where
  /-- bytes by module physical address -/
  bytes : List Host.Cell
  /-- poisoned words, by MPA of the 32-byte word or 64-byte line -/
  poison : Tab Bool
  slices : Tab (List Xent)
  faults : List XFault
  nextFault : Nat
  /-- an invalidation whose accesses have not completed: slices, VA range start and length (R227) -/
  inval : Option (Nat × Nat × Nat)
  /-- spare rows used, by basin·64 + vault (R212) -/
  spareUsed : Tab Nat
  /-- remaps recorded, basin·64 + vault and row (R212) -/
  remaps : List (Nat × Nat)
  /-- sPPR resources in use: channel, (rank, bank group, subchannel) (R218) -/
  ppr : List (Nat × Nat)
  cow : Tab (Option Cow)
  deriving DecidableEq, Repr

/-! ### Activation store, shallows, fabric -/

/-- A ledger record (R270). -/
structure ARec where
  slot : Nat
  key : Word
  step : Word
  hold : Bool
  gather : Bool
  valid : Bool
  poisoned : Bool
  codec : Nat
  tier : Nat
  va : Nat
  t : Nat
  stored : Nat
  /-- granules in use, from the pool's base -/
  gran : Nat
  ngran : Nat
  /-- a free is due when its restore or save ends (R271, R276) -/
  freeDue : Bool
  deriving DecidableEq, Repr

/-- A shallows job: the queue and number of its SHL_RUN operation, the descriptor address, its state. -/
structure ShlJob where
  q : Nat
  op : Nat
  va : Nat
  /-- the job has written its outputs; or it ended with a cause of R252 -/
  done : Option Nat
  deriving DecidableEq, Repr

/-- A Colsar link: port or half (R318 to R322). -/
structure Link where
  /-- STATE of FAB_LINK -/
  st : BitVec 3
  level : BitVec 8
  width : BitVec 4
  peer : BitVec 16
  peerJob : W32
  peerPort : BitVec 6
  peerHalf : Bool
  lit : BitVec 8
  /-- IDENTIFY received in this training -/
  known : Bool
  fails : Nat
  retrains : Nat
  retries : Nat
  deriving DecidableEq, Repr

/-- A request outstanding on the fabric (R334). -/
structure Txn where
  txid : BitVec 32
  l : Nat
  k : Pkt
  /-- the stream queue, operation and packed offset it serves; none for reduction traffic -/
  op : Option (Nat × Nat × Nat)
  resent : Bool
  /-- sent at level 3, and RCC_TIMER at the first send (R334) -/
  lvl3 : Bool
  t0 : Word
  deriving DecidableEq, Repr

/-- A duplicate-filter key (R335, R336). -/
structure DupKey where
  src : BitVec 16
  vc : BitVec 4
  step : Word
  seq : Word
  deriving DecidableEq, Repr

/-- Fabric state beside its registers. -/
structure Fab where
  links : Tab Link
  txns : List Txn
  nextTx : BitVec 24
  dup : List DupKey
  /-- requests parked for a translation fault, by port (R333): link and packet -/
  parked : Tab (List (Nat × Pkt))
  /-- route cache: destinations held (R328) -/
  routes : List (Nat × Bytes)
  /-- round-robin position of spread routes (R329) -/
  rr : Nat
  deriving DecidableEq, Repr

/-! ### Reduction and update -/

/-- An exact dyadic number m·2^e, for the order-free accumulators of R367 and R368. -/
structure Dy where
  m : Int
  e : Int
  deriving DecidableEq, Repr

/-- A contribution waiting in a basin tree (R349). -/
structure Contrib where
  basin : Nat
  core : Nat
  slot : Nat
  piece : Nat
  mask : Word
  nf : Bool
  data : List W32
  deriving DecidableEq, Repr

/-- A slab sum waiting at this module: its source is `none` for the module's own contribution (R351). -/
structure NodeSlab where
  slot : Nat
  piece : Nat
  slab : Nat
  src : Option Nat
  /-- row mask of the slab's 16 rows -/
  mask : BitVec 16
  nf : Bool
  data : List W32
  deriving DecidableEq, Repr

/-- A reduced slab at an update unit (R355). -/
structure UnitSlab where
  slot : Nat
  piece : Nat
  slab : Nat
  mask : BitVec 16
  nf : Bool
  data : List W32
  /-- this module is the slab's PRIMARY -/
  primary : Bool
  deriving DecidableEq, Repr

/-- An inlet or shore unit: the slab that runs and those that wait (R355). -/
structure UpdUnit where
  run : Option UnitSlab
  queue : List UnitSlab
  buf : Bool
  deriving DecidableEq, Repr

/-- The open step at the reduction block (R363 to R372). -/
structure Red where
  /-- basin step words of the open step (R194), by basin -/
  words : Tab (BitVec 4)
  /-- OR of NF header bits of received slabs, and the RESET bit (R364) -/
  nf : Bool
  reset : Bool
  contribs : List Contrib
  /-- (basin, core, slot, piece) already contributed in this attempt (R347) -/
  seen : List (Nat × Nat × Nat × Nat)
  /-- basin sums waiting for the other basins: basin and slab -/
  sums : List (Nat × NodeSlab)
  nodes : List NodeSlab
  /-- packets held for the next step, or by the load gate: link and packet (R352, R402) -/
  later : List (Nat × Pkt)
  units : Tab UpdUnit
  /-- staged slabs: tensor slot, piece, slab -/
  staged : List (Nat × Nat × Nat)
  /-- row masks of the reduced slabs staged, for a redo (R363): tensor slot, piece, slab, mask -/
  masks : List (Nat × Nat × Nat × Nat)
  /-- pushes landed for USER tensors: tensor slot, piece, slab -/
  pushed : List (Nat × Nat × Nat)
  /-- this module's verdict record and those of its children, by tree position (R364) -/
  own : Option Bytes
  kids : Tab (List (Nat × Bytes))
  /-- the combined record as its packets arrive, and once it is whole -/
  parts : List (Nat × Bytes)
  verdict : Option Bytes
  twinDigest : Option Word
  mismatches : Nat
  redo : Bool
  gnsSmall : Dy
  gnsBig : Dy
  gnsUsed : Bool
  /-- layer watch sums of this step, by LAYER: DW2, W2, ELIG, CHANGED (R368) -/
  lw : Tab (Dy × Dy × Nat × Nat)
  /-- layer watch clears that wait for a commit end in progress (R369): entry, or none for ALL -/
  lwClears : List (Option Nat)
  /-- window and steering writes that wait for the step's end (R382) -/
  bsteerWait : Option Word
  deriving DecidableEq, Repr

/-! ### Scaling -/

/-- Scaling writes and actions that wait for the end of a commit or skip (R152). -/
structure Scale where
  cfg : Option Word
  base : Option Word
  recipes : Tab (Option Word)
  loaded : Bool
  reseed : Bool
  /-- slots used by conversions in the open step (R149), and their running maxima folded per slot -/
  used : Tab Bool
  deriving DecidableEq, Repr

/-! ### Reliability, telemetry, security -/

/-- A physical core as RAS knows it (R394 to R399). -/
structure PhysCore where
  retired : Bool
  testing : Bool
  due : Bool
  overdue : Bool
  /-- waits for a stream-end barrier, or may drain anywhere (R396) -/
  deferred : Bool
  suspect : Bool
  /-- RCC_TIMER when suspicion ends, and when the next test falls due (R395, R397) -/
  suspectEnd : Word
  dueAt : Word
  /-- replay-class detections, saturating at 65,535 -/
  errors : Nat
  deriving DecidableEq, Repr

/-- A failure record (R405 to R408). -/
structure FRec where
  seq : Nat
  source : Nat
  kind : Nat
  inst : Nat
  phys : Nat
  step : Word
  attempt : Nat
  outcome : Nat
  basin : Nat
  detail : Nat
  addr : Nat
  time : Word
  count : Nat
  /-- CPER severity: 2 corrected, 0 recoverable, 1 fatal (R406) -/
  sev : Nat
  /-- EVENT of the source page at the record, and its error log register -/
  regs : Word
  elog : Word
  /-- DEV_FABID.LOGID and the firmware version at the record -/
  logid : Nat
  fw : Nat
  /-- number of the first free value that stands for the block-specific bytes of REGS -/
  draw : Nat
  deriving DecidableEq, Repr

/-- A persisted telemetry record: its SEQ, reason and 4 KiB (R410, R411). -/
structure TlmRec where
  seq : Nat
  reason : Nat
  data : Bytes
  /-- the flash write succeeded, so that the CRC holds -/
  good : Bool
  deriving DecidableEq, Repr

/-- Reliability and telemetry state in the standby domain and in flash. -/
structure Ras where
  /-- logical to physical map entries that differ from the grid position (R110) -/
  phys : Tab Nat
  cores : Tab PhysCore
  /-- retirement list and EXHAUSTED marks in flash (R397, R398) -/
  retired : List Nat
  exhausted : BitVec 4
  pending : List FRec
  history : List FRec
  /-- the highest SEQ acknowledged (R409) -/
  ackSeq : Nat
  nextSeq : Nat
  tlm : List TlmRec
  tlmSeq : Nat
  lastGasp : Option Bytes
  deriving DecidableEq, Repr

/-- The metadata that names the firmware slots (R420). -/
structure FwMeta where
  active : Bool
  pending : Option Bool
  tries : Nat
  deriving DecidableEq, Repr

/-- SPDM connection state of one transport (R424, R425). -/
structure Spdm where
  version : Bool
  caps : Bool
  algs : Bool
  /-- the messages of negotiation, of certificate retrieval, and of measurement, as exchanged so far -/
  vca : Bytes
  cert : Bytes
  meas : Bytes
  deriving DecidableEq, Repr

/-- Firmware, fuses, identity and debug (R415 to R430). -/
structure Sec where
  /-- images in flash slot A and B -/
  slotA : Bytes
  slotB : Bytes
  fwMeta : FwMeta
  /-- bytes of the staging slot staged so far, of a total; verified -/
  staged : Nat
  stagedTotal : Nat
  verified : Bool
  running : Bool
  recovery : Bool
  trial : Bool
  /-- a mode-1 activation waits for PHASE 0 -/
  restartDue : Bool
  rollback : Nat
  vendorRevoked : BitVec 2
  custKey : Tab (Option (BitVec 256))
  custRevoked : BitVec 2
  nonce : Option (BitVec 256)
  everUnlocked : Bool
  spdm : Tab Spdm
  /-- SPDM requests from the DOE mailbox that wait for the wellhead's start (R431) -/
  doePending : List Bytes
  defects : List Nat
  assyRev : Byte
  deriving DecidableEq, Repr

/-! ### The whole machine -/

/-- The state of the module. -/
structure State where
  /-- commands waiting, first in first out -/
  pending : List Instr
  power : Power
  clock : Clock
  rst : Rst
  jrn : Jrn
  /-- register words by BAR0 offset of their 8-byte word (R53); an unlisted word reads as its Cold value -/
  regs : Tab Word
  /-- counter snapshots by BAR0 offset (R76); listed words only -/
  snaps : Tab Word
  /-- retained SRAM by window offset (R44) -/
  retained : Tab Byte
  hlk : Hlk
  kernels : Tab (Option Kernel)
  /-- generation counts of the 256 store slots, in the standby domain (R204) -/
  gens : Tab Nat
  loads : List PendLoad
  launches : Tab (Option Launch)
  cores : Tab Core
  /-- shoals by processor·32 + slot -/
  shoals : Tab (Option Shoal)
  /-- general registers by ((processor·32 + slot)·32 + lane)·64 + register -/
  gpr : Tab W32
  /-- predicates p7 to p0 by (processor·32 + slot)·32 + lane -/
  preds : Tab (BitVec 8)
  /-- sticky lane flags SW UF OV NF by (processor·32 + slot)·32 + lane -/
  lflags : Tab (BitVec 4)
  /-- core SRAM and unit local stores by processor·0x10_0000 + address -/
  sram : Tab Byte
  /-- uncorrectable SRAM words by processor·0x10_0000 + address (R389) -/
  sramUe : Tab Bool
  mem : Mem
  /-- stream queues -/
  queues : Tab (List Op)
  nextOp : Nat
  act : Tab (List ARec)
  shl : Tab (List ShlJob)
  fab : Fab
  red : Red
  scale : Scale
  ras : Ras
  sec : Sec
  /-- the model's own counter of free values drawn so far -/
  free : Nat
  deriving DecidableEq, Repr

/-- The module as the Cold reset that follows its main rails releases (R20, R37): powered, every clock locked, no block
READY, RCC_RST_CAUSE holding class 0b01 and source 0x01 (R36), every other register at its Cold column. Values that the
spec does not give are named in the assumption log (Assumption 25). -/
def State.reset : State :=
  { pending := []
    power :=
      { standby := true, pres := true, debounce := false, converters := true, rails := true, txOn := true, uvHeld := false
        ovHeld := false, thermHeld := false, drain := .none, dimmDouble := 0, dimmHalf := 0, opticOff := 0, dieHot := false
        inletHigh := false, capW := 6800, nLoop := 0, nWin := 0, nLim := 0, coldSrc := 0x01 }
    clock :=
      { rootOk := true, logicLock := true, ddrLock := true, colsarLock := true, hostLock := true, degraded := false
        timer := 0 }
    rst :=
      { reqs := [], held := false, ready0 := 0, ready1 := 0, ready2 := 0, coreDown := [], faultLatch := [], blk := []
        quiesced := [], phyLost := [], waiting := [], tested := 0, trained := 0, dimms := [] }
    jrn := { due := false, resolving := false, held := false, resend := false }
    regs := [(0x1110, 0x101)]
    snaps := []
    retained := []
    hlk :=
      { rings := [], hdm := [], exposed := 0, biasSettling := false, mbx := none, msix := [], nextUid := 0, lastPri := 63
        lastFill := 63, outbox := [] }
    kernels := []
    gens := []
    loads := []
    launches := []
    cores := []
    shoals := []
    gpr := []
    preds := []
    lflags := []
    sram := []
    sramUe := []
    mem :=
      { bytes := [], poison := [], slices := [], faults := [], nextFault := 0, inval := none, spareUsed := [], remaps := []
        ppr := [], cow := [] }
    queues := []
    nextOp := 0
    act := []
    shl := []
    fab := { links := [], txns := [], nextTx := 0, dup := [], parked := [], routes := [], rr := 0 }
    red :=
      { words := [], nf := false, reset := false, contribs := [], seen := [], sums := [], nodes := [], later := [], units := []
        staged := [], masks := [], pushed := [], own := none, kids := [], parts := [], verdict := none, twinDigest := none
        mismatches := 0, redo := false, gnsSmall := { m := 0, e := 0 }, gnsBig := { m := 0, e := 0 }, gnsUsed := false
        lw := [], lwClears := [], bsteerWait := none }
    scale := { cfg := none, base := none, recipes := [], loaded := false, reseed := false, used := [] }
    ras :=
      { phys := [], cores := [], retired := [], exhausted := 0, pending := [], history := [], ackSeq := 0, nextSeq := 1
        tlm := [], tlmSeq := 0, lastGasp := none }
    sec :=
      { slotA := [], slotB := [], fwMeta := { active := false, pending := none, tries := 0 }, staged := 0, stagedTotal := 0
        verified := false, running := true, recovery := false, trial := false, restartDue := false, rollback := 0
        vendorRevoked := 0, custKey := [], custRevoked := 0, nonce := none, everUnlocked := false, spdm := [], doePending := [], defects := []
        assyRev := 0 }
    free := 0 }

end Sys2Proof.Machine
end

