-- ==== Sys2Proof/Machine/RegMap.lean ====
section
/-! DEFINITION. The register map: every register of every page with its fields, access codes and reset columns, as the
register tables of the spec give them. -/

namespace Sys2Proof.Machine

/-- Access codes (R6). -/
inductive Acc where
  | ro | rw | wo | w1c | w1s | rwl | ros
  deriving DecidableEq, Repr

/-- A reset column: a number, keep, fuse or HW (the conventions of R5's section). -/
inductive Rv where
  | val (n : Nat) | keep | fuse | hw
  deriving DecidableEq, Repr

/-- A field of a register: its bits, access code and reset columns. -/
structure Fld where
  hi : Nat
  lo : Nat
  acc : Acc
  cold : Rv
  warm : Rv
  deriving DecidableEq, Repr

/-- What a register holds: fields, an event counter (R74), or two histogram bins (R75); with the CNT_SAT item of the
first register of the row, counted from CNT_SAT0 bit 0. -/
inductive RegKind where
  | plain | ctr (item : Nat) | hist (item : Nat)
  deriving DecidableEq, Repr

/-- A row of the map: `n` registers of one layout, `stride` bytes apart, on the pages of a block (`none`: every page). -/
structure RegRow where
  blk : Option Blk
  off : Nat
  n : Nat
  stride : Nat
  kind : RegKind
  flds : List Fld
  deriving DecidableEq, Repr

namespace Off

/-- DEV_PART (R2) -/
abbrev devPart : Nat := 0x100
/-- DEV_INPUT (R19) -/
abbrev devInput : Nat := 0x110
/-- DEV_THERM (R19) -/
abbrev devTherm : Nat := 0x118
/-- DEV_PWRCTL (R19) -/
abbrev devPwrctl : Nat := 0x120
/-- RCC_CLKSTAT (R31) -/
abbrev rccClkstat : Nat := 0x100
/-- RCC_RST_CTRL (R36) -/
abbrev rccRstCtrl : Nat := 0x108
/-- RCC_RST_CAUSE (R36) -/
abbrev rccRstCause : Nat := 0x110
/-- RCC_READY0 (R42) -/
abbrev rccReady0 : Nat := 0x118
/-- RCC_READY1 (R42) -/
abbrev rccReady1 : Nat := 0x120
/-- RCC_READY2 (R42) -/
abbrev rccReady2 : Nat := 0x128
/-- RCC_TIMER (R42) -/
abbrev rccTimer : Nat := 0x130
/-- RCC_BKP0 (R47) -/
abbrev rccBkp0 : Nat := 0x200
/-- RCC_BKP1 (R47) -/
abbrev rccBkp1 : Nat := 0x208
/-- RCC_BKP2 (R47) -/
abbrev rccBkp2 : Nat := 0x210
/-- RCC_BKP3 (R47) -/
abbrev rccBkp3 : Nat := 0x218
/-- RCC_BKP4 (R47) -/
abbrev rccBkp4 : Nat := 0x220
/-- RCC_BKP5 (R47) -/
abbrev rccBkp5 : Nat := 0x228
/-- RCC_BKP8 (R47) -/
abbrev rccBkp8 : Nat := 0x240
/-- RCC_JRN_CTRL (R51) -/
abbrev rccJrnCtrl : Nat := 0x138
/-- ID (R56) -/
abbrev id : Nat := 0x0
/-- VER (R56) -/
abbrev ver : Nat := 0x8
/-- CAPS (R56) -/
abbrev caps : Nat := 0x10
/-- CTRL (R56) -/
abbrev ctrl : Nat := 0x18
/-- STATUS (R56) -/
abbrev status : Nat := 0x20
/-- EVENT_EN (R56) -/
abbrev eventEn : Nat := 0x30
/-- EVENT_VEC (R56) -/
abbrev eventVec : Nat := 0x38
/-- TIMEOUT (R56) -/
abbrev timeout : Nat := 0x40
/-- BLK_RESET (R56) -/
abbrev blkReset : Nat := 0x48
/-- CNT_SNAP (R56) -/
abbrev cntSnap : Nat := 0x50
/-- CNT_SAT (R56) -/
abbrev cntSat : Nat := 0x58
/-- DEV_IF (R65) -/
abbrev devIf : Nat := 0x140
/-- DEV_LOCK (R77) -/
abbrev devLock : Nat := 0x108
/-- DEV_BADADDR (R78) -/
abbrev devBadaddr : Nat := 0x180
/-- HLK_LINK (R89) -/
abbrev hlkLink : Nat := 0x100
/-- HLK_HDMCFG (R89) -/
abbrev hlkHdmcfg : Nat := 0x108
/-- HLK_BIAS (R89) -/
abbrev hlkBias : Nat := 0x110
/-- HLK_RCFG (R91) -/
abbrev hlkRcfg : Nat := 0x400
/-- HLK_RBASE (R91) -/
abbrev hlkRbase : Nat := 0x408
/-- HLK_RCBASE (R91) -/
abbrev hlkRcbase : Nat := 0x410
/-- HLK_RSTAT (R91) -/
abbrev hlkRstat : Nat := 0x418
/-- MBX_CMD (R100) -/
abbrev mbxCmd : Nat := 0x100
/-- MBX_RESP (R100) -/
abbrev mbxResp : Nat := 0x108
/-- COR_GROUP (R131) -/
abbrev corGroup : Nat := 0x100
/-- COR_PART (R131) -/
abbrev corPart : Nat := 0x108
/-- COR_LAUNCH (R131) -/
abbrev corLaunch : Nat := 0x110
/-- COR_FLAGS (R131) -/
abbrev corFlags : Nat := 0x118
/-- COR_FLAGS_SET (R131) -/
abbrev corFlagsSet : Nat := 0x120
/-- COR_FLAGS_CLR (R131) -/
abbrev corFlagsClr : Nat := 0x128
/-- COR_BARSTAT (R131) -/
abbrev corBarstat : Nat := 0x130
/-- COR_READYHIST (R131) -/
abbrev corReadyhist : Nat := 0x240
/-- DEV_SRSEED (R154) -/
abbrev devSrseed : Nat := 0x188
/-- DEV_SCALECFG (R154) -/
abbrev devScalecfg : Nat := 0x190
/-- DEV_SCALEBASE (R154) -/
abbrev devScalebase : Nat := 0x198
/-- DEV_SCALESTAT (R154) -/
abbrev devScalestat : Nat := 0x1A0
/-- DEV_RECIPE0 (R154) -/
abbrev devRecipe0 : Nat := 0x1C0
/-- DEV_RECIPE1 (R154) -/
abbrev devRecipe1 : Nat := 0x1C8
/-- DEV_RECIPE2 (R154) -/
abbrev devRecipe2 : Nat := 0x1D0
/-- DEV_RECIPE3 (R154) -/
abbrev devRecipe3 : Nat := 0x1D8
/-- DEV_RECIPE4 (R154) -/
abbrev devRecipe4 : Nat := 0x1E0
/-- DEV_RECIPE5 (R154) -/
abbrev devRecipe5 : Nat := 0x1E8
/-- DEV_RECIPE6 (R154) -/
abbrev devRecipe6 : Nat := 0x1F0
/-- DEV_RECIPE7 (R154) -/
abbrev devRecipe7 : Nat := 0x1F8
/-- DEV_RECIPE8 (R154) -/
abbrev devRecipe8 : Nat := 0x200
/-- DEV_RECIPE9 (R154) -/
abbrev devRecipe9 : Nat := 0x208
/-- DEV_RECIPE10 (R154) -/
abbrev devRecipe10 : Nat := 0x210
/-- DEV_RECIPE11 (R154) -/
abbrev devRecipe11 : Nat := 0x218
/-- DEV_RECIPE12 (R154) -/
abbrev devRecipe12 : Nat := 0x220
/-- DEV_RECIPE13 (R154) -/
abbrev devRecipe13 : Nat := 0x228
/-- DEV_RECIPE14 (R154) -/
abbrev devRecipe14 : Nat := 0x230
/-- DEV_RECIPE15 (R154) -/
abbrev devRecipe15 : Nat := 0x238
/-- COR_MXCFG (R175) -/
abbrev corMxcfg : Nat := 0x140
/-- COR_MXDBG_CTL (R175) -/
abbrev corMxdbgCtl : Nat := 0x148
/-- COR_MXDBG_SEL (R175) -/
abbrev corMxdbgSel : Nat := 0x150
/-- COR_MXDBG_DATA (R175) -/
abbrev corMxdbgData : Nat := 0x158
/-- COR_VFLAGS (R195) -/
abbrev corVflags : Nat := 0x160
/-- SDM_CFG (R213) -/
abbrev sdmCfg : Nat := 0x100
/-- SDM_ERRLOG (R213) -/
abbrev sdmErrlog : Nat := 0x108
/-- SDM_SPARE (R213) -/
abbrev sdmSpare : Nat := 0x110
/-- MEM_INFO (R220) -/
abbrev memInfo : Nat := 0x100
/-- MEM_CFG (R220) -/
abbrev memCfg : Nat := 0x108
/-- MEM_ERRLOG (R220) -/
abbrev memErrlog : Nat := 0x110
/-- MEM_PPR (R220) -/
abbrev memPpr : Nat := 0x118
/-- XLT_MAPBASE (R232) -/
abbrev xltMapbase : Nat := 0x100
/-- XLT_MAPLEN (R232) -/
abbrev xltMaplen : Nat := 0x108
/-- XLT_CMD (R232) -/
abbrev xltCmd : Nat := 0x110
/-- XLT_CMDDATA (R232) -/
abbrev xltCmddata : Nat := 0x118
/-- XLT_HFAULT_VA (R232) -/
abbrev xltHfaultVa : Nat := 0x140
/-- XLT_HFAULT_INFO (R232) -/
abbrev xltHfaultInfo : Nat := 0x148
/-- XLT_DSPACE (R232) -/
abbrev xltDspace : Nat := 0x150
/-- XLT_SLICE (R232) -/
abbrev xltSlice : Nat := 0x160
/-- COR_SQCFG (R256) -/
abbrev corSqcfg : Nat := 0x170
/-- COR_SQSTAT (R256) -/
abbrev corSqstat : Nat := 0x180
/-- COR_SQCUR (R256) -/
abbrev corSqcur : Nat := 0x1C0
/-- STH_SLOTCFG (R257) -/
abbrev sthSlotcfg : Nat := 0x100
/-- STH_SLOTSTAT (R257) -/
abbrev sthSlotstat : Nat := 0x108
/-- STH_QCFG (R257) -/
abbrev sthQcfg : Nat := 0x110
/-- STH_COWPOOL (R257) -/
abbrev sthCowpool : Nat := 0x118
/-- STH_COWIDX (R257) -/
abbrev sthCowidx : Nat := 0x120
/-- STH_PBREPORT (R257) -/
abbrev sthPbreport : Nat := 0x130
/-- STH_PBCURSOR (R257) -/
abbrev sthPbcursor : Nat := 0x138
/-- STH_SLOTHIST (R257) -/
abbrev sthSlothist : Nat := 0x240
/-- ACT_LEDGER (R275) -/
abbrev actLedger : Nat := 0x100
/-- ACT_LEDGERLEN (R275) -/
abbrev actLedgerlen : Nat := 0x108
/-- ACT_POOLBASE (R275) -/
abbrev actPoolbase : Nat := 0x110
/-- ACT_POOLLEN (R275) -/
abbrev actPoollen : Nat := 0x118
/-- ACT_BUDGET (R275) -/
abbrev actBudget : Nat := 0x140
/-- ACT_GCCFG (R275) -/
abbrev actGccfg : Nat := 0x148
/-- ACT_GCRES (R275) -/
abbrev actGcres : Nat := 0x150
/-- ACT_PURGE (R275) -/
abbrev actPurge : Nat := 0x158
/-- ACT_CLASS (R275) -/
abbrev actClass : Nat := 0x400
/-- SHL_STAT (R297) -/
abbrev shlStat : Nat := 0x100
/-- SHL_CURJOB (R297) -/
abbrev shlCurjob : Nat := 0x108
/-- KVP_SEQBASE (R316) -/
abbrev kvpSeqbase : Nat := 0x100
/-- KVP_SEQLEN (R316) -/
abbrev kvpSeqlen : Nat := 0x108
/-- KVP_CMD (R316) -/
abbrev kvpCmd : Nat := 0x110
/-- KVP_CMDARG (R316) -/
abbrev kvpCmdarg : Nat := 0x118
/-- KVP_POOLBASE (R316) -/
abbrev kvpPoolbase : Nat := 0x140
/-- KVP_POOLCFG (R316) -/
abbrev kvpPoolcfg : Nat := 0x148
/-- KVP_POOLMAP (R316) -/
abbrev kvpPoolmap : Nat := 0x150
/-- KVP_POOLSTAT (R316) -/
abbrev kvpPoolstat : Nat := 0x158
/-- DEV_FABID (R340) -/
abbrev devFabid : Nat := 0x1A8
/-- DEV_RTBASE (R340) -/
abbrev devRtbase : Nat := 0x1B0
/-- DEV_FABCFG (R340) -/
abbrev devFabcfg : Nat := 0x1B8
/-- DEV_IMPWIN_BASE (R340) -/
abbrev devImpwinBase : Nat := 0x240
/-- DEV_IMPWIN_LIMIT (R340) -/
abbrev devImpwinLimit : Nat := 0x248
/-- FAB_CFG (R341) -/
abbrev fabCfg : Nat := 0x100
/-- FAB_LINK (R341) -/
abbrev fabLink : Nat := 0x108
/-- FAB_CREDCFG (R341) -/
abbrev fabCredcfg : Nat := 0x118
/-- FAB_CREDSTAT (R341) -/
abbrev fabCredstat : Nat := 0x120
/-- FAB_ERRLOG (R341) -/
abbrev fabErrlog : Nat := 0x128
/-- FAB_MCMD (R341) -/
abbrev fabMcmd : Nat := 0x130
/-- FAB_MRESP (R341) -/
abbrev fabMresp : Nat := 0x138
/-- RED_CFG (R370) -/
abbrev redCfg : Nat := 0x100
/-- RED_TT (R370) -/
abbrev redTt : Nat := 0x108
/-- RED_SH (R370) -/
abbrev redSh : Nat := 0x110
/-- RED_RG (R370) -/
abbrev redRg : Nat := 0x118
/-- RED_PG (R370) -/
abbrev redPg : Nat := 0x120
/-- RED_PBUF (R370) -/
abbrev redPbuf : Nat := 0x128
/-- RED_LEN (R370) -/
abbrev redLen : Nat := 0x130
/-- RED_STEPCTL (R370) -/
abbrev redStepctl : Nat := 0x138
/-- RED_STEPSTAT (R370) -/
abbrev redStepstat : Nat := 0x140
/-- RED_BANKSET (R370) -/
abbrev redBankset : Nat := 0x148
/-- RED_LSCALE (R370) -/
abbrev redLscale : Nat := 0x150
/-- RED_GNSCFG (R370) -/
abbrev redGnscfg : Nat := 0x158
/-- RED_GNS0 (R370) -/
abbrev redGns0 : Nat := 0x160
/-- RED_GNS1 (R370) -/
abbrev redGns1 : Nat := 0x168
/-- RED_LW (R370) -/
abbrev redLw : Nat := 0x170
/-- RED_LWCLR (R370) -/
abbrev redLwclr : Nat := 0x178
/-- RED_LWLAST (R370) -/
abbrev redLwlast : Nat := 0x180
/-- INL_STAT (R371) -/
abbrev inlStat : Nat := 0x100
/-- SHR_STAT (R371) -/
abbrev shrStat : Nat := 0x100
/-- INL_UPDWORD (R371) -/
abbrev inlUpdword : Nat := 0x108
/-- SHR_UPDWORD (R371) -/
abbrev shrUpdword : Nat := 0x108
/-- STH_STGCFG (R377) -/
abbrev sthStgcfg : Nat := 0x300
/-- STH_STGWORD (R377) -/
abbrev sthStgword : Nat := 0x308
/-- STH_STGPEER (R377) -/
abbrev sthStgpeer : Nat := 0x310
/-- STH_STGSTAT (R377) -/
abbrev sthStgstat : Nat := 0x318
/-- STH_STGHIST (R377) -/
abbrev sthStghist : Nat := 0x400
/-- HLK_FILLROLE (R379) -/
abbrev hlkFillrole : Nat := 0x198
/-- HLK_FILLCTL (R379) -/
abbrev hlkFillctl : Nat := 0x1A0
/-- HLK_WUCFG (R381) -/
abbrev hlkWucfg : Nat := 0x190
/-- RED_BSTEER (R382) -/
abbrev redBsteer : Nat := 0x188
/-- RED_BSTEER1 (R382) -/
abbrev redBsteer1 : Nat := 0x190
/-- RED_BSTEER2 (R382) -/
abbrev redBsteer2 : Nat := 0x198
/-- TLM_PWRLOOP (R384) -/
abbrev tlmPwrloop : Nat := 0xC00
/-- TLM_PWRSTAT (R384) -/
abbrev tlmPwrstat : Nat := 0xC08
/-- RAS_TESTCFG (R412) -/
abbrev rasTestcfg : Nat := 0x100
/-- RAS_TESTREQ (R412) -/
abbrev rasTestreq : Nat := 0x108
/-- RAS_CORESEL (R412) -/
abbrev rasCoresel : Nat := 0x110
/-- RAS_COREINFO (R412) -/
abbrev rasCoreinfo : Nat := 0x118
/-- RAS_SPARE (R412) -/
abbrev rasSpare : Nat := 0x120
/-- RAS_REPLAY (R412) -/
abbrev rasReplay : Nat := 0x140
/-- RAS_REPLAYCTL (R412) -/
abbrev rasReplayctl : Nat := 0x148
/-- RAS_VREC (R412) -/
abbrev rasVrec : Nat := 0x150
/-- RAS_VINJECT (R412) -/
abbrev rasVinject : Nat := 0x158
/-- RAS_LOADGATE (R412) -/
abbrev rasLoadgate : Nat := 0x160
/-- RAS_FLOG (R412) -/
abbrev rasFlog : Nat := 0x168
/-- TLM_PERSIST (R413) -/
abbrev tlmPersist : Nat := 0x100
/-- TLM_HIST (R413) -/
abbrev tlmHist : Nat := 0x400
/-- SEC_BOOT (R430) -/
abbrev secBoot : Nat := 0x100
/-- SEC_DEBUG (R430) -/
abbrev secDebug : Nat := 0x108
/-- SEC_SPDMRXLEN (R430) -/
abbrev secSpdmrxlen : Nat := 0x110
/-- MBX_PAYLOAD (R100) -/
abbrev mbxPayload : Nat := 0x800
/-- FAB_MDATA (R341) -/
abbrev fabMdata : Nat := 0x180
/-- SEC_SPDMRX (R430) -/
abbrev secSpdmrx : Nat := 0x800
/-- EVENT of every page (R56) -/
abbrev event : Nat := 0x28
end Off

/-- Registers of the DEV page. -/
def RegMap.rowsDev : List RegRow :=
  [ ⟨some .dev, 0x100, 1, 8, .plain,
    [⟨63, 32, .ro, (.val 157286454), (.val 157286454)⟩, ⟨31, 24, .ro, (.val 66), (.val 66)⟩, ⟨23, 16, .ro, (.val 1), (.val 1)⟩, ⟨15, 8, .ro, .fuse, .fuse⟩]⟩,
    ⟨some .dev, 0x110, 1, 8, .plain,
    [⟨63, 48, .ro, .hw, .hw⟩, ⟨47, 32, .ro, .hw, .hw⟩, ⟨31, 16, .ro, .hw, .hw⟩]⟩,
    ⟨some .dev, 0x118, 1, 8, .plain,
    [⟨63, 48, .ro, .hw, .hw⟩, ⟨47, 32, .ro, .hw, .hw⟩, ⟨31, 16, .ro, .hw, .hw⟩, ⟨15, 0, .ro, .hw, .hw⟩]⟩,
    ⟨some .dev, 0x120, 1, 8, .plain,
    [⟨15, 15, .w1c, .keep, .keep⟩, ⟨14, 14, .w1c, .keep, .keep⟩, ⟨13, 13, .w1c, .keep, .keep⟩, ⟨12, 12, .w1c, .keep, .keep⟩, ⟨11, 11, .w1c, .keep, .keep⟩, ⟨10, 10, .w1c, .keep, .keep⟩, ⟨9, 9, .w1c, .keep, .keep⟩, ⟨8, 8, .w1c, .keep, .keep⟩, ⟨3, 3, .ro, .hw, .hw⟩, ⟨2, 2, .ro, .hw, .hw⟩, ⟨1, 1, .ro, (.val 0), .keep⟩, ⟨0, 0, .w1s, (.val 0), .keep⟩]⟩,
    ⟨some .dev, 0x140, 8, 8, .plain,
    [⟨63, 56, .ro, .hw, .hw⟩, ⟨55, 48, .ro, .hw, .hw⟩, ⟨47, 40, .rwl, (.val 0), .keep⟩, ⟨39, 32, .rwl, (.val 0), .keep⟩, ⟨31, 24, .ro, (.val 0), .keep⟩, ⟨16, 16, .ro, (.val 0), .keep⟩]⟩,
    ⟨some .dev, 0x108, 1, 8, .plain,
    [⟨0, 0, .rwl, (.val 0), .keep⟩]⟩,
    ⟨some .dev, 0x28, 1, 8, .plain,
    [⟨6, 6, .w1c, (.val 0), (.val 0)⟩, ⟨5, 5, .w1c, (.val 0), (.val 0)⟩, ⟨4, 4, .w1c, (.val 0), (.val 0)⟩, ⟨3, 3, .w1c, (.val 0), (.val 0)⟩, ⟨2, 2, .w1c, (.val 0), (.val 0)⟩, ⟨1, 1, .w1c, (.val 0), (.val 0)⟩, ⟨0, 0, .w1c, (.val 0), (.val 0)⟩]⟩,
    ⟨some .dev, 0x180, 1, 8, .plain,
    [⟨63, 63, .ro, (.val 0), (.val 0)⟩, ⟨62, 62, .ro, (.val 0), (.val 0)⟩, ⟨61, 56, .ro, (.val 0), (.val 0)⟩, ⟨25, 0, .ro, (.val 0), (.val 0)⟩]⟩,
    ⟨some .dev, 0x188, 1, 8, .plain,
    [⟨63, 0, .rw, (.val 0), .keep⟩]⟩,
    ⟨some .dev, 0x190, 1, 8, .plain,
    [⟨63, 48, .rw, (.val 1), .keep⟩, ⟨42, 32, .rw, (.val 16), .keep⟩, ⟨25, 16, .rw, (.val 16), .keep⟩, ⟨6, 4, .rw, (.val 0), .keep⟩, ⟨1, 0, .rw, (.val 0), .keep⟩]⟩,
    ⟨some .dev, 0x198, 1, 8, .plain,
    [⟨56, 12, .rw, (.val 0), .keep⟩, ⟨0, 0, .rw, (.val 0), .keep⟩]⟩,
    ⟨some .dev, 0x1A0, 1, 8, .plain,
    [⟨41, 32, .ro, (.val 16), .keep⟩, ⟨4, 4, .ro, (.val 0), (.val 0)⟩, ⟨3, 3, .w1c, (.val 0), (.val 0)⟩, ⟨2, 2, .ro, (.val 0), .hw⟩, ⟨1, 1, .w1s, (.val 0), (.val 0)⟩, ⟨0, 0, .w1s, (.val 0), (.val 0)⟩]⟩ ] ++
  [ ⟨some .dev, 0x1C0, 1, 8, .plain,
    [⟨7, 0, .rw, (.val 6), .keep⟩]⟩,
    ⟨some .dev, 0x1C8, 1, 8, .plain,
    [⟨7, 0, .rw, (.val 0), .keep⟩]⟩,
    ⟨some .dev, 0x1D0, 1, 8, .plain,
    [⟨7, 0, .rw, (.val 14), .keep⟩]⟩,
    ⟨some .dev, 0x1D8, 1, 8, .plain,
    [⟨7, 0, .rw, (.val 14), .keep⟩]⟩,
    ⟨some .dev, 0x1E0, 1, 8, .plain,
    [⟨7, 0, .rw, (.val 0), .keep⟩]⟩,
    ⟨some .dev, 0x1E8, 1, 8, .plain,
    [⟨7, 0, .rw, (.val 8), .keep⟩]⟩,
    ⟨some .dev, 0x1F0, 1, 8, .plain,
    [⟨7, 0, .rw, (.val 0), .keep⟩]⟩,
    ⟨some .dev, 0x1F8, 1, 8, .plain,
    [⟨7, 0, .rw, (.val 0), .keep⟩]⟩,
    ⟨some .dev, 0x200, 1, 8, .plain,
    [⟨7, 0, .rw, (.val 4), .keep⟩]⟩,
    ⟨some .dev, 0x208, 1, 8, .plain,
    [⟨7, 0, .rw, (.val 0), .keep⟩]⟩,
    ⟨some .dev, 0x210, 1, 8, .plain,
    [⟨7, 0, .rw, (.val 0), .keep⟩]⟩,
    ⟨some .dev, 0x218, 1, 8, .plain,
    [⟨7, 0, .rw, (.val 0), .keep⟩]⟩ ] ++
  [ ⟨some .dev, 0x220, 1, 8, .plain,
    [⟨7, 0, .rw, (.val 0), .keep⟩]⟩,
    ⟨some .dev, 0x228, 1, 8, .plain,
    [⟨7, 0, .rw, (.val 0), .keep⟩]⟩,
    ⟨some .dev, 0x230, 1, 8, .plain,
    [⟨7, 0, .rw, (.val 0), .keep⟩]⟩,
    ⟨some .dev, 0x238, 1, 8, .plain,
    [⟨7, 0, .rw, (.val 0), .keep⟩]⟩,
    ⟨some .dev, 0x1A8, 1, 8, .plain,
    [⟨47, 16, .rw, (.val 0), .keep⟩, ⟨15, 0, .rw, (.val 65535), .keep⟩]⟩,
    ⟨some .dev, 0x1B0, 1, 8, .plain,
    [⟨56, 20, .rw, (.val 0), .keep⟩, ⟨1, 1, .w1s, (.val 0), (.val 0)⟩, ⟨0, 0, .rw, (.val 0), .keep⟩]⟩,
    ⟨some .dev, 0x1B8, 1, 8, .plain,
    [⟨63, 48, .rwl, (.val 65535), .keep⟩, ⟨0, 0, .rwl, (.val 0), .keep⟩]⟩,
    ⟨some .dev, 0x240, 8, 16, .plain,
    [⟨63, 63, .rw, (.val 0), .keep⟩, ⟨62, 62, .rw, (.val 0), .keep⟩, ⟨56, 12, .rw, (.val 0), .keep⟩]⟩,
    ⟨some .dev, 0x248, 8, 16, .plain,
    [⟨56, 12, .rw, (.val 0), .keep⟩]⟩ ]

/-- Registers of the RCC page. -/
def RegMap.rowsRcc : List RegRow :=
  [ ⟨some .rcc, 0x100, 1, 8, .plain,
    [⟨11, 8, .ro, (.val 0), (.val 0)⟩, ⟨5, 5, .ro, .keep, .keep⟩, ⟨4, 4, .ro, .hw, .hw⟩, ⟨3, 3, .ro, .hw, .hw⟩, ⟨2, 2, .ro, .hw, .hw⟩, ⟨1, 1, .ro, .hw, .hw⟩, ⟨0, 0, .ro, .hw, .hw⟩]⟩,
    ⟨some .rcc, 0x108, 1, 8, .plain,
    [⟨63, 48, .wo, (.val 0), (.val 0)⟩, ⟨7, 4, .w1s, (.val 0), (.val 0)⟩, ⟨1, 1, .w1s, (.val 0), (.val 0)⟩, ⟨0, 0, .w1s, (.val 0), (.val 0)⟩]⟩,
    ⟨some .rcc, 0x110, 1, 8, .plain,
    [⟨19, 16, .ro, .hw, .hw⟩, ⟨15, 8, .ro, .hw, .hw⟩, ⟨1, 0, .ro, .hw, .hw⟩]⟩,
    ⟨some .rcc, 0x118, 1, 8, .plain,
    [⟨59, 48, .ro, .hw, .hw⟩, ⟨47, 36, .ro, .hw, .hw⟩, ⟨35, 32, .ro, .hw, .hw⟩, ⟨31, 28, .ro, .hw, .hw⟩, ⟨27, 24, .ro, .hw, .hw⟩, ⟨23, 20, .ro, .hw, .hw⟩, ⟨19, 16, .ro, .hw, .hw⟩, ⟨9, 0, .ro, .hw, .hw⟩]⟩,
    ⟨some .rcc, 0x120, 1, 8, .plain,
    [⟨23, 0, .ro, .hw, .hw⟩]⟩,
    ⟨some .rcc, 0x128, 1, 8, .plain,
    [⟨47, 0, .ro, .hw, .hw⟩]⟩,
    ⟨some .rcc, 0x130, 1, 8, .plain,
    [⟨63, 0, .ro, .keep, .keep⟩]⟩,
    ⟨some .rcc, 0x200, 1, 8, .plain,
    [⟨63, 32, .ro, (.val 0), .hw⟩, ⟨0, 0, .ro, (.val 0), .keep⟩]⟩,
    ⟨some .rcc, 0x208, 1, 8, .plain,
    [⟨63, 0, .ro, (.val 0), .keep⟩]⟩,
    ⟨some .rcc, 0x210, 1, 8, .plain,
    [⟨63, 0, .ro, (.val 0), .keep⟩]⟩,
    ⟨some .rcc, 0x218, 1, 8, .plain,
    [⟨47, 32, .ro, (.val 0), .keep⟩, ⟨7, 4, .ro, (.val 0), .keep⟩, ⟨3, 0, .ro, (.val 0), .keep⟩]⟩,
    ⟨some .rcc, 0x220, 1, 8, .plain,
    [⟨63, 0, .ro, (.val 0), .keep⟩]⟩ ] ++
  [ ⟨some .rcc, 0x228, 3, 8, .plain,
    [⟨63, 0, .ro, (.val 0), .keep⟩]⟩,
    ⟨some .rcc, 0x240, 24, 8, .plain,
    [⟨63, 0, .rw, (.val 0), .keep⟩]⟩,
    ⟨some .rcc, 0x138, 1, 8, .plain,
    [⟨1, 1, .ro, (.val 0), .hw⟩, ⟨0, 0, .w1s, (.val 0), (.val 0)⟩]⟩,
    ⟨some .rcc, 0x28, 1, 8, .plain,
    [⟨5, 5, .w1c, (.val 1), (.val 1)⟩, ⟨4, 4, .w1c, (.val 0), (.val 0)⟩, ⟨3, 3, .w1c, (.val 0), .hw⟩, ⟨2, 2, .w1c, (.val 0), (.val 0)⟩, ⟨1, 1, .w1c, (.val 0), (.val 0)⟩, ⟨0, 0, .w1c, .hw, .hw⟩]⟩ ]

/-- Registers of the MBX page. -/
def RegMap.rowsMbx : List RegRow :=
  [ ⟨some .mbx, 0x100, 1, 8, .plain,
    [⟨63, 63, .w1s, (.val 0), (.val 0)⟩, ⟨47, 32, .rw, (.val 0), (.val 0)⟩, ⟨31, 16, .rw, (.val 0), (.val 0)⟩, ⟨15, 0, .rw, (.val 0), (.val 0)⟩]⟩,
    ⟨some .mbx, 0x108, 1, 8, .plain,
    [⟨63, 63, .ro, (.val 0), (.val 0)⟩, ⟨47, 32, .ro, (.val 0), (.val 0)⟩, ⟨31, 16, .ro, (.val 0), (.val 0)⟩, ⟨15, 0, .ro, (.val 0), (.val 0)⟩]⟩,
    ⟨some .mbx, 0x28, 1, 8, .plain,
    [⟨3, 3, .w1c, (.val 0), (.val 0)⟩, ⟨2, 2, .w1c, (.val 0), (.val 0)⟩, ⟨1, 1, .w1c, (.val 0), (.val 0)⟩, ⟨0, 0, .w1c, (.val 0), (.val 0)⟩]⟩,
    ⟨some .mbx, 0x800, 256, 8, .plain,
    [⟨63, 0, .rw, (.val 0), (.val 0)⟩]⟩ ]

/-- Registers of the HLK page. -/
def RegMap.rowsHlk : List RegRow :=
  [ ⟨some .hlk, 0x100, 1, 8, .plain,
    [⟨63, 56, .ro, (.val 0), .hw⟩, ⟨55, 48, .ro, (.val 0), .hw⟩, ⟨47, 40, .ro, (.val 0), .hw⟩, ⟨39, 24, .ro, .hw, .hw⟩, ⟨2, 0, .ro, (.val 0), .hw⟩]⟩,
    ⟨some .hlk, 0x108, 1, 8, .plain,
    [⟨10, 0, .rwl, (.val 0), .keep⟩]⟩,
    ⟨some .hlk, 0x110, 16, 8, .plain,
    [⟨63, 0, .rw, (.val 0), (.val 0)⟩]⟩,
    ⟨some .hlk, 0x28, 1, 8, .plain,
    [⟨8, 8, .w1c, (.val 0), (.val 0)⟩, ⟨7, 7, .w1c, (.val 0), (.val 0)⟩, ⟨6, 6, .w1c, (.val 0), (.val 0)⟩, ⟨5, 5, .w1c, (.val 0), (.val 0)⟩, ⟨4, 4, .w1c, (.val 0), (.val 0)⟩, ⟨3, 3, .w1c, (.val 0), (.val 0)⟩, ⟨2, 2, .w1c, (.val 0), (.val 0)⟩, ⟨1, 1, .w1c, (.val 0), (.val 0)⟩, ⟨0, 0, .w1c, (.val 0), (.val 0)⟩]⟩,
    ⟨some .hlk, 0x200, 4, 8, (.ctr 0),
    [⟨63, 0, .ro, (.val 0), .keep⟩]⟩,
    ⟨some .hlk, 0x400, 64, 32, .plain,
    [⟨63, 63, .w1s, (.val 0), (.val 0)⟩, ⟨47, 40, .rw, (.val 0), (.val 0)⟩, ⟨39, 32, .rw, (.val 0), (.val 0)⟩, ⟨20, 16, .rw, (.val 0), (.val 0)⟩, ⟨1, 1, .rw, (.val 0), (.val 0)⟩, ⟨0, 0, .rw, (.val 0), (.val 0)⟩]⟩,
    ⟨some .hlk, 0x408, 64, 32, .plain,
    [⟨63, 12, .rw, (.val 0), (.val 0)⟩]⟩,
    ⟨some .hlk, 0x410, 64, 32, .plain,
    [⟨63, 12, .rw, (.val 0), (.val 0)⟩]⟩,
    ⟨some .hlk, 0x418, 64, 32, .plain,
    [⟨63, 48, .ro, (.val 0), (.val 0)⟩, ⟨47, 32, .ro, (.val 0), (.val 0)⟩, ⟨31, 24, .ro, (.val 0), (.val 0)⟩, ⟨23, 16, .ro, (.val 0), (.val 0)⟩, ⟨7, 7, .ro, (.val 0), (.val 0)⟩, ⟨2, 0, .ro, (.val 0), (.val 0)⟩]⟩,
    ⟨some .hlk, 0x198, 1, 8, .plain,
    [⟨63, 0, .rw, (.val 0), .keep⟩]⟩,
    ⟨some .hlk, 0x1A0, 1, 8, .plain,
    [⟨1, 0, .rw, (.val 0), .keep⟩]⟩,
    ⟨some .hlk, 0x190, 1, 8, .plain,
    [⟨39, 32, .rw, (.val 4), .keep⟩, ⟨31, 0, .rw, (.val 1048576), .keep⟩]⟩ ]

/-- Registers of the MEM page. -/
def RegMap.rowsMem : List RegRow :=
  [ ⟨some .mem, 0x100, 1, 8, .plain,
    [⟨63, 56, .ro, .hw, .keep⟩, ⟨55, 48, .ro, .hw, .keep⟩, ⟨47, 32, .ro, .hw, .keep⟩, ⟨31, 16, .ro, .hw, .keep⟩, ⟨2, 0, .ro, .hw, .keep⟩]⟩,
    ⟨some .mem, 0x108, 1, 8, .plain,
    [⟨16, 16, .rw, (.val 1), .keep⟩, ⟨15, 8, .rw, (.val 4), .keep⟩, ⟨7, 0, .rw, (.val 24), .keep⟩]⟩,
    ⟨some .mem, 0x110, 1, 8, .plain,
    [⟨63, 63, .ro, (.val 0), .keep⟩, ⟨62, 62, .ro, (.val 0), .keep⟩, ⟨56, 56, .ro, (.val 0), .keep⟩, ⟨55, 52, .ro, (.val 0), .keep⟩, ⟨47, 0, .ro, (.val 0), .keep⟩]⟩,
    ⟨some .mem, 0x118, 1, 8, .plain,
    [⟨31, 24, .ro, .hw, .keep⟩, ⟨15, 8, .ro, .hw, .keep⟩, ⟨7, 0, .ro, .hw, .keep⟩]⟩,
    ⟨some .mem, 0x28, 1, 8, .plain,
    [⟨8, 8, .w1c, (.val 0), (.val 0)⟩, ⟨7, 7, .w1c, (.val 0), (.val 0)⟩, ⟨6, 6, .w1c, (.val 0), (.val 0)⟩, ⟨5, 5, .w1c, (.val 0), (.val 0)⟩, ⟨4, 4, .w1c, (.val 0), (.val 0)⟩, ⟨3, 3, .w1c, .hw, .keep⟩, ⟨2, 2, .w1c, .hw, .keep⟩, ⟨1, 1, .w1c, (.val 0), (.val 0)⟩, ⟨0, 0, .w1c, (.val 0), (.val 0)⟩]⟩,
    ⟨some .mem, 0x200, 6, 8, (.ctr 0),
    [⟨63, 0, .ro, (.val 0), .keep⟩]⟩ ]

/-- Registers of the SDM page. -/
def RegMap.rowsSdm : List RegRow :=
  [ ⟨some .sdm, 0x100, 1, 8, .plain,
    [⟨16, 16, .rw, (.val 0), .keep⟩, ⟨15, 8, .rw, (.val 12), .keep⟩, ⟨7, 0, .rw, (.val 2), .keep⟩]⟩,
    ⟨some .sdm, 0x108, 1, 8, .plain,
    [⟨63, 63, .ro, (.val 0), .keep⟩, ⟨62, 62, .ro, (.val 0), .keep⟩, ⟨61, 56, .ro, (.val 0), .keep⟩, ⟨33, 0, .ro, (.val 0), .keep⟩]⟩,
    ⟨some .sdm, 0x110, 1, 8, .plain,
    [⟨47, 32, .ro, .hw, .keep⟩, ⟨21, 16, .ro, .hw, .keep⟩, ⟨15, 0, .ro, .hw, .keep⟩]⟩,
    ⟨some .sdm, 0x28, 1, 8, .plain,
    [⟨6, 6, .w1c, (.val 0), (.val 0)⟩, ⟨5, 5, .w1c, (.val 0), (.val 0)⟩, ⟨4, 4, .w1c, (.val 0), (.val 0)⟩, ⟨3, 3, .w1c, (.val 0), (.val 0)⟩, ⟨2, 2, .w1c, (.val 0), (.val 0)⟩, ⟨1, 1, .w1c, (.val 0), (.val 0)⟩, ⟨0, 0, .w1c, (.val 0), (.val 0)⟩]⟩,
    ⟨some .sdm, 0x200, 6, 8, (.ctr 0),
    [⟨63, 0, .ro, (.val 0), .keep⟩]⟩ ]

/-- Registers of the XLT page. -/
def RegMap.rowsXlt : List RegRow :=
  [ ⟨some .xlt, 0x100, 1, 8, .plain,
    [⟨52, 12, .rw, (.val 0), .keep⟩]⟩,
    ⟨some .xlt, 0x108, 1, 8, .plain,
    [⟨20, 0, .rw, (.val 0), .keep⟩]⟩,
    ⟨some .xlt, 0x110, 1, 8, .plain,
    [⟨63, 63, .w1s, (.val 0), (.val 0)⟩, ⟨55, 52, .ro, (.val 0), (.val 0)⟩, ⟨51, 48, .rw, (.val 0), (.val 0)⟩, ⟨39, 32, .ro, (.val 0), (.val 0)⟩, ⟨7, 0, .rw, (.val 0), (.val 0)⟩]⟩,
    ⟨some .xlt, 0x118, 4, 8, .plain,
    [⟨63, 0, .rw, (.val 0), (.val 0)⟩]⟩,
    ⟨some .xlt, 0x140, 1, 8, .plain,
    [⟨63, 0, .ro, (.val 0), (.val 0)⟩]⟩,
    ⟨some .xlt, 0x148, 1, 8, .plain,
    [⟨63, 63, .ro, (.val 0), (.val 0)⟩, ⟨55, 48, .ro, (.val 0), (.val 0)⟩, ⟨47, 44, .ro, (.val 0), (.val 0)⟩, ⟨43, 40, .ro, (.val 0), (.val 0)⟩, ⟨39, 39, .ro, (.val 0), (.val 0)⟩, ⟨38, 32, .ro, (.val 0), (.val 0)⟩, ⟨31, 0, .ro, (.val 0), (.val 0)⟩]⟩,
    ⟨some .xlt, 0x150, 1, 8, .plain,
    [⟨39, 16, .ro, .hw, .keep⟩, ⟨15, 0, .ro, .hw, .keep⟩]⟩,
    ⟨some .xlt, 0x160, 4, 8, .plain,
    [⟨46, 32, .ro, (.val 0), (.val 0)⟩, ⟨14, 0, .ro, (.val 0), (.val 0)⟩]⟩,
    ⟨some .xlt, 0x28, 1, 8, .plain,
    [⟨4, 4, .w1c, (.val 0), (.val 0)⟩, ⟨3, 3, .w1c, (.val 0), (.val 0)⟩, ⟨2, 2, .w1c, (.val 0), (.val 0)⟩, ⟨1, 1, .w1c, (.val 0), (.val 0)⟩, ⟨0, 0, .w1c, (.val 0), (.val 0)⟩]⟩,
    ⟨some .xlt, 0x200, 6, 8, (.ctr 0),
    [⟨63, 0, .ro, (.val 0), .keep⟩]⟩ ]

/-- Registers of the STH page. -/
def RegMap.rowsSth : List RegRow :=
  [ ⟨some .sth, 0x100, 1, 8, .plain,
    [⟨18, 16, .rw, (.val 2), .keep⟩, ⟨11, 0, .rw, (.val 512), .keep⟩]⟩,
    ⟨some .sth, 0x108, 1, 8, .plain,
    [⟨12, 0, .ro, (.val 0), (.val 0)⟩]⟩,
    ⟨some .sth, 0x110, 1, 8, .plain,
    [⟨63, 56, .rw, (.val 8), .keep⟩, ⟨55, 48, .rw, (.val 8), .keep⟩, ⟨47, 40, .rw, (.val 8), .keep⟩, ⟨39, 32, .rw, (.val 8), .keep⟩, ⟨31, 24, .rw, (.val 8), .keep⟩, ⟨23, 16, .rw, (.val 8), .keep⟩, ⟨15, 8, .rw, (.val 8), .keep⟩, ⟨7, 0, .rw, (.val 8), .keep⟩]⟩,
    ⟨some .sth, 0x118, 1, 8, .plain,
    [⟨52, 12, .rw, (.val 0), .keep⟩, ⟨5, 0, .rw, (.val 0), .keep⟩]⟩,
    ⟨some .sth, 0x120, 1, 8, .plain,
    [⟨47, 32, .rw, (.val 0), .keep⟩, ⟨31, 16, .rw, (.val 0), .keep⟩, ⟨15, 0, .ro, (.val 0), .keep⟩]⟩,
    ⟨some .sth, 0x130, 1, 8, .plain,
    [⟨63, 63, .ro, (.val 0), (.val 0)⟩, ⟨62, 62, .ro, (.val 0), (.val 0)⟩, ⟨55, 48, .ro, (.val 0), (.val 0)⟩, ⟨47, 32, .ro, (.val 0), (.val 0)⟩, ⟨31, 16, .ro, (.val 0), (.val 0)⟩, ⟨2, 0, .ro, (.val 0), (.val 0)⟩]⟩,
    ⟨some .sth, 0x138, 1, 8, .plain,
    [⟨47, 0, .ro, (.val 0), (.val 0)⟩]⟩,
    ⟨some .sth, 0x28, 1, 8, .plain,
    [⟨8, 8, .w1c, (.val 0), (.val 0)⟩, ⟨7, 7, .w1c, (.val 0), (.val 0)⟩, ⟨6, 6, .w1c, (.val 0), (.val 0)⟩, ⟨5, 5, .w1c, (.val 0), (.val 0)⟩, ⟨4, 4, .w1c, (.val 0), (.val 0)⟩, ⟨3, 3, .w1c, (.val 0), (.val 0)⟩, ⟨2, 2, .w1c, (.val 0), (.val 0)⟩, ⟨1, 1, .w1c, (.val 0), (.val 0)⟩, ⟨0, 0, .w1c, (.val 0), (.val 0)⟩]⟩,
    ⟨some .sth, 0x200, 8, 8, (.ctr 0),
    [⟨63, 0, .ro, (.val 0), .keep⟩]⟩,
    ⟨some .sth, 0x240, 16, 8, (.hist 8),
    [⟨63, 32, .ro, (.val 0), .keep⟩, ⟨31, 0, .ro, (.val 0), .keep⟩]⟩,
    ⟨some .sth, 0x300, 4, 32, .plain,
    [⟨63, 63, .rw, (.val 0), .keep⟩, ⟨62, 62, .rw, (.val 0), .keep⟩, ⟨59, 56, .rw, (.val 2), .keep⟩, ⟨51, 48, .rw, (.val 2), .keep⟩, ⟨47, 32, .rw, (.val 65535), .keep⟩, ⟨15, 0, .rw, (.val 10000), .keep⟩]⟩,
    ⟨some .sth, 0x308, 4, 32, .plain,
    [⟨56, 3, .rw, (.val 0), .keep⟩]⟩ ] ++
  [ ⟨some .sth, 0x310, 4, 32, .plain,
    [⟨56, 3, .rw, (.val 0), .keep⟩]⟩,
    ⟨some .sth, 0x318, 4, 32, .plain,
    [⟨63, 32, .ro, (.val 0), (.val 0)⟩, ⟨31, 0, .ro, (.val 0), (.val 0)⟩]⟩,
    ⟨some .sth, 0x2C0, 8, 8, (.ctr 16),
    [⟨63, 0, .ro, (.val 0), .keep⟩]⟩,
    ⟨some .sth, 0x400, 64, 8, (.hist 24),
    [⟨63, 32, .ro, (.val 0), .keep⟩, ⟨31, 0, .ro, (.val 0), .keep⟩]⟩ ]

/-- Registers of the COR page. -/
def RegMap.rowsCor : List RegRow :=
  [ ⟨some .cor, 0x100, 1, 8, .plain,
    [⟨63, 0, .rw, (.val 0), .keep⟩]⟩,
    ⟨some .cor, 0x108, 1, 8, .plain,
    [⟨20, 16, .rw, (.val 0), .keep⟩, ⟨3, 0, .rw, (.val 0), .keep⟩]⟩,
    ⟨some .cor, 0x110, 1, 8, .plain,
    [⟨63, 63, .ro, (.val 0), (.val 0)⟩, ⟨61, 56, .ro, (.val 0), (.val 0)⟩, ⟨53, 48, .ro, (.val 0), (.val 0)⟩, ⟨42, 40, .ro, (.val 0), (.val 0)⟩, ⟨31, 31, .ro, (.val 0), (.val 0)⟩, ⟨29, 24, .ro, (.val 0), (.val 0)⟩, ⟨21, 16, .ro, (.val 0), (.val 0)⟩, ⟨10, 8, .ro, (.val 0), (.val 0)⟩]⟩,
    ⟨some .cor, 0x118, 1, 8, .plain,
    [⟨63, 0, .ro, (.val 0), (.val 0)⟩]⟩,
    ⟨some .cor, 0x120, 1, 8, .plain,
    [⟨63, 0, .wo, (.val 0), (.val 0)⟩]⟩,
    ⟨some .cor, 0x128, 1, 8, .plain,
    [⟨63, 0, .wo, (.val 0), (.val 0)⟩]⟩,
    ⟨some .cor, 0x130, 1, 8, .plain,
    [⟨63, 62, .ro, (.val 0), (.val 0)⟩, ⟨58, 56, .ro, (.val 0), (.val 0)⟩, ⟨55, 55, .ro, (.val 0), (.val 0)⟩, ⟨53, 48, .ro, (.val 0), (.val 0)⟩, ⟨45, 40, .ro, (.val 0), (.val 0)⟩, ⟨0, 0, .ro, (.val 0), (.val 0)⟩]⟩,
    ⟨some .cor, 0x28, 1, 8, .plain,
    [⟨5, 5, .w1c, (.val 0), (.val 0)⟩, ⟨4, 4, .w1c, (.val 0), (.val 0)⟩, ⟨3, 3, .w1c, (.val 0), (.val 0)⟩, ⟨2, 2, .w1c, (.val 0), (.val 0)⟩, ⟨1, 1, .w1c, (.val 0), (.val 0)⟩, ⟨0, 0, .w1c, (.val 0), (.val 0)⟩]⟩,
    ⟨some .cor, 0x200, 6, 8, (.ctr 0),
    [⟨63, 0, .ro, (.val 0), .keep⟩]⟩,
    ⟨some .cor, 0x240, 16, 8, (.hist 6),
    [⟨63, 32, .ro, (.val 0), .keep⟩, ⟨31, 0, .ro, (.val 0), .keep⟩]⟩,
    ⟨some .cor, 0x140, 1, 8, .plain,
    [⟨8, 8, .rw, (.val 0), .keep⟩, ⟨3, 0, .rw, (.val 8), .keep⟩]⟩,
    ⟨some .cor, 0x148, 1, 8, .plain,
    [⟨43, 32, .rw, (.val 0), (.val 0)⟩, ⟨2, 2, .w1s, (.val 0), (.val 0)⟩, ⟨1, 1, .ro, (.val 0), (.val 0)⟩, ⟨0, 0, .rw, (.val 0), (.val 0)⟩]⟩ ] ++
  [ ⟨some .cor, 0x150, 1, 8, .plain,
    [⟨11, 6, .rw, (.val 0), (.val 0)⟩, ⟨5, 0, .rw, (.val 0), (.val 0)⟩]⟩,
    ⟨some .cor, 0x158, 1, 8, .plain,
    [⟨63, 62, .ro, (.val 0), (.val 0)⟩, ⟨61, 61, .ro, (.val 0), (.val 0)⟩, ⟨60, 60, .ro, (.val 0), (.val 0)⟩, ⟨59, 48, .ro, (.val 0), (.val 0)⟩, ⟨39, 0, .ro, (.val 0), (.val 0)⟩]⟩,
    ⟨some .cor, 0x300, 6, 8, (.ctr 8),
    [⟨63, 0, .ro, (.val 0), .keep⟩]⟩,
    ⟨some .cor, 0x160, 1, 8, .plain,
    [⟨11, 8, .ro, (.val 0), (.val 0)⟩, ⟨7, 4, .ro, (.val 0), (.val 0)⟩, ⟨3, 0, .w1c, (.val 0), (.val 0)⟩]⟩,
    ⟨some .cor, 0x380, 3, 8, (.ctr 16),
    [⟨63, 0, .ro, (.val 0), .keep⟩]⟩,
    ⟨some .cor, 0x170, 1, 8, .plain,
    [⟨63, 56, .rw, (.val 8), .keep⟩, ⟨55, 48, .rw, (.val 8), .keep⟩, ⟨47, 40, .rw, (.val 8), .keep⟩, ⟨39, 32, .rw, (.val 8), .keep⟩, ⟨31, 24, .rw, (.val 8), .keep⟩, ⟨23, 16, .rw, (.val 8), .keep⟩, ⟨15, 8, .rw, (.val 8), .keep⟩, ⟨7, 0, .rw, (.val 8), .keep⟩]⟩,
    ⟨some .cor, 0x180, 8, 8, .plain,
    [⟨63, 63, .ro, (.val 0), (.val 0)⟩, ⟨62, 62, .ro, (.val 0), (.val 0)⟩, ⟨55, 48, .ro, (.val 0), (.val 0)⟩, ⟨47, 40, .ro, (.val 0), (.val 0)⟩, ⟨36, 32, .ro, (.val 0), (.val 0)⟩, ⟨31, 0, .ro, (.val 0), (.val 0)⟩]⟩,
    ⟨some .cor, 0x1C0, 8, 8, .plain,
    [⟨63, 63, .ro, (.val 0), (.val 0)⟩, ⟨47, 0, .ro, (.val 0), (.val 0)⟩]⟩,
    ⟨some .cor, 0x3C0, 4, 8, (.ctr 24),
    [⟨63, 0, .ro, (.val 0), .keep⟩]⟩ ]

/-- Registers of the ACT page. -/
def RegMap.rowsAct : List RegRow :=
  [ ⟨some .act, 0x100, 1, 8, .plain,
    [⟨56, 12, .rw, (.val 0), .keep⟩]⟩,
    ⟨some .act, 0x108, 1, 8, .plain,
    [⟨48, 32, .ro, (.val 0), .hw⟩, ⟨16, 0, .rw, (.val 0), .keep⟩]⟩,
    ⟨some .act, 0x110, 3, 16, .plain,
    [⟨56, 16, .rw, (.val 0), .keep⟩]⟩,
    ⟨some .act, 0x118, 3, 16, .plain,
    [⟨55, 32, .ro, (.val 0), .hw⟩, ⟨23, 0, .rw, (.val 0), .keep⟩]⟩,
    ⟨some .act, 0x140, 1, 8, .plain,
    [⟨55, 32, .ro, (.val 0), .hw⟩, ⟨23, 0, .rw, (.val 0), .keep⟩]⟩,
    ⟨some .act, 0x148, 1, 8, .plain,
    [⟨56, 13, .rw, (.val 0), .keep⟩, ⟨0, 0, .rw, (.val 0), .keep⟩]⟩,
    ⟨some .act, 0x150, 1, 8, .plain,
    [⟨55, 32, .ro, (.val 0), .hw⟩, ⟨23, 0, .rw, (.val 0), .keep⟩]⟩,
    ⟨some .act, 0x158, 1, 8, .plain,
    [⟨0, 0, .w1s, (.val 0), (.val 0)⟩]⟩,
    ⟨some .act, 0x400, 64, 8, .plain,
    [⟨63, 56, .rw, (.val 0), .keep⟩, ⟨50, 48, .rw, (.val 0), .keep⟩, ⟨47, 46, .rw, (.val 0), .keep⟩, ⟨45, 44, .rw, (.val 0), .keep⟩, ⟨43, 42, .rw, (.val 0), .keep⟩, ⟨2, 2, .rw, (.val 0), .keep⟩, ⟨1, 1, .rw, (.val 0), .keep⟩, ⟨0, 0, .rw, (.val 0), .keep⟩]⟩,
    ⟨some .act, 0x28, 1, 8, .plain,
    [⟨8, 8, .w1c, (.val 0), (.val 0)⟩, ⟨7, 7, .w1c, (.val 0), (.val 0)⟩, ⟨6, 6, .w1c, (.val 0), (.val 0)⟩, ⟨5, 5, .w1c, (.val 0), (.val 0)⟩, ⟨4, 4, .w1c, (.val 0), (.val 0)⟩, ⟨3, 3, .w1c, (.val 0), (.val 0)⟩, ⟨2, 2, .w1c, (.val 0), (.val 0)⟩, ⟨1, 1, .w1c, (.val 0), (.val 0)⟩]⟩,
    ⟨some .act, 0x200, 9, 8, (.ctr 0),
    [⟨63, 0, .ro, (.val 0), .keep⟩]⟩ ]

/-- Registers of the SHL page. -/
def RegMap.rowsShl : List RegRow :=
  [ ⟨some .shl, 0x100, 1, 8, .plain,
    [⟨63, 63, .ro, (.val 0), (.val 0)⟩, ⟨52, 48, .ro, (.val 0), (.val 0)⟩, ⟨47, 40, .ro, (.val 0), (.val 0)⟩, ⟨39, 32, .ro, (.val 0), (.val 0)⟩]⟩,
    ⟨some .shl, 0x108, 1, 8, .plain,
    [⟨56, 0, .ro, (.val 0), (.val 0)⟩]⟩,
    ⟨some .shl, 0x28, 1, 8, .plain,
    [⟨4, 4, .w1c, (.val 0), (.val 0)⟩, ⟨3, 3, .w1c, (.val 0), (.val 0)⟩, ⟨2, 2, .w1c, (.val 0), (.val 0)⟩, ⟨1, 1, .w1c, (.val 0), (.val 0)⟩, ⟨0, 0, .w1c, (.val 0), (.val 0)⟩]⟩,
    ⟨some .shl, 0x200, 8, 8, (.ctr 0),
    [⟨63, 0, .ro, (.val 0), .keep⟩]⟩ ]

/-- Registers of the KVP page. -/
def RegMap.rowsKvp : List RegRow :=
  [ ⟨some .kvp, 0x100, 1, 8, .plain,
    [⟨56, 12, .rw, (.val 0), .keep⟩]⟩,
    ⟨some .kvp, 0x108, 1, 8, .plain,
    [⟨16, 0, .rw, (.val 0), .keep⟩]⟩,
    ⟨some .kvp, 0x110, 1, 8, .plain,
    [⟨63, 63, .w1s, (.val 0), (.val 0)⟩, ⟨55, 48, .ro, (.val 0), (.val 0)⟩, ⟨47, 32, .rw, (.val 0), (.val 0)⟩, ⟨31, 16, .rw, (.val 0), (.val 0)⟩, ⟨7, 0, .rw, (.val 0), (.val 0)⟩]⟩,
    ⟨some .kvp, 0x118, 1, 8, .plain,
    [⟨63, 0, .rw, (.val 0), (.val 0)⟩]⟩,
    ⟨some .kvp, 0x140, 4, 32, .plain,
    [⟨56, 14, .rw, (.val 0), .keep⟩]⟩,
    ⟨some .kvp, 0x148, 4, 32, .plain,
    [⟨52, 32, .rw, (.val 0), .keep⟩, ⟨29, 24, .rw, (.val 0), .keep⟩, ⟨20, 0, .rw, (.val 0), .keep⟩]⟩,
    ⟨some .kvp, 0x150, 4, 32, .plain,
    [⟨56, 12, .rw, (.val 0), .keep⟩]⟩,
    ⟨some .kvp, 0x158, 4, 32, .plain,
    [⟨20, 0, .ro, (.val 0), .hw⟩]⟩,
    ⟨some .kvp, 0x28, 1, 8, .plain,
    [⟨7, 7, .w1c, (.val 0), (.val 0)⟩, ⟨6, 6, .w1c, (.val 0), (.val 0)⟩, ⟨5, 5, .w1c, (.val 0), (.val 0)⟩, ⟨4, 4, .w1c, (.val 0), (.val 0)⟩, ⟨3, 3, .w1c, (.val 0), (.val 0)⟩, ⟨2, 2, .w1c, (.val 0), (.val 0)⟩, ⟨1, 1, .w1c, (.val 0), (.val 0)⟩, ⟨0, 0, .w1c, (.val 0), (.val 0)⟩]⟩,
    ⟨some .kvp, 0x200, 8, 8, (.ctr 0),
    [⟨63, 0, .ro, (.val 0), .keep⟩]⟩ ]

/-- Registers of the FAB page. -/
def RegMap.rowsFab : List RegRow :=
  [ ⟨some .fab, 0x100, 1, 8, .plain,
    [⟨47, 40, .rw, (.val 16), .keep⟩, ⟨31, 24, .rw, (.val 0), .keep⟩, ⟨1, 1, .rw, (.val 0), .keep⟩, ⟨0, 0, .rw, (.val 1), .keep⟩]⟩,
    ⟨some .fab, 0x108, 2, 8, .plain,
    [⟨63, 48, .ro, (.val 65535), .hw⟩, ⟨47, 40, .ro, (.val 0), .hw⟩, ⟨39, 34, .ro, (.val 0), .hw⟩, ⟨33, 33, .ro, (.val 0), .hw⟩, ⟨31, 24, .ro, .hw, .hw⟩, ⟨23, 20, .ro, (.val 0), .hw⟩, ⟨19, 16, .ro, (.val 0), .hw⟩, ⟨2, 0, .ro, (.val 0), .hw⟩]⟩,
    ⟨some .fab, 0x118, 1, 8, .plain,
    [⟨15, 8, .rw, (.val 16), .keep⟩, ⟨7, 0, .rw, (.val 32), .keep⟩]⟩,
    ⟨some .fab, 0x120, 1, 8, .plain,
    [⟨44, 32, .ro, (.val 0), .hw⟩, ⟨15, 0, .ro, (.val 0), (.val 0)⟩]⟩,
    ⟨some .fab, 0x128, 1, 8, .plain,
    [⟨63, 56, .ro, (.val 0), .keep⟩, ⟨55, 48, .ro, (.val 0), .keep⟩, ⟨47, 32, .ro, (.val 0), .keep⟩, ⟨31, 0, .ro, (.val 0), .keep⟩]⟩,
    ⟨some .fab, 0x130, 1, 8, .plain,
    [⟨63, 63, .w1s, (.val 0), (.val 0)⟩, ⟨47, 32, .rw, (.val 0), (.val 0)⟩, ⟨15, 8, .rw, (.val 0), (.val 0)⟩, ⟨7, 0, .rw, (.val 0), (.val 0)⟩]⟩,
    ⟨some .fab, 0x138, 1, 8, .plain,
    [⟨63, 63, .ro, (.val 0), (.val 0)⟩, ⟨7, 0, .ro, (.val 0), (.val 0)⟩]⟩,
    ⟨some .fab, 0x28, 1, 8, .plain,
    [⟨14, 14, .w1c, (.val 0), (.val 0)⟩, ⟨13, 13, .w1c, (.val 0), (.val 0)⟩, ⟨12, 12, .w1c, (.val 0), (.val 0)⟩, ⟨11, 11, .w1c, (.val 0), (.val 0)⟩, ⟨10, 10, .w1c, (.val 0), (.val 0)⟩, ⟨9, 9, .w1c, (.val 0), (.val 0)⟩, ⟨8, 8, .w1c, (.val 0), (.val 0)⟩, ⟨7, 7, .w1c, (.val 0), (.val 0)⟩, ⟨6, 6, .w1c, (.val 0), (.val 0)⟩, ⟨5, 5, .w1c, (.val 0), (.val 0)⟩, ⟨4, 4, .w1c, (.val 0), (.val 0)⟩, ⟨3, 3, .w1c, (.val 0), (.val 0)⟩, ⟨2, 2, .w1c, (.val 0), (.val 0)⟩, ⟨1, 1, .w1c, (.val 0), (.val 0)⟩, ⟨0, 0, .w1c, (.val 0), (.val 0)⟩]⟩,
    ⟨some .fab, 0x200, 10, 8, (.ctr 0),
    [⟨63, 0, .ro, (.val 0), .keep⟩]⟩,
    ⟨some .fab, 0x180, 8, 8, .plain,
    [⟨63, 0, .rw, (.val 0), (.val 0)⟩]⟩ ]

/-- Registers of the INL page. -/
def RegMap.rowsInl : List RegRow :=
  [ ⟨some .inl, 0x100, 1, 8, .plain,
    [⟨63, 63, .ro, (.val 0), (.val 0)⟩, ⟨47, 32, .ro, (.val 0), (.val 0)⟩, ⟨7, 0, .ro, (.val 0), (.val 0)⟩]⟩,
    ⟨some .inl, 0x108, 1, 8, .plain,
    [⟨7, 4, .ro, (.val 0), (.val 0)⟩, ⟨3, 0, .ro, (.val 0), (.val 0)⟩]⟩,
    ⟨some .inl, 0x28, 1, 8, .plain,
    [⟨3, 3, .w1c, (.val 0), (.val 0)⟩, ⟨2, 2, .w1c, (.val 0), (.val 0)⟩, ⟨1, 1, .w1c, (.val 0), (.val 0)⟩, ⟨0, 0, .w1c, (.val 0), (.val 0)⟩]⟩,
    ⟨some .inl, 0x200, 6, 8, (.ctr 0),
    [⟨63, 0, .ro, (.val 0), .keep⟩]⟩ ]

/-- Registers of the SHR page. -/
def RegMap.rowsShr : List RegRow :=
  [ ⟨some .shr, 0x100, 1, 8, .plain,
    [⟨63, 63, .ro, (.val 0), (.val 0)⟩, ⟨47, 32, .ro, (.val 0), (.val 0)⟩, ⟨7, 0, .ro, (.val 0), (.val 0)⟩]⟩,
    ⟨some .shr, 0x108, 1, 8, .plain,
    [⟨7, 4, .ro, (.val 0), (.val 0)⟩, ⟨3, 0, .ro, (.val 0), (.val 0)⟩]⟩,
    ⟨some .shr, 0x28, 1, 8, .plain,
    [⟨3, 3, .w1c, (.val 0), (.val 0)⟩, ⟨2, 2, .w1c, (.val 0), (.val 0)⟩, ⟨1, 1, .w1c, (.val 0), (.val 0)⟩, ⟨0, 0, .w1c, (.val 0), (.val 0)⟩]⟩,
    ⟨some .shr, 0x200, 6, 8, (.ctr 0),
    [⟨63, 0, .ro, (.val 0), .keep⟩]⟩ ]

/-- Registers of the RED page. -/
def RegMap.rowsRed : List RegRow :=
  [ ⟨some .red, 0x100, 1, 8, .plain,
    [⟨63, 48, .rw, (.val 65535), .keep⟩, ⟨47, 40, .rw, (.val 0), .keep⟩, ⟨39, 36, .rw, (.val 4), .keep⟩, ⟨35, 32, .rw, (.val 2), .keep⟩]⟩,
    ⟨some .red, 0x108, 1, 8, .plain,
    [⟨56, 12, .rw, (.val 0), .keep⟩]⟩,
    ⟨some .red, 0x110, 1, 8, .plain,
    [⟨56, 12, .rw, (.val 0), .keep⟩]⟩,
    ⟨some .red, 0x118, 1, 8, .plain,
    [⟨56, 12, .rw, (.val 0), .keep⟩]⟩,
    ⟨some .red, 0x120, 1, 8, .plain,
    [⟨56, 12, .rw, (.val 0), .keep⟩]⟩,
    ⟨some .red, 0x128, 1, 8, .plain,
    [⟨56, 12, .rw, (.val 0), .keep⟩]⟩,
    ⟨some .red, 0x130, 1, 8, .plain,
    [⟨63, 48, .rw, (.val 0), .keep⟩, ⟨29, 16, .rw, (.val 0), .keep⟩, ⟨14, 0, .rw, (.val 0), .keep⟩]⟩,
    ⟨some .red, 0x138, 1, 8, .plain,
    [⟨63, 63, .w1s, (.val 0), (.val 0)⟩, ⟨62, 62, .w1s, (.val 0), (.val 0)⟩, ⟨61, 0, .rw, (.val 0), (.val 0)⟩]⟩,
    ⟨some .red, 0x140, 1, 8, .plain,
    [⟨63, 60, .ro, (.val 0), (.val 0)⟩, ⟨59, 56, .ro, (.val 0), (.val 0)⟩, ⟨53, 53, .ros, (.val 0), .keep⟩, ⟨52, 52, .ros, (.val 0), .keep⟩, ⟨51, 48, .ro, (.val 0), (.val 0)⟩, ⟨47, 0, .ro, (.val 0), (.val 0)⟩]⟩,
    ⟨some .red, 0x148, 1, 8, .plain,
    [⟨0, 0, .wo, (.val 0), (.val 0)⟩]⟩,
    ⟨some .red, 0x150, 1, 8, .plain,
    [⟨63, 63, .rw, (.val 0), .keep⟩, ⟨55, 48, .rw, (.val 16), .keep⟩, ⟨47, 40, .rw, (.val 0), .keep⟩, ⟨39, 32, .rw, (.val 24), .keep⟩, ⟨31, 16, .rw, (.val 2000), .keep⟩, ⟨15, 0, .ro, (.val 0), .keep⟩]⟩,
    ⟨some .red, 0x158, 1, 8, .plain,
    [⟨63, 32, .rw, (.val 0), .keep⟩, ⟨4, 0, .rw, (.val 4), .keep⟩]⟩ ] ++
  [ ⟨some .red, 0x160, 1, 8, .plain,
    [⟨63, 32, .ro, (.val 0), .keep⟩, ⟨31, 0, .ro, (.val 0), .keep⟩]⟩,
    ⟨some .red, 0x168, 1, 8, .plain,
    [⟨63, 32, .ro, (.val 0), .keep⟩, ⟨31, 0, .ro, (.val 0), .keep⟩]⟩,
    ⟨some .red, 0x170, 1, 8, .plain,
    [⟨56, 16, .rw, (.val 0), .keep⟩, ⟨15, 0, .rw, (.val 64), .keep⟩]⟩,
    ⟨some .red, 0x178, 1, 8, .plain,
    [⟨15, 15, .wo, (.val 0), (.val 0)⟩, ⟨11, 0, .wo, (.val 0), (.val 0)⟩]⟩,
    ⟨some .red, 0x180, 1, 8, .plain,
    [⟨11, 0, .ro, (.val 0), .keep⟩]⟩,
    ⟨some .red, 0x28, 1, 8, .plain,
    [⟨11, 11, .w1c, (.val 0), (.val 0)⟩, ⟨10, 10, .w1c, (.val 0), (.val 0)⟩, ⟨9, 9, .w1c, (.val 0), (.val 0)⟩, ⟨8, 8, .w1c, (.val 0), (.val 0)⟩, ⟨7, 7, .w1c, (.val 0), (.val 0)⟩, ⟨6, 6, .w1c, (.val 0), (.val 0)⟩, ⟨5, 5, .w1c, (.val 0), (.val 0)⟩, ⟨4, 4, .w1c, (.val 0), (.val 0)⟩, ⟨3, 3, .w1c, (.val 0), (.val 0)⟩, ⟨2, 2, .w1c, (.val 0), (.val 0)⟩, ⟨1, 1, .w1c, (.val 0), (.val 0)⟩, ⟨0, 0, .w1c, (.val 0), (.val 0)⟩]⟩,
    ⟨some .red, 0x200, 11, 8, (.ctr 0),
    [⟨63, 0, .ro, (.val 0), .keep⟩]⟩,
    ⟨some .red, 0x188, 1, 8, .plain,
    [⟨63, 63, .rw, (.val 0), .keep⟩, ⟨62, 62, .rw, (.val 0), .keep⟩, ⟨55, 48, .rw, (.val 1), .keep⟩, ⟨47, 40, .rw, (.val 255), .keep⟩, ⟨39, 32, .rw, (.val 16), .keep⟩, ⟨31, 16, .rw, (.val 100), .keep⟩, ⟨15, 0, .rw, (.val 1), .keep⟩]⟩,
    ⟨some .red, 0x190, 1, 8, .plain,
    [⟨63, 56, .rw, (.val 1), .keep⟩, ⟨47, 32, .ro, (.val 0), .keep⟩, ⟨31, 16, .rw, (.val 0), .keep⟩]⟩,
    ⟨some .red, 0x198, 1, 8, .plain,
    [⟨32, 32, .wo, (.val 0), (.val 0)⟩, ⟨31, 0, .wo, (.val 0), (.val 0)⟩]⟩ ]

/-- Registers of the RAS page. -/
def RegMap.rowsRas : List RegRow :=
  [ ⟨some .ras, 0x100, 1, 8, .plain,
    [⟨63, 63, .rw, (.val 1), .keep⟩, ⟨55, 48, .rw, (.val 24), .keep⟩, ⟨47, 40, .rw, (.val 1), .keep⟩, ⟨39, 32, .rw, (.val 7), .keep⟩, ⟨31, 16, .rw, (.val 10), .keep⟩, ⟨7, 4, .rw, (.val 2), .keep⟩, ⟨3, 0, .rw, (.val 2), .keep⟩]⟩,
    ⟨some .ras, 0x108, 1, 8, .plain,
    [⟨63, 63, .w1s, (.val 0), (.val 0)⟩, ⟨11, 0, .rw, (.val 0), (.val 0)⟩]⟩,
    ⟨some .ras, 0x110, 1, 8, .plain,
    [⟨11, 0, .rw, (.val 0), (.val 0)⟩]⟩,
    ⟨some .ras, 0x118, 1, 8, .plain,
    [⟨63, 62, .ro, .hw, .hw⟩, ⟨61, 61, .ro, .hw, .hw⟩, ⟨47, 32, .ro, .hw, .hw⟩, ⟨31, 16, .ro, .hw, .hw⟩, ⟨15, 0, .ro, .hw, .hw⟩]⟩,
    ⟨some .ras, 0x120, 4, 8, .plain,
    [⟨23, 16, .ro, .hw, .hw⟩, ⟨15, 8, .ro, (.val 0), (.val 0)⟩, ⟨7, 0, .ro, .hw, .hw⟩]⟩,
    ⟨some .ras, 0x140, 1, 8, .plain,
    [⟨63, 63, .ro, (.val 0), (.val 0)⟩, ⟨59, 56, .ro, (.val 0), (.val 0)⟩, ⟨47, 0, .ro, (.val 0), (.val 0)⟩]⟩,
    ⟨some .ras, 0x148, 1, 8, .plain,
    [⟨63, 63, .w1s, (.val 0), (.val 0)⟩, ⟨59, 56, .rw, (.val 0), (.val 0)⟩, ⟨47, 0, .rw, (.val 0), (.val 0)⟩]⟩,
    ⟨some .ras, 0x150, 1, 8, .plain,
    [⟨56, 17, .rw, (.val 0), .keep⟩]⟩,
    ⟨some .ras, 0x158, 1, 8, .plain,
    [⟨0, 0, .w1s, (.val 0), (.val 0)⟩]⟩,
    ⟨some .ras, 0x160, 1, 8, .plain,
    [⟨0, 0, .rw, (.val 0), (.val 0)⟩]⟩,
    ⟨some .ras, 0x168, 1, 8, .plain,
    [⟨63, 56, .ro, (.val 32), .keep⟩, ⟨47, 32, .ro, .hw, .hw⟩]⟩,
    ⟨some .ras, 0x28, 1, 8, .plain,
    [⟨9, 9, .w1c, (.val 0), (.val 0)⟩, ⟨8, 8, .w1c, (.val 0), (.val 0)⟩, ⟨7, 7, .w1c, (.val 0), (.val 0)⟩, ⟨6, 6, .w1c, (.val 0), (.val 0)⟩, ⟨5, 5, .w1c, (.val 0), (.val 0)⟩, ⟨4, 4, .w1c, (.val 0), (.val 0)⟩, ⟨3, 3, .w1c, (.val 0), (.val 0)⟩, ⟨2, 2, .w1c, (.val 0), (.val 0)⟩, ⟨1, 1, .w1c, (.val 0), (.val 0)⟩, ⟨0, 0, .w1c, (.val 0), (.val 0)⟩]⟩ ] ++
  [ ⟨some .ras, 0x200, 12, 8, (.ctr 0),
    [⟨63, 0, .ro, (.val 0), .keep⟩]⟩ ]

/-- Registers of the TLM page. -/
def RegMap.rowsTlm : List RegRow :=
  [ ⟨some .tlm, 0xC00, 1, 8, .plain,
    [⟨63, 63, .rw, (.val 0), .keep⟩, ⟨59, 56, .rw, (.val 8), .keep⟩, ⟨55, 52, .rw, (.val 0), .keep⟩, ⟨31, 16, .rw, (.val 6800), .keep⟩, ⟨15, 0, .rw, (.val 100), .keep⟩]⟩,
    ⟨some .tlm, 0xC08, 1, 8, .plain,
    [⟨63, 60, .ro, (.val 0), .hw⟩, ⟨59, 56, .ro, (.val 0), .hw⟩, ⟨50, 48, .ro, (.val 0), .hw⟩, ⟨31, 16, .ro, (.val 6800), .hw⟩, ⟨15, 0, .ro, (.val 0), .hw⟩]⟩,
    ⟨some .tlm, 0xC40, 6, 8, (.ctr 96),
    [⟨63, 0, .ro, (.val 0), .keep⟩]⟩,
    ⟨some .tlm, 0x100, 1, 8, .plain,
    [⟨63, 63, .w1s, (.val 0), (.val 0)⟩, ⟨31, 0, .ro, .keep, .keep⟩]⟩,
    ⟨some .tlm, 0x28, 1, 8, .plain,
    [⟨20, 20, .w1c, (.val 0), (.val 0)⟩, ⟨19, 19, .w1c, (.val 0), (.val 0)⟩, ⟨18, 18, .w1c, (.val 0), (.val 0)⟩, ⟨17, 17, .w1c, (.val 0), (.val 0)⟩, ⟨16, 16, .w1c, (.val 0), (.val 0)⟩, ⟨3, 3, .w1c, .keep, .keep⟩, ⟨2, 2, .w1c, (.val 0), (.val 0)⟩, ⟨1, 1, .w1c, (.val 0), (.val 0)⟩, ⟨0, 0, .w1c, (.val 0), (.val 0)⟩]⟩,
    ⟨some .tlm, 0x200, 25, 8, (.ctr 0),
    [⟨63, 0, .ro, .keep, .keep⟩]⟩,
    ⟨some .tlm, 0x400, 64, 8, (.hist 32),
    [⟨63, 32, .ro, .keep, .keep⟩, ⟨31, 0, .ro, .keep, .keep⟩]⟩ ]

/-- Registers of the SEC page. -/
def RegMap.rowsSec : List RegRow :=
  [ ⟨some .sec, 0x100, 1, 8, .plain,
    [⟨63, 32, .ro, .keep, .keep⟩, ⟨31, 24, .ro, .keep, .keep⟩, ⟨23, 16, .ro, .fuse, .fuse⟩, ⟨11, 10, .ro, .fuse, .fuse⟩, ⟨9, 8, .ro, .fuse, .fuse⟩, ⟨7, 6, .ro, .fuse, .fuse⟩, ⟨3, 3, .ro, .keep, .keep⟩, ⟨2, 2, .ro, .keep, .keep⟩, ⟨1, 1, .ro, .keep, .keep⟩, ⟨0, 0, .ro, .keep, .keep⟩]⟩,
    ⟨some .sec, 0x108, 1, 8, .plain,
    [⟨15, 8, .ro, (.val 0), .keep⟩, ⟨1, 1, .ro, (.val 0), .keep⟩, ⟨0, 0, .ro, (.val 0), .keep⟩]⟩,
    ⟨some .sec, 0x110, 1, 8, .plain,
    [⟨63, 63, .w1c, (.val 0), (.val 0)⟩, ⟨47, 32, .ro, (.val 0), (.val 0)⟩, ⟨11, 0, .ro, (.val 0), (.val 0)⟩]⟩,
    ⟨some .sec, 0x28, 1, 8, .plain,
    [⟨5, 5, .w1c, (.val 0), (.val 0)⟩, ⟨4, 4, .w1c, (.val 0), (.val 0)⟩, ⟨3, 3, .w1c, .keep, .keep⟩, ⟨2, 2, .w1c, (.val 0), (.val 0)⟩, ⟨1, 1, .w1c, (.val 0), (.val 0)⟩, ⟨0, 0, .w1c, (.val 0), (.val 0)⟩]⟩,
    ⟨some .sec, 0x200, 5, 8, (.ctr 0),
    [⟨63, 0, .ro, (.val 0), .keep⟩]⟩,
    ⟨some .sec, 0x800, 256, 8, .plain,
    [⟨63, 0, .ro, (.val 0), (.val 0)⟩]⟩ ]

/-- Registers of every page: the common header (R56). -/
def RegMap.rowsHeader : List RegRow :=
  [ ⟨none, 0x0, 1, 8, .plain,
    [⟨63, 56, .ro, .hw, .hw⟩, ⟨47, 32, .ro, .hw, .hw⟩, ⟨31, 16, .ro, .hw, .hw⟩, ⟨15, 12, .ro, .hw, .hw⟩]⟩,
    ⟨none, 0x8, 1, 8, .plain,
    [⟨31, 16, .ro, (.val 1), (.val 1)⟩, ⟨15, 0, .ro, (.val 0), (.val 0)⟩]⟩,
    ⟨none, 0x10, 1, 8, .plain,
    [⟨63, 63, .ro, .hw, .hw⟩, ⟨62, 62, .ro, .hw, .hw⟩, ⟨61, 61, .ro, .hw, .hw⟩, ⟨60, 60, .ro, .hw, .hw⟩, ⟨55, 0, .ro, .hw, .hw⟩]⟩,
    ⟨none, 0x18, 1, 8, .plain,
    [⟨63, 16, .rw, (.val 0), (.val 0)⟩, ⟨0, 0, .rw, (.val 0), (.val 0)⟩]⟩,
    ⟨none, 0x20, 1, 8, .plain,
    [⟨63, 8, .ro, .hw, .hw⟩, ⟨3, 3, .ro, (.val 0), (.val 0)⟩, ⟨2, 2, .ro, (.val 0), (.val 0)⟩, ⟨1, 1, .ro, (.val 0), (.val 0)⟩, ⟨0, 0, .ro, .hw, .hw⟩]⟩,
    ⟨none, 0x30, 1, 8, .plain,
    [⟨63, 0, .rw, (.val 0), .keep⟩]⟩,
    ⟨none, 0x38, 1, 8, .plain,
    [⟨7, 0, .rw, (.val 0), .keep⟩]⟩,
    ⟨none, 0x40, 1, 8, .plain,
    [⟨31, 0, .rw, (.val 0), .keep⟩]⟩,
    ⟨none, 0x48, 1, 8, .plain,
    [⟨0, 0, .w1s, (.val 0), (.val 0)⟩]⟩,
    ⟨none, 0x50, 1, 8, .plain,
    [⟨47, 32, .ro, (.val 0), (.val 0)⟩, ⟨1, 1, .rw, (.val 0), (.val 0)⟩, ⟨0, 0, .w1s, (.val 0), (.val 0)⟩]⟩,
    ⟨none, 0x58, 2, 8, .plain,
    [⟨63, 0, .w1c, (.val 0), (.val 0)⟩]⟩ ]

/-- Registers of a block's page, its own first and then the common header. -/
def RegMap.rows : Blk → List RegRow
  | .dev => RegMap.rowsDev ++ RegMap.rowsHeader
  | .rcc => RegMap.rowsRcc ++ RegMap.rowsHeader
  | .mbx => RegMap.rowsMbx ++ RegMap.rowsHeader
  | .hlk => RegMap.rowsHlk ++ RegMap.rowsHeader
  | .mem => RegMap.rowsMem ++ RegMap.rowsHeader
  | .sdm => RegMap.rowsSdm ++ RegMap.rowsHeader
  | .xlt => RegMap.rowsXlt ++ RegMap.rowsHeader
  | .sth => RegMap.rowsSth ++ RegMap.rowsHeader
  | .cor => RegMap.rowsCor ++ RegMap.rowsHeader
  | .act => RegMap.rowsAct ++ RegMap.rowsHeader
  | .shl => RegMap.rowsShl ++ RegMap.rowsHeader
  | .kvp => RegMap.rowsKvp ++ RegMap.rowsHeader
  | .fab => RegMap.rowsFab ++ RegMap.rowsHeader
  | .inl => RegMap.rowsInl ++ RegMap.rowsHeader
  | .shr => RegMap.rowsShr ++ RegMap.rowsHeader
  | .red => RegMap.rowsRed ++ RegMap.rowsHeader
  | .ras => RegMap.rowsRas ++ RegMap.rowsHeader
  | .tlm => RegMap.rowsTlm ++ RegMap.rowsHeader
  | .sec => RegMap.rowsSec ++ RegMap.rowsHeader

/-- EVENT bits that a block's chapter marks as a fault (R58). -/
def RegMap.faultBits : Blk → Nat
  | .dev => 0x0
  | .rcc => 0x0
  | .mbx => 0x0
  | .hlk => 0x114
  | .mem => 0x106
  | .sdm => 0x2
  | .xlt => 0x2
  | .sth => 0x3
  | .cor => 0x3
  | .act => 0x6
  | .shl => 0x7
  | .kvp => 0x14
  | .fab => 0x40B0
  | .inl => 0x7
  | .shr => 0x7
  | .red => 0xF8
  | .ras => 0x85
  | .tlm => 0x20002
  | .sec => 0x8

/-- Position of the SATURATED event of a block with counters (R74); `none` for a block without. -/
def RegMap.satEvent : Blk → Option Nat
  | .dev => none
  | .rcc => none
  | .mbx => none
  | .hlk => some 7
  | .mem => some 7
  | .sdm => some 6
  | .xlt => some 4
  | .sth => some 8
  | .cor => some 4
  | .act => some 8
  | .shl => some 4
  | .kvp => some 7
  | .fab => some 13
  | .inl => some 3
  | .shr => some 3
  | .red => some 11
  | .ras => some 8
  | .tlm => some 2
  | .sec => some 5

/-! EVENT bit positions -/

namespace Ev
abbrev devPower : Nat := 0
abbrev devWriteLocked : Nat := 1
abbrev devEarlyAccess : Nat := 2
abbrev devUnmapped : Nat := 3
abbrev devBadAccess : Nat := 4
abbrev devVerBad : Nat := 5
abbrev devNegotiateFail : Nat := 6
abbrev rccLockLost : Nat := 0
abbrev rccKeyBad : Nat := 1
abbrev rccResetRefused : Nat := 2
abbrev rccJournalPending : Nat := 3
abbrev rccReadyLate : Nat := 4
abbrev rccResetDone : Nat := 5
abbrev mbxCmdDone : Nat := 0
abbrev mbxBusyReject : Nat := 1
abbrev mbxTimeout : Nat := 2
abbrev mbxWellheadRestart : Nat := 3
abbrev hlkLinkUp : Nat := 0
abbrev hlkLinkDown : Nat := 1
abbrev hlkSurpriseDown : Nat := 2
abbrev hlkWidthDegraded : Nat := 3
abbrev hlkRingError : Nat := 4
abbrev hlkDoorbellIdle : Nat := 5
abbrev hlkBiasViolation : Nat := 6
abbrev hlkSaturated : Nat := 7
abbrev hlkPhyLockLost : Nat := 8
abbrev memCe : Nat := 0
abbrev memUe : Nat := 1
abbrev memTrainFail : Nat := 2
abbrev memMismatch : Nat := 3
abbrev memPprDone : Nat := 4
abbrev memPprExhausted : Nat := 5
abbrev memScrubPass : Nat := 6
abbrev memSaturated : Nat := 7
abbrev memPllLost : Nat := 8
abbrev sdmCe : Nat := 0
abbrev sdmUe : Nat := 1
abbrev sdmRepairDone : Nat := 2
abbrev sdmRepairExhausted : Nat := 3
abbrev sdmScrubPass : Nat := 4
abbrev sdmCfgRefused : Nat := 5
abbrev sdmSaturated : Nat := 6
abbrev xltHostFault : Nat := 0
abbrev xltUnresolved : Nat := 1
abbrev xltCmdDone : Nat := 2
abbrev xltMapBad : Nat := 3
abbrev xltSaturated : Nat := 4
abbrev sthPoisonedTail : Nat := 0
abbrev sthStreamTimeout : Nat := 1
abbrev sthFaultHeld : Nat := 2
abbrev sthPartialBarrier : Nat := 3
abbrev sthCowCopy : Nat := 4
abbrev sthCowPoolEmpty : Nat := 5
abbrev sthIdxRange : Nat := 6
abbrev sthCfgRefused : Nat := 7
abbrev sthSaturated : Nat := 8
abbrev corLaunchFault : Nat := 0
abbrev corBarrierTimeout : Nat := 1
abbrev corSwapDone : Nat := 2
abbrev corPartApplied : Nat := 3
abbrev corSaturated : Nat := 4
abbrev corPartBad : Nat := 5
abbrev actCrcError : Nat := 1
abbrev actRoomTimeout : Nat := 2
abbrev actDupKey : Nat := 3
abbrev actMissingKey : Nat := 4
abbrev actSpill : Nat := 5
abbrev actLeftover : Nat := 6
abbrev actCfgRefused : Nat := 7
abbrev actSaturated : Nat := 8
abbrev shlJobPoisoned : Nat := 0
abbrev shlTimeout : Nat := 1
abbrev shlCheck : Nat := 2
abbrev shlBadJob : Nat := 3
abbrev shlSaturated : Nat := 4
abbrev kvpCmdDone : Nat := 0
abbrev kvpCopy : Nat := 1
abbrev kvpPoolEmpty : Nat := 2
abbrev kvpRefcountFull : Nat := 3
abbrev kvpRecordBad : Nat := 4
abbrev kvpRxRefused : Nat := 5
abbrev kvpCfgRefused : Nat := 6
abbrev kvpSaturated : Nat := 7
abbrev fabLinkUp : Nat := 0
abbrev fabLinkDown : Nat := 1
abbrev fabWidthDegraded : Nat := 2
abbrev fabRetrain : Nat := 3
abbrev fabLinkFailed : Nat := 4
abbrev fabLevelMismatch : Nat := 5
abbrev fabJobMismatch : Nat := 6
abbrev fabTxnTimeout : Nat := 7
abbrev fabRemoteNack : Nat := 8
abbrev fabImportRefused : Nat := 9
abbrev fabNoRoute : Nat := 10
abbrev fabMgmtRx : Nat := 11
abbrev fabCfgRefused : Nat := 12
abbrev fabSaturated : Nat := 13
abbrev fabPhyLockLost : Nat := 14
abbrev inlUpdateTimeout : Nat := 0
abbrev inlUpdateFault : Nat := 1
abbrev inlCheck : Nat := 2
abbrev inlSaturated : Nat := 3
abbrev shrUpdateTimeout : Nat := 0
abbrev shrUpdateFault : Nat := 1
abbrev shrCheck : Nat := 2
abbrev shrSaturated : Nat := 3
abbrev redStepCommitted : Nat := 0
abbrev redStepSkipped : Nat := 1
abbrev redLayerStalled : Nat := 2
abbrev redVerdictTimeout : Nat := 3
abbrev redCommitTimeout : Nat := 4
abbrev redBadTile : Nat := 5
abbrev redMirrorMismatch : Nat := 6
abbrev redMirrorFault : Nat := 7
abbrev redPbufFull : Nat := 8
abbrev redLscaleMin : Nat := 9
abbrev redCfgRefused : Nat := 10
abbrev redSaturated : Nat := 11
abbrev rasReplayNeeded : Nat := 0
abbrev rasCoreSuspect : Nat := 1
abbrev rasCoreRetired : Nat := 2
abbrev rasTestFail : Nat := 3
abbrev rasTestOverdue : Nat := 4
abbrev rasSpareLow : Nat := 5
abbrev rasLogOverflow : Nat := 6
abbrev rasRetainedUe : Nat := 7
abbrev rasSaturated : Nat := 8
abbrev rasInjectRefused : Nat := 9
abbrev tlmPersistDone : Nat := 0
abbrev tlmPersistFail : Nat := 1
abbrev tlmSaturated : Nat := 2
abbrev tlmLoadedOld : Nat := 3
abbrev tlmStageWaitLong : Nat := 16
abbrev tlmWuTimeout : Nat := 17
abbrev tlmSteerClamp : Nat := 18
abbrev tlmPwrClamp : Nat := 19
abbrev tlmPwrOverride : Nat := 20
abbrev secFwStaged : Nat := 0
abbrev secDebugChanged : Nat := 1
abbrev secRollbackBurned : Nat := 2
abbrev secFwFallback : Nat := 3
abbrev secSpdmRx : Nat := 4
abbrev secSaturated : Nat := 5
end Ev

/-- The row and index of the register at a page offset, if there is one. -/
def RegMap.find (b : Blk) (off : Nat) : Option (RegRow × Nat) :=
  (RegMap.rows b).findSome? fun r =>
    if r.off ≤ off ∧ (off - r.off) % r.stride = 0 ∧ (off - r.off) / r.stride < r.n then
      some (r, (off - r.off) / r.stride) else none

/-- The Cold value of a field: 0 where the column is keep, fuse or HW (such a field is set by the operation that the
Meaning column names). -/
def Rv.num : Rv → Nat
  | .val n => n
  | _ => 0

/-- The Cold value of a register. -/
def RegRow.cold (r : RegRow) : Word :=
  BitVec.ofNat 64 (r.flds.foldl (fun a f => a + (f.cold.num % 2 ^ (f.hi + 1 - f.lo)) * 2 ^ f.lo) 0)

end Sys2Proof.Machine
end

