-- ==== Sys2Proof/Machine/Ops.lean ====
section
/-! DEFINITION. The named operations over tables, bit fields, bytes, register pages, events and counters. -/

namespace Sys2Proof.Machine

/-! ### Sparse tables -/

/-- What a table holds at a key; `d` is what an unlisted key reads as. -/
def tget {α : Type} : Tab α → α → Nat → α
  | [], d, _ => d
  | (k, v) :: t, d, a => if k = a then v else tget t d a

/-- Write one key, keeping keys rising and no entry equal to `d`. -/
def tset {α : Type} [DecidableEq α] (t : Tab α) (d : α) (a : Nat) (v : α) : Tab α :=
  t.filter (fun e => decide (e.1 < a)) ++ ((if v = d then [] else [(a, v)]) ++ t.filter fun e => decide (a < e.1))

/-- The canonical form of a table over one default. -/
def twf {α : Type} [DecidableEq α] (d : α) : Tab α → Bool
  | [] => true
  | [(_, v)] => v != d
  | (k, v) :: (k', v') :: t => k < k' && v != d && twf d ((k', v') :: t)

/-- Clear every key that satisfies `p`. -/
def tdrop {α : Type} (t : Tab α) (p : Nat → Bool) : Tab α := t.filter fun e => !p e.1

/-! ### Bit fields and bytes -/

/-- Field [hi:lo] of a number. -/
def nfld (w hi lo : Nat) : Nat := (w / 2 ^ lo) % 2 ^ (hi + 1 - lo)

/-- Field [hi:lo] of a word. -/
def fld (w : Word) (hi lo : Nat) : Nat := nfld w.toNat hi lo

/-- Replace field [hi:lo] of a word. -/
def putFld (w : Word) (hi lo v : Nat) : Word :=
  BitVec.ofNat 64 (w.toNat - fld w hi lo * 2 ^ lo + (v % 2 ^ (hi + 1 - lo)) * 2 ^ lo)

/-- Bit n of a word. -/
def bit (w : Word) (n : Nat) : Bool := w.toNat.testBit n

/-- Set or clear bit n of a word. -/
def putBit (w : Word) (n : Nat) (b : Bool) : Word := putFld w n n (if b then 1 else 0)

/-- The value of bytes, lowest address first (R5). -/
def leNat : Bytes → Nat
  | [] => 0
  | b :: t => b.toNat + 256 * leNat t

/-- The n bytes of a value, lowest address first (R5). -/
def natBytes : Nat → Nat → Bytes
  | 0, _ => []
  | n + 1, v => BitVec.ofNat 8 v :: natBytes n (v / 256)

/-- The module's UUID as its 16 bytes (R418). -/
def uuidBytes : Bytes := natBytes 16 Config.fuseUuid.toNat

/-- n bytes at offset o of a structure, as a value; bytes past the end read 0. -/
def bat (bs : Bytes) (o n : Nat) : Nat := leNat ((bs.drop o).take n)

/-- n bytes at offset o. -/
def bsub (bs : Bytes) (o n : Nat) : Bytes := (bs.drop o).take n

/-- Replace bytes at offset o of a structure. -/
def bput (bs : Bytes) (o : Nat) (new : Bytes) : Bytes := bs.take o ++ new ++ bs.drop (o + new.length)

/-- Two's complement value of an n-bit number. -/
def sext (n v : Nat) : Int := if v % 2 ^ n < 2 ^ (n - 1) then (v % 2 ^ n : Nat) else (v % 2 ^ n : Nat) - (2 ^ n : Nat)

/-- An integer modulo 2^n. -/
def wrapN (n : Nat) (v : Int) : Nat := (v % (2 ^ n : Nat)).toNat

/-- Round a length up to a multiple. -/
def roundUp (n m : Nat) : Nat := (n + m - 1) / m * m

/-- Number of 1 bits of the lowest n bits. -/
def popcount (n v : Nat) : Nat := ((List.range n).filter v.testBit).length

/-- CRC-32 of IEEE 802.3, one byte (PRESUMED reflected form, initial value and final complement; Assumption 6). -/
def crcByte (c : Nat) (b : Byte) : Nat :=
  (List.range 8).foldl (fun c _ => if c % 2 = 1 then (c / 2) ^^^ 0xEDB88320 else c / 2) (c ^^^ b.toNat)

/-- CRC-32 of IEEE 802.3 over bytes (Assumption 6). -/
def crc32 (bs : Bytes) : Nat := (bs.foldl crcByte 0xFFFFFFFF) ^^^ 0xFFFFFFFF

/-! ### Pages -/

/-- BAR0 offset of a block's page (R53). -/
def pageBase : Blk → Nat → Nat
  | .dev, _ => 0x0
  | .rcc, _ => 0x1000
  | .mbx, _ => 0x2000
  | .hlk, _ => 0x10000
  | .mem, i => 0x100000 + i * 0x1000
  | .sdm, i => 0x120000 + i * 0x1000
  | .xlt, _ => 0x140000
  | .sth, i => 0x160000 + i * 0x1000
  | .act, i => 0x170000 + i * 0x1000
  | .shl, i => 0x180000 + i * 0x1000
  | .kvp, _ => 0x190000
  | .fab, i => 0x200000 + i * 0x1000
  | .inl, i => 0x240000 + i * 0x1000
  | .shr, i => 0x250000 + i * 0x1000
  | .red, _ => 0x260000
  | .ras, _ => 0x280000
  | .tlm, _ => 0x2A0000
  | .sec, _ => 0x2C0000
  | .cor, i => 0x1000000 + i * 0x1000

/-- Instances of a block (R53). -/
def pageCount : Blk → Nat
  | .mem => 24
  | .sdm | .sth | .act | .shl => 4
  | .fab => 48
  | .inl | .shr => 12
  | .cor => 2304
  | .dev | .rcc | .mbx | .hlk | .xlt | .kvp | .red | .ras | .tlm | .sec => 1

/-- Every block, in the order of R57. -/
def allBlks : List Blk :=
  [.dev, .rcc, .mbx, .hlk, .mem, .sdm, .xlt, .sth, .cor, .act, .shl, .kvp, .fab, .inl, .shr, .red, .ras, .tlm, .sec]

/-- TYPE code (R57). -/
def typeCode : Blk → Nat
  | .dev => 0x01 | .rcc => 0x02 | .mbx => 0x03 | .hlk => 0x04 | .mem => 0x05 | .sdm => 0x06 | .xlt => 0x07
  | .sth => 0x08 | .cor => 0x09 | .act => 0x0A | .shl => 0x0B | .kvp => 0x0C | .fab => 0x0D | .inl => 0x0E
  | .shr => 0x0F | .red => 0x10 | .ras => 0x11 | .tlm => 0x12 | .sec => 0x13

/-- The unicast page at a BAR0 offset (R53). -/
def pageAt (a : Nat) : Option (Blk × Nat) :=
  allBlks.findSome? fun b =>
    if pageBase b 0 ≤ a ∧ a < pageBase b 0 + pageCount b * 0x1000 then some (b, (a - pageBase b 0) / 0x1000) else none

/-- A broadcast page (R53, R61). -/
inductive Bcast where
  | memAll | fabAll | corAll | corBasin (b : Nat) | corGroup (g : Nat)
  deriving DecidableEq, Repr

/-- The broadcast page at a BAR0 offset (R53). -/
def bcastAt (a : Nat) : Option Bcast :=
  if 0x11F000 ≤ a ∧ a < 0x120000 then some .memAll
  else if 0x23F000 ≤ a ∧ a < 0x240000 then some .fabAll
  else if 0x1F00000 ≤ a ∧ a < 0x1F01000 then some .corAll
  else if 0x1F10000 ≤ a ∧ a < 0x1F14000 then some (.corBasin ((a - 0x1F10000) / 0x1000))
  else if 0x1F20000 ≤ a ∧ a < 0x1F60000 then some (.corGroup ((a - 0x1F20000) / 0x1000))
  else none

/-- The Cold value of the register at a BAR0 offset. -/
def coldWord (a : Nat) : Word :=
  match pageAt a with
  | some (b, _) => match RegMap.find b (a % 0x1000) with
    | some (r, _) => r.cold
    | none => 0
  | none => 0

namespace State

/-- A register word. -/
def rd (s : State) (a : Nat) : Word := tget s.regs (coldWord a) a

/-- Store a register word. -/
def wr (s : State) (a : Nat) (w : Word) : State := { s with regs := tset s.regs (coldWord a) a w }

/-- A field of a register on a page. -/
def g (s : State) (b : Blk) (i off hi lo : Nat) : Nat := fld (s.rd (pageBase b i + off)) hi lo

/-- Replace a field of a register on a page. -/
def p (s : State) (b : Blk) (i off hi lo v : Nat) : State :=
  s.wr (pageBase b i + off) (putFld (s.rd (pageBase b i + off)) hi lo v)

/-- Append outward messages. -/
def out (s : State) (m : List OutMsg) : State := { s with hlk := { s.hlk with outbox := s.hlk.outbox ++ m } }

/-- STATUS.READY of a page (R39, R42); a COR page follows its basin (R38) unless its own Block reset holds it. -/
def ready (s : State) : Blk → Nat → Bool
  | .dev, _ => bit s.rst.ready0 0
  | .rcc, _ => bit s.rst.ready0 1
  | .mbx, _ => bit s.rst.ready0 2
  | .hlk, _ => bit s.rst.ready0 3
  | .xlt, _ => bit s.rst.ready0 4
  | .kvp, _ => bit s.rst.ready0 5
  | .red, _ => bit s.rst.ready0 6
  | .ras, _ => bit s.rst.ready0 7
  | .tlm, _ => bit s.rst.ready0 8
  | .sec, _ => bit s.rst.ready0 9
  | .sdm, i => bit s.rst.ready0 (20 + i)
  | .sth, i => bit s.rst.ready0 (24 + i)
  | .act, i => bit s.rst.ready0 (28 + i)
  | .shl, i => bit s.rst.ready0 (32 + i)
  | .inl, i => bit s.rst.ready0 (36 + i)
  | .shr, i => bit s.rst.ready0 (48 + i)
  | .mem, i => bit s.rst.ready1 i
  | .fab, i => bit s.rst.ready2 i
  | .cor, i => bit s.rst.ready0 (16 + i / 576) && !tget s.rst.coreDown false i

/-- BASIN bit of RCC_READY0 (R39). -/
def basinReady (s : State) (b : Nat) : Bool := bit s.rst.ready0 (16 + b)

/-- Set or clear READY of a page. -/
def setReady (s : State) (b : Blk) (i : Nat) (v : Bool) : State :=
  let r := s.rst
  let z (n : Nat) : State := { s with rst := { r with ready0 := putBit r.ready0 n v } }
  match b with
  | .dev => z 0
  | .rcc => z 1
  | .mbx => z 2
  | .hlk => z 3
  | .xlt => z 4
  | .kvp => z 5
  | .red => z 6
  | .ras => z 7
  | .tlm => z 8
  | .sec => z 9
  | .sdm => z (20 + i)
  | .sth => z (24 + i)
  | .act => z (28 + i)
  | .shl => z (32 + i)
  | .inl => z (36 + i)
  | .shr => z (48 + i)
  | .mem => { s with rst := { r with ready1 := putBit r.ready1 i v } }
  | .fab => { s with rst := { r with ready2 := putBit r.ready2 i v } }
  | .cor => { s with rst := { r with coreDown := tset r.coreDown false i (!v) } }

/-- Set or clear the BASIN bit (R39). -/
def setBasinReady (s : State) (b : Nat) (v : Bool) : State :=
  { s with rst := { s.rst with ready0 := putBit s.rst.ready0 (16 + b) v } }

/-! ### Events and MSI-X (R68, R70, R88) -/

/-- An MSI-X table entry after reset: masked, as PCI Express gives it (PRESUMED; Assumption 9). -/
def msixReset : Msix := { addr := 0, data := 0, masked := true, pend := false }

/-- The MSI-X table entry of a vector (R88). -/
def msixEntry (s : State) (v : Nat) : Msix := tget s.hlk.msix msixReset v

/-- Store an MSI-X table entry. -/
def setMsix (s : State) (v : Nat) (e : Msix) : State :=
  { s with hlk := { s.hlk with msix := tset s.hlk.msix msixReset v e } }

/-- Send a message on a vector, or mark it pending while the vector is masked (R70). -/
def msix (s : State) (v : Nat) : State :=
  let e := s.msixEntry v
  if e.masked then s.setMsix v { e with pend := true } else s.out [.msix v]

/-- The pending set of a page: EVENT AND EVENT_EN (R68). -/
def pendingSet (s : State) (b : Blk) (i : Nat) : Word :=
  s.rd (pageBase b i + Off.event) &&& s.rd (pageBase b i + Off.eventEn)

/-- The page's vector. -/
def eventVec (s : State) (b : Blk) (i : Nat) : Nat := s.g b i Off.eventVec 7 0

/-- Set an EVENT bit; a message goes out when the pending set turns non-empty (R68). -/
def raise (s : State) (b : Blk) (i n : Nat) : State :=
  let before := s.pendingSet b i
  let s' := s.p b i Off.event n n 1
  if before = 0 ∧ s'.pendingSet b i ≠ 0 then s'.msix (s'.eventVec b i) else s'

/-! ### Counters (R74, R75) -/

/-- Set a CNT_SAT bit and raise SATURATED, unless the bit is set already. -/
def saturate (s : State) (b : Blk) (i item : Nat) : State :=
  let off := Off.cntSat + 8 * (item / 64)
  if s.g b i off (item % 64) (item % 64) = 1 then s
  else
    let s' := s.p b i off (item % 64) (item % 64) 1
    match RegMap.satEvent b with
    | some n => s'.raise b i n
    | none => s'

/-- CNT_SAT item of the register at a page offset. -/
def satItem (b : Blk) (off : Nat) : Nat :=
  match RegMap.find b off with
  | some (r, k) => match r.kind with
    | .ctr n => n + k
    | .hist n => n + k / 16
    | .plain => 0
  | none => 0

/-- Add n to an event counter (R74). -/
def bump (s : State) (b : Blk) (i off n : Nat) : State :=
  let a := pageBase b i + off
  let v := (s.rd a).toNat + n
  if n = 0 then s
  else if v < 2 ^ 64 then s.wr a (BitVec.ofNat 64 v)
  else (s.wr a (BitVec.ofNat 64 (2 ^ 64 - 1))).saturate b i (satItem b off)

/-- Add 1 to bin n of the histogram at a page offset (R75). -/
def bumpBin (s : State) (b : Blk) (i off n : Nat) : State :=
  let o := off + 8 * (n / 2)
  let lo := 32 * (n % 2)
  let v := s.g b i o (lo + 31) lo
  if v + 1 < 2 ^ 32 then s.p b i o (lo + 31) lo (v + 1) else s.saturate b i (satItem b o)

/-! ### Faults and refused accesses -/

/-- Latch FAULT of a page that has no EVENT bit for it (R41). -/
def latchFault (s : State) (b : Blk) (i : Nat) (v : Bool) : State :=
  { s with rst := { s.rst with faultLatch := tset s.rst.faultLatch false (pageBase b i) v } }

/-- STATUS.FAULT (R58). -/
def faulted (s : State) (b : Blk) (i : Nat) : Bool :=
  tget s.rst.faultLatch false (pageBase b i) ||
    (s.rd (pageBase b i + Off.event) &&& BitVec.ofNat 64 (RegMap.faultBits b)) != 0

/-- Raise a DEV event for a refused access and record it in DEV_BADADDR (R78); TLM counts it (R413). -/
def refuse (s : State) (wh write : Bool) (cause a : Nat) : State :=
  let w := BitVec.ofNat 64 ((if write then 2 ^ 63 else 0) + (if wh then 2 ^ 62 else 0) + cause * 2 ^ 56 + a % 2 ^ 26)
  ((s.wr (pageBase .dev 0 + Off.devBadaddr) w).raise .dev 0 cause).bump .tlm 0 (0x200 + 8 * 22) 1

/-- CTRL.QUIESCE of a page is 1: new work waits at the block's input (R59). -/
def quiet (s : State) (b : Blk) (i : Nat) : Bool := s.g b i Off.ctrl 0 0 = 1

/-- DEV_LOCK.LOCK (R77). -/
def locked (s : State) : Bool := s.g .dev 0 Off.devLock 0 0 = 1

/-- Draw a free value (R8): the counter advances, the value is Config's. -/
def freeByte (s : State) : Byte × State := (Config.freeByte s.free, { s with free := s.free + 1 })

/-- Draw n free bytes. -/
def freeBytes (s : State) (n : Nat) : Bytes × State :=
  ((List.range n).map fun k => Config.freeByte (s.free + k), { s with free := s.free + n })

/-- The local timer (R29). -/
def now (s : State) : Word := s.clock.timer

/-- PHASE of the step-commit journal (R48). -/
def phase (s : State) : Nat := s.g .rcc 0 Off.rccBkp3 3 0

end State

end Sys2Proof.Machine
end

