-- ==== Sys2Proof/Machine/Operands.lean ====
section
/-! DEFINITION. Number formats, exact values, rounding and conversion (R132 to R142), IEEE 754 binary32 arithmetic and the
transcendental functions (R183 to R185, R205, R433). Patterns are natural numbers; FP32 patterns are below 2^32. -/

namespace Sys2Proof.Machine

/-! ### Exact values -/

/-- A value: NaN and infinity with a sign, or (−1)^s · m · 2^e. -/
inductive Num where
  | nan (s : Bool) | inf (s : Bool) | fin (s : Bool) (m : Nat) (e : Int)
  deriving DecidableEq, Repr

namespace Num

/-- The value is a number. -/
def finite : Num → Bool
  | .fin _ _ _ => true
  | _ => false

/-- Sign. -/
def sign : Num → Bool
  | .nan s | .inf s | .fin s _ _ => s

/-- The value is ±0. -/
def isZero : Num → Bool
  | .fin _ 0 _ => true
  | _ => false

/-- NaN. -/
def isNan : Num → Bool
  | .nan _ => true
  | _ => false

/-- Negate. -/
def neg : Num → Num
  | .nan s => .nan !s
  | .inf s => .inf !s
  | .fin s m e => .fin (!s) m e

/-- Absolute value. -/
def abs : Num → Num
  | .nan _ => .nan false
  | .inf _ => .inf false
  | .fin _ m e => .fin false m e

/-- Multiply by 2^k. -/
def scale2 (v : Num) (k : Int) : Num :=
  match v with
  | .fin s m e => .fin s m (e + k)
  | v => v

/-- floor(log2 |v|) of a nonzero number. -/
def lg : Num → Int
  | .fin _ m e => (m.log2 : Int) + e
  | _ => 0

/-- Signed integer of a number over 2^e0, for e0 at or below its exponent. -/
def atExp (v : Num) (e0 : Int) : Int :=
  match v with
  | .fin s m e => let x : Int := (m * 2 ^ (e - e0).toNat : Nat); if s then -x else x
  | _ => 0

/-- Exponent of a number. -/
def exp : Num → Int
  | .fin _ _ e => e
  | _ => 0

/-- A number from a signed integer over 2^e; zero takes sign s. -/
def ofInt (z : Int) (e : Int) (s : Bool := false) : Num := if z = 0 then .fin s 0 e else .fin (decide (z < 0)) z.natAbs e

/-- Exact sum (R183: the first NaN gives its sign; opposite infinities generate NaN with sign 0). -/
def add (x y : Num) : Num :=
  match x, y with
  | .nan s, _ => .nan s
  | _, .nan s => .nan s
  | .inf s, .inf t => if s = t then .inf s else .nan false
  | .inf s, _ => .inf s
  | _, .inf s => .inf s
  | .fin s _ e, .fin t _ f => let e0 := min e f; ofInt (x.atExp e0 + y.atExp e0) e0 (s && t)

/-- Exact product. -/
def mul (x y : Num) : Num :=
  match x, y with
  | .nan s, _ => .nan s
  | _, .nan s => .nan s
  | .inf s, .inf t => .inf (s != t)
  | .inf s, .fin t m _ => if m = 0 then .nan false else .inf (s != t)
  | .fin t m _, .inf s => if m = 0 then .nan false else .inf (s != t)
  | .fin s m e, .fin t n f => .fin (s != t) (m * n) (e + f)

/-- Exact x · y + z, with the first NaN of x, y, z (R183). -/
def fma (x y z : Num) : Num :=
  match x, y, z with
  | .nan s, _, _ => .nan s
  | _, .nan s, _ => .nan s
  | _, _, .nan s => .nan s
  | _, _, _ => (x.mul y).add z

/-- Order of two values that are not NaN, −0 equal to +0. -/
def cmp (x y : Num) : Ordering :=
  match x, y with
  | .inf s, .inf t => if s = t then .eq else if s then .lt else .gt
  | .inf s, _ => if s then .lt else .gt
  | _, .inf s => if s then .gt else .lt
  | _, _ => let e0 := min x.exp y.exp; compare (x.atExp e0) (y.atExp e0)

end Num

/-! ### Rounding (R139, R142) -/

/-- m / 2^d rounded to an integer: mode 0 nearest even, 1 toward zero, 2 stochastic with a 16-bit draw (R139, R142). -/
def shiftRound (rm rnd m : Nat) (d : Int) : Nat :=
  if d ≤ 0 then m * 2 ^ (-d).toNat
  else
    let n := d.toNat
    let k := m / 2 ^ n
    let r := m % 2 ^ n
    if rm = 0 then (if 2 ^ (n - 1) < r ∨ (r = 2 ^ (n - 1) ∧ k % 2 = 1) then k + 1 else k)
    else if rm = 2 then
      let f := if 16 ≤ n then r / 2 ^ (n - 16) else r * 2 ^ (16 - n)
      if 65536 ≤ f + rnd then k + 1 else k
    else k

/-- One step of the mixer of R142. -/
def mix64 (x : Word) : Word :=
  let x := (x ^^^ (x >>> 30)) * 0xBF58476D1CE4E5B9
  let x := (x ^^^ (x >>> 27)) * 0x94D049BB133111EB
  x ^^^ (x >>> 31)

/-- rand16 of R142 under a seed. -/
def rand16 (seed step : Word) (tensor : Nat) (i : Nat) : Nat :=
  let key := mix64 (mix64 (mix64 (seed ^^^ step) ^^^ BitVec.ofNat 64 tensor) ^^^ BitVec.ofNat 64 (i % 2 ^ 64 / 64))
  (mix64 (key + BitVec.ofNat 64 (i % 64 + 1) * 0x9E3779B97F4A7C15)).toNat / 2 ^ 48

/-! ### Scalar formats (R132, R133) -/

/-- What the all-ones exponent means: IEEE infinity and NaN, the single NaN of E4M3, or plain numbers. -/
inductive FCls where
  | ieee | e4m3 | plain
  deriving DecidableEq, Repr

/-- A floating-point layout. -/
structure FFmt where
  eb : Nat
  mb : Nat
  bias : Nat
  cls : FCls
  deriving DecidableEq, Repr

def fmtFp32 : FFmt := ⟨8, 23, 127, .ieee⟩
def fmtBf16 : FFmt := ⟨8, 7, 127, .ieee⟩
def fmtFp16 : FFmt := ⟨5, 10, 15, .ieee⟩
def fmtE4m3 : FFmt := ⟨4, 3, 7, .e4m3⟩
def fmtE5m2 : FFmt := ⟨5, 2, 15, .ieee⟩
def fmtE3m2 : FFmt := ⟨3, 2, 3, .plain⟩
def fmtE2m3 : FFmt := ⟨2, 3, 1, .plain⟩
def fmtE2m1 : FFmt := ⟨2, 1, 1, .plain⟩
/-- M40 as sign, 8 exponent and 31 fraction bits: the FP32 word above its extension byte (R138). -/
def fmtM40 : FFmt := ⟨8, 31, 127, .ieee⟩

namespace FFmt

/-- Exponent of the subnormal unit. -/
def emin (f : FFmt) : Int := 1 - (f.bias : Int) - f.mb

/-- Decode a pattern (R133). -/
def decode (f : FFmt) (p : Nat) : Num :=
  let s := p.testBit (f.eb + f.mb)
  let e := nfld p (f.eb + f.mb - 1) f.mb
  let m := p % 2 ^ f.mb
  let top := 2 ^ f.eb - 1
  if e = 0 then .fin s m f.emin
  else if e = top ∧ f.cls = .ieee then (if m = 0 then .inf s else .nan s)
  else if e = top ∧ f.cls = .e4m3 ∧ m = 2 ^ f.mb - 1 then .nan s
  else .fin s (2 ^ f.mb + m) (f.emin + e - 1)

/-- Encode kept · 2^u, a value of the format. -/
def pack (f : FFmt) (s : Bool) (k : Nat) (u : Int) : Nat :=
  let z := if s then 2 ^ (f.eb + f.mb) else 0
  if k < 2 ^ f.mb then z + k
  else
    let (k, u) := if 2 ^ (f.mb + 1) ≤ k then (k / 2, u + 1) else (k, u)
    z + ((u - f.emin).toNat + 1) * 2 ^ f.mb + (k - 2 ^ f.mb)

/-- Largest finite magnitude, as units of its own ulp. -/
def maxFin (f : FFmt) : Nat × Int :=
  match f.cls with
  | .ieee => (2 ^ (f.mb + 1) - 1, f.emin + 2 ^ f.eb - 3)
  | .e4m3 => (2 ^ (f.mb + 1) - 2, f.emin + 2 ^ f.eb - 2)
  | .plain => (2 ^ (f.mb + 1) - 1, f.emin + 2 ^ f.eb - 2)

/-- The quiet NaN of a format (R140). -/
def qnan (f : FFmt) (s : Bool) : Nat :=
  let z := if s then 2 ^ (f.eb + f.mb) else 0
  match f.cls with
  | .e4m3 => z + 2 ^ (f.eb + f.mb) - 1
  | _ => z + (2 ^ f.eb - 1) * 2 ^ f.mb + 2 ^ (f.mb - 1)

/-- Infinity, or NaN where the format has none (R140). -/
def infOf (f : FFmt) (s : Bool) : Nat :=
  match f.cls with
  | .e4m3 => f.qnan s
  | _ => (if s then 2 ^ (f.eb + f.mb) else 0) + (2 ^ f.eb - 1) * 2 ^ f.mb

/-- ± largest finite. -/
def maxOf (f : FFmt) (s : Bool) : Nat := f.pack s f.maxFin.1 f.maxFin.2

end FFmt

/-- A converted or computed pattern with the flags it sets: bit 0 NF, 1 OV, 2 UF (R193). -/
structure FRes where
  bits : Nat
  fl : Nat
  deriving DecidableEq, Repr

/-- Round and encode a value in a floating-point format (R139 to R141); `sat` is the overflow mode in force. -/
def encF (f : FFmt) (rm rnd : Nat) (sat : Bool) (v : Num) : FRes :=
  match v with
  | .nan s => ⟨f.qnan s, 1⟩
  | .inf s => ⟨f.infOf s, 1⟩
  | .fin s m e =>
    if m = 0 then ⟨f.pack s 0 0, 0⟩
    else
      let u := max ((m.log2 : Int) + e - f.mb) f.emin
      let k := shiftRound rm rnd m (u - e)
      let (mk, mu) := f.maxFin
      if mk * 2 ^ (mu - u).toNat < k * 2 ^ (u - mu).toNat then
        if sat ∨ rm = 1 then ⟨f.maxOf s, 2⟩ else ⟨f.infOf s, 3⟩
      else ⟨f.pack s k u, if k = 0 then 4 else 0⟩

/-- Convert to INT8 over a unit of 2^u (R140); −128 is representable (DEDUCED; Assumption 11). -/
def encI8 (rm rnd : Nat) (u : Int) (v : Num) : FRes :=
  match v with
  | .nan _ => ⟨0, 1⟩
  | .inf s => ⟨if s then 0x80 else 0x7F, 1⟩
  | .fin s m e =>
    let k := shiftRound rm rnd m (u - e)
    let lim := if s then 128 else 127
    ⟨wrapN 8 (if s then -(min k lim : Nat) else (min k lim : Nat)),
      (if lim < k then 2 else 0) + (if k = 0 ∧ m ≠ 0 then 4 else 0)⟩

/-- The floating-point layout of a scalar code or block element (R132). -/
def fmtOf : Nat → Option FFmt
  | 0x00 => some fmtFp32
  | 0x01 => some fmtBf16
  | 0x02 => some fmtFp16
  | 0x03 | 0x08 => some fmtE4m3
  | 0x04 | 0x09 => some fmtE5m2
  | 0x0A => some fmtE2m3
  | 0x0B | 0x11 => some fmtE3m2
  | 0x0C | 0x10 => some fmtE2m1
  | 0x18 => some fmtM40
  | _ => none

/-- A format code that R132 lists. -/
def fmtCode (c : Nat) : Bool := [0, 1, 2, 3, 4, 5, 8, 9, 0xA, 0xB, 0xC, 0xD, 0x10, 0x11, 0x18].contains c

/-- Element bits (R132). -/
def fmtBits : Nat → Nat
  | 0x00 => 32 | 0x01 | 0x02 => 16 | 0x0A | 0x0B | 0x11 => 6 | 0x0C | 0x10 => 4 | 0x18 => 40 | _ => 8

/-- Block size; 0 for scalar formats (R132). -/
def fmtBlock : Nat → Nat
  | 0x08 | 0x09 | 0x0A | 0x0B | 0x0C | 0x0D => 32 | 0x10 | 0x11 => 64 | _ => 0

/-- Scalar format that takes a per-tensor slot scale (R132). -/
def fmtSlot (c : Nat) : Bool := 2 ≤ c && c ≤ 5

/-- Decode a scalar pattern or a block element without its scale. -/
def decElem (c p : Nat) : Num :=
  match fmtOf c with
  | some f => f.decode p
  | none => if c = 0x0D then .ofInt (sext 8 p) (-6) else .ofInt (sext 8 p) 0

/-- Convert a value to a scalar code with rounding and overflow modes (R140). -/
def convert (c rm om rnd : Nat) (v : Num) : FRes :=
  match fmtOf c with
  | some f => encF f rm rnd (if om = 0 then c = 3 ∨ c = 4 else om = 1) v
  | none => encI8 rm rnd 0 v

/-! ### Block formats (R134 to R137) -/

/-- emax of the encoder (R136). -/
def emaxMx : Nat → Int
  | 0x08 => 8 | 0x09 => 15 | 0x0A => 2 | 0x0B => 4 | 0x0C => 2 | 0x0D => 0 | 0x10 => 2 | 0x11 => 4 | _ => 0

/-- Round an element of a block; elements saturate in every overflow mode (R136). -/
def encElem (c rm rnd : Nat) (v : Num) : FRes :=
  match fmtOf c with
  | some f => encF f rm rnd true v
  | none => encI8 rm rnd (-6) v

/-- Largest floor(log2 |x|) over nonzero values; none when all are 0. -/
def maxLg (xs : List Num) : Option Int :=
  xs.foldl (fun a v => if v.isZero then a else some (match a with
    | some b => max b v.lg
    | none => v.lg)) none

/-- Encode a block: scale word, element patterns with flags (R136). `rnd k` is the draw of element k. -/
def encBlock (c rm : Nat) (rnd : Nat → Nat) (xs : List Num) : Nat × List FRes :=
  if xs.any fun v => !v.finite then (0xFF, xs.map fun v => ⟨0, if v.finite then 0 else 1⟩)
  else match maxLg xs with
    | none => (if fmtBlock c = 64 then 0xFFFF00 else 0, xs.map fun v => encElem c rm 0 v)
    | some a =>
      let x := (max (-127) (min 127 (a - emaxMx c)) + 127).toNat
      if fmtBlock c = 64 then
        let sj (j : Nat) : Nat := match maxLg ((xs.drop (8 * j)).take 8) with
          | none => 3
          | some b => min 3 (a - b).toNat
        let w := (List.range 8).foldl (fun w j => w + sj j * 2 ^ (8 + 2 * j)) x
        (w, xs.mapIdx fun k v => encElem c rm (rnd k) (v.scale2 (127 - x + sj (k / 8))))
      else (x, xs.mapIdx fun k v => encElem c rm (rnd k) (v.scale2 (127 - (x : Int))))

/-- Value of element k of a block under its scale word (R134, R135). -/
def decBlockElem (c scale k p : Nat) : Num :=
  if scale % 256 = 0xFF then .nan false
  else
    let s := if fmtBlock c = 64 then nfld scale (9 + 2 * (k / 8)) (8 + 2 * (k / 8)) else 0
    (decElem c p).scale2 ((scale % 256 : Nat) - 127 - (s : Nat))

/-- w bits from bit position n of a little-endian bit string. -/
def bitsAt (bs : Bytes) (n w : Nat) : Nat := bat bs (n / 8) ((n % 8 + w + 7) / 8) / 2 ^ (n % 8) % 2 ^ w

/-- Pack patterns of w bits from bit 0 upward (R137). -/
def packBits (w : Nat) (ps : List Nat) : Bytes :=
  let n := ps.length
  natBytes ((n * w + 7) / 8) (ps.foldr (fun p a => a * 2 ^ w + p % 2 ^ w) 0)

/-- Bytes of one stored row of n elements. -/
def rowBytes (c n : Nat) : Nat := (n * fmtBits c + 7) / 8

/-- Bytes of a scale per block (R137). -/
def scaleBytes (c : Nat) : Nat := if fmtBlock c = 64 then 4 else 1

/-! ### FP32 arithmetic (R183) -/

/-- Decode an FP32 pattern. -/
def f32 (p : Nat) : Num := fmtFp32.decode p

/-- Round a value to FP32, nearest even. -/
def toF32 (v : Num) : FRes := encF fmtFp32 0 0 false v

/-- The pattern of a value rounded to FP32. -/
def f32Of (v : Num) : Nat := (toF32 v).bits

/-- A pattern is subnormal in a format. -/
def isSub (f : FFmt) (p : Nat) : Bool := nfld p (f.eb + f.mb - 1) f.mb = 0 && p % 2 ^ f.mb ≠ 0

/-- Flush a subnormal pattern to zero of its sign in a 2.x kernel, setting UF (R205). -/
def flush (f : FFmt) (old : Bool) (p : Nat) : FRes :=
  if old && isSub f p then ⟨p - p % 2 ^ f.mb, 4⟩ else ⟨p, 0⟩

/-- Union of flag sets. -/
def orFl (a b : Nat) : Nat := a ||| b

/-- An FP operation of a format on patterns: inputs flushed in 2.x mode, exact value rounded to nearest even, result
flushed in 2.x mode, NF for a non-finite input or result (R183, R185, R193, R205). -/
def fpOp (f : FFmt) (old : Bool) (g : List Num → Num) (ps : List Nat) : FRes :=
  let ins := ps.map (flush f old)
  let vs := ins.map fun r => f.decode r.bits
  let r := encF f 0 0 false (g vs)
  let o := flush f old r.bits
  let nf := if vs.all (·.finite) then 0 else 1
  ⟨o.bits, (ins.foldl (fun a x => a ||| x.fl) 0) ||| r.fl ||| o.fl ||| nf⟩

/-- Argument k of an operation. -/
def argN (vs : List Num) (k : Nat) : Num := vs.getD k (.fin false 0 0)

/-- FADD. -/
def fadd (old : Bool) (a b : Nat) : FRes := fpOp fmtFp32 old (fun v => (argN v 0).add (argN v 1)) [a, b]
/-- FMUL. -/
def fmul (old : Bool) (a b : Nat) : FRes := fpOp fmtFp32 old (fun v => (argN v 0).mul (argN v 1)) [a, b]
/-- FFMA. -/
def ffma (old : Bool) (a b c : Nat) : FRes := fpOp fmtFp32 old (fun v => (argN v 0).fma (argN v 1) (argN v 2)) [a, b, c]

/-- Minimum or maximum with NaN and −0 < +0 (R183). -/
def numMinMax (mx : Bool) (x y : Num) : Num :=
  match x, y with
  | .nan s, _ => .nan s
  | _, .nan s => .nan s
  | _, _ =>
    let less := match x.cmp y with
      | .lt => true
      | .gt => false
      | .eq => x.sign && !y.sign
    if less != mx then x else y

/-- FMIN. -/
def fmin (old : Bool) (a b : Nat) : FRes := fpOp fmtFp32 old (fun v => numMinMax false (argN v 0) (argN v 1)) [a, b]
/-- FMAX. -/
def fmax (old : Bool) (a b : Nat) : FRes := fpOp fmtFp32 old (fun v => numMinMax true (argN v 0) (argN v 1)) [a, b]

/-- Negate an FP32 pattern. -/
def fneg (p : Nat) : Nat := p ^^^ 0x80000000
/-- Absolute value of an FP32 pattern. -/
def fabs (p : Nat) : Nat := p % 0x80000000

/-! ### Transcendental functions (R184) -/

/-- Fraction bits of the fixed-point evaluation. Results are exact values known to within 2^-200 of themselves, which
rounds correctly wherever the exact value is further than that from a rounding boundary (Assumption 12). -/
def fxP : Nat := 256

/-- 1 in fixed point. -/
def fxOne : Int := 2 ^ fxP

/-- Product in fixed point. -/
def fxMul (a b : Int) : Int := a * b / 2 ^ fxP

/-- The sum of a series: term k+1 from term k by `f`, n terms. -/
def fxSum (f : Nat → Int → Int) : Nat → Nat → Int → Int → Int
  | 0, _, _, acc => acc
  | n + 1, k, t, acc => fxSum f n (k + 1) (f k t) (acc + t)

/-- 2·atanh(a/b) = ln((b+a)/(b−a)) from z = a/b in fixed point. -/
def fxAtanh2 (z : Int) : Int :=
  let z2 := fxMul z z
  let go := (List.range 90).foldl (fun (x : Int × Int) k => (x.1 + x.2 / (2 * k + 1), fxMul x.2 z2)) (0, z)
  2 * go.1

/-- ln 2. -/
def fxLn2 : Int := fxAtanh2 (fxOne / 3)

/-- atan(1/n). -/
def fxAtanInv (n : Int) : Int :=
  ((List.range 120).foldl (fun (x : Int × Int) k =>
    (x.1 + (if k % 2 = 0 then x.2 else -x.2) / (2 * k + 1), x.2 / (n * n))) (0, fxOne / n)).1

/-- π. -/
def fxPi : Int := 16 * fxAtanInv 5 - 4 * fxAtanInv 239

/-- e^x for |x| ≤ 1 in fixed point. -/
def fxExp (x : Int) : Int := fxSum (fun k t => fxMul t x / (k + 1)) 80 0 fxOne 0

/-- A value as fixed point, truncated. -/
def fxOf (v : Num) : Int :=
  match v with
  | .fin s m e =>
    let x : Int := if -(fxP : Int) ≤ e then (m * 2 ^ (e + fxP).toNat : Nat) else (m / 2 ^ (-(e + fxP)).toNat : Nat)
    if s then -x else x
  | _ => 0

/-- Round fixed point to FP32. -/
def fxToF32 (x : Int) (k : Int := 0) (sx : Bool := false) : FRes := toF32 (.ofInt x (k - fxP) sx)

/-- EXP2 of a number. -/
def exp2Of (v : Num) : FRes :=
  match v with
  | .nan s => ⟨fmtFp32.qnan s, 1⟩
  | .inf s => ⟨if s then 0 else 0x7F800000, 1⟩
  | .fin s m e =>
    if m = 0 then ⟨0x3F800000, 0⟩
    else if 9 ≤ v.lg then (if s then ⟨0, 4⟩ else ⟨0x7F800000, 3⟩)
    else
      let x := fxOf (.fin s m e)
      let n := (x + fxOne / 2) / fxOne
      if 0 ≤ e ∨ m % 2 ^ (-e).toNat = 0 then toF32 (.fin false 1 n)
      else fxToF32 (fxExp (fxMul (x - n * fxOne) fxLn2)) n

/-- LOG2. -/
def log2Of (v : Num) : FRes :=
  match v with
  | .nan s => ⟨fmtFp32.qnan s, 1⟩
  | .inf s => ⟨if s then fmtFp32.qnan false else 0x7F800000, 1⟩
  | .fin s m e =>
    if m = 0 then ⟨0xFF800000, 1⟩
    else if s then ⟨fmtFp32.qnan false, 1⟩
    else
      let n := v.lg
      if m = 2 ^ m.log2 then toF32 (.ofInt n 0)
      else
        let f := fxOf (.fin false m (e - n))
        let (f, n) := if 3 * fxOne / 2 < f then (f / 2, n + 1) else (f, n)
        let z := (f - fxOne) * fxOne / (f + fxOne)
        fxToF32 (fxAtanh2 z * fxOne / fxLn2 + n * fxOne)

/-- num / den · 2^e as a value whose lowest bit is sticky. -/
def ratNum (s : Bool) (num den : Nat) (e : Int) : Num :=
  let q := num * 2 ^ 128 / den
  .fin s (2 * q + (if num * 2 ^ 128 % den = 0 then 0 else 1)) (e - 129)

/-- RCP. -/
def rcpOf (v : Num) : FRes :=
  match v with
  | .nan s => ⟨fmtFp32.qnan s, 1⟩
  | .inf s => ⟨if s then 0x80000000 else 0, 1⟩
  | .fin s m e => if m = 0 then ⟨fmtFp32.infOf s, 1⟩ else toF32 (ratNum s 1 m (-e))

/-- √m · 2^(e/2) for even e, with a sticky lowest bit. -/
def sqrtNum (m : Nat) (e : Int) : Num :=
  let (m, e) := if e % 2 = 0 then (m, e) else (2 * m, e - 1)
  let x := m * 2 ^ 128
  let r := x.sqrt
  .fin false (2 * r + (if r * r = x then 0 else 1)) (e / 2 - 65)

/-- SQRT. -/
def sqrtOf (v : Num) : FRes :=
  match v with
  | .nan s => ⟨fmtFp32.qnan s, 1⟩
  | .inf s => ⟨if s then fmtFp32.qnan false else 0x7F800000, 1⟩
  | .fin s m e => if m = 0 then ⟨fmtFp32.pack s 0 0, 0⟩ else if s then ⟨fmtFp32.qnan false, 1⟩ else toF32 (sqrtNum m e)

/-- RSQRT: 1/√v, as the square root of the reciprocal scaled to an integer with a sticky bit. -/
def rsqrtOf (v : Num) : FRes :=
  match v with
  | .nan s => ⟨fmtFp32.qnan s, 1⟩
  | .inf s => if s then ⟨fmtFp32.qnan false, 1⟩ else ⟨0, 1⟩
  | .fin s m e =>
    if m = 0 then ⟨fmtFp32.infOf s, 1⟩
    else if s then ⟨fmtFp32.qnan false, 1⟩
    else
      let (m, e) := if e % 2 = 0 then (m, e) else (2 * m, e - 1)
      let x := 2 ^ 200 / m
      let r := x.sqrt
      toF32 (.fin false (2 * r + (if r * r * m = 2 ^ 200 then 0 else 1)) (-e / 2 - 101))

/-- TANH: |x| below 2^-32 rounds to x, |x| of 16 and more to ±1. -/
def tanhOf (v : Num) : FRes :=
  match v with
  | .nan s => ⟨fmtFp32.qnan s, 1⟩
  | .inf s => ⟨if s then 0xBF800000 else 0x3F800000, 1⟩
  | .fin s m e =>
    if m = 0 ∨ v.lg < -32 then toF32 v
    else if 4 ≤ v.lg then ⟨if s then 0xBF800000 else 0x3F800000, 0⟩
    else
      let y := fxOf (.fin false m (e + 1))
      let n := y / fxLn2
      let t := fxExp (y - n * fxLn2) * 2 ^ n.toNat
      let r := (t - fxOne) * fxOne / (t + fxOne)
      fxToF32 (if s then -r else r)

/-- sin(2πr) for a number r with |r| ≤ 1/4, relative accuracy kept for small r. -/
def sinTurn (r : Num) : Num :=
  match r with
  | .fin s m e =>
    let a := 2 * fxPi
    let x := fxMul (fxOf (.fin false m e)) a
    let t := fxMul x x
    let p := fxSum (fun k u => -(fxMul u t) / ((2 * k + 2) * (2 * k + 3))) 60 0 fxOne 0
    .fin s (m * (fxMul p a).toNat) (e - fxP)
  | v => v

/-- x modulo 1, in (−1/2, 1/2]. -/
def turnMod (m : Nat) (e : Int) (s : Bool) : Num :=
  if 0 ≤ e then .fin s 0 0
  else
    let d := 2 ^ (-e).toNat
    let r := m % d
    if d < 2 * r then .fin (!s) (d - r) e else .fin s r e

/-- Fold a turn in (−1/2, 1/2] to one in [−1/4, 1/4] with the same sine. -/
def turnFold (r : Num) : Num :=
  match r with
  | .fin s m e => let d := 2 ^ (-e).toNat; if d < 4 * m ∧ e < 0 then .fin s (d - 2 * m) (e - 1) else .fin s m e
  | v => v

/-- SINT and COST; the sign of a zero result is the configuration's (R184 gives none; Assumption 13). -/
def sincosOf (cos : Bool) (p : Nat) (v : Num) : FRes :=
  match v with
  | .nan s => ⟨fmtFp32.qnan s, 1⟩
  | .inf _ => ⟨fmtFp32.qnan false, 1⟩
  | .fin s m e =>
    let r := turnMod m e s
    let q := if cos then (Num.fin false 1 (-2)).add r.abs.neg else turnFold r
    if q.isZero then ⟨if Config.sincosZero cos (BitVec.ofNat 32 p) then 0x80000000 else 0, 0⟩
    else match q with
      | .fin t n f => if n * 4 = 2 ^ (-f).toNat ∧ f < 0 then ⟨if t then 0xBF800000 else 0x3F800000, 0⟩ else toF32 (sinTurn q)
      | _ => toF32 q

/-- (ln 2)^k / k! nearest FP32 (R433). -/
def exp2Coef (k : Nat) : Nat :=
  f32Of (.ofInt ((List.range k).foldl (fun (x : Int) j => fxMul x fxLn2 / (j + 1)) fxOne) (-(fxP : Int)))

/-- The FP32 value nearest a fraction. -/
def ratF32 (s : Bool) (a b : Nat) : Nat := f32Of (ratNum s a b 0)

/-- A finite FP32 pattern times 2^k, flushed as 2.x mode does. -/
def mulPow2Old (p : Nat) (k : Int) (fl : Nat) : FRes :=
  let r := toF32 ((f32 p).scale2 k)
  let o := flush fmtFp32 true r.bits
  ⟨o.bits, fl ||| r.fl ||| o.fl⟩

/-- EXP2 of the ZM-410 (R433), on a flushed input. -/
def exp2Old (v : Num) : FRes :=
  match v with
  | .nan s => ⟨fmtFp32.qnan s, 1⟩
  | .inf s => ⟨if s then 0 else 0x7F800000, 1⟩
  | .fin s m e =>
    let big := Num.fin false 128 0
    if v.cmp big ≠ .lt then ⟨0x7F800000, 3⟩
    else if v.cmp (.fin true 126 0) = .lt then ⟨0, 4⟩
    else
      let n : Int := let k := shiftRound 0 0 m (-e); if s then -(k : Int) else k
      let f := f32Of (v.add (.ofInt (-n) 0))
      let p := (List.range 7).foldl (fun (a : FRes) j =>
        let r := ffma true a.bits f (exp2Coef (6 - j))
        ⟨r.bits, a.fl ||| r.fl⟩) ⟨exp2Coef 7, 0⟩
      mulPow2Old p.bits n p.fl

/-- Iterate n times. -/
def iterN {α : Type} (f : α → α) : Nat → α → α
  | 0, x => x
  | n + 1, x => iterN f n (f x)

/-- RCP of the ZM-410 (R433). -/
def rcpOld (v : Num) : FRes :=
  match v with
  | .nan s => ⟨fmtFp32.qnan s, 1⟩
  | .inf s => ⟨if s then 0x80000000 else 0, 1⟩
  | .fin s k e =>
    if k = 0 then ⟨fmtFp32.infOf s, 1⟩
    else
      let x := v.lg
      let m := f32Of (.fin false k (e - x))
      let y0 := ffma true (ratF32 true 8 17) m (ratF32 false 24 17)
      let y := iterN (fun (y : FRes) =>
        let d := ffma true (fneg m) y.bits 0x3F800000
        let z := ffma true y.bits d.bits y.bits
        ⟨z.bits, y.fl ||| d.fl ||| z.fl⟩) 3 y0
      let r := mulPow2Old y.bits (-x) y.fl
      ⟨if s then fneg r.bits else r.bits, r.fl⟩

/-- RSQRT of the ZM-410 (R433). -/
def rsqrtOld (v : Num) : FRes :=
  match v with
  | .nan s => ⟨fmtFp32.qnan s, 1⟩
  | .inf s => if s then ⟨fmtFp32.qnan false, 1⟩ else ⟨0, 1⟩
  | .fin s j e =>
    if j = 0 then ⟨fmtFp32.infOf s, 1⟩
    else if s then ⟨fmtFp32.qnan false, 1⟩
    else
      let k := v.lg / 2
      let m := f32Of (.fin false j (e - 2 * k))
      let h := f32Of (.fin false j (e - 2 * k - 1))
      let y0 := ffma true (ratF32 true 1 6) m (ratF32 false 7 6)
      let y := iterN (fun (y : FRes) =>
        let t := fmul true y.bits y.bits
        let d := ffma true (fneg h) t.bits 0x3FC00000
        let z := fmul true y.bits d.bits
        ⟨z.bits, y.fl ||| t.fl ||| d.fl ||| z.fl⟩) 4 y0
      mulPow2Old y.bits (-k) y.fl

/-- Transcendental OP n of class 0x4 on a pattern: EXP2, LOG2, RCP, RSQRT, SQRT, TANH, SINT, COST. -/
def transOp (old : Bool) (n p : Nat) : FRes :=
  let i := flush fmtFp32 old p
  let v := f32 i.bits
  let r := match n with
    | 0 => if old then exp2Old v else exp2Of v
    | 1 => log2Of v
    | 2 => if old then rcpOld v else rcpOf v
    | 3 => if old then rsqrtOld v else rsqrtOf v
    | 4 => sqrtOf v
    | 5 => tanhOf v
    | 6 => sincosOf false i.bits v
    | _ => sincosOf true i.bits v
  ⟨r.bits, i.fl ||| r.fl ||| (if v.finite then 0 else 1)⟩

end Sys2Proof.Machine
end

