-- ==== Sys2Proof/Machine/Codec.lean ====
section
/-! DEFINITION. The fixed-rate and lossless codecs of the activation store and of feature maps (R262 to R265, R295). -/

namespace Sys2Proof.Machine

/-! ### Fixed rate (R262 to R264) -/

/-- Group bytes and w of FIXED2, FIXED3, FIXED4 (codec 2, 3, 4) for an element format; none where not allowed (R262). -/
def fixedParams (codec fmt : Nat) : Option (Nat × Nat) :=
  match codec, fmt with
  | 2, 0 => some (384, 15)
  | 2, 1 | 2, 2 => some (192, 7)
  | 2, 3 | 2, 4 => some (96, 3)
  | 3, 0 => some (256, 10)
  | 3, 1 | 3, 2 => some (128, 5)
  | 4, 0 => some (192, 7)
  | 4, 1 | 4, 2 => some (96, 3)
  | _, _ => none

/-- A codec may carry an element format (R262). -/
def codecAllowed (codec fmt : Nat) : Bool :=
  match codec with
  | 0 | 1 => fmt ≤ 4
  | _ => (fixedParams codec fmt).isSome

/-- Encode up to 192 elements as a group of n bytes with w-bit elements (R263). -/
def encGroup (n w : Nat) (xs : List Num) : Bytes :=
  let xs := (xs ++ List.replicate (192 - xs.length) (Num.fin false 0 0)).take 192
  let body : Nat :=
    if xs.any fun v => !v.finite then 0xFF
    else match maxLg xs with
      | none => 0xFFFFFF00
      | some a =>
        let x := (max (-126) (min 127 (a + 1)) + 127).toNat
        let sj (j : Nat) : Nat := match maxLg ((xs.drop (16 * j)).take 16) with
          | none => 3
          | some b => min 3 (a - b).toNat
        let hd := (List.range 12).foldl (fun h j => h + sj j * 2 ^ (8 + 2 * j)) x
        let lim : Int := 2 ^ (w - 1) - 1
        let q (k : Nat) (v : Num) : Nat :=
          let u : Int := (x : Int) - 127 - sj (k / 16) - (w - 1)
          match v with
          | .fin s m e =>
            let r : Int := (shiftRound 0 0 m (u - e) : Nat)
            wrapN w (if s then -(min r lim) else min r lim)
          | _ => 0
        hd + 2 ^ 32 * (xs.mapIdx q).foldr (fun p a => a * 2 ^ w + p) 0
  let bs := natBytes (n - 4) body
  bs ++ natBytes 4 (crc32 bs)

/-- Elements of a group that encode non-finite data: NF (R264). -/
def groupNf (xs : List Num) : Bool := xs.any fun v => !v.finite

/-- A group's CRC matches. -/
def groupOk (g : Bytes) : Bool := bat g (g.length - 4) 4 = crc32 (g.take (g.length - 4))

/-- The 192 element patterns that a group decodes to (R264). -/
def decGroup (fmt w : Nat) (g : Bytes) : List Nat :=
  let x := bat g 0 1
  (List.range 192).map fun k =>
    if x = 0xFF then (convert fmt 0 2 0 (.nan false)).bits
    else
      let s := nfld (bat g 0 4) (9 + 2 * (k / 16)) (8 + 2 * (k / 16))
      let q := sext w (bitsAt g (32 + w * k) w)
      (convert fmt 0 1 0 (.ofInt q ((x : Int) - 127 - s - (w - 1)))).bits

/-- Element values of packed bytes of a scalar format. -/
def elemsOf (fmt : Nat) (bs : Bytes) : List Num :=
  let w := fmtBits fmt / 8
  (List.range (bs.length / w)).map fun k => decElem fmt (bat bs (w * k) w)

/-- Packed bytes of element patterns. -/
def bytesOf (fmt : Nat) (ps : List Nat) : Bytes := (ps.map fun p => natBytes (fmtBits fmt / 8) p).flatten

/-! ### Lossless (R265) -/

/-- Append v in n bits at a bit position. -/
def bitsPut (x : Nat × Nat) (v n : Nat) : Nat × Nat := (x.1 + v % 2 ^ n * 2 ^ x.2, x.2 + n)

/-- The payload of a 4 KiB input block of element width e, before the RAW rule. -/
def losslessPayload (e : Nat) (bs : Bytes) : Bytes :=
  let n := bs.length / e
  let acc := (List.range ((n + 31) / 32)).foldl (fun acc sg =>
    (List.range e).foldl (fun acc p =>
      let byte (k : Nat) : Nat := (bs.getD ((32 * sg + k) * e + p) 0).toNat
      let r := byte 0
      let d (k : Nat) : Nat := if 32 * sg + k < n then byte k ^^^ r else 0
      let o := (List.range 31).foldl (fun o k => o ||| d (k + 1)) 0
      let b := if o = 0 then 0 else o.log2 + 1
      (List.range 31).foldl (fun acc k => bitsPut acc (d (k + 1)) b) (bitsPut (bitsPut acc b 4) r 8)) acc) (0, 0)
  natBytes ((acc.2 + 7) / 8) acc.1

/-- Encode one input block: header, payload, padding to 32 bytes. -/
def losslessEnc (e : Nat) (bs : Bytes) : Bytes :=
  let p := losslessPayload e bs
  let raw := 4096 < p.length
  let pay := if raw then bs else p
  let st := natBytes 4 (pay.length + (if raw then 65536 else 0)) ++ natBytes 4 (crc32 bs) ++ pay
  st ++ List.replicate (roundUp st.length 32 - st.length) 0

/-- Stored length of the block whose header starts a byte string. -/
def losslessLen (h : Bytes) : Nat := roundUp (8 + bat h 0 2) 32

/-- Decode one stored block of n input bytes; the flag says its CRC matches. -/
def losslessDec (e n : Nat) (st : Bytes) : Bytes × Bool :=
  let len := bat st 0 2
  let pay := (st.drop 8).take len
  let out :=
    if bat st 2 1 % 2 = 1 then pay.take n
    else
      let ne := n / e
      -- planes of each segment: (values, bit position)
      let segs := (List.range ((ne + 31) / 32)).foldl (fun (acc : List (List Nat) × Nat) _ =>
        (List.range e).foldl (fun (acc : List (List Nat) × Nat) _ =>
          let b := bitsAt pay acc.2 4
          let r := bitsAt pay (acc.2 + 4) 8
          let vs := (List.range 31).map fun k => bitsAt pay (acc.2 + 12 + b * k) b ^^^ r
          (acc.1 ++ [r :: vs], acc.2 + 12 + 31 * b)) acc) ([], 0)
      (List.range n).map fun i =>
        let el := i / e
        BitVec.ofNat 8 ((segs.1.getD (el / 32 * e + i % e) []).getD (el % 32) 0)
  (out, crc32 out = bat st 4 4)

/-! ### Feature-map codes (R295) -/

/-- Codec and element format of a feature-map CODEC. -/
def fmCodec : Nat → Option (Nat × Nat)
  | 0x10 => some (2, 0) | 0x11 => some (2, 1) | 0x12 => some (2, 2) | 0x13 => some (2, 3) | 0x14 => some (2, 4)
  | 0x15 => some (3, 0) | 0x16 => some (3, 1) | 0x17 => some (3, 2)
  | 0x18 => some (4, 0) | 0x19 => some (4, 1) | 0x1A => some (4, 2)
  | _ => none

end Sys2Proof.Machine
end

