-- ==== Sys2Proof/Machine/ChainDesc.lean ====
section
/-! DEFINITION. The chain descriptor and its stages (R197 to R199), its checks (R192), and the SRAM ranges a chain reads and
writes (R200). -/

namespace Sys2Proof.Machine

/-- A chain stage (R198). -/
structure CStage where
  w : Nat
  deriving DecidableEq, Repr

namespace CStage

/-- OP. -/
def op (g : CStage) : Nat := nfld g.w 7 0
/-- DEST: U rather than V. -/
def destU (g : CStage) : Bool := g.w.testBit 8
/-- Source codes of A, B and C. -/
def src (g : CStage) (k : Nat) : Nat := nfld g.w (13 + 4 * k) (10 + 4 * k)
/-- Negation of A, B and C. -/
def neg (g : CStage) (k : Nat) : Bool := g.w.testBit (22 + k)
/-- IMM. -/
def imm (g : CStage) : Nat := nfld g.w 63 32

/-- Sources that an OP takes, and its cost in lane-cycles; none for a reserved OP, or one that 2.x lacks (R199, R205). -/
def menu (old : Bool) (op : Nat) : Option (Nat × Nat) :=
  if op = 0x01 then some (1, 1)
  else if op = 0x02 ∨ op = 0x03 ∨ op = 0x05 ∨ op = 0x06 then some (2, 1)
  else if op = 0x04 ∨ op = 0x07 ∨ op = 0x08 then some (3, 1)
  else if 0x10 ≤ op ∧ op ≤ 0x17 then some (1, 4)
  else if old then none
  else if op = 0x18 then some (1, 8)
  else if op = 0x19 then some (1, 9)
  else if op = 0x20 then some (1, 1)
  else none

/-- Source codes that the stage reads. -/
def srcs (g : CStage) : List Nat := (List.range ((menu false g.op).getD (0, 0)).1).map g.src

end CStage

/-- A chain descriptor's 160 bytes (R197). -/
structure CDesc where
  d : Bytes
  deriving DecidableEq, Repr

namespace CDesc

/-- An address field. -/
def addr (c : CDesc) (o : Nat) : Nat := bat c.d o 4 % 2 ^ 20
/-- ROWS. -/
def rows (c : CDesc) : Nat := bat c.d 40 2
/-- COLS. -/
def cols (c : CDesc) : Nat := bat c.d 42 2
/-- Pitch n in bytes: X, Y, O, T. -/
def pitch (c : CDesc) (n : Nat) : Nat := 32 * bat c.d (44 + 2 * n) 2
/-- Format n: X, Y, O, T. -/
def fmt (c : CDesc) (n : Nat) : Nat := bat c.d (52 + n) 1
/-- NSTAGE. -/
def nstage (c : CDesc) : Nat := bat c.d 56 1 % 16
/-- TAP. -/
def tap (c : CDesc) : Nat := bat c.d 56 1 / 16
/-- Rounding mode. -/
def rm (c : CDesc) : Nat := bat c.d 57 1 % 4
/-- Overflow mode. -/
def om (c : CDesc) : Nat := nfld (bat c.d 57 1) 3 2
/-- NO_OUT. -/
def noOut (c : CDesc) : Bool := (bat c.d 57 1).testBit 4
/-- Active stages. -/
def stages (c : CDesc) : List CStage := (List.range (min 8 c.nstage)).map fun k => ⟨bat c.d (96 + 8 * k) 8⟩
/-- A source code is read by some stage. -/
def uses (c : CDesc) (code : Nat) : Bool := c.stages.any fun g => g.srcs.contains code
/-- Some stage is ROWACC. -/
def rowAcc (c : CDesc) : Bool := c.stages.any (·.op = 0x20)
/-- Planes in use: X, Y, O, T. -/
def plane (c : CDesc) (n : Nat) : Bool :=
  if n = 0 then c.uses 2 else if n = 1 then c.uses 3 else if n = 2 then !c.noOut else c.tap ≠ 0
/-- Element plane address: X, Y, O, T. -/
def elemAt (c : CDesc) (n : Nat) : Nat := c.addr (if n = 3 then 24 else 8 * n)
/-- Bytes of a row's elements. -/
def rowLen (c : CDesc) (n : Nat) : Nat := rowBytes (c.fmt n) c.cols
/-- Scale plane address; that of T follows its element plane, rounded up to 32 bytes. -/
def scaleAt (c : CDesc) (n : Nat) : Nat :=
  if n = 3 then c.elemAt 3 + roundUp ((c.rows - 1) * c.pitch 3 + c.rowLen 3) 32 else c.addr (8 * n + 4)
/-- Bytes of a row's scales. -/
def rowScales (c : CDesc) (n : Nat) : Nat :=
  if fmtBlock (c.fmt n) = 0 then 0 else c.cols / fmtBlock (c.fmt n) * scaleBytes (c.fmt n)
/-- Σcost. -/
def cost (c : CDesc) : Nat := c.stages.foldl (fun a g => a + ((CStage.menu false g.op).getD (0, 0)).2) 0

/-- A format code that a plane may hold (R192, code 0x34). -/
def fmtOk (c : CDesc) (n : Nat) : Bool :=
  fmtCode (c.fmt n) && c.fmt n ≠ 0x18 && (fmtBlock (c.fmt n) = 0 || c.cols % fmtBlock (c.fmt n) = 0)

/-- Addresses that the chain uses. -/
def addrs (c : CDesc) : List Nat :=
  ((List.range 4).map fun n => if c.plane n then
      [c.elemAt n] ++ (if fmtBlock (c.fmt n) ≠ 0 ∧ n < 3 then [bat c.d (8 * n + 4) 4 % 2 ^ 20] else []) else []).flatten ++
    (if c.uses 4 || c.uses 5 || c.rowAcc then [c.addr 28] else []) ++ (if c.uses 6 then [c.addr 32] else []) ++
    (if c.uses 7 then [c.addr 36] else [])

/-- The fault code of a descriptor at an address, in the order of R192's table, or none. -/
def check (c : CDesc) (old : Bool) (at' : Nat) : Option Nat :=
  if at' % 32 ≠ 0 then some 0x36
  else if c.nstage = 0 ∨ (if old then 4 else 8) < c.nstage then some 0x30
  else if c.nstage < c.tap ∨ (old ∧ c.tap ≠ 0) then some 0x31
  else if c.stages.any fun g => (CStage.menu old g.op).isNone || g.srcs.any (12 ≤ ·) then some 0x32
  else if c.rows = 0 ∨ 4096 < c.rows ∨ c.cols = 0 then some 0x33
  else if (List.range 4).any fun n => c.plane n && !c.fmtOk n then some 0x34
  else if c.rm = 3 ∨ c.om = 3 then some 0x35
  else if c.addrs.any fun a => a % 32 ≠ 0 then some 0x36
  else none

/-- Ranges of a plane: its rows, then its scales. -/
def planeRanges (c : CDesc) (n : Nat) : List (Nat × Nat) :=
  if !c.plane n then []
  else (List.range c.rows).map (fun r => (c.elemAt n + r * c.pitch n, c.rowLen n)) ++
    (if c.rowScales n = 0 then [] else [(c.scaleAt n, c.rows * c.rowScales n)])

/-- Ranges that the chain writes: O, T, and P1 of each row. -/
def outRanges (c : CDesc) : List (Nat × Nat) :=
  c.planeRanges 2 ++ c.planeRanges 3 ++ (if c.rowAcc then (List.range c.rows).map fun r => (c.addr 28 + 8 * r + 4, 4) else [])

/-- Ranges that the chain accesses. -/
def ranges (c : CDesc) : List (Nat × Nat) :=
  c.planeRanges 0 ++ c.planeRanges 1 ++ c.outRanges ++
    (if c.uses 4 || c.uses 5 || c.rowAcc then [(c.addr 28, 8 * c.rows)] else []) ++
    (if c.uses 6 then [(c.addr 32, 4 * c.cols)] else []) ++ (if c.uses 7 then [(c.addr 36, 4 * c.cols)] else [])

end CDesc

end Sys2Proof.Machine
end

