-- ==== Sys2Proof/Machine/Records.lean ====
section
/-! DEFINITION. Failure records, detections and their classes, replay requests, suspicion, retirement and swap requests
(R387 to R398, R405 to R408, R111, R112): the shared operations that every block's chapter calls. -/

namespace Sys2Proof.Machine

/-- A logical core that runs nothing. -/
def coreIdle : Core :=
  { pri := none, fill := none, priQ := [], fillQ := [], part := none, flags := 0, mxRun := none, mxWait := none,
    redOut := none, swap := .none, lastIssue := [31, 31, 31, 31] }

/-- A physical core that nothing has been recorded of: its first test is due TEST_HOURS (24 h) after release (R399). -/
def physNew : PhysCore :=
  { retired := false, testing := false, due := false, overdue := false, deferred := false, suspect := false,
    suspectEnd := 0, dueAt := 21600000000000, errors := 0 }

namespace State

/-- A logical core. -/
def core (s : State) (c : Nat) : Core := tget s.cores coreIdle c

/-- Store a logical core. -/
def setCore (s : State) (c : Nat) (x : Core) : State := { s with cores := tset s.cores coreIdle c x }

/-- A physical core. -/
def pcore (s : State) (p : Nat) : PhysCore := tget s.ras.cores physNew p

/-- Store a physical core. -/
def setPcore (s : State) (p : Nat) (x : PhysCore) : State :=
  { s with ras := { s.ras with cores := tset s.ras.cores physNew p x } }

/-- The grid position of a logical core: physical number before any spare (R108, R110). -/
def gridPhys (l : Nat) : Nat := l / 576 * 592 + l % 576

/-- The physical core that serves a logical core (R110). -/
def physOf (s : State) (l : Nat) : Nat := tget s.ras.phys (gridPhys l) l

/-- Map a logical core to a physical one. -/
def setPhysOf (s : State) (l p : Nat) : State := { s with ras := { s.ras with phys := tset s.ras.phys (gridPhys l) l p } }

/-- The logical core that a physical core serves. -/
def logicalOf (s : State) (p : Nat) : Option Nat :=
  ((List.range 576).map (p / 592 * 576 + ·)).find? fun l => s.physOf l = p && !tget s.rst.coreDown false l

/-- Spares assigned to swaps that wait or run. -/
def swapSpares (s : State) : List Nat :=
  s.cores.filterMap fun e => match e.2.swap with
    | .none => none
    | .waiting _ q | .drained _ q | .copying _ q => some q

/-- Free spares of a basin, lowest first: not retired, defective, in test, serving or assigned (R110, R395). -/
def freeSpares (s : State) (b : Nat) : List Nat :=
  let serving := (List.range 576).map fun k => s.physOf (b * 576 + k)
  let busy := s.swapSpares
  ((List.range 592).map (b * 592 + ·)).filter fun q =>
    !(serving.contains q || busy.contains q || s.sec.defects.contains q || (s.pcore q).retired || (s.pcore q).testing)

/-- SPARE_LOW when a basin's free spares fall to RESERVE (R412). -/
def spareLow (before : Nat) (s : State) (b : Nat) : State :=
  let r := s.g .ras 0 Off.rasTestcfg 3 0
  if before > r ∧ (s.freeSpares b).length ≤ r then s.raise .ras 0 Ev.rasSpareLow else s

/-- The error log register that a failure record carries beside EVENT (R407). -/
def errlogOf (s : State) (b : Blk) (i : Nat) : Word :=
  match b with
  | .sdm => s.rd (pageBase .sdm i + Off.sdmErrlog)
  | .mem => s.rd (pageBase .mem i + Off.memErrlog)
  | .fab => s.rd (pageBase .fab i + Off.fabErrlog)
  | _ => 0

/-- Write a failure record (R405): corrected records of one source and KIND within 1 s merge; a full ring replaces the
oldest corrected record or drops the new one; recoverable and fatal records also go to flash. -/
def putRecord (s : State) (r : FRec) : State :=
  let logid := s.g .dev 0 Off.devFabid 15 0
  let fw := s.g .sec 0 Off.secBoot 63 32
  let r := { r with seq := s.ras.nextSeq, time := s.now, logid := logid, fw := fw, draw := s.free }
  let same (q : FRec) : Bool := r.sev = 2 && q.sev = 2 && q.source = r.source && q.inst = r.inst && q.kind = r.kind &&
    r.time.toNat - q.time.toNat ≤ 250000000
  if s.ras.pending.any same then
    let l := s.ras.pending.map fun q => if same q then { q with count := q.count + 1 } else q
    { s with ras := { s.ras with pending := l } }
  else
    let h := if r.sev = 2 then s.ras.history else (s.ras.history ++ [r]).drop (s.ras.history.length - 4095)
    let s : State := { s with free := s.free + 44, ras := { s.ras with nextSeq := s.ras.nextSeq + 1, history := h } }
    let s := s.bump .tlm 0 (0x200 + 8 * 23) 1
    if s.ras.pending.length < 199 then { s with ras := { s.ras with pending := s.ras.pending ++ [r] } }
    else match s.ras.pending.findIdx? (fun q => q.sev = 2) with
      | some k => { s with ras := { s.ras with pending := s.ras.pending.eraseIdx k ++ [r] } }
      | none => (s.bump .ras 0 (0x200 + 8 * 11) 1).raise .ras 0 Ev.rasLogOverflow

/-- The basin that a failure record names: 0xF outside basins. -/
def basinOf : Blk → Nat → Nat
  | .cor, i => i / 576
  | .sdm, i | .sth, i | .act, i | .shl, i => i
  | _, _ => 0xF

/-- Write a failure record of a source page (R407). -/
def record (s : State) (b : Blk) (i kind outcome sev : Nat) (phys : Nat := 0xFFFF) (step : Word := 0) (attempt : Nat := 0)
    (detail : Nat := 0) (addr : Nat := 0) : State :=
  s.putRecord
    { seq := 0, source := typeCode b, kind := kind, inst := i, phys := phys, step := step, attempt := attempt,
      outcome := outcome, basin := basinOf b i, detail := detail, addr := addr, time := 0, count := 1, sev := sev,
      regs := s.rd (pageBase b i + Off.event), elog := s.errlogOf b i, logid := 0, fw := 0, draw := 0 }

/-- ATTEMPT of the open step (R370). -/
def attempt (s : State) : Nat := s.g .red 0 Off.redStepstat 59 56

/-- Latch a replay request (R391). A detection for the step already latched merges; one for another step takes the
latch (DEDUCED; Assumption 10). -/
def requestReplay (s : State) (step : Word) (attempt : Nat) : State :=
  let w := s.rd (pageBase .ras 0 + Off.rasReplay)
  if bit w 63 ∧ fld w 47 0 = step.toNat % 2 ^ 48 then s
  else
    let w' := BitVec.ofNat 64 (2 ^ 63 + attempt % 16 * 2 ^ 56 + step.toNat % 2 ^ 48)
    ((((s.wr (pageBase .ras 0 + Off.rasReplay) w').bump .ras 0 (0x200 + 8 * 2) 1).bump .tlm 0 (0x200 + 8 * 10) 1).raise
      .ras 0 Ev.rasReplayNeeded)

/-- Request a spare swap of a logical core (R111, R112): absorbed while one waits or runs, except that a retirement
takes over a waiting test swap (R414); refused with a failure record when the basin has no free spare. -/
def requestSwap (s : State) (c : Nat) (forTest : Bool) : State :=
  let x := s.core c
  match x.swap with
  | .none =>
    match s.freeSpares (c / 576) with
    | [] => s.record .cor c 0x0D 4 0 (phys := s.physOf c)
    | q :: _ =>
      let n := (s.freeSpares (c / 576)).length
      spareLow n (s.setCore c { x with swap := .waiting forTest q }) (c / 576)
  | .waiting t q => s.setCore c { x with swap := .waiting (t && forTest) q }
  | .drained t q => s.setCore c { x with swap := .drained (t && forTest) q }
  | .copying t q => s.setCore c { x with swap := .copying (t && forTest) q }

/-- A core leaves the map with no spare to take its place (last row of R112). -/
def coreLost (s : State) (c : Nat) : State :=
  ({ s with rst := { s.rst with coreDown := tset s.rst.coreDown false c true } }.latchFault .cor c true).setBasinReady
    (c / 576) false

/-- Retired cores of a basin in the flash list (R397). -/
def retiredIn (s : State) (b : Nat) : Nat := (s.ras.retired.filter fun p => p / 592 = b).length

/-- Enter a physical core in the retirement list, with its record, counters and events; a 17th retirement of a basin marks it
EXHAUSTED (R397, R398). -/
def retireMark (s : State) (p : Nat) : State :=
  let b := p / 592
  let n := (s.freeSpares b).length
  let full := s.retiredIn b ≥ 16
  let s := s.setPcore p { s.pcore p with retired := true, due := false, testing := false, deferred := false }
  let ex := if full then s.ras.exhausted ||| BitVec.ofNat 4 (2 ^ b) else s.ras.exhausted
  let s := { s with ras := { s.ras with retired := s.ras.retired ++ [p], exhausted := ex } }
  let s := s.record .ras 0 0x0D (if full then 5 else 3) (if full then 1 else 0) (phys := p)
  let s := (s.bump .ras 0 (0x200 + 8 * 6) 1).bump .tlm 0 (0x200 + 8 * 15) 1
  spareLow n (s.raise .ras 0 Ev.rasCoreRetired) b

/-- Retire a physical core (R397, R398): its logical core swaps to a spare, or leaves the map. -/
def retire (s : State) (p : Nat) : State :=
  if (s.pcore p).retired then s else
  let b := p / 592
  let full := s.retiredIn b ≥ 16
  let lg := s.logicalOf p
  let s := s.retireMark p
  match lg with
  | none => s
  | some l => if full ∨ s.freeSpares b = [] then s.coreLost l else s.requestSwap l false

/-- Ticks of 4 ns in h hours. -/
def hours (h : Nat) : Word := BitVec.ofNat 64 (h * 900000000000)

/-- A replay-class detection on a physical core (R397). -/
def coreError (s : State) (p : Nat) : State :=
  let x := s.pcore p
  let s := s.bump .tlm 0 (0x200 + 8 * 11) 1
  let x := { x with errors := min 65535 (x.errors + 1) }
  if x.suspect then (s.setPcore p x).retire p
  else
    let e := s.now + hours (24 * s.g .ras 0 Off.rasTestcfg 39 32)
    (s.setPcore p { x with suspect := true, suspectEnd := e, dueAt := s.now, due := true }).raise .ras 0 Ev.rasCoreSuspect

/-- Report a corrected detection (R390). -/
def corrected (s : State) (b : Blk) (i kind : Nat) (phys : Nat := 0xFFFF) (addr : Nat := 0) : State :=
  (s.bump .ras 0 (0x200 + 8 * 1) 1).record b i kind 0 2 (phys := phys) (addr := addr)

/-- Report an uncorrected detection (R390): replay class in work of a nonzero step, else unstepped. The OUTCOME of an
unstepped record is not in R407, and is a free value. -/
def detected (s : State) (b : Blk) (i kind : Nat) (step : Word) (phys : Option Nat := none) (detail : Nat := 0)
    (addr : Nat := 0) : State :=
  let s := s.bump .ras 0 (0x200 + 8 * 0) 1
  let ph := phys.getD 0xFFFF
  if step = 0 then
    let (o, s) := s.freeByte
    s.record b i kind o.toNat 0 (phys := ph) (detail := detail) (addr := addr)
  else
    let a := s.attempt
    let s := s.requestReplay step a
    let s := s.record b i kind 1 0 (phys := ph) (step := step) (attempt := a) (detail := detail) (addr := addr)
    match phys with
    | some p => s.coreError p
    | none => s

end State

end Sys2Proof.Machine
end

