-- ==== Sys2Proof/Machine/Memory.lean ====
section
/-! DEFINITION. Stacked DRAM, DIMM space, host memory, the translation directory and its faults (R208 to R232). -/

namespace Sys2Proof.Machine

/-! ### Bytes -/

/-- n bytes of memory from an MPA; an unlisted byte reads 0 (DESIGN CHOICE; Assumption 1). -/
def rdBytes (m : List Host.Cell) (a n : Nat) : Bytes := (List.range n).map fun k => tget m 0 (a + k)

/-- Store bytes from an MPA, keeping the canonical form. -/
def wrBytes (m : List Host.Cell) : Nat → Bytes → List Host.Cell
  | _, [] => m
  | a, b :: t => wrBytes (tset m 0 a b) (a + 1) t

/-- The canonical form of memory: addresses strictly rising, no entry that reads as an unlisted byte. -/
def Memory.wf (m : List Host.Cell) : Bool := twf (0 : Byte) m

/-- Where an MPA lies (R208). -/
inductive Region where
  | stacked (b : Nat) | dimm (d : Nat) | host | unmapped
  deriving DecidableEq, Repr

/-- What an access meets below translation. -/
inductive PRes where
  | ok | held | hostDown
  deriving DecidableEq, Repr

namespace State

/-- Channels of the DIMM space, ascending (R216). -/
def dimmChans (s : State) : List Nat :=
  let u := s.g .xlt 0 Off.xltDspace 39 16
  (List.range 24).filter u.testBit

/-- S, the size of the DIMM space in bytes (R216). -/
def dimmSize (s : State) : Nat := s.dimmChans.length * (s.g .xlt 0 Off.xltDspace 15 0 * 1000000000)

/-- The region of an MPA (R208). -/
def region (s : State) (a : Nat) : Region :=
  if a < 0x1000000000 then .stacked (a / 0x400000000)
  else if 0x80000000000 ≤ a ∧ a < 0x80000000000 + s.dimmSize then .dimm (a - 0x80000000000)
  else if 0x10000000000000 ≤ a ∧ a < 0x20000000000000 then .host
  else .unmapped

/-- A range lies inside one region of R208: one basin's stacked DRAM counts with the others as one region. -/
def mapped (s : State) (a n : Nat) : Bool :=
  (a + n ≤ 0x1000000000) ||
  (0x80000000000 ≤ a && a + n ≤ 0x80000000000 + s.dimmSize) ||
  (0x10000000000000 ≤ a && a + n ≤ 0x20000000000000)

/-- Channel and channel offset of a DIMM space offset (R216). -/
def chanOf (s : State) (d : Nat) : Nat × Nat :=
  let cs := s.dimmChans
  let u := d / 256
  (cs.getD (u % cs.length) 0, u / cs.length * 256 + d % 256)

/-- The MPA of the poison unit that holds an MPA: a 32-byte word of stacked DRAM (R211), a 64-byte line elsewhere
(R217). -/
def wordOf (s : State) (a : Nat) : Nat :=
  match s.region a with
  | .stacked _ => a / 32 * 32
  | _ => a / 64 * 64

/-- Size of the poison unit at an MPA. -/
def wordLen (s : State) (a : Nat) : Nat :=
  match s.region a with
  | .stacked _ => 32
  | _ => 64

/-- The 256-byte units that a range touches, as (start, length). -/
def units : Nat → Nat → Nat → List (Nat × Nat)
  | 0, _, _ => []
  | _, _, 0 => []
  | f + 1, a, n =>
    let k := min n (256 - a % 256)
    (a, k) :: units f (a + k) (n - k)

/-- 256-byte units of a range. -/
def unitsOf (a n : Nat) : List (Nat × Nat) := units (n / 256 + 2) a n

/-- The host link is up (R81). -/
def hostUp (s : State) : Bool := s.g .hlk 0 Off.hlkLink 2 0 = 2

/-- Whether an access to a range can proceed (R39, R219): a basin or channel in reset, or quiesced (R59), holds it; a failed channel does
not; host memory needs the link, and waits while it retrains (R81). -/
def physRes (s : State) (a n : Nat) : PRes :=
  match s.region a with
  | .stacked _ =>
    if (unitsOf a n).all fun u => let b := u.1 / 0x400000000; s.ready .sdm b && !s.quiet .sdm b then .ok else .held
  | .dimm _ =>
    if (unitsOf a n).all fun u =>
      let c := (s.chanOf (u.1 - 0x80000000000)).1
      (s.ready .mem c || s.faulted .mem c) && !s.quiet .mem c then .ok else .held
  | .host => if s.hostUp then .ok else if s.g .hlk 0 Off.hlkLink 2 0 = 3 then .held else .hostDown
  | .unmapped => .held

/-- A unit lies on a failed DIMM channel (R219). -/
def onFailed (s : State) (a : Nat) : Bool :=
  match s.region a with
  | .dimm d => let c := (s.chanOf d).1; !s.ready .mem c && s.faulted .mem c
  | _ => false

/-- A range holds a poisoned word, or lies on a failed channel (R211, R217, R219). -/
def physPoison (s : State) (a n : Nat) : Bool :=
  (unitsOf a n).any fun u => s.onFailed u.1 ||
    (List.range (u.2 / 32 + 2)).any fun k =>
      let w := s.wordOf (u.1 + 32 * k)
      decide (w < u.1 + u.2 ∧ u.1 < w + s.wordLen u.1) && tget s.mem.poison false w

/-- Count bytes read or written (R213, R220). -/
def countBytes (s : State) (a n : Nat) (write : Bool) : State :=
  (unitsOf a n).foldl (fun s u => match s.region u.1 with
    | .stacked b => s.bump .sdm b (0x200 + (if write then 40 else 32)) u.2
    | .dimm d => s.bump .mem (s.chanOf d).1 (0x200 + (if write then 40 else 32)) u.2
    | _ => s) s

/-- Set or clear poison of a word. -/
def setPoison (s : State) (w : Nat) (v : Bool) : State :=
  { s with mem := { s.mem with poison := tset s.mem.poison false w v } }

/-- Clear the poison of every word that a write covers whole (R211, R217). -/
def clearPoison (s : State) (a n : Nat) : State :=
  (List.range (n / 32 + 2)).foldl (fun s k =>
    let w := s.wordOf (a + 32 * k)
    if a ≤ w ∧ w + s.wordLen w ≤ a + n then s.setPoison w false else s) s

/-- Poisoned DIMM lines that a write covers in part: each counts in UE of its channel and stays poisoned (R217). -/
def countPartial (s : State) (a n : Nat) : State :=
  [a, a + n - 1].foldl (fun s x =>
    let w := s.wordOf x
    match s.region x with
    | .dimm d => if (a ≤ w ∧ w + 64 ≤ a + n) ∨ !tget s.mem.poison false w ∨ (x ≠ a ∧ s.wordOf a = w) then s
      else (s.bump .mem (s.chanOf d).1 (0x200 + 8) 1).bump .tlm 0 (0x200 + 8 * 19) 1
    | _ => s) s

/-- Poison every word of a range. -/
def poisonRange (s : State) (a n : Nat) : State :=
  (List.range (n / 32 + 2)).foldl (fun s k =>
    let w := s.wordOf (a + 32 * k)
    if w < a + n then s.setPoison w true else s) s

/-- Store bytes at an MPA (R211, R217): a failed channel discards them, counts UE and reports to RAS (R219). -/
def storePhys (s : State) (a : Nat) (bs : Bytes) : State :=
  (unitsOf a bs.length).foldl (fun s u =>
    if s.onFailed u.1 then
      let c := (s.chanOf (u.1 - 0x80000000000)).1
      ((s.bump .mem c (0x200 + 8) 1).bump .tlm 0 (0x200 + 8 * 19) 1).detected .mem c 0x07 0 (addr := u.1)
    else
      let m := wrBytes s.mem.bytes u.1 ((bs.drop (u.1 - a)).take u.2)
      { s with mem := { s.mem with bytes := m } }) (((s.countPartial a bs.length).clearPoison a bs.length).countBytes a bs.length true)

/-! ### The directory (R221 to R225) -/

/-- A slice's entries, most recently used first. -/
def slice (s : State) (n : Nat) : List Xent := tget s.mem.slices [] n

/-- Store a slice. -/
def setSlice (s : State) (n : Nat) (es : List Xent) : State :=
  { s with mem := { s.mem with slices := tset s.mem.slices [] n es } }

end State

/-- Size of an entry's page. -/
def Xent.size (e : Xent) : Nat := 2 ^ e.log2

/-- An entry covers a VA. -/
def Xent.covers (e : Xent) (va : Nat) : Bool := e.va ≤ va && va < e.va + e.size

/-- An entry meets a VA range. -/
def Xent.meets (e : Xent) (va n : Nat) : Bool := e.va < va + n && va < e.va + e.size

/-- Flag bits of bytes 16 and 17 (R223). -/
def Xent.readable (e : Xent) : Bool := e.flags.toNat.testBit 1
def Xent.writable (e : Xent) : Bool := e.flags.toNat.testBit 2
def Xent.pinned (e : Xent) : Bool := e.flags.toNat.testBit 3
def Xent.cow (e : Xent) : Bool := e.flags.toNat.testBit 4
/-- The entry may stand in a slice (R223). -/
def Xent.allows (e : Xent) (sl : Nat) : Bool := let m := nfld e.flags.toNat 11 8; m = 0 || m.testBit sl

/-- What a lookup gives (R225). -/
inductive XRes where
  | hit (pa avail : Nat) | cow (e : Xent) | perm | miss
  deriving DecidableEq, Repr

/-- What a translated access gives. -/
inductive VRes where
  | ok (bs : Bytes) (poison : Bool) (s : State)
  | cow (va : Nat)
  /-- held: a fault, or memory that is not ready -/
  | held
  | hostDown
  deriving DecidableEq, Repr

namespace State

/-- Translate one VA in a slice (R225). -/
def translate (s : State) (sl va : Nat) (write : Bool) : XRes :=
  match (s.slice sl).find? (·.covers va) with
  | none => .miss
  | some e =>
    if write then
      if e.writable then
        if e.cow && decide (2 ≤ e.ref.toNat) then .cow e else .hit (e.pa + (va - e.va)) (e.size - (va - e.va))
      else .perm
    else if e.readable then .hit (e.pa + (va - e.va)) (e.size - (va - e.va)) else .perm

/-- Make the entry that covers a VA the most recently used. -/
def touch (s : State) (sl va : Nat) : State :=
  match (s.slice sl).find? (·.covers va) with
  | none => s
  | some e => s.setSlice sl (e :: (s.slice sl).filter (· ≠ e))

/-- Translate a range page by page: (VA, MPA, length) pieces, or the VA that fails and how. -/
def pieces (s : State) (sl : Nat) (write : Bool) : Nat → Nat → Nat → Except (Nat × XRes) (List (Nat × Nat × Nat))
  | _, _, 0 => .ok []
  | 0, va, _ => .error (va, .miss)
  | f + 1, va, n =>
    match s.translate sl va write with
    | .hit pa av =>
      match pieces s sl write f (va + min n av) (n - min n av) with
      | .ok t => .ok ((va, pa, min n av) :: t)
      | .error e => .error e
    | r => .error (va, r)

/-- Pieces of a VA range. -/
def piecesOf (s : State) (sl va n : Nat) (write : Bool) : Except (Nat × XRes) (List (Nat × Nat × Nat)) :=
  s.pieces sl write (n / 4096 + 2) va n

/-- Count a write returned with the COW indication (R232). -/
def countCow (s : State) : State := s.bump .xlt 0 (0x200 + 40) 1

/-- Read n bytes at a VA through a slice (R221, R225). -/
def vread (s : State) (sl va n : Nat) : VRes :=
  match s.piecesOf sl va n false with
  | .error _ => .held
  | .ok ps =>
    if ps.any fun p => s.physRes p.2.1 p.2.2 = .hostDown then .hostDown
    else if ps.any fun p => s.physRes p.2.1 p.2.2 = .held then .held
    else
      let bs := (ps.map fun p => rdBytes s.mem.bytes p.2.1 p.2.2).flatten
      let po := ps.any fun p => s.physPoison p.2.1 p.2.2
      .ok bs po (ps.foldl (fun s p => (s.touch sl p.1).countBytes p.2.1 p.2.2 false) s)

/-- Write bytes at a VA through a slice. -/
def vwrite (s : State) (sl va : Nat) (bs : Bytes) : VRes :=
  match s.piecesOf sl va bs.length true with
  | .error (v, .cow _) => .cow v
  | .error _ => .held
  | .ok ps =>
    if ps.any fun p => s.physRes p.2.1 p.2.2 = .hostDown then .hostDown
    else if ps.any fun p => s.physRes p.2.1 p.2.2 = .held then .held
    else .ok [] false (ps.foldl (fun s p => (s.touch sl p.1).storePhys p.2.1 (bsub bs (p.1 - va) p.2.2)) s)

/-- Write a range poisoned (R389). -/
def vpoison (s : State) (sl va n : Nat) : State :=
  match s.piecesOf sl va n true with
  | .ok ps => ps.foldl (fun s p => s.poisonRange p.2.1 p.2.2) s
  | .error _ => s

/-- Read a structure: its bytes when it can be read and holds no poison. -/
def vget (s : State) (sl va n : Nat) : Option (Bytes × State) :=
  match s.vread sl va n with
  | .ok bs false s' => some (bs, s')
  | _ => none

/-- Write a structure where translation allows it; otherwise nothing is written. -/
def vput (s : State) (sl va : Nat) (bs : Bytes) : State :=
  match s.vwrite sl va bs with
  | .ok _ _ s' => s'
  | _ => s

end State

/-! ### Page descriptors (R223, R224) -/

/-- The 32 bytes of an entry, with VALID 1 and its DCRC. -/
def Xent.bytes (e : Xent) : Bytes :=
  let body := natBytes 8 (e.va + e.log2) ++ natBytes 8 e.pa ++ natBytes 2 e.flags.toNat ++ natBytes 2 e.ref.toNat ++
    natBytes 4 e.tag.toNat ++ natBytes 4 0
  body ++ natBytes 4 (crc32 body)

/-- The entry that descriptor bytes name. -/
def Xent.ofBytes (d : Bytes) : Xent :=
  { va := bat d 0 8 / 4096 * 4096 % 2 ^ 57
    log2 := bat d 0 8 % 64
    pa := bat d 8 8 / 4096 * 4096 % 2 ^ 53
    flags := BitVec.ofNat 16 (bat d 16 2)
    ref := BitVec.ofNat 16 (bat d 18 2)
    tag := BitVec.ofNat 32 (bat d 20 4) }

/-- VALID of descriptor bytes. -/
def descValid (d : Bytes) : Bool := bat d 16 1 % 2 = 1

/-- DCRC of descriptor bytes matches. -/
def descCrcOk (d : Bytes) : Bool := bat d 28 4 = crc32 (d.take 28)

/-- No reserved bit of descriptor bytes is set (R223). -/
def descReservedOk (d : Bytes) : Bool :=
  bat d 0 8 / 2 ^ 57 = 0 && nfld (bat d 0 8) 11 6 = 0 && bat d 8 8 / 2 ^ 53 = 0 && bat d 8 8 % 4096 = 0 &&
  nfld (bat d 16 2) 7 5 = 0 && nfld (bat d 16 2) 15 12 = 0 && bat d 24 4 = 0

/-- LOG2SIZE lies in 12 to 30 and both bases are multiples of the page size. -/
def descSizeOk (d : Bytes) : Bool :=
  let e := Xent.ofBytes d
  12 ≤ e.log2 && e.log2 ≤ 30 && e.va % e.size = 0 && e.pa % e.size = 0

/-- Entries of a slice that a new descriptor may not displace: all pinned (R227). -/
def sliceCap : Nat := 16384
/-- Pinned entries a slice may hold (R222). -/
def pinCap : Nat := 12288

/-- Pinned entries of a slice. -/
def pinnedIn (es : List Xent) : Nat := (es.filter (·.pinned)).length

/-- Refusal of an entry by a slice: 1 OVERLAP, 4 FULL, 5 PIN_LIMIT, 0 none (R227). -/
def sliceRefusal (es : List Xent) (e : Xent) : Nat :=
  if es.any fun x => x.meets e.va e.size then 1
  else if e.pinned ∧ pinnedIn es ≥ pinCap then 5
  else if es.length ≥ sliceCap ∧ es.all (·.pinned) then 4
  else 0

/-- Enter an entry, evicting the least recently used unpinned entry of a full slice; the flag says one was evicted. -/
def sliceEnter (es : List Xent) (e : Xent) : List Xent × Bool :=
  if es.length ≥ sliceCap then
    match es.reverse.find? (fun x => !x.pinned) with
    | some v => (e :: es.filter (· ≠ v), true)
    | none => (e :: es, false)
  else (e :: es, false)

namespace State

/-- Enter an entry into a slice, counting an eviction (R232). -/
def installIn (s : State) (sl : Nat) (e : Xent) : State :=
  let r := sliceEnter (s.slice sl) e
  let s := s.setSlice sl r.1
  if r.2 then s.bump .xlt 0 (0x200 + 32) 1 else s

/-! ### XLT_CMD (R227) -/

/-- Slices that a command acts on: all four when SLICES is 0. -/
def cmdSlices (m : Nat) : List Nat := (List.range 4).filter fun k => m % 16 = 0 || m.testBit k

/-- The 32 bytes in XLT_CMDDATA0 to 3. -/
def cmdData (s : State) : Bytes :=
  ((List.range 4).map fun n => natBytes 8 (s.rd (pageBase .xlt 0 + Off.xltCmddata + 8 * n)).toNat).flatten

/-- Put 32 bytes into XLT_CMDDATA0 to 3. -/
def setCmdData (s : State) (d : Bytes) : State :=
  (List.range 4).foldl (fun s n => s.wr (pageBase .xlt 0 + Off.xltCmddata + 8 * n) (BitVec.ofNat 64 (bat d (8 * n) 8))) s

/-- Faults that meet a VA range in some slices search the map again (R231). -/
def research (s : State) (m va n : Nat) : State :=
  let fs := s.mem.faults.map fun f =>
    if (cmdSlices m).contains f.slice && decide (va < f.va + 1 ∧ f.va < va + n) then { f with stage := .search } else f
  { s with mem := { s.mem with faults := fs } }

/-- XLT_CMD as software wrote it, with the action running. -/
def cmdStart (s : State) (op m : Nat) : State :=
  let a := pageBase .xlt 0 + Off.xltCmd
  s.wr a (putFld (putFld (putFld (putFld (s.rd a) 7 0 op) 51 48 m) 63 63 1) 55 52 0)

/-- A command ends: RESULT and REFUSED are set, GO clears and CMD_DONE is raised. -/
def cmdEnd (s : State) (result refused : Nat) : State :=
  let a := pageBase .xlt 0 + Off.xltCmd
  (s.wr a (putFld (putFld (putFld (s.rd a) 39 32 result) 55 52 refused) 63 63 0)).raise .xlt 0 Ev.xltCmdDone

/-- Checks of INSTALL that no slice decides: 0 passes, 2 BAD_DESC, 3 BAD_PA. -/
def descCheck (s : State) (d : Bytes) : Nat :=
  let e := Xent.ofBytes d
  if !(descValid d && descReservedOk d && descCrcOk d && descSizeOk d) then 2
  else if !s.mapped e.pa e.size then 3
  else 0

/-- INSTALL (R227). -/
def xltInstall (s : State) (m : Nat) : State :=
  let d := s.cmdData
  let e := Xent.ofBytes d
  let s := s.cmdStart 1 m
  let acts := (cmdSlices m).filter (e.allows ·)
  if s.descCheck d ≠ 0 then s.cmdEnd (s.descCheck d) 0
  else if acts = [] then s.cmdEnd 2 0
  else
    let bad := acts.filter fun k => sliceRefusal (s.slice k) e ≠ 0
    match bad with
    | k :: _ => s.cmdEnd (sliceRefusal (s.slice k) e) (bad.foldl (fun x k => x + 2 ^ k) 0)
    | [] => (acts.foldl (fun s k => s.installIn k e) s).cmdEnd 0 0

/-- UPDATE (R227). -/
def xltUpdate (s : State) (m : Nat) : State :=
  let d := s.cmdData
  let e := Xent.ofBytes d
  let s := s.cmdStart 2 m
  let same (x : Xent) : Bool := x.va = e.va && x.log2 = e.log2
  let holds := (cmdSlices m).filter fun k => (s.slice k).any same
  if !(descValid d && decide (12 ≤ e.log2 ∧ e.log2 ≤ 30) && descReservedOk d && descCrcOk d) then s.cmdEnd 2 0
  else if holds = [] then s.cmdEnd 6 0
  else if e.pinned ∧ holds.any fun k => e.allows k && decide (pinnedIn (s.slice k) ≥ pinCap) &&
      !((s.slice k).any fun x => same x && x.pinned) then s.cmdEnd 5 0
  else
    let s := holds.foldl (fun s k => s.setSlice k (
      if e.allows k then
        (s.slice k).map fun x => if same x then { x with flags := e.flags, ref := e.ref, tag := e.tag } else x
      else (s.slice k).filter fun x => !same x)) s
    (s.cmdEnd 0 0).research m e.va e.size

/-- The invalidations: entries that satisfy `p` leave the selected slices; GO stays until their accesses complete. -/
def xltInvalidate (s : State) (op m va n : Nat) (p : Xent → Bool) : State :=
  let s := s.cmdStart op m
  let s := (cmdSlices m).foldl (fun s k => s.setSlice k ((s.slice k).filter fun x => !p x)) s
  { s with mem := { s.mem with inval := some (m, va, n) } }

/-- LOOKUP (R227). -/
def xltLookup (s : State) (m : Nat) : State :=
  let va := (Xent.ofBytes s.cmdData).va
  let s := s.cmdStart 6 m
  match (cmdSlices m).findSome? fun k => (s.slice k).find? (·.covers va) with
  | some e => (s.setCmdData e.bytes).cmdEnd 0 0
  | none => s.cmdEnd 6 0

/-- Run OP on some slices; a reserved OP ends with RESULT unchanged (R8). -/
def xltRun (s : State) (op m : Nat) : State :=
  let e := Xent.ofBytes s.cmdData
  match op with
  | 1 => s.xltInstall m
  | 2 => s.xltUpdate m
  | 3 => s.xltInvalidate 3 m e.va e.size (·.meets e.va e.size)
  | 4 => s.xltInvalidate 4 m 0 (2 ^ 57) (fun x => !x.pinned)
  | 5 => s.xltInvalidate 5 m 0 (2 ^ 57) (fun _ => true)
  | 6 => s.xltLookup m
  | _ => s

/-- A command may start: the page is ready and no command runs. -/
def xltFree (s : State) : Bool := s.ready .xlt 0 && s.g .xlt 0 Off.xltCmd 63 63 = 0

/-! ### Faults (R228 to R230) -/

/-- An operation has a transfer in flight on the page of a VA. -/
def opTouches (o : Op) (va : Nat) : Bool :=
  o.xfers.any fun x => (match x.va with
    | some a => a / 4096 = va / 4096
    | none => false) || decide ((bat o.desc 8 8 + x.off) / 4096 = va / 4096)

/-- The operation of a queue that an access to a VA belongs to: the first with such a transfer, else the head. -/
def heldOp (s : State) (q va : Nat) : Option Op :=
  let l := tget s.queues [] q
  match l.find? (opTouches · va) with
  | some o => some o
  | none => l.head?

/-- Hold or resume the operation of a stream queue that accesses a VA. -/
def markHeld (s : State) (q va : Nat) (v : Bool) : State :=
  match s.heldOp q va with
  | some o =>
    let l := (tget s.queues [] q).map fun x => if x.id = o.id then { x with held := v } else x
    { s with queues := tset s.queues [] q l }
  | none => s

/-- The basin whose hub serves a stream queue (hub queues follow the 18,432 core queues). -/
def queueBasin (q : Nat) : Nat := if q < 18432 then q / 8 / 576 else (q - 18432) / 8

/-- Hold the operation that accesses a VA, and record its cursor and FAULT_HELD once per operation (R249). -/
def holdQueue (s : State) (q va : Nat) : State :=
  match s.heldOp q va with
  | none => s
  | some o =>
    if o.held then s
    else
      let s := s.markHeld q va true
      let s := if q < 18432 then
          s.wr (pageBase .cor (q / 8) + Off.corSqcur + 8 * (q % 8)) (BitVec.ofNat 64 (2 ^ 63 + o.cursor % 2 ^ 48))
        else s
      (s.raise .sth (queueBasin q) Ev.sthFaultHeld).bump .sth (queueBasin q) (0x200 + 32) 1

/-- The holder of a fault by one number: stream queues keep theirs, ring r is 30000 + r, other requesters follow by REQ
code (R232). -/
def holderKey (req h : Nat) : Nat :=
  if (1 ≤ req ∧ req ≤ 4) ∨ (req = 8 ∧ 18432 ≤ h ∧ h < 18464) then h
  else if req = 8 then 30000 + h else 40000 + 100 * req + h % 100

/-- A holder is a stream queue. -/
def isQueue (h : Nat) : Bool := h < 18464

/-- Resume what a fault held, unless another fault holds it still. -/
def resume (s : State) (f : XFault) : State :=
  let s := { s with mem := { s.mem with faults := s.mem.faults.filter (·.id ≠ f.id) } }
  f.holders.foldl (fun s h =>
    if !isQueue h.1 || s.mem.faults.any fun x => x.holders.any fun y => y.1 = h.1 then s else s.markHeld h.1 h.2 false) s

/-- The oldest host-bound fault, which XLT_HFAULT shows. -/
def hostFault (s : State) : Option XFault := s.mem.faults.find? fun f => f.stage = .queued

/-- Store a fault record. -/
def setFault (s : State) (f : XFault) : State :=
  { s with mem := { s.mem with faults := s.mem.faults.map fun x => if x.id = f.id then f else x } }

/-- Faults in the host's queue. -/
def hostQueued (s : State) : Nat := (s.mem.faults.filter fun f => f.stage = .queued).length

/-- Enter a fault into the host's queue of 64, or leave it waiting at the wellhead (R230). -/
def toHost (s : State) (f : XFault) (kind : Nat) : State :=
  if s.hostQueued < 64 then
    ((s.setFault { f with kind := kind, stage := .queued, round := f.round + 1 }).bump .xlt 0 (0x200 + 16) 1).raise .xlt 0
      Ev.xltHostFault
  else s.setFault { f with kind := kind, stage := .hostWait }

/-- A place in the host's queue has freed: the oldest waiting fault takes it. -/
def pullHost (s : State) : State :=
  match s.mem.faults.find? fun f => f.stage = .hostWait with
  | some f => if s.hostQueued < 64 then s.toHost f f.kind else s
  | none => s

/-- A translated access of a requester misses or lacks permission (R225, R228): the access is held and faults of one
slice, 4 KiB page and kind merge. -/
def missFault (s : State) (sl req va : Nat) (write : Bool) (holder : Nat) : State :=
  let k := match s.translate sl va write with
    | .miss => some 0
    | .perm => some 2
    | _ => none
  match k with
  | none => s
  | some kind =>
    let holder := holderKey req holder
    let s := if isQueue holder then s.holdQueue holder va else s
    match s.mem.faults.find? fun f => f.slice = sl && f.va / 4096 = va / 4096 && decide (f.kind = 2 ↔ kind = 2) with
    | some f => s.setFault { f with holders := f.holders ++ [(holder, va)] }
    | none =>
      let f : XFault := { id := s.mem.nextFault, slice := sl, kind := kind, va := va, write := write, req := req, round := 0,
                          stage := .search, holders := [(holder, va)] }
      let m := { s.mem with faults := s.mem.faults ++ [f], nextFault := (s.mem.nextFault + 1) % 2 ^ 32 }
      { s with mem := m }.bump .xlt 0 0x200 1

/-- A fault raised by a COW write that cannot be copied: it goes to the host with the kind given (R254). -/
def cowFault (s : State) (sl va holder kind : Nat) : State :=
  let s := s.holdQueue holder va
  match s.mem.faults.find? fun f => f.slice = sl && f.va / 4096 = va / 4096 && f.kind = kind with
  | some f => s.setFault { f with holders := f.holders ++ [(holder, va)] }
  | none =>
    let f : XFault := { id := s.mem.nextFault, slice := sl, kind := kind, va := va, write := true, req := 1, round := 0,
                        stage := .hostWait, holders := [(holder, va)] }
    let m := { s.mem with faults := s.mem.faults ++ [f], nextFault := (s.mem.nextFault + 1) % 2 ^ 32 }
    ({ s with mem := m }.bump .xlt 0 0x200 1).pullHost

/-- The bytes of map descriptor n, and whether they read poisoned; none where the MPA is not mapped (R221). -/
def mapDesc (s : State) (n : Nat) : Option (Bytes × Bool) :=
  let a := (s.rd (pageBase .xlt 0 + Off.xltMapbase)).toNat + 32 * n
  if s.mapped a 32 then some (rdBytes s.mem.bytes a 32, s.physPoison a 32) else none

/-- The map descriptor, of the first n, whose page covers a VA; holes are skipped (R226). -/
def mapFind (s : State) (va : Nat) : Nat → Option (Bytes × Bool × Nat)
  | 0 => none
  | n + 1 =>
    match s.mapDesc n with
    | some (d, p) =>
      let e := Xent.ofBytes d
      if descValid d && e.covers va then some (d, p, n) else mapFind s va n
    | none => mapFind s va n

/-- Descriptors in the page map. -/
def mapLen (s : State) : Nat := s.g .xlt 0 Off.xltMaplen 20 0

/-- What a search of the page map finds for a fault (R228, R229): an entry to install, or the kind for the host; a
failed check first asks for a second read; an access that translates by now resumes. -/
inductive Found where
  | entry (e : Xent) | recheck | kind (k : Nat) | resume
  deriving DecidableEq, Repr

/-- Search the page map for a fault; `again` says this is the second read of R229. -/
def mapSearch (s : State) (f : XFault) (again : Bool) : Found :=
  let base := (s.rd (pageBase .xlt 0 + Off.xltMapbase)).toNat
  match s.translate f.slice f.va f.write with
  | .perm => .kind 2
  | .hit _ _ | .cow _ => .resume
  | .miss =>
    if 0 < s.mapLen ∧ !s.mapped base (32 * s.mapLen) then .kind 3
    else
      match s.mapFind f.va s.mapLen with
      | none => .kind 1
      | some (d, p, _) =>
        if p || !descCrcOk d then (if again then .kind 3 else .recheck)
        else
          let e := Xent.ofBytes d
          if s.descCheck d ≠ 0 then .kind 4
          else if !e.allows f.slice then .kind 1
          else
            let rest := (s.slice f.slice).filter fun x => !x.meets e.va e.size
            if sliceRefusal rest e ≠ 0 then .kind 5 else .entry e

/-- Act on a search that has ended, up to a fault that is out of rounds, which `fail` ends (R228, R230). -/
def mapDone (s : State) (f : XFault) (again : Bool) (fail : State → XFault → State) : State :=
  match s.mapSearch f again with
  | .entry e =>
    let s := s.setSlice f.slice ((s.slice f.slice).filter fun x => !x.meets e.va e.size)
    (((s.installIn f.slice e).bump .xlt 0 (0x200 + 8) 1).resume f).pullHost
  | .recheck => s.setFault { f with stage := .recheck }
  | .resume => (s.resume f).pullHost
  | .kind k =>
    let s := if k = 3 then s.raise .xlt 0 Ev.xltMapBad else s
    if f.round ≥ 5 then fail s f else s.toHost f k

end State

/-! ### Commands: stacked DRAM and DIMM channels -/

namespace State

/-- Vault and offset of a basin offset (R210). -/
def vaultOf (s : State) (b o : Nat) : Nat := if s.g .sdm b Off.sdmCfg 16 16 = 1 then o / 2 ^ 28 else o / 1024 % 64

/-- Every byte and poison of an MPA range becomes unwritten. -/
def forget (s : State) (a n : Nat) : State :=
  let inR (k : Nat) : Bool := a ≤ k && k < a + n
  { s with mem := { s.mem with bytes := tdrop s.mem.bytes inR, poison := tdrop s.mem.poison inR } }

/-- SDM_CFG write (R210). -/
def sdmCfg (s : State) (b : Nat) (v : Word) : State :=
  let a := pageBase .sdm b + Off.sdmCfg
  let new := BitVec.ofNat 64 (fld v 16 0)
  if fld v 16 16 = fld (s.rd a) 16 16 then s.wr a new
  else if tget s.rst.quiesced false (pageBase .sdm b) then (s.wr a new).forget (b * 0x400000000) 0x400000000
  else s.raise .sdm b Ev.sdmCfgRefused

/-- Log a stacked DRAM error found by scrub (R213). -/
def sdmErr (s : State) (b o : Nat) (ue : Bool) : State :=
  let w := (if ue then 2 ^ 63 else 0) + 2 ^ 62 + s.vaultOf b o * 2 ^ 56 + o / 32 * 32
  let s := s.wr (pageBase .sdm b + Off.sdmErrlog) (BitVec.ofNat 64 w)
  let ad := b * 0x400000000 + o / 32 * 32
  if ue then
    ((((s.setPoison ad true).bump .sdm b 0x208 1).bump .tlm 0 (0x200 + 8 * 17) 1).raise .sdm b Ev.sdmUe).detected
      .sdm b 0x05 0 (addr := ad)
  else
    (((s.bump .sdm b 0x200 1).bump .tlm 0 (0x200 + 8 * 16) 1).raise .sdm b Ev.sdmCe).corrected .sdm b 0x04 (addr := ad)

/-- Log a DIMM error found by scrub (R217, R218). -/
def memErr (s : State) (ch o : Nat) (ue : Bool) (dev : Nat) : State :=
  let w := (if ue then 2 ^ 63 else 0) + 2 ^ 62 + o / 64 % 2 * 2 ^ 56 + dev * 2 ^ 52 + o / 64 * 64 % 2 ^ 48
  let s := s.wr (pageBase .mem ch + Off.memErrlog) (BitVec.ofNat 64 w)
  let cs := s.dimmChans
  let d := (o / 256 * cs.length + cs.idxOf ch) * 256 + o % 256 / 64 * 64
  let ad := 0x80000000000 + d
  if ue then
    ((((if cs.contains ch ∧ d < s.dimmSize then s.setPoison ad true else s).bump .mem ch 0x208 1).bump .tlm 0
      (0x200 + 8 * 19) 1).raise .mem ch Ev.memUe).detected .mem ch 0x07 0 (addr := ad)
  else
    (((s.bump .mem ch 0x200 1).bump .tlm 0 (0x200 + 8 * 18) 1).raise .mem ch Ev.memCe).corrected .mem ch 0x06 (addr := ad)

/-- Spare rows left in a vault. -/
def sparesLeft (s : State) (b v : Nat) : Nat := 64 - tget s.mem.spareUsed 0 (b * 64 + v)

/-- The DIMM space layout from the channels trained so far (R215): type of the used set, m in GB, channels used. -/
def dimmLayout (s : State) : Nat × Nat × List Nat :=
  let ok := (List.range 24).filterMap fun c => match tget s.rst.dimms none c with
    | some d => if d.fitted && d.supported && d.trainOk && d.spdOk then some (c, d) else none
    | none => none
  let typ := if ok.any fun x => x.2.typ.toNat = 1 then 1 else 2
  let used := ok.filter fun x => x.2.typ.toNat = typ
  (typ, (used.map (·.2.capGB.toNat)).foldl min 65535, used.map (·.1))

/-- MEM_INFO of a trained channel under a layout (R215, R220). -/
def memInfoOf (d : Dimm) (ch : Nat) (lay : Nat × Nat × List Nat) : Word :=
  if !d.fitted then 0
  else
    let st := if !d.trainOk then 4 else if !lay.2.2.contains ch then 3 else if d.capGB.toNat = lay.2.1 then 1 else 2
    let typ := if !d.spdOk then 0xFF else if d.typ.toNat = 1 ∨ d.typ.toNat = 2 then d.typ.toNat else 0xFF
    let rk := if d.spdOk then d.ranks.toNat else 0
    let cap := if d.spdOk then d.capGB.toNat else 0
    BitVec.ofNat 64 (typ * 2 ^ 56 + rk * 2 ^ 48 + cap * 2 ^ 32 + (if st = 1 ∨ st = 2 then lay.2.1 else 0) * 2 ^ 16 + st)

/-- Recompute MEM_INFO of the trained channels and XLT_DSPACE from the layout. -/
def applyLayout (s : State) : State :=
  let lay := s.dimmLayout
  let s := (List.range 24).foldl (fun s c => match tget s.rst.dimms none c with
    | some d =>
      let w := memInfoOf d c lay
      let s := s.wr (pageBase .mem c + Off.memInfo) w
      if fld w 2 0 = 3 ∧ s.g .mem c Off.event 3 3 = 0 then s.raise .mem c Ev.memMismatch else s
    | none => s) s
  let u := lay.2.2.foldl (fun x c => x + 2 ^ c) 0
  s.wr (pageBase .xlt 0 + Off.xltDspace) (BitVec.ofNat 64 (u * 2 ^ 16 + (if u = 0 then 0 else lay.2.1)))

/-- sPPR resources of a channel in use. -/
def pprUsed (s : State) (ch : Nat) : Nat := (s.mem.ppr.filter fun x => x.1 = ch).length

/-- MEM_PPR of a channel (R218): 2 × ranks × 8 resources. -/
def setPpr (s : State) (ch : Nat) : State :=
  let u := s.pprUsed ch
  let n := 16 * s.g .mem ch Off.memInfo 55 48
  s.wr (pageBase .mem ch + Off.memPpr) (BitVec.ofNat 64 (min u 64 * 2 ^ 24 + u % 256 * 2 ^ 8 + (n - u) % 256))

end State

/-- SDM_CFG_WRITE (R210). -/
def execSdmCfgWrite (basin : Nat) (v : Word) (s : State) : Host.Outcome State Fault Refusal :=
  .next (if basin < 4 then (if s.ready .sdm basin then s.sdmCfg basin v
    else s.refuse false true Ev.devEarlyAccess (pageBase .sdm basin + Off.sdmCfg)) else s)

/-- SDM_SCRUB_STEP (R212): patrol scrub reads the word at a basin offset. -/
def execSdmScrubStep (basin off : Nat) (ue ce passEnd : Bool) (s : State) : Host.Outcome State Fault Refusal :=
  .next (if basin < 4 ∧ off < 2 ^ 34 ∧ s.ready .sdm basin ∧ 0 < s.g .sdm basin Off.sdmCfg 15 8 then
    let s := if ue then s.sdmErr basin off true else if ce then s.sdmErr basin off false else s
    if passEnd then (s.bump .sdm basin 0x218 1).raise .sdm basin Ev.sdmScrubPass else s
  else s)

/-- SDM_ROW_REMAP (R212): the row's copy keeps its data and poison, so only the map and its registers change. -/
def execSdmRowRemap (basin vault row : Nat) (s : State) : Host.Outcome State Fault Refusal :=
  .next (if basin < 4 ∧ vault < 64 ∧ s.ready .sdm basin then
    let k := basin * 64 + vault
    if s.sparesLeft basin vault = 0 then s.raise .sdm basin Ev.sdmRepairExhausted
    else
      let m := { s.mem with spareUsed := tset s.mem.spareUsed 0 k (tget s.mem.spareUsed 0 k + 1)
                            remaps := s.mem.remaps ++ [(k, row)] }
      ({ s with mem := m }.bump .sdm basin 0x210 1).raise .sdm basin Ev.sdmRepairDone
  else s)

/-- MEM_SCRUB_STEP (R218): patrol scrub reads the line at a channel offset. -/
def execMemScrubStep (ch off : Nat) (ue ce : Bool) (dev : BitVec 4) (passEnd : Bool) (s : State) :
    Host.Outcome State Fault Refusal :=
  .next (if ch < 24 ∧ s.ready .mem ch ∧ s.g .mem ch Off.memInfo 2 0 ∈ [1, 2] ∧ 0 < s.g .mem ch Off.memCfg 7 0 then
    let s := if ue then s.memErr ch off true 15 else if ce then s.memErr ch off false dev.toNat else s
    if passEnd then (s.bump .mem ch 0x218 1).raise .mem ch Ev.memScrubPass else s
  else s)

/-- MEM_SPPR (R218): the lines are written back as they were, so only the resource and its registers change. -/
def execMemSppr (ch rank bankGroup sub : Nat) (s : State) : Host.Outcome State Fault Refusal :=
  .next (if ch < 24 ∧ s.ready .mem ch ∧ s.g .mem ch Off.memCfg 16 16 = 1 ∧ rank < s.g .mem ch Off.memInfo 55 48 ∧
      bankGroup < 8 ∧ sub < 2 then
    let r := (ch, (rank * 8 + bankGroup) * 2 + sub)
    if s.mem.ppr.contains r then s.raise .mem ch Ev.memPprExhausted
    else
      let m := { s.mem with ppr := s.mem.ppr ++ [r] }
      (({ s with mem := m }.setPpr ch).bump .mem ch 0x210 1).raise .mem ch Ev.memPprDone
  else s)

/-- MEM_TRAINING_DONE (R215): training after a Cold reset ends on a channel. -/
def execMemTrainingDone (ch : Nat) (d : Dimm) (s : State) : Host.Outcome State Fault Refusal :=
  .next (if ch < 24 ∧ s.clock.ddrLock ∧ !s.rst.held ∧ s.power.rails ∧ s.rst.trained.toNat.testBit ch = false ∧
      s.ready .dev 0 then
    let r := { s.rst with trained := s.rst.trained ||| BitVec.ofNat 24 (2 ^ ch)
                          dimms := tset s.rst.dimms none ch (some d) }
    let s := ({ s with rst := r }.applyLayout).setPpr ch
    if d.fitted && !d.trainOk then s.raise .mem ch Ev.memTrainFail else s.setReady .mem ch true
  else s)

/-! ### Commands: XLT_CMD -/

/-- A write of XLT_CMD with GO 1 for an OP (R227); the action waits while the page is quiesced (R59). -/
def xltGo (s : State) (op : Nat) (slices : BitVec 4) : State :=
  if !s.ready .xlt 0 then s.refuse false true Ev.devEarlyAccess (pageBase .xlt 0 + Off.xltCmd)
  else if s.xltFree then
    (if s.quiet .xlt 0 ∧ 1 ≤ op ∧ op ≤ 6 then s.cmdStart op slices.toNat else s.xltRun op slices.toNat)
  else s

/-- The action that a quiesced page held starts (R59). -/
def xltRelease (s : State) : State :=
  let w := s.rd (pageBase .xlt 0 + Off.xltCmd)
  if bit w 63 ∧ s.mem.inval.isNone then s.xltRun (fld w 7 0) (fld w 51 48) else s

/-- INSTALL (R227). -/
def execInstall (slices : BitVec 4) (s : State) : Host.Outcome State Fault Refusal := .next (xltGo s 1 slices)
/-- UPDATE (R227). -/
def execUpdate (slices : BitVec 4) (s : State) : Host.Outcome State Fault Refusal := .next (xltGo s 2 slices)
/-- INV_RANGE (R227). -/
def execInvRange (slices : BitVec 4) (s : State) : Host.Outcome State Fault Refusal := .next (xltGo s 3 slices)
/-- INV_UNPINNED (R227). -/
def execInvUnpinned (slices : BitVec 4) (s : State) : Host.Outcome State Fault Refusal := .next (xltGo s 4 slices)
/-- INV_ALL (R227). -/
def execInvAll (slices : BitVec 4) (s : State) : Host.Outcome State Fault Refusal := .next (xltGo s 5 slices)
/-- LOOKUP (R227). -/
def execLookup (slices : BitVec 4) (s : State) : Host.Outcome State Fault Refusal := .next (xltGo s 6 slices)

/-- XLT_INVALIDATION_DONE (R227, R231): GO clears, and faults on what was invalidated search the map again. -/
def execXltInvalidationDone (s : State) : Host.Outcome State Fault Refusal :=
  .next (match s.mem.inval with
    | none => s
    | some (m, va, n) =>
      let s := { s with mem := { s.mem with inval := none } }
      (s.cmdEnd 0 0).research m va n)

/-- TRANSLATION_MISS (R228). -/
def execTranslationMiss (slice req va : Nat) (write : Bool) (holder : Nat) (s : State) :
    Host.Outcome State Fault Refusal :=
  .next (if slice < 4 ∧ s.ready .xlt 0 then s.missFault slice req va write holder else s)

end Sys2Proof.Machine
end

