-- ==== Sys2Proof/Machine/Ledger.lean ====
section
/-! DEFINITION. The activation ledger: records, granules, frees and the gather map (R267 to R273). -/

namespace Sys2Proof.Machine

/-- CODEC byte of an operation's descriptor (R236). -/
def opCodec (o : Op) : Nat := bat o.desc 45 1

/-- RELEASE of a ledger key (R260). -/
def keyRelease (k : Nat) : Bool := k.testBit 57

/-- The 32 bytes of a ledger record (R270). -/
def ARec.bytes (r : ARec) : Bytes :=
  natBytes 8 r.key.toNat ++
  natBytes 8 (r.step.toNat % 2 ^ 63 + (if r.hold then 2 ^ 63 else 0)) ++
  natBytes 8 (r.va + r.tier * 2 ^ 57 + r.codec * 2 ^ 59 + (if r.poisoned then 2 ^ 62 else 0) + (if r.valid then 2 ^ 63 else 0)) ++
  natBytes 4 r.t ++ natBytes 4 r.stored

namespace State

/-- A basin's ledger records. -/
def ledger (s : State) (b : Nat) : List ARec := tget s.act [] b

/-- Store a basin's ledger. -/
def setLedger (s : State) (b : Nat) (l : List ARec) : State := { s with act := tset s.act [] b l }

/-- Write a record into the array at ACT_LEDGER.BASE (R270). -/
def writeRec (s : State) (b : Nat) (r : ARec) : State :=
  s.vput b (s.g .act b Off.actLedger 56 12 * 4096 + 32 * r.slot) r.bytes

/-- The record in a ledger slot. -/
def rec? (s : State) (b slot : Nat) : Option ARec := (s.ledger b).find? (·.slot = slot)

/-- Replace a record. -/
def putRec (s : State) (b : Nat) (r : ARec) : State :=
  (s.setLedger b ((s.ledger b).map fun x => if x.slot = r.slot then r else x)).writeRec b r

/-- Write the gather map bit of a tensor (R273). -/
def gatherBit (s : State) (b tensor : Nat) (v : Bool) : State :=
  let n := tensor % 65536
  let va := s.g .act b Off.actGccfg 56 13 * 8192 + n / 8
  match s.vget b va 1 with
  | some (bs, _) =>
    let w := leNat bs
    let w := if v then w ||| 2 ^ (n % 8) else w - (if w.testBit (n % 8) then 2 ^ (n % 8) else 0)
    s.vput b va (natBytes 1 w)
  | none => s

/-- Free a record, its granules and its ledger slot (R271). -/
def freeRec (s : State) (b : Nat) (r : ARec) : State :=
  let s := (s.setLedger b ((s.ledger b).filter (·.slot ≠ r.slot))).writeRec b { r with valid := false }
  if r.gather then s.gatherBit b (r.key.toNat % 2 ^ 32) false else s

/-- A restore of a record is in flight: a started ACT_RESTORE of the basin's queues that has not ended. -/
def restoring (s : State) (b slot : Nat) : Bool :=
  s.queues.any fun e => queueBasin e.1 = b && e.2.any fun o => opCodec o = 0x41 && o.started && o.aux.getD 0 0 = slot + 1

/-- Free a record now, or when what uses it ends (R271, R276). -/
def freeOrDue (s : State) (b : Nat) (r : ARec) : State :=
  if r.valid && !s.restoring b r.slot then s.freeRec b r
  else s.setLedger b ((s.ledger b).map fun x => if x.slot = r.slot then { x with freeDue := true } else x)

/-- A commit or skip for a step ends: its records go; those without HOLD count in LEFTOVER (R271). -/
def ledgerStepEnd (s : State) (step : Word) : State :=
  (List.range 4).foldl (fun s b =>
    let rs := (s.ledger b).filter fun r => r.step = step
    let n := (rs.filter fun r => !r.hold).length
    let s := if n = 0 then s else (s.bump .act b (0x200 + 8 * 7) n).raise .act b Ev.actLeftover
    rs.foldl (fun s r => s.freeOrDue b r) s) s

/-- A STEP_BEGIN for a step is accepted while records of it exist: those without HOLD go (R271). -/
def ledgerRestart (s : State) (step : Word) : State :=
  (List.range 4).foldl (fun s b =>
    ((s.ledger b).filter fun r => r.step = step && !r.hold).foldl (fun s r => s.freeOrDue b r) s) s

/-- An ACT Block, Basin or Warm reset: records not VALID are freed and the index is rebuilt (R271). -/
def ledgerReset (s : State) (b : Nat) : State :=
  ((s.ledger b).filter fun r => !r.valid).foldl (fun s r => s.freeRec b r) s

/-- The host link went down: every VALID record in tier 3 gets POISONED (R274). -/
def ledgerHostDown (s : State) : State :=
  (List.range 4).foldl (fun s b =>
    ((s.ledger b).filter fun r => r.valid && r.tier = 3).foldl (fun s r => s.putRec b { r with poisoned := true }) s) s

/-- The end of a save or restore, after its operation has left the queue (R268, R271). `aux` of a save holds ledger slot
+ 1 (0 when nothing is stored), units encoded and stored bytes; `aux` of a restore holds ledger slot + 1. -/
def ledgerOpEnd (s : State) (b : Nat) (o : Op) (cause : Nat) : State :=
  let k := o.aux.getD 0 0
  if k = 0 then s
  else match s.rec? b (k - 1) with
    | none => s
    | some r =>
      if opCodec o = 0x40 then
        if cause ≠ 0 then s.freeRec b r
        else
          let st := o.aux.getD 2 0
          let s := s.putRec b { r with valid := true, stored := st, ngran := (st + 65535) / 65536 }
          let s := ((s.bump .act b 0x200 1).bump .act b (0x200 + 16) r.t).bump .act b (0x200 + 24) st
          if r.freeDue then s.freeRec b { r with valid := true, stored := st, ngran := (st + 65535) / 65536 } else s
      else if opCodec o = 0x41 then
        let s := if cause = 0 then s.bump .act b (0x200 + 8) 1 else s
        let due := r.freeDue || (decide (cause = 0) && keyRelease (bat o.desc 8 8) && !r.hold)
        if due then s.freeOrDue b r else s
      else s

end State

end Sys2Proof.Machine
end

