-- ==== Sys2Proof/Machine/KvPages.lean ====
section
/-! DEFINITION. The KV page manager: records, pools, pages, reference counts and KVP_CMD (R303 to R313, R316). -/

namespace Sys2Proof.Machine

/-- A sequence record's bytes seen as fields (R305). -/
structure KvRec where
  n : Nat
  d : Bytes
  deriving DecidableEq, Repr

namespace KvRec

/-- VALID. -/
def valid (r : KvRec) : Bool := bat r.d 0 1 % 2 = 1
/-- POOL. -/
def pool (r : KvRec) : Nat := bat r.d 1 1
/-- BASIN. -/
def basin (r : KvRec) : Nat := bat r.d 2 1
/-- TOKEN_LOG2. -/
def tlog (r : KvRec) : Nat := bat r.d 3 1
/-- VC. -/
def vc (r : KvRec) : Nat := bat r.d 4 1
/-- TOKENS. -/
def tokens (r : KvRec) : Nat := bat r.d 8 8
/-- RX_TOKENS. -/
def rxTokens (r : KvRec) : Nat := bat r.d 16 8
/-- LIST_VA. -/
def listVa (r : KvRec) : Nat := bat r.d 24 8
/-- LIST_CAP. -/
def listCap (r : KvRec) : Nat := bat r.d 32 4

/-- RCRC matches and every field lies in its range. -/
def ok (r : KvRec) : Bool :=
  bat r.d 60 4 = crc32 (r.d.take 60) && bat r.d 0 1 < 2 && r.pool < 4 && r.basin < 4 && 5 ≤ r.tlog && r.tlog ≤ 12 &&
  2 ≤ r.vc && r.vc ≤ 15 && bat r.d 6 2 = 0 && r.listVa % 8 = 0 && decide (r.listVa < 2 ^ 57) && 1 ≤ r.listCap &&
  decide (r.listCap ≤ 2 ^ 20) && bat r.d 40 20 = 0

/-- Replace bytes and rewrite RCRC. -/
def put (r : KvRec) (o : Nat) (bs : Bytes) : KvRec :=
  let d := (bput r.d o bs).take 60
  { r with d := d ++ natBytes 4 (crc32 d) }

end KvRec

/-- An unallocated page list entry (R306). -/
def kvNone : Nat := 0xFFFFFFFF

namespace State

/-- k of a pool; 0 when it is not configured. -/
def poolK (s : State) (n : Nat) : Nat := s.g .kvp 0 (Off.kvpPoolcfg + 32 * n) 29 24
/-- COUNT of a pool. -/
def poolCount (s : State) (n : Nat) : Nat := s.g .kvp 0 (Off.kvpPoolcfg + 32 * n) 20 0
/-- VA of a pool page. -/
def pageVa (s : State) (n i : Nat) : Nat := s.g .kvp 0 (Off.kvpPoolbase + 32 * n) 56 14 * 2 ^ 14 + i * 2 ^ s.poolK n
/-- FREE of a pool. -/
def poolFree (s : State) (n : Nat) : Nat := s.g .kvp 0 (Off.kvpPoolstat + 32 * n) 20 0
/-- Change FREE. -/
def setPoolFree (s : State) (n v : Nat) : State := s.p .kvp 0 (Off.kvpPoolstat + 32 * n) 20 0 v
/-- VA of the bitmap byte of a page. -/
def bitmapVa (s : State) (n i : Nat) : Nat := s.g .kvp 0 (Off.kvpPoolmap + 32 * n) 56 12 * 4096 + i / 8

/-- Read a sequence record, through slice 0. -/
def kvRec (s : State) (n : Nat) : Option KvRec :=
  (s.vget 0 (s.g .kvp 0 Off.kvpSeqbase 56 12 * 4096 + 64 * n) 64).map fun x => ⟨n, x.1⟩

/-- Write a sequence record. -/
def putKv (s : State) (r : KvRec) : State := s.vput 0 (s.g .kvp 0 Off.kvpSeqbase 56 12 * 4096 + 64 * r.n) r.d

/-- A record exists at this number. -/
def seqIn (s : State) (n : Nat) : Bool := n < s.g .kvp 0 Off.kvpSeqlen 16 0

/-- Tokens of a page. -/
def perPage (s : State) (r : KvRec) : Nat := 2 ^ (s.poolK r.pool - r.tlog)

/-- The record's pool is configured and holds its tokens. -/
def poolOk (s : State) (r : KvRec) : Bool := 14 ≤ s.poolK r.pool && r.tlog ≤ s.poolK r.pool

/-- Tokens a sequence may hold. -/
def kvCap (s : State) (r : KvRec) : Nat := r.listCap * s.perPage r

/-- A page list entry. -/
def kvEntry (s : State) (r : KvRec) (i : Nat) : Option Nat := (s.vget r.basin (r.listVa + 4 * i) 4).map fun x => leNat x.1

/-- Write a page list entry. -/
def putEntry (s : State) (r : KvRec) (i v : Nat) : State := s.vput r.basin (r.listVa + 4 * i) (natBytes 4 v)

/-- MPA of a pool page's descriptor in the page map. -/
def kvDescPa (s : State) (n i : Nat) : Nat :=
  (s.rd (pageBase .xlt 0 + Off.xltMapbase)).toNat + 32 * (s.g .kvp 0 (Off.kvpPoolcfg + 32 * n) 52 32 + i)

/-- REFCOUNT of a pool page. -/
def kvRef (s : State) (n i : Nat) : Nat := leNat (rdBytes s.mem.bytes (s.kvDescPa n i + 18) 2)

/-- Write REFCOUNT and DCRC of a pool page's descriptor, and update every directory entry of the page (R311). -/
def setKvRef (s : State) (n i r : Nat) : State :=
  let a := s.kvDescPa n i
  let d := bput (rdBytes s.mem.bytes a 28) 18 (natBytes 2 r)
  let s := s.storePhys a (d ++ natBytes 4 (crc32 d))
  let e := Xent.ofBytes d
  let s := (List.range 4).foldl (fun s k => s.setSlice k ((s.slice k).map fun x =>
    if x.va = e.va ∧ x.log2 = e.log2 then { x with ref := BitVec.ofNat 16 r } else x)) s
  s.research 0 e.va e.size

/-- Write a page's bitmap bit. -/
def setKvBit (s : State) (n i : Nat) (v : Bool) : State :=
  match s.vget 0 (s.bitmapVa n i) 1 with
  | some (bs, s') =>
    let w := leNat bs
    s'.vput 0 (s.bitmapVa n i) (natBytes 1 (if v then w ||| 2 ^ (i % 8) else w - (if w.testBit (i % 8) then 2 ^ (i % 8) else 0)))
  | none => s

/-- The lowest-numbered free page of a pool. -/
def kvFree (s : State) (n : Nat) : Option Nat :=
  (List.range (s.poolCount n)).find? fun i => match s.vget 0 (s.bitmapVa n i) 1 with
    | some (bs, _) => !(leNat bs).testBit (i % 8)
    | none => false

/-- Allocate a page with REFCOUNT 1. -/
def kvAlloc (s : State) (n i : Nat) : State :=
  let s := s.setPoolFree n (s.poolFree n - 1)
  ((s.setKvRef n i 1).setKvBit n i true).bump .kvp 0 (0x200 + 16) 1

/-- Lower a page's REFCOUNT; at 0 it is free (R311). -/
def kvDrop (s : State) (n i : Nat) : State :=
  let r := s.kvRef n i - 1
  let s := s.setKvRef n i r
  if r = 0 then ((s.setKvBit n i false).setPoolFree n (s.poolFree n + 1)).bump .kvp 0 (0x200 + 24) 1 else s

/-- Copy a whole page with its poison. -/
def copyPhys (s : State) (old new n : Nat) : State :=
  let inR (k : Nat) : Bool := old ≤ k && k < old + n
  let bs := s.mem.bytes.filter fun e => inR e.1
  let po := s.mem.poison.filter fun e => inR e.1
  let s := (s.countBytes old n false).countBytes new n true
  let s := s.forget new n
  let m := { s.mem with bytes := bs.foldl (fun t e => tset t 0 (new + (e.1 - old)) e.2) s.mem.bytes
                        poison := po.foldl (fun t e => tset t false (new + (e.1 - old)) e.2) s.mem.poison }
  { s with mem := m }

/-- PA of a pool page. -/
def kvPa (s : State) (n i : Nat) : Nat := (Xent.ofBytes (rdBytes s.mem.bytes (s.kvDescPa n i) 32)).pa

/-- End a page copy: the new page takes the old one's contents, the list entry switches, the old REFCOUNT falls, and the
record's PEND fields clear (R309, R313). -/
def kvCopyEnd (s : State) (seq old new idx : Nat) : State :=
  match s.kvRec seq with
  | none => s
  | some r =>
    let n := r.pool
    let s := s.copyPhys (s.kvPa n old) (s.kvPa n new) (2 ^ s.poolK n)
    let s := ((s.putEntry r idx new).kvDrop n old).putKv ((r.put 5 (natBytes 1 0)).put 36 (natBytes 4 0))
    (s.bump .kvp 0 (0x200 + 8) 1).raise .kvp 0 Ev.kvpCopy

/-- SEQ of a KV operation's key: DST_VA, or IDX_VA of a send. -/
def kvSeqOf (o : Op) : Nat := if opCodec o = 0x53 then bat o.desc 86 2 else bat o.desc 14 2
/-- POS of a KV operation's key. -/
def kvPosOf (o : Op) : Nat := if opCodec o = 0x53 then bat o.desc 80 4 else bat o.desc 8 4

/-- A copy under way for an operation ends with the operation (R313). -/
def kvSettle (s : State) (o : Op) : State :=
  match o.wait with
  | .pageCopy old new idx => s.kvCopyEnd (kvSeqOf o) old new idx
  | _ => s

/-- A started KV operation on a sequence has not completed. -/
def kvBusy (s : State) (seq : Nat) : Bool :=
  s.queues.any fun e => e.2.any fun o => [0x51, 0x52, 0x53].contains (opCodec o) && o.started && o.poison.isNone &&
    o.wait ≠ .val && kvSeqOf o = seq

/-! ### KVP_CMD (R307) -/

/-- Release list entries of a sequence from index i. -/
def kvReleaseFrom (s : State) (r : KvRec) (i : Nat) : State :=
  (List.range (r.listCap - i)).foldl (fun s k => match s.kvEntry r (i + k) with
    | some e => if e = kvNone then s else (s.kvDrop r.pool e).putEntry r (i + k) kvNone
    | none => s) s

/-- Truncate a sequence to a length. -/
def kvTruncate (s : State) (r : KvRec) (len : Nat) : State :=
  let p := s.perPage r
  (s.kvReleaseFrom r ((len + p - 1) / p)).putKv (r.put 8 (natBytes 8 len))

/-- The list of a record can be read and written whole. -/
def listReady (s : State) (r : KvRec) : Bool :=
  match s.vread r.basin r.listVa (4 * r.listCap), s.piecesOf r.basin r.listVa (4 * r.listCap) true with
  | .ok _ _ _, .ok _ => true
  | _, _ => false

/-- The outcome of a record lookup for a command: a RESULT code, or the record. -/
def kvLook (s : State) (seq : Nat) (valid : Bool) : Option (Nat ⊕ KvRec) :=
  if !s.seqIn seq then some (.inl 1)
  else (s.kvRec seq).map fun r =>
    if r.valid ≠ valid then .inl 1
    else if !r.ok then .inl 2
    else if !s.poolOk r then .inl 5
    else .inr r

/-- Run a command: its RESULT and the state; none while its records or lists cannot be reached. -/
def kvRun (s : State) (op seq seq2 len : Nat) : Option (Nat × State) :=
  match op with
  | 1 => (s.kvLook seq false).bind fun x => match x with
    | .inl c => some (c, s)
    | .inr r =>
      if !s.listReady r then none
      else
        let s := (List.range r.listCap).foldl (fun s i => s.putEntry r i kvNone) s
        some (0, s.putKv ((r.put 8 (natBytes 16 0)).put 0 (natBytes 1 1)))
  | 2 => (s.kvLook seq true).bind fun x => match x with
    | .inl c => some (c, s)
    | .inr r =>
      if !s.seqIn seq2 then some (1, s)
      else (s.kvRec seq2).bind fun t =>
        let t' := t.put 1 (bsub r.d 1 3)
        if t.valid then some (1, s)
        else if bat t.d 60 4 ≠ crc32 (t.d.take 60) ∨ !t'.ok then some (2, s)
        else
          let p := s.perPage r
          if r.tokens < len ∨ s.kvCap t' < len then some (3, s)
          else if !s.listReady r || !s.listReady t' then none
          else
            let es := (List.range ((len + p - 1) / p)).map fun i => (i, (s.kvEntry r i).getD kvNone)
            let live := es.filter (·.2 ≠ kvNone)
            if live.any fun e => 65535 ≤ s.kvRef r.pool e.2 then some (4, s.raise .kvp 0 Ev.kvpRefcountFull)
            else
              let s := live.foldl (fun s e => s.setKvRef r.pool e.2 (s.kvRef r.pool e.2 + 1)) s
              let s := es.foldl (fun s e => s.putEntry t' e.1 e.2) s
              let s := (List.range (t'.listCap - es.length)).foldl (fun s i => s.putEntry t' (es.length + i) kvNone) s
              some (0, (s.putKv ((t'.put 8 (natBytes 8 len)).put 0 (natBytes 1 1))).bump .kvp 0 0x200 1)
  | 3 => (s.kvLook seq true).bind fun x => match x with
    | .inl c => some (c, s)
    | .inr r => if r.tokens < len then some (3, s) else if !s.listReady r then none else some (0, s.kvTruncate r len)
  | 4 => (s.kvLook seq true).bind fun x => match x with
    | .inl c => some (c, s)
    | .inr r =>
      if !s.listReady r then none
      else some (0, (s.kvTruncate r 0).putKv ((r.put 8 (natBytes 8 0)).put 0 (natBytes 1 0)))
  | 5 => (s.kvLook seq true).bind fun x => match x with
    | .inl c => some (c, s)
    | .inr r => some (0, s.putKv (r.put 16 (natBytes 8 len)))
  | _ => none

/-- The command in KVP_CMD runs once no earlier KV operation uses its sequences (R308). -/
def kvTry (s : State) : State :=
  let w := s.rd (pageBase .kvp 0 + Off.kvpCmd)
  let op := fld w 7 0
  if !bit w 63 || s.kvBusy (fld w 31 16) || (op = 2 && s.kvBusy (fld w 47 32)) || !s.ready .kvp 0 || s.quiet .kvp 0 then s
  else match s.kvRun op (fld w 31 16) (fld w 47 32) (s.rd (pageBase .kvp 0 + Off.kvpCmdarg)).toNat with
    | none => s
    | some (c, s) =>
      let s := if c = 2 then s.raise .kvp 0 Ev.kvpRecordBad else s
      ((s.p .kvp 0 Off.kvpCmd 55 48 c).p .kvp 0 Off.kvpCmd 63 63 0).raise .kvp 0 Ev.kvpCmdDone

/-- A write of KVP_CMD with GO 1 (R316): ignored while GO reads 1, when the running command may end. -/
def kvGo (s : State) (op seq seq2 len : Nat) : State :=
  if !s.ready .kvp 0 then s.refuse false true Ev.devEarlyAccess (pageBase .kvp 0 + Off.kvpCmd)
  else if s.g .kvp 0 Off.kvpCmd 63 63 = 1 then s.kvTry
  else
    let a := pageBase .kvp 0 + Off.kvpCmd
    let w := putFld (putFld (putFld (putFld (s.rd a) 7 0 op) 31 16 seq) 47 32 seq2) 63 63 1
    ((s.wr a w).wr (pageBase .kvp 0 + Off.kvpCmdarg) (BitVec.ofNat 64 len)).kvTry

/-- What the end of a KV operation does: a completed write moves TOKENS, counts, and commands that waited run (R308 to
R310). -/
def kvOpEnd (s : State) (o : Op) (cause : Nat) : State :=
  let c := opCodec o
  if !([0x51, 0x52, 0x53].contains c) then s
  else
    let s := s.kvSettle o
    let n := bat o.desc 28 4
    let s := if cause ≠ 0 then s
      else if c = 0x51 then s.bump .kvp 0 (0x200 + 40) n
      else if c = 0x53 then s.bump .kvp 0 (0x200 + 48) n
      else
        let s := s.bump .kvp 0 (0x200 + 32) n
        match s.kvRec (kvSeqOf o) with
        | some r => s.putKv (r.put 8 (natBytes 8 (max r.tokens (kvPosOf o + n))))
        | none => s
    s.kvTry

/-! ### Pool configuration (R304, R316) -/

/-- A VALID record uses a pool. -/
def poolUsed? (s : State) (n : Nat) : Bool :=
  (List.range (s.g .kvp 0 Off.kvpSeqlen 16 0)).any fun i => match s.kvRec i with
    | some r => r.valid && r.pool = n
    | none => false

/-- Writes of a pool's three registers as one configuration (R304): the bitmap is zeroed and FREE set to COUNT, or
CFG_REFUSED is raised. -/
def poolConfig (s : State) (n : Nat) (base cfg map : Word) : State :=
  let a := pageBase .kvp 0 + 32 * n
  let k := fld cfg 29 24
  let c := fld cfg 20 0
  let ok := tget s.rst.quiesced false (pageBase .kvp 0) && !s.poolUsed? n &&
    (k = 0 || (14 ≤ k && k ≤ 24 && 1 ≤ c && decide (c ≤ 2 ^ 20) && fld base 56 14 * 2 ^ 14 % 2 ^ k = 0))
  if !ok then s.raise .kvp 0 Ev.kvpCfgRefused
  else
    let s := s.wr (a + Off.kvpPoolbase) (BitVec.ofNat 64 (fld base 56 14 * 2 ^ 14))
    let s := s.wr (a + Off.kvpPoolcfg) (BitVec.ofNat 64 (fld cfg 52 32 * 2 ^ 32 + k * 2 ^ 24 + c))
    let s := s.wr (a + Off.kvpPoolmap) (BitVec.ofNat 64 (fld map 56 12 * 4096))
    let s := if k = 0 then s else s.vput 0 (s.bitmapVa n 0) (List.replicate ((c + 7) / 8) 0)
    s.setPoolFree n (if k = 0 then 0 else c)

end State

/-- CREATE (R307). -/
def execCreate (seq : BitVec 16) (s : State) : Host.Outcome State Fault Refusal :=
  .next (s.kvGo 1 seq.toNat (s.g .kvp 0 Off.kvpCmd 47 32) (s.rd (pageBase .kvp 0 + Off.kvpCmdarg)).toNat)
/-- FORK (R307). -/
def execFork (seq seq2 : BitVec 16) (len : Word) (s : State) : Host.Outcome State Fault Refusal :=
  .next (s.kvGo 2 seq.toNat seq2.toNat len.toNat)
/-- TRUNCATE (R307). -/
def execTruncate (seq : BitVec 16) (len : Word) (s : State) : Host.Outcome State Fault Refusal :=
  .next (s.kvGo 3 seq.toNat (s.g .kvp 0 Off.kvpCmd 47 32) len.toNat)
/-- RELEASE (R307). -/
def execRelease (seq : BitVec 16) (s : State) : Host.Outcome State Fault Refusal :=
  .next (s.kvGo 4 seq.toNat (s.g .kvp 0 Off.kvpCmd 47 32) (s.rd (pageBase .kvp 0 + Off.kvpCmdarg)).toNat)
/-- RX_SET (R307). -/
def execRxSet (seq : BitVec 16) (len : Word) (s : State) : Host.Outcome State Fault Refusal :=
  .next (s.kvGo 5 seq.toNat (s.g .kvp 0 Off.kvpCmd 47 32) len.toNat)
/-- KVP_POOL_CONFIG (R304). -/
def execKvpPoolConfig (n : Nat) (base cfg map : Word) (s : State) : Host.Outcome State Fault Refusal :=
  .next (if n < 4 then
    if s.ready .kvp 0 then s.poolConfig n base cfg map
    else s.refuse false true Ev.devEarlyAccess (pageBase .kvp 0 + Off.kvpPoolcfg + 32 * n)
  else s)

end Sys2Proof.Machine
end

