-- ==== Sys2Proof/Machine/Work.lean ====
section
/-! DEFINITION. Work in flight: ring commands and their completions (R95 to R98), launches and their ends (R123, R124,
R194), stream operations with their cursors, delivery and poisoned tails (R233 to R253). -/

namespace Sys2Proof.Machine

/-- A closed ring. -/
def ringClosed : Ring :=
  { head := 0, ctail := 0, fmt := 0, err := 0, phase := false, st := 0, tail := 0, chead := 0, fill := false,
    closing := false, cmds := [] }

namespace State

/-! ### Rings -/

/-- A ring. -/
def ring (s : State) (r : Nat) : Ring := tget s.hlk.rings ringClosed r

/-- Store a ring. -/
def setRing (s : State) (r : Nat) (x : Ring) : State :=
  { s with hlk := { s.hlk with rings := tset s.hlk.rings ringClosed r x } }

/-- HLK_RCFG of a ring. -/
def rcfg (s : State) (r : Nat) : Word := s.rd (pageBase .hlk 0 + Off.hlkRcfg + 0x20 * r)

/-- Entries of each of a ring's buffers. -/
def ringSize (s : State) (r : Nat) : Nat := 2 ^ fld (s.rcfg r) 20 16

/-- MPA of a host address (R208). -/
def hostMpa (a : Nat) : Nat := 0x10000000000000 + a

/-- A host range lies in the host region of R208. -/
def hostRange (a n : Nat) : Bool := a + n ≤ 0x10000000000000

/-- A command of a ring. -/
def cmdOf (s : State) (r uid : Nat) : Option Cmd := (s.ring r).cmds.find? (·.uid = uid)

/-- Change one command of a ring. -/
def modCmd (s : State) (r uid : Nat) (f : Cmd → Cmd) : State :=
  let x := s.ring r
  s.setRing r { x with cmds := x.cmds.map fun c => if c.uid = uid then f c else c }

/-- A started command ends; its completion is written later (R97). -/
def finishCmd (s : State) (r uid : Nat) (status : Nat) (result : Word) : State :=
  s.modCmd r uid fun c => match c.phase with
    | .finished _ _ => c
    | _ => { c with phase := .finished (BitVec.ofNat 16 status) result }

/-! ### Flag gathering (R194) -/

/-- The step that the reduction block has open: its number, when STATE is not 0. -/
def openStep (s : State) : Option Nat :=
  if s.g .red 0 Off.redStepstat 63 60 = 0 then none else some (s.g .red 0 Off.redStepstat 47 0)

/-- OR flags into the basin's step word of a step, if that step is open. -/
def orBasinWord (s : State) (b : Nat) (step : Word) (f : BitVec 4) : State :=
  if step ≠ 0 ∧ s.openStep = some step.toNat then
    { s with red := { s.red with words := tset s.red.words 0 b (tget s.red.words 0 b ||| f) } }
  else s

/-- Bits of a launch word in COR_VFLAGS (R195). -/
def lwHi (fill : Bool) : Nat := if fill then 11 else 7
/-- Lowest bit of a launch word in COR_VFLAGS. -/
def lwLo (fill : Bool) : Nat := if fill then 8 else 4

/-- The launch word of a class on a core. -/
def launchWord (s : State) (c : Nat) (fill : Bool) : Nat := s.g .cor c Off.corVflags (lwHi fill) (lwLo fill)

/-- OR flags into the launch word of a class on a core. -/
def orLaunchWord (s : State) (c : Nat) (fill : Bool) (f : Nat) : State :=
  s.p .cor c Off.corVflags (lwHi fill) (lwLo fill) (s.launchWord c fill ||| f)

/-- Gather a launch word as its launch ends on a core (step 3 of R194). -/
def gather (s : State) (c : Nat) (fill : Bool) (step : Word) : State :=
  let w := s.launchWord c fill
  let s := s.p .cor c Off.corVflags 3 0 (s.g .cor c Off.corVflags 3 0 ||| w)
  s.orBasinWord (c / 576) step (BitVec.ofNat 4 w)

/-! ### Launches -/

/-- A launch by its identifier. -/
def launch? (s : State) (l : Nat) : Option Launch := tget s.launches none l

/-- Store a launch. -/
def setLaunch (s : State) (l : Nat) (x : Option Launch) : State := { s with launches := tset s.launches none l x }

/-- The launch that runs on a core in a class. -/
def running (s : State) (c : Nat) (fill : Bool) : Option Nat := if fill then (s.core c).fill else (s.core c).pri

/-- Shoal slot key. -/
def skey (p t : Nat) : Nat := p * 32 + t

/-- A shoal slot. -/
def shoal (s : State) (p t : Nat) : Option Shoal := tget s.shoals none (skey p t)

/-- Store a shoal slot. -/
def setShoal (s : State) (p t : Nat) (x : Option Shoal) : State := { s with shoals := tset s.shoals none (skey p t) x }

/-- Slots of the primary launch on a core (R120). -/
def priSlots (s : State) (c : Nat) : Nat := 32 - s.g .cor c Off.corPart 20 16

/-- First slot and slot count of a class on a core (R120). -/
def classSlots (s : State) (c : Nat) (fill : Bool) : Nat × Nat :=
  if fill then (s.priSlots c, s.g .cor c Off.corPart 20 16) else (0, s.priSlots c)

/-- SRAM base and size of a class region on a core (R120). -/
def classRegion (s : State) (c : Nat) (fill : Bool) : Nat × Nat :=
  let f := s.g .cor c Off.corPart 3 0 * 0x8000
  if fill then (0xA0000 - f, f) else (0, 0xA0000 - f)

/-- Shoals of a launch on a processor, by slot. -/
def shoalsOf (s : State) (p l : Nat) : List (Nat × Shoal) :=
  (List.range 32).filterMap fun t => match s.shoal p t with
    | some x => if x.launch = l then some (t, x) else none
    | none => none

/-! ### SRAM -/

/-- SRAM byte key of a processor's address. -/
def srKey (p a : Nat) : Nat := p * 0x100000 + a

/-- n bytes of SRAM. -/
def srRead (s : State) (p a n : Nat) : Bytes := (List.range n).map fun k => tget s.sram 0 (srKey p (a + k))

/-- An uncorrectable word (R389) in a range of SRAM. -/
def srUe (s : State) (p a n : Nat) : Bool :=
  (List.range (n / 8 + 2)).any fun k =>
    let w := (a + 8 * k) / 8 * 8
    decide (w < a + n) && tget s.sramUe false (srKey p w)

/-- Store bytes in SRAM; a word written whole is corrected. -/
def srWrite (s : State) (p a : Nat) (bs : Bytes) : State :=
  let n := bs.length
  let ue := (List.range (n / 8 + 1)).foldl (fun t k =>
    let w := roundUp a 8 + 8 * k
    if w + 8 ≤ a + n then tset t false (srKey p w) false else t) s.sramUe
  { s with sram := (List.range n).foldl (fun t k => tset t 0 (srKey p (a + k)) (bs.getD k 0)) s.sram, sramUe := ue }

/-! ### Stream operations -/

end State

namespace Op

/-- KIND of a descriptor (R236). -/
def kind (o : Op) : Nat := bat o.desc 20 1
/-- Chunk size. -/
def chunk (o : Op) : Nat := 2 ^ bat o.desc 21 1
/-- Slots of the SRAM window. -/
def nbuf (o : Op) : Nat := bat o.desc 22 1
/-- Event flag of slot 0. -/
def flagBase (o : Op) : Nat := bat o.desc 23 1
/-- COUNT of dimension d. -/
def count (o : Op) (d : Nat) : Nat := bat o.desc (24 + 4 * d) 4
/-- CTRL byte. -/
def ctrl (o : Op) : Nat := bat o.desc 44 1
/-- CODEC byte. -/
def codec (o : Op) : Nat := bat o.desc 45 1
/-- CTRL.ORDER. -/
def ordered (o : Op) : Bool := o.ctrl.testBit 0
/-- CTRL.WAIT_EN. -/
def waitEn (o : Op) : Bool := o.ctrl.testBit 1
/-- CTRL.SIG_EN. -/
def sigEn (o : Op) : Bool := o.ctrl.testBit 2
/-- CTRL.IDX_EN. -/
def idxEn (o : Op) : Bool := o.ctrl.testBit 3
/-- CTRL.IDX_DIM. -/
def idxDim (o : Op) : Nat := nfld o.ctrl 6 4
/-- Signed stride of dimension d, 1 to 4. -/
def stride (o : Op) (d : Nat) : Int := sext 64 (bat o.desc (48 + 8 * (d - 1)) 8)
/-- MEM_VA. -/
def memVa (o : Op) : Nat := bat o.desc 0 8
/-- DST_VA. -/
def dstVa (o : Op) : Nat := bat o.desc 8 8
/-- SRAM_ADDR. -/
def sramAddr (o : Op) : Nat := bat o.desc 16 4
/-- TAG. -/
def tag (o : Op) : Nat := bat o.desc 92 4
/-- Bytes moved (R237). -/
def total (o : Op) : Nat := o.count 0 * o.count 1 * o.count 2 * o.count 3 * o.count 4
/-- Chunks. -/
def chunks (o : Op) : Nat := (o.total + o.chunk - 1) / o.chunk
/-- Packed start and length of chunk c. -/
def chunkRange (o : Op) (c : Nat) : Nat × Nat := (c * o.chunk, min o.chunk (o.total - c * o.chunk))
/-- Local address of packed offset n in the SRAM window (R238). -/
def windowAddr (o : Op) (n : Nat) : Nat :=
  if o.nbuf = 0 then o.sramAddr + n else o.sramAddr + n / o.chunk % o.nbuf * o.chunk + n % o.chunk
/-- Every byte of a chunk has landed. -/
def chunkLanded (o : Op) (c : Nat) : Bool :=
  let r := o.chunkRange c
  (o.landed.filter fun x => r.1 ≤ x.1 && x.1 < r.1 + r.2).foldl (fun n x => n + x.2) 0 = r.2

end Op

namespace State

/-- Operations of a queue, oldest first. -/
def queue (s : State) (q : Nat) : List Op := tget s.queues [] q

/-- Store a queue. -/
def setQueue (s : State) (q : Nat) (l : List Op) : State := { s with queues := tset s.queues [] q l }

/-- An operation of a queue. -/
def op? (s : State) (q id : Nat) : Option Op := (s.queue q).find? (·.id = id)

/-- Change one operation. -/
def modOp (s : State) (q id : Nat) (f : Op → Op) : State :=
  s.setQueue q ((s.queue q).map fun o => if o.id = id then f o else o)

/-- A queue belongs to a core (else to a hub). -/
def isCoreQ (q : Nat) : Bool := q < 18432

/-- Event flag n of a core. -/
def flag (s : State) (c n : Nat) : Bool := bit (s.core c).flags n

/-- Write an event flag without the engine's reaction. -/
def putFlag (s : State) (c n : Nat) (v : Bool) : State :=
  s.setCore c { s.core c with flags := putBit (s.core c).flags n v }

/-- COR_SQCUR of a core queue (R256). -/
def setCur (s : State) (q c : Nat) : State :=
  if isCoreQ q then s.wr (pageBase .cor (q / 8) + Off.corSqcur + 8 * (q % 8)) (BitVec.ofNat 64 (2 ^ 63 + c % 2 ^ 48)) else s

/-- LAST_STATUS and LAST_TAG of a core queue (R256). -/
def setLast (s : State) (q cause tag : Nat) : State :=
  if isCoreQ q then
    (s.p .cor (q / 8) (Off.corSqstat + 8 * (q % 8)) 55 48 cause).p .cor (q / 8) (Off.corSqstat + 8 * (q % 8)) 31 0 tag
  else s

/-- Write bytes at packed offset n on the SRAM side. -/
def windowWrite (s : State) (q : Nat) (o : Op) (n : Nat) (bs : Bytes) : State :=
  s.srWrite (q / 8) (o.base + o.windowAddr n) bs

/-- An IN chunk's slot may be written: the chunk NBUF earlier is consumed and the slot flag is clear (R238, R258). -/
def slotFree (s : State) (q : Nat) (o : Op) (c : Nat) : Bool :=
  o.nbuf = 0 || ((c < o.nbuf || o.consumed.contains (c - o.nbuf)) && !s.flag (q / 8) (o.flagBase + c % o.nbuf))

/-- 0xFF bytes. -/
def ffs (n : Nat) : Bytes := List.replicate n 0xFF

/-- Begin a poisoned tail at chunk c (steps 1 and 2 of R251). Bytes of OUT and COPY from chunk c are written 0xFF at
once where their addresses are known: `dest` writes a packed range. -/
def beginTail (s : State) (q : Nat) (o : Op) (cause c : Nat) (dest : State → Op → Nat → Nat → Bytes → State) : State :=
  let s := (s.kvSettle o).modOp q o.id fun o =>
    { o with poison := some (cause, c), xfers := [], cursor := c, wait := .none, held := false, issued := o.total, mark := none }
  let s := s.setCur q c
  if cause = 4 ∨ cause = 5 ∨ o.kind = 0 then s
  else dest s o (c * o.chunk) (o.total - c * o.chunk) (ffs (o.total - c * o.chunk))

/-- Deliver an IN chunk: its data is in its window; set the slot flag (R238). -/
def deliverIn (s : State) (q : Nat) (o : Op) (c : Nat) : State :=
  let s := if o.nbuf = 0 then s else s.putFlag (q / 8) (o.flagBase + c % o.nbuf) true
  s.modOp q o.id fun o => { o with cursor := c + 1 }

/-- Deliver, release or retire chunks in ascending order from the cursor, as far as data and slots allow
(R238, R249 to R251); `fuel` bounds the chunks moved at once. -/
def advance (dest : State → Op → Nat → Nat → Bytes → State) : Nat → State → Nat → Nat → State
  | 0, s, _, _ => s
  | fuel + 1, s, q, id =>
    match s.op? q id with
    | none => s
    | some o =>
      let c := o.cursor
      if !o.started || o.held || decide (o.chunks ≤ c) then s
      else match o.poison with
        | some (cause, _) =>
          if cause = 4 ∨ cause = 5 then s
          else if o.kind = 0 then
            if s.slotFree q o c then
              let r := o.chunkRange c
              advance dest fuel ((s.windowWrite q o r.1 (ffs r.2)).deliverIn q o c) q id
            else s
          else if o.kind = 1 ∧ o.nbuf ≠ 0 then
            if s.flag (q / 8) (o.flagBase + c % o.nbuf) then
              advance dest fuel ((s.putFlag (q / 8) (o.flagBase + c % o.nbuf) false).modOp q id
                fun o => { o with cursor := c + 1 }) q id
            else s
          else advance dest fuel (s.modOp q id fun o => { o with cursor := c + 1 }) q id
        | none =>
          if o.mark = some c then advance dest fuel (s.beginTail q o 3 c dest) q id
          else if !o.chunkLanded c then s
          else if o.kind = 0 then
            if o.nbuf = 0 || !s.flag (q / 8) (o.flagBase + c % o.nbuf) then advance dest fuel (s.deliverIn q o c) q id
            else s
          else
            let s := if o.kind = 1 ∧ o.nbuf ≠ 0 then s.putFlag (q / 8) (o.flagBase + c % o.nbuf) false else s
            advance dest fuel (s.modOp q id fun o => { o with cursor := c + 1 }) q id

/-- The address of packed offset n on the memory side, with its counters, for an operation without an index (R237). -/
def posOf (o : Op) (n : Nat) : List Nat :=
  let r := n / o.count 0
  [r % o.count 1, r / o.count 1 % o.count 2, r / (o.count 1 * o.count 2) % o.count 3, r / (o.count 1 * o.count 2 * o.count 3)]

/-- The VA of a position plus a byte (R237). -/
def posVa (o : Op) (ps : List Nat) (b : Nat) : Int :=
  (List.range 4).foldl (fun a d => a + ps.getD d 0 * o.stride (d + 1)) (o.memVa : Int) + b

/-- Slice that a stream queue's accesses use (R222): ring commands, which are all that hub queues run, use slice 0
(DEDUCED; Assumption 15). -/
def qSlice (q : Nat) : Nat := if isCoreQ q then queueBasin q else 0

/-- Position of packed offset n, index stream applied (R240): none where the index word cannot be read yet; an inner
none where the index is out of range. -/
def position (s : State) (q : Nat) (o : Op) (n : Nat) : Option (Option (List Nat)) :=
  let ps := posOf o n
  if !o.idxEn then some (some ps)
  else
    let j := ps.getD (o.idxDim - 1) 0
    match s.vread (qSlice q) (bat o.desc 80 8 + 4 * j) 4 with
    | .ok bs _ _ => if leNat bs < bat o.desc 88 4 then some (some (ps.set (o.idxDim - 1) (leNat bs))) else some none
    | _ => none

/-- Write packed bytes [n, n + len) of an OUT or COPY operation at their destination, run by run, where they are
translated. -/
def plainDest : Nat → State → Nat → Op → Nat → Nat → Bytes → State
  | 0, s, _, _, _, _, _ => s
  | fuel + 1, s, q, o, n, len, bs =>
    if len = 0 then s
    else if o.kind = 2 then s.vput (qSlice q) (o.dstVa + n) bs
    else
      let k := min len (o.count 0 - n % o.count 0)
      let s := match s.position q o n with
        | some (some ps) => s.vput (qSlice q) (posVa o ps (n % o.count 0)).toNat (bs.take k)
        | _ => s
      plainDest fuel s q o (n + k) (len - k) (bs.drop k)

/-- Destination writes of a poisoned tail. Operations whose memory side is not the descriptor's walk (a codec) write no
bytes here. -/
def tailDest (q : Nat) (s : State) (o : Op) (n len : Nat) (bs : Bytes) : State :=
  if o.codec = 0 ∨ o.codec = 0x61 ∨ (o.codec = 0x60 ∧ bat o.desc 86 2 = s.g .dev 0 Off.devFabid 15 0) then
    plainDest (len + 1) s q o n len bs
  else s

/-- Move an operation's chunks as far as they go. -/
def pump (s : State) (q id : Nat) : State :=
  match s.op? q id with
  | some o => advance (tailDest q) (2 * o.chunks + 2) s q id
  | none => s

/-- End an operation with a poisoned tail at chunk c (R251). -/
def poisonTail (s : State) (q id cause c : Nat) : State :=
  match s.op? q id with
  | some o =>
    if o.poison.isSome then s
    else
      let cause := if cause = 1 ∧ o.mark = some c then 3 else cause
      let s := s.modOp q id fun o => { o with started := true }
      (s.beginTail q { o with started := true } cause c (tailDest q)).pump q id
  | none => s

/-- Poisoned-tail cause as a ring STATUS (R252). -/
def causeStatus : Nat → Nat
  | 1 => 5 | 2 => 6 | 3 => 8 | 4 => 2 | 5 => 7 | 6 => 8 | _ => 0

/-- Everything that an ended poisoned tail raises, counts and ORs (steps 4 and 5 of R251). -/
def tailEffects (s : State) (q : Nat) (o : Op) (cause : Nat) : State :=
  let b := queueBasin q
  let s := (s.raise .sth b Ev.sthPoisonedTail).bump .sth b (0x200 + 16) 1
  let s := if isCoreQ q then s.bump .cor (q / 8) (0x3C0 + 24) 1 else s
  match o.launch with
  | some l =>
    let s := match s.launch? l with
      | some x => s.setLaunch l (some { x with poisoned := x.poisoned ++ [(q, o.cursor, cause)] })
      | none => s
    if cause ≠ 5 ∧ isCoreQ q ∧ s.running (q / 8) o.fill = some l then s.orLaunchWord (q / 8) o.fill 1 else s
  | none => if cause ≠ 5 then s.orBasinWord b o.step 1 else s

/-- Write SIG; the flag says whether it was written (R245). -/
def sigWrite (s : State) (q : Nat) (o : Op) : State × Bool :=
  if !o.sigEn then (s, true)
  else match s.vwrite (qSlice q) (bat o.desc 112 8) (natBytes 8 (bat o.desc 120 8)) with
    | .ok _ _ s' => (s', true)
    | _ => (s, false)

/-- The descriptor's operation leaves its queue, and its command goes on or ends (R235, R245). `aux` of a ring command's
operation holds the bytes of the operations before it, and the chunks of a COPY before it. -/
def retireOp (s : State) (q : Nat) (o : Op) (cause : Nat) : State :=
  let s := s.setQueue q ((s.queue q).filter (·.id ≠ o.id))
  let s := s.setLast q cause o.tag
  let s := if isCoreQ q then s.bump .cor (q / 8) 0x3C0 1 else s
  let s := match o.flag with
    | some n => if isCoreQ q then s.putFlag (q / 8) n true else s
    | none => s
  let s := if cause ≠ 0 then s.tailEffects q o cause else s
  let s := (s.ledgerOpEnd (queueBasin q) o cause).kvOpEnd o cause
  let s := { s with shl := tset s.shl [] (queueBasin q) ((tget s.shl [] (queueBasin q)).filter fun j => j.op ≠ o.id) }
  let before := if o.codec = 0 ∨ 0x60 ≤ o.codec then o.aux else []
  match o.cmd with
  | none => s
  | some (r, uid, i) =>
    if cause ≠ 0 then
      let s := s.setQueue q ((s.queue q).filter fun x => match x.cmd with
        | some (r', u', _) => !(r' = r && u' = uid)
        | none => true)
      s.finishCmd r uid (causeStatus cause) (BitVec.ofNat 64 (i % 65536 * 2 ^ 48 + (before.getD 1 0 + o.cursor) % 2 ^ 48))
    else if (s.queue q).any fun x => match x.cmd with
        | some (r', u', _) => r' = r && u' = uid
        | none => false then s
    else s.finishCmd r uid 0 (BitVec.ofNat 64 (before.getD 0 0 + o.total))

/-- An operation whose chunks are all done completes: SIG, completion flag, status (R245, R251). With `lost`, the SIG
write met an unresolvable fault. -/
def completeOp (s : State) (q : Nat) (o : Op) (lost : Bool) : State :=
  let cause := match o.poison with
    | some (c, _) => c
    | none => 0
  if lost then s.retireOp q o (if cause = 0 then 1 else cause)
  else match s.sigWrite q o with
    | (s', true) => s'.retireOp q o cause
    | (_, false) => s

/-- End an operation at once with cause RESET (R252): SIG and the flag are written, no tail is delivered. -/
def resetOp (s : State) (q : Nat) (o : Op) : State :=
  let s := s.kvSettle o
  let o := { o with poison := some (5, o.cursor), xfers := [] }
  let s := s.setCur q o.cursor
  (s.sigWrite q o).1.retireOp q o 5

/-- End every operation of a queue that satisfies `p` with cause RESET. -/
def resetOps (s : State) (q : Nat) (p : Op → Bool) : State :=
  ((s.queue q).filter p).foldl (fun s o => if (s.op? q o.id).isSome then s.resetOp q o else s) s

/-! ### Launch ends (R124) -/

/-- Outputs of a chain that stops with its launch are undefined, so they are free values (R207). -/
def stopChain (s : State) (c base : Nat) (x : Shoal) : State :=
  match x.wait with
  | .chain d => (CDesc.mk d).outRanges.foldl (fun s r =>
      let q := s.freeBytes r.2
      q.2.srWrite c (base + r.1) q.1) s
  | .run | .bar _ _ | .flag _ _ => s

/-- Remove a launch from a core: its shoals, tiles and queue entries go, its words are gathered unless a Basin, Warm or
Cold reset reached the core, and its stream operations end with cause RESET. -/
def clearLaunchOn (s : State) (l c : Nat) (fill : Bool) (step : Word) (doGather : Bool) : State :=
  let run := s.running c fill = some l
  let s := (s.shoalsOf c l).foldl (fun s e => (s.stopChain c (s.classRegion c fill).1 e.2).setShoal c e.1 none) s
  let x := s.core c
  let keep (o : Option Tile) : Option Tile := match o with
    | some t => if t.launch = l then none else some t
    | none => none
  let red := match x.redOut with
    | some t => if t.launch = l then none else some t
    | none => none
  let x := { x with mxRun := keep x.mxRun, mxWait := keep x.mxWait, redOut := red }
  let x := { x with priQ := x.priQ.filter (· ≠ l), fillQ := x.fillQ.filter (· ≠ l) }
  let x := { x with pri := if x.pri = some l then none else x.pri, fill := if x.fill = some l then none else x.fill }
  let s := s.setCore c x
  let s := (List.range 8).foldl (fun s k => s.resetOps (8 * c + k) fun o => o.launch = some l) s
  if run && doGather then s.gather c fill step else s

/-- End a launch on every target core with a cause of R124; `noGather` says which cores a Basin, Warm or Cold reset
reached. The first cause stands. -/
def launchEnd (s : State) (l cause core detail : Nat) (noGather : Nat → Bool := fun _ => false) : State :=
  match s.launch? l with
  | none => s
  | some x =>
    let s := x.targets.foldl (fun s c => s.clearLaunchOn l c x.fill x.step (!noGather c)) s
    let st := if cause = 6 then 6 else if cause = 8 then 7 else if cause = 1 ∨ cause = 7 then 5 else 2
    let s := s.finishCmd x.ring x.uid st (BitVec.ofNat 64 (cause % 65536 * 2 ^ 48 + core % 65536 * 2 ^ 32 + detail % 2 ^ 32))
    let s := if cause = 1 ∨ cause = 7 then s.raise .cor core Ev.corLaunchFault else s
    s.setLaunch l none

/-- A thread fault (R192): cause 7 with the word index and code; checker codes are reported to RAS. -/
def threadFault (s : State) (l c pc code : Nat) : State := s.launchEnd l 7 c (pc % 2 ^ 24 * 256 + code)

/-! ### Event flags (R130) with the stream engine's reaction -/

/-- Clearing a slot flag consumes the delivered IN chunk that stands in the slot (R238). -/
def consumeSlot (s : State) (c n : Nat) : State :=
  (List.range 8).foldl (fun s k =>
    let q := 8 * c + k
    (s.queue q).foldl (fun s o =>
      if o.kind = 0 ∧ o.nbuf ≠ 0 ∧ o.flagBase ≤ n ∧ n < o.flagBase + o.nbuf then
        match (List.range o.nbuf).map (fun j => o.cursor - 1 - j) |>.find? fun ch =>
            decide (ch < o.cursor) && decide (o.flagBase + ch % o.nbuf = n) && !o.consumed.contains ch with
        | some ch =>
          (s.modOp q o.id fun o => { o with consumed := ch :: o.consumed.filter fun x => ch < x + 2 * o.nbuf }).pump q o.id
        | none => s
      else s) s) s

/-- Let operations of a core's queues react to a flag that changed. -/
def pumpCore (s : State) (c : Nat) : State :=
  (List.range 8).foldl (fun s k => (s.queue (8 * c + k)).foldl (fun s o => s.pump (8 * c + k) o.id) s) s

/-- Clear event flag n of a core. -/
def clearFlag (s : State) (c n : Nat) : State :=
  if s.flag c n then ((s.putFlag c n false).consumeSlot c n).pumpCore c else s

/-- Set event flag n of a core. -/
def setFlag (s : State) (c n : Nat) : State := (s.putFlag c n true).pumpCore c

end State

end Sys2Proof.Machine
end

