-- ==== Sys2Proof/Machine/Scaling.lean ====
section
/-! DEFINITION. Per-tensor scale slots, delayed scaling and recipes, history loss and warm-up (R144 to R154). -/

namespace Sys2Proof.Machine

namespace State

/-! ### Retained SRAM (R44, R46) -/

/-- n bytes of retained SRAM. -/
def retRead (s : State) (a n : Nat) : Bytes := (List.range n).map fun k => tget s.retained 0 (a + k)

/-- Store bytes in retained SRAM. -/
def retWrite (s : State) (a : Nat) (bs : Bytes) : State :=
  { s with retained := (List.range bs.length).foldl (fun t k => tset t 0 (a + k) (bs.getD k 0)) s.retained }

/-! ### The scale region (R145) -/

/-- VA of the scale region. -/
def scaleVa (s : State) : Nat := s.g .dev 0 Off.devScalebase 56 12 * 4096
/-- DEV_SCALEBASE.EN. -/
def scaleEn (s : State) : Bool := s.g .dev 0 Off.devScalebase 0 0 = 1
/-- HIST_LEN. -/
def histLen (s : State) : Nat := s.g .dev 0 Off.devScalecfg 42 32
/-- Recipe exponent of a kind (R147). -/
def recipeExp (s : State) (kind : Nat) : Int := sext 8 (s.g .dev 0 (Off.devRecipe0 + 8 * (kind % 16)) 7 0)
/-- SCALE_HISTORY_VALID (R47). -/
def histValid (s : State) : Bool := s.g .rcc 0 Off.rccBkp0 0 0 = 1

/-- Header of a slot, read through a slice. -/
def slotHdr (s : State) (sl n : Nat) : Option Bytes := (s.vget sl (s.scaleVa + 32 * n) 32).map (·.1)

/-- HCRC over bytes 0–15 and 20–27 (R145). -/
def hcrc (h : Bytes) : Nat := crc32 (h.take 16 ++ bsub h 20 8)

/-- Store a header with its HCRC. Every hardware write keeps HCRC matching (DEDUCED; Assumption 14). -/
def putHdr (s : State) (sl n : Nat) (h : Bytes) : State := s.vput sl (s.scaleVa + 32 * n) (bput h 28 (natBytes 4 (hcrc h)))

/-- ACTIVE of a header. -/
def hdrActive (h : Bytes) : Bool := bat h 18 1 % 2 = 1

/-- The slot's scale in force: CUR_SCALE of an ACTIVE slot in use, else the recipe's (R145, R148). -/
def slotScale (s : State) (h : Bytes) : Num :=
  if s.scaleEn && hdrActive h then f32 (bat h 0 4) else .fin false 1 (s.recipeExp (bat h 16 1))

/-- Fold a maximum and saturated elements into an ACTIVE slot (R145). -/
def slotFold (s : State) (sl n amax sat : Nat) : State :=
  match s.slotHdr sl n with
  | some h =>
    if s.scaleEn && hdrActive h then
      let h := bput (bput h 4 (natBytes 4 (max (bat h 4 4) amax))) 24 (natBytes 4 (min 0xFFFFFFFF (bat h 24 4 + sat)))
      { s.putHdr sl n h with scale := { s.scale with used := tset s.scale.used false n true } }
    else s
  | none => s

/-- What a conversion through a slot uses: the scale exponent that multiplies, and whether the slot's FORMAT matches. -/
structure SlotUse where
  scale : Num
  fmtOk : Bool

/-- Use of a slot by a conversion to format c; a slot of 0xFFFF is none, and formats that take no slot scale use 1.0
(R144). The result is none while the header cannot be read. -/
def slotUse (s : State) (sl slot c : Nat) : Option SlotUse :=
  if slot = 0xFFFF then some ⟨.fin false 1 0, true⟩
  else (s.slotHdr sl (slot % 8192)).map fun h =>
    ⟨if fmtSlot c then s.slotScale h else .fin false 1 0, bat h 17 1 = c⟩

/-- Operand scale of a slot for reading (R144): a value is stored times the scale. -/
def readScale (s : State) (sl slot c : Nat) : Option Num :=
  if slot = 0xFFFF ∨ !fmtSlot c then some (.fin false 1 0) else (s.slotHdr sl (slot % 8192)).map s.slotScale

/-- The power of two of a scale. -/
def scaleLg (x : Num) : Int := x.lg

/-- Elements converted to scalar format c through a slot: patterns with flags, and the state with the slot's maximum and
saturation count folded. A FORMAT mismatch gives free patterns (R153, R207). -/
def convSlot (s : State) (sl slot c rm om : Nat) (rnd : Nat → Nat) (xs : List Num) : Option (List FRes × State) :=
  (s.slotUse sl slot c).map fun u =>
    let rs := xs.mapIdx fun k v => convert c rm om (rnd k) (v.scale2 (scaleLg u.scale))
    let amax := (xs.filter (·.finite)).foldl (fun a v => max a (f32Of v.abs)) 0
    let sat := (rs.filter fun r => r.fl.testBit 1).length
    let s := if slot = 0xFFFF then s else s.slotFold sl (slot % 8192) amax sat
    if u.fmtOk then (rs, s)
    else
      let w := (fmtBits c + 7) / 8
      let (bs, s) := s.freeBytes (w * rs.length)
      (rs.mapIdx fun k r => ⟨bat bs (w * k) w % 2 ^ fmtBits c, r.fl⟩, s)

/-! ### Scales at a commit or skip end (R146 to R149) -/

/-- floor(log2(a / b)) of positive numbers. -/
def lgRatio (a b : Num) : Int :=
  let d := a.lg - b.lg
  if a.cmp (b.scale2 d) = .lt then d - 1 else d

/-- Largest finite value of a format, 65,504 for FP16 and 127 for INT8 (R146). -/
def fmtMax (c : Nat) : Num :=
  match fmtOf c with
  | some f => .fin false f.maxFin.1 f.maxFin.2
  | none => .fin false 127 0

/-- The newest COUNT history entries of a slot, as FP32 patterns. -/
def history (s : State) (n head count : Nat) : List Nat :=
  (List.range count).map fun k =>
    match s.vget 0 (s.scaleVa + 0x40000 + (n * s.histLen + (head + s.histLen - 1 - k) % s.histLen) * 4) 4 with
    | some (b, _) => leNat b
    | none => 0

/-- Delayed scaling governs the next step (R148). -/
def delayedNext (s : State) : Bool :=
  let m := s.g .dev 0 Off.devScalecfg 1 0
  s.scaleEn && s.histValid && (m = 1 || (m = 0 && decide (s.g .dev 0 Off.devScalecfg 63 48 ≤ 256)))

/-- CUR_SCALE of an ACTIVE slot for the next step, and FROM_RECIPE (R146, R148). -/
def nextScale (s : State) (n : Nat) (h : Bytes) : Nat × Bool :=
  let rec_ := (f32Of (.fin false 1 (s.recipeExp (bat h 16 1))), true)
  if s.delayedNext && bat h 22 2 ≠ 0 then
    let m := (s.history n (bat h 20 2) (bat h 22 2)).foldl max 0
    if m = 0 then rec_
    else
      let e := lgRatio (fmtMax (bat h 17 1)) (f32 m) - s.g .dev 0 Off.devScalecfg 6 4
      (f32Of (.fin false 1 (max (-126) (min 127 e))), false)
  else rec_

/-- Newest history entry of a slot, 0 when there is none. -/
def newest (s : State) (n : Nat) (h : Bytes) : Nat := (s.history n (bat h 20 2) (min 1 (bat h 22 2))).getD 0 0

/-- Process one slot at the end of a commit or skip (R149); `jobMax` is the job-wide maximum from the verdict, and with
`resume` step 1 is repeated only for slots whose LAST_STEP is below the step. -/
def slotEnd (s : State) (step : Word) (commit resume : Bool) (jobMax : Nat → Nat) (n : Nat) : State :=
  match s.slotHdr 0 n with
  | none => s
  | some h =>
    if !hdrActive h || (resume && decide (step.toNat ≤ bat h 8 8)) then s
    else
      let rec1 := commit && (bat h 4 4 ≠ 0 || tget s.scale.used false n)
      let (s, h) :=
        if rec1 then
          let hd := bat h 20 2
          let s := s.vput 0 (s.scaleVa + 0x40000 + (n * s.histLen + hd) * 4) (natBytes 4 (jobMax n))
          let h := bput h 20 (natBytes 2 ((hd + 1) % s.histLen) ++ natBytes 2 (min s.histLen (bat h 22 2 + 1)))
          (s, bput h 8 (natBytes 8 step.toNat))
        else (s, h)
      let (sc, fr) := s.nextScale n h
      let fl := bat h 18 1 / 4 * 4 + bat h 18 1 % 2 + (if fr then 2 else 0)
      let h := bput (bput h 0 (natBytes 4 sc ++ natBytes 4 0)) 18 (natBytes 1 fl)
      let mx := if rec1 then jobMax n else s.newest n h
      (s.putHdr 0 n h).retWrite (8 * n) (natBytes 4 sc ++ natBytes 4 mx)

/-- Process every slot (R149). -/
def slotsEnd (s : State) (step : Word) (commit resume : Bool) (jobMax : Nat → Nat) : State :=
  let s := if s.scaleEn then (List.range 8192).foldl (fun s n => s.slotEnd step commit resume jobMax n) s else s
  { s with scale := { s.scale with used := [] } }

/-- WARMUP_LEFT at a commit end (R150). -/
def warmupEnd (s : State) : State :=
  let w := s.g .dev 0 Off.devScalestat 41 32
  let s := if 0 < w then s.p .dev 0 Off.devScalestat 41 32 (w - 1) else s
  if w ≤ 1 then s.p .rcc 0 Off.rccBkp0 0 0 1 else s

/-! ### Clearing and reseeding (R150 to R152) -/

/-- SCALE_HISTORY_VALID is cleared and WARMUP_LEFT loaded (R150). -/
def clearHist (s : State) : State :=
  (s.p .rcc 0 Off.rccBkp0 0 0 0).p .dev 0 Off.devScalestat 41 32 (s.g .dev 0 Off.devScalecfg 25 16)

/-- Rebuild a slot from its retained record (R150). -/
def reseedSlot (s : State) (n : Nat) (h : Bytes) : State :=
  let r := s.retRead (8 * n) 8
  if leNat r = 0 then
    let h := bput (bput h 22 (natBytes 2 0)) 0 (natBytes 4 (f32Of (.fin false 1 (s.recipeExp (bat h 16 1)))))
    s.putHdr 0 n h
  else
    let s := s.vput 0 (s.scaleVa + 0x40000 + n * s.histLen * 4) (bsub r 4 4)
    let h := bput (bput h 20 (natBytes 2 (1 % s.histLen) ++ natBytes 2 1)) 0 (bsub r 0 4)
    s.putHdr 0 n h

/-- RESEED of every ACTIVE slot (R150). -/
def reseedAll (s : State) : State :=
  (List.range 8192).foldl (fun s n => match s.slotHdr 0 n with
    | some h => if hdrActive h then s.reseedSlot n h else s
    | none => s) s

/-- After a Warm or Basin reset, headers whose HCRC fails are rebuilt and counted (R151). -/
def headerCheck (s : State) : State :=
  if s.scaleEn then
    (List.range 8192).foldl (fun s n => match s.slotHdr 0 n with
      | some h => if hdrActive h && bat h 28 4 ≠ hcrc h then (s.reseedSlot n h).bump .tlm 0 (0x200 + 8 * 21) 1 else s
      | none => s) s
  else s

/-- The flag is set and WARMUP_LEFT cleared (R150). -/
def histDeclared (s : State) : State := (s.p .rcc 0 Off.rccBkp0 0 0 1).p .dev 0 Off.devScalestat 41 32 0

/-- A DEV_SCALECFG write takes effect (R152): a changed HIST_LEN clears every COUNT and HEAD and the flag. -/
def applyScaleCfg (s : State) (v : Word) : State :=
  let old := s.histLen
  let a := pageBase .dev 0 + Off.devScalecfg
  let w := putFld (putFld (putFld (putFld (putFld 0 63 48 (fld v 63 48)) 42 32 (fld v 42 32)) 25 16 (fld v 25 16)) 6 4 (fld v 6 4)) 1 0
    (fld v 1 0)
  let s := s.wr a w
  if fld v 42 32 = old then s
  else
    let s := if s.scaleEn then (List.range 8192).foldl (fun s n => match s.slotHdr 0 n with
      | some h => s.putHdr 0 n (bput h 20 (natBytes 4 0))
      | none => s) s else s
    s.clearHist

/-- A DEV_SCALEBASE write takes effect (R152). -/
def applyScaleBase (s : State) (v : Word) : State :=
  (s.wr (pageBase .dev 0 + Off.devScalebase) (BitVec.ofNat 64 (fld v 56 12 * 4096 + fld v 0 0))).clearHist

/-- A DEV_RECIPEk write takes effect. -/
def applyRecipe (s : State) (k : Nat) (e : Nat) : State :=
  s.wr (pageBase .dev 0 + Off.devRecipe0 + 8 * k) (BitVec.ofNat 64 (e % 256))

/-- Writes and actions that waited for the end of a commit or skip (R152, R153): base before LOADED. -/
def applyScaleWaiting (s : State) : State :=
  let x := s.scale
  let s := { s with scale := { x with cfg := none, base := none, recipes := [], loaded := false, reseed := false } }
  let s := match x.cfg with
    | some v => s.applyScaleCfg v
    | none => s
  let s := x.recipes.foldl (fun s e => match e.2 with
    | some v => s.applyRecipe e.1 v.toNat
    | none => s) s
  let s := match x.base with
    | some v => s.applyScaleBase v
    | none => s
  let s := if x.reseed then s.reseedAll.histDeclared else s
  if x.loaded then s.histDeclared else s

/-- A write to the scaling registers sets CFG_REFUSED (R154). -/
def scaleRefused (s : State) : State := s.p .dev 0 Off.devScalestat 3 3 1

/-- DEV_SCALECFG write (R152, R154). -/
def writeScaleCfg (s : State) (v : Word) : State :=
  if fld v 42 32 = 0 ∨ 1024 < fld v 42 32 ∨ fld v 63 48 = 0 ∨ fld v 1 0 = 3 then s.scaleRefused
  else if s.openStep.isSome then { s with scale := { s.scale with cfg := some v } }
  else s.applyScaleCfg v

/-- DEV_SCALEBASE write (R152). -/
def writeScaleBase (s : State) (v : Word) : State :=
  if s.openStep.isSome then { s with scale := { s.scale with base := some v } } else s.applyScaleBase v

/-- DEV_RECIPEk write (R152, R154). -/
def writeRecipe (s : State) (k e : Nat) : State :=
  if sext 8 e < -126 then s.scaleRefused
  else if s.openStep.isSome then
    { s with scale := { s.scale with recipes := tset s.scale.recipes none k (some (BitVec.ofNat 64 e)) } }
  else s.applyRecipe k e

/-- LOADED and RESEED of DEV_SCALESTAT (R150, R152, R153). -/
def scaleAction (s : State) (loaded reseed : Bool) : State :=
  if loaded && reseed then s.scaleRefused
  else if s.openStep.isSome then
    { s with scale := { s.scale with loaded := s.scale.loaded || loaded, reseed := s.scale.reseed || reseed } }
  else
    let s := if reseed then s.reseedAll.histDeclared else s
    if loaded then s.histDeclared else s

/-- A write to the DEV page: refused before READY (R40). -/
def devWrite (s : State) (off : Nat) (f : State → State) : State :=
  if s.ready .dev 0 then f s else s.refuse false true Ev.devEarlyAccess off

end State

/-- DEV_SCALECFG_WRITE (R152). -/
def execDevScalecfgWrite (v : Word) (s : State) : Host.Outcome State Fault Refusal :=
  .next (s.devWrite Off.devScalecfg (·.writeScaleCfg v))

/-- DEV_SCALEBASE_WRITE (R152). -/
def execDevScalebaseWrite (v : Word) (s : State) : Host.Outcome State Fault Refusal :=
  .next (s.devWrite Off.devScalebase (·.writeScaleBase v))

/-- DEV_RECIPE_WRITE (R152). -/
def execDevRecipeWrite (k : Nat) (exp : BitVec 8) (s : State) : Host.Outcome State Fault Refusal :=
  .next (if k < 16 then s.devWrite (Off.devRecipe0 + 8 * k) (·.writeRecipe k exp.toNat) else s)

/-- SCALE_LOADED (R150). -/
def execScaleLoaded (s : State) : Host.Outcome State Fault Refusal :=
  .next (s.devWrite Off.devScalestat (·.scaleAction true false))

/-- SCALE_RESEED (R150). -/
def execScaleReseed (s : State) : Host.Outcome State Fault Refusal :=
  .next (s.devWrite Off.devScalestat (·.scaleAction false true))

end Sys2Proof.Machine
end

