-- ==== Sys2Proof/Machine/Engine.lean ====
section
/-! DEFINITION. The stream engine below its codecs: descriptor checks, starts, transfer limits, and the data of plain
transfers (R233 to R243, R252, R389). -/

namespace Sys2Proof.Machine

/-- What landing a transfer gives: data moved; not yet (held, missing, not ready); uncorrectable data in its chunk; or a
cause that ends the operation at its cursor. -/
inductive Land where
  | done (s : State)
  | wait
  | mark (s : State)
  | fail (s : State) (cause : Nat)

namespace Op

/-- Checks of R239 that every descriptor meets; `pos` asks for the extreme-position check. -/
def checks (o : Op) (pos : Bool) : Bool :=
  let cs := (List.range 5).map o.count
  o.aligned && decide (o.kind ≤ 2) && decide (8 ≤ bat o.desc 21 1 ∧ bat o.desc 21 1 ≤ 16) && decide (o.nbuf ≤ 8) &&
  decide (o.flagBase + o.nbuf ≤ 64) && (o.kind ≠ 2 || o.nbuf = 0) && (cs.all fun c => 1 ≤ c && c ≤ 2 ^ 24) &&
  (!o.idxEn || (decide (1 ≤ o.idxDim ∧ o.idxDim ≤ 4) && bat o.desc 88 4 ≠ 0)) &&
  !o.ctrl.testBit 7 && bat o.desc 46 2 = 0 && o.memVa / 2 ^ 57 = 0 && o.sramAddr / 2 ^ 20 = 0 &&
  (!pos ||
    let span (d : Nat) : Int :=
      ((if o.idxEn && o.idxDim = d then bat o.desc 88 4 else o.count d : Nat) - 1 : Int) * o.stride d
    let lo := (List.range 4).foldl (fun a d => a + min 0 (span (d + 1))) (o.memVa : Int)
    let hi := (List.range 4).foldl (fun a d => a + max 0 (span (d + 1))) (o.memVa : Int) + o.count 0 - 1
    decide (0 ≤ lo ∧ hi < (2 : Int) ^ 57))

/-- CODEC values that R236, R259, R281, R299, R332, R348 and R375 define. -/
def codecKnown (c : Nat) : Bool :=
  [0, 0x20, 0x21, 0x30, 0x40, 0x41, 0x50, 0x51, 0x52, 0x53, 0x60, 0x61, 0x62, 0x63, 0x64, 0x65, 0x70].contains c ||
  (0x10 ≤ c && c ≤ 0x1A)

/-- Bytes of a descriptor with this CODEC (R281, R300). -/
def descLen (c : Nat) : Nat := if c = 0x20 ∨ c = 0x21 ∨ c = 0x50 then 192 else 128

/-- The SRAM window lies in the launch's region (R239). -/
def windowOk (o : Op) : Bool :=
  o.kind = 2 || decide (o.sramAddr + (if o.nbuf = 0 then o.total else o.nbuf * o.chunk) ≤ o.size)

/-- Every transfer of the operation has been issued, and it waits for nothing that blocks its queue (R234, R376). -/
def issuedAll (o : Op) : Bool :=
  o.started && (o.poison.isSome || (decide (o.total ≤ o.issued) && match o.wait with
    | .none | .job | .ack => true
    | _ => false))

end Op

namespace State

/-- The first operation of a queue that has not started, when it may start: the operation ahead has issued its last
transfer, or with CTRL.ORDER every earlier one has completed (R234). -/
def startable (s : State) (q : Nat) : Option Op :=
  let l := s.queue q
  match l.findIdx? fun o => !o.started with
  | none => none
  | some k => match l[k]? with
    | none => none
    | some o =>
      if k = 0 then some o
      else if o.ordered then none
      else if (l.take k).all (·.issuedAll) then some o else none

/-- Start an operation (R239, R245): its window, its checks, then WAIT, then what its codec does. -/
def startOp (s : State) (q : Nat) (o : Op) (ok : Bool) (go : State → Nat → Op → State) : State :=
  if !o.windowOk then
    match o.launch with
    | some l => s.launchEnd l 1 (q / 8) o.sramAddr
    | none => s.poisonTail q o.id 4 0
  else if !ok then s.poisonTail q o.id 4 0
  else
    let o' := { o with started := true }
    if o.waitEn then s.modOp q o.id fun o => { o with started := true, wait := .val }
    else go (s.modOp q o.id fun _ => o') q o'

/-! ### Slots and limits (R241 to R243) -/

/-- An operation whose transfers use no slot (R301, R375). -/
def noSlot (o : Op) : Bool := [0x50, 0x62, 0x63, 0x64, 0x65, 0x30].contains o.codec

/-- Its slots come from the hub's reserve: hub queues, the activation store and the shallows engine (R242, R259). -/
def hubClass (q : Nat) (o : Op) : Bool := !isCoreQ q || [0x40, 0x41].contains o.codec

/-- Transfers in flight on a queue. -/
def inFlight (s : State) (q : Nat) : Nat := ((s.queue q).map fun o => if noSlot o then 0 else o.xfers.length).foldl (· + ·) 0

/-- OUT_LIMIT of a queue (R241). -/
def outLimit (s : State) (q : Nat) : Nat :=
  if isCoreQ q then s.g .cor (q / 8) Off.corSqcfg (8 * (q % 8) + 7) (8 * (q % 8))
  else s.g .sth (queueBasin q) Off.sthQcfg (8 * (q % 8) + 7) (8 * (q % 8))

/-- Slots in use on a hub: by each core, and by the hub's own reserve class. -/
def hubUse (s : State) (b : Nat) : List (Nat × Nat) × Nat :=
  s.queues.foldl (fun acc e =>
    if queueBasin e.1 ≠ b then acc
    else e.2.foldl (fun acc o =>
      if noSlot o then acc
      else if hubClass e.1 o then (acc.1, acc.2 + o.xfers.length)
      else (tset acc.1 0 (e.1 / 8) (tget acc.1 0 (e.1 / 8) + o.xfers.length), acc.2)) acc) ([], 0)

/-- Transfers holding slots of a hub (STH_SLOTSTAT). -/
def slotsHeld (s : State) (b : Nat) : Nat :=
  let u := s.hubUse b
  u.1.foldl (fun n e => n + e.2) u.2

/-- A slot is free for a transfer of an operation: its own reserve, else the shared part (R243). -/
def slotGrant (s : State) (q : Nat) (o : Op) : Bool :=
  let b := queueBasin q
  let cr := s.g .sth b Off.sthSlotcfg 18 16
  let hr := s.g .sth b Off.sthSlotcfg 11 0
  let u := s.hubUse b
  let own := if hubClass q o then decide (u.2 < hr) else decide (tget u.1 0 (q / 8) < cr)
  let shared := u.1.foldl (fun n e => n + (e.2 - cr)) (u.2 - hr)
  own || decide (shared < 4096 - 576 * cr - hr)

/-! ### Issuing transfers -/

/-- The chunk's slot lets a transfer be issued: IN up to NBUF chunks ahead of consumption, OUT when its flag is set
(R238). -/
def chunkOpen (s : State) (q : Nat) (o : Op) (c : Nat) : Bool :=
  if o.kind = 0 then o.nbuf = 0 || decide (c < o.nbuf) || o.consumed.contains (c - o.nbuf)
  else if o.kind = 1 then o.nbuf = 0 || s.flag (q / 8) (o.flagBase + c % o.nbuf)
  else true

/-- Record a transfer as issued. -/
def issue (s : State) (q : Nat) (o : Op) (x : Xfer) : State :=
  s.modOp q o.id fun o => { o with xfers := o.xfers ++ [x], issued := x.off + x.len, nissued := o.nissued + 1 }

/-- Issue the next transfer of an operation whose memory side is its codec's: a packed run inside one chunk, one
innermost run and 4 KiB. -/
def issuePacked (s : State) (q : Nat) (o : Op) : State :=
  let n := o.issued
  let lim := min (min (o.count 0 - n % o.count 0) (o.chunk - n % o.chunk)) 4096
  s.issue q o { off := n, len := lim, va := none }

/-! ### Data -/

/-- STEP of the work an operation belongs to (R194). -/
def opStep (o : Op) : Word := o.step

/-- Report uncorrectable data read at a VA (R252, R390): the source is the memory that holds it. -/
def reportPoison (s : State) (q : Nat) (o : Op) (va : Nat) : State :=
  match s.translate (qSlice q) va false with
  | .hit pa _ => match s.region pa with
    | .stacked b => s.detected .sdm b 0x05 o.step (detail := 3) (addr := pa)
    | .dimm d => s.detected .mem (s.chanOf d).1 0x07 o.step (detail := 3) (addr := pa)
    | _ => s.detected .sth (queueBasin q) 0x05 o.step (detail := 3) (addr := pa)
  | _ => s.detected .sth (queueBasin q) 0x05 o.step (detail := 3) (addr := va)

/-- VA of the index word of packed offset n (R240). -/
def idxVa (o : Op) (n : Nat) : Nat := bat o.desc 80 8 + 4 * (posOf o n).getD (o.idxDim - 1) 0

/-- Issue the next transfer of an operation on the walk of R237, index applied (R240). A poisoned index word ends the operation
with cause MEM_POISON at its cursor (DEDUCED; Assumption 16). -/
def issuePlain (s : State) (q : Nat) (o : Op) : State :=
  let n := o.issued
  let b := n % o.count 0
  let lim := min (min (o.count 0 - b) (o.chunk - n % o.chunk)) 4096
  let bad := o.idxEn && (match s.vread (qSlice q) (idxVa o n) 4 with
    | .ok _ true _ => true
    | _ => false)
  if bad then (s.reportPoison q o (idxVa o n)).poisonTail q o.id 3 o.cursor
  else match s.position q o n with
  | none => s
  | some none =>
    let s := if b = 0 then (s.raise .sth (queueBasin q) Ev.sthIdxRange).bump .sth (queueBasin q) (0x200 + 48) 1 else s
    s.issue q o { off := n, len := lim, va := none }
  | some (some ps) =>
    let a := (posVa o ps b).toNat
    s.issue q o { off := n, len := min lim (4096 - a % 4096), va := some a }

/-- Report an uncorrectable SRAM word met by a stream (R389): counted in SRAM_UE, attributed to the physical core. -/
def reportSram (s : State) (c : Nat) (step : Word) (addr : Nat) : State :=
  (s.bump .ras 0 (0x200 + 64) 1).detected .cor c 0x03 step (phys := some (s.physOf c)) (addr := addr)

/-- Bytes of packed range [n, n + len) on the SRAM side, and whether an uncorrectable word lies there. -/
def windowRead (s : State) (q : Nat) (o : Op) (n len : Nat) : Bytes × Bool :=
  let a := o.base + o.windowAddr n
  (s.srRead (q / 8) a len, s.srUe (q / 8) a len)

/-- Land a transfer of a plain operation (R237, R240). -/
def landPlain (s : State) (q : Nat) (o : Op) (x : Xfer) : Land :=
  match o.kind with
  | 0 =>
    match x.va with
    | none => .done (s.windowWrite q o x.off (List.replicate x.len 0))
    | some a => match s.vread (qSlice q) a x.len with
      | .ok _ true s' => .mark (s'.reportPoison q o a)
      | .ok bs false s' => .done (s'.windowWrite q o x.off bs)
      | .hostDown => .fail s 6
      | _ => .wait
  | 1 =>
    match x.va with
    | none => .done s
    | some a =>
      let (bs, ue) := s.windowRead q o x.off x.len
      match s.vwrite (qSlice q) a bs with
      | .ok _ _ s' => .done (if ue then (s'.vpoison (qSlice q) a x.len).reportSram (q / 8) o.step (o.base + o.windowAddr x.off) else s')
      | .hostDown => .fail s 6
      | _ => .wait
  | _ =>
    let src : Land × Bytes := match x.va with
      | none => (.done s, List.replicate x.len 0)
      | some a => match s.vread (qSlice q) a x.len with
        | .ok _ true s' => (.mark (s'.reportPoison q o a), [])
        | .ok bs false s' => (.done s', bs)
        | .hostDown => (.fail s 6, [])
        | _ => (.wait, [])
    match src.1 with
    | .done s' => match s'.vwrite (qSlice q) (o.dstVa + x.off) src.2 with
      | .ok _ _ s'' => .done s''
      | .hostDown => .fail s 6
      | _ => .wait
    | r => r

/-- A transfer has landed: its slot frees, it counts, and chunks move (R241, R257). -/
def xferDone (s : State) (q : Nat) (o : Op) (x : Xfer) : State :=
  let b := queueBasin q
  let s := s.modOp q o.id fun o => { o with xfers := o.xfers.filter (· ≠ x), landed := o.landed ++ [(x.off, x.len)] }
  let s := (s.bump .sth b 0x200 1).bump .sth b (0x200 + 8) x.len
  let s := if isCoreQ q then s.bump .cor (q / 8) (0x3C0 + 8) x.len else s
  s.pump q o.id

/-- Act on what landing a transfer gave. -/
def landed (s : State) (q : Nat) (o : Op) (x : Xfer) : Land → State
  | .done s' => s'.xferDone q o x
  | .wait => s
  | .mark s' =>
    let c := x.off / o.chunk
    let s' := s'.modOp q o.id fun o => { o with xfers := o.xfers.filter (· ≠ x), mark := some (match o.mark with
      | some m => min m c
      | none => c) }
    s'.pump q o.id
  | .fail s' cause => s'.poisonTail q o.id cause o.cursor

end State

end Sys2Proof.Machine
end

