-- ==== Sys2Proof/Machine/ActStore.lean ====
section
/-! DEFINITION. The activation store: saves, restores, placement, room waits and purge (R259 to R276). -/

namespace Sys2Proof.Machine

/-- Bytes [0, p) have landed, from the landed ranges; `fuel` bounds the ranges joined. -/
def landedPrefix : Nat → List (Nat × Nat) → Nat → Nat
  | 0, _, p => p
  | f + 1, l, p => match l.find? fun r => r.1 ≤ p && p < r.1 + r.2 with
    | some r => landedPrefix f l (r.1 + r.2)
    | none => p

/-- Every packed byte below this has landed. -/
def Op.prefix (o : Op) : Nat := landedPrefix (o.landed.length + 1) o.landed 0

/-- Input bytes of a stored unit, and its stored bytes where fixed: RAW 4 KiB, LOSSLESS 4 KiB, a group otherwise. -/
def unitIn (codec fmt : Nat) : Nat := if codec ≤ 1 then 4096 else 192 * (fmtBits fmt / 8)

/-- Encode one unit (R262 to R265). -/
def encUnit (codec fmt : Nat) (bs : Bytes) : Bytes :=
  match codec with
  | 0 => bs
  | 1 => losslessEnc (fmtBits fmt / 8) bs
  | _ => match fixedParams codec fmt with
    | some (n, w) => encGroup n w (elemsOf fmt bs)
    | none => []

/-- Worst-case stored size (R268). -/
def worstStored (codec fmt t : Nat) : Nat :=
  match codec with
  | 0 => t
  | 1 => (t + 4095) / 4096 * 4128
  | _ => match fixedParams codec fmt with
    | some (n, _) => (t + unitIn codec fmt - 1) / unitIn codec fmt * n
    | none => 0

/-- A class entry (R275). -/
structure ActClass where
  fmt : Nat
  codec : Nat
  tiers : List Nat
  gather : Bool
  hold : Bool
  valid : Bool
  deriving DecidableEq, Repr

namespace State

/-- ACT_CLASSn. -/
def actClass (s : State) (b n : Nat) : ActClass :=
  let w := s.rd (pageBase .act b + Off.actClass + 8 * n)
  { fmt := fld w 63 56, codec := fld w 50 48
    tiers := [fld w 47 46, fld w 45 44, fld w 43 42].takeWhile (· ≠ 0)
    gather := bit w 2, hold := bit w 1, valid := bit w 0 }

/-- VA of a tier's pool. -/
def poolVa (s : State) (b t : Nat) : Nat := s.g .act b (0x100 + 16 * t) 56 16 * 65536
/-- Granules of a tier's pool. -/
def poolLen (s : State) (b t : Nat) : Nat := s.g .act b (0x108 + 16 * t) 23 0
/-- Granules in use in a tier. -/
def poolUsed (s : State) (b t : Nat) : Nat := ((s.ledger b).filter (·.tier = t)).foldl (fun n r => n + r.ngran) 0
/-- Tier 1 granules of records with or without GATHER. -/
def tier1Used (s : State) (b : Nat) (gather : Bool) : Nat :=
  ((s.ledger b).filter fun r => r.tier = 1 && r.gather = gather).foldl (fun n r => n + r.ngran) 0

/-- The lowest-addressed free run of n granules in a tier (R268). -/
def freeRun (s : State) (b t n : Nat) : Option Nat :=
  let rs := (s.ledger b).filter (·.tier = t)
  let cands := 0 :: rs.map fun r => r.gran + r.ngran
  let ok (g : Nat) : Bool := g + n ≤ s.poolLen b t && rs.all fun r => r.gran + r.ngran ≤ g || g + n ≤ r.gran
  cands.foldl (fun a g => if ok g then some (match a with
    | some x => min x g
    | none => g) else a) none

/-- A tier takes a reservation of n granules (R268, R276). -/
def tierTakes (s : State) (b t n : Nat) (gather : Bool) : Option Nat :=
  if t = 3 && !s.hostUp then none
  else if t = 1 && !gather && decide (s.g .act b Off.actBudget 23 0 < s.tier1Used b false + n) then none
  else s.freeRun b t n

/-- The placement of a save: tier and first granule. -/
def placeSave (s : State) (b n : Nat) (c : ActClass) : Option (Nat × Nat) :=
  (if c.gather then [1] else c.tiers).findSome? fun t => (s.tierTakes b t n c.gather).map fun g => (t, g)

/-- The lowest free ledger slot. -/
def freeSlot (s : State) (b : Nat) : Option Nat :=
  let n := s.g .act b Off.actLedgerlen 16 0
  if n ≤ (s.ledger b).length then none
  else (List.range ((s.ledger b).length + 1)).find? fun k => !(s.ledger b).any (·.slot = k)

/-- The record of a key and step; with `valid`, a VALID one. -/
def findRec (s : State) (b key : Nat) (step : Word) (valid : Bool) : Option ARec :=
  (s.ledger b).find? fun r => r.key.toNat = key && r.step = step && (r.valid || !valid)

/-- Form checks of ACT_SAVE and ACT_RESTORE (R259, R260). -/
def actForm (q : Nat) (o : Op) (kind : Nat) : Bool :=
  isCoreQ q && o.checks false && o.kind = kind && !o.idxEn && nfld o.dstVa 56 48 = 0

/-- Checks of R272 that the class and T decide. -/
def actChecks (c : ActClass) (o : Op) : Bool :=
  let e := fmtBits c.fmt / 8
  c.valid && codecAllowed c.codec c.fmt && decide (c.codec ≤ 4 ∧ o.total < 2 ^ 32) && o.total % e = 0

/-- A save starts, or waits for room (R268, R269, R272, R273). -/
def actSaveBegin (s : State) (q : Nat) (o : Op) : State :=
  let b := queueBasin q
  let key := o.dstVa
  let c := s.actClass b (key / 2 ^ 58)
  if !actChecks c o || keyRelease key then s.poisonTail q o.id 4 0
  else if (s.findRec b key o.step false).isSome then (s.raise .act b Ev.actDupKey).poisonTail q o.id 4 0
  else
    let n := max 1 (roundUp (worstStored c.codec c.fmt o.total) 65536 / 65536)
    let free := s.poolLen b 1 - s.poolUsed b 1
    let fits := s.g .act b Off.actGccfg 0 0 = 1 && decide (n + s.g .act b Off.actGcres 23 0 ≤ free)
    if c.gather && !fits then
      let s := (s.bump .act b (0x200 + 48) 1).gatherBit b (key % 2 ^ 32) false
      s.modOp q o.id fun o => { o with wait := .none, aux := [0] }
    else match s.freeSlot b, s.placeSave b n c with
      | some k, some (t, g) =>
        let r : ARec :=
          { slot := k, key := BitVec.ofNat 64 key, step := o.step, hold := c.hold, gather := c.gather, valid := false,
            poisoned := false, codec := c.codec, tier := t, va := s.poolVa b t + 65536 * g, t := o.total, stored := 0,
            gran := g, ngran := n, freeDue := false }
        let s := (s.setLedger b (s.ledger b ++ [r])).writeRec b r
        let s := if c.gather then (s.bump .act b (0x200 + 40) 1).gatherBit b (key % 2 ^ 32) true else s
        let s := if !c.gather && c.tiers.head? ≠ some t then (s.bump .act b (0x200 + 32) 1).raise .act b Ev.actSpill else s
        s.modOp q o.id fun o => { o with wait := .none, aux := [k + 1, 0, 0, c.fmt] }
      | _, _ => s.modOp q o.id fun o => { o with wait := .room }

/-- Write encoded units of a save while they are whole (R262); none where a write cannot proceed. `pos` is the stored
offset of unit k. -/
def saveUnits (b : Nat) (r : ARec) (fmt : Nat) (buf : Bytes) (pre : Nat) (ue : Bool) :
    Nat → State → Nat → Nat → Except Bool (State × Nat × Nat × Bool)
  | 0, s, k, pos => .ok (s, k, pos, false)
  | f + 1, s, k, pos =>
    let u := unitIn r.codec fmt
    if r.t ≤ k * u ∨ pre < min r.t ((k + 1) * u) then .ok (s, k, pos, false)
    else
      let bs := (buf.drop (k * u)).take (min u (r.t - k * u))
      let en := encUnit r.codec fmt bs
      match s.vwrite b (r.va + pos) en with
      | .ok _ _ s' =>
        let s' := if ue then s'.vpoison b (r.va + pos) en.length else s'
        match saveUnits b r fmt buf pre ue f s' (k + 1) (pos + en.length) with
        | .ok (s, k', pos', nf) => .ok (s, k', pos', nf || (decide (2 ≤ r.codec) && groupNf (elemsOf fmt bs)))
        | e => e
      | .hostDown => .error true
      | _ => .error false

/-- Put packed bytes at an offset of a buffer that may be shorter. -/
def bufPut (buf : Bytes) (o : Nat) (bs : Bytes) : Bytes :=
  bput (buf ++ List.replicate (o + bs.length - buf.length) 0) o bs

/-- Land a transfer of a save (R262, R268). -/
def landSave (s : State) (q : Nat) (o : Op) (x : Xfer) : Land :=
  let b := queueBasin q
  let k := o.aux.getD 0 0
  if k = 0 then .done s
  else match s.rec? b (k - 1) with
    | none => .done s
    | some r =>
      let (bs, ue) := s.windowRead q o x.off x.len
      let buf := bufPut o.buf x.off bs
      let pre := landedPrefix (o.landed.length + 2) ((x.off, x.len) :: o.landed) 0
      match saveUnits b r (o.aux.getD 3 0) buf pre ue (pre / unitIn r.codec (o.aux.getD 3 0) + 2) s (o.aux.getD 1 0) (o.aux.getD 2 0) with
      | .error true => .fail s 6
      | .error false => .wait
      | .ok (s, n, pos, nf) =>
        let s := if nf then match o.launch with
            | some l => if s.running (q / 8) o.fill = some l then s.orLaunchWord (q / 8) o.fill 1 else s
            | none => s
          else s
        let s := if ue then s.reportSram (q / 8) o.step (o.base + o.windowAddr x.off) else s
        .done (s.modOp q o.id fun o => { o with buf := buf, aux := [k, n, pos, o.aux.getD 3 0] })

/-- Report a stored group, block or word that cannot be used, and poison its record (R274). -/
def actBad (s : State) (b : Nat) (r : ARec) (o : Op) (crc : Bool) : State :=
  let s := s.putRec b { r with poisoned := true }
  let s := if crc then (s.bump .act b (0x200 + 64) 1).raise .act b Ev.actCrcError else s
  s.detected .act b 0x08 o.step (detail := 3) (addr := r.va)

/-- A restore starts (R271, R272, R274). -/
def actRestoreBegin (s : State) (q : Nat) (o : Op) : State :=
  let b := queueBasin q
  let key := o.dstVa
  let c := s.actClass b (key / 2 ^ 58)
  if !actChecks c o then s.poisonTail q o.id 4 0
  else match s.findRec b (key - (if keyRelease key then 2 ^ 57 else 0)) o.step true with
    | none => (s.raise .act b Ev.actMissingKey).poisonTail q o.id 4 0
    | some r =>
      if r.t ≠ o.total then s.poisonTail q o.id 4 0
      else
        let s := s.modOp q o.id fun o => { o with wait := .none, aux := [r.slot + 1, 0, 0, c.fmt] }
        if r.poisoned then (s.actBad b r o false).poisonTail q o.id 3 0 else s

/-- Stored offset of block k of a LOSSLESS record: headers are read in order. -/
def losslessPos (s : State) (b : Nat) (r : ARec) : Nat → Option Nat
  | 0 => some 0
  | k + 1 => match losslessPos s b r k with
    | none => none
    | some p => match s.vread b (r.va + p) 8 with
      | .ok h false _ => some (p + losslessLen h)
      | _ => none

/-- What reading and decoding a unit gives. -/
inductive UnitRes where
  | ok (bs : Bytes) (s : State) | wait | bad (s : State) (crc : Bool) | hostDown

/-- Read and decode unit k of a record (R264, R265, R274). -/
def restoreUnit (s : State) (b : Nat) (r : ARec) (fmt k : Nat) : UnitRes :=
  let u := unitIn r.codec fmt
  let n := min u (r.t - k * u)
  let get (a len : Nat) (f : Bytes → Option Bytes) : UnitRes := match s.vread b a len with
    | .ok _ true s' => .bad s' false
    | .ok bs false s' => match f bs with
      | some d => .ok d s'
      | none => .bad s' true
    | .hostDown => .hostDown
    | _ => .wait
  match r.codec with
  | 0 => get (r.va + k * u) n some
  | 1 => match s.losslessPos b r k with
    | none => .wait
    | some p => match s.vread b (r.va + p) 8 with
      | .ok h false _ => get (r.va + p) (losslessLen h) fun st =>
          let d := losslessDec (fmtBits fmt / 8) n st
          if d.2 then some d.1 else none
      | .ok _ true s' => .bad s' false
      | .hostDown => .hostDown
      | _ => .wait
  | _ => match fixedParams r.codec fmt with
    | none => .wait
    | some (gb, w) => get (r.va + k * gb) gb fun g =>
        if groupOk g then some ((bytesOf fmt (decGroup fmt w g)).take n) else none

/-- Units k to k + n − 1 of a record, joined. -/
def restoreUnits (b : Nat) (r : ARec) (fmt : Nat) : Nat → State → Nat → UnitRes
  | 0, s, _ => .ok [] s
  | n + 1, s, k => match s.restoreUnit b r fmt k with
    | .ok bs s' => match restoreUnits b r fmt n s' (k + 1) with
      | .ok t s'' => .ok (bs ++ t) s''
      | e => e
    | e => e

/-- Land a transfer of a restore. -/
def landRestore (s : State) (q : Nat) (o : Op) (x : Xfer) : Land :=
  let b := queueBasin q
  match s.rec? b (o.aux.getD 0 0 - 1) with
  | none => .wait
  | some r =>
    let u := unitIn r.codec (o.aux.getD 3 0)
    let k := x.off / u
    match restoreUnits b r (o.aux.getD 3 0) ((x.off + x.len + u - 1) / u - k) s k with
    | .ok bs s' => .done (s'.windowWrite q o x.off (bsub bs (x.off - k * u) x.len))
    | .wait => .wait
    | .hostDown => .fail s 6
    | .bad s' crc => .mark (s'.actBad b r o crc)

/-- The page that serves an operation is quiesced, so that it waits (R59). -/
def opQuiet (s : State) (b : Nat) (o : Op) : Bool :=
  let c := opCodec o
  s.quiet .sth b || ((c = 0x40 || c = 0x41) && s.quiet .act b) || (c = 0x30 && s.quiet .shl b) ||
    (0x51 ≤ c && c ≤ 0x53 && s.quiet .kvp 0)

/-- Start an operation of a queue if it is the next to start and satisfies `p`. -/
def startIf (s : State) (q : Nat) (p : Op → Bool) (ok : Op → Bool) (go : State → Nat → Op → State) : State :=
  match s.startable q with
  | some o => if p o && s.ready .sth (queueBasin q) && !s.opQuiet (queueBasin q) o then s.startOp q o (ok o) go else s
  | none => s

/-- The operation of a queue that waits in a given way. -/
def waiting (s : State) (q : Nat) (p : OpWait → Bool) : Option Op := (s.queue q).find? fun o => o.started && p o.wait

end State

/-- ACT_SAVE (R268): the class is checked and a placement reserved, or the save waits for room. -/
def execActSave (q : Nat) (s : State) : Host.Outcome State Fault Refusal :=
  .next (s.startIf q (opCodec · = 0x40) (State.actForm q · 1) fun s q o => s.actSaveBegin q o)

/-- ACT_RESTORE (R259): the record is looked up; its data is decoded as the transfers land. -/
def execActRestore (q : Nat) (s : State) : Host.Outcome State Fault Refusal :=
  .next (s.startIf q (opCodec · = 0x41) (State.actForm q · 0) fun s q o => s.actRestoreBegin q o)

/-- ACT_SAVE_ROOM_FREED (R269). -/
def execActSaveRoomFreed (q : Nat) (s : State) : Host.Outcome State Fault Refusal :=
  .next (match s.waiting q (· = .room) with
    | some o => s.actSaveBegin q o
    | none => s)

/-- ACT_ROOM_TIMEOUT (R269). -/
def execActRoomTimeout (q : Nat) (s : State) : Host.Outcome State Fault Refusal :=
  .next (match s.waiting q (· = .room) with
    | some o => (s.raise .act (State.queueBasin q) Ev.actRoomTimeout).poisonTail q o.id 2 o.cursor
    | none => s)

/-- ACT_PURGE (R271): accepted only while the page reads QUIESCED. -/
def execActPurge (basin : Nat) (s : State) : Host.Outcome State Fault Refusal :=
  .next (if basin < 4 then
    if !s.ready .act basin then s.refuse false true Ev.devEarlyAccess (pageBase .act basin + Off.actPurge)
    else if tget s.rst.quiesced false (pageBase .act basin) then
      (s.ledger basin).foldl (fun s r => s.freeOrDue basin r) s
    else s.raise .act basin Ev.actCfgRefused
  else s)

end Sys2Proof.Machine
end

