-- ==== Sys2Proof/Machine/Accum.lean ====
section
/-! DEFINITION. Accumulation of a 64 × 64 tile: anchor, window, overflow, FP32 path and non-finite marks (R161 to R167).
The matrix engine and the shallows engine share it (R290). -/

namespace Sys2Proof.Machine

/-- What a tile is computed from. Bounds are those of R163; `rows` says which rows are computed. -/
structure TileIn where
  k : Nat
  g : Nat
  a : Nat → Nat → Num
  b : Nat → Nat → Num
  ba : Option Int
  bb : Option Int
  c : Option (Nat → Nat → Num)
  rows : List Nat

/-- Largest exponent of the nonzero finite values of an operand that is scanned (R163). -/
def scanBound (rows cols : Nat) (f : Nat → Nat → Num) : Option Int :=
  maxLg (((List.range rows).map fun i => ((List.range cols).map (f i)).filter (·.finite)).flatten)

/-- The larger of two bounds that may not exist. -/
def maxBound : Option Int → Option Int → Option Int
  | some a, some b => some (max a b)
  | some a, none => some a
  | none, b => b

namespace TileIn

/-- Bound of the addend (R163). -/
def cBound (t : TileIn) : Option Int :=
  match t.c with
  | some f => (scanBound 64 64 f).map (· + 1)
  | none => none

/-- top (R163). -/
def top (t : TileIn) : Int :=
  let p := match t.ba, t.bb with
    | some a, some b => some (a + b + 1)
    | _, _ => none
  (maxBound p t.cBound).getD 0

/-- L for a window of headroom h (R163). -/
def lsb (t : TileIn) (h : Nat) : Int := t.top + 1 + h - 39

/-- Products of element (i, j), by k. -/
def pairs (t : TileIn) (i j : Nat) : List (Num × Num) := (List.range t.k).map fun k => (t.a i k, t.b j k)

/-- The addend of an element, when there is one. -/
def addend (t : TileIn) (i j : Nat) : Option Num := t.c.map fun f => f i j

end TileIn

/-- NaN, a positive and a negative infinity among products and an addend (R167). -/
def markOf (ps : List (Num × Num)) (c : Option Num) : Bool × Bool × Bool :=
  let term (acc : Bool × Bool × Bool) (v : Num) : Bool × Bool × Bool := match v with
    | .nan _ => (true, acc.2)
    | .inf false => (acc.1, true, acc.2.2)
    | .inf true => (acc.1, acc.2.1, true)
    | .fin _ _ _ => acc
  let acc := ps.foldl (fun acc p => if p.1.finite && p.2.finite then acc else term acc (p.1.mul p.2)) (false, false, false)
  match c with
  | some v => term acc v
  | none => acc

/-- The mark of element (i, j) as its value (R167). -/
def TileIn.mark (t : TileIn) (i j : Nat) : Option Num :=
  match markOf (t.pairs i j) (t.addend i j) with
  | (false, false, false) => none
  | (false, true, false) => some (.inf false)
  | (false, false, true) => some (.inf true)
  | _ => some (.nan (Config.mxNanSign (64 * i + j)))

/-- A number over 2^l, rounded to nearest even; other values give 0. -/
def rneInt (v : Num) (l : Int) : Int :=
  match v with
  | .fin s m e => let r : Int := (shiftRound 0 0 m (l - e) : Nat); if s then -r else r
  | _ => 0

/-- A product held down to 2^u: bits below are dropped toward zero in magnitude. -/
def heldProduct (p : Num × Num) (u : Int) : Int :=
  match p.1, p.2 with
  | .fin s m e, .fin s' m' e' =>
    let n : Int := (shiftRound 1 0 (m * m') (u - (e + e')) : Nat)
    if s != s' then -n else n
  | _, _ => 0

/-- Exact sum of a group's held products. -/
def groupSum (ps : List (Num × Num)) (u : Int) : Int := ps.foldl (fun a p => a + heldProduct p u) 0

/-- The window of an element after n groups, with its overflow (R164). -/
def TileIn.window (t : TileIn) (l : Int) (i j n : Nat) : Int × Bool :=
  let ps := t.pairs i j
  let w0 := match t.addend i j with
    | some v => rneInt v l
    | none => 0
  (List.range n).foldl (fun acc q =>
    let w := acc.1 + rneInt (.ofInt (groupSum ((ps.drop (q * t.g)).take t.g) (l - 24)) 0) 24
    (w, acc.2 || decide (w < -(2 ^ 39) ∨ 2 ^ 39 ≤ w))) (w0, false)

/-- The FP32 accumulator of an element after n groups, with the flags it sets (R166). -/
def TileIn.fallback (t : TileIn) (i j n : Nat) : Num × Nat :=
  let ps := t.pairs i j
  let f0 := match t.addend i j with
    | some v => v
    | none => .fin false 0 0
  (List.range n).foldl (fun acc q =>
    let gp := (ps.drop (q * t.g)).take t.g
    let s := match maxLg (gp.map fun p => p.1.mul p.2) with
      | some e => toF32 (.ofInt (groupSum gp (e - 48)) (e - 48))
      | none => ⟨0, 0⟩
    let f := toF32 (acc.1.add (f32 s.bits))
    (f32 f.bits, acc.2 ||| s.fl % 4 ||| f.fl % 4)) (f0, 0)

/-- A value of a computed element. -/
structure TileElem where
  i : Nat
  j : Nat
  v : Num

/-- One attempt in a window of headroom h: every element's value, or none when some element overflows. Marked elements
take no part in overflow (R167). -/
def TileIn.attempt (t : TileIn) (h : Nat) : Option (List TileElem) :=
  let l := t.lsb h
  let es := (t.rows.map fun i => (List.range 64).map fun j => (i, j)).flatten
  es.foldr (fun e acc => acc.bind fun r => match t.mark e.1 e.2 with
    | some v => some (⟨e.1, e.2, v⟩ :: r)
    | none =>
      let w := t.window l e.1 e.2 (t.k / t.g)
      if w.2 then none else some (⟨e.1, e.2, .ofInt w.1 l⟩ :: r)) (some [])

/-- The FP32 path: every element's value and the flags set. -/
def TileIn.fp32Path (t : TileIn) : List TileElem × Nat :=
  let es := (t.rows.map fun i => (List.range 64).map fun j => (i, j)).flatten
  es.foldr (fun e acc => match t.mark e.1 e.2 with
    | some v => (⟨e.1, e.2, v⟩ :: acc.1, acc.2)
    | none =>
      let f := t.fallback e.1 e.2 (t.k / t.g)
      (⟨e.1, e.2, f.1⟩ :: acc.1, acc.2 ||| f.2)) ([], 0)

/-- A tile run to its end (R165, R166): values, flags of the FP32 path, replays made. -/
def TileIn.run (t : TileIn) (force : Bool) : Nat → Nat → List TileElem × Nat × Nat
  | 0, n => let r := t.fp32Path; (r.1, r.2, n)
  | f + 1, h =>
    if force then let r := t.fp32Path; (r.1, r.2, 0)
    else match t.attempt h with
      | some es => (es, 0, 3 - f)
      | none => match f with
        | 0 => let r := t.fp32Path; (r.1, r.2, 3)
        | f' + 1 => TileIn.run t force (f' + 1) (h + 8)

end Sys2Proof.Machine
end

