-- ==== Sys2Proof/Machine/Conv.lean ====
section
/-! DEFINITION. Convolution geometry, patch delivery and feature-map streams (R277 to R285, R295, R296). -/

namespace Sys2Proof.Machine

/-- What gathering data gives. -/
inductive Got (α : Type) where
  | ok (v : α) (s : State)
  | wait
  | poison (s : State) (va : Nat)
  | crc (s : State)
  | hostDown

/-! ### Geometry (R277, R279, R280) -/

/-- A geometry block (R279). -/
structure Geom where
  n : Nat
  inp : Nat × Nat × Nat
  c : Nat
  layout : Nat
  fmt : Nat
  ker : Nat × Nat × Nat
  pad : Nat
  str : Nat × Nat × Nat
  codec : Nat
  dil : Nat × Nat × Nat
  before : Nat × Nat × Nat
  out : Nat × Nat × Nat
  padVal : Nat
  k0 : Nat
  row0 : Nat
  extent : Nat
  deriving DecidableEq, Repr

/-- The geometry in 64 bytes. -/
def Geom.ofBytes (b : Bytes) : Geom :=
  { n := bat b 0 2, inp := (bat b 2 2, bat b 4 2, bat b 6 2), c := bat b 8 2, layout := bat b 10 1, fmt := bat b 11 1
    ker := (bat b 12 1, bat b 13 1, bat b 14 1), pad := bat b 15 1, str := (bat b 16 1, bat b 17 1, bat b 18 1)
    codec := bat b 19 1, dil := (bat b 20 2, bat b 22 2, bat b 24 2), before := (bat b 26 2, bat b 28 2, bat b 30 2)
    out := (bat b 32 2, bat b 34 2, bat b 36 2), padVal := bat b 40 4, k0 := bat b 44 4, row0 := bat b 48 8
    extent := bat b 56 1 }

/-- A property of all three axes. -/
def all3 (x : Nat × Nat × Nat) (p : Nat → Bool) : Bool := p x.1 && p x.2.1 && p x.2.2

/-- Reserved bytes of a geometry block are 0. -/
def geomReservedOk (b : Bytes) : Bool := bat b 38 2 = 0 && bat b 57 7 = 0

namespace Geom

/-- Fields lie in the ranges of R279. -/
def rangesOk (g : Geom) : Bool :=
  let r (lo hi v : Nat) : Bool := lo ≤ v && v ≤ hi
  r 1 65535 g.n && all3 g.inp (r 1 65535) && r 1 65535 g.c && all3 g.ker (r 1 7) && g.pad ≤ 3 && all3 g.str (r 1 16) &&
  all3 g.dil (r 1 32767) && all3 g.out (r 1 65535) && g.extent ≤ 1

/-- LAYOUT, ELEM_FMT and CODEC_IN are ones that R277 and R295 allow. -/
def formatOk (g : Geom) : Bool :=
  g.layout ≤ 2 && g.fmt ≤ 5 && (g.codec = 0 || match fmCodec g.codec with
    | some (_, f) => f = g.fmt
    | none => false)

/-- Kernel positions. -/
def taps (g : Geom) : Nat := g.ker.1 * g.ker.2.1 * g.ker.2.2

/-- Padded channels (R278). -/
def cp (g : Geom) : Nat := roundUp g.c 32

/-- Kernel indices of tap t. -/
def tapIdx (g : Geom) (t : Nat) : Nat × Nat × Nat :=
  (t / (g.ker.2.1 * g.ker.2.2), t / g.ker.2.2 % g.ker.2.1, t % g.ker.2.2)

end Geom

/-- Positions of a map. -/
def vol (e : Nat × Nat × Nat) : Nat := e.1 * e.2.1 * e.2.2

/-- Image and coordinates of a flat position. -/
def unflat (e : Nat × Nat × Nat) (q : Nat) : Nat × (Nat × Nat × Nat) :=
  (q / vol e, (q / (e.2.1 * e.2.2) % e.1, q / e.2.2 % e.2.1, q % e.2.2))

/-- Flat position of image and coordinates. -/
def flatPos (e : Nat × Nat × Nat) (n : Nat) (p : Nat × Nat × Nat) : Nat := ((n * e.1 + p.1) * e.2.1 + p.2.1) * e.2.2 + p.2.2

/-- Channel block of a layout; 0 for CL. -/
def layBlock (l : Nat) : Nat := if l = 1 then 16 else if l = 2 then 32 else 0

/-- Element index of (n, position, c) in a layout with C channels (R277). -/
def elemIdx (layout : Nat) (e : Nat × Nat × Nat) (cc n : Nat) (p : Nat × Nat × Nat) (c : Nat) : Nat :=
  let b := layBlock layout
  if b = 0 then flatPos e n p * cc + c
  else ((n * (roundUp cc b / b) + c / b) * vol e + flatPos e 0 p) * b + c % b

/-- Elements of a map's storage, padded channel places included. -/
def mapElems (layout : Nat) (e : Nat × Nat × Nat) (cc n : Nat) : Nat :=
  let b := layBlock layout
  n * vol e * (if b = 0 then cc else roundUp cc b)

/-- The mirror map of R280. -/
def mirror (p : Int) (n : Nat) : Nat :=
  if n ≤ 1 then 0
  else
    let q : Int := 2 * ((n : Int) - 1)
    let r := p % q
    (if (n : Int) ≤ r then q - r else r).toNat

/-- How R280 resolves a tap. -/
inductive Tap where
  | elem (p : Nat × Nat × Nat)
  | zero
  | pad
  deriving DecidableEq, Repr

/-- Resolve a position by the padding mode (R280). -/
def resolve (pad : Nat) (e : Nat × Nat × Nat) (p : Int × Int × Int) : Tap :=
  let ins (x : Int) (n : Nat) : Bool := decide (0 ≤ x ∧ x < n)
  if ins p.1 e.1 && ins p.2.1 e.2.1 && ins p.2.2 e.2.2 then .elem (p.1.toNat, p.2.1.toNat, p.2.2.toNat)
  else
    let f (x : Int) (n : Nat) : Nat :=
      if ins x n then x.toNat else if pad = 2 then mirror x n else (max 0 (min x ((n : Int) - 1))).toNat
    match pad with
    | 0 => .zero
    | 1 => .pad
    | _ => .elem (f p.1 e.1, f p.2.1 e.2.1, f p.2.2 e.2.2)

namespace Geom

/-- Position that output o and tap t reach (R280). -/
def reach (g : Geom) (o : Nat × Nat × Nat) (t : Nat) : Int × Int × Int :=
  let j := g.tapIdx t
  let f (o s j d p : Nat) : Int := o * s + j * d - p
  (f o.1 g.str.1 j.1 g.dil.1 g.before.1, f o.2.1 g.str.2.1 j.2.1 g.dil.2.1 g.before.2.1, f o.2.2 g.str.2.2 j.2.2 g.dil.2.2 g.before.2.2)

/-- Extents of the padded input (R283). -/
def padded (g : Geom) : Nat × Nat × Nat :=
  let f (o s k d : Nat) : Nat := (o - 1) * s + (k - 1) * d + 1
  (f g.out.1 g.str.1 g.ker.1 g.dil.1, f g.out.2.1 g.str.2.1 g.ker.2.1 g.dil.2.1, f g.out.2.2 g.str.2.2 g.ker.2.2 g.dil.2.2)

/-- The output that tap t of an input position serves, when there is one (R283). -/
def serves (g : Geom) (p : Int × Int × Int) (t : Nat) : Option (Nat × Nat × Nat) :=
  let j := g.tapIdx t
  let f (p : Int) (pd j d s o : Nat) : Option Nat :=
    let x := p + pd - (j * d : Nat)
    if 0 ≤ x ∧ x % s = 0 ∧ x / s < o then some (x / s).toNat else none
  match f p.1 g.before.1 j.1 g.dil.1 g.str.1 g.out.1, f p.2.1 g.before.2.1 j.2.1 g.dil.2.1 g.str.2.1 g.out.2.1,
      f p.2.2 g.before.2.2 j.2.2 g.dil.2.2 g.str.2.2 g.out.2.2 with
  | some a, some b, some c => some (a, b, c)
  | _, _, _ => none

end Geom

/-- What an operand place takes: an element of the gathered map by index, 0, or PAD_VALUE. -/
inductive Src where
  | elem (i : Nat)
  | zero
  | pad
  deriving DecidableEq, Repr

namespace Geom

/-- Element k of CONV_PATCH row position q (R282), over the gathered input. -/
def patchSrc (g : Geom) (q k : Nat) : Src :=
  let c := k % g.cp
  if g.taps * g.cp ≤ k ∨ g.n * vol g.out ≤ q ∨ g.c ≤ c then .zero
  else
    let (n, o) := unflat g.out q
    match resolve g.pad g.inp (g.reach o (k / g.cp)) with
    | .elem p => .elem (elemIdx g.layout g.inp g.c n p c)
    | .zero => .zero
    | .pad => .pad

/-- Element k of CONV_TPATCH row position q (R283), over the gathered dY. -/
def tpatchSrc (g : Geom) (q k : Nat) : Src :=
  let e := if g.extent = 0 then g.inp else g.padded
  let c := k / g.taps
  if g.cp * g.taps ≤ k ∨ g.n * vol e ≤ q ∨ g.c ≤ c then .zero
  else
    let (n, x) := unflat e q
    let sh (v p : Nat) : Int := if g.extent = 0 then v else (v : Int) - p
    match g.serves (sh x.1 g.before.1, sh x.2.1 g.before.2.1, sh x.2.2 g.before.2.2) (k % g.taps) with
    | some o => .elem (elemIdx g.layout g.out g.c n o c)
    | none => .zero

/-- Extents of the map a delivery gathers. -/
def gathered (g : Geom) (t : Bool) : Nat × Nat × Nat := if t then g.out else g.inp

end Geom

namespace State

/-! ### Gathering (R296) -/

/-- Report uncorrectable data read at a VA through a slice (R252, R390): the source is the memory that holds it. -/
def poisonAt (s : State) (sl b va : Nat) (step : Word) : State :=
  match s.translate sl va false with
  | .hit pa _ => match s.region pa with
    | .stacked d => s.detected .sdm d 0x05 step (detail := 3) (addr := pa)
    | .dimm d => s.detected .mem (s.chanOf d).1 0x07 step (detail := 3) (addr := pa)
    | _ => s.detected .sth b 0x05 step (detail := 3) (addr := pa)
  | _ => s.detected .sth b 0x05 step (detail := 3) (addr := va)

/-- Read bytes as `Got`. -/
def gotRead (s : State) (sl va n : Nat) : Got Bytes :=
  match s.vread sl va n with
  | .ok bs false s' => .ok bs s'
  | .ok _ true s' => .poison s' va
  | .hostDown => .hostDown
  | _ => .wait

/-- Element patterns read one by one from a plain array of e-byte elements. -/
def gotPlain (sl base e : Nat) : List Nat → State → Got (List Nat)
  | [], s => .ok [] s
  | i :: t, s => match s.gotRead sl (base + e * i) e with
    | .ok bs s' => match gotPlain sl base e t s' with
      | .ok l s'' => .ok (leNat bs :: l) s''
      | r => r
    | .wait => .wait
    | .poison s' a => .poison s' a
    | .crc s' => .crc s'
    | .hostDown => .hostDown

/-- Groups of a coded map, decoded: group number and its 192 patterns. -/
def gotGroups (sl b base gb w fmt : Nat) : List Nat → State → Got (List (Nat × List Nat))
  | [], s => .ok [] s
  | k :: t, s => match s.gotRead sl (base + gb * k) gb with
    | .ok g s' =>
      if groupOk g then
        match gotGroups sl b base gb w fmt t (s'.bump .shl b (0x200 + 40) (192 * (fmtBits fmt / 8))) with
        | .ok l s'' => .ok ((k, decGroup fmt w g) :: l) s''
        | r => r
      else .crc (s'.bump .shl b (0x200 + 56) 1)
    | .wait => .wait
    | .poison s' a => .poison s' a
    | .crc s' => .crc s'
    | .hostDown => .hostDown

/-- Element patterns of a map stored plainly (codec 0) or under a feature-map codec. -/
def gotElems (s : State) (sl b base codec fmt : Nat) (is : List Nat) : Got (List Nat) :=
  match fmCodec codec with
  | none => gotPlain sl base (fmtBits fmt / 8) is s
  | some (c, _) => match fixedParams c fmt with
    | none => .wait
    | some (gb, w) => match gotGroups sl b base gb w fmt ((is.map (· / 192)).dedup) s with
      | .ok gs s' => .ok (is.map fun i => match gs.find? (·.1 = i / 192) with
          | some g => g.2.getD (i % 192) 0
          | none => 0) s'
      | .wait => .wait
      | .poison s' a => .poison s' a
      | .crc s' => .crc s'
      | .hostDown => .hostDown

/-- Patterns of operand places: elements gathered, 0, and PAD_VALUE. -/
def gotSrcs (s : State) (sl b base : Nat) (g : Geom) (xs : List Src) : Got (List Nat) :=
  let is := xs.filterMap fun x => match x with
    | .elem i => some i
    | _ => none
  match s.gotElems sl b base g.codec g.fmt is with
  | .ok ps s' =>
    let r := xs.foldl (fun (acc : List Nat × List Nat) x => match x with
      | .elem _ => (acc.1 ++ [acc.2.headD 0], acc.2.tail)
      | .zero => (acc.1 ++ [0], acc.2)
      | .pad => (acc.1 ++ [g.padVal % 2 ^ fmtBits g.fmt], acc.2)) ([], ps)
    .ok r.1 s'
  | r => r

/-- A feature-map group that cannot be used is reported and counted (R296, R294). -/
def fmcBad (s : State) (b : Nat) (step : Word) (va : Nat) : State := s.detected .shl b 0x08 step (detail := 3) (addr := va)

/-! ### Patch delivery -/

/-- The geometry of a patch descriptor. -/
def opGeom (o : Op) : Geom := Geom.ofBytes (o.desc.drop 128)

/-- Checks of R285. -/
def patchForm (o : Op) (t : Bool) : Bool :=
  let g := opGeom o
  let e := fmtBits g.fmt / 8
  o.checks false && o.kind = 0 && o.count 2 = 1 && o.count 3 = 1 && o.count 4 = 1 &&
  geomReservedOk (o.desc.drop 128) && g.rangesOk && g.formatOk && g.k0 % 32 = 0 && o.count 0 % (32 * e) = 0 &&
  (t || g.extent = 0) &&
  (let m := mapElems g.layout (g.gathered t) g.c g.n
   let len := match (fmCodec g.codec).bind fun x => fixedParams x.1 g.fmt with
     | some (gb, _) => (m + 191) / 192 * gb
     | none => m * e
   decide (o.memVa + len ≤ 2 ^ 57))

/-- Land a transfer of CONV_PATCH or CONV_TPATCH: rows of COUNT0 bytes from ROW0 (R282, R283). -/
def landPatch (s : State) (q : Nat) (o : Op) (x : Xfer) (t : Bool) : Land :=
  let g := opGeom o
  let e := fmtBits g.fmt / 8
  let src (n : Nat) : Src :=
    let r := g.row0 + n / o.count 0
    let k := g.k0 + n % o.count 0 / e
    if t then g.tpatchSrc r k else g.patchSrc r k
  let n0 := x.off / e
  let els := (List.range ((x.off + x.len + e - 1) / e - n0)).map fun k => src ((n0 + k) * e)
  match s.gotSrcs (qSlice q) (queueBasin q) o.memVa g els with
  | .ok ps s' => .done (s'.windowWrite q o x.off (bsub (bytesOf g.fmt ps) (x.off - n0 * e) x.len))
  | .wait => .wait
  | .poison s' a => .mark (s'.poisonAt (qSlice q) (queueBasin q) a o.step)
  | .crc s' => .mark (s'.fmcBad (queueBasin q) o.step o.memVa)
  | .hostDown => .fail s 6

/-- Issue the next transfer of a CONV_PATCH: at most one tap's channel run (R285). -/
def issuePatch (s : State) (q : Nat) (o : Op) (t : Bool) : State :=
  let g := opGeom o
  let e := fmtBits g.fmt / 8
  let n := o.issued
  let lim := min (min (o.count 0 - n % o.count 0) (o.chunk - n % o.chunk)) 4096
  let run := if t then lim else (g.cp - (g.k0 + n % o.count 0 / e) % g.cp) * e - n % o.count 0 % e
  s.issue q o { off := n, len := min lim run, va := none }

/-! ### Feature-map streams (R296) -/

/-- Checks of a feature-map stream: KIND 0 or 1 on a core queue, whole elements. -/
def fmForm (q : Nat) (o : Op) : Bool :=
  isCoreQ q && o.checks false && o.kind ≤ 1 && !o.idxEn && (match fmCodec o.codec with
    | some (c, f) => match fixedParams c f with
      | some (gb, _) =>
        let u := 192 * (fmtBits f / 8)
        o.total % (fmtBits f / 8) = 0 && decide (o.memVa + (o.total + u - 1) / u * gb ≤ 2 ^ 57)
      | none => false
    | none => false)

/-- Write the groups of an OUT that are whole: `pre` packed bytes have landed; `k` groups are written. -/
def fmUnits (q : Nat) (o : Op) (gb w fmt : Nat) (buf : Bytes) (pre : Nat) (ue : Bool) :
    Nat → State → Nat → Except Bool (State × Nat × Bool)
  | 0, s, k => .ok (s, k, false)
  | f + 1, s, k =>
    let u := 192 * (fmtBits fmt / 8)
    if o.total ≤ k * u ∨ pre < min o.total ((k + 1) * u) then .ok (s, k, false)
    else
      let xs := elemsOf fmt ((buf.drop (k * u)).take (min u (o.total - k * u)))
      let en := encGroup gb w xs
      match s.vwrite (qSlice q) (o.memVa + gb * k) en with
      | .ok _ _ s' =>
        let s' := if ue then s'.vpoison (qSlice q) (o.memVa + gb * k) gb else s'
        match fmUnits q o gb w fmt buf pre ue f (s'.bump .shl (queueBasin q) (0x200 + 48) u) (k + 1) with
        | .ok (s, k', nf) => .ok (s, k', nf || groupNf xs)
        | e => e
      | .hostDown => .error true
      | _ => .error false

/-- OR flags into the launch word of an operation's launch, else the step word of its basin (R194, R294). -/
def opFlags (s : State) (q : Nat) (o : Op) (f : Nat) : State :=
  if f = 0 then s
  else match o.launch with
    | some l => if isCoreQ q ∧ s.running (q / 8) o.fill = some l then s.orLaunchWord (q / 8) o.fill f else s
    | none => s.orBasinWord (queueBasin q) o.step (BitVec.ofNat 4 f)

/-- Land a transfer of a feature-map stream. `aux` of an OUT holds the groups written. -/
def landFm (s : State) (q : Nat) (o : Op) (x : Xfer) : Land :=
  match fmCodec o.codec with
  | none => .wait
  | some (c, fmt) => match fixedParams c fmt with
    | none => .wait
    | some (gb, w) =>
      let e := fmtBits fmt / 8
      if o.kind = 0 then
        let n0 := x.off / e
        let is := (List.range ((x.off + x.len + e - 1) / e - n0)).map (n0 + ·)
        match s.gotElems (qSlice q) (queueBasin q) o.memVa o.codec fmt is with
        | .ok ps s' => .done (s'.windowWrite q o x.off (bsub (bytesOf fmt ps) (x.off - n0 * e) x.len))
        | .wait => .wait
        | .poison s' a => .mark (s'.poisonAt (qSlice q) (queueBasin q) a o.step)
        | .crc s' => .mark (s'.fmcBad (queueBasin q) o.step o.memVa)
        | .hostDown => .fail s 6
      else
        let (bs, ue) := s.windowRead q o x.off x.len
        let buf := bufPut o.buf x.off bs
        let pre := landedPrefix (o.landed.length + 2) ((x.off, x.len) :: o.landed) 0
        match fmUnits q o gb w fmt buf pre ue (pre / (192 * e) + 2) s (o.aux.getD 1 0) with
        | .error true => .fail s 6
        | .error false => .wait
        | .ok (s, n, nf) =>
          let s := if nf then s.opFlags q o 1 else s
          let s := if ue then s.reportSram (q / 8) o.step (o.base + o.windowAddr x.off) else s
          .done (s.modOp q o.id fun o => { o with buf := buf, aux := [0, n] })

/-- Nothing more than starting: the data moves as transfers land. -/
def beginPlain (s : State) (q : Nat) (o : Op) : State := s.modOp q o.id fun o => { o with wait := .none }

end State

/-- CONV_PATCH (R282): the delivery starts. -/
def execConvPatch (q : Nat) (s : State) : Host.Outcome State Fault Refusal :=
  .next (s.startIf q (opCodec · = 0x20) (fun o => State.isCoreQ q && State.patchForm o false) State.beginPlain)

/-- CONV_TPATCH (R283). -/
def execConvTpatch (q : Nat) (s : State) : Host.Outcome State Fault Refusal :=
  .next (s.startIf q (opCodec · = 0x21) (fun o => State.isCoreQ q && State.patchForm o true) State.beginPlain)

/-- FEATURE_MAP_CODEC (R296). -/
def execFeatureMapCodec (q : Nat) (s : State) : Host.Outcome State Fault Refusal :=
  .next (s.startIf q (fun o => (fmCodec (opCodec o)).isSome) (State.fmForm q) State.beginPlain)

end Sys2Proof.Machine
end

