-- ==== Sys2Proof/Machine/Packets.lean ====
section
/-! DEFINITION. Version negotiation (R65, R66); links, routes, packets and outstanding requests of the Colsar fabric
(R318 to R336). -/

namespace Sys2Proof.Machine

/-- LOW, HIGH and the accepted codes of interface n (R65). -/
def ifCodes : Nat → List Nat
  | 0 => [0x10, 0x20, 0x30]
  | 1 => (List.range 16).map (0x20 + ·) ++ [0x30]
  | 2 => [0x10, 0x20]
  | 3 => [0x10, 0x20]
  | 4 => [0x10, 0x11, 0x20]
  | 5 => [0x12]
  | _ => []

/-- A link that is down. -/
def linkDown0 : Link :=
  { st := 0, level := 0, width := 0, peer := 0xFFFF, peerJob := 0, peerPort := 0, peerHalf := false, lit := 0,
    known := false, fails := 0, retrains := 0, retries := 0 }

/-- What a route lookup gives (R328, R329). -/
inductive Route where
  | link (l : Nat)
  /-- no usable link: the port whose page raises NO_ROUTE -/
  | none (port : Nat)
  /-- the table cannot be read yet -/
  | wait
  deriving DecidableEq, Repr

/-- A packet with an empty header. -/
def pkt0 : Pkt :=
  { typ := 0, vc := 0, nf := false, poison := false, resent := false, dst := 0, src := 0, len := 0, addr := 0, txid := 0,
    code := 0, hops := 0, seq := 0, step := 0, payload := [] }

namespace State

/-! ### Negotiation (R66) -/

/-- Accepted codes of interface n between FLOOR and CAP. -/
def mine (s : State) (n : Nat) : List Nat :=
  let c := s.g .dev 0 (Off.devIf + 8 * n) 47 40
  let f := s.g .dev 0 (Off.devIf + 8 * n) 39 32
  (ifCodes n).filter fun x => (f = 0 || f ≤ x) && (c = 0 || x ≤ c)

/-- Open an instance of interface n against the other side's codes: the version chosen, if any. -/
def negotiate (s : State) (n : Nat) (their : Nat → Bool) : State × Option Nat :=
  let a := Off.devIf + 8 * n
  match ((s.mine n).filter their).reverse with
  | [] => ((s.p .dev 0 a 16 16 1).raise .dev 0 Ev.devNegotiateFail, none)
  | v :: _ => ((s.p .dev 0 a 31 24 v).p .dev 0 a 16 16 0, some v)

/-! ### Links -/

/-- A link: `2·port + half`. -/
def link (s : State) (l : Nat) : Link := tget s.fab.links linkDown0 l

/-- Store a link. -/
def setLink (s : State) (l : Nat) (x : Link) : State := { s with fab := { s.fab with links := tset s.fab.links linkDown0 l x } }

/-- The module's logical ID. -/
def logid (s : State) : Nat := s.g .dev 0 Off.devFabid 15 0
/-- The module's job ID. -/
def jobId (s : State) : Nat := s.g .dev 0 Off.devFabid 47 16

/-- The state of a link that is up: 2 with every VC, 5 with VC0 only (R327). -/
def upState (s : State) (x : Link) : BitVec 3 :=
  if s.logid ≠ 0xFFFF ∧ x.peer.toNat ≠ 0xFFFF ∧ s.jobId = x.peerJob.toNat ∧ s.logid ≠ x.peer.toNat then 2 else 5

/-- A link carries VC0, or every VC. -/
def carries (s : State) (l : Nat) (vc0 : Bool) : Bool :=
  let st := (s.link l).st.toNat
  s.ready .fab (l / 2) && (st = 2 || (vc0 && st = 5))

/-! ### Routes (R328, R329) -/

/-- The route table entry of a destination: from the cache, else from the table through slice 0. -/
def routeEntry (s : State) (dst : Nat) : Option (Bytes × State) :=
  match s.fab.routes.find? (·.1 = dst) with
  | some e => some (e.2, s)
  | none => match s.vget 0 (s.g .dev 0 Off.devRtbase 56 20 * 2 ^ 20 + 16 * dst) 16 with
    | some (bs, s') =>
      let f := { s'.fab with routes := ((dst, bs) :: s'.fab.routes).take 1024 }
      some (bs, { s' with fab := f })
    | none => none

/-- Choose a link for a destination (R329); `not` is a link that may not be taken. -/
def route (s : State) (dst : Nat) (vc0 : Bool) (not : Option Nat := none) : Route × State :=
  let usable (l : Nat) : Bool := s.carries l vc0 && not ≠ some l
  if s.g .dev 0 Off.devRtbase 0 0 = 0 then
    match (List.range 96).find? fun l => usable l && (s.link l).peer.toNat = dst with
    | some l => (.link l, s)
    | none => (.none 0, s)
  else match s.routeEntry dst with
    | none => (.wait, s)
    | some (e, s') =>
      let m := bat e 0 12
      let ls := (List.range 96).filter m.testBit
      let low := (ls.head?.getD 0) / 2
      if bat e 12 1 % 2 = 0 then (.none low, s')
      else
        let up := ls.filter usable
        let l3 := up.filter fun l => (s.link l).level.toNat = 0x30
        if (bat e 12 1).testBit 1 && l3 ≠ [] then
          let f := { s'.fab with rr := s'.fab.rr + 1 }
          (.link (l3.getD (s'.fab.rr % l3.length) 0), { s' with fab := f })
        else match up with
          | l :: _ => (.link l, s')
          | [] => (.none low, s')

/-! ### Sending -/

/-- Put a packet on a link: level 1 and 2 headers carry no SEQ, STEP, NF or RESENT (R322). -/
def emit (s : State) (l : Nat) (k : Pkt) : State :=
  let k := if (s.link l).level.toNat = 0x30 then k else { k with seq := 0, step := 0, nf := false, resent := false }
  (s.bump .fab (l / 2) 0x200 k.payload.length).out [.packet l k]

/-- Answer a packet: to its source, on its VC, with its TXID. -/
def answer (s : State) (l : Nat) (k : Pkt) (typ code : Nat) (data : Bytes := []) (poison : Bool := false) : State :=
  let r := { pkt0 with typ := BitVec.ofNat 8 typ, vc := k.vc, dst := k.src, src := BitVec.ofNat 16 s.logid
                       txid := k.txid, code := BitVec.ofNat 8 code, payload := data, poison := poison
                       len := BitVec.ofNat 13 data.length, step := k.step, seq := k.seq }
  match s.route k.src.toNat (k.vc = 0) with
  | (.link o, s') => s'.emit o r
  | (_, s') => if s'.carries l (k.vc = 0) then s'.emit l r else s'

/-- A management packet on a link. -/
def mgmt (s : State) (l dst : Nat) (data : Bytes) : State :=
  s.emit l { pkt0 with typ := 0x10, dst := BitVec.ofNat 16 dst, src := BitVec.ofNat 16 s.logid,
                       len := BitVec.ofNat 13 data.length, payload := data }

/-- Every active link: up or retraining. -/
def activeLinks (s : State) : List Nat := (List.range 96).filter fun l => [2, 3, 5].contains (s.link l).st.toNat

/-- Payload of IDENTIFY for a link (R338; byte order DEDUCED, Assumption 19). -/
def identifyData (s : State) (l : Nat) : Bytes :=
  [0x03] ++ natBytes 2 s.logid ++ natBytes 4 s.jobId ++ natBytes 4 (s.g .dev 0 Off.devPart 63 32) ++
    natBytes 1 ((s.mine 0).getLastD 0) ++ natBytes 1 (l / 2) ++ natBytes 1 (l % 2)

/-- Send a request and keep it until its response (R334); reduction traffic gives bits 31 to 24 of TXID (R352). -/
def request (s : State) (l : Nat) (k : Pkt) (op : Option (Nat × Nat × Nat)) : State :=
  let tx := s.fab.nextTx
  let k := { k with txid := BitVec.ofNat 32 (k.txid.toNat / 2 ^ 24 * 2 ^ 24 + tx.toNat), src := BitVec.ofNat 16 s.logid }
  let f := { s.fab with nextTx := tx + 1
                        txns := s.fab.txns ++ [{ txid := k.txid, l := l, k := k, op := op, resent := false
                                                 lvl3 := (s.link l).level.toNat = 0x30, t0 := s.now }] }
  { s with fab := f }.emit l k

/-- Drop an outstanding request. -/
def dropTxn (s : State) (x : Txn) : State := { s with fab := { s.fab with txns := s.fab.txns.filter (· ≠ x) } }

/-- Record a request error (R341). -/
def fabErr (s : State) (port kind code remote txid : Nat) : State :=
  s.wr (pageBase .fab port + Off.fabErrlog)
    (BitVec.ofNat 64 (kind * 2 ^ 56 + code * 2 ^ 48 + remote % 65536 * 2 ^ 32 + txid % 2 ^ 32))

/-- An outstanding request ends with a cause: its operation gets a poisoned tail at the cursor, at chunk 0 for a refused
KV send (R315, R334). Reduction traffic has no operation: it stays unacknowledged, and its step cannot vote (R363). -/
def failTxn (s : State) (x : Txn) (cause : Nat) : State :=
  match x.op with
  | none =>
    let f := { s.fab with txns := s.fab.txns.map fun t => if t = x then { t with resent := true } else t }
    { s with fab := f }
  | some (q, id, _) =>
    let s := s.dropTxn x
    match s.op? q id with
    | some o => s.poisonTail q id cause (if o.codec = 0x53 ∧ cause = 1 then 0 else o.cursor)
    | none => s

/-- Resend a request once on another usable link (R334): none when it may not be. -/
def resend (s : State) (x : Txn) (within : Bool) : Option State :=
  let kv := match x.op with
    | some (q, id, _) => (match s.op? q id with
      | some o => o.codec = 0x53
      | none => false)
    | none => false
  if !x.lvl3 || x.resent || !within || kv then none
  else match s.route x.k.dst.toNat false (some x.l) with
    | (.link l, s') =>
      let y := { x with l := l, resent := true, k := { x.k with resent := true } }
      let f := { s'.fab with txns := s'.fab.txns.map fun t => if t = x then y else t }
      some (({ s' with fab := f }.bump .fab (l / 2) (0x200 + 56) 1).emit l y.k)
    | _ => none

/-- The resend window of 4 ms is open. -/
def within4 (s : State) (x : Txn) : Bool := s.now.toNat - x.t0.toNat ≤ 1000000

/-- A NACK of a code for a request (R334). -/
def nackTxn (s : State) (x : Txn) (code : Nat) : State :=
  let end_ (s : State) : State :=
    ((s.fabErr (x.l / 2) 1 code x.k.dst.toNat x.txid.toNat).raise .fab (x.l / 2) Ev.fabRemoteNack).failTxn x 1
  if code = 6 then match s.resend x (s.within4 x) with
    | some s' => s'
    | none => end_ s
  else end_ s

/-- Requests of a link that went down: resent where R334 allows, else left to their timers. -/
def linkLost (s : State) (l : Nat) : State :=
  (s.fab.txns.filter (·.l = l)).foldl (fun s x => match s.resend x (s.within4 x) with
    | some s' => s'
    | none => s) s

/-- A link goes down (R321). -/
def dropLink (s : State) (l : Nat) : State :=
  let x := s.link l
  let s := s.setLink l { linkDown0 with lit := x.lit, fails := x.fails }
  let s := if [2, 3, 5].contains x.st.toNat then s.raise .fab (l / 2) Ev.fabLinkDown else s
  s.linkLost l

/-- Raise NO_ROUTE at the origin (R329). -/
def noRoute (s : State) (port dst : Nat) : State := (s.fabErr port 3 0 dst 0).raise .fab port Ev.fabNoRoute

/-! ### The duplicate filter (R336) -/

/-- A packet's key. -/
def dupKey (k : Pkt) : DupKey := { src := k.src, vc := k.vc, step := k.step, seq := k.seq }

/-- Record a delivered level 3 packet. -/
def dupAdd (s : State) (l : Nat) (k : Pkt) : State :=
  if (s.link l).level.toNat = 0x30 ∧ k.vc ≠ 0 ∧ s.fab.dup.length < 16384 ∧ !s.fab.dup.contains (dupKey k) then
    { s with fab := { s.fab with dup := s.fab.dup ++ [dupKey k] } }
  else s

/-- Slice of inlet unit p div 4 (R222, R333). -/
def portSlice (p : Nat) : Nat := p / 4 / 3

/-- An arriving packet: counted, forwarded when it is for another module (R329), and checked against the duplicate filter
(R336); `dup` answers a duplicate and `go` delivers. A link that does not carry the VC brings nothing. -/
def arrive (s : State) (l : Nat) (k : Pkt) (dup go : State → State) : State :=
  if l ≥ 96 ∨ !s.carries l (k.vc = 0) ∨ s.quiet .fab (l / 2) then s
  else
    let s := s.bump .fab (l / 2) (0x200 + 8) k.payload.length
    if k.dst.toNat ≠ s.logid then
      let k' := { k with hops := k.hops + 1 }
      if 16 ≤ k'.hops.toNat then s.answer l k 0x05 7
      else match s.route k.dst.toNat (k.vc = 0) with
        | (.link o, s') => (s'.bump .fab (l / 2) (0x200 + 72) 1).emit o k'
        | (_, s') => s'.answer l k 0x05 8
    else if k.resent then
      if s.fab.dup.contains (dupKey k) then dup (s.bump .fab (l / 2) (0x200 + 64) 1)
      else if 16384 ≤ s.fab.dup.length then s.answer l k 0x05 3
      else go (s.dupAdd l k)
    else go (s.dupAdd l k)

/-- The outstanding request that a response answers. -/
def txnOf (s : State) (k : Pkt) : Option Txn := s.fab.txns.find? fun x => x.txid = k.txid && x.k.dst = k.src

end State

end Sys2Proof.Machine
end

