-- ==== Sys2Proof/Machine/Kv.lean ====
section
/-! DEFINITION. Attention masks, KV gathers, writes, sends and receives (R299 to R301, R308 to R315). -/

namespace Sys2Proof.Machine

namespace State

/-! ### ATT_MASK (R300, R301) -/

/-- The mask block of a descriptor. -/
def maskBlk (o : Op) : Bytes := o.desc.drop 128

/-- visible(q, k) of R300. -/
def visible (m : Bytes) (q k : Nat) : Bool :=
  let f := bat m 16 4
  let wf := bat m 20 4
  let wt := bat m 24 4
  let mode := bat m 32 1
  !(mode.testBit 0 && decide (q / f < k / f)) && !(mode.testBit 1 && decide (q < k)) &&
  (decide (k < bat m 28 4) ||
    (!(decide (0 < wf) && decide ((wf : Int) ≤ (q / f : Nat) - (k / f : Nat))) &&
     !(decide (0 < wt) && decide ((wt : Int) ≤ (q : Int) - k))))

/-- Checks of R299 to R301. -/
def maskForm (o : Op) : Bool :=
  let m := maskBlk o
  o.checks false && o.kind = 0 && o.count 2 = 1 && o.count 3 = 1 && o.count 4 = 1 && bat m 16 4 ≠ 0 && bat m 32 1 < 4 &&
  leNat (bsub m 33 31) = 0

/-- Land mask bytes. -/
def landMask (s : State) (q : Nat) (o : Op) (x : Xfer) : Land :=
  let m := maskBlk o
  let byte (n : Nat) : Byte :=
    if visible m (bat m 0 8 + n / o.count 0) (bat m 8 8 + n % o.count 0) then 0x00 else 0x38
  .done (s.windowWrite q o x.off ((List.range x.len).map fun k => byte (x.off + k)))

/-! ### Starting KV operations -/

/-- Form checks of KV_GATHER and KV_WRITE (R299, R309, R310). -/
def kvForm (q : Nat) (o : Op) (kind : Nat) : Bool :=
  isCoreQ q && o.checks false && o.kind = kind && !o.idxEn && o.count 2 = 1 && o.count 3 = 1 && o.count 4 = 1 &&
  bat o.desc 12 2 = 0

/-- A bad record met by a KV operation (R316): cause MEM_POISON from chunk 0, reported to RAS. -/
def kvBad (s : State) (q : Nat) (o : Op) : State :=
  ((s.raise .kvp 0 Ev.kvpRecordBad).detected .kvp 0 0x08 o.step (detail := 3)).poisonTail q o.id 3 0

/-- A command on the sequence runs (R308): operations on it wait to start. -/
def kvCmdOn (s : State) (seq : Nat) : Bool :=
  let w := s.rd (pageBase .kvp 0 + Off.kvpCmd)
  bit w 63 && (fld w 31 16 = seq || (fld w 7 0 = 2 && fld w 47 32 = seq))

/-- Look up the record of a starting operation and go on with it: BAD_DESC where it does not exist or is not VALID. -/
def kvStart (s : State) (q : Nat) (o : Op) (f : State → KvRec → State) : State :=
  let seq := kvSeqOf o
  let later := s.modOp q o.id fun o => { o with wait := .val }
  if s.kvCmdOn seq then later
  else if !s.seqIn seq then s.poisonTail q o.id 4 0
  else match s.kvRec seq with
    | none => later
    | some r =>
      if !r.ok then s.kvBad q o
      else if !r.valid || !s.poolOk r || decide (2 ^ r.tlog < o.count 0) then s.poisonTail q o.id 4 0
      else f s r

/-- Prepare the pages of a write from list entry idx on, in ascending order (R309). -/
def kvPrepare : Nat → State → Nat → Op → KvRec → Nat → State
  | 0, s, q, o, _, _ => s.modOp q o.id fun o => { o with wait := .none }
  | f + 1, s, q, o, r, idx =>
    let n := r.pool
    match s.kvEntry r idx with
    | none => s.modOp q o.id fun o => { o with wait := .page }
    | some e =>
      if e = kvNone then
        match s.kvFree n with
        | some i => kvPrepare f ((s.kvAlloc n i).putEntry r idx i) q o r (idx + 1)
        | none => s.modOp q o.id fun o => { o with wait := .page }
      else if s.kvRef n e ≤ 1 then kvPrepare f s q o r (idx + 1)
      else match s.kvFree n with
        | some i =>
          let s := s.putKv ((r.put 5 (natBytes 1 (Config.kvPendCopy % 255 + 1))).put 36 (natBytes 4 idx))
          (s.kvAlloc n i).modOp q o.id fun o => { o with wait := .pageCopy e i idx }
        | none => s.modOp q o.id fun o => { o with wait := .page }

/-- First list entry and number of entries that a write touches. -/
def kvSpan (s : State) (o : Op) (r : KvRec) : Nat × Nat :=
  let p := s.perPage r
  (kvPosOf o / p, (kvPosOf o + o.count 1 - 1) / p - kvPosOf o / p + 1)

/-- Prepare what is left of a write's pages, from list entry idx. -/
def kvPrepFrom (s : State) (q : Nat) (o : Op) (r : KvRec) (idx : Nat) : State :=
  let sp := s.kvSpan o r
  kvPrepare (sp.1 + sp.2 - idx) s q o r idx

/-- KV_WRITE starts. -/
def kvWriteBegin (s : State) (q : Nat) (o : Op) : State :=
  s.kvStart q o fun s r =>
    if r.tokens < kvPosOf o ∨ s.kvCap r < kvPosOf o + o.count 1 then s.poisonTail q o.id 4 0
    else s.kvPrepFrom q o r (s.kvSpan o r).1

/-- KV_GATHER starts. -/
def kvGatherBegin (s : State) (q : Nat) (o : Op) : State :=
  s.kvStart q o fun s _ => s.modOp q o.id fun o => { o with wait := .none }

/-- The record that an operation in flight uses. -/
def kvRecOf (s : State) (o : Op) : Option KvRec := s.kvRec (kvSeqOf o)

/-- VA of a token slot, when its page is allocated. -/
def tokenVa (s : State) (r : KvRec) (pos : Nat) : Option (Option Nat) :=
  let p := s.perPage r
  (s.kvEntry r (pos / p)).map fun e => if e = kvNone then none else some (s.pageVa r.pool e + pos % p * 2 ^ r.tlog)

/-- Land a transfer of a gather (R310): one token's bytes or part of them. -/
def landGather (s : State) (q : Nat) (o : Op) (x : Xfer) : Land :=
  match s.kvRecOf o with
  | none => .wait
  | some r =>
    let pos := kvPosOf o + x.off / o.count 0
    if r.tokens ≤ pos then .done (s.windowWrite q o x.off (List.replicate x.len 0))
    else match s.tokenVa r pos with
      | none => .wait
      | some none => .done (s.windowWrite q o x.off (List.replicate x.len 0))
      | some (some a) => match s.vread r.basin (a + x.off % o.count 0) x.len with
        | .ok _ true s' => .mark (s'.poisonAt r.basin (queueBasin q) a o.step)
        | .ok bs false s' => .done (s'.windowWrite q o x.off bs)
        | .hostDown => .fail s 6
        | _ => .wait

/-- Land a transfer of a write (R309): the bytes after COUNT0 in a slot are written 0 with its last bytes. -/
def landKvWrite (s : State) (q : Nat) (o : Op) (x : Xfer) : Land :=
  match s.kvRecOf o with
  | none => .wait
  | some r =>
    let off := x.off % o.count 0
    match s.tokenVa r (kvPosOf o + x.off / o.count 0) with
    | some (some a) =>
      let (bs, ue) := s.windowRead q o x.off x.len
      let fill := if off + x.len = o.count 0 then List.replicate (2 ^ r.tlog - o.count 0) 0 else []
      match s.vwrite r.basin (a + off) (bs ++ fill) with
      | .ok _ _ s' => .done (if ue then (s'.vpoison r.basin (a + off) x.len).reportSram (q / 8) o.step (o.base + o.windowAddr x.off) else s')
      | .hostDown => .fail s 6
      | _ => .wait
    | _ => .wait

/-! ### Sends (R314, R315). The packet form of a send is the model's (DESIGN CHOICE; Assumption 21): data packets carry
whole token slots with ADDR [31:0] the remote position, [47:32] the remote SEQ, [52:48] TOKEN_LOG2; the last packet has
ADDR bit 63 and an 8-byte payload, the token count. -/

/-- ADDR of a KV packet. -/
def kvAddr (pos seq t : Nat) (last : Bool) : Word :=
  BitVec.ofNat 64 (pos % 2 ^ 32 + seq % 65536 * 2 ^ 32 + t * 2 ^ 48 + (if last then 2 ^ 63 else 0))

/-- Form checks of KV_SEND. -/
def sendForm (o : Op) : Bool :=
  o.checks false && o.kind = 2 && !o.idxEn && o.count 2 = 1 && o.count 3 = 1 && o.count 4 = 1 && bat o.desc 84 2 = 0

/-- Token slots of a local sequence: bytes and poison; none while they cannot be read. -/
def kvSlots (s : State) (r : KvRec) (pos : Nat) : Nat → Option (Bytes × Bool × State)
  | 0 => some ([], false, s)
  | n + 1 =>
    let rest (bs : Bytes) (p : Bool) (s : State) : Option (Bytes × Bool × State) :=
      (kvSlots s r (pos + 1) n).map fun t => (bs ++ t.1, p || t.2.1, t.2.2)
    let zero := rest (List.replicate (2 ^ r.tlog) 0) false s
    if r.tokens ≤ pos then zero
    else match s.tokenVa r pos with
      | none => none
      | some none => zero
      | some (some a) => match s.vread r.basin a (2 ^ r.tlog) with
        | .ok bs p s' => rest bs p s'
        | _ => none

/-- KV_SEND starts: its packets go out on the record's VC, and the operation waits for KV_ACK. -/
def kvSendBegin (s : State) (q : Nat) (o : Op) : State :=
  s.kvStart q o fun s r =>
    let dst := bat o.desc 14 2
    let later := s.modOp q o.id fun o => { o with wait := .val }
    if o.count 0 ≠ 2 ^ r.tlog then s.poisonTail q o.id 4 0
    else match s.route dst false with
      | (.wait, _) => later
      | (.none p, s') => (s'.noRoute p dst).poisonTail q o.id 1 o.cursor
      | (.link l, s') =>
        if (s'.link l).level.toNat < 0x20 then s'.poisonTail q o.id 4 0
        else match s'.kvSlots r (kvPosOf o) (o.count 1) with
          | none => later
          | some (_, true, s'') => (s''.poisonAt r.basin (queueBasin q) (r.listVa) o.step).poisonTail q o.id 3 0
          | some (bs, false, s'') =>
            let per := 4096 / 2 ^ r.tlog
            let base := { pkt0 with typ := 0x30, vc := BitVec.ofNat 4 r.vc, dst := BitVec.ofNat 16 dst
                                    src := BitVec.ofNat 16 s''.logid, step := o.step }
            let tx := s''.fab.nextTx
            let n := (o.count 1 + per - 1) / per
            let s'' := (List.range n).foldl (fun s k =>
              let pl := bsub bs (k * 4096) (min 4096 (bs.length - k * 4096))
              s.emit l { base with addr := kvAddr (bat o.desc 8 4 + k * per) (bat o.desc 12 2) r.tlog false
                                   len := BitVec.ofNat 13 pl.length, payload := pl, txid := tx.setWidth 32
                                   seq := BitVec.ofNat 64 (o.tag * 2 ^ 32 + k) }) s''
            let s'' := s''.request l { base with addr := kvAddr (bat o.desc 8 4) (bat o.desc 12 2) r.tlog true, len := 8
                                                 payload := natBytes 8 (o.count 1)
                                                 seq := BitVec.ofNat 64 (o.tag * 2 ^ 32 + n) } (some (q, o.id, 0))
            s''.modOp q o.id fun o => { o with wait := .ack, issued := o.total }

/-- Prepare a received page range for writing, waiting for nothing: none when the pool is empty or a record or list
cannot be reached; the copy of a shared page is done at once. -/
def kvRxPages : Nat → State → KvRec → Nat → Option State
  | 0, s, _, _ => some s
  | f + 1, s, r, idx => match s.kvEntry r idx with
    | none => none
    | some e =>
      if e ≠ kvNone ∧ s.kvRef r.pool e ≤ 1 then kvRxPages f s r (idx + 1)
      else match s.kvFree r.pool with
        | none => none
        | some i =>
          if e = kvNone then kvRxPages f ((s.kvAlloc r.pool i).putEntry r idx i) r (idx + 1)
          else kvRxPages f ((s.kvAlloc r.pool i).kvCopyEnd r.n e i idx) r (idx + 1)

/-- A received send is refused (R315). -/
def kvRefuse (s : State) (l : Nat) (k : Pkt) (empty : Bool) : State :=
  let s := s.raise .kvp 0 Ev.kvpRxRefused
  (if empty then s.raise .kvp 0 Ev.kvpPoolEmpty else s).answer l k 0x05 1

/-- Apply a received KV packet (R314, R315). -/
def kvReceive (s : State) (l : Nat) (k : Pkt) : State :=
  let a := k.addr.toNat
  let pos := a % 2 ^ 32
  let seq := nfld a 47 32
  let t := nfld a 52 48
  if !s.seqIn seq then s.kvRefuse l k false
  else match s.kvRec seq with
    | none => s
    | some r =>
      if !r.ok then (s.raise .kvp 0 Ev.kvpRecordBad).kvRefuse l k false
      else if !r.valid || !s.poolOk r || r.tlog ≠ t then s.kvRefuse l k false
      else if a / 2 ^ 63 = 1 then
        let n := leNat k.payload
        let s := s.putKv (r.put 16 (natBytes 8 ((r.rxTokens + n) % 2 ^ 64)))
        s.answer l k 0x31 0
      else
        let n := k.payload.length / 2 ^ t
        if r.tokens < pos ∨ s.kvCap r < pos + n then s.kvRefuse l k false
        else
          let p := s.perPage r
          let lo := pos / p
          match kvRxPages ((pos + n - 1) / p - lo + 1) s r lo with
          | none => if (s.kvFree r.pool).isNone then s.kvRefuse l k true else s
          | some s' =>
            let s' := (List.range n).foldl (fun s i => match s.tokenVa r (pos + i) with
              | some (some va) =>
                let s := s.vput r.basin va (bsub k.payload (i * 2 ^ t) (2 ^ t))
                if k.poison then s.vpoison r.basin va (2 ^ t) else s
              | _ => s) s'
            let s' := s'.bump .kvp 0 (0x200 + 32) n
            match s'.kvRec seq with
            | some r' => s'.putKv (r'.put 8 (natBytes 8 (max r'.tokens (pos + n))))
            | none => s'

/-- An operation's fabric work is acknowledged whole: every chunk is done. -/
def ackWhole (s : State) (q id : Nat) : State :=
  s.modOp q id fun o => { o with wait := .none, landed := [(0, o.total)], cursor := o.chunks }

end State

/-- ATT_MASK (R300). -/
def execAttMask (q : Nat) (s : State) : Host.Outcome State Fault Refusal :=
  .next (s.startIf q (opCodec · = 0x50) (fun o => State.isCoreQ q && State.maskForm o) State.beginPlain)

/-- KV_GATHER (R310). -/
def execKvGather (q : Nat) (s : State) : Host.Outcome State Fault Refusal :=
  .next (s.startIf q (opCodec · = 0x51) (State.kvForm q · 0) State.kvGatherBegin)

/-- KV_WRITE (R309). -/
def execKvWrite (q : Nat) (s : State) : Host.Outcome State Fault Refusal :=
  .next (s.startIf q (opCodec · = 0x52) (State.kvForm q · 1) State.kvWriteBegin)

/-- KV_SEND (R314). -/
def execKvSend (q : Nat) (s : State) : Host.Outcome State Fault Refusal :=
  .next (s.startIf q (opCodec · = 0x53) State.sendForm State.kvSendBegin)

/-- KV_PAGE_COPY_DONE (R309): the list entry switches and the write proceeds. -/
def execKvPageCopyDone (q : Nat) (s : State) : Host.Outcome State Fault Refusal :=
  .next (match s.waiting q (fun w => match w with
      | .pageCopy _ _ _ => true
      | _ => false) with
    | some o => match o.wait with
      | .pageCopy _ _ idx =>
        let s := s.kvSettle o
        match s.kvRecOf o with
        | some r => s.kvPrepFrom q o r (idx + 1)
        | none => s.modOp q o.id fun o => { o with wait := .page }
      | _ => s
    | none => s)

/-- KV_POOL_WAIT_RESUME (R309): the waiting write goes through its pages again. -/
def execKvPoolWaitResume (q : Nat) (s : State) : Host.Outcome State Fault Refusal :=
  .next (match s.waiting q (· = .page) with
    | some o => match s.kvRecOf o with
      | some r => s.kvPrepFrom q o r (s.kvSpan o r).1
      | none => s
    | none => s)

/-- KV_POOL_WAIT_TIMEOUT (R309). -/
def execKvPoolWaitTimeout (q : Nat) (s : State) : Host.Outcome State Fault Refusal :=
  .next (match s.waiting q (· = .page) with
    | some o => (s.raise .kvp 0 Ev.kvpPoolEmpty).poisonTail q o.id 2 o.cursor
    | none => s)

/-- KV (R314): a send's packet arrives. -/
def execKv (l : Nat) (k : Pkt) (s : State) : Host.Outcome State Fault Refusal :=
  .next (if k.typ.toNat = 0x30 then s.arrive l k (fun s => s.answer l k 0x31 0) (fun s => s.kvReceive l k) else s)

/-- KV_ACK (R314): the sender's operation completes at its next STREAM_OP_COMPLETE. -/
def execKvAck (l : Nat) (k : Pkt) (s : State) : Host.Outcome State Fault Refusal :=
  .next (if k.typ.toNat = 0x31 then s.arrive l k id fun s => match s.txnOf k with
    | some x => match x.op with
      | some (q, id, _) => (s.dropTxn x).ackWhole q id
      | none => s
    | none => s
  else s)

end Sys2Proof.Machine
end

