-- ==== Sys2Proof/Machine/Stage.lean ====
section
/-! DEFINITION. Stage queues between pipeline stages (R374 to R377, R386). -/

namespace Sys2Proof.Machine

namespace State

/-- STH page, and page offset of STH_STGCFG, of stage queue j (R374). -/
def stgPage (j : Nat) : Nat × Nat := (j / 4, 0x300 + j % 4 * 0x20)

/-- A field of STH_STGCFG of queue j. -/
def stgCfg (s : State) (j hi lo : Nat) : Nat := s.g .sth (stgPage j).1 (stgPage j).2 hi lo
/-- STH_STGWORD (k = 1), or STH_STGPEER (k = 2), of queue j. -/
def stgVa (s : State) (j k : Nat) : Nat := s.g .sth (stgPage j).1 ((stgPage j).2 + 8 * k) 56 3 * 8
/-- LANDED of queue j. -/
def stgLanded (s : State) (j : Nat) : Nat := s.g .sth (stgPage j).1 ((stgPage j).2 + 0x18) 63 32
/-- CONSUMED of queue j. -/
def stgConsumed (s : State) (j : Nat) : Nat := s.g .sth (stgPage j).1 ((stgPage j).2 + 0x18) 31 0
/-- Set LANDED. -/
def setLanded (s : State) (j v : Nat) : State := s.p .sth (stgPage j).1 ((stgPage j).2 + 0x18) 63 32 v
/-- Set CONSUMED. -/
def setConsumed (s : State) (j v : Nat) : State := s.p .sth (stgPage j).1 ((stgPage j).2 + 0x18) 31 0 v

/-- k is ahead of c (R374). -/
def ahead (k c : Nat) : Bool := let d := (k + 2 ^ 32 - c % 2 ^ 32) % 2 ^ 32; 1 ≤ d && d < 2 ^ 31

/-- Stage queue of a stage operation. -/
def stgQueue (o : Op) : Nat := o.dstVa / 2 ^ 60
/-- Sequence number of a stage operation. -/
def stgSeq (o : Op) : Nat := o.dstVa % 2 ^ 32
/-- A stage operation's CODEC. -/
def isStage (o : Op) : Bool := 0x62 ≤ o.codec && o.codec ≤ 0x65
/-- A stage operation at the producer end. -/
def stgProducer (o : Op) : Bool := o.codec ≤ 0x63

/-- Checks of R375. -/
def stgForm (s : State) (o : Op) : Bool :=
  { o with desc := bput o.desc 0 (natBytes 8 0) }.checks false && o.kind = 2 && o.nbuf = 0 && !o.idxEn &&
  ((List.range 5).all fun d => o.count d = 1) && nfld o.dstVa 59 32 = 0 &&
  s.stgCfg (stgQueue o) 63 63 = 1 && s.stgCfg (stgQueue o) 62 62 = (if stgProducer o then 0 else 1)

/-- The slot of k is free at the producer (R375). -/
def stgRoom (s : State) (j k : Nat) : Bool :=
  let c := s.stgConsumed j
  decide ((k + 2 ^ 32 - c) % 2 ^ 32 < max 1 (s.stgCfg j 59 56)) || ahead c k

/-- A stage operation has done its work. -/
def stgDone (s : State) (q id : Nat) : State :=
  s.modOp q id fun o => { o with wait := .none, issued := 1, landed := [(0, 1)], cursor := 1 }

/-- A count PUT has been acknowledged (R375). -/
def stgAcked (s : State) (q : Nat) (o : Op) : State :=
  let j := stgQueue o
  let v := (stgSeq o + 1) % 2 ^ 32
  (if stgProducer o then s.setLanded j v else s.setConsumed j v).stgDone q o.id

/-- A count word has been written: each queue whose own word it is takes bits [31:0] as its count (R374). -/
def stgTake (s : State) (a : Nat) (bs : Bytes) : State :=
  (List.range 16).foldl (fun s j =>
    let w := s.stgVa j 1
    if s.stgCfg j 63 63 = 1 ∧ a ≤ w ∧ w + 4 ≤ a + bs.length then
      let v := bat bs (w - a) 4
      if s.stgCfg j 62 62 = 0 then s.setConsumed j v else s.setLanded j v
    else s) s

/-- Send k + 1 to the peer's word (R375): as a PUT, or written locally when the peer is this module. -/
def stgSend (s : State) (q : Nat) (o : Op) : State :=
  let j := stgQueue o
  let bs := natBytes 8 ((stgSeq o + 1) % 2 ^ 32)
  let dst := s.stgCfg j 47 32
  let va := s.stgVa j 2
  if dst = s.logid then match s.vwrite (qSlice q) va bs with
    | .ok _ _ s' => (s'.stgTake va bs).stgAcked q o
    | _ => s
  else match s.route dst false with
    | (.wait, s') => s'
    | (.none p, s') => (s'.noRoute p dst).poisonTail q o.id 1 o.cursor
    | (.link l, s') =>
      let k := { pkt0 with typ := 0x01, vc := BitVec.ofNat 4 (s.stgCfg j 51 48), dst := BitVec.ofNat 16 dst, len := 8
                           addr := BitVec.ofNat 64 va, step := o.step, seq := BitVec.ofNat 64 (o.tag * 2 ^ 32), payload := bs }
      (s'.request l k (some (q, o.id, 0))).modOp q o.id fun o => { o with wait := .ack, issued := 1 }

/-- Let a stage operation go on if its wait is over (R375). -/
def stgTry (s : State) (q : Nat) (o : Op) : State :=
  let j := stgQueue o
  let k := stgSeq o
  let head : Bool := match s.queue q with
    | x :: _ => decide (x.id = o.id)
    | [] => false
  if o.codec = 0x62 then (if s.stgRoom j k then s.stgDone q o.id else s)
  else if o.codec = 0x64 then (if ahead (s.stgLanded j) k then s.stgDone q o.id else s)
  else if o.codec = 0x63 then
    if ahead (s.stgLanded j) k then s.poisonTail q o.id 4 0
    else if head ∧ s.stgRoom j k ∧ s.stgLanded j = k then s.stgSend q o else s
  else
    if ahead (s.stgConsumed j) k then s.poisonTail q o.id 4 0
    else if head ∧ s.stgConsumed j = k then s.stgSend q o else s

/-- A started stage operation that waits for its counts. -/
def stgWaits (o : Op) : Bool := o.started && o.poison.isNone && isStage o && match o.wait with
  | .stage _ => true
  | _ => false

/-- Every waiting stage operation looks at its counts again. -/
def stgWake (s : State) : State :=
  s.queues.foldl (fun s e => (e.2.filter stgWaits).foldl (fun s o => s.stgTry e.1 o) s) s

/-- A PUT has landed on memory (R374). -/
def stgLand (s : State) (a : Nat) (bs : Bytes) : State := (s.stgTake a bs).stgWake

/-- A stage operation starts. -/
def stgBegin (s : State) (q : Nat) (o : Op) : State :=
  let s := s.modOp q o.id fun o => { o with wait := .stage false }
  s.stgTry q o

/-- Operations of a stage queue that run or wait. -/
def stgBusy (s : State) (j : Nat) : Bool := s.queues.any fun e => e.2.any fun o => o.started && isStage o && stgQueue o = j

/-- A write of STH_STGCFG takes effect (R374): EN from 0 to 1 clears both counts. -/
def applyStgCfg (s : State) (j : Nat) (v : Word) : State :=
  let a := pageBase .sth (stgPage j).1 + (stgPage j).2
  let old := s.stgCfg j 63 63
  let w := putFld (putFld (putFld (putFld (putFld (putFld 0 63 63 (fld v 63 63)) 62 62 (fld v 62 62)) 59 56 (fld v 59 56)) 51 48
    (fld v 51 48)) 47 32 (fld v 47 32)) 15 0 (fld v 15 0)
  let s := s.wr a w
  if old = 0 ∧ fld v 63 63 = 1 then s.wr (a + 0x18) 0 else s

/-- A write of STH_STGCFG (R374): it waits while an operation of the queue runs or waits. -/
def writeStgCfg (s : State) (j : Nat) (v : Word) : State :=
  if s.stgBusy j then
    let a := pageBase .sth (stgPage j).1 + (stgPage j).2
    { s with rst := { s.rst with waiting := s.rst.waiting ++ [(a, 0, v)] } }
  else s.applyStgCfg j v

/-- Writes of STH_STGCFG whose queue is quiet take effect. -/
def stgCfgDue (s : State) : State :=
  (List.range 16).foldl (fun s j =>
    let a := pageBase .sth (stgPage j).1 + (stgPage j).2
    let xs := s.rst.waiting.filter (·.1 = a)
    if xs = [] ∨ s.stgBusy j then s
    else
      let s := { s with rst := { s.rst with waiting := s.rst.waiting.filter (·.1 ≠ a) } }
      xs.foldl (fun s x => s.applyStgCfg j x.2.2) s) s

/-- RESET_NOTICE or ADOPT from a stage queue's peer (R386): its waiting and sending operations end with cause FAULT. -/
def stgPeerReset (s : State) (src : Nat) : State :=
  s.queues.foldl (fun s e => (e.2.filter fun o => o.started && o.poison.isNone && isStage o &&
      s.stgCfg (stgQueue o) 47 32 = src && o.cursor = 0).foldl (fun s o => s.poisonTail e.1 o.id 1 0) s) s

end State

/-- STG_ACQUIRE (R375). -/
def execStgAcquire (q : Nat) (s : State) : Host.Outcome State Fault Refusal :=
  .next (s.startIf q (opCodec · = 0x62) s.stgForm State.stgBegin)
/-- STG_PUBLISH (R375). -/
def execStgPublish (q : Nat) (s : State) : Host.Outcome State Fault Refusal :=
  .next (s.startIf q (opCodec · = 0x63) s.stgForm State.stgBegin)
/-- STG_AWAIT (R375). -/
def execStgAwait (q : Nat) (s : State) : Host.Outcome State Fault Refusal :=
  .next (s.startIf q (opCodec · = 0x64) s.stgForm State.stgBegin)
/-- STG_RELEASE (R375). -/
def execStgRelease (q : Nat) (s : State) : Host.Outcome State Fault Refusal :=
  .next (s.startIf q (opCodec · = 0x65) s.stgForm State.stgBegin)

/-- STH_STGCFG_WRITE (R374). -/
def execSthStgcfgWrite (j : Nat) (v : Word) (s : State) : Host.Outcome State Fault Refusal :=
  .next (if j < 16 then
    if s.ready .sth (j / 4) then s.writeStgCfg j v
    else s.refuse false true Ev.devEarlyAccess (pageBase .sth (State.stgPage j).1 + (State.stgPage j).2)
  else s)

/-- STAGE_OCCUPANCY_SAMPLE (R377): one sample of 1 µs, with the microsecond counted in STG_STALL or STG_STARVE. -/
def execStageOccupancySample (j : Nat) (s : State) : Host.Outcome State Fault Refusal :=
  .next (if j < 16 ∧ s.ready .sth (j / 4) ∧ s.stgCfg j 63 63 = 1 then
    let ws := (s.queues.map fun e => e.2.filter fun o => State.stgWaits o && State.stgQueue o = j).flatten
    let o := (s.stgLanded j + 2 ^ 32 - s.stgConsumed j) % 2 ^ 32
    let s := s.bumpBin .sth (j / 4) (Off.sthStghist + j % 4 * 0x80) (o % 16 + (if ws = [] then 0 else 16))
    let s := if ws.any State.stgProducer then s.bump .sth (j / 4) (0x2C0 + j % 4 * 0x10) 1 else s
    if ws.any (·.codec = 0x64) then s.bump .sth (j / 4) (0x2C8 + j % 4 * 0x10) 1 else s
  else s)

/-- STAGE_WAIT_LONG (R376): once for each wait. -/
def execStageWaitLong (q : Nat) (s : State) : Host.Outcome State Fault Refusal :=
  .next (match s.waiting q (· = .stage false) with
    | some o =>
      if s.stgCfg (State.stgQueue o) 15 0 = 0 then s
      else ((s.modOp q o.id fun o => { o with wait := .stage true }).bump .tlm 0 (0xC40 + 40) 1).raise .tlm 0 Ev.tlmStageWaitLong
    | none => s)

end Sys2Proof.Machine
end

