-- ==== Sys2Proof/Machine/Fabric.lean ====
section
/-! DEFINITION. The Colsar fabric: link training and loss, imports, responses, management, FAB_PUT and FAB_GET
(R318 to R338, R340 to R342). -/

namespace Sys2Proof.Machine

namespace State

/-! ### Lanes and training (R318, R320, R321) -/

/-- FAB_CFG.SPLIT of a port. -/
def split (s : State) (p : Nat) : Bool := s.g .fab p Off.fabCfg 1 1 = 1

/-- A link exists in the port's arrangement. -/
def linkExists (s : State) (l : Nat) : Bool := l < 96 && (l % 2 = 0 || s.split (l / 2))

/-- Lanes that a full training of a link uses, and its width; none when LANE_OFF leaves no whole half (R321, R341). -/
def trainLanes (s : State) (l : Nat) : Option (Nat × Nat) :=
  let off := s.g .fab (l / 2) Off.fabCfg 31 24
  let lo := off % 16 = 0
  let hi := off / 16 = 0
  if s.split (l / 2) then
    if l % 2 = 0 then (if lo then some (0x0F, 4) else none) else if hi then some (0xF0, 4) else none
  else if lo ∧ hi then some (0xFF, 8) else if lo then some (0x0F, 4) else if hi then some (0xF0, 4) else none

/-- Lanes that a trained link uses: both halves at width 8, else the half that was lit when it trained. -/
def usedLanes (s : State) (l : Nat) : Nat :=
  let x := s.link l
  if x.width.toNat = 8 then 0xFF
  else if s.split (l / 2) then (if l % 2 = 0 then 0x0F else 0xF0)
  else if x.lit.toNat % 16 = 15 then 0x0F else 0xF0

/-- A port may light and train. -/
def portLive (s : State) (p : Nat) : Bool :=
  s.ready .fab p && s.g .fab p Off.fabCfg 0 0 = 1 && s.power.txOn && s.clock.colsarLock && !s.power.opticOff.toNat.testBit (p / 4)

/-- A training failed: it starts again from t0, and after three in a row the link fails (R320). -/
def trainFail (s : State) (l : Nat) : State :=
  let x := s.link l
  if 3 ≤ x.fails + 1 then
    (s.setLink l { linkDown0 with st := 4, lit := x.lit }).raise .fab (l / 2) Ev.fabLinkFailed
  else s.setLink l { x with known := false, level := 0, fails := x.fails + 1 }

/-- A link reaches STATE 2 or 5 from a state it was in before. -/
def enterUp (s : State) (l : Nat) (fromDown : Bool) : State :=
  let x := s.link l
  let st := s.upState x
  let s := s.setLink l { x with st := st }
  let s := if fromDown then s.raise .fab (l / 2) Ev.fabLinkUp else s
  if st = 5 then s.raise .fab (l / 2) Ev.fabJobMismatch else s

/-- A retrain starts (R337); the third without an error-free 1 ms takes the link down for full training. -/
def retrain (s : State) (l : Nat) : State :=
  let x := s.link l
  let s := ((s.bump .fab (l / 2) (0x200 + 24) 1).bump .tlm 0 (0x200 + 8 * 20) 1).raise .fab (l / 2) Ev.fabRetrain
  if 3 ≤ x.retrains + 1 then s.dropLink l
  else s.setLink l { x with st := 3, retrains := x.retrains + 1, retries := 0 }

/-- Light on a link's lanes changes (R321). -/
def lightChange (s : State) (l : Nat) (lit : BitVec 8) : State :=
  let x := s.link l
  let need := if x.st = 1 then ((s.trainLanes l).map (·.1)).getD 0 else s.usedLanes l
  let has (m : Nat) : Bool := lit.toNat &&& m = m
  if has need then s.setLink l { x with lit := lit }
  else if x.st = 0 ∨ x.st = 1 ∨ x.st = 4 then s.setLink l { linkDown0 with lit := lit, fails := if x.st = 4 then 0 else x.fails }
  else if x.width = 8 ∧ (has 0x0F ∨ has 0xF0) then
    ((s.setLink l { x with lit := lit, width := 4 }).raise .fab (l / 2) Ev.fabWidthDegraded).retrain l
  else (s.setLink l { x with lit := lit }).dropLink l

/-! ### Imports (R333) -/

/-- A request lies wholly inside an import window that allows it. -/
def importOk (s : State) (a n : Nat) (write : Bool) : Bool :=
  (List.range 8).any fun k =>
    let b := s.rd (pageBase .dev 0 + Off.devImpwinBase + 16 * k)
    let e := s.rd (pageBase .dev 0 + Off.devImpwinLimit + 16 * k)
    (if write then bit b 62 else bit b 63) && decide (fld b 56 12 * 4096 ≤ a ∧ a + n ≤ (fld e 56 12 + 1) * 4096)

/-- Requests parked at a port. -/
def parkedAt (s : State) (p : Nat) : List (Nat × Pkt) := tget s.fab.parked [] p

/-- Store a port's parked requests. -/
def setParked (s : State) (p : Nat) (x : List (Nat × Pkt)) : State :=
  { s with fab := { s.fab with parked := tset s.fab.parked [] p x } }

/-- Carry out an import: none while its translation or memory does not allow it. -/
def importDo (s : State) (l : Nat) (k : Pkt) : Option State :=
  let sl := portSlice (l / 2)
  if k.typ.toNat = 0x01 then match s.vwrite sl k.addr.toNat k.payload with
    | .ok _ _ s' =>
      let s' := if k.poison then s'.vpoison sl k.addr.toNat k.payload.length else s'
      some ((s'.stgLand k.addr.toNat k.payload).answer l k 0x04 0)
    | .hostDown => some (s.answer l k 0x05 2)
    | _ => none
  else match s.vread sl k.addr.toNat k.len.toNat with
    | .ok bs p s' => some (s'.answer l k 0x03 0 bs p)
    | .hostDown => some (s.answer l k 0x05 2)
    | _ => none

/-- An import arrives (R333): refused, carried out, parked with HOLD, or left in the VC's buffer while the fault buffer is
full (no change). -/
def importReq (s : State) (l : Nat) (k : Pkt) : State :=
  let p := l / 2
  let n := if k.typ.toNat = 0x01 then k.payload.length else k.len.toNat
  if !s.importOk k.addr.toNat n (k.typ.toNat = 0x01) then (s.raise .fab p Ev.fabImportRefused).answer l k 0x05 1
  else match s.importDo l k with
    | some s' => s'
    | none =>
      if 16 ≤ (s.parkedAt p).length then s
      else
        let s := (s.setParked p (s.parkedAt p ++ [(l, k)])).answer l k 0x06 0
        match s.piecesOf (portSlice p) k.addr.toNat n (k.typ.toNat = 0x01) with
        | .error (va, .miss) | .error (va, .perm) => s.missFault (portSlice p) 5 va (k.typ.toNat = 0x01) p
        | _ => s

/-- An unresolvable fault of a port: its parked requests that cannot be translated are answered with NACK 2 (R333). -/
def nackParked (s : State) (p va : Nat) : State :=
  (s.parkedAt p).foldl (fun s e =>
    let n := if e.2.typ.toNat = 0x01 then e.2.payload.length else e.2.len.toNat
    if e.2.addr.toNat / 4096 ≤ va / 4096 ∧ va / 4096 ≤ (e.2.addr.toNat + n - 1) / 4096 then
      (s.setParked p ((s.parkedAt p).erase e)).answer e.1 e.2 0x05 2
    else s) s

/-! ### Management (R338, R341) -/

/-- FAB_MDATA. -/
def mdata (s : State) (p : Nat) : Bytes :=
  ((List.range 8).map fun k => natBytes 8 (s.rd (pageBase .fab p + Off.fabMdata + 8 * k)).toNat).flatten

/-- Fill FAB_MDATA. -/
def setMdata (s : State) (p : Nat) (bs : Bytes) : State :=
  (List.range 8).foldl (fun s k => s.wr (pageBase .fab p + Off.fabMdata + 8 * k) (BitVec.ofNat 64 (bat bs (8 * k) 8))) s

/-- A management send ends. -/
def mrespDone (s : State) (p status : Nat) : State :=
  ((s.p .fab p Off.fabMresp 7 0 status).p .fab p Off.fabMresp 63 63 1).p .fab p Off.fabMcmd 63 63 0

/-- FAB_MCMD with GO 1. The payload's byte 0 is OPCODE and the rest comes from FAB_MDATA (DEDUCED; Assumption 22). -/
def mcmdSend (s : State) (p dst op len : Nat) : State :=
  if !s.ready .fab p then s.refuse false true Ev.devEarlyAccess (pageBase .fab p + Off.fabMcmd)
  else if s.g .fab p Off.fabMcmd 63 63 = 1 then s
  else
    let a := pageBase .fab p + Off.fabMcmd
    let s := s.wr a (BitVec.ofNat 64 (2 ^ 63 + dst % 65536 * 2 ^ 32 + len % 256 * 2 ^ 8 + op % 256))
    let s := (s.p .fab p Off.fabMresp 63 63 0).p .fab p Off.fabMresp 7 0 0
    match s.route dst true with
    | (.wait, s') => s'
    | (.none _, s') => s'.mrespDone p 2
    | (.link l, s') =>
      if (s'.link l).st = 5 ∧ !(1 ≤ op ∧ op ≤ 3) then s'.mrespDone p 3
      else
        let s' := s'.mgmt l dst (natBytes 1 op ++ bsub (s'.mdata p) 1 (len - 1))
        -- a command without an answer ends at once
        if op = 0x01 ∨ op = 0x10 ∨ op = 0x20 then s' else s'.mrespDone p 0

/-- The port whose management send an answer completes: GO set, that opcode, sent to the answer's source. -/
def mcmdWaiting (s : State) (op src : Nat) : Option Nat :=
  (List.range 48).find? fun p =>
    s.g .fab p Off.fabMcmd 63 63 = 1 && s.g .fab p Off.fabMcmd 7 0 = op && s.g .fab p Off.fabMcmd 47 32 = src

/-- A received management command that no hardware answers (R341). -/
def mgmtRx (s : State) (l : Nat) (k : Pkt) : State := (s.setMdata (l / 2) k.payload).raise .fab (l / 2) Ev.fabMgmtRx

/-- An answer to a management send. -/
def mgmtAnswer (s : State) (l : Nat) (k : Pkt) (op : Nat) : State :=
  match s.mcmdWaiting op k.src.toNat with
  | some p => (s.setMdata p k.payload).mrespDone p 0
  | none => s.mgmtRx l k

/-- A management packet with an opcode arrives. -/
def mgmtArrive (s : State) (l : Nat) (k : Pkt) (op : Nat) (f : State → State) : State :=
  if k.typ.toNat = 0x10 ∧ k.vc = 0 ∧ bat k.payload 0 1 = op then s.arrive l k id f else s

/-- RESET_NOTICE and ADOPT from L (R338): requests outstanding to L end as NACK 4, and L's duplicate keys go. -/
def peerReset (s : State) (src : BitVec 16) : State :=
  let s := (s.fab.txns.filter (·.k.dst = src)).foldl (fun s x => s.nackTxn x 4) (s.stgPeerReset src.toNat)
  { s with fab := { s.fab with dup := s.fab.dup.filter (·.src ≠ src) } }

/-- IDENTIFY on a link (R66, R322, R327): during training it fixes the level; on an up link it moves between STATE 2 and
STATE 5. -/
def identified (s : State) (l : Nat) (k : Pkt) : State :=
  let d := k.payload
  let x := s.link l
  let x := { x with peer := BitVec.ofNat 16 (bat d 1 2), peerJob := BitVec.ofNat 32 (bat d 3 4)
                    peerPort := BitVec.ofNat 6 (bat d 12 1), peerHalf := bat d 13 1 % 2 = 1 }
  if x.st.toNat = 1 then
    match s.negotiate 0 (· ≤ bat d 11 1) with
    | (s, some v) => s.setLink l { x with level := BitVec.ofNat 8 v, known := true }
    | (s, none) => (s.setLink l { linkDown0 with st := 4, lit := x.lit }).raise .fab (l / 2) Ev.fabLevelMismatch
  else if x.st.toNat = 2 ∨ x.st.toNat = 5 then (s.setLink l x).enterUp l false
  else s.setLink l x

/-- DEV_FABID write (R327, R338, R340). -/
def writeFabid (s : State) (v : Word) : State :=
  let old := s.logid
  let same := fld (s.rd (pageBase .dev 0 + Off.devFabid)) 47 0 = fld v 47 0
  let s := s.wr (pageBase .dev 0 + Off.devFabid) (BitVec.ofNat 64 (fld v 47 0))
  if same then s else
  let ls := s.activeLinks
  let s := ls.foldl (fun s l => s.mgmt l (s.link l).peer.toNat (s.identifyData l)) s
  let s := if s.logid ≠ old ∧ ls ≠ [] then s.bump .tlm 0 (0x200 + 8 * 24) 1 else s
  let s := if s.logid ≠ old then
      ls.foldl (fun s l => s.mgmt l (s.link l).peer.toNat ([0x06] ++ natBytes 2 s.logid ++ uuidBytes)) s
    else s
  ls.foldl (fun s l => if (s.link l).st = 3 then s else s.enterUp l false) s

/-! ### FAB_PUT and FAB_GET (R332) -/

/-- Remote module and VC of a fabric operation. -/
def fabRemote (o : Op) : Nat × Nat := (bat o.desc 86 2, bat o.desc 85 1 / 16)

/-- Checks of R332. -/
def fabForm (o : Op) : Bool :=
  o.checks true && o.kind = 2 && !o.idxEn && bat o.desc 80 5 = 0 && bat o.desc 85 1 % 16 = 0 && 2 ≤ (fabRemote o).2

/-- Issue the next transfer of a fabric operation: a PUT or a GET, or a local copy for this module's own ID. -/
def issueFab (s : State) (q : Nat) (o : Op) : State :=
  let (dst, vc) := fabRemote o
  if dst = s.logid then s.issuePlain q o
  else match s.position q o o.issued with
    | some (some ps) =>
      let n := o.issued
      let b := n % o.count 0
      let a := (posVa o ps b).toNat
      let len := min (min (o.count 0 - b) (o.chunk - n % o.chunk)) (4096 - a % 4096)
      match s.route dst false with
      | (.wait, s') => s'
      | (.none p, s') => (s'.noRoute p dst).poisonTail q o.id 1 o.cursor
      | (.link l, s') =>
        let k := { pkt0 with vc := BitVec.ofNat 4 vc, dst := BitVec.ofNat 16 dst, len := BitVec.ofNat 13 len
                             step := o.step, seq := BitVec.ofNat 64 (o.tag * 2 ^ 32 + o.nissued) }
        if o.codec = 0x60 then
          match s'.vread (qSlice q) a len with
          | .ok _ true s'' => (s''.reportPoison q o a).landed q o { off := n, len := len, va := some a } (.mark (s''.reportPoison q o a))
          | .ok bs false s'' =>
            (s''.request l { k with typ := 0x01, addr := BitVec.ofNat 64 ((o.dstVa + n) % 2 ^ 57), payload := bs }
              (some (q, o.id, n))).issue q o { off := n, len := len, va := some a }
          | .hostDown => s'.poisonTail q o.id 6 o.cursor
          | _ => s
        else (s'.request l { k with typ := 0x02, addr := BitVec.ofNat 64 (a % 2 ^ 57) } (some (q, o.id, n))).issue q o
          { off := n, len := len, va := none }
    | _ => s

/-- A response completes a transfer of a stream operation. -/
def fabLanded (s : State) (x : Txn) (f : State → Nat → Op → Xfer → Land) : State :=
  match x.op with
  | none => s.dropTxn x
  | some (q, id, off) => match s.op? q id with
    | none => s.dropTxn x
    | some o => if isStage o then (s.stgAcked q o).dropTxn x else match o.xfers.find? (·.off = off) with
      | none => s.dropTxn x
      | some t => match f s q o t with
        | .wait => s
        | r => (s.landed q o t r).dropTxn x

end State

/-! ### Links -/

/-- FAB_TRAINING_START (R320): identity is exchanged at level 1 rate. -/
def execFabTrainingStart (l : Nat) (s : State) : Host.Outcome State Fault Refusal :=
  .next (if s.linkExists l && s.portLive (l / 2) && (s.link l).st = 0 then match s.trainLanes l with
    | none => s
    | some (m, w) =>
      let x := { linkDown0 with st := 1, width := BitVec.ofNat 4 w, lit := BitVec.ofNat 8 m, fails := (s.link l).fails }
      (s.setLink l x).mgmt l 0xFFFF (s.identifyData l)
  else s)

/-- FAB_LINK_UP (R320, R326, R327). -/
def execFabLinkUp (l : Nat) (s : State) : Host.Outcome State Fault Refusal :=
  .next (let x := s.link l
    if l < 96 ∧ x.st = 1 ∧ x.known then (s.setLink l { x with fails := 0, retrains := 0, retries := 0 }).enterUp l true else s)

/-- FAB_TRAINING_TIMEOUT (R320). -/
def execFabTrainingTimeout (l : Nat) (s : State) : Host.Outcome State Fault Refusal :=
  .next (if l < 96 ∧ (s.link l).st = 1 then s.trainFail l else s)

/-- FAB_LIGHT_LOSS (R321): `lit` says which lanes are lit from then on. -/
def execFabLightLoss (l : Nat) (lit : BitVec 8) (s : State) : Host.Outcome State Fault Refusal :=
  .next (if s.linkExists l then s.lightChange l lit else s)

/-- FLIT_RETRY (R337): a retry, the n-th within 1 ms. -/
def execFlitRetry (l n : Nat) (s : State) : Host.Outcome State Fault Refusal :=
  .next (let x := s.link l
    if l < 96 ∧ (x.st = 2 ∨ x.st = 5) then
      let s := (s.bump .fab (l / 2) (0x200 + 16) 1).setLink l { x with retries := n, retrains := if n ≤ 1 then 0 else x.retrains }
      if s.g .fab (l / 2) Off.fabCfg 47 40 ≤ n then s.retrain l else s
    else s)

/-- FAB_RETRAIN_DONE (R337). -/
def execFabRetrainDone (l : Nat) (s : State) : Host.Outcome State Fault Refusal :=
  .next (if l < 96 ∧ (s.link l).st = 3 then s.enterUp l false else s)

/-! ### Requests and responses -/

/-- PUT (R333). A duplicate is acknowledged and discarded (R336). -/
def execPut (l : Nat) (k : Pkt) (s : State) : Host.Outcome State Fault Refusal :=
  .next (if k.typ.toNat = 0x01 then s.arrive l k (fun s => s.answer l k 0x04 0) (fun s => s.importReq l k) else s)

/-- GET (R333). A duplicate is answered again, which changes no memory (R336). -/
def execGet (l : Nat) (k : Pkt) (s : State) : Host.Outcome State Fault Refusal :=
  .next (if k.typ.toNat = 0x02 then s.arrive l k (fun s => s.importReq l k) (fun s => s.importReq l k) else s)

/-- GET_DATA (R334). -/
def execGetData (l : Nat) (k : Pkt) (s : State) : Host.Outcome State Fault Refusal :=
  .next (if k.typ.toNat = 0x03 then s.arrive l k id fun s => match s.txnOf k with
    | none => s
    | some x => s.fabLanded x fun s q o t =>
        if k.poison then .mark (s.detected .fab (l / 2) 0x05 o.step (detail := 3) (addr := o.dstVa + t.off))
        else match s.vwrite (State.qSlice q) (o.dstVa + t.off) k.payload with
          | .ok _ _ s' => .done s'
          | .hostDown => .fail s 6
          | _ => .wait
  else s)

/-- ACK (R331). -/
def execAck (l : Nat) (k : Pkt) (s : State) : Host.Outcome State Fault Refusal :=
  .next (if k.typ.toNat = 0x04 then s.arrive l k id fun s => match s.txnOf k with
    | none => s
    | some x => s.fabLanded x fun s _ _ _ => .done s
  else s)

/-- NACK (R334). -/
def execNack (l : Nat) (k : Pkt) (s : State) : Host.Outcome State Fault Refusal :=
  .next (if k.typ.toNat = 0x05 then s.arrive l k id fun s => match s.txnOf k with
    | none => s
    | some x => (s.bump .fab (l / 2) (0x200 + 40) 1).nackTxn x k.code.toNat
  else s)

/-- HOLD (R333, R334): it restarts the request's timer, which runs outside the model's state. -/
def execHold (l : Nat) (k : Pkt) (s : State) : Host.Outcome State Fault Refusal :=
  .next (if k.typ.toNat = 0x06 then s.arrive l k id id else s)

/-! ### Management -/

/-- PING (R338). -/
def execPing (l : Nat) (k : Pkt) (s : State) : Host.Outcome State Fault Refusal :=
  .next (s.mgmtArrive l k 0x01 fun s => s.answer l k 0x10 0 ([0x02] ++ bsub k.payload 1 8))

/-- PONG (R338). -/
def execPong (l : Nat) (k : Pkt) (s : State) : Host.Outcome State Fault Refusal :=
  .next (s.mgmtArrive l k 0x02 fun s => s.mgmtAnswer l k 0x01)

/-- IDENTIFY (R327): it is for this link whatever destination it names. -/
def execIdentify (l : Nat) (k : Pkt) (s : State) : Host.Outcome State Fault Refusal :=
  .next (if l < 96 ∧ k.typ.toNat = 0x10 ∧ bat k.payload 0 1 = 0x03 ∧ (s.link l).st ≠ 0 ∧ (s.link l).st ≠ 4 then
    (s.bump .fab (l / 2) (0x200 + 8) k.payload.length).identified l k else s)

/-- LEAVING (R338). -/
def execLeaving (l : Nat) (k : Pkt) (s : State) : Host.Outcome State Fault Refusal :=
  .next (s.mgmtArrive l k 0x04 fun s => s.mgmtRx l k)

/-- RESET_NOTICE (R338). -/
def execResetNotice (l : Nat) (k : Pkt) (s : State) : Host.Outcome State Fault Refusal :=
  .next (s.mgmtArrive l k 0x05 fun s => (s.peerReset k.src).mgmtRx l k)

/-- ADOPT (R338). -/
def execAdopt (l : Nat) (k : Pkt) (s : State) : Host.Outcome State Fault Refusal :=
  .next (s.mgmtArrive l k 0x06 fun s => (s.peerReset k.src).mgmtRx l k)

/-- RESET_ACK (R339). -/
def execResetAck (l : Nat) (k : Pkt) (s : State) : Host.Outcome State Fault Refusal :=
  .next (s.mgmtArrive l k 0x11 fun s => s.mgmtAnswer l k 0x10)

/-- FAB_TXN_TIMEOUT (R334). -/
def execFabTxnTimeout (txid : BitVec 32) (within4ms : Bool) (s : State) : Host.Outcome State Fault Refusal :=
  .next (match s.fab.txns.find? (·.txid = txid) with
    | none => s
    | some x => match s.resend x within4ms with
      | some s' => s'
      | none =>
        let s := (s.fabErr (x.l / 2) 2 0 x.k.dst.toNat txid.toNat).raise .fab (x.l / 2) Ev.fabTxnTimeout
        (s.bump .fab (x.l / 2) (0x200 + 32) 1).failTxn x 2)

/-- FAB_HOLD_RESEND (R333): the n-th parked request of a port is answered again with HOLD, or proceeds. -/
def execFabHoldResend (port n : Nat) (s : State) : Host.Outcome State Fault Refusal :=
  .next (match (s.parkedAt port)[n]? with
    | none => s
    | some e =>
      if e.2.typ.toNat = 0x22 then s.answer e.1 e.2 0x06 0
      else match s.importDo e.1 e.2 with
        | some s' => s'.setParked port ((s'.parkedAt port).eraseIdx n)
        | none => s.answer e.1 e.2 0x06 0)

/-- DUP_KEY_EXPIRY (R336). -/
def execDupKeyExpiry (n : Nat) (s : State) : Host.Outcome State Fault Refusal :=
  .next { s with fab := { s.fab with dup := s.fab.dup.eraseIdx n } }

/-- FAB_PUT (R332). -/
def execFabPut (q : Nat) (s : State) : Host.Outcome State Fault Refusal :=
  .next (s.startIf q (opCodec · = 0x60) State.fabForm State.beginPlain)

/-- FAB_GET (R332). -/
def execFabGet (q : Nat) (s : State) : Host.Outcome State Fault Refusal :=
  .next (s.startIf q (opCodec · = 0x61) State.fabForm State.beginPlain)

/-- FAB_MCMD_PING (R338). -/
def execFabMcmdPing (port : Nat) (dst : BitVec 16) (len : BitVec 8) (s : State) : Host.Outcome State Fault Refusal :=
  .next (if port < 48 then s.mcmdSend port dst.toNat 0x01 len.toNat else s)

/-- FAB_MCMD_RESET (R339). -/
def execFabMcmdReset (port : Nat) (dst : BitVec 16) (len : BitVec 8) (s : State) : Host.Outcome State Fault Refusal :=
  .next (if port < 48 then s.mcmdSend port dst.toNat 0x10 len.toNat else s)

/-- FAB_MCMD_SPDM (R338, R425). -/
def execFabMcmdSpdm (port : Nat) (dst : BitVec 16) (len : BitVec 8) (s : State) : Host.Outcome State Fault Refusal :=
  .next (if port < 48 then s.mcmdSend port dst.toNat 0x20 len.toNat else s)

/-- FAB_MCMD_TIMEOUT (R341). -/
def execFabMcmdTimeout (port : Nat) (s : State) : Host.Outcome State Fault Refusal :=
  .next (if port < 48 ∧ s.g .fab port Off.fabMcmd 63 63 = 1 then s.mrespDone port 1 else s)

/-- DEV_FABID_WRITE (R327, R338). -/
def execDevFabidWrite (v : Word) (s : State) : Host.Outcome State Fault Refusal :=
  .next (s.devWrite Off.devFabid (·.writeFabid v))

/-- ROUTE_FLUSH (R328). -/
def execRouteFlush (s : State) : Host.Outcome State Fault Refusal :=
  .next (s.devWrite Off.devRtbase fun s => { s with fab := { s.fab with routes := [] } })

end Sys2Proof.Machine
end

