-- ==== Sys2Proof/Machine/Store.lean ====
section
/-! DEFINITION. Handles of the kernel store (R204) and the processors that run Septoon (R116, R206). -/

namespace Sys2Proof.Machine

/-- The handle of a kernel in a slot. -/
def Kernel.handle (k : Kernel) (slot : Nat) : Word := BitVec.ofNat 64 (k.isa.toNat * 2 ^ 56 + k.gen.toNat * 2 ^ 32 + slot)

/-- An update unit's number (inlet n is n, shore n is 12 + n) as a processor. -/
def unitProc (u : Nat) : Nat := 2304 + u

/-- The page of an update unit. -/
def unitPage (u : Nat) : Blk × Nat := if u < 12 then (.inl, u) else (.shr, u - 12)

/-- The translation slice of an update unit (R222). -/
def unitSlice (u : Nat) : Nat := u % 12 / 3

namespace State

/-- The kernel in a store slot. -/
def kernelAt (s : State) (n : Nat) : Option Kernel := tget s.kernels none n

/-- The loaded kernel that a handle names. -/
def kernelOf (s : State) (h : Word) : Option Kernel :=
  match s.kernelAt (h.toNat % 65536) with
  | some k => if k.handle (h.toNat % 65536) = h then some k else none
  | none => none

end State

end Sys2Proof.Machine
end

