-- ==== Sys2Proof/Machine/Reduction.lean ====
section
/-! DEFINITION. Gradient reduction on the die and across modules (R343 to R353), with the routing of reduced slabs. -/

namespace Sys2Proof.Machine

/-! ### Exact sums -/

namespace Dy

/-- Exact 0. -/
def zero : Dy := { m := 0, e := 0 }

/-- Add a number exactly; NaN and infinity add nothing (Assumption 23). -/
def addNum (d : Dy) (v : Num) : Dy :=
  match v with
  | .fin s m e =>
    let e0 := min d.e e
    let z : Int := (m * 2 ^ (e - e0).toNat : Nat)
    { m := d.m * 2 ^ (d.e - e0).toNat + (if s then -z else z), e := e0 }
  | _ => d

/-- The sum rounded once to FP32 (R367). -/
def toF32 (d : Dy) : Nat := f32Of (.ofInt d.m d.e)

end Dy

/-! ### Slab arithmetic (R349) -/

/-- FP32 addition of patterns, rounded to nearest even. -/
def add32 (a b : W32) : W32 := BitVec.ofNat 32 (f32Of ((f32 a.toNat).add (f32 b.toNat)))

/-- One level of the pairwise tree. -/
def pairLevel : List (List W32) → List (List W32)
  | a :: b :: t => List.zipWith add32 a b :: pairLevel t
  | l => l

/-- The pairwise tree over equally long vectors. -/
def pairSum : Nat → List (List W32) → List W32
  | _, [] => []
  | _, [a] => a
  | 0, a :: _ => a
  | f + 1, l => pairSum f (pairLevel l)

/-- Sum of items by the pairwise tree. -/
def pairScalar (l : List W32) : W32 := (pairSum l.length (l.map fun x => [x])).headD 0

/-- Slab data with masked rows and absent data read as +0. -/
def slabZero (mask : Nat) (data : List W32) : List W32 :=
  (List.range 1024).map fun k => if mask.testBit (k / 64) then 0 else data.getD k 0

/-- FP32 norm of a slab by the pairwise tree (R367). -/
def slabNorm (data : List W32) : W32 :=
  pairScalar (data.map fun x => BitVec.ofNat 32 (f32Of ((f32 x.toNat).mul (f32 x.toNat))))

/-! ### Tables (R344 to R346) -/

/-- A tensor record. -/
structure Tensor where
  slot : Nat
  d : Bytes
  deriving DecidableEq, Repr

namespace Tensor

/-- TENSOR_ID. -/
def id (t : Tensor) : Nat := bat t.d 0 4
/-- ROWS. -/
def rows (t : Tensor) : Nat := bat t.d 4 4
/-- ROWLEN. -/
def rowLen (t : Tensor) : Nat := bat t.d 8 4
/-- ROLE bit. -/
def role (t : Tensor) (n : Nat) : Bool := (bat t.d 12 1).testBit n
/-- CTRL bit. -/
def ctrl (t : Tensor) (n : Nat) : Bool := (bat t.d 13 1).testBit n
/-- RFMT. -/
def rfmt (t : Tensor) : Nat := bat t.d 14 1
/-- Piece columns. -/
def cb (t : Tensor) : Nat := (t.rowLen + 63) / 64
/-- Piece rows. -/
def rb (t : Tensor) : Nat := (t.rows + 63) / 64
/-- Pieces. -/
def pieces (t : Tensor) : Nat := t.rb * t.cb
/-- Expected contributions of a basin for each piece. -/
def basinN (t : Tensor) (b : Nat) : Nat := bat t.d (36 + 2 * b) 2
/-- RGROUP. -/
def rgroup (t : Tensor) : Nat := bat t.d 20 1
/-- UGROUP. -/
def ugroup (t : Tensor) : Nat := bat t.d 21 1
/-- FANIN. -/
def fanin (t : Tensor) : Nat := max 1 (bat t.d 19 1)
/-- Byte width of state plane n. -/
def planeW (t : Tensor) (n : Nat) : Nat :=
  match nfld (bat t.d 23 1) (2 * n + 1) (2 * n) with
  | 1 => 2
  | 2 => 4
  | _ => 0
/-- PSTRIDE (R346). -/
def pstride (t : Tensor) : Nat :=
  roundUp (4096 * (5 + t.planeW 0 + t.planeW 1 + t.planeW 2 + t.planeW 3)) 4096
/-- Offset of state plane n in a region. -/
def planeOff (t : Tensor) (n : Nat) : Nat := 4096 * (5 + ((List.range n).map t.planeW).foldl (· + ·) 0)
/-- An element of a piece lies in the tensor: tensor row and column of (i, j). -/
def place (t : Tensor) (piece i j : Nat) : Option (Nat × Nat) :=
  let r := 64 * (piece / t.cb) + i
  let c := 64 * (piece % t.cb) + j
  if r < t.rows ∧ c < t.rowLen then some (r, c) else none

end Tensor

/-- A reduction group: member IDs address, size and own rank (R345). -/
structure RGroup where
  va : Nat
  g : Nat
  rank : Nat
  deriving DecidableEq, Repr

/-- A shard entry (R346). -/
structure Shard where
  n : Nat
  d : Bytes
  deriving DecidableEq, Repr

namespace Shard

/-- Tensor slot. -/
def tslot (x : Shard) : Nat := bat x.d 0 2 % 2 ^ 14
/-- VALID with a matching ECRC. -/
def valid (x : Shard) : Bool := (bat x.d 0 2).testBit 15 && bat x.d 60 4 = crc32 (x.d.take 12 ++ bsub x.d 16 44)
/-- First piece. -/
def first (x : Shard) : Nat := bat x.d 4 4
/-- Pieces. -/
def count (x : Shard) : Nat := bat x.d 8 4
/-- SCRC. -/
def scrc (x : Shard) : Nat := bat x.d 12 4
/-- VA of a bank. -/
def bank (x : Shard) (b : Nat) : Nat := bat x.d (if b = 0 then 16 else 24) 8
/-- HOLD_VA. -/
def hold (x : Shard) : Nat := bat x.d 32 8
/-- A piece belongs to the shard. -/
def has (x : Shard) (piece : Nat) : Bool := x.first ≤ piece && piece < x.first + x.count

end Shard

/-- Slot of control traffic. -/
def ctlSlot : Nat := 0x3FFF

namespace State

/-- VA in a register's BASE field with its alignment. -/
def tblVa (s : State) (off al : Nat) : Nat := s.g .red 0 off 56 12 * 4096 / al * al

/-- A tensor record that is VALID with a matching TCRC, through slice 0. -/
def tensor (s : State) (slot : Nat) : Option Tensor :=
  if s.g .red 0 Off.redLen 14 0 ≤ slot then none
  else match s.vget 0 (s.tblVa Off.redTt 0x200000 + 128 * slot) 128 with
    | some (d, _) =>
      let t : Tensor := ⟨slot, d⟩
      if t.role 7 && bat d 124 4 = crc32 (d.take 124) && t.rows ≠ 0 && t.rowLen ≠ 0 then some t else none
    | none => none

/-- A reduction group. -/
def rgroup (s : State) (n : Nat) : Option RGroup :=
  (s.vget 0 (s.tblVa Off.redRg 0x1000 + 16 * n) 16).map fun x => ⟨bat x.1 0 8, max 1 (bat x.1 8 2), bat x.1 10 2⟩

/-- Logical ID of a member by rank. -/
def member (s : State) (g : RGroup) (rank : Nat) : Option Nat := (s.vget 0 (g.va + 2 * rank) 2).map fun x => leNat x.1

/-- Rank of a logical ID. -/
def rankOf (s : State) (g : RGroup) (id : Nat) : Option Nat := (List.range g.g).find? fun r => s.member g r = some id

/-- Owner rank of a piece (R345). -/
def ownerRank (t : Tensor) (g : RGroup) (piece : Nat) : Nat := (bat t.d 32 2 + piece / max 1 (bat t.d 28 4)) % g.g

/-- A member's position in a tree of a given root rank. -/
def posIn (g : RGroup) (root rank : Nat) : Nat := (rank + g.g - root % g.g) % g.g

/-- The rank at a position. -/
def rankAt (g : RGroup) (root q : Nat) : Nat := (q + root) % g.g

/-- The children of a position (R351). -/
def childrenOf (g : RGroup) (f q : Nat) : List Nat := ((List.range f).map (q * f + 1 + ·)).filter (· < g.g)

/-- A shard entry. -/
def shard (s : State) (n : Nat) : Option Shard :=
  match s.vget 0 (s.tblVa Off.redSh 0x80000 + 64 * n) 64 with
  | some (d, _) => if (⟨n, d⟩ : Shard).valid then some ⟨n, d⟩ else none
  | none => none

/-- Every valid shard entry. -/
def shards (s : State) : List Shard := (List.range (s.g .red 0 Off.redLen 29 16)).filterMap s.shard

/-- The shard that holds a piece of a tensor slot. -/
def shardOf (s : State) (slot piece : Nat) : Option Shard := s.shards.find? fun x => x.tslot = slot && x.has piece

/-- CUR_BANK. -/
def curBank (s : State) : Nat := s.g .red 0 Off.redStepstat 53 53
/-- STAGE_BANK. -/
def stageBank (s : State) : Nat := s.g .red 0 Off.redStepstat 52 52
/-- STATE of RED_STEPSTAT. -/
def redState (s : State) : Nat := s.g .red 0 Off.redStepstat 63 60
/-- Step number of the open step. -/
def redStep (s : State) : Nat := s.g .red 0 Off.redStepstat 47 0

/-- Store the reduction state. -/
def setRed (s : State) (r : Red) : State := { s with red := r }

/-! ### The reduction buffer (R350) -/

/-- Slots of the reduction buffer in use. -/
def pbufUsed (s : State) : Nat := 4 * s.red.contribs.length + s.red.sums.length + s.red.nodes.length + s.red.later.length

/-- n slots are free. -/
def pbufFree (s : State) (n : Nat) : Bool := s.pbufUsed + n ≤ s.g .red 0 Off.redLen 63 48

/-! ### Contributions (R347, R348) -/

/-- A tile that fails its checks: dropped, and the step is skipped job-wide. -/
def badTile (s : State) (b : Nat) (step : Word) : State := (s.raise .red 0 Ev.redBadTile).orBasinWord b step 1

/-- The piece of a tile from BASEIDX, when it is one (R347). -/
def pieceOf (t : Tensor) (base : Nat) : Option Nat :=
  let rb := base / t.rowLen / 64
  let cb := base % t.rowLen / 64
  if base = 64 * rb * t.rowLen + 64 * cb ∧ rb < t.rb ∧ cb < t.cb then some (rb * t.cb + cb) else none

/-- Take a contribution into a basin tree, after its checks; none while the buffer is full. -/
def contribute (s : State) (c slot : Nat) (step : Word) (piece : Tensor → Option Nat) (mask : Word) (nf : Bool)
    (data : List W32) : Option State :=
  let b := c / 576
  match s.tensor slot with
  | none => some (s.badTile b step)
  | some t => match piece t with
    | none => some (s.badTile b step)
    | some p =>
      if !t.role 0 || s.openStep ≠ some step.toNat || s.red.seen.contains (b, c, slot, p) then some (s.badTile b step)
      else if !s.pbufFree 4 then none
      else
        let x : Contrib := { basin := b, core := c, slot := slot, piece := p, mask := mask, nf := nf, data := data }
        let r := { s.red with contribs := s.red.contribs ++ [x], seen := s.red.seen ++ [(b, c, slot, p)] }
        some ((s.setRed r).bump .red 0 (0x200 + 16) 1)

/-- One slab of a contribution: its row mask and data. -/
def contribSlab (x : Contrib) (k : Nat) : Nat × List W32 := (nfld x.mask.toNat (16 * k + 15) (16 * k), (x.data.drop (1024 * k)).take 1024)

/-- Sum one slab over contributions in ascending logical core ID (R349). -/
def sumSlab (xs : List Contrib) (k : Nat) : Nat × List W32 :=
  let xs := xs.mergeSort fun a b => a.core ≤ b.core
  let ss := xs.map (contribSlab · k)
  let mask := ss.foldl (fun m x => m &&& x.1) 0xFFFF
  (mask, pairSum ss.length (ss.map fun x => slabZero x.1 x.2))

/-- Join the basin sums of a slab once every basin that contributes has one: the module's own contribution. -/
def joinBasins (s : State) (t : Tensor) (piece slab : Nat) : State :=
  let mineS := s.red.sums.filter fun x => x.2.slot = t.slot && x.2.piece = piece && x.2.slab = slab
  let want := (List.range 4).filter fun b => 0 < t.basinN b
  if want.all fun b => mineS.any (·.1 = b) then
    let xs := want.filterMap fun b => (mineS.find? (·.1 = b)).map (·.2)
    let mask := xs.foldl (fun m x => m &&& x.mask) (0xFFFF : BitVec 16)
    let data := match xs with
      | [] => []
      | h :: r => r.foldl (fun a x => List.zipWith add32 a x.data) h.data
    let own : NodeSlab := { slot := t.slot, piece := piece, slab := slab, src := none, mask := mask, nf := xs.any (·.nf), data := data }
    let r := { s.red with sums := s.red.sums.filter fun x => !(x.2.slot = t.slot && x.2.piece = piece && x.2.slab = slab)
                          nodes := s.red.nodes ++ [own] }
    let r := if t.ctrl 2 then
        { r with gnsSmall := r.gnsSmall.addNum (f32 (slabNorm own.data).toNat), gnsUsed := true }
      else r
    s.setRed r
  else s

/-! ### Packets (R352, R353) -/

/-- ADDR of a reduction packet. -/
def redAddr (slot piece slab mask : Nat) : Word :=
  BitVec.ofNat 64 (slot * 2 ^ 50 + piece % 2 ^ 32 * 2 ^ 18 + slab * 2 ^ 16 + mask % 65536)

/-- A reduction, push or mirror packet of the open step. -/
def redPkt (s : State) (typ kind vc dst slot piece slab mask : Nat) (nf : Bool) (data : Bytes) : Pkt :=
  { pkt0 with typ := BitVec.ofNat 8 typ, vc := BitVec.ofNat 4 vc, nf := nf, dst := BitVec.ofNat 16 dst
              len := BitVec.ofNat 13 data.length, payload := data, addr := redAddr slot piece slab mask
              txid := BitVec.ofNat 32 (s.attempt % 16 * 2 ^ 28 + s.redStep % 16 * 2 ^ 24)
              seq := BitVec.ofNat 64 (kind * 2 ^ 62 + (if kind = 3 then 0 else slot * 2 ^ 48 + piece % 2 ^ 32 * 2 ^ 16 + slab * 2 ^ 14))
              step := BitVec.ofNat 64 s.redStep }

/-- Send a reduction, push or mirror packet; none while no route can be taken. -/
def redSend (s : State) (k : Pkt) : Option State :=
  match s.route k.dst.toNat false with
  | (.link l, s') => some ((s'.request l k none).bump .red 0 (0x200 + 24) 1)
  | (.none p, s') => if s'.activeLinks = [] then none else some (s'.noRoute p k.dst.toNat)
  | (.wait, _) => none

/-- A slab's payload in RFMT; empty when every row is masked. -/
def slabBytes (rfmt mask : Nat) (data : List W32) : Bytes :=
  if mask % 65536 = 65535 then []
  else (data.map fun x =>
    if rfmt = 1 then natBytes 2 (encF fmtBf16 0 0 false (f32 x.toNat)).bits else natBytes 4 x.toNat).flatten

/-- A slab from its payload. -/
def slabOf (rfmt : Nat) (p : Bytes) : List W32 :=
  if p = [] then []
  else (List.range 1024).map fun k =>
    if rfmt = 1 then BitVec.ofNat 32 (bat p (2 * k) 2 * 65536) else BitVec.ofNat 32 (bat p (4 * k) 4)

/-- VA of residuals of a slab in a bank (R353). -/
def efVa (t : Tensor) (bank piece slab : Nat) : Nat := bat t.d 80 8 + bank * t.pieces * 16384 + piece * 16384 + slab * 4096

/-- FP32 subtraction. -/
def sub32 (a b : W32) : W32 := add32 a (b ^^^ 0x80000000)

/-- The K elements of largest magnitude among unmasked rows, lower index first among equals. -/
def topK (k mask : Nat) (c : List W32) : List Nat :=
  let ix := (List.range 1024).filter fun i => !mask.testBit (i / 64)
  (ix.mergeSort fun a b =>
    let x := (c.getD a 0).toNat % 2 ^ 31
    let y := (c.getD b 0).toNat % 2 ^ 31
    x > y || (x == y && a ≤ b)).take k

/-- What a node sends for a slab under error feedback: packet type, payload, staged residuals. -/
def compress (t : Tensor) (mask : Nat) (sum e : List W32) (level1 : Bool) : Nat × Bytes × List W32 :=
  let comp := bat t.d 15 1
  let c := List.zipWith add32 sum e
  let live (i : Nat) : Bool := !mask.testBit (i / 64)
  let keep (f : Nat → W32) : List W32 := (List.range 1024).map fun i => if live i then f i else e.getD i 0
  let cv (i : Nat) : W32 := c.getD i 0
  if (List.range 1024).any fun i => live i && !(f32 (cv i).toNat).finite then (0x20, slabBytes t.rfmt mask c, e)
  else if level1 then (0x20, slabBytes t.rfmt mask c, keep fun _ => 0)
  else if comp = 1 then
    let ks := topK (bat t.d 16 2) mask c
    let b (i : Nat) : Nat := (encF fmtBf16 0 0 false (f32 (cv i).toNat)).bits
    (0x21, (ks.map fun i => natBytes 2 i ++ natBytes 2 (b i)).flatten,
      keep fun i => if ks.contains i then sub32 (cv i) (BitVec.ofNat 32 (b i * 65536)) else cv i)
  else
    let sc := f32Of ((f32 (pairScalar ((List.range 1024).map fun i =>
      if live i then BitVec.ofNat 32 ((cv i).toNat % 2 ^ 31) else 0)).toNat).scale2 (-10))
    let sg (i : Nat) : Bool := live i && (cv i).toNat.testBit 31
    let bits := (List.range 1024).foldr (fun i a => 2 * a + (if sg i then 1 else 0)) 0
    (0x21, natBytes 128 bits ++ natBytes 4 sc,
      keep fun i => sub32 (cv i) (BitVec.ofNat 32 (sc + (if sg i then 2 ^ 31 else 0))))

/-- Expand a compressed slab into FP32 (R353). -/
def expand (comp : Nat) (p : Bytes) : List W32 :=
  if comp = 2 then
    let sc := bat p 128 4
    (List.range 1024).map fun i => BitVec.ofNat 32 (sc + (if (bat p (i / 8) 1).testBit (i % 8) then 2 ^ 31 else 0))
  else
    let es := (List.range (p.length / 4)).map fun k => (bat p (4 * k) 2, bat p (4 * k + 2) 2)
    (List.range 1024).map fun i => match es.find? (·.1 = i) with
      | some e => BitVec.ofNat 32 (e.2 * 65536)
      | none => 0

/-! ### Routing reduced slabs (R354) -/

/-- An update unit. -/
def unit (s : State) (u : Nat) : UpdUnit := tget s.red.units { run := none, queue := [], buf := false } u

/-- Store an update unit. -/
def setUnit (s : State) (u : Nat) (x : UpdUnit) : State :=
  s.setRed { s.red with units := tset s.red.units { run := none, queue := [], buf := false } u x }

/-- The unit that serves a slab; none while the shard or its address cannot be read. -/
def unitFor (s : State) (t : Tensor) (piece slab : Nat) : Option Nat :=
  if !t.ctrl 0 then some (piece % 12)
  else match s.shardOf t.slot piece with
    | none => none
    | some x => match s.translate 0 (x.bank s.curBank + (piece - x.first) * t.pstride + slab * 4096) false with
      | .hit pa _ => match s.region pa with
        | .dimm d => some (12 + (s.chanOf d).1 / 2)
        | _ => some 12
      | _ => none

/-- QUEUED and RUNNING of a unit's STAT register. -/
def unitRegs (s : State) (u : Nat) : State :=
  let (b, i) := unitPage u
  let x := s.unit u
  (s.p b i Off.inlStat 63 63 (if x.run.isSome then 1 else 0)).p b i Off.inlStat 47 32 x.queue.length

/-- Put a reduced slab in its unit's queue. -/
def routeSlab (s : State) (t : Tensor) (x : UnitSlab) : Option State :=
  (s.unitFor t x.piece x.slab).map fun u =>
    let v := s.unit u
    (s.setUnit u { v with queue := v.queue ++ [x] }).unitRegs u

/-- The reduced slab of a piece this module owns: statistics, the MIRROR to the twin, and its unit (R354, R367). -/
def ownSlab (s : State) (t : Tensor) (x : UnitSlab) : Option State :=
  match s.routeSlab t x with
  | none => none
  | some s =>
    let s := if t.ctrl 2 then
        s.setRed { s.red with gnsBig := s.red.gnsBig.addNum (f32 (slabNorm x.data).toNat) }
      else s
    let tw := s.g .red 0 Off.redCfg 63 48
    if tw = 0xFFFF then some s
    else s.redSend (s.redPkt 0x40 2 1 tw t.slot x.piece x.slab x.mask.toNat x.nf (slabBytes 0 x.mask.toNat x.data))

/-- Sum what a node holds for a slab and pass it on (R351): its own contribution first, then children in ascending
position; none while it cannot be sent. -/
def nodeSend (s : State) (slot piece slab : Nat) : Option State :=
  match s.tensor slot with
  | none => none
  | some t => match s.rgroup t.rgroup with
    | none => none
    | some g =>
      let is (x : NodeSlab) : Bool := x.slot = slot && x.piece = piece && x.slab = slab
      let xs := s.red.nodes.filter is
      let own := xs.filter (·.src.isNone)
      let kids := (xs.filter (·.src.isSome)).mergeSort fun a b => a.src.getD 0 ≤ b.src.getD 0
      match own ++ kids with
      | [] => none
      | h :: r =>
        if t.role 0 ∧ own = [] then none
        else
          let all := h :: r
          let mask := all.foldl (fun m x => m &&& x.mask) (0xFFFF : BitVec 16)
          let data := r.foldl (fun a x => List.zipWith add32 a (slabZero x.mask.toNat x.data)) (slabZero h.mask.toNat h.data)
          let nf := all.any (·.nf)
          let root := ownerRank t g piece
          let q := posIn g root g.rank
          let s := s.setRed { s.red with nodes := s.red.nodes.filter fun x => !is x, nf := s.red.nf || (q = 0 && nf) }
          if q = 0 then
            if t.role 1 then s.ownSlab t { slot := slot, piece := piece, slab := slab, mask := mask, nf := nf, data := data, primary := true }
            else some s
          else match s.member g (rankAt g root ((q - 1) / t.fanin)) with
            | none => none
            | some dst =>
              if bat t.d 15 1 = 0 then
                s.redSend (s.redPkt 0x20 0 (bat t.d 18 1) dst slot piece slab mask.toNat nf (slabBytes t.rfmt mask.toNat data))
              else
                let lvl := match s.route dst false with
                  | (.link l, _) => (s.link l).level.toNat
                  | _ => 0
                match s.vget 0 (efVa t s.curBank piece slab) 4096 with
                | none => none
                | some (eb, s) =>
                  let e := slabOf 0 eb
                  let (typ, pl, e') := compress t mask.toNat data e (lvl ≤ 0x10)
                  match s.vwrite 0 (efVa t s.stageBank piece slab) ((e'.map fun x => natBytes 4 x.toNat).flatten) with
                  | .ok _ _ s =>
                    let pl := if mask.toNat = 65535 then [] else pl
                    (s.redSend (s.redPkt typ 0 (bat t.d 18 1) dst slot piece slab mask.toNat nf pl)).map fun s =>
                      if typ = 0x21 then s.bump .red 0 (0x200 + 48) 1 else s
                  | _ => none

/-! ### Arrivals (R352) -/

/-- How a reduction packet stands to the step open here. -/
inductive When where
  | now | later | stale
  deriving DecidableEq, Repr

/-- Classify a packet by its TXID (R352). With no step open, a packet of the last committed step is stale and any other is
held (DEDUCED; Assumption 24). -/
def whenOf (s : State) (k : Pkt) : When :=
  let st := k.txid.toNat / 2 ^ 24 % 16
  let at_ := k.txid.toNat / 2 ^ 28
  if s.redState = 0 then
    (if st = (s.rd (pageBase .rcc 0 + Off.rccBkp1)).toNat % 16 then .stale else .later)
  else if st = s.redStep % 16 then (if at_ = s.attempt % 16 then .now else .stale)
  else if st = (s.redStep + 1) % 16 then .later else .stale

/-- Slot, piece, slab and mask of ADDR. -/
def addrOf (k : Pkt) : Nat × Nat × Nat × Nat :=
  let a := k.addr.toNat
  (a / 2 ^ 50, nfld a 49 18, nfld a 17 16, a % 65536)

/-- A child's slab enters the node (R351). -/
def takeSlab (s : State) (k : Pkt) : State :=
  let (slot, piece, slab, mask) := addrOf k
  match s.tensor slot with
  | none => s
  | some t => match s.rgroup t.rgroup with
    | none => s
    | some g =>
      let data := if k.payload = [] then [] else if k.typ.toNat = 0x21 then expand (bat t.d 15 1) k.payload else slabOf t.rfmt k.payload
      let q := (s.rankOf g k.src.toNat).map (posIn g (ownerRank t g piece))
      let x : NodeSlab := { slot := slot, piece := piece, slab := slab, src := some (q.getD k.src.toNat)
                            mask := BitVec.ofNat 16 mask, nf := k.nf, data := data }
      s.setRed { s.red with nodes := s.red.nodes ++ [x], nf := s.red.nf || k.nf }

/-- A MIRROR slab goes to its unit, or waits while the load gate holds (R354, R402). -/
def takeMirror (s : State) (l : Nat) (k : Pkt) : State :=
  let (slot, piece, slab, mask) := addrOf k
  let hold (s : State) : State := s.setRed { s.red with later := s.red.later ++ [(l, k)] }
  if s.g .ras 0 Off.rasLoadgate 0 0 = 1 then hold s
  else match s.tensor slot with
    | none => s
    | some t =>
      let x : UnitSlab := { slot := slot, piece := piece, slab := slab, mask := BitVec.ofNat 16 mask, nf := k.nf
                            data := slabZero mask (slabOf 0 k.payload), primary := false }
      match s.routeSlab t x with
      | some s => s.setRed { s.red with nf := s.red.nf || k.nf }
      | none => hold s

/-- A piece of the verdict record on its way up: kept by the child's tree position (R364). -/
def takeKid (s : State) (k : Pkt) : State :=
  match s.rgroup (s.g .red 0 Off.redCfg 47 40) with
  | none => s
  | some g => match s.rankOf g k.src.toNat with
    | none => s
    | some r =>
      let old := tget s.red.kids [] r
      let i := (addrOf k).2.1
      s.setRed { s.red with kids := tset s.red.kids [] r ((old.filter (·.1 ≠ i)) ++ [(i, k.payload)]) }

/-! ### The published copy and verdict records on their way down (R360, R364) -/

/-- Where a slab's published values stand in a bank, as (VA, bytes): its rows' elements, then their scales (R137, R360). -/
def pubSegs (t : Tensor) (bank piece slab : Nat) : List (Nat × Nat) :=
  let f := bat t.d 24 1
  let w := fmtBits f
  let base := bat t.d 88 8 + bank * bat t.d 96 8
  let c0 := 64 * (piece % t.cb)
  let n := min 64 (t.rowLen - c0)
  let rows := ((List.range 16).map fun i => 64 * (piece / t.cb) + 16 * slab + i).filter (· < t.rows)
  let els := rows.map fun r => (base + (r * t.rowLen + c0) * w / 8, n * w / 8)
  let blk := fmtBlock f
  if blk = 0 then els
  else
    let sp := base + roundUp (t.rows * t.rowLen * w / 8) 4096
    els ++ rows.map fun r => (sp + (r * t.rowLen + c0) / blk * scaleBytes f, n / blk * scaleBytes f)

/-- Write a list of ranges through a slice; none where one cannot be written, with what stops it. -/
def vputAll (sl : Nat) : List (Nat × Bytes) → State → Except Bool State
  | [], s => .ok s
  | (a, bs) :: t, s => match s.vwrite sl a bs with
    | .ok _ _ s' => vputAll sl t s'
    | .hostDown => .error true
    | _ => .error false

/-- Cut bytes into the ranges given. -/
def cutSegs : List (Nat × Nat) → Bytes → List (Nat × Bytes)
  | [], _ => []
  | (a, n) :: t, bs => (a, bs.take n) :: cutSegs t (bs.drop n)

/-- The ranges that a pushed slab writes; none when its tensor takes no pushes here (R344, R360). -/
def updSegs (s : State) (k : Pkt) : Option (List (Nat × Nat)) :=
  let (slot, piece, slab, _) := addrOf k
  match s.tensor slot with
  | some t => if t.role 3 then some (pubSegs t s.stageBank piece slab) else none
  | none => none

/-- Write a pushed slab. -/
def updWrite (s : State) (l : Nat) (k : Pkt) (segs : List (Nat × Nat)) : Except Bool State :=
  let (slot, piece, slab, _) := addrOf k
  match vputAll (portSlice (l / 2)) (cutSegs segs k.payload) s with
  | .ok s' =>
    let s' := if k.poison then segs.foldl (fun s g => s.vpoison (portSlice (l / 2)) g.1 g.2) s' else s'
    .ok (s'.setRed { s'.red with pushed := (slot, piece, slab) :: s'.red.pushed.filter (· ≠ (slot, piece, slab)) })
  | e => e

/-- A part of the combined verdict record: once its 25 packets are there, the record has arrived (R364). -/
def takeVerdict (s : State) (k : Pkt) : State :=
  let i := (addrOf k).2.1
  let ps := (s.red.parts.filter (·.1 ≠ i)) ++ [(i, k.payload)]
  if (List.range 25).all fun n => ps.any (·.1 = n) then
    let rec_ := ((List.range 25).map fun n => ((ps.find? (·.1 = n)).map (·.2)).getD []).flatten
    s.setRed { s.red with parts := [], verdict := some rec_ }
  else s.setRed { s.red with parts := ps }

/-- Every range of a push lies in an import window with W set (R333). -/
def updAllowed (s : State) (segs : List (Nat × Nat)) : Bool := segs.all fun g => s.importOk g.1 g.2 true

/-- Apply a packet of the open step; a push that cannot be written yet stays in the buffer. -/
def redApply (s : State) (l : Nat) (k : Pkt) : State :=
  if k.typ.toNat = 0x40 then s.takeMirror l k
  else if k.typ.toNat = 0x22 then
    if (addrOf k).1 = ctlSlot then s.takeVerdict k
    else match s.updSegs k with
      | none => s
      | some g =>
        if !s.updAllowed g then s.raise .fab (l / 2) Ev.fabImportRefused
        else match s.updWrite l k g with
          | .ok s' => s'
          | .error _ => s.setRed { s.red with later := s.red.later ++ [(l, k)] }
  else if (addrOf k).1 = ctlSlot then s.takeKid k else s.takeSlab k

/-- A reduction, push or mirror packet arrives (R352): acknowledged and applied, kept for the next step, or dropped as
stale; it waits under credit (no change) while the buffer is full. -/
def redArrive (s : State) (l : Nat) (k : Pkt) : State :=
  let ack (s : State) : State := s.answer l k 0x04 0
  match s.whenOf k with
  | .stale => (ack s).bump .red 0 (0x200 + 40) 1
  | w =>
    if (addrOf k).1 ≠ ctlSlot ∧ !s.pbufFree 1 then s.raise .red 0 Ev.redPbufFull
    else
      let s := (ack s).bump .red 0 (0x200 + 32) 1
      if w = .now then s.redApply l k else s.setRed { s.red with later := s.red.later ++ [(l, k)] }

/-- A push of the open step is an incoming request (R333, R360): refused, written and acknowledged, or parked with HOLD. -/
def pushArrive (s : State) (l : Nat) (k : Pkt) : State :=
  if (addrOf k).1 = ctlSlot ∨ s.whenOf k ≠ .now then s.redArrive l k
  else match s.updSegs k with
    | none => (s.raise .fab (l / 2) Ev.fabImportRefused).answer l k 0x05 1
    | some g =>
      if !s.updAllowed g then (s.raise .fab (l / 2) Ev.fabImportRefused).answer l k 0x05 1
      else match s.updWrite l k g with
        | .ok s' => (s'.answer l k 0x04 0).bump .red 0 (0x200 + 32) 1
        | .error true => s.answer l k 0x05 2
        | .error false =>
          let p := l / 2
          if 16 ≤ (s.parkedAt p).length then s
          else (s.setParked p (s.parkedAt p ++ [(l, k)])).answer l k 0x06 0

/-- Parked requests that can proceed do so (R333). -/
def unpark (s : State) : State :=
  (List.range 48).foldl (fun s p => (s.parkedAt p).foldl (fun s e =>
    if e.2.typ.toNat = 0x22 then
      match s.updSegs e.2 with
      | none => s.setParked p ((s.parkedAt p).erase e)
      | some g => match s.updWrite e.1 e.2 g with
        | .ok s' => ((s'.setParked p ((s'.parkedAt p).erase e)).answer e.1 e.2 0x04 0).bump .red 0 (0x200 + 32) 1
        | .error true => (s.setParked p ((s.parkedAt p).erase e)).answer e.1 e.2 0x05 2
        | .error false => s
    else match s.importDo e.1 e.2 with
      | some s' => s'.setParked p ((s'.parkedAt p).erase e)
      | none => s) s) s

/-- Packets held for the step that is open now, and mirrors that the load gate no longer holds, are applied. -/
def redRelease (s : State) : State :=
  let xs := s.red.later
  xs.foldl (fun s e => match s.whenOf e.2 with
    | .now => s.redApply e.1 e.2
    | .later => s.setRed { s.red with later := s.red.later ++ [e] }
    | .stale => s.bump .red 0 (0x200 + 40) 1) (s.setRed { s.red with later := [] })

/-! ### RED_PUSH (R348) -/

/-- Checks of RED_PUSH. -/
def pushForm (s : State) (q : Nat) (o : Op) : Bool :=
  isCoreQ q && o.checks false && o.kind = 1 && !o.idxEn && bat o.desc 8 8 % 2 ^ 18 = 0 && o.count 1 = 1 && o.count 2 = 1 &&
  o.count 3 = 1 && o.count 4 = 1 &&
  (match s.tensor (o.dstVa / 2 ^ 50) with
  | some t => o.count 0 = 4096 * (if t.rfmt = 1 then 2 else 4)
  | none => o.count 0 = 8192 || o.count 0 = 16384)

/-- Land a transfer of a push: the piece contributes with its last bytes. -/
def landPush (s : State) (q : Nat) (o : Op) (x : Xfer) : Land :=
  let (bs, ue) := s.windowRead q o x.off x.len
  if ue then .mark (s.reportSram (q / 8) o.step (o.base + o.windowAddr x.off))
  else
    let buf := bufPut o.buf x.off bs
    let done := landedPrefix (o.landed.length + 2) ((x.off, x.len) :: o.landed) 0
    let s := s.modOp q o.id fun o => { o with buf := buf }
    if done < o.total then .done s
    else
      let slot := o.dstVa / 2 ^ 50
      let p := nfld o.dstVa 49 18
      let w := o.total / 4096
      let data := (List.range 4096).map fun k =>
        if w = 2 then BitVec.ofNat 32 (bat buf (2 * k) 2 * 65536) else BitVec.ofNat 32 (bat buf (4 * k) 4)
      let nf := (s.launchWord (q / 8) o.fill).testBit 0
      match s.contribute (q / 8) slot o.step (fun t => if p < t.pieces then some p else none) 0 nf data with
      | some s => .done s
      | none => .wait

end State

/-- RED_TILE_ACCEPT (R347): the tile that a core holds for its basin tree is checked and taken, or dropped. -/
def execRedTileAccept (c : Nat) (k : Check) (s : State) : Host.Outcome State Fault Refusal :=
  .next (match (s.core c).redOut with
    | none => s
    | some t =>
      let step := match s.launch? t.launch with
        | some l => l.step
        | none => 0
      let gone := s.setCore c { s.core c with redOut := none }
      if t.poison then gone
      else if k ≠ .ok then gone.detected .red 0 (if k = .residue then 0x01 else 0x02) step
      else match s.contribute c (t.tensor.toNat % 2 ^ 14) step (fun r => State.pieceOf r t.baseIdx.toNat) t.mask t.nf t.data with
        | some s' => s'.setCore c { s'.core c with redOut := none }
        | none => s.raise .red 0 Ev.redPbufFull)

/-- RED_PUSH (R348). -/
def execRedPush (q : Nat) (s : State) : Host.Outcome State Fault Refusal :=
  .next (s.startIf q (opCodec · = 0x70) (s.pushForm q) State.beginPlain)

/-- BASIN_PIECE_REDUCE (R349): every contribution of a piece has arrived in a basin. -/
def execBasinPieceReduce (basin slot piece : Nat) (k : Check) (s : State) : Host.Outcome State Fault Refusal :=
  .next (match s.tensor slot with
    | none => s
    | some t =>
      let is (x : Contrib) : Bool := x.basin = basin && x.slot = slot && x.piece = piece
      let xs := s.red.contribs.filter is
      if t.basinN basin = 0 ∨ xs.length < t.basinN basin then s
      else
        let s := s.setRed { s.red with contribs := s.red.contribs.filter fun x => !is x }
        if k ≠ .ok then s.detected .red 0 (if k = .residue then 0x01 else 0x02) (BitVec.ofNat 64 s.redStep)
        else
          (List.range 4).foldl (fun s i =>
            let r := State.sumSlab xs i
            let x : NodeSlab := { slot := slot, piece := piece, slab := i, src := none, mask := BitVec.ofNat 16 r.1
                                  nf := xs.any (·.nf), data := r.2 }
            (s.setRed { s.red with sums := s.red.sums ++ [(basin, x)] }).joinBasins t piece i) s)

/-- RED_NODE_SEND (R351): a module's own sum and every contributing child of a slab are present. -/
def execRedNodeSend (slot piece slab : Nat) (k : Check) (s : State) : Host.Outcome State Fault Refusal :=
  .next (if k ≠ .ok then
      let is (x : NodeSlab) : Bool := x.slot = slot && x.piece = piece && x.slab = slab
      if s.red.nodes.any is then
        (s.setRed { s.red with nodes := s.red.nodes.filter fun x => !is x }).detected .red 0
          (if k = .residue then 0x01 else 0x02) (BitVec.ofNat 64 s.redStep)
      else s
    else (s.nodeSend slot piece slab).getD s)

/-- RED (R352). -/
def execRed (l : Nat) (k : Pkt) (s : State) : Host.Outcome State Fault Refusal :=
  .next (if k.typ.toNat = 0x20 then s.arrive l k (fun s => s.answer l k 0x04 0) (fun s => s.redArrive l k) else s)

/-- RED_C (R353). -/
def execRedC (l : Nat) (k : Pkt) (s : State) : Host.Outcome State Fault Refusal :=
  .next (if k.typ.toNat = 0x21 then s.arrive l k (fun s => s.answer l k 0x04 0) (fun s => s.redArrive l k) else s)

/-- MIRROR (R354). -/
def execMirror (l : Nat) (k : Pkt) (s : State) : Host.Outcome State Fault Refusal :=
  .next (if k.typ.toNat = 0x40 then s.arrive l k (fun s => s.answer l k 0x04 0) (fun s => s.redArrive l k) else s)

end Sys2Proof.Machine
end

