-- ==== Sys2Proof/Machine/Threads.lean ====
section
/-! DEFINITION. Thread state of a shoal: registers, predicates and lane flags as a launch or an update unit gives them
(R116, R178, R355). -/

namespace Sys2Proof.Machine

/-- Key of a general register. -/
def gkey (p t lane r : Nat) : Nat := ((p * 32 + t) * 32 + lane) * 64 + r

/-- Key of a lane's predicates and flags. -/
def lkey (p t lane : Nat) : Nat := (p * 32 + t) * 32 + lane

namespace State

/-- A general register of a lane. -/
def reg (s : State) (p t lane r : Nat) : W32 := tget s.gpr 0 (gkey p t lane r)

/-- Write a general register of a lane. -/
def setReg (s : State) (p t lane r : Nat) (v : W32) : State := { s with gpr := tset s.gpr 0 (gkey p t lane r) v }

/-- Every register, predicate and lane flag of a slot reads 0. -/
def clearSlot (s : State) (p t : Nat) : State :=
  let g := gkey p t 0 0
  let l := lkey p t 0
  { s with gpr := tdrop s.gpr (fun k => decide (g ≤ k ∧ k < g + 2048)), preds := tdrop s.preds (fun k => decide (l ≤ k ∧ k < l + 32)), lflags := tdrop s.lflags (fun k => decide (l ≤ k ∧ k < l + 32)) }

/-- Put a shoal in a slot with entry registers given by lane as (register, value). -/
def startShoal (s : State) (p t : Nat) (x : Shoal) (regs : Nat → List (Nat × Nat)) : State :=
  let s := (s.clearSlot p t).setShoal p t (some x)
  (List.range 32).foldl (fun s lane =>
    if x.ended.toNat.testBit lane then s
    else (regs lane).foldl (fun s r => s.setReg p t lane r.1 (BitVec.ofNat 32 r.2)) s) s

end State

end Sys2Proof.Machine
end

