-- ==== Sys2Proof/Machine/Update.lean ====
section
/-! DEFINITION. Update units: what a slab's kernel starts from, and what its end stages and publishes (R355 to R362, R368). -/

namespace Sys2Proof.Machine

/-! ### Places of a slab's planes (R346) -/

/-- Planes of a slab in a bank region, as (VA, bytes): word, extension, S0 to S3. -/
def slabPlanes (t : Tensor) (x : Shard) (bank piece slab : Nat) : List (Nat × Nat) :=
  let r := x.bank bank + (piece - x.first) * t.pstride
  [(r + slab * 4096, 4096), (r + 16384 + slab * 1024, 1024)] ++
    (List.range 4).map fun n => (r + t.planeOff n + slab * 1024 * t.planeW n, 1024 * t.planeW n)

/-- Local store offsets of the planes in a buffer (R355). -/
def planeAt : List Nat := [0x1000, 0x2000, 0x2400, 0x3400, 0x4400, 0x5400]

/-- Bytes of one row of a plane of n bytes a slab. -/
def planeRow (n i : Nat) (bs : Bytes) : Bytes := bsub bs (i * (n / 16)) (n / 16)

/-- An M40 value from its word and extension (R138). -/
def m40 (w e : Nat) : Num := fmtM40.decode (w * 256 + e)

/-- M40 bits as compared for CHANGED. -/
def m40At (word ext : Bytes) (k : Nat) : Nat × Nat := (bat word (4 * k) 4, bat ext k 1)

namespace State

/-- Read ranges through a slice; none where one cannot be read, or reads poisoned. -/
def vgetAll (sl : Nat) : List (Nat × Nat) → State → Option (List Bytes × State)
  | [], s => some ([], s)
  | (a, n) :: t, s => (s.vget sl a n).bind fun r => (vgetAll sl t r.2).map fun q => (r.1 :: q.1, q.2)

/-- A range of the list reads poisoned. -/
def anyPoison (s : State) (sl : Nat) (rs : List (Nat × Nat)) : Bool :=
  rs.any fun r => match s.vread sl r.1 r.2 with
    | .ok _ p _ => p
    | _ => false

/-- OR flags into a unit's update word of the open step (R362). -/
def orUpdWord (s : State) (u f : Nat) : State :=
  let (b, i) := unitPage u
  s.p b i Off.inlUpdword 3 0 (s.g b i Off.inlUpdword 3 0 ||| f)

/-- The step that update work belongs to: the open commit's while the journal is not IDLE. -/
def updStep (s : State) : Word :=
  if s.phase ≠ 0 then s.rd (pageBase .rcc 0 + Off.rccBkp2) else BitVec.ofNat 64 s.redStep

/-- LS of R357. -/
def lossExp (s : State) : Int := if s.g .red 0 Off.redLscale 63 63 = 1 then sext 8 (s.g .red 0 Off.redLscale 55 48) else 0

/-- A slab counts as staged. -/
def stagedMark (s : State) (x : UnitSlab) : State :=
  let k := (x.slot, x.piece, x.slab)
  s.setRed { s.red with staged := k :: s.red.staged.filter (· ≠ k) }

/-- The unit is free for its next slab. -/
def unitFree (s : State) (u : Nat) : State :=
  let v := s.unit u
  let s := (List.range 32).foldl (fun s t => s.setShoal (unitProc u) t none) s
  (s.setUnit u { v with run := none, buf := !v.buf }).unitRegs u

/-- Rows of a slab that are frozen or padding (R358): freeze bits are read once; none while they cannot be read. -/
def frozenRows (s : State) (t : Tensor) (sl : Nat) (x : UnitSlab) : Option (BitVec 16) :=
  let r0 := 64 * (x.piece / t.cb) + 16 * x.slab
  let bits : Option Nat := if !t.ctrl 3 then some 0
    else (s.vget sl (bat t.d 64 8 + r0 / 8) 2).map fun q => leNat q.1
  bits.map fun f => (List.range 16).foldl (fun (m : BitVec 16) i =>
    if f.testBit i || x.mask.toNat.testBit i || decide (t.rows ≤ r0 + i) then m ||| BitVec.ofNat 16 (2 ^ i) else m) 0

/-- The eight hyperparameters of a row (R359); none while they cannot be read. -/
def hyper (s : State) (t : Tensor) (sl row : Nat) : Option (List Nat) :=
  let words (a : Nat) : Option (List Nat) := (s.vget sl a 32).map fun q => (List.range 8).map fun k => bat q.1 (4 * k) 4
  if t.ctrl 1 then (s.vget sl (bat t.d 72 8 + row) 1).bind fun q => words (s.tblVa Off.redPg 0x2000 + 32 * leNat q.1)
  else words (bat t.d 56 8)

/-- Registers of a thread at entry (R355). -/
def unitRegsAt (s : State) (t : Tensor) (x : UnitSlab) (base : Nat) (hy : List Nat) (i j : Nat) : List (Nat × Nat) :=
  let e := 64 * i + j
  let row := 64 * (x.piece / t.cb) + 16 * x.slab + i
  let g := f32Of ((f32 (x.data.getD e 0).toNat).scale2 (sext 8 (bat t.d 22 1) - s.lossExp))
  [(8, g), (9, row * t.rowLen + 64 * (x.piece % t.cb) + j), (10, t.id), (11, row), (12, base + 0x1000 + 4 * e),
   (13, base + 0x2000 + e)] ++
  ((List.range 4).map fun n => (14 + n, base + planeAt.getD (2 + n) 0 + e * t.planeW n)) ++
  [(18, base + 0x6400 + 4 * e), (19, s.updStep.toNat % 2 ^ 32)] ++ hy.mapIdx fun n v => (20 + n, v)

/-- Start the shoals of the rows that run (R355); none while a row's hyperparameters cannot be read. -/
def startRows (u : Nat) (t : Tensor) (x : UnitSlab) (frozen : BitVec 16) (pc base : Nat) : Nat → State → Option State
  | 0, s => some s
  | n + 1, s => (startRows u t x frozen pc base n s).bind fun s =>
    if frozen.toNat.testBit n then some s
    else (s.hyper t (unitSlice u) (64 * (x.piece / t.cb) + 16 * x.slab + n)).map fun hy =>
      (List.range 2).foldl (fun s h =>
        let cols := t.rowLen - (64 * (x.piece % t.cb) + 32 * h)
        if cols = 0 then s
        else
          let ended := BitVec.ofNat 32 (if 32 ≤ cols then 0 else 2 ^ 32 - 2 ^ cols)
          let sh : Shoal := { launch := 0, fill := false, idx := 2 * n + h, pc := pc, ended := ended, wait := .run, ctxTensor := 0
                              ctxSlot := none, flags := 0 }
          s.startShoal (unitProc u) (2 * n + h) sh fun lane => s.unitRegsAt t x base hy n (32 * h + lane)) s

/-- A run fails (R361): the slab's staged values and publication are undefined, so they are free values, NF is ORed, and
the unit goes on with its next slab. -/
def unitFail (s : State) (u ev code : Nat) : State :=
  let (b, i) := unitPage u
  match (s.unit u).run with
  | none => s
  | some x =>
    let s := match s.tensor x.slot, s.shardOf x.slot x.piece with
      | some t, some h =>
        let rs := slabPlanes t h s.stageBank x.piece x.slab ++ (if x.primary then pubSegs t s.stageBank x.piece x.slab else [])
        rs.foldl (fun (s : State) (r : Nat × Nat) => (s.freeBytes r.2).2.vput (unitSlice u) r.1 (s.freeBytes r.2).1) s
      | _, _ => s
    let s := ((s.orUpdWord u 1).p b i Off.inlStat 7 0 code).raise b i ev
    ((s.stagedMark x).bump b i (0x200 + 40) 1).unitFree u

/-- A thread fault at an update unit (R192, R361): codes 0x20, 0x28 and 0x29 raise CHECK and are reported. -/
def unitFault (s : State) (u code : Nat) : State :=
  let (b, i) := unitPage u
  if code = 0x20 ∨ code = 0x28 ∨ code = 0x29 then
    (s.unitFail u Ev.inlCheck code).detected b i (if code = 0x28 then 1 else 2) s.updStep (detail := code)
  else s.unitFail u Ev.inlUpdateFault code

/-- Send a published slab to the push group (R360); none while a packet cannot leave. A commit's redo pushes nothing
again. -/
def pushSlab (s : State) (t : Tensor) (x : UnitSlab) (data : Bytes) : Option State :=
  if !t.ctrl 4 || s.phase ≠ 0 then some s
  else match s.rgroup t.ugroup with
    | none => none
    | some g => (List.range g.g).foldl (fun acc r => acc.bind fun s =>
        if r = g.rank then some s
        else match s.member g r with
          | none => none
          | some dst => s.redSend (s.redPkt 0x22 1 (bat t.d 18 1) dst t.slot x.piece x.slab 0 false data)) (some s)

/-- Current published bytes of a slab, segment by segment. -/
def curPub (s : State) (t : Tensor) (u : Nat) (x : UnitSlab) : Option (List Bytes) :=
  (vgetAll (unitSlice u) (pubSegs t s.curBank x.piece x.slab) s).map (·.1)

/-- SCRC of a shard takes in a piece whose last slab has been staged (R346); it starts at 0 in each attempt. -/
def shardCrc (s : State) (t : Tensor) (h : Shard) (piece sl : Nat) : State :=
  let all (p : Nat) : Bool := (List.range 4).all fun k => s.red.staged.contains (t.slot, p, k)
  if !all piece then s
  else
    let first := !((List.range h.count).any fun k => h.first + k ≠ piece && all (h.first + k))
    match s.vread sl (h.bank s.stageBank + (piece - h.first) * t.pstride) t.pstride with
    | .ok bs _ s =>
      let c := crc32 (natBytes 4 piece ++ bs) ^^^ (if first then 0 else h.scrc)
      s.vput 0 (s.tblVa Off.redSh 0x80000 + 64 * h.n + 12) (natBytes 4 c)
    | _ => s

/-- Values that a slab publishes: element rows, then scale rows (R356). -/
def pubData (t : Tensor) (x : UnitSlab) (frozen : BitVec 16) (old : List Bytes) (send : Bytes) : List Bytes :=
  let f := bat t.d 24 1
  let c0 := 64 * (x.piece % t.cb)
  let n := min 64 (t.rowLen - c0)
  let r0 := 64 * (x.piece / t.cb) + 16 * x.slab
  let rows := (List.range 16).filter fun i => r0 + i < t.rows
  let vals (i : Nat) : List Num := (List.range n).map fun j => f32 (bat send (4 * (64 * i + j)) 4)
  let blk := fmtBlock f
  let enc (i : Nat) : Bytes × Bytes :=
    if blk = 0 then (packBits (fmtBits f) ((vals i).map fun v => (convert f 0 0 0 v).bits), [])
    else
      let bs := (List.range (n / blk)).map fun b => encBlock f 0 (fun _ => 0) (((vals i).drop (b * blk)).take blk)
      ((bs.map fun b => packBits (fmtBits f) (b.2.map (·.bits))).flatten, (bs.map fun b => natBytes (scaleBytes f) b.1).flatten)
  let els := rows.mapIdx fun k i => if frozen.toNat.testBit i then old.getD k [] else (enc i).1
  if blk = 0 then els
  else els ++ rows.mapIdx fun k i => if frozen.toNat.testBit i then old.getD (rows.length + k) [] else (enc i).2

/-- Layer watch sums of a slab (R368): elements of rows that ran, old and new masters. -/
def lwSums (t : Tensor) (x : UnitSlab) (frozen : BitVec 16) (old new : List Bytes) : Dy × Dy × Nat × Nat :=
  let c0 := 64 * (x.piece % t.cb)
  let n := min 64 (t.rowLen - c0)
  let ks := (((List.range 16).filter fun i => !frozen.toNat.testBit i).map fun i => (List.range n).map fun j => 64 * i + j).flatten
  ks.foldl (fun acc k =>
    let o := m40At (old.getD 0 []) (old.getD 1 []) k
    let w := m40At (new.getD 0 []) (new.getD 1 []) k
    let vo := m40 o.1 o.2
    let d := f32 (f32Of ((m40 w.1 w.2).add vo.neg))
    (acc.1.addNum (d.mul d), acc.2.1.addNum (vo.mul vo), acc.2.2.1 + 1, acc.2.2.2 + (if o = w then 0 else 1)))
    (Dy.zero, Dy.zero, 0, 0)

/-- Add two exact sums. -/
def dyAdd (a b : Dy) : Dy :=
  let e := min a.e b.e
  { m := a.m * 2 ^ (a.e - e).toNat + b.m * 2 ^ (b.e - e).toNat, e := e }

/-- Add a slab's sums to its watch entry. -/
def addLw (s : State) (n : Nat) (q : Dy × Dy × Nat × Nat) : State :=
  let z := (Dy.zero, Dy.zero, 0, 0)
  let o := tget s.red.lw z n
  s.setRed { s.red with lw := tset s.red.lw z n (dyAdd o.1 q.1, dyAdd o.2.1 q.2.1, o.2.2.1 + q.2.2.1, o.2.2.2 + q.2.2.2) }

/-- What every staged slab ends with: its mark, SCRC, the push and the unit's counters. -/
def slabStaged (s : State) (u : Nat) (t : Tensor) (h : Shard) (x : UnitSlab) (pub : List Bytes) : Option State :=
  let (b, i) := unitPage u
  (if x.primary then s.pushSlab t x pub.flatten else some s).map fun s =>
    (((s.stagedMark x).shardCrc t h x.piece (unitSlice u)).bump b i 0x200 1).unitFree u

/-- A slab whose header carries NF (R355): its region and its published values are copied from current to staged. -/
def slabNf (s : State) (u : Nat) (t : Tensor) (h : Shard) (x : UnitSlab) : Option State :=
  let (b, i) := unitPage u
  let sl := unitSlice u
  (vgetAll sl (slabPlanes t h s.curBank x.piece x.slab) s).bind fun r =>
    (if x.primary then s.curPub t u x else some []).bind fun pub =>
      let ps := ((slabPlanes t h s.stageBank x.piece x.slab).map (·.1)).zip r.1 ++
        ((if x.primary then pubSegs t s.stageBank x.piece x.slab else []).map (·.1)).zip pub
      match vputAll sl ps r.2 with
      | .ok s => ((s.orUpdWord u 1).slabStaged u t h x pub).map fun s => s.bump b i (0x200 + 24) 1
      | .error _ => none

/-- The kernel that a tensor names, when it is loaded and runs on the unit. -/
def unitKernel (s : State) (u : Nat) (t : Tensor) : Option Kernel :=
  match s.kernelOf (BitVec.ofNat 64 (bat t.d 48 8)) with
  | some k => if k.target.toNat.testBit (if u < 12 then 1 else 2) then some k else none
  | none => none

/-- Start the slab at the front of a unit's queue (R355); none while memory does not answer. -/
def slabBegin (s : State) (u : Nat) (t : Tensor) (h : Shard) (x : UnitSlab) : Option State :=
  let p := unitProc u
  let sl := unitSlice u
  let (b, i) := unitPage u
  let base := if (s.unit u).buf then 0x8000 else 0
  let planes := slabPlanes t h s.curBank x.piece x.slab
  if s.anyPoison sl planes then
    some ((s.unitFail u Ev.inlUpdateFault 0).detected b i 0x05 s.updStep (detail := 3) (addr := (planes.headD (0, 0)).1))
  else match s.unitKernel u t with
    | none => some (s.unitFail u Ev.inlUpdateFault 0)
    | some k =>
      (s.frozenRows t sl x).bind fun fr => (vgetAll sl planes s).bind fun r =>
        let s := r.2
        let s := s.srWrite p base ((x.data.map fun w => natBytes 4 w.toNat).flatten)
        let s := (planeAt.zip r.1).foldl (fun s q => s.srWrite p (base + q.1) q.2) s
        let s := s.srWrite p (base + 0x6400) (List.replicate 4096 0)
        let v := s.unit u
        let s := s.setUnit u { v with run := some { x with mask := fr } }
        startRows u t x fr k.entry base 16 s

/-- A slab's kernel has ended (R355, R356): none while memory or a route does not answer. -/
def slabEnd (s : State) (u : Nat) (t : Tensor) (h : Shard) (x : UnitSlab) : Option State :=
  let p := unitProc u
  let sl := unitSlice u
  let (b, i) := unitPage u
  let base := if (s.unit u).buf then 0x8000 else 0
  (vgetAll sl (slabPlanes t h s.curBank x.piece x.slab) s).bind fun r =>
    (if x.primary then s.curPub t u x else some []).bind fun old =>
      let loc := planeAt.mapIdx fun n a => s.srRead p (base + a) (r.1.getD n []).length
      let new := r.1.mapIdx fun n cur =>
        ((List.range 16).map fun i => planeRow cur.length i (if x.mask.toNat.testBit i then cur else loc.getD n [])).flatten
      let pub := if x.primary then pubData t x x.mask old (s.srRead p (base + 0x6400) 4096) else []
      let hold := if h.hold ≠ 0 ∧ s.phase = 0 then
          [(h.hold + (x.piece - h.first) * 16384 + x.slab * 4096, (x.data.map fun w => natBytes 4 w.toNat).flatten)] else []
      let ps := ((slabPlanes t h s.stageBank x.piece x.slab).map (·.1)).zip new ++
        ((if x.primary then pubSegs t s.stageBank x.piece x.slab else []).map (·.1)).zip pub ++ hold
      match vputAll sl ps r.2 with
      | .error _ => none
      | .ok s =>
        let q := lwSums t x x.mask r.1 new
        let layer := bat t.d 26 2
        let s := if x.primary ∧ layer < 0xFFFF ∧ s.phase = 0 then s.addLw (layer % 4096) q else s
        let r0 := 64 * (x.piece / t.cb) + 16 * x.slab
        let frozen := ((List.range 16).filter fun i => x.mask.toNat.testBit i && decide (r0 + i < t.rows)).length
        (s.slabStaged u t h x pub).map fun s => (s.bump b i (0x200 + 8) q.2.2.1).bump b i (0x200 + 32) frozen

end State

/-- The unit that a command names. -/
def unitNo (shore : Bool) (n : Nat) : Nat := if shore then 12 + n else n

/-- UPDATE_SLAB_START (R355). -/
def execUpdateSlabStart (shore : Bool) (n : Nat) (s : State) : Host.Outcome State Fault Refusal :=
  .next (let u := unitNo shore n
    let (b, i) := unitPage u
    let v := s.unit u
    if n < 12 ∧ s.ready b i ∧ !s.quiet b i ∧ v.run.isNone then match v.queue with
      | [] => s
      | x :: rest =>
        match s.tensor x.slot, s.shardOf x.slot x.piece with
        | some t, some h =>
          let m := s.red.masks.filter fun e => !(e.1 = x.slot && e.2.1 = x.piece && e.2.2.1 = x.slab)
          let s1 := s.setRed { s.red with masks := m ++ [(x.slot, x.piece, x.slab, x.mask.toNat)] }
          let s1 := s1.setUnit u { v with queue := rest, run := some x }
          let r := if x.nf then s1.slabNf u t h x else s1.slabBegin u t h x
          match r with
          | some s2 => s2.unitRegs u
          | none => s
        | _, _ => s
    else s)

/-- UPDATE_SLAB_DONE (R355): every thread of the run has ended. -/
def execUpdateSlabDone (shore : Bool) (n : Nat) (s : State) : Host.Outcome State Fault Refusal :=
  .next (let u := unitNo shore n
    match (s.unit u).run with
    | none => s
    | some x =>
      if n < 12 ∧ (List.range 32).all (fun t => (s.shoal (unitProc u) t).isNone) then
        match s.tensor x.slot, s.shardOf x.slot x.piece with
        | some t, some h => (s.slabEnd u t h x).getD s
        | _, _ => s
      else s)

/-- UPDATE_KERNEL_TIMEOUT (R361). -/
def execUpdateKernelTimeout (shore : Bool) (n : Nat) (s : State) : Host.Outcome State Fault Refusal :=
  .next (if n < 12 then s.unitFail (unitNo shore n) Ev.inlUpdateTimeout (s.g (unitPage (unitNo shore n)).1 n Off.inlStat 7 0) else s)

end Sys2Proof.Machine
end

