-- ==== Sys2Proof/Machine/Flags.lean ====
section
/-! DEFINITION. A shoal at an instruction: its lanes, registers, predicates and sticky flags, the gathering of flags
(R178 to R180, R193 to R196), and the faults a thread can raise (R124, R192, R361). -/

namespace Sys2Proof.Machine

/-- A shoal that issues an instruction. -/
structure Thr where
  /-- processor and slot -/
  p : Nat
  t : Nat
  x : Shoal
  /-- the instruction word -/
  w : Nat
  /-- the kernel runs in 2.x mode (R205) -/
  old : Bool
  /-- STEP of the running command, or of the update -/
  step : Word
  /-- code words of the kernel -/
  len : Nat
  deriving DecidableEq, Repr

namespace Thr

/-- CLASS of R179. -/
def cls (th : Thr) : Nat := nfld th.w 63 60
/-- OP. -/
def op (th : Thr) : Nat := nfld th.w 59 52
/-- PN: negate the guard. -/
def pn (th : Thr) : Bool := th.w.testBit 51
/-- PG: guard predicate. -/
def pg (th : Thr) : Nat := nfld th.w 50 48
/-- DST. -/
def dst (th : Thr) : Nat := nfld th.w 47 42
/-- SA. -/
def sa (th : Thr) : Nat := nfld th.w 41 36
/-- SB. -/
def sb (th : Thr) : Nat := nfld th.w 35 30
/-- SC. -/
def sc (th : Thr) : Nat := nfld th.w 29 24
/-- IMM16. -/
def imm16 (th : Thr) : Nat := th.w % 2 ^ 16
/-- IMM32. -/
def imm32 (th : Thr) : Nat := th.w % 2 ^ 32
/-- The processor is a core. -/
def onCore (th : Thr) : Bool := th.p < 2304

end Thr

/-- What an instruction does in one lane: registers written, a predicate written, flags set (bit 0 NF, 1 OV, 2 UF, 3 SW). -/
structure LaneW where
  regs : List (Nat × W32)
  pred : Option (Nat × Bool)
  fl : Nat
  deriving DecidableEq, Repr

/-- A lane that writes one register. -/
def LaneW.reg (r : Nat) (v : W32) (fl : Nat := 0) : LaneW := { regs := [(r, v)], pred := none, fl := fl }

/-- A lane that writes one predicate. -/
def LaneW.setp (r : Nat) (v : Bool) (fl : Nat := 0) : LaneW := { regs := [], pred := some (r, v), fl := fl }

namespace State

/-- A predicate of a lane; p0 reads 1 (R178). -/
def predOf (s : State) (p t lane n : Nat) : Bool := n = 0 || (tget s.preds 0 (lkey p t lane)).toNat.testBit n

/-- Write a predicate of a lane; writes to p0 are ignored (R178). -/
def setPred (s : State) (p t lane n : Nat) (v : Bool) : State :=
  if n = 0 then s
  else
    let w := tget s.preds 0 (lkey p t lane)
    let m : BitVec 8 := BitVec.ofNat 8 (2 ^ (n % 8))
    { s with preds := tset s.preds 0 (lkey p t lane) (if v then w ||| m else w &&& ~~~m) }

/-- Sticky flags of a lane. -/
def laneFlags (s : State) (p t lane : Nat) : BitVec 4 := tget s.lflags 0 (lkey p t lane)

/-- Store the sticky flags of a lane. -/
def setLaneFlags (s : State) (p t lane : Nat) (f : BitVec 4) : State :=
  { s with lflags := tset s.lflags 0 (lkey p t lane) f }

/-- Active lanes: threads that have not ended (R180). -/
def activeLanes (th : Thr) : List Nat := (List.range 32).filter fun l => !th.x.ended.toNat.testBit l

/-- The guard of a lane (R180). -/
def guard (s : State) (th : Thr) (l : Nat) : Bool := s.predOf th.p th.t l th.pg != th.pn

/-- Lanes that execute: active with the guard at 1 (R180). -/
def lanes (s : State) (th : Thr) : List Nat := (activeLanes th).filter (s.guard th)

/-- A general register of a lane of the shoal. -/
def thReg (s : State) (th : Thr) (l r : Nat) : W32 := s.reg th.p th.t l r

/-- Steps 1 and 2 of R194: OR flags into the shoal word and the launch or update word, and count what set NF. -/
def gatherFlags (s : State) (th : Thr) (fl nf : Nat) : State :=
  if fl = 0 then s
  else
    let s := match s.shoal th.p th.t with
      | some x => s.setShoal th.p th.t (some { x with flags := x.flags ||| BitVec.ofNat 4 fl })
      | none => s
    if th.onCore then (s.orLaunchWord th.p th.x.fill fl).bump .cor th.p (0x380 + 16) nf
    else s.orUpdWord (th.p - 2304) fl

/-- Write what an instruction does in a lane. -/
def applyLane (s : State) (th : Thr) (l : Nat) (w : LaneW) : State :=
  let s := w.regs.foldl (fun (s : State) (r : Nat × W32) => s.setReg th.p th.t l r.1 r.2) s
  let s := match w.pred with
    | some (n, v) => s.setPred th.p th.t l n v
    | none => s
  if w.fl = 0 then s else s.setLaneFlags th.p th.t l (s.laneFlags th.p th.t l ||| BitVec.ofNat 4 w.fl)

/-- Write what an instruction does in its lanes, in rising order, and gather its flags. -/
def applyLanes (s : State) (th : Thr) (ws : List (Nat × LaneW)) : State :=
  let fl := ws.foldl (fun a e => a ||| e.2.fl) 0
  (ws.foldl (fun s e => s.applyLane th e.1 e.2) s).gatherFlags th fl (fl % 2)

/-- A thread fault at a word (R192, R361): checker codes are reported to RAS first. -/
def thrFaultAt (s : State) (th : Thr) (pc code : Nat) : State :=
  if th.onCore then
    let s := if code = 0x20 ∨ code = 0x28 ∨ code = 0x29 then
        s.detected .cor th.p (if code = 0x28 then 1 else 2) th.step (phys := some (s.physOf th.p)) (detail := pc % 2 ^ 24 * 256 + code)
      else s
    s.threadFault th.x.launch th.p pc code
  else s.unitFault (th.p - 2304) code

/-- A thread fault of the instruction. -/
def thrFault (s : State) (th : Thr) (code : Nat) : State := s.thrFaultAt th th.x.pc code

/-- An access outside the shoal's region (R121, R361): cause 1 with the local address. -/
def regionFault (s : State) (th : Thr) (addr : Nat) : State :=
  if th.onCore then s.launchEnd th.x.launch 1 th.p addr else s.unitFault (th.p - 2304) 0

/-- SRAM base and size that the shoal's local addresses map to (R120, R355). -/
def thRegion (s : State) (th : Thr) : Nat × Nat := if th.onCore then s.classRegion th.p th.x.fill else (0, 0x10000)

/-- Go on at a word; outside the code is a thread fault (R182). -/
def goto (s : State) (th : Thr) (pc : Int) : State :=
  match s.shoal th.p th.t with
  | some x => if 0 ≤ pc ∧ pc < th.len then s.setShoal th.p th.t (some { x with pc := pc.toNat }) else s.thrFault th 0x21
  | none => s

/-- Go on at the next word. -/
def nextPc (s : State) (th : Thr) : State := s.goto th (th.x.pc + 1)

/-- Wait at the next word. -/
def waitPc (s : State) (th : Thr) (w : Wait) : State :=
  match s.shoal th.p th.t with
  | some x => s.setShoal th.p th.t (some { x with pc := th.x.pc + 1, wait := w })
  | none => s

end State

end Sys2Proof.Machine
end

