-- ==== Sys2Proof/Machine/Septoon.lean ====
section
/-! DEFINITION. The Septoon instructions of a shoal (R177 to R193, R205, R233): one command issues the word at the shoal's
program counter. -/

namespace Sys2Proof.Machine

namespace State

/-! ### Issue -/

/-- The kernel that a shoal runs, with the step of its work (R191). -/
def codeOf (s : State) (p : Nat) (x : Shoal) : Option (Kernel × Word) :=
  if p < 2304 then (s.launch? x.launch).map fun l => (l.kernel, l.step)
  else if p < 2328 then match (s.unit (p - 2304)).run with
    | some y => match s.tensor y.slot with
      | some t => (s.unitKernel (p - 2304) t).map fun k => (k, s.updStep)
      | none => none
    | none => none
  else none

/-- A fill shoal pauses from a swap's drain point until the swap ends (R111). -/
def paused (s : State) (p : Nat) (fill : Bool) : Bool :=
  decide (p < 2304) && fill && (match (s.core p).swap with
    | .drained _ _ | .copying _ _ => true
    | .none | .waiting _ _ => false)

/-- A shoal that waits for nothing, at the word of its program counter. -/
def thrAt (s : State) (p t : Nat) : Option Thr :=
  match s.shoal p t with
  | some x =>
    if x.wait = .run && !s.paused p x.fill then match s.codeOf p x with
      | some (k, step) => some { p := p, t := t, x := x, w := (k.code.getD x.pc 0).toNat, old := k.isa.toNat < 0x30,
                                 step := step, len := k.code.length }
      | none => none
    else none
  | none => none

/-- The checker that an instruction meets, as a fault code (R192). -/
def checkCode : Check → Option Nat
  | .ok => none
  | .residue => some 0x28
  | .parity | .regParity => some 0x29
  | .fetchParity => some 0x20

/-- The unit that an instruction issues to: vector, matrix, stream, synchronisation (R114). -/
def unitOf (th : Thr) : Nat :=
  if th.cls = 9 then 1 else if th.cls = 0xA then 2 else if th.cls = 0 ∧ 2 ≤ th.op ∧ th.op ≤ 6 then 3 else 0

/-- Count an issue (R131), ISSUE_PRI or ISSUE_FILL, and remember the slot for the scheduler's turn (R115). -/
def countIssue (s : State) (th : Thr) : State :=
  if th.onCore then
    let x := s.core th.p
    (s.setCore th.p { x with lastIssue := x.lastIssue.set (unitOf th) th.t }).bump .cor th.p (if th.x.fill then 0x208 else 0x200) 1
  else s

/-- Issue the word at a shoal's program counter when it is the instruction that the command names. `f` gives the effect,
or none where the instruction cannot issue yet (R113). -/
def issueWord (s : State) (p t : Nat) (k : Check) (cls op : Nat) (f : State → Thr → Option State) : State :=
  match s.thrAt p t with
  | none => s
  | some th =>
    if th.cls = cls ∧ th.op = op then match checkCode k with
      | some code => (s.countIssue th).thrFault th code
      | none => match f s th with
        | some _ => (f (s.countIssue th) th).getD s
        | none => s
    else s

/-- A lane instruction: what each executing lane does, from the state before it. -/
def laneOp (s : State) (p t : Nat) (k : Check) (cls op : Nat) (f : State → Thr → Nat → LaneW) : State :=
  s.issueWord p t k cls op fun s th => some ((s.applyLanes th ((s.lanes th).map fun l => (l, f s th l))).nextPc th)

/-- A shoal-scope instruction: `f` takes the lowest executing lane; with none, nothing happens (R180, R207). -/
def shoalOp (s : State) (p t : Nat) (k : Check) (cls op : Nat) (f : State → Thr → Nat → Option State) : State :=
  s.issueWord p t k cls op fun s th => match s.lanes th with
    | [] => some (s.nextPc th)
    | l :: _ => f s th l

/-! ### Integer, FP32 and packed arithmetic -/

/-- Integer OP n of class 0x1 (R181). -/
def intOp (n : Nat) (sg : Bool) (a b : W32) : W32 :=
  match n with
  | 0 => a + b
  | 1 => a - b
  | 2 => a * b
  | 3 => if sg then BitVec.ofInt 32 (a.toInt * b.toInt / 2 ^ 32) else BitVec.ofNat 32 (a.toNat * b.toNat / 2 ^ 32)
  | 4 => a &&& b
  | 5 => a ||| b
  | 6 => a ^^^ b
  | 7 => a <<< (b.toNat % 32)
  | 8 => a >>> (b.toNat % 32)
  | 9 => a.sshiftRight (b.toNat % 32)
  | 10 => if sg then (if a.toInt ≤ b.toInt then a else b) else (if a.toNat ≤ b.toNat then a else b)
  | _ => if sg then (if a.toInt ≤ b.toInt then b else a) else (if a.toNat ≤ b.toNat then b else a)

/-- An integer instruction in the R-form. -/
def intR (s : State) (p t : Nat) (k : Check) (n : Nat) : State :=
  s.laneOp p t k 1 n fun s th l => .reg th.dst (intOp n (th.w.testBit 16) (s.thReg th l th.sa) (s.thReg th l th.sb))

/-- An integer instruction in the I-form (R179). -/
def intI (s : State) (p t : Nat) (k : Check) (n : Nat) : State :=
  s.laneOp p t k 1 (0x80 + n) fun s th l =>
    .reg th.dst (intOp n (th.w.testBit 32) (s.thReg th l th.sa) (BitVec.ofNat 32 th.imm32))

/-- A lane that writes an FP result. -/
def fpReg (r : Nat) (v : FRes) : LaneW := .reg r (BitVec.ofNat 32 v.bits) v.fl

/-- SA of an FP32 instruction: |SA| by MOD[22], then negated by MOD[20] (R181). -/
def fpSa (s : State) (th : Thr) (l : Nat) : Nat :=
  let a := (s.thReg th l th.sa).toNat
  let a := if th.w.testBit 22 then Machine.fabs a else a
  if th.w.testBit 20 then fneg a else a

/-- SC of FFMA, negated by MOD[21]. -/
def fpSc (s : State) (th : Thr) (l : Nat) : Nat :=
  let c := (s.thReg th l th.sc).toNat
  if th.w.testBit 21 then fneg c else c

/-- A two-operand FP32 instruction. -/
def fp2 (s : State) (p t : Nat) (k : Check) (n : Nat) (f : Bool → Nat → Nat → FRes) : State :=
  s.laneOp p t k 2 n fun s th l => fpReg th.dst (f th.old (s.fpSa th l) (s.thReg th l th.sb).toNat)

/-- An FP32 instruction with IMM32. -/
def fpI (s : State) (p t : Nat) (k : Check) (n : Nat) (f : Bool → Nat → Nat → FRes) : State :=
  s.laneOp p t k 2 n fun s th l => fpReg th.dst (f th.old (s.thReg th l th.sa).toNat th.imm32)

/-- A packed instruction (R185): both halves in BF16, or FP16 by MOD[16]. -/
def packedOp (s : State) (p t : Nat) (k : Check) (n : Nat) (g : List Num → Num) : State :=
  s.laneOp p t k 3 n fun s th l =>
    let f := if th.w.testBit 16 then fmtFp16 else fmtBf16
    let half (hi : Bool) : FRes :=
      let pick (r : Nat) : Nat := let v := (s.thReg th l r).toNat; if hi then v / 65536 else v % 65536
      fpOp f th.old g ([pick th.sa, pick th.sb] ++ if n = 2 then [pick th.sc] else [])
    let lo := half false
    let hi := half true
    .reg th.dst (BitVec.ofNat 32 (hi.bits * 65536 + lo.bits)) (lo.fl ||| hi.fl)

/-- A transcendental instruction (R184, R433). -/
def transc (s : State) (p t : Nat) (k : Check) (n : Nat) : State :=
  s.laneOp p t k 4 n fun s th l => fpReg th.dst (transOp th.old n (s.thReg th l th.sa).toNat)

/-! ### Compare and predicate -/

/-- A compare condition on an order; none is unordered (R181). -/
def condOf (c : Nat) (o : Option Ordering) : Bool :=
  match o, c with
  | none, 1 => true
  | none, 6 => true
  | none, _ => false
  | some .eq, 0 => true
  | some x, 1 => x ≠ .eq
  | some .lt, 2 => true
  | some x, 3 => x ≠ .gt
  | some .gt, 4 => true
  | some x, 5 => x ≠ .lt
  | some _, _ => false

/-- Order of two FP32 values; none with a NaN. -/
def fpOrder (a b : Num) : Option Ordering := if a.isNan || b.isNan then none else some (a.cmp b)

/-- FSETP on two patterns: the predicate and flags, inputs flushed in 2.x mode. NF for a non-finite input (DEDUCED). -/
def fsetpOf (old : Bool) (c a b : Nat) : Bool × Nat :=
  let x := flush fmtFp32 old a
  let y := flush fmtFp32 old b
  let nf := if (f32 x.bits).finite && (f32 y.bits).finite then 0 else 1
  (condOf c (fpOrder (f32 x.bits) (f32 y.bits)), x.fl ||| y.fl ||| nf)

/-- A predicate instruction on two predicates (R181): MOD[16] negates the second. -/
def predOp (s : State) (p t : Nat) (k : Check) (n : Nat) (f : Bool → Bool → Bool) : State :=
  s.laneOp p t k 5 n fun s th l =>
    .setp (th.dst % 8) (f (s.predOf th.p th.t l (th.sa % 8)) (s.predOf th.p th.t l (th.sb % 8) != th.w.testBit 16))

/-! ### Memory -/

/-- Local address of a memory instruction: SA plus the signed IMM16 (R181). -/
def memAddr (s : State) (th : Thr) (l : Nat) : Nat := wrapN 32 ((s.thReg th l th.sa).toNat + sext 16 th.imm16)

/-- Alignment, then region, of the accesses that lanes make (R187): the fault they raise, or none. -/
def memFault (s : State) (th : Thr) (n : Nat) (addrs : List Nat) : Option State :=
  if addrs.any fun a => a % n ≠ 0 then some (s.thrFault th 0x22)
  else match addrs.find? fun a => decide ((s.thRegion th).2 < a + n) with
    | some a => some (s.regionFault th a)
    | none => none

/-- A thread load meets uncorrectable words: counted and reported once for each lane (R389). -/
def reportUe (s : State) (th : Thr) (addr : Nat) : State := if th.onCore then s.reportSram th.p th.step addr else s

/-- A load of n bytes: affected lanes receive 0xFFFF_FFFF and set NF (R389). -/
def load (s : State) (p t : Nat) (k : Check) (op n : Nat) : State :=
  s.issueWord p t k 7 op fun s th =>
    let ls := s.lanes th
    match s.memFault th n (ls.map (s.memAddr th)) with
    | some s' => some s'
    | none =>
      let at' (l : Nat) : Nat := (s.thRegion th).1 + s.memAddr th l
      let bad (l : Nat) : Bool := s.srUe th.p (at' l) n
      let lane (l : Nat) : LaneW :=
        let v := leNat (s.srRead th.p (at' l) n)
        let lo := if bad l then 0xFFFFFFFF else v % 2 ^ 32
        let hi := if bad l then 0xFFFFFFFF else v / 2 ^ 32
        { regs := [(th.dst, BitVec.ofNat 32 lo)] ++ (if n = 8 then [(th.dst + 1, BitVec.ofNat 32 hi)] else []), pred := none,
          fl := if bad l then 1 else 0 }
      let s' := s.applyLanes th (ls.map fun l => (l, lane l))
      let s' := (ls.filter bad).foldl (fun s l => s.reportUe th (at' l)) s'
      some (s'.nextPc th)

/-- A store of n bytes; the highest-numbered lane's value remains (R187). -/
def store (s : State) (p t : Nat) (k : Check) (op n : Nat) : State :=
  s.issueWord p t k 7 op fun s th =>
    let ls := s.lanes th
    match s.memFault th n (ls.map (s.memAddr th)) with
    | some s' => some s'
    | none =>
      let v (l : Nat) : Nat := (s.thReg th l th.sb).toNat + (if n = 8 then (s.thReg th l (th.sb + 1)).toNat * 2 ^ 32 else 0)
      some ((ls.foldl (fun (s' : State) l => s'.srWrite th.p ((s.thRegion th).1 + s.memAddr th l) (natBytes n (v l))) s).nextPc th)

/-! ### Cross-lane -/

/-- A node of the reduction tree: a pattern, and whether a real value stands in it. -/
abbrev RNode := Nat × Bool

/-- One level of the tree: adjacent pairs combine (R188). -/
def treeLevel (f : RNode → RNode → RNode × Nat) : List RNode → List RNode × Nat
  | a :: b :: t =>
    let r := f a b
    let q := treeLevel f t
    (r.1 :: q.1, r.2 ||| q.2)
  | l => (l, 0)

/-- Five levels of the tree. -/
def tree5 (f : RNode → RNode → RNode × Nat) (l : List RNode) : Nat × Nat :=
  let r := (List.range 5).foldl (fun (acc : List RNode × Nat) _ => let q := treeLevel f acc.1; (q.1, acc.2 ||| q.2)) (l, 0)
  ((r.1.headD (0, false)).1, r.2)

/-- Combine two nodes of RSUM (0), RMAX (1) or RMIN (2); a lane that does not execute sets no flags (R188). -/
def redNode (old : Bool) (n : Nat) (a b : RNode) : RNode × Nat :=
  let f := if n = 0 then fadd old else if n = 1 then fmax old else fmin old
  let r := f a.1 b.1
  let fl := match a.2, b.2 with
    | true, true => r.fl
    | true, false => if n = 0 then r.fl else (f a.1 a.1).fl
    | false, true => if n = 0 then r.fl else (f b.1 b.1).fl
    | false, false => 0
  ((r.bits, a.2 || b.2), fl)

/-- What a lane that does not execute contributes to an FP reduction. -/
def redFill (n : Nat) : Nat := if n = 0 then 0x80000000 else if n = 1 then 0xFF800000 else 0x7F800000

/-- RSUM, RMAX, RMIN: the tree over the lanes, its result in every executing lane (R188). -/
def reduceFp (s : State) (p t : Nat) (k : Check) (op n : Nat) : State :=
  s.issueWord p t k 8 op fun s th =>
    let ls := s.lanes th
    let r := tree5 (redNode th.old n) ((List.range 32).map fun l =>
      if ls.contains l then ((s.thReg th l th.sa).toNat, true) else (redFill n, false))
    some ((s.applyLanes th (ls.map fun l => (l, .reg th.dst (BitVec.ofNat 32 r.1) r.2))).nextPc th)

/-! ### Conversion and M40 -/

/-- A value in a scalar format or M40 from register r (R186). -/
def cvtIn (s : State) (th : Thr) (l c r : Nat) : Num :=
  let v := (s.thReg th l r).toNat
  if c = 0x18 then m40 v ((s.thReg th l (r + 1)).toNat % 256) else decElem c (v % 2 ^ fmtBits c)

/-- Registers that hold a result in a scalar format or M40. -/
def cvtOut (th : Thr) (c : Nat) (v : Nat) : List (Nat × W32) :=
  if c = 0x18 then [(th.dst, BitVec.ofNat 32 (v / 256)), (th.dst + 1, BitVec.ofNat 32 (v % 256))]
  else [(th.dst, BitVec.ofNat 32 v)]

/-- The slice that a shoal's scale slots are read through (R222). -/
def thSlice (th : Thr) : Nat := if th.onCore then th.p / 576 else unitSlice (th.p - 2304)

/-- The 16-bit draw of element i of the shoal's tensor at an offset (R142, R186). -/
def thRand (s : State) (th : Thr) (rm toff i : Nat) : Nat :=
  if rm = 2 then rand16 (s.rd (pageBase .dev 0 + Off.devSrseed)) th.step ((th.x.ctxTensor.toNat + toff) % 2 ^ 32) i else 0

/-- CVT (R186): none while the slot's header cannot be read. -/
def cvtRun (s : State) (th : Thr) : Option State :=
  let ls := s.lanes th
  let src := nfld th.w 15 8
  let dst := nfld th.w 7 0
  let rm := nfld th.w 17 16
  let slot := match th.x.ctxSlot with
    | some n => if fmtSlot dst then n else 0xFFFF
    | none => 0xFFFF
  (s.convSlot (thSlice th) slot dst rm (nfld th.w 19 18)
    (fun k => s.thRand th rm (nfld th.w 23 20) (s.thReg th (ls.getD k 0) th.sb).toNat) (ls.map fun l => s.cvtIn th l src th.sa)).map fun r =>
      (r.2.applyLanes th (ls.mapIdx fun k l =>
        let v := r.1.getD k ⟨0, 0⟩
        (l, { regs := cvtOut th dst v.bits, pred := none, fl := v.fl }))).nextPc th

/-- M40FMA in one lane (R190). -/
def m40fmaLane (s : State) (th : Thr) (l : Nat) : LaneW :=
  let a := s.cvtIn th l 0x18 th.sa
  let b := f32 (s.thReg th l th.sb).toNat
  let c := f32 (s.thReg th l th.sc).toNat
  let v := match a, b, c with
    | .nan z, _, _ => Num.nan z
    | _, .nan z, _ => .nan z
    | _, _, .nan z => .nan z
    | _, _, _ => (b.mul c).add a
  let rm := nfld th.w 17 16
  let r := convert 0x18 rm 0 (s.thRand th rm (nfld th.w 23 20) (s.thReg th l (nfld th.w 13 8)).toNat) v
  let same := decide ((s.thReg th l th.sa).toNat = r.bits / 256 ∧ (s.thReg th l (th.sa + 1)).toNat = r.bits % 256)
  { regs := cvtOut th 0x18 r.bits, pred := if th.w.testBit 18 then some (th.imm16 % 8, same) else none,
    fl := r.fl ||| (if a.finite && b.finite && c.finite then 0 else 1) }

/-- Alignment and region of an M40 access: the word at SA, the byte at SB. -/
def m40Fault (s : State) (th : Thr) (ls : List Nat) : Option State :=
  match s.memFault th 4 (ls.map fun l => (s.thReg th l th.sa).toNat) with
  | some s' => some s'
  | none => s.memFault th 1 (ls.map fun l => (s.thReg th l th.sb).toNat)

/-- LDM40 (R190). -/
def ldm40Run (s : State) (th : Thr) : State :=
  let ls := s.lanes th
  match s.m40Fault th ls with
  | some s' => s'
  | none =>
    let b := (s.thRegion th).1
    let wa (l : Nat) : Nat := b + (s.thReg th l th.sa).toNat
    let ea (l : Nat) : Nat := b + (s.thReg th l th.sb).toNat
    let bad (l : Nat) : Bool := s.srUe th.p (wa l) 4 || s.srUe th.p (ea l) 1
    let lane (l : Nat) : LaneW :=
      let w := if bad l then 0xFFFFFFFF else leNat (s.srRead th.p (wa l) 4)
      let e := if bad l then 0xFFFFFFFF else leNat (s.srRead th.p (ea l) 1)
      { regs := [(th.dst, BitVec.ofNat 32 w), (th.dst + 1, BitVec.ofNat 32 e)], pred := none, fl := if bad l then 1 else 0 }
    let s' := s.applyLanes th (ls.map fun l => (l, lane l))
    ((ls.filter bad).foldl (fun s l => s.reportUe th (wa l)) s').nextPc th

/-- STM40 (R190). -/
def stm40Run (s : State) (th : Thr) : State :=
  let ls := s.lanes th
  match s.m40Fault th ls with
  | some s' => s'
  | none =>
    let b := (s.thRegion th).1
    (ls.foldl (fun (s' : State) l =>
      (s'.srWrite th.p (b + (s.thReg th l th.sa).toNat) (natBytes 4 (s.thReg th l th.sc).toNat)).srWrite th.p
        (b + (s.thReg th l th.sb).toNat) (natBytes 1 (s.thReg th l (th.sc + 1)).toNat)) s).nextPc th

/-! ### Control, flags and engines -/

/-- Let a shoal that waits go on (R127, R130, R201); code that ends there is a thread fault (R182). -/
def resumeShoal (s : State) (p t : Nat) : State :=
  match s.shoal p t with
  | some x => match s.codeOf p x with
    | some (k, step) =>
      let y := { x with wait := .run }
      let s := s.setShoal p t (some y)
      if x.pc < k.code.length then s
      else s.thrFaultAt { p := p, t := t, x := y, w := 0, old := k.isa.toNat < 0x30, step := step, len := k.code.length } (x.pc - 1) 0x21
    | none => s
  | none => s

/-- Shoals of a core that wait on an event flag, by slot; the flag of each says that it clears the event flag. -/
def flagWaiters (s : State) (c n : Nat) : List (Nat × Bool) :=
  (List.range 32).filterMap fun t => match s.shoal c t with
    | some x => match x.wait with
      | .flag m z => if m = n then some (t, z) else none
      | _ => none
    | none => none

/-- Release the shoals that wait on a set flag; an EFWAITC among them clears it once (R130, R181). -/
def flagRelease (s : State) (c n : Nat) : State :=
  let ws := s.flagWaiters c n
  if s.flag c n then
    let s := if ws.any (·.2) then s.clearFlag c n else s
    ws.foldl (fun s w => s.resumeShoal c w.1) s
  else s

/-- A branch (R182): `take` sees the guards of the active lanes. -/
def branch (s : State) (p t : Nat) (k : Check) (op : Nat) (take : List Bool → Bool) : State :=
  s.issueWord p t k 0 op fun s th =>
    some (if take ((activeLanes th).map (s.guard th)) then s.goto th (th.x.pc + sext 32 th.imm32) else s.nextPc th)

/-- END (R117): executing threads end; the slot frees when all 32 have ended. -/
def endRun (s : State) (th : Thr) : State :=
  let e := (s.lanes th).foldl (fun (m : BitVec 32) l => m ||| BitVec.ofNat 32 (2 ^ l)) th.x.ended
  if e = BitVec.allOnes 32 then s.setShoal th.p th.t none
  else (s.setShoal th.p th.t (some { th.x with ended := e })).nextPc th

/-- A shoal's matrix instructions have retired (R117, R126). -/
def tilesRetired (s : State) (c t l : Nat) : Bool :=
  let x := s.core c
  let no (o : Option Tile) : Bool := match o with
    | some y => !(y.slot = t && y.launch = l)
    | none => true
  no x.mxRun && no x.mxWait && (match x.redOut with
    | some y => !(y.slot = t && y.launch = l)
    | none => true)

/-- BAR (R126): the shoal arrives once its matrix instructions have retired. -/
def barRun (s : State) (th : Thr) : Option State :=
  if !th.onCore then none
  else if s.tilesRetired th.p th.t th.x.launch then some (s.waitPc th (.bar (nfld th.w 21 20) (nfld th.w 18 16))) else none

/-- EFWAIT and EFWAITC (R130, R181). -/
def efwaitRun (s : State) (th : Thr) (clr : Bool) : Option State :=
  if !th.onCore then none
  else
    let n := th.imm16 % 64
    let s := s.waitPc th (.flag n clr)
    some (if s.flag th.p n then (if clr then s.flagRelease th.p n else s.resumeShoal th.p th.t) else s)

/-- MMA (R156, R189): the tile takes the waiting place. -/
def mmaRun (s : State) (th : Thr) (l : Nat) : Option State :=
  let x := s.core th.p
  if !th.onCore ∨ x.mxWait.isSome then none
  else
    let tile : Tile := { launch := th.x.launch, fill := th.x.fill, slot := th.t, mtdAddr := (s.thReg th l th.sa).toNat % 2 ^ 20
                         maskAddr := (s.thReg th l th.sb).toNat % 2 ^ 20, word := th.x.pc, mtd := [], started := false, mask := 0, headroom := 0, attempt := 0
                         fp32 := false, skip := false, halted := false }
    some ((s.setCore th.p { x with mxWait := some tile }).nextPc th)

/-- SQPUSH (R233): the queue takes a copy of the descriptor at SA. -/
def sqpushRun (s : State) (th : Thr) (l : Nat) : Option State :=
  let q := 8 * th.p + nfld th.w 18 16
  if !th.onCore ∨ 16 ≤ (s.queue q).length then none
  else
    let r := s.thRegion th
    let a := (s.thReg th l th.sa).toNat
    if r.2 < a + 128 then some (s.regionFault th a)
    else
      let n := Op.descLen (bat (s.srRead th.p (r.1 + a) 128) 45 1)
      if r.2 < a + n then some (s.regionFault th a)
      else
        let o : Op := { id := s.nextOp, launch := some th.x.launch, cmd := none, fill := th.x.fill, step := th.step
                        desc := s.srRead th.p (r.1 + a) n, base := r.1, size := r.2
                        flag := if th.w.testBit 6 then some (th.imm16 % 64) else none, started := false, issued := 0
                        nissued := 0, xfers := [], landed := [], mark := none, cursor := 0, consumed := [], poison := none
                        wait := .none, held := false, aux := [], buf := [], aligned := a % 32 = 0 }
        some ((({ s with nextOp := s.nextOp + 1 }).setQueue q (s.queue q ++ [o])).nextPc th)

/-- SREG (R191). -/
def sregLane (s : State) (th : Thr) (l : Nat) : LaneW :=
  let v := match th.imm16 with
    | 0 => l
    | 1 => th.x.idx
    | 2 => if th.onCore then th.p else if th.p < 2316 then th.p - 2304 else th.p - 2316
    | 3 => th.step.toNat % 2 ^ 32
    | 4 => th.step.toNat / 2 ^ 32
    | 5 => s.now.toNat % 2 ^ 32
    | 6 => s.now.toNat / 2 ^ 32
    | _ => if th.onCore then (if th.x.fill then 1 else 0) else 2
  .reg th.dst (BitVec.ofNat 32 v)

/-- SFCLR (R193): program order; the shoal word keeps every bit (R196). -/
def sfclrRun (s : State) (th : Thr) : State :=
  ((s.lanes th).foldl (fun s l => s.setLaneFlags th.p th.t l (s.laneFlags th.p th.t l &&& ~~~(BitVec.ofNat 4 th.imm16))) s).nextPc th

/-- CVTCTX (R186). -/
def cvtctxRun (s : State) (th : Thr) (l : Nat) : Option State :=
  let x := { th.x with ctxTensor := s.thReg th l th.sa, ctxSlot := if th.w.testBit 16 then some (th.imm16 % 2 ^ 13) else none }
  some ((s.setShoal th.p th.t (some x)).nextPc th)

end State

/-! ### Control (class 0x0) -/

/-- NOP. -/
def execNop (p t : Nat) (k : Check) (s : State) : Host.Outcome State Fault Refusal :=
  .next (s.issueWord p t k 0 0x00 fun s th => some (s.nextPc th))
/-- END (R117). -/
def execEndThread (p t : Nat) (k : Check) (s : State) : Host.Outcome State Fault Refusal :=
  .next (s.issueWord p t k 0 0x01 fun s th => some (s.endRun th))
/-- BAR (R126). -/
def execBar (p t : Nat) (k : Check) (s : State) : Host.Outcome State Fault Refusal :=
  .next (s.issueWord p t k 0 0x02 State.barRun)
/-- EFSET (R130). -/
def execEfset (p t : Nat) (k : Check) (s : State) : Host.Outcome State Fault Refusal :=
  .next (s.shoalOp p t k 0 0x03 fun s th _ => if th.onCore then some ((s.setFlag th.p (th.imm16 % 64)).nextPc th) else none)
/-- EFCLR (R130). -/
def execEfclr (p t : Nat) (k : Check) (s : State) : Host.Outcome State Fault Refusal :=
  .next (s.shoalOp p t k 0 0x04 fun s th _ => if th.onCore then some ((s.clearFlag th.p (th.imm16 % 64)).nextPc th) else none)
/-- EFWAIT (R130). -/
def execEfwait (p t : Nat) (k : Check) (s : State) : Host.Outcome State Fault Refusal :=
  .next (s.shoalOp p t k 0 0x05 fun s th _ => s.efwaitRun th false)
/-- EFWAITC (R130, R181). -/
def execEfwaitc (p t : Nat) (k : Check) (s : State) : Host.Outcome State Fault Refusal :=
  .next (s.shoalOp p t k 0 0x06 fun s th _ => s.efwaitRun th true)
/-- BRA.ANY (R182). -/
def execBraAny (p t : Nat) (k : Check) (s : State) : Host.Outcome State Fault Refusal :=
  .next (s.branch p t k 0x81 fun gs => gs.any id)
/-- BRA.ALL (R182). -/
def execBraAll (p t : Nat) (k : Check) (s : State) : Host.Outcome State Fault Refusal :=
  .next (s.branch p t k 0x82 fun gs => gs.all id)
/-- BRA.NONE (R182). -/
def execBraNone (p t : Nat) (k : Check) (s : State) : Host.Outcome State Fault Refusal :=
  .next (s.branch p t k 0x83 fun gs => !gs.any id)

/-! ### Integer (class 0x1) -/

/-- IADD. -/
def execIadd (p t : Nat) (k : Check) (s : State) : Host.Outcome State Fault Refusal := .next (s.intR p t k 0)
/-- ISUB. -/
def execIsub (p t : Nat) (k : Check) (s : State) : Host.Outcome State Fault Refusal := .next (s.intR p t k 1)
/-- IMUL. -/
def execImul (p t : Nat) (k : Check) (s : State) : Host.Outcome State Fault Refusal := .next (s.intR p t k 2)
/-- IMULH. -/
def execImulh (p t : Nat) (k : Check) (s : State) : Host.Outcome State Fault Refusal := .next (s.intR p t k 3)
/-- AND. -/
def execAnd (p t : Nat) (k : Check) (s : State) : Host.Outcome State Fault Refusal := .next (s.intR p t k 4)
/-- OR. -/
def execOr (p t : Nat) (k : Check) (s : State) : Host.Outcome State Fault Refusal := .next (s.intR p t k 5)
/-- XOR. -/
def execXor (p t : Nat) (k : Check) (s : State) : Host.Outcome State Fault Refusal := .next (s.intR p t k 6)
/-- SHL. -/
def execShl (p t : Nat) (k : Check) (s : State) : Host.Outcome State Fault Refusal := .next (s.intR p t k 7)
/-- SHR. -/
def execShr (p t : Nat) (k : Check) (s : State) : Host.Outcome State Fault Refusal := .next (s.intR p t k 8)
/-- SAR. -/
def execSar (p t : Nat) (k : Check) (s : State) : Host.Outcome State Fault Refusal := .next (s.intR p t k 9)
/-- IMIN. -/
def execImin (p t : Nat) (k : Check) (s : State) : Host.Outcome State Fault Refusal := .next (s.intR p t k 10)
/-- IMAX. -/
def execImax (p t : Nat) (k : Check) (s : State) : Host.Outcome State Fault Refusal := .next (s.intR p t k 11)
/-- SEL. -/
def execSel (p t : Nat) (k : Check) (s : State) : Host.Outcome State Fault Refusal :=
  .next (s.laneOp p t k 1 0x0C fun s th l =>
    .reg th.dst (if s.predOf th.p th.t l (th.imm16 % 8) then s.thReg th l th.sa else s.thReg th l th.sb))
/-- IADD with IMM32. -/
def execIaddImm (p t : Nat) (k : Check) (s : State) : Host.Outcome State Fault Refusal := .next (s.intI p t k 0)
/-- ISUB with IMM32. -/
def execIsubImm (p t : Nat) (k : Check) (s : State) : Host.Outcome State Fault Refusal := .next (s.intI p t k 1)
/-- IMUL with IMM32. -/
def execImulImm (p t : Nat) (k : Check) (s : State) : Host.Outcome State Fault Refusal := .next (s.intI p t k 2)
/-- IMULH with IMM32, signed by bit 32 (R179). -/
def execImulhImm (p t : Nat) (k : Check) (s : State) : Host.Outcome State Fault Refusal := .next (s.intI p t k 3)
/-- AND with IMM32. -/
def execAndImm (p t : Nat) (k : Check) (s : State) : Host.Outcome State Fault Refusal := .next (s.intI p t k 4)
/-- OR with IMM32. -/
def execOrImm (p t : Nat) (k : Check) (s : State) : Host.Outcome State Fault Refusal := .next (s.intI p t k 5)
/-- XOR with IMM32. -/
def execXorImm (p t : Nat) (k : Check) (s : State) : Host.Outcome State Fault Refusal := .next (s.intI p t k 6)
/-- SHL with IMM32. -/
def execShlImm (p t : Nat) (k : Check) (s : State) : Host.Outcome State Fault Refusal := .next (s.intI p t k 7)
/-- SHR with IMM32. -/
def execShrImm (p t : Nat) (k : Check) (s : State) : Host.Outcome State Fault Refusal := .next (s.intI p t k 8)
/-- SAR with IMM32. -/
def execSarImm (p t : Nat) (k : Check) (s : State) : Host.Outcome State Fault Refusal := .next (s.intI p t k 9)
/-- IMIN with IMM32, signed by bit 32 (R179). -/
def execIminImm (p t : Nat) (k : Check) (s : State) : Host.Outcome State Fault Refusal := .next (s.intI p t k 10)
/-- IMAX with IMM32, signed by bit 32 (R179). -/
def execImaxImm (p t : Nat) (k : Check) (s : State) : Host.Outcome State Fault Refusal := .next (s.intI p t k 11)
/-- MOVI. -/
def execMovi (p t : Nat) (k : Check) (s : State) : Host.Outcome State Fault Refusal :=
  .next (s.laneOp p t k 1 0x8D fun _ th _ => .reg th.dst (BitVec.ofNat 32 th.imm32))

/-! ### FP32, packed and transcendental (classes 0x2, 0x3, 0x4) -/

/-- FADD (R183). -/
def execFadd (p t : Nat) (k : Check) (s : State) : Host.Outcome State Fault Refusal := .next (s.fp2 p t k 0 fadd)
/-- FMUL (R183). -/
def execFmul (p t : Nat) (k : Check) (s : State) : Host.Outcome State Fault Refusal := .next (s.fp2 p t k 1 fmul)
/-- FFMA (R183). -/
def execFfma (p t : Nat) (k : Check) (s : State) : Host.Outcome State Fault Refusal :=
  .next (s.laneOp p t k 2 2 fun s th l =>
    State.fpReg th.dst (ffma th.old (s.fpSa th l) (s.thReg th l th.sb).toNat (s.fpSc th l)))
/-- FMIN (R183). -/
def execFmin (p t : Nat) (k : Check) (s : State) : Host.Outcome State Fault Refusal := .next (s.fp2 p t k 3 fmin)
/-- FMAX (R183). -/
def execFmax (p t : Nat) (k : Check) (s : State) : Host.Outcome State Fault Refusal := .next (s.fp2 p t k 4 fmax)
/-- FADDI. -/
def execFaddi (p t : Nat) (k : Check) (s : State) : Host.Outcome State Fault Refusal := .next (s.fpI p t k 0x80 fadd)
/-- FMULI. -/
def execFmuli (p t : Nat) (k : Check) (s : State) : Host.Outcome State Fault Refusal := .next (s.fpI p t k 0x81 fmul)
/-- HADD2 (R185). -/
def execHadd2 (p t : Nat) (k : Check) (s : State) : Host.Outcome State Fault Refusal :=
  .next (s.packedOp p t k 0 fun v => (argN v 0).add (argN v 1))
/-- HMUL2 (R185). -/
def execHmul2 (p t : Nat) (k : Check) (s : State) : Host.Outcome State Fault Refusal :=
  .next (s.packedOp p t k 1 fun v => (argN v 0).mul (argN v 1))
/-- HFMA2 (R185). -/
def execHfma2 (p t : Nat) (k : Check) (s : State) : Host.Outcome State Fault Refusal :=
  .next (s.packedOp p t k 2 fun v => (argN v 0).fma (argN v 1) (argN v 2))
/-- EXP2 (R184, R433). -/
def execExp2 (p t : Nat) (k : Check) (s : State) : Host.Outcome State Fault Refusal := .next (s.transc p t k 0)
/-- LOG2 (R184). -/
def execLog2 (p t : Nat) (k : Check) (s : State) : Host.Outcome State Fault Refusal := .next (s.transc p t k 1)
/-- RCP (R184, R433). -/
def execRcp (p t : Nat) (k : Check) (s : State) : Host.Outcome State Fault Refusal := .next (s.transc p t k 2)
/-- RSQRT (R184, R433). -/
def execRsqrt (p t : Nat) (k : Check) (s : State) : Host.Outcome State Fault Refusal := .next (s.transc p t k 3)
/-- SQRT (R184). -/
def execSqrt (p t : Nat) (k : Check) (s : State) : Host.Outcome State Fault Refusal := .next (s.transc p t k 4)
/-- TANH (R184). -/
def execTanh (p t : Nat) (k : Check) (s : State) : Host.Outcome State Fault Refusal := .next (s.transc p t k 5)
/-- SINT (R184). -/
def execSint (p t : Nat) (k : Check) (s : State) : Host.Outcome State Fault Refusal := .next (s.transc p t k 6)
/-- COST (R184). -/
def execCost (p t : Nat) (k : Check) (s : State) : Host.Outcome State Fault Refusal := .next (s.transc p t k 7)

/-! ### Compare (class 0x5) -/

/-- FSETP. -/
def execFsetp (p t : Nat) (k : Check) (s : State) : Host.Outcome State Fault Refusal :=
  .next (s.laneOp p t k 5 0 fun s th l =>
    let r := State.fsetpOf th.old (nfld th.w 19 16) (s.thReg th l th.sa).toNat (s.thReg th l th.sb).toNat
    .setp (th.dst % 8) r.1 r.2)
/-- ISETP. -/
def execIsetp (p t : Nat) (k : Check) (s : State) : Host.Outcome State Fault Refusal :=
  .next (s.laneOp p t k 5 1 fun s th l =>
    let a := s.thReg th l th.sa
    let b := s.thReg th l th.sb
    let o := if th.w.testBit 20 then compare a.toInt b.toInt else compare a.toNat b.toNat
    .setp (th.dst % 8) (State.condOf (nfld th.w 19 16) (some o)))
/-- PAND. -/
def execPand (p t : Nat) (k : Check) (s : State) : Host.Outcome State Fault Refusal := .next (s.predOp p t k 2 fun a b => a && b)
/-- POR. -/
def execPor (p t : Nat) (k : Check) (s : State) : Host.Outcome State Fault Refusal := .next (s.predOp p t k 3 fun a b => a || b)
/-- PXOR. -/
def execPxor (p t : Nat) (k : Check) (s : State) : Host.Outcome State Fault Refusal := .next (s.predOp p t k 4 fun a b => a != b)
/-- VOTE. -/
def execVote (p t : Nat) (k : Check) (s : State) : Host.Outcome State Fault Refusal :=
  .next (s.laneOp p t k 5 5 fun s th _ =>
    .reg th.dst ((s.lanes th).foldl (fun (m : W32) l =>
      if s.predOf th.p th.t l (th.sa % 8) then m ||| BitVec.ofNat 32 (2 ^ l) else m) 0))
/-- PBIT. -/
def execPbit (p t : Nat) (k : Check) (s : State) : Host.Outcome State Fault Refusal :=
  .next (s.laneOp p t k 5 6 fun s th l => .setp (th.dst % 8) ((s.thReg th l th.sa).toNat.testBit (th.imm16 % 32)))

/-! ### Conversion, memory, cross-lane (classes 0x6, 0x7, 0x8) -/

/-- CVT (R186). -/
def execCvt (p t : Nat) (k : Check) (s : State) : Host.Outcome State Fault Refusal :=
  .next (s.issueWord p t k 6 0 State.cvtRun)
/-- LD8 (R187). -/
def execLd8 (p t : Nat) (k : Check) (s : State) : Host.Outcome State Fault Refusal := .next (s.load p t k 0 1)
/-- LD16 (R187). -/
def execLd16 (p t : Nat) (k : Check) (s : State) : Host.Outcome State Fault Refusal := .next (s.load p t k 1 2)
/-- LD32 (R187). -/
def execLd32 (p t : Nat) (k : Check) (s : State) : Host.Outcome State Fault Refusal := .next (s.load p t k 2 4)
/-- LD64 (R187). -/
def execLd64 (p t : Nat) (k : Check) (s : State) : Host.Outcome State Fault Refusal := .next (s.load p t k 3 8)
/-- ST8 (R187). -/
def execSt8 (p t : Nat) (k : Check) (s : State) : Host.Outcome State Fault Refusal := .next (s.store p t k 4 1)
/-- ST16 (R187). -/
def execSt16 (p t : Nat) (k : Check) (s : State) : Host.Outcome State Fault Refusal := .next (s.store p t k 5 2)
/-- ST32 (R187). -/
def execSt32 (p t : Nat) (k : Check) (s : State) : Host.Outcome State Fault Refusal := .next (s.store p t k 6 4)
/-- ST64 (R187). -/
def execSt64 (p t : Nat) (k : Check) (s : State) : Host.Outcome State Fault Refusal := .next (s.store p t k 7 8)
/-- SHFL. -/
def execShfl (p t : Nat) (k : Check) (s : State) : Host.Outcome State Fault Refusal :=
  .next (s.laneOp p t k 8 0 fun s th l => .reg th.dst (s.thReg th ((s.thReg th l th.sb).toNat % 32) th.sa))
/-- SHFLX. -/
def execShflx (p t : Nat) (k : Check) (s : State) : Host.Outcome State Fault Refusal :=
  .next (s.laneOp p t k 8 1 fun s th l => .reg th.dst (s.thReg th (l ^^^ (th.imm16 % 32)) th.sa))
/-- RSUM (R188). -/
def execRsum (p t : Nat) (k : Check) (s : State) : Host.Outcome State Fault Refusal := .next (s.reduceFp p t k 2 0)
/-- RMAX (R188). -/
def execRmax (p t : Nat) (k : Check) (s : State) : Host.Outcome State Fault Refusal := .next (s.reduceFp p t k 3 1)
/-- RMIN (R188). -/
def execRmin (p t : Nat) (k : Check) (s : State) : Host.Outcome State Fault Refusal := .next (s.reduceFp p t k 4 2)
/-- RISUM (R188). -/
def execRisum (p t : Nat) (k : Check) (s : State) : Host.Outcome State Fault Refusal :=
  .next (s.laneOp p t k 8 5 fun s th _ => .reg th.dst ((s.lanes th).foldl (fun (a : W32) l => a + s.thReg th l th.sa) 0))

/-! ### Engines, M40 and system (classes 0x9, 0xA, 0xC, 0xD) -/

/-- MMA (R189). -/
def execMma (p t : Nat) (k : Check) (s : State) : Host.Outcome State Fault Refusal := .next (s.shoalOp p t k 9 0 State.mmaRun)
/-- SQPUSH (R233). -/
def execSqpush (p t : Nat) (k : Check) (s : State) : Host.Outcome State Fault Refusal :=
  .next (s.shoalOp p t k 0xA 0 State.sqpushRun)
/-- SQSYNC (R234). -/
def execSqsync (p t : Nat) (k : Check) (s : State) : Host.Outcome State Fault Refusal :=
  .next (s.shoalOp p t k 0xA 1 fun s th _ =>
    if th.onCore ∧ s.queue (8 * th.p + nfld th.w 18 16) = [] then some (s.nextPc th) else none)
/-- LDM40 (R190). -/
def execLdm40 (p t : Nat) (k : Check) (s : State) : Host.Outcome State Fault Refusal :=
  .next (s.issueWord p t k 0xC 0 fun s th => some (s.ldm40Run th))
/-- STM40 (R190). -/
def execStm40 (p t : Nat) (k : Check) (s : State) : Host.Outcome State Fault Refusal :=
  .next (s.issueWord p t k 0xC 1 fun s th => some (s.stm40Run th))
/-- M40FMA (R190). -/
def execM40fma (p t : Nat) (k : Check) (s : State) : Host.Outcome State Fault Refusal :=
  .next (s.laneOp p t k 0xC 2 State.m40fmaLane)
/-- SREG (R191). -/
def execSreg (p t : Nat) (k : Check) (s : State) : Host.Outcome State Fault Refusal := .next (s.laneOp p t k 0xD 0 State.sregLane)
/-- SFRD (R193). -/
def execSfrd (p t : Nat) (k : Check) (s : State) : Host.Outcome State Fault Refusal :=
  .next (s.laneOp p t k 0xD 1 fun s th l => .reg th.dst (BitVec.ofNat 32 (s.laneFlags th.p th.t l).toNat))
/-- SFCLR (R193). -/
def execSfclr (p t : Nat) (k : Check) (s : State) : Host.Outcome State Fault Refusal :=
  .next (s.issueWord p t k 0xD 2 fun s th => some (s.sfclrRun th))
/-- SFSET (R193). -/
def execSfset (p t : Nat) (k : Check) (s : State) : Host.Outcome State Fault Refusal :=
  .next (s.laneOp p t k 0xD 3 fun _ _ _ => { regs := [], pred := none, fl := 8 })
/-- CVTCTX (R186). -/
def execCvtctx (p t : Nat) (k : Check) (s : State) : Host.Outcome State Fault Refusal :=
  .next (s.shoalOp p t k 0xD 4 State.cvtctxRun)

end Sys2Proof.Machine
end

