-- ==== Sys2Proof/Machine/Chain.lean ====
section
/-! DEFINITION. Fused chains (R197 to R201): what a chain computes for each element and row, and its instruction. -/

namespace Sys2Proof.Machine

/-! ### Stages (R199) -/

/-- SELGT: A > B ? C : DEST, on inputs flushed in 2.x mode; a NaN is not greater. -/
def selgt (old : Bool) (a b c d : Nat) : FRes :=
  let gt := State.fpOrder (f32 (flush fmtFp32 old a).bits) (f32 (flush fmtFp32 old b).bits) = some .gt
  fpOp fmtFp32 old (fun v => if gt then argN v 2 else argN v 3) ([a, b, c] ++ if gt then [] else [d])

/-- SIGMOID: RCP(1 + EXP2(A × −0x3FB8_AA3B)), each step rounded. -/
def sigmoid (a : Nat) : FRes :=
  let t := fmul false a 0xBFB8AA3B
  let e := transOp false 0 t.bits
  let d := fadd false 0x3F800000 e.bits
  let r := transOp false 2 d.bits
  ⟨r.bits, t.fl ||| e.fl ||| d.fl ||| r.fl⟩

/-- Result of a stage on its sources and the value at its destination. -/
def stageOp (old : Bool) (op a b c d : Nat) : FRes :=
  match op with
  | 0x01 => fpOp fmtFp32 old (fun v => argN v 0) [a]
  | 0x02 => fadd old a b
  | 0x03 => fmul old a b
  | 0x04 => ffma old a b c
  | 0x05 => fmin old a b
  | 0x06 => fmax old a b
  | 0x07 =>
    let m := fmax old a b
    let r := fmin old m.bits c
    ⟨r.bits, m.fl ||| r.fl⟩
  | 0x08 => selgt old a b c d
  | 0x18 => sigmoid a
  | 0x19 =>
    let g := sigmoid a
    let r := fmul old a g.bits
    ⟨r.bits, g.fl ||| r.fl⟩
  | n => transOp old (n - 0x10) a

/-- An element on its way through the stages: V, U, V as tapped, flags of each stage, values for the row sum. -/
structure CElem where
  v : Nat
  u : Nat
  tap : Nat
  fls : List Nat
  acc : List (Nat × Nat)

/-- Run a stage; `src` gives the sources that are neither V nor U. `k` is the stage's number, counted from 1. -/
def stageRun (old : Bool) (tap : Nat) (src : CStage → Nat → Nat) (e : CElem) (k : Nat) (g : CStage) : CElem :=
  let get (n : Nat) : Nat :=
    let v := if g.src n = 0 then e.v else if g.src n = 1 then e.u else src g (g.src n)
    if g.neg n then fneg v else v
  let e :=
    if g.op = 0x20 then { e with fls := e.fls ++ [0], acc := e.acc ++ [(k, get 0)] }
    else
      let r := stageOp old g.op (get 0) (get 1) (get 2) (if g.destU then e.u else e.v)
      let e := { e with fls := e.fls ++ [r.fl] }
      if g.destU then { e with u := r.bits } else { e with v := r.bits }
  if k = tap then { e with tap := e.v } else e

/-- Run every stage on an element; V and U start at +0. -/
def chainElem (old : Bool) (c : CDesc) (src : CStage → Nat → Nat) : CElem :=
  (c.stages.zipIdx 1).foldl (fun e g => stageRun old c.tap src e g.2 g.1) ⟨0, 0, 0, [], []⟩

namespace State

/-! ### Inputs -/

/-- Bytes of the chain's SRAM; words that are uncorrectable read as the NaN 0xFFFF_FFFF (R389). -/
def chainWord (s : State) (c a : Nat) : Nat := if s.srUe c a 4 then 0xFFFFFFFF else leNat (s.srRead c a 4)

/-- Element (r, col) of an input plane as FP32 (R200). -/
def chainIn (s : State) (c base : Nat) (d : CDesc) (n r col : Nat) : Nat :=
  let f := d.fmt n
  let w := fmtBits f
  let row := base + d.elemAt n + r * d.pitch n
  let a := row + col * w / 8
  let m := (col * w % 8 + w + 7) / 8
  let p := leNat (s.srRead c a m) / 2 ^ (col * w % 8) % 2 ^ w
  if s.srUe c a m then 0xFFFFFFFF
  else if fmtBlock f = 0 then f32Of (decElem f p)
  else
    let sb := scaleBytes f
    let sa := base + d.scaleAt n + r * d.rowScales n + col / fmtBlock f * sb
    if s.srUe c sa sb then 0xFFFFFFFF else f32Of (decBlockElem f (leNat (s.srRead c sa sb)) (col % fmtBlock f) p)

/-- A source other than V and U. -/
def chainSrc (s : State) (c base : Nat) (d : CDesc) (r col : Nat) (g : CStage) (code : Nat) : Nat :=
  match code with
  | 2 => s.chainIn c base d 0 r col
  | 3 => s.chainIn c base d 1 r col
  | 4 => s.chainWord c (base + d.addr 28 + 8 * r)
  | 5 => s.chainWord c (base + d.addr 28 + 8 * r + 4)
  | 6 => s.chainWord c (base + d.addr 32 + 4 * col)
  | 7 => s.chainWord c (base + d.addr 36 + 4 * col)
  | 8 => g.imm
  | 9 => f32Of (.ofInt r 0)
  | 10 => f32Of (.ofInt col 0)
  | _ => 0

/-! ### Outputs -/

/-- The 16-bit draw of an output element (R142, R200). -/
def chainRand (s : State) (d : CDesc) (step : Word) (tensor r col : Nat) : Nat :=
  if d.rm = 2 then rand16 (s.rd (pageBase .dev 0 + Off.devSrseed)) step tensor (bat d.d 64 8 + r * bat d.d 72 4 + col) else 0

/-- Write rows of element patterns, then rows of scales. -/
def chainRows (s : State) (c base : Nat) (d : CDesc) (n : Nat) (els : List (List Nat)) (scales : List (List Nat)) : State :=
  let s := (els.zipIdx).foldl (fun (s : State) e =>
    s.srWrite c (base + d.elemAt n + e.2 * d.pitch n) (packBits (fmtBits (d.fmt n)) e.1)) s
  if d.rowScales n = 0 then s
  else s.srWrite c (base + d.scaleAt n) ((scales.map fun r => (r.map (natBytes (scaleBytes (d.fmt n)))).flatten).flatten)

/-- Convert and write an output plane: O (2) or T (3); flags by row, then column. None while its slot cannot be read. -/
def chainOut (s : State) (c base : Nat) (d : CDesc) (step : Word) (n : Nat) (vals : List (List Nat)) :
    Option (State × List (List Nat)) :=
  let f := d.fmt n
  let tensor := bat d.d (76 + 4 * (n - 2)) 4
  let rnd (r col : Nat) : Nat := s.chainRand d step tensor r col
  if fmtBlock f = 0 then
    let slot := bat d.d (58 + 2 * (n - 2)) 2
    let slot := if slot = 0xFFFF then slot else slot % 8192
    (s.convSlot (c / 576) slot f d.rm d.om (fun k => rnd (k / d.cols) (k % d.cols)) (vals.flatten.map f32)).map fun q =>
      let rows := (List.range d.rows).map fun r => (q.1.drop (r * d.cols)).take d.cols
      (q.2.chainRows c base d n (rows.map fun r => r.map (·.bits)) [], rows.map fun r => r.map (·.fl))
  else
    let b := fmtBlock f
    let rows := vals.mapIdx fun r vs => (List.range (d.cols / b)).map fun k =>
      encBlock f d.rm (fun e => rnd r (k * b + e)) (((vs.drop (k * b)).take b).map f32)
    some (s.chainRows c base d n (rows.map fun r => (r.map fun e => e.2.map (·.bits)).flatten) (rows.map fun r => r.map (·.1)),
      rows.map fun r => (r.map fun e => e.2.map (·.fl)).flatten)

/-! ### The chain -/

/-- The row sum (R200): one partial for each lane, then the tree of R188. Gives the sum and flags by lane. -/
def rowSum (es : List CElem) : Nat × List Nat :=
  let lane (l : Nat) : Nat × Nat :=
    ((es.zipIdx).filter fun e => e.2 % 32 = l).foldl (fun a e => e.1.acc.foldl (fun a x =>
      let r := fadd false a.1 x.2
      (r.bits, a.2 ||| r.fl)) a) (0, 0)
  let ps := (List.range 32).map lane
  let t := tree5 (redNode false 0) (ps.map fun p => (p.1, true))
  (t.1, ps.map fun p => p.2 ||| t.2)

/-- OR the flags of elements into a list by lane. -/
def lanesOf (fls : List Nat) : List Nat :=
  (List.range 32).map fun l => ((fls.zipIdx).filter fun e => e.2 % 32 = l).foldl (fun a e => a ||| e.1) 0

/-- OR two lists by lane. -/
def orLanes (a b : List Nat) : List Nat := (List.range 32).map fun l => a.getD l 0 ||| b.getD l 0

/-- A chain's range holds an uncorrectable word, reported once. -/
def chainUe (s : State) (th : Thr) (base : Nat) (d : CDesc) : State :=
  match (d.planeRanges 0 ++ d.planeRanges 1 ++ (if d.uses 4 || d.uses 5 then [(d.addr 28, 8 * d.rows)] else [])).find? fun r =>
      s.srUe th.p (base + r.1) r.2 with
  | some r => s.reportUe th (base + r.1)
  | none => s

/-- What a chain writes and the flags it sets; none while a slot header cannot be read. -/
def chainRun (s : State) (th : Thr) (d : CDesc) : Option State :=
  let base := (s.thRegion th).1
  let rows := (List.range d.rows).map fun r =>
    (List.range d.cols).map fun col => chainElem th.old d (s.chainSrc th.p base d r col)
  let sums := rows.map rowSum
  let s0 := s.chainUe th base d
  (if d.noOut then some (s0, []) else s0.chainOut th.p base d th.step 2 (rows.map fun r => r.map (·.v))).bind fun o =>
    (if d.tap = 0 then some (o.1, []) else o.1.chainOut th.p base d th.step 3 (rows.map fun r => r.map (·.tap))).map fun t =>
      let s := if d.rowAcc then (sums.zipIdx).foldl (fun (s : State) e =>
          s.srWrite th.p (base + d.addr 28 + 8 * e.2 + 4) (natBytes 4 e.1.1)) t.1 else t.1
      let stageFl (k : Nat) : List Nat := rows.foldl (fun a r => orLanes a (lanesOf (r.map fun e => e.fls.getD k 0))) []
      let accFl := if d.rowAcc then sums.foldl (fun a x => orLanes a x.2) [] else []
      let outFl := (o.2 ++ t.2).foldl (fun a r => orLanes a (lanesOf r)) []
      let st := (List.range d.stages.length).map fun k =>
        if (d.stages.getD k ⟨0⟩).op = 0x20 then accFl else stageFl k
      let all := (st ++ [outFl]).foldl orLanes []
      let nf := ((st ++ [outFl]).filter fun fs => fs.any fun f => f % 2 = 1).length
      let s := (all.zipIdx).foldl (fun (s : State) e =>
        if e.1 = 0 then s else s.setLaneFlags th.p th.t e.2 (s.laneFlags th.p th.t e.2 ||| BitVec.ofNat 4 e.1)) s
      s.gatherFlags th (all.foldl (fun a f => a ||| f) 0) nf

/-- CHAIN issues (R192, R197): its descriptor is checked, and its shoal waits until the chain retires. -/
def chainIssue (s : State) (th : Thr) (l : Nat) : Option State :=
  if !th.onCore then none
  else
    let r := s.thRegion th
    let a := (s.thReg th l th.sa).toNat
    if a % 32 ≠ 0 then some (s.thrFault th 0x36)
    else if r.2 < a + 160 then some (s.regionFault th a)
    else
      let d : CDesc := ⟨s.srRead th.p (r.1 + a) 160⟩
      match d.check th.old a with
      | some code => some (s.thrFault th code)
      | none => match d.ranges.find? fun x => decide (r.2 < x.1 + x.2) with
        | some x => some (s.regionFault th x.1)
        | none => some (s.waitPc th (.chain d.d))

/-- A chain retires (R201). -/
def chainEnd (s : State) (p t : Nat) : State :=
  match s.shoal p t with
  | some x => match x.wait, s.codeOf p x with
    | .chain d, some (k, step) =>
      let th : Thr := { p := p, t := t, x := x, w := 0, old := k.isa.toNat < 0x30, step := step, len := k.code.length }
      let c : CDesc := ⟨d⟩
      match s.chainRun th c with
      | some s => ((s.bump .cor p 0x380 1).bump .cor p 0x388 ((c.rows * c.cols * c.cost + 31) / 32 + 12)).resumeShoal p t
      | none => s
    | _, _ => s
  | none => s

end State

/-- CHAIN (R197 to R200). -/
def execChain (p t : Nat) (k : Check) (s : State) : Host.Outcome State Fault Refusal :=
  .next (s.shoalOp p t k 0xB 0 State.chainIssue)

/-- CHAIN_RETIRE (R201). -/
def execChainRetire (p t : Nat) (s : State) : Host.Outcome State Fault Refusal :=
  .next (if p < 2304 then s.chainEnd p t else s)

end Sys2Proof.Machine
end

