-- ==== Sys2Proof/Machine/Matrix.lean ====
section
/-! DEFINITION. The matrix engine (R156 to R175): the matrix tile descriptor, the start, replays and end of a tile, and the
debug halt. -/

namespace Sys2Proof.Machine

/-- A matrix tile descriptor's 64 bytes (R159). -/
structure Mtd where
  d : Bytes
  deriving DecidableEq, Repr

namespace Mtd

/-- An SRAM address. -/
def addr (m : Mtd) (o : Nat) : Nat := bat m.d o 4 % 2 ^ 20
/-- K16. -/
def k16 (m : Mtd) : Nat := bat m.d 30 2
/-- K. -/
def k (m : Mtd) : Nat := 16 * m.k16
/-- Format code of A (0), B (1) or D (2). -/
def fmt (m : Mtd) (n : Nat) : Nat := bat m.d (32 + n) 1
/-- A bit of CTRL0. -/
def ctrl0 (m : Mtd) (n : Nat) : Bool := (bat m.d 35 1).testBit n
/-- Code of G. -/
def gCode (m : Mtd) : Nat := nfld (bat m.d 35 1) 6 5
/-- G. -/
def g (m : Mtd) : Nat := 4 * 2 ^ m.gCode
/-- Rounding mode. -/
def rm (m : Mtd) : Nat := bat m.d 36 1 % 4
/-- Overflow mode. -/
def om (m : Mtd) : Nat := nfld (bat m.d 36 1) 3 2
/-- Pitch in bytes of A (0), B (1), or C and D (2). -/
def pitch (m : Mtd) (n : Nat) : Nat := 32 * bat m.d (24 + 2 * n) 2
/-- Scale slot of A (0), B (1) or D (2). -/
def slot (m : Mtd) (n : Nat) : Nat := bat m.d (40 + 2 * n) 2
/-- C_EN. -/
def cEn (m : Mtd) : Bool := m.ctrl0 2
/-- D_RED. -/
def dRed (m : Mtd) : Bool := m.ctrl0 3
/-- MASK_EN. -/
def maskEn (m : Mtd) : Bool := m.ctrl0 4
/-- BASEIDX. -/
def baseIdx (m : Mtd) : Nat := bat m.d 48 8
/-- ROWLEN. -/
def rowLen (m : Mtd) : Nat := bat m.d 56 4
/-- D_TENSOR. -/
def tensor (m : Mtd) : Nat := bat m.d 60 4

/-- Formats that an operand may have (R158). -/
def operandFmt (c : Nat) : Bool := fmtCode c && c ≠ 0x00 && c ≠ 0x18

/-- Addresses that the tile uses. -/
def addrs (m : Mtd) : List Nat :=
  [bat m.d 0 4, bat m.d 4 4] ++ (if fmtBlock (m.fmt 0) ≠ 0 then [bat m.d 8 4] else []) ++
    (if fmtBlock (m.fmt 1) ≠ 0 then [bat m.d 12 4] else []) ++ (if m.cEn then [bat m.d 16 4] else []) ++
    (if m.dRed then [] else [bat m.d 20 4])

/-- The error code of an MTD at an address, in the order of R160's table, or none. -/
def check (m : Mtd) (at' : Nat) : Option Nat :=
  let blk (n : Nat) : Nat := fmtBlock (m.fmt n)
  if !operandFmt (m.fmt 0) || !operandFmt (m.fmt 1) then some 0x01
  else if !fmtCode (m.fmt 2) ∨ m.fmt 2 = 0x18 ∨ (m.dRed ∧ m.fmt 2 ≠ 0x00 ∧ m.fmt 2 ≠ 0x01) then some 0x02
  else if m.k16 = 0 ∨ 4096 < m.k16 then some 0x03
  else if [0, 1].any fun n => blk n ≠ 0 && m.k % blk n ≠ 0 then some 0x04
  else if m.gCode = 3 ∨ m.rm = 3 ∨ m.om = 3 then some 0x05
  else if at' % 32 ≠ 0 ∨ m.addrs.any fun a => a % 32 ≠ 0 then some 0x06
  else none

/-- Stored rows of operand n and elements of each (R161, R162). -/
def shape (m : Mtd) (n : Nat) : Nat × Nat := if m.ctrl0 n then (m.k, 64) else (64, m.k)

/-- Ranges of operand n: element rows, then the scale plane. -/
def operandRanges (m : Mtd) (n : Nat) : List (Nat × Nat) :=
  let (r, c) := m.shape n
  let f := m.fmt n
  (List.range r).map (fun i => (m.addr (4 * n) + i * m.pitch n, rowBytes f c)) ++
    (if fmtBlock f = 0 then [] else [(m.addr (8 + 4 * n), r * (c / fmtBlock f) * scaleBytes f)])

/-- Ranges that the tile reads. -/
def inRanges (m : Mtd) : List (Nat × Nat) :=
  m.operandRanges 0 ++ m.operandRanges 1 ++
    (if m.cEn then (List.range 64).map fun i => (m.addr 16 + i * m.pitch 2, 256) else [])

/-- Ranges that the tile writes. -/
def outRanges (m : Mtd) : List (Nat × Nat) :=
  if m.dRed then [] else (List.range 64).map fun i => (m.addr 20 + i * m.pitch 2, rowBytes (m.fmt 2) 64)

end Mtd

namespace State

/-- SRAM region of a tile's launch. -/
def tileRegion (s : State) (c : Nat) (t : Tile) : Nat × Nat := s.classRegion c t.fill

/-- STEP of a tile's launch. -/
def tileStep (s : State) (t : Tile) : Word :=
  match s.launch? t.launch with
  | some l => l.step
  | none => 0

/-- Largest possible element exponent of an operand element format (R163). -/
def emaxE (c : Nat) : Int :=
  match c with
  | 0x08 => 8 | 0x09 => 15 | 0x0B | 0x11 => 4 | 0x0A | 0x0C | 0x10 => 2 | 0x0D => 1 | _ => 0

/-- Bound of a block-format operand from its scale words (R163). -/
def blockBound (f : Nat) (scales : List Nat) : Option Int :=
  scales.foldl (fun a w =>
    if w % 256 = 0xFF then a
    else
      let subs := if fmtBlock f = 64 then (List.range 8).map fun j => nfld w (9 + 2 * j) (8 + 2 * j) else [0]
      let m := subs.foldl min 3
      maxBound a (some ((w % 256 : Nat) - 127 + emaxE f - (m : Nat)))) none

/-- An operand's values by tile row and k, and its bound (R161 to R163). -/
def tileOperand (s : State) (c base : Nat) (m : Mtd) (n : Nat) : (Nat → Nat → Num) × Option Int :=
  let (rows, cols) := m.shape n
  let f := m.fmt n
  let w := fmtBits f
  let blk := fmtBlock f
  let row (i : Nat) : List Nat :=
    let bs := s.srRead c (base + m.addr (4 * n) + i * m.pitch n) (rowBytes f cols)
    (List.range cols).map fun k => bitsAt bs (k * w) w
  let scales := if blk = 0 then []
    else
      let k := rows * (cols / blk)
      let bs := s.srRead c (base + m.addr (8 + 4 * n)) (k * scaleBytes f)
      (List.range k).map fun i => bat bs (i * scaleBytes f) (scaleBytes f)
  let sa := scales.toArray
  let vals := ((List.range rows).map fun i => (row i).mapIdx fun k p =>
    if blk = 0 then decElem f p else decBlockElem f (sa.getD (i * (cols / blk) + k / blk) 0) (k % blk) p).flatten.toArray
  let at' (i k : Nat) : Num := vals.getD (i * cols + k) (.fin false 0 0)
  let get (i k : Nat) : Num := if m.ctrl0 n then at' k i else at' i k
  (get, if blk = 0 then scanBound 64 m.k get else blockBound f scales)

/-- What the tile is computed from, with the rows of a mask left out (R170). -/
def tileIn (s : State) (c : Nat) (t : Tile) : TileIn :=
  let m : Mtd := ⟨t.mtd⟩
  let base := (s.tileRegion c t).1
  let a := s.tileOperand c base m 0
  let b := s.tileOperand c base m 1
  let cs := ((List.range 64).map fun i =>
    let bs := s.srRead c (base + m.addr 16 + i * m.pitch 2) 256
    (List.range 64).map fun j => f32 (bat bs (4 * j) 4)).flatten.toArray
  { k := m.k, g := m.g, a := a.1, b := b.1, ba := a.2, bb := b.2
    c := if m.cEn then some fun i j => cs.getD (64 * i + j) (.fin false 0 0) else none
    rows := (List.range 64).filter fun i => !t.mask.toNat.testBit i }

/-- An operand fetch of the tile meets an uncorrectable word (R389). -/
def tileUe (s : State) (c : Nat) (t : Tile) : Bool :=
  let base := (s.tileRegion c t).1
  (Mtd.inRanges ⟨t.mtd⟩).any fun r => s.srUe c (base + r.1) r.2

/-- A thread fault of a tile's shoal (R160). -/
def tileFault (s : State) (c : Nat) (t : Tile) (code : Nat) : State := s.threadFault t.launch c t.word code

/-- The waiting tile starts (R156, R160, R170, R171). -/
def tileStart (s : State) (c : Nat) (t : Tile) : State :=
  let r := s.tileRegion c t
  if t.mtdAddr % 32 ≠ 0 then s.tileFault c t 0x06
  else if r.2 < t.mtdAddr + 64 then s.launchEnd t.launch 1 c t.mtdAddr
  else
    let m : Mtd := ⟨s.srRead c (r.1 + t.mtdAddr) 64⟩
    match m.check t.mtdAddr with
    | some code => s.tileFault c t code
    | none => match (m.inRanges ++ m.outRanges ++ (if m.maskEn then [(t.maskAddr, 8)] else [])).find? fun (x : Nat × Nat) =>
        decide (r.2 < x.1 + x.2) with
      | some x => s.launchEnd t.launch 1 c x.1
      | none =>
        let mask : Word := BitVec.ofNat 64 (if m.maskEn then leNat (s.srRead c (r.1 + t.maskAddr) 8) else 0)
        let skip := mask = BitVec.allOnes 64
        let t := { t with mtd := m.d, started := true, mask := mask, skip := skip, attempt := 0
                          headroom := s.g .cor c Off.corMxcfg 3 0, fp32 := s.g .cor c Off.corMxcfg 8 8 = 1 }
        s.setCore c { s.core c with mxRun := some t, mxWait := none }

/-- The tree's copy of a tile; NF is the launch word's as it stands (R194, R347). -/
def redTileOf (s : State) (c : Nat) (t : Tile) (poison : Bool) (data : List W32) : RedTile :=
  let m : Mtd := ⟨t.mtd⟩
  { launch := t.launch, fill := t.fill, slot := t.slot, tensor := BitVec.ofNat 32 m.tensor
    baseIdx := BitVec.ofNat 64 m.baseIdx, rowLen := BitVec.ofNat 32 m.rowLen, mask := t.mask
    nf := (s.launchWord c t.fill).testBit 0, poison := poison, data := data }

/-- A residue or parity error ends a tile and its launch (R173). -/
def tileCheck (s : State) (c : Nat) (t : Tile) (residue : Bool) : State :=
  let code := if residue then 0x10 else 0x11
  let red := s.redTileOf c t true []
  let s := s.bump .cor c (0x300 + 40) 1
  let s := s.detected .cor c (if residue then 1 else 2) (s.tileStep t) (phys := some (s.physOf c)) (detail := t.word % 2 ^ 24 * 256 + code)
  let s := s.tileFault c t code
  if (Mtd.mk t.mtd).dRed then s.setCore c { s.core c with redOut := some red } else s

/-- Flags of a tile's output: lane 0 of the issuing shoal, its shoal word and the launch word (R167). -/
def tileFlags (s : State) (c : Nat) (t : Tile) (fl : Nat) : State :=
  if fl = 0 then s
  else
    let s := match s.shoal c t.slot with
      | some x => if x.launch = t.launch then
          (s.setShoal c t.slot (some { x with flags := x.flags ||| BitVec.ofNat 4 fl })).setLaneFlags c t.slot 0
            (s.laneFlags c t.slot 0 ||| BitVec.ofNat 4 fl)
        else s
      | none => s
    (s.orLaunchWord c t.fill fl).bump .cor c (0x380 + 16) (fl % 2)

/-- Values of a tile's last attempt with the flags of the FP32 path, or none when its window overflows (R164 to R166). -/
def tileValues (x : TileIn) (t : Tile) : Option (List TileElem × Nat) :=
  if t.fp32 then some x.fp32Path else (x.attempt t.headroom).map fun es => (es, 0)

/-- A block-format output that names a slot records its maximum there; a FORMAT mismatch gives free patterns (R8, R144,
R176). None while the header cannot be read. -/
def blockSlot (s : State) (sl slot f : Nat) (vals : List Num) (out : List (Nat × List FRes)) :
    Option (State × List (Nat × List FRes)) :=
  if slot = 0xFFFF then some (s, out)
  else (s.slotUse sl slot f).map fun u =>
    let amax := (vals.filter (·.finite)).foldl (fun a v => max a (f32Of v.abs)) 0
    let sat := (out.foldl (fun a r => a ++ r.2.filter fun x => x.fl.testBit 1) []).length
    let s := s.slotFold sl (slot % 8192) amax sat
    if u.fmtOk then (s, out)
    else
      let (bs, s) := s.freeBytes (64 * out.length)
      (s, out.mapIdx fun n r => (r.1, r.2.mapIdx fun k x => ⟨(bs.getD (64 * n + k) 0).toNat % 2 ^ fmtBits f, x.fl⟩))

/-- Output of a tile (R168): patterns of each unmasked row with flags, converted through the scales of A, B and D; none
while a slot header cannot be read. -/
def tileConvert (s : State) (c : Nat) (t : Tile) (es : List TileElem) : Option (State × List (Nat × List FRes)) :=
  let m : Mtd := ⟨t.mtd⟩
  let sl := c / 576
  (s.readScale sl (m.slot 0) (m.fmt 0)).bind fun sa => (s.readScale sl (m.slot 1) (m.fmt 1)).bind fun sb =>
    let k := scaleLg sa + scaleLg sb
    let rows := (List.range 64).filter fun i => !t.mask.toNat.testBit i
    let vals := (es.map fun e => e.v.scale2 (-k))
    let f := m.fmt 2
    let rnd (i j : Nat) : Nat :=
      if m.rm = 2 then rand16 (s.rd (pageBase .dev 0 + Off.devSrseed)) (s.tileStep t) m.tensor (m.baseIdx + i * m.rowLen + j) else 0
    if fmtBlock f = 0 then
      let slot := if m.slot 2 = 0xFFFF then 0xFFFF else m.slot 2 % 8192
      (s.convSlot sl slot f m.rm m.om (fun n => rnd (rows.getD (n / 64) 0) (n % 64)) vals).map fun q =>
        (q.2, rows.mapIdx fun n i => (i, (q.1.drop (64 * n)).take 64))
    else
      let b := fmtBlock f
      let out := rows.mapIdx fun n i => (i, ((List.range (64 / b)).map fun h =>
        (encBlock f m.rm (fun e => rnd i (h * b + e)) ((vals.drop (64 * n + h * b)).take b)).2).flatten)
      s.blockSlot sl (m.slot 2) f vals out

/-- The tree's FP32 values of a tile's 4,096 elements, from rows in D_FMT; masked rows are ignored there. -/
def redData (f : Nat) (rows : List (Nat × List FRes)) : List W32 :=
  ((List.range 64).map fun i => match rows.find? (·.1 = i) with
    | some r => r.2.map fun x => BitVec.ofNat 32 (if f = 0x01 then x.bits * 65536 else x.bits)
    | none => List.replicate 64 0).flatten

/-- Counters of a tile that completes (R175). -/
def tileCount (s : State) (c : Nat) (t : Tile) : State :=
  if t.skip then s.bump .cor c (0x300 + 24) 1
  else ((s.bump .cor c 0x300 1).bump .cor c (0x300 + 8) t.attempt).bump .cor c (0x300 + 16) (if t.fp32 then 1 else 0)

/-- A tile leaves the engine; with D_RED it goes to the basin tree and retires there (R157). -/
def tileLeave (s : State) (c : Nat) (t : Tile) (data : List W32) : State :=
  let red := if (Mtd.mk t.mtd).dRed then some (s.redTileOf c t false data) else (s.core c).redOut
  (s.setCore c { s.core c with mxRun := none, redOut := red }).tileCount c t

/-- A tile's attempt completes (R168, R173). -/
def tileDone (s : State) (c : Nat) (t : Tile) (k : Check) : State :=
  let m : Mtd := ⟨t.mtd⟩
  if t.halted ∨ (m.dRed ∧ (s.core c).redOut.isSome) then s
  else if t.skip then s.tileLeave c t []
  else if k ≠ .ok then s.tileCheck c t (k = .residue)
  else if s.tileUe c t then (s.bump .ras 0 (0x200 + 64) 1).tileCheck c t false
  else match tileValues (s.tileIn c t) t with
    | none => s
    | some (es, fl) => match s.tileConvert c t es with
      | none => s
      | some (s, rows) =>
        let base := (s.tileRegion c t).1
        let fl := rows.foldl (fun a r => r.2.foldl (fun a x => a ||| x.fl) a) fl
        let s := s.tileFlags c t fl
        let s := if m.dRed then s
          else rows.foldl (fun (s : State) r =>
            s.srWrite c (base + m.addr 20 + r.1 * m.pitch 2) (packBits (fmtBits (m.fmt 2)) (r.2.map (·.bits)))) s
        s.tileLeave c t (if m.dRed then redData (m.fmt 2) rows else [])

/-- An attempt overflows (R165, R166): a replay with H raised by 8, or the FP32 path after the third. An error found in the
attempt ends the tile instead (R173). -/
def tileReplay (s : State) (c : Nat) (t : Tile) (k : Check) : State :=
  if t.halted ∨ t.skip ∨ t.fp32 ∨ ((Mtd.mk t.mtd).dRed ∧ (s.core c).redOut.isSome ∧ k ≠ .ok) then s
  else if (tileValues (s.tileIn c t) t).isSome then s
  else if k ≠ .ok then s.tileCheck c t (k = .residue)
  else
    let t := if t.attempt < 3 then { t with attempt := t.attempt + 1, headroom := t.headroom + 8 } else { t with fp32 := true }
    s.setCore c { s.core c with mxRun := some t }

/-- Debug is unlocked (R428). -/
def debugOpen (s : State) : Bool := s.g .sec 0 Off.secDebug 0 0 = 1

end State

/-- MATRIX_TILE_START (R156). -/
def execMatrixTileStart (c : Nat) (s : State) : Host.Outcome State Fault Refusal :=
  .next (match (s.core c).mxRun, (s.core c).mxWait with
    | none, some t => s.tileStart c t
    | _, _ => s)

/-- TILE_OVERFLOW_REPLAY (R165). -/
def execTileOverflowReplay (c : Nat) (k : Check) (s : State) : Host.Outcome State Fault Refusal :=
  .next (match (s.core c).mxRun with
    | some t => s.tileReplay c t k
    | none => s)

/-- MATRIX_TILE_DONE (R168). -/
def execMatrixTileDone (c : Nat) (k : Check) (s : State) : Host.Outcome State Fault Refusal :=
  .next (match (s.core c).mxRun with
    | some t => s.tileDone c t k
    | none => s)

/-- MX_DEBUG_HALT (R174): ARM halts a tile after K-chunk HALT_CHUNK, and clears. -/
def execMxDebugHalt (c : Nat) (s : State) : Host.Outcome State Fault Refusal :=
  .next (match (s.core c).mxRun with
    | some t =>
      if s.debugOpen ∧ s.g .cor c Off.corMxdbgCtl 0 0 = 1 ∧ !t.halted ∧ !t.skip ∧
          s.g .cor c Off.corMxdbgCtl 43 32 < (Mtd.mk t.mtd).k16 then
        (s.setCore c { s.core c with mxRun := some { t with halted := true } }).p .cor c Off.corMxdbgCtl 0 0 0
      else s
    | none => s)

/-- MX_DEBUG_RESUME (R174): a write of RESUME; ignored while debug is locked. -/
def execMxDebugResume (c : Nat) (s : State) : Host.Outcome State Fault Refusal :=
  .next (if 2304 ≤ c then s else if !s.ready .cor c then s.refuse false true Ev.devEarlyAccess (pageBase .cor c + Off.corMxdbgCtl)
    else match (s.core c).mxRun with
      | some t => if s.debugOpen then s.setCore c { s.core c with mxRun := some { t with halted := false } } else s
      | none => s)

end Sys2Proof.Machine
end

