-- ==== Sys2Proof/Machine/Requests.lean ====
section
/-! DEFINITION. Requests for a Cold, Warm or Basin reset (R32, R35, R432). -/

namespace Sys2Proof.Machine

namespace State

/-- Class order: Cold covers Warm, Warm covers Basin (R33). -/
def classRank : RstClass → Nat
  | .cold => 2
  | .warm => 1
  | .basin => 0

/-- A request covers another class and target: a higher class, or the same class and target. -/
def covers (r : RstReq) (c : RstClass) (b : Nat) : Bool :=
  decide (classRank c < classRank r.cls) || (r.cls = c && r.basin = b)

/-- Request a reset (R35): refused during the removal drain, absorbed by a reset that covers it, and abandoning lower ones
otherwise. -/
def requestReset (s : State) (c : RstClass) (b : Nat) (src : Nat) : State :=
  if s.power.drain = .running then s.raise .rcc 0 Ev.rccResetRefused
  else if s.rst.reqs.any (covers · c b) then s
  else
    let keep := s.rst.reqs.filter fun r => classRank r.cls = classRank c
    let q : RstReq := { cls := c, basin := b, src := BitVec.ofNat 8 src, asserted := false }
    { s with rst := { s.rst with reqs := keep ++ [q] } }

end State

end Sys2Proof.Machine
end

