-- ==== Sys2Proof/Machine/Cores.lean ====
section
/-! DEFINITION. Launches on cores, barriers, event flags, the class partition and spare swaps (R111, R116, R117, R122 to R131,
R246 to R248, R380). -/

namespace Sys2Proof.Machine

namespace State

/-! ### Launches on a core -/

/-- A logical core that exists and is READY. -/
def coreUp (s : State) (c : Nat) : Bool := decide (c < 2304) && s.ready .cor c

/-- A swap holds the core still: its drain point is reached and the swap has not ended (R111). -/
def swapping (s : State) (c : Nat) : Bool :=
  match (s.core c).swap with
  | .drained _ _ | .copying _ _ => true
  | .none | .waiting _ _ => false

/-- The launch at the head of a core's class queue, when it may start (R39, R59, R123, R125). -/
def nextLaunch (s : State) (c : Nat) (fill : Bool) : Option Nat :=
  let x := s.core c
  if s.coreUp c && (s.running c fill).isNone && x.part.isNone && !s.quiet .cor c && !s.swapping c then
    (if fill then x.fillQ else x.priQ).head?
  else none

/-- Start shoal k of a launch on a core (R116). -/
def launchShoal (s : State) (l : Nat) (x : Launch) (c k : Nat) : State :=
  let sh : Shoal := { launch := l, fill := x.fill, idx := k, pc := x.kernel.entry, ended := 0, wait := .run, ctxTensor := 0
                      ctxSlot := none, flags := 0 }
  let rank := (x.targets.filter (· < c)).length
  s.startShoal c ((s.classSlots c x.fill).1 + k) sh fun lane =>
    [(0, x.args.toNat % 2 ^ 32), (1, nfld x.args.toNat 56 32), (2, c * 65536 + k * 32 + lane), (3, x.targets.length * 65536 + rank)]

/-- A launch starts on a core (R116, R123, R194). A partition written since its dispatch is checked again, with the causes of
R124 (DESIGN CHOICE; Assumption 29). -/
def launchBegin (s : State) (l : Nat) (x : Launch) (c : Nat) : State :=
  let slots := (s.classSlots c x.fill).2
  let size := (s.classRegion c x.fill).2
  if slots < x.shoals then s.launchEnd l 3 c slots
  else if size < x.kernel.need then s.launchEnd l 2 c size
  else
    let y := s.core c
    let s := s.setCore c (if x.fill then { y with fill := some l, fillQ := y.fillQ.filter (· ≠ l) }
      else { y with pri := some l, priQ := y.priQ.filter (· ≠ l) })
    let s := s.p .cor c Off.corVflags (lwHi x.fill) (lwLo x.fill) 0
    let s := (s.bump .cor c (0x200 + 40) 1).setLaunch l (some { x with started := c :: x.started })
    (List.range x.shoals).foldl (fun s k => s.launchShoal l x c k) s

/-- Every shoal of a launch on a core has ended and its matrix instructions have retired (R117). -/
def launchOver (s : State) (l c : Nat) : Bool :=
  let x := s.core c
  let no (o : Option Tile) : Bool := match o with
    | some t => t.launch ≠ l
    | none => true
  (s.shoalsOf c l).isEmpty && no x.mxRun && no x.mxWait && (match x.redOut with
    | some t => t.launch ≠ l
    | none => true)

/-- A launch ends normally on a core; its completion is ready once it has ended on all (R117, R124, R194). -/
def launchFinish (s : State) (l : Nat) (x : Launch) (c : Nat) : State :=
  let s := s.gather c x.fill x.step
  let y := s.core c
  let s := s.setCore c (if x.fill then { y with fill := none } else { y with pri := none })
  let x := { x with ended := c :: x.ended }
  if x.targets.all fun d => x.ended.contains d then
    (s.finishCmd x.ring x.uid 0 (BitVec.ofNat 64 (x.targets.length % 65536))).setLaunch l none
  else s.setLaunch l (some x)

/-! ### Barriers (R126 to R129, R246 to R248) -/

/-- Cores that take part in a barrier seen from a core. -/
def barCores (x : Launch) (c scope : Nat) : List Nat :=
  if scope = 1 then [c] else if scope = 2 then x.targets.filter (fun d => d / 576 = c / 576) else x.targets

/-- Device scope, ID 3: the stream-end barrier (R246). -/
def streamEnd (scope id : Nat) : Bool := scope = 3 && id = 3

/-- An operation that a launch pushed stands in a core's queues. -/
def opOn (s : State) (l c : Nat) (p : Op → Bool) : Bool :=
  (List.range 8).any fun k => (s.queue (8 * c + k)).any fun o => o.launch = some l && p o

/-- A core's shoals have all arrived, or ended (R126, R246). -/
def arrivedOn (s : State) (l : Nat) (x : Launch) (scope id c : Nat) : Bool :=
  x.started.contains c && (s.shoalsOf c l).all (fun e => e.2.wait = .bar scope id) &&
    !(streamEnd scope id && s.opOn l c fun _ => true)

/-- Shoals of a launch that wait at a barrier on a core. -/
def waitingAt (s : State) (l scope id c : Nat) : List (Nat × Shoal) := (s.shoalsOf c l).filter fun e => e.2.wait = .bar scope id

/-- Every participant of a barrier has arrived, and some shoal waits for its release. -/
def barComplete (s : State) (l : Nat) (x : Launch) (c scope id : Nat) : Bool :=
  let cs := barCores x c scope
  cs.all (s.arrivedOn l x scope id) && cs.any fun d => !(s.waitingAt l scope id d).isEmpty

/-- A barrier is a drain point for a core's waiting swap: a deferred test waits for a stream-end barrier (R111, R246, R396). -/
def drainsAt (s : State) (c scope id : Nat) : Bool :=
  match (s.core c).swap with
  | .waiting forTest _ => !(forTest && (s.pcore (s.physOf c)).deferred) || streamEnd scope id
  | .none | .drained _ _ | .copying _ _ => false

/-- A primary barrier is released only after the swaps for which it is a drain point (R111, R129). -/
def barHeld (s : State) (x : Launch) (c scope id : Nat) : Bool :=
  !x.fill && (barCores x c scope).any fun d => s.swapping d || s.drainsAt d scope id

/-- Write STH_PBREPORT of a basin whose operations ended with a poisoned tail (R248). -/
def pbReport (s : State) (x : Launch) (b : Nat) : State :=
  match x.poisoned.filter fun e => queueBasin e.1 = b with
  | [] => s
  | e :: t =>
    let w := 2 ^ 63 + (if x.fill then 2 ^ 62 else 0) + e.2.2 % 256 * 2 ^ 48 + min 65535 (t.length + 1) * 2 ^ 32 +
      (if isCoreQ e.1 then e.1 / 8 else 0xFFFF) * 2 ^ 16 + e.1 % 8
    let s := s.wr (pageBase .sth b + Off.sthPbreport) (BitVec.ofNat 64 w)
    (s.wr (pageBase .sth b + Off.sthPbcursor) (BitVec.ofNat 64 (e.2.1 % 2 ^ 48))).raise .sth b Ev.sthPartialBarrier

/-- Release a complete barrier. -/
def barRelease (s : State) (l : Nat) (x : Launch) (c scope id : Nat) : State :=
  let s := if streamEnd scope id then
      ((List.range 4).foldl (fun s b => s.pbReport x b) s).setLaunch l (some { x with poisoned := [] })
    else s
  (barCores x c scope).foldl (fun s d => (s.waitingAt l scope id d).foldl (fun s e => s.resumeShoal d e.1) s) s

/-- Release a barrier of a core's launch when it is complete and no swap holds it. -/
def barTry (s : State) (c : Nat) (fill : Bool) (scope id : Nat) : State :=
  match s.running c fill with
  | some l => match s.launch? l with
    | some x => if s.barComplete l x c scope id && !s.barHeld x c scope id then s.barRelease l x c scope id else s
    | none => s
  | none => s

/-- The barrier that shoals of a launch wait at on a core: the one of its lowest waiting slot. -/
def pendingBar (s : State) (l c : Nat) : Option (Nat × Nat) :=
  (s.shoalsOf c l).findSome? fun e => match e.2.wait with
    | .bar scope id => some (scope, id)
    | .run | .flag _ _ | .chain _ => none

/-- COR_BARSTAT of an expiry (R131). -/
def barStat (s : State) (l : Nat) (x : Launch) (c : Nat) (b : Option (Nat × Nat)) : State :=
  let (scope, id) := b.getD (0, 0)
  let live := s.shoalsOf c l
  let arrived := match b with
    | some _ => x.shoals - live.length + (s.waitingAt l scope id c).length
    | none => 0
  let w := scope % 4 * 2 ^ 62 + id % 8 * 2 ^ 56 + (if x.fill then 2 ^ 55 else 0) + arrived % 64 * 2 ^ 48 + x.shoals % 64 * 2 ^ 40 + 1
  s.wr (pageBase .cor c + Off.corBarstat) (BitVec.ofNat 64 w)

/-- COR_BARSTAT [63:56] as a detail. -/
def barByte (scope id : Nat) : Nat := scope % 4 * 64 + id % 8

/-! ### Swaps (R111, R112) -/

/-- A core has reached the drain point of its waiting swap (R111). -/
def atDrain (s : State) (c : Nat) : Bool :=
  match (s.core c).pri with
  | none => true
  | some l => match s.launch? l with
    | none => true
    | some x => match s.pendingBar l c with
      | some (scope, id) => s.drainsAt c scope id && s.barComplete l x c scope id
      | none => false

/-- The matrix engine and the stream queues of a core are idle (R111): operations that only wait stay. -/
def coreQuiet (s : State) (c : Nat) : Bool :=
  let x := s.core c
  x.mxRun.isNone && x.mxWait.isNone && x.redOut.isNone &&
    (List.range 8).all fun k => (s.queue (8 * c + k)).all fun o => o.xfers.isEmpty && !o.held

/-- The swap ends: the spare serves the logical core, and barriers that waited for it are released (R111). -/
def swapEnd (s : State) (c spare : Nat) (forTest : Bool) : State :=
  let s := (s.setCore c { s.core c with swap := .none }).setPhysOf c spare
  let s := (s.raise .cor c Ev.corSwapDone).bump .tlm 0 (0x200 + 8 * 12) 1
  let s := if forTest then s.bump .ras 0 (0x200 + 8 * 5) 1 else s
  match (s.core c).pri with
  | some l => match s.pendingBar l c with
    | some (scope, id) => s.barTry c false scope id
    | none => s
  | none => s

/-- Set the event flags of a mask. -/
def setFlags (s : State) (c : Nat) (v : Word) : State :=
  (List.range 64).foldl (fun s n => if bit v n then s.setFlag c n else s) s

/-- Clear the event flags of a mask. -/
def clearFlags (s : State) (c : Nat) (v : Word) : State :=
  (List.range 64).foldl (fun s n => if bit v n then s.clearFlag c n else s) s

/-- A write of COR_PART (R125): held until the core runs no launch, or refused. -/
def writePart (s : State) (c : Nat) (v : Word) : State :=
  if 16 < fld v 20 16 ∨ 10 < fld v 3 0 then s.raise .cor c Ev.corPartBad
  else s.setCore c { s.core c with part := some (BitVec.ofNat 64 (fld v 20 16 * 65536 + fld v 3 0)) }

/-- A write to a page: refused before READY (R40, R78). -/
def pageWrite (s : State) (b : Blk) (i off : Nat) (f : State → State) : State :=
  if pageCount b ≤ i then s
  else if !s.ready b i then s.refuse false true Ev.devEarlyAccess (pageBase b i + off)
  else f s

end State

/-- LAUNCH_START (R123). -/
def execLaunchStart (c : Nat) (fill : Bool) (s : State) : Host.Outcome State Fault Refusal :=
  .next (match s.nextLaunch c fill with
    | some l => match s.launch? l with
      | some x => s.launchBegin l x c
      | none => s
    | none => s)

/-- LAUNCH_END_ON_CORE (R117). -/
def execLaunchEndOnCore (c : Nat) (fill : Bool) (s : State) : Host.Outcome State Fault Refusal :=
  .next (match s.running c fill with
    | some l => match s.launch? l with
      | some x => if s.launchOver l c then s.launchFinish l x c else s
      | none => s
    | none => s)

/-- SWAP_REQUEST (R111, R112). -/
def execSwapRequest (c : Nat) (forTest : Bool) (s : State) : Host.Outcome State Fault Refusal :=
  .next (if s.coreUp c then s.requestSwap c forTest else s)

/-- SWAP_DRAIN_POINT (R111). -/
def execSwapDrainPoint (c : Nat) (s : State) : Host.Outcome State Fault Refusal :=
  .next (match (s.core c).swap with
    | .waiting t q => if s.atDrain c then s.setCore c { s.core c with swap := .drained t q } else s
    | .none | .drained _ _ | .copying _ _ => s)

/-- SWAP_COPY_START (R111). -/
def execSwapCopyStart (c : Nat) (s : State) : Host.Outcome State Fault Refusal :=
  .next (match (s.core c).swap with
    | .drained t q => if s.coreQuiet c then s.setCore c { s.core c with swap := .copying t q } else s
    | .none | .waiting _ _ | .copying _ _ => s)

/-- SWAP_COPY_DONE (R111). The core's state is kept by logical core, so the copy itself changes nothing. -/
def execSwapCopyDone (c : Nat) (s : State) : Host.Outcome State Fault Refusal :=
  .next (match (s.core c).swap with
    | .copying t q => s.swapEnd c q t
    | .none | .waiting _ _ | .drained _ _ => s)

/-- COR_PART_WRITE (R125). -/
def execCorPartWrite (c : Nat) (v : Word) (s : State) : Host.Outcome State Fault Refusal :=
  .next (s.pageWrite .cor c Off.corPart fun s => s.writePart c v)

/-- PART_APPLY (R125). -/
def execPartApply (c : Nat) (s : State) : Host.Outcome State Fault Refusal :=
  .next (match (s.core c).part with
    | some v =>
      if (s.core c).pri.isNone ∧ (s.core c).fill.isNone ∧ c < 2304 then
        ((s.setCore c { s.core c with part := none }).wr (pageBase .cor c + Off.corPart) v).raise .cor c Ev.corPartApplied
      else s
    | none => s)

/-- COR_FLAGS_SET (R130). -/
def execCorFlagsSet (c : Nat) (v : Word) (s : State) : Host.Outcome State Fault Refusal :=
  .next (s.pageWrite .cor c Off.corFlagsSet fun s => s.setFlags c v)

/-- COR_FLAGS_CLR (R130). -/
def execCorFlagsClr (c : Nat) (v : Word) (s : State) : Host.Outcome State Fault Refusal :=
  .next (s.pageWrite .cor c Off.corFlagsClr fun s => s.clearFlags c v)

/-- BARRIER_RELEASE (R127). -/
def execBarrierRelease (c : Nat) (fill : Bool) (scope id : Nat) (s : State) : Host.Outcome State Fault Refusal :=
  .next (s.barTry c fill scope id)

/-- BARRIER_TIMEOUT (R128, R247). The timer pauses for a fill launch while a primary launch runs, while an operation of the
launch is held, and through a swap; it does not apply to launches with work units. -/
def execBarrierTimeout (c : Nat) (fill : Bool) (scope id : Nat) (s : State) : Host.Outcome State Fault Refusal :=
  .next (match s.running c fill with
    | some l => match s.launch? l with
      | some x =>
        if x.budget = 0 ∧ !(s.waitingAt l scope id c).isEmpty ∧ !s.barComplete l x c scope id ∧ !(fill ∧ (s.core c).pri.isSome) ∧
            !s.opOn l c (·.held) ∧ !s.swapping c then
          ((s.barStat l x c (some (scope, id))).raise .cor c Ev.corBarrierTimeout).launchEnd l 6 c (State.barByte scope id)
        else s
      | none => s
    | none => s)

/-- EF_WAIT_RELEASE (R130). -/
def execEfWaitRelease (c flag : Nat) (s : State) : Host.Outcome State Fault Refusal :=
  .next (if c < 2304 ∧ flag < 64 then s.flagRelease c flag else s)

/-- WORK_UNIT_EXPIRY (R380). Cycles with a held operation, a stage wait or a swap are not counted, so none of these expires. -/
def execWorkUnitExpiry (c : Nat) (fill : Bool) (s : State) : Host.Outcome State Fault Refusal :=
  .next (match s.running c fill with
    | some l => match s.launch? l with
      | some x =>
        let stalled := s.opOn l c fun o => o.held || (match o.wait with
          | .stage _ => true
          | .none | .val | .room | .page | .pageCopy _ _ _ | .job | .ack => false)
        if x.budget ≠ 0 ∧ !stalled ∧ !s.swapping c then
          let b := s.pendingBar l c
          let s := s.barStat l x c b
          let s := (s.raise .tlm 0 Ev.tlmWuTimeout).bump .tlm 0 (0xC40 + 32) 1
          s.launchEnd l 6 c (match b with
            | some (scope, id) => State.barByte scope id
            | none => 0)
        else s
      | none => s
    | none => s)

end Sys2Proof.Machine
end

