-- ==== Sys2Proof/Machine/Kernels.lean ====
section
/-! DEFINITION. The kernel store and its loader (R181, R203 to R206): the checks of an image, words included, and the
placing of a kernel. -/

namespace Sys2Proof.Machine

/-! ### Instruction words (R179, R181) -/

/-- What a register field of an instruction names. -/
inductive Opd where
  | no | reg | pair | pred
  deriving DecidableEq, Repr

/-- The fields that an instruction uses: its registers and the MOD bits that may be 1. `imm` marks the I-form. -/
structure Enc where
  dst : Opd
  sa : Opd
  sb : Opd
  sc : Opd
  mod : Nat
  imm : Bool
  deriving DecidableEq, Repr

namespace Enc

/-- R-form with DST, SA, SB. -/
def r3 (m : Nat) : Enc := { dst := .reg, sa := .reg, sb := .reg, sc := .no, mod := m, imm := false }
/-- R-form with DST and SA. -/
def r2 : Enc := { r3 0 with sb := .no }
/-- R-form without registers. -/
def r0 (m : Nat) : Enc := { dst := .no, sa := .no, sb := .no, sc := .no, mod := m, imm := false }
/-- I-form with DST and SA. -/
def i2 : Enc := { r2 with imm := true }

/-- Control and integer instructions (classes 0x0 and 0x1). -/
def ofCtl (cls op : Nat) : Option Enc :=
  if cls = 0 then
    if op = 2 then some (r0 0x37)
    else if op ≤ 6 then some (r0 0)
    else if 0x81 ≤ op ∧ op ≤ 0x83 then some { r0 0 with imm := true }
    else none
  else if op = 3 ∨ op = 0xA ∨ op = 0xB then some (r3 1)
  else if op ≤ 0xC then some (r3 0)
  else if 0x80 ≤ op ∧ op ≤ 0x8B then some i2
  else if op = 0x8D then some { i2 with sa := .no }
  else none

/-- FP32, packed, transcendental and compare instructions (classes 0x2 to 0x5). -/
def ofFp (cls op : Nat) : Option Enc :=
  if cls = 2 then
    if op = 2 then some { r3 0x70 with sc := .reg }
    else if op ≤ 4 then some (r3 0x50)
    else if op = 0x80 ∨ op = 0x81 then some i2
    else none
  else if cls = 3 then (if op = 2 then some { r3 1 with sc := .reg } else if op ≤ 1 then some (r3 1) else none)
  else if cls = 4 then (if op ≤ 7 then some r2 else none)
  else
    if op = 0 then some { r3 0x0F with dst := .pred }
    else if op = 1 then some { r3 0x1F with dst := .pred }
    else if op ≤ 4 then some { r3 1 with dst := .pred, sa := .pred, sb := .pred }
    else if op = 5 then some { r2 with sa := .pred }
    else if op = 6 then some { r2 with dst := .pred }
    else none

/-- Memory, cross-lane, matrix, stream, chain, M40 and system instructions (classes 0x7 to 0xD). -/
def ofMem (cls op : Nat) : Option Enc :=
  match cls, op with
  | 7, 0 | 7, 1 | 7, 2 => some r2
  | 7, 3 => some { r2 with dst := .pair }
  | 7, 4 | 7, 5 | 7, 6 => some { r3 0 with dst := .no }
  | 7, 7 => some { r3 0 with dst := .no, sb := .pair }
  | 8, 0 => some (r3 0)
  | 8, 1 | 8, 2 | 8, 3 | 8, 4 | 8, 5 => some r2
  | 9, 0 => some { r3 0 with dst := .no }
  | 0xA, 0 => some { r0 7 with sa := .reg }
  | 0xA, 1 => some (r0 7)
  | 0xB, 0 => some { r0 0 with sa := .reg }
  | 0xC, 0 => some { r3 0 with dst := .pair }
  | 0xC, 1 => some { r3 0 with dst := .no, sc := .pair }
  | 0xC, 2 => some { dst := .pair, sa := .pair, sb := .reg, sc := .reg, mod := 0xF7, imm := false }
  | 0xD, 0 | 0xD, 1 => some { r0 0 with dst := .reg }
  | 0xD, 2 | 0xD, 3 => some (r0 0)
  | 0xD, 4 => some { r0 1 with sa := .reg }
  | _, _ => none

/-- CVT: an M40 side names a pair; SB is used under SR (R186). -/
def ofCvt (w : Nat) : Enc :=
  let side (c : Nat) : Opd := if c = 0x18 then .pair else .reg
  { dst := side (nfld w 7 0), sa := side (nfld w 15 8), sb := if nfld w 17 16 = 2 then .reg else .no, sc := .no, mod := 0xFF
    imm := false }

/-- The fields that a word's CLASS and OP use; none for a reserved operation. -/
def ofWord (w : Nat) : Option Enc :=
  let cls := nfld w 63 60
  let op := nfld w 59 52
  if cls ≤ 1 then ofCtl cls op
  else if cls ≤ 5 then ofFp cls op
  else if cls = 6 then (if op = 0 then some (ofCvt w) else none)
  else ofMem cls op

end Enc

/-- A scalar format code of R132, or M40 (R186). -/
def cvtFmt (c : Nat) : Bool := c ≤ 5 || c = 0x18

/-- A register field holds a register that its instruction may name: pairs even, 2.x kernels below g32 and p4. -/
def opdOk (old : Bool) (o : Opd) (v : Nat) : Bool :=
  match o with
  | .no => true
  | .reg => !old || decide (v < 32)
  | .pair => v % 2 = 0 && (!old || decide (v < 32))
  | .pred => !old || decide (v % 8 < 4)

/-- Rules of single instructions (R181): conditions, modes, formats, barrier fields, selectors. -/
def wordRule (w : Nat) : Bool :=
  let imm := nfld w 15 0
  match nfld w 63 60, nfld w 59 52 with
  | 0, 2 => nfld w 51 48 = 0 && nfld w 21 20 ≠ 0 && decide (nfld w 18 16 ≤ if nfld w 21 20 = 1 then 7 else 3)
  | 5, 0 => nfld w 19 16 ≤ 6
  | 5, 1 => nfld w 19 16 ≤ 5
  | 6, 0 => nfld w 17 16 ≠ 3 && nfld w 19 18 ≠ 3 && cvtFmt (imm / 256) && cvtFmt (imm % 256)
  | 0xC, 2 => nfld w 17 16 ≠ 3
  | 0xD, 0 => imm ≤ 7
  | _, _ => true

/-- What a 2.x kernel of a version code may not hold (R205). -/
def oldRule (isa w : Nat) : Bool :=
  let imm := nfld w 15 0
  nfld w 50 48 < 4 &&
  match nfld w 63 60, nfld w 59 52 with
  | 1, 0xC => imm % 8 < 4
  | 3, _ => w.testBit 16 || decide (0x21 ≤ isa)
  | 6, _ => nfld w 17 16 ≠ 2 || decide (0x23 ≤ isa)
  | 0xB, _ => 0x22 ≤ isa
  | 0xC, _ => false
  | 0xD, 0 => imm ≤ 4
  | 0xD, 4 => false
  | _, _ => true

/-- A word passes R181 and the version rules of R205 under a version code. Register fields that an instruction does not
use are not looked at (DESIGN CHOICE; Assumption 30). -/
def wordOk (isa w : Nat) : Bool :=
  let old := isa < 0x30
  match Enc.ofWord w with
  | none => false
  | some e =>
    let sgn := [0x83, 0x8A, 0x8B].contains (nfld w 59 52) && nfld w 63 60 = 1
    (if e.imm then nfld w 35 33 = 0 && (sgn || !w.testBit 32) else nfld w 23 16 ||| e.mod = e.mod) &&
      opdOk old e.dst (nfld w 47 42) && (e.dst ≠ .pred || nfld w 47 45 = 0) && opdOk old e.sa (nfld w 41 36) &&
      opdOk old e.sb (nfld w 35 30) && opdOk old e.sc (nfld w 29 24) && wordRule w && (!old || oldRule isa w)

/-- A word is in the subset of inlet and shore units (R206). -/
def unitWord (w : Nat) : Bool :=
  let cls := nfld w 63 60
  let op := nfld w 59 52
  (1 ≤ cls && cls ≤ 8) || cls = 0xC || cls = 0xD || (cls = 0 && (op ≤ 1 || 0x81 ≤ op))

/-! ### Images (R203, R204) -/

/-- The code words of an image. -/
def codeWords : Nat → Bytes → List Word
  | 0, _ => []
  | n + 1, bs => BitVec.ofNat 64 (bat bs 0 8) :: codeWords n (bs.drop 8)

/-- How a load ends: STATUS and RESULT of R204's table. -/
structure LoadFail where
  status : Nat
  result : Nat
  deriving DecidableEq, Repr

/-- A failure with BAD_OPERAND. -/
def loadBad (reason value : Nat) : LoadFail := { status := 2, result := reason * 2 ^ 48 + value % 2 ^ 32 }

/-- Checks 5 to 8 of an image whose version is chosen (R204): the kernel, its generation still 0. -/
def imageKernel (isa : Nat) (img : Bytes) : Except LoadFail Kernel :=
  let code := img.drop 64
  let ws := codeWords (bat img 8 4) code
  let target := bat img 5 1
  let need := bat img 12 4
  let entry := bat img 16 4
  if crc32 code ≠ bat img 24 4 then .error (loadBad 3 (crc32 code))
  else match ws.findIdx? fun w => !wordOk isa w.toNat with
    | some n => .error (loadBad 5 n)
    | none => match ws.findIdx? fun w => (target.testBit 1 || target.testBit 2) && !unitWord w.toNat with
      | some n => .error (loadBad 6 n)
      | none =>
        if 655360 < need then .error (loadBad 8 need)
        else if ws.length ≤ entry then .error (loadBad 8 entry)
        else .ok { isa := BitVec.ofNat 8 isa, gen := 0, target := BitVec.ofNat 8 target, code := ws, need := need, entry := entry }

namespace State

/-- Bytes of code that the store holds. -/
def codeHeld (s : State) : Nat := (s.kernels.map fun e => match e.2 with
  | some k => 8 * k.code.length
  | none => 0).sum

/-- Kernels that the store holds. -/
def kernelsHeld (s : State) : Nat := (s.kernels.filter fun e => e.2.isSome).length

/-- Some launch or update uses a handle (R204). -/
def handleUsed (s : State) (h : Word) : Bool :=
  (s.launches.any fun e => match e.2 with
    | some l => l.handle = h
    | none => false) ||
  (List.range 24).any fun u => match (s.unit u).run with
    | some x => match s.tensor x.slot with
      | some t => BitVec.ofNat 64 (bat t.d 48 8) = h
      | none => false
    | none => false

/-- Place a kernel in a slot with a generation above every one that the slot had (R204). -/
def placeKernel (s : State) (slot : Nat) (k : Kernel) : Word × State :=
  let g := (tget s.gens 0 slot + 1) % 2 ^ 24
  let k := { k with gen := BitVec.ofNat 24 g }
  (k.handle slot, { s with kernels := tset s.kernels none slot (some k), gens := tset s.gens 0 slot g })

/-- Check 10 and the placing of a new kernel (R204). -/
def placeNew (s : State) (k : Kernel) : LoadFail ⊕ (Word × State) :=
  match (List.range 256).find? fun n => (s.kernelAt n).isNone with
  | some n => if s.codeHeld + 8 * k.code.length ≤ 16777216 then .inr (s.placeKernel n k) else .inl (loadBad 4 s.kernelsHeld)
  | none => .inl (loadBad 4 s.kernelsHeld)

/-- Checks 9 and 10 of a replacement, and its placing (R204). -/
def placeOver (s : State) (h : Word) (k : Kernel) : LoadFail ⊕ (Word × State) :=
  match s.kernelOf h with
  | none => .inl (loadBad 7 h.toNat)
  | some old =>
    if s.codeHeld - 8 * old.code.length + 8 * k.code.length ≤ 16777216 then .inr (s.placeKernel (h.toNat % 65536) k)
    else .inl (loadBad 4 s.kernelsHeld)

/-- A load ends. -/
def loadEnd (s : State) (r uid : Nat) (x : LoadFail ⊕ (Word × State)) : State :=
  match x with
  | .inl f => s.finishCmd r uid f.status (BitVec.ofNat 64 f.result)
  | .inr (h, s') => s'.finishCmd r uid 0 h

/-- A load whose image passed checks 1 to 8 goes on (R204): a replacement waits for the users of its handle, and for
earlier loads that name it. -/
def loadPlace (s : State) (r uid : Nat) (h : Word) (k : Kernel) : State :=
  let pend : State := { s with loads := s.loads ++ [{ ring := r, uid := uid, slot := h.toNat % 65536, handle := h, kernel := k }] }
  if h = 0 then s.loadEnd r uid (s.placeNew k)
  else if s.loads.any (·.handle = h) then pend
  else match s.placeOver h k with
    | .inl f => s.loadEnd r uid (.inl f)
    | .inr x => if s.handleUsed h then pend else s.loadEnd r uid (.inr x)

end State

/-- KERNEL_REPLACE_APPLY (R204): the oldest load that waits for a slot's users. -/
def execKernelReplaceApply (slot : Nat) (s : State) : Host.Outcome State Fault Refusal :=
  .next (match s.loads.find? (·.slot = slot) with
    | some x =>
      if s.handleUsed x.handle then s
      else
        let s := { s with loads := s.loads.filter (· ≠ x) }
        s.loadEnd x.ring x.uid (s.placeOver x.handle x.kernel)
    | none => s)

end Sys2Proof.Machine
end

