-- ==== Sys2Proof/Machine/Shallows.lean ====
section
/-! DEFINITION. The shallows engine: SHL_RUN, its jobs and their ends (R287 to R294, R297, R298). -/

namespace Sys2Proof.Machine

/-- Go on with what was gathered. -/
def Got.bind {α β : Type} : Got α → (α → State → Got β) → Got β
  | .ok v s, f => f v s
  | .wait, _ => .wait
  | .poison s a, _ => .poison s a
  | .crc s, _ => .crc s
  | .hostDown, _ => .hostDown

/-- A value that may not be readable yet. -/
def Got.ofOption {α : Type} (s : State) : Option α → Got α
  | some v => .ok v s
  | none => .wait

/-! ### The job descriptor (R288) -/

/-- A job descriptor. -/
structure ShlDesc where
  va : Nat
  d : Bytes
  g : Geom
  deriving DecidableEq, Repr

namespace ShlDesc

/-- OP. -/
def op (j : ShlDesc) : Nat := bat j.d 0 1
/-- Rounding mode. -/
def rm (j : ShlDesc) : Nat := nfld (bat j.d 3 1) 1 0
/-- Overflow mode. -/
def om (j : ShlDesc) : Nat := nfld (bat j.d 3 1) 3 2
/-- FORCE_FP32. -/
def force (j : ShlDesc) : Bool := (bat j.d 3 1).testBit 4
/-- POOL_DIV. -/
def poolDiv (j : ShlDesc) : Bool := (bat j.d 3 1).testBit 5
/-- W_FMT. -/
def wFmt (j : ShlDesc) : Nat := bat j.d 4 1
/-- Y_FMT. -/
def yFmt (j : ShlDesc) : Nat := bat j.d 5 1
/-- Y_LAYOUT. -/
def yLayout (j : ShlDesc) : Nat := bat j.d 6 1
/-- Y_CODEC. -/
def yCodec (j : ShlDesc) : Nat := bat j.d 7 1
/-- X_VA. -/
def xVa (j : ShlDesc) : Nat := bat j.d 8 8
/-- W_VA. -/
def wVa (j : ShlDesc) : Nat := bat j.d 16 8
/-- Y_VA. -/
def yVa (j : ShlDesc) : Nat := bat j.d 24 8
/-- AUX_VA. -/
def auxVa (j : ShlDesc) : Nat := bat j.d 32 8
/-- COUT. -/
def cout (j : ShlDesc) : Nat := bat j.d 104 2
/-- Y_SLOT. -/
def ySlot (j : ShlDesc) : Nat := bat j.d 106 2
/-- X_SLOT. -/
def xSlot (j : ShlDesc) : Nat := bat j.d 108 2
/-- W_SLOT. -/
def wSlot (j : ShlDesc) : Nat := bat j.d 110 2
/-- Y_TENSOR. -/
def yTensor (j : ShlDesc) : Nat := bat j.d 112 4
/-- The group size. -/
def groupSize (j : ShlDesc) : Nat := 4 * 2 ^ bat j.d 1 1
/-- COUT padded to 32. -/
def coutp (j : ShlDesc) : Nat := roundUp j.cout 32

/-- The descriptor in 128 bytes at a VA; K_START, ROW0 and EXTENT are ignored. -/
def ofBytes (va : Nat) (d : Bytes) : ShlDesc :=
  { va := va, d := d, g := { Geom.ofBytes (bsub d 40 64) with k0 := 0, row0 := 0, extent := 0 } }

/-- A convolution operation. -/
def isConv (j : ShlDesc) : Bool := 1 ≤ j.op && j.op ≤ 3

/-- The map that X_VA names: extents. -/
def xExt (j : ShlDesc) : Nat × Nat × Nat :=
  if j.op = 2 ∨ j.op = 0x12 ∨ j.op = 0x13 then j.g.out else if j.op = 0x20 then j.g.padded else j.g.inp

/-- Output map: extents and channels. dW is taken as one image of taps·Cp channels over rounded COUT positions. -/
def yMap (j : ShlDesc) : Nat × (Nat × Nat × Nat) × Nat :=
  match j.op with
  | 1 => (j.g.n, j.g.out, j.cout)
  | 2 => (j.g.n, j.g.inp, j.cout)
  | 3 => (1, (1, 1, roundUp j.cout 64), j.g.taps * j.g.cp)
  | 0x10 | 0x11 => (j.g.n, j.g.out, j.g.c)
  | _ => (j.g.n, j.g.inp, j.g.c)

/-- Layout of the output: dW is row after row (R278). -/
def yLay (j : ShlDesc) : Nat := if j.op = 3 then 0 else j.yLayout

/-- Storage elements of the output. -/
def yLen (j : ShlDesc) : Nat := mapElems j.yLay j.yMap.2.1 j.yMap.2.2 j.yMap.1

/-- Bytes of the output as stored. -/
def yBytes (j : ShlDesc) : Nat :=
  match (fmCodec j.yCodec).bind fun x => fixedParams x.1 j.yFmt with
  | some (gb, _) => (j.yLen + 191) / 192 * gb
  | none => j.yLen * (fmtBits j.yFmt / 8)

/-- Bytes of the argmax plane that the job writes. -/
def argBytes (j : ShlDesc) : Nat := if j.op = 0x10 ∧ j.auxVa ≠ 0 then 2 * (j.g.n * vol j.g.out * j.g.c) else 0

/-- The LAST_ERR code of the first check that fails (R288, R289, R285, R297); 0 when the job may run. -/
def err (j : ShlDesc) : Nat :=
  if !([1, 2, 3, 0x10, 0x11, 0x12, 0x13, 0x20].contains j.op) then 1
  else if j.isConv && decide (8 < j.g.c ∧ 8 < j.cout) then 2
  else if j.isConv && decide (65536 < j.g.taps * j.g.cp) then 3
  else if !j.g.rangesOk || (j.isConv && j.cout = 0) ||
      decide (2 ^ 57 < j.xVa + mapElems j.g.layout j.xExt j.g.c j.g.n * (fmtBits j.g.fmt / 8)) then 4
  else if !j.g.formatOk || decide (5 < j.yFmt) || decide (2 < j.yLayout) || (j.isConv && decide (5 < j.wFmt)) ||
      !(j.yCodec = 0 || match fmCodec j.yCodec with
        | some (_, f) => f = j.yFmt
        | none => false) then 5
  else if j.va % 32 ≠ 0 then 6
  else if !geomReservedOk (bsub j.d 40 64) || bat j.d 116 12 ≠ 0 || 2 < bat j.d 1 1 || 15 < bat j.d 2 1 || j.rm = 3 ||
      j.om = 3 || 64 ≤ bat j.d 3 1 then 7
  else 0

end ShlDesc

/-- A job's results: output patterns by map element, argmax patterns, flags, products or taps, replays. -/
structure ShlOut where
  y : Array Nat
  arg : List Nat
  fl : Nat
  macs : Nat
  pool : Nat
  replays : Nat

/-- Zero. -/
def num0 : Num := .fin false 0 0

namespace State

/-! ### Shared parts -/

/-- A draw of R142 for an element of a job's output. -/
def jobRnd (s : State) (j : ShlDesc) (step : Word) (i : Nat) : Nat :=
  rand16 (s.rd (pageBase .dev 0 + Off.devSrseed)) step j.yTensor i

/-- Convert values to Y_FMT through Y_SLOT: values with their SR index. -/
def jobConv (s : State) (b : Nat) (j : ShlDesc) (step : Word) (vs : List (Nat × Num)) : Got (List FRes) :=
  let ix := (vs.map (·.1)).toArray
  match s.convSlot b j.ySlot j.yFmt j.rm j.om (fun k => s.jobRnd j step (ix.getD k 0)) (vs.map (·.2)) with
  | some (rs, s') => .ok rs s'
  | none => .wait

/-- Union of the flags of conversions. -/
def flagsOf (rs : List FRes) : Nat := rs.foldl (fun a r => a ||| r.fl) 0

/-- The output array of a job, from (map element, pattern) pairs; other places hold 0. -/
def jobArr (j : ShlDesc) (ps : List (Nat × Nat)) : Array Nat :=
  ps.foldl (fun a p => a.setIfInBounds p.1 p.2) (Array.replicate j.yLen 0)

/-- Run the tiles of an M × N product in row-major tile order. -/
def runTiles (j : ShlDesc) (m n : Nat) (mk : Nat → Nat → TileIn) : List TileElem × Nat × Nat :=
  ((List.range ((m + 63) / 64)).map fun rt => (List.range ((n + 63) / 64)).map fun ct => (rt, ct)).flatten.foldl
    (fun acc rc =>
      let r := (mk rc.1 rc.2).run j.force 4 (bat j.d 2 1)
      let es := (r.1.map fun e => ⟨64 * rc.1 + e.i, 64 * rc.2 + e.j, e.v⟩ : List TileElem).filter fun e =>
        decide (e.i < m ∧ e.j < n)
      (acc.1 ++ es, acc.2.1 ||| r.2.1, acc.2.2 + r.2.2)) ([], 0, 0)

/-- A tile over operand functions of the whole product. -/
def tileAt (j : ShlDesc) (k m n : Nat) (a b : Nat → Nat → Num) (c : Option (Nat → Nat → Num)) (rt ct : Nat) : TileIn :=
  let ar (i k : Nat) : Num := if 64 * rt + i < m then a (64 * rt + i) k else num0
  let br (i k : Nat) : Num := if 64 * ct + i < n then b (64 * ct + i) k else num0
  { k := k, g := j.groupSize, a := ar, b := br, ba := scanBound 64 k ar, bb := scanBound 64 k br
    c := c.map fun f i l => if 64 * rt + i < m ∧ 64 * ct + l < n then f (64 * rt + i) (64 * ct + l) else num0
    rows := (List.range 64).filter fun i => 64 * rt + i < m }

/-- Weight elements by (co, t, ci) of rows × cols real channels, as values (R278). -/
def jobWeights (s : State) (b : Nat) (j : ShlDesc) (co ci cip : Nat) : Got (Nat → Nat → Nat → Num) :=
  let is := ((List.range co).map fun r => ((List.range j.g.taps).map fun t => (List.range ci).map fun c =>
    r * j.g.taps * cip + t * cip + c).flatten).flatten
  (gotPlain b j.wVa (fmtBits j.wFmt / 8) is s).bind fun ps s =>
    let a := ps.toArray
    .ok (fun r t c => if r < co ∧ c < ci then decElem j.wFmt (a.getD ((r * j.g.taps + t) * ci + c) 0) else num0) s

/-- Operand rows gathered by patch or transposed-patch sources, as values. -/
def jobRows (s : State) (b base : Nat) (g : Geom) (rows k : Nat) (src : Nat → Nat → Src) : Got (Nat → Nat → Num) :=
  let xs := ((List.range rows).map fun r => (List.range k).map fun c => src r c).flatten
  (s.gotSrcs b b base g xs).bind fun ps s =>
    let a := ps.toArray
    .ok (fun r c => decElem g.fmt (a.getD (r * k + c) 0)) s

/-- Exponents of the operand scales, removed at output (R168). -/
def jobScale (s : State) (b : Nat) (slot fmt : Nat) : Got Int :=
  Got.ofOption s ((s.readScale b slot fmt).map scaleLg)

/-- Output elements of a product over flat positions and channels, converted and placed. -/
def placeOut (s : State) (b : Nat) (j : ShlDesc) (step : Word) (es : List (Nat × Nat × Num)) (rowLen : Nat) :
    Got (List (Nat × Nat) × Nat) :=
  let m := j.yMap
  (s.jobConv b j step (es.map fun e => (e.1 * rowLen + e.2.1, e.2.2))).bind fun rs s =>
    let at_ (e : Nat × Nat × Num) : Nat := let u := unflat m.2.1 e.1; elemIdx j.yLay m.2.1 m.2.2 u.1 u.2 e.2.1
    .ok ((es.map at_).zip (rs.map (·.bits)), flagsOf rs) s

/-! ### Convolutions (R290) -/

/-- CONV_FWD. -/
def runFwd (s : State) (b : Nat) (j : ShlDesc) (step : Word) : Got ShlOut :=
  let g := j.g
  let k := g.taps * g.cp
  let m := g.n * vol g.out
  (s.jobRows b j.xVa g m k g.patchSrc).bind fun a s =>
  (s.jobWeights b j j.cout g.c g.cp).bind fun w s =>
  (s.jobScale b j.xSlot g.fmt).bind fun sx s =>
  (s.jobScale b j.wSlot j.wFmt).bind fun sw s =>
    let r := runTiles j m j.cout (tileAt j k m j.cout a (fun co k => w co (k / g.cp) (k % g.cp)) none)
    (s.placeOut b j step (r.1.map fun e => (e.i, e.j, e.v.scale2 (-sx - sw))) j.coutp).bind fun o s =>
      .ok ⟨jobArr j o.1, [], r.2.1 ||| o.2, m * j.cout * g.taps * g.c, 0, r.2.2⟩ s

/-- The padding fold of R292 over FP32 values of the padded extent: real position's values by channel. -/
def foldPad (g : Geom) (cc : Nat) (f : Nat → Nat → Num) (n : Nat) (p : Nat × Nat × Nat) (c : Nat) : Num :=
  let e := g.padded
  let coord (q : Nat) : Int × Int × Int :=
    let x := (unflat e q).2
    ((x.1 : Int) - g.before.1, (x.2.1 : Int) - g.before.2.1, (x.2.2 : Int) - g.before.2.2)
  let qs := (List.range (vol e)).map (n * vol e + ·)
  let inside (q : Nat) : Bool := let x := coord q
    decide (0 ≤ x.1 ∧ x.1 < g.inp.1 ∧ 0 ≤ x.2.1 ∧ x.2.1 < g.inp.2.1 ∧ 0 ≤ x.2.2 ∧ x.2.2 < g.inp.2.2)
  let start := match qs.find? fun q => inside q && decide (resolve 0 g.inp (coord q) = .elem p) with
    | some q => f q c
    | none => num0
  if cc ≤ c then num0
  else (qs.filter fun q => !inside q && decide (resolve g.pad g.inp (coord q) = .elem p)).foldl
    (fun a q => f32 (toF32 (a.add (f q c))).bits) start

/-- CONV_BWD_DATA. -/
def runBwdData (s : State) (b : Nat) (j : ShlDesc) (step : Word) : Got ShlOut :=
  let fold := 2 ≤ j.g.pad
  let g := { j.g with extent := if fold then 1 else 0 }
  let k := g.cp * g.taps
  let e := if fold then g.padded else g.inp
  let m := g.n * vol e
  (s.jobRows b j.xVa g m k g.tpatchSrc).bind fun a s =>
  (s.jobWeights b j g.c j.cout j.coutp).bind fun w s =>
  (s.jobScale b j.xSlot g.fmt).bind fun sx s =>
  (s.jobScale b j.wSlot j.wFmt).bind fun sw s =>
    let r := runTiles j m j.cout (tileAt j k m j.cout a (fun ci k => w (k / g.taps) (k % g.taps) ci) none)
    let macs := m * j.cout * g.taps * g.c
    let es := r.1.map fun e => (e.i, e.j, e.v.scale2 (-sx - sw))
    if fold then
      let cv := es.map fun x => convert 0 j.rm j.om (s.jobRnd j step (x.1 * j.coutp + x.2.1)) x.2.2
      let arr := (es.zip cv).foldl (fun t x => t.setIfInBounds (x.1.1 * j.cout + x.1.2.1) (f32 x.2.bits))
        (Array.replicate (m * j.cout) num0)
      let f (q c : Nat) : Num := arr.getD (q * j.cout + c) num0
      let ys := ((List.range (g.n * vol g.inp)).map fun q => (List.range j.cout).map fun c =>
        let u := unflat g.inp q
        (q, c, foldPad g j.cout f u.1 u.2 c)).flatten
      (s.placeOut b j step ys j.coutp).bind fun o s =>
        .ok ⟨jobArr j o.1, [], r.2.1 ||| o.2 ||| flagsOf cv, macs, 0, r.2.2⟩ s
    else
      (s.placeOut b j step es j.coutp).bind fun o s => .ok ⟨jobArr j o.1, [], r.2.1 ||| o.2, macs, 0, r.2.2⟩ s

/-- Slices of the weight gradient: each after the first adds to the FP32 result before it (R290). -/
def wgradSlices (s : State) (j : ShlDesc) (step : Word) (n : Nat) (a b : Nat → Nat → Num) (sc : Int) (rowLen p : Nat) :
    Nat → Nat → Option (Array Num) → List TileElem × Nat × Nat
  | 0, _, _ => ([], 0, 0)
  | f + 1, p0, c =>
    let k := min 65536 (roundUp (p - p0) 16)
    let ta (i k : Nat) : Num := if p0 + k < p then a (p0 + k) i else num0
    let tb (i k : Nat) : Num := if p0 + k < p then b (p0 + k) i else num0
    let cf := c.map fun arr i l => arr.getD (i * n + l) num0
    let r := runTiles j j.cout n (tileAt j k j.cout n ta tb cf)
    let es := r.1.map fun e => { e with v := e.v.scale2 sc }
    if p ≤ p0 + k then (es, r.2.1, r.2.2)
    else
      let cv := es.map fun e => convert 0 j.rm j.om (s.jobRnd j step (e.i * rowLen + e.j)) e.v
      let arr := (es.zip cv).foldl (fun t x => t.setIfInBounds (x.1.i * n + x.1.j) (f32 x.2.bits)) (Array.replicate (j.cout * n) num0)
      let r' := wgradSlices s j step n a b sc rowLen p f (p0 + k) (some arr)
      (r'.1, r.2.1 ||| flagsOf cv ||| r'.2.1, r.2.2 + r'.2.2)

/-- CONV_BWD_WEIGHT. -/
def runBwdWeight (s : State) (b : Nat) (j : ShlDesc) (step : Word) : Got ShlOut :=
  let g := j.g
  let n := g.taps * g.cp
  let p := g.n * vol g.out
  (s.jobRows b j.xVa g p n g.patchSrc).bind fun x s =>
  (s.jobRows b j.auxVa g p j.cout (fun q c =>
    let u := unflat g.out q
    .elem (elemIdx g.layout g.out j.cout u.1 u.2 c))).bind fun dy s =>
  (s.jobScale b j.xSlot g.fmt).bind fun sx s =>
  (s.jobScale b j.wSlot g.fmt).bind fun sw s =>
    let r := wgradSlices s j step n dy x (-sx - sw) n p (p / 65536 + 1) 0 none
    let real (e : TileElem) : Bool := e.j % g.cp < g.c
    (s.placeOut b j step ((r.1.filter real).map fun e => (e.i, e.j, e.v)) n).bind fun o s =>
      .ok ⟨jobArr j o.1, [], r.2.1 ||| o.2, p * j.cout * g.taps * g.c, 0, r.2.2⟩ s

/-! ### Pooling (R291) and PAD_FOLD (R292) -/

/-- Stored values of a map read back through a slot. -/
def jobMap (s : State) (b base : Nat) (g : Geom) (e : Nat × Nat × Nat) : Got (Nat → Nat → Nat) :=
  let xs := ((List.range (g.n * vol e)).map fun q => (List.range g.c).map fun c =>
    let u := unflat e q
    elemIdx g.layout e g.c u.1 u.2 c).flatten
  (s.gotElems b b base g.codec g.fmt xs).bind fun ps s =>
    let a := ps.toArray
    .ok (fun q c => a.getD (q * g.c + c) 0) s

/-- Values of the taps of an output, by ascending t: the value, and whether the position lies inside on every axis. -/
def tapVals (g : Geom) (f : Nat → Nat → Num) (pad : Num) (q c : Nat) : List (Nat × Num × Bool) :=
  let (n, o) := unflat g.out q
  (List.range g.taps).map fun t =>
    let r := g.reach o t
    let ins := decide (resolve 0 g.inp r ≠ .zero)
    match resolve g.pad g.inp r with
    | .elem p => (t, f (flatPos g.inp n p) c, ins)
    | .zero => (t, num0, ins)
    | .pad => (t, pad, ins)

/-- The largest value with the ordering and NaN rules of FMAX, and the lowest tap that attains it. -/
def poolMaxOf (ts : List (Nat × Num × Bool)) : Nat × Num :=
  match ts with
  | [] => (0, num0)
  | h :: t => t.foldl (fun a x =>
      let r := numMinMax true a.2 x.2.1
      let up := !a.2.isNan && (x.2.1.isNan || match a.2.cmp x.2.1 with
        | .lt => true
        | .eq => a.2.sign && !x.2.1.sign
        | .gt => false)
      (if up then x.1 else a.1, r)) (h.1, h.2.1)

/-- A sum in FP32, each addition rounded to nearest even. -/
def sum32 (vs : List Num) : Num :=
  match vs with
  | [] => num0
  | h :: t => t.foldl (fun a v => f32 (toF32 (a.add (f32 (toF32 v).bits))).bits) (f32 (toF32 h).bits)

/-- A value divided by a count, correctly rounded to FP32. -/
def div32 (v : Num) (n : Nat) : Num :=
  if n = 0 then f32 (Config.poolDivZero (f32Of v)).toNat
  else match v with
    | .fin s m e => f32 (toF32 (if m = 0 then .fin s 0 0 else ratNum s m n e)).bits
    | v => v

/-- POOL_AVG's divisor. -/
def divisor (j : ShlDesc) (ts : List (Nat × Num × Bool)) : Nat :=
  if j.poolDiv then (ts.filter (·.2.2)).length else ts.length

/-- Output places of a map: flat position and channel in flat order. -/
def places (g : Geom) (e : Nat × Nat × Nat) : List (Nat × Nat) :=
  ((List.range (g.n * vol e)).map fun q => (List.range g.c).map fun c => (q, c)).flatten

/-- POOL_MAX and POOL_AVG. -/
def runPool (s : State) (b : Nat) (j : ShlDesc) (step : Word) (mx : Bool) : Got ShlOut :=
  let g := j.g
  (s.jobMap b j.xVa g g.inp).bind fun x s =>
  (s.jobScale b j.xSlot g.fmt).bind fun sx s =>
    let pad := (decElem g.fmt (g.padVal % 2 ^ fmtBits g.fmt)).scale2 (-sx)
    let rs := (places g g.out).map fun p =>
      let ts := tapVals g (fun q c => (decElem g.fmt (x q c)).scale2 (-sx)) pad p.1 p.2
      if mx then let r := poolMaxOf ts; (p.1, p.2, r.2, r.1)
      else (p.1, p.2, div32 (sum32 (ts.map (·.2.1))) (divisor j ts), 0)
    (s.placeOut b j step (rs.map fun r => (r.1, r.2.1, r.2.2.1)) g.c).bind fun o s =>
      .ok ⟨jobArr j o.1, if mx && j.auxVa ≠ 0 then rs.map (·.2.2.2) else [], o.2, 0, rs.length * g.taps, 0⟩ s

/-- The input position that a tap of an output adds into: itself inside, where R280 read under modes 2 and 3. -/
def backTo (g : Geom) (q t : Nat) : Option Nat :=
  let (n, o) := unflat g.out q
  match resolve g.pad g.inp (g.reach o t) with
  | .elem p => some (flatPos g.inp n p)
  | _ => none

/-- Add contributions into each input place in order, in FP32 from +0, and convert. -/
def runBack (s : State) (b : Nat) (j : ShlDesc) (step : Word) (cs : List (Nat × Nat × Num)) (pool : Nat) : Got ShlOut :=
  let g := j.g
  let n := g.n * vol g.inp * g.c
  let arr := cs.foldl (fun (t : Array Num) x =>
    let k := x.1 * g.c + x.2.1
    t.setIfInBounds k (f32 (toF32 ((t.getD k num0).add x.2.2)).bits)) (Array.replicate n num0)
  (s.placeOut b j step ((places g g.inp).map fun p => (p.1, p.2, arr.getD (p.1 * g.c + p.2) num0)) g.c).bind fun o s =>
    .ok ⟨jobArr j o.1, [], o.2, 0, pool, 0⟩ s

/-- The argmax plane: 16 bits for each output element in flat order. -/
def jobArgs (s : State) (b : Nat) (j : ShlDesc) : Got (Nat → Nat → Nat) :=
  (gotPlain b j.auxVa 2 (List.range (j.g.n * vol j.g.out * j.g.c)) s).bind fun ps s =>
    let a := ps.toArray
    .ok (fun q c => a.getD (q * j.g.c + c) 0) s

/-- POOL_MAX_BWD. -/
def runMaxBwd (s : State) (b : Nat) (j : ShlDesc) (step : Word) : Got ShlOut :=
  let g := j.g
  (s.jobMap b j.xVa g g.out).bind fun dy s =>
  (s.jobScale b j.xSlot g.fmt).bind fun sx s =>
  (s.jobArgs b j).bind fun am s =>
    let cs := (places g g.out).filterMap fun p => (backTo g p.1 (am p.1 p.2)).map fun q =>
      (q, p.2, f32 (toF32 ((decElem g.fmt (dy p.1 p.2)).scale2 (-sx))).bits)
    s.runBack b j step cs (g.n * vol g.out * g.c * g.taps)

/-- POOL_AVG_BWD. -/
def runAvgBwd (s : State) (b : Nat) (j : ShlDesc) (step : Word) : Got ShlOut :=
  let g := j.g
  (s.jobMap b j.xVa g g.out).bind fun dy s =>
  (s.jobScale b j.xSlot g.fmt).bind fun sx s =>
    let cs := ((places g g.out).map fun p =>
      let d := divisor j (tapVals g (fun _ _ => num0) num0 p.1 p.2)
      let v := div32 (f32 (toF32 ((decElem g.fmt (dy p.1 p.2)).scale2 (-sx))).bits) d
      (List.range g.taps).filterMap fun t => (backTo g p.1 t).map fun q => (q, p.2, v)).flatten
    s.runBack b j step cs (g.n * vol g.out * g.c * g.taps)

/-- PAD_FOLD. -/
def runPadFold (s : State) (b : Nat) (j : ShlDesc) (step : Word) : Got ShlOut :=
  let g := j.g
  (s.jobMap b j.xVa g g.padded).bind fun x s =>
  (s.jobScale b j.xSlot g.fmt).bind fun sx s =>
    let f (q c : Nat) : Num := f32 (toF32 ((decElem g.fmt (x q c)).scale2 (-sx))).bits
    let ys := (places g g.inp).map fun p => let u := unflat g.inp p.1; (p.1, p.2, foldPad g g.c f u.1 u.2 p.2)
    (s.placeOut b j step ys g.c).bind fun o s => .ok ⟨jobArr j o.1, [], o.2, 0, 0, 0⟩ s

/-! ### Outputs -/

/-- Write byte strings at addresses; none written unless all can be. -/
def gotWrites (sl : Nat) : List (Nat × Bytes) → State → Got Unit
  | [], s => .ok () s
  | (a, bs) :: t, s => match s.vwrite sl a bs with
    | .ok _ _ s' => gotWrites sl t s'
    | .hostDown => .hostDown
    | _ => .wait

/-- A job's output writes: elements of a plain map, or groups; with NF of a group that met non-finite data. -/
def jobWrites (j : ShlDesc) (o : ShlOut) : List (Nat × Bytes) × Bool :=
  let e := fmtBits j.yFmt / 8
  let arg := o.arg.mapIdx fun k t => (j.auxVa + 2 * k, natBytes 2 t)
  match (fmCodec j.yCodec).bind fun x => fixedParams x.1 j.yFmt with
  | none =>
    let m := j.yMap
    let used := ((List.range (m.1 * vol m.2.1)).map fun q => (List.range m.2.2).map fun c =>
      let u := unflat m.2.1 q
      elemIdx j.yLay m.2.1 m.2.2 u.1 u.2 c).flatten
    (used.map (fun k => (j.yVa + e * k, natBytes e (o.y.getD k 0))) ++ arg, false)
  | some (gb, w) =>
    let gs := (List.range ((j.yLen + 191) / 192)).map fun k => (o.y.toList.drop (192 * k)).take 192
    let xs := gs.map fun l => l.map (decElem j.yFmt)
    (xs.mapIdx (fun k l => (j.yVa + gb * k, encGroup gb w l)) ++ arg, xs.any groupNf)

/-! ### Jobs (R287, R294) -/

/-- A basin's jobs: the first runs, up to 16 wait. -/
def shlJobs (s : State) (b : Nat) : List ShlJob := tget s.shl [] b

/-- Store a basin's jobs. -/
def setShlJobs (s : State) (b : Nat) (l : List ShlJob) : State := { s with shl := tset s.shl [] b l }

/-- SHL_STAT and SHL_CURJOB follow the jobs (R297). -/
def shlRegs (s : State) (b : Nat) : State :=
  let l := s.shlJobs b
  let s := (s.p .shl b Off.shlStat 63 63 (if l = [] then 0 else 1)).p .shl b Off.shlStat 52 48 (l.length - 1)
  s.wr (pageBase .shl b + Off.shlCurjob) (BitVec.ofNat 64 ((l.head?.map (·.va)).getD 0 % 2 ^ 57))

/-- The running job ends with a cause (R294): its whole output reads 0xFF except for causes 4 and 5. -/
def shlFail (s : State) (b : Nat) (j : ShlJob) (cause err : Nat) (ev : Nat) : State :=
  let s := match s.vget b j.va 128 with
    | some (d, _) =>
      let x := ShlDesc.ofBytes j.va d
      if cause = 4 ∨ cause = 5 ∨ x.err ≠ 0 then s
      else (s.vput b x.yVa (ffs x.yBytes)).vput b x.auxVa (ffs x.argBytes)
    | none => s
  let s := (s.p .shl b Off.shlStat 47 40 cause).p .shl b Off.shlStat 39 32 err
  let s := s.setShlJobs b ((s.shlJobs b).filter (· ≠ j))
  ((s.raise .shl b ev).shlRegs b).poisonTail j.q j.op cause 0

/-- Run a job whose OP is `want`; `run` gives its results. The job's outputs become visible at SHL_JOB_DONE. -/
def shlJob (s : State) (b want : Nat) (k : Check) (run : State → Nat → ShlDesc → Word → Got ShlOut) : State :=
  match s.shlJobs b with
  | [] => s
  | j :: rest =>
    match j.done, s.op? j.q j.op with
    | none, some o =>
      if o.held then s
      else match s.vread b j.va 128 with
        | .ok _ true s' => (s'.poisonAt b b j.va o.step).shlFail b j 3 0 Ev.shlJobPoisoned
        | .ok d false s' =>
          let x := ShlDesc.ofBytes j.va d
          if x.err ≠ 0 then s'.shlFail b j 4 x.err Ev.shlBadJob
          else if x.op ≠ want then s
          else if k ≠ .ok then (s'.detected .shl b 0x01 o.step).shlFail b j 3 0 Ev.shlCheck
          else
            let r := (run s' b x o.step).bind fun out s =>
              let w := jobWrites x out
              (gotWrites b w.1 s).bind fun _ s => .ok (out, w.2) s
            match r with
            | .ok (out, nf) s' =>
              let s' := s'.opFlags j.q o (out.fl ||| (if nf then 1 else 0))
              let s' := ((s'.bump .shl b (0x200 + 8) out.macs).bump .shl b (0x200 + 16) out.pool).bump .shl b (0x200 + 32) out.replays
              let s' := if (fmCodec x.yCodec).isSome then s'.bump .shl b (0x200 + 48) (x.yLen * (fmtBits x.yFmt / 8)) else s'
              s'.setShlJobs b ({ j with done := some 0 } :: rest)
            | .wait => s
            | .poison s' a => (s'.poisonAt b b a o.step).shlFail b j 3 0 Ev.shlJobPoisoned
            | .crc s' => (s'.fmcBad b o.step x.xVa).shlFail b j 3 0 Ev.shlJobPoisoned
            | .hostDown => s.shlFail b j 6 0 Ev.shlJobPoisoned
        | .hostDown => s.shlFail b j 6 0 Ev.shlJobPoisoned
        | _ => s
    | _, _ => s

/-- SHL_RUN starts: its job joins the basin's, or waits while 16 wait (R287). -/
def shlBegin (s : State) (q : Nat) (o : Op) : State :=
  let b := queueBasin q
  if 17 ≤ (s.shlJobs b).length then s.modOp q o.id fun o => { o with wait := .val }
  else
    let s := s.modOp q o.id fun o => { o with wait := .job }
    (s.setShlJobs b (s.shlJobs b ++ [{ q := q, op := o.id, va := o.memVa, done := none }])).shlRegs b

/-- Checks of SHL_RUN (R287). -/
def shlForm (o : Op) : Bool :=
  o.checks false && o.kind = 2 && o.count 0 = 128 && o.count 1 = 1 && o.count 2 = 1 && o.count 3 = 1 && o.count 4 = 1 &&
  o.nbuf = 0 && o.memVa % 32 = 0 && !o.idxEn

end State

/-- SHL_RUN (R287). -/
def execShlRun (q : Nat) (s : State) : Host.Outcome State Fault Refusal :=
  .next (if s.ready .shl (State.queueBasin q) ∧ (s.shlJobs (State.queueBasin q)).length < 17 then
    s.startIf q (opCodec · = 0x30) State.shlForm State.shlBegin else s)

/-- CONV_FWD (R290). -/
def execConvFwd (basin : Nat) (k : Check) (s : State) : Host.Outcome State Fault Refusal :=
  .next (s.shlJob basin 1 k State.runFwd)
/-- CONV_BWD_DATA (R290). -/
def execConvBwdData (basin : Nat) (k : Check) (s : State) : Host.Outcome State Fault Refusal :=
  .next (s.shlJob basin 2 k State.runBwdData)
/-- CONV_BWD_WEIGHT (R290). -/
def execConvBwdWeight (basin : Nat) (k : Check) (s : State) : Host.Outcome State Fault Refusal :=
  .next (s.shlJob basin 3 k State.runBwdWeight)
/-- POOL_MAX (R291). -/
def execPoolMax (basin : Nat) (k : Check) (s : State) : Host.Outcome State Fault Refusal :=
  .next (s.shlJob basin 0x10 k fun s b j st => s.runPool b j st true)
/-- POOL_AVG (R291). -/
def execPoolAvg (basin : Nat) (k : Check) (s : State) : Host.Outcome State Fault Refusal :=
  .next (s.shlJob basin 0x11 k fun s b j st => s.runPool b j st false)
/-- POOL_MAX_BWD (R291). -/
def execPoolMaxBwd (basin : Nat) (k : Check) (s : State) : Host.Outcome State Fault Refusal :=
  .next (s.shlJob basin 0x12 k State.runMaxBwd)
/-- POOL_AVG_BWD (R291). -/
def execPoolAvgBwd (basin : Nat) (k : Check) (s : State) : Host.Outcome State Fault Refusal :=
  .next (s.shlJob basin 0x13 k State.runAvgBwd)
/-- PAD_FOLD (R292). -/
def execPadFold (basin : Nat) (k : Check) (s : State) : Host.Outcome State Fault Refusal :=
  .next (s.shlJob basin 0x20 k State.runPadFold)

/-- SHL_JOB_DONE (R287): the outputs are visible, the SHL_RUN completes, and the next job starts. A job that fails its
checks ends with BAD_DESC. -/
def execShlJobDone (basin : Nat) (s : State) : Host.Outcome State Fault Refusal :=
  .next (match s.shlJobs basin with
    | [] => s
    | j :: rest =>
      match s.op? j.q j.op, j.done with
      | some _, some _ =>
        let s := ((s.setShlJobs basin rest).p .shl basin Off.shlStat 47 40 0).p .shl basin Off.shlStat 39 32 0
        let s := (s.bump .shl basin 0x200 1).shlRegs basin
        let s := s.modOp j.q j.op fun o => { o with wait := .none, issued := o.total, landed := [(0, o.total)], cursor := o.chunks }
        match s.op? j.q j.op with
        | some o => s.completeOp j.q o false
        | none => s
      | some o, none => match s.vread basin j.va 128 with
        | .ok d false s' =>
          let x := ShlDesc.ofBytes j.va d
          if x.err ≠ 0 ∧ !o.held then s'.shlFail basin j 4 x.err Ev.shlBadJob else s
        | _ => s
      | none, _ => s)

/-- SHL_JOB_TIMEOUT (R294): not while an access of the job is held (R298). -/
def execShlJobTimeout (basin : Nat) (s : State) : Host.Outcome State Fault Refusal :=
  .next (match s.shlJobs basin with
    | [] => s
    | j :: _ => match s.op? j.q j.op, j.done with
      | some o, none => if o.held then s else s.shlFail basin j 2 0 Ev.shlTimeout
      | _, _ => s)

end Sys2Proof.Machine
end

