-- ==== Sys2Proof/Machine/Steps.lean ====
section
/-! DEFINITION. The step: opening, closing, the vote, the verdict, the commit with the twin, and what the end of a step
does (R48, R363 to R372, R382, R391, R392). -/

namespace Sys2Proof.Machine

/-- Bytes of a verdict record (R364). -/
def recLen : Nat := 98560

namespace State

/-! ### FP32 steps of the statistics -/

/-- FP32 quotient of two values. -/
def fdiv (a b : Num) : Num :=
  match a, b with
  | .nan s, _ => .nan s
  | _, .nan s => .nan s
  | .inf s, .inf t => .nan (s != t)
  | .inf s, .fin t _ _ => .inf (s != t)
  | .fin s _ _, .inf t => .fin (s != t) 0 0
  | .fin s m e, .fin t n f =>
    if n = 0 then (if m = 0 then .nan false else .inf (s != t))
    else f32 (toF32 (ratNum (s != t) m n (e - f))).bits

/-- Round to FP32. -/
def rnd32 (a : Num) : Num := f32 (toF32 a).bits
/-- FP32 product. -/
def fmul32 (a b : Num) : Num := rnd32 (a.mul b)
/-- FP32 sum. -/
def fadd32 (a b : Num) : Num := rnd32 (a.add b)
/-- FP32 difference. -/
def fsub32 (a b : Num) : Num := rnd32 (a.add b.neg)
/-- A value above 0. -/
def positive (a : Num) : Bool := match a with
  | .nan _ => false
  | v => v.cmp (.fin false 0 0) = .gt

/-! ### Opening and restarting (R363, R372, R391, R392) -/

/-- Set STATE of RED_STEPSTAT. -/
def setRedState (s : State) (n : Nat) : State := s.p .red 0 Off.redStepstat 63 60 n

/-- The reduction state with no step's work in it; packets held for a later step, row masks for a redo and writes that wait
for the step's end stay. -/
def redEmpty (r : Red) : Red :=
  { r with words := [], nf := false, reset := false, contribs := [], seen := [], sums := [], nodes := [], units := [], staged := []
           pushed := [], own := none, kids := [], parts := [], verdict := none, twinDigest := none, mismatches := 0, redo := false
           gnsSmall := Dy.zero, gnsBig := Dy.zero, gnsUsed := false, lw := [] }

/-- Every unit stops, with nothing queued (R372). -/
def unitsClear (s : State) : State :=
  (List.range 24).foldl (fun s u =>
    ((List.range 32).foldl (fun s t => s.setShoal (unitProc u) t none) (s.setUnit u { run := none, queue := [], buf := false })).unitRegs u) s

/-- Requests of reduction traffic are no longer awaited. -/
def dropRedTxns (s : State) : State := { s with fab := { s.fab with txns := s.fab.txns.filter (·.op.isSome) } }

/-- Discard the work of the open step. -/
def redDiscard (s : State) : State :=
  let s := (s.unitsClear).dropRedTxns
  let here (e : Nat × Pkt) : Bool := e.2.txid.toNat / 2 ^ 24 % 16 = s.redStep % 16
  s.setRed { redEmpty s.red with later := s.red.later.filter fun e => !here e }

/-- OPEN of every update word (R362). -/
def updWords (s : State) (f : Nat → Nat) : State :=
  (List.range 24).foldl (fun s u =>
    let (b, i) := unitPage u
    s.p b i Off.inlUpdword 7 0 (f (s.g b i Off.inlUpdword 3 0))) s

/-- PENDING_AMAX of every ACTIVE slot (R145). -/
def setAmax (s : State) (f : Nat → Nat) : State :=
  if s.scaleEn then (List.range 8192).foldl (fun s n => match s.slotHdr 0 n with
    | some h => if hdrActive h then s.putHdr 0 n (bput h 4 (natBytes 4 (f n))) else s
    | none => s) s
  else s

/-- The attempt of a STEP_BEGIN (R372, R392): RAS_REPLAYCTL's when it is armed for the step, which disarms it; else one
more on a restart, and 0 on a first opening. -/
def takeAttempt (s : State) (step : Nat) (restart : Bool) : Nat × State :=
  let w := s.rd (pageBase .ras 0 + Off.rasReplayctl)
  if bit w 63 ∧ fld w 47 0 = step then (fld w 59 56, s.p .ras 0 Off.rasReplayctl 63 63 0)
  else if restart then ((s.attempt + 1) % 16, s) else (0, s)

/-- A STEP_BEGIN for a step is accepted (R363, R372); none while it must wait. -/
def stepOpen (s : State) (step : Nat) : Option State :=
  let restart := s.redState ≠ 0
  if !s.ready .red 0 || s.phase ≠ 0 || s.jrn.due || s.jrn.resolving || s.jrn.held || (restart && s.redStep ≠ step) ||
      s.power.drain ≠ .none || tget s.rst.quiesced false (pageBase .red 0) || s.quiet .red 0 then none
  else
    let (a, s) := s.takeAttempt step restart
    let s := if restart then (s.redDiscard.setAmax fun _ => 0).bump .red 0 (0x200 + 80) 1 else s
    let s := s.updWords fun _ => 0
    let w := s.rd (pageBase .red 0 + Off.redStepstat)
    let s := s.wr (pageBase .red 0 + Off.redStepstat) (putFld (putFld (putFld w 63 60 1) 59 56 a) 47 0 step)
    let s := if s.g .ras 0 Off.rasReplay 63 63 = 1 ∧ s.g .ras 0 Off.rasReplay 47 0 = step then
        s.p .ras 0 Off.rasReplay 63 63 0 else s
    some ((s.ledgerRestart (BitVec.ofNat 64 step)).redRelease)

/-! ### The vote (R363, R364) -/

/-- Launches, stream operations and shallows jobs of a step that have not ended. -/
def stepBusy (s : State) (step : Nat) : Bool :=
  (s.launches.any fun e => match e.2 with
    | some l => l.step.toNat = step
    | none => false) || (s.queues.any fun e => e.2.any fun o => o.step.toNat = step)

/-- Sends of the step that have not been acknowledged, or sums not yet sent. -/
def sendsOpen (s : State) : Bool :=
  (s.fab.txns.any (·.op.isNone)) || s.red.contribs ≠ [] || s.red.sums ≠ [] || s.red.nodes ≠ []

/-- Slabs that shards of this module expect. -/
def ownedSlabs (s : State) : List (Nat × Nat × Nat) :=
  (s.shards.map fun h => match s.tensor h.tslot with
    | some t => if t.role 1 || t.role 2 then
        ((List.range h.count).map fun k => (List.range 4).map fun j => (h.tslot, h.first + k, j)).flatten else []
    | none => []).flatten

/-- Some owned slab is not staged. -/
def slabsOpen (s : State) : Bool := s.ownedSlabs.any fun k => !s.red.staged.contains k

/-- Some push to a USER tensor has not landed: its own pieces are not pushed to itself. -/
def pushesOpen (s : State) : Bool :=
  (List.range (s.g .red 0 Off.redLen 14 0)).any fun n => match s.tensor n with
    | some t => t.role 3 && t.ctrl 4 && (List.range t.pieces).any fun p =>
        !(t.role 1 && (s.shardOf n p).isSome) && (List.range 4).any fun j => !s.red.pushed.contains (n, p, j)
    | none => false

/-- WAITING of RED_STEPSTAT (R363, R370). -/
def stepWaiting (s : State) : Nat :=
  if s.redState = 0 ∨ s.redState = 3 then 0
  else (if s.stepBusy s.redStep then 1 else 0) + (if s.sendsOpen then 2 else 0) + (if s.slabsOpen then 4 else 0) +
    (if s.pushesOpen then 8 else 0)

/-- FLAGS of this module's record (R364). -/
def recFlags (s : State) : Nat :=
  let w := s.red.words.foldl (fun a e => a ||| e.2.toNat) 0
  let u := (List.range 24).foldl (fun a u => a ||| s.g (unitPage u).1 (unitPage u).2 Off.inlUpdword 3 0) 0
  (w ||| u ||| (if s.red.nf then 1 else 0)) + (if s.red.reset then 16 else 0)

/-- This module's verdict record (R364). -/
def ownRecord (s : State) : Bytes :=
  let amax (n : Nat) : Nat := if s.scaleEn then (match s.slotHdr 0 n with
    | some h => if hdrActive h then bat h 4 4 else 0
    | none => 0) else 0
  let lw (n : Nat) : Bytes :=
    let q := tget s.red.lw (Dy.zero, Dy.zero, 0, 0) n
    natBytes 4 q.1.toF32 ++ natBytes 4 q.2.1.toF32 ++ natBytes 4 (min 0xFFFFFFFF q.2.2.1) ++ natBytes 4 (min 0xFFFFFFFF q.2.2.2)
  let head := natBytes 8 s.redStep ++ natBytes 4 s.recFlags ++ natBytes 4 1 ++ natBytes 4 s.red.gnsSmall.toF32 ++
    natBytes 4 s.red.gnsBig.toF32 ++ natBytes 4 (if s.red.gnsUsed then 1 else 0) ++ natBytes 4 0 ++ List.replicate 224 0
  head ++ ((List.range 8192).map fun n => natBytes 4 (amax n)).flatten ++ ((List.range 4096).map lw).flatten

/-- Combine two records, own or earlier first (R364). -/
def recCombine (a b : Bytes) : Bytes :=
  let add (o : Nat) : Bytes := natBytes 4 (bat a o 4 + bat b o 4)
  let sat (o : Nat) : Bytes := natBytes 4 (min 0xFFFFFFFF (bat a o 4 + bat b o 4))
  let fa (o : Nat) : Bytes := natBytes 4 (add32 (BitVec.ofNat 32 (bat a o 4)) (BitVec.ofNat 32 (bat b o 4))).toNat
  a.take 8 ++ natBytes 4 (bat a 8 4 ||| bat b 8 4) ++ add 0xC ++ fa 0x10 ++ fa 0x14 ++ add 0x18 ++ bsub a 0x1C 228 ++
    ((List.range 8192).map fun n => natBytes 4 (max (bat a (0x100 + 4 * n) 4) (bat b (0x100 + 4 * n) 4))).flatten ++
    ((List.range 4096).map fun n => let o := 0x8100 + 16 * n; fa o ++ fa (o + 4) ++ sat (o + 8) ++ sat (o + 12)).flatten

/-- Packet n of a verdict record (R364). -/
def ctlPkt (s : State) (typ dst n : Nat) (rec_ : Bytes) : Pkt :=
  let k := s.redPkt typ 3 (s.g .red 0 Off.redCfg 35 32) dst ctlSlot n 0 0 false (bsub rec_ (4096 * n) 4096)
  { k with addr := BitVec.ofNat 64 (ctlSlot * 2 ^ 50 + n * 2 ^ 18)
           seq := BitVec.ofNat 64 (3 * 2 ^ 62 + ctlSlot * 2 ^ 48 + n) }

/-- Send a record to a module; none while it cannot leave. -/
def sendRec (s : State) (typ dst : Nat) (rec_ : Bytes) : Option State :=
  (List.range 25).foldl (fun acc n => acc.bind fun s => s.redSend (s.ctlPkt typ dst n rec_)) (some s)

/-- The verdict tree: group, own rank, fan-in (R364). -/
def vtree (s : State) : Option (RGroup × Nat) :=
  (s.rgroup (s.g .red 0 Off.redCfg 47 40)).map fun g => (g, max 1 (s.g .red 0 Off.redCfg 39 36))

/-- A child's record, once its 25 packets are there. -/
def kidRec (s : State) (rank : Nat) : Option Bytes :=
  let ps := tget s.red.kids [] rank
  if (List.range 25).all fun n => ps.any (·.1 = n) then
    some ((List.range 25).map fun n => ((ps.find? (·.1 = n)).map (·.2)).getD []).flatten
  else none

/-- Combine own and children's records and send the result up; the root keeps it as the verdict (R364). -/
def combine (s : State) : State :=
  match s.red.own, s.vtree with
  | some own, some (g, f) =>
    let ks := (childrenOf g f g.rank).map s.kidRec
    if s.redState ≠ 3 ∨ s.red.verdict.isSome ∨ ks.any (·.isNone) then s
    else
      let rec_ := ks.foldl (fun a k => recCombine a (k.getD [])) own
      if g.rank = 0 then s.setRed { s.red with verdict := some rec_, own := none, kids := [] }
      else match s.member g ((g.rank - 1) / f) with
        | none => s
        | some dst => match s.sendRec 0x20 dst rec_ with
          | some s => s.setRed { s.red with own := none, kids := [] }
          | none => s
  | _, _ => s

/-! ### Ends of a step (R48, R149, R366 to R369, R382) -/

/-- RED_LSCALE at the end of a step (R366). -/
def lscaleEnd (s : State) (commit nf : Bool) : State :=
  if s.g .red 0 Off.redLscale 63 63 = 0 then s
  else
    let e := sext 8 (s.g .red 0 Off.redLscale 55 48)
    let lo := sext 8 (s.g .red 0 Off.redLscale 47 40)
    let hi := sext 8 (s.g .red 0 Off.redLscale 39 32)
    let good := s.g .red 0 Off.redLscale 15 0
    let put (s : State) (e : Int) (g : Nat) : State := (s.p .red 0 Off.redLscale 55 48 (wrapN 8 e)).p .red 0 Off.redLscale 15 0 g
    if commit then (if good + 1 < s.g .red 0 Off.redLscale 31 16 then put s e (good + 1) else put s (min hi (e + 1)) 0)
    else if nf then put (if e ≤ lo then s.raise .red 0 Ev.redLscaleMin else s) (max lo (e - 1)) 0
    else s

/-- RED_GNS0 and RED_GNS1 at a commit end (R367). -/
def gnsEnd (s : State) (rec_ : Bytes) : State :=
  let m := bat rec_ 0x18 4
  let b := s.g .red 0 Off.redGnscfg 63 32
  if m < 2 ∨ b = 0 then s
  else
    let v (o : Nat) : Num := f32 (bat rec_ o 4)
    let one : Num := .fin false 1 0
    let mf := rnd32 (.fin false m 0)
    let bf := rnd32 (.fin false b 0)
    let bb := fmul32 mf bf
    let small := fdiv (v 0x10) (fmul32 (fmul32 mf bf) bf)
    let big := fdiv (v 0x14) (fmul32 bb bb)
    let g2 := fdiv (fsub32 (fmul32 bb big) (fmul32 bf small)) (fsub32 bb bf)
    let tr := fdiv (fsub32 small big) (fsub32 (fdiv one bf) (fdiv one bb))
    let s := s.wr (pageBase .red 0 + Off.redGns0) (BitVec.ofNat 64 (f32Of g2 * 2 ^ 32 + f32Of tr))
    if positive g2 then
      let gns := fdiv tr g2
      let old := s.g .red 0 Off.redGns1 63 32
      let sh := s.g .red 0 Off.redGnscfg 4 0
      let ema := if old = 0 then gns else fadd32 (f32 old) (rnd32 ((fsub32 gns (f32 old)).scale2 (-(sh : Int))))
      s.wr (pageBase .red 0 + Off.redGns1) (BitVec.ofNat 64 (f32Of ema * 2 ^ 32 + f32Of gns))
    else s

/-- Layer watch entry n from the combined sums (R368). -/
def lwEntry (s : State) (step : Nat) (rec_ : Bytes) (n : Nat) : State :=
  let o := 0x8100 + 16 * n
  let elig := bat rec_ (o + 8) 4
  if elig = 0 then s
  else
    let va := s.g .red 0 Off.redLw 56 16 * 65536 + 16 * n
    match s.vget 0 va 16 with
    | none => s
    | some (d, s) =>
      if 0 < bat rec_ (o + 12) 4 then
        let w2 := f32 (bat rec_ (o + 4) 4)
        let q := if w2.isZero then 0x7F800000 else (sqrtOf (fdiv (f32 (bat rec_ o 4)) w2)).bits
        s.vput 0 va (natBytes 4 q ++ natBytes 4 0 ++ natBytes 8 step)
      else
        let k := min 65535 (bat d 4 2 + 1)
        let stall := s.g .red 0 Off.redLw 15 0
        let once := decide (k = stall) && bat d 4 2 ≠ k
        let fl := if k = stall ∨ bat d 6 1 % 2 = 1 then 1 else 0
        let s := s.vput 0 va (natBytes 4 0 ++ natBytes 2 k ++ natBytes 1 fl ++ natBytes 1 0 ++ natBytes 8 step)
        if once then ((s.wr (pageBase .red 0 + Off.redLwlast) (BitVec.ofNat 64 n)).bump .red 0 (0x200 + 72) 1).raise .red 0 Ev.redLayerStalled
        else s

/-- Clear a watch entry's STREAK and STALLED (R369). -/
def lwClear (s : State) (n : Nat) : State :=
  let va := s.g .red 0 Off.redLw 56 16 * 65536 + 16 * n
  match s.vget 0 (va + 6) 1 with
  | some (b, s) => s.vput 0 (va + 4) (natBytes 2 0 ++ natBytes 1 (leNat b / 2 * 2))
  | none => s

/-- Clears that waited for the end of a commit (R369). -/
def lwClearsDue (s : State) : State :=
  let xs := s.red.lwClears
  xs.foldl (fun s x => match x with
    | some n => s.lwClear n
    | none => (List.range 4096).foldl (fun s n => s.lwClear n) s) (s.setRed { s.red with lwClears := [] })

/-- A RED_BSTEER write takes effect. -/
def applyBsteer (s : State) (v : Word) : State :=
  let w := putFld (putFld (putFld (putFld (putFld (putFld (putFld 0 63 63 (fld v 63 63)) 62 62 (fld v 62 62)) 55 48 (fld v 55 48)) 47 40
    (fld v 47 40)) 39 32 (fld v 39 32)) 31 16 (fld v 31 16)) 15 0 (fld v 15 0)
  s.wr (pageBase .red 0 + Off.redBsteer) w

/-- A RED_BSTEER write (R382): refused when it leaves MB_MAX below MB_MIN; it waits for the end of an open step. -/
def writeBsteer (s : State) (v : Word) : State :=
  if fld v 47 40 < fld v 55 48 then s.raise .red 0 Ev.redCfgRefused
  else if s.openStep.isSome then s.setRed { s.red with bsteerWait := some v }
  else s.applyBsteer v

/-- The waiting RED_BSTEER write takes effect at the end of a commit or skip. -/
def bsteerDue (s : State) : State :=
  match s.red.bsteerWait with
  | some v => (s.setRed { s.red with bsteerWait := none }).applyBsteer v
  | none => s

/-- The window held the steering loop. -/
def steerClamp (s : State) : State := (s.bump .tlm 0 (0xC40 + 16) 1).raise .tlm 0 Ev.tlmSteerClamp

/-- Ceiling of a value above 0, at most 65,535. -/
def ceil16 (v : Num) : Nat :=
  match v with
  | .fin _ m e => min 65535 (if 0 ≤ e then m * 2 ^ e.toNat else (m + 2 ^ (-e).toNat - 1) / 2 ^ (-e).toNat)
  | _ => 65535

/-- Batch steering at a commit end (R382). -/
def steer (s : State) : State :=
  let b1 := Off.redBsteer1
  let s := s.p .red 0 b1 31 16 (min 65535 (s.g .red 0 b1 31 16 + 1))
  let f (hi lo : Nat) : Nat := s.g .red 0 Off.redBsteer hi lo
  let lo := f 55 48
  let hi := f 47 40
  let ema := f32 (s.g .red 0 Off.redGns1 63 32)
  let s := if f 63 63 = 1 ∧ positive ema then
      let d := ceil16 (fdiv (rnd32 ((fmul32 ema (.fin false (f 39 32) 0)).scale2 (-4))) (.fin false (f 15 0) 0))
      let s := s.p .red 0 b1 47 32 d
      let cur := s.g .red 0 b1 63 56
      if f 31 16 ≤ s.g .red 0 b1 31 16 ∧ d ≠ cur then
        let w := max lo (min hi d)
        let s := if w ≠ d then s.steerClamp else s
        if w ≠ cur then ((s.p .red 0 b1 63 56 w).p .red 0 b1 31 16 0).bump .tlm 0 (0xC40 + 24) 1 else s
      else s
    else s
  let cur := s.g .red 0 b1 63 56
  let s := if cur < lo ∨ hi < cur then (((s.p .red 0 b1 63 56 (max lo (min hi cur))).p .red 0 b1 31 16 0)).steerClamp else s
  if f 62 62 = 1 then s.p .red 0 Off.redGnscfg 63 32 (s.g .red 0 b1 63 56 * f 15 0) else s

/-- What every end of a step does last: STAGE_BANK, update words, STATE 0, the ledger, and what waited for the end. -/
def stepFinish (s : State) (step : Nat) : State :=
  let s := s.ledgerStepEnd (BitVec.ofNat 64 step)
  let s := s.p .red 0 Off.redStepstat 52 52 (1 - s.curBank)
  let s := (s.unitsClear.dropRedTxns.updWords fun f => f * 16)
  let s := s.setRed (redEmpty s.red)
  let s := (s.setRedState 0).p .red 0 Off.redStepstat 47 0 0
  let s := { s with jrn := { due := false, resolving := false, held := false, resend := false } }
  (s.p .rcc 0 Off.rccJrnCtrl 1 0 0).applyScaleWaiting.bsteerDue.lwClearsDue

/-- A commit ends (R48, R149, R363): with the combined record where it is still known. -/
def commitEnd (s : State) (resume : Bool) : State :=
  let step := (s.rd (pageBase .rcc 0 + Off.rccBkp2)).toNat
  let s := s.slotsEnd (BitVec.ofNat 64 step) true resume fun n => match s.slotHdr 0 n with
    | some h => bat h 4 4
    | none => 0
  let s := s.warmupEnd.bsteerDue
  let s := match s.red.verdict with
    | some r => ((List.range 4096).foldl (fun (s : State) n => s.lwEntry step r n) s).gnsEnd r
    | none => s
  let s := (s.steer).lscaleEnd true false
  let s := ((s.bump .red 0 0x200 1).bump .tlm 0 (0x200 + 8 * 8) 1).raise .red 0 Ev.redStepCommitted
  let s := (s.wr (pageBase .rcc 0 + Off.rccBkp1) (BitVec.ofNat 64 step)).p .rcc 0 Off.rccBkp3 3 0 0
  s.stepFinish step

/-- A skip ends (R48, R149, R366). -/
def skipEnd (s : State) (step : Nat) (nf : Bool) : State :=
  let s := s.slotsEnd (BitVec.ofNat 64 step) false false fun _ => 0
  let s := ((s.lscaleEnd false nf).bump .red 0 (0x200 + 8) 1).bump .tlm 0 (0x200 + 8 * 9) 1
  ((s.raise .red 0 Ev.redStepSkipped).p .rcc 0 Off.rccBkp3 3 0 0).stepFinish step

/-! ### The commit (R46 to R48, R363) -/

/-- TWIN_ID in the journal. -/
def jrnTwin (s : State) : Nat := s.g .rcc 0 Off.rccBkp3 47 32
/-- Set PHASE. -/
def setPhase (s : State) (n : Nat) : State := s.p .rcc 0 Off.rccBkp3 3 0 n

/-- The list of owned shards with an SCRC each, as the journal extension holds it (R46; entry form DESIGN CHOICE,
Assumption 28). -/
def jrnList (s : State) : Bytes :=
  (s.shards.map fun h => match s.tensor h.tslot with
    | some t => if t.role 1 || t.role 2 then natBytes 4 h.n ++ natBytes 4 h.scrc else []
    | none => []).flatten

/-- A commit message to the twin on VC1 (Assumption 28): code 1 STAGED with the digest, 2 FLIPPED. -/
def twinMsg (s : State) (code : Nat) (data : Bytes) : State :=
  let k := s.redPkt 0x40 3 1 s.jrnTwin ctlSlot code 0 0 false data
  match s.route s.jrnTwin false with
  | (.link l, s') => (s'.request l k none).bump .red 0 (0x200 + 24) 1
  | (.none p, s') => s'.noRoute p s.jrnTwin
  | (.wait, s') => s'

/-- MIRRORED, the flip and FLIPPED (R48, R363); with no twin the commit ends at once. -/
def mirrored (s : State) (resume : Bool) : State :=
  let s := ((s.setPhase 3).p .red 0 Off.redStepstat 53 53 s.stageBank).setPhase 4
  if s.jrnTwin = 0xFFFF then s.commitEnd resume else s.twinMsg 2 []

/-- Queue every owned slab again from HOLD_VA (R363, R49); none when some shard has no HOLD_VA, or a held slab cannot be
read. -/
def redoSlabs (s : State) : Option State :=
  let s0 := s.unitsClear
  let s0 := s0.setRed { s0.red with staged := [], redo := true }
  s.ownedSlabs.foldl (fun acc k => acc.bind fun s =>
    match s.tensor k.1, s.shardOf k.1 k.2.1 with
    | some t, some h =>
      if h.hold = 0 then none
      else (s.vget 0 (h.hold + (k.2.1 - h.first) * 16384 + k.2.2 * 4096) 4096).bind fun r =>
        let m := ((s.red.masks.find? fun e => e.1 = k.1 && e.2.1 = k.2.1 && e.2.2.1 = k.2.2).map (·.2.2.2)).getD 0
        r.2.routeSlab t { slot := k.1, piece := k.2.1, slab := k.2.2, mask := BitVec.ofNat 16 m, nf := false
                          data := slabOf 0 r.1, primary := t.role 1 }
    | _, _ => none) (some s0)

/-- Hold the commit (R51). -/
def holdCommit (s : State) : State :=
  ({ s with jrn := { s.jrn with held := true } }.p .rcc 0 Off.rccJrnCtrl 1 1 1).raise .rcc 0 Ev.rccJournalPending

/-- Compare the twin's digest with the local one (R363). -/
def compareDigest (s : State) (resume : Bool) : State :=
  match s.red.twinDigest with
  | none => s
  | some d =>
    let s := s.setRed { s.red with twinDigest := none }
    if d = s.rd (pageBase .rcc 0 + Off.rccBkp4) then s.mirrored resume
    else
      let s := s.setRed { s.red with mismatches := s.red.mismatches + 1 }
      let s := (s.bump .red 0 (0x200 + 64) 1).record .red 0 0x0E 5 0 (step := s.updStep) (attempt := s.attempt)
      if s.red.mismatches = 1 then
        let s := s.raise .red 0 Ev.redMirrorMismatch
        (s.redoSlabs).getD s.holdCommit
      else (s.raise .red 0 Ev.redMirrorFault).holdCommit

/-- STAGED (R48): the journal extension and the digest are written, then the twin is told, or its absence ends the wait. -/
def writeStaged (s : State) (resume : Bool) : State :=
  let l := s.jrnList
  let s := (s.retWrite 0x10000 l).wr (pageBase .rcc 0 + Off.rccBkp4) (Config.crc64 l)
  let s := s.setPhase 2
  if s.jrnTwin = 0xFFFF then s.mirrored resume
  else (s.twinMsg 1 (natBytes 8 (Config.crc64 l).toNat)).compareDigest resume

/-- The combined record as far as this module writes and forwards it before it acts on it (R364, RAS_VREC). -/
def passVerdict (s : State) (rec_ : Bytes) : Option State :=
  let base := s.g .ras 0 Off.rasVrec 56 17 * 131072
  let s := if base = 0 then s else s.vput 0 base rec_
  match s.vtree with
  | none => some s
  | some (g, f) => (childrenOf g f g.rank).foldl (fun acc r => acc.bind fun s => match s.member g r with
      | none => none
      | some dst => s.sendRec 0x22 dst rec_) (some s)

/-- Act on the combined record (R48, R364): a skip ends the step, a commit goes on to STAGED. -/
def verdictAct (s : State) (rec_ : Bytes) : State :=
  let fl := bat rec_ 8 4
  let skip := fl.testBit 0 || fl.testBit 4
  let s := s.wr (pageBase .rcc 0 + Off.rccBkp2) (BitVec.ofNat 64 s.redStep)
  let s := s.p .rcc 0 Off.rccBkp3 47 32 (s.g .red 0 Off.redCfg 63 48)
  let s := (s.p .rcc 0 Off.rccBkp3 7 4 (if skip then 2 else 1)).setPhase 1
  if skip then s.skipEnd s.redStep (fl.testBit 0)
  else (s.setAmax fun n => bat rec_ (0x100 + 4 * n) 4).writeStaged false

end State

/-! ### Commands -/

/-- A write to the RED page: refused before READY (R40). -/
def redWrite (s : State) (off : Nat) (f : State → State) : State :=
  if s.ready .red 0 then f s else s.refuse false true Ev.devEarlyAccess (pageBase .red 0 + off)

/-- UPD (R360, R364). -/
def execUpd (l : Nat) (k : Pkt) (s : State) : Host.Outcome State Fault Refusal :=
  .next (if k.typ.toNat = 0x22 then s.arrive l k (fun s => s.answer l k 0x04 0) (fun s => s.pushArrive l k) else s)

/-- CLOSE of RED_STEPCTL (R363, R372). -/
def State.closeStep (s : State) (step : Nat) : State :=
  let s := s.p .red 0 Off.redStepctl 61 0 step
  if s.redState = 1 ∧ s.redStep = step then s.setRedState 2 else s.raise .red 0 Ev.redCfgRefused

/-- ABANDON of RED_STEPCTL (R370, R372): a local skip before phase VERDICT, which counts as a skip and leaves the loss scale
(DEDUCED; Assumption 27). -/
def State.abandonStep (s : State) (step : Nat) : State :=
  let s := s.p .red 0 Off.redStepctl 61 0 step
  if s.redState ≠ 0 ∧ s.phase = 0 ∧ s.redStep = step then (s.redDiscard).skipEnd step false
  else s.raise .red 0 Ev.redCfgRefused

/-- STEP_CLOSE (R363). -/
def execStepClose (step : BitVec 62) (s : State) : Host.Outcome State Fault Refusal :=
  .next (redWrite s Off.redStepctl (·.closeStep step.toNat))

/-- STEP_ABANDON (R370). -/
def execStepAbandon (step : BitVec 62) (s : State) : Host.Outcome State Fault Refusal :=
  .next (redWrite s Off.redStepctl (·.abandonStep step.toNat))

/-- STEP_VOTE (R363, R391): a closed step whose work is complete is voted on; a leaf's record leaves at once. -/
def execStepVote (s : State) : Host.Outcome State Fault Refusal :=
  .next (if s.redState = 2 ∧ s.stepWaiting = 0 ∧
      !(s.g .ras 0 Off.rasReplay 63 63 = 1 && s.g .ras 0 Off.rasReplay 47 0 = s.redStep) then
    let s := s.setRed { s.red with own := some s.ownRecord }
    (s.setRedState 3).combine
  else s)

/-- VERDICT_COMBINE (R364). -/
def execVerdictCombine (s : State) : Host.Outcome State Fault Refusal := .next s.combine

/-- VERDICT_RECEIVED (R363, R364). -/
def execVerdictReceived (s : State) : Host.Outcome State Fault Refusal :=
  .next (match s.red.verdict with
    | some r => if s.redState = 3 ∧ s.phase = 0 then (match s.passVerdict r with
        | some s => s.verdictAct r
        | none => s) else s
    | none => s)

/-- TWIN_STAGED (R48, R363): kept until the local STAGED is written, then compared. -/
def execTwinStaged (digest : Word) (s : State) : Host.Outcome State Fault Refusal :=
  .next (if s.redState = 0 ∧ s.phase = 0 then s
    else
      let s := s.setRed { s.red with twinDigest := some digest }
      if s.phase = 2 ∧ !s.red.redo ∧ !s.jrn.held then s.compareDigest false else s)

/-- MIRROR_REDO_DONE (R363, R49): every owned slab is staged again, and STAGED is exchanged again. -/
def execMirrorRedoDone (s : State) : Host.Outcome State Fault Refusal :=
  .next (if s.red.redo ∧ s.phase ≠ 0 ∧ !s.slabsOpen ∧ (List.range 24).all (fun u => (s.unit u).run.isNone) then
    let s := s.setRed { s.red with redo := false }
    -- a replayed slab that failed keeps its own result from the commit (R49)
    if (List.range 24).any fun u => s.g (unitPage u).1 (unitPage u).2 Off.inlUpdword 0 0 = 1 then s.holdCommit else s.writeStaged false
  else s)

/-- TWIN_FLIPPED (R48): the twin's FLIPPED arrives in phase 4, and the commit ends. -/
def execTwinFlipped (s : State) : Host.Outcome State Fault Refusal :=
  .next (if s.phase = 4 then s.commitEnd (s.redState = 0) else s)

/-- VERDICT_TIMEOUT (R370). -/
def execVerdictTimeout (s : State) : Host.Outcome State Fault Refusal :=
  .next (if (s.redState = 2 ∨ s.redState = 3) ∧ s.phase = 0 then s.raise .red 0 Ev.redVerdictTimeout else s)

/-- COMMIT_TIMEOUT (R370): the wellhead escalates to Warm (R32 code 0x13); not during a hold of R51. -/
def execCommitTimeout (s : State) : Host.Outcome State Fault Refusal :=
  .next (if s.phase ≠ 0 ∧ !s.jrn.held then (s.raise .red 0 Ev.redCommitTimeout).requestReset .warm 0 0x13 else s)

/-- RED_BANKSET (R370). -/
def State.writeBankset (s : State) (cur : Bool) : State :=
  let c := if cur then 1 else 0
  if s.redState = 0 ∧ s.phase = 0 then (s.p .red 0 Off.redStepstat 53 53 c).p .red 0 Off.redStepstat 52 52 (1 - c)
  else s.raise .red 0 Ev.redCfgRefused

/-- RED_BANKSET_WRITE (R370). -/
def execRedBanksetWrite (cur : Bool) (s : State) : Host.Outcome State Fault Refusal :=
  .next (redWrite s Off.redBankset (·.writeBankset cur))

/-- A clear of the layer watch applies after any commit end in progress (R369): while the journal is not IDLE it waits. -/
def State.writeLwclr (s : State) (x : Option Nat) : State :=
  let s := s.setRed { s.red with lwClears := s.red.lwClears ++ [x] }
  if s.phase = 0 then s.lwClearsDue else s

/-- LW_CLEAR_ENTRY (R369). -/
def execLwClearEntry (n : BitVec 12) (s : State) : Host.Outcome State Fault Refusal :=
  .next (redWrite s Off.redLwclr (·.writeLwclr (some n.toNat)))

/-- LW_CLEAR_ALL (R369). -/
def execLwClearAll (s : State) : Host.Outcome State Fault Refusal :=
  .next (redWrite s Off.redLwclr (·.writeLwclr none))

/-- RED_BSTEER1 (R382): acts only in STATE 0. -/
def State.writeBsteer1 (s : State) (v : Word) : State :=
  if s.redState = 0 then (s.p .red 0 Off.redBsteer1 63 56 (fld v 63 56)).p .red 0 Off.redBsteer1 31 16 (fld v 31 16)
  else s.raise .red 0 Ev.redCfgRefused

/-- RED_BSTEER2 (R382): with LOAD 1, RED_GNS1.EMA takes the value; acts only in STATE 0. -/
def State.writeBsteer2 (s : State) (load : Bool) (ema : Nat) : State :=
  if s.redState ≠ 0 then s.raise .red 0 Ev.redCfgRefused
  else if load then s.p .red 0 Off.redGns1 63 32 ema else s

/-- BSTEER_STATE_WRITE (R382). -/
def execBsteerStateWrite (v : Word) (s : State) : Host.Outcome State Fault Refusal :=
  .next (redWrite s Off.redBsteer1 (·.writeBsteer1 v))

/-- BSTEER_EMA_LOAD (R382). -/
def execBsteerEmaLoad (ema : W32) (s : State) : Host.Outcome State Fault Refusal :=
  .next (redWrite s Off.redBsteer2 (·.writeBsteer2 true ema.toNat))

end Sys2Proof.Machine
end

