-- ==== Sys2Proof/Machine/Streams.lean ====
section
/-! DEFINITION. Stream commands: starts by codec, grants, landings, completions, timeouts, copy-on-write, and what resolving
or failing a translation fault does to those that it holds (R228 to R231, R233 to R255). -/

namespace Sys2Proof.Machine

namespace State

/-! ### Starting and moving -/

/-- What starting an operation does, by its CODEC, once its WAIT is met. -/
def beginCodec (s : State) (q : Nat) (o : Op) : State :=
  match o.codec with
  | 0x30 => s.shlBegin q o
  | 0x40 => s.actSaveBegin q o
  | 0x41 => s.actRestoreBegin q o
  | 0x51 => s.kvGatherBegin q o
  | 0x52 => s.kvWriteBegin q o
  | 0x53 => s.kvSendBegin q o
  | 0x62 | 0x63 | 0x64 | 0x65 => s.stgBegin q o
  | _ => s.beginPlain q o

/-- Start a plain operation of a KIND; a descriptor with a reserved CODEC or KIND starts here too and fails its checks
(R239). A hub queue runs KIND 2 only (R235). -/
def startPlain (s : State) (q : Nat) (kind : Nat → Bool) : State :=
  s.startIf q (fun o => (o.codec = 0 || !Op.codecKnown o.codec) && kind o.kind)
    (fun o => o.codec = 0 && o.checks true && (isCoreQ q || o.kind = 2)) beginPlain

/-- Issue the next transfer of an operation, by its CODEC; operations without transfers issue none. -/
def issueNext (s : State) (q : Nat) (o : Op) : State :=
  match o.codec with
  | 0x20 => s.issuePatch q o false
  | 0x21 => s.issuePatch q o true
  | 0x60 | 0x61 => s.issueFab q o
  | 0x30 | 0x53 | 0x62 | 0x63 | 0x64 | 0x65 => s
  | 0 => s.issuePlain q o
  | _ => s.issuePacked q o

/-- The first operation of a queue with a transfer to issue. -/
def toIssue (s : State) (q : Nat) : Option Op :=
  (s.queue q).find? fun o => o.started && o.wait = .none && o.poison.isNone && decide (o.issued < o.total)

/-- What landing a transfer of an operation gives, by its CODEC; a fabric transfer to another module lands by its response
(R332). -/
def landNext (s : State) (q : Nat) (o : Op) (x : Xfer) : Land :=
  match o.codec with
  | 0x20 => s.landPatch q o x false
  | 0x21 => s.landPatch q o x true
  | 0x40 => s.landSave q o x
  | 0x41 => s.landRestore q o x
  | 0x50 => s.landMask q o x
  | 0x51 => s.landGather q o x
  | 0x52 => s.landKvWrite q o x
  | 0x70 => s.landPush q o x
  | 0x60 | 0x61 => if (fabRemote o).1 = s.logid then s.landPlain q o x else .wait
  | c => if (fmCodec c).isSome then s.landFm q o x else s.landPlain q o x

/-- Transfers in flight on a queue, oldest operation first. -/
def flights (s : State) (q : Nat) : List (Op × Xfer) := ((s.queue q).map fun o => o.xfers.map fun x => (o, x)).flatten

/-- The first operation of a queue has done all its chunks, or ends without a tail (R245, R251). -/
def opDone (o : Op) : Bool :=
  o.started && !o.held && (decide (o.chunks ≤ o.cursor) || (match o.poison with
    | some (c, _) => c = 4 || c = 5
    | none => false))

/-- Move every operation of a queue. -/
def pumpQueue (s : State) (q : Nat) : State := (s.queue q).foldl (fun s o => s.pump q o.id) s

/-! ### Faults resolved and failed -/

/-- Those that a fault held go on: queues move, parked requests are tried again (R228, R250, R333). -/
def afterResume (s : State) (f : XFault) : State :=
  (f.holders.foldl (fun s h => if isQueue h.1 then s.pumpQueue h.1 else s) s).unpark

/-- The first command of a ring that has not finished ends with FAULT (R98, R229). -/
def ringFault (s : State) (r : Nat) : State :=
  match (s.ring r).cmds.find? fun c => match c.phase with
      | .finished _ _ => false
      | _ => true with
  | some c => s.finishCmd r c.uid 5 0
  | none => s

/-- What a holder meets when its fault is unresolvable (R229). -/
def holderFail (s : State) (h va : Nat) : State :=
  if isQueue h then match s.heldOp h va with
    | some o =>
      let s := s.markHeld h va false
      match s.op? h o.id with
      | some o =>
        if o.started && decide (o.chunks ≤ o.cursor) then s.completeOp h o true
        else if o.codec = 0x30 then match (s.shlJobs (queueBasin h)).find? fun j => j.op = o.id with
          | some j => s.shlFail (queueBasin h) j 1 0 Ev.shlJobPoisoned
          | none => s.poisonTail h o.id 1 o.cursor
        else s.poisonTail h o.id 1 o.cursor
      | none => s
    | none => s
  else if h < 30064 then s.ringFault (h - 30000)
  else if 40500 ≤ h ∧ h < 40548 then s.nackParked (h - 40500) va
  else
    let u := if 40548 ≤ h ∧ h < 40560 then some (h - 40548) else if 40600 ≤ h ∧ h < 40612 then some (h - 40588) else none
    match u with
    | none => s
    | some u =>
      let v := s.unit u
      let s := match v.run, v.queue with
        | none, x :: rest => s.setUnit u { v with run := some x, queue := rest }
        | _, _ => s
      s.unitFail u Ev.inlUpdateFault 0

/-- A fault is unresolvable (R229): UNRESOLVED, and everything that it holds ends. -/
def xltFail (s : State) (f : XFault) : State :=
  let s := { s with mem := { s.mem with faults := s.mem.faults.filter (·.id ≠ f.id) } }
  let s := (s.raise .xlt 0 Ev.xltUnresolved).bump .xlt 0 (0x200 + 24) 1
  let s := s.record .xlt 0 0x0F 4 0 (addr := f.va)
  (f.holders.foldl (fun s h => s.holderFail h.1 h.2) s).pullHost

/-! ### Copy-on-write (R254, R255) -/

/-- The map descriptor number lies in a configured KV pool (R304, R312). -/
def inKvPool (s : State) (n : Nat) : Bool :=
  (List.range 4).any fun k => s.poolK k ≠ 0 &&
    (let b := s.g .kvp 0 (Off.kvpPoolcfg + 32 * k) 52 32; b ≤ n && n < b + s.poolCount k)

/-- What the wellhead decides about a copy: the entry's address and new page, or the fault kind for the host. -/
def cowTake (s : State) (b : Nat) (e : Xent) : Nat ⊕ (Nat × Nat) :=
  let k := s.g .sth b Off.sthCowpool 5 0
  let head := s.g .sth b Off.sthCowidx 15 0
  let kv : Bool := match s.mapFind e.va s.mapLen with
    | some (_, _, n) => s.inKvPool n
    | none => false
  if kv || k = 0 || e.log2 ≠ k then .inl 2
  else if head = s.g .sth b Off.sthCowidx 31 16 then .inl 5
  else
    let a := s.g .sth b Off.sthCowpool 52 12 * 4096 + 32 * head
    let w := leNat (rdBytes s.mem.bytes a 8)
    if w % 2 ^ k ≠ 0 ∨ !s.mapped w (2 ^ k) then .inl 4 else .inr (a, w)

/-- A copy that found its pool empty raises COW_POOL_EMPTY. -/
def cowEmpty (s : State) (b k : Nat) : State := if k = 5 then s.raise .sth b Ev.sthCowPoolEmpty else s

/-- Begin the copy of an entry's page for a queue's write. -/
def cowBegin (s : State) (b : Nat) (e : Xent) (a new q va : Nat) : State :=
  let step := match s.heldOp q va with
    | some o => o.step
    | none => 0
  let c : Cow := { va := e.va, oldPa := e.pa, newPa := new, log2 := e.log2, entry := a, step := step }
  { s with mem := { s.mem with cow := tset s.mem.cow none b (some c) } }

/-- Release the queues held by a copy of a page, but for those that a fault holds. -/
def cowResume (s : State) (c : Cow) : State :=
  s.queues.foldl (fun s e =>
    e.2.foldl (fun s o =>
      let on := o.held && o.xfers.any fun x => (match x.va with
          | some v => c.va ≤ v && v < c.va + 2 ^ c.log2
          | none => false) || decide (c.va ≤ bat o.desc 8 8 + x.off ∧ bat o.desc 8 8 + x.off < c.va + 2 ^ c.log2)
      if on && !s.mem.faults.any (fun f => f.holders.any fun h => h.1 = e.1) then
        (s.modOp e.1 o.id fun o => { o with held := false }).pump e.1 o.id
      else s) s) s

/-- End the copy of a basin: the map entry, the directory, the pool entry, HEAD, COW_COPY, and the held writes. -/
def cowEnd (s : State) (b : Nat) (c : Cow) : State :=
  let s := s.copyPhys c.oldPa c.newPa (2 ^ c.log2)
  let s := match s.mapFind c.va s.mapLen with
    | some (d, _, n) =>
      let e := Xent.ofBytes d
      let m := { e with pa := c.newPa, ref := 1, flags := e.flags &&& 0xFFEF }
      s.storePhys ((s.rd (pageBase .xlt 0 + Off.xltMapbase)).toNat + 32 * n) m.bytes
    | none => s
  let s := (List.range 4).foldl (fun s k => s.setSlice k ((s.slice k).filter fun x => !x.meets c.va (2 ^ c.log2))) s
  let s := s.storePhys (c.entry + 8) (natBytes 8 c.va ++ natBytes 8 c.oldPa ++ natBytes 8 (2 ^ 63 + c.step.toNat % 2 ^ 63))
  let len := max 1 (s.g .sth b Off.sthCowidx 47 32)
  let s := s.p .sth b Off.sthCowidx 15 0 ((s.g .sth b Off.sthCowidx 15 0 + 1) % len)
  let s := { s with mem := { s.mem with cow := tset s.mem.cow none b none } }
  ((s.raise .sth b Ev.sthCowCopy).bump .sth b (0x200 + 40) 1).cowResume c

/-- A search for a fault has ended, `again` on the second read of R229. A write that meets a shared page goes on to its
copy (R254). -/
def searchEnd (s : State) (f : XFault) (again : Bool) : State :=
  let q := (f.holders.head?.map (·.1)).getD 0
  match s.translate f.slice f.va f.write with
  | .cow e =>
    if f.kind ≠ 0 ∧ isQueue q then match s.cowTake (queueBasin q) e with
      | .inl k => let s := s.cowEmpty (queueBasin q) k; if f.round ≥ 5 then s.xltFail f else s.toHost f k
      | .inr (a, n) =>
        if (tget s.mem.cow none (queueBasin q)).isSome then s
        else
          let m := { s.mem with faults := s.mem.faults.filter (·.id ≠ f.id) }
          ({ s with mem := m }.cowBegin (queueBasin q) e a n q f.va).pullHost
    else (s.mapDone f again xltFail).afterResume f
  | _ => (s.mapDone f again xltFail).afterResume f

end State

/-- STREAM_IN (R237, R238). -/
def execStreamIn (q : Nat) (s : State) : Host.Outcome State Fault Refusal :=
  .next (s.startPlain q fun k => k = 0 || decide (2 < k))

/-- STREAM_OUT (R237, R238). -/
def execStreamOut (q : Nat) (s : State) : Host.Outcome State Fault Refusal := .next (s.startPlain q (· = 1))

/-- STREAM_COPY (R237). -/
def execStreamCopy (q : Nat) (s : State) : Host.Outcome State Fault Refusal := .next (s.startPlain q (· = 2))

/-- A core queue issues no transfer from a swap's drain point until the swap ends (R111). -/
def swapIdle (s : State) (q : Nat) : Bool :=
  State.isCoreQ q && (match (s.core (q / 8)).swap with
    | .drained _ _ | .copying _ _ => true
    | .none | .waiting _ _ => false)

/-- TRANSFER_GRANT (R241 to R243). -/
def execTransferGrant (q : Nat) (s : State) : Host.Outcome State Fault Refusal :=
  .next (match s.toIssue q with
    | none => s
    | some o =>
      if !swapIdle s q && decide (s.inFlight q < s.outLimit q) && s.chunkOpen q o (o.issued / o.chunk) && (State.noSlot o || s.slotGrant q o) then
        s.issueNext q o
      else s)

/-- TRANSFER_LANDED (R237, R241): the n-th transfer in flight on a queue. -/
def execTransferLanded (q n : Nat) (s : State) : Host.Outcome State Fault Refusal :=
  .next (match (s.flights q)[n]? with
    | some (o, x) => s.landed q o x (s.landNext q o x)
    | none => s)

/-- STREAM_OP_COMPLETE (R245). -/
def execStreamOpComplete (q : Nat) (s : State) : Host.Outcome State Fault Refusal :=
  .next (match (s.queue q).find? State.opDone with
    | some o => ((s.completeOp q o false).stgWake).stgCfgDue
    | none => s)

/-- STREAM_WAIT_POLL (R245). -/
def execStreamWaitPoll (q : Nat) (s : State) : Host.Outcome State Fault Refusal :=
  .next (match s.waiting q (· = .val) with
    | none => s
    | some o =>
      if o.held then s
      else if o.waitEn then match s.vread (State.qSlice q) (bat o.desc 96 8) 8 with
        | .ok _ true s' => (s'.reportPoison q o (bat o.desc 96 8)).poisonTail q o.id 3 0
        | .ok bs false s' => if bat o.desc 104 8 ≤ leNat bs then s'.beginCodec q o else s'
        | .hostDown => s.poisonTail q o.id 6 0
        | _ => s
      else s.beginCodec q o)

/-- STREAM_TRANSFER_TIMEOUT (R253): the timer pauses while the transfer's operation is held. -/
def execStreamTransferTimeout (q n : Nat) (s : State) : Host.Outcome State Fault Refusal :=
  .next (match (s.flights q)[n]? with
    | some (o, _) =>
      if o.held || State.noSlot o then s
      else
        let b := State.queueBasin q
        ((s.raise .sth b Ev.sthStreamTimeout).bump .sth b (0x200 + 24) 1).poisonTail q o.id 2 o.cursor
    | none => s)

/-- COW_COPY_START (R254): a write of a queue meets a shared page; the write is held, and the wellhead takes a pool entry
or sends a fault to the host. Writes to a page whose copy runs join it. -/
def execCowCopyStart (basin va q : Nat) (s : State) : Host.Outcome State Fault Refusal :=
  .next (if basin < 4 ∧ State.queueBasin q = basin ∧ State.isQueue q then
    match s.translate (State.qSlice q) va true with
    | .cow e =>
      let s := s.countCow
      match tget s.mem.cow none basin with
      | some c => if c.va = e.va then s.holdQueue q va else s
      | none => match s.cowTake basin e with
        | .inl k =>
          let s := s.cowEmpty basin k
          s.cowFault (State.qSlice q) va q k
        | .inr (a, n) => (s.holdQueue q va).cowBegin basin e a n q va
    | _ => s
  else s)

/-- COW_COPY_DONE (R255). -/
def execCowCopyDone (basin : Nat) (s : State) : Host.Outcome State Fault Refusal :=
  .next (match tget s.mem.cow none basin with
    | some c => s.cowEnd basin c
    | none => s)

/-- MAP_SEARCH_DONE (R228). -/
def execMapSearchDone (fault : Nat) (s : State) : Host.Outcome State Fault Refusal :=
  .next (match s.mem.faults.find? fun f => f.id = fault && f.stage = .search with
    | some f => s.searchEnd f false
    | none => s)

/-- MAP_DESC_RECHECK (R229). -/
def execMapDescRecheck (fault : Nat) (s : State) : Host.Outcome State Fault Refusal :=
  .next (match s.mem.faults.find? fun f => f.id = fault && f.stage = .recheck with
    | some f => s.searchEnd f true
    | none => s)

/-- XLT_FAULT_TIMEOUT (R229): the host has not answered a queued fault in time. -/
def execXltFaultTimeout (fault : Nat) (s : State) : Host.Outcome State Fault Refusal :=
  .next (match s.mem.faults.find? fun f => f.id = fault && f.stage = .queued with
    | some f => s.xltFail f
    | none => s)

end Sys2Proof.Machine
end

