-- ==== Sys2Proof/Machine/Rings.lean ====
section
/-! DEFINITION. Work rings (R90 to R99): opening, closing, doorbells, fetching, completions, and the ring commands of R96
with the dispatch of launches (R122 to R124, R379, R380). -/

namespace Sys2Proof.Machine

/-- Bytes [o, o + n) of the operand field, counted from byte 24 of a format 2 entry (R95). -/
def Cmd.arg (c : Cmd) (o n : Nat) : Nat := nfld c.opnd.toNat (8 * (o + n) - 1) (8 * o)

/-- A command that has not started. -/
def Cmd.fetched (c : Cmd) : Bool := c.phase = .fetched

/-- A command that has ended and whose completion is not written yet. -/
def Cmd.ended (c : Cmd) : Bool :=
  match c.phase with
  | .finished _ _ => true
  | .fetched | .started => false

/-- FLAGS.FENCE of a command (R95). -/
def Cmd.fenced (c : Cmd) : Bool := c.flags.toNat.testBit 1

/-- Operand offsets that hold addresses (R96). -/
def addrArgs : Nat → List Nat
  | 1 | 3 | 6 | 7 => [0]
  | 2 => [8]
  | 4 => [0, 8]
  | _ => []

/-- STATUS of a command that ends as it is fetched (R95, R96); none when it goes on. -/
def Cmd.refused (c : Cmd) (fmt : Nat) : Option Nat :=
  let op := c.op.toNat
  if 8 < op then some 1
  else if op = 8 ∧ fmt = 0x10 then some 3
  else if 2 ^ 48 ≤ c.step.toNat ∨ (addrArgs op).any (fun o => decide (2 ^ 57 ≤ c.arg o 8)) then some 2
  else none

/-- The command that an entry of a format holds (R95). -/
def Cmd.ofEntry (uid fmt : Nat) (e : Bytes) : Cmd :=
  let two := fmt = 0x20
  { uid := uid, op := BitVec.ofNat 8 (bat e 0 1), flags := BitVec.ofNat 8 (bat e 1 1), tag := BitVec.ofNat 32 (bat e 4 4)
    step := BitVec.ofNat 64 (if two then bat e 8 8 else 0), wu := BitVec.ofNat 64 (if two then bat e 16 8 else 0)
    opnd := BitVec.ofNat 192 (bat e (if two then 24 else 8) 24), phase := .fetched }

namespace State

/-! ### Host memory and ring state -/

/-- Bytes at a host address; none where the device cannot read them. -/
def hostRead (s : State) (a n : Nat) : Option Bytes :=
  if hostRange a n && s.physRes (hostMpa a) n = .ok && !s.physPoison (hostMpa a) n then some (rdBytes s.mem.bytes (hostMpa a) n)
  else none

/-- Write bytes at a host address; none where the device cannot. -/
def hostWrite (s : State) (a : Nat) (bs : Bytes) : Option State :=
  if hostRange a bs.length && s.physRes (hostMpa a) bs.length = .ok then some (s.storePhys (hostMpa a) bs) else none

/-- A ring stops on an error (R99). -/
def ringStop (s : State) (r e : Nat) : State :=
  (s.setRing r { s.ring r with st := 2, err := BitVec.ofNat 8 e }).raise .hlk 0 Ev.hlkRingError

/-- Writable bits of HLK_RCFG (R91). -/
def rcfgMask (v : Word) : Word := BitVec.ofNat 64 (fld v 47 32 * 2 ^ 32 + fld v 20 16 * 2 ^ 16 + fld v 1 0)

/-- BAR0 offset of a ring's HLK_RCFG. -/
def rcfgAt (r : Nat) : Nat := pageBase .hlk 0 + Off.hlkRcfg + 0x20 * r

/-- Open a ring (R93): SIZE, then the format. -/
def openRing (s : State) (r : Nat) (v : Word) : State :=
  let s := s.wr (rcfgAt r) (rcfgMask v)
  if fld v 20 16 < 6 ∨ 16 < fld v 20 16 then s.setRing r { ringClosed with err := 5 }
  else match s.negotiate 2 (· = fld v 47 40) with
    | (s, none) => s.setRing r { ringClosed with err := 4 }
    | (s, some f) => s.setRing r { ringClosed with fmt := BitVec.ofNat 8 f, phase := true, st := 1, fill := bit v 1 }

/-- End every started command of a ring with ABORTED (R99, R124 cause 8, R252 cause RESET); unstarted ones go. -/
def abortRing (s : State) (r cls : Nat) : State :=
  let x := s.ring r
  let s := { s with loads := s.loads.filter (·.ring ≠ r) }
  let s := s.setRing r { x with cmds := x.cmds.filter fun c => !c.fetched }
  x.cmds.foldl (fun s c =>
    if c.phase = .started then
      let s := match s.launch? c.uid with
        | some l => s.launchEnd c.uid 8 (l.targets.headD 0) cls
        | none => s
      let s := (List.range 32).foldl (fun s k => s.resetOps (18432 + k) fun o => match o.cmd with
        | some (r', u, _) => r' = r && u = c.uid
        | none => false) s
      s.finishCmd r c.uid 7 0
    else s) s

/-- A Queue reset of a ring starts (R99): its completions are written before the ring's fields return to 0. -/
def ringResetStart (s : State) (r : Nat) : State :=
  if (s.ring r).st = 3 then s
  else
    let s := s.abortRing r 5
    (s.setRing r { s.ring r with st := 3 }).wr (rcfgAt r) (putBit (s.rcfg r) 63 true)

/-- A write of HLK_RCFG (R91, R93, R99, R106): RESET takes precedence; while a Queue reset runs the write is ignored. -/
def writeRcfg (s : State) (r : Nat) (v : Word) : State :=
  let x := s.ring r
  if x.st = 3 then s
  else if bit v 63 then s.ringResetStart r
  else if x.st = 0 then (if bit v 0 then s.openRing r v else s.wr (rcfgAt r) (rcfgMask v))
  else
    let s := s.wr (rcfgAt r) (rcfgMask v)
    if bit v 0 then s else s.setRing r { x with closing := true }

/-! ### Starting commands (R97) -/

/-- The oldest unstarted command of an open ring, when its FENCE is met. -/
def headCmd (s : State) (r : Nat) : Option Cmd :=
  let x := s.ring r
  if x.st ≠ 1 || x.closing then none
  else match x.cmds.find? (·.fetched) with
    | some c => if c.fenced && !(x.cmds.head?.any (·.uid = c.uid)) then none else some c
    | none => none

/-- The head command, when it has an opcode. -/
def headOp (s : State) (r op : Nat) : Option Cmd :=
  match s.headCmd r with
  | some c => if c.op.toNat = op then some c else none
  | none => none

/-- The head command starts. -/
def startCmd (s : State) (r uid : Nat) : State := s.modCmd r uid fun c => { c with phase := .started }

/-- A started FENCE with no command before it ends (R96). -/
def fenceDone (s : State) (r : Nat) : State :=
  match (s.ring r).cmds with
  | c :: _ => if c.op = 5 ∧ c.phase = .started then s.finishCmd r c.uid 0 0 else s
  | [] => s

/-- A completion entry of a format (R98). -/
def complEntry (s : State) (r : Nat) (c : Cmd) (st : BitVec 16) (res : Word) : Bytes :=
  let x := s.ring r
  natBytes 4 c.tag.toNat ++ natBytes 2 st.toNat ++ natBytes 1 r ++ natBytes 1 (if x.phase then 1 else 0) ++ natBytes 8 res.toNat ++
    (if x.fmt = 0x20 then natBytes 8 c.step.toNat ++ natBytes 8 s.now.toNat else [])

/-- Bytes of a completion entry. -/
def complLen (x : Ring) : Nat := if x.fmt = 0x20 then 32 else 16

/-- Write the completion of an ended command, or stop the ring with ERROR 3 where it cannot be written (R98, R99). -/
def complete (s : State) (r : Nat) (c : Cmd) (st : BitVec 16) (res : Word) : State :=
  let x := s.ring r
  let a := fld (s.rd (rcfgAt r + 16)) 63 12 * 4096 + x.ctail * complLen x
  let s' := s.setRing r { x with cmds := x.cmds.filter (·.uid ≠ c.uid) }
  if x.err = 3 then s'.fenceDone r
  else match s'.hostWrite a (s.complEntry r c st res) with
    | none => (if x.st = 3 then s' else s'.ringStop r 3).fenceDone r
    | some s =>
      let y := s.ring r
      let wrap := s.ringSize r ≤ y.ctail + 1
      let s := s.setRing r { y with ctail := if wrap then 0 else y.ctail + 1, phase := if wrap then !y.phase else y.phase }
      let s := if c.flags.toNat.testBit 0 then s.msix (fld (s.rcfg r) 39 32) else s
      s.fenceDone r

/-- Free completion slots: those that the completion head leaves, less the ones that commands in hand will take (R94). -/
def slotsLeft (s : State) (r : Nat) : Nat :=
  let x := s.ring r
  let n := s.ringSize r
  n - 1 - (x.ctail + n - x.chead) % n - x.cmds.length

/-- Fetch the next entry of a ring (R94, R95). -/
def fetchCmd (s : State) (r : Nat) : State :=
  let x := s.ring r
  let n := if x.fmt = 0x20 then 64 else 32
  match s.hostRead (fld (s.rd (rcfgAt r + 8)) 63 12 * 4096 + x.head * n) n with
  | none => s.ringStop r 2
  | some e =>
    let c := Cmd.ofEntry s.hlk.nextUid x.fmt.toNat e
    let c := match c.refused x.fmt.toNat with
      | some st => { c with phase := .finished (BitVec.ofNat 16 st) 0 }
      | none => c
    let s := { s with hlk := { s.hlk with nextUid := s.hlk.nextUid + 1 } }
    s.setRing r { x with head := (x.head + 1) % s.ringSize r, cmds := x.cmds ++ [c] }

/-- A command that a read or write of memory on its behalf ends, or keeps waiting (R98): the status is none to wait. -/
def vstatus : VRes → Option Nat
  | .ok _ true _ | .hostDown => some 8
  | .ok _ false _ => some 0
  | .cow _ | .held => none

/-! ### LOAD_KERNEL (R204) -/

/-- LOAD_KERNEL at the head of a ring. -/
def loadRun (s : State) (r : Nat) (c : Cmd) : State :=
  let va := c.arg 0 8
  let len := c.arg 8 4
  let bad (s : State) (f : LoadFail) : State := (s.startCmd r c.uid).finishCmd r c.uid f.status (BitVec.ofNat 64 f.result)
  if len < 64 then bad s (loadBad 2 len)
  else match s.vread 0 va 64 with
    | .ok h false s => match s.negotiate 1 (· = bat h 4 1) with
      | (s, none) => bad s { status := 4, result := bat h 4 1 }
      | (s, some v) =>
        if bat h 0 4 ≠ 0x4E545053 then bad s (loadBad 1 0)
        else if len ≠ 64 + 8 * bat h 8 4 then bad s (loadBad 2 len)
        else match s.vread 0 va len with
          | .ok img false s => match imageKernel v img with
            | .error f => bad s f
            | .ok k => (s.startCmd r c.uid).loadPlace r c.uid (BitVec.ofNat 64 (bat img 32 8)) k
          | .ok _ true _ | .hostDown => bad s { status := 8, result := 0 }
          | .cow _ | .held => s
    | .ok _ true _ | .hostDown => bad s { status := 8, result := 0 }
    | .cow _ | .held => s

/-! ### LAUNCH (R122 to R124, R379, R380) -/

/-- Target cores of a target code (R96), ascending; none for an unknown code. -/
def targetsOf (s : State) (t : Nat) : Option (List Nat) :=
  if t < 64 then some ((List.range 2304).filter fun c => bit (s.rd (pageBase .cor c + Off.corGroup)) t)
  else if 0xFF00 ≤ t ∧ t < 0xFF04 then some ((List.range 576).map ((t - 0xFF00) * 576 + ·))
  else if t = 0xFFFF then some (List.range 2304)
  else none

/-- Every basin of a target is READY (R39). -/
def targetsReady (s : State) (cs : List Nat) : Bool := (List.range 4).all fun b => s.basinReady b || !(cs.any (· / 576 = b))

/-- A ring whose next LAUNCH may take its turn: a target with a basin that is not ready is held in its ring (R39, R122). -/
def launchDue (s : State) (r : Nat) : Bool :=
  match s.headOp r 2 with
  | some c => s.targetsReady ((s.targetsOf (c.arg 16 2)).getD [])
  | none => false

/-- ROLE of a fill ring (R379). -/
def roleOf (s : State) (r : Nat) : Bool := bit (s.rd (pageBase .hlk 0 + Off.hlkFillrole)) r

/-- The fill policy lets a ring take a turn (R379). -/
def policyLets (s : State) (r : Nat) : Bool :=
  let p := s.g .hlk 0 Off.hlkFillctl 1 0
  let other (role : Bool) : Bool := (List.range 64).any fun n => (s.ring n).fill && s.roleOf n = role && (s.headCmd n).isSome
  if p = 1 ∧ s.roleOf r then !other false else if p = 2 ∧ !s.roleOf r then !other true else true

/-- The ring whose launch goes next in the sequence of its class (R122). -/
def turnOf (s : State) (fill : Bool) : Option Nat :=
  let last := if fill then s.hlk.lastFill else s.hlk.lastPri
  let due (r : Nat) : Bool := (s.ring r).fill = fill && s.launchDue r && (!fill || s.policyLets r)
  ((List.range 64).map fun k => (last + 1 + k) % 64).find? due

/-- Why a launch ends at dispatch: cause, core and detail (R124); the order of several is 5, 9, 4, 3, 2 (DESIGN CHOICE;
Assumption 31). -/
def launchRefusal (s : State) (fill : Bool) (h : Word) (t shoals : Nat) (cs : Option (List Nat)) : Option (Nat × Nat × Nat) :=
  match cs with
  | none | some [] => some (5, 0, t)
  | some (c :: rest) => match s.kernelOf h with
    | none => some (9, c, h.toNat % 2 ^ 32)
    | some k =>
      let all := c :: rest
      if !k.target.toNat.testBit 0 then some (9, c, h.toNat % 2 ^ 32)
      else match all.find? fun c => fill && (s.g .cor c Off.corPart 20 16 = 0 || s.g .cor c Off.corPart 3 0 = 0) with
        | some c => some (4, c, 0)
        | none => match all.find? fun c => shoals = 0 || decide ((s.classSlots c fill).2 < shoals) with
          | some c => some (3, c, (s.classSlots c fill).2)
          | none => match all.find? fun c => decide ((s.classRegion c fill).2 < k.need) with
            | some c => some (2, c, (s.classRegion c fill).2)
            | none => none

/-- Budget of counted cycles (R380): 0 when no work units are declared. -/
def budgetOf (s : State) (c : Cmd) : Nat :=
  min (2 ^ 64 - 1) (c.wu.toNat * max 1 (s.g .hlk 0 Off.hlkWucfg 31 0) * max 1 (s.g .hlk 0 Off.hlkWucfg 39 32))

/-- Queue of a class on a core. -/
def classQ (s : State) (c : Nat) (fill : Bool) : List Nat := if fill then (s.core c).fillQ else (s.core c).priQ

/-- A launch enters the queue of each target core (R122, R123). -/
def enqueue (s : State) (l : Nat) (x : Launch) : State :=
  x.targets.foldl (fun s c =>
    let y := s.core c
    s.setCore c (if x.fill then { y with fillQ := y.fillQ ++ [l] } else { y with priQ := y.priQ ++ [l] })) s

/-- LAUNCH at the head of a ring whose turn it is (R122 to R124); it waits while a target's queue is full. -/
def dispatch (s : State) (r : Nat) (c : Cmd) : State :=
  let fill := (s.ring r).fill
  let h := BitVec.ofNat 64 (c.arg 0 8)
  let shoals := c.arg 18 2
  let cs := s.targetsOf (c.arg 16 2)
  let took (s : State) : State :=
    let k := if fill then { s.hlk with lastFill := r } else { s.hlk with lastPri := r }
    { s with hlk := k }.startCmd r c.uid
  match s.launchRefusal fill h (c.arg 16 2) shoals cs, s.kernelOf h with
  | some (cause, core, detail), _ => (took s).finishCmd r c.uid 2 (BitVec.ofNat 64 (cause * 2 ^ 48 + core * 2 ^ 32 + detail % 2 ^ 32))
  | none, some k =>
    let cs := cs.getD []
    if cs.all fun d => decide ((s.classQ d fill).length < 4) then
      let x : Launch := { ring := r, uid := c.uid, fill := fill, handle := h, kernel := k, args := BitVec.ofNat 64 (c.arg 8 8)
                          targets := cs, shoals := shoals, step := c.step, budget := s.budgetOf c, started := [], ended := []
                          poisoned := [] }
      ((took s).setLaunch c.uid (some x)).enqueue c.uid x
    else s
  | none, none => s

/-! ### STREAM and COPY (R235) -/

/-- Push one operation of a ring command on a hub queue; `aux` is what `retireOp` adds to its RESULT. -/
def pushHub (s : State) (q r : Nat) (c : Cmd) (i : Nat) (desc : Bytes) (aligned : Bool) (aux : List Nat) : State :=
  let o : Op := { id := s.nextOp, launch := none, cmd := some (r, c.uid, i), fill := (s.ring r).fill, step := c.step, desc := desc
                  base := 0, size := 0, flag := none, started := false, issued := 0, nissued := 0, xfers := [], landed := []
                  mark := none, cursor := 0, consumed := [], poison := none, wait := .none, held := false, aux := aux, buf := []
                  aligned := aligned }
  ({ s with nextOp := s.nextOp + 1 }).setQueue q (s.queue q ++ [o])

/-- Bytes that a descriptor moves (R237). -/
def descTotal (d : Bytes) : Nat := bat d 24 4 * bat d 28 4 * bat d 32 4 * bat d 36 4 * bat d 40 4

/-- Push a list of descriptors (R235). -/
def pushList (q r : Nat) (c : Cmd) (va : Nat) : Nat → Nat → Nat → Bytes → State → State
  | 0, _, _, _, s => s
  | n + 1, i, before, bs, s =>
    let d := bs.take 128
    pushList q r c va n (i + 1) (before + descTotal d) (bs.drop 128)
      (s.pushHub q r c i d (decide ((va + 128 * i) % 32 = 0)) [before, 0])

/-- STREAM at the head of a ring: its list is read whole as it starts (DESIGN CHOICE; Assumption 32). -/
def streamRun (s : State) (r : Nat) (c : Cmd) : State :=
  let va := c.arg 0 8
  let n := c.arg 8 4
  let b := c.arg 12 1
  let k := c.arg 13 1
  if 3 < b ∨ 7 < k then (s.startCmd r c.uid).finishCmd r c.uid 2 0
  else if !s.basinReady b then s
  else if n = 0 then (s.startCmd r c.uid).finishCmd r c.uid 0 0
  else match s.vread 0 va (128 * n) with
    | .ok bs false s => pushList (18432 + 8 * b + k) r c va n 0 0 bs (s.startCmd r c.uid)
    | .ok _ true _ | .hostDown => (s.startCmd r c.uid).finishCmd r c.uid 8 0
    | .cow _ | .held => s

/-- A COPY descriptor in 4 KiB chunks: byte count of a run, runs, and blocks of 2^24 runs. -/
def copyDesc (src dst c0 c1 c2 : Nat) : Bytes :=
  natBytes 8 src ++ natBytes 8 dst ++ natBytes 4 0 ++ [2, 12, 0, 0] ++ natBytes 4 c0 ++ natBytes 4 c1 ++ natBytes 4 c2 ++
    natBytes 4 1 ++ natBytes 4 1 ++ natBytes 4 0 ++ natBytes 8 4096 ++ natBytes 8 (2 ^ 36) ++ List.replicate 64 0

/-- COPY at the head of a ring (R235): one operation for whole blocks of 2^24 chunks, one for the chunks left and one for
the bytes left. -/
def copyRun (s : State) (r : Nat) (c : Cmd) : State :=
  let src := c.arg 0 8
  let dst := c.arg 8 8
  let len := c.arg 16 8
  let q := 18432 + 8 * (r % 4)
  if !s.basinReady (r % 4) then s
  else if len = 0 then (s.startCmd r c.uid).finishCmd r c.uid 0 0
  else if 2 ^ 57 < src + len ∨ 2 ^ 57 < dst + len then (s.startCmd r c.uid).finishCmd r c.uid 2 0
  else
    let parts : List (Nat × Nat × Nat × Nat) :=
      [(0, 4096, 2 ^ 24, len / 2 ^ 36), (len / 2 ^ 36 * 2 ^ 36, 4096, len / 4096 % 2 ^ 24, 1), (len / 4096 * 4096, len % 4096, 1, 1)]
    (parts.filter fun p => decide (0 < p.2.1 * p.2.2.1 * p.2.2.2)).foldl (fun s p =>
      s.pushHub q r c 0 (copyDesc (src + p.1) (dst + p.1) p.2.1 p.2.2.1 p.2.2.2) true [p.1, p.1 / 4096]) (s.startCmd r c.uid)

/-! ### SIGNAL, WAIT -/

/-- SIGNAL at the head of a ring (R96): a write that host memory cannot take is discarded (R105). -/
def signalRun (s : State) (r : Nat) (c : Cmd) : State :=
  match s.vwrite 0 (c.arg 0 8) (natBytes 8 (c.arg 8 8)) with
  | .ok _ _ s => (s.startCmd r c.uid).finishCmd r c.uid 0 0
  | .hostDown => (s.startCmd r c.uid).finishCmd r c.uid 0 0
  | .cow _ | .held => s

/-- One poll of a WAIT (R96). -/
def waitRun (s : State) (r : Nat) (c : Cmd) : State :=
  match s.vread 0 (c.arg 0 8) 8 with
  | .ok bs false s =>
    let v := leNat bs
    if (if c.arg 16 1 = 0 then decide (c.arg 8 8 ≤ v) else decide (v = c.arg 8 8)) then s.finishCmd r c.uid 0 0 else s
  | .ok _ true _ | .hostDown => s.finishCmd r c.uid 8 0
  | .cow _ | .held => s

/-- The basins that the head command of a ring needs are not READY (R39). -/
def headHeld (s : State) (r : Nat) (c : Cmd) : Bool :=
  match c.op.toNat with
  | 2 => !s.targetsReady ((s.targetsOf (c.arg 16 2)).getD [])
  | 3 => decide (c.arg 12 1 ≤ 3) && !s.basinReady (c.arg 12 1)
  | 4 => !s.basinReady (r % 4)
  | _ => false

/-- A write of a ring's registers while HLK is READY. -/
def ringWrite (s : State) (r : Nat) (f : State → State) : State := if 64 ≤ r then s else s.pageWrite .hlk 0 (Off.hlkRcfg + 0x20 * r) f

/-- A tail doorbell (R92, R94); a removal drain accepts none (R22). -/
def tailBell (s : State) (r tail : Nat) : State :=
  if s.power.drain ≠ .none then s
  else if (s.ring r).st ≠ 1 then s.raise .hlk 0 Ev.hlkDoorbellIdle
  else if s.ringSize r ≤ tail then s.ringStop r 1
  else s.setRing r { s.ring r with tail := tail }

/-- A completion head doorbell (R92, R94); a removal drain accepts none (R22). -/
def headBell (s : State) (r head : Nat) : State :=
  if s.power.drain ≠ .none then s
  else if (s.ring r).st ≠ 1 then s.raise .hlk 0 Ev.hlkDoorbellIdle
  else s.setRing r { s.ring r with chead := head % s.ringSize r }

end State

/-- RING_OPEN (R93): a write of HLK_RCFG with ENABLE 1. -/
def execRingOpen (r : Nat) (v : Word) (s : State) : Host.Outcome State Fault Refusal :=
  .next (s.ringWrite r fun s => s.writeRcfg r (putBit v 0 true))

/-- RING_CLOSE (R106): a write of HLK_RCFG with ENABLE 0 and every other field as it stands. -/
def execRingClose (r : Nat) (s : State) : Host.Outcome State Fault Refusal :=
  .next (s.ringWrite r fun s => s.writeRcfg r (putBit (s.rcfg r) 0 false))

/-- RING_CLOSE_DONE (R106): the started commands of a closing ring have completed. -/
def execRingCloseDone (r : Nat) (s : State) : Host.Outcome State Fault Refusal :=
  let x := s.ring r
  .next (if r < 64 ∧ x.closing ∧ (x.st = 1 ∨ x.st = 2) ∧ x.cmds.all (·.fetched) then s.setRing r { ringClosed with err := x.err } else s)

/-- RING_RESET (R99): a write of HLK_RCFG.RESET. -/
def execRingReset (r : Nat) (s : State) : Host.Outcome State Fault Refusal := .next (s.ringWrite r fun s => s.ringResetStart r)

/-- RING_RESET_DONE (R99): the ABORTED completions are written, and every field returns to 0; ERROR is kept (DESIGN CHOICE;
Assumption 33). -/
def execRingResetDone (r : Nat) (s : State) : Host.Outcome State Fault Refusal :=
  let x := s.ring r
  .next (if r < 64 ∧ x.st = 3 ∧ x.cmds = [] then (s.setRing r { ringClosed with err := x.err }).wr (State.rcfgAt r) 0 else s)

/-- COMMAND_TAIL_DOORBELL (R94). -/
def execCommandTailDoorbell (r : Nat) (tail : BitVec 16) (s : State) : Host.Outcome State Fault Refusal :=
  .next (if r < 64 then s.tailBell r tail.toNat else s)

/-- COMPLETION_HEAD_DOORBELL (R94). -/
def execCompletionHeadDoorbell (r : Nat) (head : BitVec 16) (s : State) : Host.Outcome State Fault Refusal :=
  .next (if r < 64 then s.headBell r head.toNat else s)

/-- COMMAND_FETCH (R94 to R96). -/
def execCommandFetch (r : Nat) (s : State) : Host.Outcome State Fault Refusal :=
  let x := s.ring r
  .next (if r < 64 ∧ x.st = 1 ∧ !x.closing ∧ x.tail ≠ x.head ∧ s.ready .hlk 0 ∧ !s.quiet .hlk 0 ∧ 0 < s.slotsLeft r then
    s.fetchCmd r else s)

/-- NOP of a ring (R96). -/
def execRingNop (r : Nat) (s : State) : Host.Outcome State Fault Refusal :=
  .next (match s.headOp r 0 with
    | some c => (s.startCmd r c.uid).finishCmd r c.uid 0 0
    | none => s)

/-- LOAD_KERNEL (R204). -/
def execLoadKernel (r : Nat) (s : State) : Host.Outcome State Fault Refusal :=
  .next (match s.headOp r 1 with
    | some c => s.loadRun r c
    | none => s)

/-- LAUNCH (R122 to R124). -/
def execLaunch (r : Nat) (s : State) : Host.Outcome State Fault Refusal :=
  .next (match s.headOp r 2 with
    | some c => if s.turnOf (s.ring r).fill = some r then s.dispatch r c else s
    | none => s)

/-- STREAM (R235). -/
def execStream (r : Nat) (s : State) : Host.Outcome State Fault Refusal :=
  .next (match s.headOp r 3 with
    | some c => s.streamRun r c
    | none => s)

/-- COPY (R235). -/
def execCopy (r : Nat) (s : State) : Host.Outcome State Fault Refusal :=
  .next (match s.headOp r 4 with
    | some c => s.copyRun r c
    | none => s)

/-- FENCE (R96). -/
def execFence (r : Nat) (s : State) : Host.Outcome State Fault Refusal :=
  .next (match s.headOp r 5 with
    | some c => (s.startCmd r c.uid).fenceDone r
    | none => s)

/-- SIGNAL (R96). -/
def execSignal (r : Nat) (s : State) : Host.Outcome State Fault Refusal :=
  .next (match s.headOp r 6 with
    | some c => s.signalRun r c
    | none => s)

/-- WAIT (R96): polling starts; a compare code above 1 is out of range (DEDUCED; Assumption 34). -/
def execWait (r : Nat) (s : State) : Host.Outcome State Fault Refusal :=
  .next (match s.headOp r 7 with
    | some c => if 1 < c.arg 16 1 then (s.startCmd r c.uid).finishCmd r c.uid 2 0 else s.startCmd r c.uid
    | none => s)

/-- WAIT_POLL (R96): the i-th WAIT of a ring that polls. -/
def execWaitPoll (r i : Nat) (s : State) : Host.Outcome State Fault Refusal :=
  .next (match ((s.ring r).cmds.filter fun c => c.op = 7 ∧ c.phase = .started)[i]? with
    | some c => s.waitRun r c
    | none => s)

/-- STEP_BEGIN (R363, R372). -/
def execStepBegin (r : Nat) (s : State) : Host.Outcome State Fault Refusal :=
  .next (match s.headOp r 8 with
    | some c =>
      if c.step = 0 then (s.startCmd r c.uid).finishCmd r c.uid 2 0
      else match s.stepOpen c.step.toNat with
        | some s => (s.startCmd r c.uid).finishCmd r c.uid 0 0
        | none => s
    | none => s)

/-- COMMAND_COMPLETE (R97, R98): the i-th ended command of a ring; with FENCE it completes after every earlier one. -/
def execCommandComplete (r i : Nat) (s : State) : Host.Outcome State Fault Refusal :=
  .next (match ((s.ring r).cmds.filter (·.ended))[i]? with
    | some c => match c.phase with
      | .finished st res => if c.fenced && !((s.ring r).cmds.head?.any (·.uid = c.uid)) then s else s.complete r c st res
      | .fetched | .started => s
    | none => s)

/-- NOT_READY_TIMEOUT (R39): a command held for a basin ends with NOT_READY. -/
def execNotReadyTimeout (r : Nat) (s : State) : Host.Outcome State Fault Refusal :=
  .next (match s.headCmd r with
    | some c => if s.headHeld r c then (s.startCmd r c.uid).finishCmd r c.uid 9 0 else s
    | none => s)

end Sys2Proof.Machine
end

