-- ==== Sys2Proof/Machine/ResetOps.lean ====
section
/-! DEFINITION. What a reset clears and keeps (R33, R34): register columns, the core map (R110), the end of the work that a
reset reaches (R124, R252), and the Block reset of each page (R60). -/

namespace Sys2Proof.Machine

/-- A field after a reset: its column's number, or its bits where the column keeps them. Hardware fields of DEV and RCC are
driven from outside the die and keep their bits; a Cold reset clears the others, which their owner sets again. -/
def Fld.after (f : Fld) (warm : Bool) (b : Blk) (w : Word) : Nat :=
  match (if warm then f.warm else f.cold) with
  | .val n => n % 2 ^ (f.hi + 1 - f.lo)
  | .keep => fld w f.hi f.lo
  | .fuse => 0
  | .hw => if warm ∨ b = .dev ∨ b = .rcc then fld w f.hi f.lo else 0

/-- A register after a reset. -/
def RegRow.after (r : RegRow) (warm : Bool) (b : Blk) (w : Word) : Word :=
  BitVec.ofNat 64 (r.flds.foldl (fun a f => a + f.after warm b w * 2 ^ f.lo) 0)

/-- A Block reset under way, or none. -/
abbrev noBlk : BlkRst := .none

namespace State

/-! ### Registers -/

/-- A BAR0 offset lies on a page that satisfies `p`. -/
def onPage (p : Blk → Nat → Bool) (a : Nat) : Bool :=
  match pageAt a with
  | some (b, i) => p b i
  | none => false

/-- Apply the Cold or Warm column to the pages that satisfy `p`; their snapshots go. -/
def columns (s : State) (warm : Bool) (p : Blk → Nat → Bool) : State :=
  let regs := s.regs.filterMap fun e => match pageAt e.1 with
    | some (b, i) => if p b i then (match RegMap.find b (e.1 % 0x1000) with
        | some (r, _) => let w := r.after warm b e.2
                         if w = r.cold then none else some (e.1, w)
        | none => some e) else some e
    | none => some e
  { s with regs := regs, snaps := tdrop s.snaps (onPage p) }

/-- Reset handling of the pages that satisfy `p` beside their registers: latched faults, QUIESCED, Block resets under way and
the writes that waited for them go (R59, R63). -/
def pageState (s : State) (p : Blk → Nat → Bool) : State :=
  let r := s.rst
  let r := { r with faultLatch := tdrop r.faultLatch (onPage p), quiesced := tdrop r.quiesced (onPage p)
                    blk := tdrop r.blk (onPage p), phyLost := tdrop r.phyLost (onPage p) }
  { s with rst := { r with waiting := r.waiting.filter fun w => !onPage p w.1 } }

/-! ### The core map (R110) -/

/-- A physical core may serve. -/
def coreGood (s : State) (q : Nat) : Bool := !(s.sec.defects.contains q) && !(s.pcore q).retired

/-- Grid positions of a basin, in order, with the physical core that each takes: the lowest free spare where its own is
defective or retired, none where the spares have run out. -/
def basinMap (s : State) (b : Nat) : List (Nat × Option Nat) :=
  let spares := ((List.range 16).map (b * 592 + 576 + ·)).filter s.coreGood
  (((List.range 576).map (b * 576 + ·)).foldl (fun (a : List (Nat × Option Nat) × List Nat) l =>
    if s.coreGood (gridPhys l) then ((l, some (gridPhys l)) :: a.1, a.2)
    else match a.2 with
      | q :: t => ((l, some q) :: a.1, t)
      | [] => ((l, none) :: a.1, [])) ([], spares)).1.reverse

/-- Build a basin's map anew; swaps are cancelled and tests abandoned with their due times kept (R110, R112, R414). A basin
that lacks cores, or is EXHAUSTED, latches FAULT on the pages of R41 and R398, with a failure record. -/
def rebuildBasin (s : State) (b : Nat) : State :=
  let here (c : Nat) : Bool := c / 576 = b
  let s : State := { s with cores := s.cores.map fun e => if here e.1 then (e.1, { e.2 with swap := .none }) else e }
  let s : State := { s with cores := s.cores.filter fun e => e.2 ≠ coreIdle }
  let s : State := { s with rst := { s.rst with coreDown := tdrop s.rst.coreDown here } }
  let s := (List.range 592).foldl (fun s k =>
    let q := b * 592 + k
    let x := s.pcore q
    if x.testing then s.setPcore q { x with testing := false } else s) s
  let m := s.basinMap b
  let s := m.foldl (fun s e => match e.2 with
    | some q => s.setPhysOf e.1 q
    | none => s.coreLost e.1) s
  let ex := s.ras.exhausted.toNat.testBit b
  let s := if ex then ((List.range 576).map (b * 576 + ·)).foldl (fun s c => s.latchFault .cor c true) s else s
  if ex ∨ m.any (·.2.isNone) then s.record .cor (b * 576) 0x10 5 1 else s

/-- Every basin's map. -/
def rebuildMap (s : State) : State := (List.range 4).foldl (fun s b => s.rebuildBasin b) s

/-! ### Ending work -/

/-- Keys of the queues of a basin. -/
def basinQueues (s : State) (b : Nat) : List Nat := (s.queues.map (·.1)).filter fun q => queueBasin q = b

/-- End with cause RESET every operation of a basin that satisfies `p`. -/
def resetBasinOps (s : State) (b : Nat) (p : Op → Bool) : State := (s.basinQueues b).foldl (fun s q => s.resetOps q p) s

/-- Requests on the fabric whose operation has ended are no longer awaited. -/
def dropDeadTxns (s : State) : State :=
  let live (x : Txn) : Bool := match x.op with
    | some (q, id, _) => (s.op? q id).isSome
    | none => true
  { s with fab := { s.fab with txns := s.fab.txns.filter live } }

/-- Write the completions of a ring's ended commands. -/
def completeAll (s : State) (r : Nat) : State :=
  (s.ring r).cmds.foldl (fun s c => match c.phase with
    | .finished st res => s.complete r c st res
    | .fetched | .started => s) s

/-- End the started commands of every ring with ABORTED completions, written before the rings close (R33, R99). -/
def abortRings (s : State) (cls : Nat) : State := (List.range 64).foldl (fun s r => (s.abortRing r cls).completeAll r) s

/-- SRAM, thread state, flags and engines of the processors that satisfy `p` are zeroed (R33). -/
def zeroProcs (s : State) (p : Nat → Bool) : State :=
  { s with
    cores := tdrop s.cores p
    shoals := tdrop s.shoals fun k => p (k / 32)
    gpr := tdrop s.gpr fun k => p (k / 65536)
    preds := tdrop s.preds fun k => p (k / 1024)
    lflags := tdrop s.lflags fun k => p (k / 1024)
    sram := tdrop s.sram fun k => p (k / 0x100000)
    sramUe := tdrop s.sramUe fun k => p (k / 0x100000) }

/-- Launches that satisfy `p`, by identifier. -/
def launchesOf (s : State) (p : Launch → Bool) : List (Nat × Launch) :=
  s.launches.filterMap fun e => match e.2 with
    | some x => if p x then some (e.1, x) else none
    | none => none

/-- Empty the directory slices that satisfy `p`. -/
def dropSlices (s : State) (p : Nat → Bool) : State := { s with mem := { s.mem with slices := tdrop s.mem.slices p } }

/-! ### Host link (R81, R84, R103, R105) -/

/-- Close every ring: what runs goes on, and its completions are discarded (R105). -/
def closeRings (s : State) : State := { s with hlk := { s.hlk with rings := [], lastPri := 63, lastFill := 63 } }

/-- The HLK state that a Block reset with a retrain takes: no decoder committed, EXPOSE applied, the MSI-X table as PCI Express
resets it (PRESUMED; Assumption 9), the link in a state. -/
def hlkRetrain (s : State) (st : Nat) : State :=
  let s : State := { s with hlk := { s.hlk with hdm := [], exposed := s.g .hlk 0 Off.hlkHdmcfg 10 0, biasSettling := false, msix := [] } }
  let w := s.rd (pageBase .hlk 0 + Off.hlkLink)
  (s.wr (pageBase .hlk 0 + Off.hlkLink) (putFld (putFld w 63 40 0) 2 0 st)).ledgerHostDown

/-- Drop a mailbox command in flight: the wellhead finishes it and its response is discarded (R106). -/
def dropMbx (s : State) : State := { s with hlk := { s.hlk with mbx := none } }

/-- A page's Block reset holds it: READY 0, RESET 1 (R60). -/
def holdPage (s : State) (b : Blk) (i : Nat) : State :=
  let s := s.setReady b i false
  { s with rst := { s.rst with blk := tset s.rst.blk noBlk (pageBase b i) .running } }

/-- The Warm column of one page, and its latches. -/
def pageColumn (s : State) (b : Blk) (i : Nat) : State :=
  let p (b' : Blk) (i' : Nat) : Bool := b' = b && i' = i
  let k := tget s.rst.phyLost false (pageBase b i)
  let s := (s.columns true p).pageState p
  { s with rst := { s.rst with phyLost := tset s.rst.phyLost false (pageBase b i) k } }

/-- A transfer in flight reads or writes host memory. -/
def onHost (s : State) (q : Nat) (x : Xfer) : Bool :=
  match x.va with
  | some va => match s.translate (qSlice q) va false with
    | .hit pa _ => s.region pa = .host
    | .miss | .cow _ | .perm => false
  | none => false

/-- Transfers to or from host memory end with a poisoned tail, cause HOST_LINK (R105, R252). -/
def hostLost (s : State) : State :=
  s.queues.foldl (fun s e => e.2.foldl (fun s o =>
    if o.xfers.any (s.onHost e.1) then s.poisonTail e.1 o.id 6 o.cursor else s) s) s

/-- HLK takes a Block reset in which the link leaves the up state for another (R32, R33, R89). -/
def hlkBlock (s : State) (st : Nat) : State :=
  let up := s.g .hlk 0 Off.hlkLink 2 0 = 2
  let s := if up then s.hostLost else s
  let s := ((s.closeRings.pageColumn .hlk 0).holdPage .hlk 0).hlkRetrain st
  let s := if up then s.raise .hlk 0 Ev.hlkLinkDown else s
  if st = 0 then s else s.bump .hlk 0 0x200 1

/-- HLK and MBX take a Block reset, by hot reset or link down (R32, R103, R105). -/
def hostBlock (s : State) (st : Nat) : State := ((s.hlkBlock st).dropMbx.pageColumn .mbx 0).holdPage .mbx 0

/-! ### Block resets (R33, R60) -/

/-- A step is open before VOTED: its record will carry RESET (R372). -/
def stepReset (s : State) : State :=
  if s.redState = 1 ∨ s.redState = 2 then s.setRed { s.red with reset := true } else s

/-- An update unit loses what it holds. -/
def unitReset (s : State) (u : Nat) : State :=
  let s := (s.setUnit u { run := none, queue := [], buf := false }).zeroProcs (· = unitProc u)
  s.stepReset

/-- End every access that a translation fault holds, as an XLT Block reset does (R231). -/
def dropFaults (s : State) : State :=
  let fs := s.mem.faults
  let s : State := { s with mem := { s.mem with faults := [], inval := none } }
  fs.foldl (fun s f => f.holders.foldl (fun s h =>
    if isQueue h.1 then (match s.heldOp h.1 h.2 with
      | some o => s.resetOp h.1 o
      | none => s)
    else s) s) s

/-- A port's links train in full again; its requests in flight are resent by R334 or end with cause RESET (R341). -/
def portReset (s : State) (p : Nat) : State :=
  let s : State := { s with fab := { s.fab with parked := tset s.fab.parked [] p [] } }
  [2 * p, 2 * p + 1].foldl (fun s l =>
    let x := s.link l
    let s := s.setLink l { linkDown0 with lit := x.lit }
    let s := s.linkLost l
    (s.fab.txns.filter (·.l = l)).foldl (fun s t => match t.op with
      | some (q, id, _) => (match s.op? q id with
        | some o => s.resetOp q o
        | none => s).dropTxn t
      | none => s) s) s

/-- What a Block reset of a page does beside its registers and READY. -/
def blockWork (s : State) (b : Blk) (i : Nat) : State :=
  match b with
  | .dev | .rcc | .ras | .tlm | .sec | .mem | .sdm | .hlk => s
  | .mbx => s.dropMbx
  | .xlt => (s.dropFaults.dropSlices fun _ => true)
  | .sth =>
    let s := s.resetBasinOps i fun _ => true
    { s with mem := { s.mem with cow := tset s.mem.cow none i none } }.dropDeadTxns
  | .cor =>
    let ls := s.launchesOf fun x => x.targets.contains i && x.started.contains i && !x.ended.contains i
    let s := ls.foldl (fun s e => s.launchEnd e.1 8 i 4) s
    let s := (List.range 8).foldl (fun s k => s.resetOps (8 * i + k) fun _ => true) s
    let x := s.core i
    ((s.zeroProcs (· = i)).setCore i { coreIdle with priQ := x.priQ, fillQ := x.fillQ, swap := x.swap }).dropDeadTxns
  | .act => (s.resetBasinOps i fun o => o.codec = 0x40 || o.codec = 0x41).ledgerReset i
  | .shl =>
    let s := s.resetBasinOps i fun o => o.codec = 0x30
    { s with shl := tset s.shl [] i [] }
  | .kvp => (s.queues.foldl (fun s e => s.resetOps e.1 fun o => 0x51 ≤ o.codec && o.codec ≤ 0x53) s).dropDeadTxns
  | .fab => s.portReset i
  | .inl => s.unitReset i
  | .shr => s.unitReset (12 + i)
  | .red => (s.setRed { redEmpty s.red with later := [] }).stepReset

/-- A Block reset of a page starts (R60). An open step outlives a RED Block reset, so that its record can carry RESET (R372). -/
def blockStart (s : State) (b : Blk) (i : Nat) : State :=
  match b with
  | .dev | .rcc | .ras | .tlm | .sec => s
  | .hlk => s.hlkBlock 1
  | .red =>
    let w := s.rd (pageBase .red 0 + Off.redStepstat)
    ((((s.setReady .red 0 false).blockWork .red 0).pageColumn .red 0).wr (pageBase .red 0 + Off.redStepstat) w).holdPage .red 0
  | .mbx | .mem | .sdm | .xlt | .sth | .cor | .act | .shl | .kvp | .fab | .inl | .shr =>
    (((s.setReady b i false).blockWork b i).pageColumn b i).holdPage b i

/-- A page whose Block reset waits while the journal is not IDLE (R35). -/
def deferrable : Blk → Bool
  | .inl | .shr | .mem | .red => true
  | .dev | .rcc | .mbx | .hlk | .sdm | .xlt | .sth | .cor | .act | .shl | .kvp | .fab | .ras | .tlm | .sec => false

/-- A page has a Block reset (R60). -/
def hasBlkRst : Blk → Bool
  | .dev | .rcc | .ras | .tlm | .sec => false
  | .mbx | .hlk | .mem | .sdm | .xlt | .sth | .cor | .act | .shl | .kvp | .fab | .inl | .shr | .red => true

/-- A reset of a higher class runs on the page, so that a Block reset of it is absorbed (R35). -/
def coveredPage (s : State) (b : Blk) (i : Nat) : Bool :=
  s.rst.held || s.rst.reqs.any fun r => r.asserted && (match r.cls with
    | .cold | .warm => true
    | .basin => basinOf b i = r.basin)

/-- A Block reset of a page is requested (R35, R60). -/
def blockRequest (s : State) (b : Blk) (i : Nat) : State :=
  if !hasBlkRst b || decide (pageCount b ≤ i) || s.coveredPage b i || tget s.rst.blk noBlk (pageBase b i) ≠ noBlk then s
  else if deferrable b && s.phase ≠ 0 then
    { s with rst := { s.rst with blk := tset s.rst.blk noBlk (pageBase b i) .deferred } }
  else s.blockStart b i

/-! ### Cold, Warm and Basin (R33) -/

/-- Pages that keep READY through Warm and Basin resets (R38). -/
def keepsReady : Blk → Bool
  | .dev | .rcc | .ras | .tlm | .sec => true
  | .mbx | .hlk | .mem | .sdm | .xlt | .sth | .cor | .act | .shl | .kvp | .fab | .inl | .shr | .red => false

/-- The state of a Cold reset (R33, R37, R50, R204, R405): the die's memory and registers are lost; the standby domain, flash,
fuses and the host's memory stay. -/
def dieClear (s : State) : State :=
  let open_ := s.g .sec 0 Off.secDebug 0 0 = 1
  let s := s.columns false fun _ _ => true
  let s := (s.p .rcc 0 Off.event 5 5 0)
  let s := if open_ then s.raise .sec 0 Ev.secDebugChanged else s
  let host (a : Nat) : Bool := decide (a < 0x10000000000000)
  let r := s.rst
  let s : State := { s with
    rst := { r with ready0 := 0, ready1 := 0, ready2 := 0, coreDown := [], faultLatch := [], blk := [], quiesced := [], phyLost := []
                    waiting := [], tested := 0, trained := 0, dimms := [] }
    jrn := { due := false, resolving := false, held := false, resend := false }
    retained := []
    hlk := { s.hlk with rings := [], hdm := [], exposed := 0, biasSettling := false, mbx := none, msix := [], lastPri := 63, lastFill := 63 }
    kernels := [], loads := [], launches := [], queues := [], act := [], shl := [] }
  let s := s.zeroProcs fun _ => true
  let s : State := { s with
    mem := { s.mem with bytes := tdrop s.mem.bytes host, poison := tdrop s.mem.poison host, slices := [], faults := [], inval := none, cow := [] }
    fab := { s.fab with links := (s.fab.links.map fun e => (e.1, { linkDown0 with lit := e.2.lit })).filter fun e => e.2 ≠ linkDown0
                        txns := [], dup := [], parked := [], routes := [], rr := 0 }
    red := { redEmpty s.red with later := [], masks := [], lwClears := [], bsteerWait := none }
    scale := { cfg := none, base := none, recipes := [], loaded := false, reseed := false, used := [] }
    power := { s.power with nLoop := 0, nWin := 0, nLim := 0 } }
  let due := s.ras.history.filter fun (q : FRec) => decide (s.ras.ackSeq < q.seq)
  let s : State := { s with ras := { s.ras with pending := due.drop (due.length - 199) } }
  s.rebuildMap

/-- RESET_NOTICE with a form on every up port (R338). -/
def resetNotice (s : State) (form : Nat) : State :=
  s.activeLinks.foldl (fun s l => s.mgmt l (s.link l).peer.toNat ([0x05] ++ natBytes 1 form)) s

/-- READY of every page but those of R38 drops. -/
def dropReady (s : State) : State :=
  let r := s.rst
  { s with rst := { r with ready0 := BitVec.ofNat 64 (fld r.ready0 1 0 + fld r.ready0 9 7 * 128), ready1 := 0, ready2 := 0 } }

/-- What a Warm reset ends: launches, rings, operations and records (R37, R38). -/
def warmEnds (s : State) : State :=
  let s := (s.launchesOf fun _ => true).foldl (fun s e => s.launchEnd e.1 8 (e.2.targets.headD 0) 2 fun _ => true) s
  let s := s.abortRings 2
  let s := s.queues.foldl (fun s e => s.resetOps e.1 fun _ => true) s
  (List.range 4).foldl (fun s b => s.ledgerReset b) s

/-- Everything else that a Warm reset leaves empty; `due` says that a step was open. -/
def warmEmpty (s : State) (due : Bool) : State :=
  { s with
    jrn := { due := due, resolving := false, held := false, resend := false }
    hlk := { s.hlk with rings := [], biasSettling := false, mbx := none, lastPri := 63, lastFill := 63 }
    loads := [], launches := [], queues := [], shl := []
    mem := { s.mem with slices := [], faults := [], inval := none, cow := [] }
    fab := { s.fab with txns := [], dup := [], parked := [], routes := [], rr := 0 }
    red := { redEmpty s.red with later := [], lwClears := [] }
    scale := { s.scale with loaded := false, reseed := false, used := [] } }

/-- The state of a Warm reset (R33, R38). -/
def warmClear (s : State) : State :=
  let s := s.warmEnds
  let open_ := decide (s.phase ≠ 0)
  let s := (s.columns true fun _ _ => true).pageState fun _ _ => true
  let s := ((s.p .rcc 0 Off.event 5 5 0).p .rcc 0 Off.rccJrnCtrl 1 1 0).dropReady
  ((s.zeroProcs fun _ => true).warmEmpty open_).rebuildMap

/-- A KV sequence that is VALID is served by a basin. -/
def servesKv (s : State) (b : Nat) : Bool :=
  (List.range (s.g .kvp 0 Off.kvpSeqlen 16 0)).any fun n => match s.kvRec n with
    | some r => r.valid && r.basin = b
    | none => false

/-- Faults of a basin's own queues go; others of its slice search again (R231). -/
def basinFaults (s : State) (b : Nat) : State :=
  let mine (h : Nat × Nat) : Bool := isQueue h.1 && queueBasin h.1 = b
  let fs := s.mem.faults.filterMap fun f =>
    let hs := f.holders.filter fun h => !mine h
    if hs = [] ∧ f.holders ≠ [] then none
    else some { f with holders := hs, stage := if f.slice = b then .search else f.stage }
  { s with mem := { s.mem with faults := fs } }

/-- Pages that a Basin reset reaches (R33). -/
def basinPage (bs : Nat) (b : Blk) (i : Nat) : Bool :=
  match b with
  | .sdm | .sth | .act | .shl => i = bs
  | .cor => i / 576 = bs
  | .dev | .rcc | .mbx | .hlk | .mem | .xlt | .kvp | .fab | .inl | .shr | .red | .ras | .tlm | .sec => false

/-- The state of a Basin reset (R33, R38, R129, R231, R372). -/
def basinClear (s : State) (b : Nat) : State :=
  let here (c : Nat) : Bool := c / 576 = b
  let ls := s.launchesOf fun x => x.targets.any here
  let s := ls.foldl (fun s e => s.launchEnd e.1 8 ((e.2.targets.find? here).getD 0) 3 here) s
  let s := (s.resetBasinOps b fun _ => true).ledgerReset b
  let kv := s.servesKv b
  let s := (s.columns true (basinPage b)).pageState (basinPage b)
  let s := ((((s.setReady .sdm b false).setReady .sth b false).setReady .act b false).setReady .shl b false).setBasinReady b false
  let s := if kv then s.setReady .kvp 0 false else s
  let s := ((s.basinFaults b).dropSlices (· = b)).dropDeadTxns
  let s := s.zeroProcs fun c => decide (c < 2304) && here c
  let s : State := { s with
    mem := { s.mem with cow := tset s.mem.cow none b none }, shl := tset s.shl [] b [] }
  (s.rebuildBasin b).stepReset

end State

end Sys2Proof.Machine
end

