-- ==== Sys2Proof/Machine/Journal.lean ====
section
/-! DEFINITION. Resolution of an open commit after a Warm reset, and its hold (R48 to R51). -/

namespace Sys2Proof.Machine

namespace State

/-- Owned shards with their tensors; none while a table cannot be read. -/
def ownedShards (s : State) : Option (List (Tensor × Shard)) :=
  (List.range (s.g .red 0 Off.redLen 29 16)).foldl (fun acc n => acc.bind fun l =>
    match s.vget 0 (s.tblVa Off.redSh 0x80000 + 64 * n) 64 with
    | none => none
    | some _ => match s.shard n with
      | none => some l
      | some h => match s.vget 0 (s.tblVa Off.redTt 0x200000 + 128 * h.tslot) 128 with
        | none => none
        | some _ => match s.tensor h.tslot with
          | some t => some (if t.role 1 || t.role 2 then l ++ [(t, h)] else l)
          | none => some l) (some [])

/-- The CRC of a shard's staged pieces (R346); none while one cannot be read. -/
def stagedCrc (s : State) (t : Tensor) (h : Shard) : Option Nat :=
  (List.range h.count).foldl (fun acc k => acc.bind fun c =>
    (s.unitFor t (h.first + k) 0).bind fun u =>
      (s.vget (unitSlice u) (h.bank s.stageBank + k * t.pstride) t.pstride).map fun r =>
        c ^^^ crc32 (natBytes 4 (h.first + k) ++ r.1)) (some 0)

/-- STAGE_DIGEST and the CRC of each owned shard verify (R49); none while something cannot be read. -/
def stagedOk (s : State) : Option Bool :=
  s.ownedShards.bind fun l =>
    let list := s.retRead 0x10000 (8 * l.length)
    if Config.crc64 list ≠ s.rd (pageBase .rcc 0 + Off.rccBkp4) then some false
    else l.zipIdx.foldl (fun acc e => acc.bind fun ok => (s.stagedCrc e.1.1 e.1.2).map fun c =>
      ok && bat list (8 * e.2) 4 = e.1.2.n && bat list (8 * e.2 + 4) 4 = c) (some true)

/-- The hold of R51 ends, as the twin or software has answered. -/
def jrnGo (s : State) : State :=
  ({ s with jrn := { due := false, resolving := false, held := false, resend := false } } : State).p .rcc 0 Off.rccJrnCtrl 1 1 0

/-- Forward (R49): the staged state becomes current, and the phases run to IDLE: at once where no twin will answer. -/
def goForward (s : State) (alone : Bool) : State :=
  let s := ((s.setPhase 3).p .red 0 Off.redStepstat 53 53 s.stageBank).setPhase 4
  if alone then s.commitEnd true else s.mirrored true

/-- Forward with the module's own staged copy where it verifies; the fetch of the twin's copy has no packet form, so the commit
is held (DESIGN CHOICE; Assumption 28). -/
def forward (s : State) (alone : Bool) : State :=
  match s.stagedOk with
  | none => s
  | some true => s.jrnGo.goForward alone
  | some false => s.jrnGo.holdCommit

/-- Back (R49): the staging is discarded and the update replays from its held inputs; a shard with none holds the commit (R393). -/
def back (s : State) : State :=
  match s.ownedShards with
  | none => s
  | some l =>
    if l.any fun e => e.2.hold = 0 then s.jrnGo.holdCommit
    else match ((s.jrnGo).setPhase 1).redoSlabs with
      | some s => s
      | none => s

/-- The column of a twin that is lost or took a Cold reset (R49). -/
def alone (s : State) : State :=
  match s.phase with
  | 1 => s.back
  | 2 => match s.stagedOk with
    | none => s
    | some true => s.jrnGo.goForward true
    | some false => s.back
  | 3 => s.forward true
  | 4 => s.jrnGo.goForward true
  | _ => s

/-- A skip verdict in phase 1 completes (R49). Whether the step was non-finite is no longer known: a free value. -/
def jrnSkip (s : State) : State :=
  let (b, s) := s.freeByte
  s.jrnGo.skipEnd (s.rd (pageBase .rcc 0 + Off.rccBkp2)).toNat (b.toNat % 2 = 1)

/-- The journal's verdict is a skip. -/
def jrnIsSkip (s : State) : Bool := s.phase = 1 && s.g .rcc 0 Off.rccBkp3 7 4 = 2

/-- The twin answers with its phase for the same step, 5 once it has committed it (R49). -/
def twinAnswer (s : State) (p : Nat) : State :=
  match s.phase with
  | 1 => if p ≤ 2 then s.back else s
  | 2 => if p ≤ 2 then s.back else s.forward false
  | 3 => s.forward false
  | 4 => if 5 ≤ p then s.jrnGo.goForward true else s.jrnGo.mirrored true
  | _ => s

/-- A second digest mismatch holds the commit until software chooses (R363). -/
def mirrorFault (s : State) : Bool := decide (2 ≤ s.red.mismatches)

end State

/-- JOURNAL_RESOLUTION_BEGIN (R38, R49). -/
def execJournalResolutionBegin (s : State) : Host.Outcome State Fault Refusal :=
  let units := (List.range 12).all fun n => s.ready .inl n && s.ready .shr n
  let mems := (List.range 24).all fun c => s.ready .mem c || s.g .mem c Off.memInfo 2 0 = 4
  .next (if s.jrn.due && units && mems && s.ready .red 0 && s.phase ≠ 0 then
    if s.jrnIsSkip then s.jrnSkip
    else if s.jrnTwin = 0xFFFF then s.alone
    else { s with jrn := { s.jrn with due := false, resolving := true } }
  else s)

/-- JOURNAL_TWIN_ANSWER (R49, R51). -/
def execJournalTwinAnswer (phase : Nat) (twinCold : Bool) (s : State) : Host.Outcome State Fault Refusal :=
  .next (if (s.jrn.resolving || s.jrn.held) && !s.mirrorFault && s.jrnTwin ≠ 0xFFFF then
    if s.jrn.resend then s.jrnGo.mirrored true else if twinCold then s.alone else s.twinAnswer phase
  else s)

/-- JOURNAL_TWIN_TIMEOUT (R49, R51): 10 s without an answer. -/
def execJournalTwinTimeout (s : State) : Host.Outcome State Fault Refusal :=
  .next (if s.jrn.resolving || (s.phase ≠ 0 && !s.jrn.due && !s.jrn.held && !s.red.redo && s.jrnTwin ≠ 0xFFFF) then
    if s.phase = 4 then
      let s := s.p .red 0 Off.redStepstat 53 53 s.stageBank
      ({ s with jrn := { s.jrn with resolving := false, resend := true } } : State).holdCommit
    else ({ s with jrn := { s.jrn with resolving := false } } : State).holdCommit
  else s)

/-- A write of RCC_JRN_CTRL.TWIN_LOST (R51). -/
def State.twinLost (s : State) : State :=
  if s.phase = 0 then s
  else
    let s := (s.p .rcc 0 Off.rccJrnCtrl 0 0 1).p .rcc 0 Off.rccBkp3 47 32 0xFFFF
    if s.jrn.due || s.red.redo then s else if s.jrnIsSkip then s.jrnSkip else s.alone

/-- TWIN_LOST (R51). -/
def execTwinLost (s : State) : Host.Outcome State Fault Refusal := .next (s.pageWrite .rcc 0 Off.rccJrnCtrl (·.twinLost))

end Sys2Proof.Machine
end

