-- ==== Sys2Proof/Machine/Reset.lean ====
section
/-! DEFINITION. Clocks, the reset sequences and readiness (R26 to R43, R60, R339, R432). -/

namespace Sys2Proof.Machine

namespace State

/-! ### Clocks (R30) -/

/-- The die has its clock. -/
def clocked (s : State) : Bool := s.clock.rootOk && s.clock.logicLock

/-- A clock of the die is lost: the die is held in reset. -/
def clockLost (s : State) : State :=
  let s : State := s.dieClear
  { s with rst := { s.rst with held := true, reqs := [] } }

/-- A Cold reset stands asserted, and only its release is due. -/
def coldAsserted (s : State) (src : Nat) : State :=
  { s with rst := { s.rst with held := false, reqs := [{ cls := .cold, basin := 0, src := BitVec.ofNat 8 src, asserted := true }] } }

/-- The lost clock is back: the Cold reset of source 0x03 runs. -/
def clockBack (s : State) : State := if s.clocked && s.power.rails && s.rst.held then s.coldAsserted 0x03 else s

/-- A page takes the Block reset that follows the loss of its PHY PLL (R30). -/
def phyReset (s : State) (b : Blk) (i : Nat) : State :=
  let s : State := { s with rst := { s.rst with phyLost := tset s.rst.phyLost false (pageBase b i) true } }
  s.blockRequest b i

/-! ### Reset requests and release (R35, R36, R432) -/

/-- A write of RCC_RST_CTRL (R36). -/
def writeRstCtrl (s : State) (v : Word) : State :=
  if fld v 63 48 ≠ 0xA5C3 then s.raise .rcc 0 Ev.rccKeyBad
  else
    let s := if bit v 0 then s.requestReset .cold 0 0x04 else s
    let s := if bit v 1 then s.requestReset .warm 0 0x10 else s
    (List.range 4).foldl (fun s b => if bit v (4 + b) then s.requestReset .basin b 0x20 else s) s

/-- The request of a class and basin, in a phase. -/
def reqOf (s : State) (c : RstClass) (b : Nat) (asserted : Bool) : Option RstReq :=
  s.rst.reqs.find? fun r => r.cls = c && r.basin = b && r.asserted = asserted

/-- Mark a request asserted. -/
def assertReq (s : State) (q : RstReq) : State :=
  { s with rst := { s.rst with reqs := s.rst.reqs.map fun r => if r = q then { r with asserted := true } else r } }

/-- Release a reset: the cause, RESET_DONE and the lifetime count (R36, R52, R413). -/
def releaseReq (s : State) (q : RstReq) (cls basins tlm : Nat) : State :=
  let s : State := { s with rst := { s.rst with reqs := s.rst.reqs.filter (· ≠ q) } }
  let s := s.wr (pageBase .rcc 0 + Off.rccRstCause) (BitVec.ofNat 64 (basins * 2 ^ 16 + q.src.toNat * 2 ^ 8 + cls))
  (s.raise .rcc 0 Ev.rccResetDone).bump .tlm 0 (0x200 + 8 * tlm) 1

/-- WARM_COUNT rises, up to its maximum (R47). -/
def warmCount (s : State) : State :=
  s.p .rcc 0 Off.rccBkp0 63 32 (min 0xFFFFFFFF (s.g .rcc 0 Off.rccBkp0 63 32 + 1))

/-! ### Readiness (R37 to R41) -/

/-- The pages that READY of a page waits for (R37, R39). -/
def readyDeps (s : State) (b : Blk) (i : Nat) : Bool :=
  match b with
  | .dev => true
  | .rcc => true
  | .mbx => s.sec.running
  | .mem => s.rst.trained.toNat.testBit i && s.g .mem i Off.memInfo 2 0 ≠ 4
  | .shr => s.ready .mem (2 * i) && s.ready .mem (2 * i + 1)
  | .act => s.ready .sdm i
  | .cor => false
  | .hlk | .sdm | .xlt | .sth | .shl | .kvp | .fab | .inl | .red | .ras | .tlm | .sec => true

/-- A page may set READY: it is not READY, DEV and RCC are, and no reset holds it; in recovery only four pages do (R420). -/
def mayReady (s : State) (b : Blk) (i : Nat) : Bool :=
  (!s.sec.recovery || b = .dev || b = .rcc || b = .mbx || b = .hlk) &&
  decide (i < pageCount b) && !s.ready b i && s.power.rails && s.clocked && !s.coveredPage b i &&
    tget s.rst.blk noBlk (pageBase b i) = noBlk && s.readyDeps b i &&
    (b = .dev || b = .rcc || (s.ready .dev 0 && s.ready .rcc 0))

/-- READY of a page sets; a fault latched for its lateness clears (R58). -/
def nowReady (s : State) (b : Blk) (i : Nat) : State :=
  let s := (s.setReady b i true).latchFault b i false
  if b = .mem then { s with clock := { s.clock with ddrLock := true } } else s

/-- A basin may set READY (R39, R398, R399). -/
def mayBasin (s : State) (b : Nat) : Bool :=
  decide (b < 4) && !s.basinReady b && !s.rst.held && !(s.rst.reqs.any fun r => r.asserted && (r.cls ≠ .basin || r.basin = b)) &&
    s.ready .sdm b && s.ready .sth b && s.ready .act b && s.ready .shl b && s.ready .xlt 0 && s.rst.tested.toNat.testBit b &&
    !s.ras.exhausted.toNat.testBit b && !(s.rst.coreDown.any fun e => e.1 / 576 = b)

/-- Bring the page of a VA into slice 0 from the page map, as an access of the device's own does (R228). -/
def mapIn (s : State) (va : Nat) : State :=
  match s.translate 0 va true with
  | .miss =>
    let f : XFault := { id := 0, slice := 0, kind := 0, va := va, write := true, req := 0, round := 0, stage := .search, holders := [] }
    match s.mapSearch f true with
    | .entry e => (s.setSlice 0 ((s.slice 0).filter fun x => !x.meets e.va e.size)).installIn 0 e
    | .recheck | .kind _ | .resume => s
  | .hit _ _ | .cow _ | .perm => s

/-- The check of the scale headers before the first conversion after a reset (R151). -/
def headersDue (s : State) : State :=
  if s.scaleEn then ((List.range 64).foldl (fun s k => s.mapIn (s.scaleVa + 4096 * k)) s).headerCheck else s

/-- A failure record for a page or basin that misses its latest time; R407 gives it no OUTCOME (a free value). -/
def lateRecord (s : State) (b : Blk) (i : Nat) : State :=
  let (o, s) := s.freeByte
  s.record b i 0x10 o.toNat 0

/-- Cores that a power-on test tests. -/
def postCores (s : State) (b : Nat) : List Nat := ((List.range 592).map (b * 592 + ·)).filter s.coreGood

/-- A core passes the power-on test: with no due time on record, its full test falls due TEST_HOURS from release (R399). -/
def postPass (s : State) (q : Nat) : State :=
  if s.pcore q = physNew then s.setPcore q { physNew with dueAt := s.now + hours (s.g .ras 0 Off.rasTestcfg 55 48) } else s

/-- The power-on core test of a basin ends (R397, R399). -/
def postDone (s : State) (b : Nat) (failed : List Nat) : State :=
  let all := s.postCores b
  let bad := all.filter failed.contains
  let s := (all.filter fun q => !failed.contains q).foldl (fun s q => s.postPass q) s
  let s := bad.foldl (fun s q => s.retireMark q) s
  let s := (s.bump .tlm 0 (0x200 + 8 * 13) (all.length - bad.length)).bump .tlm 0 (0x200 + 8 * 14) bad.length
  let s := bad.foldl (fun s q => (s.raise .ras 0 Ev.rasTestFail).record .ras 0 0x0C 3 0 (phys := q)) s
  let s : State := { s with rst := { s.rst with tested := s.rst.tested ||| BitVec.ofNat 4 (2 ^ b) } }
  if bad = [] then s else s.rebuildBasin b

/-! ### Remote RESET (R339) -/

/-- Status of a RESET: key, form, basin mask and target from its payload. -/
def resetStatus (s : State) (l : Nat) (k : Pkt) : Nat :=
  let form := bat k.payload 3 1
  if !(s.g .dev 0 Off.devFabcfg 0 0 = 1 && k.src.toNat = s.g .dev 0 Off.devFabcfg 63 48 && (s.link l).peerJob.toNat = s.jobId) then 1
  else if !(bat k.payload 1 2 = 0xA5C3 && decide (1 ≤ form ∧ form ≤ 3) && (form ≠ 3 || bat k.payload 4 1 % 16 ≠ 0)) then 2
  else if bat k.payload 5 2 ≠ s.logid then 4
  else if s.power.drain = .running then 3
  else 0

/-- A RESET arrives: it is answered, and an accepted one starts (R339). -/
def remoteReset (s : State) (l : Nat) (k : Pkt) : State :=
  let st := s.resetStatus l k
  let form := bat k.payload 3 1
  let s := s.answer l k 0x10 0 ([0x11] ++ natBytes 1 st)
  if st = 3 then s.raise .rcc 0 Ev.rccResetRefused
  else if st ≠ 0 then s
  else
    let s := s.resetNotice form
    if form = 1 then s.requestReset .cold 0 0x05
    else if form = 2 then s.requestReset .warm 0 0x12
    else (List.range 4).foldl (fun s b => if (bat k.payload 4 1).testBit b then s.requestReset .basin b 0x21 else s) s

end State

/-! ### Clocks -/

/-- LOGIC_PLL_LOCK_LOST (R30). -/
def execLogicPllLockLost (s : State) : Host.Outcome State Fault Refusal :=
  .next (if s.power.rails ∧ s.clock.logicLock then
    ({ s with clock := { s.clock with logicLock := false } } : State).clockLost
  else s)

/-- LOGIC_PLL_LOCK_RETURN (R30). -/
def execLogicPllLockReturn (s : State) : Host.Outcome State Fault Refusal :=
  .next (({ s with clock := { s.clock with logicLock := true } } : State).clockBack)

/-- ROOT_REF_STOP (R30): the timer goes on from the internal oscillator. -/
def execRootRefStop (s : State) : Host.Outcome State Fault Refusal :=
  .next (if s.power.standby ∧ s.clock.rootOk then
    let s : State := { s with clock := { s.clock with rootOk := false, degraded := true } }
    if s.power.rails then s.clockLost else s
  else s)

/-- ROOT_REF_RETURN (R30). -/
def execRootRefReturn (s : State) : Host.Outcome State Fault Refusal :=
  .next (({ s with clock := { s.clock with rootOk := true } } : State).clockBack)

/-- DDR_PHY_PLL_LOCK_LOST (R30). -/
def execDdrPhyPllLockLost (s : State) : Host.Outcome State Fault Refusal :=
  .next (if s.power.rails ∧ s.clock.ddrLock ∧ !s.rst.held then
    let s : State := { s with clock := { s.clock with ddrLock := false } }
    (List.range 24).foldl (fun s c => s.phyReset .mem c) s
  else s)

/-- PHY_PLL_LOCK_LOST (R30): the host PHY PLL, or the Colsar PHY PLL. -/
def execPhyPllLockLost (host : Bool) (s : State) : Host.Outcome State Fault Refusal :=
  .next (if !s.power.rails ∨ s.rst.held then s
    else if host then
      if s.clock.hostLock then ({ s with clock := { s.clock with hostLock := false } } : State).phyReset .hlk 0 else s
    else if s.clock.colsarLock then
      let s : State := { s with clock := { s.clock with colsarLock := false } }
      (List.range 48).foldl (fun s p => s.phyReset .fab p) s
    else s)

/-! ### Requests -/

/-- A write of RCC_RST_CTRL reaches the page once RCC is READY (R40). -/
def rstWrite (s : State) (v : Word) : State := s.pageWrite .rcc 0 Off.rccRstCtrl (·.writeRstCtrl v)

/-- RST_CTRL_COLD (R36). -/
def execRstCtrlCold (key : BitVec 16) (s : State) : Host.Outcome State Fault Refusal :=
  .next (rstWrite s (BitVec.ofNat 64 (key.toNat * 2 ^ 48 + 1)))

/-- RST_CTRL_WARM (R36). -/
def execRstCtrlWarm (key : BitVec 16) (s : State) : Host.Outcome State Fault Refusal :=
  .next (rstWrite s (BitVec.ofNat 64 (key.toNat * 2 ^ 48 + 2)))

/-- RST_CTRL_BASIN (R36). -/
def execRstCtrlBasin (key : BitVec 16) (mask : BitVec 4) (s : State) : Host.Outcome State Fault Refusal :=
  .next (rstWrite s (BitVec.ofNat 64 (key.toNat * 2 ^ 48 + mask.toNat * 16)))

/-- RESET, the Colsar management command (R339). -/
def execReset (l : Nat) (k : Pkt) (s : State) : Host.Outcome State Fault Refusal :=
  .next (s.mgmtArrive l k 0x10 fun s => s.remoteReset l k)

/-! ### Assertion and release (R432) -/

/-- COLD_RESET_ASSERT (R33, R432). -/
def execColdResetAssert (s : State) : Host.Outcome State Fault Refusal :=
  .next (match s.reqOf .cold 0 false with
    | some q => if s.rst.held then s else s.dieClear.assertReq q
    | none => s)

/-- WARM_RESET_ASSERT (R33, R432): RESET_NOTICE leaves first; an accepted remote RESET has sent it already (R339). -/
def execWarmResetAssert (s : State) : Host.Outcome State Fault Refusal :=
  .next (match s.reqOf .warm 0 false with
    | some q => ((if q.src = 0x12 then s else s.resetNotice 2).warmClear).assertReq q
    | none => s)

/-- BASIN_RESET_ASSERT (R33, R432). -/
def execBasinResetAssert (basin : Nat) (s : State) : Host.Outcome State Fault Refusal :=
  .next (match s.reqOf .basin basin false with
    | some q => if basin < 4 then (s.basinClear basin).assertReq q else s
    | none => s)

/-- COLD_RESET_RELEASE (R36, R432): with source 0x03, only once lock has returned (R30). -/
def execColdResetRelease (s : State) : Host.Outcome State Fault Refusal :=
  .next (match s.reqOf .cold 0 true with
    | some q =>
      if s.clocked && s.power.rails then
        let s := s.releaseReq q 1 0 4
        if q.src = 0x03 then s.raise .rcc 0 Ev.rccLockLost else s.p .rcc 0 Off.event Ev.rccLockLost Ev.rccLockLost 0
      else s
    | none => s)

/-- WARM_RESET_RELEASE (R36, R47, R432). -/
def execWarmResetRelease (s : State) : Host.Outcome State Fault Refusal :=
  .next (match s.reqOf .warm 0 true with
    | some q => (s.warmCount).releaseReq q 2 0 5
    | none => s)

/-- BASIN_RESET_RELEASE (R36, R47, R432): LAST_BASINS names the one basin of this reset (DEDUCED; Assumption 35). -/
def execBasinResetRelease (basin : Nat) (s : State) : Host.Outcome State Fault Refusal :=
  .next (match s.reqOf .basin basin true with
    | some q => (s.warmCount).releaseReq q 3 (2 ^ (basin % 4)) 6
    | none => s)

/-! ### Readiness -/

/-- BLOCK_READY (R37 to R39): the page's own work after a reset is done. -/
def execBlockReady (b : Blk) (i : Nat) (s : State) : Host.Outcome State Fault Refusal :=
  .next (if s.mayReady b i then s.nowReady b i else s)

/-- POWER_ON_CORE_TEST_DONE (R37, R399). -/
def execPowerOnCoreTestDone (basin : Nat) (failed : List Nat) (s : State) : Host.Outcome State Fault Refusal :=
  .next (if basin < 4 ∧ !s.rst.tested.toNat.testBit basin ∧ s.ready .dev 0 ∧ !s.rst.held then s.postDone basin failed else s)

/-- BASIN_READY (R37 to R39). -/
def execBasinReady (basin : Nat) (s : State) : Host.Outcome State Fault Refusal :=
  .next (if s.mayBasin basin then (s.setBasinReady basin true).headersDue else s)

/-- READY_LATE (R41): a page that misses its latest time; a COR page names its basin, which has no page of its own. -/
def execReadyLate (b : Blk) (i : Nat) (s : State) : Host.Outcome State Fault Refusal :=
  .next (if i < pageCount b ∧ !s.ready b i then
    let s := (s.raise .rcc 0 Ev.rccReadyLate).lateRecord b i
    if b = .cor then s else s.latchFault b i true
  else s)

/-! ### Block resets -/

/-- BLK_RESET (R35, R60): the header takes the write before READY too (R434). -/
def execBlkReset (b : Blk) (i : Nat) (s : State) : Host.Outcome State Fault Refusal := .next (s.blockRequest b i)

/-- DEFERRED_RESET_START (R35). -/
def execDeferredResetStart (b : Blk) (i : Nat) (s : State) : Host.Outcome State Fault Refusal :=
  .next (if tget s.rst.blk noBlk (pageBase b i) = .deferred ∧ s.phase = 0 ∧ i < pageCount b then s.blockStart b i else s)

end Sys2Proof.Machine
end

