-- ==== Sys2Proof/Machine/HostLink.lean ====
section
/-! DEFINITION. The host link: training and light (R79 to R83), the HDM window and bias (R84 to R86), DOE discovery and CDAT
(R87), host-issued resets (R103 to R106). -/

namespace Sys2Proof.Machine

/-- Lanes of a width counted from lane 0, or from lane 15 by lane reversal (R81). -/
def laneMask (w : Nat) (reversed : Bool) : Nat := if reversed then 2 ^ 16 - 2 ^ (16 - w) else 2 ^ w - 1

/-- Every lane of a mask is lit. -/
def lanesLit (lit m : Nat) : Bool := lit &&& m = m

/-- A width can train on the lit lanes. -/
def widthFits (lit w : Nat) : Bool := [16, 8, 4].contains w && (lanesLit lit (laneMask w false) || lanesLit lit (laneMask w true))

/-- A decoder that is not committed. -/
def hdm0 : Hdm := { hpa := 0, dpa := 0, size := 0, committed := false, notCommitted := false }

namespace State

/-! ### Link state -/

/-- STATE of HLK_LINK. -/
def hostState (s : State) : Nat := s.g .hlk 0 Off.hlkLink 2 0

/-- Mode of R80 while the link is up. -/
def hostMode (s : State) : Nat := s.g .hlk 0 Off.hlkLink 63 56

/-- Lanes in use. -/
def hostLanes (s : State) : Nat :=
  let w := s.g .hlk 0 Off.hlkLink 55 48
  let m := laneMask w false
  if lanesLit (s.g .hlk 0 Off.hlkLink 39 24) m then m else laneMask w true

/-- The host link may light and train (R18, R22, R30, R60): it is powered and clocked, its page is not in reset, its optics are
on. -/
def hostMayTrain (s : State) : Bool :=
  s.power.rails && s.clocked && s.power.txOn && s.clock.hostLock && !s.power.opticOff.toNat.testBit 12 && s.hostState ≠ 2 &&
    s.ready .hlk 0 && !s.coveredPage .hlk 0 && tget s.rst.blk noBlk (pageBase .hlk 0) = noBlk

/-- The link is up on a mode, width and speed (R81, R89). -/
def hostTrained (s : State) (mode width speed lit : Nat) : State :=
  let w := BitVec.ofNat 64 (mode % 256 * 2 ^ 56 + width % 256 * 2 ^ 48 + speed % 256 * 2 ^ 40 + lit % 2 ^ 16 * 2 ^ 24 + 2)
  let again := s.hostState = 3
  let s := s.wr (pageBase .hlk 0 + Off.hlkLink) w
  let s := if again then s else s.raise .hlk 0 Ev.hlkLinkUp
  if width < 16 then s.raise .hlk 0 Ev.hlkWidthDegraded else s

/-- Training ends (R66, R80): the first training opens interface 4; a retrain keeps the mode. -/
def hostTrain (s : State) (offer : List (BitVec 8)) (width speed lit : Nat) : State :=
  if s.hostState = 3 then s.hostTrained s.hostMode width speed lit
  else match s.negotiate 4 fun c => offer.contains (BitVec.ofNat 8 c) with
    | (s, some m) => s.hostTrained m width speed lit
    | (s, none) => s.p .hlk 0 Off.hlkLink 39 24 lit

/-- The link goes down for want of light (R81, R105): SURPRISE_DOWN unless a removal drain runs. -/
def hostDark (s : State) : State :=
  let s := s.hostBlock 0
  if s.power.drain = .none then s.raise .hlk 0 Ev.hlkSurpriseDown else s

/-- Light on the host lanes after a loss of 100 µs (R81). -/
def hostLight (s : State) (lit : Nat) : State :=
  let used := s.hostLanes
  let st := s.hostState
  let s := s.p .hlk 0 Off.hlkLink 39 24 lit
  if st ≠ 2 ∧ st ≠ 3 ∨ lanesLit lit used then s
  else if lit &&& used ≠ 0 ∧ [16, 8, 4].any (widthFits lit) then
    (s.p .hlk 0 Off.hlkLink 2 0 3).bump .hlk 0 0x200 1
  else s.hostDark

/-- Function Level Reset (R33, R103): HLK and MBX take a Block reset with the link kept up; every ring is Queue-reset. -/
def flr (s : State) : State :=
  let s := (s.abortRings 5).closeRings
  let s : State := { s with hlk := { s.hlk with msix := [], biasSettling := false } }
  let s := (s.pageColumn .hlk 0).holdPage .hlk 0
  (s.dropMbx.pageColumn .mbx 0).holdPage .mbx 0

/-! ### The HDM window (R84, R85) -/

/-- A decoder. -/
def hdm (s : State) (n : Nat) : Hdm := tget s.hlk.hdm hdm0 n

/-- Store a decoder. -/
def setHdm (s : State) (n : Nat) (x : Hdm) : State := { s with hlk := { s.hlk with hdm := tset s.hlk.hdm hdm0 n x } }

/-- The rules of a commit (R84). The host range is aligned to 256 MiB, as the CXL 2.0 decoder holds it (PRESUMED; Assumption 36).
In mode 0x11 Range 1 stands for decoder 0 and maps all of DPA 0 to E - 1 (DEDUCED; Assumption 36). -/
def hdmOk (s : State) (n hpa dpa size ways : Nat) : Bool :=
  let e := s.hlk.exposed * 2 ^ 30
  let other := s.hdm (1 - n)
  n < 2 && ways = 1 && 0 < size && size % 2 ^ 30 = 0 && dpa % 2 ^ 30 = 0 && dpa + size ≤ e && hpa % 2 ^ 28 = 0 &&
    (s.hostMode ≠ 0x11 || (n = 0 && dpa = 0 && size = e)) &&
    !(other.committed && ((dpa < other.dpa + other.size && other.dpa < dpa + size) ||
      (hpa < other.hpa + other.size && other.hpa < hpa + size)))

/-- The host commits a decoder. -/
def hdmCommit (s : State) (n hpa dpa size ways : Nat) : State :=
  if 2 ≤ n ∨ s.hostState ≠ 2 ∨ s.hostMode = 0x10 then s
  else if (s.hdm n).committed then s
  else if s.hdmOk n hpa dpa size ways then
    s.setHdm n { hpa := hpa, dpa := dpa, size := size, committed := true, notCommitted := false }
  else s.setHdm n { hpa := hpa, dpa := dpa, size := size, committed := false, notCommitted := true }

/-- A write of HLK_HDMCFG.EXPOSE (R6, R84). -/
def writeExpose (s : State) (e : Nat) : State :=
  if s.locked then s.refuse false true Ev.devWriteLocked (pageBase .hlk 0 + Off.hlkHdmcfg)
  else if 1024 < e ∨ s.dimmSize / 2 ^ 30 < e then s.raise .hlk 0 Ev.hlkRingError
  else s.p .hlk 0 Off.hlkHdmcfg 10 0 e

/-- A write of HLK_BIASn (R85): a change starts BIAS_SETTLING. -/
def writeBias (s : State) (n : Nat) (v : Word) : State :=
  let a := pageBase .hlk 0 + Off.hlkBias + 8 * n
  if s.rd a = v then s else { s.wr a v with hlk := { s.hlk with biasSettling := true } }

/-- The bias bit of a DPA. -/
def deviceBias (s : State) (d : Nat) : Bool :=
  let i := d / 2 ^ 30
  bit (s.rd (pageBase .hlk 0 + Off.hlkBias + 8 * (i / 64))) (i % 64)

/-- DPA of a host address that a committed decoder maps, with the bytes left in the range. -/
def hdmMap (s : State) (a : Nat) : Option (Nat × Nat) :=
  [0, 1].findSome? fun n =>
    let x := s.hdm n
    if x.committed ∧ x.hpa ≤ a ∧ a < x.hpa + x.size then some (x.dpa + (a - x.hpa), x.hpa + x.size - a) else none

/-- A host access to the window (R84, R85): the device serves it from DIMM under either bias. A read of a line that holds poison
is answered poisoned; memory that is not READY answers nothing, and the access waits (R39). -/
def hdmAccess (s : State) (write : Bool) (a len : Nat) (data : Bytes) : State :=
  match s.hdmMap a with
  | none => s
  | some (d, room) =>
    let pa := 0x80000000000 + d
    let n := if write then data.length else len
    if s.hostState ≠ 2 ∨ s.hostMode = 0x10 ∨ n = 0 ∨ room < n ∨ s.physRes pa n ≠ .ok then s
    else
      let s := if s.deviceBias d ∨ s.deviceBias (d + n - 1) then
          (s.raise .hlk 0 Ev.hlkBiasViolation).bump .hlk 0 (0x200 + 24) 1
        else s
      if write then s.storePhys pa data
      else (s.countBytes pa n false).out [.hdm (rdBytes s.mem.bytes pa n) (s.physPoison pa n)]

/-! ### DOE (R87) -/

/-- The DOE protocols (R87), as (vendor, type): PCI-SIG Discovery and CMA/SPDM, CXL table access. The codes are those of the
PCI-SIG and CXL specifications (PRESUMED; Assumption 36). -/
def doeTypes : List (Nat × Nat) := [(0x0001, 0), (0x0001, 1), (0x1E98, 2)]

/-- Answer to DOE Discovery: vendor, type, and the next index or 0. -/
def doeDiscovery (i : Nat) : Bytes :=
  match doeTypes[i]? with
  | some (v, t) => natBytes 2 v ++ natBytes 1 t ++ natBytes 1 (if i + 1 < doeTypes.length then i + 1 else 0)
  | none => natBytes 2 0xFFFF ++ natBytes 2 0

/-- The host reaches configuration space. -/
def hostConfig (s : State) : Bool := s.power.rails && s.ready .hlk 0 && s.hostState = 2

end State

/-! ### Commands -/

/-- HOST_LINK_TRAINED (R80, R81). -/
def execHostLinkTrained (offer : List (BitVec 8)) (width speed : BitVec 8) (lit : BitVec 16) (s : State) :
    Host.Outcome State Fault Refusal :=
  .next (if s.hostMayTrain && widthFits lit.toNat width.toNat && decide (1 ≤ speed.toNat ∧ speed.toNat ≤ 5) then
    s.hostTrain offer width.toNat speed.toNat lit.toNat
  else s)

/-- HOST_LIGHT_LOSS (R81, R105). -/
def execHostLightLoss (lit : BitVec 16) (s : State) : Host.Outcome State Fault Refusal :=
  .next (if s.power.rails && !s.rst.held then s.hostLight lit.toNat else s)

/-- HOST_HOT_RESET (R103): the link retrains. -/
def execHostHotReset (s : State) : Host.Outcome State Fault Refusal :=
  .next (if s.hostState = 2 ∨ s.hostState = 3 then s.hostBlock 1 else s)

/-- FUNCTION_LEVEL_RESET (R103). -/
def execFunctionLevelReset (s : State) : Host.Outcome State Fault Refusal :=
  .next (if s.hostState = 2 ∧ !s.coveredPage .hlk 0 then s.flr else s)

/-- CXL_RESET (R80, R103): no write is pending (R86), so it is a Warm reset of source 0x11; mode 0x20 only. -/
def execCxlReset (s : State) : Host.Outcome State Fault Refusal :=
  .next (if s.hostState = 2 ∧ s.hostMode = 0x20 then s.requestReset .warm 0 0x11 else s)

/-- HDM_DECODER_COMMIT (R84). -/
def execHdmDecoderCommit (n hpa dpa size ways : Nat) (s : State) : Host.Outcome State Fault Refusal :=
  .next (s.hdmCommit n hpa dpa size ways)

/-- HDM_EXPOSE_WRITE (R84). -/
def execHdmExposeWrite (e : BitVec 11) (s : State) : Host.Outcome State Fault Refusal :=
  .next (s.pageWrite .hlk 0 Off.hlkHdmcfg (·.writeExpose e.toNat))

/-- HLK_BIAS_WRITE (R85). -/
def execHlkBiasWrite (n : Nat) (v : Word) (s : State) : Host.Outcome State Fault Refusal :=
  .next (if n < 16 then s.pageWrite .hlk 0 (Off.hlkBias + 8 * n) (·.writeBias n v) else s)

/-- BIAS_SETTLED (R85). -/
def execBiasSettled (s : State) : Host.Outcome State Fault Refusal :=
  .next { s with hlk := { s.hlk with biasSettling := false } }

/-- HOST_HDM_ACCESS (R85). -/
def execHostHdmAccess (write : Bool) (hpa len : Nat) (data : Bytes) (s : State) : Host.Outcome State Fault Refusal :=
  .next (s.hdmAccess write hpa len data)

end Sys2Proof.Machine
end

