-- ==== Sys2Proof/Machine/Ras.lean ====
section
/-! DEFINITION. Replay control, in-field tests, verdict injection, the load gate, and lifetime telemetry (R76, R391 to R399,
R400, R402, R410 to R414). -/

namespace Sys2Proof.Machine

/-- Physical cores of the die. -/
def physCount : Nat := 2368

namespace State

/-! ### Snapshots (R76) -/

/-- BAR0 offsets of every counter, histogram and CNT_SAT register of a page. -/
def counterRegs (b : Blk) (i : Nat) : List Nat :=
  let rows := (RegMap.rows b).filter fun r => r.kind ≠ .plain
  let cs := (rows.map fun r => (List.range r.n).map fun k => pageBase b i + r.off + r.stride * k).flatten
  if rows = [] then [] else cs ++ [pageBase b i + Off.cntSat, pageBase b i + Off.cntSat + 8]

/-- Take a snapshot of a page: every counter register is copied and GEN rises. -/
def takeSnap (s : State) (b : Blk) (i : Nat) : State :=
  let as := counterRegs b i
  if as = [] then s
  else
    let s : State := { s with snaps := as.foldl (fun t a => tset t 0 a (s.rd a)) s.snaps }
    s.p b i Off.cntSnap 47 32 (s.g b i Off.cntSnap 47 32 + 1)

/-! ### Tests (R394 to R398) -/

/-- Cores of a basin under test. -/
def testsIn (s : State) (b : Nat) : Nat := (s.ras.cores.filter fun e => e.1 / 592 = b && e.2.testing).length

/-- A physical core that a test can run on. -/
def testable (s : State) (q : Nat) : Bool := decide (q < physCount) && s.coreGood q && !(s.pcore q).testing

/-- A core's test falls due. -/
def makeDue (s : State) (q : Nat) : State :=
  if s.testable q then s.setPcore q { s.pcore q with due := true, overdue := false, dueAt := s.now } else s

/-- A test begins on a free spare; the spare leaves the count of free spares. -/
def testBegin (s : State) (q : Nat) : State :=
  let b := q / 592
  let n := (s.freeSpares b).length
  let s := s.setPcore q { s.pcore q with testing := true, due := false, deferred := false }
  spareLow n s b

/-- A due test starts, or asks for the swap that it needs (R395, R396). A swap waits for a stream-end barrier while a primary
launch runs. -/
def testStart (s : State) (q : Nat) : State :=
  let b := q / 592
  if !s.testable q || !(s.pcore q).due || !s.basinReady b || s.quiet .ras 0 then s
  else match s.logicalOf q with
    | none => if (s.freeSpares b).contains q && decide (s.testsIn b < s.g .ras 0 Off.rasTestcfg 7 4) then s.testBegin q else s
    | some l =>
      if (s.freeSpares b).length ≤ s.g .ras 0 Off.rasTestcfg 3 0 ∨ (s.core l).swap ≠ .none then s
      else
        let s := s.setPcore q { s.pcore q with deferred := (s.core l).pri.isSome }
        s.requestSwap l true

/-- A test fails: the core is retired (R394, R397). -/
def testFail (s : State) (q : Nat) : State :=
  let s := s.setPcore q { s.pcore q with testing := false }
  let s := (s.bump .ras 0 (0x200 + 24) 1).bump .ras 0 (0x200 + 32) 1
  let s := (s.bump .tlm 0 (0x200 + 8 * 14) 1).raise .ras 0 Ev.rasTestFail
  (s.record .ras 0 0x0C 3 0 (phys := q)).retire q

/-- A test passes: the core is a free spare again, with its next due time (R395). -/
def testPass (s : State) (q : Nat) : State :=
  let x := s.pcore q
  let h := if x.suspect then s.g .ras 0 Off.rasTestcfg 47 40 else s.g .ras 0 Off.rasTestcfg 55 48
  let s := s.setPcore q { x with testing := false, due := false, overdue := false, deferred := false, dueAt := s.now + hours h }
  (s.bump .ras 0 (0x200 + 24) 1).bump .tlm 0 (0x200 + 8 * 13) 1

/-! ### Verdict injection and the load gate (R400, R402, R412) -/

/-- INJECT: the record in the RAS_VREC area is taken as received. -/
def vinject (s : State) : State :=
  let base := s.g .ras 0 Off.rasVrec 56 17 * 131072
  let no := s.raise .ras 0 Ev.rasInjectRefused
  if base = 0 ∨ s.redState ≠ 3 ∨ s.phase ≠ 0 then no
  else match s.vget 0 base recLen with
    | some (r, s') => if bat r 0 8 = s'.redStep then s'.setRed { s'.red with verdict := some r } else no
    | none => no

/-- A write of RAS_LOADGATE. -/
def writeLoadgate (s : State) (hold : Bool) : State :=
  let s := s.p .ras 0 Off.rasLoadgate 0 0 (if hold then 1 else 0)
  if hold then s else s.redRelease

/-! ### Telemetry records (R410, R411) -/

/-- Whole hours until a time, rounded up, at most m (DESIGN CHOICE: the rounding; Assumption 37). -/
def hoursLeft (s : State) (t : Word) (m : Nat) : Nat := min m ((t.toNat - s.now.toNat + 899999999999) / 900000000000)

/-- The 64 suspect entries; unused ones are 0. -/
def suspectBytes (s : State) : Bytes :=
  let es := (s.ras.cores.filter fun e => e.2.suspect).take 64
  let bs := (es.map fun e => natBytes 2 e.1 ++ natBytes 2 (s.hoursLeft e.2.suspectEnd 65535) ++ natBytes 2 e.2.errors ++ [0, 0]).flatten
  bs ++ List.replicate (512 - bs.length) 0

/-- Hours until due of every physical core. -/
def dueBytes (s : State) : Bytes := (List.range physCount).map fun q =>
  let x := s.pcore q
  BitVec.ofNat 8 (if x.due then 0 else s.hoursLeft x.dueAt 255)

/-- A telemetry record of the live values. -/
def tlmRecord (s : State) (seq reason : Nat) : Bytes :=
  let a := pageBase .tlm 0
  let words (o n : Nat) : Bytes := ((List.range n).map fun k => natBytes 8 (s.rd (a + o + 8 * k)).toNat).flatten
  let body := [0x5A, 0x4C, 0x54, 0x52] ++ natBytes 4 1 ++ natBytes 8 seq ++ natBytes 8 s.now.toNat ++ natBytes 8 reason ++
    List.replicate 32 0 ++ words 0x200 25 ++ words Off.cntSat 1 ++ words 0x400 64 ++ s.suspectBytes ++ s.dueBytes
  let body := body ++ List.replicate (0xFFC - body.length) 0
  body ++ natBytes 4 (crc32 body)

/-- Write a telemetry record to flash. A failed write leaves a record whose CRC does not hold (DESIGN CHOICE; Assumption 37). -/
def persist (s : State) (reason : Nat) (ok : Bool) : State :=
  let s := s.takeSnap .tlm 0
  let n := s.ras.tlmSeq + 1
  let r : TlmRec := { seq := n, reason := reason, data := s.tlmRecord n reason, good := ok }
  let s : State := { s with ras := { s.ras with tlmSeq := n, tlm := (s.ras.tlm ++ [r]).drop (s.ras.tlm.length - 2047) } }
  if ok then (s.p .tlm 0 Off.tlmPersist 31 0 n).raise .tlm 0 Ev.tlmPersistDone else s.raise .tlm 0 Ev.tlmPersistFail

/-- Bin of a value: ranges of a width from a base, clipped to the 32 bins (R413). -/
def histBin (v base width : Int) : Nat := min 31 ((v - base) / width).toNat

/-- The histograms sample. -/
def histSample (s : State) : State :=
  let die := sext 16 (s.g .dev 0 Off.devTherm 31 16)
  let inlet := sext 16 (s.g .dev 0 Off.devTherm 63 48)
  let s := s.bumpBin .tlm 0 Off.tlmHist (histBin die 400 40)
  let s := s.bumpBin .tlm 0 (Off.tlmHist + 0x80) (histBin inlet 240 16)
  let s := s.bumpBin .tlm 0 (Off.tlmHist + 0x100) (histBin (s.g .dev 0 Off.devInput 31 16) 0 250)
  s.bumpBin .tlm 0 (Off.tlmHist + 0x180) (max s.power.nWin s.power.nLim)

end State

/-! ### Commands -/

/-- RAS_REPLAYCTL_SET (R392). -/
def execRasReplayctlSet (step : BitVec 48) (attempt : BitVec 4) (s : State) : Host.Outcome State Fault Refusal :=
  .next (s.pageWrite .ras 0 Off.rasReplayctl fun s =>
    s.wr (pageBase .ras 0 + Off.rasReplayctl) (BitVec.ofNat 64 (2 ^ 63 + attempt.toNat * 2 ^ 56 + step.toNat)))

/-- TEST_DUE (R395): scheduled tests run while EN is 1. -/
def execTestDue (phys : Nat) (s : State) : Host.Outcome State Fault Refusal :=
  .next (if s.g .ras 0 Off.rasTestcfg 63 63 = 1 ∧ s.power.rails then s.makeDue phys else s)

/-- IN_FIELD_TEST_START (R395, R396). -/
def execInFieldTestStart (phys : Nat) (s : State) : Host.Outcome State Fault Refusal := .next (s.testStart phys)

/-- IN_FIELD_TEST_DONE (R394, R395, R397). -/
def execInFieldTestDone (phys : Nat) (pass : Bool) (s : State) : Host.Outcome State Fault Refusal :=
  .next (if (s.pcore phys).testing then (if pass then s.testPass phys else s.testFail phys) else s)

/-- IN_FIELD_TEST_TIMEOUT (R394): an expiry counts as a failure. -/
def execInFieldTestTimeout (phys : Nat) (s : State) : Host.Outcome State Fault Refusal :=
  .next (if (s.pcore phys).testing then s.testFail phys else s)

/-- TEST_DEFER_EXPIRY (R396): the swap drains at the next barrier of any scope or at launch end. -/
def execTestDeferExpiry (phys : Nat) (s : State) : Host.Outcome State Fault Refusal :=
  .next (if (s.pcore phys).deferred then s.setPcore phys { s.pcore phys with deferred := false } else s)

/-- TEST_OVERDUE (R395): raised once. -/
def execTestOverdue (phys : Nat) (s : State) : Host.Outcome State Fault Refusal :=
  .next (if (s.pcore phys).due && !(s.pcore phys).overdue then
    (s.setPcore phys { s.pcore phys with overdue := true }).raise .ras 0 Ev.rasTestOverdue
  else s)

/-- SUSPICION_EXPIRY (R397). -/
def execSuspicionExpiry (phys : Nat) (s : State) : Host.Outcome State Fault Refusal :=
  .next (if (s.pcore phys).suspect then s.setPcore phys { s.pcore phys with suspect := false, suspectEnd := 0 } else s)

/-- RAS_TESTREQ (R412): GO clears when the test is queued. -/
def execRasTestreq (phys : BitVec 12) (s : State) : Host.Outcome State Fault Refusal :=
  .next (s.pageWrite .ras 0 Off.rasTestreq fun s => (s.p .ras 0 Off.rasTestreq 11 0 phys.toNat).makeDue phys.toNat)

/-- RAS_VINJECT (R400, R412). -/
def execRasVinject (s : State) : Host.Outcome State Fault Refusal := .next (s.pageWrite .ras 0 Off.rasVinject (·.vinject))

/-- RAS_LOADGATE_WRITE (R402). -/
def execRasLoadgateWrite (hold : Bool) (s : State) : Host.Outcome State Fault Refusal :=
  .next (s.pageWrite .ras 0 Off.rasLoadgate (·.writeLoadgate hold))

/-- TLM_PERSIST_NOW (R410). -/
def execTlmPersistNow (ok : Bool) (s : State) : Host.Outcome State Fault Refusal :=
  .next (s.pageWrite .tlm 0 Off.tlmPersist (·.persist 2 ok))

/-- TLM_PERSIST_PERIODIC (R410, R414): the write of a removal drain serves for both. -/
def execTlmPersistPeriodic (ok : Bool) (s : State) : Host.Outcome State Fault Refusal :=
  .next (if s.power.rails ∧ s.power.drain = .none then s.persist 0 ok else s)

/-- TLM_HIST_SAMPLE (R413): the values measured stand in DEV_THERM and DEV_INPUT. -/
def execTlmHistSample (tDie tInlet pin : BitVec 16) (s : State) : Host.Outcome State Fault Refusal :=
  .next (if s.power.rails then
    let s := (s.p .dev 0 Off.devTherm 31 16 tDie.toNat).p .dev 0 Off.devTherm 63 48 tInlet.toNat
    (s.p .dev 0 Off.devInput 31 16 pin.toNat).histSample
  else s)

end Sys2Proof.Machine
end

