-- ==== Sys2Proof/Machine/Security.lean ====
section
/-! DEFINITION. Firmware verification and boot (R415 to R422), attestation over SPDM (R423 to R426), debug unlock (R427, R428). -/

namespace Sys2Proof.Machine

/-- A 256-bit value as bytes, most significant first. -/
def bytes256 (d : BitVec 256) : Bytes := (natBytes 32 d.toNat).reverse

/-! ### Images (R416, R417) -/

/-- A field of an image header. -/
def hdrAt (img : Bytes) (o n : Nat) : Nat := bat img o n

/-- The body of an image; flash beyond the bytes staged reads erased. -/
def imgBody (img : Bytes) : Bytes :=
  let n := hdrAt img 16 4
  let b := bsub img 512 n
  b ++ List.replicate (n - b.length) 0xFF

/-- Every byte of a range is 0. -/
def zeroBytes (bs : Bytes) : Bool := bs.all (· = 0)

/-- Check 1 of R417: magic, version, reserved bytes, lengths. -/
def imgFormOk (img : Bytes) : Bool :=
  decide (512 ≤ img.length) && bsub img 0 4 = [0x5A, 0x46, 0x57, 0x31] && hdrAt img 4 4 = 1 && hdrAt img 14 1 / 2 = 0 &&
    hdrAt img 15 1 = 0 && zeroBytes (bsub img 120 328) &&
    decide (1 ≤ hdrAt img 16 4 ∧ hdrAt img 16 4 ≤ 0x4000000 - 512 ∧ hdrAt img 20 4 < hdrAt img 16 4)

/-- Signature check of bytes 0 to n - 1 under the key at one offset and the signature at another. -/
def sigOk (d : Bytes) (key n sig : Nat) : Bool := Config.sm2Verify (bsub d key 64) (d.take n) (bsub d sig 64)

/-! ### SPDM messages (R424 to R426) -/

/-- Connection state before GET_VERSION. -/
def spdm0 : Spdm := { version := false, caps := false, algs := false, vca := [], cert := [], meas := [] }

/-- Key of a transport's connection state. -/
def spdmKey : Transport → Nat
  | .host => 0
  | .link l => 1 + l

/-- An ERROR response. The message forms and codes of this section are those of SPDM 1.2 (PRESUMED; Assumption 38). -/
def spdmError (code : Nat) : Bytes := [0x12, 0x7F] ++ natBytes 1 code ++ [0]

/-- ERROR codes of SPDM 1.2. -/
def errInvalid : Nat := 0x01
/-- UnexpectedRequest. -/
def errUnexpected : Nat := 0x04
/-- UnsupportedRequest. -/
def errUnsupported : Nat := 0x07
/-- VersionMismatch. -/
def errVersion : Nat := 0x41

/-- The requests that the module accepts (R424). -/
def spdmCodes : List Nat := [0x81, 0x82, 0x83, 0x84, 0xE0, 0xE1, 0xE3]

namespace State

/-! ### Slots and fuses (R418 to R420) -/

/-- The image of slot A (false) or B (true). -/
def slotImg (s : State) (b : Bool) : Bytes := if b then s.sec.slotB else s.sec.slotA

/-- A fused vendor key hash matches and its slot is intact (check 2 of R417). -/
def vendorOk (s : State) (img : Bytes) : Bool :=
  let k := hdrAt img 13 1
  decide (k < 2) && Config.sm3 (bsub img 24 64) = Config.fuseVendorKey (k = 1) && !s.sec.vendorRevoked.toNat.testBit k

/-- The first check of R417 that an image fails, or 0. -/
def imgCheck (s : State) (img : Bytes) : Nat :=
  if !imgFormOk img then 1
  else if !s.vendorOk img then 2
  else if !sigOk img 24 448 448 then 3
  else if bytes256 (Config.sm3 (imgBody img)) ≠ bsub img 88 32 then 4
  else if hdrAt img 12 1 < s.sec.rollback then 5
  else 0

/-- RUN_SLOT. -/
def runSlot (s : State) : Bool := s.g .sec 0 Off.secBoot 0 0 = 1

/-- The slot that FW_STAGE writes: not ACTIVE (R421). -/
def stageSlot (s : State) : Bool := !s.sec.fwMeta.active

/-- Store a slot's image. -/
def setSlot (s : State) (b : Bool) (img : Bytes) : State :=
  { s with sec := if b then { s.sec with slotB := img } else { s.sec with slotA := img } }

/-- Boot fields of SEC_BOOT for a running image, or recovery (R430). -/
def setBoot (s : State) (slot : Option Bool) (fallback trial : Bool) : State :=
  let s := s.wr (pageBase .sec 0 + Off.secBoot) 0
  match slot with
  | some b =>
    let img := s.slotImg b
    let s := (s.p .sec 0 Off.secBoot 63 32 (hdrAt img 8 4)).p .sec 0 Off.secBoot 31 24 (hdrAt img 12 1)
    let s := (s.p .sec 0 Off.secBoot 2 2 (if fallback then 1 else 0)).p .sec 0 Off.secBoot 1 1 (if trial then 1 else 0)
    s.p .sec 0 Off.secBoot 0 0 (if b then 1 else 0)
  | none => s.p .sec 0 Off.secBoot 3 3 1

/-- The boot ROM chooses a slot and starts it, or enters recovery (R420). Connection states of SPDM are lost with the wellhead's
memory (DESIGN CHOICE; Assumption 38). -/
def boot (s : State) : State :=
  let m := s.sec.fwMeta
  let tryPending := m.pending.isSome && decide (0 < m.tries)
  let pref := if tryPending then m.pending.getD false else m.active
  let m := if tryPending then { m with tries := m.tries - 1 } else m
  let slot := if s.imgCheck (s.slotImg pref) = 0 then some pref else if s.imgCheck (s.slotImg !pref) = 0 then some (!pref) else none
  let fallback := slot = some (!pref)
  let trial := tryPending && slot = some pref
  let s : State := { s with sec := { s.sec with fwMeta := m, running := true, recovery := slot.isNone, trial := trial, restartDue := false, spdm := [] } }
  let s := s.setBoot slot fallback trial
  if fallback ∨ slot.isNone then s.raise .sec 0 Ev.secFwFallback else s

/-- A trial image confirms itself (R420): fuses first, then the metadata. -/
def confirm (s : State) : State :=
  let b := s.runSlot
  let img := s.slotImg b
  let svn := hdrAt img 12 1
  let rose := s.sec.rollback < svn
  let other := 1 - hdrAt img 13 1
  let rv := if hdrAt img 14 1 % 2 = 1 then s.sec.vendorRevoked ||| BitVec.ofNat 2 (2 ^ other) else s.sec.vendorRevoked
  let s : State := { s with sec := { s.sec with
    rollback := max s.sec.rollback svn, vendorRevoked := rv, trial := false, verified := false, staged := 0, stagedTotal := 0
    fwMeta := { active := b, pending := none, tries := 0 } } }
  let s := s.p .sec 0 Off.secBoot 1 1 0
  if rose then s.raise .sec 0 Ev.secRollbackBurned else s

/-- The wellhead goes down to restart; the die keeps running (R32). -/
def wellheadDown (s : State) : State :=
  { s with sec := { s.sec with running := false, trial := false, restartDue := false } }

/-! ### Staging (R421, R422) -/

/-- FW_STAGE: the code of R421 with the state after it. -/
def fwStage (s : State) (req : Bytes) : Nat × State :=
  let off := bat req 0 4
  let total := bat req 4 4
  let data := req.drop 8
  let b := s.stageSlot
  if s.sec.running && !s.sec.recovery && decide (s.runSlot = b) then (5, s)
  else
    let s : State := if off = 0 then
        { s with sec := { s.sec with staged := 0, stagedTotal := total, verified := false, fwMeta := { s.sec.fwMeta with pending := none } } }
      else s
    if off ≠ s.sec.staged ∨ total ≠ s.sec.stagedTotal ∨ total < off + data.length ∨ total = 0 ∨ 0x4000000 < total then (5, s)
    else
      let s := s.setSlot b ((s.slotImg b).take off ++ data)
      let s : State := { s with sec := { s.sec with staged := off + data.length } }
      if off + data.length < total then (0, s)
      else match s.imgCheck (s.slotImg b) with
        | 0 => (1, ({ s with sec := { s.sec with verified := true } } : State).raise .sec 0 Ev.secFwStaged)
        | 2 => (4, s)
        | 5 => (3, s)
        | _ => (2, s)

/-- FW_ACTIVATE: the MBX STATUS with the state after it. -/
def fwActivate (s : State) (mode : Nat) : Nat × State :=
  if mode = 2 then (0, { s with sec := { s.sec with fwMeta := { s.sec.fwMeta with pending := none } } })
  else if 2 < mode then (7, s)
  else if !s.sec.verified then (6, s)
  else
    let s : State := { s with sec := { s.sec with
      fwMeta := { s.sec.fwMeta with pending := some s.stageSlot, tries := 3 }, restartDue := s.sec.restartDue || mode = 1 } }
    (0, s.bump .sec 0 (0x200 + 32) 1)

/-! ### Debug unlock (R427, R428) -/

/-- A token meets every condition of R428. -/
def tokenOk (s : State) (t : Bytes) : Bool :=
  let k := bat t 5 1
  bsub t 0 4 = [0x5A, 0x44, 0x42, 0x47] && bat t 4 1 / 2 = 0 && bat t 6 2 = 0 && zeroBytes (bsub t 120 8) &&
    bsub t 8 16 = uuidBytes && s.sec.nonce.map bytes256 = some (bsub t 24 32) && decide (k < 2) &&
    tget s.sec.custKey none k = some (Config.sm3 (bsub t 56 64)) && !s.sec.custRevoked.toNat.testBit k && sigOk t 56 128 128

/-- UNLOCK: the nonce is consumed either way. -/
def unlockDebug (s : State) (t : Bytes) : Bool × State :=
  let ok := s.tokenOk t
  let s : State := { s with sec := { s.sec with nonce := none } }
  if ok then
    let w := BitVec.ofNat 64 (bat t 4 1 * 256 + bat t 5 1 * 2 + 1)
    let s : State := { s.wr (pageBase .sec 0 + Off.secDebug) w with sec := { s.sec with everUnlocked := true } }
    (true, (s.bump .sec 0 (0x200 + 16) 1).raise .sec 0 Ev.secDebugChanged)
  else (false, s.bump .sec 0 (0x200 + 24) 1)

/-- A core whose matrix engine is halted goes on (R176). -/
def releaseHalt (s : State) (c : Nat) : State :=
  match (s.core c).mxRun with
  | some t => s.setCore c { s.core c with mxRun := some { t with halted := false } }
  | none => s

/-- LOCK (R427, R431). -/
def lockDebug (s : State) : State :=
  if s.g .sec 0 Off.secDebug 0 0 = 0 then s
  else
    let s := (s.wr (pageBase .sec 0 + Off.secDebug) 0).raise .sec 0 Ev.secDebugChanged
    s.cores.foldl (fun s e => s.releaseHalt e.1) s

/-- GET_NONCE: 32 bytes of the random generator, free values (Assumption 4). -/
def newNonce (s : State) : Bytes × State :=
  let n := Config.freeNonce s.free
  (bytes256 n, { s with free := s.free + 1, sec := { s.sec with nonce := some n } })

/-- PROVISION: the refusal reason, or 0 with the fuse blown. -/
def provision (s : State) (slot : Nat) (key : Bytes) : Nat × State :=
  if s.locked then (2, s)
  else if (tget s.sec.custKey none slot).isSome then (3, s)
  else (0, { s with sec := { s.sec with custKey := tset s.sec.custKey none slot (some (BitVec.ofNat 256 (leNat key.reverse))) } })

/-- REVOKE: the refusal reason, or 0 with the fuse blown. -/
def revoke (s : State) (slot : Nat) : Nat × State :=
  if s.locked then (2, s)
  else (0, { s with sec := { s.sec with custRevoked := s.sec.custRevoked ||| BitVec.ofNat 2 (2 ^ slot) } })

/-! ### Measurements (R426) -/

/-- SEC_BOOT [11:6]: revoked vendor slots, provisioned and revoked customer slots. -/
def bootFuses (s : State) : Nat :=
  let cust := (if (tget s.sec.custKey none 0).isSome then 1 else 0) + (if (tget s.sec.custKey none 1).isSome then 2 else 0)
  s.sec.vendorRevoked.toNat * 16 + cust * 4 + s.sec.custRevoked.toNat

/-- PENDING as a byte. -/
def pendingByte (s : State) : Nat :=
  match s.sec.fwMeta.pending with
  | some b => if b then 1 else 0
  | none => 0xFF

/-- Value type and value of a measurement block. -/
def measurement (s : State) (n : Nat) : Option (Nat × Bytes) :=
  match n with
  | 1 => some (0x00, bytes256 Config.romDigest)
  | 2 => some (0x01, bytes256 (Config.sm3 ((s.slotImg s.runSlot).take 448)))
  | 3 => some (0x83, natBytes 4 (s.g .sec 0 Off.secBoot 63 32) ++ natBytes 1 (s.g .sec 0 Off.secBoot 31 24) ++
      natBytes 1 s.sec.rollback ++ natBytes 1 (if s.runSlot then 1 else 0) ++ natBytes 1 s.pendingByte)
  | 4 => some (0x82, natBytes 8 (s.rd (pageBase .dev 0 + Off.devPart)).toNat ++ natBytes 1 s.bootFuses)
  | 5 => some (0x85, natBytes 2 (s.g .sec 0 Off.secDebug 15 0) ++ natBytes 1 (if s.sec.everUnlocked then 1 else 0))
  | _ => none

/-- A measurement block as SPDM 1.2 frames it. -/
def measBlock (s : State) (n : Nat) : Bytes :=
  match s.measurement n with
  | some (t, v) => natBytes 1 n ++ [1] ++ natBytes 2 (v.length + 3) ++ natBytes 1 t ++ natBytes 2 v.length ++ v
  | none => []

/-! ### Requests (R424, R425) -/

/-- A transport's connection state. -/
def conn (s : State) (x : Transport) : Spdm := tget s.sec.spdm spdm0 (spdmKey x)

/-- Store a connection state. -/
def setConn (s : State) (x : Transport) (c : Spdm) : State :=
  { s with sec := { s.sec with spdm := tset s.sec.spdm spdm0 (spdmKey x) c } }

/-- A signature by the device key, with a fresh draw. -/
def sign (s : State) (m : Bytes) : Bytes × State :=
  (Config.sm2Sign Config.fuseSecret m s.free, { s with free := s.free + 1 })

/-- A 32-byte random value. -/
def drawNonce (s : State) : Bytes × State := (bytes256 (Config.freeNonce s.free), { s with free := s.free + 1 })

/-- GET_VERSION: an open of interface 5 (R65, R66); it starts the connection anew. -/
def spdmVersion (s : State) (x : Transport) (m : Bytes) : Bytes × State :=
  match s.negotiate 5 (fun _ => true) with
  | (s, none) => (spdmError errVersion, s)
  | (s, some v) =>
    let r : Bytes := [0x10, 0x04, 0, 0, 0, 1, 0] ++ natBytes 1 v
    (r, s.setConn x { spdm0 with version := true, vca := m ++ r })

/-- GET_CAPABILITIES: CERT_CAP, CHAL_CAP and MEAS_CAP 2. -/
def spdmCaps (s : State) (x : Transport) (m : Bytes) : Bytes × State :=
  let c := s.conn x
  let r : Bytes := [0x12, 0x61, 0, 0, 0, 16, 0, 0] ++ natBytes 4 0x16 ++ natBytes 4 2048 ++ natBytes 4 2048
  (r, s.setConn x { c with caps := true, vca := c.vca ++ m ++ r })

/-- NEGOTIATE_ALGORITHMS: SM2 and SM3, or InvalidRequest. -/
def spdmAlgs (s : State) (x : Transport) (m : Bytes) : Bytes × State :=
  let c := s.conn x
  if m.length < 32 ∨ !(bat m 8 4).testBit 9 ∨ !(bat m 12 4).testBit 6 then (spdmError errInvalid, s)
  else
    let r : Bytes := [0x12, 0x63, 0, 0] ++ natBytes 2 36 ++ [1, 0] ++ natBytes 4 0x80 ++ natBytes 4 0x200 ++ natBytes 4 0x40 ++
      List.replicate 16 0
    (r, s.setConn x { c with algs := true, vca := c.vca ++ m ++ r })

/-- GET_DIGESTS: certificate slot 0. -/
def spdmDigests (s : State) (x : Transport) (m : Bytes) : Bytes × State :=
  let c := s.conn x
  let r : Bytes := [0x12, 0x01, 0, 1] ++ bytes256 (Config.sm3 Config.certChain)
  (r, s.setConn x { c with cert := c.cert ++ m ++ r })

/-- GET_CERTIFICATE: a portion of the chain, of at most 1,024 bytes on the fabric. -/
def spdmCert (s : State) (x : Transport) (m : Bytes) : Bytes × State :=
  let c := s.conn x
  let n := Config.certChain.length
  let off := bat m 4 2
  if m.length < 8 ∨ bat m 2 1 % 16 ≠ 0 ∨ n ≤ off then (spdmError errInvalid, s)
  else
    let most := if x = .host then n - off else min 1024 (n - off)
    let k := min (bat m 6 2) most
    let r : Bytes := [0x12, 0x02, 0, 0] ++ natBytes 2 k ++ natBytes 2 (n - off - k) ++ bsub Config.certChain off k
    (r, s.setConn x { c with cert := c.cert ++ m ++ r })

/-- CHALLENGE: a signed CHALLENGE_AUTH. -/
def spdmChallenge (s : State) (x : Transport) (m : Bytes) : Bytes × State :=
  let c := s.conn x
  let kind := bat m 3 1
  if m.length < 36 ∨ bat m 2 1 ≠ 0 ∨ !([0, 1, 0xFF].contains kind) then (spdmError errInvalid, s)
  else
    let (n, s) := s.drawNonce
    let sum : Bytes := if kind = 0 then []
      else bytes256 (Config.sm3 (((if kind = 1 then [1, 2] else [1, 2, 3, 4, 5]).map s.measBlock).flatten))
    let r : Bytes := [0x12, 0x03, 0, 1] ++ bytes256 (Config.sm3 Config.certChain) ++ n ++ sum ++ [0, 0]
    let (g, s) := s.sign (c.vca ++ c.cert ++ m ++ r)
    (r ++ g, s.setConn x { c with cert := [] })

/-- GET_MEASUREMENTS: a count, one block or all five, signed when asked. -/
def spdmMeas (s : State) (x : Transport) (m : Bytes) : Bytes × State :=
  let c := s.conn x
  let signed := bat m 2 1 % 2 = 1
  let op := bat m 3 1
  if (signed && (decide (m.length < 37) || decide (bat m 36 1 % 16 ≠ 0))) || !(op = 0 || op = 0xFF || decide (op ≤ 5)) then
    (spdmError errInvalid, s)
  else
    let ns := if op = 0 then [] else if op = 0xFF then [1, 2, 3, 4, 5] else [op]
    let rec_ := (ns.map s.measBlock).flatten
    let (n, s) := s.drawNonce
    let r : Bytes := [0x12, 0x60, if op = 0 then 5 else 0, 0] ++ natBytes 1 ns.length ++ natBytes 3 rec_.length ++ rec_ ++ n ++ [0, 0]
    let log := c.meas ++ m ++ r
    if signed then
      let (g, s) := s.sign (c.vca ++ log)
      (r ++ g, s.setConn x { c with meas := [] })
    else (r, s.setConn x { c with meas := log })

/-- The answer to a request, by its code and the connection's state. -/
def spdmRun (s : State) (x : Transport) (m : Bytes) : Bytes × State :=
  let c := s.conn x
  let code := bat m 1 1
  if code = 0x84 then s.spdmVersion x m
  else if !spdmCodes.contains code then (spdmError errUnsupported, s)
  else if !c.version then (spdmError errUnexpected, s)
  else if bat m 0 1 ≠ 0x12 then (spdmError errVersion, s)
  else if code = 0xE1 then s.spdmCaps x m
  else if !c.caps then (spdmError errUnexpected, s)
  else if code = 0xE3 then s.spdmAlgs x m
  else if !c.algs then (spdmError errUnexpected, s)
  else if code = 0x81 then s.spdmDigests x m
  else if code = 0x82 then s.spdmCert x m
  else if code = 0x83 then s.spdmChallenge x m
  else s.spdmMeas x m

/-- Answer a request and count it (R430). -/
def spdmAnswer (s : State) (x : Transport) (m : Bytes) : Bytes × State :=
  let (r, s) := s.spdmRun x m
  let s := s.bump .sec 0 0x200 1
  (r, if bat r 1 1 = 0x7F then s.bump .sec 0 (0x200 + 8) 1 else s)

/-- A request on a transport (R425, R431): on the fabric only on links in STATE 2, unanswered while the wellhead restarts; on DOE
it waits for the wellhead's start. `dst` is the requester's logical ID. -/
def spdmRequest (s : State) (x : Transport) (dst : Nat) (m : Bytes) : State :=
  match x with
  | .host =>
    if !s.hostConfig then s
    else if !s.sec.running then { s with sec := { s.sec with doePending := s.sec.doePending ++ [m] } }
    else
      let (r, s) := s.spdmAnswer x m
      s.out [.spdm x r]
  | .link l =>
    if !(decide ((s.link l).st = 2) && s.ready .fab (l / 2) && s.sec.running && decide (m.length ≤ 2048)) then s
    else
      let (r, s) := s.spdmAnswer x m
      s.mgmt l dst ([0x20] ++ r)

/-- A request named by its row: the message carries that code. -/
def spdmNamed (s : State) (x : Transport) (m : Bytes) (code : Nat) : State :=
  if bat m 1 1 = code ∧ 4 ≤ m.length then
    match x with
    | .host => s.spdmRequest x 0 m
    | .link l => s.spdmRequest x (s.link l).peer.toNat m
  else s

/-- A response to a request of this module's own (R425). -/
def spdmRx (s : State) (k : Pkt) : State :=
  let m := k.payload.drop 1
  let a := pageBase .sec 0 + Off.secSpdmrx
  let s : State := match s.mcmdWaiting 0x20 k.src.toNat with
    | some p => s.mrespDone p 0
    | none => s
  let s : State := (List.range 256).foldl (fun s j => s.wr (a + 8 * j) (BitVec.ofNat 64 (bat m (8 * j) 8))) s
  let w := BitVec.ofNat 64 (2 ^ 63 + k.src.toNat * 2 ^ 32 + m.length % 4096)
  (s.wr (pageBase .sec 0 + Off.secSpdmrxlen) w).raise .sec 0 Ev.secSpdmRx

/-- An SPDM message in a management packet (R338, R425): requests have codes from 0x80. -/
def spdmArrive (s : State) (l : Nat) (k : Pkt) : State :=
  let m := k.payload.drop 1
  if (s.link l).st ≠ 2 ∨ m.length = 0 ∨ 2048 < m.length then s
  else if 0x80 ≤ bat m 1 1 then s.spdmRequest (.link l) k.src.toNat m
  else s.spdmRx k

/-- Requests from DOE that waited are answered, in order. -/
def doeDrain (s : State) : State :=
  let ms := s.sec.doePending
  ms.foldl (fun s m => s.spdmRequest .host 0 m) { s with sec := { s.sec with doePending := [] } }

/-- A DOE request (R87). -/
def doe (s : State) (q : DoeReq) : State :=
  if !s.hostConfig then s
  else match q with
    | .discovery i => s.out [.doe (doeDiscovery i.toNat)]
    | .cdat _ => s.out [.doe (Config.cdat s.hlk.exposed)]
    | .spdm m => s.spdmRequest .host 0 m

end State

/-! ### Commands -/

/-- GET_VERSION (R424). -/
def execGetVersion (x : Transport) (msg : Bytes) (s : State) : Host.Outcome State Fault Refusal := .next (s.spdmNamed x msg 0x84)
/-- GET_CAPABILITIES (R424). -/
def execGetCapabilities (x : Transport) (msg : Bytes) (s : State) : Host.Outcome State Fault Refusal :=
  .next (s.spdmNamed x msg 0xE1)
/-- NEGOTIATE_ALGORITHMS (R424). -/
def execNegotiateAlgorithms (x : Transport) (msg : Bytes) (s : State) : Host.Outcome State Fault Refusal :=
  .next (s.spdmNamed x msg 0xE3)
/-- GET_DIGESTS (R424). -/
def execGetDigests (x : Transport) (msg : Bytes) (s : State) : Host.Outcome State Fault Refusal := .next (s.spdmNamed x msg 0x81)
/-- GET_CERTIFICATE (R424, R425). -/
def execGetCertificate (x : Transport) (msg : Bytes) (s : State) : Host.Outcome State Fault Refusal :=
  .next (s.spdmNamed x msg 0x82)
/-- CHALLENGE (R424). -/
def execChallenge (x : Transport) (msg : Bytes) (s : State) : Host.Outcome State Fault Refusal := .next (s.spdmNamed x msg 0x83)
/-- GET_MEASUREMENTS (R424, R426). -/
def execGetMeasurements (x : Transport) (msg : Bytes) (s : State) : Host.Outcome State Fault Refusal :=
  .next (s.spdmNamed x msg 0xE0)

/-- SPDM_UNSUPPORTED_REQUEST (R424): any other request. -/
def execSpdmUnsupportedRequest (x : Transport) (msg : Bytes) (s : State) : Host.Outcome State Fault Refusal :=
  .next (if spdmCodes.contains (bat msg 1 1) then s else s.spdmNamed x msg (bat msg 1 1))

/-- SPDM_MESSAGE (R338, R425). -/
def execSpdmMessage (l : Nat) (k : Pkt) (s : State) : Host.Outcome State Fault Refusal :=
  .next (s.mgmtArrive l k 0x20 fun s => s.spdmArrive l k)

/-- DOE_REQUEST (R87). -/
def execDoeRequest (q : DoeReq) (s : State) : Host.Outcome State Fault Refusal := .next (s.doe q)

/-- FW_TRIAL_CONFIRM (R420). -/
def execFwTrialConfirm (s : State) : Host.Outcome State Fault Refusal :=
  .next (if s.sec.running ∧ s.sec.trial then s.confirm else s)

end Sys2Proof.Machine
end

