-- ==== Sys2Proof/Machine/Mailbox.lean ====
section
/-! DEFINITION. The mailbox (R100 to R102), its commands (R230, R406 to R411, R421, R422, R427, R429) and the wellhead's restarts
(R32, R415, R420). -/

namespace Sys2Proof.Machine

/-! ### Failure records as CPER (R406, R407) -/

/-- A GUID as UEFI stores it: its first three fields least significant byte first (PRESUMED; Assumption 39). -/
def guid (a b c : Nat) (rest : Bytes) : Bytes := natBytes 4 a ++ natBytes 2 b ++ natBytes 2 c ++ rest

/-- Creator ID of a record, and section type of a format (R406). -/
def dwezaGuid (low : Nat) : Bytes :=
  if low = 0 then guid 0x3f1d8a52 0x9c47 0x4e0b [0xb6, 0xa3, 0x7d, 0x25, 0xe9, 0x0c, 0x41, 0x00]
  else guid 0x3f1d8a52 0x9c47 0x4e0b [0xb6, 0xa3, 0x7d, 0x25, 0xe9, 0x0c, 0x41, BitVec.ofNat 8 (0xf0 + low)]

/-- Zero bytes. -/
def zeros (n : Nat) : Bytes := List.replicate n 0

/-- Record header, 128 bytes. -/
def cperHeader (r : FRec) (len : Nat) : Bytes :=
  [0x43, 0x50, 0x45, 0x52] ++ natBytes 2 0x0101 ++ natBytes 4 0xFFFFFFFF ++ natBytes 2 1 ++ natBytes 4 r.sev ++ natBytes 4 1 ++
    natBytes 4 len ++ zeros 8 ++ uuidBytes ++ zeros 16 ++ dwezaGuid 0 ++ zeros 16 ++ natBytes 8 r.seq ++ zeros 24

/-- Section descriptor, 72 bytes. -/
def cperDesc (r : FRec) (two : Bool) (len : Nat) : Bytes :=
  natBytes 4 200 ++ natBytes 4 len ++ natBytes 2 0 ++ [3, 0] ++ natBytes 4 1 ++ dwezaGuid (if two then 2 else 1) ++
    uuidBytes ++ natBytes 4 r.sev ++ [0x5A, 0x4D, 0x39, 0x36, 0x30, 0x2D, 0x33, 0x36, 0x4C] ++ zeros 11

/-- The Dweza section in format 2, 128 bytes. -/
def section2 (r : FRec) : Bytes :=
  let body := natBytes 2 2 ++ natBytes 1 r.source ++ natBytes 1 r.kind ++ natBytes 2 r.inst ++ natBytes 2 r.phys ++
    natBytes 8 r.step.toNat ++ natBytes 1 r.attempt ++ natBytes 1 r.outcome ++ natBytes 1 r.basin ++ [0] ++ natBytes 4 r.detail ++
    natBytes 8 r.addr ++ natBytes 8 r.time.toNat ++ natBytes 8 r.seq ++ natBytes 4 r.count ++ natBytes 2 r.logid ++ zeros 2 ++
    natBytes 8 r.fw ++ natBytes 8 r.regs.toNat ++ natBytes 8 r.elog.toNat ++ (List.range 44).map fun k => Config.freeByte (r.draw + k)
  body ++ natBytes 4 (crc32 body)

/-- The Dweza section in format 1, 64 bytes. -/
def section1 (r : FRec) : Bytes :=
  let body := natBytes 2 1 ++ natBytes 1 r.source ++ natBytes 1 r.kind ++ natBytes 2 r.inst ++ zeros 2 ++ natBytes 8 r.step.toNat ++
    natBytes 4 r.detail ++ zeros 4 ++ natBytes 8 r.addr ++ natBytes 8 r.time.toNat ++ natBytes 8 r.seq ++ natBytes 4 r.count ++ zeros 8
  body ++ natBytes 4 (crc32 body)

/-- A record: 328 bytes in format 2, 264 in format 1. -/
def cper (two : Bool) (r : FRec) : Bytes :=
  let sec := if two then section2 r else section1 r
  cperHeader r (200 + sec.length) ++ cperDesc r two sec.length ++ sec

namespace State

/-! ### Commands: STATUS, payload and the state after (R102) -/

/-- GET_INFO (R429). -/
def cmdGetInfo (s : State) (req : Bytes) : Nat × Bytes × State :=
  if req.length ≠ 0 then (2, [], s)
  else
    let b : Nat → Nat := fun x => s.g .sec 0 Off.secBoot x x
    let spares := (List.range 4).map fun n => BitVec.ofNat 8 (s.freeSpares n).length
    let gone := (List.range 4).map fun n => BitVec.ofNat 8 (s.retiredIn n)
    (0, natBytes 4 (s.g .sec 0 Off.secBoot 63 32) ++ natBytes 1 (b 0) ++ natBytes 1 s.pendingByte ++ natBytes 1 s.sec.fwMeta.tries ++
      natBytes 1 (s.g .sec 0 Off.secBoot 31 24) ++ natBytes 1 s.sec.rollback ++ natBytes 1 (if s.sec.recovery then 1 else 0) ++
      natBytes 1 (s.g .sec 0 Off.secDebug 0 0) ++ [0] ++ natBytes 4 Config.romVersion.toNat ++ uuidBytes ++
      spares ++ gone ++ zeros 24, s)

/-- FAULT_LOG_OPEN (R409). -/
def cmdFaultLogOpen (s : State) (req : Bytes) : Nat × Bytes × State :=
  if req.length ≠ 1 then (2, [], s)
  else match s.negotiate 3 (· = bat req 0 1) with
    | (s, none) => (6, [], s)
    | (s, some v) =>
      let old := (s.ras.pending.head?.map (·.seq)).getD 0
      (0, natBytes 4 v ++ natBytes 4 s.ras.pending.length ++ natBytes 8 old, s.p .ras 0 Off.rasFlog 63 56 v)

/-- FAULT_READ (R409). -/
def cmdFaultRead (s : State) (req : Bytes) : Nat × Bytes × State :=
  if req.length ≠ 9 then (2, [], s)
  else
    let ack := bat req 0 8
    let left := s.ras.pending.filter fun (q : FRec) => decide (ack < q.seq)
    let s : State := { s with ras := { s.ras with pending := left, ackSeq := max s.ras.ackSeq (min ack (s.ras.nextSeq - 1)) } }
    let two := s.g .ras 0 Off.rasFlog 63 56 = 0x20
    let n := min (bat req 8 1) (if two then 6 else 7)
    (0, ((left.take n).map (cper two)).flatten, s)

/-- TLM_READ (R411): the live record carries the SEQ of the last record written and reason 0 (DESIGN CHOICE; Assumption 37). -/
def cmdTlmRead (s : State) (req : Bytes) : Nat × Bytes × State :=
  if req.length ≠ 2 then (2, [], s)
  else
    let src := bat req 0 1
    let half := bat req 1 1
    if 1 < src ∨ 1 < half then (7, [], s)
    else if src = 0 then
      let s := s.takeSnap .tlm 0
      (0, bsub (s.tlmRecord s.ras.tlmSeq 0) (2048 * half) 2048, s)
    else match (s.ras.tlm.filter fun (r : TlmRec) => r.good).getLast? with
      | some r => (0, bsub r.data (2048 * half) 2048, s)
      | none => (6, [], s)

/-- FW_STAGE (R421). -/
def cmdFwStage (s : State) (req : Bytes) : Nat × Bytes × State :=
  if req.length < 8 then (2, [], s)
  else
    let (c, s) := s.fwStage req
    (if c < 2 then 0 else 6, natBytes 1 c, s)

/-- FW_ACTIVATE (R422). -/
def cmdFwActivate (s : State) (req : Bytes) : Nat × Bytes × State :=
  if req.length ≠ 1 then (2, [], s)
  else
    let (st, s) := s.fwActivate (bat req 0 1)
    (st, [], s)

/-- DEBUG_UNLOCK (R427). -/
def cmdDebug (s : State) (req : Bytes) : Nat × Bytes × State :=
  match bat req 0 1, req.length with
  | _, 0 => (2, [], s)
  | 0, 1 => let (n, s) := s.newNonce
            (0, n, s)
  | 1, 193 => let (ok, s) := s.unlockDebug (req.drop 1)
              if ok then (0, [], s) else (5, [1], s)
  | 2, 1 => (0, [], s.lockDebug)
  | 3, 34 => if 1 < bat req 1 1 then (7, [], s)
             else let (r, s) := s.provision (bat req 1 1) (req.drop 2)
                  if r = 0 then (0, [], s) else (5, natBytes 1 r, s)
  | 4, 2 => if 1 < bat req 1 1 then (7, [], s)
            else let (r, s) := s.revoke (bat req 1 1)
                 if r = 0 then (0, [], s) else (5, natBytes 1 r, s)
  | op, _ => (if op ≤ 4 then 2 else 7, [], s)

/-- XLT_RESOLVE (R230). -/
def cmdXltResolve (s : State) (req : Bytes) : Nat × Bytes × State :=
  if req.length ≠ 8 then (2, [], s)
  else if 1 < bat req 4 1 ∨ bat req 5 3 ≠ 0 then (7, [], s)
  else match s.mem.faults.find? fun f => f.id = bat req 0 4 && f.stage = .queued with
    | none => (6, [], s)
    | some f =>
      if bat req 4 1 = 0 then (0, [], (s.setFault { f with stage := .search }).pullHost)
      else (0, [], (s.xltFail f).pullHost)

/-- Mailbox opcodes (R102). -/
def mbxOpcodes : List Nat := [0x0001, 0x0010, 0x0011, 0x0020, 0x0030, 0x0031, 0x0032, 0x0040]

/-- Run a command. -/
def mbxRun (s : State) (op len : Nat) (req : Bytes) : Nat × Bytes × State :=
  if s.sec.recovery && !([0x0001, 0x0030, 0x0031].contains op) then (5, [], s)
  else if !mbxOpcodes.contains op then (1, [], s)
  else if 2048 < len then (2, [], s)
  else match op with
    | 0x0001 => s.cmdGetInfo req
    | 0x0010 => s.cmdFaultLogOpen req
    | 0x0011 => s.cmdFaultRead req
    | 0x0020 => s.cmdTlmRead req
    | 0x0030 => s.cmdFwStage req
    | 0x0031 => s.cmdFwActivate req
    | 0x0032 => s.cmdDebug req
    | _ => s.cmdXltResolve req

/-! ### The mailbox (R100, R101) -/

/-- MBX_PAYLOAD. -/
def mbxPayload (s : State) (len : Nat) : Bytes :=
  (((List.range 256).map fun k => natBytes 8 (s.rd (pageBase .mbx 0 + Off.mbxPayload + 8 * k)).toNat).flatten).take len

/-- Write response bytes into MBX_PAYLOAD. -/
def setPayload (s : State) (bs : Bytes) : State :=
  let all := bs ++ (s.mbxPayload 2048).drop bs.length
  (List.range 256).foldl (fun s k => s.wr (pageBase .mbx 0 + Off.mbxPayload + 8 * k) (BitVec.ofNat 64 (bat all (8 * k) 8))) s

/-- The wellhead takes the command in hand: its effect, and its answer (R101). -/
def mbxServe (s : State) : State :=
  match s.hlk.mbx with
  | some r =>
    if r.answer.isSome || !s.sec.running || s.quiet .mbx 0 then s
    else
      let len := s.g .mbx 0 Off.mbxCmd 31 16
      let (st, bs, s) := s.mbxRun r.op.toNat len (s.mbxPayload len)
      { s with hlk := { s.hlk with mbx := some { r with answer := some (BitVec.ofNat 16 st, bs) } } }
  | none => s

/-- A write of MBX_CMD with GO 1 (R101). -/
def mbxGo (s : State) (op seq len : Nat) : State :=
  if s.g .mbx 0 Off.mbxCmd 63 63 = 1 then s.raise .mbx 0 Ev.mbxBusyReject
  else
    let w := BitVec.ofNat 64 (2 ^ 63 + seq % 65536 * 2 ^ 32 + len % 65536 * 2 ^ 16 + op % 65536)
    let s := (s.wr (pageBase .mbx 0 + Off.mbxCmd) w).p .mbx 0 Off.mbxResp 63 63 0
    let run : MbxRun := { op := BitVec.ofNat 16 op, seq := BitVec.ofNat 16 seq, answer := none }
    ({ s with hlk := { s.hlk with mbx := some run } } : State).mbxServe

/-- The command ends: MBX_RESP, DONE, CMD_DONE; GO clears. -/
def mbxDone (s : State) (seq status : Nat) (bs : Bytes) : State :=
  let s := if bs = [] then s else s.setPayload bs
  let w := BitVec.ofNat 64 (2 ^ 63 + seq * 2 ^ 32 + bs.length * 2 ^ 16 + status)
  let s := (s.wr (pageBase .mbx 0 + Off.mbxResp) w).p .mbx 0 Off.mbxCmd 63 63 0
  ({ s with hlk := { s.hlk with mbx := none } } : State).raise .mbx 0 Ev.mbxCmdDone

/-- A restart on a watchdog expiry (R32, R101): a command in flight completes with STATUS 3. -/
def wellheadRestart (s : State) : State :=
  let s := s.wellheadDown.raise .mbx 0 Ev.mbxWellheadRestart
  match s.hlk.mbx with
  | some r => s.mbxDone r.seq.toNat 3 []
  | none => s

/-- A mailbox row: GO with an opcode, when the payload's byte at an offset satisfies `p`. -/
def mbxRow (s : State) (op : Nat) (seq len : BitVec 16) (p : Bytes → Bool := fun _ => true) : State :=
  s.pageWrite .mbx 0 Off.mbxCmd fun s => if p (s.mbxPayload 2048) then s.mbxGo op seq.toNat len.toNat else s

end State

/-! ### Mailbox commands -/

/-- GET_INFO (R429). -/
def execGetInfo (seq len : BitVec 16) (s : State) : Host.Outcome State Fault Refusal := .next (s.mbxRow 0x0001 seq len)
/-- FAULT_LOG_OPEN (R409). -/
def execFaultLogOpen (seq len : BitVec 16) (s : State) : Host.Outcome State Fault Refusal := .next (s.mbxRow 0x0010 seq len)
/-- FAULT_READ (R409). -/
def execFaultRead (seq len : BitVec 16) (s : State) : Host.Outcome State Fault Refusal := .next (s.mbxRow 0x0011 seq len)
/-- TLM_READ (R411). -/
def execTlmRead (seq len : BitVec 16) (s : State) : Host.Outcome State Fault Refusal := .next (s.mbxRow 0x0020 seq len)
/-- FW_STAGE (R421). -/
def execFwStage (seq len : BitVec 16) (s : State) : Host.Outcome State Fault Refusal := .next (s.mbxRow 0x0030 seq len)
/-- FW_ACTIVATE with mode 0 (R422). -/
def execFwActivateTrial (seq len : BitVec 16) (s : State) : Host.Outcome State Fault Refusal :=
  .next (s.mbxRow 0x0031 seq len fun p => bat p 0 1 = 0)
/-- FW_ACTIVATE with mode 1 (R422). -/
def execFwActivateRestart (seq len : BitVec 16) (s : State) : Host.Outcome State Fault Refusal :=
  .next (s.mbxRow 0x0031 seq len fun p => bat p 0 1 = 1)
/-- FW_ACTIVATE with mode 2 (R422). -/
def execFwActivateCancel (seq len : BitVec 16) (s : State) : Host.Outcome State Fault Refusal :=
  .next (s.mbxRow 0x0031 seq len fun p => bat p 0 1 = 2)
/-- DEBUG_UNLOCK GET_NONCE (R427). -/
def execGetNonce (seq len : BitVec 16) (s : State) : Host.Outcome State Fault Refusal :=
  .next (s.mbxRow 0x0032 seq len fun p => bat p 0 1 = 0)
/-- DEBUG_UNLOCK UNLOCK (R427, R428). -/
def execUnlock (seq len : BitVec 16) (s : State) : Host.Outcome State Fault Refusal :=
  .next (s.mbxRow 0x0032 seq len fun p => bat p 0 1 = 1)
/-- DEBUG_UNLOCK LOCK (R427, R431). -/
def execLock (seq len : BitVec 16) (s : State) : Host.Outcome State Fault Refusal :=
  .next (s.mbxRow 0x0032 seq len fun p => bat p 0 1 = 2)
/-- DEBUG_UNLOCK PROVISION (R427). -/
def execProvision (seq len : BitVec 16) (s : State) : Host.Outcome State Fault Refusal :=
  .next (s.mbxRow 0x0032 seq len fun p => bat p 0 1 = 3)
/-- DEBUG_UNLOCK REVOKE (R427, R431). -/
def execRevoke (seq len : BitVec 16) (s : State) : Host.Outcome State Fault Refusal :=
  .next (s.mbxRow 0x0032 seq len fun p => bat p 0 1 = 4)
/-- XLT_RESOLVE with RETRY (R230). -/
def execXltResolveRetry (seq len : BitVec 16) (s : State) : Host.Outcome State Fault Refusal :=
  .next (s.mbxRow 0x0040 seq len fun p => bat p 4 1 = 0)
/-- XLT_RESOLVE with FAIL (R230). -/
def execXltResolveFail (seq len : BitVec 16) (s : State) : Host.Outcome State Fault Refusal :=
  .next (s.mbxRow 0x0040 seq len fun p => bat p 4 1 = 1)
/-- MBX_BAD_OPCODE (R100): an opcode that is not in the table of R102. -/
def execMbxBadOpcode (seq len op : BitVec 16) (s : State) : Host.Outcome State Fault Refusal :=
  .next (if State.mbxOpcodes.contains op.toNat then s else s.mbxRow op.toNat seq len)

/-- MBX_RESPONSE (R101). -/
def execMbxResponse (s : State) : Host.Outcome State Fault Refusal :=
  .next (match s.hlk.mbx with
    | some r => match r.answer with
      | some (st, bs) => s.mbxDone r.seq.toNat st.toNat bs
      | none => s
    | none => s)

/-- MBX_TIMEOUT (R72, R101): a response that comes later is discarded. The timeout runs once the command is accepted. -/
def execMbxTimeout (s : State) : Host.Outcome State Fault Refusal :=
  .next (match s.hlk.mbx with
    | some r => if r.answer.isNone ∧ s.quiet .mbx 0 then s
                else (s.raise .mbx 0 Ev.mbxTimeout).mbxDone r.seq.toNat 4 []
    | none => s)

/-! ### The wellhead -/

/-- WELLHEAD_WATCHDOG_EXPIRY (R32). -/
def execWellheadWatchdogExpiry (s : State) : Host.Outcome State Fault Refusal :=
  .next (if s.power.standby ∧ s.sec.running then s.wellheadRestart else s)

/-- WELLHEAD_SRAM_UE (R415): restart and a failure record, whose OUTCOME R407 does not give (a free value). -/
def execWellheadSramUe (s : State) : Host.Outcome State Fault Refusal :=
  .next (if s.power.standby ∧ s.sec.running then
    let (o, s) := s.wellheadRestart.freeByte
    s.record .sec 0 0x03 o.toNat 0
  else s)

/-- WELLHEAD_ACTIVATION_RESTART (R422, R431). -/
def execWellheadActivationRestart (after30s : Bool) (s : State) : Host.Outcome State Fault Refusal :=
  .next (if s.sec.running ∧ s.sec.restartDue ∧ (s.phase = 0 ∨ after30s) then s.wellheadDown else s)

/-- WELLHEAD_BOOT (R415, R420): then the commands that waited are served (R431). -/
def execWellheadBoot (s : State) : Host.Outcome State Fault Refusal :=
  .next (if s.power.standby ∧ !s.sec.running then s.boot.doeDrain.mbxServe else s)

end Sys2Proof.Machine
end

