-- ==== Sys2Proof/Machine/Power.lean ====
section
/-! DEFINITION. Power input, presence, thermal response, removal (R10 to R25), and the clock/power loop (R383, R384). -/

namespace Sys2Proof.Machine

/-- The status lamp (R9). -/
inductive Lamp where
  | off | green | amber | blue
  deriving DecidableEq, Repr

namespace State

/-- The lamp: blue when ready to remove, amber with a fault latched in DEV_PWRCTL or in recovery (R9, R420). -/
def lamp (s : State) : Lamp :=
  if !s.power.standby then .off
  else if s.g .dev 0 Off.devPwrctl 1 1 = 1 then .blue
  else if s.g .dev 0 Off.devPwrctl 15 8 ≠ 0 ∨ s.sec.recovery then .amber
  else if s.power.rails then .green
  else .off

/-- Set a latched bit of DEV_PWRCTL; a change of bits [15:8] raises POWER (R19). -/
def latchPwr (s : State) (n : Nat) : State :=
  if s.g .dev 0 Off.devPwrctl n n = 1 then s else (s.p .dev 0 Off.devPwrctl n n 1).raise .dev 0 Ev.devPower

/-- Record the input voltage: VIN_LOW and VIN_HIGH always follow it (R15, R19). -/
def vin (s : State) (mv : Nat) : State :=
  let s := s.p .dev 0 Off.devInput 63 48 mv
  let low := !s.power.uvHeld && decide (28500 ≤ mv ∧ mv < 30000)
  let high := !s.power.ovHeld && decide (40000 < mv ∧ mv ≤ 41500)
  (s.p .dev 0 Off.devPwrctl 2 2 (if low then 1 else 0)).p .dev 0 Off.devPwrctl 3 3 (if high then 1 else 0)

/-- The main converters turn off: the die loses its state, and the transmitters go dark (R11, R18, R22, R24). -/
def mainOff (s : State) : State :=
  let had := s.power.rails
  let s : State := { s with power := { s.power with converters := false, rails := false, debounce := false, txOn := false } }
  if had then
    let s : State := s.dieClear
    { s with rst := { s.rst with reqs := [], held := false } }
  else s

/-- No trip holds the converters off (R15, R18, R25). -/
def noTrip (s : State) : Bool := !s.power.uvHeld && !s.power.ovHeld && !s.power.thermHeld

/-- The PRES debounce starts where nothing holds the module off (R11, R25). -/
def debounceStart (s : State) : State :=
  if s.power.standby && s.power.pres && s.noTrip && s.power.drain ≠ .done && !s.power.converters then
    { s with power := { s.power with debounce := true, coldSrc := 0x01 } }
  else s

/-- The drain ends: the module is ready to remove (R22). -/
def drainDone (s : State) : State :=
  let s := s.mainOff
  let s := (s.p .dev 0 Off.devPwrctl 0 0 0).p .dev 0 Off.devPwrctl 1 1 1
  { s with power := { s.power with drain := .done } }

/-- A trip: the bit, TRIPS, converters off; a drain that runs completes its flash write (R15, R18, R25, R413). -/
def trip (s : State) (bit : Nat) : State :=
  let s := (s.bump .tlm 0 (0x200 + 8 * 7) 1)
  let s := if s.power.drain = .running then (s.persist 1 true).drainDone else s.mainOff
  s.latchPwr bit

/-- A thermal trip, also one that coincides with a voltage trip (R18, R25). -/
def thermTrip (s : State) : State :=
  if s.power.standby ∧ !s.power.thermHeld then ({ s with power := { s.power with thermHeld := true } } : State).trip 10 else s

/-- The last-gasp record (R23): step, journal phase, pages with a latched fault (layout DESIGN CHOICE; Assumption 40). -/
def gasp (s : State) : Bytes :=
  let pages := (allBlks.map fun b => ((List.range (pageCount b)).filter (s.faulted b)).map (pageBase b)).flatten
  let step := if s.redState = 0 then (s.rd (pageBase .rcc 0 + Off.rccBkp1)).toNat else s.redStep
  let body := (natBytes 8 step ++ natBytes 8 s.phase ++ (pages.map (natBytes 8)).flatten).take 4096
  body ++ zeros (4096 - body.length)

/-- Main power goes without warning (R23): a last-gasp record is written. -/
def surpriseOff (s : State) : State :=
  if s.power.rails then ({ s with ras := { s.ras with lastGasp := some s.gasp } } : State).mainOff else s.mainOff

/-- LEAVING on every active port (R22, R338). -/
def leave (s : State) : State := s.activeLinks.foldl (fun s l => s.mgmt l (s.link l).peer.toNat [0x04]) s

/-- Suspicion and due times from a telemetry record (R399, R411). -/
def loadCores (s : State) (d : Bytes) : State :=
  let s := (List.range physCount).foldl (fun s q =>
    s.setPcore q { physNew with retired := s.ras.retired.contains q, dueAt := hours (bat d (0x510 + q) 1) }) s
  (List.range 64).foldl (fun s k =>
    let o := 0x310 + 8 * k
    if bat d o 8 = 0 then s
    else s.setPcore (bat d o 2) { s.pcore (bat d o 2) with suspect := true, suspectEnd := hours (bat d (o + 2) 2), errors := bat d (o + 4) 2 }) s

/-- Counters and histograms from a telemetry record. -/
def loadTlm (s : State) (d : Bytes) : State :=
  let a := pageBase .tlm 0
  let put (s : State) (o k : Nat) : State := s.wr (a + o) (BitVec.ofNat 64 (bat d k 8))
  let s := (List.range 25).foldl (fun s k => put s (0x200 + 8 * k) (0x40 + 8 * k)) s
  let s := put s Off.cntSat 0x108
  (List.range 64).foldl (fun s k => put s (0x400 + 8 * k) (0x110 + 8 * k)) s

/-- The wellhead loads the newest good record at standby power-up (R410, R411). -/
def tlmLoad (s : State) : State :=
  match (s.ras.tlm.filter fun (r : TlmRec) => r.good).getLast? with
  | some r =>
    let s := ((s.loadTlm r.data).loadCores r.data).p .tlm 0 Off.tlmPersist 31 0 r.seq
    if (s.ras.tlm.getLast?.map (·.seq)) = some r.seq then s else s.raise .tlm 0 Ev.tlmLoadedOld
  | none => s

/-- The standby domain loses power: its registers and counts, the wellhead's memory (R15, R24, R410, R414, R428, R431). -/
def standbyLost (s : State) : State :=
  let s := s.surpriseOff
  { s with
    power := { s.power with standby := false, debounce := false, uvHeld := false, ovHeld := false, thermHeld := false, drain := .none }
    regs := []
    snaps := []
    gens := []
    ras := { s.ras with cores := [], pending := [] }
    sec := { s.sec with running := false, recovery := false, trial := false, restartDue := false, nonce := none, everUnlocked := false
                        staged := if s.sec.verified then s.sec.staged else 0, spdm := [], doePending := [] } }

/-- The standby rail comes up (R11, R29, R405, R411). -/
def standbyUp (s : State) : State :=
  let due := s.ras.history.filter fun (q : FRec) => decide (s.ras.ackSeq < q.seq)
  let s : State := { s with
    power := { s.power with standby := true }
    clock := { s.clock with timer := 0, degraded := false }
    ras := { s.ras with pending := due.drop (due.length - 199), cores := (s.ras.retired.foldl (fun (t : Tab PhysCore) q =>
      tset t physNew q { physNew with retired := true }) []) } }
  s.tlmLoad

/-- The main rails are up: every PLL locks, and the Cold reset of the power-up stands asserted (R20, R30, R32). -/
def railsUp (s : State) : State :=
  let src := s.power.coldSrc.toNat
  let s : State := s.dieClear
  let s : State := { s with
    power := { s.power with rails := true, txOn := true, drain := .none, dimmDouble := 0, dimmHalf := 0, opticOff := 0, coldSrc := 0x01 }
    clock := { s.clock with logicLock := true, ddrLock := true, colsarLock := true, hostLock := true } }
  s.coldAsserted src

/-! ### Thermal responses (R18) -/

/-- The cap at an inlet temperature above 40 °C, in units of 1/16 K; the reduction is rounded down to whole W (DESIGN CHOICE;
Assumption 40). -/
def derated (t : Nat) : Nat := 6800 - 300 * (min t 720 - 640) / 16

/-- An optical engine's transmitters turn off; its links go down. -/
def opticsOff (s : State) (e : Nat) : State :=
  let s : State := { s with power := { s.power with opticOff := s.power.opticOff ||| BitVec.ofNat 13 (2 ^ e) } }
  let s := s.latchPwr 14
  if e = 12 then (if s.g .hlk 0 Off.hlkLink 2 0 = 2 ∨ s.g .hlk 0 Off.hlkLink 2 0 = 3 then s.hostDark else s)
  else ((List.range 8).map (8 * e + ·)).foldl (fun s l =>
    let x := s.link l
    if [2, 3, 5].contains x.st.toNat then s.dropLink l else s.setLink l { linkDown0 with lit := x.lit }) s

/-! ### The clock/power loop (R383, R384) -/

/-- CORE_SKIP. -/
def coreSkip (s : State) : Nat := max s.power.nWin s.power.nLim

/-- One period of the loop. -/
def loopTick (s : State) (p : Nat) : State :=
  let en := s.g .tlm 0 Off.tlmPwrloop 63 63 = 1
  let hi := s.g .tlm 0 Off.tlmPwrloop 59 56
  let lo := s.g .tlm 0 Off.tlmPwrloop 55 52
  let target := s.g .tlm 0 Off.tlmPwrloop 31 16
  let hyst := s.g .tlm 0 Off.tlmPwrloop 15 0
  let n := s.power.nLoop
  let n := if !en then lo else if target < p then min 8 (n + 1) else if p + hyst < target then n - 1 else n
  let w := max lo (min hi n)
  let s := s.p .tlm 0 Off.tlmPwrstat 15 0 p
  let s := if en ∧ w ≠ n then (s.bump .tlm 0 0xC40 1).raise .tlm 0 Ev.tlmPwrClamp else s
  { s with power := { s.power with nLoop := w, nWin := w } }

/-- A die sensor's reading moves the die-hot state: set from 95 °C, cleared below 93 °C. -/
def dieTemp (s : State) (t : Int) : State :=
  let hot := if 1520 ≤ t then true else if t < 1488 then false else s.power.dieHot
  { s with power := { s.power with dieHot := hot } }

/-- n_lim rises by one where power or temperature asks for it; passing n_win counts an override. -/
def limitRise (s : State) (p : Nat) (t : Int) : State :=
  let s := s.dieTemp t
  let above := decide (s.power.capW.toNat < p)
  let s := s.p .tlm 0 Off.tlmPwrstat 48 48 (if above then 1 else 0)
  if above ∨ s.power.dieHot then
    let n := min 8 (s.power.nLim + 1)
    let passes := s.power.nLim ≤ s.power.nWin ∧ s.power.nWin < n
    let s : State := { s with power := { s.power with nLim := n } }
    if passes then (s.bump .tlm 0 (0xC40 + 8) 1).raise .tlm 0 Ev.tlmPwrOverride else s
  else s

/-- n_lim falls by one where power and temperature allow. -/
def limitFall (s : State) (p : Nat) (t : Int) : State :=
  let s := s.dieTemp t
  if p * 100 < 95 * s.power.capW.toNat ∧ t < 1488 then { s with power := { s.power with nLim := s.power.nLim - 1 } } else s

end State

/-! ### Insertion and input -/

/-- V36_MAKE (R20, R29): the wellhead then boots (WELLHEAD_BOOT). -/
def execV36Make (s : State) : Host.Outcome State Fault Refusal := .next (if s.power.standby then s else s.standbyUp)

/-- INPUT_LOSS (R15, R23). -/
def execInputLoss (s : State) : Host.Outcome State Fault Refusal := .next (if s.power.standby then s.standbyLost else s)

/-- PRES_MAKE (R11, R413). -/
def execPresMake (s : State) : Host.Outcome State Fault Refusal :=
  .next (if s.power.standby ∧ !s.power.pres then
    (({ s with power := { s.power with pres := true } } : State).bump .tlm 0 (0x200 + 24) 1).debounceStart
  else s)

/-- PRES_DEBOUNCE_DONE (R11). -/
def execPresDebounceDone (s : State) : Host.Outcome State Fault Refusal :=
  .next (if s.power.debounce ∧ s.power.pres ∧ s.noTrip then
    { s with power := { s.power with converters := true, debounce := false } }
  else s)

/-- MAIN_RAILS_UP (R20, R32). -/
def execMainRailsUp (s : State) : Host.Outcome State Fault Refusal :=
  .next (if s.power.converters ∧ !s.power.rails then s.railsUp else s)

/-- PRES_BREAK (R11, R23, R25). -/
def execPresBreak (s : State) : Host.Outcome State Fault Refusal :=
  .next (if s.power.pres then
    let d := s.power.drain
    let s : State := { s with power := { s.power with pres := false, debounce := false, drain := if d = .done then .done else .none } }
    if d = .done then s else s.surpriseOff
  else s)

/-- UV_TRIP (R15). -/
def execUvTrip (mv : BitVec 16) (s : State) : Host.Outcome State Fault Refusal :=
  .next (if s.power.standby ∧ !s.power.uvHeld ∧ mv.toNat < 28500 then
    (({ s with power := { s.power with uvHeld := true } } : State).vin mv.toNat).trip 8
  else s)

/-- OV_TRIP (R15). -/
def execOvTrip (mv : BitVec 16) (s : State) : Host.Outcome State Fault Refusal :=
  .next (if s.power.standby ∧ !s.power.ovHeld ∧ 41500 < mv.toNat then
    (({ s with power := { s.power with ovHeld := true } } : State).vin mv.toNat).trip 9
  else s)

/-- UV_RELEASE (R15, R25). -/
def execUvRelease (mv : BitVec 16) (s : State) : Host.Outcome State Fault Refusal :=
  .next (if s.power.uvHeld ∧ 29500 ≤ mv.toNat then
    (({ s with power := { s.power with uvHeld := false } } : State).vin mv.toNat).debounceStart
  else s)

/-- OV_RELEASE (R15, R25). -/
def execOvRelease (mv : BitVec 16) (s : State) : Host.Outcome State Fault Refusal :=
  .next (if s.power.ovHeld ∧ mv.toNat ≤ 40500 then
    (({ s with power := { s.power with ovHeld := false } } : State).vin mv.toNat).debounceStart
  else s)

/-- VIN_BAND_CHANGE (R15, R19). -/
def execVinBandChange (mv : BitVec 16) (s : State) : Host.Outcome State Fault Refusal :=
  .next (if s.power.standby then s.vin mv.toNat else s)

/-! ### Thermal -/

/-- INLET_HIGH (R18). -/
def execInletHigh (t : BitVec 16) (s : State) : Host.Outcome State Fault Refusal :=
  .next (if s.power.standby ∧ 640 < t.toInt then
    let s := s.p .dev 0 Off.devTherm 63 48 t.toNat
    ({ s with power := { s.power with inletHigh := true, capW := BitVec.ofNat 16 (State.derated t.toNat) } } : State).latchPwr 11
  else s)

/-- INLET_DERATING_END (R18, R383). -/
def execInletDeratingEnd (t : BitVec 16) (s : State) : Host.Outcome State Fault Refusal :=
  .next (if s.power.standby ∧ t.toInt ≤ 640 then
    let s := s.p .dev 0 Off.devTherm 63 48 t.toNat
    { s with power := { s.power with inletHigh := false, capW := 6800 } }
  else s)

/-- INLET_TRIP_TIMER (R18): the inlet reads above 45 °C. -/
def execInletTripTimer (s : State) : Host.Outcome State Fault Refusal :=
  .next (if 720 < sext 16 (s.g .dev 0 Off.devTherm 63 48) then s.thermTrip else s)

/-- DIE_HOT (R18, R383). -/
def execDieHot (t : BitVec 16) (s : State) : Host.Outcome State Fault Refusal :=
  .next (if s.power.rails ∧ 1520 ≤ t.toInt then ((s.p .dev 0 Off.devTherm 31 16 t.toNat).dieTemp t.toInt).latchPwr 12 else s)

/-- DIE_OVERTEMP_TRIP (R18). -/
def execDieOvertempTrip (t : BitVec 16) (s : State) : Host.Outcome State Fault Refusal :=
  .next (if 1680 ≤ t.toInt then (s.p .dev 0 Off.devTherm 31 16 t.toNat).thermTrip else s)

/-- DIMM_REFRESH_DOUBLE (R18). -/
def execDimmRefreshDouble (ch : Nat) (s : State) : Host.Outcome State Fault Refusal :=
  .next (if ch < 24 ∧ s.power.rails then
    { s with power := { s.power with dimmDouble := s.power.dimmDouble ||| BitVec.ofNat 24 (2 ^ ch) } }
  else s)

/-- DIMM_HOT (R18). -/
def execDimmHot (ch : Nat) (s : State) : Host.Outcome State Fault Refusal :=
  .next (if ch < 24 ∧ s.power.rails then
    ({ s with power := { s.power with dimmHalf := s.power.dimmHalf ||| BitVec.ofNat 24 (2 ^ ch) } } : State).latchPwr 13
  else s)

/-- OPTIC_HOT (R18). -/
def execOpticHot (engine : Nat) (s : State) : Host.Outcome State Fault Refusal :=
  .next (if engine < 13 ∧ s.power.rails then s.opticsOff engine else s)

/-- THERMAL_RESTART (R18, R25, R32): every sensor is 10 K below its trip point, and software has cleared THERM_TRIP. -/
def execThermalRestart (s : State) : Host.Outcome State Fault Refusal :=
  .next (if s.power.thermHeld ∧ s.g .dev 0 Off.devPwrctl 10 10 = 0 then
    let s : State := { s with power := { s.power with thermHeld := false } }
    if s.noTrip ∧ s.power.pres ∧ s.power.drain ≠ .done then
      { s with power := { s.power with converters := true, coldSrc := 0x02 } }
    else s
  else s)

/-! ### Removal -/

/-- REMOVE_REQ (R22, R25). -/
def State.removeReq (s : State) : State :=
  if s.power.drain = .none ∧ s.g .dev 0 Off.devPwrctl 1 1 = 0 ∧ s.power.rails then
    let s := s.p .dev 0 Off.devPwrctl 0 0 1
    { s with power := { s.power with drain := .running } }
  else s

/-- REMOVE_REQ (R22, R25): the write of DEV_PWRCTL. -/
def execRemoveReq (s : State) : Host.Outcome State Fault Refusal := .next (s.pageWrite .dev 0 Off.devPwrctl (·.removeReq))

/-- REMOVAL_DRAIN_RESUME (R22): no commit is open. -/
def execRemovalDrainResume (s : State) : Host.Outcome State Fault Refusal :=
  .next (if s.power.drain = .running ∧ s.phase = 0 then (s.leave.persist 1 true).drainDone else s)

/-- REMOVE_DRAIN_TIMEOUT (R22): steps 4 to 6 are forced. -/
def execRemoveDrainTimeout (s : State) : Host.Outcome State Fault Refusal :=
  .next (if s.power.drain = .running then ((s.persist 1 true).drainDone).latchPwr 15 else s)

/-! ### Clock/power -/

/-- CLOCK_POWER_LOOP_TICK (R383). -/
def execClockPowerLoopTick (p : BitVec 16) (s : State) : Host.Outcome State Fault Refusal :=
  .next (if s.power.rails then s.loopTick p.toNat else s)

/-- POWER_LIMIT_RISE_TICK (R383). -/
def execPowerLimitRiseTick (p t : BitVec 16) (s : State) : Host.Outcome State Fault Refusal :=
  .next (if s.power.rails then s.limitRise p.toNat t.toInt else s)

/-- POWER_LIMIT_FALL_TICK (R383). -/
def execPowerLimitFallTick (p t : BitVec 16) (s : State) : Host.Outcome State Fault Refusal :=
  .next (if s.power.rails then s.limitFall p.toNat t.toInt else s)

end Sys2Proof.Machine
end

