-- ==== Sys2Proof/Machine/Views.lean ====
section
/-! DEFINITION. What a read of BAR0 returns (R6, R7, R40, R44 to R46, R54, R56, R61, R76): registers as stored, and those that
hardware keeps equal to something else in the state. -/

namespace Sys2Proof.Machine

/-! ### CAPS (R56) -/

/-- HAS_TIMEOUT. -/
def hasTimeout : Blk → Bool
  | .mbx | .xlt | .sth | .cor | .act | .shl | .kvp | .fab | .inl | .shr | .red | .ras => true
  | .dev | .rcc | .hlk | .mem | .sdm | .tlm | .sec => false

/-- HAS_COUNTERS. -/
def hasCounters : Blk → Bool
  | .dev | .rcc | .mbx => false
  | .hlk | .mem | .sdm | .xlt | .sth | .cor | .act | .shl | .kvp | .fab | .inl | .shr | .red | .ras | .tlm | .sec => true

/-- BCAST_MEMBER. -/
def bcastMember : Blk → Bool
  | .mem | .cor | .fab => true
  | .dev | .rcc | .mbx | .hlk | .sdm | .xlt | .sth | .act | .shl | .kvp | .inl | .shr | .red | .ras | .tlm | .sec => false

/-- A word from (low bit, value) pairs. -/
def pack (fs : List (Nat × Nat)) : Word := BitVec.ofNat 64 (fs.foldl (fun a f => a + f.2 * 2 ^ f.1) 0)

/-- 1 for true. -/
def b2n (b : Bool) : Nat := if b then 1 else 0

/-! ### Versioned interfaces (R65) -/

/-- LOW and HIGH of DEV_IFn; the two reserved ones read 0. -/
def ifBounds : Nat → Option (Nat × Nat)
  | 0 => some (0x10, 0x30)
  | 1 => some (0x20, 0x30)
  | 2 => some (0x10, 0x20)
  | 3 => some (0x10, 0x20)
  | 4 => some (0x10, 0x20)
  | 5 => some (0x12, 0x12)
  | _ => none

namespace State

/-! ### STATUS (R56, R58, R59) -/

/-- BUSY: work is in flight in the block. -/
def busy (s : State) (b : Blk) (i : Nat) : Bool :=
  let ops (p : Nat → Op → Bool) : Bool := s.queues.any fun e => e.2.any fun o => o.started && p e.1 o
  match b with
  | .mbx => s.hlk.mbx.isSome
  | .hlk => s.hlk.rings.any fun e => e.2.cmds ≠ []
  | .xlt => s.mem.inval.isSome || s.mem.faults ≠ []
  | .sth => ops fun q _ => queueBasin q = i
  | .cor => (s.core i).pri.isSome || (s.core i).fill.isSome || ops fun q _ => q / 8 = i && decide (q < 18432)
  | .act => ops fun q o => queueBasin q = i && (opCodec o = 0x40 || opCodec o = 0x41)
  | .shl => (tget s.shl [] i) ≠ []
  | .kvp => ops fun _ o => 0x51 ≤ opCodec o && opCodec o ≤ 0x53
  | .fab => (s.fab.txns.any fun x => x.l / 2 = i) || s.parkedAt i ≠ []
  | .inl => (s.unit i).run.isSome
  | .shr => (s.unit (12 + i)).run.isSome
  | .red => s.redState ≠ 0
  | .ras => s.ras.cores.any fun e => e.2.testing
  | .dev | .rcc | .mem | .sdm | .tlm | .sec => false

/-- Block-specific bits of STATUS: bias settling (R89), PART_PENDING (R131), ABSENT (R220). -/
def statusBlock (s : State) (b : Blk) (i : Nat) : Nat :=
  match b with
  | .hlk => b2n s.hlk.biasSettling
  | .cor => b2n (s.core i).part.isSome
  | .mem => b2n (s.ready .mem i && s.g .mem i Off.memInfo 2 0 = 0)
  | .dev | .rcc | .mbx | .sdm | .xlt | .sth | .act | .shl | .kvp | .fab | .inl | .shr | .red | .ras | .tlm | .sec => 0

/-- STATUS (R56). -/
def statusWord (s : State) (b : Blk) (i : Nat) : Word :=
  pack [(0, b2n (s.ready b i)), (1, b2n (s.busy b i)), (2, b2n (s.faulted b i))
    , (3, b2n (tget s.rst.quiesced false (pageBase b i))), (8, s.statusBlock b i)]

/-- ID (R56). -/
def idWord (s : State) (b : Blk) (i : Nat) : Word :=
  pack [(12, basinOf b i), (16, if b = .cor then s.physOf i else i), (32, i), (56, typeCode b)]

/-- CAPS (R56). -/
def capsWord (b : Blk) : Word :=
  pack [(60, b2n (bcastMember b)), (61, b2n (hasBlkRst b)), (62, b2n (hasCounters b)), (63, b2n (hasTimeout b))]

/-! ### Registers that hardware keeps -/

/-- DEV_IFn with its bounds. -/
def ifWord (s : State) (n : Nat) : Word :=
  match ifBounds n with
  | some (lo, hi) => putFld (putFld (s.rd (Off.devIf + 8 * n)) 63 56 lo) 55 48 hi
  | none => 0

/-- DEV registers. -/
def viewDev (s : State) (off : Nat) (w : Word) : Word :=
  if off = Off.devPart then putFld w 15 8 s.sec.assyRev.toNat
  else if Off.devIf ≤ off ∧ off < Off.devIf + 64 then s.ifWord ((off - Off.devIf) / 8)
  else if off = Off.devScalecfg then s.scale.cfg.getD w
  else if off = Off.devScalebase then s.scale.base.getD w
  else if Off.devRecipe0 ≤ off ∧ off < Off.devRecipe0 + 128 then
    (tget s.scale.recipes none ((off - Off.devRecipe0) / 8)).getD w
  else if off = Off.devScalestat then
    let p := s.scale.cfg.isSome || s.scale.base.isSome || s.scale.recipes ≠ []
    putFld (putFld (putFld (putFld w 4 4 (b2n p)) 2 2 (b2n s.delayedNext)) 1 1 (b2n s.scale.reseed)) 0 0 (b2n s.scale.loaded)
  else w

/-- RCC registers (R31, R36, R42, R51). -/
def viewRcc (s : State) (off : Nat) (w : Word) : Word :=
  if off = Off.rccClkstat then
    let c := s.clock
    pack [(0, b2n c.rootOk), (1, b2n c.logicLock), (2, b2n c.ddrLock), (3, b2n c.colsarLock), (4, b2n c.hostLock)
      , (5, b2n c.degraded), (8, s.coreSkip)]
  else if off = Off.rccReady0 then s.rst.ready0
  else if off = Off.rccReady1 then s.rst.ready1
  else if off = Off.rccReady2 then s.rst.ready2
  else if off = Off.rccTimer then s.clock.timer
  else if off = Off.rccRstCtrl then
    let has (c : RstClass) (b : Nat) : Nat := b2n (s.rst.reqs.any fun r => r.cls = c && r.basin = b)
    pack ([(0, has .cold 0), (1, has .warm 0)] ++ (List.range 4).map fun b => (4 + b, has .basin b))
  else if off = Off.rccJrnCtrl then putFld w 1 1 (b2n s.jrn.held)
  else w

/-- HLK_RSTAT of a ring (R91). -/
def rstatWord (s : State) (r : Nat) : Word :=
  let x := s.ring r
  pack [(0, x.st.toNat), (7, b2n x.phase), (16, x.err.toNat), (24, x.fmt.toNat), (32, x.ctail % 65536), (48, x.head % 65536)]

/-- XLT_HFAULT_VA, XLT_HFAULT_INFO and XLT_SLICEn (R232). -/
def viewXlt (s : State) (off : Nat) (w : Word) : Word :=
  match s.hostFault, off with
  | some f, 0x140 => BitVec.ofNat 64 f.va
  | some f, 0x148 => pack [(0, f.id % 2 ^ 32), (32, f.round % 128), (39, b2n f.write), (40, f.req % 16), (44, f.slice % 16)
      , (48, f.kind % 256), (63, 1)]
  | _, _ =>
    if Off.xltSlice ≤ off ∧ off < Off.xltSlice + 32 then
      let es := s.slice ((off - Off.xltSlice) / 8)
      pack [(0, es.length), (32, (es.filter (·.pinned)).length)]
    else w

/-- Shoals of a launch that have not ended on a core. -/
def shoalsLeft (s : State) (c : Nat) (l : Option Nat) : Nat :=
  match l with
  | some l => ((List.range 32).filter fun t => match s.shoal c t with
      | some x => x.launch = l
      | none => false).length
  | none => 0

/-- The ring of a launch. -/
def ringOf (s : State) (l : Option Nat) : Nat := ((l.bind s.launch?).map (·.ring)).getD 0

/-- COR_MXDBG_DATA of a halted tile: the selected element after K-chunk HALT_CHUNK (R174). -/
def mxdbgData (s : State) (c : Nat) (t : Tile) : Word :=
  let sel := s.rd (pageBase .cor c + Off.corMxdbgSel)
  let i := fld sel 11 6
  let j := fld sel 5 0
  let n := (s.g .cor c Off.corMxdbgCtl 43 32 + 1) * 16
  let x := s.tileIn c t
  let x := { x with k := min n x.k }
  let nonfin := b2n (x.mark i j).isSome
  let win := if t.fp32 then f32Of (x.fallback i j (x.k / x.g)).1 else wrapN 40 (x.window ((s.tileIn c t).lsb t.headroom) i j (x.k / x.g)).1
  pack [(0, win), (48, wrapN 12 ((s.tileIn c t).lsb t.headroom)), (60, nonfin), (61, b2n t.fp32), (62, t.attempt % 4)]

/-- COR registers (R131, R174, R175, R256). -/
def viewCor (s : State) (c off : Nat) (w : Word) : Word :=
  let x := s.core c
  if off = Off.corLaunch then
    pack [(8, x.fillQ.length), (16, s.shoalsLeft c x.fill), (24, s.ringOf x.fill), (31, b2n x.fill.isSome), (40, x.priQ.length)
      , (48, s.shoalsLeft c x.pri), (56, s.ringOf x.pri), (63, b2n x.pri.isSome)]
  else if off = Off.corFlags then x.flags
  else if off = Off.corMxdbgCtl then
    if s.debugOpen then putFld w 1 1 (b2n (x.mxRun.any (·.halted))) else 0
  else if off = Off.corMxdbgSel then (if s.debugOpen then w else 0)
  else if off = Off.corMxdbgData then
    match x.mxRun with
    | some t => if s.debugOpen && t.halted then s.mxdbgData c t else 0
    | none => 0
  else if Off.corSqstat ≤ off ∧ off < Off.corSqstat + 64 then
    let l := s.queue (8 * c + (off - Off.corSqstat) / 8)
    putFld (putFld (putFld (putFld w 63 63 (b2n (l.any (·.started)))) 62 62 (b2n (l.any (·.held)))) 47 40
      (l.foldl (fun n o => n + o.xfers.length) 0)) 36 32 l.length
  else w

/-- ACT registers with LIVE and USED (R275). -/
def viewAct (s : State) (b off : Nat) (w : Word) : Word :=
  if off = Off.actLedgerlen then putFld w 48 32 (s.ledger b).length
  else if off = 0x118 then putFld w 55 32 (s.poolUsed b 1)
  else if off = 0x128 then putFld w 55 32 (s.poolUsed b 2)
  else if off = 0x138 then putFld w 55 32 (s.poolUsed b 3)
  else if off = Off.actBudget then putFld w 55 32 (s.tier1Used b false)
  else if off = Off.actGcres then putFld w 55 32 (s.tier1Used b true)
  else w

/-- SDM_SPARE (R213). -/
def spareWord (s : State) (b : Nat) : Word :=
  let n := (s.mem.remaps.filter fun r => r.1 / 64 = b).length
  let m := (List.range 64).foldl (fun m v => if s.sparesLeft b v < s.sparesLeft b m then v else m) 0
  pack [(0, s.sparesLeft b m), (16, m), (32, n % 65536)]

/-- FAB_LINKh (R341). -/
def linkWord (s : State) (l : Nat) : Word :=
  if !s.linkExists l then 0
  else
    let x := s.link l
    let up := [2, 3, 5].contains x.st.toNat
    pack [(0, x.st.toNat), (16, if up then (if 0x20 ≤ x.level.toNat then 15 else 3) else 0), (20, if up then x.width.toNat else 0)
      , (24, x.lit.toNat), (33, b2n x.peerHalf), (34, x.peerPort.toNat), (40, if up then x.level.toNat else 0), (48, x.peer.toNat)]

/-- RAS_COREINFO of the selected core (R412). -/
def coreinfoWord (s : State) : Word :=
  let q := s.g .ras 0 Off.rasCoresel 11 0
  let x := s.pcore q
  let st := if x.retired then 3 else if x.testing then 2 else if (s.logicalOf q).isSome then 0 else 1
  let due := if x.due then 0 else min 65535 ((x.dueAt.toNat - s.now.toNat) / 15000000000)
  pack [(0, due), (16, x.errors % 65536), (32, (s.logicalOf q).getD 0xFFFF), (61, b2n x.suspect), (62, st)]

/-- RAS registers. -/
def viewRas (s : State) (off : Nat) (w : Word) : Word :=
  if off = Off.rasCoreinfo then s.coreinfoWord
  else if Off.rasSpare ≤ off ∧ off < Off.rasSpare + 32 then
    let b := (off - Off.rasSpare) / 8
    pack [(0, (s.ras.cores.filter fun e => e.1 / 592 = b && e.2.retired).length % 256), (8, s.testsIn b % 256)
      , (16, (s.freeSpares b).length % 256)]
  else if off = Off.rasFlog then putFld w 47 32 s.ras.pending.length
  else w

/-- SEC_BOOT with its fuse fields (R430). -/
def bootWord (s : State) (w : Word) : Word :=
  let keys := ((List.range 2).map fun n => if (tget s.sec.custKey none n).isSome then 2 ^ n else 0).foldl (· + ·) 0
  putFld (putFld (putFld (putFld w 23 16 s.sec.rollback) 11 10 s.sec.vendorRevoked.toNat) 9 8 keys) 7 6 s.sec.custRevoked.toNat

/-- TLM_PWRSTAT (R384). -/
def pwrstatWord (s : State) (w : Word) : Word :=
  putFld (putFld (putFld w 63 60 s.power.nWin) 59 56 s.power.nLim) 31 16 s.power.capW.toNat

/-- A register of a page past its header, before READY is looked at. -/
def viewBlock (s : State) (b : Blk) (i off : Nat) (w : Word) : Word :=
  match b with
  | .dev => s.viewDev off w
  | .rcc => s.viewRcc off w
  | .hlk => if Off.hlkRcfg ≤ off ∧ off < Off.hlkRcfg + 0x800 ∧ off % 0x20 = 0x18 then s.rstatWord ((off - Off.hlkRcfg) / 0x20) else w
  | .sdm => if off = Off.sdmSpare then s.spareWord i else w
  | .xlt => s.viewXlt off w
  | .sth => if off = Off.sthSlotstat then BitVec.ofNat 64 (s.slotsHeld i) else w
  | .cor => s.viewCor i off w
  | .act => s.viewAct i off w
  | .fab => if off = Off.fabLink then s.linkWord (2 * i) else if off = Off.fabLink + 8 then s.linkWord (2 * i + 1) else w
  | .red => if off = Off.redStepstat then putFld w 51 48 s.stepWaiting else w
  | .ras => s.viewRas off w
  | .tlm => if off = Off.tlmPwrstat then s.pwrstatWord w else w
  | .sec => if off = Off.secBoot then s.bootWord w else w
  | .mbx | .mem | .shl | .kvp | .inl | .shr => w

/-- Clear the WO fields, which read 0 (R6). -/
def hideWo (r : RegRow) (w : Word) : Word := r.flds.foldl (fun w f => if f.acc = .wo then putFld w f.hi f.lo 0 else w) w

/-- The 8-byte register at an offset of a page, as a read returns it. -/
def viewReg (s : State) (b : Blk) (i off : Nat) : Word :=
  let a := pageBase b i + off
  if off = Off.id then s.idWord b i
  else if off = Off.caps then capsWord b
  else if off = Off.status then s.statusWord b i
  else if off = Off.blkReset then BitVec.ofNat 64 (b2n (tget s.rst.blk noBlk (pageBase b i) ≠ noBlk))
  else if 0x100 ≤ off ∧ !s.ready b i then 0
  else if s.g b i Off.cntSnap 1 1 = 1 ∧ (counterRegs b i).contains a then tget s.snaps 0 a
  else match RegMap.find b off with
    | some (r, _) => hideWo r (if off < 0x100 then s.rd a else s.viewBlock b i off (s.rd a))
    | none => 0

/-! ### The retained SRAM window (R44 to R46) -/

/-- Base of the window. -/
def winBase : Nat := 0x800000

/-- Fault records not yet delivered, as the window shows them: the ring of records, oldest first (R405, R408). -/
def recBytes (s : State) : Bytes := (s.ras.pending.map (cper true)).flatten

/-- n bytes of the window. -/
def winRead (s : State) (o n : Nat) : Bytes :=
  let rs := if o < 0x30000 ∧ 0x20000 < o + n then s.recBytes else []
  (List.range n).map fun k =>
    let x := o + k
    if 0x38000 ≤ x ∧ x < 0x40000 then 0
    else if 0x20000 ≤ x ∧ x < 0x30000 ∧ x - 0x20000 < rs.length then rs.getD (x - 0x20000) 0
    else tget s.retained 0 x

/-! ### Broadcast pages (R61) -/

/-- Members of a broadcast page (R61, R62). -/
def members (s : State) : Bcast → List (Blk × Nat)
  | .memAll => (List.range 24).map fun i => (.mem, i)
  | .fabAll => (List.range 48).map fun i => (.fab, i)
  | .corAll => (List.range 2304).map fun i => (.cor, i)
  | .corBasin b => (List.range 576).map fun i => (.cor, b * 576 + i)
  | .corGroup g => ((List.range 2304).filter fun c => bit (s.rd (pageBase .cor c + Off.corGroup)) g).map fun i => (.cor, i)

/-- Block of a broadcast page's members. -/
def bcastBlk : Bcast → Blk
  | .memAll => .mem
  | .fabAll => .fab
  | .corAll | .corBasin _ | .corGroup _ => .cor

/-- The 8-byte register at an offset of a broadcast page: the OR over members of STATUS and EVENT, else 0. -/
def viewBcast (s : State) (p : Bcast) (off : Nat) : Word :=
  if off = Off.status then (s.members p).foldl (fun w m => w ||| s.statusWord m.1 m.2) 0
  else if off = Off.event then (s.members p).foldl (fun w m => w ||| s.rd (pageBase m.1 m.2 + Off.event)) 0
  else 0

/-! ### Refusals (R40, R44, R45, R54, R78) -/

/-- A BAR0 offset lies in the retained SRAM window. -/
def inWindow (a : Nat) : Bool := winBase ≤ a && a < winBase + 0x80000

/-- A register has a WO or a W1S field. -/
def hasAction (r : RegRow) : Bool := r.flds.any fun f => f.acc = .wo || f.acc = .w1s

/-- A write under a byte mask reaches an RWL field of a register. -/
def hitsRwl (r : RegRow) (m : Nat) : Bool := r.flds.any fun f => f.acc = .rwl && nfld m f.hi f.lo ≠ 0

/-- Bits of the 8-byte register that an access of a size at an address names. -/
def accMask (a size : Nat) : Nat := (2 ^ (8 * size) - 1) * 2 ^ (8 * (a % 8))

/-- Why the device refuses an access, as a DEV_EVENT bit; size and alignment are looked at first (DESIGN CHOICE; Assumption 41).
A broadcast write that some members ignore is not refused as a whole (R63). -/
def refusal (s : State) (wh write : Bool) (a size : Nat) : Option Nat :=
  if inWindow a then
    if !([1, 2, 4, 8].contains size) ∨ a % size ≠ 0 then some Ev.devBadAccess
    else if !s.ready .rcc 0 then some Ev.devEarlyAccess
    else
      let o := a - winBase
      if write ∧ ((0x38000 ≤ o ∧ o < 0x40000) ∨ (!wh ∧ o < 0x40000)) then some Ev.devBadAccess else none
  else if !([4, 8].contains size) ∨ a % size ≠ 0 then some Ev.devBadAccess
  else
    let off := a % 0x1000 / 8 * 8
    let chk (b : Blk) : Option Nat := match RegMap.find b off with
      | some (r, _) =>
        if write ∧ size = 4 ∧ hasAction r then some Ev.devBadAccess
        else if write ∧ s.locked ∧ hitsRwl r (accMask a size) then some Ev.devWriteLocked
        else none
      | none => none
    match pageAt a with
    | some (b, i) => match chk b with
      | some c => if c = Ev.devWriteLocked ∧ 0x100 ≤ off ∧ !s.ready b i then some Ev.devEarlyAccess else some c
      | none => if 0x100 ≤ off ∧ !s.ready b i then some Ev.devEarlyAccess else none
    | none => match bcastAt a with
      | some p => chk (bcastBlk p)
      | none => some Ev.devUnmapped

/-- What a read of a size at a BAR0 offset returns; a refused read returns 0. -/
def bar0Read (s : State) (wh : Bool) (a size : Nat) : Nat :=
  if (s.refusal wh false a size).isSome then 0
  else if inWindow a then leNat (s.winRead (a - winBase) size)
  else
    let off := a % 0x1000 / 8 * 8
    let w : Word := match pageAt a with
      | some (b, i) => s.viewReg b i off
      | none => match bcastAt a with
        | some p => s.viewBcast p off
        | none => 0
    nfld w.toNat (8 * (a % 8) + 8 * size - 1) (8 * (a % 8))

end State

end Sys2Proof.Machine
end

