-- ==== Sys2Proof/Machine/Bar0.lean ====
section
/-! DEFINITION. Writes to BAR0 and to the host's BAR2: access codes, the common header, the registers with effects of their own,
broadcast pages, refusals, quiescing and the end of a Block reset (R6, R30, R54 to R63, R67 to R70, R76 to R78, R88, R92). -/

namespace Sys2Proof.Machine

/-- A register after a write of `v` under a bit mask, by its access codes (R6). -/
def RegRow.merge (r : RegRow) (w : Word) (m : Nat) (v : Word) : Word :=
  r.flds.foldl (fun w f =>
    let fm := nfld m f.hi f.lo
    let fo := fld w f.hi f.lo
    let fv := fld v f.hi f.lo &&& fm
    match f.acc with
    | .rw | .rwl => putFld w f.hi f.lo (fo - (fo &&& fm) + fv)
    | .w1c => putFld w f.hi f.lo (fo - (fo &&& fv))
    | .ro | .wo | .w1s | .ros => w) w

/-- A word with the bits of a mask replaced. -/
def maskWord (w : Word) (m : Nat) (v : Word) : Word :=
  BitVec.ofNat 64 (w.toNat - (w.toNat &&& m) + (v.toNat &&& m))

namespace State

/-! ### Registers without an effect of their own -/

/-- A write that acts by the access codes alone. -/
def plainWrite (s : State) (b : Blk) (i off m : Nat) (v : Word) : State :=
  match RegMap.find b off with
  | some (r, _) => s.wr (pageBase b i + off) (r.merge (s.rd (pageBase b i + off)) m v)
  | none => s

/-- What a write leaves in a register whose fields are all RW. -/
def newWord (s : State) (b : Blk) (i off m : Nat) (v : Word) : Word := maskWord (s.rd (pageBase b i + off)) m v

/-! ### The common header -/

/-- Work that CTRL.QUIESCE held starts (R59). -/
def release (s : State) (b : Blk) (i : Nat) : State :=
  let s : State := { s with rst := { s.rst with quiesced := tset s.rst.quiesced false (pageBase b i) false } }
  match b with
  | .mbx => s.mbxServe
  | .xlt => xltRelease s
  | .kvp => s.kvTry
  | .dev | .rcc | .hlk | .mem | .sdm | .sth | .cor | .act | .shl | .fab | .inl | .shr | .red | .ras | .tlm | .sec => s

/-- A write of CTRL (R59). -/
def ctrlWrite (s : State) (b : Blk) (i m : Nat) (v : Word) : State :=
  let s := s.plainWrite b i Off.ctrl m v
  if s.quiet b i then s else s.release b i

/-- A write of EVENT, EVENT_EN or EVENT_VEC: one message when the pending set is non-empty after it (R68, R70). -/
def eventWrite (s : State) (b : Blk) (i off m : Nat) (v : Word) : State :=
  let s := s.plainWrite b i off m v
  if s.pendingSet b i = 0 then s else s.msix (s.eventVec b i)

/-- A reset of the page runs. -/
def pageInReset (s : State) (b : Blk) (i : Nat) : Bool :=
  s.coveredPage b i || tget s.rst.blk noBlk (pageBase b i) = .running

/-- A write of CNT_SNAP: VIEW, then TAKE unless a reset of the page runs (R76). -/
def snapWrite (s : State) (b : Blk) (i : Nat) (v : Word) : State :=
  if !hasCounters b then s
  else
    let s := s.plainWrite b i Off.cntSnap (2 ^ 64 - 1) v
    if bit v 0 && !s.pageInReset b i then s.takeSnap b i else s

/-- A write of the common header; offsets without a register, and fields that the block gives no use, ignore it (R56). -/
def headerWrite (s : State) (b : Blk) (i off m : Nat) (v : Word) : State :=
  if off = Off.ctrl then s.ctrlWrite b i m v
  else if off = Off.event ∨ off = Off.eventEn ∨ off = Off.eventVec then s.eventWrite b i off m v
  else if off = Off.timeout then (if hasTimeout b then s.plainWrite b i off m v else s)
  else if off = Off.blkReset then (if bit v 0 then s.blockRequest b i else s)
  else if off = Off.cntSnap then s.snapWrite b i v
  else if off = Off.cntSat ∨ off = Off.cntSat + 8 then (if hasCounters b then s.plainWrite b i off m v else s)
  else s

/-! ### DEV and RCC -/

/-- A write of CAP and FLOOR of DEV_IFn (R67). -/
def ifWrite (s : State) (n cap floor : Nat) : State :=
  match ifBounds n with
  | some (lo, hi) =>
    let bad (x : Nat) : Bool := x ≠ 0 && (decide (x < lo) || decide (hi < x))
    if bad cap || bad floor || decide ((if cap = 0 then hi else cap) < (if floor = 0 then lo else floor)) then s.raise .dev 0 Ev.devVerBad
    else (s.p .dev 0 (Off.devIf + 8 * n) 47 40 cap).p .dev 0 (Off.devIf + 8 * n) 39 32 floor
  | none => s

/-- A write of DEV_PWRCTL: W1C of the latched conditions, which raises POWER where a bit changes, and REMOVE_REQ (R19, R22, R78). -/
def pwrctlWrite (s : State) (m : Nat) (v : Word) : State :=
  let old := s.g .dev 0 Off.devPwrctl 15 8
  let s := s.plainWrite .dev 0 Off.devPwrctl m v
  let s := if s.g .dev 0 Off.devPwrctl 15 8 = old then s else s.raise .dev 0 Ev.devPower
  if bit v 0 then s.removeReq else s

/-- A write of DEV_SCALESTAT (R150, R152, R154). -/
def scalestatWrite (s : State) (m : Nat) (v : Word) : State :=
  let s := s.plainWrite .dev 0 Off.devScalestat m v
  if bit v 0 ∨ bit v 1 then s.scaleAction (bit v 0) (bit v 1) else s

/-- A write of DEV_RTBASE: FLUSH empties the route cache (R328). -/
def rtbaseWrite (s : State) (v : Word) : State :=
  let s := s.plainWrite .dev 0 Off.devRtbase (2 ^ 64 - 1) v
  if bit v 1 then { s with fab := { s.fab with routes := [] } } else s

/-- A write to a DEV register past the header. -/
def writeDev (s : State) (off m : Nat) (v : Word) : State :=
  if off = Off.devPwrctl then s.pwrctlWrite m v
  else if Off.devIf ≤ off ∧ off < Off.devIf + 64 then
    let w := s.newWord .dev 0 off m v
    s.ifWrite ((off - Off.devIf) / 8) (fld w 47 40) (fld w 39 32)
  else if off = Off.devScalecfg then s.writeScaleCfg (maskWord (s.viewDev off (s.rd off)) m v)
  else if off = Off.devScalebase then s.writeScaleBase (maskWord (s.viewDev off (s.rd off)) m v)
  else if Off.devRecipe0 ≤ off ∧ off < Off.devRecipe0 + 128 then
    s.writeRecipe ((off - Off.devRecipe0) / 8) (fld (maskWord (s.viewDev off (s.rd off)) m v) 7 0)
  else if off = Off.devScalestat then s.scalestatWrite m v
  else if off = Off.devFabid then s.writeFabid (s.newWord .dev 0 off m v)
  else if off = Off.devRtbase then s.rtbaseWrite v
  else s.plainWrite .dev 0 off m v

/-- A write to an RCC register past the header. -/
def writeRcc (s : State) (off m : Nat) (v : Word) : State :=
  if off = Off.rccRstCtrl then s.writeRstCtrl v
  else if off = Off.rccJrnCtrl then (if bit v 0 then s.twinLost else s)
  else s.plainWrite .rcc 0 off m v

/-! ### MBX and HLK -/

/-- A write to an MBX register past the header. -/
def writeMbx (s : State) (off m : Nat) (v : Word) : State :=
  if off = Off.mbxCmd ∧ bit v 63 then s.mbxGo (fld v 15 0) (fld v 47 32) (fld v 31 16)
  else s.plainWrite .mbx 0 off m v

/-- A write to an HLK register past the header. POLICY 3 is reserved (R379). -/
def writeHlk (s : State) (off m : Nat) (v : Word) : State :=
  if off = Off.hlkHdmcfg then s.writeExpose (fld (s.newWord .hlk 0 off m v) 10 0)
  else if Off.hlkBias ≤ off ∧ off < Off.hlkBias + 128 then s.writeBias ((off - Off.hlkBias) / 8) (s.newWord .hlk 0 off m v)
  else if Off.hlkRcfg ≤ off ∧ off < Off.hlkRcfg + 0x800 ∧ off % 0x20 = 0 then s.writeRcfg ((off - Off.hlkRcfg) / 0x20) v
  else if off = Off.hlkFillctl ∧ fld (s.newWord .hlk 0 off m v) 1 0 = 3 then s
  else s.plainWrite .hlk 0 off m v

/-! ### XLT, STH, COR -/

/-- A write to an XLT register past the header (R227). -/
def writeXlt (s : State) (off m : Nat) (v : Word) : State :=
  let s := if off = Off.xltCmd ∧ s.g .xlt 0 Off.xltCmd 63 63 = 1 then s else s.plainWrite .xlt 0 off m v
  if off = Off.xltCmd ∧ bit v 63 then xltGo s (fld v 7 0) (BitVec.ofNat 4 (fld v 51 48)) else s

/-- Every byte of a queue limit register lies in 1 to 64 (R241, R256). -/
def limitsOk (w : Word) : Bool := (List.range 8).all fun k => decide (1 ≤ fld w (8 * k + 7) (8 * k) ∧ fld w (8 * k + 7) (8 * k) ≤ 64)

/-- A write to an STH register past the header (R242, R256, R257, R374). -/
def writeSth (s : State) (i off m : Nat) (v : Word) : State :=
  let w := s.newWord .sth i off m v
  if off = Off.sthSlotcfg ∧ 4096 < 576 * fld w 18 16 + fld w 11 0 then s.raise .sth i Ev.sthCfgRefused
  else if off = Off.sthQcfg ∧ !limitsOk w then s.raise .sth i Ev.sthCfgRefused
  else if Off.sthStgcfg ≤ off ∧ off < Off.sthStgcfg + 0x80 ∧ off % 0x20 = 0 then
    s.writeStgCfg (4 * i + (off - Off.sthStgcfg) / 0x20) w
  else s.plainWrite .sth i off m v

/-- A halted tile goes on (R174). -/
def mxResume (s : State) (c : Nat) : State :=
  match (s.core c).mxRun with
  | some t => s.setCore c { s.core c with mxRun := some { t with halted := false } }
  | none => s

/-- A write to a COR register past the header (R125, R130, R174, R256). -/
def writeCor (s : State) (c off m : Nat) (v : Word) : State :=
  let w := s.newWord .cor c off m v
  if off = Off.corPart then s.writePart c (maskWord ((s.core c).part.getD (s.rd (pageBase .cor c + off))) m v)
  else if off = Off.corFlagsSet then s.setFlags c v
  else if off = Off.corFlagsClr then s.clearFlags c v
  else if off = Off.corSqcfg ∧ !limitsOk w then s.raise .sth (c / 576) Ev.sthCfgRefused
  else if off = Off.corMxdbgCtl ∨ off = Off.corMxdbgSel then
    if !s.debugOpen then s
    else
      let s := s.plainWrite .cor c off m v
      if off = Off.corMxdbgCtl ∧ bit v 2 then s.mxResume c else s
  else s.plainWrite .cor c off m v

/-! ### ACT, KVP, FAB -/

/-- A write to an ACT register past the header: the ledger and the pools change only while QUIESCED with no live record (R275). -/
def writeAct (s : State) (i off m : Nat) (v : Word) : State :=
  if Off.actLedger ≤ off ∧ off < Off.actBudget then
    if tget s.rst.quiesced false (pageBase .act i) ∧ s.ledger i = [] then s.plainWrite .act i off m v else s.raise .act i Ev.actCfgRefused
  else if off = Off.actPurge then
    if !bit v 0 then s
    else if tget s.rst.quiesced false (pageBase .act i) then (s.ledger i).foldl (fun s r => s.freeOrDue i r) s
    else s.raise .act i Ev.actCfgRefused
  else s.plainWrite .act i off m v

/-- A write to a KVP register past the header (R304, R316). -/
def writeKvp (s : State) (off m : Nat) (v : Word) : State :=
  let n := (off - Off.kvpPoolbase) / 0x20
  let w (o : Nat) : Word := if off = o + 0x20 * n then s.newWord .kvp 0 off m v else s.rd (pageBase .kvp 0 + o + 0x20 * n)
  if off = Off.kvpSeqbase ∨ off = Off.kvpSeqlen then
    if tget s.rst.quiesced false (pageBase .kvp 0) then s.plainWrite .kvp 0 off m v else s.raise .kvp 0 Ev.kvpCfgRefused
  else if Off.kvpPoolbase ≤ off ∧ off < Off.kvpPoolbase + 0x80 then
    if off % 0x20 = 0x18 then s else s.poolConfig n (w Off.kvpPoolbase) (w Off.kvpPoolcfg) (w Off.kvpPoolmap)
  else if off = Off.kvpCmd ∧ bit v 63 then
    s.kvGo (fld v 7 0) (fld v 31 16) (fld v 47 32) (s.rd (pageBase .kvp 0 + Off.kvpCmdarg)).toNat
  else s.plainWrite .kvp 0 off m v

/-- A write to an FAB register past the header: ENABLE 0 takes the port's links down (R326, R338, R341). -/
def writeFab (s : State) (i off m : Nat) (v : Word) : State :=
  let w := s.newWord .fab i off m v
  if off = Off.fabCredcfg ∧ 2048 < fld w 15 8 + 15 * fld w 7 0 then s.raise .fab i Ev.fabCfgRefused
  else if off = Off.fabMcmd ∧ bit v 63 then s.mcmdSend i (fld v 47 32) (fld v 7 0) (fld v 15 8)
  else
    let s := s.plainWrite .fab i off m v
    if off = Off.fabCfg ∧ s.g .fab i Off.fabCfg 0 0 = 0 then
      [2 * i, 2 * i + 1].foldl (fun s l => if (s.link l).st = 0 then s else s.dropLink l) s
    else s

/-! ### RED, RAS, TLM -/

/-- Bits below which a table's base reads 0 (R370). -/
def redAlign (off : Nat) : Nat :=
  if off = Off.redTt then 21 else if off = Off.redSh then 19 else if off = Off.redPg then 13 else if off = Off.redPbuf then 16 else 12

/-- A write to a RED register past the header (R369, R370, R382). -/
def writeRed (s : State) (off m : Nat) (v : Word) : State :=
  if Off.redCfg ≤ off ∧ off ≤ Off.redPbuf then
    if s.redState ≠ 0 then s.raise .red 0 Ev.redCfgRefused
    else if off = Off.redCfg then s.plainWrite .red 0 off m v
    else
      let k := redAlign off
      s.wr (pageBase .red 0 + off) (BitVec.ofNat 64 (fld (s.newWord .red 0 off m v) 56 k * 2 ^ k))
  else if off = Off.redStepctl then
    if bit v 63 then s.closeStep (fld v 61 0)
    else if bit v 62 then s.abandonStep (fld v 61 0)
    else s.plainWrite .red 0 off m v
  else if off = Off.redBankset then s.writeBankset (bit v 0)
  else if off = Off.redLwclr then s.writeLwclr (if bit v 15 then none else some (fld v 11 0))
  else if off = Off.redBsteer then s.writeBsteer (maskWord (s.red.bsteerWait.getD (s.rd (pageBase .red 0 + off))) m v)
  else if off = Off.redBsteer1 then s.writeBsteer1 (s.newWord .red 0 off m v)
  else if off = Off.redBsteer2 then s.writeBsteer2 (bit v 32) (fld v 31 0)
  else s.plainWrite .red 0 off m v

/-- A write to a RAS register past the header (R392, R400, R402, R412). -/
def writeRas (s : State) (off m : Nat) (v : Word) : State :=
  let w := s.newWord .ras 0 off m v
  if off = Off.rasTestcfg ∧ (fld w 55 48 = 0 ∨ fld w 47 40 = 0 ∨ fld w 39 32 = 0 ∨ fld w 7 4 = 0 ∨ 8 < fld w 7 4) then s
  else if off = Off.rasVinject then (if bit v 0 then s.vinject else s)
  else if off = Off.rasLoadgate then s.writeLoadgate (bit w 0)
  else
    let s := s.plainWrite .ras 0 off m v
    if off = Off.rasTestreq ∧ bit v 63 then s.makeDue (fld v 11 0)
    else if off = Off.rasReplayctl ∧ bit v 63 then s.p .ras 0 off 63 63 1
    else s

/-- A write to a TLM register past the header (R384, R410). -/
def writeTlm (s : State) (off m : Nat) (v : Word) : State :=
  let w := s.newWord .tlm 0 off m v
  if off = Off.tlmPwrloop ∧ fld w 59 56 < fld w 55 52 then s
  else if off = Off.tlmPersist ∧ bit v 63 then s.persist 2 true
  else s.plainWrite .tlm 0 off m v

/-! ### Writes -/

/-- A write that a page takes: `m` is the mask of the bits written, `v` the bits in place. -/
def regWrite (s : State) (b : Blk) (i off m : Nat) (v : Word) : State :=
  if off < 0x100 then s.headerWrite b i off m v
  else match b with
  | .dev => s.writeDev off m v
  | .rcc => s.writeRcc off m v
  | .mbx => s.writeMbx off m v
  | .hlk => s.writeHlk off m v
  | .sdm => if off = Off.sdmCfg then s.sdmCfg i (s.newWord .sdm i off m v) else s.plainWrite .sdm i off m v
  | .xlt => s.writeXlt off m v
  | .sth => s.writeSth i off m v
  | .cor => s.writeCor i off m v
  | .act => s.writeAct i off m v
  | .kvp => s.writeKvp off m v
  | .fab => s.writeFab i off m v
  | .red => s.writeRed off m v
  | .ras => s.writeRas off m v
  | .tlm => s.writeTlm off m v
  | .mem | .shl | .inl | .shr | .sec => s.plainWrite b i off m v

/-- A value of a size at an address, moved to its place in the 8-byte register. -/
def placed (a size : Nat) (v : Word) : Word := BitVec.ofNat 64 (v.toNat % 2 ^ (8 * size) * 2 ^ (8 * (a % 8)))

/-- A broadcast write (R61, R63): members in a Block reset take it when that ends, others that are not READY take header writes
only, and EARLY_ACCESS is raised once. -/
def bcastWrite (s : State) (wh : Bool) (p : Bcast) (a size : Nat) (v : Word) : State :=
  let off := a % 0x1000 / 8 * 8
  let resetting (m : Blk × Nat) : Bool := tget s.rst.blk noBlk (pageBase m.1 m.2) = .running
  let ms := s.members p
  let early := decide (0x100 ≤ off) && ms.any fun m => !s.ready m.1 m.2 && !resetting m
  let s1 := ms.foldl (fun s' m =>
    if resetting m then
      { s' with rst := { s'.rst with waiting := s'.rst.waiting ++ [(pageBase m.1 m.2 + a % 0x1000, size, v)] } }
    else if off < 0x100 ∨ s.ready m.1 m.2 then s'.regWrite m.1 m.2 off (accMask a size) (placed a size v)
    else s') s
  if early then s1.refuse wh true Ev.devEarlyAccess a else s1

/-- A write to BAR0. -/
def bar0Write (s : State) (wh : Bool) (a size : Nat) (v : Word) : State :=
  match s.refusal wh true a size with
  | some c => s.refuse wh true c a
  | none =>
    if inWindow a then s.retWrite (a - winBase) (natBytes size v.toNat)
    else match pageAt a with
      | some (b, i) => s.regWrite b i (a % 0x1000 / 8 * 8) (accMask a size) (placed a size v)
      | none => match bcastAt a with
        | some p => s.bcastWrite wh p a size v
        | none => s

/-! ### BAR2 (R88, R92) -/

/-- Base that stands for BAR2 in the address of a REGISTER_WRITE (DESIGN CHOICE; Assumption 41). -/
def bar2Base : Nat := 0x4000000

/-- Unmask a vector; a pending message is sent (R70, R88). -/
def unmask (s : State) (vec : Nat) : State :=
  let e := s.msixEntry vec
  let s := s.setMsix vec { e with masked := false, pend := false }
  if e.pend then s.out [.msix vec] else s

/-- A 4-byte write to the MSI-X table. -/
def msixWrite (s : State) (o v : Nat) : State :=
  let n := o / 16
  let e := s.msixEntry n
  match o % 16 / 4 with
  | 0 => s.setMsix n { e with addr := putFld e.addr 31 0 v }
  | 1 => s.setMsix n { e with addr := putFld e.addr 63 32 v }
  | 2 => s.setMsix n { e with data := BitVec.ofNat 32 v }
  | _ => if v % 2 = 1 then s.setMsix n { e with masked := true } else s.unmask n

/-- A host write to BAR2: the MSI-X table and the doorbells. The pending-bit array and every other address ignore it. -/
def bar2Write (s : State) (o size : Nat) (v : Word) : State :=
  if !([4, 8].contains size) ∨ o % size ≠ 0 then s
  else if o < 0x1000 then
    let s := s.msixWrite o (fld v 31 0)
    if size = 8 then s.msixWrite (o + 4) (fld v 63 32) else s
  else if 0x2000 ≤ o ∧ o < 0x2400 then
    if o % 16 = 0 then s.tailBell ((o - 0x2000) / 16) (fld v 15 0)
    else if o % 16 = 8 then s.headBell ((o - 0x2000) / 16) (fld v 15 0)
    else s
  else s

/-! ### The end of a Block reset (R30, R60, R63) -/

/-- Broadcast writes that waited for a member take place. -/
def applyWaiting (s : State) (b : Blk) (i : Nat) : State :=
  let here (w : Nat × Nat × Word) : Bool := onPage (fun b' i' => b' = b && i' = i) w.1
  let ws := s.rst.waiting.filter here
  let s : State := { s with rst := { s.rst with waiting := s.rst.waiting.filter fun w => !here w } }
  ws.foldl (fun s w => s.regWrite b i (w.1 % 0x1000 / 8 * 8) (accMask w.1 w.2.1) (placed w.1 w.2.1 w.2.2)) s

/-- What the loss of a PHY PLL records once the Block reset that it caused ends (R30). -/
def phyRecord (s : State) (b : Blk) (i : Nat) : State :=
  if !tget s.rst.phyLost false (pageBase b i) then s
  else
    let s : State := { s with rst := { s.rst with phyLost := tset s.rst.phyLost false (pageBase b i) false } }
    match b with
    | .mem => s.raise .mem i Ev.memPllLost
    | .fab => ({ s with clock := { s.clock with colsarLock := true } } : State).raise .fab i Ev.fabPhyLockLost
    | .hlk => ({ s with clock := { s.clock with hostLock := true } } : State).raise .hlk 0 Ev.hlkPhyLockLost
    | .dev | .rcc | .mbx | .sdm | .xlt | .sth | .cor | .act | .shl | .kvp | .inl | .shr | .red | .ras | .tlm | .sec => s

/-- A channel that failed training stays not READY after its Block reset (R215, R219). -/
def failedMem (s : State) (b : Blk) (i : Nat) : Bool := b = .mem && s.g .mem i Off.memInfo 2 0 = 4

/-- A running Block reset ends: RESET reads 0 and READY sets (R60). -/
def blockDone (s : State) (b : Blk) (i : Nat) : State :=
  let s0 : State := { s with rst := { s.rst with blk := tset s.rst.blk noBlk (pageBase b i) noBlk } }
  if b = .cor ∨ s0.mayReady b i then ((s0.nowReady b i).phyRecord b i).applyWaiting b i
  else if s0.failedMem b i then (s0.phyRecord b i).applyWaiting b i
  else s

end State

/-! ### Commands -/

/-- BLOCK_RESET_DONE (R60). -/
def execBlockResetDone (b : Blk) (i : Nat) (s : State) : Host.Outcome State Fault Refusal :=
  .next (if i < pageCount b ∧ tget s.rst.blk noBlk (pageBase b i) = .running ∧ !s.rst.held then s.blockDone b i else s)

/-- REGISTER_WRITE (R6, R54): BAR0, and the host's BAR2 at `bar2Base` and up. -/
def execRegisterWrite (wh : Bool) (addr size : Nat) (v : Word) (s : State) : Host.Outcome State Fault Refusal :=
  .next (if State.bar2Base ≤ addr then (if wh then s else s.bar2Write (addr - State.bar2Base) size v) else s.bar0Write wh addr size v)

/-- REFUSED_ACCESS (R54, R78): an access that the device refuses changes nothing but its event and DEV_BADADDR. -/
def execRefusedAccess (wh write : Bool) (addr size : Nat) (_v : Word) (s : State) : Host.Outcome State Fault Refusal :=
  .next (match if addr < State.bar2Base then s.refusal wh write addr size else none with
    | some c => s.refuse wh write c addr
    | none => s)

/-- BROADCAST_WRITE (R61 to R63). -/
def execBroadcastWrite (wh : Bool) (addr size : Nat) (v : Word) (s : State) : Host.Outcome State Fault Refusal :=
  .next (match bcastAt addr with
    | some p => match s.refusal wh true addr size with
      | some c => s.refuse wh true c addr
      | none => s.bcastWrite wh p addr size v
    | none => s)

/-- QUIESCE_WRITE (R59). -/
def execQuiesceWrite (b : Blk) (i : Nat) (on : Bool) (s : State) : Host.Outcome State Fault Refusal :=
  .next (if i < pageCount b then s.ctrlWrite b i 1 (if on then 1 else 0) else s)

/-- BLOCK_QUIESCED (R59). -/
def execBlockQuiesced (b : Blk) (i : Nat) (s : State) : Host.Outcome State Fault Refusal :=
  .next (if i < pageCount b ∧ s.quiet b i ∧ !s.busy b i then
    { s with rst := { s.rst with quiesced := tset s.rst.quiesced false (pageBase b i) true } }
  else s)

/-- EVENT_REG_WRITE (R68, R70): a 64-bit write of EVENT, EVENT_EN or EVENT_VEC. -/
def execEventRegWrite (b : Blk) (i off : Nat) (v : Word) (s : State) : Host.Outcome State Fault Refusal :=
  .next (if i < pageCount b ∧ (off = Off.event ∨ off = Off.eventEn ∨ off = Off.eventVec) then s.eventWrite b i off (2 ^ 64 - 1) v else s)

/-- MSIX_UNMASK (R70, R88). -/
def execMsixUnmask (vec : Nat) (s : State) : Host.Outcome State Fault Refusal := .next (if vec < 256 then s.unmask vec else s)

/-- CNT_SNAP_TAKE (R76): VIEW keeps its value. -/
def execCntSnapTake (b : Blk) (i : Nat) (s : State) : Host.Outcome State Fault Refusal :=
  .next (if i < pageCount b ∧ hasCounters b ∧ !s.pageInReset b i then s.takeSnap b i else s)

/-- DEV_IF_CAP_FLOOR_WRITE (R65, R67). -/
def execDevIfCapFloorWrite (n : Nat) (cap floor : BitVec 8) (s : State) : Host.Outcome State Fault Refusal :=
  .next (if n < 8 then s.pageWrite .dev 0 (Off.devIf + 8 * n) fun s =>
    if s.locked then s.refuse false true Ev.devWriteLocked (Off.devIf + 8 * n) else s.ifWrite n cap.toNat floor.toNat
  else s)

/-- DEV_LOCK_WRITE (R77). -/
def execDevLockWrite (v : Bool) (s : State) : Host.Outcome State Fault Refusal :=
  .next (s.pageWrite .dev 0 Off.devLock fun s =>
    if s.locked then s.refuse false true Ev.devWriteLocked Off.devLock else s.p .dev 0 Off.devLock 0 0 (b2n v))

end Sys2Proof.Machine
end

