-- ==== Sys2Proof/Machine/Dispatch.lean ====
section
/-! DEFINITION. One arm per command: a direct call of its meaning. -/

namespace Sys2Proof.Machine

def exec (i : Instr) (s : State) : Host.Outcome State Fault Refusal :=
  match i with
  | .v36Make => Sys2Proof.Machine.execV36Make s
  | .inputLoss => Sys2Proof.Machine.execInputLoss s
  | .presMake => Sys2Proof.Machine.execPresMake s
  | .presDebounceDone => Sys2Proof.Machine.execPresDebounceDone s
  | .mainRailsUp => Sys2Proof.Machine.execMainRailsUp s
  | .presBreak => Sys2Proof.Machine.execPresBreak s
  | .uvTrip mv => Sys2Proof.Machine.execUvTrip mv s
  | .ovTrip mv => Sys2Proof.Machine.execOvTrip mv s
  | .uvRelease mv => Sys2Proof.Machine.execUvRelease mv s
  | .ovRelease mv => Sys2Proof.Machine.execOvRelease mv s
  | .vinBandChange mv => Sys2Proof.Machine.execVinBandChange mv s
  | .inletHigh t => Sys2Proof.Machine.execInletHigh t s
  | .inletTripTimer => Sys2Proof.Machine.execInletTripTimer s
  | .dieHot t => Sys2Proof.Machine.execDieHot t s
  | .dieOvertempTrip t => Sys2Proof.Machine.execDieOvertempTrip t s
  | .dimmRefreshDouble ch => Sys2Proof.Machine.execDimmRefreshDouble ch s
  | .dimmHot ch => Sys2Proof.Machine.execDimmHot ch s
  | .opticHot engine => Sys2Proof.Machine.execOpticHot engine s
  | .thermalRestart => Sys2Proof.Machine.execThermalRestart s
  | .removeReq => Sys2Proof.Machine.execRemoveReq s
  | .removalDrainResume => Sys2Proof.Machine.execRemovalDrainResume s
  | .removeDrainTimeout => Sys2Proof.Machine.execRemoveDrainTimeout s
  | .logicPllLockLost => Sys2Proof.Machine.execLogicPllLockLost s
  | .logicPllLockReturn => Sys2Proof.Machine.execLogicPllLockReturn s
  | .rootRefStop => Sys2Proof.Machine.execRootRefStop s
  | .rootRefReturn => Sys2Proof.Machine.execRootRefReturn s
  | .ddrPhyPllLockLost => Sys2Proof.Machine.execDdrPhyPllLockLost s
  | .phyPllLockLost host => Sys2Proof.Machine.execPhyPllLockLost host s
  | .rstCtrlCold key => Sys2Proof.Machine.execRstCtrlCold key s
  | .rstCtrlWarm key => Sys2Proof.Machine.execRstCtrlWarm key s
  | .rstCtrlBasin key mask => Sys2Proof.Machine.execRstCtrlBasin key mask s
  | .coldResetAssert => Sys2Proof.Machine.execColdResetAssert s
  | .warmResetAssert => Sys2Proof.Machine.execWarmResetAssert s
  | .basinResetAssert basin => Sys2Proof.Machine.execBasinResetAssert basin s
  | .coldResetRelease => Sys2Proof.Machine.execColdResetRelease s
  | .warmResetRelease => Sys2Proof.Machine.execWarmResetRelease s
  | .basinResetRelease basin => Sys2Proof.Machine.execBasinResetRelease basin s
  | .blockReady b inst => Sys2Proof.Machine.execBlockReady b inst s
  | .memTrainingDone ch d => Sys2Proof.Machine.execMemTrainingDone ch d s
  | .powerOnCoreTestDone basin failed => Sys2Proof.Machine.execPowerOnCoreTestDone basin failed s
  | .basinReady basin => Sys2Proof.Machine.execBasinReady basin s
  | .readyLate b inst => Sys2Proof.Machine.execReadyLate b inst s
  | .wellheadWatchdogExpiry => Sys2Proof.Machine.execWellheadWatchdogExpiry s
  | .blkReset b inst => Sys2Proof.Machine.execBlkReset b inst s
  | .deferredResetStart b inst => Sys2Proof.Machine.execDeferredResetStart b inst s
  | .blockResetDone b inst => Sys2Proof.Machine.execBlockResetDone b inst s
  | .journalResolutionBegin => Sys2Proof.Machine.execJournalResolutionBegin s
  | .journalTwinAnswer phase twinCold => Sys2Proof.Machine.execJournalTwinAnswer phase twinCold s
  | .journalTwinTimeout => Sys2Proof.Machine.execJournalTwinTimeout s
  | .twinLost => Sys2Proof.Machine.execTwinLost s
  | .registerWrite wh addr size v => Sys2Proof.Machine.execRegisterWrite wh addr size v s
  | .refusedAccess wh write addr size v => Sys2Proof.Machine.execRefusedAccess wh write addr size v s
  | .broadcastWrite wh addr size v => Sys2Proof.Machine.execBroadcastWrite wh addr size v s
  | .quiesceWrite b inst on => Sys2Proof.Machine.execQuiesceWrite b inst on s
  | .blockQuiesced b inst => Sys2Proof.Machine.execBlockQuiesced b inst s
  | .eventRegWrite b inst off v => Sys2Proof.Machine.execEventRegWrite b inst off v s
  | .msixUnmask vec => Sys2Proof.Machine.execMsixUnmask vec s
  | .cntSnapTake b inst => Sys2Proof.Machine.execCntSnapTake b inst s
  | .devIfCapFloorWrite n cap floor => Sys2Proof.Machine.execDevIfCapFloorWrite n cap floor s
  | .devLockWrite v => Sys2Proof.Machine.execDevLockWrite v s
  | .hostLinkTrained offer width speed lit => Sys2Proof.Machine.execHostLinkTrained offer width speed lit s
  | .hostLightLoss lit => Sys2Proof.Machine.execHostLightLoss lit s
  | .hostHotReset => Sys2Proof.Machine.execHostHotReset s
  | .functionLevelReset => Sys2Proof.Machine.execFunctionLevelReset s
  | .cxlReset => Sys2Proof.Machine.execCxlReset s
  | .hdmDecoderCommit n hpa dpa size ways => Sys2Proof.Machine.execHdmDecoderCommit n hpa dpa size ways s
  | .hdmExposeWrite e => Sys2Proof.Machine.execHdmExposeWrite e s
  | .hlkBiasWrite n v => Sys2Proof.Machine.execHlkBiasWrite n v s
  | .biasSettled => Sys2Proof.Machine.execBiasSettled s
  | .hostHdmAccess write hpa len data => Sys2Proof.Machine.execHostHdmAccess write hpa len data s
  | .doeRequest q => Sys2Proof.Machine.execDoeRequest q s
  | .ringOpen r v => Sys2Proof.Machine.execRingOpen r v s
  | .ringClose r => Sys2Proof.Machine.execRingClose r s
  | .ringCloseDone r => Sys2Proof.Machine.execRingCloseDone r s
  | .ringReset r => Sys2Proof.Machine.execRingReset r s
  | .ringResetDone r => Sys2Proof.Machine.execRingResetDone r s
  | .commandTailDoorbell r tail => Sys2Proof.Machine.execCommandTailDoorbell r tail s
  | .completionHeadDoorbell r head => Sys2Proof.Machine.execCompletionHeadDoorbell r head s
  | .commandFetch r => Sys2Proof.Machine.execCommandFetch r s
  | .ringNop r => Sys2Proof.Machine.execRingNop r s
  | .loadKernel r => Sys2Proof.Machine.execLoadKernel r s
  | .launch r => Sys2Proof.Machine.execLaunch r s
  | .stream r => Sys2Proof.Machine.execStream r s
  | .copy r => Sys2Proof.Machine.execCopy r s
  | .fence r => Sys2Proof.Machine.execFence r s
  | .signal r => Sys2Proof.Machine.execSignal r s
  | .wait r => Sys2Proof.Machine.execWait r s
  | .waitPoll r inst => Sys2Proof.Machine.execWaitPoll r inst s
  | .stepBegin r => Sys2Proof.Machine.execStepBegin r s
  | .commandComplete r inst => Sys2Proof.Machine.execCommandComplete r inst s
  | .getInfo seq len => Sys2Proof.Machine.execGetInfo seq len s
  | .faultLogOpen seq len => Sys2Proof.Machine.execFaultLogOpen seq len s
  | .faultRead seq len => Sys2Proof.Machine.execFaultRead seq len s
  | .tlmRead seq len => Sys2Proof.Machine.execTlmRead seq len s
  | .fwStage seq len => Sys2Proof.Machine.execFwStage seq len s
  | .fwActivateTrial seq len => Sys2Proof.Machine.execFwActivateTrial seq len s
  | .fwActivateRestart seq len => Sys2Proof.Machine.execFwActivateRestart seq len s
  | .fwActivateCancel seq len => Sys2Proof.Machine.execFwActivateCancel seq len s
  | .wellheadActivationRestart after30s => Sys2Proof.Machine.execWellheadActivationRestart after30s s
  | .getNonce seq len => Sys2Proof.Machine.execGetNonce seq len s
  | .unlock seq len => Sys2Proof.Machine.execUnlock seq len s
  | .lock seq len => Sys2Proof.Machine.execLock seq len s
  | .provision seq len => Sys2Proof.Machine.execProvision seq len s
  | .revoke seq len => Sys2Proof.Machine.execRevoke seq len s
  | .xltResolveRetry seq len => Sys2Proof.Machine.execXltResolveRetry seq len s
  | .xltResolveFail seq len => Sys2Proof.Machine.execXltResolveFail seq len s
  | .mbxResponse => Sys2Proof.Machine.execMbxResponse s
  | .mbxTimeout => Sys2Proof.Machine.execMbxTimeout s
  | .launchStart c fill => Sys2Proof.Machine.execLaunchStart c fill s
  | .launchEndOnCore c fill => Sys2Proof.Machine.execLaunchEndOnCore c fill s
  | .swapRequest c forTest => Sys2Proof.Machine.execSwapRequest c forTest s
  | .swapDrainPoint c => Sys2Proof.Machine.execSwapDrainPoint c s
  | .swapCopyStart c => Sys2Proof.Machine.execSwapCopyStart c s
  | .swapCopyDone c => Sys2Proof.Machine.execSwapCopyDone c s
  | .corPartWrite c v => Sys2Proof.Machine.execCorPartWrite c v s
  | .partApply c => Sys2Proof.Machine.execPartApply c s
  | .corFlagsSet c v => Sys2Proof.Machine.execCorFlagsSet c v s
  | .corFlagsClr c v => Sys2Proof.Machine.execCorFlagsClr c v s
  | .barrierRelease c fill scope id => Sys2Proof.Machine.execBarrierRelease c fill scope id s
  | .barrierTimeout c fill scope id => Sys2Proof.Machine.execBarrierTimeout c fill scope id s
  | .efWaitRelease c flag => Sys2Proof.Machine.execEfWaitRelease c flag s
  | .nop p t k => Sys2Proof.Machine.execNop p t k s
  | .endThread p t k => Sys2Proof.Machine.execEndThread p t k s
  | .bar p t k => Sys2Proof.Machine.execBar p t k s
  | .efset p t k => Sys2Proof.Machine.execEfset p t k s
  | .efclr p t k => Sys2Proof.Machine.execEfclr p t k s
  | .efwait p t k => Sys2Proof.Machine.execEfwait p t k s
  | .efwaitc p t k => Sys2Proof.Machine.execEfwaitc p t k s
  | .braAny p t k => Sys2Proof.Machine.execBraAny p t k s
  | .braAll p t k => Sys2Proof.Machine.execBraAll p t k s
  | .braNone p t k => Sys2Proof.Machine.execBraNone p t k s
  | .iadd p t k => Sys2Proof.Machine.execIadd p t k s
  | .isub p t k => Sys2Proof.Machine.execIsub p t k s
  | .imul p t k => Sys2Proof.Machine.execImul p t k s
  | .imulh p t k => Sys2Proof.Machine.execImulh p t k s
  | .and p t k => Sys2Proof.Machine.execAnd p t k s
  | .or p t k => Sys2Proof.Machine.execOr p t k s
  | .xor p t k => Sys2Proof.Machine.execXor p t k s
  | .shl p t k => Sys2Proof.Machine.execShl p t k s
  | .shr p t k => Sys2Proof.Machine.execShr p t k s
  | .sar p t k => Sys2Proof.Machine.execSar p t k s
  | .imin p t k => Sys2Proof.Machine.execImin p t k s
  | .imax p t k => Sys2Proof.Machine.execImax p t k s
  | .sel p t k => Sys2Proof.Machine.execSel p t k s
  | .iaddImm p t k => Sys2Proof.Machine.execIaddImm p t k s
  | .isubImm p t k => Sys2Proof.Machine.execIsubImm p t k s
  | .imulImm p t k => Sys2Proof.Machine.execImulImm p t k s
  | .imulhImm p t k => Sys2Proof.Machine.execImulhImm p t k s
  | .andImm p t k => Sys2Proof.Machine.execAndImm p t k s
  | .orImm p t k => Sys2Proof.Machine.execOrImm p t k s
  | .xorImm p t k => Sys2Proof.Machine.execXorImm p t k s
  | .shlImm p t k => Sys2Proof.Machine.execShlImm p t k s
  | .shrImm p t k => Sys2Proof.Machine.execShrImm p t k s
  | .sarImm p t k => Sys2Proof.Machine.execSarImm p t k s
  | .iminImm p t k => Sys2Proof.Machine.execIminImm p t k s
  | .imaxImm p t k => Sys2Proof.Machine.execImaxImm p t k s
  | .movi p t k => Sys2Proof.Machine.execMovi p t k s
  | .fadd p t k => Sys2Proof.Machine.execFadd p t k s
  | .fmul p t k => Sys2Proof.Machine.execFmul p t k s
  | .ffma p t k => Sys2Proof.Machine.execFfma p t k s
  | .fmin p t k => Sys2Proof.Machine.execFmin p t k s
  | .fmax p t k => Sys2Proof.Machine.execFmax p t k s
  | .faddi p t k => Sys2Proof.Machine.execFaddi p t k s
  | .fmuli p t k => Sys2Proof.Machine.execFmuli p t k s
  | .hadd2 p t k => Sys2Proof.Machine.execHadd2 p t k s
  | .hmul2 p t k => Sys2Proof.Machine.execHmul2 p t k s
  | .hfma2 p t k => Sys2Proof.Machine.execHfma2 p t k s
  | .exp2 p t k => Sys2Proof.Machine.execExp2 p t k s
  | .log2 p t k => Sys2Proof.Machine.execLog2 p t k s
  | .rcp p t k => Sys2Proof.Machine.execRcp p t k s
  | .rsqrt p t k => Sys2Proof.Machine.execRsqrt p t k s
  | .sqrt p t k => Sys2Proof.Machine.execSqrt p t k s
  | .tanh p t k => Sys2Proof.Machine.execTanh p t k s
  | .sint p t k => Sys2Proof.Machine.execSint p t k s
  | .cost p t k => Sys2Proof.Machine.execCost p t k s
  | .fsetp p t k => Sys2Proof.Machine.execFsetp p t k s
  | .isetp p t k => Sys2Proof.Machine.execIsetp p t k s
  | .pand p t k => Sys2Proof.Machine.execPand p t k s
  | .por p t k => Sys2Proof.Machine.execPor p t k s
  | .pxor p t k => Sys2Proof.Machine.execPxor p t k s
  | .vote p t k => Sys2Proof.Machine.execVote p t k s
  | .pbit p t k => Sys2Proof.Machine.execPbit p t k s
  | .cvt p t k => Sys2Proof.Machine.execCvt p t k s
  | .ld8 p t k => Sys2Proof.Machine.execLd8 p t k s
  | .ld16 p t k => Sys2Proof.Machine.execLd16 p t k s
  | .ld32 p t k => Sys2Proof.Machine.execLd32 p t k s
  | .ld64 p t k => Sys2Proof.Machine.execLd64 p t k s
  | .st8 p t k => Sys2Proof.Machine.execSt8 p t k s
  | .st16 p t k => Sys2Proof.Machine.execSt16 p t k s
  | .st32 p t k => Sys2Proof.Machine.execSt32 p t k s
  | .st64 p t k => Sys2Proof.Machine.execSt64 p t k s
  | .shfl p t k => Sys2Proof.Machine.execShfl p t k s
  | .shflx p t k => Sys2Proof.Machine.execShflx p t k s
  | .rsum p t k => Sys2Proof.Machine.execRsum p t k s
  | .rmax p t k => Sys2Proof.Machine.execRmax p t k s
  | .rmin p t k => Sys2Proof.Machine.execRmin p t k s
  | .risum p t k => Sys2Proof.Machine.execRisum p t k s
  | .mma p t k => Sys2Proof.Machine.execMma p t k s
  | .sqpush p t k => Sys2Proof.Machine.execSqpush p t k s
  | .sqsync p t k => Sys2Proof.Machine.execSqsync p t k s
  | .chain p t k => Sys2Proof.Machine.execChain p t k s
  | .ldm40 p t k => Sys2Proof.Machine.execLdm40 p t k s
  | .stm40 p t k => Sys2Proof.Machine.execStm40 p t k s
  | .m40fma p t k => Sys2Proof.Machine.execM40fma p t k s
  | .sreg p t k => Sys2Proof.Machine.execSreg p t k s
  | .sfrd p t k => Sys2Proof.Machine.execSfrd p t k s
  | .sfclr p t k => Sys2Proof.Machine.execSfclr p t k s
  | .sfset p t k => Sys2Proof.Machine.execSfset p t k s
  | .cvtctx p t k => Sys2Proof.Machine.execCvtctx p t k s
  | .chainRetire p t => Sys2Proof.Machine.execChainRetire p t s
  | .kernelReplaceApply slot => Sys2Proof.Machine.execKernelReplaceApply slot s
  | .matrixTileStart c => Sys2Proof.Machine.execMatrixTileStart c s
  | .tileOverflowReplay c k => Sys2Proof.Machine.execTileOverflowReplay c k s
  | .matrixTileDone c k => Sys2Proof.Machine.execMatrixTileDone c k s
  | .mxDebugHalt c => Sys2Proof.Machine.execMxDebugHalt c s
  | .mxDebugResume c => Sys2Proof.Machine.execMxDebugResume c s
  | .devScalecfgWrite v => Sys2Proof.Machine.execDevScalecfgWrite v s
  | .devScalebaseWrite v => Sys2Proof.Machine.execDevScalebaseWrite v s
  | .devRecipeWrite k exp => Sys2Proof.Machine.execDevRecipeWrite k exp s
  | .scaleLoaded => Sys2Proof.Machine.execScaleLoaded s
  | .scaleReseed => Sys2Proof.Machine.execScaleReseed s
  | .sdmCfgWrite basin v => Sys2Proof.Machine.execSdmCfgWrite basin v s
  | .sdmScrubStep basin off ue ce passEnd => Sys2Proof.Machine.execSdmScrubStep basin off ue ce passEnd s
  | .sdmRowRemap basin vault row => Sys2Proof.Machine.execSdmRowRemap basin vault row s
  | .memScrubStep ch off ue ce dev passEnd => Sys2Proof.Machine.execMemScrubStep ch off ue ce dev passEnd s
  | .memSppr ch rank bankGroup sub => Sys2Proof.Machine.execMemSppr ch rank bankGroup sub s
  | .install slices => Sys2Proof.Machine.execInstall slices s
  | .update slices => Sys2Proof.Machine.execUpdate slices s
  | .invRange slices => Sys2Proof.Machine.execInvRange slices s
  | .invUnpinned slices => Sys2Proof.Machine.execInvUnpinned slices s
  | .invAll slices => Sys2Proof.Machine.execInvAll slices s
  | .lookup slices => Sys2Proof.Machine.execLookup slices s
  | .xltInvalidationDone => Sys2Proof.Machine.execXltInvalidationDone s
  | .translationMiss slice req va write holder => Sys2Proof.Machine.execTranslationMiss slice req va write holder s
  | .mapSearchDone fault => Sys2Proof.Machine.execMapSearchDone fault s
  | .mapDescRecheck fault => Sys2Proof.Machine.execMapDescRecheck fault s
  | .xltFaultTimeout fault => Sys2Proof.Machine.execXltFaultTimeout fault s
  | .streamIn q => Sys2Proof.Machine.execStreamIn q s
  | .streamOut q => Sys2Proof.Machine.execStreamOut q s
  | .streamCopy q => Sys2Proof.Machine.execStreamCopy q s
  | .transferGrant q => Sys2Proof.Machine.execTransferGrant q s
  | .transferLanded q n => Sys2Proof.Machine.execTransferLanded q n s
  | .streamOpComplete q => Sys2Proof.Machine.execStreamOpComplete q s
  | .streamWaitPoll q => Sys2Proof.Machine.execStreamWaitPoll q s
  | .streamTransferTimeout q n => Sys2Proof.Machine.execStreamTransferTimeout q n s
  | .cowCopyStart basin va q => Sys2Proof.Machine.execCowCopyStart basin va q s
  | .cowCopyDone basin => Sys2Proof.Machine.execCowCopyDone basin s
  | .actSave q => Sys2Proof.Machine.execActSave q s
  | .actRestore q => Sys2Proof.Machine.execActRestore q s
  | .actSaveRoomFreed q => Sys2Proof.Machine.execActSaveRoomFreed q s
  | .actRoomTimeout q => Sys2Proof.Machine.execActRoomTimeout q s
  | .actPurge basin => Sys2Proof.Machine.execActPurge basin s
  | .convPatch q => Sys2Proof.Machine.execConvPatch q s
  | .convTpatch q => Sys2Proof.Machine.execConvTpatch q s
  | .featureMapCodec q => Sys2Proof.Machine.execFeatureMapCodec q s
  | .shlRun q => Sys2Proof.Machine.execShlRun q s
  | .convFwd basin k => Sys2Proof.Machine.execConvFwd basin k s
  | .convBwdData basin k => Sys2Proof.Machine.execConvBwdData basin k s
  | .convBwdWeight basin k => Sys2Proof.Machine.execConvBwdWeight basin k s
  | .poolMax basin k => Sys2Proof.Machine.execPoolMax basin k s
  | .poolAvg basin k => Sys2Proof.Machine.execPoolAvg basin k s
  | .poolMaxBwd basin k => Sys2Proof.Machine.execPoolMaxBwd basin k s
  | .poolAvgBwd basin k => Sys2Proof.Machine.execPoolAvgBwd basin k s
  | .padFold basin k => Sys2Proof.Machine.execPadFold basin k s
  | .shlJobDone basin => Sys2Proof.Machine.execShlJobDone basin s
  | .shlJobTimeout basin => Sys2Proof.Machine.execShlJobTimeout basin s
  | .attMask q => Sys2Proof.Machine.execAttMask q s
  | .kvGather q => Sys2Proof.Machine.execKvGather q s
  | .kvWrite q => Sys2Proof.Machine.execKvWrite q s
  | .kvPageCopyDone q => Sys2Proof.Machine.execKvPageCopyDone q s
  | .kvPoolWaitResume q => Sys2Proof.Machine.execKvPoolWaitResume q s
  | .kvPoolWaitTimeout q => Sys2Proof.Machine.execKvPoolWaitTimeout q s
  | .kvSend q => Sys2Proof.Machine.execKvSend q s
  | .create seq => Sys2Proof.Machine.execCreate seq s
  | .fork seq seq2 len => Sys2Proof.Machine.execFork seq seq2 len s
  | .truncate seq len => Sys2Proof.Machine.execTruncate seq len s
  | .release seq => Sys2Proof.Machine.execRelease seq s
  | .rxSet seq len => Sys2Proof.Machine.execRxSet seq len s
  | .kvpPoolConfig n base cfg map => Sys2Proof.Machine.execKvpPoolConfig n base cfg map s
  | .fabTrainingStart l => Sys2Proof.Machine.execFabTrainingStart l s
  | .fabLinkUp l => Sys2Proof.Machine.execFabLinkUp l s
  | .fabTrainingTimeout l => Sys2Proof.Machine.execFabTrainingTimeout l s
  | .fabLightLoss l lit => Sys2Proof.Machine.execFabLightLoss l lit s
  | .flitRetry l n => Sys2Proof.Machine.execFlitRetry l n s
  | .fabRetrainDone l => Sys2Proof.Machine.execFabRetrainDone l s
  | .put l k => Sys2Proof.Machine.execPut l k s
  | .get l k => Sys2Proof.Machine.execGet l k s
  | .getData l k => Sys2Proof.Machine.execGetData l k s
  | .ack l k => Sys2Proof.Machine.execAck l k s
  | .nack l k => Sys2Proof.Machine.execNack l k s
  | .hold l k => Sys2Proof.Machine.execHold l k s
  | .ping l k => Sys2Proof.Machine.execPing l k s
  | .pong l k => Sys2Proof.Machine.execPong l k s
  | .identify l k => Sys2Proof.Machine.execIdentify l k s
  | .leaving l k => Sys2Proof.Machine.execLeaving l k s
  | .resetNotice l k => Sys2Proof.Machine.execResetNotice l k s
  | .adopt l k => Sys2Proof.Machine.execAdopt l k s
  | .reset l k => Sys2Proof.Machine.execReset l k s
  | .resetAck l k => Sys2Proof.Machine.execResetAck l k s
  | .spdmMessage l k => Sys2Proof.Machine.execSpdmMessage l k s
  | .red l k => Sys2Proof.Machine.execRed l k s
  | .redC l k => Sys2Proof.Machine.execRedC l k s
  | .upd l k => Sys2Proof.Machine.execUpd l k s
  | .kv l k => Sys2Proof.Machine.execKv l k s
  | .kvAck l k => Sys2Proof.Machine.execKvAck l k s
  | .mirror l k => Sys2Proof.Machine.execMirror l k s
  | .fabTxnTimeout txid within4ms => Sys2Proof.Machine.execFabTxnTimeout txid within4ms s
  | .fabHoldResend port n => Sys2Proof.Machine.execFabHoldResend port n s
  | .dupKeyExpiry n => Sys2Proof.Machine.execDupKeyExpiry n s
  | .fabPut q => Sys2Proof.Machine.execFabPut q s
  | .fabGet q => Sys2Proof.Machine.execFabGet q s
  | .fabMcmdPing port dst len => Sys2Proof.Machine.execFabMcmdPing port dst len s
  | .fabMcmdReset port dst len => Sys2Proof.Machine.execFabMcmdReset port dst len s
  | .fabMcmdSpdm port dst len => Sys2Proof.Machine.execFabMcmdSpdm port dst len s
  | .fabMcmdTimeout port => Sys2Proof.Machine.execFabMcmdTimeout port s
  | .devFabidWrite v => Sys2Proof.Machine.execDevFabidWrite v s
  | .routeFlush => Sys2Proof.Machine.execRouteFlush s
  | .redTileAccept c k => Sys2Proof.Machine.execRedTileAccept c k s
  | .redPush q => Sys2Proof.Machine.execRedPush q s
  | .basinPieceReduce basin slot piece k => Sys2Proof.Machine.execBasinPieceReduce basin slot piece k s
  | .redNodeSend slot piece slab k => Sys2Proof.Machine.execRedNodeSend slot piece slab k s
  | .updateSlabStart shore n => Sys2Proof.Machine.execUpdateSlabStart shore n s
  | .updateSlabDone shore n => Sys2Proof.Machine.execUpdateSlabDone shore n s
  | .updateKernelTimeout shore n => Sys2Proof.Machine.execUpdateKernelTimeout shore n s
  | .stepClose step => Sys2Proof.Machine.execStepClose step s
  | .stepAbandon step => Sys2Proof.Machine.execStepAbandon step s
  | .stepVote => Sys2Proof.Machine.execStepVote s
  | .verdictCombine => Sys2Proof.Machine.execVerdictCombine s
  | .verdictReceived => Sys2Proof.Machine.execVerdictReceived s
  | .twinStaged digest => Sys2Proof.Machine.execTwinStaged digest s
  | .mirrorRedoDone => Sys2Proof.Machine.execMirrorRedoDone s
  | .twinFlipped => Sys2Proof.Machine.execTwinFlipped s
  | .verdictTimeout => Sys2Proof.Machine.execVerdictTimeout s
  | .commitTimeout => Sys2Proof.Machine.execCommitTimeout s
  | .redBanksetWrite cur => Sys2Proof.Machine.execRedBanksetWrite cur s
  | .lwClearEntry n => Sys2Proof.Machine.execLwClearEntry n s
  | .lwClearAll => Sys2Proof.Machine.execLwClearAll s
  | .bsteerStateWrite v => Sys2Proof.Machine.execBsteerStateWrite v s
  | .bsteerEmaLoad ema => Sys2Proof.Machine.execBsteerEmaLoad ema s
  | .stgAcquire q => Sys2Proof.Machine.execStgAcquire q s
  | .stgPublish q => Sys2Proof.Machine.execStgPublish q s
  | .stgAwait q => Sys2Proof.Machine.execStgAwait q s
  | .stgRelease q => Sys2Proof.Machine.execStgRelease q s
  | .sthStgcfgWrite j v => Sys2Proof.Machine.execSthStgcfgWrite j v s
  | .stageOccupancySample j => Sys2Proof.Machine.execStageOccupancySample j s
  | .stageWaitLong q => Sys2Proof.Machine.execStageWaitLong q s
  | .workUnitExpiry c fill => Sys2Proof.Machine.execWorkUnitExpiry c fill s
  | .clockPowerLoopTick p => Sys2Proof.Machine.execClockPowerLoopTick p s
  | .powerLimitRiseTick p t => Sys2Proof.Machine.execPowerLimitRiseTick p t s
  | .powerLimitFallTick p t => Sys2Proof.Machine.execPowerLimitFallTick p t s
  | .rasReplayctlSet step attempt => Sys2Proof.Machine.execRasReplayctlSet step attempt s
  | .testDue phys => Sys2Proof.Machine.execTestDue phys s
  | .inFieldTestStart phys => Sys2Proof.Machine.execInFieldTestStart phys s
  | .inFieldTestDone phys pass => Sys2Proof.Machine.execInFieldTestDone phys pass s
  | .inFieldTestTimeout phys => Sys2Proof.Machine.execInFieldTestTimeout phys s
  | .testDeferExpiry phys => Sys2Proof.Machine.execTestDeferExpiry phys s
  | .testOverdue phys => Sys2Proof.Machine.execTestOverdue phys s
  | .suspicionExpiry phys => Sys2Proof.Machine.execSuspicionExpiry phys s
  | .rasTestreq phys => Sys2Proof.Machine.execRasTestreq phys s
  | .rasVinject => Sys2Proof.Machine.execRasVinject s
  | .rasLoadgateWrite hold => Sys2Proof.Machine.execRasLoadgateWrite hold s
  | .tlmPersistNow ok => Sys2Proof.Machine.execTlmPersistNow ok s
  | .tlmPersistPeriodic ok => Sys2Proof.Machine.execTlmPersistPeriodic ok s
  | .tlmHistSample tDie tInlet pin => Sys2Proof.Machine.execTlmHistSample tDie tInlet pin s
  | .wellheadSramUe => Sys2Proof.Machine.execWellheadSramUe s
  | .wellheadBoot => Sys2Proof.Machine.execWellheadBoot s
  | .fwTrialConfirm => Sys2Proof.Machine.execFwTrialConfirm s
  | .getVersion x msg => Sys2Proof.Machine.execGetVersion x msg s
  | .getCapabilities x msg => Sys2Proof.Machine.execGetCapabilities x msg s
  | .negotiateAlgorithms x msg => Sys2Proof.Machine.execNegotiateAlgorithms x msg s
  | .getDigests x msg => Sys2Proof.Machine.execGetDigests x msg s
  | .getCertificate x msg => Sys2Proof.Machine.execGetCertificate x msg s
  | .challenge x msg => Sys2Proof.Machine.execChallenge x msg s
  | .getMeasurements x msg => Sys2Proof.Machine.execGetMeasurements x msg s
  | .spdmUnsupportedRequest x msg => Sys2Proof.Machine.execSpdmUnsupportedRequest x msg s
  | .mbxBadOpcode seq len op => Sys2Proof.Machine.execMbxBadOpcode seq len op s
  | .notReadyTimeout r => Sys2Proof.Machine.execNotReadyTimeout r s
  | .inletDeratingEnd t => Sys2Proof.Machine.execInletDeratingEnd t s

end Sys2Proof.Machine
end

