-- ==== Sys2Proof/Machine/Step.lean ====
section
/-! DEFINITION. One step of the block: the command at the front of the queue, or one tick of the local timer. -/

namespace Sys2Proof.Machine

/-- One tick of the local timer (R29), which runs while the standby rail is up. -/
def State.tick (s : State) : State :=
  if s.power.standby then { s with clock := { s.clock with timer := s.clock.timer + 1 } } else s

/-- Take the command at the front of the queue and run it; with no command waiting, let one tick of 4 ns pass
(DESIGN CHOICE; Assumption 26). -/
def step (s : State) : Host.Outcome State Fault Refusal :=
  match s.pending with
  | [] => .next s.tick
  | c :: rest => exec c { s with pending := rest }

/-- s with the command that a word spells at the front of its queue; unchanged where the word spells none. -/
def State.withFetchWord (s : State) (nbits w : Nat) : State :=
  match decodeTableWord nbits w with
  | some c => { s with pending := c :: s.pending }
  | none => s

end Sys2Proof.Machine
end

