-- ==== Sys2Proof/Safety.lean ====
section
/-! DEFINITION. What claims speak of: the parts of the machine, what a command may change, and the canonical form of
memory as the invariant that every step keeps. -/

namespace Sys2Proof.Machine

/-- The parts of the machine: one for each field of State. -/
inductive Part where
  | pending | power | clock | rst | jrn | regs | snaps | retained | hlk | kernels | gens | loads | launches | cores | shoals
  | gpr | preds | lflags | sram | sramUe | mem | queues | nextOp | act | shl | fab | red | scale | ras | sec | free
  deriving DecidableEq, Repr

/-- A part is the same in two states. -/
def Part.same : Part → State → State → Prop
  | .pending, s, t => t.pending = s.pending
  | .power, s, t => t.power = s.power
  | .clock, s, t => t.clock = s.clock
  | .rst, s, t => t.rst = s.rst
  | .jrn, s, t => t.jrn = s.jrn
  | .regs, s, t => t.regs = s.regs
  | .snaps, s, t => t.snaps = s.snaps
  | .retained, s, t => t.retained = s.retained
  | .hlk, s, t => t.hlk = s.hlk
  | .kernels, s, t => t.kernels = s.kernels
  | .gens, s, t => t.gens = s.gens
  | .loads, s, t => t.loads = s.loads
  | .launches, s, t => t.launches = s.launches
  | .cores, s, t => t.cores = s.cores
  | .shoals, s, t => t.shoals = s.shoals
  | .gpr, s, t => t.gpr = s.gpr
  | .preds, s, t => t.preds = s.preds
  | .lflags, s, t => t.lflags = s.lflags
  | .sram, s, t => t.sram = s.sram
  | .sramUe, s, t => t.sramUe = s.sramUe
  | .mem, s, t => t.mem = s.mem
  | .queues, s, t => t.queues = s.queues
  | .nextOp, s, t => t.nextOp = s.nextOp
  | .act, s, t => t.act = s.act
  | .shl, s, t => t.shl = s.shl
  | .fab, s, t => t.fab = s.fab
  | .red, s, t => t.red = s.red
  | .scale, s, t => t.scale = s.scale
  | .ras, s, t => t.ras = s.ras
  | .sec, s, t => t.sec = s.sec
  | .free, s, t => t.free = s.free

/-- Every part that a list does not name is the same in two states. -/
def Same (ps : List Part) (s t : State) : Prop := ∀ q, q ∉ ps → q.same s t

/-- Memory is in its canonical form: addresses strictly rising, no entry that reads as an unlisted byte. -/
def State.memOk (s : State) : Prop := Memory.wf s.mem.bytes = true

/-- From s to t, nothing but the named parts changes, and memory keeps its canonical form. -/
def Ext (ps : List Part) (s t : State) : Prop := Same ps s t ∧ (s.memOk → t.memOk)

end Sys2Proof.Machine
end

