-- ==== Sys2Proof/Machine/Touches.lean ====
section
/-! DEFINITION. The parts of the machine that each command may change; every other part stays as it is. -/

namespace Sys2Proof

open Machine in
/-- The parts that a command may change. -/
def Instr.touches : Instr → List Part
  | .v36Make => [.power, .clock, .regs, .hlk, .ras]
  | .inputLoss => [.power, .rst, .jrn, .regs, .snaps, .retained, .hlk, .kernels, .gens, .loads, .launches, .cores, .shoals, .gpr, .preds, .lflags, .sram, .sramUe, .mem, .queues, .act, .shl, .fab, .red, .scale, .ras, .sec, .free]
  | .presMake => [.power, .regs, .hlk]
  | .presDebounceDone => [.power]
  | .mainRailsUp => [.power, .clock, .rst, .jrn, .regs, .snaps, .retained, .hlk, .kernels, .loads, .launches, .cores, .shoals, .gpr, .preds, .lflags, .sram, .sramUe, .mem, .queues, .act, .shl, .fab, .red, .scale, .ras, .free]
  | .presBreak => [.power, .rst, .jrn, .regs, .snaps, .retained, .hlk, .kernels, .loads, .launches, .cores, .shoals, .gpr, .preds, .lflags, .sram, .sramUe, .mem, .queues, .act, .shl, .fab, .red, .scale, .ras, .free]
  | .uvTrip _ => [.power, .rst, .jrn, .regs, .snaps, .retained, .hlk, .kernels, .loads, .launches, .cores, .shoals, .gpr, .preds, .lflags, .sram, .sramUe, .mem, .queues, .act, .shl, .fab, .red, .scale, .ras, .free]
  | .ovTrip _ => [.power, .rst, .jrn, .regs, .snaps, .retained, .hlk, .kernels, .loads, .launches, .cores, .shoals, .gpr, .preds, .lflags, .sram, .sramUe, .mem, .queues, .act, .shl, .fab, .red, .scale, .ras, .free]
  | .uvRelease _ => [.power, .regs]
  | .ovRelease _ => [.power, .regs]
  | .vinBandChange _ => [.regs]
  | .inletHigh _ => [.power, .regs, .hlk]
  | .inletTripTimer => [.power, .rst, .jrn, .regs, .snaps, .retained, .hlk, .kernels, .loads, .launches, .cores, .shoals, .gpr, .preds, .lflags, .sram, .sramUe, .mem, .queues, .act, .shl, .fab, .red, .scale, .ras, .free]
  | .dieHot _ => [.power, .regs, .hlk]
  | .dieOvertempTrip _ => [.power, .rst, .jrn, .regs, .snaps, .retained, .hlk, .kernels, .loads, .launches, .cores, .shoals, .gpr, .preds, .lflags, .sram, .sramUe, .mem, .queues, .act, .shl, .fab, .red, .scale, .ras, .free]
  | .dimmRefreshDouble _ => [.power]
  | .dimmHot _ => [.power, .regs, .hlk]
  | .opticHot _ => [.power, .rst, .regs, .snaps, .hlk, .cores, .sram, .sramUe, .mem, .queues, .act, .fab, .ras, .free]
  | .thermalRestart => [.power]
  | .removeReq => [.power, .regs, .hlk]
  | .removalDrainResume => [.power, .rst, .jrn, .regs, .snaps, .retained, .hlk, .kernels, .loads, .launches, .cores, .shoals, .gpr, .preds, .lflags, .sram, .sramUe, .mem, .queues, .act, .shl, .fab, .red, .scale, .ras, .free]
  | .removeDrainTimeout => [.power, .rst, .jrn, .regs, .snaps, .retained, .hlk, .kernels, .loads, .launches, .cores, .shoals, .gpr, .preds, .lflags, .sram, .sramUe, .mem, .queues, .act, .shl, .fab, .red, .scale, .ras, .free]
  | .logicPllLockLost => [.power, .clock, .rst, .jrn, .regs, .snaps, .retained, .hlk, .kernels, .loads, .launches, .cores, .shoals, .gpr, .preds, .lflags, .sram, .sramUe, .mem, .queues, .act, .shl, .fab, .red, .scale, .ras, .free]
  | .logicPllLockReturn => [.clock, .rst]
  | .rootRefStop => [.power, .clock, .rst, .jrn, .regs, .snaps, .retained, .hlk, .kernels, .loads, .launches, .cores, .shoals, .gpr, .preds, .lflags, .sram, .sramUe, .mem, .queues, .act, .shl, .fab, .red, .scale, .ras, .free]
  | .rootRefReturn => [.clock, .rst]
  | .ddrPhyPllLockLost => [.clock, .rst, .regs, .snaps, .hlk, .launches, .cores, .shoals, .gpr, .preds, .lflags, .sram, .sramUe, .mem, .queues, .act, .shl, .fab, .red, .ras, .free]
  | .phyPllLockLost _ => [.clock, .rst, .regs, .snaps, .hlk, .launches, .cores, .shoals, .gpr, .preds, .lflags, .sram, .sramUe, .mem, .queues, .act, .shl, .fab, .red, .ras, .free]
  | .rstCtrlCold _ => [.rst, .regs, .hlk]
  | .rstCtrlWarm _ => [.rst, .regs, .hlk]
  | .rstCtrlBasin _ _ => [.rst, .regs, .hlk]
  | .coldResetAssert => [.power, .rst, .jrn, .regs, .snaps, .retained, .hlk, .kernels, .loads, .launches, .cores, .shoals, .gpr, .preds, .lflags, .sram, .sramUe, .mem, .queues, .act, .shl, .fab, .red, .scale, .ras, .free]
  | .warmResetAssert => [.rst, .jrn, .regs, .snaps, .hlk, .loads, .launches, .cores, .shoals, .gpr, .preds, .lflags, .sram, .sramUe, .mem, .queues, .act, .shl, .fab, .red, .scale, .ras, .free]
  | .basinResetAssert _ => [.rst, .regs, .snaps, .hlk, .launches, .cores, .shoals, .gpr, .preds, .lflags, .sram, .sramUe, .mem, .queues, .act, .shl, .fab, .red, .ras, .free]
  | .coldResetRelease => [.rst, .regs, .hlk]
  | .warmResetRelease => [.rst, .regs, .hlk]
  | .basinResetRelease _ => [.rst, .regs, .hlk]
  | .blockReady _ _ => [.clock, .rst]
  | .memTrainingDone _ _ => [.rst, .regs, .hlk]
  | .powerOnCoreTestDone _ _ => [.rst, .regs, .hlk, .cores, .ras, .free]
  | .basinReady _ => [.rst, .regs, .hlk, .cores, .mem, .ras, .free]
  | .readyLate _ _ => [.rst, .regs, .hlk, .ras, .free]
  | .wellheadWatchdogExpiry => [.regs, .hlk, .sec]
  | .blkReset _ _ => [.rst, .regs, .snaps, .hlk, .launches, .cores, .shoals, .gpr, .preds, .lflags, .sram, .sramUe, .mem, .queues, .act, .shl, .fab, .red, .ras, .free]
  | .deferredResetStart _ _ => [.rst, .regs, .snaps, .hlk, .launches, .cores, .shoals, .gpr, .preds, .lflags, .sram, .sramUe, .mem, .queues, .act, .shl, .fab, .red, .ras, .free]
  | .blockResetDone _ _ => [.power, .clock, .rst, .jrn, .regs, .snaps, .retained, .hlk, .loads, .launches, .cores, .shoals, .gpr, .preds, .lflags, .sram, .sramUe, .mem, .queues, .act, .shl, .fab, .red, .scale, .ras, .sec, .free]
  | .journalResolutionBegin => [.rst, .jrn, .regs, .retained, .hlk, .cores, .shoals, .mem, .act, .fab, .red, .scale, .ras, .free]
  | .journalTwinAnswer _ _ => [.rst, .jrn, .regs, .retained, .hlk, .cores, .shoals, .mem, .act, .fab, .red, .scale, .ras, .free]
  | .journalTwinTimeout => [.jrn, .regs, .hlk]
  | .twinLost => [.rst, .jrn, .regs, .retained, .hlk, .cores, .shoals, .mem, .act, .fab, .red, .scale, .ras, .free]
  | .registerWrite _ _ _ _ => [.power, .rst, .jrn, .regs, .snaps, .retained, .hlk, .loads, .launches, .cores, .shoals, .gpr, .preds, .lflags, .sram, .sramUe, .mem, .queues, .act, .shl, .fab, .red, .scale, .ras, .sec, .free]
  | .refusedAccess _ _ _ _ _ => [.regs, .hlk]
  | .broadcastWrite _ _ _ _ => [.power, .rst, .jrn, .regs, .snaps, .retained, .hlk, .loads, .launches, .cores, .shoals, .gpr, .preds, .lflags, .sram, .sramUe, .mem, .queues, .act, .shl, .fab, .red, .scale, .ras, .sec, .free]
  | .quiesceWrite _ _ _ => [.rst, .regs, .snaps, .hlk, .launches, .cores, .shoals, .sram, .sramUe, .mem, .queues, .act, .shl, .fab, .red, .ras, .sec, .free]
  | .blockQuiesced _ _ => [.rst]
  | .eventRegWrite _ _ _ _ => [.regs, .hlk]
  | .msixUnmask _ => [.hlk]
  | .cntSnapTake _ _ => [.regs, .snaps]
  | .devIfCapFloorWrite _ _ _ => [.regs, .hlk]
  | .devLockWrite _ => [.regs, .hlk]
  | .hostLinkTrained _ _ _ _ => [.regs, .hlk]
  | .hostLightLoss _ => [.rst, .regs, .snaps, .hlk, .cores, .sram, .sramUe, .mem, .queues, .act, .ras, .free]
  | .hostHotReset => [.rst, .regs, .snaps, .hlk, .cores, .sram, .sramUe, .mem, .queues, .act, .ras, .free]
  | .functionLevelReset => [.rst, .regs, .snaps, .hlk, .loads, .launches, .cores, .shoals, .sram, .sramUe, .mem, .queues, .act, .shl, .red, .ras, .free]
  | .cxlReset => [.rst, .regs, .hlk]
  | .hdmDecoderCommit _ _ _ _ _ => [.hlk]
  | .hdmExposeWrite _ => [.regs, .hlk]
  | .hlkBiasWrite _ _ => [.regs, .hlk]
  | .biasSettled => [.hlk]
  | .hostHdmAccess _ _ _ _ => [.rst, .regs, .hlk, .cores, .mem, .ras, .free]
  | .doeRequest _ => [.regs, .hlk, .sec, .free]
  | .ringOpen _ _ => [.rst, .regs, .hlk, .loads, .launches, .cores, .shoals, .sram, .sramUe, .mem, .queues, .act, .shl, .red, .ras, .free]
  | .ringClose _ => [.rst, .regs, .hlk, .loads, .launches, .cores, .shoals, .sram, .sramUe, .mem, .queues, .act, .shl, .red, .ras, .free]
  | .ringCloseDone _ => [.hlk]
  | .ringReset _ => [.rst, .regs, .hlk, .loads, .launches, .cores, .shoals, .sram, .sramUe, .mem, .queues, .act, .shl, .red, .ras, .free]
  | .ringResetDone _ => [.regs, .hlk]
  | .commandTailDoorbell _ _ => [.regs, .hlk]
  | .completionHeadDoorbell _ _ => [.regs, .hlk]
  | .commandFetch _ => [.regs, .hlk]
  | .ringNop _ => [.hlk]
  | .loadKernel _ => [.regs, .hlk, .kernels, .gens, .loads, .mem]
  | .launch _ => [.hlk, .launches, .cores]
  | .stream _ => [.regs, .hlk, .mem, .queues, .nextOp]
  | .copy _ => [.hlk, .queues, .nextOp]
  | .fence _ => [.hlk]
  | .signal _ => [.rst, .regs, .hlk, .cores, .mem, .ras, .free]
  | .wait _ => [.hlk]
  | .waitPoll _ _ => [.regs, .hlk, .mem]
  | .stepBegin _ => [.rst, .regs, .hlk, .cores, .shoals, .mem, .act, .fab, .red, .ras, .free]
  | .commandComplete _ _ => [.rst, .regs, .hlk, .cores, .mem, .ras, .free]
  | .getInfo _ _ => [.rst, .regs, .snaps, .hlk, .launches, .cores, .shoals, .sram, .sramUe, .mem, .queues, .act, .shl, .fab, .red, .ras, .sec, .free]
  | .faultLogOpen _ _ => [.rst, .regs, .snaps, .hlk, .launches, .cores, .shoals, .sram, .sramUe, .mem, .queues, .act, .shl, .fab, .red, .ras, .sec, .free]
  | .faultRead _ _ => [.rst, .regs, .snaps, .hlk, .launches, .cores, .shoals, .sram, .sramUe, .mem, .queues, .act, .shl, .fab, .red, .ras, .sec, .free]
  | .tlmRead _ _ => [.rst, .regs, .snaps, .hlk, .launches, .cores, .shoals, .sram, .sramUe, .mem, .queues, .act, .shl, .fab, .red, .ras, .sec, .free]
  | .fwStage _ _ => [.rst, .regs, .snaps, .hlk, .launches, .cores, .shoals, .sram, .sramUe, .mem, .queues, .act, .shl, .fab, .red, .ras, .sec, .free]
  | .fwActivateTrial _ _ => [.rst, .regs, .snaps, .hlk, .launches, .cores, .shoals, .sram, .sramUe, .mem, .queues, .act, .shl, .fab, .red, .ras, .sec, .free]
  | .fwActivateRestart _ _ => [.rst, .regs, .snaps, .hlk, .launches, .cores, .shoals, .sram, .sramUe, .mem, .queues, .act, .shl, .fab, .red, .ras, .sec, .free]
  | .fwActivateCancel _ _ => [.rst, .regs, .snaps, .hlk, .launches, .cores, .shoals, .sram, .sramUe, .mem, .queues, .act, .shl, .fab, .red, .ras, .sec, .free]
  | .wellheadActivationRestart _ => [.sec]
  | .getNonce _ _ => [.rst, .regs, .snaps, .hlk, .launches, .cores, .shoals, .sram, .sramUe, .mem, .queues, .act, .shl, .fab, .red, .ras, .sec, .free]
  | .unlock _ _ => [.rst, .regs, .snaps, .hlk, .launches, .cores, .shoals, .sram, .sramUe, .mem, .queues, .act, .shl, .fab, .red, .ras, .sec, .free]
  | .lock _ _ => [.rst, .regs, .snaps, .hlk, .launches, .cores, .shoals, .sram, .sramUe, .mem, .queues, .act, .shl, .fab, .red, .ras, .sec, .free]
  | .provision _ _ => [.rst, .regs, .snaps, .hlk, .launches, .cores, .shoals, .sram, .sramUe, .mem, .queues, .act, .shl, .fab, .red, .ras, .sec, .free]
  | .revoke _ _ => [.rst, .regs, .snaps, .hlk, .launches, .cores, .shoals, .sram, .sramUe, .mem, .queues, .act, .shl, .fab, .red, .ras, .sec, .free]
  | .xltResolveRetry _ _ => [.rst, .regs, .snaps, .hlk, .launches, .cores, .shoals, .sram, .sramUe, .mem, .queues, .act, .shl, .fab, .red, .ras, .sec, .free]
  | .xltResolveFail _ _ => [.rst, .regs, .snaps, .hlk, .launches, .cores, .shoals, .sram, .sramUe, .mem, .queues, .act, .shl, .fab, .red, .ras, .sec, .free]
  | .mbxResponse => [.regs, .hlk]
  | .mbxTimeout => [.regs, .hlk]
  | .launchStart _ _ => [.rst, .regs, .hlk, .launches, .cores, .shoals, .gpr, .preds, .lflags, .sram, .sramUe, .mem, .queues, .act, .shl, .red, .ras, .free]
  | .launchEndOnCore _ _ => [.regs, .hlk, .launches, .cores, .red]
  | .swapRequest _ _ => [.regs, .hlk, .cores, .ras, .free]
  | .swapDrainPoint _ => [.cores]
  | .swapCopyStart _ => [.cores]
  | .swapCopyDone _ => [.rst, .regs, .hlk, .launches, .cores, .shoals, .sram, .sramUe, .mem, .queues, .act, .shl, .red, .ras, .free]
  | .corPartWrite _ _ => [.regs, .hlk, .cores]
  | .partApply _ => [.regs, .hlk, .cores]
  | .corFlagsSet _ _ => [.rst, .regs, .hlk, .cores, .sram, .sramUe, .mem, .queues, .ras, .free]
  | .corFlagsClr _ _ => [.rst, .regs, .hlk, .cores, .sram, .sramUe, .mem, .queues, .ras, .free]
  | .barrierRelease _ _ _ _ => [.rst, .regs, .hlk, .launches, .cores, .shoals, .sram, .sramUe, .mem, .queues, .act, .shl, .red, .ras, .free]
  | .barrierTimeout _ _ _ _ => [.rst, .regs, .hlk, .launches, .cores, .shoals, .sram, .sramUe, .mem, .queues, .act, .shl, .red, .ras, .free]
  | .efWaitRelease _ _ => [.rst, .regs, .hlk, .launches, .cores, .shoals, .sram, .sramUe, .mem, .queues, .act, .shl, .red, .ras, .free]
  | .nop _ _ _ => [.rst, .regs, .hlk, .launches, .cores, .shoals, .sram, .sramUe, .mem, .queues, .act, .shl, .red, .ras, .free]
  | .endThread _ _ _ => [.rst, .regs, .hlk, .launches, .cores, .shoals, .sram, .sramUe, .mem, .queues, .act, .shl, .red, .ras, .free]
  | .bar _ _ _ => [.rst, .regs, .hlk, .launches, .cores, .shoals, .sram, .sramUe, .mem, .queues, .act, .shl, .red, .ras, .free]
  | .efset _ _ _ => [.rst, .regs, .hlk, .launches, .cores, .shoals, .sram, .sramUe, .mem, .queues, .act, .shl, .red, .ras, .free]
  | .efclr _ _ _ => [.rst, .regs, .hlk, .launches, .cores, .shoals, .sram, .sramUe, .mem, .queues, .act, .shl, .red, .ras, .free]
  | .efwait _ _ _ => [.rst, .regs, .hlk, .launches, .cores, .shoals, .sram, .sramUe, .mem, .queues, .act, .shl, .red, .ras, .free]
  | .efwaitc _ _ _ => [.rst, .regs, .hlk, .launches, .cores, .shoals, .sram, .sramUe, .mem, .queues, .act, .shl, .red, .ras, .free]
  | .braAny _ _ _ => [.rst, .regs, .hlk, .launches, .cores, .shoals, .sram, .sramUe, .mem, .queues, .act, .shl, .red, .ras, .free]
  | .braAll _ _ _ => [.rst, .regs, .hlk, .launches, .cores, .shoals, .sram, .sramUe, .mem, .queues, .act, .shl, .red, .ras, .free]
  | .braNone _ _ _ => [.rst, .regs, .hlk, .launches, .cores, .shoals, .sram, .sramUe, .mem, .queues, .act, .shl, .red, .ras, .free]
  | .iadd _ _ _ => [.rst, .regs, .hlk, .launches, .cores, .shoals, .gpr, .preds, .lflags, .sram, .sramUe, .mem, .queues, .act, .shl, .red, .ras, .free]
  | .isub _ _ _ => [.rst, .regs, .hlk, .launches, .cores, .shoals, .gpr, .preds, .lflags, .sram, .sramUe, .mem, .queues, .act, .shl, .red, .ras, .free]
  | .imul _ _ _ => [.rst, .regs, .hlk, .launches, .cores, .shoals, .gpr, .preds, .lflags, .sram, .sramUe, .mem, .queues, .act, .shl, .red, .ras, .free]
  | .imulh _ _ _ => [.rst, .regs, .hlk, .launches, .cores, .shoals, .gpr, .preds, .lflags, .sram, .sramUe, .mem, .queues, .act, .shl, .red, .ras, .free]
  | .and _ _ _ => [.rst, .regs, .hlk, .launches, .cores, .shoals, .gpr, .preds, .lflags, .sram, .sramUe, .mem, .queues, .act, .shl, .red, .ras, .free]
  | .or _ _ _ => [.rst, .regs, .hlk, .launches, .cores, .shoals, .gpr, .preds, .lflags, .sram, .sramUe, .mem, .queues, .act, .shl, .red, .ras, .free]
  | .xor _ _ _ => [.rst, .regs, .hlk, .launches, .cores, .shoals, .gpr, .preds, .lflags, .sram, .sramUe, .mem, .queues, .act, .shl, .red, .ras, .free]
  | .shl _ _ _ => [.rst, .regs, .hlk, .launches, .cores, .shoals, .gpr, .preds, .lflags, .sram, .sramUe, .mem, .queues, .act, .shl, .red, .ras, .free]
  | .shr _ _ _ => [.rst, .regs, .hlk, .launches, .cores, .shoals, .gpr, .preds, .lflags, .sram, .sramUe, .mem, .queues, .act, .shl, .red, .ras, .free]
  | .sar _ _ _ => [.rst, .regs, .hlk, .launches, .cores, .shoals, .gpr, .preds, .lflags, .sram, .sramUe, .mem, .queues, .act, .shl, .red, .ras, .free]
  | .imin _ _ _ => [.rst, .regs, .hlk, .launches, .cores, .shoals, .gpr, .preds, .lflags, .sram, .sramUe, .mem, .queues, .act, .shl, .red, .ras, .free]
  | .imax _ _ _ => [.rst, .regs, .hlk, .launches, .cores, .shoals, .gpr, .preds, .lflags, .sram, .sramUe, .mem, .queues, .act, .shl, .red, .ras, .free]
  | .sel _ _ _ => [.rst, .regs, .hlk, .launches, .cores, .shoals, .gpr, .preds, .lflags, .sram, .sramUe, .mem, .queues, .act, .shl, .red, .ras, .free]
  | .iaddImm _ _ _ => [.rst, .regs, .hlk, .launches, .cores, .shoals, .gpr, .preds, .lflags, .sram, .sramUe, .mem, .queues, .act, .shl, .red, .ras, .free]
  | .isubImm _ _ _ => [.rst, .regs, .hlk, .launches, .cores, .shoals, .gpr, .preds, .lflags, .sram, .sramUe, .mem, .queues, .act, .shl, .red, .ras, .free]
  | .imulImm _ _ _ => [.rst, .regs, .hlk, .launches, .cores, .shoals, .gpr, .preds, .lflags, .sram, .sramUe, .mem, .queues, .act, .shl, .red, .ras, .free]
  | .imulhImm _ _ _ => [.rst, .regs, .hlk, .launches, .cores, .shoals, .gpr, .preds, .lflags, .sram, .sramUe, .mem, .queues, .act, .shl, .red, .ras, .free]
  | .andImm _ _ _ => [.rst, .regs, .hlk, .launches, .cores, .shoals, .gpr, .preds, .lflags, .sram, .sramUe, .mem, .queues, .act, .shl, .red, .ras, .free]
  | .orImm _ _ _ => [.rst, .regs, .hlk, .launches, .cores, .shoals, .gpr, .preds, .lflags, .sram, .sramUe, .mem, .queues, .act, .shl, .red, .ras, .free]
  | .xorImm _ _ _ => [.rst, .regs, .hlk, .launches, .cores, .shoals, .gpr, .preds, .lflags, .sram, .sramUe, .mem, .queues, .act, .shl, .red, .ras, .free]
  | .shlImm _ _ _ => [.rst, .regs, .hlk, .launches, .cores, .shoals, .gpr, .preds, .lflags, .sram, .sramUe, .mem, .queues, .act, .shl, .red, .ras, .free]
  | .shrImm _ _ _ => [.rst, .regs, .hlk, .launches, .cores, .shoals, .gpr, .preds, .lflags, .sram, .sramUe, .mem, .queues, .act, .shl, .red, .ras, .free]
  | .sarImm _ _ _ => [.rst, .regs, .hlk, .launches, .cores, .shoals, .gpr, .preds, .lflags, .sram, .sramUe, .mem, .queues, .act, .shl, .red, .ras, .free]
  | .iminImm _ _ _ => [.rst, .regs, .hlk, .launches, .cores, .shoals, .gpr, .preds, .lflags, .sram, .sramUe, .mem, .queues, .act, .shl, .red, .ras, .free]
  | .imaxImm _ _ _ => [.rst, .regs, .hlk, .launches, .cores, .shoals, .gpr, .preds, .lflags, .sram, .sramUe, .mem, .queues, .act, .shl, .red, .ras, .free]
  | .movi _ _ _ => [.rst, .regs, .hlk, .launches, .cores, .shoals, .gpr, .preds, .lflags, .sram, .sramUe, .mem, .queues, .act, .shl, .red, .ras, .free]
  | .fadd _ _ _ => [.rst, .regs, .hlk, .launches, .cores, .shoals, .gpr, .preds, .lflags, .sram, .sramUe, .mem, .queues, .act, .shl, .red, .ras, .free]
  | .fmul _ _ _ => [.rst, .regs, .hlk, .launches, .cores, .shoals, .gpr, .preds, .lflags, .sram, .sramUe, .mem, .queues, .act, .shl, .red, .ras, .free]
  | .ffma _ _ _ => [.rst, .regs, .hlk, .launches, .cores, .shoals, .gpr, .preds, .lflags, .sram, .sramUe, .mem, .queues, .act, .shl, .red, .ras, .free]
  | .fmin _ _ _ => [.rst, .regs, .hlk, .launches, .cores, .shoals, .gpr, .preds, .lflags, .sram, .sramUe, .mem, .queues, .act, .shl, .red, .ras, .free]
  | .fmax _ _ _ => [.rst, .regs, .hlk, .launches, .cores, .shoals, .gpr, .preds, .lflags, .sram, .sramUe, .mem, .queues, .act, .shl, .red, .ras, .free]
  | .faddi _ _ _ => [.rst, .regs, .hlk, .launches, .cores, .shoals, .gpr, .preds, .lflags, .sram, .sramUe, .mem, .queues, .act, .shl, .red, .ras, .free]
  | .fmuli _ _ _ => [.rst, .regs, .hlk, .launches, .cores, .shoals, .gpr, .preds, .lflags, .sram, .sramUe, .mem, .queues, .act, .shl, .red, .ras, .free]
  | .hadd2 _ _ _ => [.rst, .regs, .hlk, .launches, .cores, .shoals, .gpr, .preds, .lflags, .sram, .sramUe, .mem, .queues, .act, .shl, .red, .ras, .free]
  | .hmul2 _ _ _ => [.rst, .regs, .hlk, .launches, .cores, .shoals, .gpr, .preds, .lflags, .sram, .sramUe, .mem, .queues, .act, .shl, .red, .ras, .free]
  | .hfma2 _ _ _ => [.rst, .regs, .hlk, .launches, .cores, .shoals, .gpr, .preds, .lflags, .sram, .sramUe, .mem, .queues, .act, .shl, .red, .ras, .free]
  | .exp2 _ _ _ => [.rst, .regs, .hlk, .launches, .cores, .shoals, .gpr, .preds, .lflags, .sram, .sramUe, .mem, .queues, .act, .shl, .red, .ras, .free]
  | .log2 _ _ _ => [.rst, .regs, .hlk, .launches, .cores, .shoals, .gpr, .preds, .lflags, .sram, .sramUe, .mem, .queues, .act, .shl, .red, .ras, .free]
  | .rcp _ _ _ => [.rst, .regs, .hlk, .launches, .cores, .shoals, .gpr, .preds, .lflags, .sram, .sramUe, .mem, .queues, .act, .shl, .red, .ras, .free]
  | .rsqrt _ _ _ => [.rst, .regs, .hlk, .launches, .cores, .shoals, .gpr, .preds, .lflags, .sram, .sramUe, .mem, .queues, .act, .shl, .red, .ras, .free]
  | .sqrt _ _ _ => [.rst, .regs, .hlk, .launches, .cores, .shoals, .gpr, .preds, .lflags, .sram, .sramUe, .mem, .queues, .act, .shl, .red, .ras, .free]
  | .tanh _ _ _ => [.rst, .regs, .hlk, .launches, .cores, .shoals, .gpr, .preds, .lflags, .sram, .sramUe, .mem, .queues, .act, .shl, .red, .ras, .free]
  | .sint _ _ _ => [.rst, .regs, .hlk, .launches, .cores, .shoals, .gpr, .preds, .lflags, .sram, .sramUe, .mem, .queues, .act, .shl, .red, .ras, .free]
  | .cost _ _ _ => [.rst, .regs, .hlk, .launches, .cores, .shoals, .gpr, .preds, .lflags, .sram, .sramUe, .mem, .queues, .act, .shl, .red, .ras, .free]
  | .fsetp _ _ _ => [.rst, .regs, .hlk, .launches, .cores, .shoals, .gpr, .preds, .lflags, .sram, .sramUe, .mem, .queues, .act, .shl, .red, .ras, .free]
  | .isetp _ _ _ => [.rst, .regs, .hlk, .launches, .cores, .shoals, .gpr, .preds, .lflags, .sram, .sramUe, .mem, .queues, .act, .shl, .red, .ras, .free]
  | .pand _ _ _ => [.rst, .regs, .hlk, .launches, .cores, .shoals, .gpr, .preds, .lflags, .sram, .sramUe, .mem, .queues, .act, .shl, .red, .ras, .free]
  | .por _ _ _ => [.rst, .regs, .hlk, .launches, .cores, .shoals, .gpr, .preds, .lflags, .sram, .sramUe, .mem, .queues, .act, .shl, .red, .ras, .free]
  | .pxor _ _ _ => [.rst, .regs, .hlk, .launches, .cores, .shoals, .gpr, .preds, .lflags, .sram, .sramUe, .mem, .queues, .act, .shl, .red, .ras, .free]
  | .vote _ _ _ => [.rst, .regs, .hlk, .launches, .cores, .shoals, .gpr, .preds, .lflags, .sram, .sramUe, .mem, .queues, .act, .shl, .red, .ras, .free]
  | .pbit _ _ _ => [.rst, .regs, .hlk, .launches, .cores, .shoals, .gpr, .preds, .lflags, .sram, .sramUe, .mem, .queues, .act, .shl, .red, .ras, .free]
  | .cvt _ _ _ => [.rst, .regs, .hlk, .launches, .cores, .shoals, .gpr, .preds, .lflags, .sram, .sramUe, .mem, .queues, .act, .shl, .red, .scale, .ras, .free]
  | .ld8 _ _ _ => [.rst, .regs, .hlk, .launches, .cores, .shoals, .gpr, .preds, .lflags, .sram, .sramUe, .mem, .queues, .act, .shl, .red, .ras, .free]
  | .ld16 _ _ _ => [.rst, .regs, .hlk, .launches, .cores, .shoals, .gpr, .preds, .lflags, .sram, .sramUe, .mem, .queues, .act, .shl, .red, .ras, .free]
  | .ld32 _ _ _ => [.rst, .regs, .hlk, .launches, .cores, .shoals, .gpr, .preds, .lflags, .sram, .sramUe, .mem, .queues, .act, .shl, .red, .ras, .free]
  | .ld64 _ _ _ => [.rst, .regs, .hlk, .launches, .cores, .shoals, .gpr, .preds, .lflags, .sram, .sramUe, .mem, .queues, .act, .shl, .red, .ras, .free]
  | .st8 _ _ _ => [.rst, .regs, .hlk, .launches, .cores, .shoals, .sram, .sramUe, .mem, .queues, .act, .shl, .red, .ras, .free]
  | .st16 _ _ _ => [.rst, .regs, .hlk, .launches, .cores, .shoals, .sram, .sramUe, .mem, .queues, .act, .shl, .red, .ras, .free]
  | .st32 _ _ _ => [.rst, .regs, .hlk, .launches, .cores, .shoals, .sram, .sramUe, .mem, .queues, .act, .shl, .red, .ras, .free]
  | .st64 _ _ _ => [.rst, .regs, .hlk, .launches, .cores, .shoals, .sram, .sramUe, .mem, .queues, .act, .shl, .red, .ras, .free]
  | .shfl _ _ _ => [.rst, .regs, .hlk, .launches, .cores, .shoals, .gpr, .preds, .lflags, .sram, .sramUe, .mem, .queues, .act, .shl, .red, .ras, .free]
  | .shflx _ _ _ => [.rst, .regs, .hlk, .launches, .cores, .shoals, .gpr, .preds, .lflags, .sram, .sramUe, .mem, .queues, .act, .shl, .red, .ras, .free]
  | .rsum _ _ _ => [.rst, .regs, .hlk, .launches, .cores, .shoals, .gpr, .preds, .lflags, .sram, .sramUe, .mem, .queues, .act, .shl, .red, .ras, .free]
  | .rmax _ _ _ => [.rst, .regs, .hlk, .launches, .cores, .shoals, .gpr, .preds, .lflags, .sram, .sramUe, .mem, .queues, .act, .shl, .red, .ras, .free]
  | .rmin _ _ _ => [.rst, .regs, .hlk, .launches, .cores, .shoals, .gpr, .preds, .lflags, .sram, .sramUe, .mem, .queues, .act, .shl, .red, .ras, .free]
  | .risum _ _ _ => [.rst, .regs, .hlk, .launches, .cores, .shoals, .gpr, .preds, .lflags, .sram, .sramUe, .mem, .queues, .act, .shl, .red, .ras, .free]
  | .mma _ _ _ => [.rst, .regs, .hlk, .launches, .cores, .shoals, .sram, .sramUe, .mem, .queues, .act, .shl, .red, .ras, .free]
  | .sqpush _ _ _ => [.rst, .regs, .hlk, .launches, .cores, .shoals, .sram, .sramUe, .mem, .queues, .nextOp, .act, .shl, .red, .ras, .free]
  | .sqsync _ _ _ => [.rst, .regs, .hlk, .launches, .cores, .shoals, .sram, .sramUe, .mem, .queues, .act, .shl, .red, .ras, .free]
  | .chain _ _ _ => [.rst, .regs, .hlk, .launches, .cores, .shoals, .sram, .sramUe, .mem, .queues, .act, .shl, .red, .ras, .free]
  | .ldm40 _ _ _ => [.rst, .regs, .hlk, .launches, .cores, .shoals, .gpr, .preds, .lflags, .sram, .sramUe, .mem, .queues, .act, .shl, .red, .ras, .free]
  | .stm40 _ _ _ => [.rst, .regs, .hlk, .launches, .cores, .shoals, .sram, .sramUe, .mem, .queues, .act, .shl, .red, .ras, .free]
  | .m40fma _ _ _ => [.rst, .regs, .hlk, .launches, .cores, .shoals, .gpr, .preds, .lflags, .sram, .sramUe, .mem, .queues, .act, .shl, .red, .ras, .free]
  | .sreg _ _ _ => [.rst, .regs, .hlk, .launches, .cores, .shoals, .gpr, .preds, .lflags, .sram, .sramUe, .mem, .queues, .act, .shl, .red, .ras, .free]
  | .sfrd _ _ _ => [.rst, .regs, .hlk, .launches, .cores, .shoals, .gpr, .preds, .lflags, .sram, .sramUe, .mem, .queues, .act, .shl, .red, .ras, .free]
  | .sfclr _ _ _ => [.rst, .regs, .hlk, .launches, .cores, .shoals, .lflags, .sram, .sramUe, .mem, .queues, .act, .shl, .red, .ras, .free]
  | .sfset _ _ _ => [.rst, .regs, .hlk, .launches, .cores, .shoals, .gpr, .preds, .lflags, .sram, .sramUe, .mem, .queues, .act, .shl, .red, .ras, .free]
  | .cvtctx _ _ _ => [.rst, .regs, .hlk, .launches, .cores, .shoals, .sram, .sramUe, .mem, .queues, .act, .shl, .red, .ras, .free]
  | .chainRetire _ _ => [.rst, .regs, .hlk, .launches, .cores, .shoals, .lflags, .sram, .sramUe, .mem, .queues, .act, .shl, .red, .scale, .ras, .free]
  | .kernelReplaceApply _ => [.hlk, .kernels, .gens, .loads]
  | .matrixTileStart _ => [.rst, .regs, .hlk, .launches, .cores, .shoals, .sram, .sramUe, .mem, .queues, .act, .shl, .red, .ras, .free]
  | .tileOverflowReplay _ _ => [.rst, .regs, .hlk, .launches, .cores, .shoals, .sram, .sramUe, .mem, .queues, .act, .shl, .red, .ras, .free]
  | .matrixTileDone _ _ => [.rst, .regs, .hlk, .launches, .cores, .shoals, .lflags, .sram, .sramUe, .mem, .queues, .act, .shl, .red, .scale, .ras, .free]
  | .mxDebugHalt _ => [.regs, .cores]
  | .mxDebugResume _ => [.regs, .hlk, .cores]
  | .devScalecfgWrite _ => [.rst, .regs, .hlk, .cores, .mem, .scale, .ras, .free]
  | .devScalebaseWrite _ => [.regs, .hlk, .scale]
  | .devRecipeWrite _ _ => [.regs, .hlk, .scale]
  | .scaleLoaded => [.rst, .regs, .hlk, .cores, .mem, .scale, .ras, .free]
  | .scaleReseed => [.rst, .regs, .hlk, .cores, .mem, .scale, .ras, .free]
  | .sdmCfgWrite _ _ => [.regs, .hlk, .mem]
  | .sdmScrubStep _ _ _ _ _ => [.rst, .regs, .hlk, .cores, .mem, .ras, .free]
  | .sdmRowRemap _ _ _ => [.regs, .hlk, .mem]
  | .memScrubStep _ _ _ _ _ _ => [.rst, .regs, .hlk, .cores, .mem, .ras, .free]
  | .memSppr _ _ _ _ => [.regs, .hlk, .mem]
  | .install _ => [.regs, .hlk, .mem]
  | .update _ => [.regs, .hlk, .mem]
  | .invRange _ => [.regs, .hlk, .mem]
  | .invUnpinned _ => [.regs, .hlk, .mem]
  | .invAll _ => [.regs, .hlk, .mem]
  | .lookup _ => [.regs, .hlk, .mem]
  | .xltInvalidationDone => [.regs, .hlk, .mem]
  | .translationMiss _ _ _ _ _ => [.regs, .hlk, .mem, .queues]
  | .mapSearchDone _ => [.rst, .regs, .hlk, .launches, .cores, .shoals, .sram, .sramUe, .mem, .queues, .act, .shl, .fab, .red, .ras, .free]
  | .mapDescRecheck _ => [.rst, .regs, .hlk, .launches, .cores, .shoals, .sram, .sramUe, .mem, .queues, .act, .shl, .fab, .red, .ras, .free]
  | .xltFaultTimeout _ => [.rst, .regs, .hlk, .launches, .cores, .shoals, .sram, .sramUe, .mem, .queues, .act, .shl, .fab, .red, .ras, .free]
  | .streamIn _ => [.rst, .regs, .hlk, .launches, .cores, .shoals, .sram, .sramUe, .mem, .queues, .act, .shl, .red, .ras, .free]
  | .streamOut _ => [.rst, .regs, .hlk, .launches, .cores, .shoals, .sram, .sramUe, .mem, .queues, .act, .shl, .red, .ras, .free]
  | .streamCopy _ => [.rst, .regs, .hlk, .launches, .cores, .shoals, .sram, .sramUe, .mem, .queues, .act, .shl, .red, .ras, .free]
  | .transferGrant _ => [.rst, .regs, .hlk, .cores, .sram, .sramUe, .mem, .queues, .fab, .ras, .free]
  | .transferLanded _ _ => [.rst, .regs, .hlk, .cores, .sram, .sramUe, .mem, .queues, .act, .red, .ras, .free]
  | .streamOpComplete _ => [.rst, .regs, .hlk, .launches, .cores, .sram, .sramUe, .mem, .queues, .act, .shl, .fab, .red, .ras, .free]
  | .streamWaitPoll _ => [.rst, .regs, .hlk, .cores, .sram, .sramUe, .mem, .queues, .act, .shl, .fab, .ras, .free]
  | .streamTransferTimeout _ _ => [.rst, .regs, .hlk, .cores, .sram, .sramUe, .mem, .queues, .ras, .free]
  | .cowCopyStart _ _ _ => [.regs, .hlk, .mem, .queues]
  | .cowCopyDone _ => [.rst, .regs, .hlk, .cores, .sram, .sramUe, .mem, .queues, .ras, .free]
  | .actSave _ => [.rst, .regs, .hlk, .launches, .cores, .shoals, .sram, .sramUe, .mem, .queues, .act, .shl, .red, .ras, .free]
  | .actRestore _ => [.rst, .regs, .hlk, .launches, .cores, .shoals, .sram, .sramUe, .mem, .queues, .act, .shl, .red, .ras, .free]
  | .actSaveRoomFreed _ => [.rst, .regs, .hlk, .cores, .sram, .sramUe, .mem, .queues, .act, .ras, .free]
  | .actRoomTimeout _ => [.rst, .regs, .hlk, .cores, .sram, .sramUe, .mem, .queues, .ras, .free]
  | .actPurge _ => [.rst, .regs, .hlk, .cores, .mem, .act, .ras, .free]
  | .convPatch _ => [.rst, .regs, .hlk, .launches, .cores, .shoals, .sram, .sramUe, .mem, .queues, .act, .shl, .red, .ras, .free]
  | .convTpatch _ => [.rst, .regs, .hlk, .launches, .cores, .shoals, .sram, .sramUe, .mem, .queues, .act, .shl, .red, .ras, .free]
  | .featureMapCodec _ => [.rst, .regs, .hlk, .launches, .cores, .shoals, .sram, .sramUe, .mem, .queues, .act, .shl, .red, .ras, .free]
  | .shlRun _ => [.rst, .regs, .hlk, .launches, .cores, .shoals, .sram, .sramUe, .mem, .queues, .act, .shl, .red, .ras, .free]
  | .convFwd _ _ => [.rst, .regs, .hlk, .cores, .sram, .sramUe, .mem, .queues, .shl, .red, .scale, .ras, .free]
  | .convBwdData _ _ => [.rst, .regs, .hlk, .cores, .sram, .sramUe, .mem, .queues, .shl, .red, .scale, .ras, .free]
  | .convBwdWeight _ _ => [.rst, .regs, .hlk, .cores, .sram, .sramUe, .mem, .queues, .shl, .red, .scale, .ras, .free]
  | .poolMax _ _ => [.rst, .regs, .hlk, .cores, .sram, .sramUe, .mem, .queues, .shl, .red, .scale, .ras, .free]
  | .poolAvg _ _ => [.rst, .regs, .hlk, .cores, .sram, .sramUe, .mem, .queues, .shl, .red, .scale, .ras, .free]
  | .poolMaxBwd _ _ => [.rst, .regs, .hlk, .cores, .sram, .sramUe, .mem, .queues, .shl, .red, .scale, .ras, .free]
  | .poolAvgBwd _ _ => [.rst, .regs, .hlk, .cores, .sram, .sramUe, .mem, .queues, .shl, .red, .scale, .ras, .free]
  | .padFold _ _ => [.rst, .regs, .hlk, .cores, .sram, .sramUe, .mem, .queues, .shl, .red, .scale, .ras, .free]
  | .shlJobDone _ => [.rst, .regs, .hlk, .launches, .cores, .sram, .sramUe, .mem, .queues, .act, .shl, .red, .ras, .free]
  | .shlJobTimeout _ => [.rst, .regs, .hlk, .cores, .sram, .sramUe, .mem, .queues, .shl, .ras, .free]
  | .attMask _ => [.rst, .regs, .hlk, .launches, .cores, .shoals, .sram, .sramUe, .mem, .queues, .act, .shl, .red, .ras, .free]
  | .kvGather _ => [.rst, .regs, .hlk, .launches, .cores, .shoals, .sram, .sramUe, .mem, .queues, .act, .shl, .red, .ras, .free]
  | .kvWrite _ => [.rst, .regs, .hlk, .launches, .cores, .shoals, .sram, .sramUe, .mem, .queues, .act, .shl, .red, .ras, .free]
  | .kvPageCopyDone _ => [.rst, .regs, .hlk, .cores, .mem, .queues, .ras, .free]
  | .kvPoolWaitResume _ => [.rst, .regs, .hlk, .cores, .mem, .queues, .ras, .free]
  | .kvPoolWaitTimeout _ => [.rst, .regs, .hlk, .cores, .sram, .sramUe, .mem, .queues, .ras, .free]
  | .kvSend _ => [.rst, .regs, .hlk, .launches, .cores, .shoals, .sram, .sramUe, .mem, .queues, .act, .shl, .fab, .red, .ras, .free]
  | .create _ => [.rst, .regs, .hlk, .cores, .mem, .ras, .free]
  | .fork _ _ _ => [.rst, .regs, .hlk, .cores, .mem, .ras, .free]
  | .truncate _ _ => [.rst, .regs, .hlk, .cores, .mem, .ras, .free]
  | .release _ => [.rst, .regs, .hlk, .cores, .mem, .ras, .free]
  | .rxSet _ _ => [.rst, .regs, .hlk, .cores, .mem, .ras, .free]
  | .kvpPoolConfig _ _ _ _ => [.rst, .regs, .hlk, .cores, .mem, .ras, .free]
  | .fabTrainingStart _ => [.regs, .hlk, .fab]
  | .fabLinkUp _ => [.regs, .hlk, .fab]
  | .fabTrainingTimeout _ => [.regs, .hlk, .fab]
  | .fabLightLoss _ _ => [.regs, .hlk, .mem, .fab]
  | .flitRetry _ _ => [.regs, .hlk, .mem, .fab]
  | .fabRetrainDone _ => [.regs, .hlk, .fab]
  | .put _ _ => [.rst, .regs, .hlk, .cores, .sram, .sramUe, .mem, .queues, .fab, .ras, .free]
  | .get _ _ => [.rst, .regs, .hlk, .cores, .sram, .sramUe, .mem, .queues, .fab, .ras, .free]
  | .getData _ _ => [.rst, .regs, .hlk, .cores, .sram, .sramUe, .mem, .queues, .fab, .ras, .free]
  | .ack _ _ => [.rst, .regs, .hlk, .cores, .sram, .sramUe, .mem, .queues, .fab, .ras, .free]
  | .nack _ _ => [.rst, .regs, .hlk, .cores, .sram, .sramUe, .mem, .queues, .fab, .ras, .free]
  | .hold _ _ => [.regs, .hlk, .mem, .fab]
  | .ping _ _ => [.regs, .hlk, .mem, .fab]
  | .pong _ _ => [.regs, .hlk, .mem, .fab]
  | .identify _ _ => [.regs, .hlk, .fab]
  | .leaving _ _ => [.regs, .hlk, .mem, .fab]
  | .resetNotice _ _ => [.rst, .regs, .hlk, .cores, .sram, .sramUe, .mem, .queues, .fab, .ras, .free]
  | .adopt _ _ => [.rst, .regs, .hlk, .cores, .sram, .sramUe, .mem, .queues, .fab, .ras, .free]
  | .reset _ _ => [.rst, .regs, .hlk, .mem, .fab]
  | .resetAck _ _ => [.regs, .hlk, .mem, .fab]
  | .spdmMessage _ _ => [.regs, .hlk, .mem, .fab, .sec, .free]
  | .red _ _ => [.rst, .regs, .hlk, .cores, .mem, .fab, .red, .ras, .free]
  | .redC _ _ => [.rst, .regs, .hlk, .cores, .mem, .fab, .red, .ras, .free]
  | .upd _ _ => [.rst, .regs, .hlk, .cores, .mem, .fab, .red, .ras, .free]
  | .kv _ _ => [.rst, .regs, .hlk, .cores, .mem, .fab, .ras, .free]
  | .kvAck _ _ => [.regs, .hlk, .mem, .queues, .fab]
  | .mirror _ _ => [.rst, .regs, .hlk, .cores, .mem, .fab, .red, .ras, .free]
  | .fabTxnTimeout _ _ => [.rst, .regs, .hlk, .cores, .sram, .sramUe, .mem, .queues, .fab, .ras, .free]
  | .fabHoldResend _ _ => [.rst, .regs, .hlk, .cores, .sram, .sramUe, .mem, .queues, .fab, .ras, .free]
  | .dupKeyExpiry _ => [.fab]
  | .fabPut _ => [.rst, .regs, .hlk, .launches, .cores, .shoals, .sram, .sramUe, .mem, .queues, .act, .shl, .red, .ras, .free]
  | .fabGet _ => [.rst, .regs, .hlk, .launches, .cores, .shoals, .sram, .sramUe, .mem, .queues, .act, .shl, .red, .ras, .free]
  | .fabMcmdPing _ _ _ => [.regs, .hlk, .mem, .fab]
  | .fabMcmdReset _ _ _ => [.regs, .hlk, .mem, .fab]
  | .fabMcmdSpdm _ _ _ => [.regs, .hlk, .mem, .fab]
  | .fabMcmdTimeout _ => [.regs]
  | .devFabidWrite _ => [.regs, .hlk, .fab]
  | .routeFlush => [.regs, .hlk, .fab]
  | .redTileAccept _ _ => [.rst, .regs, .hlk, .cores, .red, .ras, .free]
  | .redPush _ => [.rst, .regs, .hlk, .launches, .cores, .shoals, .sram, .sramUe, .mem, .queues, .act, .shl, .red, .ras, .free]
  | .basinPieceReduce _ _ _ _ => [.rst, .regs, .hlk, .cores, .red, .ras, .free]
  | .redNodeSend _ _ _ _ => [.rst, .regs, .hlk, .cores, .mem, .fab, .red, .ras, .free]
  | .updateSlabStart _ _ => [.rst, .regs, .hlk, .cores, .shoals, .gpr, .preds, .lflags, .sram, .sramUe, .mem, .fab, .red, .ras, .free]
  | .updateSlabDone _ _ => [.rst, .regs, .hlk, .cores, .shoals, .mem, .fab, .red, .ras, .free]
  | .updateKernelTimeout _ _ => [.rst, .regs, .hlk, .cores, .shoals, .mem, .red, .ras, .free]
  | .stepClose _ => [.regs, .hlk]
  | .stepAbandon _ => [.rst, .jrn, .regs, .retained, .hlk, .cores, .shoals, .mem, .act, .fab, .red, .scale, .ras, .free]
  | .stepVote => [.regs, .hlk, .mem, .fab, .red]
  | .verdictCombine => [.regs, .hlk, .mem, .fab, .red]
  | .verdictReceived => [.rst, .jrn, .regs, .retained, .hlk, .cores, .shoals, .mem, .act, .fab, .red, .scale, .ras, .free]
  | .twinStaged _ => [.rst, .jrn, .regs, .retained, .hlk, .cores, .shoals, .mem, .act, .fab, .red, .scale, .ras, .free]
  | .mirrorRedoDone => [.rst, .jrn, .regs, .retained, .hlk, .cores, .shoals, .mem, .act, .fab, .red, .scale, .ras, .free]
  | .twinFlipped => [.rst, .jrn, .regs, .retained, .hlk, .cores, .shoals, .mem, .act, .fab, .red, .scale, .ras, .free]
  | .verdictTimeout => [.regs, .hlk]
  | .commitTimeout => [.rst, .regs, .hlk]
  | .redBanksetWrite _ => [.regs, .hlk]
  | .lwClearEntry _ => [.rst, .regs, .hlk, .cores, .mem, .red, .ras, .free]
  | .lwClearAll => [.rst, .regs, .hlk, .cores, .mem, .red, .ras, .free]
  | .bsteerStateWrite _ => [.regs, .hlk]
  | .bsteerEmaLoad _ => [.regs, .hlk]
  | .stgAcquire _ => [.rst, .regs, .hlk, .launches, .cores, .shoals, .sram, .sramUe, .mem, .queues, .act, .shl, .fab, .red, .ras, .free]
  | .stgPublish _ => [.rst, .regs, .hlk, .launches, .cores, .shoals, .sram, .sramUe, .mem, .queues, .act, .shl, .fab, .red, .ras, .free]
  | .stgAwait _ => [.rst, .regs, .hlk, .launches, .cores, .shoals, .sram, .sramUe, .mem, .queues, .act, .shl, .fab, .red, .ras, .free]
  | .stgRelease _ => [.rst, .regs, .hlk, .launches, .cores, .shoals, .sram, .sramUe, .mem, .queues, .act, .shl, .fab, .red, .ras, .free]
  | .sthStgcfgWrite _ _ => [.rst, .regs, .hlk]
  | .stageOccupancySample _ => [.regs, .hlk]
  | .stageWaitLong _ => [.regs, .hlk, .queues]
  | .workUnitExpiry _ _ => [.rst, .regs, .hlk, .launches, .cores, .shoals, .sram, .sramUe, .mem, .queues, .act, .shl, .red, .ras, .free]
  | .clockPowerLoopTick _ => [.power, .regs, .hlk]
  | .powerLimitRiseTick _ _ => [.power, .regs, .hlk]
  | .powerLimitFallTick _ _ => [.power]
  | .rasReplayctlSet _ _ => [.regs, .hlk]
  | .testDue _ => [.ras]
  | .inFieldTestStart _ => [.regs, .hlk, .cores, .ras, .free]
  | .inFieldTestDone _ _ => [.rst, .regs, .hlk, .cores, .ras, .free]
  | .inFieldTestTimeout _ => [.rst, .regs, .hlk, .cores, .ras, .free]
  | .testDeferExpiry _ => [.ras]
  | .testOverdue _ => [.regs, .hlk, .ras]
  | .suspicionExpiry _ => [.ras]
  | .rasTestreq _ => [.regs, .hlk, .ras]
  | .rasVinject => [.regs, .hlk, .mem, .red]
  | .rasLoadgateWrite _ => [.rst, .regs, .hlk, .cores, .mem, .red, .ras, .free]
  | .tlmPersistNow _ => [.regs, .snaps, .hlk, .ras]
  | .tlmPersistPeriodic _ => [.regs, .snaps, .hlk, .ras]
  | .tlmHistSample _ _ _ => [.regs, .hlk]
  | .wellheadSramUe => [.regs, .hlk, .ras, .sec, .free]
  | .wellheadBoot => [.rst, .regs, .snaps, .hlk, .launches, .cores, .shoals, .sram, .sramUe, .mem, .queues, .act, .shl, .fab, .red, .ras, .sec, .free]
  | .fwTrialConfirm => [.regs, .hlk, .sec]
  | .getVersion _ _ => [.regs, .hlk, .sec, .free]
  | .getCapabilities _ _ => [.regs, .hlk, .sec, .free]
  | .negotiateAlgorithms _ _ => [.regs, .hlk, .sec, .free]
  | .getDigests _ _ => [.regs, .hlk, .sec, .free]
  | .getCertificate _ _ => [.regs, .hlk, .sec, .free]
  | .challenge _ _ => [.regs, .hlk, .sec, .free]
  | .getMeasurements _ _ => [.regs, .hlk, .sec, .free]
  | .spdmUnsupportedRequest _ _ => [.regs, .hlk, .sec, .free]
  | .mbxBadOpcode _ _ _ => [.rst, .regs, .snaps, .hlk, .launches, .cores, .shoals, .sram, .sramUe, .mem, .queues, .act, .shl, .fab, .red, .ras, .sec, .free]
  | .notReadyTimeout _ => [.hlk]
  | .inletDeratingEnd _ => [.power, .regs]

end Sys2Proof
end

