-- ==== Sys2Proof/Claims.lean ====
section
/-! DEFINITION. The words that claims are written in: what it means that a shoal issues an instruction word, what a lane instruction
changes, and the like. -/

namespace Sys2Proof.Machine

/-! ### Septoon: one word issued by a shoal -/

/-- The shoal in a slot of a processor waits for nothing at a word of this CLASS and OP, and a word stands after it. -/
structure Issues (s : State) (p t cls op : Nat) (th : Thr) : Prop where
  ready : s.thrAt p t = some th
  cls : th.cls = cls
  op : th.op = op
  next : th.x.pc + 1 < th.len

/-- Register r of a lane after what an instruction does there, from its value before. -/
def LaneW.regAfter (w : LaneW) (r : Nat) (old : W32) : W32 := w.regs.foldl (fun v e => if e.1 = r then e.2 else v) old

/-- Predicate n of a lane after what an instruction does there; p0 stays (R178). -/
def LaneW.predAfter (w : LaneW) (n : Nat) (old : Bool) : Bool :=
  match w.pred with
  | some (m, v) => if m = n ∧ n ≠ 0 then v else old
  | none => old

/-- Every sticky flag that the executing lanes set. -/
def laneUnion (ls : List Nat) (f : Nat → LaneW) : Nat := ls.foldl (fun a l => a ||| (f l).fl) 0

/-- From s to u a lane instruction of a shoal did `f` in its executing lanes and nothing else (R180, R193, R194): their registers,
predicates and sticky flags are as `f` says; every other lane's, slot's and processor's are unchanged; the shoal stands at the next word
with the flags of its lanes gathered, in its own word and in the launch word; only issue and flag counters change besides. -/
structure LaneEffect (s u : State) (p t : Nat) (th : Thr) (f : Nat → LaneW) : Prop where
  regs : ∀ l r, l < 32 → r < 64 → u.reg p t l r = if l ∈ s.lanes th then (f l).regAfter r (s.reg p t l r) else s.reg p t l r
  preds : ∀ l n, l < 32 → n < 8 →
    u.predOf p t l n = if l ∈ s.lanes th then (f l).predAfter n (s.predOf p t l n) else s.predOf p t l n
  flags : ∀ l, l < 32 →
    u.laneFlags p t l = if l ∈ s.lanes th then s.laneFlags p t l ||| BitVec.ofNat 4 (f l).fl else s.laneFlags p t l
  others : ∀ q v l, q * 32 + v ≠ p * 32 + t → l < 32 → (∀ r, r < 64 → u.reg q v l r = s.reg q v l r) ∧
    (∀ n, u.predOf q v l n = s.predOf q v l n) ∧ u.laneFlags q v l = s.laneFlags q v l
  shoal : ∀ q v, u.shoal q v = if q * 32 + v = p * 32 + t then
    some { th.x with pc := th.x.pc + 1, flags := th.x.flags ||| BitVec.ofNat 4 (laneUnion (s.lanes th) f) } else s.shoal q v
  word : p < 2304 → u.launchWord p th.x.fill = (s.launchWord p th.x.fill ||| laneUnion (s.lanes th) f) % 16
  frame : Same [.gpr, .preds, .lflags, .shoals, .cores, .regs, .hlk] s u

/-- A row of R181's table: a command, its CLASS and OP, and what the instruction does in an executing lane. -/
structure LaneRow where
  cmd : Nat → Nat → Check → Instr
  cls : Nat
  op : Nat
  f : State → Thr → Nat → LaneW

/-- Issued without a checker fault, the row's command completes with the row's effect. -/
def LaneRow.Completes (x : LaneRow) : Prop :=
  ∀ s p t th, Issues s p t x.cls x.op th → ∃ u, exec (x.cmd p t .ok) s = .next u ∧ LaneEffect s u p t th (x.f s th)

/-- SA, SB and SC of a lane. -/
def opA (s : State) (th : Thr) (l : Nat) : W32 := s.reg th.p th.t l th.sa
def opB (s : State) (th : Thr) (l : Nat) : W32 := s.reg th.p th.t l th.sb
def opC (s : State) (th : Thr) (l : Nat) : W32 := s.reg th.p th.t l th.sc
/-- IMM32 as a register value. -/
def opI (th : Thr) : W32 := BitVec.ofNat 32 th.imm32
/-- A predicate of a lane by a register field's bits [2:0]. -/
def opP (s : State) (th : Thr) (l r : Nat) : Bool := s.predOf th.p th.t l (r % 8)

/-- The high word of a product (R181): unsigned, or signed. -/
def mulHigh (sg : Bool) (a b : W32) : W32 :=
  if sg then ((a.signExtend 64 * b.signExtend 64) >>> 32).setWidth 32 else ((a.setWidth 64 * b.setWidth 64) >>> 32).setWidth 32

/-- Minimum and maximum of R181: unsigned, or signed. -/
def minOf (sg : Bool) (a b : W32) : W32 := if (if sg then b.slt a else b.ult a) then b else a
def maxOf (sg : Bool) (a b : W32) : W32 := if (if sg then a.slt b else a.ult b) then b else a

/-- Class 0x1 of R181: the R-form takes SB and its sign from MOD[16], the I-form IMM32 and its sign from bit 32 (R179). -/
def integerRows : List LaneRow :=
  [⟨.iadd, 1, 0x00, fun s th l => .reg th.dst (opA s th l + opB s th l)⟩,
   ⟨.isub, 1, 0x01, fun s th l => .reg th.dst (opA s th l - opB s th l)⟩,
   ⟨.imul, 1, 0x02, fun s th l => .reg th.dst (opA s th l * opB s th l)⟩,
   ⟨.imulh, 1, 0x03, fun s th l => .reg th.dst (mulHigh (th.w.testBit 16) (opA s th l) (opB s th l))⟩,
   ⟨.and, 1, 0x04, fun s th l => .reg th.dst (opA s th l &&& opB s th l)⟩,
   ⟨.or, 1, 0x05, fun s th l => .reg th.dst (opA s th l ||| opB s th l)⟩,
   ⟨.xor, 1, 0x06, fun s th l => .reg th.dst (opA s th l ^^^ opB s th l)⟩,
   ⟨.shl, 1, 0x07, fun s th l => .reg th.dst (opA s th l <<< ((opB s th l).toNat % 32))⟩,
   ⟨.shr, 1, 0x08, fun s th l => .reg th.dst (opA s th l >>> ((opB s th l).toNat % 32))⟩,
   ⟨.sar, 1, 0x09, fun s th l => .reg th.dst ((opA s th l).sshiftRight ((opB s th l).toNat % 32))⟩,
   ⟨.imin, 1, 0x0A, fun s th l => .reg th.dst (minOf (th.w.testBit 16) (opA s th l) (opB s th l))⟩,
   ⟨.imax, 1, 0x0B, fun s th l => .reg th.dst (maxOf (th.w.testBit 16) (opA s th l) (opB s th l))⟩,
   ⟨.sel, 1, 0x0C, fun s th l => .reg th.dst (if opP s th l th.imm16 then opA s th l else opB s th l)⟩] ++
  [⟨.iaddImm, 1, 0x80, fun s th l => .reg th.dst (opA s th l + opI th)⟩,
   ⟨.isubImm, 1, 0x81, fun s th l => .reg th.dst (opA s th l - opI th)⟩,
   ⟨.imulImm, 1, 0x82, fun s th l => .reg th.dst (opA s th l * opI th)⟩,
   ⟨.imulhImm, 1, 0x83, fun s th l => .reg th.dst (mulHigh (th.w.testBit 32) (opA s th l) (opI th))⟩,
   ⟨.andImm, 1, 0x84, fun s th l => .reg th.dst (opA s th l &&& opI th)⟩,
   ⟨.orImm, 1, 0x85, fun s th l => .reg th.dst (opA s th l ||| opI th)⟩,
   ⟨.xorImm, 1, 0x86, fun s th l => .reg th.dst (opA s th l ^^^ opI th)⟩,
   ⟨.shlImm, 1, 0x87, fun s th l => .reg th.dst (opA s th l <<< (th.imm32 % 32))⟩,
   ⟨.shrImm, 1, 0x88, fun s th l => .reg th.dst (opA s th l >>> (th.imm32 % 32))⟩,
   ⟨.sarImm, 1, 0x89, fun s th l => .reg th.dst ((opA s th l).sshiftRight (th.imm32 % 32))⟩,
   ⟨.iminImm, 1, 0x8A, fun s th l => .reg th.dst (minOf (th.w.testBit 32) (opA s th l) (opI th))⟩,
   ⟨.imaxImm, 1, 0x8B, fun s th l => .reg th.dst (maxOf (th.w.testBit 32) (opA s th l) (opI th))⟩,
   ⟨.movi, 1, 0x8D, fun _ th _ => .reg th.dst (opI th)⟩]

/-- A lane that writes an FP result with the flags it sets. -/
def fpLane (th : Thr) (r : FRes) : LaneW := .reg th.dst (BitVec.ofNat 32 r.bits) r.fl

/-- SA of an FP32 instruction: its absolute value by MOD[22], then negated by MOD[20] (R181). -/
def fpA (s : State) (th : Thr) (l : Nat) : Nat :=
  (((opA s th l &&& (if th.w.testBit 22 then 0x7FFFFFFF else 0xFFFFFFFF)) ^^^ (if th.w.testBit 20 then 0x80000000 else 0)) : W32).toNat

/-- SC of FFMA, negated by MOD[21] (R181). -/
def fpC (s : State) (th : Thr) (l : Nat) : Nat := (opC s th l ^^^ (if th.w.testBit 21 then 0x80000000 else 0)).toNat

/-- A half of a register. -/
def halfOf (hi : Bool) (v : W32) : Nat := if hi then v.toNat / 65536 else v.toNat % 65536

/-- A packed instruction (R185): both halves, low half first, in BF16 or, with MOD[16], FP16. -/
def packedLane (th : Thr) (g : List Num → Num) (vs : List W32) : LaneW :=
  let r (hi : Bool) : FRes := fpOp (if th.w.testBit 16 then fmtFp16 else fmtBf16) th.old g (vs.map (halfOf hi))
  .reg th.dst (BitVec.ofNat 32 ((r true).bits * 65536 + (r false).bits)) ((r false).fl ||| (r true).fl)

/-- Classes 0x2, 0x3 and 0x4 of R181, over the arithmetic of R183 to R185 (R205 in a 2.x kernel). -/
def floatRows : List LaneRow :=
  [⟨.fadd, 2, 0x00, fun s th l => fpLane th (fadd th.old (fpA s th l) (opB s th l).toNat)⟩,
   ⟨.fmul, 2, 0x01, fun s th l => fpLane th (fmul th.old (fpA s th l) (opB s th l).toNat)⟩,
   ⟨.ffma, 2, 0x02, fun s th l => fpLane th (ffma th.old (fpA s th l) (opB s th l).toNat (fpC s th l))⟩,
   ⟨.fmin, 2, 0x03, fun s th l => fpLane th (fmin th.old (fpA s th l) (opB s th l).toNat)⟩,
   ⟨.fmax, 2, 0x04, fun s th l => fpLane th (fmax th.old (fpA s th l) (opB s th l).toNat)⟩,
   ⟨.faddi, 2, 0x80, fun s th l => fpLane th (fadd th.old (opA s th l).toNat th.imm32)⟩,
   ⟨.fmuli, 2, 0x81, fun s th l => fpLane th (fmul th.old (opA s th l).toNat th.imm32)⟩,
   ⟨.hadd2, 3, 0x00, fun s th l => packedLane th (fun v => (argN v 0).add (argN v 1)) [opA s th l, opB s th l]⟩,
   ⟨.hmul2, 3, 0x01, fun s th l => packedLane th (fun v => (argN v 0).mul (argN v 1)) [opA s th l, opB s th l]⟩,
   ⟨.hfma2, 3, 0x02, fun s th l =>
      packedLane th (fun v => (argN v 0).fma (argN v 1) (argN v 2)) [opA s th l, opB s th l, opC s th l]⟩] ++
  [⟨.exp2, 4, 0x00, fun s th l => fpLane th (transOp th.old 0 (opA s th l).toNat)⟩,
   ⟨.log2, 4, 0x01, fun s th l => fpLane th (transOp th.old 1 (opA s th l).toNat)⟩,
   ⟨.rcp, 4, 0x02, fun s th l => fpLane th (transOp th.old 2 (opA s th l).toNat)⟩,
   ⟨.rsqrt, 4, 0x03, fun s th l => fpLane th (transOp th.old 3 (opA s th l).toNat)⟩,
   ⟨.sqrt, 4, 0x04, fun s th l => fpLane th (transOp th.old 4 (opA s th l).toNat)⟩,
   ⟨.tanh, 4, 0x05, fun s th l => fpLane th (transOp th.old 5 (opA s th l).toNat)⟩,
   ⟨.sint, 4, 0x06, fun s th l => fpLane th (transOp th.old 6 (opA s th l).toNat)⟩,
   ⟨.cost, 4, 0x07, fun s th l => fpLane th (transOp th.old 7 (opA s th l).toNat)⟩]

/-- A signed or unsigned comparison under a condition of R181: 0 EQ, 1 NE, 2 LT, 3 LE, 4 GT, 5 GE. -/
def intCond (c : Nat) (sg : Bool) (a b : W32) : Bool :=
  let lt (x y : W32) : Bool := if sg then x.slt y else x.ult y
  match c with
  | 0 => a = b
  | 1 => a ≠ b
  | 2 => lt a b
  | 3 => !lt b a
  | 4 => lt b a
  | 5 => !lt a b
  | _ => false

/-- The shoal's lanes whose predicate is 1 among those that execute, as a mask (R181). -/
def voteMask (s : State) (th : Thr) : W32 :=
  (s.lanes th).foldl (fun m l => if opP s th l th.sa then m ||| BitVec.ofNat 32 (2 ^ l) else m) 0

/-- Class 0x5 of R181, and the reads of class 0xD. -/
def predicateRows : List LaneRow :=
  [⟨.fsetp, 5, 0, fun s th l =>
      let r := State.fsetpOf th.old (nfld th.w 19 16) (opA s th l).toNat (opB s th l).toNat
      .setp (th.dst % 8) r.1 r.2⟩,
   ⟨.isetp, 5, 1, fun s th l => .setp (th.dst % 8) (intCond (nfld th.w 19 16) (th.w.testBit 20) (opA s th l) (opB s th l))⟩,
   ⟨.pand, 5, 2, fun s th l => .setp (th.dst % 8) (opP s th l th.sa && (opP s th l th.sb ^^ th.w.testBit 16))⟩,
   ⟨.por, 5, 3, fun s th l => .setp (th.dst % 8) (opP s th l th.sa || (opP s th l th.sb ^^ th.w.testBit 16))⟩,
   ⟨.pxor, 5, 4, fun s th l => .setp (th.dst % 8) (opP s th l th.sa ^^ (opP s th l th.sb ^^ th.w.testBit 16))⟩,
   ⟨.vote, 5, 5, fun s th _ => .reg th.dst (voteMask s th)⟩,
   ⟨.pbit, 5, 6, fun s th l => .setp (th.dst % 8) ((opA s th l).toNat.testBit (th.imm16 % 32))⟩]

/-- The tree of RSUM, RMAX and RMIN over the 32 lanes (R188); `n` is 0, 1 or 2. -/
def shoalTree (s : State) (th : Thr) (n : Nat) : Nat × Nat :=
  State.tree5 (State.redNode th.old n) ((List.range 32).map fun l =>
    if l ∈ s.lanes th then ((opA s th l).toNat, true) else (State.redFill n, false))

/-- Class 0x8 of R181 and R188, and SREG, SFRD, SFSET and M40FMA. -/
def crossRows : List LaneRow :=
  [⟨.shfl, 8, 0, fun s th l => .reg th.dst (opA s th ((opB s th l).toNat % 32))⟩,
   ⟨.shflx, 8, 1, fun s th l => .reg th.dst (opA s th (l ^^^ (th.imm16 % 32)))⟩,
   ⟨.rsum, 8, 2, fun s th _ => .reg th.dst (BitVec.ofNat 32 (shoalTree s th 0).1) (shoalTree s th 0).2⟩,
   ⟨.rmax, 8, 3, fun s th _ => .reg th.dst (BitVec.ofNat 32 (shoalTree s th 1).1) (shoalTree s th 1).2⟩,
   ⟨.rmin, 8, 4, fun s th _ => .reg th.dst (BitVec.ofNat 32 (shoalTree s th 2).1) (shoalTree s th 2).2⟩,
   ⟨.risum, 8, 5, fun s th _ => .reg th.dst (((s.lanes th).map (opA s th)).foldl (· + ·) 0)⟩,
   ⟨.sreg, 0xD, 0, State.sregLane⟩,
   ⟨.sfrd, 0xD, 1, fun s th l => .reg th.dst (BitVec.ofNat 32 (s.laneFlags th.p th.t l).toNat)⟩,
   ⟨.sfset, 0xD, 3, fun _ _ _ => { regs := [], pred := none, fl := 8 }⟩]

/-! ### Septoon: memory -/

/-- Local address of a load or store: SA plus the signed IMM16, modulo 2^32 (R181). -/
def localAddr (s : State) (th : Thr) (l : Nat) : Nat := (opA s th l + (BitVec.ofNat 16 th.imm16).signExtend 32).toNat

/-- The local range of n bytes is aligned to m, lies in the shoal's region (R120, R187) and holds no uncorrectable word (R389). -/
def Readable (s : State) (th : Thr) (m n a : Nat) : Prop :=
  a % m = 0 ∧ a + n ≤ (s.thRegion th).2 ∧ s.srUe th.p ((s.thRegion th).1 + a) n = false

/-- The local range of n bytes is aligned to m and lies in the shoal's region. -/
def Writable (s : State) (th : Thr) (m n a : Nat) : Prop := a % m = 0 ∧ a + n ≤ (s.thRegion th).2

/-- SRAM bytes of the shoal's region, as a value. -/
def localRead (s : State) (th : Thr) (a n : Nat) : Nat := leNat (s.srRead th.p ((s.thRegion th).1 + a) n)

/-- A load of R181 or R190: its command, CLASS, OP, and the registers that an executing lane receives. -/
def loadRows : List (LaneRow × (State → Thr → Nat → Prop)) :=
  [(⟨.ld8, 7, 0, fun s th l => .reg th.dst (BitVec.ofNat 32 (localRead s th (localAddr s th l) 1))⟩,
      fun s th l => Readable s th 1 1 (localAddr s th l)),
   (⟨.ld16, 7, 1, fun s th l => .reg th.dst (BitVec.ofNat 32 (localRead s th (localAddr s th l) 2))⟩,
      fun s th l => Readable s th 2 2 (localAddr s th l)),
   (⟨.ld32, 7, 2, fun s th l => .reg th.dst (BitVec.ofNat 32 (localRead s th (localAddr s th l) 4))⟩,
      fun s th l => Readable s th 4 4 (localAddr s th l)),
   (⟨.ld64, 7, 3, fun s th l =>
        { regs := [(th.dst, BitVec.ofNat 32 (localRead s th (localAddr s th l) 4)),
                   (th.dst + 1, BitVec.ofNat 32 (localRead s th (localAddr s th l + 4) 4))], pred := none, fl := 0 }⟩,
      fun s th l => Readable s th 8 8 (localAddr s th l) ∧ th.dst % 2 = 0),
   (⟨.ldm40, 0xC, 0, fun s th l =>
        { regs := [(th.dst, BitVec.ofNat 32 (localRead s th (opA s th l).toNat 4)),
                   (th.dst + 1, BitVec.ofNat 32 (localRead s th (opB s th l).toNat 1))], pred := none, fl := 0 }⟩,
      fun s th l => Readable s th 4 4 (opA s th l).toNat ∧ Readable s th 1 1 (opB s th l).toNat ∧ th.dst % 2 = 0)]

/-- A store of R181 or R190: command, CLASS, OP, and the pieces (local address, bytes) that a lane stores, in order. -/
structure StoreRow where
  cmd : Nat → Nat → Check → Instr
  cls : Nat
  op : Nat
  ok : State → Thr → Nat → Prop
  pieces : State → Thr → Nat → List (Nat × Bytes)

def storeRows : List StoreRow :=
  [⟨.st8, 7, 4, fun s th l => Writable s th 1 1 (localAddr s th l),
      fun s th l => [(localAddr s th l, natBytes 1 (opB s th l).toNat)]⟩,
   ⟨.st16, 7, 5, fun s th l => Writable s th 2 2 (localAddr s th l),
      fun s th l => [(localAddr s th l, natBytes 2 (opB s th l).toNat)]⟩,
   ⟨.st32, 7, 6, fun s th l => Writable s th 4 4 (localAddr s th l),
      fun s th l => [(localAddr s th l, natBytes 4 (opB s th l).toNat)]⟩,
   ⟨.st64, 7, 7, fun s th l => Writable s th 8 8 (localAddr s th l),
      fun s th l => [(localAddr s th l, natBytes 4 (opB s th l).toNat ++ natBytes 4 (s.reg th.p th.t l (th.sb + 1)).toNat)]⟩,
   ⟨.stm40, 0xC, 1, fun s th l => Writable s th 4 4 (opA s th l).toNat ∧ Writable s th 1 1 (opB s th l).toNat,
      fun s th l => [((opA s th l).toNat, natBytes 4 (opC s th l).toNat),
                     ((opB s th l).toNat, natBytes 1 (s.reg th.p th.t l (th.sc + 1)).toNat)]⟩]

/-- The pieces that a shoal stores, by rising lane: a later one covers an earlier (R187). -/
def storedPieces (x : StoreRow) (s : State) (th : Thr) : List (Nat × Bytes) := ((s.lanes th).map (x.pieces s th)).flatten

/-- A byte of a list of pieces at a local address; the last piece that covers it counts. -/
def pieceByte (ps : List (Nat × Bytes)) (a : Nat) (old : Byte) : Byte :=
  ps.foldl (fun b e => if e.1 ≤ a ∧ a < e.1 + e.2.length then e.2.getD (a - e.1) 0 else b) old

/-- Only the issue is counted, and a shoal's slot holds another record. -/
def issuedAs (s : State) (th : Thr) (x : Option Shoal) : State := (s.countIssue th).setShoal th.p th.t x

/-- The shoal's record at the next word. -/
def Thr.atNext (th : Thr) : Shoal := { th.x with pc := th.x.pc + 1 }

/-- The commands of R181 that issue a word, with its CLASS and OP. -/
def issueRows : List ((Nat → Nat → Check → Instr) × Nat × Nat) :=
  (integerRows ++ floatRows ++ predicateRows ++ crossRows).map (fun x => (x.cmd, x.cls, x.op)) ++
  loadRows.map (fun x => (x.1.cmd, x.1.cls, x.1.op)) ++ storeRows.map (fun x => (x.cmd, x.cls, x.op)) ++
  [(.nop, 0, 0), (.endThread, 0, 1), (.bar, 0, 2), (.efset, 0, 3), (.efclr, 0, 4), (.efwait, 0, 5), (.efwaitc, 0, 6),
   (.braAny, 0, 0x81), (.braAll, 0, 0x82), (.braNone, 0, 0x83), (.cvt, 6, 0), (.mma, 9, 0), (.sqpush, 0xA, 0), (.sqsync, 0xA, 1),
   (.chain, 0xB, 0), (.m40fma, 0xC, 2), (.sfclr, 0xD, 2), (.cvtctx, 0xD, 4)]

/-- The fault code that a checker's outcome gives a thread (R192). -/
def checkerFault : Check → Option Nat
  | .ok => none
  | .residue => some 0x28
  | .parity | .regParity => some 0x29
  | .fetchParity => some 0x20

/-- The threads of a shoal that have ended once its executing lanes end (R117). -/
def endedAfter (s : State) (th : Thr) : BitVec 32 := (s.lanes th).foldl (fun m l => m ||| BitVec.ofNat 32 (2 ^ l)) th.x.ended

/-- The value that CVT and M40FMA write in DST: a pair for M40, else one register (R178, R186). -/
def convRegs (th : Thr) (c : Nat) (v : Nat) : List (Nat × W32) :=
  if c = 0x18 then [(th.dst, BitVec.ofNat 32 (v / 256)), (th.dst + 1, BitVec.ofNat 32 (v % 256))] else [(th.dst, BitVec.ofNat 32 v)]

/-- CVT of a lane whose destination takes no slot (R186): convert SA with the word's rounding and overflow modes. -/
def cvtLane (s : State) (th : Thr) (l : Nat) : LaneW :=
  let r := convert (nfld th.w 7 0) (nfld th.w 17 16) (nfld th.w 19 18)
    (s.thRand th (nfld th.w 17 16) (nfld th.w 23 20) (opB s th l).toNat) (s.cvtIn th l (nfld th.w 15 8) th.sa)
  { regs := convRegs th (nfld th.w 7 0) r.bits, pred := none, fl := r.fl }

/-! ### Registers -/

/-- BAR0 offset of a register on a block's page. -/
abbrev regAt (b : Blk) (i off : Nat) : Nat := pageBase b i + off

/-- No register changes but those at these offsets. -/
def RegsOnly (as : List Nat) (s u : State) : Prop := ∀ a, a ∉ as → u.rd a = s.rd a

/-- A field of a register has a new value and its other bits stay. -/
def FieldSet (s u : State) (b : Blk) (i off hi lo v : Nat) : Prop := u.rd (regAt b i off) = putFld (s.rd (regAt b i off)) hi lo v

/-- An EVENT bit of a page is set and its other bits stay. -/
def EventSet (s u : State) (b : Blk) (i n : Nat) : Prop := FieldSet s u b i Off.event n n 1

/-- An event counter, not yet full, went up by n. -/
def Counted (s u : State) (b : Blk) (i off n : Nat) : Prop :=
  (s.rd (regAt b i off)).toNat + n < 2 ^ 64 → (u.rd (regAt b i off)).toNat = (s.rd (regAt b i off)).toNat + n

/-! ### Power -/

/-- Bit n of DEV_PWRCTL's latched conditions is set, its other bits stay, and POWER is raised where the bit changed (R19). -/
def PwrLatched (s u : State) (n : Nat) : Prop :=
  FieldSet s u .dev 0 Off.devPwrctl n n 1 ∧
  u.rd (regAt .dev 0 Off.event) =
    if s.g .dev 0 Off.devPwrctl n n = 1 then s.rd (regAt .dev 0 Off.event) else putFld (s.rd (regAt .dev 0 Off.event)) Ev.devPower Ev.devPower 1

/-- Nothing that the die holds is left: retained and core memory, the die's own memory, kernels, launches, queues, ledgers, jobs,
threads, rings and translations (R24, R33). -/
structure DieLost (u : State) : Prop where
  retained : u.retained = []
  work : u.kernels = [] ∧ u.loads = [] ∧ u.launches = [] ∧ u.queues = [] ∧ u.act = [] ∧ u.shl = []
  threads : u.shoals = [] ∧ u.gpr = [] ∧ u.preds = [] ∧ u.lflags = []
  sram : u.sram = [] ∧ u.sramUe = []
  mem : u.mem.slices = [] ∧ u.mem.faults = [] ∧ ∀ e ∈ u.mem.bytes, 0x10000000000000 ≤ e.1
  rings : u.hlk.rings = [] ∧ u.hlk.mbx = none
  notReady : u.rst.ready1 = 0 ∧ u.rst.ready2 = 0 ∧ u.rst.blk = []

/-- The main converters are off and the transmitters dark; if the rails were up, the die has lost what it held (R18, R22, R24). -/
def ConvertersOff (s u : State) : Prop :=
  u.power.converters = false ∧ u.power.rails = false ∧ u.power.txOn = false ∧ u.power.debounce = false ∧
  (s.power.rails = true → DieLost u)

/-- VIN_MV, VIN_LOW and VIN_HIGH as a measured input voltage gives them (R15, R19). -/
def VinShown (u : State) (mv : Nat) : Prop :=
  u.g .dev 0 Off.devInput 63 48 = mv ∧
  (u.g .dev 0 Off.devPwrctl 2 2 = 1 ↔ u.power.uvHeld = false ∧ 28500 ≤ mv ∧ mv < 30000) ∧
  (u.g .dev 0 Off.devPwrctl 3 3 = 1 ↔ u.power.ovHeld = false ∧ 40000 < mv ∧ mv ≤ 41500)

/-- The parts that the loss or the clearing of the die touches. -/
def dieParts : List Part :=
  [.power, .rst, .jrn, .regs, .snaps, .retained, .hlk, .kernels, .loads, .launches, .cores, .shoals, .gpr, .preds, .lflags, .sram,
   .sramUe, .mem, .queues, .act, .shl, .fab, .red, .scale, .ras, .free]

/-- A trip: the converters turn off, its bit is latched, and a drain that runs ends ready to remove (R15, R18, R25). -/
def Tripped (s u : State) (n : Nat) : Prop :=
  ConvertersOff s u ∧ u.g .dev 0 Off.devPwrctl n n = 1 ∧ Same dieParts s u ∧
  (s.power.drain = .running → u.power.drain = .done ∧ u.g .dev 0 Off.devPwrctl 1 0 = 2)

/-- The registers that a thermal response writes. -/
def thermalRegs : List Nat := [regAt .dev 0 Off.devTherm, regAt .dev 0 Off.devPwrctl, regAt .dev 0 Off.event]

/-! ### Resets -/

/-- The same state with other reset requests. -/
def withReqs (s : State) (l : List RstReq) : State := { s with rst := { s.rst with reqs := l } }

/-- A page's Block reset has started: READY is 0 and RESET reads 1 (R60). -/
def BlkHeld (u : State) (b : Blk) (i : Nat) : Prop := u.ready b i = false ∧ tget u.rst.blk noBlk (pageBase b i) = .running

/-- No reset holds a page, and none of it is asked for. -/
def BlkFree (s : State) (b : Blk) (i : Nat) : Prop := s.coveredPage b i = false ∧ tget s.rst.blk noBlk (pageBase b i) = noBlk

/-- The pages that satisfy `p` hold their reset columns' numbers: the Warm column, or the Cold one (R33, R34). -/
def Columns (u : State) (warm : Bool) (p : Blk → Nat → Prop) : Prop :=
  ∀ b i off r k f n, p b i → i < pageCount b → RegMap.find b off = some (r, k) → f ∈ r.flds → (if warm then f.warm else f.cold) = .val n →
    u.g b i off f.hi f.lo = n % 2 ^ (f.hi + 1 - f.lo)

/-- Pages whose registers the units of reset themselves write as a reset runs. -/
def ownPages : List Blk := [.dev, .rcc, .ras, .tlm, .sec]

/-- The processors that satisfy `p` hold zeros (R33). -/
structure ProcsZero (u : State) (p : Nat → Prop) : Prop where
  sram : ∀ c a, p c → a < 0x100000 → tget u.sram 0 (State.srKey c a) = 0
  regs : ∀ c t l r, p c → t < 32 → l < 32 → r < 64 → u.reg c t l r = 0
  shoals : ∀ c t, p c → t < 32 → u.shoal c t = none

/-! ### Steps and commits -/

/-- The step is over: STATE 0, the journal is IDLE, nothing is held or being resolved (R48, R363). -/
def StepOver (u : State) : Prop :=
  u.redState = 0 ∧ u.phase = 0 ∧ u.jrn = { due := false, resolving := false, held := false, resend := false }

/-- A commit has ended: LAST_STEP is JRN_STEP, and the staged bank is current (R48, R370). -/
def CommitOver (s u : State) : Prop :=
  StepOver u ∧ u.rd (regAt .rcc 0 Off.rccBkp1) = s.rd (regAt .rcc 0 Off.rccBkp2) ∧ u.curBank = s.stageBank

/-- A skip has ended: LAST_STEP stays, and no bank flips (R48, R366). -/
def SkipOver (s u : State) : Prop :=
  StepOver u ∧ u.rd (regAt .rcc 0 Off.rccBkp1) = s.rd (regAt .rcc 0 Off.rccBkp1) ∧ u.curBank = s.curBank

/-- A commit is held (R51). -/
def CommitHeld (u : State) : Prop :=
  u.jrn.held = true ∧ u.g .rcc 0 Off.rccJrnCtrl 1 1 = 1 ∧ u.g .rcc 0 Off.event Ev.rccJournalPending Ev.rccJournalPending = 1

/-- The units, the channels with a DIMM and the reduction block are READY (R38). -/
def ResolutionReady (s : State) : Prop :=
  (∀ n, n < 12 → s.ready .inl n = true ∧ s.ready .shr n = true) ∧
  (∀ c, c < 24 → s.ready .mem c = true ∨ s.g .mem c Off.memInfo 2 0 = 4) ∧ s.ready .red 0 = true

/-! ### Register accesses, events and counters -/

/-- What happens on the vector when one message is due: the pending bit is set while it is masked, else the message leaves (R70). -/
def Messaged (s u : State) (v : Nat) : Prop :=
  if (s.msixEntry v).masked then
    (∀ w, u.msixEntry w = if w = v then { s.msixEntry v with pend := true } else s.msixEntry w) ∧ u.hlk.outbox = s.hlk.outbox
  else u.hlk = { s.hlk with outbox := s.hlk.outbox ++ [.msix v] }

/-- A field after a full write of v, by its access code (R6). -/
def fieldAfter (f : Fld) (old v : Nat) : Nat :=
  match f.acc with
  | .rw | .rwl => v
  | .w1c => old - (old &&& v)
  | .ro | .wo | .w1s | .ros => old

/-- A refused access: DEV_BADADDR records it, the DEV event of its cause is set, TLM counts it, and nothing else changes (R54, R78). -/
structure AccessRefused (s u : State) (wh write : Bool) (cause a : Nat) : Prop where
  record : u.rd (regAt .dev 0 Off.devBadaddr) =
    BitVec.ofNat 64 ((if write then 2 ^ 63 else 0) + (if wh then 2 ^ 62 else 0) + cause * 2 ^ 56 + a % 2 ^ 26)
  event : EventSet s u .dev 0 cause
  count : Counted s u .tlm 0 (0x200 + 8 * 22) 1
  regs : ∀ b i off, b ≠ .dev → b ≠ .tlm → i < pageCount b → off < 0x1000 → u.rd (regAt b i off) = s.rd (regAt b i off)
  frame : Same [.regs, .hlk] s u

/-! ### Memory bytes -/

/-- The byte of memory at an MPA. -/
def memByte (s : State) (a : Nat) : Byte := tget s.mem.bytes 0 a

/-- Bytes are stored at an MPA and every other byte of memory stays. -/
def StoredAt (s u : State) (a : Nat) (bs : Bytes) : Prop :=
  ∀ x, memByte u x = if a ≤ x ∧ x < a + bs.length then bs.getD (x - a) 0 else memByte s x

/-! ### The host link and its rings -/

/-- A version is the one that R66 chooses for an interface: accepted by both sides, and the highest such code. -/
def Chosen (s : State) (n : Nat) (their : Nat → Prop) (v : Nat) : Prop :=
  v ∈ s.mine n ∧ their v ∧ ∀ c, c ∈ s.mine n → their c → c ≤ v

/-- The command of a ring that is next to start: the ring is open, its oldest unstarted command has this opcode, and with FENCE every
earlier command has completed (R95, R97). -/
structure HeadIs (s : State) (r op : Nat) (c : Cmd) : Prop where
  open_ : (s.ring r).st = 1
  going : (s.ring r).closing = false
  next : (s.ring r).cmds.find? (·.fetched) = some c
  op : c.op.toNat = op
  fence : c.fenced = true → (s.ring r).cmds.head?.map (·.uid) = some c.uid

/-- A ring with the phase of one command changed. -/
def Ring.withPhase (x : Ring) (uid : Nat) (ph : CmdPhase) : Ring :=
  { x with cmds := x.cmds.map fun c => if c.uid = uid then { c with phase := ph } else c }

/-- The command of a ring takes a phase; every other command and ring stays. -/
def CmdNow (s u : State) (r uid : Nat) (ph : CmdPhase) : Prop :=
  ∀ q, u.ring q = if q = r then (s.ring r).withPhase uid ph else s.ring q

/-- The command of a ring ends with a STATUS and RESULT (R98). -/
def CmdEnds (s u : State) (r uid status : Nat) (result : Word) : Prop :=
  CmdNow s u r uid (.finished (BitVec.ofNat 16 status) result)

/-! ### The mailbox -/

/-- The mailbox takes a command: MBX is READY and not quiesced, no command is in flight, the wellhead runs its firmware (R101). -/
structure MbxFree (s : State) : Prop where
  ready : s.ready .mbx 0 = true
  idle : s.g .mbx 0 Off.mbxCmd 63 63 = 0
  going : s.quiet .mbx 0 = false
  running : s.sec.running = true
  whole : s.sec.recovery = false

/-- The command has been taken and answered: its STATUS and response wait, GO is 1 and DONE is 0 (R101). -/
structure MbxHas (u : State) (op : Nat) (seq : BitVec 16) (status : Nat) (bs : Bytes) : Prop where
  answer : u.hlk.mbx = some { op := BitVec.ofNat 16 op, seq := seq, answer := some (BitVec.ofNat 16 status, bs) }
  go : u.g .mbx 0 Off.mbxCmd 63 63 = 1
  done : u.g .mbx 0 Off.mbxResp 63 63 = 0

end Sys2Proof.Machine
end

