-- ==== Sys2Proof/UnitClaims.lean ====
section
/-! DEFINITION. More words that claims are written in: the units that chapters 6, 7, 9 to 18 describe. -/

namespace Sys2Proof.Machine

/-! ### Failure records -/

/-- While the log has room, one failure record of a source page and KIND is appended to it (R405, R407). -/
def Recorded (s u : State) (source inst kind : Nat) : Prop :=
  s.ras.pending.length < 199 →
    ∃ r : FRec, u.ras.pending = s.ras.pending ++ [r] ∧ r.source = source ∧ r.inst = inst ∧ r.kind = kind ∧ r.seq = s.ras.nextSeq

/-! ### Firmware, debug and attestation -/

/-- SEC_BOOT after the wellhead starts an image from a slot (R430). -/
def BootShown (s u : State) (slot fallback trial : Bool) : Prop :=
  u.g .sec 0 Off.secBoot 63 32 = hdrAt (s.slotImg slot) 8 4 ∧ u.g .sec 0 Off.secBoot 31 24 = hdrAt (s.slotImg slot) 12 1 ∧
  u.g .sec 0 Off.secBoot 0 0 = (if slot then 1 else 0) ∧ u.g .sec 0 Off.secBoot 1 1 = (if trial then 1 else 0) ∧
  u.g .sec 0 Off.secBoot 2 2 = (if fallback then 1 else 0) ∧ u.g .sec 0 Off.secBoot 3 3 = 0

/-- The wellhead runs an image of a slot. -/
def Booted (s u : State) (m : FwMeta) (slot fallback trial : Bool) : Prop :=
  u.sec = { s.sec with fwMeta := m, running := true, recovery := false, trial := trial, restartDue := false, spdm := [] } ∧
  BootShown s u slot fallback trial ∧ (fallback = true → u.g .sec 0 Off.event Ev.secFwFallback Ev.secFwFallback = 1)

/-- The wellhead as a restart leaves it (R32). -/
def secDown (s : State) : Sec := { s.sec with running := false, trial := false, restartDue := false }

/-- The conditions of R428 on a debug token. -/
structure TokenAccepted (s : State) (t : Bytes) : Prop where
  magic : bsub t 0 4 = [0x5A, 0x44, 0x42, 0x47]
  scope : bat t 4 1 < 2
  slot : bat t 5 1 < 2
  reserved : bsub t 6 2 = [0, 0] ∧ bsub t 120 8 = [0, 0, 0, 0, 0, 0, 0, 0]
  device : leNat (bsub t 8 16) = Config.fuseUuid.toNat
  nonce : ∃ n, s.sec.nonce = some n ∧ bsub t 24 32 = bytes256 n
  key : tget s.sec.custKey none (bat t 5 1) = some (Config.sm3 (bsub t 56 64))
  live : s.sec.custRevoked.toNat.testBit (bat t 5 1) = false
  signature : Config.sm2Verify (bsub t 56 64) (bsub t 0 128) (bsub t 128 64) = true

/-- The responder takes a request on a transport: over DOE with the host link up and the wellhead running, on a Colsar link in
STATE 2 of a ready port (R425). -/
def SpdmHears (s : State) (x : Transport) (m : Bytes) : Prop :=
  s.sec.running = true ∧ 4 ≤ m.length ∧
  match x with
  | .host => s.hostConfig = true
  | .link l => (s.link l).st = 2 ∧ s.ready .fab (l / 2) = true ∧ m.length ≤ 2048

/-- The answer that leaves on a transport. -/
def SpdmAnswered (s u : State) (x : Transport) (r : Bytes) : Prop :=
  match x with
  | .host => u.hlk.outbox.getLast? = some (.spdm .host r)
  | .link l => ∃ k : Pkt, u.hlk.outbox.getLast? = some (.packet l k) ∧ k.typ = 0x10 ∧ k.dst = (s.link l).peer ∧ k.payload = 0x20 :: r

/-- A request is answered with r and leaves the transport's connection as c; it changes nothing outside the SEC unit, the registers, the
link and the free values. -/
def SpdmReplies (s : State) (c : Instr) (x : Transport) (r : Bytes) (v : Spdm) : Prop :=
  ∃ u, exec c s = .next u ∧ SpdmAnswered s u x r ∧ u.sec = (s.setConn x v).sec ∧ Same [.regs, .hlk, .sec, .free] s u

/-- A request is answered with the ERROR of a code and the connection stays. -/
def SpdmRefused (s : State) (c : Instr) (x : Transport) (code : Nat) : Prop :=
  ∃ u, exec c s = .next u ∧ SpdmAnswered s u x [0x12, 0x7F, BitVec.ofNat 8 code, 0] ∧ Same [.regs, .hlk] s u

/-! ### Launches, barriers and flags on cores -/

/-- A launch may start on a core: the core is READY, runs none of the class, and neither a partition write, a quiesce nor a swap holds it
(R111, R123, R125). -/
structure StartsOn (s : State) (c : Nat) (fill : Bool) : Prop where
  exists_ : c < 2304
  ready : s.ready .cor c = true
  idle : s.running c fill = none
  part : (s.core c).part = none
  going : s.quiet .cor c = false
  swap : (s.core c).swap = .none

/-- The entry registers of a thread (R116): the argument block's address, its thread's place, and the launch's shape. -/
def entryReg (x : Launch) (c k lane r : Nat) : W32 :=
  match r with
  | 0 => x.args.setWidth 32
  | 1 => (x.args >>> 32).setWidth 32 &&& 0x1FFFFFF
  | 2 => BitVec.ofNat 32 (c * 65536 + k * 32 + lane)
  | 3 => BitVec.ofNat 32 (x.targets.length * 65536 + (x.targets.filter (· < c)).length)
  | _ => 0

/-- The shoal that starts as number k of a launch. -/
def entryShoal (l : Nat) (x : Launch) (k : Nat) : Shoal :=
  { launch := l, fill := x.fill, idx := k, pc := x.kernel.entry, ended := 0, wait := .run, ctxTensor := 0, ctxSlot := none, flags := 0 }

/-- No shoal of a launch is in a core's slots, and no tile of it is in the core's matrix engine (R117). -/
def OverOn (s : State) (l c : Nat) : Prop :=
  (∀ t y, t < 32 → s.shoal c t = some y → y.launch ≠ l) ∧ (∀ y, (s.core c).mxRun = some y → y.launch ≠ l) ∧
  (∀ y, (s.core c).mxWait = some y → y.launch ≠ l) ∧ (∀ y, (s.core c).redOut = some y → y.launch ≠ l)

/-- A command of a ring has not ended. -/
def Unended (s : State) (r uid : Nat) : Prop := ∀ c ∈ (s.ring r).cmds, c.uid = uid → c.ended = false

/-- The shoals of a launch on a core have all arrived at a barrier, or ended (R126). -/
def ArrivedOn (s : State) (l : Nat) (x : Launch) (scope id d : Nat) : Prop :=
  d ∈ x.started ∧ ∀ t y, t < 32 → s.shoal d t = some y → y.launch = l → y.wait = .bar scope id

/-- A shoal once its wait is over. -/
def Shoal.going (y : Shoal) : Shoal := { y with wait := .run }

/-- No operation stands in a core's queues. -/
def NoStreams (s : State) (c : Nat) : Prop := ∀ k, k < 8 → s.queue (8 * c + k) = []

/-- A launch has ended on its cores with an error: its command ends with the status, and RESULT holds the cause, the core and a detail;
nothing of the launch is left, and other launches stay (R124). -/
def EndedAs (s u : State) (l : Nat) (x : Launch) (status cause c detail : Nat) : Prop :=
  u.launch? l = none ∧ CmdEnds s u x.ring x.uid status (BitVec.ofNat 64 (cause * 2 ^ 48 + c * 2 ^ 32 + detail)) ∧
  (∀ d ∈ x.targets, (∀ t y, t < 32 → u.shoal d t = some y → y.launch ≠ l) ∧ u.running d x.fill ≠ some l) ∧
  (∀ k, k ≠ l → u.launch? k = s.launch? k)

/-- A launch that can end: it is in the machine on known cores without stream operations, and its command has not ended. -/
def EndsCleanly (s : State) (l : Nat) (x : Launch) : Prop :=
  s.launch? l = some x ∧ (∀ d ∈ x.targets, d < 2304 ∧ NoStreams s d) ∧ Unended s x.ring x.uid

/-! ### The matrix engine -/

/-- The tile as it starts (R156, R165, R170, R171): its descriptor and mask are read, and the core's settings hold for it. -/
def tileStarted (s : State) (c : Nat) (t : Tile) (d : Bytes) (mask : Word) : Tile :=
  { t with mtd := d, started := true, mask := mask, skip := decide (mask = BitVec.allOnes 64), attempt := 0,
           headroom := s.g .cor c Off.corMxcfg 3 0, fp32 := decide (s.g .cor c Off.corMxcfg 8 8 = 1) }

/-- Every range that a tile descriptor names, and its mask, ends inside the launch's region. -/
def TileInside (s : State) (c : Nat) (t : Tile) (m : Mtd) : Prop :=
  ∀ r ∈ m.inRanges ++ m.outRanges ++ (if m.maskEn then [(t.maskAddr, 8)] else []), r.1 + r.2 ≤ (s.tileRegion c t).2

/-- A core's matrix engine holds another running tile; every other part of every core stays. -/
def EngineHolds (s u : State) (c : Nat) (run : Option Tile) : Prop :=
  ∀ d, u.core d = if d = c then { s.core c with mxRun := run } else s.core d

/-- The flags of a tile's values and of their conversion. -/
def tileFlagUnion (rows : List (Nat × List FRes)) (fl : Nat) : Nat := rows.foldl (fun a r => r.2.foldl (fun a x => a ||| x.fl) a) fl

/-! ### Memory, its channels, and the directory -/

/-- XLT takes a command: the page is READY and not quiesced, and no command runs (R227). -/
structure XltFree (s : State) : Prop where
  ready : s.ready .xlt 0 = true
  idle : s.g .xlt 0 Off.xltCmd 63 63 = 0
  going : s.quiet .xlt 0 = false

/-- A command of XLT has ended: RESULT and REFUSED are shown, GO is 0, and CMD_DONE is raised (R227). -/
structure XltEnded (u : State) (result refused : Nat) : Prop where
  result : u.g .xlt 0 Off.xltCmd 39 32 = result
  refused : u.g .xlt 0 Off.xltCmd 55 52 = refused
  go : u.g .xlt 0 Off.xltCmd 63 63 = 0
  done : u.g .xlt 0 Off.event Ev.xltCmdDone Ev.xltCmdDone = 1

/-- The slices that a command's SLICES field selects: all four when it is 0 (R227). -/
def Selected (m : BitVec 4) (k : Nat) : Prop := k < 4 ∧ (m = 0 ∨ m.toNat.testBit k = true)

/-- The slices change as told; no other slice does, and memory's bytes, poison and faults stay. -/
def SlicesNow (s u : State) (f : Nat → List Xent) : Prop :=
  (∀ k, u.slice k = f k) ∧ u.mem.bytes = s.mem.bytes ∧ u.mem.poison = s.mem.poison ∧ u.mem.faults = s.mem.faults

/-- No requester of the fabric is parked and no fault waits for a place in the host's queue. -/
def NothingWaits (s : State) : Prop := (∀ p, p < 48 → s.parkedAt p = []) ∧ ∀ f ∈ s.mem.faults, f.stage ≠ .hostWait

/-- A fault is known by its number, waits at a stage and holds nobody. -/
structure LoneFault (s : State) (f : XFault) (st : XStage) : Prop where
  mem : f ∈ s.mem.faults
  stage : f.stage = st
  single : (s.mem.faults.map (·.id)).Nodup
  free : f.holders = []

/-- A fault goes to the host with a kind (R230). -/
def SentToHost (s u : State) (f : XFault) (kind : Nat) : Prop :=
  (∀ g, g ∈ u.mem.faults ↔ g ∈ s.mem.faults ∧ g.id ≠ f.id ∨ g = { f with kind := kind, stage := .queued, round := f.round + 1 }) ∧
  u.g .xlt 0 Off.event Ev.xltHostFault Ev.xltHostFault = 1 ∧ Counted s u .xlt 0 (0x200 + 16) 1

/-! ### Stream operations -/

/-- The operation at the head of a queue has not started, and its hub takes it (R59, R234). -/
structure HeadOp (s : State) (q : Nat) (o : Op) : Prop where
  head : (s.queue q).head? = some o
  fresh : o.started = false
  ready : s.ready .sth (State.queueBasin q) = true
  going : s.opQuiet (State.queueBasin q) o = false
  window : o.windowOk = true
  only : ((s.queue q).map (·.id)).Nodup

/-- The operation is the only one in any queue. -/
def LoneOp (s : State) (q : Nat) (o : Op) : Prop := s.queues = [(q, [o])]

/-- The operation's record is now o'; every other operation and queue stays. -/
def OpNow (s u : State) (q : Nat) (o o' : Op) : Prop :=
  ∀ k, u.queue k = if k = q then (s.queue q).map (fun x => if x.id = o.id then o' else x) else s.queue k

/-- The operation runs to a poisoned tail with a cause from a chunk (R251). -/
def TailFrom (u : State) (q : Nat) (o : Op) (cause c : Nat) : Prop := ∃ o', u.op? q o.id = some o' ∧ o'.started = true ∧ o'.poison = some (cause, c)

/-- SRAM of a processor holds bytes at an address, and every other byte of SRAM stays. -/
def SramStored (s u : State) (p a : Nat) (bs : Bytes) : Prop :=
  ∀ d x, x < 0x100000 → tget u.sram 0 (State.srKey d x) =
    if d = p ∧ a ≤ x ∧ x < a + bs.length then bs.getD (x - a) 0 else tget s.sram 0 (State.srKey d x)

/-- A transfer of an operation has landed: it is in flight no more, and its range has arrived (R237). -/
def LandedIn (u : State) (q : Nat) (o : Op) (x : Xfer) : Prop :=
  ∃ o', u.queue q = [o'] ∧ o'.xfers = [] ∧ o'.landed = o.landed ++ [(x.off, x.len)] ∧ o'.poison = none

/-- A plain operation without an index or a fault that has one transfer in flight. -/
structure OneFlight (s : State) (q : Nat) (o : Op) (x : Xfer) : Prop where
  lone : LoneOp s q o
  codec : o.codec = 0
  flight : o.xfers = [x]
  clean : o.poison = none ∧ o.mark = none

/-- An operation that has done its chunks; no register write waits for it. -/
structure Finished (s : State) (q : Nat) (o : Op) : Prop where
  lone : LoneOp s q o
  codec : o.codec = 0
  started : o.started = true
  free : o.held = false
  done : o.chunks ≤ o.cursor
  quiet : s.rst.waiting = []

/-! ### The activation store -/

/-- The record that a save reserves (R268, R270). -/
def savedRec (s : State) (b slot t g n : Nat) (c : ActClass) (o : Op) : ARec :=
  { slot := slot, key := BitVec.ofNat 64 o.dstVa, step := o.step, hold := c.hold, gather := false, valid := false, poisoned := false,
    codec := c.codec, tier := t, va := s.poolVa b t + 65536 * g, t := o.total, stored := 0, gran := g, ngran := n, freeDue := false }

/-- Granules of 64 KiB that a save reserves: its worst stored size, and at least one (R268). -/
def granules (c : ActClass) (o : Op) : Nat := max 1 ((worstStored c.codec c.fmt o.total + 65535) / 65536)

/-- A save of a class without GATHER that passes the checks of R272 under a new key. -/
structure PlainSave (s : State) (q : Nat) (o : Op) (c : ActClass) : Prop where
  class_ : c = s.actClass (State.queueBasin q) (o.dstVa / 2 ^ 58)
  checks : State.actChecks c o = true
  key : keyRelease o.dstVa = false
  new : ∀ r ∈ s.ledger (State.queueBasin q), ¬(r.key.toNat = o.dstVa ∧ r.step = o.step)
  gather : c.gather = false

/-! ### Masks and KV sequences -/

/-- visible(q, k) of R300 over a mask block's F, WF, WT, SINK and MODE. -/
abbrev MaskVisible (f wf wt sink mode q k : Nat) : Prop :=
  ¬(mode % 2 = 1 ∧ q / f < k / f) ∧ ¬(mode / 2 % 2 = 1 ∧ q < k) ∧
  (sink ≤ k → ¬(0 < wf ∧ (wf : Int) ≤ (q / f : Nat) - (k / f : Nat)) ∧ ¬(0 < wt ∧ (wt : Int) ≤ (q : Int) - (k : Int)))

/-- The mask byte of element n of a descriptor (R300). -/
def maskByte (o : Op) (n : Nat) : Byte :=
  if MaskVisible (bat o.desc 144 4) (bat o.desc 148 4) (bat o.desc 152 4) (bat o.desc 156 4) (bat o.desc 160 1)
    (bat o.desc 128 8 + n / o.count 0) (bat o.desc 136 8 + n % o.count 0) then 0x00 else 0x38

/-- The sequence of an operation has a good record in a configured pool, and no command works on it (R305 to R309). -/
structure KvUse (s : State) (o : Op) (r : KvRec) : Prop where
  free : s.kvCmdOn (State.kvSeqOf o) = false
  inside : s.seqIn (State.kvSeqOf o) = true
  rec_ : s.kvRec (State.kvSeqOf o) = some r
  ok : r.ok = true
  valid : r.valid = true
  pool : s.poolOk r = true
  fits : o.count 0 ≤ 2 ^ r.tlog

/-- The one transfer in flight of the one operation of the queues, with a CODEC. -/
structure CodecFlight (s : State) (q codec : Nat) (o : Op) (x : Xfer) : Prop where
  lone : LoneOp s q o
  codec : o.codec = codec
  core : q < 18432
  flight : o.xfers = [x]
  clean : o.poison = none ∧ o.mark = none
  inside : o.base + o.windowAddr x.off + x.len ≤ 0x100000

/-- The state with a command in KVP_CMD and its length in KVP_CMDARG (R307). -/
def kvpTold (s : State) (op seq seq2 len : Nat) : State :=
  (s.wr (regAt .kvp 0 Off.kvpCmd) (putFld (putFld (putFld (putFld (s.rd (regAt .kvp 0 Off.kvpCmd)) 7 0 op) 31 16 seq) 47 32 seq2) 63 63 1)).wr
    (regAt .kvp 0 Off.kvpCmdarg) (BitVec.ofNat 64 len)

/-- KVP takes a command: READY, not quiesced, and no command runs (R307). -/
structure KvpFree (s : State) : Prop where
  ready : s.ready .kvp 0 = true
  idle : s.g .kvp 0 Off.kvpCmd 63 63 = 0
  going : s.quiet .kvp 0 = false

/-- KVP_CMD has ended with a RESULT (R307). -/
structure KvpEnded (u : State) (result : Nat) : Prop where
  result : u.g .kvp 0 Off.kvpCmd 55 48 = result
  go : u.g .kvp 0 Off.kvpCmd 63 63 = 0
  done : u.g .kvp 0 Off.event Ev.kvpCmdDone Ev.kvpCmdDone = 1

/-- A pool configuration that R304 accepts: KVP is quiesced, no VALID record uses the pool, and the values are in range. -/
structure PoolAccepted (s : State) (n k c base : Nat) : Prop where
  quiesced : tget s.rst.quiesced false (pageBase .kvp 0) = true
  unused : s.poolUsed? n = false
  values : k = 0 ∨ 14 ≤ k ∧ k ≤ 24 ∧ 1 ≤ c ∧ c ≤ 2 ^ 20 ∧ base * 2 ^ 14 % 2 ^ k = 0

/-! ### The fabric -/

/-- A packet for this module arrives for the first time on a link that carries its VC (R327, R329, R336). -/
structure Hears (s : State) (l : Nat) (k : Pkt) : Prop where
  link : l < 96
  carries : s.carries l (k.vc = 0) = true
  going : s.quiet .fab (l / 2) = false
  mine : k.dst.toNat = s.logid
  fresh : k.resent = false

/-- The last thing that left is an answer to a packet: to its source, on its VC, with its TXID (R331). -/
def Answered (u : State) (k : Pkt) (typ code : Nat) (data : Bytes) : Prop :=
  ∃ l r, u.hlk.outbox.getLast? = some (.packet l r) ∧ r.typ = BitVec.ofNat 8 typ ∧ r.code = BitVec.ofNat 8 code ∧ r.dst = k.src ∧
    r.vc = k.vc ∧ r.txid = k.txid ∧ r.payload = data

/-- A link is now x; every other link stays. -/
def LinkNow (s u : State) (l : Nat) (x : Link) : Prop := ∀ m, u.link m = if m = l then x else s.link m

/-- An EVENT bit of a link's port reads 1. -/
def PortEvent (u : State) (l n : Nat) : Prop := u.g .fab (l / 2) Off.event n n = 1

/-- Lanes as a byte: every lane of a mask is lit. -/
def allLit (lit : BitVec 8) (m : Nat) : Prop := lit.toNat &&& m = m

/-- The identity that an IDENTIFY packet gives of a link's peer (R338; byte order DEDUCED, log 19). -/
def identityOf (x : Link) (d : Bytes) : Link :=
  { x with peer := BitVec.ofNat 16 (bat d 1 2), peerJob := BitVec.ofNat 32 (bat d 3 4), peerPort := BitVec.ofNat 6 (bat d 12 1),
           peerHalf := decide (bat d 13 1 % 2 = 1) }

/-- The request that a response answers has one operation, alone in its queue, with one transfer outstanding (R334). -/
structure Outstanding (s : State) (k : Pkt) (x : Txn) (q : Nat) (o : Op) (t : Xfer) : Prop where
  txn : s.txnOf k = some x
  op : x.op = some (q, o.id, t.off)
  queue : s.queue q = [o]
  codec : o.codec = 0x60 ∨ o.codec = 0x61
  kind : o.kind = 2
  flight : o.xfers = [t]
  clean : o.poison = none ∧ o.mark = none

/-- The transfer has landed and the request is outstanding no more. -/
def ResponseTaken (s u : State) (x : Txn) (q : Nat) (o : Op) (t : Xfer) : Prop :=
  LandedIn u q o t ∧ ∀ y, y ∈ u.fab.txns ↔ y ∈ s.fab.txns ∧ y ≠ x

/-- A request of an operation has failed with a cause: a poisoned tail at the cursor, and FAB_ERRLOG of the port that it left on says
why (R334, R341). -/
def RequestFailed (u : State) (x : Txn) (q : Nat) (o : Op) (cause kind code ev : Nat) : Prop :=
  TailFrom u q o cause o.cursor ∧ PortEvent u x.l ev ∧ u.rd (regAt .fab (x.l / 2) Off.fabErrlog) =
    BitVec.ofNat 64 (kind * 2 ^ 56 + code * 2 ^ 48 + x.k.dst.toNat * 2 ^ 32 + x.txid.toNat)

/-- A management packet with an opcode for this module. -/
structure HearsMgmt (s : State) (l : Nat) (k : Pkt) (op : Nat) : Prop where
  hears : Hears s l k
  typ : k.typ = 0x10
  vc : k.vc = 0
  op : bat k.payload 0 1 = op

/-- FAB_MDATA of a port holds a payload (R341). -/
def MdataHolds (u : State) (p : Nat) (d : Bytes) : Prop := ∀ i, i < 64 → (u.mdata p).getD i 0 = d.getD i 0

/-- A management send of a port has ended with a STATUS (R341). -/
structure SendEnded (u : State) (p status : Nat) : Prop where
  status : u.g .fab p Off.fabMresp 7 0 = status
  done : u.g .fab p Off.fabMresp 63 63 = 1
  go : u.g .fab p Off.fabMcmd 63 63 = 0

/-- No stage operation waits for a count. -/
def NoStageWaits (s : State) : Prop := ∀ e ∈ s.queues, ∀ o ∈ e.2, State.stgWaits o = false

/-! ### Reduction and update -/

/-- An answer to a packet leaves, among what leaves. -/
def AnswerLeaves (s u : State) (k : Pkt) (typ code : Nat) : Prop :=
  ∃ ms l r, u.hlk.outbox = s.hlk.outbox ++ ms ∧ OutMsg.packet l r ∈ ms ∧ r.typ = BitVec.ofNat 8 typ ∧ r.code = BitVec.ofNat 8 code ∧
    r.dst = k.src ∧ r.vc = k.vc ∧ r.txid = k.txid

/-- An EVENT bit of a page without instances reads 1. -/
def Event (u : State) (b : Blk) (i n : Nat) : Prop := u.g b i Off.event n n = 1

/-- A contribution that R347 accepts from a core: the record is VALID with CONTRIB, the step is the open one, and the core has not
contributed to the piece. -/
structure Contributes (s : State) (c slot piece : Nat) (step : Word) (t : Tensor) : Prop where
  tensor : s.tensor slot = some t
  contrib : t.role 0 = true
  open_ : s.openStep = some step.toNat
  first : (c / 576, c, slot, piece) ∉ s.red.seen

/-- The tree takes a contribution. -/
def Contributed (s u : State) (x : Contrib) : Prop :=
  u.red = { s.red with contribs := s.red.contribs ++ [x], seen := s.red.seen ++ [(x.basin, x.core, x.slot, x.piece)] } ∧
  Counted s u .red 0 (0x200 + 16) 1

/-- Contributions to a piece that wait in a basin. -/
def waitingFor (s : State) (basin slot piece : Nat) : List Contrib :=
  s.red.contribs.filter fun x => x.basin = basin && x.slot = slot && x.piece = piece

/-- A node slab is of a tensor's piece and slab. -/
def NodeSlab.at (x : NodeSlab) (slot piece slab : Nat) : Bool := x.slot = slot && x.piece = piece && x.slab = slab

/-- What a module holds for a slab, in the order of R351: its own contribution, then its children by rising position. -/
def nodeOrder (s : State) (slot piece slab : Nat) : List NodeSlab :=
  (s.red.nodes.filter fun x => x.at slot piece slab && x.src.isNone) ++
  ((s.red.nodes.filter fun x => x.at slot piece slab && x.src.isSome).mergeSort fun a b => a.src.getD 0 ≤ b.src.getD 0)

/-- The row mask and the FP32 sum of node slabs (R349, R351). -/
def nodeMask (l : List NodeSlab) : BitVec 16 := l.foldl (fun m x => m &&& x.mask) 0xFFFF
def nodeData : List NodeSlab → List W32
  | [] => []
  | h :: r => r.foldl (fun a x => List.zipWith add32 a (slabZero x.mask.toNat x.data)) (slabZero h.mask.toNat h.data)

/-- The state once an accepted reduction, push or mirror packet has been counted and acknowledged (R352). -/
def packetTaken (s : State) (l : Nat) (k : Pkt) : State :=
  ((((s.bump .fab (l / 2) (0x200 + 8) k.payload.length).dupAdd l k).answer l k 0x04 0).bump .red 0 (0x200 + 32) 1)

/-- A slab waits last in a unit's queue. -/
def SlabQueued (s u : State) (n : Nat) (x : UnitSlab) : Prop := u.unit n = { s.unit n with queue := (s.unit n).queue ++ [x] }

/-- A unit may start the slab at the front of its queue. -/
structure UnitStarts (s : State) (shore : Bool) (n : Nat) (x : UnitSlab) (rest : List UnitSlab) (t : Tensor) (h : Shard) : Prop where
  exists_ : n < 12
  ready : s.ready (if shore then .shr else .inl) n = true
  going : s.quiet (if shore then .shr else .inl) n = false
  idle : (s.unit (unitNo shore n)).run = none
  front : (s.unit (unitNo shore n)).queue = x :: rest
  tensor : s.tensor x.slot = some t
  shard : s.shardOf x.slot x.piece = some h

/-- A slab of a unit has been staged: the unit is free, and the slab counts as staged. -/
structure SlabStaged (s u : State) (shore : Bool) (n : Nat) (x : UnitSlab) : Prop where
  free : (u.unit (unitNo shore n)).run = none
  staged : (x.slot, x.piece, x.slab) ∈ u.red.staged
  running : u.g (if shore then .shr else .inl) n Off.inlStat 63 63 = 0

/-! ### Steps -/

/-- A step has ended by a commit: the staged bank is current, LAST_STEP is the step, and STEP_COMMITTED is raised (R48). -/
structure Committed (u : State) (step bank : Nat) : Prop where
  ended : StepOver u
  last : u.rd (regAt .rcc 0 Off.rccBkp1) = BitVec.ofNat 64 step
  bank : u.curBank = bank
  event : Event u .red 0 Ev.redStepCommitted

/-- A step has ended by a skip (R366). -/
structure Skipped (s u : State) : Prop where
  ended : SkipOver s u
  count : Counted s u .red 0 (0x200 + 8) 1
  event : Event u .red 0 Ev.redStepSkipped

/-- A write to the RED page is ignored and raises CFG_REFUSED (R370). -/
def RedRefused (s u : State) : Prop := EventSet s u .red 0 Ev.redCfgRefused ∧ RegsOnly [regAt .red 0 Off.event] s u ∧ Same [.regs, .hlk] s u

/-! ### Stage queues -/

/-- A stage operation that has done its work (R375). -/
def stageDone (o : Op) : Op := { o with started := true, wait := .none, issued := 1, landed := [(0, 1)], cursor := 1 }

/-- A stage operation that waits for its queue's counts (R376). -/
def stageWaits (o : Op) : Op := { o with started := true, wait := .stage false }

/-- A stage operation at the head of its queue that passes the checks of R375. -/
structure StageHead (s : State) (q codec : Nat) (o : Op) : Prop where
  head : HeadOp s q o
  codec : o.codec = codec
  form : s.stgForm o = true
  going : o.waitEn = false

/-- An operation waits on a stage queue. -/
def WaitsOn (s : State) (j : Nat) (o : Op) : Prop := ∃ e ∈ s.queues, o ∈ e.2 ∧ State.stgWaits o = true ∧ State.stgQueue o = j

/-- Bin n of the histogram at a page offset, not yet full, went up by 1 (R75). -/
def Binned (s u : State) (b : Blk) (i off n : Nat) : Prop :=
  let f (t : State) : Nat := t.g b i (off + 8 * (n / 2)) (32 * (n % 2) + 31) (32 * (n % 2))
  f s + 1 < 2 ^ 32 → f u = f s + 1

/-! ### Reliability -/

/-- The record of a physical core is now x; every other core's stays. -/
def PhysNow (s u : State) (q : Nat) (x : PhysCore) : Prop := ∀ p, u.pcore p = if p = q then x else s.pcore p

/-- A logical core is now x; every other core stays. -/
def CoreNow (s u : State) (c : Nat) (x : Core) : Prop := ∀ d, u.core d = if d = c then x else s.core d

/-- A telemetry record with a reason has been written to flash, or its write has failed (R410). -/
structure Persisted (s u : State) (reason : Nat) (ok : Bool) : Prop where
  seq : u.ras.tlmSeq = s.ras.tlmSeq + 1
  last : ∃ r, u.ras.tlm.getLast? = some r ∧ r.seq = s.ras.tlmSeq + 1 ∧ r.reason = reason ∧ r.good = ok
  event : Event u .tlm 0 (if ok then Ev.tlmPersistDone else Ev.tlmPersistFail)
  shown : ok = true → u.g .tlm 0 Off.tlmPersist 31 0 = (s.ras.tlmSeq + 1) % 2 ^ 32

end Sys2Proof.Machine
end

