-- ==== Sys2Proof/Certificates/Slice0/Obligations.lean ====
section
/-! DEFINITION. The statements about the block: what a step does, what each command does, and what no command changes. -/

open Sys2Proof Sys2Proof.Machine

/-! ### The queue, idling, reset, and what no command changes -/

/-- A step with a command in front of the queue is exec of that command on the state with the rest of the queue. -/
def Obligations.StepRunsTheFrontCommand : Prop :=
  ∀ (c : Instr) (rest : List Instr) (s : State), step { s with pending := c :: rest } = exec c { s with pending := rest }

/-- With no command waiting, a step lets one tick of the local timer pass (the model's choice, Assumption 26): the timer goes on
while the standby rail is up (R29), and nothing else changes. -/
def Obligations.IdleStepTicksTheTimer : Prop :=
  ∀ s : State, s.pending = [] → ∃ u, step s = .next u ∧ Same [.clock] s u ∧
    u.clock = { s.clock with timer := if s.power.standby then s.clock.timer + 1 else s.clock.timer }

/-- Every command answers a next state, and changes only the parts of the machine that its entry in `Instr.touches` names; no command
changes the queue. -/
def Obligations.CommandsTouchOnlyTheirParts : Prop :=
  ∀ (c : Instr) (s : State), ∃ u, exec c s = .next u ∧ Same c.touches s u ∧ u.pending = s.pending

/-- Every step keeps memory in its canonical form: addresses strictly rise and no entry reads as an unlisted byte. -/
def Obligations.StepKeepsMemoryCanonical : Prop :=
  ∀ s u : State, s.memOk → step s = .next u → u.memOk

/-- Memory is in its canonical form at reset. -/
def Obligations.ResetMemoryCanonical : Prop := State.reset.memOk

/-- R33, R40: the state after reset. The Cold reset that the main rails cause is released: every register field holds its Cold column,
no block is READY, no core has a shoal, core SRAM and registers read 0, the kernel store, the queues, the directory, the journal and
retained memory are empty, and RCC_RST_CAUSE records class Cold and source 0x01 (R32, R36). No command waits. -/
def Obligations.ResetState : Prop :=
  Columns State.reset false (fun _ _ => True) ∧ ProcsZero State.reset (fun _ => True) ∧
  (∀ b i, State.reset.ready b i = false) ∧ State.reset.rst.reqs = [] ∧ State.reset.rst.held = false ∧ State.reset.phase = 0 ∧
  State.reset.retained = [] ∧ State.reset.kernels = [] ∧ State.reset.loads = [] ∧ State.reset.launches = [] ∧
  State.reset.queues = [] ∧ State.reset.hlk.rings = [] ∧ (∀ n, State.reset.slice n = []) ∧ State.reset.mem.faults = [] ∧
  State.reset.g .rcc 0 Off.rccRstCause 1 0 = 1 ∧ State.reset.g .rcc 0 Off.rccRstCause 15 8 = 0x01 ∧
  State.reset.g .rcc 0 Off.rccRstCause 19 16 = 0 ∧ State.reset.pending = []


/-! ### Power, presence and removal (chapter 1) -/

/-- R11, R20, R23, R24: the standby rail, the PRES contact, its debounce and the main rails. -/
def Obligations.InputAndPresence : Prop :=
  ∀ s : State,
    (s.power.standby = false → ∃ u, exec .v36Make s = .next u ∧ u.power = { s.power with standby := true } ∧ u.clock.timer = 0 ∧
      u.mem = s.mem ∧ Same [.power, .clock, .regs, .hlk, .ras] s u) ∧
    (s.power.standby = true → ∃ u, exec .inputLoss s = .next u ∧ u.power.standby = false ∧ ConvertersOff s u ∧
      (∀ a, u.rd a = coldWord a) ∧ u.snaps = [] ∧ u.gens = [] ∧ u.sec.running = false ∧ u.sec.nonce = none ∧
      u.sec.slotA = s.sec.slotA ∧ u.sec.slotB = s.sec.slotB ∧ u.sec.fwMeta = s.sec.fwMeta ∧ u.sec.rollback = s.sec.rollback ∧
      u.sec.custKey = s.sec.custKey ∧ u.ras.tlm = s.ras.tlm ∧ u.ras.retired = s.ras.retired ∧ u.clock = s.clock ∧
      (s.power.rails = true → u.ras.lastGasp = some s.gasp)) ∧
    (s.power.standby = true → s.power.pres = false → s.power.converters = false → s.power.drain = .none →
      s.power.uvHeld = false → s.power.ovHeld = false → s.power.thermHeld = false →
      ∃ u, exec .presMake s = .next u ∧ u.power = { s.power with pres := true, debounce := true, coldSrc := 0x01 } ∧
        Counted s u .tlm 0 (0x200 + 24) 1 ∧ Same [.power, .regs, .hlk] s u) ∧
    (s.power.debounce = true → s.power.pres = true → s.power.uvHeld = false → s.power.ovHeld = false → s.power.thermHeld = false →
      exec .presDebounceDone s = .next { s with power := { s.power with converters := true, debounce := false } }) ∧
    (s.power.converters = true → s.power.rails = false → ∃ u, exec .mainRailsUp s = .next u ∧ u.power.rails = true ∧
      u.power.txOn = true ∧ u.power.drain = .none ∧ 
      u.clock = { s.clock with logicLock := true, ddrLock := true, colsarLock := true, hostLock := true } ∧ DieLost u ∧
      u.rst.reqs = [{ cls := .cold, basin := 0, src := BitVec.ofNat 8 s.power.coldSrc.toNat, asserted := true }] ∧
      Same (.clock :: dieParts) s u) ∧
    (s.power.pres = true → s.power.drain ≠ .done → ∃ u, exec .presBreak s = .next u ∧ u.power.pres = false ∧ ConvertersOff s u ∧
      u.power.drain = .none ∧ (s.power.rails = true → u.ras.lastGasp = some s.gasp) ∧ Same dieParts s u)

/-- R15, R18, R25: an undervoltage or overvoltage trip turns the main converters off and latches its bit; a drain that runs becomes ready to
remove. The release of the last trip starts the debounce anew. R21, R22, R25: orderly removal. -/
def Obligations.TripsAndRemoval : Prop :=
  (∀ (s : State) (mv : BitVec 16), s.power.standby = true →
      (s.power.uvHeld = false → mv.toNat < 28500 → ∃ u, exec (.uvTrip mv) s = .next u ∧ Tripped s u 8 ∧ u.power.uvHeld = true ∧
        VinShown u mv.toNat) ∧
      (s.power.ovHeld = false → 41500 < mv.toNat → ∃ u, exec (.ovTrip mv) s = .next u ∧ Tripped s u 9 ∧ u.power.ovHeld = true ∧
        VinShown u mv.toNat) ∧
      (∀ c ∈ [Instr.uvRelease mv, Instr.ovRelease mv],
        (c = .uvRelease mv → s.power.uvHeld = true ∧ s.power.ovHeld = false ∧ 29500 ≤ mv.toNat) →
        (c = .ovRelease mv → s.power.ovHeld = true ∧ s.power.uvHeld = false ∧ mv.toNat ≤ 40500) →
        ∃ u, exec c s = .next u ∧ u.power.uvHeld = false ∧ u.power.ovHeld = false ∧ VinShown u mv.toNat ∧
          u.power.debounce = (s.power.debounce ||
            (s.power.pres && !s.power.thermHeld && decide (s.power.drain ≠ .done) && !s.power.converters)) ∧
          RegsOnly [regAt .dev 0 Off.devInput, regAt .dev 0 Off.devPwrctl] s u ∧ Same [.power, .regs] s u) ∧
      (∃ u, exec (.vinBandChange mv) s = .next u ∧ VinShown u mv.toNat ∧
        RegsOnly [regAt .dev 0 Off.devInput, regAt .dev 0 Off.devPwrctl] s u ∧ Same [.regs] s u)) ∧
  (∀ s : State,
      (s.ready .dev 0 = true → s.power.rails = true → s.power.drain = .none → s.g .dev 0 Off.devPwrctl 1 1 = 0 →
        ∃ u, exec .removeReq s = .next u ∧ u.power = { s.power with drain := .running } ∧ FieldSet s u .dev 0 Off.devPwrctl 0 0 1 ∧
          RegsOnly [regAt .dev 0 Off.devPwrctl] s u ∧ Same [.power, .regs] s u) ∧
      (s.ready .dev 0 = true → s.g .dev 0 Off.devPwrctl 1 1 = 1 → exec .removeReq s = .next s) ∧
      (∀ c ∈ [Instr.removalDrainResume, Instr.removeDrainTimeout], s.power.drain = .running → (c = .removalDrainResume → s.phase = 0) →
        ∃ u, exec c s = .next u ∧ u.power.drain = .done ∧ ConvertersOff s u ∧ u.g .dev 0 Off.devPwrctl 1 0 = 2 ∧
          (c = .removeDrainTimeout → u.g .dev 0 Off.devPwrctl 15 15 = 1) ∧ u.ras.tlmSeq = s.ras.tlmSeq + 1 ∧ Same dieParts s u))

/-- R18: the thermal responses. -/
def Obligations.ThermalResponses : Prop :=
  ∀ s : State,
    (∀ t : BitVec 16, s.power.standby = true → 640 < t.toInt → ∃ u, exec (.inletHigh t) s = .next u ∧
      u.power = { s.power with inletHigh := true, capW := BitVec.ofNat 16 (6800 - 300 * (min t.toNat 720 - 640) / 16) } ∧
      FieldSet s u .dev 0 Off.devTherm 63 48 t.toNat ∧ PwrLatched s u 11 ∧ RegsOnly thermalRegs s u ∧
      Same [.power, .regs, .hlk] s u) ∧
    (∀ t : BitVec 16, s.power.standby = true → t.toInt ≤ 640 → ∃ u, exec (.inletDeratingEnd t) s = .next u ∧
      u.power = { s.power with inletHigh := false, capW := 6800 } ∧ FieldSet s u .dev 0 Off.devTherm 63 48 t.toNat ∧
      RegsOnly thermalRegs s u ∧ Same [.power, .regs] s u) ∧
    (720 < sext 16 (s.g .dev 0 Off.devTherm 63 48) → s.power.standby = true → s.power.thermHeld = false →
      ∃ u, exec .inletTripTimer s = .next u ∧ Tripped s u 10 ∧ u.power.thermHeld = true) ∧
    (∀ t : BitVec 16, 1680 ≤ t.toInt → s.power.standby = true → s.power.thermHeld = false →
      ∃ u, exec (.dieOvertempTrip t) s = .next u ∧ Tripped s u 10 ∧ u.power.thermHeld = true) ∧
    (∀ t : BitVec 16, s.power.rails = true → 1520 ≤ t.toInt → ∃ u, exec (.dieHot t) s = .next u ∧
      u.power = { s.power with dieHot := true } ∧ FieldSet s u .dev 0 Off.devTherm 31 16 t.toNat ∧ PwrLatched s u 12 ∧
      RegsOnly thermalRegs s u ∧ Same [.power, .regs, .hlk] s u) ∧
    (∀ ch, ch < 24 → s.power.rails = true → exec (.dimmRefreshDouble ch) s =
      .next { s with power := { s.power with dimmDouble := s.power.dimmDouble ||| BitVec.ofNat 24 (2 ^ ch) } }) ∧
    (∀ ch, ch < 24 → s.power.rails = true → ∃ u, exec (.dimmHot ch) s = .next u ∧
      u.power = { s.power with dimmHalf := s.power.dimmHalf ||| BitVec.ofNat 24 (2 ^ ch) } ∧ PwrLatched s u 13 ∧
      RegsOnly thermalRegs s u ∧ Same [.power, .regs, .hlk] s u) ∧
    (∀ e, e < 13 → s.power.rails = true → ∃ u, exec (.opticHot e) s = .next u ∧
      u.power = { s.power with opticOff := s.power.opticOff ||| BitVec.ofNat 13 (2 ^ e) } ∧ u.g .dev 0 Off.devPwrctl 14 14 = 1 ∧
      (∀ l, e < 12 → l / 8 = e → (u.link l).st = 0)) ∧
    (s.power.thermHeld = true → s.g .dev 0 Off.devPwrctl 10 10 = 0 → exec .thermalRestart s = .next { s with power :=
      if s.power.uvHeld = false ∧ s.power.ovHeld = false ∧ s.power.pres = true ∧ s.power.drain ≠ .done then
        { s.power with thermHeld := false, converters := true, coldSrc := 0x02 }
      else { s.power with thermHeld := false } })

/-- R383, R384: one period of the clock/power loop, and the limit that outranks it. -/
def Obligations.ClockPowerLoop : Prop :=
  ∀ (s : State), s.power.rails = true →
    (∀ p : BitVec 16, ∃ u w, exec (.clockPowerLoopTick p) s = .next u ∧
      u.power = { s.power with nLoop := w, nWin := w } ∧ FieldSet s u .tlm 0 Off.tlmPwrstat 15 0 p.toNat ∧
      (s.g .tlm 0 Off.tlmPwrloop 63 63 = 0 → w = max (s.g .tlm 0 Off.tlmPwrloop 55 52)
        (min (s.g .tlm 0 Off.tlmPwrloop 59 56) (s.g .tlm 0 Off.tlmPwrloop 55 52))) ∧
      (s.g .tlm 0 Off.tlmPwrloop 63 63 = 1 → w = max (s.g .tlm 0 Off.tlmPwrloop 55 52) (min (s.g .tlm 0 Off.tlmPwrloop 59 56)
        (if s.g .tlm 0 Off.tlmPwrloop 31 16 < p.toNat then min 8 (s.power.nLoop + 1)
         else if p.toNat + s.g .tlm 0 Off.tlmPwrloop 15 0 < s.g .tlm 0 Off.tlmPwrloop 31 16 then s.power.nLoop - 1
         else s.power.nLoop))) ∧ Same [.power, .regs, .hlk] s u) ∧
    (∀ p t : BitVec 16, (s.power.capW.toNat < p.toNat ∨ 1520 ≤ t.toInt ∨ (s.power.dieHot = true ∧ 1488 ≤ t.toInt)) →
      ∃ u, exec (.powerLimitRiseTick p t) s = .next u ∧ u.power.nLim = min 8 (s.power.nLim + 1) ∧
        FieldSet s u .tlm 0 Off.tlmPwrstat 48 48 (if s.power.capW.toNat < p.toNat then 1 else 0) ∧ Same [.power, .regs, .hlk] s u) ∧
    (∀ p t : BitVec 16, p.toNat * 100 < 95 * s.power.capW.toNat → t.toInt < 1488 → exec (.powerLimitFallTick p t) s =
      .next { s with power := { s.power with dieHot := false, nLim := s.power.nLim - 1 } })

/-! ### Clocks, resets, readiness and the step-commit journal (chapter 2) -/

/-- R30: the loss and the return of the root reference, the logic PLL and the PHY PLLs. -/
def Obligations.ClockLossAndReturn : Prop :=
  ∀ s : State,
    (s.power.rails = true → s.clock.logicLock = true → ∃ u, exec .logicPllLockLost s = .next u ∧
      u.clock = { s.clock with logicLock := false } ∧ u.rst.held = true ∧ u.rst.reqs = [] ∧ DieLost u ∧ Same (.clock :: dieParts) s u) ∧
    (s.power.standby = true → s.clock.rootOk = true → ∃ u, exec .rootRefStop s = .next u ∧
      u.clock = { s.clock with rootOk := false, degraded := true } ∧
      (s.power.rails = true → u.rst.held = true ∧ u.rst.reqs = [] ∧ DieLost u) ∧ Same (.clock :: dieParts) s u) ∧
    (s.power.rails = true → s.rst.held = true → s.clock.rootOk = true → exec .logicPllLockReturn s =
      .next { s with clock := { s.clock with logicLock := true }, rst := { s.rst with held := false, reqs :=
        [{ cls := .cold, basin := 0, src := 0x03, asserted := true }] } }) ∧
    (s.power.rails = true → s.rst.held = true → s.clock.logicLock = true → exec .rootRefReturn s =
      .next { s with clock := { s.clock with rootOk := true }, rst := { s.rst with held := false, reqs :=
        [{ cls := .cold, basin := 0, src := 0x03, asserted := true }] } }) ∧
    (s.power.rails = true → s.rst.held = false → s.clock.ddrLock = true → (∀ c, c < 24 → BlkFree s .mem c) → s.phase = 0 →
      ∃ u, exec .ddrPhyPllLockLost s = .next u ∧ u.clock = { s.clock with ddrLock := false } ∧ ∀ c, c < 24 → BlkHeld u .mem c) ∧
    (s.power.rails = true → s.rst.held = false → s.clock.hostLock = true → BlkFree s .hlk 0 →
      ∃ u, exec (.phyPllLockLost true) s = .next u ∧ u.clock = { s.clock with hostLock := false } ∧ BlkHeld u .hlk 0) ∧
    (s.power.rails = true → s.rst.held = false → s.clock.colsarLock = true → (∀ n, n < 48 → BlkFree s .fab n) →
      ∃ u, exec (.phyPllLockLost false) s = .next u ∧ u.clock = { s.clock with colsarLock := false } ∧ ∀ n, n < 48 → BlkHeld u .fab n)

/-- R35, R36: RCC_RST_CTRL. Without the key the write raises KEY_BAD; during the removal drain it raises RESET_REFUSED; a reset that
covers it absorbs it; otherwise it is requested and lower requests are abandoned. -/
def Obligations.ResetRequests : Prop :=
  ∀ (s : State) (key : BitVec 16) (mask : BitVec 4), s.ready .rcc 0 = true →
    (key ≠ 0xA5C3 → ∀ c ∈ [Instr.rstCtrlCold key, .rstCtrlWarm key, .rstCtrlBasin key mask], ∃ u, exec c s = .next u ∧
      EventSet s u .rcc 0 Ev.rccKeyBad ∧ RegsOnly [regAt .rcc 0 Off.event] s u ∧ Same [.regs, .hlk] s u) ∧
    (s.power.drain = .running → ∀ c ∈ [Instr.rstCtrlCold 0xA5C3, .rstCtrlWarm 0xA5C3], ∃ u, exec c s = .next u ∧
      EventSet s u .rcc 0 Ev.rccResetRefused ∧ RegsOnly [regAt .rcc 0 Off.event] s u ∧ Same [.regs, .hlk] s u) ∧
    (s.power.drain ≠ .running → (∀ r ∈ s.rst.reqs, r.cls ≠ .cold) → exec (.rstCtrlCold 0xA5C3) s =
      .next (withReqs s [{ cls := .cold, basin := 0, src := 0x04, asserted := false }])) ∧
    (s.power.drain ≠ .running → (∀ r ∈ s.rst.reqs, r.cls = .basin) → exec (.rstCtrlWarm 0xA5C3) s =
      .next (withReqs s [{ cls := .warm, basin := 0, src := 0x10, asserted := false }])) ∧
    (s.power.drain ≠ .running → (∃ r ∈ s.rst.reqs, r.cls = .cold) → exec (.rstCtrlWarm 0xA5C3) s = .next s) ∧
    (s.power.drain ≠ .running → s.rst.reqs = [] → exec (.rstCtrlBasin 0xA5C3 mask) s = .next (withReqs s
      (((List.range 4).filter mask.toNat.testBit).map fun b => { cls := .basin, basin := b, src := 0x20, asserted := false })))

/-- R33, R432: the assertion of a Cold, Warm or Basin reset clears what R33's table says. The Warm and Cold columns are stated for the
fields whose column is a number, on the pages that the reset's own recording does not write. R36, R47, R52, R432: the release of a reset
records its class and source, raises RESET_DONE and counts; a Warm or Basin reset adds one to WARM_COUNT. -/
def Obligations.ResetAssertionAndRelease : Prop :=
  (∀ (s : State) (q : RstReq), q.asserted = false →
      (q.cls = .cold → s.reqOf .cold 0 false = some q → s.rst.held = false → ∃ u, exec .coldResetAssert s = .next u ∧ DieLost u ∧
        (∀ b, u.basinReady b = false) ∧ Columns u false (fun b _ => b ∉ ownPages) ∧ { q with asserted := true } ∈ u.rst.reqs ∧
        u.clock = s.clock ∧ u.sec = s.sec ∧ Same dieParts s u) ∧
      (q.cls = .warm → s.reqOf .warm 0 false = some q → ∃ u, exec .warmResetAssert s = .next u ∧
        (∀ b i, b ∉ ownPages → i < pageCount b → b ≠ .cor → u.ready b i = false) ∧
        (∀ b ∈ ownPages, u.ready b 0 = s.ready b 0) ∧ Columns u true (fun b _ => b ∉ ownPages) ∧ ProcsZero u (fun _ => True) ∧
        u.launches = [] ∧ u.loads = [] ∧ u.queues = [] ∧ u.hlk.rings = [] ∧ u.mem.slices = [] ∧ u.retained = s.retained ∧
        u.kernels = s.kernels ∧ u.hlk.hdm = s.hlk.hdm ∧ u.clock = s.clock ∧ { q with asserted := true } ∈ u.rst.reqs) ∧
      (∀ b, b < 4 → q.cls = .basin → q.basin = b → s.reqOf .basin b false = some q → ∃ u, exec (.basinResetAssert b) s = .next u ∧
        (∀ k ∈ [Blk.sdm, .sth, .act, .shl], u.ready k b = false) ∧ u.basinReady b = false ∧
        Columns u true (fun k i => k ∈ [Blk.sdm, .sth, .act, .shl] ∧ i = b ∨ k = .cor ∧ i / 576 = b) ∧
        ProcsZero u (fun c => c < 2304 ∧ c / 576 = b) ∧
        (∀ c v l r, c / 576 ≠ b → v < 32 → l < 32 → r < 64 → u.reg c v l r = s.reg c v l r) ∧
        u.slice b = [] ∧ u.retained = s.retained ∧ u.kernels = s.kernels ∧ u.clock = s.clock)) ∧
  (∀ (s : State) (q : RstReq),
      (s.reqOf .cold 0 true = some q → s.power.rails = true → s.clock.rootOk = true → s.clock.logicLock = true →
        ∃ u, exec .coldResetRelease s = .next u ∧ u.rst = { s.rst with reqs := s.rst.reqs.filter (· ≠ q) } ∧
          u.rd (regAt .rcc 0 Off.rccRstCause) = BitVec.ofNat 64 (q.src.toNat * 256 + 1) ∧
          u.g .rcc 0 Off.event Ev.rccResetDone Ev.rccResetDone = 1 ∧
          u.g .rcc 0 Off.event Ev.rccLockLost Ev.rccLockLost = (if q.src = 0x03 then 1 else 0) ∧
          Counted s u .tlm 0 (0x200 + 32) 1 ∧ Same [.rst, .regs, .hlk] s u) ∧
      (s.reqOf .warm 0 true = some q → ∃ u, exec .warmResetRelease s = .next u ∧
        u.rst = { s.rst with reqs := s.rst.reqs.filter (· ≠ q) } ∧
        u.rd (regAt .rcc 0 Off.rccRstCause) = BitVec.ofNat 64 (q.src.toNat * 256 + 2) ∧
        u.g .rcc 0 Off.event Ev.rccResetDone Ev.rccResetDone = 1 ∧
        u.g .rcc 0 Off.rccBkp0 63 32 = min 0xFFFFFFFF (s.g .rcc 0 Off.rccBkp0 63 32 + 1) ∧
        Counted s u .tlm 0 (0x200 + 40) 1 ∧ Same [.rst, .regs, .hlk] s u) ∧
      (∀ b, b < 4 → s.reqOf .basin b true = some q → ∃ u, exec (.basinResetRelease b) s = .next u ∧
        u.rst = { s.rst with reqs := s.rst.reqs.filter (· ≠ q) } ∧
        u.rd (regAt .rcc 0 Off.rccRstCause) = BitVec.ofNat 64 (2 ^ b * 65536 + q.src.toNat * 256 + 3) ∧
        u.g .rcc 0 Off.event Ev.rccResetDone Ev.rccResetDone = 1 ∧
        u.g .rcc 0 Off.rccBkp0 63 32 = min 0xFFFFFFFF (s.g .rcc 0 Off.rccBkp0 63 32 + 1) ∧
        Counted s u .tlm 0 (0x200 + 48) 1 ∧ Same [.rst, .regs, .hlk] s u))

/-- R37 to R41, R215, R397, R399, R431: readiness. -/
def Obligations.Readiness : Prop :=
  ∀ s : State,
    (∀ b i, s.mayReady b i = true → b ≠ .mem → b ≠ .cor → ∃ u, exec (.blockReady b i) s = .next u ∧ u.ready b i = true ∧
      tget u.rst.faultLatch false (pageBase b i) = false ∧
      (∀ b' i', (b', i') ≠ (b, i) → i' < pageCount b' → u.ready b' i' = s.ready b' i') ∧ Same [.rst] s u) ∧
    (∀ b, s.mayBasin b = true → s.scaleEn = false → exec (.basinReady b) s = .next (s.setBasinReady b true)) ∧
    (∀ b failed, b < 4 → s.rst.tested.toNat.testBit b = false → s.ready .dev 0 = true → s.rst.held = false →
      ∃ u, exec (.powerOnCoreTestDone b failed) s = .next u ∧ u.rst.tested.toNat.testBit b = true ∧
        ∀ q ∈ failed, q ∈ s.postCores b → q ∈ u.ras.retired ∧ (u.pcore q).retired = true) ∧
    (∀ b i, i < pageCount b → s.ready b i = false → ∃ u, exec (.readyLate b i) s = .next u ∧ u.ready b i = false ∧
      u.g .rcc 0 Off.event Ev.rccReadyLate Ev.rccReadyLate = 1 ∧ (b ≠ .cor → u.faulted b i = true) ∧
      u.ras.nextSeq = s.ras.nextSeq + 1 ∧ Same [.rst, .regs, .hlk, .ras, .free] s u)

/-- R35, R60: a Block reset starts at once, waits while a commit is open where R35 says so, and starts when the phase is IDLE again;
pages without a Block reset ignore the write. -/
def Obligations.BlockResets : Prop :=
  ∀ (s : State) (b : Blk) (i : Nat), i < pageCount b →
    (b ∈ ownPages → exec (.blkReset b i) s = .next s) ∧
    (b ∉ ownPages → BlkFree s b i → (b ∉ [Blk.inl, .shr, .mem, .red] ∨ s.phase = 0) → ∃ u, exec (.blkReset b i) s = .next u ∧ BlkHeld u b i ∧
      (b ≠ .hlk → b ≠ .red → Columns u true (fun k j => k = b ∧ j = i))) ∧
    (b ∈ [Blk.inl, .shr, .mem, .red] → BlkFree s b i → s.phase ≠ 0 → exec (.blkReset b i) s =
      .next { s with rst := { s.rst with blk := tset s.rst.blk noBlk (pageBase b i) .deferred } }) ∧
    (tget s.rst.blk noBlk (pageBase b i) = .deferred → b ∈ [Blk.inl, .shr, .mem, .red] → s.phase = 0 →
      ∃ u, exec (.deferredResetStart b i) s = .next u ∧ BlkHeld u b i) ∧
    (tget s.rst.blk noBlk (pageBase b i) = .running → s.rst.held = false → tget s.rst.phyLost false (pageBase b i) = false →
      s.rst.waiting = [] → b ≠ .cor → b ≠ .mem →
      { s with rst := { s.rst with blk := tset s.rst.blk noBlk (pageBase b i) noBlk } }.mayReady b i = true →
      ∃ u, exec (.blockResetDone b i) s = .next u ∧ u.ready b i = true ∧ tget u.rst.blk noBlk (pageBase b i) = noBlk ∧ Same [.rst] s u)

/-- R38, R49, R51: after a Warm reset the module asks the twin, resolves the commit by the table of R49, holds it while the twin does not
answer, and resolves it alone once software says that the twin is lost. -/
def Obligations.JournalResolution : Prop :=
  ∀ s : State,
    (s.jrn.due = true → ResolutionReady s → s.phase ≠ 0 → ¬ (s.phase = 1 ∧ s.g .rcc 0 Off.rccBkp3 7 4 = 2) → s.jrnTwin ≠ 0xFFFF →
      exec .journalResolutionBegin s = .next { s with jrn := { s.jrn with due := false, resolving := true } }) ∧
    (s.jrn.due = true → ResolutionReady s → s.phase = 1 → s.g .rcc 0 Off.rccBkp3 7 4 = 2 →
      ∃ u, exec .journalResolutionBegin s = .next u ∧ SkipOver s u) ∧
    (s.jrn.due = true → ResolutionReady s → s.phase = 4 → s.jrnTwin = 0xFFFF →
      ∃ u, exec .journalResolutionBegin s = .next u ∧ CommitOver s u) ∧
    (∀ n, s.jrn.resolving = true → s.jrn.resend = false → s.red.mismatches < 2 → s.jrnTwin ≠ 0xFFFF → s.phase = 4 → 5 ≤ n →
      ∃ u, exec (.journalTwinAnswer n false) s = .next u ∧ CommitOver s u) ∧
    (∀ n, s.jrn.resolving = true → s.jrn.resend = false → s.red.mismatches < 2 → s.jrnTwin ≠ 0xFFFF → s.phase = 4 →
      ∃ u, exec (.journalTwinAnswer n true) s = .next u ∧ CommitOver s u) ∧
    (s.jrn.resolving = true → ∃ u, exec .journalTwinTimeout s = .next u ∧ CommitHeld u ∧ u.jrn.resolving = false ∧
      u.jrn.resend = (s.jrn.resend || decide (s.phase = 4)) ∧ (s.phase = 4 → u.curBank = s.stageBank) ∧ Same [.jrn, .regs, .hlk] s u) ∧
    (s.ready .rcc 0 = true → s.phase = 0 → exec .twinLost s = .next s) ∧
    (s.ready .rcc 0 = true → s.phase ≠ 0 → s.jrn.due = true → ∃ u, exec .twinLost s = .next u ∧
      FieldSet s u .rcc 0 Off.rccJrnCtrl 0 0 1 ∧ FieldSet s u .rcc 0 Off.rccBkp3 47 32 0xFFFF ∧
      RegsOnly [regAt .rcc 0 Off.rccJrnCtrl, regAt .rcc 0 Off.rccBkp3] s u ∧ Same [.regs] s u) ∧
    (s.ready .rcc 0 = true → s.phase = 4 → s.jrn.due = false → s.red.redo = false →
      ∃ u, exec .twinLost s = .next u ∧ CommitOver s u)

/-! ### Register pages (chapter 3) -/

/-- R68, R70: setting an EVENT bit sets that bit whatever EVENT_EN says; one message goes out on the page's vector, or its pending bit is
set, exactly when the pending set turns from empty to non-empty. R74: an event counter adds, or stays at its maximum and sets its
CNT_SAT bit; SATURATED is raised when the bit was clear. -/
def Obligations.EventsAndCounters : Prop :=
  (∀ (s : State) (b : Blk) (i n : Nat), n < 64 →
      EventSet s (s.raise b i n) b i n ∧ RegsOnly [regAt b i Off.event] s (s.raise b i n) ∧ Same [.regs, .hlk] s (s.raise b i n) ∧
      (s.pendingSet b i = 0 → bit (s.rd (regAt b i Off.eventEn)) n = true → Messaged s (s.raise b i n) (s.g b i Off.eventVec 7 0)) ∧
      (s.pendingSet b i ≠ 0 ∨ bit (s.rd (regAt b i Off.eventEn)) n = false → (s.raise b i n).hlk = s.hlk)) ∧
  (∀ (s : State) (b : Blk) (i off n : Nat), 0x200 ≤ off → i < pageCount b → off < 0x1000 →
      ((s.rd (regAt b i off)).toNat + n < 2 ^ 64 → (s.bump b i off n).rd (regAt b i off) = s.rd (regAt b i off) + BitVec.ofNat 64 n ∧
        RegsOnly [regAt b i off] s (s.bump b i off n) ∧ Same [.regs] s (s.bump b i off n)) ∧
      (0 < n → 2 ^ 64 ≤ (s.rd (regAt b i off)).toNat + n → (s.bump b i off n).rd (regAt b i off) = BitVec.allOnes 64 ∧
        (∀ o m, o = Off.cntSat + 8 * (State.satItem b off / 64) → m = State.satItem b off % 64 → State.satItem b off < 128 →
          (s.bump b i off n).g b i o m m = 1 ∧ (s.g b i o m m = 0 → ∀ e, RegMap.satEvent b = some e →
            (s.bump b i off n).g b i Off.event e e = 1))))

/-- R6, R54, R88: an accepted 64-bit write acts on each field by its access code; R45, R46: a write to the retained SRAM window stores
its bytes; R54: a refused access changes nothing but its record. -/
def Obligations.RegisterWrites : Prop :=
  ∀ s : State,
    (∀ wh b i off r k v, b ∈ [Blk.mem, .shl, .inl, .shr, .sec] → i < pageCount b → 0x100 ≤ off → RegMap.find b off = some (r, k) → off % 8 = 0 →
      s.refusal wh true (regAt b i off) 8 = none → ∃ u, exec (.registerWrite wh (regAt b i off) 8 v) s = .next u ∧
        (∀ f ∈ r.flds, u.g b i off f.hi f.lo = fieldAfter f (s.g b i off f.hi f.lo) (fld v f.hi f.lo)) ∧
        RegsOnly [regAt b i off] s u ∧ Same [.regs] s u) ∧
    (∀ wh o n v, n ∈ [1, 2, 4, 8] → o % n = 0 → o + n ≤ 0x80000 → s.refusal wh true (0x800000 + o) n = none →
      ∃ u, exec (.registerWrite wh (0x800000 + o) n v) s = .next u ∧ (∀ k, tget u.retained 0 k =
        if o ≤ k ∧ k < o + n then BitVec.ofNat 8 (v.toNat / 2 ^ (8 * (k - o))) else tget s.retained 0 k) ∧ Same [.retained] s u) ∧
    (∀ wh a n v c, a < 0x4000000 → s.refusal wh true a n = some c →
      ∃ u, exec (.registerWrite wh a n v) s = .next u ∧ AccessRefused s u wh true c a) ∧
    (∀ wh w a n v c, a < 0x4000000 → s.refusal wh w a n = some c →
      ∃ u, exec (.refusedAccess wh w a n v) s = .next u ∧ AccessRefused s u wh w c a)

/-- R45, R54, R78: which accesses are refused, and with which DEV event. R61, R63: a broadcast write does the same write on every member; a
member in a Block reset takes it when that ends. -/
def Obligations.RefusalsAndBroadcasts : Prop :=
  (∀ (s : State) (wh w : Bool) (a n : Nat),
      ((n ≠ 4 ∧ n ≠ 8 ∨ a % n ≠ 0) → State.inWindow a = false → s.refusal wh w a n = some Ev.devBadAccess) ∧
      (n ∈ [4, 8] → a % n = 0 → State.inWindow a = false → pageAt a = none → bcastAt a = none → s.refusal wh w a n = some Ev.devUnmapped) ∧
      (∀ o, a = 0x800000 + o → o < 0x40000 → n ∈ [1, 2, 4, 8] → a % n = 0 → s.ready .rcc 0 = true →
        s.refusal false true a n = some Ev.devBadAccess ∧ s.refusal wh false a n = none) ∧
      (∀ b i off, a = regAt b i off → i < pageCount b → 0x100 ≤ off → off < 0x1000 → n = 8 → off % 8 = 0 → s.ready b i = false →
        s.refusal wh w a n = some Ev.devEarlyAccess) ∧
      (∀ b i off r k f, a = regAt b i off → i < pageCount b → n = 8 → RegMap.find b off = some (r, k) → f ∈ r.flds → f.acc = .rwl →
        s.locked = true → s.ready b i = true → s.refusal wh true a n = some Ev.devWriteLocked)) ∧
  (∀ (s : State) (wh : Bool) (v : Word) (off : Nat) (r : RegRow) (k : Nat),
      off ∈ [Off.timeout, Off.eventEn] → (∀ c, c < 2304 → tget s.rst.blk noBlk (pageBase .cor c) ≠ .running) →
      RegMap.find .cor off = some (r, k) → (∀ c, c < 2304 → s.rd (regAt .cor c Off.event) = 0) →
      s.refusal wh true (0x1F00000 + off) 8 = none →
      (∃ u, exec (.broadcastWrite wh (0x1F00000 + off) 8 v) s = .next u ∧
        (∀ c, c < 2304 → ∀ f ∈ r.flds, u.g .cor c off f.hi f.lo = fieldAfter f (s.g .cor c off f.hi f.lo) (fld v f.hi f.lo)) ∧
        Same [.regs] s u) ∧
      ∃ u, exec (.broadcastWrite wh (0x1F10000 + off) 8 v) s = .next u ∧
        (∀ c, c < 2304 → ∀ f ∈ r.flds, u.g .cor c off f.hi f.lo =
          if c < 576 then fieldAfter f (s.g .cor c off f.hi f.lo) (fld v f.hi f.lo) else s.g .cor c off f.hi f.lo) ∧ Same [.regs] s u)

/-- R59, R68, R70, R76, R77, R67: quiescing, event registers, MSI-X unmasking, snapshots, and the two DEV registers with rules of
their own. -/
def Obligations.HeaderAndDevCommands : Prop :=
  ∀ s : State,
    (∀ b i, i < pageCount b → ∃ u, exec (.quiesceWrite b i true) s = .next u ∧ u.quiet b i = true ∧
      RegsOnly [regAt b i Off.ctrl] s u ∧ Same [.regs] s u) ∧
    (∀ b i, i < pageCount b → b ≠ .mbx → b ≠ .xlt → b ≠ .kvp → ∃ u, exec (.quiesceWrite b i false) s = .next u ∧ u.quiet b i = false ∧
      tget u.rst.quiesced false (pageBase b i) = false ∧ RegsOnly [regAt b i Off.ctrl] s u ∧ Same [.regs, .rst] s u) ∧
    (∀ b i, i < pageCount b → s.quiet b i = true → s.busy b i = false → ∃ u, exec (.blockQuiesced b i) s = .next u ∧
      tget u.rst.quiesced false (pageBase b i) = true ∧ Same [.rst] s u) ∧
    (∀ b i v, i < pageCount b → ∃ u, exec (.eventRegWrite b i Off.eventEn v) s = .next u ∧
      u.rd (regAt b i Off.eventEn) = v ∧ RegsOnly [regAt b i Off.eventEn] s u ∧ Same [.regs, .hlk] s u ∧
      (s.rd (regAt b i Off.event) &&& v ≠ 0 → Messaged s u (s.g b i Off.eventVec 7 0)) ∧
      (s.rd (regAt b i Off.event) &&& v = 0 → u.hlk = s.hlk)) ∧
    (∀ v, v < 256 → ∃ u, exec (.msixUnmask v) s = .next u ∧
      (∀ w, u.msixEntry w = if w = v then { s.msixEntry v with masked := false, pend := false } else s.msixEntry w) ∧
      u.hlk.outbox = s.hlk.outbox ++ (if (s.msixEntry v).pend then [.msix v] else []) ∧ Same [.hlk] s u) ∧
    (∀ b i, i < pageCount b → hasCounters b = true → s.pageInReset b i = false → ∃ u, exec (.cntSnapTake b i) s = .next u ∧
      (∀ a ∈ State.counterRegs b i, tget u.snaps 0 a = s.rd a) ∧
      FieldSet s u b i Off.cntSnap 47 32 (s.g b i Off.cntSnap 47 32 + 1) ∧ RegsOnly [regAt b i Off.cntSnap] s u ∧ Same [.regs, .snaps] s u) ∧
    (s.ready .dev 0 = true → s.locked = false → ∀ v, ∃ u, exec (.devLockWrite v) s = .next u ∧ (u.locked = v) ∧
      RegsOnly [regAt .dev 0 Off.devLock] s u ∧ Same [.regs] s u) ∧
    (s.ready .dev 0 = true → s.locked = true → ∀ v, ∃ u, exec (.devLockWrite v) s = .next u ∧
      AccessRefused s u false true Ev.devWriteLocked Off.devLock) ∧
    (s.ready .dev 0 = true → s.locked = false → ∀ (n lo hi : Nat) (cap floor : BitVec 8), ifBounds n = some (lo, hi) →
      ((cap ≠ 0 → lo ≤ cap.toNat ∧ cap.toNat ≤ hi) → (floor ≠ 0 → lo ≤ floor.toNat ∧ floor.toNat ≤ hi) →
        (if floor = 0 then lo else floor.toNat) ≤ (if cap = 0 then hi else cap.toNat) →
        ∃ u, exec (.devIfCapFloorWrite n cap floor) s = .next u ∧ u.g .dev 0 (Off.devIf + 8 * n) 47 40 = cap.toNat ∧
          u.g .dev 0 (Off.devIf + 8 * n) 39 32 = floor.toNat ∧ RegsOnly [regAt .dev 0 (Off.devIf + 8 * n)] s u ∧ Same [.regs] s u) ∧
      ((if cap = 0 then hi else cap.toNat) < (if floor = 0 then lo else floor.toNat) →
        ∃ u, exec (.devIfCapFloorWrite n cap floor) s = .next u ∧ EventSet s u .dev 0 Ev.devVerBad ∧
          RegsOnly [regAt .dev 0 Off.event] s u ∧ Same [.regs, .hlk] s u))

/-! ### The host link (chapter 4) -/

/-- R66, R80, R81, R89: training chooses the highest mode that both sides accept, or fails; a retrain keeps the mode. R32, R81, R103, R105:
loss of light, a hot reset, a Function Level Reset and CXL Reset. -/
def Obligations.HostLinkStates : Prop :=
  (∀ (s : State) (offer : List (BitVec 8)) (width speed : BitVec 8) (lit : BitVec 16), s.hostMayTrain = true →
      widthFits lit.toNat width.toNat = true → 1 ≤ speed.toNat → speed.toNat ≤ 5 →
      (∀ m, s.hostState ≠ 3 → Chosen s 4 (fun c => BitVec.ofNat 8 c ∈ offer) m →
        ∃ u, exec (.hostLinkTrained offer width speed lit) s = .next u ∧
          u.hostState = 2 ∧ u.hostMode = m ∧ u.g .hlk 0 Off.hlkLink 55 48 = width.toNat ∧ u.g .hlk 0 Off.hlkLink 47 40 = speed.toNat ∧
          u.g .hlk 0 Off.hlkLink 39 24 = lit.toNat ∧ u.g .dev 0 (Off.devIf + 32) 31 24 = m ∧ u.g .dev 0 (Off.devIf + 32) 16 16 = 0 ∧
          u.g .hlk 0 Off.event Ev.hlkLinkUp Ev.hlkLinkUp = 1 ∧
          (width.toNat < 16 → u.g .hlk 0 Off.event Ev.hlkWidthDegraded Ev.hlkWidthDegraded = 1) ∧ Same [.regs, .hlk] s u) ∧
      (s.hostState ≠ 3 → (∀ c, c ∈ s.mine 4 → BitVec.ofNat 8 c ∉ offer) → ∃ u, exec (.hostLinkTrained offer width speed lit) s = .next u ∧
        u.hostState = s.hostState ∧ u.g .dev 0 (Off.devIf + 32) 16 16 = 1 ∧
        u.g .dev 0 Off.event Ev.devNegotiateFail Ev.devNegotiateFail = 1 ∧ Same [.regs, .hlk] s u) ∧
      (s.hostState = 3 → ∃ u, exec (.hostLinkTrained offer width speed lit) s = .next u ∧ u.hostState = 2 ∧ u.hostMode = s.hostMode ∧
        u.g .hlk 0 Off.hlkLink 55 48 = width.toNat ∧ Same [.regs, .hlk] s u)) ∧
  (∀ s : State,
      (∀ lit : BitVec 16, s.power.rails = true → s.rst.held = false → s.hostState = 2 → lit.toNat &&& s.hostLanes = 0 → s.hostLanes ≠ 0 →
        ∃ u, exec (.hostLightLoss lit) s = .next u ∧ BlkHeld u .hlk 0 ∧ BlkHeld u .mbx 0 ∧ u.hostState = 0 ∧ u.hlk.rings = [] ∧
          u.hlk.hdm = [] ∧ u.hlk.mbx = none ∧
          (s.power.drain = .none → u.g .hlk 0 Off.event Ev.hlkSurpriseDown Ev.hlkSurpriseDown = 1)) ∧
      (∀ lit : BitVec 16, s.power.rails = true → s.rst.held = false → s.hostState = 2 → lit.toNat &&& s.hostLanes ≠ 0 →
        lanesLit lit.toNat s.hostLanes = false → (∃ w ∈ [16, 8, 4], widthFits lit.toNat w = true) →
        ∃ u, exec (.hostLightLoss lit) s = .next u ∧ u.hostState = 3 ∧ u.g .hlk 0 Off.hlkLink 39 24 = lit.toNat ∧
          Counted s u .hlk 0 0x200 1 ∧ Same [.regs, .hlk] s u) ∧
      (s.hostState = 2 ∨ s.hostState = 3 → ∃ u, exec .hostHotReset s = .next u ∧ BlkHeld u .hlk 0 ∧ BlkHeld u .mbx 0 ∧ u.hostState = 1 ∧
        u.hlk.rings = [] ∧ u.hlk.hdm = [] ∧ u.hlk.mbx = none) ∧
      (s.hostState = 2 → s.coveredPage .hlk 0 = false → ∃ u, exec .functionLevelReset s = .next u ∧ BlkHeld u .hlk 0 ∧ BlkHeld u .mbx 0 ∧
        u.hostState = 2 ∧ u.hlk.rings = [] ∧ u.hlk.hdm = s.hlk.hdm ∧ u.hlk.exposed = s.hlk.exposed ∧ u.hlk.mbx = none) ∧
      (s.hostState = 2 → s.hostMode = 0x20 → s.power.drain ≠ .running → (∀ r ∈ s.rst.reqs, r.cls = .basin) → exec .cxlReset s =
        .next (withReqs s [{ cls := .warm, basin := 0, src := 0x11, asserted := false }])) ∧
      (s.hostMode ≠ 0x20 → exec .cxlReset s = .next s))

/-- R84, R85, R87: the HDM window, its decoders, the bias bits, host accesses, and DOE discovery. -/
def Obligations.HdmWindow : Prop :=
  ∀ s : State,
    (∀ n hpa dpa size ways, n < 2 → s.hostState = 2 → s.hostMode ≠ 0x10 → (s.hdm n).committed = false →
      ∃ u, exec (.hdmDecoderCommit n hpa dpa size ways) s = .next u ∧ Same [.hlk] s u ∧
        (u.hdm n).committed = s.hdmOk n hpa dpa size ways ∧ (u.hdm n).notCommitted = !s.hdmOk n hpa dpa size ways ∧
        (u.hdm n).hpa = hpa ∧ (u.hdm n).dpa = dpa ∧ (u.hdm n).size = size ∧ u.hdm (1 - n) = s.hdm (1 - n)) ∧
    (∀ e : BitVec 11, s.ready .hlk 0 = true → s.locked = false → e.toNat ≤ 1024 → e.toNat ≤ s.dimmSize / 2 ^ 30 →
      ∃ u, exec (.hdmExposeWrite e) s = .next u ∧ FieldSet s u .hlk 0 Off.hlkHdmcfg 10 0 e.toNat ∧
        RegsOnly [regAt .hlk 0 Off.hlkHdmcfg] s u ∧ Same [.regs] s u) ∧
    (∀ e : BitVec 11, s.ready .hlk 0 = true → s.locked = false → (1024 < e.toNat ∨ s.dimmSize / 2 ^ 30 < e.toNat) →
      ∃ u, exec (.hdmExposeWrite e) s = .next u ∧ EventSet s u .hlk 0 Ev.hlkRingError ∧ RegsOnly [regAt .hlk 0 Off.event] s u ∧
        Same [.regs, .hlk] s u) ∧
    (∀ n v, n < 16 → s.ready .hlk 0 = true → v ≠ s.rd (regAt .hlk 0 (Off.hlkBias + 8 * n)) →
      ∃ u, exec (.hlkBiasWrite n v) s = .next u ∧ u.rd (regAt .hlk 0 (Off.hlkBias + 8 * n)) = v ∧ u.hlk.biasSettling = true ∧
        RegsOnly [regAt .hlk 0 (Off.hlkBias + 8 * n)] s u ∧ Same [.regs, .hlk] s u) ∧
    (exec .biasSettled s = .next { s with hlk := { s.hlk with biasSettling := false } }) ∧
    (∀ hpa d room bs, s.hdmMap hpa = some (d, room) → bs ≠ [] → bs.length ≤ room → s.hostState = 2 → s.hostMode ≠ 0x10 →
      s.physRes (0x80000000000 + d) bs.length = .ok → (∀ c, c < 24 → s.ready .mem c = true) →
      ∃ u, exec (.hostHdmAccess true hpa bs.length bs) s = .next u ∧ StoredAt s u (0x80000000000 + d) bs ∧
        (s.deviceBias d = true → u.g .hlk 0 Off.event Ev.hlkBiasViolation Ev.hlkBiasViolation = 1)) ∧
    (∀ hpa d room n, s.hdmMap hpa = some (d, room) → 0 < n → n ≤ room → s.hostState = 2 → s.hostMode ≠ 0x10 →
      s.physRes (0x80000000000 + d) n = .ok → s.deviceBias d = false → s.deviceBias (d + n - 1) = false →
      ∃ u, exec (.hostHdmAccess false hpa n []) s = .next u ∧ u.mem = s.mem ∧
        ∃ l, u.hlk.outbox = l ++ [.hdm ((List.range n).map fun k => memByte s (0x80000000000 + d + k)) (s.physPoison (0x80000000000 + d) n)]) ∧
    (∀ i : Byte, s.hostConfig = true → exec (.doeRequest (.discovery i)) s = .next (s.out [.doe (State.doeDiscovery i.toNat)]))

/-- R91 to R94, R99, R106: opening, closing and resetting a ring, and the two doorbells. -/
def Obligations.RingLifecycle : Prop :=
  ∀ (s : State) (r : Nat), r < 64 →
    (∀ v f, s.ready .hlk 0 = true → (s.ring r).st = 0 → bit v 63 = false → 6 ≤ fld v 20 16 → fld v 20 16 ≤ 16 → fld v 47 40 = f →
      f ∈ s.mine 2 → ∃ u, exec (.ringOpen r v) s = .next u ∧
        u.ring r = { ringClosed with fmt := BitVec.ofNat 8 f, phase := true, st := 1, fill := bit v 1 } ∧
        u.ringSize r = 2 ^ fld v 20 16 ∧ (∀ q, q ≠ r → u.ring q = s.ring q) ∧ Same [.regs, .hlk] s u) ∧
    (∀ v, s.ready .hlk 0 = true → (s.ring r).st = 0 → bit v 63 = false → (fld v 20 16 < 6 ∨ 16 < fld v 20 16) →
      ∃ u, exec (.ringOpen r v) s = .next u ∧ u.ring r = { ringClosed with err := 5 } ∧ Same [.regs, .hlk] s u) ∧
    (∀ v, s.ready .hlk 0 = true → (s.ring r).st = 0 → bit v 63 = false → 6 ≤ fld v 20 16 → fld v 20 16 ≤ 16 → fld v 47 40 ∉ s.mine 2 →
      ∃ u, exec (.ringOpen r v) s = .next u ∧ u.ring r = { ringClosed with err := 4 } ∧
        u.g .dev 0 Off.event Ev.devNegotiateFail Ev.devNegotiateFail = 1 ∧ Same [.regs, .hlk] s u) ∧
    (s.ready .hlk 0 = true → (s.ring r).st = 1 → bit (s.rcfg r) 63 = false → ∃ u, exec (.ringClose r) s = .next u ∧
      (∀ q, u.ring q = if q = r then { s.ring r with closing := true } else s.ring q) ∧ bit (u.rcfg r) 0 = false ∧
      RegsOnly [State.rcfgAt r] s u ∧ Same [.regs, .hlk] s u) ∧
    ((s.ring r).closing = true → (s.ring r).st = 1 ∨ (s.ring r).st = 2 → (∀ c ∈ (s.ring r).cmds, c.phase = .fetched) →
      exec (.ringCloseDone r) s = .next (s.setRing r { ringClosed with err := (s.ring r).err })) ∧
    (s.ready .hlk 0 = true → (s.ring r).st = 1 → (∀ c ∈ (s.ring r).cmds, c.phase ≠ .started) → ∃ u, exec (.ringReset r) s = .next u ∧
      (u.ring r).st = 3 ∧ (u.ring r).cmds = (s.ring r).cmds.filter (fun c => !c.fetched) ∧ bit (u.rcfg r) 63 = true ∧
      (∀ q, q ≠ r → u.ring q = s.ring q) ∧ RegsOnly [State.rcfgAt r] s u ∧ Same [.regs, .hlk, .loads] s u) ∧
    ((s.ring r).st = 3 → (s.ring r).cmds = [] → ∃ u, exec (.ringResetDone r) s = .next u ∧
      u.ring r = { ringClosed with err := (s.ring r).err } ∧ u.rcfg r = 0 ∧ RegsOnly [State.rcfgAt r] s u ∧ Same [.regs, .hlk] s u) ∧
    (∀ tail : BitVec 16, s.power.drain = .none → (s.ring r).st = 1 →
      (tail.toNat < s.ringSize r → exec (.commandTailDoorbell r tail) s = .next (s.setRing r { s.ring r with tail := tail.toNat })) ∧
      (s.ringSize r ≤ tail.toNat → ∃ u, exec (.commandTailDoorbell r tail) s = .next u ∧
        u.ring r = { s.ring r with st := 2, err := 1 } ∧ EventSet s u .hlk 0 Ev.hlkRingError ∧ Same [.regs, .hlk] s u)) ∧
    (∀ head : BitVec 16, s.power.drain = .none → (s.ring r).st = 1 → head.toNat < s.ringSize r →
      exec (.completionHeadDoorbell r head) s = .next (s.setRing r { s.ring r with chead := head.toNat })) ∧
    (∀ c ∈ [Instr.commandTailDoorbell r 0, .completionHeadDoorbell r 0],
      (s.power.drain ≠ .none → exec c s = .next s) ∧
      (s.power.drain = .none → (s.ring r).st ≠ 1 → ∃ u, exec c s = .next u ∧ EventSet s u .hlk 0 Ev.hlkDoorbellIdle ∧
        RegsOnly [regAt .hlk 0 Off.event] s u ∧ Same [.regs, .hlk] s u))

/-- R94, R95, R98: a fetch takes the next entry and moves the head; a completion writes its entry at the tail of the completion ring, flips
the phase at the wrap, and sends its interrupt when asked. R96, R235: STREAM pushes its descriptor list on a hub queue, in order; COPY
pushes operations that move its bytes. -/
def Obligations.RingFlow : Prop :=
  (∀ (s : State) (r : Nat), r < 64 →
      (∀ e c n, (s.ring r).st = 1 → (s.ring r).closing = false → (s.ring r).tail ≠ (s.ring r).head → s.ready .hlk 0 = true →
        s.quiet .hlk 0 = false → 0 < s.slotsLeft r → n = (if (s.ring r).fmt = 0x20 then 64 else 32) →
        s.hostRead (fld (s.rd (State.rcfgAt r + 8)) 63 12 * 4096 + (s.ring r).head * n) n = some e →
        c = Cmd.ofEntry s.hlk.nextUid (s.ring r).fmt.toNat e → ∃ u, exec (.commandFetch r) s = .next u ∧
          (∀ q, u.ring q = if q = r then { s.ring r with head := ((s.ring r).head + 1) % s.ringSize r, cmds := (s.ring r).cmds ++
            [match c.refused (s.ring r).fmt.toNat with
              | some st => { c with phase := .finished (BitVec.ofNat 16 st) 0 }
              | none => c] } else s.ring q) ∧ u.hlk.nextUid = s.hlk.nextUid + 1 ∧ Same [.hlk] s u) ∧
      (∀ i c st res a, ((s.ring r).cmds.filter (·.ended))[i]? = some c → c.phase = .finished st res →
        (c.fenced = true → (s.ring r).cmds.head?.map (·.uid) = some c.uid) → (s.ring r).err ≠ 3 →
        a = fld (s.rd (State.rcfgAt r + 16)) 63 12 * 4096 + (s.ring r).ctail * State.complLen (s.ring r) →
        a + State.complLen (s.ring r) ≤ 2 ^ 52 → s.hostUp = true → c.flags.toNat.testBit 0 = false →
        (∀ d ds, (s.ring r).cmds.filter (·.uid ≠ c.uid) = d :: ds → d.op ≠ 5) → ∃ u, exec (.commandComplete r i) s = .next u ∧
          StoredAt s u (0x10000000000000 + a) (s.complEntry r c st res) ∧
          (u.ring r).cmds = (s.ring r).cmds.filter (·.uid ≠ c.uid) ∧
          (u.ring r).ctail = (if s.ringSize r ≤ (s.ring r).ctail + 1 then 0 else (s.ring r).ctail + 1) ∧
          (u.ring r).phase = (if s.ringSize r ≤ (s.ring r).ctail + 1 then !(s.ring r).phase else (s.ring r).phase) ∧
          (∀ q, q ≠ r → u.ring q = s.ring q))) ∧
  (∀ (s : State) (r : Nat) (c : Cmd),
      (∀ q n bs s', HeadIs s r 3 c → n = c.arg 8 4 → 0 < n → c.arg 12 1 ≤ 3 → c.arg 13 1 ≤ 7 → s.basinReady (c.arg 12 1) = true →
        q = 18432 + 8 * c.arg 12 1 + c.arg 13 1 → s.vread 0 (c.arg 0 8) (128 * n) = .ok bs false s' →
        ∃ u ops, exec (.stream r) s = .next u ∧ CmdNow s' u r c.uid .started ∧
          (∀ k, u.queue k = if k = q then s'.queue q ++ ops else s'.queue k) ∧ ops.length = n ∧
          (∀ i o, ops[i]? = some o → o.desc = bsub bs (128 * i) 128 ∧ o.cmd = some (r, c.uid, i) ∧ o.step = c.step ∧ o.started = false) ∧
          Same [.hlk, .queues, .nextOp] s' u) ∧
      (∀ q len, HeadIs s r 4 c → len = c.arg 16 8 → 0 < len → c.arg 0 8 + len ≤ 2 ^ 57 → c.arg 8 8 + len ≤ 2 ^ 57 →
        s.basinReady (r % 4) = true → q = 18432 + 8 * (r % 4) → ∃ u ops, exec (.copy r) s = .next u ∧ CmdNow s u r c.uid .started ∧
          (∀ k, u.queue k = if k = q then s.queue q ++ ops else s.queue k) ∧ (ops.map fun o => State.descTotal o.desc).sum = len ∧
          (∀ o ∈ ops, o.cmd = some (r, c.uid, 0) ∧ o.step = c.step ∧ o.started = false) ∧ Same [.hlk, .queues, .nextOp] s u))

/-- R39, R96, R363, R372: NOP, FENCE, SIGNAL, WAIT and STEP_BEGIN as the head command of a ring, and a command held for a basin. -/
def Obligations.RingCommands : Prop :=
  ∀ (s : State) (r : Nat) (c : Cmd),
    (HeadIs s r 0 c → ∃ u, exec (.ringNop r) s = .next u ∧ CmdEnds s u r c.uid 0 0 ∧ Same [.hlk] s u) ∧
    (HeadIs s r 5 c → (s.ring r).cmds.head? = some c → ∃ u, exec (.fence r) s = .next u ∧ CmdEnds s u r c.uid 0 0 ∧ Same [.hlk] s u) ∧
    (HeadIs s r 5 c → (∀ d, (s.ring r).cmds.head? = some d → d.uid ≠ c.uid ∧ d.op ≠ 5) →
      ∃ u, exec (.fence r) s = .next u ∧ CmdNow s u r c.uid .started ∧ Same [.hlk] s u) ∧
    (∀ s' b p, HeadIs s r 6 c → s.vwrite 0 (c.arg 0 8) (natBytes 8 (c.arg 8 8)) = .ok b p s' →
      ∃ u, exec (.signal r) s = .next u ∧ u.mem = s'.mem ∧ CmdEnds s' u r c.uid 0 0 ∧ Same [.hlk] s' u) ∧
    (HeadIs s r 7 c → c.arg 16 1 ≤ 1 → ∃ u, exec (.wait r) s = .next u ∧ CmdNow s u r c.uid .started ∧ Same [.hlk] s u) ∧
    (∀ i bs s', ((s.ring r).cmds.filter fun c => c.op = 7 ∧ c.phase = .started)[i]? = some c →
      s.vread 0 (c.arg 0 8) 8 = .ok bs false s' → ∃ u, exec (.waitPoll r i) s = .next u ∧
        if (c.arg 16 1 = 0 ∧ c.arg 8 8 ≤ leNat bs) ∨ (c.arg 16 1 ≠ 0 ∧ leNat bs = c.arg 8 8) then
          u = s'.finishCmd r c.uid 0 0 else u = s') ∧
    (HeadIs s r 8 c → c.step ≠ 0 → c.step.toNat < 2 ^ 48 → s.ready .red 0 = true → s.phase = 0 → s.redState = 0 →
      s.jrn = { due := false, resolving := false, held := false, resend := false } → s.power.drain = .none →
      tget s.rst.quiesced false (pageBase .red 0) = false → s.quiet .red 0 = false → s.red.later = [] →
      ∃ u, exec (.stepBegin r) s = .next u ∧ u.redState = 1 ∧ u.redStep = c.step.toNat ∧
        (s.g .ras 0 Off.rasReplayctl 63 63 = 1 → s.g .ras 0 Off.rasReplayctl 47 0 = c.step.toNat →
          u.attempt = s.g .ras 0 Off.rasReplayctl 59 56 ∧ u.g .ras 0 Off.rasReplayctl 63 63 = 0) ∧
        (s.g .ras 0 Off.rasReplayctl 63 63 = 0 → u.attempt = 0)) ∧
    (∀ op ∈ [2, 3, 4], HeadIs s r op c → s.headHeld r c = true → ∃ u, exec (.notReadyTimeout r) s = .next u ∧
      CmdEnds s u r c.uid 9 0 ∧ Same [.hlk] s u)

/-- R122 to R124, R203, R204: LOAD_KERNEL places a checked kernel in a free slot under a new handle; a replacement waits until nothing
uses the old one; LAUNCH enters the queue of each target core, or ends with its cause. -/
def Obligations.LoadsAndLaunches : Prop :=
  ∀ (s : State) (r : Nat) (c : Cmd),
    (∀ h s1 s2 v img s3 k, HeadIs s r 1 c → 64 ≤ c.arg 8 4 → s.vread 0 (c.arg 0 8) 64 = .ok h false s1 →
      s1.negotiate 1 (· = bat h 4 1) = (s2, some v) → bat h 0 4 = 0x4E545053 → c.arg 8 4 = 64 + 8 * bat h 8 4 →
      s2.vread 0 (c.arg 0 8) (c.arg 8 4) = .ok img false s3 → imageKernel v img = .ok k → bat img 32 8 = 0 →
      s3.codeHeld + 8 * k.code.length ≤ 16777216 → (∃ n, n < 256 ∧ s3.kernelAt n = none) →
      ∃ u n k', exec (.loadKernel r) s = .next u ∧ n < 256 ∧ s3.kernelAt n = none ∧
        k' = { k with gen := BitVec.ofNat 24 (tget s3.gens 0 n + 1) } ∧
        (∀ m, u.kernelAt m = if m = n then some k' else s3.kernelAt m) ∧ CmdEnds s3 u r c.uid 0 (k'.handle n) ∧
        Same [.hlk, .kernels, .gens] s3 u) ∧
    (HeadIs s r 1 c → c.arg 8 4 < 64 → ∃ u, exec (.loadKernel r) s = .next u ∧
      CmdEnds s u r c.uid 2 (BitVec.ofNat 64 (2 * 2 ^ 48 + c.arg 8 4)) ∧ Same [.hlk] s u) ∧
    (∀ slot x old, s.loads.find? (·.slot = slot) = some x → s.handleUsed x.handle = false → s.kernelOf x.handle = some old →
      x.handle.toNat % 65536 = slot → s.codeHeld - 8 * old.code.length + 8 * x.kernel.code.length ≤ 16777216 →
      ∃ u, exec (.kernelReplaceApply slot) s = .next u ∧ u.loads = s.loads.filter (· ≠ x) ∧
        (∀ m, u.kernelAt m = if m = slot then some { x.kernel with gen := BitVec.ofNat 24 (tget s.gens 0 slot + 1) } else s.kernelAt m) ∧
        Same [.hlk, .kernels, .gens, .loads] s u) ∧
    (∀ t cs k, HeadIs s r 2 c → s.turnOf (s.ring r).fill = some r → t = c.arg 16 2 → s.targetsOf t = some cs →
      s.launchRefusal (s.ring r).fill (BitVec.ofNat 64 (c.arg 0 8)) t (c.arg 18 2) (some cs) = none →
      s.kernelOf (BitVec.ofNat 64 (c.arg 0 8)) = some k → (∀ d ∈ cs, (s.classQ d (s.ring r).fill).length < 4) → cs.Nodup →
      ∃ u x, exec (.launch r) s = .next u ∧ CmdNow s u r c.uid .started ∧ u.launch? c.uid = some x ∧ x.targets = cs ∧ x.kernel = k ∧
        x.args = BitVec.ofNat 64 (c.arg 8 8) ∧ x.shoals = c.arg 18 2 ∧ x.step = c.step ∧ x.started = [] ∧ x.ended = [] ∧
        (∀ d, u.classQ d (s.ring r).fill = s.classQ d (s.ring r).fill ++ (if d ∈ cs then [c.uid] else [])) ∧
        (∀ l, l ≠ c.uid → u.launch? l = s.launch? l) ∧ Same [.hlk, .launches, .cores] s u) ∧
    (∀ cause core detail, HeadIs s r 2 c → s.turnOf (s.ring r).fill = some r →
      s.launchRefusal (s.ring r).fill (BitVec.ofNat 64 (c.arg 0 8)) (c.arg 16 2) (c.arg 18 2) (s.targetsOf (c.arg 16 2)) =
        some (cause, core, detail) → ∃ u, exec (.launch r) s = .next u ∧
        CmdEnds s u r c.uid 2 (BitVec.ofNat 64 (cause * 2 ^ 48 + core * 2 ^ 32 + detail % 2 ^ 32)) ∧ Same [.hlk] s u)

/-! ### The mailbox and its commands (R100 to R102, R230, R409, R411, R421, R422, R427, R429) -/

/-- R100, R101: every mailbox command is rejected while one is in flight, and refused with BAD_OPCODE outside the table of R102; the
response sets DONE and CMD_DONE and clears GO; a timeout answers with STATUS 4; a watchdog restart of the wellhead with STATUS 3. -/
def Obligations.MailboxProtocol : Prop :=
  ∀ (s : State) (seq len : BitVec 16),
    (s.ready .mbx 0 = true → s.g .mbx 0 Off.mbxCmd 63 63 = 1 →
      ∀ c ∈ [Instr.getInfo seq len, .faultLogOpen seq len, .faultRead seq len, .tlmRead seq len, .fwStage seq len],
        ∃ u, exec c s = .next u ∧ EventSet s u .mbx 0 Ev.mbxBusyReject ∧ RegsOnly [regAt .mbx 0 Off.event] s u ∧ Same [.regs, .hlk] s u ∧
          u.hlk.mbx = s.hlk.mbx) ∧
    (s.ready .mbx 0 = true → s.g .mbx 0 Off.mbxCmd 63 63 = 1 →
      ∀ e ∈ [(Instr.fwActivateTrial seq len, 0, 0), (.fwActivateRestart seq len, 0, 1), (.fwActivateCancel seq len, 0, 2),
          (.getNonce seq len, 0, 0), (.unlock seq len, 0, 1), (.lock seq len, 0, 2), (.provision seq len, 0, 3), (.revoke seq len, 0, 4),
          (.xltResolveRetry seq len, 4, 0), (.xltResolveFail seq len, 4, 1)],
        bat (s.mbxPayload 2048) e.2.1 1 = e.2.2 → ∃ u, exec e.1 s = .next u ∧ EventSet s u .mbx 0 Ev.mbxBusyReject ∧
          RegsOnly [regAt .mbx 0 Off.event] s u ∧ Same [.regs, .hlk] s u ∧ u.hlk.mbx = s.hlk.mbx) ∧
    (∀ op : BitVec 16, s.ready .mbx 0 = true → s.g .mbx 0 Off.mbxCmd 63 63 = 1 → op.toNat ∉ State.mbxOpcodes →
      ∃ u, exec (.mbxBadOpcode seq len op) s = .next u ∧ EventSet s u .mbx 0 Ev.mbxBusyReject ∧
        RegsOnly [regAt .mbx 0 Off.event] s u ∧ Same [.regs, .hlk] s u ∧ u.hlk.mbx = s.hlk.mbx) ∧
    (s.hlk.mbx = none → exec .mbxResponse s = .next s ∧ exec .mbxTimeout s = .next s) ∧
    (∀ op : BitVec 16, MbxFree s → op.toNat ∉ State.mbxOpcodes → ∃ u, exec (.mbxBadOpcode seq len op) s = .next u ∧
      MbxHas u op.toNat seq 1 [] ∧ Same [.regs, .hlk] s u) ∧
    (∀ r st bs, s.hlk.mbx = some r → r.answer = some (st, bs) → bs.length ≤ 2048 → ∃ u, exec .mbxResponse s = .next u ∧ u.hlk.mbx = none ∧
      u.rd (regAt .mbx 0 Off.mbxResp) = BitVec.ofNat 64 (2 ^ 63 + r.seq.toNat * 2 ^ 32 + bs.length * 2 ^ 16 + st.toNat) ∧
      u.g .mbx 0 Off.mbxCmd 63 63 = 0 ∧ u.g .mbx 0 Off.event Ev.mbxCmdDone Ev.mbxCmdDone = 1 ∧
      (∀ k, k < bs.length → bat (u.mbxPayload 2048) k 1 = (bs.getD k 0).toNat) ∧ Same [.regs, .hlk] s u) ∧
    (∀ r, s.hlk.mbx = some r → (r.answer.isSome = true ∨ s.quiet .mbx 0 = false) → ∃ u, exec .mbxTimeout s = .next u ∧
      u.hlk.mbx = none ∧ u.rd (regAt .mbx 0 Off.mbxResp) = BitVec.ofNat 64 (2 ^ 63 + r.seq.toNat * 2 ^ 32 + 4) ∧
      u.g .mbx 0 Off.mbxCmd 63 63 = 0 ∧ u.g .mbx 0 Off.event Ev.mbxTimeout Ev.mbxTimeout = 1 ∧
      u.g .mbx 0 Off.event Ev.mbxCmdDone Ev.mbxCmdDone = 1 ∧ Same [.regs, .hlk] s u) ∧
    (∀ r, s.power.standby = true → s.sec.running = true → s.hlk.mbx = some r → ∃ u, exec .wellheadWatchdogExpiry s = .next u ∧
      u.sec = { s.sec with running := false, trial := false, restartDue := false } ∧ u.hlk.mbx = none ∧
      u.rd (regAt .mbx 0 Off.mbxResp) = BitVec.ofNat 64 (2 ^ 63 + r.seq.toNat * 2 ^ 32 + 3) ∧
      u.g .mbx 0 Off.event Ev.mbxWellheadRestart Ev.mbxWellheadRestart = 1 ∧ Same [.regs, .hlk, .sec] s u)

/-- R409, R411, R429: GET_INFO, the fault log and TLM_READ. R230: the host answers a translation fault in its queue: RETRY searches the map
again; FAIL ends the held operation. -/
def Obligations.MailboxReports : Prop :=
  (∀ (s : State) (seq : BitVec 16), MbxFree s →
      (∃ u bs, exec (.getInfo seq 0) s = .next u ∧ MbxHas u 0x0001 seq 0 bs ∧ bs.length = 64 ∧
        bat bs 0 4 = s.g .sec 0 Off.secBoot 63 32 ∧ bat bs 4 1 = s.g .sec 0 Off.secBoot 0 0 ∧ bat bs 5 1 = s.pendingByte ∧
        bat bs 6 1 = s.sec.fwMeta.tries % 256 ∧ bat bs 7 1 = s.g .sec 0 Off.secBoot 31 24 ∧ bat bs 8 1 = s.sec.rollback % 256 ∧
        bat bs 9 1 = 0 ∧ bat bs 10 1 = s.g .sec 0 Off.secDebug 0 0 ∧ Same [.regs, .hlk] s u) ∧
      (∀ len : BitVec 16, len ≠ 0 → len.toNat ≤ 2048 → ∃ u, exec (.getInfo seq len) s = .next u ∧ MbxHas u 0x0001 seq 2 [] ∧
        Same [.regs, .hlk] s u) ∧
      (∀ v, bat (s.mbxPayload 1) 0 1 = v → v ∈ s.mine 3 → ∃ u bs, exec (.faultLogOpen seq 1) s = .next u ∧ MbxHas u 0x0010 seq 0 bs ∧
        bs.length = 16 ∧ bat bs 0 1 = v ∧ bat bs 4 4 = s.ras.pending.length % 2 ^ 32 ∧ u.g .ras 0 Off.rasFlog 63 56 = v ∧
        Same [.regs, .hlk] s u) ∧
      (bat (s.mbxPayload 1) 0 1 ∉ s.mine 3 → ∃ u, exec (.faultLogOpen seq 1) s = .next u ∧ MbxHas u 0x0010 seq 6 [] ∧
        u.g .ras 0 Off.rasFlog 63 56 = s.g .ras 0 Off.rasFlog 63 56 ∧ Same [.regs, .hlk] s u) ∧
      (∀ ack n two, bat (s.mbxPayload 9) 0 8 = ack → bat (s.mbxPayload 9) 8 1 = n → two = decide (s.g .ras 0 Off.rasFlog 63 56 = 0x20) →
        ∃ u, exec (.faultRead seq 9) s = .next u ∧ u.ras.pending = s.ras.pending.filter (fun q => decide (ack < q.seq)) ∧
          MbxHas u 0x0011 seq 0 (((u.ras.pending.take (min n (if two then 6 else 7))).map (cper two)).flatten) ∧ Same [.regs, .hlk, .ras] s u) ∧
      (∀ h, h < 2 → bat (s.mbxPayload 2) 0 1 = 0 → bat (s.mbxPayload 2) 1 1 = h → ∃ u, exec (.tlmRead seq 2) s = .next u ∧
        MbxHas u 0x0020 seq 0 (bsub (u.tlmRecord s.ras.tlmSeq 0) (2048 * h) 2048) ∧
        FieldSet s u .tlm 0 Off.cntSnap 47 32 (s.g .tlm 0 Off.cntSnap 47 32 + 1) ∧ Same [.regs, .hlk, .snaps] s u) ∧
      (∀ h r, h < 2 → bat (s.mbxPayload 2) 0 1 = 1 → bat (s.mbxPayload 2) 1 1 = h →
        (s.ras.tlm.filter fun (q : TlmRec) => q.good).getLast? = some r → ∃ u, exec (.tlmRead seq 2) s = .next u ∧
        MbxHas u 0x0020 seq 0 (bsub r.data (2048 * h) 2048) ∧ Same [.regs, .hlk] s u)) ∧
  (∀ (s : State) (seq : BitVec 16) (f : XFault), MbxFree s → bat (s.mbxPayload 8) 5 3 = 0 →
      (s.mem.faults.find? fun g => g.id = bat (s.mbxPayload 8) 0 4 && g.stage = .queued) = some f →
      (∀ g ∈ s.mem.faults, g.stage ≠ .hostWait) → (s.mem.faults.map (·.id)).Nodup →
      (bat (s.mbxPayload 2048) 4 1 = 0 → ∃ u, exec (.xltResolveRetry seq 8) s = .next u ∧ MbxHas u 0x0040 seq 0 [] ∧
        (∀ g, g ∈ u.mem.faults ↔ g ∈ s.mem.faults ∧ g.id ≠ f.id ∨ g = { f with stage := .search }) ∧ u.mem.slices = s.mem.slices) ∧
      (bat (s.mbxPayload 2048) 4 1 = 1 → f.holders = [] → ∃ u, exec (.xltResolveFail seq 8) s = .next u ∧ MbxHas u 0x0040 seq 0 [] ∧
        (∀ g, g ∈ u.mem.faults ↔ g ∈ s.mem.faults ∧ g.id ≠ f.id) ∧ u.mem.slices = s.mem.slices))

/-! ### Firmware, debug unlock and attestation (chapter 18) -/

/-- R417, R420 to R422: FW_STAGE takes the image in order into the slot that is not ACTIVE and verifies it whole; FW_ACTIVATE names it;
a wellhead start chooses the slot; a trial image confirms itself. -/
def Obligations.FirmwareUpdate : Prop :=
  ∀ (s : State) (seq len : BitVec 16) (req data : Bytes) (off total : Nat) (slot : Bool),
    len.toNat ≤ 2048 → req = s.mbxPayload len.toNat → off = bat req 0 4 → total = bat req 4 4 → data = req.drop 8 →
    slot = !s.sec.fwMeta.active →
    (MbxFree s → 8 ≤ len.toNat → s.runSlot = slot → ∃ u, exec (.fwStage seq len) s = .next u ∧ MbxHas u 0x0030 seq 6 [5] ∧
      Same [.regs, .hlk] s u) ∧
    (MbxFree s → 8 ≤ len.toNat → s.runSlot ≠ slot → off ≠ 0 →
      (off ≠ s.sec.staged ∨ total ≠ s.sec.stagedTotal ∨ total < off + data.length) →
      ∃ u, exec (.fwStage seq len) s = .next u ∧ MbxHas u 0x0030 seq 6 [5] ∧ Same [.regs, .hlk] s u) ∧
    (MbxFree s → 8 ≤ len.toNat → s.runSlot ≠ slot → (off = 0 ∨ (off = s.sec.staged ∧ total = s.sec.stagedTotal)) →
      0 < total → total ≤ 0x4000000 → off + data.length ≤ total → ∃ u code, exec (.fwStage seq len) s = .next u ∧
        MbxHas u 0x0030 seq (if code < 2 then 0 else 6) [BitVec.ofNat 8 code] ∧
        u.slotImg slot = (s.slotImg slot).take off ++ data ∧ u.slotImg (!slot) = s.slotImg (!slot) ∧
        u.sec.staged = off + data.length ∧ u.sec.stagedTotal = total ∧
        u.sec.fwMeta = (if off = 0 then { s.sec.fwMeta with pending := none } else s.sec.fwMeta) ∧
        (off + data.length < total → code = 0) ∧
        (off + data.length = total → code = (match s.imgCheck (u.slotImg slot) with | 0 => 1 | 2 => 4 | 5 => 3 | _ => 2)) ∧
        (code = 1 → u.sec.verified = true ∧ u.g .sec 0 Off.event Ev.secFwStaged Ev.secFwStaged = 1) ∧ Same [.regs, .hlk, .sec] s u) ∧
    (∀ mode c, (mode = 0 ∧ c = Instr.fwActivateTrial seq 1 ∨ mode = 1 ∧ c = .fwActivateRestart seq 1) → MbxFree s →
      bat (s.mbxPayload 1) 0 1 = mode →
      (s.sec.verified = false → ∃ u, exec c s = .next u ∧ MbxHas u 0x0031 seq 6 [] ∧ Same [.regs, .hlk] s u) ∧
      (s.sec.verified = true → ∃ u, exec c s = .next u ∧ MbxHas u 0x0031 seq 0 [] ∧
        u.sec = { s.sec with fwMeta := { s.sec.fwMeta with pending := some slot, tries := 3 },
                             restartDue := s.sec.restartDue || decide (mode = 1) } ∧ Same [.regs, .hlk, .sec] s u)) ∧
    (MbxFree s → bat (s.mbxPayload 1) 0 1 = 2 → ∃ u, exec (.fwActivateCancel seq 1) s = .next u ∧ MbxHas u 0x0031 seq 0 [] ∧
      u.sec = { s.sec with fwMeta := { s.sec.fwMeta with pending := none } } ∧ Same [.regs, .hlk, .sec] s u) ∧
    (∀ after, s.sec.running = true → s.sec.restartDue = true → (s.phase = 0 ∨ after = true) →
      exec (.wellheadActivationRestart after) s = .next { s with sec := secDown s }) ∧
    (s.power.standby = true → s.sec.running = true → s.hlk.mbx = none → ∃ u, exec .wellheadSramUe s = .next u ∧ u.sec = secDown s ∧
      u.g .mbx 0 Off.event Ev.mbxWellheadRestart Ev.mbxWellheadRestart = 1 ∧ Recorded s u 0x13 0 0x03) ∧
    (s.power.standby = true → s.sec.running = false → s.hlk.mbx = none → s.sec.doePending = [] →
      (∀ b, s.sec.fwMeta.pending = some b → 0 < s.sec.fwMeta.tries → ∃ u, exec .wellheadBoot s = .next u ∧
        u.sec.fwMeta = { s.sec.fwMeta with tries := s.sec.fwMeta.tries - 1 } ∧ Same [.regs, .hlk, .sec] s u ∧
        (s.imgCheck (s.slotImg b) = 0 → Booted s u u.sec.fwMeta b false true) ∧
        (s.imgCheck (s.slotImg b) ≠ 0 → s.imgCheck (s.slotImg !b) = 0 → Booted s u u.sec.fwMeta (!b) true false)) ∧
      ((s.sec.fwMeta.pending = none ∨ s.sec.fwMeta.tries = 0) → ∃ u, exec .wellheadBoot s = .next u ∧ Same [.regs, .hlk, .sec] s u ∧
        (s.imgCheck (s.slotImg s.sec.fwMeta.active) = 0 → Booted s u s.sec.fwMeta s.sec.fwMeta.active false false) ∧
        (s.imgCheck (s.slotImg s.sec.fwMeta.active) ≠ 0 → s.imgCheck (s.slotImg !s.sec.fwMeta.active) = 0 →
          Booted s u s.sec.fwMeta (!s.sec.fwMeta.active) true false) ∧
        (s.imgCheck (s.slotImg true) ≠ 0 → s.imgCheck (s.slotImg false) ≠ 0 → u.sec.recovery = true ∧ u.sec.running = true ∧
          u.g .sec 0 Off.secBoot 3 3 = 1))) ∧
    (s.sec.running = true → s.sec.trial = true → ∃ u, exec .fwTrialConfirm s = .next u ∧
      u.sec.fwMeta = { active := s.runSlot, pending := none, tries := 0 } ∧ u.sec.trial = false ∧
      u.sec.rollback = max s.sec.rollback (hdrAt (s.slotImg s.runSlot) 12 1) ∧
      (hdrAt (s.slotImg s.runSlot) 14 1 % 2 = 0 → u.sec.vendorRevoked = s.sec.vendorRevoked) ∧
      (∀ k, k < 2 → hdrAt (s.slotImg s.runSlot) 14 1 % 2 = 1 → hdrAt (s.slotImg s.runSlot) 13 1 = 1 - k →
        u.sec.vendorRevoked = s.sec.vendorRevoked ||| BitVec.ofNat 2 (2 ^ k)) ∧
      u.g .sec 0 Off.secBoot 1 1 = 0 ∧ Same [.regs, .hlk, .sec] s u)

/-- R427, R428, R431: DEBUG_UNLOCK. -/
def Obligations.DebugAccess : Prop :=
  ∀ (s : State) (seq : BitVec 16), MbxFree s →
    (bat (s.mbxPayload 1) 0 1 = 0 → ∃ u n, exec (.getNonce seq 1) s = .next u ∧ MbxHas u 0x0032 seq 0 (bytes256 n) ∧
      u.sec = { s.sec with nonce := some n } ∧ Same [.regs, .hlk, .sec, .free] s u) ∧
    (∀ t, bat (s.mbxPayload 1) 0 1 = 1 → t = (s.mbxPayload 193).drop 1 → TokenAccepted s t → ∃ u, exec (.unlock seq 193) s = .next u ∧
      MbxHas u 0x0032 seq 0 [] ∧ u.sec = { s.sec with nonce := none, everUnlocked := true } ∧
      u.rd (regAt .sec 0 Off.secDebug) = BitVec.ofNat 64 (bat t 4 1 * 256 + bat t 5 1 * 2 + 1) ∧
      EventSet s u .sec 0 Ev.secDebugChanged ∧ Counted s u .sec 0 (0x200 + 16) 1 ∧ Same [.regs, .hlk, .sec] s u) ∧
    (∀ t, bat (s.mbxPayload 1) 0 1 = 1 → t = (s.mbxPayload 193).drop 1 → ¬TokenAccepted s t → ∃ u, exec (.unlock seq 193) s = .next u ∧
      MbxHas u 0x0032 seq 5 [1] ∧ u.sec = { s.sec with nonce := none } ∧
      u.rd (regAt .sec 0 Off.secDebug) = s.rd (regAt .sec 0 Off.secDebug) ∧ Counted s u .sec 0 (0x200 + 24) 1 ∧
      Same [.regs, .hlk, .sec] s u) ∧
    (bat (s.mbxPayload 1) 0 1 = 2 → s.g .sec 0 Off.secDebug 0 0 = 1 → ∃ u, exec (.lock seq 1) s = .next u ∧ MbxHas u 0x0032 seq 0 [] ∧
      u.rd (regAt .sec 0 Off.secDebug) = 0 ∧ EventSet s u .sec 0 Ev.secDebugChanged ∧
      (∀ c, u.core c = { s.core c with mxRun := (s.core c).mxRun.map fun t => { t with halted := false } }) ∧
      Same [.regs, .hlk, .cores] s u) ∧
    (bat (s.mbxPayload 1) 0 1 = 2 → s.g .sec 0 Off.secDebug 0 0 = 0 → ∃ u, exec (.lock seq 1) s = .next u ∧ MbxHas u 0x0032 seq 0 [] ∧
      Same [.regs, .hlk] s u) ∧
    (∀ slot, bat (s.mbxPayload 1) 0 1 = 3 → bat (s.mbxPayload 2) 1 1 = slot → slot < 2 →
      (s.locked = true → ∃ u, exec (.provision seq 34) s = .next u ∧ MbxHas u 0x0032 seq 5 [2] ∧ Same [.regs, .hlk] s u) ∧
      (s.locked = false → tget s.sec.custKey none slot ≠ none → ∃ u, exec (.provision seq 34) s = .next u ∧
        MbxHas u 0x0032 seq 5 [3] ∧ Same [.regs, .hlk] s u) ∧
      (s.locked = false → tget s.sec.custKey none slot = none → ∃ u h, exec (.provision seq 34) s = .next u ∧
        MbxHas u 0x0032 seq 0 [] ∧ bytes256 h = bsub (s.mbxPayload 34) 2 32 ∧
        (∀ k, tget u.sec.custKey none k = if k = slot then some h else tget s.sec.custKey none k) ∧
        { u.sec with custKey := s.sec.custKey } = s.sec ∧ Same [.regs, .hlk, .sec] s u)) ∧
    (∀ slot, bat (s.mbxPayload 1) 0 1 = 4 → bat (s.mbxPayload 2) 1 1 = slot → slot < 2 →
      (s.locked = true → ∃ u, exec (.revoke seq 2) s = .next u ∧ MbxHas u 0x0032 seq 5 [2] ∧ Same [.regs, .hlk] s u) ∧
      (s.locked = false → ∃ u, exec (.revoke seq 2) s = .next u ∧ MbxHas u 0x0032 seq 0 [] ∧
        u.sec = { s.sec with custRevoked := s.sec.custRevoked ||| BitVec.ofNat 2 (2 ^ slot) } ∧
        u.rd (regAt .sec 0 Off.secDebug) = s.rd (regAt .sec 0 Off.secDebug) ∧ Same [.regs, .hlk, .sec] s u))

/-- R424 to R426: the SPDM responder. The rules name the requests, the order of the connection and what each answer reports; the bytes of
a message are those of SPDM 1.2 (PRESUMED, Assumption 38). -/
def Obligations.Attestation : Prop :=
  ∀ (s : State) (x : Transport) (m : Bytes) (c : Spdm), SpdmHears s x m → c = s.conn x →
    (∀ v, bat m 1 1 = 0x84 → v ∈ s.mine 5 → (∀ w, w ∈ s.mine 5 → w ≤ v) → ∃ r, r = [0x10, 0x04, 0, 0, 0, 1, 0, BitVec.ofNat 8 v] ∧
      SpdmReplies s (.getVersion x m) x r { version := true, caps := false, algs := false, vca := m ++ r, cert := [], meas := [] }) ∧
    (∀ e ∈ [(Instr.getCapabilities x m, 0xE1), (.negotiateAlgorithms x m, 0xE3), (.getDigests x m, 0x81), (.getCertificate x m, 0x82),
        (.challenge x m, 0x83), (.getMeasurements x m, 0xE0)], bat m 1 1 = e.2 → c.version = false → SpdmRefused s e.1 x 0x04) ∧
    (bat m 1 1 ∉ [0x81, 0x82, 0x83, 0x84, 0xE0, 0xE1, 0xE3] → SpdmRefused s (.spdmUnsupportedRequest x m) x 0x07) ∧
    (bat m 0 1 = 0x12 → c.version = true →
      (bat m 1 1 = 0xE1 → ∃ r, bat r 1 1 = 0x61 ∧ (bat r 8 4).testBit 1 = true ∧ (bat r 8 4).testBit 2 = true ∧ bat r 8 4 / 8 % 4 = 2 ∧
        SpdmReplies s (.getCapabilities x m) x r { c with caps := true, vca := c.vca ++ m ++ r }) ∧
      (c.caps = true → bat m 1 1 = 0xE3 → 32 ≤ m.length →
        ((bat m 8 4).testBit 9 = true → (bat m 12 4).testBit 6 = true → ∃ r, bat r 1 1 = 0x63 ∧ bat r 12 4 = 0x200 ∧ bat r 16 4 = 0x40 ∧
          SpdmReplies s (.negotiateAlgorithms x m) x r { c with algs := true, vca := c.vca ++ m ++ r }) ∧
        (((bat m 8 4).testBit 9 = false ∨ (bat m 12 4).testBit 6 = false) → SpdmRefused s (.negotiateAlgorithms x m) x 0x01)) ∧
      (c.caps = true → c.algs = true →
        (bat m 1 1 = 0x81 → ∃ r, r = [0x12, 0x01, 0, 1] ++ bytes256 (Config.sm3 Config.certChain) ∧
          SpdmReplies s (.getDigests x m) x r { c with cert := c.cert ++ m ++ r }) ∧
        (bat m 1 1 = 0x82 → 8 ≤ m.length → bat m 2 1 = 0 → bat m 4 2 < Config.certChain.length → ∃ r n,
          n ≤ bat m 6 2 ∧ n ≤ Config.certChain.length - bat m 4 2 ∧ (x ≠ .host → n ≤ 1024) ∧ bat r 1 1 = 0x02 ∧
          r.drop 8 = bsub Config.certChain (bat m 4 2) n ∧
          SpdmReplies s (.getCertificate x m) x r { c with cert := c.cert ++ m ++ r }) ∧
        (bat m 1 1 = 0x83 → 36 ≤ m.length → bat m 2 1 = 0 → bat m 3 1 = 0 → ∃ b n, bat b 1 1 = 0x03 ∧
          bsub b 4 32 = bytes256 (Config.sm3 Config.certChain) ∧
          SpdmReplies s (.challenge x m) x (b ++ Config.sm2Sign Config.fuseSecret (c.vca ++ c.cert ++ m ++ b) n) { c with cert := [] }) ∧
        (bat m 1 1 = 0xE0 → bat m 2 1 % 2 = 0 → bat m 3 1 = 0 → ∃ r, bat r 1 1 = 0x60 ∧ bat r 2 1 = 5 ∧ bat r 4 4 = 0 ∧
          SpdmReplies s (.getMeasurements x m) x r { c with meas := c.meas ++ m ++ r }) ∧
        (∀ n, bat m 1 1 = 0xE0 → bat m 2 1 % 2 = 0 → bat m 3 1 = n → 1 ≤ n → n ≤ 5 → ∃ r, bat r 1 1 = 0x60 ∧ bat r 4 1 = 1 ∧
          bsub r 8 (s.measBlock n).length = s.measBlock n ∧
          SpdmReplies s (.getMeasurements x m) x r { c with meas := c.meas ++ m ++ r }) ∧
        (bat m 1 1 = 0xE0 → bat m 2 1 % 2 = 1 → 37 ≤ m.length → bat m 36 1 % 16 = 0 → bat m 3 1 = 0xFF → ∃ b n, bat b 4 1 = 5 ∧
          SpdmReplies s (.getMeasurements x m) x (b ++ Config.sm2Sign Config.fuseSecret (c.vca ++ (c.meas ++ m ++ b)) n)
            { c with meas := [] }))) ∧
    (∀ l (k : Pkt), x = .link l → l < 96 → k.typ = 0x10 → k.vc = 0 → k.dst.toNat = s.logid → k.src = (s.link l).peer → k.resent = false →
      k.payload = 0x20 :: m → s.quiet .fab (l / 2) = false → s.fab.dup.length < 16384 → bat m 1 1 ∉ [0x81, 0x82, 0x83, 0x84, 0xE0, 0xE1, 0xE3] →
      0x80 ≤ bat m 1 1 → ∃ u, exec (.spdmMessage l k) s = .next u ∧ SpdmAnswered s u x [0x12, 0x7F, 0x07, 0] ∧
        Same [.regs, .hlk, .fab] s u)
/-! ### Septoon (chapter 8) -/

/-- R181, R183 to R185, R188, R191, R193: every instruction of classes 0x1 to 0x5 and 0x8, and SREG, SFRD and SFSET, writes its result to
DST, or to a predicate, in every executing lane, sets the sticky flags of its lanes, the shoal and the launch, and changes nothing else;
the shoal goes on at the next word. -/
def Obligations.LaneInstructions : Prop :=
  (∀ x ∈ integerRows, x.Completes) ∧
  (∀ x ∈ floatRows, x.Completes) ∧
  (∀ x ∈ predicateRows, x.Completes) ∧
  (∀ x ∈ crossRows, x.Completes)

/-- R181, R187, R190: a load whose executing lanes all read aligned, good SRAM of the shoal's region writes the loaded registers; a store
whose executing lanes all write aligned SRAM of the region stores their pieces, the highest-numbered lane last, and every other byte of
SRAM, every register and every other shoal stay. -/
def Obligations.LocalMemoryInstructions : Prop :=
  (∀ x ∈ loadRows, ∀ s p t th, Issues s p t x.1.cls x.1.op th → (∀ l ∈ s.lanes th, x.2 s th l) →
      ∃ u, exec (x.1.cmd p t .ok) s = .next u ∧ LaneEffect s u p t th (x.1.f s th)) ∧
  (∀ x ∈ storeRows, ∀ s p t th, Issues s p t x.cls x.op th →
      (∀ l ∈ s.lanes th, x.ok s th l) →
      ∃ u, exec (x.cmd p t .ok) s = .next u ∧
        (∀ a, a < (s.thRegion th).2 →
          tget u.sram 0 (State.srKey p ((s.thRegion th).1 + a)) =
            pieceByte (storedPieces x s th) a (tget s.sram 0 (State.srKey p ((s.thRegion th).1 + a)))) ∧
        (∀ q a, a < 0x100000 → (q ≠ p ∨ a < (s.thRegion th).1 ∨ (s.thRegion th).1 + (s.thRegion th).2 ≤ a) →
          tget u.sram 0 (State.srKey q a) = tget s.sram 0 (State.srKey q a)) ∧
        (∀ q v, u.shoal q v = if q * 32 + v = p * 32 + t then some { th.x with pc := th.x.pc + 1 } else s.shoal q v) ∧
        Same [.sram, .sramUe, .shoals, .cores, .regs, .hlk] s u)

/-- R192: a word whose fetch, operands or result meet a checker ends in a thread fault with the checker's code, counted as an issue. -/
def Obligations.CheckersFaultTheThread : Prop :=
  ∀ x ∈ issueRows, ∀ s p t th k code, s.thrAt p t = some th → th.cls = x.2.1 → th.op = x.2.2 → checkerFault k = some code →
    exec (x.1 p t k) s = .next ((s.countIssue th).thrFault th code)

/-- R117, R126, R181, R182: NOP, END, BAR and the branches. R130, R181: EFSET, EFCLR, EFWAIT and EFWAITC on a core. A change of a flag lets
the core's stream operations move; a waiting shoal stands at the next word. -/
def Obligations.ControlInstructions : Prop :=
  (∀ s p t th,
      (Issues s p t 0 0x00 th → exec (.nop p t .ok) s = .next (issuedAs s th (some th.atNext))) ∧
      (Issues s p t 0 0x01 th → exec (.endThread p t .ok) s = .next (issuedAs s th
        (if endedAfter s th = BitVec.allOnes 32 then none else some { th.atNext with ended := endedAfter s th }))) ∧
      (Issues s p t 0 0x02 th → p < 2304 → s.tilesRetired p t th.x.launch = true → exec (.bar p t .ok) s =
        .next (issuedAs s th (some { th.atNext with wait := .bar (nfld th.w 21 20) (nfld th.w 18 16) }))) ∧
      (∀ cmd op, ∀ taken : Prop, Issues s p t 0 op th →
        (cmd, op, taken) ∈ [(Instr.braAny, 0x81, ∃ l ∈ State.activeLanes th, s.guard th l = true),
                            (Instr.braAll, 0x82, ∀ l ∈ State.activeLanes th, s.guard th l = true),
                            (Instr.braNone, 0x83, ∀ l ∈ State.activeLanes th, s.guard th l = false)] →
        (¬ taken → exec (cmd p t .ok) s = .next (issuedAs s th (some th.atNext))) ∧
        (∀ n : Nat, taken → (th.x.pc : Int) + sext 32 th.imm32 = n → n < th.len →
          exec (cmd p t .ok) s = .next (issuedAs s th (some { th.x with pc := n }))))) ∧
  (∀ s p t th, p < 2304 → s.lanes th ≠ [] →
      (Issues s p t 0 0x03 th → exec (.efset p t .ok) s = .next (((s.countIssue th).setFlag p (th.imm16 % 64)).nextPc th)) ∧
      (Issues s p t 0 0x03 th → (∀ k, k < 8 → s.queue (8 * p + k) = []) → ∃ u, exec (.efset p t .ok) s = .next u ∧
        u.flag p (th.imm16 % 64) = true ∧ u.shoal p t = some th.atNext ∧ Same [.shoals, .cores, .regs, .hlk] s u) ∧
      (Issues s p t 0 0x04 th → exec (.efclr p t .ok) s = .next (((s.countIssue th).clearFlag p (th.imm16 % 64)).nextPc th)) ∧
      (Issues s p t 0 0x04 th → (∀ k, k < 8 → s.queue (8 * p + k) = []) → ∃ u, exec (.efclr p t .ok) s = .next u ∧
        u.flag p (th.imm16 % 64) = false ∧ u.shoal p t = some th.atNext ∧ Same [.shoals, .cores, .regs, .hlk] s u) ∧
      (Issues s p t 0 0x05 th → exec (.efwait p t .ok) s = .next (issuedAs s th (some
        { th.atNext with wait := if s.flag p (th.imm16 % 64) then .run else .flag (th.imm16 % 64) false }))) ∧
      (Issues s p t 0 0x06 th → s.flag p (th.imm16 % 64) = false → exec (.efwaitc p t .ok) s = .next (issuedAs s th (some
        { th.atNext with wait := .flag (th.imm16 % 64) true }))) ∧
      (Issues s p t 0 0x06 th → s.flag p (th.imm16 % 64) = true → exec (.efwaitc p t .ok) s = .next
        ((issuedAs s th (some { th.atNext with wait := .flag (th.imm16 % 64) true })).flagRelease p (th.imm16 % 64))))

/-- R156, R189, R192, R197, R233, R234: MMA, SQPUSH, SQSYNC and CHAIN hand their work over from the lowest executing lane. R186, R190, R193:
CVT without a slot, M40FMA, SFCLR and CVTCTX. -/
def Obligations.EngineInstructions : Prop :=
  (∀ s p t th l ls, p < 2304 → s.lanes th = l :: ls →
      (Issues s p t 9 0 th → (s.core p).mxWait = none → ∃ u y, exec (.mma p t .ok) s = .next u ∧
        (u.core p).mxWait = some y ∧ (u.core p).mxRun = (s.core p).mxRun ∧ y.launch = th.x.launch ∧ y.fill = th.x.fill ∧ y.slot = t ∧
        y.mtdAddr = (opA s th l).toNat % 2 ^ 20 ∧ y.maskAddr = (opB s th l).toNat % 2 ^ 20 ∧ y.word = th.x.pc ∧ y.started = false ∧
        u.shoal p t = some th.atNext ∧ Same [.cores, .shoals, .regs, .hlk] s u) ∧
      (Issues s p t 0xA 0 th → (s.queue (8 * p + nfld th.w 18 16)).length < 16 →
        ∀ a n, a = (opA s th l).toNat → n = Op.descLen (bat (s.srRead p ((s.thRegion th).1 + a) 128) 45 1) →
        a + 128 ≤ (s.thRegion th).2 → a + n ≤ (s.thRegion th).2 → ∃ u o, exec (.sqpush p t .ok) s = .next u ∧
          (∀ q, u.queue q = if q = 8 * p + nfld th.w 18 16 then s.queue q ++ [o] else s.queue q) ∧
          o.id = s.nextOp ∧ o.desc = s.srRead p ((s.thRegion th).1 + a) n ∧ o.launch = some th.x.launch ∧ o.fill = th.x.fill ∧
          o.step = th.step ∧ o.flag = (if th.w.testBit 6 then some (th.imm16 % 64) else none) ∧ o.started = false ∧
          u.shoal p t = some th.atNext ∧ Same [.queues, .nextOp, .shoals, .cores, .regs, .hlk] s u) ∧
      (Issues s p t 0xA 1 th → s.queue (8 * p + nfld th.w 18 16) = [] →
        exec (.sqsync p t .ok) s = .next (issuedAs s th (some th.atNext))) ∧
      (Issues s p t 0xB 0 th → ∀ a d, a = (opA s th l).toNat → d = s.srRead p ((s.thRegion th).1 + a) 160 →
        a % 32 = 0 → a + 160 ≤ (s.thRegion th).2 → CDesc.check ⟨d⟩ th.old a = none →
        (∀ x ∈ CDesc.ranges ⟨d⟩, x.1 + x.2 ≤ (s.thRegion th).2) →
        exec (.chain p t .ok) s = .next (issuedAs s th (some { th.atNext with wait := .chain d })))) ∧
  (∀ s p t th,
      (Issues s p t 6 0 th → (th.x.ctxSlot = none ∨ fmtSlot (nfld th.w 7 0) = false) → (nfld th.w 7 0 = 0x18 → th.dst % 2 = 0) →
        ∃ u, exec (.cvt p t .ok) s = .next u ∧ LaneEffect s u p t th (cvtLane s th)) ∧
      (Issues s p t 0xC 2 th → th.dst % 2 = 0 →
        ∃ u, exec (.m40fma p t .ok) s = .next u ∧ LaneEffect s u p t th (State.m40fmaLane s th)) ∧
      (Issues s p t 0xD 2 th → ∃ u, exec (.sfclr p t .ok) s = .next u ∧
        (∀ l, l < 32 → u.laneFlags p t l =
          if l ∈ s.lanes th then s.laneFlags p t l &&& ~~~(BitVec.ofNat 4 th.imm16) else s.laneFlags p t l) ∧
        (∀ q v l, q * 32 + v ≠ p * 32 + t → l < 32 → u.laneFlags q v l = s.laneFlags q v l) ∧
        u.shoal p t = some th.atNext ∧ Same [.lflags, .shoals, .cores, .regs, .hlk] s u) ∧
      (Issues s p t 0xD 4 th → ∀ l ls, s.lanes th = l :: ls → exec (.cvtctx p t .ok) s = .next (issuedAs s th (some
        { th.atNext with ctxTensor := opA s th l, ctxSlot := if th.w.testBit 16 then some (th.imm16 % 2 ^ 13) else none }))))

/-- R201: a chain that retires writes what it computed, counts itself and its cost, and lets its shoal go on. -/
def Obligations.ChainRetires : Prop :=
  ∀ s p t x d k step w, p < 2304 → s.shoal p t = some x → x.wait = .chain d → s.codeOf p x = some (k, step) →
    s.chainRun { p := p, t := t, x := x, w := 0, old := k.isa.toNat < 0x30, step := step, len := k.code.length } ⟨d⟩ = some w →
    exec (.chainRetire p t) s = .next
      (((w.bump .cor p 0x380 1).bump .cor p 0x388 ((CDesc.rows ⟨d⟩ * CDesc.cols ⟨d⟩ * CDesc.cost ⟨d⟩ + 31) / 32 + 12)).resumeShoal p t)


/-! ### Launches, partitions, barriers and event flags on cores (chapter 5) -/

/-- R116, R117, R123 to R125: a launch starts on a core when it reaches the head of its class's queue, in zeroed slots with the entry
registers of R116; it ends there when its shoals and tiles have, and its command completes when it has ended on every target core. A
partition write is held until no launch runs. -/
def Obligations.LaunchExecution : Prop :=
  ∀ (s : State) (c : Nat),
    (∀ fill l q x base n, StartsOn s c fill → (if fill then (s.core c).fillQ else (s.core c).priQ) = l :: q → l ∉ q →
      s.launch? l = some x → x.fill = fill → s.classSlots c fill = (base, n) → x.shoals ≤ n → x.kernel.need ≤ (s.classRegion c fill).2 →
      ∃ u, exec (.launchStart c fill) s = .next u ∧ u.running c fill = some l ∧ u.running c (!fill) = s.running c (!fill) ∧
        (if fill then (u.core c).fillQ else (u.core c).priQ) = q ∧ u.launchWord c fill = 0 ∧
        (∀ k, u.launch? k = if k = l then some { x with started := c :: x.started } else s.launch? k) ∧
        (∀ k, k < x.shoals → u.shoal c (base + k) = some (entryShoal l x k) ∧ ∀ lane r n, lane < 32 → r < 64 → n < 8 →
          u.reg c (base + k) lane r = entryReg x c k lane r ∧ u.predOf c (base + k) lane n = decide (n = 0) ∧
          u.laneFlags c (base + k) lane = 0) ∧
        (∀ d t, t < 32 → (d ≠ c ∨ t < base ∨ base + x.shoals ≤ t) → u.shoal d t = s.shoal d t ∧
          ∀ lane r, lane < 32 → r < 64 → u.reg d t lane r = s.reg d t lane r) ∧ (∀ d, d ≠ c → u.core d = s.core d) ∧
        Same [.launches, .cores, .shoals, .gpr, .preds, .lflags, .regs, .hlk] s u) ∧
    (∀ fill l x, c < 2304 → s.running c fill = some l → s.launch? l = some x → OverOn s l c → (∃ d ∈ x.targets, d ∉ c :: x.ended) →
      ∃ u, exec (.launchEndOnCore c fill) s = .next u ∧ u.running c fill = none ∧
        (∀ k, u.launch? k = if k = l then some { x with ended := c :: x.ended } else s.launch? k) ∧
        u.g .cor c Off.corVflags 3 0 = s.g .cor c Off.corVflags 3 0 ||| s.launchWord c fill ∧
        RegsOnly [regAt .cor c Off.corVflags] s u ∧ Same [.launches, .cores, .regs, .red] s u) ∧
    (∀ fill l x, c < 2304 → s.running c fill = some l → s.launch? l = some x → OverOn s l c → (∀ d ∈ x.targets, d ∈ c :: x.ended) →
      Unended s x.ring x.uid → ∃ u, exec (.launchEndOnCore c fill) s = .next u ∧ u.running c fill = none ∧
        (∀ k, u.launch? k = if k = l then none else s.launch? k) ∧
        CmdEnds s u x.ring x.uid 0 (BitVec.ofNat 64 (x.targets.length % 65536)) ∧
        u.g .cor c Off.corVflags 3 0 = s.g .cor c Off.corVflags 3 0 ||| s.launchWord c fill ∧
        RegsOnly [regAt .cor c Off.corVflags] s u ∧ Same [.hlk, .launches, .cores, .regs, .red] s u) ∧
    (∀ v : Word, c < 2304 → s.ready .cor c = true → fld v 20 16 ≤ 16 → fld v 3 0 ≤ 10 → ∃ u w, exec (.corPartWrite c v) s = .next u ∧
      (∀ d, u.core d = if d = c then { s.core c with part := some w } else s.core d) ∧ fld w 20 16 = fld v 20 16 ∧
      fld w 3 0 = fld v 3 0 ∧ Same [.cores] s u) ∧
    (∀ v : Word, c < 2304 → s.ready .cor c = true → (16 < fld v 20 16 ∨ 10 < fld v 3 0) → ∃ u, exec (.corPartWrite c v) s = .next u ∧
      EventSet s u .cor c Ev.corPartBad ∧ RegsOnly [regAt .cor c Off.event] s u ∧ Same [.regs, .hlk] s u) ∧
    (∀ v : Word, c < 2304 → s.ready .cor c = false → ∃ u, exec (.corPartWrite c v) s = .next u ∧
      AccessRefused s u false true Ev.devEarlyAccess (regAt .cor c Off.corPart)) ∧
    (∀ v, c < 2304 → (s.core c).part = some v → (s.core c).pri = none → (s.core c).fill = none →
      ∃ u, exec (.partApply c) s = .next u ∧ (∀ d, u.core d = if d = c then { s.core c with part := none } else s.core d) ∧
        u.rd (regAt .cor c Off.corPart) = v ∧ EventSet s u .cor c Ev.corPartApplied ∧
        RegsOnly [regAt .cor c Off.corPart, regAt .cor c Off.event] s u ∧ Same [.cores, .regs, .hlk] s u)

/-- R126 to R131, R246, R247, R380: a barrier that every participant has reached releases its shoals; an expired one ends the launch with
cause 6; event flags are set and cleared by mask and let the shoals that wait on them go on. -/
def Obligations.BarriersAndFlags : Prop :=
  ∀ (s : State) (c : Nat),
    (∀ fill scope id l x, s.running c fill = some l → s.launch? l = some x →
      (∀ d ∈ State.barCores x c scope, ArrivedOn s l x scope id d ∧ (s.core d).swap = .none) →
      (∃ d ∈ State.barCores x c scope, ∃ t y, t < 32 ∧ s.shoal d t = some y ∧ y.launch = l) →
      (scope = 3 → id = 3 → x.poisoned = [] ∧ ∀ d ∈ x.targets, NoStreams s d) →
      (∀ d t y, s.shoal d t = some y → y.launch = l → y.pc < x.kernel.code.length) → (∀ d ∈ x.targets, d < 2304) → c ∈ x.targets →
      ∃ u, exec (.barrierRelease c fill scope id) s = .next u ∧
        (∀ d t, t < 32 → u.shoal d t = (s.shoal d t).map fun y =>
          if d ∈ State.barCores x c scope ∧ y.launch = l then y.going else y) ∧
        (∀ k, u.launch? k = s.launch? k) ∧ Same [.shoals, .launches] s u) ∧
    (∀ fill scope id l x, s.running c fill = some l → x.budget = 0 → c < 2304 → scope < 4 → id < 8 →
      (∃ t y, t < 32 ∧ s.shoal c t = some y ∧ y.launch = l ∧ y.wait = .bar scope id) →
      (∃ d ∈ State.barCores x c scope, ∃ t y, t < 32 ∧ s.shoal d t = some y ∧ y.launch = l ∧ y.wait = .run) →
      (fill = true → (s.core c).pri = none) → (s.core c).swap = .none → c ∈ x.targets → EndsCleanly s l x →
      ∃ u, exec (.barrierTimeout c fill scope id) s = .next u ∧ EndedAs s u l x 6 6 c (scope * 64 + id) ∧
        u.g .cor c Off.event Ev.corBarrierTimeout Ev.corBarrierTimeout = 1 ∧ u.g .cor c Off.corBarstat 63 62 = scope ∧
        u.g .cor c Off.corBarstat 58 56 = id) ∧
    (∀ fill l x, s.running c fill = some l → x.budget ≠ 0 → c < 2304 → (s.core c).swap = .none → c ∈ x.targets →
      (∀ t y, t < 32 → s.shoal c t = some y → y.launch = l → y.wait = .run) → EndsCleanly s l x →
      ∃ u, exec (.workUnitExpiry c fill) s = .next u ∧ EndedAs s u l x 6 6 c 0 ∧
        u.g .tlm 0 Off.event Ev.tlmWuTimeout Ev.tlmWuTimeout = 1) ∧
    (∀ v : Word, c < 2304 → s.ready .cor c = true → NoStreams s c →
      (∃ u, exec (.corFlagsSet c v) s = .next u ∧ (∀ d n, n < 64 → u.flag d n = (s.flag d n || (decide (d = c) && bit v n))) ∧
        (∀ d, { u.core d with flags := (s.core d).flags } = s.core d) ∧ Same [.cores] s u) ∧
      (∃ u, exec (.corFlagsClr c v) s = .next u ∧ (∀ d n, n < 64 → u.flag d n = (s.flag d n && !(decide (d = c) && bit v n))) ∧
        (∀ d, { u.core d with flags := (s.core d).flags } = s.core d) ∧ Same [.cores] s u)) ∧
    (∀ n k step, c < 2304 → n < 64 → s.flag c n = true → NoStreams s c →
      (∀ t y, t < 32 → s.shoal c t = some y → s.codeOf c y = some (k, step) ∧ y.pc < k.code.length) →
      ∃ u, exec (.efWaitRelease c n) s = .next u ∧
        (∀ d t, t < 32 → u.shoal d t = (s.shoal d t).map fun y =>
          if d = c ∧ (y.wait = .flag n false ∨ y.wait = .flag n true) then y.going else y) ∧
        (u.flag c n = true ↔ ∀ t y, t < 32 → s.shoal c t = some y → y.wait ≠ .flag n true) ∧ Same [.shoals, .cores] s u) ∧
    (∀ n, c < 2304 → n < 64 → s.flag c n = false → exec (.efWaitRelease c n) s = .next s)

/-! ### The matrix engine and scaling (chapters 6 and 7) -/

/-- R156 to R176: a waiting tile starts with its checked descriptor, or ends its launch with the code of R160; an attempt whose window
overflows is replayed with more headroom, and after the third on the FP32 path; a tile that completes writes its converted rows; a residue
or parity error ends its launch; debug halts and resumes a tile. -/
def Obligations.MatrixEngine : Prop :=
  ∀ (s : State) (c : Nat), c < 2304 →
    (∀ t m mask, (s.core c).mxRun = none → (s.core c).mxWait = some t → t.mtdAddr % 32 = 0 → t.mtdAddr + 64 ≤ (s.tileRegion c t).2 →
      m = Mtd.mk (s.srRead c ((s.tileRegion c t).1 + t.mtdAddr) 64) → m.check t.mtdAddr = none → TileInside s c t m →
      mask = (if m.maskEn then BitVec.ofNat 64 (leNat (s.srRead c ((s.tileRegion c t).1 + t.maskAddr) 8)) else 0) →
      ∃ u, exec (.matrixTileStart c) s = .next u ∧ (∀ d, u.core d = if d = c then
        { s.core c with mxRun := some (tileStarted s c t m.d mask), mxWait := none } else s.core d) ∧ Same [.cores] s u) ∧
    (∀ t m code x, (s.core c).mxRun = none → (s.core c).mxWait = some t → EndsCleanly s t.launch x → t.word < 2 ^ 24 →
      ((t.mtdAddr % 32 ≠ 0 ∧ code = 0x06) ∨ (t.mtdAddr % 32 = 0 ∧ t.mtdAddr + 64 ≤ (s.tileRegion c t).2 ∧
        m = Mtd.mk (s.srRead c ((s.tileRegion c t).1 + t.mtdAddr) 64) ∧ m.check t.mtdAddr = some code)) →
      ∃ u, exec (.matrixTileStart c) s = .next u ∧ EndedAs s u t.launch x 5 7 c (t.word * 256 + code) ∧
        u.g .cor c Off.event Ev.corLaunchFault Ev.corLaunchFault = 1) ∧
    (∀ t x, (s.core c).mxRun = none → (s.core c).mxWait = some t → EndsCleanly s t.launch x → t.mtdAddr % 32 = 0 → t.mtdAddr < 2 ^ 20 →
      (s.tileRegion c t).2 < t.mtdAddr + 64 → ∃ u, exec (.matrixTileStart c) s = .next u ∧ EndedAs s u t.launch x 5 1 c t.mtdAddr) ∧
    (∀ t, (s.core c).mxRun = some t → t.halted = false → t.skip = false → t.fp32 = false →
      (s.tileIn c t).attempt t.headroom = none → ∃ u, exec (.tileOverflowReplay c .ok) s = .next u ∧
        EngineHolds s u c (some (if t.attempt < 3 then { t with attempt := t.attempt + 1, headroom := t.headroom + 8 }
          else { t with fp32 := true })) ∧ Same [.cores] s u) ∧
    (∀ t, (s.core c).mxRun = some t → t.halted = false → t.skip = true → (Mtd.mk t.mtd).dRed = false →
      ∃ u, exec (.matrixTileDone c .ok) s = .next u ∧ EngineHolds s u c none ∧ Counted s u .cor c (0x300 + 24) 1 ∧
        Same [.cores, .regs, .hlk] s u) ∧
    (∀ t m es fl s' rows base, (s.core c).mxRun = some t → t.halted = false → t.skip = false → s.tileUe c t = false → m = Mtd.mk t.mtd →
      m.dRed = false → State.tileValues (s.tileIn c t) t = some (es, fl) → s.tileConvert c t es = some (s', rows) →
      base = (s.tileRegion c t).1 + m.addr 20 → base + 63 * m.pitch 2 + rowBytes (m.fmt 2) 64 ≤ 0x100000 →
      rowBytes (m.fmt 2) 64 ≤ m.pitch 2 → ∃ u, exec (.matrixTileDone c .ok) s = .next u ∧ EngineHolds s u c none ∧
        (∀ r ∈ rows, u.srRead c (base + r.1 * m.pitch 2) (rowBytes (m.fmt 2) 64) = packBits (fmtBits (m.fmt 2)) (r.2.map (·.bits))) ∧
        (∀ a, a < 0x100000 → (∀ r ∈ rows, ¬(base + r.1 * m.pitch 2 ≤ a ∧ a < base + r.1 * m.pitch 2 + rowBytes (m.fmt 2) 64)) →
          tget u.sram 0 (State.srKey c a) = tget s.sram 0 (State.srKey c a)) ∧
        (∀ d a, d ≠ c → a < 0x100000 → tget u.sram 0 (State.srKey d a) = tget s.sram 0 (State.srKey d a)) ∧
        u.launchWord c t.fill = (s.launchWord c t.fill ||| tileFlagUnion rows fl) % 16 ∧ Counted s u .cor c 0x300 1 ∧
        Counted s u .cor c (0x300 + 8) t.attempt) ∧
    (∀ t k code x, (s.core c).mxRun = some t → t.halted = false → t.skip = false → (Mtd.mk t.mtd).dRed = false →
      (k = Check.residue ∧ code = 0x10 ∨ k = .parity ∧ code = 0x11) → EndsCleanly s t.launch x → t.word < 2 ^ 24 →
      (s.pcore (s.physOf c)).suspect = false → ∃ u, exec (.matrixTileDone c k) s = .next u ∧
        EndedAs s u t.launch x 5 7 c (t.word * 256 + code) ∧ Counted s u .cor c (0x300 + 40) 1) ∧
    (∀ t, (s.core c).mxRun = some t → s.g .sec 0 Off.secDebug 0 0 = 1 → s.g .cor c Off.corMxdbgCtl 0 0 = 1 → t.halted = false →
      t.skip = false → s.g .cor c Off.corMxdbgCtl 43 32 < (Mtd.mk t.mtd).k16 → ∃ u, exec (.mxDebugHalt c) s = .next u ∧
        EngineHolds s u c (some { t with halted := true }) ∧ FieldSet s u .cor c Off.corMxdbgCtl 0 0 0 ∧
        RegsOnly [regAt .cor c Off.corMxdbgCtl] s u ∧ Same [.cores, .regs] s u) ∧
    (∀ t, (s.core c).mxRun = some t → s.ready .cor c = true → s.g .sec 0 Off.secDebug 0 0 = 1 →
      ∃ u, exec (.mxDebugResume c) s = .next u ∧ EngineHolds s u c (some { t with halted := false }) ∧ Same [.cores] s u) ∧
    (s.ready .cor c = true → s.g .sec 0 Off.secDebug 0 0 = 0 → exec (.mxDebugResume c) s = .next s)

/-- R150, R152 to R154: writes of the scaling registers are refused when a field is out of range, wait while a step is open, and take
effect at once otherwise; a changed history length or base clears the history; LOADED and RESEED declare it valid. -/
def Obligations.ScalingSetup : Prop :=
  ∀ (s : State), s.ready .dev 0 = true →
    (∀ v : Word, (fld v 42 32 = 0 ∨ 1024 < fld v 42 32 ∨ fld v 63 48 = 0 ∨ fld v 1 0 = 3) →
      ∃ u, exec (.devScalecfgWrite v) s = .next u ∧ FieldSet s u .dev 0 Off.devScalestat 3 3 1 ∧
        RegsOnly [regAt .dev 0 Off.devScalestat] s u ∧ Same [.regs] s u) ∧
    (∀ v : Word, 1 ≤ fld v 42 32 → fld v 42 32 ≤ 1024 → fld v 63 48 ≠ 0 → fld v 1 0 ≠ 3 →
      (s.redState ≠ 0 → exec (.devScalecfgWrite v) s = .next { s with scale := { s.scale with cfg := some v } }) ∧
      (s.redState = 0 → s.scaleEn = false → ∃ u, exec (.devScalecfgWrite v) s = .next u ∧
        (∀ e ∈ [(63, 48), (42, 32), (25, 16), (6, 4), (1, 0)], u.g .dev 0 Off.devScalecfg e.1 e.2 = fld v e.1 e.2) ∧
        (fld v 42 32 = s.histLen → RegsOnly [regAt .dev 0 Off.devScalecfg] s u) ∧
        (fld v 42 32 ≠ s.histLen → FieldSet s u .rcc 0 Off.rccBkp0 0 0 0 ∧
          FieldSet s u .dev 0 Off.devScalestat 41 32 (fld v 25 16)) ∧ Same [.regs] s u)) ∧
    (∀ v : Word, (s.redState ≠ 0 → exec (.devScalebaseWrite v) s = .next { s with scale := { s.scale with base := some v } }) ∧
      (s.redState = 0 → ∃ u, exec (.devScalebaseWrite v) s = .next u ∧ u.scaleVa = fld v 56 12 * 4096 ∧ u.scaleEn = bit v 0 ∧
        FieldSet s u .rcc 0 Off.rccBkp0 0 0 0 ∧ FieldSet s u .dev 0 Off.devScalestat 41 32 (s.g .dev 0 Off.devScalecfg 25 16) ∧
        RegsOnly [regAt .dev 0 Off.devScalebase, regAt .rcc 0 Off.rccBkp0, regAt .dev 0 Off.devScalestat] s u ∧ Same [.regs] s u)) ∧
    (∀ (k : Nat) (e : BitVec 8), k < 16 →
      (e.toInt < -126 → ∃ u, exec (.devRecipeWrite k e) s = .next u ∧ FieldSet s u .dev 0 Off.devScalestat 3 3 1 ∧ Same [.regs] s u) ∧
      (-126 ≤ e.toInt → s.redState ≠ 0 → ∃ u, exec (.devRecipeWrite k e) s = .next u ∧
        (∀ j, tget u.scale.recipes none j = if j = k then some (e.setWidth 64) else tget s.scale.recipes none j) ∧ Same [.scale] s u) ∧
      (-126 ≤ e.toInt → s.redState = 0 → ∃ u, exec (.devRecipeWrite k e) s = .next u ∧ u.recipeExp k = e.toInt ∧
        RegsOnly [regAt .dev 0 (Off.devRecipe0 + 8 * k)] s u ∧ Same [.regs] s u)) ∧
    (s.redState = 0 → ∃ u, exec .scaleLoaded s = .next u ∧ FieldSet s u .rcc 0 Off.rccBkp0 0 0 1 ∧
      FieldSet s u .dev 0 Off.devScalestat 41 32 0 ∧ RegsOnly [regAt .rcc 0 Off.rccBkp0, regAt .dev 0 Off.devScalestat] s u ∧
      Same [.regs] s u) ∧
    (s.redState = 0 → (∀ n h, n < 8192 → s.slotHdr 0 n = some h → State.hdrActive h = false) → ∃ u, exec .scaleReseed s = .next u ∧
      FieldSet s u .rcc 0 Off.rccBkp0 0 0 1 ∧ FieldSet s u .dev 0 Off.devScalestat 41 32 0 ∧ u.mem = s.mem ∧ u.retained = s.retained) ∧
    (s.redState ≠ 0 → exec .scaleLoaded s = .next { s with scale := { s.scale with loaded := true } } ∧
      exec .scaleReseed s = .next { s with scale := { s.scale with reseed := true } })

/-! ### Stacked DRAM, DIMM channels and translation (chapter 9) -/

/-- R210, R212, R213, R215, R217, R218: the interleave setting, patrol scrub, row repair, and the end of DIMM training. -/
def Obligations.MemoryDevices : Prop :=
  ∀ (s : State),
    (∀ (b : Nat) (v : Word), b < 4 → s.ready .sdm b = true →
      (bit v 16 = bit (s.rd (regAt .sdm b Off.sdmCfg)) 16 → ∃ u, exec (.sdmCfgWrite b v) s = .next u ∧
        u.rd (regAt .sdm b Off.sdmCfg) = v &&& 0x1FFFF ∧ RegsOnly [regAt .sdm b Off.sdmCfg] s u ∧ Same [.regs] s u) ∧
      (bit v 16 ≠ bit (s.rd (regAt .sdm b Off.sdmCfg)) 16 → tget s.rst.quiesced false (pageBase .sdm b) = false →
        ∃ u, exec (.sdmCfgWrite b v) s = .next u ∧ EventSet s u .sdm b Ev.sdmCfgRefused ∧
          RegsOnly [regAt .sdm b Off.event] s u ∧ Same [.regs, .hlk] s u) ∧
      (bit v 16 ≠ bit (s.rd (regAt .sdm b Off.sdmCfg)) 16 → tget s.rst.quiesced false (pageBase .sdm b) = true →
        ∃ u, exec (.sdmCfgWrite b v) s = .next u ∧ u.rd (regAt .sdm b Off.sdmCfg) = v &&& 0x1FFFF ∧
          RegsOnly [regAt .sdm b Off.sdmCfg] s u ∧
          (∀ a, ¬(b * 0x400000000 ≤ a ∧ a < (b + 1) * 0x400000000) → memByte u a = memByte s a) ∧ Same [.regs, .mem] s u)) ∧
    (∀ b off, b < 4 → off < 2 ^ 34 → s.ready .sdm b = true → 0 < s.g .sdm b Off.sdmCfg 15 8 →
      (∃ u, exec (.sdmScrubStep b off false false true) s = .next u ∧ Counted s u .sdm b 0x218 1 ∧
        u.g .sdm b Off.event Ev.sdmScrubPass Ev.sdmScrubPass = 1 ∧ Same [.regs, .hlk] s u) ∧
      (∃ u, exec (.sdmScrubStep b off false true false) s = .next u ∧ Counted s u .sdm b 0x200 1 ∧
        u.g .sdm b Off.event Ev.sdmCe Ev.sdmCe = 1 ∧ u.g .sdm b Off.sdmErrlog 63 62 = 1 ∧
        u.g .sdm b Off.sdmErrlog 55 0 = off / 32 * 32 ∧ Counted s u .tlm 0 (0x200 + 8 * 16) 1 ∧ u.mem = s.mem) ∧
      (∃ u, exec (.sdmScrubStep b off true false false) s = .next u ∧ Counted s u .sdm b 0x208 1 ∧
        u.g .sdm b Off.event Ev.sdmUe Ev.sdmUe = 1 ∧ u.g .sdm b Off.sdmErrlog 63 62 = 3 ∧
        (∀ w, tget u.mem.poison false w = (tget s.mem.poison false w || decide (w = b * 0x400000000 + off / 32 * 32))) ∧
        u.mem.bytes = s.mem.bytes ∧ Recorded s u 0x06 b 0x05)) ∧
    (∀ b v row, b < 4 → v < 64 → s.ready .sdm b = true →
      (tget s.mem.spareUsed 0 (b * 64 + v) < 64 → ∃ u, exec (.sdmRowRemap b v row) s = .next u ∧
        u.mem.remaps = s.mem.remaps ++ [(b * 64 + v, row)] ∧ u.sparesLeft b v = s.sparesLeft b v - 1 ∧
        u.mem.bytes = s.mem.bytes ∧ u.mem.poison = s.mem.poison ∧ Counted s u .sdm b 0x210 1 ∧
        u.g .sdm b Off.event Ev.sdmRepairDone Ev.sdmRepairDone = 1 ∧ Same [.regs, .hlk, .mem] s u) ∧
      (64 ≤ tget s.mem.spareUsed 0 (b * 64 + v) → ∃ u, exec (.sdmRowRemap b v row) s = .next u ∧
        EventSet s u .sdm b Ev.sdmRepairExhausted ∧ Same [.regs, .hlk] s u)) ∧
    (∀ ch off (dev : BitVec 4), ch < 24 → s.ready .mem ch = true → s.g .mem ch Off.memInfo 2 0 ∈ [1, 2] → 0 < s.g .mem ch Off.memCfg 7 0 →
      (∃ u, exec (.memScrubStep ch off false false dev true) s = .next u ∧ Counted s u .mem ch 0x218 1 ∧
        u.g .mem ch Off.event Ev.memScrubPass Ev.memScrubPass = 1 ∧ Same [.regs, .hlk] s u) ∧
      (∃ u, exec (.memScrubStep ch off false true dev false) s = .next u ∧ Counted s u .mem ch 0x200 1 ∧
        u.g .mem ch Off.event Ev.memCe Ev.memCe = 1 ∧ u.g .mem ch Off.memErrlog 63 62 = 1 ∧
        u.g .mem ch Off.memErrlog 55 52 = dev.toNat ∧ u.mem = s.mem) ∧
      (∃ u, exec (.memScrubStep ch off true false dev false) s = .next u ∧ Counted s u .mem ch 0x208 1 ∧
        u.g .mem ch Off.event Ev.memUe Ev.memUe = 1 ∧ u.g .mem ch Off.memErrlog 63 62 = 3 ∧ u.mem.bytes = s.mem.bytes)) ∧
    (∀ ch rank bg sub, ch < 24 → s.ready .mem ch = true → s.g .mem ch Off.memCfg 16 16 = 1 → rank < s.g .mem ch Off.memInfo 55 48 →
      bg < 8 → sub < 2 →
      ((ch, (rank * 8 + bg) * 2 + sub) ∉ s.mem.ppr → ∃ u, exec (.memSppr ch rank bg sub) s = .next u ∧
        u.mem = { s.mem with ppr := s.mem.ppr ++ [(ch, (rank * 8 + bg) * 2 + sub)] } ∧ Counted s u .mem ch 0x210 1 ∧
        u.g .mem ch Off.event Ev.memPprDone Ev.memPprDone = 1 ∧ Same [.regs, .hlk, .mem] s u) ∧
      ((ch, (rank * 8 + bg) * 2 + sub) ∈ s.mem.ppr → ∃ u, exec (.memSppr ch rank bg sub) s = .next u ∧
        EventSet s u .mem ch Ev.memPprExhausted ∧ Same [.regs, .hlk] s u)) ∧
    (∀ ch (d : Dimm), ch < 24 → s.clock.ddrLock = true → s.rst.held = false → s.power.rails = true → s.rst.trained.toNat.testBit ch = false →
      s.ready .dev 0 = true → ∃ u, exec (.memTrainingDone ch d) s = .next u ∧
        u.rst.trained = s.rst.trained ||| BitVec.ofNat 24 (2 ^ ch) ∧
        (∀ c, tget u.rst.dimms none c = if c = ch then some d else tget s.rst.dimms none c) ∧
        u.dimmChans = u.dimmLayout.2.2 ∧
        u.g .xlt 0 Off.xltDspace 15 0 = (if u.dimmLayout.2.2 = [] then 0 else u.dimmLayout.2.1) ∧
        (d.fitted = false → u.rd (regAt .mem ch Off.memInfo) = 0) ∧
        (d.fitted = true → d.trainOk = false → u.g .mem ch Off.memInfo 2 0 = 4 ∧
          u.g .mem ch Off.event Ev.memTrainFail Ev.memTrainFail = 1 ∧ u.ready .mem ch = s.ready .mem ch) ∧
        (d.fitted = true → d.trainOk = true → u.g .mem ch Off.memInfo 2 0 ∈ [1, 2, 3]) ∧
        ((d.fitted = false ∨ d.trainOk = true) → u.ready .mem ch = true) ∧ Same [.rst, .regs, .hlk] s u)

/-- R222 to R227, R231: the commands of XLT_CMD. INSTALL enters a checked descriptor in the selected slices that it allows, or none of
them; UPDATE rewrites flags, count and tag; the invalidations drop entries and stay busy until their accesses complete; LOOKUP shows an
entry. -/
def Obligations.TranslationCommands : Prop :=
  ∀ (s : State) (m : BitVec 4) (d : Bytes) (e : Xent), d = s.cmdData → e = Xent.ofBytes d →
    (XltFree s → s.descCheck d ≠ 0 → ∃ u, exec (.install m) s = .next u ∧ XltEnded u (s.descCheck d) 0 ∧ u.mem = s.mem ∧
      Same [.regs, .hlk] s u) ∧
    (XltFree s → s.descCheck d = 0 → (∃ k, Selected m k ∧ e.allows k = true) →
      (∀ k, Selected m k → e.allows k = true → sliceRefusal (s.slice k) e = 0 ∧ (s.slice k).length < 16384) →
      ∃ u, exec (.install m) s = .next u ∧ XltEnded u 0 0 ∧
        (∀ k, (Selected m k ∧ e.allows k = true → u.slice k = e :: s.slice k) ∧
          (¬(Selected m k ∧ e.allows k = true) → u.slice k = s.slice k)) ∧ u.mem.bytes = s.mem.bytes ∧ Same [.regs, .hlk, .mem] s u) ∧
    (∀ k v, XltFree s → s.descCheck d = 0 → k < 4 → m.toNat = 2 ^ k → e.allows k = true → sliceRefusal (s.slice k) e = 0 →
      16384 ≤ (s.slice k).length → ((s.slice k).filter fun x => !x.pinned).getLast? = some v → ∃ u, exec (.install m) s = .next u ∧
        XltEnded u 0 0 ∧ u.slice k = e :: (s.slice k).filter (· ≠ v) ∧ Counted s u .xlt 0 (0x200 + 32) 1) ∧
    (∀ k r, XltFree s → s.descCheck d = 0 → k < 4 → m.toNat = 2 ^ k → e.allows k = true → r ≠ 0 → sliceRefusal (s.slice k) e = r →
      ∃ u, exec (.install m) s = .next u ∧ XltEnded u r (2 ^ k) ∧ u.mem = s.mem ∧ Same [.regs, .hlk] s u) ∧
    (XltFree s → descValid d = true → descReservedOk d = true → descCrcOk d = true → 12 ≤ e.log2 → e.log2 ≤ 30 → e.pinned = false →
      (∃ k, Selected m k ∧ ∃ x ∈ s.slice k, x.va = e.va ∧ x.log2 = e.log2) → (∀ k, e.allows k = true) → s.mem.faults = [] →
      ∃ u, exec (.update m) s = .next u ∧ XltEnded u 0 0 ∧ Same [.regs, .hlk, .mem] s u ∧
        (∀ k, Selected m k → u.slice k = (s.slice k).map fun x =>
          if x.va = e.va ∧ x.log2 = e.log2 then { x with flags := e.flags, ref := e.ref, tag := e.tag } else x) ∧
        (∀ k, ¬Selected m k → u.slice k = s.slice k)) ∧
    (XltFree s → descValid d = true → descReservedOk d = true → descCrcOk d = true → 12 ≤ e.log2 → e.log2 ≤ 30 →
      (∀ k, Selected m k → ∀ x ∈ s.slice k, ¬(x.va = e.va ∧ x.log2 = e.log2)) → ∃ u, exec (.update m) s = .next u ∧ XltEnded u 6 0 ∧
        u.mem = s.mem ∧ Same [.regs, .hlk] s u) ∧
    (∀ c ∈ [(Instr.invRange m, (fun x : Xent => !x.meets e.va e.size), e.va, e.size), (.invUnpinned m, Xent.pinned, 0, 2 ^ 57),
        (.invAll m, (fun _ => false), 0, 2 ^ 57)], XltFree s → ∃ u, exec c.1 s = .next u ∧
        (∀ k, (Selected m k → u.slice k = (s.slice k).filter c.2.1) ∧ (¬Selected m k → u.slice k = s.slice k)) ∧
        u.mem.inval = some (m.toNat, c.2.2.1, c.2.2.2) ∧ u.g .xlt 0 Off.xltCmd 63 63 = 1 ∧ u.mem.bytes = s.mem.bytes ∧
        RegsOnly [regAt .xlt 0 Off.xltCmd] s u ∧ Same [.regs, .mem] s u) ∧
    (∀ r va n, s.mem.inval = some (r, va, n) → s.mem.faults = [] → ∃ u, exec .xltInvalidationDone s = .next u ∧ XltEnded u 0 0 ∧
      u.mem = { s.mem with inval := none } ∧ Same [.regs, .hlk, .mem] s u) ∧
    (∀ k x, XltFree s → k < 4 → m.toNat = 2 ^ k → (s.slice k).find? (fun x => x.covers e.va) = some x → ∃ u, exec (.lookup m) s = .next u ∧
      XltEnded u 0 0 ∧ u.cmdData = x.bytes ∧ u.mem = s.mem ∧ Same [.regs, .hlk] s u) ∧
    (XltFree s → (∀ k, Selected m k → ∀ x ∈ s.slice k, x.covers e.va = false) → ∃ u, exec (.lookup m) s = .next u ∧
      XltEnded u 6 0 ∧ u.cmdData = d ∧ u.mem = s.mem ∧ Same [.regs, .hlk] s u) ∧
    (∀ c ∈ [Instr.install m, .update m, .invRange m, .invUnpinned m, .invAll m, .lookup m],
      (s.ready .xlt 0 = false → ∃ u, exec c s = .next u ∧ AccessRefused s u false true Ev.devEarlyAccess (regAt .xlt 0 Off.xltCmd)) ∧
      (s.ready .xlt 0 = true → s.g .xlt 0 Off.xltCmd 63 63 = 1 → exec c s = .next s))

/-- R225, R228 to R230, R249: a miss holds its requester and makes one fault for the requests on its page; a search of the page map
installs what it finds, reads a bad descriptor again, or sends the fault to the host with its kind; a fault without an answer in time is
unresolvable. -/
def Obligations.TranslationFaults : Prop :=
  ∀ (s : State),
    (∀ sl r va w, sl < 4 → s.ready .xlt 0 = true → r < 64 → s.translate sl va w = .miss →
      (∀ f ∈ s.mem.faults, ¬(f.slice = sl ∧ f.va / 4096 = va / 4096)) → ∃ u f, exec (.translationMiss sl 8 va w r) s = .next u ∧
        u.mem = { s.mem with faults := s.mem.faults ++ [f], nextFault := (s.mem.nextFault + 1) % 2 ^ 32 } ∧
        f.id = s.mem.nextFault ∧ f.slice = sl ∧ f.va = va ∧ f.write = w ∧ f.stage = .search ∧ f.round = 0 ∧
        f.holders = [(30000 + r, va)] ∧ Counted s u .xlt 0 0x200 1 ∧ Same [.regs, .hlk, .mem] s u) ∧
    (∀ sl q o va w, sl < 4 → s.ready .xlt 0 = true → q < 18432 → s.queue q = [o] → o.held = false → s.translate sl va w = .miss →
      (∀ f ∈ s.mem.faults, ¬(f.slice = sl ∧ f.va / 4096 = va / 4096)) → ∃ u, exec (.translationMiss sl 1 va w q) s = .next u ∧
        (∀ k, u.queue k = if k = q then [{ o with held := true }] else s.queue k) ∧
        u.rd (regAt .cor (q / 8) (Off.corSqcur + 8 * (q % 8))) = BitVec.ofNat 64 (2 ^ 63 + o.cursor % 2 ^ 48) ∧
        u.g .sth (q / 8 / 576) Off.event Ev.sthFaultHeld Ev.sthFaultHeld = 1 ∧ u.mem.faults.length = s.mem.faults.length + 1) ∧
    (∀ sl r va w f, sl < 4 → s.ready .xlt 0 = true → r < 64 → s.translate sl va w = .miss → f ∈ s.mem.faults → f.slice = sl → f.kind ≠ 2 →
      f.va / 4096 = va / 4096 → (∀ g ∈ s.mem.faults, g ≠ f → ¬(g.slice = sl ∧ g.va / 4096 = va / 4096)) →
      (s.mem.faults.map (·.id)).Nodup → ∃ u, exec (.translationMiss sl 8 va w r) s = .next u ∧
        u.mem = { s.mem with faults := s.mem.faults.map fun g =>
          if g = f then { f with holders := f.holders ++ [(30000 + r, va)] } else g } ∧ Same [.mem] s u) ∧
    (∀ c f d n e, (LoneFault s f .search ∧ c = Instr.mapSearchDone f.id ∨ LoneFault s f .recheck ∧ c = .mapDescRecheck f.id) →
      NothingWaits s → s.translate f.slice f.va f.write = .miss →
      s.mapped (s.rd (regAt .xlt 0 Off.xltMapbase)).toNat (32 * s.mapLen) = true → s.mapFind f.va s.mapLen = some (d, false, n) →
      descCrcOk d = true → s.descCheck d = 0 → e = Xent.ofBytes d → e.allows f.slice = true →
      sliceRefusal ((s.slice f.slice).filter fun x => !x.meets e.va e.size) e = 0 → (s.slice f.slice).length < 16384 →
      ∃ u, exec c s = .next u ∧
        (∀ k, u.slice k = if k = f.slice then e :: (s.slice k).filter (fun x => !x.meets e.va e.size) else s.slice k) ∧
        u.mem.faults = s.mem.faults.filter (fun g => decide (g.id ≠ f.id)) ∧ Counted s u .xlt 0 (0x200 + 8) 1 ∧
        u.mem.bytes = s.mem.bytes) ∧
    (∀ f d p n, LoneFault s f .search → NothingWaits s → s.translate f.slice f.va f.write = .miss →
      s.mapped (s.rd (regAt .xlt 0 Off.xltMapbase)).toNat (32 * s.mapLen) = true → s.mapFind f.va s.mapLen = some (d, p, n) →
      (p = true ∨ descCrcOk d = false) → exec (.mapSearchDone f.id) s = .next (s.setFault { f with stage := .recheck })) ∧
    (∀ f d p n, LoneFault s f .recheck → NothingWaits s → s.translate f.slice f.va f.write = .miss →
      s.mapped (s.rd (regAt .xlt 0 Off.xltMapbase)).toNat (32 * s.mapLen) = true → s.mapFind f.va s.mapLen = some (d, p, n) →
      (p = true ∨ descCrcOk d = false) → f.round < 5 → s.hostQueued < 64 → ∃ u, exec (.mapDescRecheck f.id) s = .next u ∧
        SentToHost s u f 3 ∧ u.g .xlt 0 Off.event Ev.xltMapBad Ev.xltMapBad = 1 ∧ u.mem.slices = s.mem.slices) ∧
    (∀ f, LoneFault s f .search → NothingWaits s → s.translate f.slice f.va f.write = .miss → s.mapLen = 0 → f.round < 5 →
      s.hostQueued < 64 → ∃ u, exec (.mapSearchDone f.id) s = .next u ∧ SentToHost s u f 1 ∧ u.mem.slices = s.mem.slices) ∧
    (∀ f, LoneFault s f .queued → NothingWaits s → ∃ u, exec (.xltFaultTimeout f.id) s = .next u ∧
      u.mem.faults = s.mem.faults.filter (fun g => decide (g.id ≠ f.id)) ∧ u.mem.slices = s.mem.slices ∧
      u.g .xlt 0 Off.event Ev.xltUnresolved Ev.xltUnresolved = 1 ∧ Recorded s u 0x07 0 0x0F)

/-- R223: a page descriptor's 32 bytes, little-endian, in the layout of R223's table: the VA base with LOG2SIZE, the PA base, the flags,
REFCOUNT, TAG, four reserved zeros and the DCRC over bytes 0 to 27. No field is lost: for page bases that are multiples of 4 KiB below
2^57 and 2^53 and every LOG2SIZE below 64, reading the bytes back gives the entry; where VALID is 1, the reserved bits are 0 and the
bases are multiples of a page size of 2^12 to 2^30 bytes, the bytes pass the checks of VALID, of the reserved bits, of the size and of
the DCRC. -/
def Obligations.DescriptorRoundTrip : Prop :=
  ∀ e : Xent, e.va < 2 ^ 57 → e.va % 4096 = 0 → e.pa < 2 ^ 53 → e.pa % 4096 = 0 → e.log2 < 64 →
    e.bytes.length = 32 ∧ bat e.bytes 0 8 = e.va + e.log2 ∧ bat e.bytes 8 8 = e.pa ∧ bat e.bytes 16 2 = e.flags.toNat ∧
    bat e.bytes 18 2 = e.ref.toNat ∧ bat e.bytes 20 4 = e.tag.toNat ∧ bat e.bytes 24 4 = 0 ∧
    bat e.bytes 28 4 = crc32 (e.bytes.take 28) ∧ Xent.ofBytes e.bytes = e ∧ descCrcOk e.bytes = true ∧
    descValid e.bytes = e.flags.toNat.testBit 0 ∧ e.readable = e.flags.toNat.testBit 1 ∧ e.writable = e.flags.toNat.testBit 2 ∧
    e.pinned = e.flags.toNat.testBit 3 ∧ e.cow = e.flags.toNat.testBit 4 ∧
    (∀ k, k < 4 → (e.allows k = true ↔ nfld e.flags.toNat 11 8 = 0 ∨ e.flags.toNat.testBit (8 + k) = true)) ∧
    (nfld e.flags.toNat 7 5 = 0 → nfld e.flags.toNat 15 12 = 0 → descReservedOk e.bytes = true) ∧
    (12 ≤ e.log2 → e.log2 ≤ 30 → e.va % 2 ^ e.log2 = 0 → e.pa % 2 ^ e.log2 = 0 → descSizeOk e.bytes = true)

/-! ### Streams and the activation store (chapters 10 and 11) -/

/-- R233 to R245, R251 to R255: a plain operation starts when its queue reaches it, moves its bytes transfer by transfer, and completes;
a wait polls memory; a transfer out of time ends its operation with a poisoned tail; a write to a shared page copies it. -/
def Obligations.StreamOperations : Prop :=
  ∀ (s : State) (q : Nat) (o : Op),
    (∀ e ∈ [(Instr.streamIn q, 0), (.streamOut q, 1), (.streamCopy q, 2)], HeadOp s q o → o.codec = 0 → o.kind = e.2 →
      (q < 18432 ∨ o.kind = 2) →
      (o.checks true = true → o.waitEn = false → ∃ u, exec e.1 s = .next u ∧ OpNow s u q o { o with started := true, wait := .none } ∧
        Same [.queues] s u) ∧
      (o.checks true = true → o.waitEn = true → ∃ u, exec e.1 s = .next u ∧ OpNow s u q o { o with started := true, wait := .val } ∧
        Same [.queues] s u) ∧
      (o.checks true = false → o.poison = none → o.wait = .none → ∃ u, exec e.1 s = .next u ∧ TailFrom u q o 4 0 ∧ u.mem = s.mem ∧ u.sram = s.sram)) ∧
    (∀ n a x, s.queue q = [o] → o.codec = 0 → o.started = true → o.wait = .none → o.poison = none → o.idxEn = false → n = o.issued →
      n < o.total → 0 < o.count 0 → swapIdle s q = false → o.xfers.length < s.outLimit q → s.chunkOpen q o (n / o.chunk) = true →
      s.slotGrant q o = true → a = (State.posVa o (State.posOf o n) (n % o.count 0)).toNat →
      x = { off := n, len := min (min (min (o.count 0 - n % o.count 0) (o.chunk - n % o.chunk)) 4096) (4096 - a % 4096), va := some a } →
      ∃ u, exec (.transferGrant q) s = .next u ∧
        OpNow s u q o { o with xfers := o.xfers ++ [x], issued := n + x.len, nissued := o.nissued + 1 } ∧ Same [.queues] s u) ∧
    (∀ x a bs s', OneFlight s q o x → q < 18432 → o.kind = 0 → x.va = some a → s.vread (State.qSlice q) a x.len = .ok bs false s' →
      o.base + o.windowAddr x.off + x.len ≤ 0x100000 → ∃ u, exec (.transferLanded q 0) s = .next u ∧
        SramStored s u (q / 8) (o.base + o.windowAddr x.off) bs ∧ LandedIn u q o x ∧
        Counted s u .sth (State.queueBasin q) 0x200 1 ∧ u.mem.bytes = s.mem.bytes) ∧
    (∀ x a s', OneFlight s q o x → q < 18432 → o.kind = 1 → x.va = some a →
      s.srUe (q / 8) (o.base + o.windowAddr x.off) x.len = false →
      s.vwrite (State.qSlice q) a (s.srRead (q / 8) (o.base + o.windowAddr x.off) x.len) = .ok [] false s' →
      ∃ u, exec (.transferLanded q 0) s = .next u ∧ u.mem = s'.mem ∧ LandedIn u q o x ∧ u.sram = s.sram) ∧
    (∀ x a bs s' s'', OneFlight s q o x → o.kind = 2 → x.va = some a → s.vread (State.qSlice q) a x.len = .ok bs false s' →
      s'.vwrite (State.qSlice q) (o.dstVa + x.off) bs = .ok [] false s'' →
      ∃ u, exec (.transferLanded q 0) s = .next u ∧ u.mem = s''.mem ∧ LandedIn u q o x ∧ u.sram = s.sram) ∧
    (Finished s q o → q < 18432 → o.poison = none → o.sigEn = false → o.cmd = none → (∀ n, o.flag = some n → n < 64) →
      ∃ u, exec (.streamOpComplete q) s = .next u ∧ u.queue q = [] ∧ (∀ n, o.flag = some n → u.flag (q / 8) n = true) ∧
        u.g .cor (q / 8) (Off.corSqstat + 8 * (q % 8)) 55 48 = 0 ∧ u.g .cor (q / 8) (Off.corSqstat + 8 * (q % 8)) 31 0 = o.tag ∧
        Counted s u .cor (q / 8) 0x3C0 1 ∧ u.mem = s.mem) ∧
    (∀ r uid i s', Finished s q o → 18432 ≤ q → o.poison = none → o.sigEn = true → o.cmd = some (r, uid, i) → Unended s r uid →
      s.vwrite (State.qSlice q) (bat o.desc 112 8) (natBytes 8 (bat o.desc 120 8)) = .ok [] false s' →
      ∃ u, exec (.streamOpComplete q) s = .next u ∧ u.queue q = [] ∧ u.mem = s'.mem ∧
        CmdEnds s u r uid 0 (BitVec.ofNat 64 (o.aux.getD 0 0 + o.total))) ∧
    (∀ cause k, Finished s q o → q < 18432 → o.poison = some (cause, k) → cause ≠ 0 → cause < 256 → o.sigEn = false → o.cmd = none →
      o.launch = none → ∃ u, exec (.streamOpComplete q) s = .next u ∧ u.queue q = [] ∧
        u.g .cor (q / 8) (Off.corSqstat + 8 * (q % 8)) 55 48 = cause ∧
        u.g .sth (State.queueBasin q) Off.event Ev.sthPoisonedTail Ev.sthPoisonedTail = 1) ∧
    (∀ bs s', s.queue q = [o] → o.codec = 0 → o.started = true → o.wait = .val → o.held = false → o.waitEn = true →
      s.vread (State.qSlice q) (bat o.desc 96 8) 8 = .ok bs false s' →
      (bat o.desc 104 8 ≤ leNat bs → ∃ u, exec (.streamWaitPoll q) s = .next u ∧ OpNow s' u q o { o with wait := .none } ∧
        Same [.queues] s' u) ∧ (leNat bs < bat o.desc 104 8 → exec (.streamWaitPoll q) s = .next s')) ∧
    (∀ x xs, LoneOp s q o → o.xfers = x :: xs → State.noSlot o = false → o.held = false → o.poison = none → o.wait = .none →
      ∃ u, exec (.streamTransferTimeout q 0) s = .next u ∧ TailFrom u q o 2 o.cursor ∧
        u.g .sth (State.queueBasin q) Off.event Ev.sthStreamTimeout Ev.sthStreamTimeout = 1 ∧
        Counted s u .sth (State.queueBasin q) (0x200 + 24) 1) ∧
    (∀ b va e a w, q < 18432 → State.queueBasin q = b → b < 4 → s.translate (State.qSlice q) va true = .cow e → tget s.mem.cow none b = none →
      s.cowTake b e = .inr (a, w) → s.queue q = [o] → o.held = false → ∃ u c, exec (.cowCopyStart b va q) s = .next u ∧
        tget u.mem.cow none b = some c ∧ c.va = e.va ∧ c.oldPa = e.pa ∧ c.newPa = w ∧ c.log2 = e.log2 ∧ c.entry = a ∧ c.step = o.step ∧
        a = s.g .sth b Off.sthCowpool 52 12 * 4096 + 32 * s.g .sth b Off.sthCowidx 15 0 ∧ w = leNat (rdBytes s.mem.bytes a 8) ∧
        u.queue q = [{ o with held := true }] ∧ u.mem.bytes = s.mem.bytes) ∧
    (∀ b c, b < 4 → tget s.mem.cow none b = some c → s.queues = [] → Memory.wf s.mem.bytes = true →
      ∃ u, exec (.cowCopyDone b) s = .next u ∧ tget u.mem.cow none b = none ∧
        u.g .sth b Off.event Ev.sthCowCopy Ev.sthCowCopy = 1 ∧
        (∀ k, k < 4 → u.slice k = (s.slice k).filter fun x => !x.meets c.va (2 ^ c.log2)) ∧
        u.g .sth b Off.sthCowidx 15 0 = (s.g .sth b Off.sthCowidx 15 0 + 1) % max 1 (s.g .sth b Off.sthCowidx 47 32) ∧
        (c.oldPa + 2 ^ c.log2 ≤ c.newPa ∨ c.newPa + 2 ^ c.log2 ≤ c.oldPa → s.mapFind c.va s.mapLen = none →
          (c.entry + 32 ≤ c.newPa ∨ c.newPa + 2 ^ c.log2 ≤ c.entry) →
          ((s.rd (regAt .xlt 0 Off.xltMapbase)).toNat + 32 * s.mapLen ≤ c.newPa ∨
            c.newPa + 2 ^ c.log2 ≤ (s.rd (regAt .xlt 0 Off.xltMapbase)).toNat) →
          ∀ i, i < 2 ^ c.log2 → memByte u (c.newPa + i) = memByte s (c.oldPa + i)))

/-- R259 to R276: a save reserves room in the first tier of its class that takes it, or waits; a restore finds its record; a wait too long
ends with cause 2; a purge of a quiesced store frees every record. -/
def Obligations.ActivationStore : Prop :=
  ∀ (s : State) (q b : Nat) (o : Op), b = State.queueBasin q →
    (∀ c k t g, HeadOp s q o → o.codec = 0x40 → State.actForm q o 1 = true → o.waitEn = false → PlainSave s q o c →
      s.freeSlot b = some k → s.placeSave b (granules c o) c = some (t, g) → ∃ u, exec (.actSave q) s = .next u ∧
        u.ledger b = s.ledger b ++ [savedRec s b k t g (granules c o) c o] ∧
        (∀ d, d ≠ b → u.ledger d = s.ledger d) ∧ OpNow s u q o { o with started := true, wait := .none, aux := [k + 1, 0, 0, c.fmt] } ∧
        (c.tiers.head? ≠ some t → u.g .act b Off.event Ev.actSpill Ev.actSpill = 1)) ∧
    (∀ c, HeadOp s q o → o.codec = 0x40 → State.actForm q o 1 = true → o.waitEn = false → PlainSave s q o c →
      (s.freeSlot b = none ∨ s.placeSave b (granules c o) c = none) → ∃ u, exec (.actSave q) s = .next u ∧
        OpNow s u q o { o with started := true, wait := .room } ∧ Same [.queues] s u) ∧
    (∀ c r, HeadOp s q o → o.codec = 0x40 → State.actForm q o 1 = true → o.waitEn = false → c = s.actClass b (o.dstVa / 2 ^ 58) →
      State.actChecks c o = true → keyRelease o.dstVa = false → r ∈ s.ledger b → r.key.toNat = o.dstVa → r.step = o.step →
      o.poison = none → ∃ u, exec (.actSave q) s = .next u ∧ TailFrom u q o 4 0 ∧
        u.g .act b Off.event Ev.actDupKey Ev.actDupKey = 1 ∧ u.ledger b = s.ledger b) ∧
    (∀ c k t g, s.queue q = [o] → o.started = true → o.wait = .room → PlainSave s q o c → s.freeSlot b = some k →
      s.placeSave b (granules c o) c = some (t, g) → ∃ u, exec (.actSaveRoomFreed q) s = .next u ∧
        u.ledger b = s.ledger b ++ [savedRec s b k t g (granules c o) c o] ∧
        OpNow s u q o { o with wait := .none, aux := [k + 1, 0, 0, c.fmt] }) ∧
    (s.queue q = [o] → o.started = true → o.wait = .room → o.poison = none → ∃ u, exec (.actRoomTimeout q) s = .next u ∧
      TailFrom u q o 2 o.cursor ∧ u.g .act b Off.event Ev.actRoomTimeout Ev.actRoomTimeout = 1 ∧ u.ledger b = s.ledger b) ∧
    (∀ c r, HeadOp s q o → o.codec = 0x41 → State.actForm q o 0 = true → o.waitEn = false → c = s.actClass b (o.dstVa / 2 ^ 58) →
      State.actChecks c o = true → s.findRec b (o.dstVa - (if keyRelease o.dstVa then 2 ^ 57 else 0)) o.step true = some r →
      r.t = o.total → r.poisoned = false → ∃ u, exec (.actRestore q) s = .next u ∧
        OpNow s u q o { o with started := true, wait := .none, aux := [r.slot + 1, 0, 0, c.fmt] } ∧ Same [.queues] s u) ∧
    (∀ c, HeadOp s q o → o.codec = 0x41 → State.actForm q o 0 = true → o.waitEn = false → c = s.actClass b (o.dstVa / 2 ^ 58) →
      State.actChecks c o = true → s.findRec b (o.dstVa - (if keyRelease o.dstVa then 2 ^ 57 else 0)) o.step true = none →
      o.poison = none → ∃ u, exec (.actRestore q) s = .next u ∧ TailFrom u q o 4 0 ∧
        u.g .act b Off.event Ev.actMissingKey Ev.actMissingKey = 1 ∧ u.sram = s.sram) ∧
    (∀ d, d < 4 → s.ready .act d = true → tget s.rst.quiesced false (pageBase .act d) = true →
      (∀ r ∈ s.ledger d, r.valid = true ∧ s.restoring d r.slot = false) → ∃ u, exec (.actPurge d) s = .next u ∧ u.ledger d = [] ∧
        (∀ x, x ≠ d → u.ledger x = s.ledger x)) ∧
    (∀ d, d < 4 → s.ready .act d = true → tget s.rst.quiesced false (pageBase .act d) = false → ∃ u, exec (.actPurge d) s = .next u ∧
      EventSet s u .act d Ev.actCfgRefused ∧ RegsOnly [regAt .act d Off.event] s u ∧ Same [.regs, .hlk] s u) ∧
    (∀ d, d < 4 → s.ready .act d = false → ∃ u, exec (.actPurge d) s = .next u ∧
      AccessRefused s u false true Ev.devEarlyAccess (regAt .act d Off.actPurge))

/-! ### Convolution and the shallows engine (chapter 12) -/

/-- R277 to R285, R295, R296: patch deliveries and feature-map streams start when their descriptors are in order, and a row place of a patch
takes the element that its output position and tap reach, 0 outside the input. -/
def Obligations.PatchDelivery : Prop :=
  ∀ (s : State) (q : Nat) (o : Op), q < 18432 →
    (∀ e ∈ [(Instr.convPatch q, State.patchForm o false, decide (o.codec = 0x20)), (.convTpatch q, State.patchForm o true, decide (o.codec = 0x21)),
        (.featureMapCodec q, State.fmForm q o, decide (0x10 ≤ o.codec ∧ o.codec ≤ 0x1A))], HeadOp s q o → e.2.2 = true →
      (e.2.1 = true → o.waitEn = false → ∃ u, exec e.1 s = .next u ∧ OpNow s u q o { o with started := true, wait := .none } ∧
        Same [.queues] s u) ∧
      (e.2.1 = false → o.poison = none → o.wait = .none → ∃ u, exec e.1 s = .next u ∧ TailFrom u q o 4 0 ∧ u.mem = s.mem ∧
        u.sram = s.sram)) ∧
    (∀ c ∈ [(0x20, Geom.patchSrc), (0x21, Geom.tpatchSrc)], ∀ g x e ps s', LoneOp s q o → o.codec = c.1 → o.xfers = [x] → o.kind = 0 →
      o.poison = none → o.mark = none → g = State.opGeom o → e = fmtBits g.fmt / 8 → 0 < e → x.off % e = 0 → x.len % e = 0 →
      s.gotSrcs (State.qSlice q) (State.queueBasin q) o.memVa g ((List.range (x.len / e)).map fun k =>
        c.2 g (g.row0 + (x.off + k * e) / o.count 0) (g.k0 + (x.off + k * e) % o.count 0 / e)) = .ok ps s' →
      o.base + o.windowAddr x.off + x.len ≤ 0x100000 → ∃ u, exec (.transferLanded q 0) s = .next u ∧
        SramStored s u (q / 8) (o.base + o.windowAddr x.off) ((ps.map fun p => natBytes e p).flatten) ∧ LandedIn u q o x) ∧
    (∀ (g : Geom) n t c oh ow od ph pw pd, n < g.n → t < g.taps → c < g.c → oh < g.out.1 → ow < g.out.2.1 → od < g.out.2.2 →
      0 < g.c → (ph : Int) = oh * g.str.1 + (g.tapIdx t).1 * g.dil.1 - g.before.1 →
      (pw : Int) = ow * g.str.2.1 + (g.tapIdx t).2.1 * g.dil.2.1 - g.before.2.1 →
      (pd : Int) = od * g.str.2.2 + (g.tapIdx t).2.2 * g.dil.2.2 - g.before.2.2 →
      (0 ≤ ph ∧ ph < (g.inp.1 : Int) ∧ 0 ≤ pw ∧ pw < (g.inp.2.1 : Int) ∧ 0 ≤ pd ∧ pd < (g.inp.2.2 : Int) →
        g.patchSrc (flatPos g.out n (oh, ow, od)) (t * g.cp + c) =
          .elem (elemIdx g.layout g.inp g.c n (ph.toNat, pw.toNat, pd.toNat) c)) ∧
      (ph < 0 ∨ (g.inp.1 : Int) ≤ ph → g.pad = 0 → g.patchSrc (flatPos g.out n (oh, ow, od)) (t * g.cp + c) = .zero) ∧
      (ph < 0 ∨ (g.inp.1 : Int) ≤ ph → g.pad = 1 → g.patchSrc (flatPos g.out n (oh, ow, od)) (t * g.cp + c) = .pad))

/-- R287 to R294, R297: SHL_RUN joins its basin's jobs; a job that passes its checks computes and stores its results, and its operation
completes; a bad, failed or late job ends with its cause in SHL_STAT. -/
def Obligations.ShallowsJobs : Prop :=
  ∀ (s : State) (b : Nat), b < 4 →
    (∀ q o, State.queueBasin q = b → HeadOp s q o → o.codec = 0x30 → State.shlForm o = true → o.waitEn = false → s.ready .shl b = true →
      (s.shlJobs b).length < 17 → ∃ u, exec (.shlRun q) s = .next u ∧ OpNow s u q o { o with started := true, wait := .job } ∧
        u.shlJobs b = s.shlJobs b ++ [{ q := q, op := o.id, va := o.memVa, done := none }] ∧ u.g .shl b Off.shlStat 63 63 = 1 ∧
        u.g .shl b Off.shlStat 52 48 = (s.shlJobs b).length ∧ Same [.queues, .shl, .regs] s u) ∧
    (∀ e ∈ [((fun k => Instr.convFwd b k), 1, State.runFwd), ((fun k => .convBwdData b k), 2, State.runBwdData),
        ((fun k => .convBwdWeight b k), 3, State.runBwdWeight), ((fun k => .poolMax b k), 0x10, fun s b j st => s.runPool b j st true),
        ((fun k => .poolAvg b k), 0x11, fun s b j st => s.runPool b j st false), ((fun k => .poolMaxBwd b k), 0x12, State.runMaxBwd),
        ((fun k => .poolAvgBwd b k), 0x13, State.runAvgBwd), ((fun k => .padFold b k), 0x20, State.runPadFold)],
      ∀ j rest o d s' x, s.shlJobs b = j :: rest → j.done = none → s.op? j.q j.op = some o → o.held = false →
      s.vread b j.va 128 = .ok d false s' → x = ShlDesc.ofBytes j.va d →
      (∀ out s1 s2, x.err = 0 → x.op = e.2.1 → e.2.2 s' b x o.step = .ok out s1 →
        State.gotWrites b (State.jobWrites x out).1 s1 = .ok () s2 → ∃ u, exec (e.1 .ok) s = .next u ∧ u.mem = s2.mem ∧
          u.shlJobs b = { j with done := some 0 } :: rest ∧ u.sram = s2.sram ∧
          (∀ a ∈ [(8, out.macs), (16, out.pool), (32, out.replays)], Counted s2 u .shl b (0x200 + a.1) a.2)) ∧
      (∀ k, x.err ≠ 0 → o.poison = none → o.wait = .job → ∃ u, exec (e.1 k) s = .next u ∧ u.g .shl b Off.shlStat 47 40 = 4 ∧
        u.g .shl b Off.shlStat 39 32 = x.err ∧ u.g .shl b Off.event Ev.shlBadJob Ev.shlBadJob = 1 ∧ TailFrom u j.q o 4 0 ∧
        u.mem.bytes = s.mem.bytes) ∧
      (∀ k, x.err = 0 → x.op = e.2.1 → k ≠ .ok → o.poison = none → ∃ u, exec (e.1 k) s = .next u ∧
        u.g .shl b Off.shlStat 47 40 = 3 ∧ u.g .shl b Off.event Ev.shlCheck Ev.shlCheck = 1 ∧ TailFrom u j.q o 3 0)) ∧
    (∀ j rest o n, s.shlJobs b = j :: rest → j.done = some n → LoneOp s j.q o → o.id = j.op → o.codec = 0x30 → o.started = true → o.poison = none →
      o.sigEn = false → o.cmd = none → (∀ x ∈ rest, x.op ≠ j.op) → State.queueBasin j.q = b → ∃ u, exec (.shlJobDone b) s = .next u ∧
        u.shlJobs b = rest ∧ u.queue j.q = [] ∧ u.g .shl b Off.shlStat 47 32 = 0 ∧ Counted s u .shl b 0x200 1 ∧
        u.mem.bytes = s.mem.bytes) ∧
    (∀ j rest o, s.shlJobs b = j :: rest → j.done = none → s.op? j.q j.op = some o → o.held = false → o.poison = none →
      ∃ u, exec (.shlJobTimeout b) s = .next u ∧ u.g .shl b Off.shlStat 47 40 = 2 ∧
        u.g .shl b Off.event Ev.shlTimeout Ev.shlTimeout = 1 ∧ TailFrom u j.q o 2 0 ∧
        u.shlJobs b = (s.shlJobs b).filter (· ≠ j))

/-! ### Attention masks and KV sequences (chapter 13) -/

/-- R299 to R301, R309, R310, R313: masks are generated; gathers read token slots; a write first allocates or copies the pages that it
touches, and waits while its pool is empty. -/
def Obligations.KvOperations : Prop :=
  ∀ (s : State) (q : Nat) (o : Op), q < 18432 →
    (HeadOp s q o → o.codec = 0x50 → State.maskForm o = true → o.waitEn = false → ∃ u, exec (.attMask q) s = .next u ∧
      OpNow s u q o { o with started := true, wait := .none } ∧ Same [.queues] s u) ∧
    (HeadOp s q o → o.codec = 0x50 → bat o.desc 144 4 = 0 → o.poison = none → ∃ u, exec (.attMask q) s = .next u ∧ TailFrom u q o 4 0) ∧
    (∀ x, CodecFlight s q 0x50 o x → o.kind = 0 → ∃ u, exec (.transferLanded q 0) s = .next u ∧
      SramStored s u (q / 8) (o.base + o.windowAddr x.off) ((List.range x.len).map fun i => maskByte o (x.off + i)) ∧
      LandedIn u q o x ∧ u.mem.bytes = s.mem.bytes) ∧
    (∀ r, HeadOp s q o → o.codec = 0x51 → State.kvForm q o 0 = true → o.waitEn = false → KvUse s o r →
      ∃ u, exec (.kvGather q) s = .next u ∧ OpNow s u q o { o with started := true, wait := .none } ∧ Same [.queues] s u) ∧
    (∀ x r p, CodecFlight s q 0x51 o x → o.kind = 0 → s.kvRec (State.kvSeqOf o) = some r → p = State.kvPosOf o + x.off / o.count 0 →
      (r.tokens ≤ p → ∃ u, exec (.transferLanded q 0) s = .next u ∧ LandedIn u q o x ∧
        SramStored s u (q / 8) (o.base + o.windowAddr x.off) (List.replicate x.len 0)) ∧
      (∀ a bs s', p < r.tokens → s.tokenVa r p = some (some a) → s.vread r.basin (a + x.off % o.count 0) x.len = .ok bs false s' →
        ∃ u, exec (.transferLanded q 0) s = .next u ∧ LandedIn u q o x ∧ SramStored s u (q / 8) (o.base + o.windowAddr x.off) bs)) ∧
    (∀ x r a s', CodecFlight s q 0x52 o x → o.kind = 1 → s.kvRec (State.kvSeqOf o) = some r →
      s.tokenVa r (State.kvPosOf o + x.off / o.count 0) = some (some a) → x.off % o.count 0 + x.len = o.count 0 →
      s.srUe (q / 8) (o.base + o.windowAddr x.off) x.len = false →
      s.vwrite r.basin (a + x.off % o.count 0) (s.srRead (q / 8) (o.base + o.windowAddr x.off) x.len ++
        List.replicate (2 ^ r.tlog - o.count 0) 0) = .ok [] false s' →
      ∃ u, exec (.transferLanded q 0) s = .next u ∧ u.mem = s'.mem ∧ LandedIn u q o x) ∧
    (∀ r i n, HeadOp s q o → o.codec = 0x52 → State.kvForm q o 1 = true → o.waitEn = false → KvUse s o r →
      State.kvPosOf o ≤ r.tokens → State.kvPosOf o + o.count 1 ≤ s.kvCap r → s.kvSpan o r = (i, n) →
      ((∀ j, i ≤ j → j < i + n → ∃ e, s.kvEntry r j = some e ∧ e ≠ kvNone ∧ s.kvRef r.pool e ≤ 1) → ∃ u, exec (.kvWrite q) s = .next u ∧
        OpNow s u q o { o with started := true, wait := .none } ∧ Same [.queues] s u) ∧
      (∀ p, n = 1 → s.kvEntry r i = some kvNone → s.kvFree r.pool = some p → ∃ u, exec (.kvWrite q) s = .next u ∧
        OpNow s u q o { o with started := true, wait := .none } ∧ u.mem = ((s.kvAlloc r.pool p).putEntry r i p).mem) ∧
      (s.kvEntry r i = some kvNone → s.kvFree r.pool = none → 0 < n → ∃ u, exec (.kvWrite q) s = .next u ∧
        OpNow s u q o { o with started := true, wait := .page } ∧ Same [.queues] s u) ∧
      (∀ e p, 0 < n → s.kvEntry r i = some e → e ≠ kvNone → 2 ≤ s.kvRef r.pool e → s.kvFree r.pool = some p →
        ∃ u, exec (.kvWrite q) s = .next u ∧ OpNow s u q o { o with started := true, wait := .pageCopy e p i })) ∧
    (∀ r, HeadOp s q o → o.codec = 0x52 → State.kvForm q o 1 = true → o.waitEn = false → KvUse s o r → o.poison = none →
      (r.tokens < State.kvPosOf o ∨ s.kvCap r < State.kvPosOf o + o.count 1) → ∃ u, exec (.kvWrite q) s = .next u ∧ TailFrom u q o 4 0) ∧
    (∀ old new i r v, s.queue q = [o] → o.started = true → o.wait = .pageCopy old new i → s.kvRec (State.kvSeqOf o) = some r →
      v = s.kvCopyEnd (State.kvSeqOf o) old new i → ∃ u, exec (.kvPageCopyDone q) s = .next u ∧
        u.g .kvp 0 Off.event Ev.kvpCopy Ev.kvpCopy = 1 ∧ Counted s u .kvp 0 (0x200 + 8) 1 ∧
        (∀ r', v.kvRec (State.kvSeqOf o) = some r' → (v.kvSpan o r').1 + (v.kvSpan o r').2 = i + 1 →
          u.mem = v.mem ∧ u.queue q = [{ o with wait := .none }])) ∧
    (∀ r i, s.queue q = [o] → o.started = true → o.wait = .page → s.kvRec (State.kvSeqOf o) = some r → s.kvSpan o r = (i, 1) →
      s.kvEntry r i = some kvNone →
      (∀ p, s.kvFree r.pool = some p → ∃ u, exec (.kvPoolWaitResume q) s = .next u ∧ u.queue q = [{ o with wait := .none }] ∧
        u.mem = ((s.kvAlloc r.pool p).putEntry r i p).mem) ∧
      (s.kvFree r.pool = none → ∃ u, exec (.kvPoolWaitResume q) s = .next u ∧ u.queue q = [o] ∧ Same [.queues] s u)) ∧
    (s.queue q = [o] → o.started = true → o.wait = .page → o.poison = none → ∃ u, exec (.kvPoolWaitTimeout q) s = .next u ∧
      TailFrom u q o 2 o.cursor ∧ u.g .kvp 0 Off.event Ev.kvpPoolEmpty Ev.kvpPoolEmpty = 1)

/-- R304, R307, R308, R314 to R316: the commands of KVP on sequences and their results, pool configuration, and sends between modules (the
packets of a send are the model's choice, log 21). -/
def Obligations.KvSequences : Prop :=
  ∀ s : State,
    (∀ seq t r, KvpFree s → s.kvBusy (BitVec.toNat seq) = false → t = kvpTold s 1 seq.toNat (s.g .kvp 0 Off.kvpCmd 47 32) (s.rd (regAt .kvp 0 Off.kvpCmdarg)).toNat →
      t.kvLook seq.toNat false = some (.inr r) → t.listReady r = true → ∃ u, exec (.create seq) s = .next u ∧ KvpEnded u 0 ∧
        u.mem = (((List.range r.listCap).foldl (fun s i => s.putEntry r i kvNone) t).putKv
          ((r.put 8 (List.replicate 16 0)).put 0 [1])).mem) ∧
    (∀ seq seq2 len t a b b' p es live, KvpFree s → s.kvBusy (BitVec.toNat seq) = false → s.kvBusy (BitVec.toNat seq2) = false →
      t = kvpTold s 2 seq.toNat seq2.toNat (BitVec.toNat len) → t.kvLook seq.toNat true = some (.inr a) → t.seqIn seq2.toNat = true →
      t.kvRec seq2.toNat = some b → b.valid = false → bat b.d 60 4 = crc32 (b.d.take 60) → b' = b.put 1 (bsub a.d 1 3) → b'.ok = true →
      p = t.perPage a →
      (a.tokens < len.toNat ∨ t.kvCap b' < len.toNat → ∃ u, exec (.fork seq seq2 len) s = .next u ∧ KvpEnded u 3 ∧ u.mem = s.mem) ∧
      (len.toNat ≤ a.tokens → len.toNat ≤ t.kvCap b' → t.listReady a = true → t.listReady b' = true →
        es = (List.range ((len.toNat + p - 1) / p)).map (fun i => (i, (t.kvEntry a i).getD kvNone)) → live = es.filter (fun e => e.2 ≠ kvNone) →
        ((∃ e ∈ live, 65535 ≤ t.kvRef a.pool e.2) → ∃ u, exec (.fork seq seq2 len) s = .next u ∧ KvpEnded u 4 ∧ u.mem = s.mem ∧
          u.g .kvp 0 Off.event Ev.kvpRefcountFull Ev.kvpRefcountFull = 1) ∧
        ((∀ e ∈ live, t.kvRef a.pool e.2 < 65535) → ∃ u, exec (.fork seq seq2 len) s = .next u ∧ KvpEnded u 0 ∧
          u.mem = (((List.range (b'.listCap - es.length)).foldl (fun s i => s.putEntry b' (es.length + i) kvNone)
            (es.foldl (fun s e => s.putEntry b' e.1 e.2)
              (live.foldl (fun s e => s.setKvRef a.pool e.2 (s.kvRef a.pool e.2 + 1)) t))).putKv
              ((b'.put 8 (natBytes 8 len.toNat)).put 0 [1])).mem))) ∧
    (∀ seq len t r, KvpFree s → s.kvBusy (BitVec.toNat seq) = false → t = kvpTold s 3 seq.toNat (s.g .kvp 0 Off.kvpCmd 47 32) (BitVec.toNat len) →
      t.kvLook seq.toNat true = some (.inr r) →
      (r.tokens < len.toNat → ∃ u, exec (.truncate seq len) s = .next u ∧ KvpEnded u 3 ∧ u.mem = s.mem) ∧
      (len.toNat ≤ r.tokens → t.listReady r = true → ∃ u, exec (.truncate seq len) s = .next u ∧ KvpEnded u 0 ∧
        u.mem = ((t.kvReleaseFrom r ((len.toNat + t.perPage r - 1) / t.perPage r)).putKv (r.put 8 (natBytes 8 len.toNat))).mem)) ∧
    (∀ seq t r, KvpFree s → s.kvBusy (BitVec.toNat seq) = false → t = kvpTold s 4 seq.toNat (s.g .kvp 0 Off.kvpCmd 47 32) (s.rd (regAt .kvp 0 Off.kvpCmdarg)).toNat →
      t.kvLook seq.toNat true = some (.inr r) → t.listReady r = true → ∃ u, exec (.release seq) s = .next u ∧ KvpEnded u 0 ∧
        u.mem = ((t.kvTruncate r 0).putKv ((r.put 8 (natBytes 8 0)).put 0 [0])).mem) ∧
    (∀ seq len t r, KvpFree s → s.kvBusy (BitVec.toNat seq) = false → t = kvpTold s 5 seq.toNat (s.g .kvp 0 Off.kvpCmd 47 32) (BitVec.toNat len) →
      t.kvLook seq.toNat true = some (.inr r) → ∃ u, exec (.rxSet seq len) s = .next u ∧ KvpEnded u 0 ∧
        u.mem = (t.putKv (r.put 16 (natBytes 8 len.toNat))).mem) ∧
    (∀ seq seq2 len c, ∀ e ∈ [(Instr.create seq, false), (.fork seq seq2 len, true), (.truncate seq len, true), (.release seq, true),
      (.rxSet seq len, true)],
      (KvpFree s → s.kvBusy (BitVec.toNat seq) = false → s.kvBusy (BitVec.toNat seq2) = false → s.kvLook seq.toNat e.2 = some (.inl c) →
        ∃ u, exec e.1 s = .next u ∧ KvpEnded u c ∧ u.mem = s.mem ∧ (c = 2 → u.g .kvp 0 Off.event Ev.kvpRecordBad Ev.kvpRecordBad = 1)) ∧
      (s.ready .kvp 0 = false → ∃ u, exec e.1 s = .next u ∧
        AccessRefused s u false true Ev.devEarlyAccess (regAt .kvp 0 Off.kvpCmd))) ∧
    (∀ n base cfg map k c, n < 4 → s.ready .kvp 0 = true → k = fld cfg 29 24 → c = fld cfg 20 0 →
      (PoolAccepted s n k c (fld base 56 14) → ∃ u, exec (.kvpPoolConfig n base cfg map) s = .next u ∧
        u.g .kvp 0 (Off.kvpPoolbase + 32 * n) 56 14 = fld base 56 14 ∧ u.poolK n = k ∧ u.poolCount n = c ∧
        u.g .kvp 0 (Off.kvpPoolcfg + 32 * n) 52 32 = fld cfg 52 32 ∧ u.g .kvp 0 (Off.kvpPoolmap + 32 * n) 56 12 = fld map 56 12 ∧
        u.poolFree n = (if k = 0 then 0 else c) ∧ (k = 0 → u.mem = s.mem)) ∧
      (¬PoolAccepted s n k c (fld base 56 14) → ∃ u, exec (.kvpPoolConfig n base cfg map) s = .next u ∧
        EventSet s u .kvp 0 Ev.kvpCfgRefused ∧ RegsOnly [regAt .kvp 0 Off.event] s u ∧ Same [.regs, .hlk] s u)) ∧
    (∀ n base cfg map, n < 4 → s.ready .kvp 0 = false → ∃ u, exec (.kvpPoolConfig n base cfg map) s = .next u ∧
      AccessRefused s u false true Ev.devEarlyAccess (regAt .kvp 0 (Off.kvpPoolcfg + 32 * n))) ∧
    (∀ q o r l s' bs s'', HeadOp s q o → o.codec = 0x53 → State.sendForm o = true → o.waitEn = false → KvUse s o r →
      o.count 0 = 2 ^ r.tlog → s.route (bat o.desc 14 2) false = (.link l, s') → 0x20 ≤ (s'.link l).level.toNat →
      s'.kvSlots r (State.kvPosOf o) (o.count 1) = some (bs, false, s'') → ∃ u, exec (.kvSend q) s = .next u ∧
        OpNow s u q o { o with started := true, wait := .ack, issued := o.total } ∧
        ∃ k, u.hlk.outbox.getLast? = some (.packet l k) ∧ k.typ = 0x30 ∧ k.vc = BitVec.ofNat 4 r.vc ∧ k.dst = BitVec.ofNat 16 (bat o.desc 14 2)) ∧
    (∀ l k a, k.typ = 0x30 → Hears s l k → a = k.addr.toNat →
      (s.seqIn (nfld a 47 32) = false → ∃ u, exec (.kv l k) s = .next u ∧ Answered u k 0x05 1 [] ∧ u.mem.bytes = s.mem.bytes ∧
        u.g .kvp 0 Off.event Ev.kvpRxRefused Ev.kvpRxRefused = 1) ∧
      (∀ r, s.seqIn (nfld a 47 32) = true → s.kvRec (nfld a 47 32) = some r → r.ok = true → r.valid = true → s.poolOk r = true →
        r.tlog = nfld a 52 48 → 2 ^ 63 ≤ a → ∃ u, exec (.kv l k) s = .next u ∧ Answered u k 0x31 0 [] ∧
          u.mem.bytes = (s.putKv (r.put 16 (natBytes 8 ((r.rxTokens + leNat k.payload) % 2 ^ 64)))).mem.bytes)) ∧
    (∀ l k x q o n, k.typ = 0x31 → Hears s l k → s.txnOf k = some x → x.op = some (q, o.id, n) → s.queue q = [o] →
      ∃ u, exec (.kvAck l k) s = .next u ∧ (∀ y, y ∈ u.fab.txns ↔ y ∈ s.fab.txns ∧ y ≠ x) ∧
        u.queue q = [{ o with wait := .none, landed := [(0, o.total)], cursor := o.chunks }] ∧ u.mem = s.mem)

/-! ### The Colsar fabric (chapter 14) -/

/-- R318, R320 to R322, R327, R328, R337, R340: a link trains, comes up in STATE 2 or 5, retrains, degrades and goes down; IDENTIFY fixes
its level; DEV_FABID and the route cache change as told. -/
def Obligations.FabricLinks : Prop :=
  ∀ (s : State) (l : Nat) (x : Link), l < 96 → x = s.link l →
    (∀ m w, s.linkExists l = true → s.portLive (l / 2) = true → x.st = 0 → s.trainLanes l = some (m, w) →
      ∃ u k, exec (.fabTrainingStart l) s = .next u ∧
        LinkNow s u l { linkDown0 with st := 1, width := BitVec.ofNat 4 w, lit := BitVec.ofNat 8 m, fails := x.fails } ∧
        u.hlk.outbox.getLast? = some (.packet l k) ∧ k.typ = 0x10 ∧ k.vc = 0 ∧ k.payload = s.identifyData l ∧ Same [.regs, .hlk, .fab] s u) ∧
    (x.st = 1 → x.known = true → ∃ u, exec (.fabLinkUp l) s = .next u ∧
      LinkNow s u l { x with st := s.upState x, fails := 0, retrains := 0, retries := 0 } ∧ PortEvent u l Ev.fabLinkUp ∧
      (s.upState x = 5 → PortEvent u l Ev.fabJobMismatch) ∧ Same [.regs, .hlk, .fab] s u) ∧
    (x.st = 1 → x.fails < 2 → ∃ u, exec (.fabTrainingTimeout l) s = .next u ∧
      LinkNow s u l { x with known := false, level := 0, fails := x.fails + 1 } ∧ Same [.fab] s u) ∧
    (x.st = 1 → 2 ≤ x.fails → ∃ u, exec (.fabTrainingTimeout l) s = .next u ∧ LinkNow s u l { linkDown0 with st := 4, lit := x.lit } ∧
      PortEvent u l Ev.fabLinkFailed) ∧
    (∀ lit, s.linkExists l = true →
      (x.st ≠ 1 → allLit lit (s.usedLanes l) → ∃ u, exec (.fabLightLoss l lit) s = .next u ∧ LinkNow s u l { x with lit := lit } ∧
        Same [.fab] s u) ∧
      (x.st = 2 ∨ x.st = 5 → x.width = 8 → lit ≠ 0xFF → allLit lit 0x0F ∨ allLit lit 0xF0 → x.retrains < 2 →
        ∃ u, exec (.fabLightLoss l lit) s = .next u ∧
          LinkNow s u l { x with lit := lit, width := 4, st := 3, retrains := x.retrains + 1, retries := 0 } ∧
          PortEvent u l Ev.fabWidthDegraded ∧ PortEvent u l Ev.fabRetrain) ∧
      (x.st = 2 ∨ x.st = 5 → ¬allLit lit 0x0F → ¬allLit lit 0xF0 → ∃ u, exec (.fabLightLoss l lit) s = .next u ∧
        LinkNow s u l { linkDown0 with lit := lit, fails := x.fails } ∧ PortEvent u l Ev.fabLinkDown)) ∧
    (∀ n t, x.st = 2 ∨ x.st = 5 → t = s.g .fab (l / 2) Off.fabCfg 47 40 →
      (n < t → ∃ u, exec (.flitRetry l n) s = .next u ∧ Counted s u .fab (l / 2) (0x200 + 16) 1 ∧
        LinkNow s u l { x with retries := n, retrains := if n ≤ 1 then 0 else x.retrains } ∧ Same [.regs, .hlk, .fab] s u) ∧
      (t ≤ n → 1 < n → x.retrains < 2 → ∃ u, exec (.flitRetry l n) s = .next u ∧ Counted s u .fab (l / 2) (0x200 + 24) 1 ∧
        LinkNow s u l { x with st := 3, retries := 0, retrains := x.retrains + 1 } ∧ PortEvent u l Ev.fabRetrain) ∧
      (t ≤ n → 1 < n → 2 ≤ x.retrains → ∃ u, exec (.flitRetry l n) s = .next u ∧ PortEvent u l Ev.fabLinkDown ∧
        LinkNow s u l { linkDown0 with lit := x.lit, fails := x.fails })) ∧
    (x.st = 3 → ∃ u, exec (.fabRetrainDone l) s = .next u ∧ LinkNow s u l { x with st := s.upState x }) ∧
    (∀ k, k.typ = 0x10 → bat k.payload 0 1 = 0x03 →
      (∀ v, x.st = 1 → Chosen s 0 (· ≤ bat k.payload 11 1) v → ∃ u, exec (.identify l k) s = .next u ∧
        LinkNow s u l { identityOf x k.payload with level := BitVec.ofNat 8 v, known := true }) ∧
      (x.st = 1 → (∀ v ∈ s.mine 0, bat k.payload 11 1 < v) → ∃ u, exec (.identify l k) s = .next u ∧
        LinkNow s u l { linkDown0 with st := 4, lit := x.lit } ∧ PortEvent u l Ev.fabLevelMismatch) ∧
      (x.st = 2 ∨ x.st = 5 → ∃ u, exec (.identify l k) s = .next u ∧
        LinkNow s u l { identityOf x k.payload with st := s.upState (identityOf x k.payload) } ∧
        (s.upState (identityOf x k.payload) = 5 → PortEvent u l Ev.fabJobMismatch))) ∧
    (∀ v, s.ready .dev 0 = true → ∃ u, exec (.devFabidWrite v) s = .next u ∧ u.rd (regAt .dev 0 Off.devFabid) = BitVec.ofNat 64 (fld v 47 0) ∧
      (fld v 47 0 ≠ s.g .dev 0 Off.devFabid 47 0 → x.st = 2 ∨ x.st = 5 → (u.link l).st = u.upState x) ∧ Same [.regs, .hlk, .fab] s u) ∧
    (s.ready .dev 0 = true → ∃ u, exec .routeFlush s = .next u ∧ u.fab = { s.fab with routes := [] } ∧ Same [.fab] s u) ∧
    (∀ c off, s.ready .dev 0 = false → (c = .routeFlush ∧ off = Off.devRtbase ∨ ∃ v, c = .devFabidWrite v ∧ off = Off.devFabid) →
      ∃ u, exec c s = .next u ∧ AccessRefused s u false true Ev.devEarlyAccess off)

/-- R329 to R336: requests that arrive are checked against the import windows, carried out and answered; responses complete the
transfers that they answer; a request that fails or expires ends its operation, or is sent once more. -/
def Obligations.FabricTraffic : Prop :=
  ∀ (s : State) (l p : Nat) (k : Pkt), p = l / 2 →
    (∀ e ∈ [(Instr.put l k, (0x01 : BitVec 8), k.payload.length, true), (.get l k, 0x02, k.len.toNat, false)], k.typ = e.2.1 → Hears s l k →
      (s.importOk k.addr.toNat e.2.2.1 e.2.2.2 = false → ∃ u, exec e.1 s = .next u ∧ Answered u k 0x05 1 [] ∧
        PortEvent u l Ev.fabImportRefused ∧ u.mem.bytes = s.mem.bytes) ∧
      (∀ va, s.importOk k.addr.toNat e.2.2.1 e.2.2.2 = true → (s.parkedAt p).length < 16 →
        s.piecesOf (State.portSlice p) k.addr.toNat e.2.2.1 e.2.2.2 = .error (va, .miss) → ∃ u, exec e.1 s = .next u ∧
          u.parkedAt p = s.parkedAt p ++ [(l, k)] ∧ u.mem.bytes = s.mem.bytes ∧
          ∃ m r, OutMsg.packet m r ∈ u.hlk.outbox ∧ r.typ = 0x06 ∧ r.txid = k.txid ∧ r.dst = k.src)) ∧
    (∀ s', k.typ = 0x01 → Hears s l k → k.poison = false → NoStageWaits s → s.importOk k.addr.toNat k.payload.length true = true →
      s.vwrite (State.portSlice p) k.addr.toNat k.payload = .ok [] false s' → ∃ u, exec (.put l k) s = .next u ∧ Answered u k 0x04 0 [] ∧
        u.mem.bytes = s'.mem.bytes) ∧
    (∀ bs po s', k.typ = 0x02 → Hears s l k → s.importOk k.addr.toNat k.len.toNat false = true →
      s.vread (State.portSlice p) k.addr.toNat k.len.toNat = .ok bs po s' → ∃ u, exec (.get l k) s = .next u ∧ Answered u k 0x03 0 bs ∧
        u.mem.bytes = s.mem.bytes) ∧
    (k.typ = 0x01 → l < 96 → s.carries l (k.vc = 0) = true → s.quiet .fab p = false → k.dst.toNat = s.logid → k.resent = true →
      State.dupKey k ∈ s.fab.dup → ∃ u, exec (.put l k) s = .next u ∧ Answered u k 0x04 0 [] ∧ Counted s u .fab p (0x200 + 64) 1 ∧
        u.mem.bytes = s.mem.bytes) ∧
    (k.typ = 0x01 → l < 96 → s.carries l (k.vc = 0) = true → s.quiet .fab p = false → k.dst.toNat ≠ s.logid → k.hops = 15 →
      ∃ u, exec (.put l k) s = .next u ∧ Answered u k 0x05 7 [] ∧ u.mem.bytes = s.mem.bytes) ∧
    (∀ m s', k.typ = 0x01 → l < 96 → s.carries l (k.vc = 0) = true → s.quiet .fab p = false → k.dst.toNat ≠ s.logid → k.hops.toNat < 15 →
      s.route k.dst.toNat (k.vc = 0) = (.link m, s') → ∃ u r, exec (.put l k) s = .next u ∧ u.hlk.outbox.getLast? = some (.packet m r) ∧
        r.hops = k.hops + 1 ∧ r.dst = k.dst ∧ r.payload = k.payload ∧ Counted s u .fab p (0x200 + 72) 1) ∧
    (∀ x q o t s', k.typ = 0x03 → Hears s l k → k.poison = false → Outstanding s k x q o t →
      s.vwrite (State.qSlice q) (o.dstVa + t.off) k.payload = .ok [] false s' → ∃ u, exec (.getData l k) s = .next u ∧
        u.mem = s'.mem ∧ ResponseTaken s u x q o t) ∧
    (∀ x q o t, k.typ = 0x03 → Hears s l k → k.poison = true → Outstanding s k x q o t → o.started = true → o.held = false →
      o.chunks = 1 → o.cursor = 0 → t.off = 0 → ∃ u, exec (.getData l k) s = .next u ∧ TailFrom u q o 3 0) ∧
    (∀ x q o t, k.typ = 0x04 → Hears s l k → Outstanding s k x q o t → ∃ u, exec (.ack l k) s = .next u ∧ u.mem = s.mem ∧
      ResponseTaken s u x q o t) ∧
    (∀ x q o t, k.typ = 0x05 → Hears s l k → Outstanding s k x q o t → k.code ≠ 6 → ∃ u, exec (.nack l k) s = .next u ∧
      RequestFailed u x q o 1 1 k.code.toNat Ev.fabRemoteNack ∧ Counted s u .fab p (0x200 + 40) 1 ∧ x ∉ u.fab.txns) ∧
    (k.typ = 0x06 → Hears s l k → ∃ u, exec (.hold l k) s = .next u ∧ u.fab.txns = s.fab.txns ∧ Same [.regs, .hlk, .fab] s u) ∧
    (∀ txid w x q o t, s.fab.txns.find? (·.txid = txid) = some x → x.op = some (q, o.id, t) → s.queue q = [o] → o.poison = none →
      o.mark = none → o.codec ≠ 0x53 →
      (x.lvl3 = false ∨ x.resent = true ∨ w = false → ∃ u, exec (.fabTxnTimeout txid w) s = .next u ∧
        RequestFailed u x q o 2 2 0 Ev.fabTxnTimeout ∧ x ∉ u.fab.txns) ∧
      (∀ m s', x.lvl3 = true → x.resent = false → w = true → s.route x.k.dst.toNat false (some x.l) = (.link m, s') →
        ∃ u r, exec (.fabTxnTimeout txid w) s = .next u ∧ u.hlk.outbox.getLast? = some (.packet m r) ∧ r.txid = x.k.txid ∧
          { x with l := m, resent := true, k := { x.k with resent := true } } ∈ u.fab.txns ∧ u.queue q = [o])) ∧
    (∀ n e, (s.parkedAt p)[n]? = some e → e.2.typ ≠ 0x22 →
      (∀ s', s.importDo e.1 e.2 = some s' → ∃ u, exec (.fabHoldResend p n) s = .next u ∧ u.parkedAt p = (s.parkedAt p).eraseIdx n ∧
        u.mem = s'.mem ∧ u.hlk = s'.hlk) ∧
      (s.importDo e.1 e.2 = none → s.carries e.1 (e.2.vc = 0) = true → ∃ u, exec (.fabHoldResend p n) s = .next u ∧
        Answered u e.2 0x06 0 [] ∧ u.parkedAt p = s.parkedAt p)) ∧
    (∀ n, ∃ u, exec (.dupKeyExpiry n) s = .next u ∧ u.fab = { s.fab with dup := s.fab.dup.eraseIdx n } ∧ Same [.fab] s u) ∧
    (∀ q o, ∀ e ∈ [(Instr.fabPut q, 0x60), (.fabGet q, 0x61)], HeadOp s q o → o.codec = e.2 → o.waitEn = false →
      (State.fabForm o = true → ∃ u, exec e.1 s = .next u ∧ OpNow s u q o { o with started := true, wait := .none } ∧ Same [.queues] s u) ∧
      ((State.fabRemote o).2 < 2 → o.poison = none → ∃ u, exec e.1 s = .next u ∧ TailFrom u q o 4 0))

/-- R338, R339, R341: management packets are answered or shown in FAB_MDATA; a RESET is checked, answered and, where accepted, requested;
a peer's reset drops its keys and its requests; FAB_MCMD sends, and its answer, a timeout or no route ends it. -/
def Obligations.FabricManagement : Prop :=
  ∀ (s : State) (l : Nat) (k : Pkt),
    (HearsMgmt s l k 0x01 → ∃ u, exec (.ping l k) s = .next u ∧ Answered u k 0x10 0 (0x02 :: bsub k.payload 1 8)) ∧
    (∀ e ∈ [(Instr.pong l k, 0x02, 0x01), (.resetAck l k, 0x11, 0x10)], HearsMgmt s l k e.2.1 →
      (∀ p, s.mcmdWaiting e.2.2 k.src.toNat = some p → ∃ u, exec e.1 s = .next u ∧ SendEnded u p 0 ∧ MdataHolds u p k.payload) ∧
      (s.mcmdWaiting e.2.2 k.src.toNat = none → ∃ u, exec e.1 s = .next u ∧ MdataHolds u (l / 2) k.payload ∧ PortEvent u l Ev.fabMgmtRx)) ∧
    (HearsMgmt s l k 0x04 → ∃ u, exec (.leaving l k) s = .next u ∧ MdataHolds u (l / 2) k.payload ∧ PortEvent u l Ev.fabMgmtRx ∧
      u.fab = s.fab) ∧
    (∀ e ∈ [(Instr.resetNotice l k, 0x05), (.adopt l k, 0x06)], HearsMgmt s l k e.2 → ∃ u, exec e.1 s = .next u ∧
      MdataHolds u (l / 2) k.payload ∧ PortEvent u l Ev.fabMgmtRx ∧ u.fab.dup = s.fab.dup.filter (·.src ≠ k.src) ∧
      (∀ x ∈ s.fab.txns, x.k.dst = k.src → x.op ≠ none → x ∉ u.fab.txns) ∧
      (∀ x q o t, s.fab.txns = [x] → x.k.dst = k.src → x.op = some (q, o.id, t) → s.queues = [(q, [o])] → State.isStage o = false →
        o.poison = none → o.mark = none → o.codec ≠ 0x53 → RequestFailed u x q o 1 1 4 Ev.fabRemoteNack)) ∧
    (HearsMgmt s l k 0x10 → ∀ form st,
      form = bat k.payload 3 1 →
      st = (if ¬ (s.g .dev 0 Off.devFabcfg 0 0 = 1 ∧ k.src.toNat = s.g .dev 0 Off.devFabcfg 63 48 ∧
          (s.link l).peerJob.toNat = s.jobId) then 1
        else if ¬ (bat k.payload 1 2 = 0xA5C3 ∧ 1 ≤ form ∧ form ≤ 3 ∧ (form = 3 → bat k.payload 4 1 % 16 ≠ 0)) then 2
        else if bat k.payload 5 2 ≠ s.logid then 4 else if s.power.drain = .running then 3 else 0) →
      ∃ u, exec (.reset l k) s = .next u ∧
        (∃ ms m r, u.hlk.outbox = s.hlk.outbox ++ ms ∧ OutMsg.packet m r ∈ ms ∧ r.typ = 0x10 ∧ r.vc = 0 ∧ r.dst = k.src ∧
          r.txid = k.txid ∧ r.payload = [0x11, BitVec.ofNat 8 st]) ∧
        (st = 3 → u.g .rcc 0 Off.event Ev.rccResetRefused Ev.rccResetRefused = 1) ∧ (st ≠ 0 → u.rst = s.rst) ∧
        (st = 0 → (∀ m, m ∈ s.activeLinks → ∃ r, OutMsg.packet m r ∈ u.hlk.outbox ∧ r.typ = 0x10 ∧ r.dst = (s.link m).peer ∧
          r.payload = [0x05, BitVec.ofNat 8 form])) ∧
        (st = 0 → s.rst.reqs = [] → u.rst.reqs = (if form = 1 then [{ cls := .cold, basin := 0, src := 0x05, asserted := false }]
          else if form = 2 then [{ cls := .warm, basin := 0, src := 0x12, asserted := false }]
          else ((List.range 4).filter (bat k.payload 4 1).testBit).map fun b =>
            { cls := .basin, basin := b, src := 0x21, asserted := false }))) ∧
    (∀ p dst len d, p < 48 → s.ready .fab p = true → s.g .fab p Off.fabMcmd 63 63 = 0 → d = BitVec.toNat dst →
      ∀ e ∈ [(Instr.fabMcmdPing p dst len, 0x01), (.fabMcmdReset p dst len, 0x10), (.fabMcmdSpdm p dst len, 0x20)],
        (∀ m s', s.route d true = (.link m, s') → (s'.link m).st ≠ 5 ∨ e.2 = 0x01 → ∃ u r, exec e.1 s = .next u ∧
          u.hlk.outbox.getLast? = some (.packet m r) ∧ r.typ = 0x10 ∧ r.vc = 0 ∧ r.dst = dst ∧
          r.payload = BitVec.ofNat 8 e.2 :: bsub (s.mdata p) 1 (BitVec.toNat len - 1) ∧ u.g .fab p Off.fabMcmd 63 63 = 1 ∧
          u.g .fab p Off.fabMcmd 7 0 = e.2 ∧ u.g .fab p Off.fabMcmd 47 32 = d ∧ u.g .fab p Off.fabMresp 63 63 = 0) ∧
        (∀ m s', s.route d true = (.link m, s') → (s'.link m).st = 5 → e.2 ≠ 0x01 → ∃ u, exec e.1 s = .next u ∧ SendEnded u p 3 ∧
          u.hlk.outbox = s.hlk.outbox) ∧
        (∀ m s', s.route d true = (.none m, s') → ∃ u, exec e.1 s = .next u ∧ SendEnded u p 2 ∧ u.hlk.outbox = s.hlk.outbox)) ∧
    (∀ p dst len, p < 48 → s.ready .fab p = false →
      ∀ c ∈ [Instr.fabMcmdPing p dst len, .fabMcmdReset p dst len, .fabMcmdSpdm p dst len], ∃ u, exec c s = .next u ∧
        AccessRefused s u false true Ev.devEarlyAccess (regAt .fab p Off.fabMcmd)) ∧
    (∀ p, p < 48 → s.g .fab p Off.fabMcmd 63 63 = 1 → ∃ u, exec (.fabMcmdTimeout p) s = .next u ∧ SendEnded u p 1 ∧
      RegsOnly [regAt .fab p Off.fabMcmd, regAt .fab p Off.fabMresp] s u ∧ Same [.regs] s u)

/-! ### Reduction, update and steps (chapter 15) -/

/-- R347 to R354: tiles and pushed pieces enter a basin tree or are dropped; complete pieces are summed; sums go to the owner, whose unit
takes the slab; packets are acknowledged and taken, held for the next step, or dropped as stale. -/
def Obligations.Reduction : Prop :=
  ∀ (s : State),
    (∀ c t x step, (s.core c).redOut = some t → s.launch? t.launch = some x → step = x.step →
      (t.poison = true → ∀ k, ∃ u, exec (.redTileAccept c k) s = .next u ∧ u.core c = { s.core c with redOut := none } ∧ Same [.cores] s u) ∧
      (t.poison = false → ∀ k, k ≠ .ok → ∃ u, exec (.redTileAccept c k) s = .next u ∧ u.core c = { s.core c with redOut := none } ∧
        u.red = s.red ∧ Counted s u .ras 0 0x200 1) ∧
      (∀ r p, t.poison = false → Contributes s c (t.tensor.toNat % 2 ^ 14) p step r → State.pieceOf r t.baseIdx.toNat = some p →
        (s.pbufFree 4 = true → ∃ u, exec (.redTileAccept c .ok) s = .next u ∧ u.core c = { s.core c with redOut := none } ∧
          Contributed s u ⟨c / 576, c, t.tensor.toNat % 2 ^ 14, p, t.mask, t.nf, t.data⟩) ∧
        (s.pbufFree 4 = false → ∃ u, exec (.redTileAccept c .ok) s = .next u ∧ Event u .red 0 Ev.redPbufFull ∧ u.red = s.red ∧
          u.cores = s.cores)) ∧
      (t.poison = false → (∀ r p, State.pieceOf r t.baseIdx.toNat = some p → ¬Contributes s c (t.tensor.toNat % 2 ^ 14) p step r) →
        ∃ u, exec (.redTileAccept c .ok) s = .next u ∧ u.core c = { s.core c with redOut := none } ∧ Event u .red 0 Ev.redBadTile ∧
          u.red.contribs = s.red.contribs ∧
          (step ≠ 0 → s.openStep = some step.toNat → tget u.red.words 0 (c / 576) = tget s.red.words 0 (c / 576) ||| 1))) ∧
    (∀ q o, HeadOp s q o → o.codec = 0x70 → o.waitEn = false →
      (s.pushForm q o = true → ∃ u, exec (.redPush q) s = .next u ∧ OpNow s u q o { o with started := true, wait := .none } ∧
        Same [.queues] s u) ∧
      (s.pushForm q o = false → o.poison = none → ∃ u, exec (.redPush q) s = .next u ∧ TailFrom u q o 4 0)) ∧
    (∀ b slot piece t, s.tensor slot = some t → b < 4 → t.basinN b ≠ 0 → t.basinN b ≤ (waitingFor s b slot piece).length →
      ((∀ d, d < 4 → d ≠ b → t.basinN d = 0) → (∀ x ∈ s.red.sums, x.2.slot ≠ slot ∨ x.2.piece ≠ piece) →
        ∃ u, exec (.basinPieceReduce b slot piece .ok) s = .next u ∧
          (∀ x, x ∈ u.red.contribs ↔ x ∈ s.red.contribs ∧ x ∉ waitingFor s b slot piece) ∧
          u.red.nodes = s.red.nodes ++ (List.range 4).map (fun i =>
            ⟨slot, piece, i, none, BitVec.ofNat 16 (State.sumSlab (waitingFor s b slot piece) i).1, (waitingFor s b slot piece).any (·.nf),
              (State.sumSlab (waitingFor s b slot piece) i).2⟩)) ∧
      (∀ k, k ≠ .ok → ∃ u, exec (.basinPieceReduce b slot piece k) s = .next u ∧ u.red.nodes = s.red.nodes ∧ Counted s u .ras 0 0x200 1 ∧
        ∀ x, x ∈ u.red.contribs ↔ x ∈ s.red.contribs ∧ x ∉ waitingFor s b slot piece)) ∧
    (∀ slot piece slab t g l q, s.tensor slot = some t → s.rgroup t.rgroup = some g → l = nodeOrder s slot piece slab → l ≠ [] →
      (t.role 0 = true → ∃ x ∈ l, x.src = none) → q = State.posIn g (State.ownerRank t g piece) g.rank →
      (q = 0 → t.role 1 = true → t.ctrl 0 = false → s.g .red 0 Off.redCfg 63 48 = 0xFFFF → ∃ u, exec (.redNodeSend slot piece slab .ok) s = .next u ∧
        u.red.nodes = s.red.nodes.filter (fun x => !x.at slot piece slab) ∧
        SlabQueued s u (piece % 12) ⟨slot, piece, slab, nodeMask l, l.any (·.nf), nodeData l, true⟩) ∧
      (∀ dst m s', q ≠ 0 → bat t.d 15 1 = 0 → s.member g (State.rankAt g (State.ownerRank t g piece) ((q - 1) / t.fanin)) = some dst →
        dst < 65536 → s.route dst false = (.link m, s') → ∃ u r ms, exec (.redNodeSend slot piece slab .ok) s = .next u ∧
          u.red.nodes = s.red.nodes.filter (fun x => !x.at slot piece slab) ∧ u.hlk.outbox = s.hlk.outbox ++ ms ∧
          OutMsg.packet m r ∈ ms ∧ r.typ = 0x20 ∧ r.dst = BitVec.ofNat 16 dst ∧ r.vc = BitVec.ofNat 4 (bat t.d 18 1) ∧
          r.addr = State.redAddr slot piece slab (nodeMask l).toNat ∧ r.payload = State.slabBytes t.rfmt (nodeMask l).toNat (nodeData l)) ∧
      (∀ k, k ≠ .ok → ∃ u, exec (.redNodeSend slot piece slab k) s = .next u ∧
        u.red.nodes = s.red.nodes.filter (fun x => !x.at slot piece slab) ∧ Counted s u .ras 0 0x200 1)) ∧
    (∀ l k a v, Hears s l k → a = State.addrOf k → v = packetTaken s l k →
      (∀ e ∈ [(Instr.red l k, (0x20 : BitVec 8)), (.redC l k, 0x21), (.mirror l k, 0x40), (.upd l k, 0x22)], k.typ = e.2 →
        (s.whenOf k = .stale → ∃ u, exec e.1 s = .next u ∧ AnswerLeaves s u k 0x04 0 ∧ Counted s u .red 0 (0x200 + 40) 1 ∧ u.red = s.red) ∧
        (s.whenOf k = .later → s.pbufFree 1 = true → ∃ u, exec e.1 s = .next u ∧ AnswerLeaves s u k 0x04 0 ∧
          u.red = { s.red with later := s.red.later ++ [(l, k)] }) ∧
        (s.whenOf k ≠ .stale → (e.2 = 0x22 → s.whenOf k = .later) → a.1 ≠ ctlSlot → s.pbufFree 1 = false →
          ∃ u, exec e.1 s = .next u ∧ Event u .red 0 Ev.redPbufFull ∧ u.red = s.red)) ∧
      (∀ e ∈ [(Instr.red l k, (0x20 : BitVec 8)), (.redC l k, 0x21)], ∀ t g r, k.typ = e.2 → s.whenOf k = .now → a.1 ≠ ctlSlot →
        s.pbufFree 1 = true → v.tensor a.1 = some t → v.rgroup t.rgroup = some g → v.rankOf g k.src.toNat = some r →
        ∃ u, exec e.1 s = .next u ∧ AnswerLeaves s u k 0x04 0 ∧ u.red = { s.red with
          nf := s.red.nf || k.nf
          nodes := s.red.nodes ++ [⟨a.1, a.2.1, a.2.2.1, some (State.posIn g (State.ownerRank t g a.2.1) r), BitVec.ofNat 16 a.2.2.2, k.nf,
            if k.payload = [] then [] else if k.typ = 0x21 then State.expand (bat t.d 15 1) k.payload
            else State.slabOf t.rfmt k.payload⟩] }) ∧
      (∀ t, k.typ = 0x40 → s.whenOf k = .now → a.1 ≠ ctlSlot → s.pbufFree 1 = true →
        (s.g .ras 0 Off.rasLoadgate 0 0 = 1 → ∃ u, exec (.mirror l k) s = .next u ∧ u.red = { s.red with later := s.red.later ++ [(l, k)] }) ∧
        (s.g .ras 0 Off.rasLoadgate 0 0 = 0 → v.tensor a.1 = some t → t.ctrl 0 = false → ∃ u, exec (.mirror l k) s = .next u ∧
          SlabQueued s u (a.2.1 % 12) ⟨a.1, a.2.1, a.2.2.1, BitVec.ofNat 16 a.2.2.2, k.nf,
            slabZero a.2.2.2 (State.slabOf 0 k.payload), false⟩)) ∧
      (k.typ = 0x22 → s.whenOf k = .now → a.1 ≠ ctlSlot →
        (s.updSegs k = none → ∃ u, exec (.upd l k) s = .next u ∧ Answered u k 0x05 1 [] ∧ PortEvent u l Ev.fabImportRefused) ∧
        (∀ g, s.updSegs k = some g → s.updAllowed g = false → ∃ u, exec (.upd l k) s = .next u ∧ Answered u k 0x05 1 [] ∧
          PortEvent u l Ev.fabImportRefused ∧ u.mem.bytes = s.mem.bytes) ∧
        (∀ g s', s.updSegs k = some g → s.updAllowed g = true → k.poison = false →
          State.vputAll (State.portSlice (l / 2)) (State.cutSegs g k.payload) s = .ok s' → ∃ u, exec (.upd l k) s = .next u ∧
            AnswerLeaves s u k 0x04 0 ∧ u.mem.bytes = s'.mem.bytes ∧ (a.1, a.2.1, a.2.2.1) ∈ u.red.pushed)) ∧
      (∀ ps, k.typ = 0x22 → s.whenOf k = .now → a.1 = ctlSlot → ps = s.red.parts.filter (·.1 ≠ a.2.1) ++ [(a.2.1, k.payload)] →
        ((∃ n, n < 25 ∧ ∀ p ∈ ps, p.1 ≠ n) → ∃ u, exec (.upd l k) s = .next u ∧ u.red = { s.red with parts := ps }) ∧
        ((∀ n, n < 25 → ∃ p ∈ ps, p.1 = n) → ∃ u, exec (.upd l k) s = .next u ∧ u.red = { s.red with
          parts := [], verdict := some ((List.range 25).map fun n => ((ps.find? (·.1 = n)).map (·.2)).getD []).flatten })))

/-- R355 to R362: a unit's slab with NF is copied; any other starts the tensor's kernel, whose end stages the planes; a run out of time
ORs NF and frees the unit. -/
def Obligations.UpdateUnits : Prop :=
  ∀ (s : State) (shore : Bool) (n m : Nat) (b : Blk) (x : UnitSlab), b = (if shore then .shr else .inl) → m = unitNo shore n →
    (∀ rest t h cur v pub w, UnitStarts s shore n x rest t h → x.nf = true → t.ctrl 4 = false →
      State.vgetAll (unitSlice m) (slabPlanes t h s.curBank x.piece x.slab) s = some (cur, v) →
      (if x.primary then s.curPub t m x else some []) = some pub →
      State.vputAll (unitSlice m) (((slabPlanes t h s.stageBank x.piece x.slab).map (·.1)).zip cur ++
        ((if x.primary then State.pubSegs t s.stageBank x.piece x.slab else []).map (·.1)).zip pub) v = .ok w →
      ∃ u, exec (.updateSlabStart shore n) s = .next u ∧ SlabStaged s u shore n x ∧ (u.unit m).queue = rest ∧
        u.g b n Off.inlUpdword 0 0 = 1 ∧ Counted s u b n (0x200 + 24) 1) ∧
    (∀ rest t h cur v k fr base, UnitStarts s shore n x rest t h → x.nf = false → s.unitKernel m t = some k →
      s.anyPoison (unitSlice m) (slabPlanes t h s.curBank x.piece x.slab) = false → s.frozenRows t (unitSlice m) x = some fr →
      State.vgetAll (unitSlice m) (slabPlanes t h s.curBank x.piece x.slab) s = some (cur, v) →
      (∀ i, i < 16 → fr.toNat.testBit i = false → (v.hyper t (unitSlice m) (64 * (x.piece / t.cb) + 16 * x.slab + i)).isSome = true) →
      base = (if (s.unit m).buf then 0x8000 else 0) →
      ∃ u, exec (.updateSlabStart shore n) s = .next u ∧ (u.unit m).run = some { x with mask := fr } ∧ (u.unit m).queue = rest ∧
        u.g b n Off.inlStat 63 63 = 1 ∧ u.mem.bytes = s.mem.bytes ∧
        (∀ i h, i < 16 → h < 2 → fr.toNat.testBit i = false → t.rowLen - (64 * (x.piece % t.cb) + 32 * h) ≠ 0 →
          ∃ y, u.shoal (unitProc m) (2 * i + h) = some y ∧ y.pc = k.entry ∧ y.wait = .run ∧
            ∀ j hy, j < 32 → y.ended.toNat.testBit j = false → v.hyper t (unitSlice m) (64 * (x.piece / t.cb) + 16 * x.slab + i) = some hy →
              hy.length = 8 → ∀ r ∈ s.unitRegsAt t x base hy i (32 * h + j), u.reg (unitProc m) (2 * i + h) j r.1 = BitVec.ofNat 32 r.2)) ∧
    (∀ t h cur v new w, n < 12 → (s.unit m).run = some x → (∀ j, j < 32 → s.shoal (unitProc m) j = none) → s.tensor x.slot = some t →
      s.shardOf x.slot x.piece = some h → x.primary = false → h.hold = 0 →
      (∃ j, j < 4 ∧ j ≠ x.slab ∧ (x.slot, x.piece, j) ∉ s.red.staged) →
      State.vgetAll (unitSlice m) (slabPlanes t h s.curBank x.piece x.slab) s = some (cur, v) →
      new = cur.mapIdx (fun d c => ((List.range 16).map fun i => planeRow c.length i (if x.mask.toNat.testBit i then c
        else s.srRead (unitProc m) ((if (s.unit m).buf then 0x8000 else 0) + planeAt.getD d 0) c.length)).flatten) →
      State.vputAll (unitSlice m) (((slabPlanes t h s.stageBank x.piece x.slab).map (·.1)).zip new) v = .ok w →
      ∃ u, exec (.updateSlabDone shore n) s = .next u ∧ SlabStaged s u shore n x ∧ u.mem = w.mem ∧ Counted s u b n 0x200 1) ∧
    (n < 12 → (s.unit m).run = some x → ∃ u, exec (.updateKernelTimeout shore n) s = .next u ∧ SlabStaged s u shore n x ∧
      Event u b n Ev.inlUpdateTimeout ∧ u.g b n Off.inlUpdword 0 0 = 1 ∧ Counted s u b n (0x200 + 40) 1)

/-- R363 to R372, R382: a step is closed, abandoned, voted on and resolved by its verdict; a commit goes through the twin; its timers; the
bank, layer watch and batch steering writes. ABANDON's effect on the loss scale is the model's reading (log 27). -/
def Obligations.Steps : Prop :=
  ∀ (s : State),
    (∀ step, s.ready .red 0 = true →
      (s.redState = 1 → s.redStep = BitVec.toNat step → ∃ u, exec (.stepClose step) s = .next u ∧ u.redState = 2 ∧ u.redStep = s.redStep ∧
        RegsOnly [regAt .red 0 Off.redStepctl, regAt .red 0 Off.redStepstat] s u ∧ Same [.regs] s u) ∧
      (s.redState ≠ 1 ∨ s.redStep ≠ BitVec.toNat step → ∃ u, exec (.stepClose step) s = .next u ∧ u.redState = s.redState ∧
        Event u .red 0 Ev.redCfgRefused) ∧
      (s.redState ≠ 0 → s.phase = 0 → s.redStep = BitVec.toNat step → ∃ u, exec (.stepAbandon step) s = .next u ∧ Skipped s u) ∧
      (s.redState = 0 ∨ s.phase ≠ 0 ∨ s.redStep ≠ BitVec.toNat step → ∃ u, exec (.stepAbandon step) s = .next u ∧ u.redState = s.redState ∧
        Event u .red 0 Ev.redCfgRefused ∧ Same [.regs, .hlk] s u)) ∧
    (s.redState = 2 → s.stepWaiting = 0 → ¬(s.g .ras 0 Off.rasReplay 63 63 = 1 ∧ s.g .ras 0 Off.rasReplay 47 0 = s.redStep) →
      ∃ u, exec .stepVote s = .next u ∧ u.redState = 3 ∧
        (s.vtree = none → u.red.own = some s.ownRecord) ∧
        (∀ g f, s.vtree = some (g, f) → State.childrenOf g f g.rank = [] → g.rank = 0 → s.red.verdict = none →
          u.red.verdict = some s.ownRecord ∧ u.red.own = none)) ∧
    (s.redState = 2 → s.stepWaiting ≠ 0 → exec .stepVote s = .next s) ∧
    (∀ own g f (ks : List Bytes) r, s.redState = 3 → s.red.own = some own → s.vtree = some (g, f) → s.red.verdict = none →
      (State.childrenOf g f g.rank).map s.kidRec = ks.map some → r = ks.foldl State.recCombine own →
      (g.rank = 0 → ∃ u, exec .verdictCombine s = .next u ∧ u.red = { s.red with verdict := some r, own := none, kids := [] } ∧
        Same [.red] s u) ∧
      (∀ dst s', g.rank ≠ 0 → s.member g ((g.rank - 1) / f) = some dst → s.sendRec 0x20 dst r = some s' →
        ∃ u, exec .verdictCombine s = .next u ∧ u.red.own = none ∧ u.red.kids = [] ∧ u.hlk = s'.hlk)) ∧
    (∀ r v, s.red.verdict = some r → s.redState = 3 → s.phase = 0 → s.passVerdict r = some v →
      ((bat r 8 4).testBit 0 = true ∨ (bat r 8 4).testBit 4 = true → ∃ u, exec .verdictReceived s = .next u ∧ Skipped s u) ∧
      ((bat r 8 4).testBit 0 = false → (bat r 8 4).testBit 4 = false → s.g .red 0 Off.redCfg 63 48 = 0xFFFF →
        ∃ u, exec .verdictReceived s = .next u ∧ Committed u s.redStep s.stageBank ∧ Counted s u .red 0 0x200 1) ∧
      ((bat r 8 4).testBit 0 = false → (bat r 8 4).testBit 4 = false → s.g .red 0 Off.redCfg 63 48 ≠ 0xFFFF → s.red.twinDigest = none →
        ∃ u, exec .verdictReceived s = .next u ∧ u.phase = 2 ∧ u.redState = 3 ∧ u.curBank = s.curBank ∧
          u.jrnTwin = s.g .red 0 Off.redCfg 63 48 ∧ u.rd (regAt .rcc 0 Off.rccBkp2) = BitVec.ofNat 64 s.redStep)) ∧
    (∀ d, (s.phase ≠ 0 ∨ s.redState ≠ 0) →
      (s.phase ≠ 2 ∨ s.red.redo = true ∨ s.jrn.held = true → ∃ u, exec (.twinStaged d) s = .next u ∧
        u.red = { s.red with twinDigest := some d } ∧ Same [.red] s u) ∧
      (s.phase = 2 → s.red.redo = false → s.jrn.held = false →
        (d = s.rd (regAt .rcc 0 Off.rccBkp4) → s.jrnTwin ≠ 0xFFFF → ∃ u, exec (.twinStaged d) s = .next u ∧ u.phase = 4 ∧
          u.curBank = s.stageBank ∧ u.red.twinDigest = none) ∧
        (d ≠ s.rd (regAt .rcc 0 Off.rccBkp4) → s.red.mismatches = 0 → ∃ u, exec (.twinStaged d) s = .next u ∧ u.red.mismatches = 1 ∧
          Event u .red 0 Ev.redMirrorMismatch ∧ Counted s u .red 0 (0x200 + 64) 1 ∧ (u.red.redo = true ∨ CommitHeld u)) ∧
        (d ≠ s.rd (regAt .rcc 0 Off.rccBkp4) → s.red.mismatches = 1 → ∃ u, exec (.twinStaged d) s = .next u ∧
          Event u .red 0 Ev.redMirrorFault ∧ CommitHeld u))) ∧
    (s.red.redo = true → s.phase ≠ 0 → s.slabsOpen = false → (∀ m, m < 24 → (s.unit m).run = none) →
      ((∃ m, m < 24 ∧ s.g (unitPage m).1 (unitPage m).2 Off.inlUpdword 0 0 = 1) → ∃ u, exec .mirrorRedoDone s = .next u ∧ CommitHeld u ∧
        u.red.redo = false) ∧
      ((∀ m, m < 24 → s.g (unitPage m).1 (unitPage m).2 Off.inlUpdword 0 0 = 0) → s.jrnTwin ≠ 0xFFFF → s.red.twinDigest = none →
        ∃ u, exec .mirrorRedoDone s = .next u ∧ u.phase = 2 ∧ u.red.redo = false)) ∧
    (s.phase = 4 → ∃ u, exec .twinFlipped s = .next u ∧ Committed u (s.rd (regAt .rcc 0 Off.rccBkp2)).toNat s.curBank) ∧
    (s.phase ≠ 4 → exec .twinFlipped s = .next s) ∧
    (s.redState = 2 ∨ s.redState = 3 → s.phase = 0 → ∃ u, exec .verdictTimeout s = .next u ∧ EventSet s u .red 0 Ev.redVerdictTimeout ∧
      Same [.regs, .hlk] s u) ∧
    (s.phase ≠ 0 → s.jrn.held = false → s.power.drain ≠ .running → s.rst.reqs = [] → ∃ u, exec .commitTimeout s = .next u ∧
      EventSet s u .red 0 Ev.redCommitTimeout ∧ u.rst.reqs = [⟨.warm, 0, 0x13, false⟩] ∧ Same [.regs, .hlk, .rst] s u) ∧
    (∀ cur, s.ready .red 0 = true → s.redState = 0 → s.phase = 0 → ∃ u, exec (.redBanksetWrite cur) s = .next u ∧
      u.curBank = (if cur then 1 else 0) ∧ u.stageBank = (if cur then 0 else 1) ∧ RegsOnly [regAt .red 0 Off.redStepstat] s u ∧
      Same [.regs] s u) ∧
    (∀ cur, s.ready .red 0 = true → s.redState ≠ 0 ∨ s.phase ≠ 0 → ∃ u, exec (.redBanksetWrite cur) s = .next u ∧ RedRefused s u) ∧
    (∀ c x, s.ready .red 0 = true → (∃ n : BitVec 12, c = .lwClearEntry n ∧ x = some n.toNat) ∨ c = .lwClearAll ∧ x = none → s.phase ≠ 0 →
      ∃ u, exec c s = .next u ∧ u.red = { s.red with lwClears := s.red.lwClears ++ [x] } ∧ Same [.red] s u) ∧
    (∀ (n : BitVec 12) f b s', s.ready .red 0 = true → s.phase = 0 → s.red.lwClears = [] →
      f = s.g .red 0 Off.redLw 56 16 * 65536 + 16 * n.toNat → s.vget 0 (f + 6) 1 = some ([b], s') →
      ∃ u, exec (.lwClearEntry n) s = .next u ∧ u.red.lwClears = [] ∧ u.mem = (s'.vput 0 (f + 4) [0, 0, b &&& 0xFE]).mem) ∧
    (s.ready .red 0 = true → s.phase = 0 → ∃ u, exec .lwClearAll s = .next u ∧ u.red.lwClears = []) ∧
    (∀ v, s.ready .red 0 = true → s.redState = 0 → ∃ u, exec (.bsteerStateWrite v) s = .next u ∧
      u.g .red 0 Off.redBsteer1 63 56 = fld v 63 56 ∧ u.g .red 0 Off.redBsteer1 31 16 = fld v 31 16 ∧
      RegsOnly [regAt .red 0 Off.redBsteer1] s u ∧ Same [.regs] s u) ∧
    (∀ e, s.ready .red 0 = true → s.redState = 0 → ∃ u, exec (.bsteerEmaLoad e) s = .next u ∧
      FieldSet s u .red 0 Off.redGns1 63 32 e.toNat ∧ RegsOnly [regAt .red 0 Off.redGns1] s u ∧ Same [.regs] s u) ∧
    (∀ v e, s.ready .red 0 = true → s.redState ≠ 0 → ∀ c ∈ [Instr.bsteerStateWrite v, .bsteerEmaLoad e], ∃ u, exec c s = .next u ∧ RedRefused s u) ∧
    (∀ step cur n v e, s.ready .red 0 = false → ∀ c ∈ [(Instr.stepClose step, Off.redStepctl), (.stepAbandon step, Off.redStepctl),
        (.redBanksetWrite cur, Off.redBankset), (.lwClearEntry n, Off.redLwclr), (.lwClearAll, Off.redLwclr),
        (.bsteerStateWrite v, Off.redBsteer1), (.bsteerEmaLoad e, Off.redBsteer2)],
      ∃ u, exec c.1 s = .next u ∧ AccessRefused s u false true Ev.devEarlyAccess (regAt .red 0 c.2))

/-! ### Stage queues, reliability and telemetry (chapters 16 and 17, swaps of chapter 5) -/

/-- R374 to R377: stage operations wait for their queue's counts, publish and release them to the peer, and complete; a configuration write
waits while the queue is in use; the occupancy is sampled, and a long wait is reported once. -/
def Obligations.StageQueues : Prop :=
  ∀ (s : State) (q j k : Nat) (o : Op), j = State.stgQueue o → k = State.stgSeq o → j < 16 →
    (StageHead s q 0x62 o →
      (s.stgRoom j k = true → ∃ u, exec (.stgAcquire q) s = .next u ∧ OpNow s u q o (stageDone o) ∧ Same [.queues] s u) ∧
      (s.stgRoom j k = false → ∃ u, exec (.stgAcquire q) s = .next u ∧ OpNow s u q o (stageWaits o) ∧ Same [.queues] s u)) ∧
    (StageHead s q 0x64 o →
      (State.ahead (s.stgLanded j) k = true → ∃ u, exec (.stgAwait q) s = .next u ∧ OpNow s u q o (stageDone o) ∧ Same [.queues] s u) ∧
      (State.ahead (s.stgLanded j) k = false → ∃ u, exec (.stgAwait q) s = .next u ∧ OpNow s u q o (stageWaits o) ∧ Same [.queues] s u)) ∧
    (∀ e ∈ [(Instr.stgPublish q, 0x63, s.stgLanded j, s.stgRoom j k), (.stgRelease q, 0x65, s.stgConsumed j, true)], ∀ va bs,
      StageHead s q e.2.1 o → va = s.stgVa j 2 → bs = natBytes 8 ((k + 1) % 2 ^ 32) →
      (State.ahead e.2.2.1 k = true → o.poison = none → ∃ u, exec e.1 s = .next u ∧ TailFrom u q o 4 0) ∧
      (State.ahead e.2.2.1 k = false → e.2.2.2 = false ∨ e.2.2.1 ≠ k → ∃ u, exec e.1 s = .next u ∧ OpNow s u q o (stageWaits o) ∧
        Same [.queues] s u) ∧
      (∀ m s', e.2.2.1 = k → e.2.2.2 = true → s.stgCfg j 47 32 ≠ s.logid → s.route (s.stgCfg j 47 32) false = (.link m, s') →
        ∃ u r, exec e.1 s = .next u ∧ u.hlk.outbox.getLast? = some (.packet m r) ∧ r.typ = 0x01 ∧
          r.dst = BitVec.ofNat 16 (s.stgCfg j 47 32) ∧ r.vc = BitVec.ofNat 4 (s.stgCfg j 51 48) ∧ r.addr = BitVec.ofNat 64 va ∧
          r.payload = bs ∧ OpNow s u q o { o with started := true, wait := .ack, issued := 1 } ∧ u.mem.bytes = s.mem.bytes) ∧
      (∀ s', e.2.2.1 = k → e.2.2.2 = true → s.stgCfg j 47 32 = s.logid → s.vwrite (State.qSlice q) va bs = .ok [] false s' →
        ∃ u, exec e.1 s = .next u ∧ OpNow s u q o (stageDone o) ∧ u.mem = s'.mem ∧
          (if e.2.1 = 0x63 then u.stgLanded j else u.stgConsumed j) = (k + 1) % 2 ^ 32)) ∧
    (∀ e ∈ [(Instr.stgAcquire q, 0x62), (.stgPublish q, 0x63), (.stgAwait q, 0x64), (.stgRelease q, 0x65)], HeadOp s q o → o.codec = e.2 →
      s.stgForm o = false → o.poison = none → ∃ u, exec e.1 s = .next u ∧ TailFrom u q o 4 0) ∧
    (∀ l p x n, p.typ = 0x04 → Hears s l p → s.txnOf p = some x → x.op = some (q, o.id, n) → s.queue q = [o] → State.isStage o = true →
      o.started = true → ∃ u, exec (.ack l p) s = .next u ∧ u.queue q = [stageDone o] ∧ x ∉ u.fab.txns ∧
        (if State.stgProducer o then u.stgLanded j else u.stgConsumed j) = (k + 1) % 2 ^ 32 ∧ u.mem = s.mem) ∧
    (∀ v a, a = regAt .sth (j / 4) (0x300 + j % 4 * 0x20) → s.ready .sth (j / 4) = true →
      (s.stgBusy j = false → ∃ u, exec (.sthStgcfgWrite j v) s = .next u ∧
        (∀ f ∈ [(63, 63), (62, 62), (59, 56), (51, 48), (47, 32), (15, 0)], u.stgCfg j f.1 f.2 = fld v f.1 f.2) ∧
        (s.stgCfg j 63 63 = 0 → fld v 63 63 = 1 → u.stgLanded j = 0 ∧ u.stgConsumed j = 0) ∧ RegsOnly [a, a + 0x18] s u ∧ Same [.regs] s u) ∧
      (s.stgBusy j = true → ∃ u, exec (.sthStgcfgWrite j v) s = .next u ∧
        u.rst = { s.rst with waiting := s.rst.waiting ++ [(a, 0, v)] } ∧ Same [.rst] s u)) ∧
    (∀ v, s.ready .sth (j / 4) = false → ∃ u, exec (.sthStgcfgWrite j v) s = .next u ∧
      AccessRefused s u false true Ev.devEarlyAccess (regAt .sth (j / 4) (0x300 + j % 4 * 0x20))) ∧
    (s.ready .sth (j / 4) = true → s.stgCfg j 63 63 = 1 → ∃ u, exec (.stageOccupancySample j) s = .next u ∧ Same [.regs, .hlk] s u ∧
      ((∀ p, ¬WaitsOn s j p) → Binned s u .sth (j / 4) (Off.sthStghist + j % 4 * 0x80) ((s.stgLanded j + 2 ^ 32 - s.stgConsumed j) % 2 ^ 32 % 16)) ∧
      ((∃ p, WaitsOn s j p) → Binned s u .sth (j / 4) (Off.sthStghist + j % 4 * 0x80)
        (16 + (s.stgLanded j + 2 ^ 32 - s.stgConsumed j) % 2 ^ 32 % 16)) ∧
      ((∃ p, WaitsOn s j p ∧ State.stgProducer p = true) → Counted s u .sth (j / 4) (0x2C0 + j % 4 * 0x10) 1) ∧
      ((∃ p, WaitsOn s j p ∧ p.codec = 0x64) → Counted s u .sth (j / 4) (0x2C8 + j % 4 * 0x10) 1)) ∧
    (s.queue q = [o] → o.started = true → o.wait = .stage false → s.stgCfg j 15 0 ≠ 0 → ∃ u, exec (.stageWaitLong q) s = .next u ∧
      u.queue q = [{ o with wait := .stage true }] ∧ Event u .tlm 0 Ev.tlmStageWaitLong ∧ Counted s u .tlm 0 (0xC40 + 40) 1 ∧
      Same [.queues, .regs, .hlk] s u)

/-- R111, R112, R392, R394 to R400, R402, R412: swaps of a core to a spare, in-field tests, suspicion, replay control, the verdict injection
and the load gate. -/
def Obligations.SwapsAndTests : Prop :=
  ∀ (s : State) (c q : Nat),
    (∀ t, s.coreUp c = true → c < 2304 →
      (∀ l, (s.core c).swap = .none → s.freeSpares (c / 576) = q :: l → ∃ u, exec (.swapRequest c t) s = .next u ∧
        CoreNow s u c { s.core c with swap := .waiting t q } ∧ Same [.cores, .regs, .hlk] s u) ∧
      ((s.core c).swap = .none → s.freeSpares (c / 576) = [] → ∃ u, exec (.swapRequest c t) s = .next u ∧ Recorded s u 0x09 c 0x0D ∧
        u.cores = s.cores) ∧
      (∀ t', (s.core c).swap = .waiting t' q → ∃ u, exec (.swapRequest c t) s = .next u ∧
        CoreNow s u c { s.core c with swap := .waiting (t' && t) q } ∧ Same [.cores] s u)) ∧
    (∀ t, (s.core c).swap = .waiting t q → (s.core c).pri = none → ∃ u, exec (.swapDrainPoint c) s = .next u ∧
      CoreNow s u c { s.core c with swap := .drained t q } ∧ Same [.cores] s u) ∧
    (∀ t l x, (s.core c).swap = .waiting t q → (s.core c).pri = some l → s.launch? l = some x → s.pendingBar l c = none →
      exec (.swapDrainPoint c) s = .next s) ∧
    (∀ t, (s.core c).swap = .drained t q → s.coreQuiet c = true → ∃ u, exec (.swapCopyStart c) s = .next u ∧
      CoreNow s u c { s.core c with swap := .copying t q } ∧ Same [.cores] s u) ∧
    (∀ t, (s.core c).swap = .copying t q → (s.core c).pri = none → c < 2304 → ∃ u, exec (.swapCopyDone c) s = .next u ∧
      CoreNow s u c { s.core c with swap := .none } ∧ u.physOf c = q ∧ Event u .cor c Ev.corSwapDone ∧ Counted s u .tlm 0 (0x200 + 8 * 12) 1 ∧
      (t = true → Counted s u .ras 0 (0x200 + 8 * 5) 1) ∧ Same [.cores, .ras, .regs, .hlk] s u) ∧
    (s.testable q = true → s.g .ras 0 Off.rasTestcfg 63 63 = 1 → s.power.rails = true → ∃ u, exec (.testDue q) s = .next u ∧
      PhysNow s u q { s.pcore q with due := true, overdue := false, dueAt := s.now } ∧ Same [.ras] s u) ∧
    (s.testable q = true → (s.pcore q).due = true → s.basinReady (q / 592) = true → s.quiet .ras 0 = false →
      (s.logicalOf q = none → q ∈ s.freeSpares (q / 592) → s.testsIn (q / 592) < s.g .ras 0 Off.rasTestcfg 7 4 →
        ∃ u, exec (.inFieldTestStart q) s = .next u ∧
          PhysNow s u q { s.pcore q with testing := true, due := false, deferred := false } ∧ Same [.ras, .regs, .hlk] s u) ∧
      (∀ l a r, s.logicalOf q = some l → s.freeSpares (q / 592) = a :: r → s.g .ras 0 Off.rasTestcfg 3 0 ≤ r.length → l / 576 = q / 592 →
        (s.core l).swap = .none → ∃ u, exec (.inFieldTestStart q) s = .next u ∧ CoreNow s u l { s.core l with swap := .waiting true a } ∧
          PhysNow s u q { s.pcore q with deferred := (s.core l).pri.isSome } ∧ Same [.cores, .ras, .regs, .hlk] s u)) ∧
    ((s.pcore q).testing = true →
      (∀ w, w = s.now + State.hours (if (s.pcore q).suspect then s.g .ras 0 Off.rasTestcfg 47 40 else s.g .ras 0 Off.rasTestcfg 55 48) →
        ∃ u, exec (.inFieldTestDone q true) s = .next u ∧
        PhysNow s u q { s.pcore q with testing := false, due := false, overdue := false, deferred := false, dueAt := w } ∧
        Counted s u .ras 0 (0x200 + 24) 1 ∧ Counted s u .tlm 0 (0x200 + 8 * 13) 1 ∧ Same [.ras, .regs, .hlk] s u) ∧
      (∀ e ∈ [Instr.inFieldTestDone q false, .inFieldTestTimeout q], (s.pcore q).retired = false → ∃ u, exec e s = .next u ∧
        (u.pcore q).retired = true ∧ (u.pcore q).testing = false ∧ u.ras.retired = s.ras.retired ++ [q] ∧ Event u .ras 0 Ev.rasTestFail ∧
        Event u .ras 0 Ev.rasCoreRetired ∧ Counted s u .ras 0 (0x200 + 24) 1 ∧ Counted s u .ras 0 (0x200 + 32) 1)) ∧
    ((s.pcore q).deferred = true → ∃ u, exec (.testDeferExpiry q) s = .next u ∧ PhysNow s u q { s.pcore q with deferred := false } ∧
      Same [.ras] s u) ∧
    ((s.pcore q).due = true → (s.pcore q).overdue = false → ∃ u, exec (.testOverdue q) s = .next u ∧
      PhysNow s u q { s.pcore q with overdue := true } ∧ EventSet s u .ras 0 Ev.rasTestOverdue ∧ Same [.ras, .regs, .hlk] s u) ∧
    ((s.pcore q).suspect = true → ∃ u, exec (.suspicionExpiry q) s = .next u ∧
      PhysNow s u q { s.pcore q with suspect := false, suspectEnd := 0 } ∧ Same [.ras] s u) ∧
    (s.ready .ras 0 = true →
      (∀ step a, ∃ u, exec (.rasReplayctlSet step a) s = .next u ∧ u.g .ras 0 Off.rasReplayctl 63 63 = 1 ∧
        u.g .ras 0 Off.rasReplayctl 59 56 = BitVec.toNat a ∧ u.g .ras 0 Off.rasReplayctl 47 0 = BitVec.toNat step ∧
        RegsOnly [regAt .ras 0 Off.rasReplayctl] s u ∧ Same [.regs] s u) ∧
      (∀ p, s.testable (BitVec.toNat p) = true → ∃ u, exec (.rasTestreq p) s = .next u ∧
        FieldSet s u .ras 0 Off.rasTestreq 11 0 p.toNat ∧ PhysNow s u p.toNat { s.pcore p.toNat with due := true, overdue := false, dueAt := s.now } ∧
        Same [.regs, .ras] s u) ∧
      (∀ base, base = s.g .ras 0 Off.rasVrec 56 17 * 131072 →
        (base = 0 ∨ s.redState ≠ 3 ∨ s.phase ≠ 0 → ∃ u, exec .rasVinject s = .next u ∧ EventSet s u .ras 0 Ev.rasInjectRefused ∧
          Same [.regs, .hlk] s u) ∧
        (∀ r s', base ≠ 0 → s.redState = 3 → s.phase = 0 → s.vget 0 base recLen = some (r, s') →
          (bat r 0 8 = s.redStep → ∃ u, exec .rasVinject s = .next u ∧ u.red = { s.red with verdict := some r } ∧ u.mem.bytes = s.mem.bytes) ∧
          (bat r 0 8 ≠ s.redStep → ∃ u, exec .rasVinject s = .next u ∧ EventSet s u .ras 0 Ev.rasInjectRefused ∧ Same [.regs, .hlk] s u))) ∧
      (∃ u, exec (.rasLoadgateWrite true) s = .next u ∧ FieldSet s u .ras 0 Off.rasLoadgate 0 0 1 ∧
        RegsOnly [regAt .ras 0 Off.rasLoadgate] s u ∧ Same [.regs] s u) ∧
      ((∀ e ∈ s.red.later, s.whenOf e.2 = .later) → ∃ u, exec (.rasLoadgateWrite false) s = .next u ∧
        FieldSet s u .ras 0 Off.rasLoadgate 0 0 0 ∧ u.red = s.red ∧ u.mem.bytes = s.mem.bytes) ∧
      (∀ l k a t, s.red.later = [(l, k)] → s.whenOf k = .now → k.typ = 0x40 → a = State.addrOf k → s.tensor a.1 = some t → t.ctrl 0 = false →
        ∃ u, exec (.rasLoadgateWrite false) s = .next u ∧ u.red.later = [] ∧ SlabQueued s u (a.2.1 % 12)
          ⟨a.1, a.2.1, a.2.2.1, BitVec.ofNat 16 a.2.2.2, k.nf, slabZero a.2.2.2 (State.slabOf 0 k.payload), false⟩)) ∧
    (∀ step a p h, s.ready .ras 0 = false → ∀ e ∈ [(Instr.rasReplayctlSet step a, Off.rasReplayctl), (.rasTestreq p, Off.rasTestreq),
        (.rasVinject, Off.rasVinject), (.rasLoadgateWrite h, Off.rasLoadgate)],
      ∃ u, exec e.1 s = .next u ∧ AccessRefused s u false true Ev.devEarlyAccess (regAt .ras 0 e.2))

/-- R410, R413, R414: telemetry records go to flash on command and periodically, and the histograms take the measured values. -/
def Obligations.Telemetry : Prop :=
  ∀ (s : State) (ok : Bool),
    (s.ready .tlm 0 = true → ∃ u, exec (.tlmPersistNow ok) s = .next u ∧ Persisted s u 2 ok) ∧
    (s.ready .tlm 0 = false → ∃ u, exec (.tlmPersistNow ok) s = .next u ∧
      AccessRefused s u false true Ev.devEarlyAccess (regAt .tlm 0 Off.tlmPersist)) ∧
    (s.power.rails = true → s.power.drain = .none → ∃ u, exec (.tlmPersistPeriodic ok) s = .next u ∧ Persisted s u 0 ok) ∧
    (s.power.rails = true → s.power.drain ≠ .none → exec (.tlmPersistPeriodic ok) s = .next s) ∧
    (∀ die inlet pin : BitVec 16, s.power.rails = true → ∃ u, exec (.tlmHistSample die inlet pin) s = .next u ∧
      u.g .dev 0 Off.devTherm 31 16 = die.toNat ∧ u.g .dev 0 Off.devTherm 63 48 = inlet.toNat ∧
      u.g .dev 0 Off.devInput 31 16 = pin.toNat ∧
      Binned s u .tlm 0 Off.tlmHist (State.histBin die.toInt 400 40) ∧
      Binned s u .tlm 0 (Off.tlmHist + 0x80) (State.histBin inlet.toInt 240 16) ∧
      Binned s u .tlm 0 (Off.tlmHist + 0x100) (min 31 (pin.toNat / 250)) ∧
      (s.power.nWin < 32 → s.power.nLim < 32 → Binned s u .tlm 0 (Off.tlmHist + 0x180) (max s.power.nWin s.power.nLim)) ∧
      Same [.regs, .hlk] s u)
end

