-- ==== Sys2Proof/Laws/State.lean ====
section
/-! SUPPORT. One lemma per field and update: a field that an update does not name stays. -/

namespace Sys2Proof.Machine.State

variable (s : State)

@[simp] theorem wr_pending (a : Nat) (w : Word) : (s.wr a w).pending = s.pending := rfl
@[simp] theorem wr_power (a : Nat) (w : Word) : (s.wr a w).power = s.power := rfl
@[simp] theorem wr_clock (a : Nat) (w : Word) : (s.wr a w).clock = s.clock := rfl
@[simp] theorem wr_rst (a : Nat) (w : Word) : (s.wr a w).rst = s.rst := rfl
@[simp] theorem wr_jrn (a : Nat) (w : Word) : (s.wr a w).jrn = s.jrn := rfl
@[simp] theorem wr_snaps (a : Nat) (w : Word) : (s.wr a w).snaps = s.snaps := rfl
@[simp] theorem wr_retained (a : Nat) (w : Word) : (s.wr a w).retained = s.retained := rfl
@[simp] theorem wr_hlk (a : Nat) (w : Word) : (s.wr a w).hlk = s.hlk := rfl
@[simp] theorem wr_kernels (a : Nat) (w : Word) : (s.wr a w).kernels = s.kernels := rfl
@[simp] theorem wr_gens (a : Nat) (w : Word) : (s.wr a w).gens = s.gens := rfl
@[simp] theorem wr_loads (a : Nat) (w : Word) : (s.wr a w).loads = s.loads := rfl
@[simp] theorem wr_launches (a : Nat) (w : Word) : (s.wr a w).launches = s.launches := rfl
@[simp] theorem wr_cores (a : Nat) (w : Word) : (s.wr a w).cores = s.cores := rfl
@[simp] theorem wr_shoals (a : Nat) (w : Word) : (s.wr a w).shoals = s.shoals := rfl
@[simp] theorem wr_gpr (a : Nat) (w : Word) : (s.wr a w).gpr = s.gpr := rfl
@[simp] theorem wr_preds (a : Nat) (w : Word) : (s.wr a w).preds = s.preds := rfl
@[simp] theorem wr_lflags (a : Nat) (w : Word) : (s.wr a w).lflags = s.lflags := rfl
@[simp] theorem wr_sram (a : Nat) (w : Word) : (s.wr a w).sram = s.sram := rfl
@[simp] theorem wr_sramUe (a : Nat) (w : Word) : (s.wr a w).sramUe = s.sramUe := rfl
@[simp] theorem wr_mem (a : Nat) (w : Word) : (s.wr a w).mem = s.mem := rfl
@[simp] theorem wr_queues (a : Nat) (w : Word) : (s.wr a w).queues = s.queues := rfl
@[simp] theorem wr_nextOp (a : Nat) (w : Word) : (s.wr a w).nextOp = s.nextOp := rfl
@[simp] theorem wr_act (a : Nat) (w : Word) : (s.wr a w).act = s.act := rfl
@[simp] theorem wr_shl (a : Nat) (w : Word) : (s.wr a w).shl = s.shl := rfl
@[simp] theorem wr_fab (a : Nat) (w : Word) : (s.wr a w).fab = s.fab := rfl
@[simp] theorem wr_red (a : Nat) (w : Word) : (s.wr a w).red = s.red := rfl
@[simp] theorem wr_scale (a : Nat) (w : Word) : (s.wr a w).scale = s.scale := rfl
@[simp] theorem wr_ras (a : Nat) (w : Word) : (s.wr a w).ras = s.ras := rfl
@[simp] theorem wr_sec (a : Nat) (w : Word) : (s.wr a w).sec = s.sec := rfl
@[simp] theorem wr_free (a : Nat) (w : Word) : (s.wr a w).free = s.free := rfl

@[simp] theorem p_pending (b : Blk) (i o h l v : Nat) : (s.p b i o h l v).pending = s.pending := rfl
@[simp] theorem p_power (b : Blk) (i o h l v : Nat) : (s.p b i o h l v).power = s.power := rfl
@[simp] theorem p_clock (b : Blk) (i o h l v : Nat) : (s.p b i o h l v).clock = s.clock := rfl
@[simp] theorem p_rst (b : Blk) (i o h l v : Nat) : (s.p b i o h l v).rst = s.rst := rfl
@[simp] theorem p_jrn (b : Blk) (i o h l v : Nat) : (s.p b i o h l v).jrn = s.jrn := rfl
@[simp] theorem p_snaps (b : Blk) (i o h l v : Nat) : (s.p b i o h l v).snaps = s.snaps := rfl
@[simp] theorem p_retained (b : Blk) (i o h l v : Nat) : (s.p b i o h l v).retained = s.retained := rfl
@[simp] theorem p_hlk (b : Blk) (i o h l v : Nat) : (s.p b i o h l v).hlk = s.hlk := rfl
@[simp] theorem p_kernels (b : Blk) (i o h l v : Nat) : (s.p b i o h l v).kernels = s.kernels := rfl
@[simp] theorem p_gens (b : Blk) (i o h l v : Nat) : (s.p b i o h l v).gens = s.gens := rfl
@[simp] theorem p_loads (b : Blk) (i o h l v : Nat) : (s.p b i o h l v).loads = s.loads := rfl
@[simp] theorem p_launches (b : Blk) (i o h l v : Nat) : (s.p b i o h l v).launches = s.launches := rfl
@[simp] theorem p_cores (b : Blk) (i o h l v : Nat) : (s.p b i o h l v).cores = s.cores := rfl
@[simp] theorem p_shoals (b : Blk) (i o h l v : Nat) : (s.p b i o h l v).shoals = s.shoals := rfl
@[simp] theorem p_gpr (b : Blk) (i o h l v : Nat) : (s.p b i o h l v).gpr = s.gpr := rfl
@[simp] theorem p_preds (b : Blk) (i o h l v : Nat) : (s.p b i o h l v).preds = s.preds := rfl
@[simp] theorem p_lflags (b : Blk) (i o h l v : Nat) : (s.p b i o h l v).lflags = s.lflags := rfl
@[simp] theorem p_sram (b : Blk) (i o h l v : Nat) : (s.p b i o h l v).sram = s.sram := rfl
@[simp] theorem p_sramUe (b : Blk) (i o h l v : Nat) : (s.p b i o h l v).sramUe = s.sramUe := rfl
@[simp] theorem p_mem (b : Blk) (i o h l v : Nat) : (s.p b i o h l v).mem = s.mem := rfl
@[simp] theorem p_queues (b : Blk) (i o h l v : Nat) : (s.p b i o h l v).queues = s.queues := rfl
@[simp] theorem p_nextOp (b : Blk) (i o h l v : Nat) : (s.p b i o h l v).nextOp = s.nextOp := rfl
@[simp] theorem p_act (b : Blk) (i o h l v : Nat) : (s.p b i o h l v).act = s.act := rfl
@[simp] theorem p_shl (b : Blk) (i o h l v : Nat) : (s.p b i o h l v).shl = s.shl := rfl
@[simp] theorem p_fab (b : Blk) (i o h l v : Nat) : (s.p b i o h l v).fab = s.fab := rfl
@[simp] theorem p_red (b : Blk) (i o h l v : Nat) : (s.p b i o h l v).red = s.red := rfl
@[simp] theorem p_scale (b : Blk) (i o h l v : Nat) : (s.p b i o h l v).scale = s.scale := rfl
@[simp] theorem p_ras (b : Blk) (i o h l v : Nat) : (s.p b i o h l v).ras = s.ras := rfl
@[simp] theorem p_sec (b : Blk) (i o h l v : Nat) : (s.p b i o h l v).sec = s.sec := rfl
@[simp] theorem p_free (b : Blk) (i o h l v : Nat) : (s.p b i o h l v).free = s.free := rfl

@[simp] theorem out_pending (m : List OutMsg) : (s.out m).pending = s.pending := rfl
@[simp] theorem out_power (m : List OutMsg) : (s.out m).power = s.power := rfl
@[simp] theorem out_clock (m : List OutMsg) : (s.out m).clock = s.clock := rfl
@[simp] theorem out_rst (m : List OutMsg) : (s.out m).rst = s.rst := rfl
@[simp] theorem out_jrn (m : List OutMsg) : (s.out m).jrn = s.jrn := rfl
@[simp] theorem out_regs (m : List OutMsg) : (s.out m).regs = s.regs := rfl
@[simp] theorem out_snaps (m : List OutMsg) : (s.out m).snaps = s.snaps := rfl
@[simp] theorem out_retained (m : List OutMsg) : (s.out m).retained = s.retained := rfl
@[simp] theorem out_kernels (m : List OutMsg) : (s.out m).kernels = s.kernels := rfl
@[simp] theorem out_gens (m : List OutMsg) : (s.out m).gens = s.gens := rfl
@[simp] theorem out_loads (m : List OutMsg) : (s.out m).loads = s.loads := rfl
@[simp] theorem out_launches (m : List OutMsg) : (s.out m).launches = s.launches := rfl
@[simp] theorem out_cores (m : List OutMsg) : (s.out m).cores = s.cores := rfl
@[simp] theorem out_shoals (m : List OutMsg) : (s.out m).shoals = s.shoals := rfl
@[simp] theorem out_gpr (m : List OutMsg) : (s.out m).gpr = s.gpr := rfl
@[simp] theorem out_preds (m : List OutMsg) : (s.out m).preds = s.preds := rfl
@[simp] theorem out_lflags (m : List OutMsg) : (s.out m).lflags = s.lflags := rfl
@[simp] theorem out_sram (m : List OutMsg) : (s.out m).sram = s.sram := rfl
@[simp] theorem out_sramUe (m : List OutMsg) : (s.out m).sramUe = s.sramUe := rfl
@[simp] theorem out_mem (m : List OutMsg) : (s.out m).mem = s.mem := rfl
@[simp] theorem out_queues (m : List OutMsg) : (s.out m).queues = s.queues := rfl
@[simp] theorem out_nextOp (m : List OutMsg) : (s.out m).nextOp = s.nextOp := rfl
@[simp] theorem out_act (m : List OutMsg) : (s.out m).act = s.act := rfl
@[simp] theorem out_shl (m : List OutMsg) : (s.out m).shl = s.shl := rfl
@[simp] theorem out_fab (m : List OutMsg) : (s.out m).fab = s.fab := rfl
@[simp] theorem out_red (m : List OutMsg) : (s.out m).red = s.red := rfl
@[simp] theorem out_scale (m : List OutMsg) : (s.out m).scale = s.scale := rfl
@[simp] theorem out_ras (m : List OutMsg) : (s.out m).ras = s.ras := rfl
@[simp] theorem out_sec (m : List OutMsg) : (s.out m).sec = s.sec := rfl
@[simp] theorem out_free (m : List OutMsg) : (s.out m).free = s.free := rfl

@[simp] theorem setMsix_pending (v : Nat) (e : Msix) : (s.setMsix v e).pending = s.pending := rfl
@[simp] theorem setMsix_power (v : Nat) (e : Msix) : (s.setMsix v e).power = s.power := rfl
@[simp] theorem setMsix_clock (v : Nat) (e : Msix) : (s.setMsix v e).clock = s.clock := rfl
@[simp] theorem setMsix_rst (v : Nat) (e : Msix) : (s.setMsix v e).rst = s.rst := rfl
@[simp] theorem setMsix_jrn (v : Nat) (e : Msix) : (s.setMsix v e).jrn = s.jrn := rfl
@[simp] theorem setMsix_regs (v : Nat) (e : Msix) : (s.setMsix v e).regs = s.regs := rfl
@[simp] theorem setMsix_snaps (v : Nat) (e : Msix) : (s.setMsix v e).snaps = s.snaps := rfl
@[simp] theorem setMsix_retained (v : Nat) (e : Msix) : (s.setMsix v e).retained = s.retained := rfl
@[simp] theorem setMsix_kernels (v : Nat) (e : Msix) : (s.setMsix v e).kernels = s.kernels := rfl
@[simp] theorem setMsix_gens (v : Nat) (e : Msix) : (s.setMsix v e).gens = s.gens := rfl
@[simp] theorem setMsix_loads (v : Nat) (e : Msix) : (s.setMsix v e).loads = s.loads := rfl
@[simp] theorem setMsix_launches (v : Nat) (e : Msix) : (s.setMsix v e).launches = s.launches := rfl
@[simp] theorem setMsix_cores (v : Nat) (e : Msix) : (s.setMsix v e).cores = s.cores := rfl
@[simp] theorem setMsix_shoals (v : Nat) (e : Msix) : (s.setMsix v e).shoals = s.shoals := rfl
@[simp] theorem setMsix_gpr (v : Nat) (e : Msix) : (s.setMsix v e).gpr = s.gpr := rfl
@[simp] theorem setMsix_preds (v : Nat) (e : Msix) : (s.setMsix v e).preds = s.preds := rfl
@[simp] theorem setMsix_lflags (v : Nat) (e : Msix) : (s.setMsix v e).lflags = s.lflags := rfl
@[simp] theorem setMsix_sram (v : Nat) (e : Msix) : (s.setMsix v e).sram = s.sram := rfl
@[simp] theorem setMsix_sramUe (v : Nat) (e : Msix) : (s.setMsix v e).sramUe = s.sramUe := rfl
@[simp] theorem setMsix_mem (v : Nat) (e : Msix) : (s.setMsix v e).mem = s.mem := rfl
@[simp] theorem setMsix_queues (v : Nat) (e : Msix) : (s.setMsix v e).queues = s.queues := rfl
@[simp] theorem setMsix_nextOp (v : Nat) (e : Msix) : (s.setMsix v e).nextOp = s.nextOp := rfl
@[simp] theorem setMsix_act (v : Nat) (e : Msix) : (s.setMsix v e).act = s.act := rfl
@[simp] theorem setMsix_shl (v : Nat) (e : Msix) : (s.setMsix v e).shl = s.shl := rfl
@[simp] theorem setMsix_fab (v : Nat) (e : Msix) : (s.setMsix v e).fab = s.fab := rfl
@[simp] theorem setMsix_red (v : Nat) (e : Msix) : (s.setMsix v e).red = s.red := rfl
@[simp] theorem setMsix_scale (v : Nat) (e : Msix) : (s.setMsix v e).scale = s.scale := rfl
@[simp] theorem setMsix_ras (v : Nat) (e : Msix) : (s.setMsix v e).ras = s.ras := rfl
@[simp] theorem setMsix_sec (v : Nat) (e : Msix) : (s.setMsix v e).sec = s.sec := rfl
@[simp] theorem setMsix_free (v : Nat) (e : Msix) : (s.setMsix v e).free = s.free := rfl

@[simp] theorem latchFault_pending (b : Blk) (i : Nat) (v : Bool) : (s.latchFault b i v).pending = s.pending := rfl
@[simp] theorem latchFault_power (b : Blk) (i : Nat) (v : Bool) : (s.latchFault b i v).power = s.power := rfl
@[simp] theorem latchFault_clock (b : Blk) (i : Nat) (v : Bool) : (s.latchFault b i v).clock = s.clock := rfl
@[simp] theorem latchFault_jrn (b : Blk) (i : Nat) (v : Bool) : (s.latchFault b i v).jrn = s.jrn := rfl
@[simp] theorem latchFault_regs (b : Blk) (i : Nat) (v : Bool) : (s.latchFault b i v).regs = s.regs := rfl
@[simp] theorem latchFault_snaps (b : Blk) (i : Nat) (v : Bool) : (s.latchFault b i v).snaps = s.snaps := rfl
@[simp] theorem latchFault_retained (b : Blk) (i : Nat) (v : Bool) : (s.latchFault b i v).retained = s.retained := rfl
@[simp] theorem latchFault_hlk (b : Blk) (i : Nat) (v : Bool) : (s.latchFault b i v).hlk = s.hlk := rfl
@[simp] theorem latchFault_kernels (b : Blk) (i : Nat) (v : Bool) : (s.latchFault b i v).kernels = s.kernels := rfl
@[simp] theorem latchFault_gens (b : Blk) (i : Nat) (v : Bool) : (s.latchFault b i v).gens = s.gens := rfl
@[simp] theorem latchFault_loads (b : Blk) (i : Nat) (v : Bool) : (s.latchFault b i v).loads = s.loads := rfl
@[simp] theorem latchFault_launches (b : Blk) (i : Nat) (v : Bool) : (s.latchFault b i v).launches = s.launches := rfl
@[simp] theorem latchFault_cores (b : Blk) (i : Nat) (v : Bool) : (s.latchFault b i v).cores = s.cores := rfl
@[simp] theorem latchFault_shoals (b : Blk) (i : Nat) (v : Bool) : (s.latchFault b i v).shoals = s.shoals := rfl
@[simp] theorem latchFault_gpr (b : Blk) (i : Nat) (v : Bool) : (s.latchFault b i v).gpr = s.gpr := rfl
@[simp] theorem latchFault_preds (b : Blk) (i : Nat) (v : Bool) : (s.latchFault b i v).preds = s.preds := rfl
@[simp] theorem latchFault_lflags (b : Blk) (i : Nat) (v : Bool) : (s.latchFault b i v).lflags = s.lflags := rfl
@[simp] theorem latchFault_sram (b : Blk) (i : Nat) (v : Bool) : (s.latchFault b i v).sram = s.sram := rfl
@[simp] theorem latchFault_sramUe (b : Blk) (i : Nat) (v : Bool) : (s.latchFault b i v).sramUe = s.sramUe := rfl
@[simp] theorem latchFault_mem (b : Blk) (i : Nat) (v : Bool) : (s.latchFault b i v).mem = s.mem := rfl
@[simp] theorem latchFault_queues (b : Blk) (i : Nat) (v : Bool) : (s.latchFault b i v).queues = s.queues := rfl
@[simp] theorem latchFault_nextOp (b : Blk) (i : Nat) (v : Bool) : (s.latchFault b i v).nextOp = s.nextOp := rfl
@[simp] theorem latchFault_act (b : Blk) (i : Nat) (v : Bool) : (s.latchFault b i v).act = s.act := rfl
@[simp] theorem latchFault_shl (b : Blk) (i : Nat) (v : Bool) : (s.latchFault b i v).shl = s.shl := rfl
@[simp] theorem latchFault_fab (b : Blk) (i : Nat) (v : Bool) : (s.latchFault b i v).fab = s.fab := rfl
@[simp] theorem latchFault_red (b : Blk) (i : Nat) (v : Bool) : (s.latchFault b i v).red = s.red := rfl
@[simp] theorem latchFault_scale (b : Blk) (i : Nat) (v : Bool) : (s.latchFault b i v).scale = s.scale := rfl
@[simp] theorem latchFault_ras (b : Blk) (i : Nat) (v : Bool) : (s.latchFault b i v).ras = s.ras := rfl
@[simp] theorem latchFault_sec (b : Blk) (i : Nat) (v : Bool) : (s.latchFault b i v).sec = s.sec := rfl
@[simp] theorem latchFault_free (b : Blk) (i : Nat) (v : Bool) : (s.latchFault b i v).free = s.free := rfl

@[simp] theorem setBasinReady_pending (b : Nat) (v : Bool) : (s.setBasinReady b v).pending = s.pending := rfl
@[simp] theorem setBasinReady_power (b : Nat) (v : Bool) : (s.setBasinReady b v).power = s.power := rfl
@[simp] theorem setBasinReady_clock (b : Nat) (v : Bool) : (s.setBasinReady b v).clock = s.clock := rfl
@[simp] theorem setBasinReady_jrn (b : Nat) (v : Bool) : (s.setBasinReady b v).jrn = s.jrn := rfl
@[simp] theorem setBasinReady_regs (b : Nat) (v : Bool) : (s.setBasinReady b v).regs = s.regs := rfl
@[simp] theorem setBasinReady_snaps (b : Nat) (v : Bool) : (s.setBasinReady b v).snaps = s.snaps := rfl
@[simp] theorem setBasinReady_retained (b : Nat) (v : Bool) : (s.setBasinReady b v).retained = s.retained := rfl
@[simp] theorem setBasinReady_hlk (b : Nat) (v : Bool) : (s.setBasinReady b v).hlk = s.hlk := rfl
@[simp] theorem setBasinReady_kernels (b : Nat) (v : Bool) : (s.setBasinReady b v).kernels = s.kernels := rfl
@[simp] theorem setBasinReady_gens (b : Nat) (v : Bool) : (s.setBasinReady b v).gens = s.gens := rfl
@[simp] theorem setBasinReady_loads (b : Nat) (v : Bool) : (s.setBasinReady b v).loads = s.loads := rfl
@[simp] theorem setBasinReady_launches (b : Nat) (v : Bool) : (s.setBasinReady b v).launches = s.launches := rfl
@[simp] theorem setBasinReady_cores (b : Nat) (v : Bool) : (s.setBasinReady b v).cores = s.cores := rfl
@[simp] theorem setBasinReady_shoals (b : Nat) (v : Bool) : (s.setBasinReady b v).shoals = s.shoals := rfl
@[simp] theorem setBasinReady_gpr (b : Nat) (v : Bool) : (s.setBasinReady b v).gpr = s.gpr := rfl
@[simp] theorem setBasinReady_preds (b : Nat) (v : Bool) : (s.setBasinReady b v).preds = s.preds := rfl
@[simp] theorem setBasinReady_lflags (b : Nat) (v : Bool) : (s.setBasinReady b v).lflags = s.lflags := rfl
@[simp] theorem setBasinReady_sram (b : Nat) (v : Bool) : (s.setBasinReady b v).sram = s.sram := rfl
@[simp] theorem setBasinReady_sramUe (b : Nat) (v : Bool) : (s.setBasinReady b v).sramUe = s.sramUe := rfl
@[simp] theorem setBasinReady_mem (b : Nat) (v : Bool) : (s.setBasinReady b v).mem = s.mem := rfl
@[simp] theorem setBasinReady_queues (b : Nat) (v : Bool) : (s.setBasinReady b v).queues = s.queues := rfl
@[simp] theorem setBasinReady_nextOp (b : Nat) (v : Bool) : (s.setBasinReady b v).nextOp = s.nextOp := rfl
@[simp] theorem setBasinReady_act (b : Nat) (v : Bool) : (s.setBasinReady b v).act = s.act := rfl
@[simp] theorem setBasinReady_shl (b : Nat) (v : Bool) : (s.setBasinReady b v).shl = s.shl := rfl
@[simp] theorem setBasinReady_fab (b : Nat) (v : Bool) : (s.setBasinReady b v).fab = s.fab := rfl
@[simp] theorem setBasinReady_red (b : Nat) (v : Bool) : (s.setBasinReady b v).red = s.red := rfl
@[simp] theorem setBasinReady_scale (b : Nat) (v : Bool) : (s.setBasinReady b v).scale = s.scale := rfl
@[simp] theorem setBasinReady_ras (b : Nat) (v : Bool) : (s.setBasinReady b v).ras = s.ras := rfl
@[simp] theorem setBasinReady_sec (b : Nat) (v : Bool) : (s.setBasinReady b v).sec = s.sec := rfl
@[simp] theorem setBasinReady_free (b : Nat) (v : Bool) : (s.setBasinReady b v).free = s.free := rfl

@[simp] theorem setCore_pending (c : Nat) (x : Core) : (s.setCore c x).pending = s.pending := rfl
@[simp] theorem setCore_power (c : Nat) (x : Core) : (s.setCore c x).power = s.power := rfl
@[simp] theorem setCore_clock (c : Nat) (x : Core) : (s.setCore c x).clock = s.clock := rfl
@[simp] theorem setCore_rst (c : Nat) (x : Core) : (s.setCore c x).rst = s.rst := rfl
@[simp] theorem setCore_jrn (c : Nat) (x : Core) : (s.setCore c x).jrn = s.jrn := rfl
@[simp] theorem setCore_regs (c : Nat) (x : Core) : (s.setCore c x).regs = s.regs := rfl
@[simp] theorem setCore_snaps (c : Nat) (x : Core) : (s.setCore c x).snaps = s.snaps := rfl
@[simp] theorem setCore_retained (c : Nat) (x : Core) : (s.setCore c x).retained = s.retained := rfl
@[simp] theorem setCore_hlk (c : Nat) (x : Core) : (s.setCore c x).hlk = s.hlk := rfl
@[simp] theorem setCore_kernels (c : Nat) (x : Core) : (s.setCore c x).kernels = s.kernels := rfl
@[simp] theorem setCore_gens (c : Nat) (x : Core) : (s.setCore c x).gens = s.gens := rfl
@[simp] theorem setCore_loads (c : Nat) (x : Core) : (s.setCore c x).loads = s.loads := rfl
@[simp] theorem setCore_launches (c : Nat) (x : Core) : (s.setCore c x).launches = s.launches := rfl
@[simp] theorem setCore_shoals (c : Nat) (x : Core) : (s.setCore c x).shoals = s.shoals := rfl
@[simp] theorem setCore_gpr (c : Nat) (x : Core) : (s.setCore c x).gpr = s.gpr := rfl
@[simp] theorem setCore_preds (c : Nat) (x : Core) : (s.setCore c x).preds = s.preds := rfl
@[simp] theorem setCore_lflags (c : Nat) (x : Core) : (s.setCore c x).lflags = s.lflags := rfl
@[simp] theorem setCore_sram (c : Nat) (x : Core) : (s.setCore c x).sram = s.sram := rfl
@[simp] theorem setCore_sramUe (c : Nat) (x : Core) : (s.setCore c x).sramUe = s.sramUe := rfl
@[simp] theorem setCore_mem (c : Nat) (x : Core) : (s.setCore c x).mem = s.mem := rfl
@[simp] theorem setCore_queues (c : Nat) (x : Core) : (s.setCore c x).queues = s.queues := rfl
@[simp] theorem setCore_nextOp (c : Nat) (x : Core) : (s.setCore c x).nextOp = s.nextOp := rfl
@[simp] theorem setCore_act (c : Nat) (x : Core) : (s.setCore c x).act = s.act := rfl
@[simp] theorem setCore_shl (c : Nat) (x : Core) : (s.setCore c x).shl = s.shl := rfl
@[simp] theorem setCore_fab (c : Nat) (x : Core) : (s.setCore c x).fab = s.fab := rfl
@[simp] theorem setCore_red (c : Nat) (x : Core) : (s.setCore c x).red = s.red := rfl
@[simp] theorem setCore_scale (c : Nat) (x : Core) : (s.setCore c x).scale = s.scale := rfl
@[simp] theorem setCore_ras (c : Nat) (x : Core) : (s.setCore c x).ras = s.ras := rfl
@[simp] theorem setCore_sec (c : Nat) (x : Core) : (s.setCore c x).sec = s.sec := rfl
@[simp] theorem setCore_free (c : Nat) (x : Core) : (s.setCore c x).free = s.free := rfl

@[simp] theorem setPcore_pending (c : Nat) (x : PhysCore) : (s.setPcore c x).pending = s.pending := rfl
@[simp] theorem setPcore_power (c : Nat) (x : PhysCore) : (s.setPcore c x).power = s.power := rfl
@[simp] theorem setPcore_clock (c : Nat) (x : PhysCore) : (s.setPcore c x).clock = s.clock := rfl
@[simp] theorem setPcore_rst (c : Nat) (x : PhysCore) : (s.setPcore c x).rst = s.rst := rfl
@[simp] theorem setPcore_jrn (c : Nat) (x : PhysCore) : (s.setPcore c x).jrn = s.jrn := rfl
@[simp] theorem setPcore_regs (c : Nat) (x : PhysCore) : (s.setPcore c x).regs = s.regs := rfl
@[simp] theorem setPcore_snaps (c : Nat) (x : PhysCore) : (s.setPcore c x).snaps = s.snaps := rfl
@[simp] theorem setPcore_retained (c : Nat) (x : PhysCore) : (s.setPcore c x).retained = s.retained := rfl
@[simp] theorem setPcore_hlk (c : Nat) (x : PhysCore) : (s.setPcore c x).hlk = s.hlk := rfl
@[simp] theorem setPcore_kernels (c : Nat) (x : PhysCore) : (s.setPcore c x).kernels = s.kernels := rfl
@[simp] theorem setPcore_gens (c : Nat) (x : PhysCore) : (s.setPcore c x).gens = s.gens := rfl
@[simp] theorem setPcore_loads (c : Nat) (x : PhysCore) : (s.setPcore c x).loads = s.loads := rfl
@[simp] theorem setPcore_launches (c : Nat) (x : PhysCore) : (s.setPcore c x).launches = s.launches := rfl
@[simp] theorem setPcore_cores (c : Nat) (x : PhysCore) : (s.setPcore c x).cores = s.cores := rfl
@[simp] theorem setPcore_shoals (c : Nat) (x : PhysCore) : (s.setPcore c x).shoals = s.shoals := rfl
@[simp] theorem setPcore_gpr (c : Nat) (x : PhysCore) : (s.setPcore c x).gpr = s.gpr := rfl
@[simp] theorem setPcore_preds (c : Nat) (x : PhysCore) : (s.setPcore c x).preds = s.preds := rfl
@[simp] theorem setPcore_lflags (c : Nat) (x : PhysCore) : (s.setPcore c x).lflags = s.lflags := rfl
@[simp] theorem setPcore_sram (c : Nat) (x : PhysCore) : (s.setPcore c x).sram = s.sram := rfl
@[simp] theorem setPcore_sramUe (c : Nat) (x : PhysCore) : (s.setPcore c x).sramUe = s.sramUe := rfl
@[simp] theorem setPcore_mem (c : Nat) (x : PhysCore) : (s.setPcore c x).mem = s.mem := rfl
@[simp] theorem setPcore_queues (c : Nat) (x : PhysCore) : (s.setPcore c x).queues = s.queues := rfl
@[simp] theorem setPcore_nextOp (c : Nat) (x : PhysCore) : (s.setPcore c x).nextOp = s.nextOp := rfl
@[simp] theorem setPcore_act (c : Nat) (x : PhysCore) : (s.setPcore c x).act = s.act := rfl
@[simp] theorem setPcore_shl (c : Nat) (x : PhysCore) : (s.setPcore c x).shl = s.shl := rfl
@[simp] theorem setPcore_fab (c : Nat) (x : PhysCore) : (s.setPcore c x).fab = s.fab := rfl
@[simp] theorem setPcore_red (c : Nat) (x : PhysCore) : (s.setPcore c x).red = s.red := rfl
@[simp] theorem setPcore_scale (c : Nat) (x : PhysCore) : (s.setPcore c x).scale = s.scale := rfl
@[simp] theorem setPcore_sec (c : Nat) (x : PhysCore) : (s.setPcore c x).sec = s.sec := rfl
@[simp] theorem setPcore_free (c : Nat) (x : PhysCore) : (s.setPcore c x).free = s.free := rfl

@[simp] theorem setPhysOf_pending (l q : Nat) : (s.setPhysOf l q).pending = s.pending := rfl
@[simp] theorem setPhysOf_power (l q : Nat) : (s.setPhysOf l q).power = s.power := rfl
@[simp] theorem setPhysOf_clock (l q : Nat) : (s.setPhysOf l q).clock = s.clock := rfl
@[simp] theorem setPhysOf_rst (l q : Nat) : (s.setPhysOf l q).rst = s.rst := rfl
@[simp] theorem setPhysOf_jrn (l q : Nat) : (s.setPhysOf l q).jrn = s.jrn := rfl
@[simp] theorem setPhysOf_regs (l q : Nat) : (s.setPhysOf l q).regs = s.regs := rfl
@[simp] theorem setPhysOf_snaps (l q : Nat) : (s.setPhysOf l q).snaps = s.snaps := rfl
@[simp] theorem setPhysOf_retained (l q : Nat) : (s.setPhysOf l q).retained = s.retained := rfl
@[simp] theorem setPhysOf_hlk (l q : Nat) : (s.setPhysOf l q).hlk = s.hlk := rfl
@[simp] theorem setPhysOf_kernels (l q : Nat) : (s.setPhysOf l q).kernels = s.kernels := rfl
@[simp] theorem setPhysOf_gens (l q : Nat) : (s.setPhysOf l q).gens = s.gens := rfl
@[simp] theorem setPhysOf_loads (l q : Nat) : (s.setPhysOf l q).loads = s.loads := rfl
@[simp] theorem setPhysOf_launches (l q : Nat) : (s.setPhysOf l q).launches = s.launches := rfl
@[simp] theorem setPhysOf_cores (l q : Nat) : (s.setPhysOf l q).cores = s.cores := rfl
@[simp] theorem setPhysOf_shoals (l q : Nat) : (s.setPhysOf l q).shoals = s.shoals := rfl
@[simp] theorem setPhysOf_gpr (l q : Nat) : (s.setPhysOf l q).gpr = s.gpr := rfl
@[simp] theorem setPhysOf_preds (l q : Nat) : (s.setPhysOf l q).preds = s.preds := rfl
@[simp] theorem setPhysOf_lflags (l q : Nat) : (s.setPhysOf l q).lflags = s.lflags := rfl
@[simp] theorem setPhysOf_sram (l q : Nat) : (s.setPhysOf l q).sram = s.sram := rfl
@[simp] theorem setPhysOf_sramUe (l q : Nat) : (s.setPhysOf l q).sramUe = s.sramUe := rfl
@[simp] theorem setPhysOf_mem (l q : Nat) : (s.setPhysOf l q).mem = s.mem := rfl
@[simp] theorem setPhysOf_queues (l q : Nat) : (s.setPhysOf l q).queues = s.queues := rfl
@[simp] theorem setPhysOf_nextOp (l q : Nat) : (s.setPhysOf l q).nextOp = s.nextOp := rfl
@[simp] theorem setPhysOf_act (l q : Nat) : (s.setPhysOf l q).act = s.act := rfl
@[simp] theorem setPhysOf_shl (l q : Nat) : (s.setPhysOf l q).shl = s.shl := rfl
@[simp] theorem setPhysOf_fab (l q : Nat) : (s.setPhysOf l q).fab = s.fab := rfl
@[simp] theorem setPhysOf_red (l q : Nat) : (s.setPhysOf l q).red = s.red := rfl
@[simp] theorem setPhysOf_scale (l q : Nat) : (s.setPhysOf l q).scale = s.scale := rfl
@[simp] theorem setPhysOf_sec (l q : Nat) : (s.setPhysOf l q).sec = s.sec := rfl
@[simp] theorem setPhysOf_free (l q : Nat) : (s.setPhysOf l q).free = s.free := rfl

@[simp] theorem setLaunch_pending (l : Nat) (x : Option Launch) : (s.setLaunch l x).pending = s.pending := rfl
@[simp] theorem setLaunch_power (l : Nat) (x : Option Launch) : (s.setLaunch l x).power = s.power := rfl
@[simp] theorem setLaunch_clock (l : Nat) (x : Option Launch) : (s.setLaunch l x).clock = s.clock := rfl
@[simp] theorem setLaunch_rst (l : Nat) (x : Option Launch) : (s.setLaunch l x).rst = s.rst := rfl
@[simp] theorem setLaunch_jrn (l : Nat) (x : Option Launch) : (s.setLaunch l x).jrn = s.jrn := rfl
@[simp] theorem setLaunch_regs (l : Nat) (x : Option Launch) : (s.setLaunch l x).regs = s.regs := rfl
@[simp] theorem setLaunch_snaps (l : Nat) (x : Option Launch) : (s.setLaunch l x).snaps = s.snaps := rfl
@[simp] theorem setLaunch_retained (l : Nat) (x : Option Launch) : (s.setLaunch l x).retained = s.retained := rfl
@[simp] theorem setLaunch_hlk (l : Nat) (x : Option Launch) : (s.setLaunch l x).hlk = s.hlk := rfl
@[simp] theorem setLaunch_kernels (l : Nat) (x : Option Launch) : (s.setLaunch l x).kernels = s.kernels := rfl
@[simp] theorem setLaunch_gens (l : Nat) (x : Option Launch) : (s.setLaunch l x).gens = s.gens := rfl
@[simp] theorem setLaunch_loads (l : Nat) (x : Option Launch) : (s.setLaunch l x).loads = s.loads := rfl
@[simp] theorem setLaunch_cores (l : Nat) (x : Option Launch) : (s.setLaunch l x).cores = s.cores := rfl
@[simp] theorem setLaunch_shoals (l : Nat) (x : Option Launch) : (s.setLaunch l x).shoals = s.shoals := rfl
@[simp] theorem setLaunch_gpr (l : Nat) (x : Option Launch) : (s.setLaunch l x).gpr = s.gpr := rfl
@[simp] theorem setLaunch_preds (l : Nat) (x : Option Launch) : (s.setLaunch l x).preds = s.preds := rfl
@[simp] theorem setLaunch_lflags (l : Nat) (x : Option Launch) : (s.setLaunch l x).lflags = s.lflags := rfl
@[simp] theorem setLaunch_sram (l : Nat) (x : Option Launch) : (s.setLaunch l x).sram = s.sram := rfl
@[simp] theorem setLaunch_sramUe (l : Nat) (x : Option Launch) : (s.setLaunch l x).sramUe = s.sramUe := rfl
@[simp] theorem setLaunch_mem (l : Nat) (x : Option Launch) : (s.setLaunch l x).mem = s.mem := rfl
@[simp] theorem setLaunch_queues (l : Nat) (x : Option Launch) : (s.setLaunch l x).queues = s.queues := rfl
@[simp] theorem setLaunch_nextOp (l : Nat) (x : Option Launch) : (s.setLaunch l x).nextOp = s.nextOp := rfl
@[simp] theorem setLaunch_act (l : Nat) (x : Option Launch) : (s.setLaunch l x).act = s.act := rfl
@[simp] theorem setLaunch_shl (l : Nat) (x : Option Launch) : (s.setLaunch l x).shl = s.shl := rfl
@[simp] theorem setLaunch_fab (l : Nat) (x : Option Launch) : (s.setLaunch l x).fab = s.fab := rfl
@[simp] theorem setLaunch_red (l : Nat) (x : Option Launch) : (s.setLaunch l x).red = s.red := rfl
@[simp] theorem setLaunch_scale (l : Nat) (x : Option Launch) : (s.setLaunch l x).scale = s.scale := rfl
@[simp] theorem setLaunch_ras (l : Nat) (x : Option Launch) : (s.setLaunch l x).ras = s.ras := rfl
@[simp] theorem setLaunch_sec (l : Nat) (x : Option Launch) : (s.setLaunch l x).sec = s.sec := rfl
@[simp] theorem setLaunch_free (l : Nat) (x : Option Launch) : (s.setLaunch l x).free = s.free := rfl

@[simp] theorem setShoal_pending (q t : Nat) (x : Option Shoal) : (s.setShoal q t x).pending = s.pending := rfl
@[simp] theorem setShoal_power (q t : Nat) (x : Option Shoal) : (s.setShoal q t x).power = s.power := rfl
@[simp] theorem setShoal_clock (q t : Nat) (x : Option Shoal) : (s.setShoal q t x).clock = s.clock := rfl
@[simp] theorem setShoal_rst (q t : Nat) (x : Option Shoal) : (s.setShoal q t x).rst = s.rst := rfl
@[simp] theorem setShoal_jrn (q t : Nat) (x : Option Shoal) : (s.setShoal q t x).jrn = s.jrn := rfl
@[simp] theorem setShoal_regs (q t : Nat) (x : Option Shoal) : (s.setShoal q t x).regs = s.regs := rfl
@[simp] theorem setShoal_snaps (q t : Nat) (x : Option Shoal) : (s.setShoal q t x).snaps = s.snaps := rfl
@[simp] theorem setShoal_retained (q t : Nat) (x : Option Shoal) : (s.setShoal q t x).retained = s.retained := rfl
@[simp] theorem setShoal_hlk (q t : Nat) (x : Option Shoal) : (s.setShoal q t x).hlk = s.hlk := rfl
@[simp] theorem setShoal_kernels (q t : Nat) (x : Option Shoal) : (s.setShoal q t x).kernels = s.kernels := rfl
@[simp] theorem setShoal_gens (q t : Nat) (x : Option Shoal) : (s.setShoal q t x).gens = s.gens := rfl
@[simp] theorem setShoal_loads (q t : Nat) (x : Option Shoal) : (s.setShoal q t x).loads = s.loads := rfl
@[simp] theorem setShoal_launches (q t : Nat) (x : Option Shoal) : (s.setShoal q t x).launches = s.launches := rfl
@[simp] theorem setShoal_cores (q t : Nat) (x : Option Shoal) : (s.setShoal q t x).cores = s.cores := rfl
@[simp] theorem setShoal_gpr (q t : Nat) (x : Option Shoal) : (s.setShoal q t x).gpr = s.gpr := rfl
@[simp] theorem setShoal_preds (q t : Nat) (x : Option Shoal) : (s.setShoal q t x).preds = s.preds := rfl
@[simp] theorem setShoal_lflags (q t : Nat) (x : Option Shoal) : (s.setShoal q t x).lflags = s.lflags := rfl
@[simp] theorem setShoal_sram (q t : Nat) (x : Option Shoal) : (s.setShoal q t x).sram = s.sram := rfl
@[simp] theorem setShoal_sramUe (q t : Nat) (x : Option Shoal) : (s.setShoal q t x).sramUe = s.sramUe := rfl
@[simp] theorem setShoal_mem (q t : Nat) (x : Option Shoal) : (s.setShoal q t x).mem = s.mem := rfl
@[simp] theorem setShoal_queues (q t : Nat) (x : Option Shoal) : (s.setShoal q t x).queues = s.queues := rfl
@[simp] theorem setShoal_nextOp (q t : Nat) (x : Option Shoal) : (s.setShoal q t x).nextOp = s.nextOp := rfl
@[simp] theorem setShoal_act (q t : Nat) (x : Option Shoal) : (s.setShoal q t x).act = s.act := rfl
@[simp] theorem setShoal_shl (q t : Nat) (x : Option Shoal) : (s.setShoal q t x).shl = s.shl := rfl
@[simp] theorem setShoal_fab (q t : Nat) (x : Option Shoal) : (s.setShoal q t x).fab = s.fab := rfl
@[simp] theorem setShoal_red (q t : Nat) (x : Option Shoal) : (s.setShoal q t x).red = s.red := rfl
@[simp] theorem setShoal_scale (q t : Nat) (x : Option Shoal) : (s.setShoal q t x).scale = s.scale := rfl
@[simp] theorem setShoal_ras (q t : Nat) (x : Option Shoal) : (s.setShoal q t x).ras = s.ras := rfl
@[simp] theorem setShoal_sec (q t : Nat) (x : Option Shoal) : (s.setShoal q t x).sec = s.sec := rfl
@[simp] theorem setShoal_free (q t : Nat) (x : Option Shoal) : (s.setShoal q t x).free = s.free := rfl

@[simp] theorem setReg_pending (q t l r : Nat) (v : W32) : (s.setReg q t l r v).pending = s.pending := rfl
@[simp] theorem setReg_power (q t l r : Nat) (v : W32) : (s.setReg q t l r v).power = s.power := rfl
@[simp] theorem setReg_clock (q t l r : Nat) (v : W32) : (s.setReg q t l r v).clock = s.clock := rfl
@[simp] theorem setReg_rst (q t l r : Nat) (v : W32) : (s.setReg q t l r v).rst = s.rst := rfl
@[simp] theorem setReg_jrn (q t l r : Nat) (v : W32) : (s.setReg q t l r v).jrn = s.jrn := rfl
@[simp] theorem setReg_regs (q t l r : Nat) (v : W32) : (s.setReg q t l r v).regs = s.regs := rfl
@[simp] theorem setReg_snaps (q t l r : Nat) (v : W32) : (s.setReg q t l r v).snaps = s.snaps := rfl
@[simp] theorem setReg_retained (q t l r : Nat) (v : W32) : (s.setReg q t l r v).retained = s.retained := rfl
@[simp] theorem setReg_hlk (q t l r : Nat) (v : W32) : (s.setReg q t l r v).hlk = s.hlk := rfl
@[simp] theorem setReg_kernels (q t l r : Nat) (v : W32) : (s.setReg q t l r v).kernels = s.kernels := rfl
@[simp] theorem setReg_gens (q t l r : Nat) (v : W32) : (s.setReg q t l r v).gens = s.gens := rfl
@[simp] theorem setReg_loads (q t l r : Nat) (v : W32) : (s.setReg q t l r v).loads = s.loads := rfl
@[simp] theorem setReg_launches (q t l r : Nat) (v : W32) : (s.setReg q t l r v).launches = s.launches := rfl
@[simp] theorem setReg_cores (q t l r : Nat) (v : W32) : (s.setReg q t l r v).cores = s.cores := rfl
@[simp] theorem setReg_shoals (q t l r : Nat) (v : W32) : (s.setReg q t l r v).shoals = s.shoals := rfl
@[simp] theorem setReg_preds (q t l r : Nat) (v : W32) : (s.setReg q t l r v).preds = s.preds := rfl
@[simp] theorem setReg_lflags (q t l r : Nat) (v : W32) : (s.setReg q t l r v).lflags = s.lflags := rfl
@[simp] theorem setReg_sram (q t l r : Nat) (v : W32) : (s.setReg q t l r v).sram = s.sram := rfl
@[simp] theorem setReg_sramUe (q t l r : Nat) (v : W32) : (s.setReg q t l r v).sramUe = s.sramUe := rfl
@[simp] theorem setReg_mem (q t l r : Nat) (v : W32) : (s.setReg q t l r v).mem = s.mem := rfl
@[simp] theorem setReg_queues (q t l r : Nat) (v : W32) : (s.setReg q t l r v).queues = s.queues := rfl
@[simp] theorem setReg_nextOp (q t l r : Nat) (v : W32) : (s.setReg q t l r v).nextOp = s.nextOp := rfl
@[simp] theorem setReg_act (q t l r : Nat) (v : W32) : (s.setReg q t l r v).act = s.act := rfl
@[simp] theorem setReg_shl (q t l r : Nat) (v : W32) : (s.setReg q t l r v).shl = s.shl := rfl
@[simp] theorem setReg_fab (q t l r : Nat) (v : W32) : (s.setReg q t l r v).fab = s.fab := rfl
@[simp] theorem setReg_red (q t l r : Nat) (v : W32) : (s.setReg q t l r v).red = s.red := rfl
@[simp] theorem setReg_scale (q t l r : Nat) (v : W32) : (s.setReg q t l r v).scale = s.scale := rfl
@[simp] theorem setReg_ras (q t l r : Nat) (v : W32) : (s.setReg q t l r v).ras = s.ras := rfl
@[simp] theorem setReg_sec (q t l r : Nat) (v : W32) : (s.setReg q t l r v).sec = s.sec := rfl
@[simp] theorem setReg_free (q t l r : Nat) (v : W32) : (s.setReg q t l r v).free = s.free := rfl

@[simp] theorem setLaneFlags_pending (q t l : Nat) (f : BitVec 4) : (s.setLaneFlags q t l f).pending = s.pending := rfl
@[simp] theorem setLaneFlags_power (q t l : Nat) (f : BitVec 4) : (s.setLaneFlags q t l f).power = s.power := rfl
@[simp] theorem setLaneFlags_clock (q t l : Nat) (f : BitVec 4) : (s.setLaneFlags q t l f).clock = s.clock := rfl
@[simp] theorem setLaneFlags_rst (q t l : Nat) (f : BitVec 4) : (s.setLaneFlags q t l f).rst = s.rst := rfl
@[simp] theorem setLaneFlags_jrn (q t l : Nat) (f : BitVec 4) : (s.setLaneFlags q t l f).jrn = s.jrn := rfl
@[simp] theorem setLaneFlags_regs (q t l : Nat) (f : BitVec 4) : (s.setLaneFlags q t l f).regs = s.regs := rfl
@[simp] theorem setLaneFlags_snaps (q t l : Nat) (f : BitVec 4) : (s.setLaneFlags q t l f).snaps = s.snaps := rfl
@[simp] theorem setLaneFlags_retained (q t l : Nat) (f : BitVec 4) : (s.setLaneFlags q t l f).retained = s.retained := rfl
@[simp] theorem setLaneFlags_hlk (q t l : Nat) (f : BitVec 4) : (s.setLaneFlags q t l f).hlk = s.hlk := rfl
@[simp] theorem setLaneFlags_kernels (q t l : Nat) (f : BitVec 4) : (s.setLaneFlags q t l f).kernels = s.kernels := rfl
@[simp] theorem setLaneFlags_gens (q t l : Nat) (f : BitVec 4) : (s.setLaneFlags q t l f).gens = s.gens := rfl
@[simp] theorem setLaneFlags_loads (q t l : Nat) (f : BitVec 4) : (s.setLaneFlags q t l f).loads = s.loads := rfl
@[simp] theorem setLaneFlags_launches (q t l : Nat) (f : BitVec 4) : (s.setLaneFlags q t l f).launches = s.launches := rfl
@[simp] theorem setLaneFlags_cores (q t l : Nat) (f : BitVec 4) : (s.setLaneFlags q t l f).cores = s.cores := rfl
@[simp] theorem setLaneFlags_shoals (q t l : Nat) (f : BitVec 4) : (s.setLaneFlags q t l f).shoals = s.shoals := rfl
@[simp] theorem setLaneFlags_gpr (q t l : Nat) (f : BitVec 4) : (s.setLaneFlags q t l f).gpr = s.gpr := rfl
@[simp] theorem setLaneFlags_preds (q t l : Nat) (f : BitVec 4) : (s.setLaneFlags q t l f).preds = s.preds := rfl
@[simp] theorem setLaneFlags_sram (q t l : Nat) (f : BitVec 4) : (s.setLaneFlags q t l f).sram = s.sram := rfl
@[simp] theorem setLaneFlags_sramUe (q t l : Nat) (f : BitVec 4) : (s.setLaneFlags q t l f).sramUe = s.sramUe := rfl
@[simp] theorem setLaneFlags_mem (q t l : Nat) (f : BitVec 4) : (s.setLaneFlags q t l f).mem = s.mem := rfl
@[simp] theorem setLaneFlags_queues (q t l : Nat) (f : BitVec 4) : (s.setLaneFlags q t l f).queues = s.queues := rfl
@[simp] theorem setLaneFlags_nextOp (q t l : Nat) (f : BitVec 4) : (s.setLaneFlags q t l f).nextOp = s.nextOp := rfl
@[simp] theorem setLaneFlags_act (q t l : Nat) (f : BitVec 4) : (s.setLaneFlags q t l f).act = s.act := rfl
@[simp] theorem setLaneFlags_shl (q t l : Nat) (f : BitVec 4) : (s.setLaneFlags q t l f).shl = s.shl := rfl
@[simp] theorem setLaneFlags_fab (q t l : Nat) (f : BitVec 4) : (s.setLaneFlags q t l f).fab = s.fab := rfl
@[simp] theorem setLaneFlags_red (q t l : Nat) (f : BitVec 4) : (s.setLaneFlags q t l f).red = s.red := rfl
@[simp] theorem setLaneFlags_scale (q t l : Nat) (f : BitVec 4) : (s.setLaneFlags q t l f).scale = s.scale := rfl
@[simp] theorem setLaneFlags_ras (q t l : Nat) (f : BitVec 4) : (s.setLaneFlags q t l f).ras = s.ras := rfl
@[simp] theorem setLaneFlags_sec (q t l : Nat) (f : BitVec 4) : (s.setLaneFlags q t l f).sec = s.sec := rfl
@[simp] theorem setLaneFlags_free (q t l : Nat) (f : BitVec 4) : (s.setLaneFlags q t l f).free = s.free := rfl

@[simp] theorem putFlag_pending (c n : Nat) (v : Bool) : (s.putFlag c n v).pending = s.pending := rfl
@[simp] theorem putFlag_power (c n : Nat) (v : Bool) : (s.putFlag c n v).power = s.power := rfl
@[simp] theorem putFlag_clock (c n : Nat) (v : Bool) : (s.putFlag c n v).clock = s.clock := rfl
@[simp] theorem putFlag_rst (c n : Nat) (v : Bool) : (s.putFlag c n v).rst = s.rst := rfl
@[simp] theorem putFlag_jrn (c n : Nat) (v : Bool) : (s.putFlag c n v).jrn = s.jrn := rfl
@[simp] theorem putFlag_regs (c n : Nat) (v : Bool) : (s.putFlag c n v).regs = s.regs := rfl
@[simp] theorem putFlag_snaps (c n : Nat) (v : Bool) : (s.putFlag c n v).snaps = s.snaps := rfl
@[simp] theorem putFlag_retained (c n : Nat) (v : Bool) : (s.putFlag c n v).retained = s.retained := rfl
@[simp] theorem putFlag_hlk (c n : Nat) (v : Bool) : (s.putFlag c n v).hlk = s.hlk := rfl
@[simp] theorem putFlag_kernels (c n : Nat) (v : Bool) : (s.putFlag c n v).kernels = s.kernels := rfl
@[simp] theorem putFlag_gens (c n : Nat) (v : Bool) : (s.putFlag c n v).gens = s.gens := rfl
@[simp] theorem putFlag_loads (c n : Nat) (v : Bool) : (s.putFlag c n v).loads = s.loads := rfl
@[simp] theorem putFlag_launches (c n : Nat) (v : Bool) : (s.putFlag c n v).launches = s.launches := rfl
@[simp] theorem putFlag_shoals (c n : Nat) (v : Bool) : (s.putFlag c n v).shoals = s.shoals := rfl
@[simp] theorem putFlag_gpr (c n : Nat) (v : Bool) : (s.putFlag c n v).gpr = s.gpr := rfl
@[simp] theorem putFlag_preds (c n : Nat) (v : Bool) : (s.putFlag c n v).preds = s.preds := rfl
@[simp] theorem putFlag_lflags (c n : Nat) (v : Bool) : (s.putFlag c n v).lflags = s.lflags := rfl
@[simp] theorem putFlag_sram (c n : Nat) (v : Bool) : (s.putFlag c n v).sram = s.sram := rfl
@[simp] theorem putFlag_sramUe (c n : Nat) (v : Bool) : (s.putFlag c n v).sramUe = s.sramUe := rfl
@[simp] theorem putFlag_mem (c n : Nat) (v : Bool) : (s.putFlag c n v).mem = s.mem := rfl
@[simp] theorem putFlag_queues (c n : Nat) (v : Bool) : (s.putFlag c n v).queues = s.queues := rfl
@[simp] theorem putFlag_nextOp (c n : Nat) (v : Bool) : (s.putFlag c n v).nextOp = s.nextOp := rfl
@[simp] theorem putFlag_act (c n : Nat) (v : Bool) : (s.putFlag c n v).act = s.act := rfl
@[simp] theorem putFlag_shl (c n : Nat) (v : Bool) : (s.putFlag c n v).shl = s.shl := rfl
@[simp] theorem putFlag_fab (c n : Nat) (v : Bool) : (s.putFlag c n v).fab = s.fab := rfl
@[simp] theorem putFlag_red (c n : Nat) (v : Bool) : (s.putFlag c n v).red = s.red := rfl
@[simp] theorem putFlag_scale (c n : Nat) (v : Bool) : (s.putFlag c n v).scale = s.scale := rfl
@[simp] theorem putFlag_ras (c n : Nat) (v : Bool) : (s.putFlag c n v).ras = s.ras := rfl
@[simp] theorem putFlag_sec (c n : Nat) (v : Bool) : (s.putFlag c n v).sec = s.sec := rfl
@[simp] theorem putFlag_free (c n : Nat) (v : Bool) : (s.putFlag c n v).free = s.free := rfl

@[simp] theorem srWrite_pending (q a : Nat) (bs : Bytes) : (s.srWrite q a bs).pending = s.pending := rfl
@[simp] theorem srWrite_power (q a : Nat) (bs : Bytes) : (s.srWrite q a bs).power = s.power := rfl
@[simp] theorem srWrite_clock (q a : Nat) (bs : Bytes) : (s.srWrite q a bs).clock = s.clock := rfl
@[simp] theorem srWrite_rst (q a : Nat) (bs : Bytes) : (s.srWrite q a bs).rst = s.rst := rfl
@[simp] theorem srWrite_jrn (q a : Nat) (bs : Bytes) : (s.srWrite q a bs).jrn = s.jrn := rfl
@[simp] theorem srWrite_regs (q a : Nat) (bs : Bytes) : (s.srWrite q a bs).regs = s.regs := rfl
@[simp] theorem srWrite_snaps (q a : Nat) (bs : Bytes) : (s.srWrite q a bs).snaps = s.snaps := rfl
@[simp] theorem srWrite_retained (q a : Nat) (bs : Bytes) : (s.srWrite q a bs).retained = s.retained := rfl
@[simp] theorem srWrite_hlk (q a : Nat) (bs : Bytes) : (s.srWrite q a bs).hlk = s.hlk := rfl
@[simp] theorem srWrite_kernels (q a : Nat) (bs : Bytes) : (s.srWrite q a bs).kernels = s.kernels := rfl
@[simp] theorem srWrite_gens (q a : Nat) (bs : Bytes) : (s.srWrite q a bs).gens = s.gens := rfl
@[simp] theorem srWrite_loads (q a : Nat) (bs : Bytes) : (s.srWrite q a bs).loads = s.loads := rfl
@[simp] theorem srWrite_launches (q a : Nat) (bs : Bytes) : (s.srWrite q a bs).launches = s.launches := rfl
@[simp] theorem srWrite_cores (q a : Nat) (bs : Bytes) : (s.srWrite q a bs).cores = s.cores := rfl
@[simp] theorem srWrite_shoals (q a : Nat) (bs : Bytes) : (s.srWrite q a bs).shoals = s.shoals := rfl
@[simp] theorem srWrite_gpr (q a : Nat) (bs : Bytes) : (s.srWrite q a bs).gpr = s.gpr := rfl
@[simp] theorem srWrite_preds (q a : Nat) (bs : Bytes) : (s.srWrite q a bs).preds = s.preds := rfl
@[simp] theorem srWrite_lflags (q a : Nat) (bs : Bytes) : (s.srWrite q a bs).lflags = s.lflags := rfl
@[simp] theorem srWrite_mem (q a : Nat) (bs : Bytes) : (s.srWrite q a bs).mem = s.mem := rfl
@[simp] theorem srWrite_queues (q a : Nat) (bs : Bytes) : (s.srWrite q a bs).queues = s.queues := rfl
@[simp] theorem srWrite_nextOp (q a : Nat) (bs : Bytes) : (s.srWrite q a bs).nextOp = s.nextOp := rfl
@[simp] theorem srWrite_act (q a : Nat) (bs : Bytes) : (s.srWrite q a bs).act = s.act := rfl
@[simp] theorem srWrite_shl (q a : Nat) (bs : Bytes) : (s.srWrite q a bs).shl = s.shl := rfl
@[simp] theorem srWrite_fab (q a : Nat) (bs : Bytes) : (s.srWrite q a bs).fab = s.fab := rfl
@[simp] theorem srWrite_red (q a : Nat) (bs : Bytes) : (s.srWrite q a bs).red = s.red := rfl
@[simp] theorem srWrite_scale (q a : Nat) (bs : Bytes) : (s.srWrite q a bs).scale = s.scale := rfl
@[simp] theorem srWrite_ras (q a : Nat) (bs : Bytes) : (s.srWrite q a bs).ras = s.ras := rfl
@[simp] theorem srWrite_sec (q a : Nat) (bs : Bytes) : (s.srWrite q a bs).sec = s.sec := rfl
@[simp] theorem srWrite_free (q a : Nat) (bs : Bytes) : (s.srWrite q a bs).free = s.free := rfl

@[simp] theorem setQueue_pending (q : Nat) (l : List Op) : (s.setQueue q l).pending = s.pending := rfl
@[simp] theorem setQueue_power (q : Nat) (l : List Op) : (s.setQueue q l).power = s.power := rfl
@[simp] theorem setQueue_clock (q : Nat) (l : List Op) : (s.setQueue q l).clock = s.clock := rfl
@[simp] theorem setQueue_rst (q : Nat) (l : List Op) : (s.setQueue q l).rst = s.rst := rfl
@[simp] theorem setQueue_jrn (q : Nat) (l : List Op) : (s.setQueue q l).jrn = s.jrn := rfl
@[simp] theorem setQueue_regs (q : Nat) (l : List Op) : (s.setQueue q l).regs = s.regs := rfl
@[simp] theorem setQueue_snaps (q : Nat) (l : List Op) : (s.setQueue q l).snaps = s.snaps := rfl
@[simp] theorem setQueue_retained (q : Nat) (l : List Op) : (s.setQueue q l).retained = s.retained := rfl
@[simp] theorem setQueue_hlk (q : Nat) (l : List Op) : (s.setQueue q l).hlk = s.hlk := rfl
@[simp] theorem setQueue_kernels (q : Nat) (l : List Op) : (s.setQueue q l).kernels = s.kernels := rfl
@[simp] theorem setQueue_gens (q : Nat) (l : List Op) : (s.setQueue q l).gens = s.gens := rfl
@[simp] theorem setQueue_loads (q : Nat) (l : List Op) : (s.setQueue q l).loads = s.loads := rfl
@[simp] theorem setQueue_launches (q : Nat) (l : List Op) : (s.setQueue q l).launches = s.launches := rfl
@[simp] theorem setQueue_cores (q : Nat) (l : List Op) : (s.setQueue q l).cores = s.cores := rfl
@[simp] theorem setQueue_shoals (q : Nat) (l : List Op) : (s.setQueue q l).shoals = s.shoals := rfl
@[simp] theorem setQueue_gpr (q : Nat) (l : List Op) : (s.setQueue q l).gpr = s.gpr := rfl
@[simp] theorem setQueue_preds (q : Nat) (l : List Op) : (s.setQueue q l).preds = s.preds := rfl
@[simp] theorem setQueue_lflags (q : Nat) (l : List Op) : (s.setQueue q l).lflags = s.lflags := rfl
@[simp] theorem setQueue_sram (q : Nat) (l : List Op) : (s.setQueue q l).sram = s.sram := rfl
@[simp] theorem setQueue_sramUe (q : Nat) (l : List Op) : (s.setQueue q l).sramUe = s.sramUe := rfl
@[simp] theorem setQueue_mem (q : Nat) (l : List Op) : (s.setQueue q l).mem = s.mem := rfl
@[simp] theorem setQueue_nextOp (q : Nat) (l : List Op) : (s.setQueue q l).nextOp = s.nextOp := rfl
@[simp] theorem setQueue_act (q : Nat) (l : List Op) : (s.setQueue q l).act = s.act := rfl
@[simp] theorem setQueue_shl (q : Nat) (l : List Op) : (s.setQueue q l).shl = s.shl := rfl
@[simp] theorem setQueue_fab (q : Nat) (l : List Op) : (s.setQueue q l).fab = s.fab := rfl
@[simp] theorem setQueue_red (q : Nat) (l : List Op) : (s.setQueue q l).red = s.red := rfl
@[simp] theorem setQueue_scale (q : Nat) (l : List Op) : (s.setQueue q l).scale = s.scale := rfl
@[simp] theorem setQueue_ras (q : Nat) (l : List Op) : (s.setQueue q l).ras = s.ras := rfl
@[simp] theorem setQueue_sec (q : Nat) (l : List Op) : (s.setQueue q l).sec = s.sec := rfl
@[simp] theorem setQueue_free (q : Nat) (l : List Op) : (s.setQueue q l).free = s.free := rfl

@[simp] theorem setRing_pending (r : Nat) (x : Ring) : (s.setRing r x).pending = s.pending := rfl
@[simp] theorem setRing_power (r : Nat) (x : Ring) : (s.setRing r x).power = s.power := rfl
@[simp] theorem setRing_clock (r : Nat) (x : Ring) : (s.setRing r x).clock = s.clock := rfl
@[simp] theorem setRing_rst (r : Nat) (x : Ring) : (s.setRing r x).rst = s.rst := rfl
@[simp] theorem setRing_jrn (r : Nat) (x : Ring) : (s.setRing r x).jrn = s.jrn := rfl
@[simp] theorem setRing_regs (r : Nat) (x : Ring) : (s.setRing r x).regs = s.regs := rfl
@[simp] theorem setRing_snaps (r : Nat) (x : Ring) : (s.setRing r x).snaps = s.snaps := rfl
@[simp] theorem setRing_retained (r : Nat) (x : Ring) : (s.setRing r x).retained = s.retained := rfl
@[simp] theorem setRing_kernels (r : Nat) (x : Ring) : (s.setRing r x).kernels = s.kernels := rfl
@[simp] theorem setRing_gens (r : Nat) (x : Ring) : (s.setRing r x).gens = s.gens := rfl
@[simp] theorem setRing_loads (r : Nat) (x : Ring) : (s.setRing r x).loads = s.loads := rfl
@[simp] theorem setRing_launches (r : Nat) (x : Ring) : (s.setRing r x).launches = s.launches := rfl
@[simp] theorem setRing_cores (r : Nat) (x : Ring) : (s.setRing r x).cores = s.cores := rfl
@[simp] theorem setRing_shoals (r : Nat) (x : Ring) : (s.setRing r x).shoals = s.shoals := rfl
@[simp] theorem setRing_gpr (r : Nat) (x : Ring) : (s.setRing r x).gpr = s.gpr := rfl
@[simp] theorem setRing_preds (r : Nat) (x : Ring) : (s.setRing r x).preds = s.preds := rfl
@[simp] theorem setRing_lflags (r : Nat) (x : Ring) : (s.setRing r x).lflags = s.lflags := rfl
@[simp] theorem setRing_sram (r : Nat) (x : Ring) : (s.setRing r x).sram = s.sram := rfl
@[simp] theorem setRing_sramUe (r : Nat) (x : Ring) : (s.setRing r x).sramUe = s.sramUe := rfl
@[simp] theorem setRing_mem (r : Nat) (x : Ring) : (s.setRing r x).mem = s.mem := rfl
@[simp] theorem setRing_queues (r : Nat) (x : Ring) : (s.setRing r x).queues = s.queues := rfl
@[simp] theorem setRing_nextOp (r : Nat) (x : Ring) : (s.setRing r x).nextOp = s.nextOp := rfl
@[simp] theorem setRing_act (r : Nat) (x : Ring) : (s.setRing r x).act = s.act := rfl
@[simp] theorem setRing_shl (r : Nat) (x : Ring) : (s.setRing r x).shl = s.shl := rfl
@[simp] theorem setRing_fab (r : Nat) (x : Ring) : (s.setRing r x).fab = s.fab := rfl
@[simp] theorem setRing_red (r : Nat) (x : Ring) : (s.setRing r x).red = s.red := rfl
@[simp] theorem setRing_scale (r : Nat) (x : Ring) : (s.setRing r x).scale = s.scale := rfl
@[simp] theorem setRing_ras (r : Nat) (x : Ring) : (s.setRing r x).ras = s.ras := rfl
@[simp] theorem setRing_sec (r : Nat) (x : Ring) : (s.setRing r x).sec = s.sec := rfl
@[simp] theorem setRing_free (r : Nat) (x : Ring) : (s.setRing r x).free = s.free := rfl

@[simp] theorem setLink_pending (l : Nat) (x : Link) : (s.setLink l x).pending = s.pending := rfl
@[simp] theorem setLink_power (l : Nat) (x : Link) : (s.setLink l x).power = s.power := rfl
@[simp] theorem setLink_clock (l : Nat) (x : Link) : (s.setLink l x).clock = s.clock := rfl
@[simp] theorem setLink_rst (l : Nat) (x : Link) : (s.setLink l x).rst = s.rst := rfl
@[simp] theorem setLink_jrn (l : Nat) (x : Link) : (s.setLink l x).jrn = s.jrn := rfl
@[simp] theorem setLink_regs (l : Nat) (x : Link) : (s.setLink l x).regs = s.regs := rfl
@[simp] theorem setLink_snaps (l : Nat) (x : Link) : (s.setLink l x).snaps = s.snaps := rfl
@[simp] theorem setLink_retained (l : Nat) (x : Link) : (s.setLink l x).retained = s.retained := rfl
@[simp] theorem setLink_hlk (l : Nat) (x : Link) : (s.setLink l x).hlk = s.hlk := rfl
@[simp] theorem setLink_kernels (l : Nat) (x : Link) : (s.setLink l x).kernels = s.kernels := rfl
@[simp] theorem setLink_gens (l : Nat) (x : Link) : (s.setLink l x).gens = s.gens := rfl
@[simp] theorem setLink_loads (l : Nat) (x : Link) : (s.setLink l x).loads = s.loads := rfl
@[simp] theorem setLink_launches (l : Nat) (x : Link) : (s.setLink l x).launches = s.launches := rfl
@[simp] theorem setLink_cores (l : Nat) (x : Link) : (s.setLink l x).cores = s.cores := rfl
@[simp] theorem setLink_shoals (l : Nat) (x : Link) : (s.setLink l x).shoals = s.shoals := rfl
@[simp] theorem setLink_gpr (l : Nat) (x : Link) : (s.setLink l x).gpr = s.gpr := rfl
@[simp] theorem setLink_preds (l : Nat) (x : Link) : (s.setLink l x).preds = s.preds := rfl
@[simp] theorem setLink_lflags (l : Nat) (x : Link) : (s.setLink l x).lflags = s.lflags := rfl
@[simp] theorem setLink_sram (l : Nat) (x : Link) : (s.setLink l x).sram = s.sram := rfl
@[simp] theorem setLink_sramUe (l : Nat) (x : Link) : (s.setLink l x).sramUe = s.sramUe := rfl
@[simp] theorem setLink_mem (l : Nat) (x : Link) : (s.setLink l x).mem = s.mem := rfl
@[simp] theorem setLink_queues (l : Nat) (x : Link) : (s.setLink l x).queues = s.queues := rfl
@[simp] theorem setLink_nextOp (l : Nat) (x : Link) : (s.setLink l x).nextOp = s.nextOp := rfl
@[simp] theorem setLink_act (l : Nat) (x : Link) : (s.setLink l x).act = s.act := rfl
@[simp] theorem setLink_shl (l : Nat) (x : Link) : (s.setLink l x).shl = s.shl := rfl
@[simp] theorem setLink_red (l : Nat) (x : Link) : (s.setLink l x).red = s.red := rfl
@[simp] theorem setLink_scale (l : Nat) (x : Link) : (s.setLink l x).scale = s.scale := rfl
@[simp] theorem setLink_ras (l : Nat) (x : Link) : (s.setLink l x).ras = s.ras := rfl
@[simp] theorem setLink_sec (l : Nat) (x : Link) : (s.setLink l x).sec = s.sec := rfl
@[simp] theorem setLink_free (l : Nat) (x : Link) : (s.setLink l x).free = s.free := rfl

@[simp] theorem setParked_pending (q : Nat) (x : List (Nat × Pkt)) : (s.setParked q x).pending = s.pending := rfl
@[simp] theorem setParked_power (q : Nat) (x : List (Nat × Pkt)) : (s.setParked q x).power = s.power := rfl
@[simp] theorem setParked_clock (q : Nat) (x : List (Nat × Pkt)) : (s.setParked q x).clock = s.clock := rfl
@[simp] theorem setParked_rst (q : Nat) (x : List (Nat × Pkt)) : (s.setParked q x).rst = s.rst := rfl
@[simp] theorem setParked_jrn (q : Nat) (x : List (Nat × Pkt)) : (s.setParked q x).jrn = s.jrn := rfl
@[simp] theorem setParked_regs (q : Nat) (x : List (Nat × Pkt)) : (s.setParked q x).regs = s.regs := rfl
@[simp] theorem setParked_snaps (q : Nat) (x : List (Nat × Pkt)) : (s.setParked q x).snaps = s.snaps := rfl
@[simp] theorem setParked_retained (q : Nat) (x : List (Nat × Pkt)) : (s.setParked q x).retained = s.retained := rfl
@[simp] theorem setParked_hlk (q : Nat) (x : List (Nat × Pkt)) : (s.setParked q x).hlk = s.hlk := rfl
@[simp] theorem setParked_kernels (q : Nat) (x : List (Nat × Pkt)) : (s.setParked q x).kernels = s.kernels := rfl
@[simp] theorem setParked_gens (q : Nat) (x : List (Nat × Pkt)) : (s.setParked q x).gens = s.gens := rfl
@[simp] theorem setParked_loads (q : Nat) (x : List (Nat × Pkt)) : (s.setParked q x).loads = s.loads := rfl
@[simp] theorem setParked_launches (q : Nat) (x : List (Nat × Pkt)) : (s.setParked q x).launches = s.launches := rfl
@[simp] theorem setParked_cores (q : Nat) (x : List (Nat × Pkt)) : (s.setParked q x).cores = s.cores := rfl
@[simp] theorem setParked_shoals (q : Nat) (x : List (Nat × Pkt)) : (s.setParked q x).shoals = s.shoals := rfl
@[simp] theorem setParked_gpr (q : Nat) (x : List (Nat × Pkt)) : (s.setParked q x).gpr = s.gpr := rfl
@[simp] theorem setParked_preds (q : Nat) (x : List (Nat × Pkt)) : (s.setParked q x).preds = s.preds := rfl
@[simp] theorem setParked_lflags (q : Nat) (x : List (Nat × Pkt)) : (s.setParked q x).lflags = s.lflags := rfl
@[simp] theorem setParked_sram (q : Nat) (x : List (Nat × Pkt)) : (s.setParked q x).sram = s.sram := rfl
@[simp] theorem setParked_sramUe (q : Nat) (x : List (Nat × Pkt)) : (s.setParked q x).sramUe = s.sramUe := rfl
@[simp] theorem setParked_mem (q : Nat) (x : List (Nat × Pkt)) : (s.setParked q x).mem = s.mem := rfl
@[simp] theorem setParked_queues (q : Nat) (x : List (Nat × Pkt)) : (s.setParked q x).queues = s.queues := rfl
@[simp] theorem setParked_nextOp (q : Nat) (x : List (Nat × Pkt)) : (s.setParked q x).nextOp = s.nextOp := rfl
@[simp] theorem setParked_act (q : Nat) (x : List (Nat × Pkt)) : (s.setParked q x).act = s.act := rfl
@[simp] theorem setParked_shl (q : Nat) (x : List (Nat × Pkt)) : (s.setParked q x).shl = s.shl := rfl
@[simp] theorem setParked_red (q : Nat) (x : List (Nat × Pkt)) : (s.setParked q x).red = s.red := rfl
@[simp] theorem setParked_scale (q : Nat) (x : List (Nat × Pkt)) : (s.setParked q x).scale = s.scale := rfl
@[simp] theorem setParked_ras (q : Nat) (x : List (Nat × Pkt)) : (s.setParked q x).ras = s.ras := rfl
@[simp] theorem setParked_sec (q : Nat) (x : List (Nat × Pkt)) : (s.setParked q x).sec = s.sec := rfl
@[simp] theorem setParked_free (q : Nat) (x : List (Nat × Pkt)) : (s.setParked q x).free = s.free := rfl

@[simp] theorem setRed_pending (r : Red) : (s.setRed r).pending = s.pending := rfl
@[simp] theorem setRed_power (r : Red) : (s.setRed r).power = s.power := rfl
@[simp] theorem setRed_clock (r : Red) : (s.setRed r).clock = s.clock := rfl
@[simp] theorem setRed_rst (r : Red) : (s.setRed r).rst = s.rst := rfl
@[simp] theorem setRed_jrn (r : Red) : (s.setRed r).jrn = s.jrn := rfl
@[simp] theorem setRed_regs (r : Red) : (s.setRed r).regs = s.regs := rfl
@[simp] theorem setRed_snaps (r : Red) : (s.setRed r).snaps = s.snaps := rfl
@[simp] theorem setRed_retained (r : Red) : (s.setRed r).retained = s.retained := rfl
@[simp] theorem setRed_hlk (r : Red) : (s.setRed r).hlk = s.hlk := rfl
@[simp] theorem setRed_kernels (r : Red) : (s.setRed r).kernels = s.kernels := rfl
@[simp] theorem setRed_gens (r : Red) : (s.setRed r).gens = s.gens := rfl
@[simp] theorem setRed_loads (r : Red) : (s.setRed r).loads = s.loads := rfl
@[simp] theorem setRed_launches (r : Red) : (s.setRed r).launches = s.launches := rfl
@[simp] theorem setRed_cores (r : Red) : (s.setRed r).cores = s.cores := rfl
@[simp] theorem setRed_shoals (r : Red) : (s.setRed r).shoals = s.shoals := rfl
@[simp] theorem setRed_gpr (r : Red) : (s.setRed r).gpr = s.gpr := rfl
@[simp] theorem setRed_preds (r : Red) : (s.setRed r).preds = s.preds := rfl
@[simp] theorem setRed_lflags (r : Red) : (s.setRed r).lflags = s.lflags := rfl
@[simp] theorem setRed_sram (r : Red) : (s.setRed r).sram = s.sram := rfl
@[simp] theorem setRed_sramUe (r : Red) : (s.setRed r).sramUe = s.sramUe := rfl
@[simp] theorem setRed_mem (r : Red) : (s.setRed r).mem = s.mem := rfl
@[simp] theorem setRed_queues (r : Red) : (s.setRed r).queues = s.queues := rfl
@[simp] theorem setRed_nextOp (r : Red) : (s.setRed r).nextOp = s.nextOp := rfl
@[simp] theorem setRed_act (r : Red) : (s.setRed r).act = s.act := rfl
@[simp] theorem setRed_shl (r : Red) : (s.setRed r).shl = s.shl := rfl
@[simp] theorem setRed_fab (r : Red) : (s.setRed r).fab = s.fab := rfl
@[simp] theorem setRed_scale (r : Red) : (s.setRed r).scale = s.scale := rfl
@[simp] theorem setRed_ras (r : Red) : (s.setRed r).ras = s.ras := rfl
@[simp] theorem setRed_sec (r : Red) : (s.setRed r).sec = s.sec := rfl
@[simp] theorem setRed_free (r : Red) : (s.setRed r).free = s.free := rfl

@[simp] theorem setUnit_pending (u : Nat) (x : UpdUnit) : (s.setUnit u x).pending = s.pending := rfl
@[simp] theorem setUnit_power (u : Nat) (x : UpdUnit) : (s.setUnit u x).power = s.power := rfl
@[simp] theorem setUnit_clock (u : Nat) (x : UpdUnit) : (s.setUnit u x).clock = s.clock := rfl
@[simp] theorem setUnit_rst (u : Nat) (x : UpdUnit) : (s.setUnit u x).rst = s.rst := rfl
@[simp] theorem setUnit_jrn (u : Nat) (x : UpdUnit) : (s.setUnit u x).jrn = s.jrn := rfl
@[simp] theorem setUnit_regs (u : Nat) (x : UpdUnit) : (s.setUnit u x).regs = s.regs := rfl
@[simp] theorem setUnit_snaps (u : Nat) (x : UpdUnit) : (s.setUnit u x).snaps = s.snaps := rfl
@[simp] theorem setUnit_retained (u : Nat) (x : UpdUnit) : (s.setUnit u x).retained = s.retained := rfl
@[simp] theorem setUnit_hlk (u : Nat) (x : UpdUnit) : (s.setUnit u x).hlk = s.hlk := rfl
@[simp] theorem setUnit_kernels (u : Nat) (x : UpdUnit) : (s.setUnit u x).kernels = s.kernels := rfl
@[simp] theorem setUnit_gens (u : Nat) (x : UpdUnit) : (s.setUnit u x).gens = s.gens := rfl
@[simp] theorem setUnit_loads (u : Nat) (x : UpdUnit) : (s.setUnit u x).loads = s.loads := rfl
@[simp] theorem setUnit_launches (u : Nat) (x : UpdUnit) : (s.setUnit u x).launches = s.launches := rfl
@[simp] theorem setUnit_cores (u : Nat) (x : UpdUnit) : (s.setUnit u x).cores = s.cores := rfl
@[simp] theorem setUnit_shoals (u : Nat) (x : UpdUnit) : (s.setUnit u x).shoals = s.shoals := rfl
@[simp] theorem setUnit_gpr (u : Nat) (x : UpdUnit) : (s.setUnit u x).gpr = s.gpr := rfl
@[simp] theorem setUnit_preds (u : Nat) (x : UpdUnit) : (s.setUnit u x).preds = s.preds := rfl
@[simp] theorem setUnit_lflags (u : Nat) (x : UpdUnit) : (s.setUnit u x).lflags = s.lflags := rfl
@[simp] theorem setUnit_sram (u : Nat) (x : UpdUnit) : (s.setUnit u x).sram = s.sram := rfl
@[simp] theorem setUnit_sramUe (u : Nat) (x : UpdUnit) : (s.setUnit u x).sramUe = s.sramUe := rfl
@[simp] theorem setUnit_mem (u : Nat) (x : UpdUnit) : (s.setUnit u x).mem = s.mem := rfl
@[simp] theorem setUnit_queues (u : Nat) (x : UpdUnit) : (s.setUnit u x).queues = s.queues := rfl
@[simp] theorem setUnit_nextOp (u : Nat) (x : UpdUnit) : (s.setUnit u x).nextOp = s.nextOp := rfl
@[simp] theorem setUnit_act (u : Nat) (x : UpdUnit) : (s.setUnit u x).act = s.act := rfl
@[simp] theorem setUnit_shl (u : Nat) (x : UpdUnit) : (s.setUnit u x).shl = s.shl := rfl
@[simp] theorem setUnit_fab (u : Nat) (x : UpdUnit) : (s.setUnit u x).fab = s.fab := rfl
@[simp] theorem setUnit_scale (u : Nat) (x : UpdUnit) : (s.setUnit u x).scale = s.scale := rfl
@[simp] theorem setUnit_ras (u : Nat) (x : UpdUnit) : (s.setUnit u x).ras = s.ras := rfl
@[simp] theorem setUnit_sec (u : Nat) (x : UpdUnit) : (s.setUnit u x).sec = s.sec := rfl
@[simp] theorem setUnit_free (u : Nat) (x : UpdUnit) : (s.setUnit u x).free = s.free := rfl

@[simp] theorem setSlice_pending (n : Nat) (es : List Xent) : (s.setSlice n es).pending = s.pending := rfl
@[simp] theorem setSlice_power (n : Nat) (es : List Xent) : (s.setSlice n es).power = s.power := rfl
@[simp] theorem setSlice_clock (n : Nat) (es : List Xent) : (s.setSlice n es).clock = s.clock := rfl
@[simp] theorem setSlice_rst (n : Nat) (es : List Xent) : (s.setSlice n es).rst = s.rst := rfl
@[simp] theorem setSlice_jrn (n : Nat) (es : List Xent) : (s.setSlice n es).jrn = s.jrn := rfl
@[simp] theorem setSlice_regs (n : Nat) (es : List Xent) : (s.setSlice n es).regs = s.regs := rfl
@[simp] theorem setSlice_snaps (n : Nat) (es : List Xent) : (s.setSlice n es).snaps = s.snaps := rfl
@[simp] theorem setSlice_retained (n : Nat) (es : List Xent) : (s.setSlice n es).retained = s.retained := rfl
@[simp] theorem setSlice_hlk (n : Nat) (es : List Xent) : (s.setSlice n es).hlk = s.hlk := rfl
@[simp] theorem setSlice_kernels (n : Nat) (es : List Xent) : (s.setSlice n es).kernels = s.kernels := rfl
@[simp] theorem setSlice_gens (n : Nat) (es : List Xent) : (s.setSlice n es).gens = s.gens := rfl
@[simp] theorem setSlice_loads (n : Nat) (es : List Xent) : (s.setSlice n es).loads = s.loads := rfl
@[simp] theorem setSlice_launches (n : Nat) (es : List Xent) : (s.setSlice n es).launches = s.launches := rfl
@[simp] theorem setSlice_cores (n : Nat) (es : List Xent) : (s.setSlice n es).cores = s.cores := rfl
@[simp] theorem setSlice_shoals (n : Nat) (es : List Xent) : (s.setSlice n es).shoals = s.shoals := rfl
@[simp] theorem setSlice_gpr (n : Nat) (es : List Xent) : (s.setSlice n es).gpr = s.gpr := rfl
@[simp] theorem setSlice_preds (n : Nat) (es : List Xent) : (s.setSlice n es).preds = s.preds := rfl
@[simp] theorem setSlice_lflags (n : Nat) (es : List Xent) : (s.setSlice n es).lflags = s.lflags := rfl
@[simp] theorem setSlice_sram (n : Nat) (es : List Xent) : (s.setSlice n es).sram = s.sram := rfl
@[simp] theorem setSlice_sramUe (n : Nat) (es : List Xent) : (s.setSlice n es).sramUe = s.sramUe := rfl
@[simp] theorem setSlice_queues (n : Nat) (es : List Xent) : (s.setSlice n es).queues = s.queues := rfl
@[simp] theorem setSlice_nextOp (n : Nat) (es : List Xent) : (s.setSlice n es).nextOp = s.nextOp := rfl
@[simp] theorem setSlice_act (n : Nat) (es : List Xent) : (s.setSlice n es).act = s.act := rfl
@[simp] theorem setSlice_shl (n : Nat) (es : List Xent) : (s.setSlice n es).shl = s.shl := rfl
@[simp] theorem setSlice_fab (n : Nat) (es : List Xent) : (s.setSlice n es).fab = s.fab := rfl
@[simp] theorem setSlice_red (n : Nat) (es : List Xent) : (s.setSlice n es).red = s.red := rfl
@[simp] theorem setSlice_scale (n : Nat) (es : List Xent) : (s.setSlice n es).scale = s.scale := rfl
@[simp] theorem setSlice_ras (n : Nat) (es : List Xent) : (s.setSlice n es).ras = s.ras := rfl
@[simp] theorem setSlice_sec (n : Nat) (es : List Xent) : (s.setSlice n es).sec = s.sec := rfl
@[simp] theorem setSlice_free (n : Nat) (es : List Xent) : (s.setSlice n es).free = s.free := rfl

@[simp] theorem setPoison_pending (w : Nat) (v : Bool) : (s.setPoison w v).pending = s.pending := rfl
@[simp] theorem setPoison_power (w : Nat) (v : Bool) : (s.setPoison w v).power = s.power := rfl
@[simp] theorem setPoison_clock (w : Nat) (v : Bool) : (s.setPoison w v).clock = s.clock := rfl
@[simp] theorem setPoison_rst (w : Nat) (v : Bool) : (s.setPoison w v).rst = s.rst := rfl
@[simp] theorem setPoison_jrn (w : Nat) (v : Bool) : (s.setPoison w v).jrn = s.jrn := rfl
@[simp] theorem setPoison_regs (w : Nat) (v : Bool) : (s.setPoison w v).regs = s.regs := rfl
@[simp] theorem setPoison_snaps (w : Nat) (v : Bool) : (s.setPoison w v).snaps = s.snaps := rfl
@[simp] theorem setPoison_retained (w : Nat) (v : Bool) : (s.setPoison w v).retained = s.retained := rfl
@[simp] theorem setPoison_hlk (w : Nat) (v : Bool) : (s.setPoison w v).hlk = s.hlk := rfl
@[simp] theorem setPoison_kernels (w : Nat) (v : Bool) : (s.setPoison w v).kernels = s.kernels := rfl
@[simp] theorem setPoison_gens (w : Nat) (v : Bool) : (s.setPoison w v).gens = s.gens := rfl
@[simp] theorem setPoison_loads (w : Nat) (v : Bool) : (s.setPoison w v).loads = s.loads := rfl
@[simp] theorem setPoison_launches (w : Nat) (v : Bool) : (s.setPoison w v).launches = s.launches := rfl
@[simp] theorem setPoison_cores (w : Nat) (v : Bool) : (s.setPoison w v).cores = s.cores := rfl
@[simp] theorem setPoison_shoals (w : Nat) (v : Bool) : (s.setPoison w v).shoals = s.shoals := rfl
@[simp] theorem setPoison_gpr (w : Nat) (v : Bool) : (s.setPoison w v).gpr = s.gpr := rfl
@[simp] theorem setPoison_preds (w : Nat) (v : Bool) : (s.setPoison w v).preds = s.preds := rfl
@[simp] theorem setPoison_lflags (w : Nat) (v : Bool) : (s.setPoison w v).lflags = s.lflags := rfl
@[simp] theorem setPoison_sram (w : Nat) (v : Bool) : (s.setPoison w v).sram = s.sram := rfl
@[simp] theorem setPoison_sramUe (w : Nat) (v : Bool) : (s.setPoison w v).sramUe = s.sramUe := rfl
@[simp] theorem setPoison_queues (w : Nat) (v : Bool) : (s.setPoison w v).queues = s.queues := rfl
@[simp] theorem setPoison_nextOp (w : Nat) (v : Bool) : (s.setPoison w v).nextOp = s.nextOp := rfl
@[simp] theorem setPoison_act (w : Nat) (v : Bool) : (s.setPoison w v).act = s.act := rfl
@[simp] theorem setPoison_shl (w : Nat) (v : Bool) : (s.setPoison w v).shl = s.shl := rfl
@[simp] theorem setPoison_fab (w : Nat) (v : Bool) : (s.setPoison w v).fab = s.fab := rfl
@[simp] theorem setPoison_red (w : Nat) (v : Bool) : (s.setPoison w v).red = s.red := rfl
@[simp] theorem setPoison_scale (w : Nat) (v : Bool) : (s.setPoison w v).scale = s.scale := rfl
@[simp] theorem setPoison_ras (w : Nat) (v : Bool) : (s.setPoison w v).ras = s.ras := rfl
@[simp] theorem setPoison_sec (w : Nat) (v : Bool) : (s.setPoison w v).sec = s.sec := rfl
@[simp] theorem setPoison_free (w : Nat) (v : Bool) : (s.setPoison w v).free = s.free := rfl

@[simp] theorem setFault_pending (f : XFault) : (s.setFault f).pending = s.pending := rfl
@[simp] theorem setFault_power (f : XFault) : (s.setFault f).power = s.power := rfl
@[simp] theorem setFault_clock (f : XFault) : (s.setFault f).clock = s.clock := rfl
@[simp] theorem setFault_rst (f : XFault) : (s.setFault f).rst = s.rst := rfl
@[simp] theorem setFault_jrn (f : XFault) : (s.setFault f).jrn = s.jrn := rfl
@[simp] theorem setFault_regs (f : XFault) : (s.setFault f).regs = s.regs := rfl
@[simp] theorem setFault_snaps (f : XFault) : (s.setFault f).snaps = s.snaps := rfl
@[simp] theorem setFault_retained (f : XFault) : (s.setFault f).retained = s.retained := rfl
@[simp] theorem setFault_hlk (f : XFault) : (s.setFault f).hlk = s.hlk := rfl
@[simp] theorem setFault_kernels (f : XFault) : (s.setFault f).kernels = s.kernels := rfl
@[simp] theorem setFault_gens (f : XFault) : (s.setFault f).gens = s.gens := rfl
@[simp] theorem setFault_loads (f : XFault) : (s.setFault f).loads = s.loads := rfl
@[simp] theorem setFault_launches (f : XFault) : (s.setFault f).launches = s.launches := rfl
@[simp] theorem setFault_cores (f : XFault) : (s.setFault f).cores = s.cores := rfl
@[simp] theorem setFault_shoals (f : XFault) : (s.setFault f).shoals = s.shoals := rfl
@[simp] theorem setFault_gpr (f : XFault) : (s.setFault f).gpr = s.gpr := rfl
@[simp] theorem setFault_preds (f : XFault) : (s.setFault f).preds = s.preds := rfl
@[simp] theorem setFault_lflags (f : XFault) : (s.setFault f).lflags = s.lflags := rfl
@[simp] theorem setFault_sram (f : XFault) : (s.setFault f).sram = s.sram := rfl
@[simp] theorem setFault_sramUe (f : XFault) : (s.setFault f).sramUe = s.sramUe := rfl
@[simp] theorem setFault_queues (f : XFault) : (s.setFault f).queues = s.queues := rfl
@[simp] theorem setFault_nextOp (f : XFault) : (s.setFault f).nextOp = s.nextOp := rfl
@[simp] theorem setFault_act (f : XFault) : (s.setFault f).act = s.act := rfl
@[simp] theorem setFault_shl (f : XFault) : (s.setFault f).shl = s.shl := rfl
@[simp] theorem setFault_fab (f : XFault) : (s.setFault f).fab = s.fab := rfl
@[simp] theorem setFault_red (f : XFault) : (s.setFault f).red = s.red := rfl
@[simp] theorem setFault_scale (f : XFault) : (s.setFault f).scale = s.scale := rfl
@[simp] theorem setFault_ras (f : XFault) : (s.setFault f).ras = s.ras := rfl
@[simp] theorem setFault_sec (f : XFault) : (s.setFault f).sec = s.sec := rfl
@[simp] theorem setFault_free (f : XFault) : (s.setFault f).free = s.free := rfl

@[simp] theorem setLedger_pending (b : Nat) (l : List ARec) : (s.setLedger b l).pending = s.pending := rfl
@[simp] theorem setLedger_power (b : Nat) (l : List ARec) : (s.setLedger b l).power = s.power := rfl
@[simp] theorem setLedger_clock (b : Nat) (l : List ARec) : (s.setLedger b l).clock = s.clock := rfl
@[simp] theorem setLedger_rst (b : Nat) (l : List ARec) : (s.setLedger b l).rst = s.rst := rfl
@[simp] theorem setLedger_jrn (b : Nat) (l : List ARec) : (s.setLedger b l).jrn = s.jrn := rfl
@[simp] theorem setLedger_regs (b : Nat) (l : List ARec) : (s.setLedger b l).regs = s.regs := rfl
@[simp] theorem setLedger_snaps (b : Nat) (l : List ARec) : (s.setLedger b l).snaps = s.snaps := rfl
@[simp] theorem setLedger_retained (b : Nat) (l : List ARec) : (s.setLedger b l).retained = s.retained := rfl
@[simp] theorem setLedger_hlk (b : Nat) (l : List ARec) : (s.setLedger b l).hlk = s.hlk := rfl
@[simp] theorem setLedger_kernels (b : Nat) (l : List ARec) : (s.setLedger b l).kernels = s.kernels := rfl
@[simp] theorem setLedger_gens (b : Nat) (l : List ARec) : (s.setLedger b l).gens = s.gens := rfl
@[simp] theorem setLedger_loads (b : Nat) (l : List ARec) : (s.setLedger b l).loads = s.loads := rfl
@[simp] theorem setLedger_launches (b : Nat) (l : List ARec) : (s.setLedger b l).launches = s.launches := rfl
@[simp] theorem setLedger_cores (b : Nat) (l : List ARec) : (s.setLedger b l).cores = s.cores := rfl
@[simp] theorem setLedger_shoals (b : Nat) (l : List ARec) : (s.setLedger b l).shoals = s.shoals := rfl
@[simp] theorem setLedger_gpr (b : Nat) (l : List ARec) : (s.setLedger b l).gpr = s.gpr := rfl
@[simp] theorem setLedger_preds (b : Nat) (l : List ARec) : (s.setLedger b l).preds = s.preds := rfl
@[simp] theorem setLedger_lflags (b : Nat) (l : List ARec) : (s.setLedger b l).lflags = s.lflags := rfl
@[simp] theorem setLedger_sram (b : Nat) (l : List ARec) : (s.setLedger b l).sram = s.sram := rfl
@[simp] theorem setLedger_sramUe (b : Nat) (l : List ARec) : (s.setLedger b l).sramUe = s.sramUe := rfl
@[simp] theorem setLedger_mem (b : Nat) (l : List ARec) : (s.setLedger b l).mem = s.mem := rfl
@[simp] theorem setLedger_queues (b : Nat) (l : List ARec) : (s.setLedger b l).queues = s.queues := rfl
@[simp] theorem setLedger_nextOp (b : Nat) (l : List ARec) : (s.setLedger b l).nextOp = s.nextOp := rfl
@[simp] theorem setLedger_shl (b : Nat) (l : List ARec) : (s.setLedger b l).shl = s.shl := rfl
@[simp] theorem setLedger_fab (b : Nat) (l : List ARec) : (s.setLedger b l).fab = s.fab := rfl
@[simp] theorem setLedger_red (b : Nat) (l : List ARec) : (s.setLedger b l).red = s.red := rfl
@[simp] theorem setLedger_scale (b : Nat) (l : List ARec) : (s.setLedger b l).scale = s.scale := rfl
@[simp] theorem setLedger_ras (b : Nat) (l : List ARec) : (s.setLedger b l).ras = s.ras := rfl
@[simp] theorem setLedger_sec (b : Nat) (l : List ARec) : (s.setLedger b l).sec = s.sec := rfl
@[simp] theorem setLedger_free (b : Nat) (l : List ARec) : (s.setLedger b l).free = s.free := rfl

@[simp] theorem setShlJobs_pending (b : Nat) (l : List ShlJob) : (s.setShlJobs b l).pending = s.pending := rfl
@[simp] theorem setShlJobs_power (b : Nat) (l : List ShlJob) : (s.setShlJobs b l).power = s.power := rfl
@[simp] theorem setShlJobs_clock (b : Nat) (l : List ShlJob) : (s.setShlJobs b l).clock = s.clock := rfl
@[simp] theorem setShlJobs_rst (b : Nat) (l : List ShlJob) : (s.setShlJobs b l).rst = s.rst := rfl
@[simp] theorem setShlJobs_jrn (b : Nat) (l : List ShlJob) : (s.setShlJobs b l).jrn = s.jrn := rfl
@[simp] theorem setShlJobs_regs (b : Nat) (l : List ShlJob) : (s.setShlJobs b l).regs = s.regs := rfl
@[simp] theorem setShlJobs_snaps (b : Nat) (l : List ShlJob) : (s.setShlJobs b l).snaps = s.snaps := rfl
@[simp] theorem setShlJobs_retained (b : Nat) (l : List ShlJob) : (s.setShlJobs b l).retained = s.retained := rfl
@[simp] theorem setShlJobs_hlk (b : Nat) (l : List ShlJob) : (s.setShlJobs b l).hlk = s.hlk := rfl
@[simp] theorem setShlJobs_kernels (b : Nat) (l : List ShlJob) : (s.setShlJobs b l).kernels = s.kernels := rfl
@[simp] theorem setShlJobs_gens (b : Nat) (l : List ShlJob) : (s.setShlJobs b l).gens = s.gens := rfl
@[simp] theorem setShlJobs_loads (b : Nat) (l : List ShlJob) : (s.setShlJobs b l).loads = s.loads := rfl
@[simp] theorem setShlJobs_launches (b : Nat) (l : List ShlJob) : (s.setShlJobs b l).launches = s.launches := rfl
@[simp] theorem setShlJobs_cores (b : Nat) (l : List ShlJob) : (s.setShlJobs b l).cores = s.cores := rfl
@[simp] theorem setShlJobs_shoals (b : Nat) (l : List ShlJob) : (s.setShlJobs b l).shoals = s.shoals := rfl
@[simp] theorem setShlJobs_gpr (b : Nat) (l : List ShlJob) : (s.setShlJobs b l).gpr = s.gpr := rfl
@[simp] theorem setShlJobs_preds (b : Nat) (l : List ShlJob) : (s.setShlJobs b l).preds = s.preds := rfl
@[simp] theorem setShlJobs_lflags (b : Nat) (l : List ShlJob) : (s.setShlJobs b l).lflags = s.lflags := rfl
@[simp] theorem setShlJobs_sram (b : Nat) (l : List ShlJob) : (s.setShlJobs b l).sram = s.sram := rfl
@[simp] theorem setShlJobs_sramUe (b : Nat) (l : List ShlJob) : (s.setShlJobs b l).sramUe = s.sramUe := rfl
@[simp] theorem setShlJobs_mem (b : Nat) (l : List ShlJob) : (s.setShlJobs b l).mem = s.mem := rfl
@[simp] theorem setShlJobs_queues (b : Nat) (l : List ShlJob) : (s.setShlJobs b l).queues = s.queues := rfl
@[simp] theorem setShlJobs_nextOp (b : Nat) (l : List ShlJob) : (s.setShlJobs b l).nextOp = s.nextOp := rfl
@[simp] theorem setShlJobs_act (b : Nat) (l : List ShlJob) : (s.setShlJobs b l).act = s.act := rfl
@[simp] theorem setShlJobs_fab (b : Nat) (l : List ShlJob) : (s.setShlJobs b l).fab = s.fab := rfl
@[simp] theorem setShlJobs_red (b : Nat) (l : List ShlJob) : (s.setShlJobs b l).red = s.red := rfl
@[simp] theorem setShlJobs_scale (b : Nat) (l : List ShlJob) : (s.setShlJobs b l).scale = s.scale := rfl
@[simp] theorem setShlJobs_ras (b : Nat) (l : List ShlJob) : (s.setShlJobs b l).ras = s.ras := rfl
@[simp] theorem setShlJobs_sec (b : Nat) (l : List ShlJob) : (s.setShlJobs b l).sec = s.sec := rfl
@[simp] theorem setShlJobs_free (b : Nat) (l : List ShlJob) : (s.setShlJobs b l).free = s.free := rfl

@[simp] theorem setHdm_pending (n : Nat) (x : Hdm) : (s.setHdm n x).pending = s.pending := rfl
@[simp] theorem setHdm_power (n : Nat) (x : Hdm) : (s.setHdm n x).power = s.power := rfl
@[simp] theorem setHdm_clock (n : Nat) (x : Hdm) : (s.setHdm n x).clock = s.clock := rfl
@[simp] theorem setHdm_rst (n : Nat) (x : Hdm) : (s.setHdm n x).rst = s.rst := rfl
@[simp] theorem setHdm_jrn (n : Nat) (x : Hdm) : (s.setHdm n x).jrn = s.jrn := rfl
@[simp] theorem setHdm_regs (n : Nat) (x : Hdm) : (s.setHdm n x).regs = s.regs := rfl
@[simp] theorem setHdm_snaps (n : Nat) (x : Hdm) : (s.setHdm n x).snaps = s.snaps := rfl
@[simp] theorem setHdm_retained (n : Nat) (x : Hdm) : (s.setHdm n x).retained = s.retained := rfl
@[simp] theorem setHdm_kernels (n : Nat) (x : Hdm) : (s.setHdm n x).kernels = s.kernels := rfl
@[simp] theorem setHdm_gens (n : Nat) (x : Hdm) : (s.setHdm n x).gens = s.gens := rfl
@[simp] theorem setHdm_loads (n : Nat) (x : Hdm) : (s.setHdm n x).loads = s.loads := rfl
@[simp] theorem setHdm_launches (n : Nat) (x : Hdm) : (s.setHdm n x).launches = s.launches := rfl
@[simp] theorem setHdm_cores (n : Nat) (x : Hdm) : (s.setHdm n x).cores = s.cores := rfl
@[simp] theorem setHdm_shoals (n : Nat) (x : Hdm) : (s.setHdm n x).shoals = s.shoals := rfl
@[simp] theorem setHdm_gpr (n : Nat) (x : Hdm) : (s.setHdm n x).gpr = s.gpr := rfl
@[simp] theorem setHdm_preds (n : Nat) (x : Hdm) : (s.setHdm n x).preds = s.preds := rfl
@[simp] theorem setHdm_lflags (n : Nat) (x : Hdm) : (s.setHdm n x).lflags = s.lflags := rfl
@[simp] theorem setHdm_sram (n : Nat) (x : Hdm) : (s.setHdm n x).sram = s.sram := rfl
@[simp] theorem setHdm_sramUe (n : Nat) (x : Hdm) : (s.setHdm n x).sramUe = s.sramUe := rfl
@[simp] theorem setHdm_mem (n : Nat) (x : Hdm) : (s.setHdm n x).mem = s.mem := rfl
@[simp] theorem setHdm_queues (n : Nat) (x : Hdm) : (s.setHdm n x).queues = s.queues := rfl
@[simp] theorem setHdm_nextOp (n : Nat) (x : Hdm) : (s.setHdm n x).nextOp = s.nextOp := rfl
@[simp] theorem setHdm_act (n : Nat) (x : Hdm) : (s.setHdm n x).act = s.act := rfl
@[simp] theorem setHdm_shl (n : Nat) (x : Hdm) : (s.setHdm n x).shl = s.shl := rfl
@[simp] theorem setHdm_fab (n : Nat) (x : Hdm) : (s.setHdm n x).fab = s.fab := rfl
@[simp] theorem setHdm_red (n : Nat) (x : Hdm) : (s.setHdm n x).red = s.red := rfl
@[simp] theorem setHdm_scale (n : Nat) (x : Hdm) : (s.setHdm n x).scale = s.scale := rfl
@[simp] theorem setHdm_ras (n : Nat) (x : Hdm) : (s.setHdm n x).ras = s.ras := rfl
@[simp] theorem setHdm_sec (n : Nat) (x : Hdm) : (s.setHdm n x).sec = s.sec := rfl
@[simp] theorem setHdm_free (n : Nat) (x : Hdm) : (s.setHdm n x).free = s.free := rfl

@[simp] theorem setConn_pending (x : Transport) (c : Spdm) : (s.setConn x c).pending = s.pending := rfl
@[simp] theorem setConn_power (x : Transport) (c : Spdm) : (s.setConn x c).power = s.power := rfl
@[simp] theorem setConn_clock (x : Transport) (c : Spdm) : (s.setConn x c).clock = s.clock := rfl
@[simp] theorem setConn_rst (x : Transport) (c : Spdm) : (s.setConn x c).rst = s.rst := rfl
@[simp] theorem setConn_jrn (x : Transport) (c : Spdm) : (s.setConn x c).jrn = s.jrn := rfl
@[simp] theorem setConn_regs (x : Transport) (c : Spdm) : (s.setConn x c).regs = s.regs := rfl
@[simp] theorem setConn_snaps (x : Transport) (c : Spdm) : (s.setConn x c).snaps = s.snaps := rfl
@[simp] theorem setConn_retained (x : Transport) (c : Spdm) : (s.setConn x c).retained = s.retained := rfl
@[simp] theorem setConn_hlk (x : Transport) (c : Spdm) : (s.setConn x c).hlk = s.hlk := rfl
@[simp] theorem setConn_kernels (x : Transport) (c : Spdm) : (s.setConn x c).kernels = s.kernels := rfl
@[simp] theorem setConn_gens (x : Transport) (c : Spdm) : (s.setConn x c).gens = s.gens := rfl
@[simp] theorem setConn_loads (x : Transport) (c : Spdm) : (s.setConn x c).loads = s.loads := rfl
@[simp] theorem setConn_launches (x : Transport) (c : Spdm) : (s.setConn x c).launches = s.launches := rfl
@[simp] theorem setConn_cores (x : Transport) (c : Spdm) : (s.setConn x c).cores = s.cores := rfl
@[simp] theorem setConn_shoals (x : Transport) (c : Spdm) : (s.setConn x c).shoals = s.shoals := rfl
@[simp] theorem setConn_gpr (x : Transport) (c : Spdm) : (s.setConn x c).gpr = s.gpr := rfl
@[simp] theorem setConn_preds (x : Transport) (c : Spdm) : (s.setConn x c).preds = s.preds := rfl
@[simp] theorem setConn_lflags (x : Transport) (c : Spdm) : (s.setConn x c).lflags = s.lflags := rfl
@[simp] theorem setConn_sram (x : Transport) (c : Spdm) : (s.setConn x c).sram = s.sram := rfl
@[simp] theorem setConn_sramUe (x : Transport) (c : Spdm) : (s.setConn x c).sramUe = s.sramUe := rfl
@[simp] theorem setConn_mem (x : Transport) (c : Spdm) : (s.setConn x c).mem = s.mem := rfl
@[simp] theorem setConn_queues (x : Transport) (c : Spdm) : (s.setConn x c).queues = s.queues := rfl
@[simp] theorem setConn_nextOp (x : Transport) (c : Spdm) : (s.setConn x c).nextOp = s.nextOp := rfl
@[simp] theorem setConn_act (x : Transport) (c : Spdm) : (s.setConn x c).act = s.act := rfl
@[simp] theorem setConn_shl (x : Transport) (c : Spdm) : (s.setConn x c).shl = s.shl := rfl
@[simp] theorem setConn_fab (x : Transport) (c : Spdm) : (s.setConn x c).fab = s.fab := rfl
@[simp] theorem setConn_red (x : Transport) (c : Spdm) : (s.setConn x c).red = s.red := rfl
@[simp] theorem setConn_scale (x : Transport) (c : Spdm) : (s.setConn x c).scale = s.scale := rfl
@[simp] theorem setConn_ras (x : Transport) (c : Spdm) : (s.setConn x c).ras = s.ras := rfl
@[simp] theorem setConn_free (x : Transport) (c : Spdm) : (s.setConn x c).free = s.free := rfl

@[simp] theorem retWrite_pending (a : Nat) (bs : Bytes) : (s.retWrite a bs).pending = s.pending := rfl
@[simp] theorem retWrite_power (a : Nat) (bs : Bytes) : (s.retWrite a bs).power = s.power := rfl
@[simp] theorem retWrite_clock (a : Nat) (bs : Bytes) : (s.retWrite a bs).clock = s.clock := rfl
@[simp] theorem retWrite_rst (a : Nat) (bs : Bytes) : (s.retWrite a bs).rst = s.rst := rfl
@[simp] theorem retWrite_jrn (a : Nat) (bs : Bytes) : (s.retWrite a bs).jrn = s.jrn := rfl
@[simp] theorem retWrite_regs (a : Nat) (bs : Bytes) : (s.retWrite a bs).regs = s.regs := rfl
@[simp] theorem retWrite_snaps (a : Nat) (bs : Bytes) : (s.retWrite a bs).snaps = s.snaps := rfl
@[simp] theorem retWrite_hlk (a : Nat) (bs : Bytes) : (s.retWrite a bs).hlk = s.hlk := rfl
@[simp] theorem retWrite_kernels (a : Nat) (bs : Bytes) : (s.retWrite a bs).kernels = s.kernels := rfl
@[simp] theorem retWrite_gens (a : Nat) (bs : Bytes) : (s.retWrite a bs).gens = s.gens := rfl
@[simp] theorem retWrite_loads (a : Nat) (bs : Bytes) : (s.retWrite a bs).loads = s.loads := rfl
@[simp] theorem retWrite_launches (a : Nat) (bs : Bytes) : (s.retWrite a bs).launches = s.launches := rfl
@[simp] theorem retWrite_cores (a : Nat) (bs : Bytes) : (s.retWrite a bs).cores = s.cores := rfl
@[simp] theorem retWrite_shoals (a : Nat) (bs : Bytes) : (s.retWrite a bs).shoals = s.shoals := rfl
@[simp] theorem retWrite_gpr (a : Nat) (bs : Bytes) : (s.retWrite a bs).gpr = s.gpr := rfl
@[simp] theorem retWrite_preds (a : Nat) (bs : Bytes) : (s.retWrite a bs).preds = s.preds := rfl
@[simp] theorem retWrite_lflags (a : Nat) (bs : Bytes) : (s.retWrite a bs).lflags = s.lflags := rfl
@[simp] theorem retWrite_sram (a : Nat) (bs : Bytes) : (s.retWrite a bs).sram = s.sram := rfl
@[simp] theorem retWrite_sramUe (a : Nat) (bs : Bytes) : (s.retWrite a bs).sramUe = s.sramUe := rfl
@[simp] theorem retWrite_mem (a : Nat) (bs : Bytes) : (s.retWrite a bs).mem = s.mem := rfl
@[simp] theorem retWrite_queues (a : Nat) (bs : Bytes) : (s.retWrite a bs).queues = s.queues := rfl
@[simp] theorem retWrite_nextOp (a : Nat) (bs : Bytes) : (s.retWrite a bs).nextOp = s.nextOp := rfl
@[simp] theorem retWrite_act (a : Nat) (bs : Bytes) : (s.retWrite a bs).act = s.act := rfl
@[simp] theorem retWrite_shl (a : Nat) (bs : Bytes) : (s.retWrite a bs).shl = s.shl := rfl
@[simp] theorem retWrite_fab (a : Nat) (bs : Bytes) : (s.retWrite a bs).fab = s.fab := rfl
@[simp] theorem retWrite_red (a : Nat) (bs : Bytes) : (s.retWrite a bs).red = s.red := rfl
@[simp] theorem retWrite_scale (a : Nat) (bs : Bytes) : (s.retWrite a bs).scale = s.scale := rfl
@[simp] theorem retWrite_ras (a : Nat) (bs : Bytes) : (s.retWrite a bs).ras = s.ras := rfl
@[simp] theorem retWrite_sec (a : Nat) (bs : Bytes) : (s.retWrite a bs).sec = s.sec := rfl
@[simp] theorem retWrite_free (a : Nat) (bs : Bytes) : (s.retWrite a bs).free = s.free := rfl

end Sys2Proof.Machine.State
end

