-- ==== Sys2Proof/Laws/Tables.lean ====
section
/-! SUPPORT. Laws of sparse tables and of memory: read after write, and the canonical form that every operation keeps. -/

namespace Sys2Proof.Machine

variable {α : Type}

@[simp] theorem tget_nil (d : α) (a : Nat) : tget [] d a = d := rfl

theorem tget_append (d : α) (a : Nat) (l r : Tab α) (h : ∀ e ∈ l, e.1 ≠ a) : tget (l ++ r) d a = tget r d a := by
  induction l with
  | nil => rfl
  | cons e l ih =>
    simp only [List.cons_append, tget]
    rw [if_neg (h e (by simp))]
    exact ih fun x hx => h x (by simp [hx])

theorem tget_none (d : α) (a : Nat) (l : Tab α) (h : ∀ e ∈ l, e.1 ≠ a) : tget l d a = d := by
  have := tget_append d a l [] h
  simpa using this

/-- Clearing keys: a cleared key reads as unlisted, every other as before. -/
theorem tget_filter (t : Tab α) (d : α) (p : Nat → Bool) (a : Nat) :
    tget (t.filter fun e => p e.1) d a = if p a then tget t d a else d := by
  induction t with
  | nil => simp
  | cons e t ih =>
    obtain ⟨k, w⟩ := e
    simp only [List.filter_cons]
    by_cases hk : k = a
    · subst k
      by_cases hp : p a
      · simp [hp, tget]
      · simp only [hp]
        simpa [hp] using ih
    · by_cases hp : p k
      · simp only [hp, if_true, tget, if_neg hk]
        exact ih
      · simp only [hp, tget, if_neg hk]
        simpa using ih

/-- Reading the key just written gives the value written. -/
@[simp] theorem tget_tset_same [DecidableEq α] (t : Tab α) (d : α) (a : Nat) (v : α) : tget (tset t d a v) d a = v := by
  unfold tset
  rw [tget_append d a _ _ (by intro e he; simp at he; omega)]
  split
  · rw [List.nil_append, tget_none d a _ (by intro e he; simp at he; omega)]
    exact Eq.symm ‹_›
  · simp [tget]

/-- Writing a key leaves every other key alone. -/
theorem tget_tset_other [DecidableEq α] (t : Tab α) (d d' : α) {a b : Nat} (v : α) (h : b ≠ a) :
    tget (tset t d a v) d' b = tget t d' b := by
  unfold tset
  rcases Nat.lt_or_gt_of_ne h with hb | hb
  · have e := tget_filter t d' (fun k => decide (k < a)) b
    simp only [hb, decide_true, if_true] at e
    rw [← e]
    clear e
    induction t.filter fun e => decide (e.1 < a) with
    | nil =>
      simp only [List.nil_append]
      split
      · rw [List.nil_append]
        exact tget_none d' b _ (by intro e he; simp at he; omega)
      · rw [tget_append d' b _ _ (by intro e he; simp at he; subst he; simpa using Ne.symm h)]
        exact tget_none d' b _ (by intro e he; simp at he; omega)
    | cons e l ih =>
      simp only [List.cons_append, tget]
      split
      · rfl
      · exact ih
  · rw [tget_append d' b _ _ (by intro e he; simp at he; omega)]
    rw [tget_append d' b _ _ (by
      intro e he
      split at he
      · simp at he
      · simp at he; subst he; simpa using Ne.symm h)]
    have e := tget_filter t d' (fun k => decide (a < k)) b
    simpa [hb] using e

theorem tget_tset [DecidableEq α] (t : Tab α) (d : α) (a b : Nat) (v : α) :
    tget (tset t d a v) d b = if b = a then v else tget t d b := by
  split
  · subst b
    exact tget_tset_same ..
  · exact tget_tset_other _ _ _ _ ‹_›

/-- A cleared key reads as unlisted, every other as before. -/
theorem tget_tdrop (t : Tab α) (d : α) (p : Nat → Bool) (a : Nat) : tget (tdrop t p) d a = if p a then d else tget t d a := by
  have h := tget_filter t d (fun k => !p k) a
  unfold tdrop
  rw [h]
  cases p a <;> simp

/-- The canonical form: keys strictly rise and no entry equals the default. -/
theorem twf_iff [DecidableEq α] (d : α) (t : Tab α) :
    twf d t = true ↔ t.Pairwise (fun x y => x.1 < y.1) ∧ ∀ e ∈ t, e.2 ≠ d := by
  induction t with
  | nil => simp [twf]
  | cons e t ih =>
    obtain ⟨k, v⟩ := e
    cases t with
    | nil => simp [twf]
    | cons e' t =>
      obtain ⟨k', v'⟩ := e'
      simp only [twf, Bool.and_eq_true, decide_eq_true_eq, bne_iff_ne, ih]
      constructor
      · rintro ⟨⟨h1, h2⟩, h3, h4⟩
        refine ⟨List.pairwise_cons.2 ⟨?_, h3⟩, ?_⟩
        · intro e he
          rcases List.mem_cons.1 he with rfl | he
          · exact h1
          · exact Nat.lt_trans h1 ((List.pairwise_cons.1 h3).1 e he)
        · intro e he
          rcases List.mem_cons.1 he with rfl | he
          · exact h2
          · exact h4 e he
      · rintro ⟨h1, h2⟩
        have h3 := List.pairwise_cons.1 h1
        exact ⟨⟨h3.1 (k', v') (by simp), h2 (k, v) (by simp)⟩, h3.2, fun e he => h2 e (by simp [he])⟩

/-- A write keeps the canonical form. -/
theorem twf_tset [DecidableEq α] (t : Tab α) (d : α) (a : Nat) (v : α) (h : twf d t = true) : twf d (tset t d a v) = true := by
  rw [twf_iff] at h ⊢
  unfold tset
  refine ⟨?_, ?_⟩
  · refine List.pairwise_append.2 ⟨h.1.filter _, ?_, ?_⟩
    · refine List.pairwise_append.2 ⟨?_, h.1.filter _, ?_⟩
      · split <;> simp
      · intro x hx y hy
        split at hx
        · simp at hx
        · simp at hx hy
          subst hx
          exact hy.2
    · intro x hx y hy
      simp only [List.mem_filter, decide_eq_true_eq] at hx
      rcases List.mem_append.1 hy with hy | hy
      · split at hy
        · simp at hy
        · simp at hy
          subst hy
          exact hx.2
      · simp only [List.mem_filter, decide_eq_true_eq] at hy
        exact Nat.lt_trans hx.2 hy.2
  · intro e he
    rcases List.mem_append.1 he with he | he
    · exact h.2 e (List.mem_of_mem_filter he)
    · rcases List.mem_append.1 he with he | he
      · split at he
        · simp at he
        · simp at he
          subst he
          assumption
      · exact h.2 e (List.mem_of_mem_filter he)

/-- Clearing keys keeps the canonical form. -/
theorem twf_tdrop [DecidableEq α] (t : Tab α) (d : α) (p : Nat → Bool) (h : twf d t = true) : twf d (tdrop t p) = true := by
  rw [twf_iff] at h ⊢
  exact ⟨h.1.filter _, fun e he => h.2 e (List.mem_of_mem_filter he)⟩

/-! ### Memory -/

theorem Memory.wf_wrBytes (m : List Host.Cell) (a : Nat) (bs : Bytes) (h : Memory.wf m = true) : Memory.wf (wrBytes m a bs) = true := by
  induction bs generalizing m a with
  | nil => exact h
  | cons b t ih => exact ih _ _ (twf_tset m 0 a b h)

theorem Memory.wf_tdrop (m : List Host.Cell) (p : Nat → Bool) (h : Memory.wf m = true) : Memory.wf (tdrop m p) = true :=
  twf_tdrop m 0 p h

/-- A write leaves every byte outside it alone. -/
theorem tget_wrBytes_other (m : List Host.Cell) (a : Nat) (bs : Bytes) (x : Nat) (h : x < a ∨ a + bs.length ≤ x) :
    tget (wrBytes m a bs) 0 x = tget m 0 x := by
  induction bs generalizing m a with
  | nil => rfl
  | cons b t ih =>
    simp only [List.length_cons] at h
    simp only [wrBytes]
    rw [ih (tset m 0 a b) (a + 1) (by omega)]
    exact tget_tset_other m 0 0 b (by omega)

/-- A write stores its bytes. -/
theorem tget_wrBytes_same (m : List Host.Cell) (a : Nat) (bs : Bytes) (k : Nat) (hk : k < bs.length) :
    tget (wrBytes m a bs) 0 (a + k) = bs[k] := by
  induction bs generalizing m a k with
  | nil => simp at hk
  | cons b t ih =>
    simp only [wrBytes]
    cases k with
    | zero =>
      rw [Nat.add_zero, tget_wrBytes_other _ _ _ _ (by omega)]
      simp
    | succ k =>
      have := ih (tset m 0 a b) (a + 1) k (by simpa using hk)
      simpa [Nat.add_assoc, Nat.add_comm 1 k] using this

/-- Bytes just written read back. -/
theorem rdBytes_wrBytes (m : List Host.Cell) (a : Nat) (bs : Bytes) : rdBytes (wrBytes m a bs) a bs.length = bs := by
  apply List.ext_getElem
  · simp [rdBytes]
  · intro k h1 h2
    simpa [rdBytes] using tget_wrBytes_same m a bs k h2

end Sys2Proof.Machine
end

