-- ==== Sys2Proof/Laws/Access.lean ====
section
/-! SUPPORT. Reading after writing, for bit fields, register words and the machine's tables. -/

namespace Sys2Proof.Machine

/-! ### Bit fields -/

theorem nat_split (A L K : Nat) : A = A / (L * K) * (L * K) + A / L % K * L + A % L := by
  have h1 := Nat.div_add_mod A L
  have h2 := Nat.div_add_mod (A / L) K
  rw [Nat.div_div_eq_div_mul] at h2
  calc A = L * (A / L) + A % L := h1.symm
    _ = L * (K * (A / (L * K)) + A / L % K) + A % L := by rw [h2]
    _ = _ := by ring

theorem putFld_toNat (w : Word) {hi lo : Nat} (v : Nat) (h : lo ≤ hi) (h64 : hi < 64) :
    (putFld w hi lo v).toNat =
      w.toNat / 2 ^ (hi + 1) * 2 ^ (hi + 1) + v % 2 ^ (hi + 1 - lo) * 2 ^ lo + w.toNat % 2 ^ lo := by
  have hw := w.isLt
  obtain ⟨k, hk⟩ : ∃ k, hi + 1 = lo + k := ⟨hi + 1 - lo, by omega⟩
  have hk' : hi + 1 - lo = k := by omega
  obtain ⟨m, hm⟩ : ∃ m, 64 = hi + 1 + m := ⟨64 - (hi + 1), by omega⟩
  unfold putFld fld nfld
  rw [BitVec.toNat_ofNat, hk', hk, Nat.pow_add]
  have hs := nat_split w.toNat (2 ^ lo) (2 ^ k)
  have hv := Nat.mod_lt v (Nat.two_pow_pos k)
  have hL := Nat.mod_lt w.toNat (Nat.two_pow_pos lo)
  have h64' : (2 : Nat) ^ 64 = 2 ^ m * (2 ^ lo * 2 ^ k) := by
    rw [← Nat.pow_add, ← Nat.pow_add]
    congr 1
    omega
  have ht : w.toNat / (2 ^ lo * 2 ^ k) < 2 ^ m := by
    rw [h64', Nat.mul_comm] at hw
    exact Nat.div_lt_of_lt_mul hw
  generalize hA : w.toNat / (2 ^ lo * 2 ^ k) = top at *
  generalize hB : w.toNat / 2 ^ lo % 2 ^ k = f at *
  generalize hC : w.toNat % 2 ^ lo = l at *
  generalize v % 2 ^ k = x at *
  have e : w.toNat - f * 2 ^ lo + x * 2 ^ lo = top * (2 ^ lo * 2 ^ k) + x * 2 ^ lo + l := by omega
  rw [e]
  apply Nat.mod_eq_of_lt
  have h1 : x * 2 ^ lo + 2 ^ lo ≤ 2 ^ lo * 2 ^ k := by
    rw [Nat.mul_comm (2 ^ lo)]
    calc x * 2 ^ lo + 2 ^ lo = (x + 1) * 2 ^ lo := by ring
      _ ≤ 2 ^ k * 2 ^ lo := Nat.mul_le_mul_right _ hv
  have h2 : (top + 1) * (2 ^ lo * 2 ^ k) ≤ 2 ^ m * (2 ^ lo * 2 ^ k) := Nat.mul_le_mul_right _ ht
  have h3 : (top + 1) * (2 ^ lo * 2 ^ k) = top * (2 ^ lo * 2 ^ k) + 2 ^ lo * 2 ^ k := by ring
  omega

/-- A field just written reads back. -/
@[simp] theorem fld_putFld_same (w : Word) {hi lo : Nat} (v : Nat) (h : lo ≤ hi := by omega) (h64 : hi < 64 := by omega) :
    fld (putFld w hi lo v) hi lo = v % 2 ^ (hi + 1 - lo) := by
  unfold fld nfld
  rw [putFld_toNat w v h h64]
  obtain ⟨k, hk⟩ : ∃ k, hi + 1 = lo + k := ⟨hi + 1 - lo, by omega⟩
  have hk' : hi + 1 - lo = k := by omega
  rw [hk', hk, Nat.pow_add]
  have hL := Nat.mod_lt w.toNat (Nat.two_pow_pos lo)
  have e : w.toNat / (2 ^ lo * 2 ^ k) * (2 ^ lo * 2 ^ k) + v % 2 ^ k * 2 ^ lo + w.toNat % 2 ^ lo =
      2 ^ lo * (w.toNat / (2 ^ lo * 2 ^ k) * 2 ^ k + v % 2 ^ k) + w.toNat % 2 ^ lo := by ring
  rw [e, Nat.mul_add_div (Nat.two_pow_pos lo), Nat.div_eq_of_lt hL, Nat.add_zero, Nat.add_comm, Nat.mul_comm,
    Nat.add_mul_mod_self_left, Nat.mod_mod]

/-- Writing a field leaves a field below it alone. -/
theorem fld_putFld_below (w : Word) {hi lo hi' lo' : Nat} (v : Nat) (h : lo ≤ hi) (h64 : hi < 64) (hb : hi' < lo) (hl : lo' ≤ hi') :
    fld (putFld w hi lo v) hi' lo' = fld w hi' lo' := by
  unfold fld nfld
  rw [putFld_toNat w v h h64]
  obtain ⟨c, hc⟩ : ∃ c, hi' + 1 = lo' + c := ⟨hi' + 1 - lo', by omega⟩
  obtain ⟨k, hk⟩ : ∃ k, lo = lo' + c + k := ⟨lo - (lo' + c), by omega⟩
  obtain ⟨j, hj⟩ : ∃ j, hi + 1 = lo + j := ⟨hi + 1 - lo, by omega⟩
  have hc' : hi' + 1 - lo' = c := by omega
  rw [hc', hj]
  generalize v % 2 ^ (lo + j - lo) = x
  have e : w.toNat / 2 ^ (lo + j) * 2 ^ (lo + j) + x * 2 ^ lo + w.toNat % 2 ^ lo =
      2 ^ lo * (w.toNat / 2 ^ (lo + j) * 2 ^ j + x) + w.toNat % 2 ^ lo := by rw [Nat.pow_add]; ring
  rw [e]
  have key : ∀ A : Nat, A / 2 ^ lo' % 2 ^ c = A % 2 ^ lo / 2 ^ lo' % 2 ^ c := by
    intro A
    have : (2 : Nat) ^ lo = 2 ^ lo' * (2 ^ c * 2 ^ k) := by rw [hk, Nat.pow_add, Nat.pow_add, Nat.mul_assoc]
    rw [this, Nat.mod_mul_right_div_self, Nat.mod_mul_right_mod]
  rw [key (2 ^ lo * _ + _), Nat.mul_add_mod, Nat.mod_mod, ← key]

/-- Writing a field leaves a field above it alone. -/
theorem fld_putFld_above (w : Word) {hi lo hi' lo' : Nat} (v : Nat) (h : lo ≤ hi) (h64 : hi < 64) (hb : hi < lo') :
    fld (putFld w hi lo v) hi' lo' = fld w hi' lo' := by
  unfold fld nfld
  rw [putFld_toNat w v h h64]
  obtain ⟨k, hk⟩ : ∃ k, lo' = hi + 1 + k := ⟨lo' - (hi + 1), by omega⟩
  obtain ⟨j, hj⟩ : ∃ j, hi + 1 = lo + j := ⟨hi + 1 - lo, by omega⟩
  have hj' : hi + 1 - lo = j := by omega
  have hv := Nat.mod_lt v (Nat.two_pow_pos j)
  have hL := Nat.mod_lt w.toNat (Nat.two_pow_pos lo)
  rw [hj', hk, Nat.pow_add 2 (hi + 1), ← Nat.div_div_eq_div_mul, ← Nat.div_div_eq_div_mul]
  congr 2
  rw [Nat.add_assoc, Nat.mul_comm (w.toNat / 2 ^ (hi + 1)), Nat.mul_add_div (Nat.two_pow_pos _)]
  have : v % 2 ^ j * 2 ^ lo + w.toNat % 2 ^ lo < 2 ^ (hi + 1) := by
    rw [hj, Nat.pow_add]
    calc v % 2 ^ j * 2 ^ lo + w.toNat % 2 ^ lo < v % 2 ^ j * 2 ^ lo + 2 ^ lo := by omega
      _ = (v % 2 ^ j + 1) * 2 ^ lo := by ring
      _ ≤ 2 ^ j * 2 ^ lo := Nat.mul_le_mul_right _ hv
      _ = 2 ^ lo * 2 ^ j := Nat.mul_comm _ _
  rw [Nat.div_eq_of_lt this, Nat.add_zero]

theorem fld_lt (w : Word) (hi lo : Nat) : fld w hi lo < 2 ^ (hi + 1 - lo) := Nat.mod_lt _ (Nat.two_pow_pos _)

/-! ### Little-endian bytes -/

@[simp] theorem natBytes_length (n v : Nat) : (natBytes n v).length = n := by
  induction n generalizing v with
  | zero => rfl
  | succ n ih => simp [natBytes, ih]

@[simp] theorem leNat_natBytes (n v : Nat) : leNat (natBytes n v) = v % 2 ^ (8 * n) := by
  induction n generalizing v with
  | zero => simp [natBytes, leNat, Nat.mod_one]
  | succ n ih =>
    have e : 2 ^ (8 * (n + 1)) = 2 ^ 8 * 2 ^ (8 * n) := by rw [← Nat.pow_add]; congr 1; omega
    simp only [natBytes, leNat, ih, BitVec.toNat_ofNat, e]
    rw [Nat.mod_mul, show (2 : Nat) ^ 8 = 256 from rfl]

/-! ### Register words -/

namespace State

variable (s : State)

@[simp] theorem rd_wr_same (a : Nat) (w : Word) : (s.wr a w).rd a = w := tget_tset_same ..

theorem rd_wr_other {a b : Nat} (w : Word) (h : b ≠ a) : (s.wr a w).rd b = s.rd b := tget_tset_other _ _ _ _ h

theorem rd_wr (a b : Nat) (w : Word) : (s.wr a w).rd b = if b = a then w else s.rd b := by
  split
  · subst b; exact rd_wr_same ..
  · exact rd_wr_other _ _ ‹_›

theorem rd_of_regs {s t : State} (h : t.regs = s.regs) (a : Nat) : t.rd a = s.rd a := by unfold rd; rw [h]

theorem rd_p (b : Blk) (i o hi lo v a : Nat) :
    (s.p b i o hi lo v).rd a = if a = pageBase b i + o then putFld (s.rd a) hi lo v else s.rd a := by
  unfold p
  rw [rd_wr]
  split
  · subst a; rfl
  · rfl

/-- A register field just written reads back. -/
@[simp] theorem g_p_same (b : Blk) (i o hi lo v : Nat) (h : lo ≤ hi := by decide) (h64 : hi < 64 := by decide) :
    (s.p b i o hi lo v).g b i o hi lo = v % 2 ^ (hi + 1 - lo) := by
  unfold g
  rw [rd_p, if_pos rfl, fld_putFld_same _ _ h h64]

/-! ### The machine's tables -/

theorem reg_setReg (q t l r q' t' l' r' : Nat) (v : W32) :
    (s.setReg q t l r v).reg q' t' l' r' = if gkey q' t' l' r' = gkey q t l r then v else s.reg q' t' l' r' := tget_tset ..

theorem core_setCore (c c' : Nat) (x : Core) : (s.setCore c x).core c' = if c' = c then x else s.core c' := tget_tset ..

theorem launch_setLaunch (l l' : Nat) (x : Option Launch) : (s.setLaunch l x).launch? l' = if l' = l then x else s.launch? l' :=
  tget_tset ..

theorem shoal_setShoal (q t q' t' : Nat) (x : Option Shoal) :
    (s.setShoal q t x).shoal q' t' = if skey q' t' = skey q t then x else s.shoal q' t' := tget_tset ..

theorem queue_setQueue (q q' : Nat) (l : List Op) : (s.setQueue q l).queue q' = if q' = q then l else s.queue q' := tget_tset ..

theorem ring_setRing (r r' : Nat) (x : Ring) : (s.setRing r x).ring r' = if r' = r then x else s.ring r' := tget_tset ..

theorem link_setLink (l l' : Nat) (x : Link) : (s.setLink l x).link l' = if l' = l then x else s.link l' := tget_tset ..

theorem slice_setSlice (n m : Nat) (es : List Xent) : (s.setSlice n es).slice m = if m = n then es else s.slice m := tget_tset ..

theorem ledger_setLedger (b c : Nat) (l : List ARec) : (s.setLedger b l).ledger c = if c = b then l else s.ledger c := tget_tset ..

theorem hdm_setHdm (n m : Nat) (x : Hdm) : (s.setHdm n x).hdm m = if m = n then x else s.hdm m := tget_tset ..

theorem msixEntry_setMsix (v u : Nat) (e : Msix) : (s.setMsix v e).msixEntry u = if u = v then e else s.msixEntry u := tget_tset ..

theorem unit_setUnit (u v : Nat) (x : UpdUnit) : (s.setUnit u x).unit v = if v = u then x else s.unit v := tget_tset ..

theorem shlJobs_setShlJobs (b c : Nat) (l : List ShlJob) : (s.setShlJobs b l).shlJobs c = if c = b then l else s.shlJobs c :=
  tget_tset ..

theorem pcore_setPcore (q r : Nat) (x : PhysCore) : (s.setPcore q x).pcore r = if r = q then x else s.pcore r := tget_tset ..

end State

end Sys2Proof.Machine
end

