-- ==== Sys2Proof/Laws/Frame.lean ====
section
/-! SUPPORT. How Ext composes: reflexivity, one step more, branches, folds, options and record updates. -/

namespace Sys2Proof.Machine

theorem Ext.refl (ps : List Part) (s : State) : Ext ps s s := ⟨fun q _ => by cases q <;> rfl, id⟩

theorem Same.trans {ps : List Part} {s t u : State} (h : Same ps s t) (k : Same ps t u) : Same ps s u := fun q hq => by
  have a := h q hq
  have b := k q hq
  cases q <;> exact Eq.trans b a

theorem Same.mono {ps qs : List Part} {s t : State} (h : Same qs s t) (hs : qs.all (ps.contains ·) = true) : Same ps s t :=
  fun q hq => h q fun hm => hq (by simpa using List.all_eq_true.1 hs q hm)

/-- One step more, of a definition that changes fewer parts. -/
theorem Ext.step {ps qs : List Part} {s t u : State} (h : Ext qs t u) (hs : qs.all (ps.contains ·) = true) (h0 : Ext ps s t) :
    Ext ps s u := ⟨h0.1.trans (h.1.mono hs), fun m => h.2 (h0.2 m)⟩

theorem Ext.ite {ps : List Part} {s t u : State} {c : Prop} [Decidable c] (h : Ext ps s t) (k : Ext ps s u) :
    Ext ps s (if c then t else u) := by split <;> assumption

/-- A property of what a fold builds. -/
theorem foldl_all {α β : Type} {P : α → Prop} {f : α → β → α} {l : List β} {b : α} (h0 : P b) (h : ∀ a x, P a → P (f a x)) :
    P (l.foldl f b) := by
  induction l generalizing b with
  | nil => exact h0
  | cons x l ih => exact ih (h b x h0)

/-- A property of every answer of an option. -/
structure OAll {α : Type} (P : α → Prop) (o : Option α) : Prop where
  all : ∀ x, o = some x → P x

theorem OAll.none {α : Type} (P : α → Prop) : OAll P none := ⟨fun _ h => by cases h⟩

theorem OAll.some {α : Type} {P : α → Prop} {x : α} (h : P x) : OAll P (some x) := ⟨fun _ e => by cases e; exact h⟩

theorem OAll.ite {α : Type} {P : α → Prop} {o p : Option α} {c : Prop} [Decidable c] (h : OAll P o) (k : OAll P p) :
    OAll P (if c then o else p) := by split <;> assumption

theorem OAll.step {α : Type} {f : α → State} {ps qs : List Part} {s t : State} {o : Option α} (h : OAll (fun x => Ext qs t (f x)) o)
    (hs : qs.all (ps.contains ·) = true) (h0 : Ext ps s t) : OAll (fun x => Ext ps s (f x)) o := ⟨fun x e => (h.all x e).step hs h0⟩

theorem OAll.bind {α β : Type} {P : α → Prop} {Q : β → Prop} {o : Option α} {f : α → Option β} (h : OAll P o)
    (k : ∀ x, P x → OAll Q (f x)) : OAll Q (o.bind f) := by
  cases o with
  | none => exact OAll.none _
  | some x => exact k x (h.all x rfl)

theorem OAll.map {α β : Type} {P : α → Prop} {Q : β → Prop} {o : Option α} {f : α → β} (h : OAll P o)
    (k : ∀ x, P x → Q (f x)) : OAll Q (o.map f) := by
  cases o with
  | none => exact OAll.none _
  | some x => exact OAll.some (k x (h.all x rfl))

theorem OAll.bindE {α β : Type} {g : α → State} {f' : β → State} {ps : List Part} {s : State} {o : Option α} {f : α → Option β}
    (h : OAll (fun x => Ext ps s (g x)) o) (k : ∀ x, Ext ps s (g x) → OAll (fun y => Ext ps s (f' y)) (f x)) :
    OAll (fun y => Ext ps s (f' y)) (o.bind f) := h.bind k

theorem OAll.mapE {α β : Type} {g : α → State} {f' : β → State} {ps : List Part} {s : State} {o : Option α} {f : α → β}
    (h : OAll (fun x => Ext ps s (g x)) o) (k : ∀ x, Ext ps s (g x) → Ext ps s (f' (f x))) :
    OAll (fun y => Ext ps s (f' y)) (o.map f) := h.map k

theorem OAll.triv {α : Type} (o : Option α) : OAll (fun _ => True) o := ⟨fun _ _ => trivial⟩

theorem OAll.getD {α : Type} {P : α → Prop} {o : Option α} {b : α} (h : OAll P o) (h0 : P b) : P (o.getD b) := by
  cases o with
  | none => exact h0
  | some x => exact h.all x rfl

theorem OAll.of {α : Type} {P : α → Prop} {o : Option α} {x : α} (h : OAll P o) (e : o = Option.some x) : P x := h.all x e

/-- A property of every answer that is no error. -/
structure EAll {ε α : Type} (P : α → Prop) (o : Except ε α) : Prop where
  all : ∀ x, o = .ok x → P x

theorem EAll.error {ε α : Type} (P : α → Prop) (e : ε) : EAll P (.error e) := ⟨fun _ h => by cases h⟩

theorem EAll.ok {ε α : Type} {P : α → Prop} {x : α} (h : P x) : EAll P (.ok x : Except ε α) := ⟨fun _ e => by cases e; exact h⟩

theorem EAll.ite {ε α : Type} {P : α → Prop} {o p : Except ε α} {c : Prop} [Decidable c] (h : EAll P o) (k : EAll P p) :
    EAll P (if c then o else p) := by split <;> assumption

theorem EAll.step {ε α : Type} {f : α → State} {ps qs : List Part} {s t : State} {o : Except ε α}
    (h : EAll (fun x => Ext qs t (f x)) o) (hs : qs.all (ps.contains ·) = true) (h0 : Ext ps s t) :
    EAll (fun x => Ext ps s (f x)) o := ⟨fun x e => (h.all x e).step hs h0⟩

theorem EAll.of {ε α : Type} {P : α → Prop} {o : Except ε α} {x : α} (h : EAll P o) (e : o = .ok x) : P x := h.all x e

/-- The state of a sum's second side. -/
structure SAll {α β : Type} (P : β → Prop) (o : α ⊕ β) : Prop where
  all : ∀ x, o = .inr x → P x

theorem SAll.inl {α β : Type} (P : β → Prop) (x : α) : SAll P (.inl x : α ⊕ β) := ⟨fun _ h => by cases h⟩

theorem SAll.inr {α β : Type} {P : β → Prop} {x : β} (h : P x) : SAll P (.inr x : α ⊕ β) := ⟨fun _ e => by cases e; exact h⟩

theorem SAll.ite {α β : Type} {P : β → Prop} {o p : α ⊕ β} {c : Prop} [Decidable c] (h : SAll P o) (k : SAll P p) :
    SAll P (if c then o else p) := by split <;> assumption

theorem SAll.step {α β : Type} {f : β → State} {ps qs : List Part} {s t : State} {o : α ⊕ β}
    (h : SAll (fun x => Ext qs t (f x)) o) (hs : qs.all (ps.contains ·) = true) (h0 : Ext ps s t) :
    SAll (fun x => Ext ps s (f x)) o := ⟨fun x e => (h.all x e).step hs h0⟩

theorem SAll.of {α β : Type} {P : β → Prop} {o : α ⊕ β} {x : β} (h : SAll P o) (e : o = .inr x) : P x := h.all x e

/-- The state of a meaning's next state. -/
structure HAll (P : State → Prop) (o : Host.Outcome State Fault Refusal) : Prop where
  all : ∀ x, o = .next x → P x

theorem HAll.next {P : State → Prop} {x : State} (h : P x) : HAll P (.next x) := ⟨fun _ e => by cases e; exact h⟩

theorem HAll.ite {P : State → Prop} {o p : Host.Outcome State Fault Refusal} {c : Prop} [Decidable c] (h : HAll P o)
    (k : HAll P p) : HAll P (if c then o else p) := by split <;> assumption

theorem HAll.step {ps qs : List Part} {s t : State} {o : Host.Outcome State Fault Refusal} (h : HAll (fun x => Ext qs t x) o)
    (hs : qs.all (ps.contains ·) = true) (h0 : Ext ps s t) : HAll (fun x => Ext ps s x) o := ⟨fun x e => (h.all x e).step hs h0⟩

/-- The state that a memory access answers with. -/
def VAll (P : State → Prop) : VRes → Prop
  | .ok _ _ s => P s
  | _ => True

/-- The states that a landing answers with. -/
def LAll (P : State → Prop) : Land → Prop
  | .done s | .mark s | .fail s _ => P s
  | .wait => True

/-- The states that a unit's read answers with. -/
def UAll (P : State → Prop) : State.UnitRes → Prop
  | .ok _ s | .bad s _ => P s
  | _ => True

/-- The states that a job's read answers with. -/
def GAll {α : Type} (P : State → Prop) : Got α → Prop
  | .ok _ s | .poison s _ | .crc s => P s
  | _ => True

theorem VAll.ok {P : State → Prop} {bs : Bytes} {p : Bool} {s : State} (h : P s) : VAll P (.ok bs p s : VRes) := h

theorem VAll.of_ok {P : State → Prop} {bs : Bytes} {p : Bool} {s : State} {o : VRes} (h : VAll P o) (e : o = .ok bs p s) : P s := by subst e; exact h

theorem VAll.cow (P : State → Prop) (v : Nat): VAll P (.cow v : VRes) := trivial

theorem VAll.held (P : State → Prop) : VAll P (.held  : VRes) := trivial

theorem VAll.hostDown (P : State → Prop) : VAll P (.hostDown  : VRes) := trivial

theorem VAll.ite {P : State → Prop} {o p : VRes} {c : Prop} [Decidable c] (h : VAll P o) (k : VAll P p) :
    VAll P (if c then o else p) := by split <;> assumption

theorem VAll.step {ps qs : List Part} {s t : State} {o : VRes} (h : VAll (fun x => Ext qs t x) o)
    (hs : qs.all (ps.contains ·) = true) (h0 : Ext ps s t) : VAll (fun x => Ext ps s x) o := by
  cases o <;> first | exact trivial | exact Ext.step h hs h0

theorem LAll.done {P : State → Prop} {s : State} (h : P s) : LAll P (.done s : Land) := h

theorem LAll.of_done {P : State → Prop} {s : State} {o : Land} (h : LAll P o) (e : o = .done s) : P s := by subst e; exact h

theorem LAll.mark {P : State → Prop} {s : State} (h : P s) : LAll P (.mark s : Land) := h

theorem LAll.of_mark {P : State → Prop} {s : State} {o : Land} (h : LAll P o) (e : o = .mark s) : P s := by subst e; exact h

theorem LAll.fail {P : State → Prop} {s : State} {c : Nat} (h : P s) : LAll P (.fail s c : Land) := h

theorem LAll.of_fail {P : State → Prop} {s : State} {c : Nat} {o : Land} (h : LAll P o) (e : o = .fail s c) : P s := by subst e; exact h

theorem LAll.wait (P : State → Prop) : LAll P (.wait  : Land) := trivial

theorem LAll.ite {P : State → Prop} {o p : Land} {c : Prop} [Decidable c] (h : LAll P o) (k : LAll P p) :
    LAll P (if c then o else p) := by split <;> assumption

theorem LAll.step {ps qs : List Part} {s t : State} {o : Land} (h : LAll (fun x => Ext qs t x) o)
    (hs : qs.all (ps.contains ·) = true) (h0 : Ext ps s t) : LAll (fun x => Ext ps s x) o := by
  cases o <;> first | exact trivial | exact Ext.step h hs h0

theorem UAll.ok {P : State → Prop} {bs : Bytes} {s : State} (h : P s) : UAll P (.ok bs s : State.UnitRes) := h

theorem UAll.of_ok {P : State → Prop} {bs : Bytes} {s : State} {o : State.UnitRes} (h : UAll P o) (e : o = .ok bs s) : P s := by subst e; exact h

theorem UAll.bad {P : State → Prop} {s : State} {c : Bool} (h : P s) : UAll P (.bad s c : State.UnitRes) := h

theorem UAll.of_bad {P : State → Prop} {s : State} {c : Bool} {o : State.UnitRes} (h : UAll P o) (e : o = .bad s c) : P s := by subst e; exact h

theorem UAll.wait (P : State → Prop) : UAll P (.wait  : State.UnitRes) := trivial

theorem UAll.hostDown (P : State → Prop) : UAll P (.hostDown  : State.UnitRes) := trivial

theorem UAll.ite {P : State → Prop} {o p : State.UnitRes} {c : Prop} [Decidable c] (h : UAll P o) (k : UAll P p) :
    UAll P (if c then o else p) := by split <;> assumption

theorem UAll.step {ps qs : List Part} {s t : State} {o : State.UnitRes} (h : UAll (fun x => Ext qs t x) o)
    (hs : qs.all (ps.contains ·) = true) (h0 : Ext ps s t) : UAll (fun x => Ext ps s x) o := by
  cases o <;> first | exact trivial | exact Ext.step h hs h0

theorem GAll.ok {α : Type} {P : State → Prop} {v : α} {s : State} (h : P s) : GAll P (.ok v s : Got α) := h

theorem GAll.of_ok {α : Type} {P : State → Prop} {v : α} {s : State} {o : Got α} (h : GAll P o) (e : o = .ok v s) : P s := by subst e; exact h

theorem GAll.poison {α : Type} {P : State → Prop} {s : State} {a : Nat} (h : P s) : GAll P (.poison s a : Got α) := h

theorem GAll.of_poison {α : Type} {P : State → Prop} {s : State} {a : Nat} {o : Got α} (h : GAll P o) (e : o = .poison s a) : P s := by subst e; exact h

theorem GAll.crc {α : Type} {P : State → Prop} {s : State} (h : P s) : GAll P (.crc s : Got α) := h

theorem GAll.of_crc {α : Type} {P : State → Prop} {s : State} {o : Got α} (h : GAll P o) (e : o = .crc s) : P s := by subst e; exact h

theorem GAll.wait {α : Type} (P : State → Prop) : GAll P (.wait  : Got α) := trivial

theorem GAll.hostDown {α : Type} (P : State → Prop) : GAll P (.hostDown  : Got α) := trivial

theorem GAll.ite {α : Type} {P : State → Prop} {o p : Got α} {c : Prop} [Decidable c] (h : GAll P o) (k : GAll P p) :
    GAll P (if c then o else p) := by split <;> assumption

theorem GAll.step {α : Type} {ps qs : List Part} {s t : State} {o : Got α} (h : GAll (fun x => Ext qs t x) o)
    (hs : qs.all (ps.contains ·) = true) (h0 : Ext ps s t) : GAll (fun x => Ext ps s x) o := by
  cases o <;> first | exact trivial | exact Ext.step h hs h0

theorem GAll.bind {α β : Type} {P Q : State → Prop} {o : Got α} {f : α → State → Got β} (h : GAll P o)
    (w : ∀ x, P x → Q x) (k : ∀ v x, P x → GAll Q (f v x)) : GAll Q (o.bind f) := by
  cases o with
  | ok v s => exact k v s h
  | poison s a => exact w s h
  | crc s => exact w s h
  | wait => exact trivial
  | hostDown => exact trivial

theorem GAll.bindE {α β : Type} {ps : List Part} {s : State} {o : Got α} {f : α → State → Got β} (h : GAll (fun x => Ext ps s x) o)
    (k : ∀ v x, Ext ps s x → GAll (fun x => Ext ps s x) (f v x)) : GAll (fun x => Ext ps s x) (o.bind f) :=
  GAll.bind h (fun _ a => a) k

theorem Ext.at1 {α : Type} {a : α} {ps : List Part} {s t : State} (h : Ext ps s t) : Ext ps s (t, a).1 := h

theorem Ext.at2 {α : Type} {a : α} {ps : List Part} {s t : State} (h : Ext ps s t) : Ext ps s (a, t).2 := h

theorem Ext.at21 {α β : Type} {a : α} {b : β} {ps : List Part} {s t : State} (h : Ext ps s t) : Ext ps s (a, t, b).2.1 := h

theorem Ext.at22 {α β : Type} {a : α} {b : β} {ps : List Part} {s t : State} (h : Ext ps s t) : Ext ps s (a, b, t).2.2 := h

theorem Ext.at221 {α β γ : Type} {a : α} {b : β} {c : γ} {ps : List Part} {s t : State} (h : Ext ps s t) : Ext ps s (a, b, t, c).2.2.1 := h

theorem Ext.at222 {α β γ : Type} {a : α} {b : β} {c : γ} {ps : List Part} {s t : State} (h : Ext ps s t) : Ext ps s (a, b, c, t).2.2.2 := h

theorem Ext.ofO {ps : List Part} {s t : State} {o : Option State} (h : OAll (fun x => Ext ps s x) o) (e : o = some t) :
    Ext ps s t := h.all _ e

theorem Ext.ofE {ε : Type} {ps : List Part} {s t : State} {o : Except ε State} (h : EAll (fun x => Ext ps s x) o) (e : o = .ok t) :
    Ext ps s t := h.all _ e

theorem Ext.ofS {ε : Type} {ps : List Part} {s t : State} {o : ε ⊕ State} (h : SAll (fun x => Ext ps s x) o) (e : o = .inr t) :
    Ext ps s t := h.all _ e

theorem Ext.ofO1 {α : Type} {a : α} {ps : List Part} {s t : State} {o : Option (State × α)} (h : OAll (fun x => Ext ps s x.1) o) (e : o = some (t, a)) :
    Ext ps s t := h.all _ e

theorem Ext.ofE1 {α : Type} {a : α} {ε : Type} {ps : List Part} {s t : State} {o : Except ε (State × α)} (h : EAll (fun x => Ext ps s x.1) o) (e : o = .ok (t, a)) :
    Ext ps s t := h.all _ e

theorem Ext.ofS1 {α : Type} {a : α} {ε : Type} {ps : List Part} {s t : State} {o : ε ⊕ (State × α)} (h : SAll (fun x => Ext ps s x.1) o) (e : o = .inr (t, a)) :
    Ext ps s t := h.all _ e

theorem Ext.ofO2 {α : Type} {a : α} {ps : List Part} {s t : State} {o : Option (α × State)} (h : OAll (fun x => Ext ps s x.2) o) (e : o = some (a, t)) :
    Ext ps s t := h.all _ e

theorem Ext.ofE2 {α : Type} {a : α} {ε : Type} {ps : List Part} {s t : State} {o : Except ε (α × State)} (h : EAll (fun x => Ext ps s x.2) o) (e : o = .ok (a, t)) :
    Ext ps s t := h.all _ e

theorem Ext.ofS2 {α : Type} {a : α} {ε : Type} {ps : List Part} {s t : State} {o : ε ⊕ (α × State)} (h : SAll (fun x => Ext ps s x.2) o) (e : o = .inr (a, t)) :
    Ext ps s t := h.all _ e

theorem Ext.ofO21 {α β : Type} {a : α} {b : β} {ps : List Part} {s t : State} {o : Option (α × State × β)} (h : OAll (fun x => Ext ps s x.2.1) o) (e : o = some (a, t, b)) :
    Ext ps s t := h.all _ e

theorem Ext.ofE21 {α β : Type} {a : α} {b : β} {ε : Type} {ps : List Part} {s t : State} {o : Except ε (α × State × β)} (h : EAll (fun x => Ext ps s x.2.1) o) (e : o = .ok (a, t, b)) :
    Ext ps s t := h.all _ e

theorem Ext.ofS21 {α β : Type} {a : α} {b : β} {ε : Type} {ps : List Part} {s t : State} {o : ε ⊕ (α × State × β)} (h : SAll (fun x => Ext ps s x.2.1) o) (e : o = .inr (a, t, b)) :
    Ext ps s t := h.all _ e

theorem Ext.ofO22 {α β : Type} {a : α} {b : β} {ps : List Part} {s t : State} {o : Option (α × β × State)} (h : OAll (fun x => Ext ps s x.2.2) o) (e : o = some (a, b, t)) :
    Ext ps s t := h.all _ e

theorem Ext.ofE22 {α β : Type} {a : α} {b : β} {ε : Type} {ps : List Part} {s t : State} {o : Except ε (α × β × State)} (h : EAll (fun x => Ext ps s x.2.2) o) (e : o = .ok (a, b, t)) :
    Ext ps s t := h.all _ e

theorem Ext.ofS22 {α β : Type} {a : α} {b : β} {ε : Type} {ps : List Part} {s t : State} {o : ε ⊕ (α × β × State)} (h : SAll (fun x => Ext ps s x.2.2) o) (e : o = .inr (a, b, t)) :
    Ext ps s t := h.all _ e

theorem Ext.ofLand_done {α : Type} {a : α} {ps : List Part} {s t : State} {r : Land × α} (h : LAll (fun x => Ext ps s x) r.1)
    (e : r = (.done t, a)) : Ext ps s t := by subst e; exact h

theorem Ext.ofLand_mark {α : Type} {a : α} {ps : List Part} {s t : State} {r : Land × α} (h : LAll (fun x => Ext ps s x) r.1)
    (e : r = (.mark t, a)) : Ext ps s t := by subst e; exact h

theorem Ext.ofLand_fail {α : Type} {a : α} {ps : List Part} {s t : State} {c : Nat} {r : Land × α} (h : LAll (fun x => Ext ps s x) r.1)
    (e : r = (.fail t c, a)) : Ext ps s t := by subst e; exact h

theorem all_of_eq {α : Type} {P : α → Prop} {x y : α} (h : P x) (e : x = y) : P y := e ▸ h

theorem Ext.decRec {ps : List Part} {s : State} {c : Prop} {d : Decidable c} {f : ¬c → State} {g : c → State}
    (hf : ∀ h, Ext ps s (f h)) (hg : ∀ h, Ext ps s (g h)) :
    Ext ps s (Decidable.rec (motive := fun _ => State) f g d) := by cases d <;> first | exact hf _ | exact hg _

theorem Ext.decRec1 {α : Type} {ps : List Part} {s : State} {c : Prop} {d : Decidable c} {f : ¬c → (State × α)} {g : c → (State × α)}
    (hf : ∀ h, Ext ps s (f h).1) (hg : ∀ h, Ext ps s (g h).1) :
    Ext ps s (Decidable.rec (motive := fun _ => (State × α)) f g d).1 := by cases d <;> first | exact hf _ | exact hg _

theorem Ext.decRec2 {α : Type} {ps : List Part} {s : State} {c : Prop} {d : Decidable c} {f : ¬c → (α × State)} {g : c → (α × State)}
    (hf : ∀ h, Ext ps s (f h).2) (hg : ∀ h, Ext ps s (g h).2) :
    Ext ps s (Decidable.rec (motive := fun _ => (α × State)) f g d).2 := by cases d <;> first | exact hf _ | exact hg _

theorem Ext.ofPair {β : Type} {ps : List Part} {s t : State} {x : β} {r : β × State} (h : Ext ps s r.2) (e : r = (x, t)) :
    Ext ps s t := by subst e; exact h

theorem Ext.ofPair1 {β : Type} {ps : List Part} {s t : State} {x : β} {r : State × β} (h : Ext ps s r.1) (e : r = (t, x)) :
    Ext ps s t := by subst e; exact h

theorem Ext.ofPair3 {β γ : Type} {ps : List Part} {s t : State} {x : β} {y : γ} {r : β × γ × State} (h : Ext ps s r.2.2)
    (e : r = (x, y, t)) : Ext ps s t := by subst e; exact h

theorem Memory.wf_move (m l : List Host.Cell) (f : Host.Cell → Nat) (g : Host.Cell → Byte) (h : Memory.wf m = true) :
    Memory.wf (l.foldl (fun t e => tset t 0 (f e) (g e)) m) = true :=
  foldl_all (P := fun t => Memory.wf t = true) h fun a x ha => twf_tset a 0 (f x) (g x) ha

theorem Ext.set_act (s : State) (vact : Tab (List ARec)) : Ext [.act] s { s with act := vact } :=
  ⟨fun q hq => by cases q <;> first | rfl | simp at hq, fun hs => hs⟩

theorem Ext.set_clock (s : State) (vclock : Clock) : Ext [.clock] s { s with clock := vclock } :=
  ⟨fun q hq => by cases q <;> first | rfl | simp at hq, fun hs => hs⟩

theorem Ext.set_cores (s : State) (vcores : Tab Core) : Ext [.cores] s { s with cores := vcores } :=
  ⟨fun q hq => by cases q <;> first | rfl | simp at hq, fun hs => hs⟩

theorem Ext.set_cores_shoals_gpr_preds_lflags_sram_sramUe (s : State) (vcores : Tab Core) (vshoals : Tab (Option Shoal)) (vgpr : Tab W32) (vpreds : Tab (BitVec 8)) (vlflags : Tab (BitVec 4)) (vsram : Tab Byte) (vsramUe : Tab Bool) : Ext [.cores, .shoals, .gpr, .preds, .lflags, .sram, .sramUe] s { s with cores := vcores, shoals := vshoals, gpr := vgpr, preds := vpreds, lflags := vlflags, sram := vsram, sramUe := vsramUe } :=
  ⟨fun q hq => by cases q <;> first | rfl | simp at hq, fun hs => hs⟩

theorem Ext.set_fab (s : State) (vfab : Fab) : Ext [.fab] s { s with fab := vfab } :=
  ⟨fun q hq => by cases q <;> first | rfl | simp at hq, fun hs => hs⟩

theorem Ext.set_free (s : State) (vfree : Nat) : Ext [.free] s { s with free := vfree } :=
  ⟨fun q hq => by cases q <;> first | rfl | simp at hq, fun hs => hs⟩

theorem Ext.set_gpr (s : State) (vgpr : Tab W32) : Ext [.gpr] s { s with gpr := vgpr } :=
  ⟨fun q hq => by cases q <;> first | rfl | simp at hq, fun hs => hs⟩

theorem Ext.set_gpr_preds_lflags (s : State) (vgpr : Tab W32) (vpreds : Tab (BitVec 8)) (vlflags : Tab (BitVec 4)) : Ext [.gpr, .preds, .lflags] s { s with gpr := vgpr, preds := vpreds, lflags := vlflags } :=
  ⟨fun q hq => by cases q <;> first | rfl | simp at hq, fun hs => hs⟩

theorem Ext.set_hlk (s : State) (vhlk : Hlk) : Ext [.hlk] s { s with hlk := vhlk } :=
  ⟨fun q hq => by cases q <;> first | rfl | simp at hq, fun hs => hs⟩

theorem Ext.set_jrn (s : State) (vjrn : Jrn) : Ext [.jrn] s { s with jrn := vjrn } :=
  ⟨fun q hq => by cases q <;> first | rfl | simp at hq, fun hs => hs⟩

theorem Ext.set_jrn_hlk_loads_launches_mem_queues_shl_fab_red_scale (s : State) (vjrn : Jrn) (vhlk : Hlk) (vloads : List PendLoad) (vlaunches : Tab (Option Launch)) (vmem : Mem) (vqueues : Tab (List Op)) (vshl : Tab (List ShlJob)) (vfab : Fab) (vred : Red) (vscale : Scale) (h : Memory.wf s.mem.bytes = true → Memory.wf vmem.bytes = true := by with_reducible exact id) : Ext [.jrn, .hlk, .loads, .launches, .mem, .queues, .shl, .fab, .red, .scale] s { s with jrn := vjrn, hlk := vhlk, loads := vloads, launches := vlaunches, mem := vmem, queues := vqueues, shl := vshl, fab := vfab, red := vred, scale := vscale } :=
  ⟨fun q hq => by cases q <;> first | rfl | simp at hq, h⟩

theorem Ext.set_kernels_gens (s : State) (vkernels : Tab (Option Kernel)) (vgens : Tab Nat) : Ext [.kernels, .gens] s { s with kernels := vkernels, gens := vgens } :=
  ⟨fun q hq => by cases q <;> first | rfl | simp at hq, fun hs => hs⟩

theorem Ext.set_launches (s : State) (vlaunches : Tab (Option Launch)) : Ext [.launches] s { s with launches := vlaunches } :=
  ⟨fun q hq => by cases q <;> first | rfl | simp at hq, fun hs => hs⟩

theorem Ext.set_lflags (s : State) (vlflags : Tab (BitVec 4)) : Ext [.lflags] s { s with lflags := vlflags } :=
  ⟨fun q hq => by cases q <;> first | rfl | simp at hq, fun hs => hs⟩

theorem Ext.set_loads (s : State) (vloads : List PendLoad) : Ext [.loads] s { s with loads := vloads } :=
  ⟨fun q hq => by cases q <;> first | rfl | simp at hq, fun hs => hs⟩

theorem Ext.set_mem (s : State) (vmem : Mem) (h : Memory.wf s.mem.bytes = true → Memory.wf vmem.bytes = true := by with_reducible exact id) : Ext [.mem] s { s with mem := vmem } :=
  ⟨fun q hq => by cases q <;> first | rfl | simp at hq, h⟩

theorem Ext.set_mem_shl (s : State) (vmem : Mem) (vshl : Tab (List ShlJob)) (h : Memory.wf s.mem.bytes = true → Memory.wf vmem.bytes = true := by with_reducible exact id) : Ext [.mem, .shl] s { s with mem := vmem, shl := vshl } :=
  ⟨fun q hq => by cases q <;> first | rfl | simp at hq, h⟩

theorem Ext.set_nextOp (s : State) (vnextOp : Nat) : Ext [.nextOp] s { s with nextOp := vnextOp } :=
  ⟨fun q hq => by cases q <;> first | rfl | simp at hq, fun hs => hs⟩

theorem Ext.set_pending (s : State) (vpending : List Instr) : Ext [.pending] s { s with pending := vpending } :=
  ⟨fun q hq => by cases q <;> first | rfl | simp at hq, fun hs => hs⟩

theorem Ext.set_power (s : State) (vpower : Power) : Ext [.power] s { s with power := vpower } :=
  ⟨fun q hq => by cases q <;> first | rfl | simp at hq, fun hs => hs⟩

theorem Ext.set_power_clock (s : State) (vpower : Power) (vclock : Clock) : Ext [.power, .clock] s { s with power := vpower, clock := vclock } :=
  ⟨fun q hq => by cases q <;> first | rfl | simp at hq, fun hs => hs⟩

theorem Ext.set_power_clock_ras (s : State) (vpower : Power) (vclock : Clock) (vras : Ras) : Ext [.power, .clock, .ras] s { s with power := vpower, clock := vclock, ras := vras } :=
  ⟨fun q hq => by cases q <;> first | rfl | simp at hq, fun hs => hs⟩

theorem Ext.set_power_mem_fab_red_scale (s : State) (vpower : Power) (vmem : Mem) (vfab : Fab) (vred : Red) (vscale : Scale) (h : Memory.wf s.mem.bytes = true → Memory.wf vmem.bytes = true := by with_reducible exact id) : Ext [.power, .mem, .fab, .red, .scale] s { s with power := vpower, mem := vmem, fab := vfab, red := vred, scale := vscale } :=
  ⟨fun q hq => by cases q <;> first | rfl | simp at hq, h⟩

theorem Ext.set_power_regs_snaps_gens_ras_sec (s : State) (vpower : Power) (vregs : Tab Word) (vsnaps : Tab Word) (vgens : Tab Nat) (vras : Ras) (vsec : Sec) : Ext [.power, .regs, .snaps, .gens, .ras, .sec] s { s with power := vpower, regs := vregs, snaps := vsnaps, gens := vgens, ras := vras, sec := vsec } :=
  ⟨fun q hq => by cases q <;> first | rfl | simp at hq, fun hs => hs⟩

theorem Ext.set_preds (s : State) (vpreds : Tab (BitVec 8)) : Ext [.preds] s { s with preds := vpreds } :=
  ⟨fun q hq => by cases q <;> first | rfl | simp at hq, fun hs => hs⟩

theorem Ext.set_queues (s : State) (vqueues : Tab (List Op)) : Ext [.queues] s { s with queues := vqueues } :=
  ⟨fun q hq => by cases q <;> first | rfl | simp at hq, fun hs => hs⟩

theorem Ext.set_ras (s : State) (vras : Ras) : Ext [.ras] s { s with ras := vras } :=
  ⟨fun q hq => by cases q <;> first | rfl | simp at hq, fun hs => hs⟩

theorem Ext.set_ras_free (s : State) (vras : Ras) (vfree : Nat) : Ext [.ras, .free] s { s with ras := vras, free := vfree } :=
  ⟨fun q hq => by cases q <;> first | rfl | simp at hq, fun hs => hs⟩

theorem Ext.set_red (s : State) (vred : Red) : Ext [.red] s { s with red := vred } :=
  ⟨fun q hq => by cases q <;> first | rfl | simp at hq, fun hs => hs⟩

theorem Ext.set_regs (s : State) (vregs : Tab Word) : Ext [.regs] s { s with regs := vregs } :=
  ⟨fun q hq => by cases q <;> first | rfl | simp at hq, fun hs => hs⟩

theorem Ext.set_regs_snaps (s : State) (vregs : Tab Word) (vsnaps : Tab Word) : Ext [.regs, .snaps] s { s with regs := vregs, snaps := vsnaps } :=
  ⟨fun q hq => by cases q <;> first | rfl | simp at hq, fun hs => hs⟩

theorem Ext.set_retained (s : State) (vretained : Tab Byte) : Ext [.retained] s { s with retained := vretained } :=
  ⟨fun q hq => by cases q <;> first | rfl | simp at hq, fun hs => hs⟩

theorem Ext.set_rst (s : State) (vrst : Rst) : Ext [.rst] s { s with rst := vrst } :=
  ⟨fun q hq => by cases q <;> first | rfl | simp at hq, fun hs => hs⟩

theorem Ext.set_rst_jrn_retained_hlk_kernels_loads_launches_queues_act_shl (s : State) (vrst : Rst) (vjrn : Jrn) (vretained : Tab Byte) (vhlk : Hlk) (vkernels : Tab (Option Kernel)) (vloads : List PendLoad) (vlaunches : Tab (Option Launch)) (vqueues : Tab (List Op)) (vact : Tab (List ARec)) (vshl : Tab (List ShlJob)) : Ext [.rst, .jrn, .retained, .hlk, .kernels, .loads, .launches, .queues, .act, .shl] s { s with rst := vrst, jrn := vjrn, retained := vretained, hlk := vhlk, kernels := vkernels, loads := vloads, launches := vlaunches, queues := vqueues, act := vact, shl := vshl } :=
  ⟨fun q hq => by cases q <;> first | rfl | simp at hq, fun hs => hs⟩

theorem Ext.set_scale (s : State) (vscale : Scale) : Ext [.scale] s { s with scale := vscale } :=
  ⟨fun q hq => by cases q <;> first | rfl | simp at hq, fun hs => hs⟩

theorem Ext.set_sec (s : State) (vsec : Sec) : Ext [.sec] s { s with sec := vsec } :=
  ⟨fun q hq => by cases q <;> first | rfl | simp at hq, fun hs => hs⟩

theorem Ext.set_sec_free (s : State) (vsec : Sec) (vfree : Nat) : Ext [.sec, .free] s { s with sec := vsec, free := vfree } :=
  ⟨fun q hq => by cases q <;> first | rfl | simp at hq, fun hs => hs⟩

theorem Ext.set_shl (s : State) (vshl : Tab (List ShlJob)) : Ext [.shl] s { s with shl := vshl } :=
  ⟨fun q hq => by cases q <;> first | rfl | simp at hq, fun hs => hs⟩

theorem Ext.set_shoals (s : State) (vshoals : Tab (Option Shoal)) : Ext [.shoals] s { s with shoals := vshoals } :=
  ⟨fun q hq => by cases q <;> first | rfl | simp at hq, fun hs => hs⟩

theorem Ext.set_snaps (s : State) (vsnaps : Tab Word) : Ext [.snaps] s { s with snaps := vsnaps } :=
  ⟨fun q hq => by cases q <;> first | rfl | simp at hq, fun hs => hs⟩

theorem Ext.set_sram_sramUe (s : State) (vsram : Tab Byte) (vsramUe : Tab Bool) : Ext [.sram, .sramUe] s { s with sram := vsram, sramUe := vsramUe } :=
  ⟨fun q hq => by cases q <;> first | rfl | simp at hq, fun hs => hs⟩

end Sys2Proof.Machine
end

