-- ==== Sys2Proof/Laws/FrameOps.lean ====
section
/-! SUPPORT. What each definition of Machine/Ops.lean may change: every part that its lemma does not name stays, and memory keeps
its canonical form. -/

set_option maxRecDepth 4000

namespace Sys2Proof.Machine

theorem State.wr_ext (a0 : State) (a1 : ℕ) (a2 : Word) :
    Ext [.regs] a0 (@State.wr a0 a1 a2) := by
  unfold Sys2Proof.Machine.State.wr
  refine Ext.step (Ext.set_regs ..) rfl ?_
  exact Ext.refl _ _

theorem State.p_ext (a0 : State) (a1 : Blk) (a2 : ℕ) (a3 : ℕ) (a4 : ℕ) (a5 : ℕ) (a6 : ℕ) :
    Ext [.regs] a0 (@State.p a0 a1 a2 a3 a4 a5 a6) := by
  unfold Sys2Proof.Machine.State.p
  refine Ext.step (State.wr_ext ..) rfl ?_
  exact Ext.refl _ _

theorem State.setMsix_ext (a0 : State) (a1 : ℕ) (a2 : Msix) :
    Ext [.hlk] a0 (@State.setMsix a0 a1 a2) := by
  unfold Sys2Proof.Machine.State.setMsix
  refine Ext.step (Ext.set_hlk ..) rfl ?_
  exact Ext.refl _ _

theorem State.out_ext (a0 : State) (a1 : List OutMsg) :
    Ext [.hlk] a0 (@State.out a0 a1) := by
  unfold Sys2Proof.Machine.State.out
  refine Ext.step (Ext.set_hlk ..) rfl ?_
  exact Ext.refl _ _

theorem State.msix_ext (a0 : State) (a1 : ℕ) :
    Ext [.hlk] a0 (@State.msix a0 a1) := by
  unfold Sys2Proof.Machine.State.msix
  refine Ext.ite ?_ ?_
  refine Ext.step (State.setMsix_ext ..) rfl ?_
  exact Ext.refl _ _
  refine Ext.step (State.out_ext ..) rfl ?_
  exact Ext.refl _ _

theorem State.raise_ext (a0 : State) (a1 : Blk) (a2 : ℕ) (a3 : ℕ) :
    Ext [.regs, .hlk] a0 (@State.raise a0 a1 a2 a3) := by
  unfold Sys2Proof.Machine.State.raise
  refine Ext.ite ?_ ?_
  refine Ext.step (State.msix_ext ..) rfl ?_
  refine Ext.step (State.p_ext ..) rfl ?_
  exact Ext.refl _ _
  refine Ext.step (State.p_ext ..) rfl ?_
  exact Ext.refl _ _

theorem State.freeBytes_ext (a0 : State) (a1 : ℕ) :
    Ext [.free] a0 (@State.freeBytes a0 a1).2 := by
  unfold Sys2Proof.Machine.State.freeBytes
  refine Ext.at2 ?_
  refine Ext.step (Ext.set_free ..) rfl ?_
  exact Ext.refl _ _

theorem State.saturate_ext (a0 : State) (a1 : Blk) (a2 : ℕ) (a3 : ℕ) :
    Ext [.regs, .hlk] a0 (@State.saturate a0 a1 a2 a3) := by
  unfold Sys2Proof.Machine.State.saturate
  refine Ext.ite ?_ ?_
  exact Ext.refl _ _
  (dsimp only; split)
  refine Ext.step (State.raise_ext ..) rfl ?_
  refine Ext.step (State.p_ext ..) rfl ?_
  exact Ext.refl _ _
  refine Ext.step (State.p_ext ..) rfl ?_
  exact Ext.refl _ _

theorem State.bumpBin_ext (a0 : State) (a1 : Blk) (a2 : ℕ) (a3 : ℕ) (a4 : ℕ) :
    Ext [.regs, .hlk] a0 (@State.bumpBin a0 a1 a2 a3 a4) := by
  unfold Sys2Proof.Machine.State.bumpBin
  refine Ext.ite ?_ ?_
  refine Ext.step (State.p_ext ..) rfl ?_
  exact Ext.refl _ _
  refine Ext.step (State.saturate_ext ..) rfl ?_
  exact Ext.refl _ _

theorem State.setReady_ext (a0 : State) (a1 : Blk) (a2 : Nat) (a3 : Bool) : Ext [.rst] a0 (a0.setReady a1 a2 a3) := by
  cases a1 <;> exact Ext.set_rst ..

theorem State.freeByte_ext (a0 : State) :
    Ext [.free] a0 (@State.freeByte a0).2 := by
  unfold Sys2Proof.Machine.State.freeByte
  refine Ext.at2 ?_
  refine Ext.step (Ext.set_free ..) rfl ?_
  exact Ext.refl _ _

theorem State.latchFault_ext (a0 : State) (a1 : Blk) (a2 : ℕ) (a3 : Bool) :
    Ext [.rst] a0 (@State.latchFault a0 a1 a2 a3) := by
  unfold Sys2Proof.Machine.State.latchFault
  refine Ext.step (Ext.set_rst ..) rfl ?_
  exact Ext.refl _ _

theorem State.bump_ext (a0 : State) (a1 : Blk) (a2 : ℕ) (a3 : ℕ) (a4 : ℕ) :
    Ext [.regs, .hlk] a0 (@State.bump a0 a1 a2 a3 a4) := by
  unfold Sys2Proof.Machine.State.bump
  refine Ext.ite ?_ ?_
  exact Ext.refl _ _
  refine Ext.ite ?_ ?_
  refine Ext.step (State.wr_ext ..) rfl ?_
  exact Ext.refl _ _
  refine Ext.step (State.saturate_ext ..) rfl ?_
  refine Ext.step (State.wr_ext ..) rfl ?_
  exact Ext.refl _ _

theorem State.refuse_ext (a0 : State) (a1 : Bool) (a2 : Bool) (a3 : ℕ) (a4 : ℕ) :
    Ext [.regs, .hlk] a0 (@State.refuse a0 a1 a2 a3 a4) := by
  unfold Sys2Proof.Machine.State.refuse
  refine Ext.step (State.bump_ext ..) rfl ?_
  refine Ext.step (State.raise_ext ..) rfl ?_
  refine Ext.step (State.wr_ext ..) rfl ?_
  exact Ext.refl _ _

theorem State.setBasinReady_ext (a0 : State) (a1 : ℕ) (a2 : Bool) :
    Ext [.rst] a0 (@State.setBasinReady a0 a1 a2) := by
  unfold Sys2Proof.Machine.State.setBasinReady
  refine Ext.step (Ext.set_rst ..) rfl ?_
  exact Ext.refl _ _

end Sys2Proof.Machine
end

