-- ==== Sys2Proof/Laws/FrameRecords.lean ====
section
/-! SUPPORT. What each definition of Machine/Records.lean may change: every part that its lemma does not name stays, and memory keeps
its canonical form. -/

set_option maxRecDepth 4000

namespace Sys2Proof.Machine

theorem State.putRecord_ext (a0 : State) (a1 : FRec) :
    Ext [.regs, .hlk, .ras, .free] a0 (@State.putRecord a0 a1) := by
  unfold Sys2Proof.Machine.State.putRecord
  refine Ext.ite ?_ ?_
  refine Ext.step (Ext.set_ras ..) rfl ?_
  exact Ext.refl _ _
  refine Ext.ite ?_ ?_
  refine Ext.step (Ext.set_ras ..) rfl ?_
  refine Ext.step (State.bump_ext ..) rfl ?_
  refine Ext.step (Ext.set_ras_free ..) rfl ?_
  exact Ext.refl _ _
  (dsimp only; split)
  refine Ext.step (Ext.set_ras ..) rfl ?_
  refine Ext.step (State.bump_ext ..) rfl ?_
  refine Ext.step (Ext.set_ras_free ..) rfl ?_
  exact Ext.refl _ _
  refine Ext.step (State.raise_ext ..) rfl ?_
  refine Ext.step (State.bump_ext ..) rfl ?_
  refine Ext.step (State.bump_ext ..) rfl ?_
  refine Ext.step (Ext.set_ras_free ..) rfl ?_
  exact Ext.refl _ _

theorem State.record_ext (a0 : State) (a1 : Blk) (a2 : ℕ) (a3 : ℕ) (a4 : ℕ) (a5 : ℕ) (a6 : ℕ) (a7 : Word) (a8 : ℕ) (a9 : ℕ) (a10 : ℕ) :
    Ext [.regs, .hlk, .ras, .free] a0 (@State.record a0 a1 a2 a3 a4 a5 a6 a7 a8 a9 a10) := by
  unfold Sys2Proof.Machine.State.record
  refine Ext.step (State.putRecord_ext ..) rfl ?_
  exact Ext.refl _ _

theorem State.corrected_ext (a0 : State) (a1 : Blk) (a2 : ℕ) (a3 : ℕ) (a4 : ℕ) (a5 : ℕ) :
    Ext [.regs, .hlk, .ras, .free] a0 (@State.corrected a0 a1 a2 a3 a4 a5) := by
  unfold Sys2Proof.Machine.State.corrected
  refine Ext.step (State.record_ext ..) rfl ?_
  refine Ext.step (State.bump_ext ..) rfl ?_
  exact Ext.refl _ _

theorem State.requestReplay_ext (a0 : State) (a1 : Word) (a2 : ℕ) :
    Ext [.regs, .hlk] a0 (@State.requestReplay a0 a1 a2) := by
  unfold Sys2Proof.Machine.State.requestReplay
  refine Ext.ite ?_ ?_
  exact Ext.refl _ _
  refine Ext.step (State.raise_ext ..) rfl ?_
  refine Ext.step (State.bump_ext ..) rfl ?_
  refine Ext.step (State.bump_ext ..) rfl ?_
  refine Ext.step (State.wr_ext ..) rfl ?_
  exact Ext.refl _ _

theorem State.setPcore_ext (a0 : State) (a1 : ℕ) (a2 : PhysCore) :
    Ext [.ras] a0 (@State.setPcore a0 a1 a2) := by
  unfold Sys2Proof.Machine.State.setPcore
  refine Ext.step (Ext.set_ras ..) rfl ?_
  exact Ext.refl _ _

theorem State.spareLow_ext (a0 : ℕ) (a1 : State) (a2 : ℕ) :
    Ext [.regs, .hlk] a1 (@State.spareLow a0 a1 a2) := by
  unfold Sys2Proof.Machine.State.spareLow
  refine Ext.ite ?_ ?_
  refine Ext.step (State.raise_ext ..) rfl ?_
  exact Ext.refl _ _
  exact Ext.refl _ _

theorem State.retireMark_ext (a0 : State) (a1 : ℕ) :
    Ext [.regs, .hlk, .ras, .free] a0 (@State.retireMark a0 a1) := by
  unfold Sys2Proof.Machine.State.retireMark
  refine Ext.step (State.spareLow_ext ..) rfl ?_
  refine Ext.step (State.raise_ext ..) rfl ?_
  refine Ext.step (State.bump_ext ..) rfl ?_
  refine Ext.step (State.bump_ext ..) rfl ?_
  refine Ext.step (State.record_ext ..) rfl ?_
  refine Ext.step (Ext.set_ras ..) rfl ?_
  refine Ext.step (State.setPcore_ext ..) rfl ?_
  exact Ext.refl _ _

theorem State.coreLost_ext (a0 : State) (a1 : ℕ) :
    Ext [.rst] a0 (@State.coreLost a0 a1) := by
  unfold Sys2Proof.Machine.State.coreLost
  refine Ext.step (State.setBasinReady_ext ..) rfl ?_
  refine Ext.step (State.latchFault_ext ..) rfl ?_
  refine Ext.step (Ext.set_rst ..) rfl ?_
  exact Ext.refl _ _

theorem State.setCore_ext (a0 : State) (a1 : ℕ) (a2 : Core) :
    Ext [.cores] a0 (@State.setCore a0 a1 a2) := by
  unfold Sys2Proof.Machine.State.setCore
  refine Ext.step (Ext.set_cores ..) rfl ?_
  exact Ext.refl _ _

theorem State.requestSwap_ext (a0 : State) (a1 : ℕ) (a2 : Bool) :
    Ext [.regs, .hlk, .cores, .ras, .free] a0 (@State.requestSwap a0 a1 a2) := by
  unfold Sys2Proof.Machine.State.requestSwap
  (dsimp only; split)
  split
  refine Ext.step (State.record_ext ..) rfl ?_
  exact Ext.refl _ _
  refine Ext.step (State.spareLow_ext ..) rfl ?_
  refine Ext.step (State.setCore_ext ..) rfl ?_
  exact Ext.refl _ _
  refine Ext.step (State.setCore_ext ..) rfl ?_
  exact Ext.refl _ _
  refine Ext.step (State.setCore_ext ..) rfl ?_
  exact Ext.refl _ _
  refine Ext.step (State.setCore_ext ..) rfl ?_
  exact Ext.refl _ _

theorem State.retire_ext (a0 : State) (a1 : ℕ) :
    Ext [.rst, .regs, .hlk, .cores, .ras, .free] a0 (@State.retire a0 a1) := by
  unfold Sys2Proof.Machine.State.retire
  refine Ext.ite ?_ ?_
  exact Ext.refl _ _
  (dsimp only; split)
  refine Ext.step (State.retireMark_ext ..) rfl ?_
  exact Ext.refl _ _
  refine Ext.ite ?_ ?_
  refine Ext.step (State.coreLost_ext ..) rfl ?_
  refine Ext.step (State.retireMark_ext ..) rfl ?_
  exact Ext.refl _ _
  refine Ext.step (State.requestSwap_ext ..) rfl ?_
  refine Ext.step (State.retireMark_ext ..) rfl ?_
  exact Ext.refl _ _

theorem State.coreError_ext (a0 : State) (a1 : ℕ) :
    Ext [.rst, .regs, .hlk, .cores, .ras, .free] a0 (@State.coreError a0 a1) := by
  unfold Sys2Proof.Machine.State.coreError
  refine Ext.ite ?_ ?_
  refine Ext.step (State.retire_ext ..) rfl ?_
  refine Ext.step (State.setPcore_ext ..) rfl ?_
  refine Ext.step (State.bump_ext ..) rfl ?_
  exact Ext.refl _ _
  refine Ext.step (State.raise_ext ..) rfl ?_
  refine Ext.step (State.setPcore_ext ..) rfl ?_
  refine Ext.step (State.bump_ext ..) rfl ?_
  exact Ext.refl _ _

theorem State.detected_ext (a0 : State) (a1 : Blk) (a2 : ℕ) (a3 : ℕ) (a4 : Word) (a5 : (Option ℕ)) (a6 : ℕ) (a7 : ℕ) :
    Ext [.rst, .regs, .hlk, .cores, .ras, .free] a0 (@State.detected a0 a1 a2 a3 a4 a5 a6 a7) := by
  unfold Sys2Proof.Machine.State.detected
  refine Ext.ite ?_ ?_
  refine Ext.step (State.record_ext ..) rfl ?_
  refine Ext.step (Ext.set_free ..) rfl ?_
  refine Ext.step (State.bump_ext ..) rfl ?_
  exact Ext.refl _ _
  (dsimp only; split)
  refine Ext.step (State.coreError_ext ..) rfl ?_
  refine Ext.step (State.record_ext ..) rfl ?_
  refine Ext.step (State.requestReplay_ext ..) rfl ?_
  refine Ext.step (State.bump_ext ..) rfl ?_
  exact Ext.refl _ _
  refine Ext.step (State.record_ext ..) rfl ?_
  refine Ext.step (State.requestReplay_ext ..) rfl ?_
  refine Ext.step (State.bump_ext ..) rfl ?_
  exact Ext.refl _ _

theorem State.setPhysOf_ext (a0 : State) (a1 : ℕ) (a2 : ℕ) :
    Ext [.ras] a0 (@State.setPhysOf a0 a1 a2) := by
  unfold Sys2Proof.Machine.State.setPhysOf
  refine Ext.step (Ext.set_ras ..) rfl ?_
  exact Ext.refl _ _

end Sys2Proof.Machine
end

