-- ==== Sys2Proof/Laws/FrameMemory.lean ====
section
/-! SUPPORT. What each definition of Machine/Memory.lean may change: every part that its lemma does not name stays, and memory keeps
its canonical form. -/

set_option maxRecDepth 4000

namespace Sys2Proof.Machine

theorem State.cmdStart_ext (a0 : State) (a1 : ℕ) (a2 : ℕ) :
    Ext [.regs] a0 (@State.cmdStart a0 a1 a2) := by
  unfold Sys2Proof.Machine.State.cmdStart
  refine Ext.step (State.wr_ext ..) rfl ?_
  exact Ext.refl _ _

theorem State.cmdEnd_ext (a0 : State) (a1 : ℕ) (a2 : ℕ) :
    Ext [.regs, .hlk] a0 (@State.cmdEnd a0 a1 a2) := by
  unfold Sys2Proof.Machine.State.cmdEnd
  refine Ext.step (State.raise_ext ..) rfl ?_
  refine Ext.step (State.wr_ext ..) rfl ?_
  exact Ext.refl _ _

theorem State.setSlice_ext (a0 : State) (a1 : ℕ) (a2 : List Xent) :
    Ext [.mem] a0 (@State.setSlice a0 a1 a2) := by
  unfold Sys2Proof.Machine.State.setSlice
  refine Ext.step (Ext.set_mem ..) rfl ?_
  exact Ext.refl _ _

theorem State.installIn_ext (a0 : State) (a1 : ℕ) (a2 : Xent) :
    Ext [.regs, .hlk, .mem] a0 (@State.installIn a0 a1 a2) := by
  unfold Sys2Proof.Machine.State.installIn
  refine Ext.ite ?_ ?_
  refine Ext.step (State.bump_ext ..) rfl ?_
  refine Ext.step (State.setSlice_ext ..) rfl ?_
  exact Ext.refl _ _
  refine Ext.step (State.setSlice_ext ..) rfl ?_
  exact Ext.refl _ _

theorem State.xltInstall_ext (a0 : State) (a1 : ℕ) :
    Ext [.regs, .hlk, .mem] a0 (@State.xltInstall a0 a1) := by
  unfold Sys2Proof.Machine.State.xltInstall
  refine Ext.ite ?_ ?_
  refine Ext.step (State.cmdEnd_ext ..) rfl ?_
  refine Ext.step (State.cmdStart_ext ..) rfl ?_
  exact Ext.refl _ _
  refine Ext.ite ?_ ?_
  refine Ext.step (State.cmdEnd_ext ..) rfl ?_
  refine Ext.step (State.cmdStart_ext ..) rfl ?_
  exact Ext.refl _ _
  (dsimp only; split)
  refine Ext.step (State.cmdEnd_ext ..) rfl ?_
  refine Ext.step (State.cmdStart_ext ..) rfl ?_
  exact Ext.refl _ _
  refine Ext.step (State.cmdEnd_ext ..) rfl ?_
  refine foldl_all (P := fun x => Ext _ _ x) ?_ ?_
  refine Ext.step (State.cmdStart_ext ..) rfl ?_
  exact Ext.refl _ _
  intro _
  intro _
  intro _
  refine Ext.step (State.installIn_ext ..) rfl ?_
  with_reducible assumption

theorem State.research_ext (a0 : State) (a1 : ℕ) (a2 : ℕ) (a3 : ℕ) :
    Ext [.mem] a0 (@State.research a0 a1 a2 a3) := by
  unfold Sys2Proof.Machine.State.research
  refine Ext.step (Ext.set_mem ..) rfl ?_
  exact Ext.refl _ _

theorem State.xltUpdate_ext (a0 : State) (a1 : ℕ) :
    Ext [.regs, .hlk, .mem] a0 (@State.xltUpdate a0 a1) := by
  unfold Sys2Proof.Machine.State.xltUpdate
  refine Ext.ite ?_ ?_
  refine Ext.step (State.cmdEnd_ext ..) rfl ?_
  refine Ext.step (State.cmdStart_ext ..) rfl ?_
  exact Ext.refl _ _
  refine Ext.ite ?_ ?_
  refine Ext.step (State.cmdEnd_ext ..) rfl ?_
  refine Ext.step (State.cmdStart_ext ..) rfl ?_
  exact Ext.refl _ _
  refine Ext.ite ?_ ?_
  refine Ext.step (State.cmdEnd_ext ..) rfl ?_
  refine Ext.step (State.cmdStart_ext ..) rfl ?_
  exact Ext.refl _ _
  refine Ext.step (State.research_ext ..) rfl ?_
  refine Ext.step (State.cmdEnd_ext ..) rfl ?_
  refine foldl_all (P := fun x => Ext _ _ x) ?_ ?_
  refine Ext.step (State.cmdStart_ext ..) rfl ?_
  exact Ext.refl _ _
  intro _
  intro _
  intro _
  refine Ext.step (State.setSlice_ext ..) rfl ?_
  with_reducible assumption

theorem State.xltInvalidate_ext (a0 : State) (a1 : ℕ) (a2 : ℕ) (a3 : ℕ) (a4 : ℕ) (a5 : Xent → Bool) :
    Ext [.regs, .mem] a0 (@State.xltInvalidate a0 a1 a2 a3 a4 a5) := by
  unfold Sys2Proof.Machine.State.xltInvalidate
  refine Ext.step (Ext.set_mem ..) rfl ?_
  refine foldl_all (P := fun x => Ext _ _ x) ?_ ?_
  refine Ext.step (State.cmdStart_ext ..) rfl ?_
  exact Ext.refl _ _
  intro _
  intro _
  intro _
  refine Ext.step (State.setSlice_ext ..) rfl ?_
  with_reducible assumption

theorem State.setCmdData_ext (a0 : State) (a1 : Bytes) :
    Ext [.regs] a0 (@State.setCmdData a0 a1) := by
  unfold Sys2Proof.Machine.State.setCmdData
  refine foldl_all (P := fun x => Ext _ _ x) ?_ ?_
  exact Ext.refl _ _
  intro _
  intro _
  intro _
  refine Ext.step (State.wr_ext ..) rfl ?_
  with_reducible assumption

theorem State.xltLookup_ext (a0 : State) (a1 : ℕ) :
    Ext [.regs, .hlk] a0 (@State.xltLookup a0 a1) := by
  unfold Sys2Proof.Machine.State.xltLookup
  (dsimp only; split)
  refine Ext.step (State.cmdEnd_ext ..) rfl ?_
  refine Ext.step (State.setCmdData_ext ..) rfl ?_
  refine Ext.step (State.cmdStart_ext ..) rfl ?_
  exact Ext.refl _ _
  refine Ext.step (State.cmdEnd_ext ..) rfl ?_
  refine Ext.step (State.cmdStart_ext ..) rfl ?_
  exact Ext.refl _ _

theorem State.xltRun_ext (a0 : State) (a1 : ℕ) (a2 : ℕ) :
    Ext [.regs, .hlk, .mem] a0 (@State.xltRun a0 a1 a2) := by
  unfold Sys2Proof.Machine.State.xltRun
  (dsimp only; split)
  refine Ext.step (State.xltInstall_ext ..) rfl ?_
  exact Ext.refl _ _
  refine Ext.step (State.xltUpdate_ext ..) rfl ?_
  exact Ext.refl _ _
  refine Ext.step (State.xltInvalidate_ext ..) rfl ?_
  exact Ext.refl _ _
  refine Ext.step (State.xltInvalidate_ext ..) rfl ?_
  exact Ext.refl _ _
  refine Ext.step (State.xltInvalidate_ext ..) rfl ?_
  exact Ext.refl _ _
  refine Ext.step (State.xltLookup_ext ..) rfl ?_
  exact Ext.refl _ _
  exact Ext.refl _ _

theorem State.markHeld_ext (a0 : State) (a1 : ℕ) (a2 : ℕ) (a3 : Bool) :
    Ext [.queues] a0 (@State.markHeld a0 a1 a2 a3) := by
  unfold Sys2Proof.Machine.State.markHeld
  (dsimp only; split)
  refine Ext.step (Ext.set_queues ..) rfl ?_
  exact Ext.refl _ _
  exact Ext.refl _ _

theorem State.resume_ext (a0 : State) (a1 : XFault) :
    Ext [.mem, .queues] a0 (@State.resume a0 a1) := by
  unfold Sys2Proof.Machine.State.resume
  refine foldl_all (P := fun x => Ext _ _ x) ?_ ?_
  refine Ext.step (Ext.set_mem ..) rfl ?_
  exact Ext.refl _ _
  intro _
  intro _
  intro _
  refine Ext.ite ?_ ?_
  with_reducible assumption
  refine Ext.step (State.markHeld_ext ..) rfl ?_
  with_reducible assumption

theorem xltGo_ext (a0 : State) (a1 : ℕ) (a2 : BitVec 4) :
    Ext [.regs, .hlk, .mem] a0 (@xltGo a0 a1 a2) := by
  unfold Sys2Proof.Machine.xltGo
  refine Ext.ite ?_ ?_
  refine Ext.step (State.refuse_ext ..) rfl ?_
  exact Ext.refl _ _
  refine Ext.ite ?_ ?_
  refine Ext.ite ?_ ?_
  refine Ext.step (State.cmdStart_ext ..) rfl ?_
  exact Ext.refl _ _
  refine Ext.step (State.xltRun_ext ..) rfl ?_
  exact Ext.refl _ _
  exact Ext.refl _ _

theorem execInvAll_ext (a0 : BitVec 4) (a1 : State) :
    HAll (fun x => Ext [.regs, .hlk, .mem] a1 x) (@execInvAll a0 a1) := by
  unfold Sys2Proof.Machine.execInvAll
  refine HAll.next ?_
  refine Ext.step (xltGo_ext ..) rfl ?_
  exact Ext.refl _ _

theorem State.countBytes_ext (a0 : State) (a1 : ℕ) (a2 : ℕ) (a3 : Bool) :
    Ext [.regs, .hlk] a0 (@State.countBytes a0 a1 a2 a3) := by
  unfold Sys2Proof.Machine.State.countBytes
  refine foldl_all (P := fun x => Ext _ _ x) ?_ ?_
  exact Ext.refl _ _
  intro _
  intro _
  intro _
  split
  refine Ext.step (State.bump_ext ..) rfl ?_
  with_reducible assumption
  refine Ext.step (State.bump_ext ..) rfl ?_
  with_reducible assumption
  with_reducible assumption

theorem State.setPoison_ext (a0 : State) (a1 : ℕ) (a2 : Bool) :
    Ext [.mem] a0 (@State.setPoison a0 a1 a2) := by
  unfold Sys2Proof.Machine.State.setPoison
  refine Ext.step (Ext.set_mem ..) rfl ?_
  exact Ext.refl _ _

theorem State.clearPoison_ext (a0 : State) (a1 : ℕ) (a2 : ℕ) :
    Ext [.mem] a0 (@State.clearPoison a0 a1 a2) := by
  unfold Sys2Proof.Machine.State.clearPoison
  refine foldl_all (P := fun x => Ext _ _ x) ?_ ?_
  exact Ext.refl _ _
  intro _
  intro _
  intro _
  refine Ext.ite ?_ ?_
  refine Ext.step (State.setPoison_ext ..) rfl ?_
  with_reducible assumption
  with_reducible assumption

theorem State.countPartial_ext (a0 : State) (a1 : ℕ) (a2 : ℕ) :
    Ext [.regs, .hlk] a0 (@State.countPartial a0 a1 a2) := by
  unfold Sys2Proof.Machine.State.countPartial
  refine foldl_all (P := fun x => Ext _ _ x) ?_ ?_
  exact Ext.refl _ _
  intro _
  intro _
  intro _
  (dsimp only; split)
  refine Ext.ite ?_ ?_
  with_reducible assumption
  refine Ext.step (State.bump_ext ..) rfl ?_
  refine Ext.step (State.bump_ext ..) rfl ?_
  with_reducible assumption
  with_reducible assumption

theorem State.storePhys_ext (a0 : State) (a1 : ℕ) (a2 : Bytes) :
    Ext [.rst, .regs, .hlk, .cores, .mem, .ras, .free] a0 (@State.storePhys a0 a1 a2) := by
  unfold Sys2Proof.Machine.State.storePhys
  refine foldl_all (P := fun x => Ext _ _ x) ?_ ?_
  refine Ext.step (State.countBytes_ext ..) rfl ?_
  refine Ext.step (State.clearPoison_ext ..) rfl ?_
  refine Ext.step (State.countPartial_ext ..) rfl ?_
  exact Ext.refl _ _
  intro _
  intro _
  intro _
  refine Ext.ite ?_ ?_
  refine Ext.step (State.detected_ext ..) rfl ?_
  refine Ext.step (State.bump_ext ..) rfl ?_
  refine Ext.step (State.bump_ext ..) rfl ?_
  with_reducible assumption
  refine Ext.step (Ext.set_mem (h := fun h => by dsimp only; exact Memory.wf_wrBytes _ _ _ h) ..) rfl ?_
  with_reducible assumption

theorem State.memErr_ext (a0 : State) (a1 : ℕ) (a2 : ℕ) (a3 : Bool) (a4 : ℕ) :
    Ext [.rst, .regs, .hlk, .cores, .mem, .ras, .free] a0 (@State.memErr a0 a1 a2 a3 a4) := by
  unfold Sys2Proof.Machine.State.memErr
  refine Ext.ite ?_ ?_
  refine Ext.step (State.detected_ext ..) rfl ?_
  refine Ext.step (State.raise_ext ..) rfl ?_
  refine Ext.step (State.bump_ext ..) rfl ?_
  refine Ext.step (State.bump_ext ..) rfl ?_
  refine Ext.ite ?_ ?_
  refine Ext.step (State.setPoison_ext ..) rfl ?_
  refine Ext.step (State.wr_ext ..) rfl ?_
  exact Ext.refl _ _
  refine Ext.step (State.wr_ext ..) rfl ?_
  exact Ext.refl _ _
  refine Ext.step (State.corrected_ext ..) rfl ?_
  refine Ext.step (State.raise_ext ..) rfl ?_
  refine Ext.step (State.bump_ext ..) rfl ?_
  refine Ext.step (State.bump_ext ..) rfl ?_
  refine Ext.step (State.wr_ext ..) rfl ?_
  exact Ext.refl _ _

theorem execMemScrubStep_ext (a0 : ℕ) (a1 : ℕ) (a2 : Bool) (a3 : Bool) (a4 : BitVec 4) (a5 : Bool) (a6 : State) :
    HAll (fun x => Ext [.rst, .regs, .hlk, .cores, .mem, .ras, .free] a6 x) (@execMemScrubStep a0 a1 a2 a3 a4 a5 a6) := by
  unfold Sys2Proof.Machine.execMemScrubStep
  refine HAll.next ?_
  refine Ext.ite ?_ ?_
  refine Ext.ite ?_ ?_
  refine Ext.step (State.raise_ext ..) rfl ?_
  refine Ext.step (State.bump_ext ..) rfl ?_
  refine Ext.ite ?_ ?_
  refine Ext.step (State.memErr_ext ..) rfl ?_
  exact Ext.refl _ _
  refine Ext.ite ?_ ?_
  refine Ext.step (State.memErr_ext ..) rfl ?_
  exact Ext.refl _ _
  exact Ext.refl _ _
  refine Ext.ite ?_ ?_
  refine Ext.step (State.memErr_ext ..) rfl ?_
  exact Ext.refl _ _
  refine Ext.ite ?_ ?_
  refine Ext.step (State.memErr_ext ..) rfl ?_
  exact Ext.refl _ _
  exact Ext.refl _ _
  exact Ext.refl _ _

theorem State.setPpr_ext (a0 : State) (a1 : ℕ) :
    Ext [.regs] a0 (@State.setPpr a0 a1) := by
  unfold Sys2Proof.Machine.State.setPpr
  refine Ext.step (State.wr_ext ..) rfl ?_
  exact Ext.refl _ _

theorem execUpdate_ext (a0 : BitVec 4) (a1 : State) :
    HAll (fun x => Ext [.regs, .hlk, .mem] a1 x) (@execUpdate a0 a1) := by
  unfold Sys2Proof.Machine.execUpdate
  refine HAll.next ?_
  refine Ext.step (xltGo_ext ..) rfl ?_
  exact Ext.refl _ _

theorem State.poisonRange_ext (a0 : State) (a1 : ℕ) (a2 : ℕ) :
    Ext [.mem] a0 (@State.poisonRange a0 a1 a2) := by
  unfold Sys2Proof.Machine.State.poisonRange
  refine foldl_all (P := fun x => Ext _ _ x) ?_ ?_
  exact Ext.refl _ _
  intro _
  intro _
  intro _
  refine Ext.ite ?_ ?_
  refine Ext.step (State.setPoison_ext ..) rfl ?_
  with_reducible assumption
  with_reducible assumption

theorem State.vpoison_ext (a0 : State) (a1 : ℕ) (a2 : ℕ) (a3 : ℕ) :
    Ext [.mem] a0 (@State.vpoison a0 a1 a2 a3) := by
  unfold Sys2Proof.Machine.State.vpoison
  split
  refine foldl_all (P := fun x => Ext _ _ x) ?_ ?_
  exact Ext.refl _ _
  intro _
  intro _
  intro _
  refine Ext.step (State.poisonRange_ext ..) rfl ?_
  with_reducible assumption
  exact Ext.refl _ _

theorem State.holdQueue_ext (a0 : State) (a1 : ℕ) (a2 : ℕ) :
    Ext [.regs, .hlk, .queues] a0 (@State.holdQueue a0 a1 a2) := by
  unfold Sys2Proof.Machine.State.holdQueue
  (dsimp only; split)
  exact Ext.refl _ _
  refine Ext.ite ?_ ?_
  exact Ext.refl _ _
  refine Ext.step (State.bump_ext ..) rfl ?_
  refine Ext.step (State.raise_ext ..) rfl ?_
  refine Ext.ite ?_ ?_
  refine Ext.step (State.wr_ext ..) rfl ?_
  refine Ext.step (State.markHeld_ext ..) rfl ?_
  exact Ext.refl _ _
  refine Ext.step (State.markHeld_ext ..) rfl ?_
  exact Ext.refl _ _

theorem State.setFault_ext (a0 : State) (a1 : XFault) :
    Ext [.mem] a0 (@State.setFault a0 a1) := by
  unfold Sys2Proof.Machine.State.setFault
  refine Ext.step (Ext.set_mem ..) rfl ?_
  exact Ext.refl _ _

theorem State.toHost_ext (a0 : State) (a1 : XFault) (a2 : ℕ) :
    Ext [.regs, .hlk, .mem] a0 (@State.toHost a0 a1 a2) := by
  unfold Sys2Proof.Machine.State.toHost
  refine Ext.ite ?_ ?_
  refine Ext.step (State.raise_ext ..) rfl ?_
  refine Ext.step (State.bump_ext ..) rfl ?_
  refine Ext.step (State.setFault_ext ..) rfl ?_
  exact Ext.refl _ _
  refine Ext.step (State.setFault_ext ..) rfl ?_
  exact Ext.refl _ _

theorem State.pullHost_ext (a0 : State) :
    Ext [.regs, .hlk, .mem] a0 (@State.pullHost a0) := by
  unfold Sys2Proof.Machine.State.pullHost
  split
  refine Ext.ite ?_ ?_
  refine Ext.step (State.toHost_ext ..) rfl ?_
  exact Ext.refl _ _
  exact Ext.refl _ _
  exact Ext.refl _ _

theorem State.cowFault_ext (a0 : State) (a1 : ℕ) (a2 : ℕ) (a3 : ℕ) (a4 : ℕ) :
    Ext [.regs, .hlk, .mem, .queues] a0 (@State.cowFault a0 a1 a2 a3 a4) := by
  unfold Sys2Proof.Machine.State.cowFault
  (dsimp only; split)
  refine Ext.step (State.setFault_ext ..) rfl ?_
  refine Ext.step (State.holdQueue_ext ..) rfl ?_
  exact Ext.refl _ _
  refine Ext.step (State.pullHost_ext ..) rfl ?_
  refine Ext.step (State.bump_ext ..) rfl ?_
  refine Ext.step (Ext.set_mem ..) rfl ?_
  refine Ext.step (State.holdQueue_ext ..) rfl ?_
  exact Ext.refl _ _

theorem State.touch_ext (a0 : State) (a1 : ℕ) (a2 : ℕ) :
    Ext [.mem] a0 (@State.touch a0 a1 a2) := by
  unfold Sys2Proof.Machine.State.touch
  split
  exact Ext.refl _ _
  refine Ext.step (State.setSlice_ext ..) rfl ?_
  exact Ext.refl _ _

theorem execInvUnpinned_ext (a0 : BitVec 4) (a1 : State) :
    HAll (fun x => Ext [.regs, .hlk, .mem] a1 x) (@execInvUnpinned a0 a1) := by
  unfold Sys2Proof.Machine.execInvUnpinned
  refine HAll.next ?_
  refine Ext.step (xltGo_ext ..) rfl ?_
  exact Ext.refl _ _

theorem State.forget_ext (a0 : State) (a1 : ℕ) (a2 : ℕ) :
    Ext [.mem] a0 (@State.forget a0 a1 a2) := by
  unfold Sys2Proof.Machine.State.forget
  refine Ext.step (Ext.set_mem (h := fun h => by dsimp only; exact Memory.wf_tdrop _ _ h) ..) rfl ?_
  exact Ext.refl _ _

theorem State.sdmCfg_ext (a0 : State) (a1 : ℕ) (a2 : Word) :
    Ext [.regs, .hlk, .mem] a0 (@State.sdmCfg a0 a1 a2) := by
  unfold Sys2Proof.Machine.State.sdmCfg
  refine Ext.ite ?_ ?_
  refine Ext.step (State.wr_ext ..) rfl ?_
  exact Ext.refl _ _
  refine Ext.ite ?_ ?_
  refine Ext.step (State.forget_ext ..) rfl ?_
  refine Ext.step (State.wr_ext ..) rfl ?_
  exact Ext.refl _ _
  refine Ext.step (State.raise_ext ..) rfl ?_
  exact Ext.refl _ _

theorem State.applyLayout_ext (a0 : State) :
    Ext [.regs, .hlk] a0 (@State.applyLayout a0) := by
  unfold Sys2Proof.Machine.State.applyLayout
  refine Ext.step (State.wr_ext ..) rfl ?_
  refine foldl_all (P := fun x => Ext _ _ x) ?_ ?_
  exact Ext.refl _ _
  intro _
  intro _
  intro _
  (dsimp only; split)
  refine Ext.ite ?_ ?_
  refine Ext.step (State.raise_ext ..) rfl ?_
  refine Ext.step (State.wr_ext ..) rfl ?_
  with_reducible assumption
  refine Ext.step (State.wr_ext ..) rfl ?_
  with_reducible assumption
  with_reducible assumption

theorem State.vread_ext (a0 : State) (a1 : ℕ) (a2 : ℕ) (a3 : ℕ) :
    VAll (fun x => Ext [.regs, .hlk, .mem] a0 x) (@State.vread a0 a1 a2 a3) := by
  unfold Sys2Proof.Machine.State.vread
  (dsimp only; split)
  refine VAll.held ?_
  refine VAll.ite ?_ ?_
  refine VAll.hostDown ?_
  refine VAll.ite ?_ ?_
  refine VAll.held ?_
  refine VAll.ok ?_
  refine foldl_all (P := fun x => Ext _ _ x) ?_ ?_
  exact Ext.refl _ _
  intro _
  intro _
  intro _
  refine Ext.step (State.countBytes_ext ..) rfl ?_
  refine Ext.step (State.touch_ext ..) rfl ?_
  with_reducible assumption

theorem State.sdmErr_ext (a0 : State) (a1 : ℕ) (a2 : ℕ) (a3 : Bool) :
    Ext [.rst, .regs, .hlk, .cores, .mem, .ras, .free] a0 (@State.sdmErr a0 a1 a2 a3) := by
  unfold Sys2Proof.Machine.State.sdmErr
  refine Ext.ite ?_ ?_
  refine Ext.step (State.detected_ext ..) rfl ?_
  refine Ext.step (State.raise_ext ..) rfl ?_
  refine Ext.step (State.bump_ext ..) rfl ?_
  refine Ext.step (State.bump_ext ..) rfl ?_
  refine Ext.step (State.setPoison_ext ..) rfl ?_
  refine Ext.step (State.wr_ext ..) rfl ?_
  exact Ext.refl _ _
  refine Ext.step (State.corrected_ext ..) rfl ?_
  refine Ext.step (State.raise_ext ..) rfl ?_
  refine Ext.step (State.bump_ext ..) rfl ?_
  refine Ext.step (State.bump_ext ..) rfl ?_
  refine Ext.step (State.wr_ext ..) rfl ?_
  exact Ext.refl _ _

theorem execSdmScrubStep_ext (a0 : ℕ) (a1 : ℕ) (a2 : Bool) (a3 : Bool) (a4 : Bool) (a5 : State) :
    HAll (fun x => Ext [.rst, .regs, .hlk, .cores, .mem, .ras, .free] a5 x) (@execSdmScrubStep a0 a1 a2 a3 a4 a5) := by
  unfold Sys2Proof.Machine.execSdmScrubStep
  refine HAll.next ?_
  refine Ext.ite ?_ ?_
  refine Ext.ite ?_ ?_
  refine Ext.step (State.raise_ext ..) rfl ?_
  refine Ext.step (State.bump_ext ..) rfl ?_
  refine Ext.ite ?_ ?_
  refine Ext.step (State.sdmErr_ext ..) rfl ?_
  exact Ext.refl _ _
  refine Ext.ite ?_ ?_
  refine Ext.step (State.sdmErr_ext ..) rfl ?_
  exact Ext.refl _ _
  exact Ext.refl _ _
  refine Ext.ite ?_ ?_
  refine Ext.step (State.sdmErr_ext ..) rfl ?_
  exact Ext.refl _ _
  refine Ext.ite ?_ ?_
  refine Ext.step (State.sdmErr_ext ..) rfl ?_
  exact Ext.refl _ _
  exact Ext.refl _ _
  exact Ext.refl _ _

theorem execXltInvalidationDone_ext (a0 : State) :
    HAll (fun x => Ext [.regs, .hlk, .mem] a0 x) (@execXltInvalidationDone a0) := by
  unfold Sys2Proof.Machine.execXltInvalidationDone
  refine HAll.next ?_
  (dsimp only; split)
  exact Ext.refl _ _
  refine Ext.step (State.research_ext ..) rfl ?_
  refine Ext.step (State.cmdEnd_ext ..) rfl ?_
  refine Ext.step (Ext.set_mem ..) rfl ?_
  exact Ext.refl _ _

theorem execLookup_ext (a0 : BitVec 4) (a1 : State) :
    HAll (fun x => Ext [.regs, .hlk, .mem] a1 x) (@execLookup a0 a1) := by
  unfold Sys2Proof.Machine.execLookup
  refine HAll.next ?_
  refine Ext.step (xltGo_ext ..) rfl ?_
  exact Ext.refl _ _

theorem State.vget_ext (a0 : State) (a1 : ℕ) (a2 : ℕ) (a3 : ℕ) :
    OAll (fun x => Ext [.regs, .hlk, .mem] a0 x.2) (@State.vget a0 a1 a2 a3) := by
  unfold Sys2Proof.Machine.State.vget
  split
  refine OAll.some ?_
  refine Ext.at2 ?_
  refine VAll.of_ok (P := fun x => Ext _ _ x) ?_ ‹_›
  refine VAll.step (State.vread_ext ..) rfl ?_
  exact Ext.refl _ _
  refine OAll.none ?_

theorem State.vwrite_ext (a0 : State) (a1 : ℕ) (a2 : ℕ) (a3 : Bytes) :
    VAll (fun x => Ext [.rst, .regs, .hlk, .cores, .mem, .ras, .free] a0 x) (@State.vwrite a0 a1 a2 a3) := by
  unfold Sys2Proof.Machine.State.vwrite
  split
  exact VAll.cow ..
  refine VAll.held ?_
  refine VAll.ite ?_ ?_
  refine VAll.hostDown ?_
  refine VAll.ite ?_ ?_
  refine VAll.held ?_
  refine VAll.ok ?_
  refine foldl_all (P := fun x => Ext _ _ x) ?_ ?_
  exact Ext.refl _ _
  intro _
  intro _
  intro _
  refine Ext.step (State.storePhys_ext ..) rfl ?_
  refine Ext.step (State.touch_ext ..) rfl ?_
  with_reducible assumption

theorem execInstall_ext (a0 : BitVec 4) (a1 : State) :
    HAll (fun x => Ext [.regs, .hlk, .mem] a1 x) (@execInstall a0 a1) := by
  unfold Sys2Proof.Machine.execInstall
  refine HAll.next ?_
  refine Ext.step (xltGo_ext ..) rfl ?_
  exact Ext.refl _ _

theorem execSdmCfgWrite_ext (a0 : ℕ) (a1 : Word) (a2 : State) :
    HAll (fun x => Ext [.regs, .hlk, .mem] a2 x) (@execSdmCfgWrite a0 a1 a2) := by
  unfold Sys2Proof.Machine.execSdmCfgWrite
  refine HAll.next ?_
  refine Ext.ite ?_ ?_
  refine Ext.ite ?_ ?_
  refine Ext.step (State.sdmCfg_ext ..) rfl ?_
  exact Ext.refl _ _
  refine Ext.step (State.refuse_ext ..) rfl ?_
  exact Ext.refl _ _
  exact Ext.refl _ _

theorem execMemSppr_ext (a0 : ℕ) (a1 : ℕ) (a2 : ℕ) (a3 : ℕ) (a4 : State) :
    HAll (fun x => Ext [.regs, .hlk, .mem] a4 x) (@execMemSppr a0 a1 a2 a3 a4) := by
  unfold Sys2Proof.Machine.execMemSppr
  refine HAll.next ?_
  refine Ext.ite ?_ ?_
  refine Ext.ite ?_ ?_
  refine Ext.step (State.raise_ext ..) rfl ?_
  exact Ext.refl _ _
  refine Ext.step (State.raise_ext ..) rfl ?_
  refine Ext.step (State.bump_ext ..) rfl ?_
  refine Ext.step (State.setPpr_ext ..) rfl ?_
  refine Ext.step (Ext.set_mem ..) rfl ?_
  exact Ext.refl _ _
  exact Ext.refl _ _

theorem xltRelease_ext (a0 : State) :
    Ext [.regs, .hlk, .mem] a0 (@xltRelease a0) := by
  unfold Sys2Proof.Machine.xltRelease
  refine Ext.ite ?_ ?_
  refine Ext.step (State.xltRun_ext ..) rfl ?_
  exact Ext.refl _ _
  exact Ext.refl _ _

theorem execSdmRowRemap_ext (a0 : ℕ) (a1 : ℕ) (a2 : ℕ) (a3 : State) :
    HAll (fun x => Ext [.regs, .hlk, .mem] a3 x) (@execSdmRowRemap a0 a1 a2 a3) := by
  unfold Sys2Proof.Machine.execSdmRowRemap
  refine HAll.next ?_
  refine Ext.ite ?_ ?_
  refine Ext.ite ?_ ?_
  refine Ext.step (State.raise_ext ..) rfl ?_
  exact Ext.refl _ _
  refine Ext.step (State.raise_ext ..) rfl ?_
  refine Ext.step (State.bump_ext ..) rfl ?_
  refine Ext.step (Ext.set_mem ..) rfl ?_
  exact Ext.refl _ _
  exact Ext.refl _ _

theorem State.missFault_ext (a0 : State) (a1 : ℕ) (a2 : ℕ) (a3 : ℕ) (a4 : Bool) (a5 : ℕ) :
    Ext [.regs, .hlk, .mem, .queues] a0 (@State.missFault a0 a1 a2 a3 a4 a5) := by
  unfold Sys2Proof.Machine.State.missFault
  (dsimp only; split)
  exact Ext.refl _ _
  split
  refine Ext.step (State.setFault_ext ..) rfl ?_
  refine Ext.ite ?_ ?_
  refine Ext.step (State.holdQueue_ext ..) rfl ?_
  exact Ext.refl _ _
  exact Ext.refl _ _
  refine Ext.step (State.bump_ext ..) rfl ?_
  refine Ext.step (Ext.set_mem ..) rfl ?_
  refine Ext.ite ?_ ?_
  refine Ext.step (State.holdQueue_ext ..) rfl ?_
  exact Ext.refl _ _
  exact Ext.refl _ _

theorem execTranslationMiss_ext (a0 : ℕ) (a1 : ℕ) (a2 : ℕ) (a3 : Bool) (a4 : ℕ) (a5 : State) :
    HAll (fun x => Ext [.regs, .hlk, .mem, .queues] a5 x) (@execTranslationMiss a0 a1 a2 a3 a4 a5) := by
  unfold Sys2Proof.Machine.execTranslationMiss
  refine HAll.next ?_
  refine Ext.ite ?_ ?_
  refine Ext.step (State.missFault_ext ..) rfl ?_
  exact Ext.refl _ _
  exact Ext.refl _ _

theorem execInvRange_ext (a0 : BitVec 4) (a1 : State) :
    HAll (fun x => Ext [.regs, .hlk, .mem] a1 x) (@execInvRange a0 a1) := by
  unfold Sys2Proof.Machine.execInvRange
  refine HAll.next ?_
  refine Ext.step (xltGo_ext ..) rfl ?_
  exact Ext.refl _ _

theorem State.countCow_ext (a0 : State) :
    Ext [.regs, .hlk] a0 (@State.countCow a0) := by
  unfold Sys2Proof.Machine.State.countCow
  refine Ext.step (State.bump_ext ..) rfl ?_
  exact Ext.refl _ _

theorem State.vput_ext (a0 : State) (a1 : ℕ) (a2 : ℕ) (a3 : Bytes) :
    Ext [.rst, .regs, .hlk, .cores, .mem, .ras, .free] a0 (@State.vput a0 a1 a2 a3) := by
  unfold Sys2Proof.Machine.State.vput
  split
  refine VAll.of_ok (P := fun x => Ext _ _ x) ?_ ‹_›
  refine VAll.step (State.vwrite_ext ..) rfl ?_
  exact Ext.refl _ _
  exact Ext.refl _ _

theorem execMemTrainingDone_ext (a0 : ℕ) (a1 : Dimm) (a2 : State) :
    HAll (fun x => Ext [.rst, .regs, .hlk] a2 x) (@execMemTrainingDone a0 a1 a2) := by
  unfold Sys2Proof.Machine.execMemTrainingDone
  refine HAll.next ?_
  refine Ext.ite ?_ ?_
  refine Ext.ite ?_ ?_
  refine Ext.step (State.raise_ext ..) rfl ?_
  refine Ext.step (State.setPpr_ext ..) rfl ?_
  refine Ext.step (State.applyLayout_ext ..) rfl ?_
  refine Ext.step (Ext.set_rst ..) rfl ?_
  exact Ext.refl _ _
  refine Ext.step (State.setReady_ext ..) rfl ?_
  refine Ext.step (State.setPpr_ext ..) rfl ?_
  refine Ext.step (State.applyLayout_ext ..) rfl ?_
  refine Ext.step (Ext.set_rst ..) rfl ?_
  exact Ext.refl _ _
  exact Ext.refl _ _

end Sys2Proof.Machine
end

