-- ==== Sys2Proof/Laws/FrameLedger.lean ====
section
/-! SUPPORT. What each definition of Machine/Ledger.lean may change: every part that its lemma does not name stays, and memory keeps
its canonical form. -/

set_option maxRecDepth 4000

namespace Sys2Proof.Machine

theorem State.writeRec_ext (a0 : State) (a1 : ℕ) (a2 : ARec) :
    Ext [.rst, .regs, .hlk, .cores, .mem, .ras, .free] a0 (@State.writeRec a0 a1 a2) := by
  unfold Sys2Proof.Machine.State.writeRec
  refine Ext.step (State.vput_ext ..) rfl ?_
  exact Ext.refl _ _

theorem State.setLedger_ext (a0 : State) (a1 : ℕ) (a2 : List ARec) :
    Ext [.act] a0 (@State.setLedger a0 a1 a2) := by
  unfold Sys2Proof.Machine.State.setLedger
  refine Ext.step (Ext.set_act ..) rfl ?_
  exact Ext.refl _ _

theorem State.gatherBit_ext (a0 : State) (a1 : ℕ) (a2 : ℕ) (a3 : Bool) :
    Ext [.rst, .regs, .hlk, .cores, .mem, .ras, .free] a0 (@State.gatherBit a0 a1 a2 a3) := by
  unfold Sys2Proof.Machine.State.gatherBit
  (dsimp only; split)
  refine Ext.step (State.vput_ext ..) rfl ?_
  exact Ext.refl _ _
  exact Ext.refl _ _

theorem State.freeRec_ext (a0 : State) (a1 : ℕ) (a2 : ARec) :
    Ext [.rst, .regs, .hlk, .cores, .mem, .act, .ras, .free] a0 (@State.freeRec a0 a1 a2) := by
  unfold Sys2Proof.Machine.State.freeRec
  refine Ext.ite ?_ ?_
  refine Ext.step (State.gatherBit_ext ..) rfl ?_
  refine Ext.step (State.writeRec_ext ..) rfl ?_
  refine Ext.step (State.setLedger_ext ..) rfl ?_
  exact Ext.refl _ _
  refine Ext.step (State.writeRec_ext ..) rfl ?_
  refine Ext.step (State.setLedger_ext ..) rfl ?_
  exact Ext.refl _ _

theorem State.freeOrDue_ext (a0 : State) (a1 : ℕ) (a2 : ARec) :
    Ext [.rst, .regs, .hlk, .cores, .mem, .act, .ras, .free] a0 (@State.freeOrDue a0 a1 a2) := by
  unfold Sys2Proof.Machine.State.freeOrDue
  refine Ext.ite ?_ ?_
  refine Ext.step (State.freeRec_ext ..) rfl ?_
  exact Ext.refl _ _
  refine Ext.step (State.setLedger_ext ..) rfl ?_
  exact Ext.refl _ _

theorem State.ledgerStepEnd_ext (a0 : State) (a1 : Word) :
    Ext [.rst, .regs, .hlk, .cores, .mem, .act, .ras, .free] a0 (@State.ledgerStepEnd a0 a1) := by
  unfold Sys2Proof.Machine.State.ledgerStepEnd
  refine foldl_all (P := fun x => Ext _ _ x) ?_ ?_
  exact Ext.refl _ _
  intro _
  intro _
  intro _
  refine foldl_all (P := fun x => Ext _ _ x) ?_ ?_
  refine Ext.ite ?_ ?_
  with_reducible assumption
  refine Ext.step (State.raise_ext ..) rfl ?_
  refine Ext.step (State.bump_ext ..) rfl ?_
  with_reducible assumption
  intro _
  intro _
  intro _
  refine Ext.step (State.freeOrDue_ext ..) rfl ?_
  with_reducible assumption

theorem State.ledgerReset_ext (a0 : State) (a1 : ℕ) :
    Ext [.rst, .regs, .hlk, .cores, .mem, .act, .ras, .free] a0 (@State.ledgerReset a0 a1) := by
  unfold Sys2Proof.Machine.State.ledgerReset
  refine foldl_all (P := fun x => Ext _ _ x) ?_ ?_
  exact Ext.refl _ _
  intro _
  intro _
  intro _
  refine Ext.step (State.freeRec_ext ..) rfl ?_
  with_reducible assumption

theorem State.putRec_ext (a0 : State) (a1 : ℕ) (a2 : ARec) :
    Ext [.rst, .regs, .hlk, .cores, .mem, .act, .ras, .free] a0 (@State.putRec a0 a1 a2) := by
  unfold Sys2Proof.Machine.State.putRec
  refine Ext.step (State.writeRec_ext ..) rfl ?_
  refine Ext.step (State.setLedger_ext ..) rfl ?_
  exact Ext.refl _ _

theorem State.ledgerOpEnd_ext (a0 : State) (a1 : ℕ) (a2 : Op) (a3 : ℕ) :
    Ext [.rst, .regs, .hlk, .cores, .mem, .act, .ras, .free] a0 (@State.ledgerOpEnd a0 a1 a2 a3) := by
  unfold Sys2Proof.Machine.State.ledgerOpEnd
  refine Ext.ite ?_ ?_
  exact Ext.refl _ _
  (dsimp only; split)
  exact Ext.refl _ _
  refine Ext.ite ?_ ?_
  refine Ext.ite ?_ ?_
  refine Ext.step (State.freeRec_ext ..) rfl ?_
  exact Ext.refl _ _
  refine Ext.ite ?_ ?_
  refine Ext.step (State.freeRec_ext ..) rfl ?_
  refine Ext.step (State.bump_ext ..) rfl ?_
  refine Ext.step (State.bump_ext ..) rfl ?_
  refine Ext.step (State.bump_ext ..) rfl ?_
  refine Ext.step (State.putRec_ext ..) rfl ?_
  exact Ext.refl _ _
  refine Ext.step (State.bump_ext ..) rfl ?_
  refine Ext.step (State.bump_ext ..) rfl ?_
  refine Ext.step (State.bump_ext ..) rfl ?_
  refine Ext.step (State.putRec_ext ..) rfl ?_
  exact Ext.refl _ _
  refine Ext.ite ?_ ?_
  refine Ext.ite ?_ ?_
  refine Ext.step (State.freeOrDue_ext ..) rfl ?_
  refine Ext.ite ?_ ?_
  refine Ext.step (State.bump_ext ..) rfl ?_
  exact Ext.refl _ _
  exact Ext.refl _ _
  refine Ext.ite ?_ ?_
  refine Ext.step (State.bump_ext ..) rfl ?_
  exact Ext.refl _ _
  exact Ext.refl _ _
  exact Ext.refl _ _

theorem State.ledgerHostDown_ext (a0 : State) :
    Ext [.rst, .regs, .hlk, .cores, .mem, .act, .ras, .free] a0 (@State.ledgerHostDown a0) := by
  unfold Sys2Proof.Machine.State.ledgerHostDown
  refine foldl_all (P := fun x => Ext _ _ x) ?_ ?_
  exact Ext.refl _ _
  intro _
  intro _
  intro _
  refine foldl_all (P := fun x => Ext _ _ x) ?_ ?_
  with_reducible assumption
  intro _
  intro _
  intro _
  refine Ext.step (State.putRec_ext ..) rfl ?_
  with_reducible assumption

theorem State.ledgerRestart_ext (a0 : State) (a1 : Word) :
    Ext [.rst, .regs, .hlk, .cores, .mem, .act, .ras, .free] a0 (@State.ledgerRestart a0 a1) := by
  unfold Sys2Proof.Machine.State.ledgerRestart
  refine foldl_all (P := fun x => Ext _ _ x) ?_ ?_
  exact Ext.refl _ _
  intro _
  intro _
  intro _
  refine foldl_all (P := fun x => Ext _ _ x) ?_ ?_
  with_reducible assumption
  intro _
  intro _
  intro _
  refine Ext.step (State.freeOrDue_ext ..) rfl ?_
  with_reducible assumption

end Sys2Proof.Machine
end

