-- ==== Sys2Proof/Laws/FrameKvPages.lean ====
section
/-! SUPPORT. What each definition of Machine/KvPages.lean may change: every part that its lemma does not name stays, and memory keeps
its canonical form. -/

set_option maxRecDepth 4000

namespace Sys2Proof.Machine

theorem State.setPoolFree_ext (a0 : State) (a1 : ℕ) (a2 : ℕ) :
    Ext [.regs] a0 (@State.setPoolFree a0 a1 a2) := by
  unfold Sys2Proof.Machine.State.setPoolFree
  refine Ext.step (State.p_ext ..) rfl ?_
  exact Ext.refl _ _

theorem State.setKvBit_ext (a0 : State) (a1 : ℕ) (a2 : ℕ) (a3 : Bool) :
    Ext [.rst, .regs, .hlk, .cores, .mem, .ras, .free] a0 (@State.setKvBit a0 a1 a2 a3) := by
  unfold Sys2Proof.Machine.State.setKvBit
  (dsimp only; split)
  refine Ext.step (State.vput_ext ..) rfl ?_
  refine Ext.ofO2 ?_ ‹_›
  refine OAll.step (State.vget_ext ..) rfl ?_
  exact Ext.refl _ _
  exact Ext.refl _ _

theorem State.setKvRef_ext (a0 : State) (a1 : ℕ) (a2 : ℕ) (a3 : ℕ) :
    Ext [.rst, .regs, .hlk, .cores, .mem, .ras, .free] a0 (@State.setKvRef a0 a1 a2 a3) := by
  unfold Sys2Proof.Machine.State.setKvRef
  refine Ext.step (State.research_ext ..) rfl ?_
  refine foldl_all (P := fun x => Ext _ _ x) ?_ ?_
  refine Ext.step (State.storePhys_ext ..) rfl ?_
  exact Ext.refl _ _
  intro _
  intro _
  intro _
  refine Ext.step (State.setSlice_ext ..) rfl ?_
  with_reducible assumption

theorem State.kvAlloc_ext (a0 : State) (a1 : ℕ) (a2 : ℕ) :
    Ext [.rst, .regs, .hlk, .cores, .mem, .ras, .free] a0 (@State.kvAlloc a0 a1 a2) := by
  unfold Sys2Proof.Machine.State.kvAlloc
  refine Ext.step (State.bump_ext ..) rfl ?_
  refine Ext.step (State.setKvBit_ext ..) rfl ?_
  refine Ext.step (State.setKvRef_ext ..) rfl ?_
  refine Ext.step (State.setPoolFree_ext ..) rfl ?_
  exact Ext.refl _ _

theorem State.copyPhys_ext (a0 : State) (a1 : ℕ) (a2 : ℕ) (a3 : ℕ) :
    Ext [.regs, .hlk, .mem] a0 (@State.copyPhys a0 a1 a2 a3) := by
  unfold Sys2Proof.Machine.State.copyPhys
  refine Ext.step (Ext.set_mem (h := fun h => by dsimp only; exact Memory.wf_move _ _ _ _ h) ..) rfl ?_
  refine Ext.step (State.forget_ext ..) rfl ?_
  refine Ext.step (State.countBytes_ext ..) rfl ?_
  refine Ext.step (State.countBytes_ext ..) rfl ?_
  exact Ext.refl _ _

theorem State.putKv_ext (a0 : State) (a1 : KvRec) :
    Ext [.rst, .regs, .hlk, .cores, .mem, .ras, .free] a0 (@State.putKv a0 a1) := by
  unfold Sys2Proof.Machine.State.putKv
  refine Ext.step (State.vput_ext ..) rfl ?_
  exact Ext.refl _ _

theorem State.kvDrop_ext (a0 : State) (a1 : ℕ) (a2 : ℕ) :
    Ext [.rst, .regs, .hlk, .cores, .mem, .ras, .free] a0 (@State.kvDrop a0 a1 a2) := by
  unfold Sys2Proof.Machine.State.kvDrop
  refine Ext.ite ?_ ?_
  refine Ext.step (State.bump_ext ..) rfl ?_
  refine Ext.step (State.setPoolFree_ext ..) rfl ?_
  refine Ext.step (State.setKvBit_ext ..) rfl ?_
  refine Ext.step (State.setKvRef_ext ..) rfl ?_
  exact Ext.refl _ _
  refine Ext.step (State.setKvRef_ext ..) rfl ?_
  exact Ext.refl _ _

theorem State.putEntry_ext (a0 : State) (a1 : KvRec) (a2 : ℕ) (a3 : ℕ) :
    Ext [.rst, .regs, .hlk, .cores, .mem, .ras, .free] a0 (@State.putEntry a0 a1 a2 a3) := by
  unfold Sys2Proof.Machine.State.putEntry
  refine Ext.step (State.vput_ext ..) rfl ?_
  exact Ext.refl _ _

theorem State.kvCopyEnd_ext (a0 : State) (a1 : ℕ) (a2 : ℕ) (a3 : ℕ) (a4 : ℕ) :
    Ext [.rst, .regs, .hlk, .cores, .mem, .ras, .free] a0 (@State.kvCopyEnd a0 a1 a2 a3 a4) := by
  unfold Sys2Proof.Machine.State.kvCopyEnd
  (dsimp only; split)
  exact Ext.refl _ _
  refine Ext.step (State.raise_ext ..) rfl ?_
  refine Ext.step (State.bump_ext ..) rfl ?_
  refine Ext.step (State.putKv_ext ..) rfl ?_
  refine Ext.step (State.kvDrop_ext ..) rfl ?_
  refine Ext.step (State.putEntry_ext ..) rfl ?_
  refine Ext.step (State.copyPhys_ext ..) rfl ?_
  exact Ext.refl _ _

theorem State.kvSettle_ext (a0 : State) (a1 : Op) :
    Ext [.rst, .regs, .hlk, .cores, .mem, .ras, .free] a0 (@State.kvSettle a0 a1) := by
  unfold Sys2Proof.Machine.State.kvSettle
  split
  refine Ext.step (State.kvCopyEnd_ext ..) rfl ?_
  exact Ext.refl _ _
  exact Ext.refl _ _

theorem State.kvReleaseFrom_ext (a0 : State) (a1 : KvRec) (a2 : ℕ) :
    Ext [.rst, .regs, .hlk, .cores, .mem, .ras, .free] a0 (@State.kvReleaseFrom a0 a1 a2) := by
  unfold Sys2Proof.Machine.State.kvReleaseFrom
  refine foldl_all (P := fun x => Ext _ _ x) ?_ ?_
  exact Ext.refl _ _
  intro _
  intro _
  intro _
  split
  refine Ext.ite ?_ ?_
  with_reducible assumption
  refine Ext.step (State.putEntry_ext ..) rfl ?_
  refine Ext.step (State.kvDrop_ext ..) rfl ?_
  with_reducible assumption
  with_reducible assumption

theorem State.kvTruncate_ext (a0 : State) (a1 : KvRec) (a2 : ℕ) :
    Ext [.rst, .regs, .hlk, .cores, .mem, .ras, .free] a0 (@State.kvTruncate a0 a1 a2) := by
  unfold Sys2Proof.Machine.State.kvTruncate
  refine Ext.step (State.putKv_ext ..) rfl ?_
  refine Ext.step (State.kvReleaseFrom_ext ..) rfl ?_
  exact Ext.refl _ _

theorem State.kvRun_ext (a0 : State) (a1 : ℕ) (a2 : ℕ) (a3 : ℕ) (a4 : ℕ) :
    OAll (fun x => Ext [.rst, .regs, .hlk, .cores, .mem, .ras, .free] a0 x.2) (@State.kvRun a0 a1 a2 a3 a4) := by
  unfold Sys2Proof.Machine.State.kvRun
  (dsimp only; split)
  refine OAll.bind (OAll.triv _) ?_
  intro _
  intro _
  split
  refine OAll.some ?_
  refine Ext.at2 ?_
  exact Ext.refl _ _
  refine OAll.ite ?_ ?_
  refine OAll.none ?_
  refine OAll.some ?_
  refine Ext.at2 ?_
  refine Ext.step (State.putKv_ext ..) rfl ?_
  refine foldl_all (P := fun x => Ext _ _ x) ?_ ?_
  exact Ext.refl _ _
  intro _
  intro _
  intro _
  refine Ext.step (State.putEntry_ext ..) rfl ?_
  with_reducible assumption
  refine OAll.bind (OAll.triv _) ?_
  intro _
  intro _
  split
  refine OAll.some ?_
  refine Ext.at2 ?_
  exact Ext.refl _ _
  refine OAll.ite ?_ ?_
  refine OAll.some ?_
  refine Ext.at2 ?_
  exact Ext.refl _ _
  refine OAll.bind (OAll.triv _) ?_
  intro _
  intro _
  refine OAll.ite ?_ ?_
  refine OAll.some ?_
  refine Ext.at2 ?_
  exact Ext.refl _ _
  refine OAll.ite ?_ ?_
  refine OAll.some ?_
  refine Ext.at2 ?_
  exact Ext.refl _ _
  refine OAll.ite ?_ ?_
  refine OAll.some ?_
  refine Ext.at2 ?_
  exact Ext.refl _ _
  refine OAll.ite ?_ ?_
  refine OAll.none ?_
  refine OAll.ite ?_ ?_
  refine OAll.some ?_
  refine Ext.at2 ?_
  refine Ext.step (State.raise_ext ..) rfl ?_
  exact Ext.refl _ _
  refine OAll.some ?_
  refine Ext.at2 ?_
  refine Ext.step (State.bump_ext ..) rfl ?_
  refine Ext.step (State.putKv_ext ..) rfl ?_
  refine foldl_all (P := fun x => Ext _ _ x) ?_ ?_
  refine foldl_all (P := fun x => Ext _ _ x) ?_ ?_
  refine foldl_all (P := fun x => Ext _ _ x) ?_ ?_
  exact Ext.refl _ _
  intro _
  intro _
  intro _
  refine Ext.step (State.setKvRef_ext ..) rfl ?_
  with_reducible assumption
  intro _
  intro _
  intro _
  refine Ext.step (State.putEntry_ext ..) rfl ?_
  with_reducible assumption
  intro _
  intro _
  intro _
  refine Ext.step (State.putEntry_ext ..) rfl ?_
  with_reducible assumption
  refine OAll.bind (OAll.triv _) ?_
  intro _
  intro _
  split
  refine OAll.some ?_
  refine Ext.at2 ?_
  exact Ext.refl _ _
  refine OAll.ite ?_ ?_
  refine OAll.some ?_
  refine Ext.at2 ?_
  exact Ext.refl _ _
  refine OAll.ite ?_ ?_
  refine OAll.none ?_
  refine OAll.some ?_
  refine Ext.at2 ?_
  refine Ext.step (State.kvTruncate_ext ..) rfl ?_
  exact Ext.refl _ _
  refine OAll.bind (OAll.triv _) ?_
  intro _
  intro _
  split
  refine OAll.some ?_
  refine Ext.at2 ?_
  exact Ext.refl _ _
  refine OAll.ite ?_ ?_
  refine OAll.none ?_
  refine OAll.some ?_
  refine Ext.at2 ?_
  refine Ext.step (State.putKv_ext ..) rfl ?_
  refine Ext.step (State.kvTruncate_ext ..) rfl ?_
  exact Ext.refl _ _
  refine OAll.bind (OAll.triv _) ?_
  intro _
  intro _
  split
  refine OAll.some ?_
  refine Ext.at2 ?_
  exact Ext.refl _ _
  refine OAll.some ?_
  refine Ext.at2 ?_
  refine Ext.step (State.putKv_ext ..) rfl ?_
  exact Ext.refl _ _
  refine OAll.none ?_

theorem State.kvTry_ext (a0 : State) :
    Ext [.rst, .regs, .hlk, .cores, .mem, .ras, .free] a0 (@State.kvTry a0) := by
  unfold Sys2Proof.Machine.State.kvTry
  refine Ext.ite ?_ ?_
  exact Ext.refl _ _
  (dsimp only; split)
  exact Ext.refl _ _
  refine Ext.step (State.raise_ext ..) rfl ?_
  refine Ext.step (State.p_ext ..) rfl ?_
  refine Ext.step (State.p_ext ..) rfl ?_
  refine Ext.ite ?_ ?_
  refine Ext.step (State.raise_ext ..) rfl ?_
  refine Ext.ofO2 ?_ ‹_›
  refine OAll.step (State.kvRun_ext ..) rfl ?_
  exact Ext.refl _ _
  refine Ext.ofO2 ?_ ‹_›
  refine OAll.step (State.kvRun_ext ..) rfl ?_
  exact Ext.refl _ _

theorem State.kvGo_ext (a0 : State) (a1 : ℕ) (a2 : ℕ) (a3 : ℕ) (a4 : ℕ) :
    Ext [.rst, .regs, .hlk, .cores, .mem, .ras, .free] a0 (@State.kvGo a0 a1 a2 a3 a4) := by
  unfold Sys2Proof.Machine.State.kvGo
  refine Ext.ite ?_ ?_
  refine Ext.step (State.refuse_ext ..) rfl ?_
  exact Ext.refl _ _
  refine Ext.ite ?_ ?_
  refine Ext.step (State.kvTry_ext ..) rfl ?_
  exact Ext.refl _ _
  refine Ext.step (State.kvTry_ext ..) rfl ?_
  refine Ext.step (State.wr_ext ..) rfl ?_
  refine Ext.step (State.wr_ext ..) rfl ?_
  exact Ext.refl _ _

theorem execCreate_ext (a0 : BitVec 16) (a1 : State) :
    HAll (fun x => Ext [.rst, .regs, .hlk, .cores, .mem, .ras, .free] a1 x) (@execCreate a0 a1) := by
  unfold Sys2Proof.Machine.execCreate
  refine HAll.next ?_
  refine Ext.step (State.kvGo_ext ..) rfl ?_
  exact Ext.refl _ _

theorem State.poolConfig_ext (a0 : State) (a1 : ℕ) (a2 : Word) (a3 : Word) (a4 : Word) :
    Ext [.rst, .regs, .hlk, .cores, .mem, .ras, .free] a0 (@State.poolConfig a0 a1 a2 a3 a4) := by
  unfold Sys2Proof.Machine.State.poolConfig
  refine Ext.ite ?_ ?_
  refine Ext.step (State.raise_ext ..) rfl ?_
  exact Ext.refl _ _
  refine Ext.step (State.setPoolFree_ext ..) rfl ?_
  refine Ext.ite ?_ ?_
  refine Ext.step (State.wr_ext ..) rfl ?_
  refine Ext.step (State.wr_ext ..) rfl ?_
  refine Ext.step (State.wr_ext ..) rfl ?_
  exact Ext.refl _ _
  refine Ext.step (State.vput_ext ..) rfl ?_
  refine Ext.step (State.wr_ext ..) rfl ?_
  refine Ext.step (State.wr_ext ..) rfl ?_
  refine Ext.step (State.wr_ext ..) rfl ?_
  exact Ext.refl _ _

theorem execFork_ext (a0 : BitVec 16) (a1 : BitVec 16) (a2 : Word) (a3 : State) :
    HAll (fun x => Ext [.rst, .regs, .hlk, .cores, .mem, .ras, .free] a3 x) (@execFork a0 a1 a2 a3) := by
  unfold Sys2Proof.Machine.execFork
  refine HAll.next ?_
  refine Ext.step (State.kvGo_ext ..) rfl ?_
  exact Ext.refl _ _

theorem execKvpPoolConfig_ext (a0 : ℕ) (a1 : Word) (a2 : Word) (a3 : Word) (a4 : State) :
    HAll (fun x => Ext [.rst, .regs, .hlk, .cores, .mem, .ras, .free] a4 x) (@execKvpPoolConfig a0 a1 a2 a3 a4) := by
  unfold Sys2Proof.Machine.execKvpPoolConfig
  refine HAll.next ?_
  refine Ext.ite ?_ ?_
  refine Ext.ite ?_ ?_
  refine Ext.step (State.poolConfig_ext ..) rfl ?_
  exact Ext.refl _ _
  refine Ext.step (State.refuse_ext ..) rfl ?_
  exact Ext.refl _ _
  exact Ext.refl _ _

theorem execRxSet_ext (a0 : BitVec 16) (a1 : Word) (a2 : State) :
    HAll (fun x => Ext [.rst, .regs, .hlk, .cores, .mem, .ras, .free] a2 x) (@execRxSet a0 a1 a2) := by
  unfold Sys2Proof.Machine.execRxSet
  refine HAll.next ?_
  refine Ext.step (State.kvGo_ext ..) rfl ?_
  exact Ext.refl _ _

theorem State.kvOpEnd_ext (a0 : State) (a1 : Op) (a2 : ℕ) :
    Ext [.rst, .regs, .hlk, .cores, .mem, .ras, .free] a0 (@State.kvOpEnd a0 a1 a2) := by
  unfold Sys2Proof.Machine.State.kvOpEnd
  refine Ext.ite ?_ ?_
  exact Ext.refl _ _
  refine Ext.step (State.kvTry_ext ..) rfl ?_
  refine Ext.ite ?_ ?_
  refine Ext.step (State.kvSettle_ext ..) rfl ?_
  exact Ext.refl _ _
  refine Ext.ite ?_ ?_
  refine Ext.step (State.bump_ext ..) rfl ?_
  refine Ext.step (State.kvSettle_ext ..) rfl ?_
  exact Ext.refl _ _
  refine Ext.ite ?_ ?_
  refine Ext.step (State.bump_ext ..) rfl ?_
  refine Ext.step (State.kvSettle_ext ..) rfl ?_
  exact Ext.refl _ _
  (dsimp only; split)
  refine Ext.step (State.putKv_ext ..) rfl ?_
  refine Ext.step (State.bump_ext ..) rfl ?_
  refine Ext.step (State.kvSettle_ext ..) rfl ?_
  exact Ext.refl _ _
  refine Ext.step (State.bump_ext ..) rfl ?_
  refine Ext.step (State.kvSettle_ext ..) rfl ?_
  exact Ext.refl _ _

theorem execTruncate_ext (a0 : BitVec 16) (a1 : Word) (a2 : State) :
    HAll (fun x => Ext [.rst, .regs, .hlk, .cores, .mem, .ras, .free] a2 x) (@execTruncate a0 a1 a2) := by
  unfold Sys2Proof.Machine.execTruncate
  refine HAll.next ?_
  refine Ext.step (State.kvGo_ext ..) rfl ?_
  exact Ext.refl _ _

theorem execRelease_ext (a0 : BitVec 16) (a1 : State) :
    HAll (fun x => Ext [.rst, .regs, .hlk, .cores, .mem, .ras, .free] a1 x) (@execRelease a0 a1) := by
  unfold Sys2Proof.Machine.execRelease
  refine HAll.next ?_
  refine Ext.step (State.kvGo_ext ..) rfl ?_
  exact Ext.refl _ _

end Sys2Proof.Machine
end

