-- ==== Sys2Proof/Laws/FrameWork.lean ====
section
/-! SUPPORT. What each definition of Machine/Work.lean may change: every part that its lemma does not name stays, and memory keeps
its canonical form. -/

set_option maxRecDepth 4000

namespace Sys2Proof.Machine

theorem State.orBasinWord_ext (a0 : State) (a1 : ℕ) (a2 : Word) (a3 : BitVec 4) :
    Ext [.red] a0 (@State.orBasinWord a0 a1 a2 a3) := by
  unfold Sys2Proof.Machine.State.orBasinWord
  refine Ext.ite ?_ ?_
  refine Ext.step (Ext.set_red ..) rfl ?_
  exact Ext.refl _ _
  exact Ext.refl _ _

theorem State.putFlag_ext (a0 : State) (a1 : ℕ) (a2 : ℕ) (a3 : Bool) :
    Ext [.cores] a0 (@State.putFlag a0 a1 a2 a3) := by
  unfold Sys2Proof.Machine.State.putFlag
  refine Ext.step (State.setCore_ext ..) rfl ?_
  exact Ext.refl _ _

theorem State.setQueue_ext (a0 : State) (a1 : ℕ) (a2 : List Op) :
    Ext [.queues] a0 (@State.setQueue a0 a1 a2) := by
  unfold Sys2Proof.Machine.State.setQueue
  refine Ext.step (Ext.set_queues ..) rfl ?_
  exact Ext.refl _ _

theorem State.modOp_ext (a0 : State) (a1 : ℕ) (a2 : ℕ) (a3 : Op → Op) :
    Ext [.queues] a0 (@State.modOp a0 a1 a2 a3) := by
  unfold Sys2Proof.Machine.State.modOp
  refine Ext.step (State.setQueue_ext ..) rfl ?_
  exact Ext.refl _ _

theorem State.deliverIn_ext (a0 : State) (a1 : ℕ) (a2 : Op) (a3 : ℕ) :
    Ext [.cores, .queues] a0 (@State.deliverIn a0 a1 a2 a3) := by
  unfold Sys2Proof.Machine.State.deliverIn
  refine Ext.step (State.modOp_ext ..) rfl ?_
  refine Ext.ite ?_ ?_
  exact Ext.refl _ _
  refine Ext.step (State.putFlag_ext ..) rfl ?_
  exact Ext.refl _ _

theorem State.srWrite_ext (a0 : State) (a1 : ℕ) (a2 : ℕ) (a3 : Bytes) :
    Ext [.sram, .sramUe] a0 (@State.srWrite a0 a1 a2 a3) := by
  unfold Sys2Proof.Machine.State.srWrite
  refine Ext.step (Ext.set_sram_sramUe ..) rfl ?_
  exact Ext.refl _ _

theorem State.windowWrite_ext (a0 : State) (a1 : ℕ) (a2 : Op) (a3 : ℕ) (a4 : Bytes) :
    Ext [.sram, .sramUe] a0 (@State.windowWrite a0 a1 a2 a3 a4) := by
  unfold Sys2Proof.Machine.State.windowWrite
  refine Ext.step (State.srWrite_ext ..) rfl ?_
  exact Ext.refl _ _

theorem State.setCur_ext (a0 : State) (a1 : ℕ) (a2 : ℕ) :
    Ext [.regs] a0 (@State.setCur a0 a1 a2) := by
  unfold Sys2Proof.Machine.State.setCur
  refine Ext.ite ?_ ?_
  refine Ext.step (State.wr_ext ..) rfl ?_
  exact Ext.refl _ _
  exact Ext.refl _ _

theorem State.beginTail_ext (a0 : State) (a1 : ℕ) (a2 : Op) (a3 : ℕ) (a4 : ℕ) (a5 : State → Op → ℕ → ℕ → Bytes → State) (hd : ∀ s o c v bs, Ext [.rst, .regs, .hlk, .cores, .mem, .ras, .free] s (a5 s o c v bs)) :
    Ext [.rst, .regs, .hlk, .cores, .mem, .queues, .ras, .free] a0 (@State.beginTail a0 a1 a2 a3 a4 a5) := by
  unfold Sys2Proof.Machine.State.beginTail
  refine Ext.ite ?_ ?_
  refine Ext.step (State.setCur_ext ..) rfl ?_
  refine Ext.step (State.modOp_ext ..) rfl ?_
  refine Ext.step (State.kvSettle_ext ..) rfl ?_
  exact Ext.refl _ _
  refine Ext.step (hd _ _ _ _ _) rfl ?_
  refine Ext.step (State.setCur_ext ..) rfl ?_
  refine Ext.step (State.modOp_ext ..) rfl ?_
  refine Ext.step (State.kvSettle_ext ..) rfl ?_
  exact Ext.refl _ _

theorem State.advance_ext (a0 : State → Op → ℕ → ℕ → Bytes → State) (a1 : ℕ) (a2 : State) (a3 : ℕ) (a4 : ℕ) (hd : ∀ s o c v bs, Ext [.rst, .regs, .hlk, .cores, .mem, .ras, .free] s (a0 s o c v bs)) :
    Ext [.rst, .regs, .hlk, .cores, .sram, .sramUe, .mem, .queues, .ras, .free] a2 (@State.advance a0 a1 a2 a3 a4) := by
  induction a1 generalizing a2 a3 a4 with
  | zero =>
    unfold Sys2Proof.Machine.State.advance
    exact Ext.refl _ _
  | succ k ih =>
    unfold Sys2Proof.Machine.State.advance
    (dsimp only; split)
    exact Ext.refl _ _
    refine Ext.ite ?_ ?_
    exact Ext.refl _ _
    split
    refine Ext.ite ?_ ?_
    exact Ext.refl _ _
    refine Ext.ite ?_ ?_
    refine Ext.ite ?_ ?_
    refine Ext.step (ih _ _ _) rfl ?_
    refine Ext.step (State.deliverIn_ext ..) rfl ?_
    refine Ext.step (State.windowWrite_ext ..) rfl ?_
    exact Ext.refl _ _
    exact Ext.refl _ _
    refine Ext.ite ?_ ?_
    refine Ext.ite ?_ ?_
    refine Ext.step (ih _ _ _) rfl ?_
    refine Ext.step (State.modOp_ext ..) rfl ?_
    refine Ext.step (State.putFlag_ext ..) rfl ?_
    exact Ext.refl _ _
    exact Ext.refl _ _
    refine Ext.step (ih _ _ _) rfl ?_
    refine Ext.step (State.modOp_ext ..) rfl ?_
    exact Ext.refl _ _
    refine Ext.ite ?_ ?_
    refine Ext.step (ih _ _ _) rfl ?_
    refine Ext.step (State.beginTail_ext (hd := ?_) ..) rfl ?_
    intro _
    intro _
    intro _
    intro _
    intro _
    refine Ext.step (hd _ _ _ _ _) rfl ?_
    exact Ext.refl _ _
    exact Ext.refl _ _
    refine Ext.ite ?_ ?_
    exact Ext.refl _ _
    refine Ext.ite ?_ ?_
    refine Ext.ite ?_ ?_
    refine Ext.step (ih _ _ _) rfl ?_
    refine Ext.step (State.deliverIn_ext ..) rfl ?_
    exact Ext.refl _ _
    exact Ext.refl _ _
    refine Ext.step (ih _ _ _) rfl ?_
    refine Ext.step (State.modOp_ext ..) rfl ?_
    refine Ext.ite ?_ ?_
    refine Ext.step (State.putFlag_ext ..) rfl ?_
    exact Ext.refl _ _
    exact Ext.refl _ _

theorem State.plainDest_ext (a0 : ℕ) (a1 : State) (a2 : ℕ) (a3 : Op) (a4 : ℕ) (a5 : ℕ) (a6 : Bytes) :
    Ext [.rst, .regs, .hlk, .cores, .mem, .ras, .free] a1 (@State.plainDest a0 a1 a2 a3 a4 a5 a6) := by
  induction a0 generalizing a1 a2 a3 a4 a5 a6 with
  | zero =>
    unfold Sys2Proof.Machine.State.plainDest
    exact Ext.refl _ _
  | succ k ih =>
    unfold Sys2Proof.Machine.State.plainDest
    refine Ext.ite ?_ ?_
    exact Ext.refl _ _
    refine Ext.ite ?_ ?_
    refine Ext.step (State.vput_ext ..) rfl ?_
    exact Ext.refl _ _
    refine Ext.step (ih _ _ _ _ _ _) rfl ?_
    split
    refine Ext.step (State.vput_ext ..) rfl ?_
    exact Ext.refl _ _
    exact Ext.refl _ _

theorem State.tailDest_ext (a0 : ℕ) (a1 : State) (a2 : Op) (a3 : ℕ) (a4 : ℕ) (a5 : Bytes) :
    Ext [.rst, .regs, .hlk, .cores, .mem, .ras, .free] a1 (@State.tailDest a0 a1 a2 a3 a4 a5) := by
  unfold Sys2Proof.Machine.State.tailDest
  refine Ext.ite ?_ ?_
  refine Ext.step (State.plainDest_ext ..) rfl ?_
  exact Ext.refl _ _
  exact Ext.refl _ _

theorem State.pump_ext (a0 : State) (a1 : ℕ) (a2 : ℕ) :
    Ext [.rst, .regs, .hlk, .cores, .sram, .sramUe, .mem, .queues, .ras, .free] a0 (@State.pump a0 a1 a2) := by
  unfold Sys2Proof.Machine.State.pump
  split
  refine Ext.step (State.advance_ext (hd := ?_) ..) rfl ?_
  intro _
  intro _
  intro _
  intro _
  intro _
  refine Ext.step (State.tailDest_ext ..) rfl ?_
  exact Ext.refl _ _
  exact Ext.refl _ _
  exact Ext.refl _ _

theorem State.pumpCore_ext (a0 : State) (a1 : ℕ) :
    Ext [.rst, .regs, .hlk, .cores, .sram, .sramUe, .mem, .queues, .ras, .free] a0 (@State.pumpCore a0 a1) := by
  unfold Sys2Proof.Machine.State.pumpCore
  refine foldl_all (P := fun x => Ext _ _ x) ?_ ?_
  exact Ext.refl _ _
  intro _
  intro _
  intro _
  refine foldl_all (P := fun x => Ext _ _ x) ?_ ?_
  with_reducible assumption
  intro _
  intro _
  intro _
  refine Ext.step (State.pump_ext ..) rfl ?_
  with_reducible assumption

theorem State.consumeSlot_ext (a0 : State) (a1 : ℕ) (a2 : ℕ) :
    Ext [.rst, .regs, .hlk, .cores, .sram, .sramUe, .mem, .queues, .ras, .free] a0 (@State.consumeSlot a0 a1 a2) := by
  unfold Sys2Proof.Machine.State.consumeSlot
  refine foldl_all (P := fun x => Ext _ _ x) ?_ ?_
  exact Ext.refl _ _
  intro _
  intro _
  intro _
  refine foldl_all (P := fun x => Ext _ _ x) ?_ ?_
  with_reducible assumption
  intro _
  intro _
  intro _
  refine Ext.ite ?_ ?_
  split
  refine Ext.step (State.pump_ext ..) rfl ?_
  refine Ext.step (State.modOp_ext ..) rfl ?_
  with_reducible assumption
  with_reducible assumption
  with_reducible assumption

theorem State.clearFlag_ext (a0 : State) (a1 : ℕ) (a2 : ℕ) :
    Ext [.rst, .regs, .hlk, .cores, .sram, .sramUe, .mem, .queues, .ras, .free] a0 (@State.clearFlag a0 a1 a2) := by
  unfold Sys2Proof.Machine.State.clearFlag
  refine Ext.ite ?_ ?_
  refine Ext.step (State.pumpCore_ext ..) rfl ?_
  refine Ext.step (State.consumeSlot_ext ..) rfl ?_
  refine Ext.step (State.putFlag_ext ..) rfl ?_
  exact Ext.refl _ _
  exact Ext.refl _ _

theorem State.setLast_ext (a0 : State) (a1 : ℕ) (a2 : ℕ) (a3 : ℕ) :
    Ext [.regs] a0 (@State.setLast a0 a1 a2 a3) := by
  unfold Sys2Proof.Machine.State.setLast
  refine Ext.ite ?_ ?_
  refine Ext.step (State.p_ext ..) rfl ?_
  refine Ext.step (State.p_ext ..) rfl ?_
  exact Ext.refl _ _
  exact Ext.refl _ _

theorem State.setLaunch_ext (a0 : State) (a1 : ℕ) (a2 : Option Launch) :
    Ext [.launches] a0 (@State.setLaunch a0 a1 a2) := by
  unfold Sys2Proof.Machine.State.setLaunch
  refine Ext.step (Ext.set_launches ..) rfl ?_
  exact Ext.refl _ _

theorem State.orLaunchWord_ext (a0 : State) (a1 : ℕ) (a2 : Bool) (a3 : ℕ) :
    Ext [.regs] a0 (@State.orLaunchWord a0 a1 a2 a3) := by
  unfold Sys2Proof.Machine.State.orLaunchWord
  refine Ext.step (State.p_ext ..) rfl ?_
  exact Ext.refl _ _

theorem State.tailEffects_ext (a0 : State) (a1 : ℕ) (a2 : Op) (a3 : ℕ) :
    Ext [.regs, .hlk, .launches, .red] a0 (@State.tailEffects a0 a1 a2 a3) := by
  unfold Sys2Proof.Machine.State.tailEffects
  (dsimp only; split)
  refine Ext.ite ?_ ?_
  refine Ext.step (State.orLaunchWord_ext ..) rfl ?_
  split
  refine Ext.step (State.setLaunch_ext ..) rfl ?_
  refine Ext.ite ?_ ?_
  refine Ext.step (State.bump_ext ..) rfl ?_
  refine Ext.step (State.bump_ext ..) rfl ?_
  refine Ext.step (State.raise_ext ..) rfl ?_
  exact Ext.refl _ _
  refine Ext.step (State.bump_ext ..) rfl ?_
  refine Ext.step (State.raise_ext ..) rfl ?_
  exact Ext.refl _ _
  refine Ext.ite ?_ ?_
  refine Ext.step (State.bump_ext ..) rfl ?_
  refine Ext.step (State.bump_ext ..) rfl ?_
  refine Ext.step (State.raise_ext ..) rfl ?_
  exact Ext.refl _ _
  refine Ext.step (State.bump_ext ..) rfl ?_
  refine Ext.step (State.raise_ext ..) rfl ?_
  exact Ext.refl _ _
  split
  refine Ext.step (State.setLaunch_ext ..) rfl ?_
  refine Ext.ite ?_ ?_
  refine Ext.step (State.bump_ext ..) rfl ?_
  refine Ext.step (State.bump_ext ..) rfl ?_
  refine Ext.step (State.raise_ext ..) rfl ?_
  exact Ext.refl _ _
  refine Ext.step (State.bump_ext ..) rfl ?_
  refine Ext.step (State.raise_ext ..) rfl ?_
  exact Ext.refl _ _
  refine Ext.ite ?_ ?_
  refine Ext.step (State.bump_ext ..) rfl ?_
  refine Ext.step (State.bump_ext ..) rfl ?_
  refine Ext.step (State.raise_ext ..) rfl ?_
  exact Ext.refl _ _
  refine Ext.step (State.bump_ext ..) rfl ?_
  refine Ext.step (State.raise_ext ..) rfl ?_
  exact Ext.refl _ _
  refine Ext.ite ?_ ?_
  refine Ext.step (State.orBasinWord_ext ..) rfl ?_
  refine Ext.ite ?_ ?_
  refine Ext.step (State.bump_ext ..) rfl ?_
  refine Ext.step (State.bump_ext ..) rfl ?_
  refine Ext.step (State.raise_ext ..) rfl ?_
  exact Ext.refl _ _
  refine Ext.step (State.bump_ext ..) rfl ?_
  refine Ext.step (State.raise_ext ..) rfl ?_
  exact Ext.refl _ _
  refine Ext.ite ?_ ?_
  refine Ext.step (State.bump_ext ..) rfl ?_
  refine Ext.step (State.bump_ext ..) rfl ?_
  refine Ext.step (State.raise_ext ..) rfl ?_
  exact Ext.refl _ _
  refine Ext.step (State.bump_ext ..) rfl ?_
  refine Ext.step (State.raise_ext ..) rfl ?_
  exact Ext.refl _ _

theorem State.setRing_ext (a0 : State) (a1 : ℕ) (a2 : Ring) :
    Ext [.hlk] a0 (@State.setRing a0 a1 a2) := by
  unfold Sys2Proof.Machine.State.setRing
  refine Ext.step (Ext.set_hlk ..) rfl ?_
  exact Ext.refl _ _

theorem State.modCmd_ext (a0 : State) (a1 : ℕ) (a2 : ℕ) (a3 : Cmd → Cmd) :
    Ext [.hlk] a0 (@State.modCmd a0 a1 a2 a3) := by
  unfold Sys2Proof.Machine.State.modCmd
  refine Ext.step (State.setRing_ext ..) rfl ?_
  exact Ext.refl _ _

theorem State.finishCmd_ext (a0 : State) (a1 : ℕ) (a2 : ℕ) (a3 : ℕ) (a4 : Word) :
    Ext [.hlk] a0 (@State.finishCmd a0 a1 a2 a3 a4) := by
  unfold Sys2Proof.Machine.State.finishCmd
  refine Ext.step (State.modCmd_ext ..) rfl ?_
  exact Ext.refl _ _

theorem State.retireOp_ext (a0 : State) (a1 : ℕ) (a2 : Op) (a3 : ℕ) :
    Ext [.rst, .regs, .hlk, .launches, .cores, .mem, .queues, .act, .shl, .red, .ras, .free] a0 (@State.retireOp a0 a1 a2 a3) := by
  unfold Sys2Proof.Machine.State.retireOp
  (dsimp only; split)
  refine Ext.step (Ext.set_shl ..) rfl ?_
  refine Ext.step (State.kvOpEnd_ext ..) rfl ?_
  refine Ext.step (State.ledgerOpEnd_ext ..) rfl ?_
  refine Ext.ite ?_ ?_
  refine Ext.step (State.tailEffects_ext ..) rfl ?_
  split
  refine Ext.ite ?_ ?_
  refine Ext.step (State.putFlag_ext ..) rfl ?_
  refine Ext.ite ?_ ?_
  refine Ext.step (State.bump_ext ..) rfl ?_
  refine Ext.step (State.setLast_ext ..) rfl ?_
  refine Ext.step (State.setQueue_ext ..) rfl ?_
  exact Ext.refl _ _
  refine Ext.step (State.setLast_ext ..) rfl ?_
  refine Ext.step (State.setQueue_ext ..) rfl ?_
  exact Ext.refl _ _
  refine Ext.ite ?_ ?_
  refine Ext.step (State.bump_ext ..) rfl ?_
  refine Ext.step (State.setLast_ext ..) rfl ?_
  refine Ext.step (State.setQueue_ext ..) rfl ?_
  exact Ext.refl _ _
  refine Ext.step (State.setLast_ext ..) rfl ?_
  refine Ext.step (State.setQueue_ext ..) rfl ?_
  exact Ext.refl _ _
  refine Ext.ite ?_ ?_
  refine Ext.step (State.bump_ext ..) rfl ?_
  refine Ext.step (State.setLast_ext ..) rfl ?_
  refine Ext.step (State.setQueue_ext ..) rfl ?_
  exact Ext.refl _ _
  refine Ext.step (State.setLast_ext ..) rfl ?_
  refine Ext.step (State.setQueue_ext ..) rfl ?_
  exact Ext.refl _ _
  split
  refine Ext.ite ?_ ?_
  refine Ext.step (State.putFlag_ext ..) rfl ?_
  refine Ext.ite ?_ ?_
  refine Ext.step (State.bump_ext ..) rfl ?_
  refine Ext.step (State.setLast_ext ..) rfl ?_
  refine Ext.step (State.setQueue_ext ..) rfl ?_
  exact Ext.refl _ _
  refine Ext.step (State.setLast_ext ..) rfl ?_
  refine Ext.step (State.setQueue_ext ..) rfl ?_
  exact Ext.refl _ _
  refine Ext.ite ?_ ?_
  refine Ext.step (State.bump_ext ..) rfl ?_
  refine Ext.step (State.setLast_ext ..) rfl ?_
  refine Ext.step (State.setQueue_ext ..) rfl ?_
  exact Ext.refl _ _
  refine Ext.step (State.setLast_ext ..) rfl ?_
  refine Ext.step (State.setQueue_ext ..) rfl ?_
  exact Ext.refl _ _
  refine Ext.ite ?_ ?_
  refine Ext.step (State.bump_ext ..) rfl ?_
  refine Ext.step (State.setLast_ext ..) rfl ?_
  refine Ext.step (State.setQueue_ext ..) rfl ?_
  exact Ext.refl _ _
  refine Ext.step (State.setLast_ext ..) rfl ?_
  refine Ext.step (State.setQueue_ext ..) rfl ?_
  exact Ext.refl _ _
  refine Ext.ite ?_ ?_
  refine Ext.step (State.finishCmd_ext ..) rfl ?_
  refine Ext.step (State.setQueue_ext ..) rfl ?_
  refine Ext.step (Ext.set_shl ..) rfl ?_
  refine Ext.step (State.kvOpEnd_ext ..) rfl ?_
  refine Ext.step (State.ledgerOpEnd_ext ..) rfl ?_
  refine Ext.ite ?_ ?_
  refine Ext.step (State.tailEffects_ext ..) rfl ?_
  split
  refine Ext.ite ?_ ?_
  refine Ext.step (State.putFlag_ext ..) rfl ?_
  refine Ext.ite ?_ ?_
  refine Ext.step (State.bump_ext ..) rfl ?_
  refine Ext.step (State.setLast_ext ..) rfl ?_
  refine Ext.step (State.setQueue_ext ..) rfl ?_
  exact Ext.refl _ _
  refine Ext.step (State.setLast_ext ..) rfl ?_
  refine Ext.step (State.setQueue_ext ..) rfl ?_
  exact Ext.refl _ _
  refine Ext.ite ?_ ?_
  refine Ext.step (State.bump_ext ..) rfl ?_
  refine Ext.step (State.setLast_ext ..) rfl ?_
  refine Ext.step (State.setQueue_ext ..) rfl ?_
  exact Ext.refl _ _
  refine Ext.step (State.setLast_ext ..) rfl ?_
  refine Ext.step (State.setQueue_ext ..) rfl ?_
  exact Ext.refl _ _
  refine Ext.ite ?_ ?_
  refine Ext.step (State.bump_ext ..) rfl ?_
  refine Ext.step (State.setLast_ext ..) rfl ?_
  refine Ext.step (State.setQueue_ext ..) rfl ?_
  exact Ext.refl _ _
  refine Ext.step (State.setLast_ext ..) rfl ?_
  refine Ext.step (State.setQueue_ext ..) rfl ?_
  exact Ext.refl _ _
  split
  refine Ext.ite ?_ ?_
  refine Ext.step (State.putFlag_ext ..) rfl ?_
  refine Ext.ite ?_ ?_
  refine Ext.step (State.bump_ext ..) rfl ?_
  refine Ext.step (State.setLast_ext ..) rfl ?_
  refine Ext.step (State.setQueue_ext ..) rfl ?_
  exact Ext.refl _ _
  refine Ext.step (State.setLast_ext ..) rfl ?_
  refine Ext.step (State.setQueue_ext ..) rfl ?_
  exact Ext.refl _ _
  refine Ext.ite ?_ ?_
  refine Ext.step (State.bump_ext ..) rfl ?_
  refine Ext.step (State.setLast_ext ..) rfl ?_
  refine Ext.step (State.setQueue_ext ..) rfl ?_
  exact Ext.refl _ _
  refine Ext.step (State.setLast_ext ..) rfl ?_
  refine Ext.step (State.setQueue_ext ..) rfl ?_
  exact Ext.refl _ _
  refine Ext.ite ?_ ?_
  refine Ext.step (State.bump_ext ..) rfl ?_
  refine Ext.step (State.setLast_ext ..) rfl ?_
  refine Ext.step (State.setQueue_ext ..) rfl ?_
  exact Ext.refl _ _
  refine Ext.step (State.setLast_ext ..) rfl ?_
  refine Ext.step (State.setQueue_ext ..) rfl ?_
  exact Ext.refl _ _
  refine Ext.ite ?_ ?_
  refine Ext.step (Ext.set_shl ..) rfl ?_
  refine Ext.step (State.kvOpEnd_ext ..) rfl ?_
  refine Ext.step (State.ledgerOpEnd_ext ..) rfl ?_
  refine Ext.ite ?_ ?_
  refine Ext.step (State.tailEffects_ext ..) rfl ?_
  split
  refine Ext.ite ?_ ?_
  refine Ext.step (State.putFlag_ext ..) rfl ?_
  refine Ext.ite ?_ ?_
  refine Ext.step (State.bump_ext ..) rfl ?_
  refine Ext.step (State.setLast_ext ..) rfl ?_
  refine Ext.step (State.setQueue_ext ..) rfl ?_
  exact Ext.refl _ _
  refine Ext.step (State.setLast_ext ..) rfl ?_
  refine Ext.step (State.setQueue_ext ..) rfl ?_
  exact Ext.refl _ _
  refine Ext.ite ?_ ?_
  refine Ext.step (State.bump_ext ..) rfl ?_
  refine Ext.step (State.setLast_ext ..) rfl ?_
  refine Ext.step (State.setQueue_ext ..) rfl ?_
  exact Ext.refl _ _
  refine Ext.step (State.setLast_ext ..) rfl ?_
  refine Ext.step (State.setQueue_ext ..) rfl ?_
  exact Ext.refl _ _
  refine Ext.ite ?_ ?_
  refine Ext.step (State.bump_ext ..) rfl ?_
  refine Ext.step (State.setLast_ext ..) rfl ?_
  refine Ext.step (State.setQueue_ext ..) rfl ?_
  exact Ext.refl _ _
  refine Ext.step (State.setLast_ext ..) rfl ?_
  refine Ext.step (State.setQueue_ext ..) rfl ?_
  exact Ext.refl _ _
  split
  refine Ext.ite ?_ ?_
  refine Ext.step (State.putFlag_ext ..) rfl ?_
  refine Ext.ite ?_ ?_
  refine Ext.step (State.bump_ext ..) rfl ?_
  refine Ext.step (State.setLast_ext ..) rfl ?_
  refine Ext.step (State.setQueue_ext ..) rfl ?_
  exact Ext.refl _ _
  refine Ext.step (State.setLast_ext ..) rfl ?_
  refine Ext.step (State.setQueue_ext ..) rfl ?_
  exact Ext.refl _ _
  refine Ext.ite ?_ ?_
  refine Ext.step (State.bump_ext ..) rfl ?_
  refine Ext.step (State.setLast_ext ..) rfl ?_
  refine Ext.step (State.setQueue_ext ..) rfl ?_
  exact Ext.refl _ _
  refine Ext.step (State.setLast_ext ..) rfl ?_
  refine Ext.step (State.setQueue_ext ..) rfl ?_
  exact Ext.refl _ _
  refine Ext.ite ?_ ?_
  refine Ext.step (State.bump_ext ..) rfl ?_
  refine Ext.step (State.setLast_ext ..) rfl ?_
  refine Ext.step (State.setQueue_ext ..) rfl ?_
  exact Ext.refl _ _
  refine Ext.step (State.setLast_ext ..) rfl ?_
  refine Ext.step (State.setQueue_ext ..) rfl ?_
  exact Ext.refl _ _
  refine Ext.step (State.finishCmd_ext ..) rfl ?_
  refine Ext.step (Ext.set_shl ..) rfl ?_
  refine Ext.step (State.kvOpEnd_ext ..) rfl ?_
  refine Ext.step (State.ledgerOpEnd_ext ..) rfl ?_
  refine Ext.ite ?_ ?_
  refine Ext.step (State.tailEffects_ext ..) rfl ?_
  split
  refine Ext.ite ?_ ?_
  refine Ext.step (State.putFlag_ext ..) rfl ?_
  refine Ext.ite ?_ ?_
  refine Ext.step (State.bump_ext ..) rfl ?_
  refine Ext.step (State.setLast_ext ..) rfl ?_
  refine Ext.step (State.setQueue_ext ..) rfl ?_
  exact Ext.refl _ _
  refine Ext.step (State.setLast_ext ..) rfl ?_
  refine Ext.step (State.setQueue_ext ..) rfl ?_
  exact Ext.refl _ _
  refine Ext.ite ?_ ?_
  refine Ext.step (State.bump_ext ..) rfl ?_
  refine Ext.step (State.setLast_ext ..) rfl ?_
  refine Ext.step (State.setQueue_ext ..) rfl ?_
  exact Ext.refl _ _
  refine Ext.step (State.setLast_ext ..) rfl ?_
  refine Ext.step (State.setQueue_ext ..) rfl ?_
  exact Ext.refl _ _
  refine Ext.ite ?_ ?_
  refine Ext.step (State.bump_ext ..) rfl ?_
  refine Ext.step (State.setLast_ext ..) rfl ?_
  refine Ext.step (State.setQueue_ext ..) rfl ?_
  exact Ext.refl _ _
  refine Ext.step (State.setLast_ext ..) rfl ?_
  refine Ext.step (State.setQueue_ext ..) rfl ?_
  exact Ext.refl _ _
  split
  refine Ext.ite ?_ ?_
  refine Ext.step (State.putFlag_ext ..) rfl ?_
  refine Ext.ite ?_ ?_
  refine Ext.step (State.bump_ext ..) rfl ?_
  refine Ext.step (State.setLast_ext ..) rfl ?_
  refine Ext.step (State.setQueue_ext ..) rfl ?_
  exact Ext.refl _ _
  refine Ext.step (State.setLast_ext ..) rfl ?_
  refine Ext.step (State.setQueue_ext ..) rfl ?_
  exact Ext.refl _ _
  refine Ext.ite ?_ ?_
  refine Ext.step (State.bump_ext ..) rfl ?_
  refine Ext.step (State.setLast_ext ..) rfl ?_
  refine Ext.step (State.setQueue_ext ..) rfl ?_
  exact Ext.refl _ _
  refine Ext.step (State.setLast_ext ..) rfl ?_
  refine Ext.step (State.setQueue_ext ..) rfl ?_
  exact Ext.refl _ _
  refine Ext.ite ?_ ?_
  refine Ext.step (State.bump_ext ..) rfl ?_
  refine Ext.step (State.setLast_ext ..) rfl ?_
  refine Ext.step (State.setQueue_ext ..) rfl ?_
  exact Ext.refl _ _
  refine Ext.step (State.setLast_ext ..) rfl ?_
  refine Ext.step (State.setQueue_ext ..) rfl ?_
  exact Ext.refl _ _

theorem State.sigWrite_ext (a0 : State) (a1 : ℕ) (a2 : Op) :
    Ext [.rst, .regs, .hlk, .cores, .mem, .ras, .free] a0 (@State.sigWrite a0 a1 a2).1 := by
  unfold Sys2Proof.Machine.State.sigWrite
  split
  refine Ext.at1 ?_
  exact Ext.refl _ _
  split
  refine Ext.at1 ?_
  refine VAll.of_ok (P := fun x => Ext _ _ x) ?_ ‹_›
  refine VAll.step (State.vwrite_ext ..) rfl ?_
  exact Ext.refl _ _
  refine Ext.at1 ?_
  exact Ext.refl _ _

theorem State.completeOp_ext (a0 : State) (a1 : ℕ) (a2 : Op) (a3 : Bool) :
    Ext [.rst, .regs, .hlk, .launches, .cores, .mem, .queues, .act, .shl, .red, .ras, .free] a0 (@State.completeOp a0 a1 a2 a3) := by
  unfold Sys2Proof.Machine.State.completeOp
  refine Ext.ite ?_ ?_
  refine Ext.step (State.retireOp_ext ..) rfl ?_
  exact Ext.refl _ _
  split
  refine Ext.step (State.retireOp_ext ..) rfl ?_
  refine Ext.ofPair1 ?_ ‹_›
  refine Ext.step (State.sigWrite_ext ..) rfl ?_
  exact Ext.refl _ _
  exact Ext.refl _ _

theorem State.gather_ext (a0 : State) (a1 : ℕ) (a2 : Bool) (a3 : Word) :
    Ext [.regs, .red] a0 (@State.gather a0 a1 a2 a3) := by
  unfold Sys2Proof.Machine.State.gather
  refine Ext.step (State.orBasinWord_ext ..) rfl ?_
  refine Ext.step (State.p_ext ..) rfl ?_
  exact Ext.refl _ _

theorem State.setFlag_ext (a0 : State) (a1 : ℕ) (a2 : ℕ) :
    Ext [.rst, .regs, .hlk, .cores, .sram, .sramUe, .mem, .queues, .ras, .free] a0 (@State.setFlag a0 a1 a2) := by
  unfold Sys2Proof.Machine.State.setFlag
  refine Ext.step (State.pumpCore_ext ..) rfl ?_
  refine Ext.step (State.putFlag_ext ..) rfl ?_
  exact Ext.refl _ _

theorem State.setShoal_ext (a0 : State) (a1 : ℕ) (a2 : ℕ) (a3 : Option Shoal) :
    Ext [.shoals] a0 (@State.setShoal a0 a1 a2 a3) := by
  unfold Sys2Proof.Machine.State.setShoal
  refine Ext.step (Ext.set_shoals ..) rfl ?_
  exact Ext.refl _ _

theorem State.stopChain_ext (a0 : State) (a1 : ℕ) (a2 : ℕ) (a3 : Shoal) :
    Ext [.sram, .sramUe, .free] a0 (@State.stopChain a0 a1 a2 a3) := by
  unfold Sys2Proof.Machine.State.stopChain
  (dsimp only; split)
  refine foldl_all (P := fun x => Ext _ _ x) ?_ ?_
  exact Ext.refl _ _
  intro _
  intro _
  intro _
  refine Ext.step (State.srWrite_ext ..) rfl ?_
  refine Ext.step (State.freeBytes_ext ..) rfl ?_
  with_reducible assumption
  exact Ext.refl _ _
  exact Ext.refl _ _
  exact Ext.refl _ _

theorem State.resetOp_ext (a0 : State) (a1 : ℕ) (a2 : Op) :
    Ext [.rst, .regs, .hlk, .launches, .cores, .mem, .queues, .act, .shl, .red, .ras, .free] a0 (@State.resetOp a0 a1 a2) := by
  unfold Sys2Proof.Machine.State.resetOp
  refine Ext.step (State.retireOp_ext ..) rfl ?_
  refine Ext.step (State.sigWrite_ext ..) rfl ?_
  refine Ext.step (State.setCur_ext ..) rfl ?_
  refine Ext.step (State.kvSettle_ext ..) rfl ?_
  exact Ext.refl _ _

theorem State.resetOps_ext (a0 : State) (a1 : ℕ) (a2 : Op → Bool) :
    Ext [.rst, .regs, .hlk, .launches, .cores, .mem, .queues, .act, .shl, .red, .ras, .free] a0 (@State.resetOps a0 a1 a2) := by
  unfold Sys2Proof.Machine.State.resetOps
  refine foldl_all (P := fun x => Ext _ _ x) ?_ ?_
  exact Ext.refl _ _
  intro _
  intro _
  intro _
  refine Ext.ite ?_ ?_
  refine Ext.step (State.resetOp_ext ..) rfl ?_
  with_reducible assumption
  with_reducible assumption

theorem State.clearLaunchOn_ext (a0 : State) (a1 : ℕ) (a2 : ℕ) (a3 : Bool) (a4 : Word) (a5 : Bool) :
    Ext [.rst, .regs, .hlk, .launches, .cores, .shoals, .sram, .sramUe, .mem, .queues, .act, .shl, .red, .ras, .free] a0 (@State.clearLaunchOn a0 a1 a2 a3 a4 a5) := by
  unfold Sys2Proof.Machine.State.clearLaunchOn
  refine Ext.ite ?_ ?_
  refine Ext.step (State.gather_ext ..) rfl ?_
  refine foldl_all (P := fun x => Ext _ _ x) ?_ ?_
  refine Ext.step (State.setCore_ext ..) rfl ?_
  refine foldl_all (P := fun x => Ext _ _ x) ?_ ?_
  exact Ext.refl _ _
  intro _
  intro _
  intro _
  refine Ext.step (State.setShoal_ext ..) rfl ?_
  refine Ext.step (State.stopChain_ext ..) rfl ?_
  with_reducible assumption
  intro _
  intro _
  intro _
  refine Ext.step (State.resetOps_ext ..) rfl ?_
  with_reducible assumption
  refine foldl_all (P := fun x => Ext _ _ x) ?_ ?_
  refine Ext.step (State.setCore_ext ..) rfl ?_
  refine foldl_all (P := fun x => Ext _ _ x) ?_ ?_
  exact Ext.refl _ _
  intro _
  intro _
  intro _
  refine Ext.step (State.setShoal_ext ..) rfl ?_
  refine Ext.step (State.stopChain_ext ..) rfl ?_
  with_reducible assumption
  intro _
  intro _
  intro _
  refine Ext.step (State.resetOps_ext ..) rfl ?_
  with_reducible assumption

theorem State.launchEnd_ext (a0 : State) (a1 : ℕ) (a2 : ℕ) (a3 : ℕ) (a4 : ℕ) (a5 : (ℕ → Bool)) :
    Ext [.rst, .regs, .hlk, .launches, .cores, .shoals, .sram, .sramUe, .mem, .queues, .act, .shl, .red, .ras, .free] a0 (@State.launchEnd a0 a1 a2 a3 a4 a5) := by
  unfold Sys2Proof.Machine.State.launchEnd
  (dsimp only; split)
  exact Ext.refl _ _
  refine Ext.step (State.setLaunch_ext ..) rfl ?_
  refine Ext.ite ?_ ?_
  refine Ext.step (State.raise_ext ..) rfl ?_
  refine Ext.step (State.finishCmd_ext ..) rfl ?_
  refine foldl_all (P := fun x => Ext _ _ x) ?_ ?_
  exact Ext.refl _ _
  intro _
  intro _
  intro _
  refine Ext.step (State.clearLaunchOn_ext ..) rfl ?_
  with_reducible assumption
  refine Ext.step (State.finishCmd_ext ..) rfl ?_
  refine foldl_all (P := fun x => Ext _ _ x) ?_ ?_
  exact Ext.refl _ _
  intro _
  intro _
  intro _
  refine Ext.step (State.clearLaunchOn_ext ..) rfl ?_
  with_reducible assumption

theorem State.threadFault_ext (a0 : State) (a1 : ℕ) (a2 : ℕ) (a3 : ℕ) (a4 : ℕ) :
    Ext [.rst, .regs, .hlk, .launches, .cores, .shoals, .sram, .sramUe, .mem, .queues, .act, .shl, .red, .ras, .free] a0 (@State.threadFault a0 a1 a2 a3 a4) := by
  unfold Sys2Proof.Machine.State.threadFault
  refine Ext.step (State.launchEnd_ext ..) rfl ?_
  exact Ext.refl _ _

theorem State.poisonTail_ext (a0 : State) (a1 : ℕ) (a2 : ℕ) (a3 : ℕ) (a4 : ℕ) :
    Ext [.rst, .regs, .hlk, .cores, .sram, .sramUe, .mem, .queues, .ras, .free] a0 (@State.poisonTail a0 a1 a2 a3 a4) := by
  unfold Sys2Proof.Machine.State.poisonTail
  (dsimp only; split)
  refine Ext.ite ?_ ?_
  exact Ext.refl _ _
  refine Ext.step (State.pump_ext ..) rfl ?_
  refine Ext.step (State.beginTail_ext (hd := ?_) ..) rfl ?_
  intro _
  intro _
  intro _
  intro _
  intro _
  refine Ext.step (State.tailDest_ext ..) rfl ?_
  exact Ext.refl _ _
  refine Ext.step (State.modOp_ext ..) rfl ?_
  exact Ext.refl _ _
  exact Ext.refl _ _

end Sys2Proof.Machine
end

