-- ==== Sys2Proof/Laws/FrameScaling.lean ====
section
/-! SUPPORT. What each definition of Machine/Scaling.lean may change: every part that its lemma does not name stays, and memory keeps
its canonical form. -/

set_option maxRecDepth 4000

namespace Sys2Proof.Machine

theorem State.scaleRefused_ext (a0 : State) :
    Ext [.regs] a0 (@State.scaleRefused a0) := by
  unfold Sys2Proof.Machine.State.scaleRefused
  refine Ext.step (State.p_ext ..) rfl ?_
  exact Ext.refl _ _

theorem State.applyRecipe_ext (a0 : State) (a1 : ℕ) (a2 : ℕ) :
    Ext [.regs] a0 (@State.applyRecipe a0 a1 a2) := by
  unfold Sys2Proof.Machine.State.applyRecipe
  refine Ext.step (State.wr_ext ..) rfl ?_
  exact Ext.refl _ _

theorem State.writeRecipe_ext (a0 : State) (a1 : ℕ) (a2 : ℕ) :
    Ext [.regs, .scale] a0 (@State.writeRecipe a0 a1 a2) := by
  unfold Sys2Proof.Machine.State.writeRecipe
  refine Ext.ite ?_ ?_
  refine Ext.step (State.scaleRefused_ext ..) rfl ?_
  exact Ext.refl _ _
  refine Ext.ite ?_ ?_
  refine Ext.step (Ext.set_scale ..) rfl ?_
  exact Ext.refl _ _
  refine Ext.step (State.applyRecipe_ext ..) rfl ?_
  exact Ext.refl _ _

theorem State.retWrite_ext (a0 : State) (a1 : ℕ) (a2 : Bytes) :
    Ext [.retained] a0 (@State.retWrite a0 a1 a2) := by
  unfold Sys2Proof.Machine.State.retWrite
  refine Ext.step (Ext.set_retained ..) rfl ?_
  exact Ext.refl _ _

theorem State.putHdr_ext (a0 : State) (a1 : ℕ) (a2 : ℕ) (a3 : Bytes) :
    Ext [.rst, .regs, .hlk, .cores, .mem, .ras, .free] a0 (@State.putHdr a0 a1 a2 a3) := by
  unfold Sys2Proof.Machine.State.putHdr
  refine Ext.step (State.vput_ext ..) rfl ?_
  exact Ext.refl _ _

theorem State.slotEnd_ext (a0 : State) (a1 : Word) (a2 : Bool) (a3 : Bool) (a4 : ℕ → ℕ) (a5 : ℕ) :
    Ext [.rst, .regs, .retained, .hlk, .cores, .mem, .ras, .free] a0 (@State.slotEnd a0 a1 a2 a3 a4 a5) := by
  unfold Sys2Proof.Machine.State.slotEnd
  (dsimp only; split)
  exact Ext.refl _ _
  refine Ext.ite ?_ ?_
  exact Ext.refl _ _
  refine Ext.step (State.retWrite_ext ..) rfl ?_
  refine Ext.step (State.putHdr_ext ..) rfl ?_
  split
  refine Ext.at1 ?_
  refine Ext.step (State.vput_ext ..) rfl ?_
  exact Ext.refl _ _
  refine Ext.at1 ?_
  exact Ext.refl _ _

theorem State.histDeclared_ext (a0 : State) :
    Ext [.regs] a0 (@State.histDeclared a0) := by
  unfold Sys2Proof.Machine.State.histDeclared
  refine Ext.step (State.p_ext ..) rfl ?_
  refine Ext.step (State.p_ext ..) rfl ?_
  exact Ext.refl _ _

theorem State.reseedSlot_ext (a0 : State) (a1 : ℕ) (a2 : Bytes) :
    Ext [.rst, .regs, .hlk, .cores, .mem, .ras, .free] a0 (@State.reseedSlot a0 a1 a2) := by
  unfold Sys2Proof.Machine.State.reseedSlot
  refine Ext.ite ?_ ?_
  refine Ext.step (State.putHdr_ext ..) rfl ?_
  exact Ext.refl _ _
  refine Ext.step (State.putHdr_ext ..) rfl ?_
  refine Ext.step (State.vput_ext ..) rfl ?_
  exact Ext.refl _ _

theorem State.reseedAll_ext (a0 : State) :
    Ext [.rst, .regs, .hlk, .cores, .mem, .ras, .free] a0 (@State.reseedAll a0) := by
  unfold Sys2Proof.Machine.State.reseedAll
  refine foldl_all (P := fun x => Ext _ _ x) ?_ ?_
  exact Ext.refl _ _
  intro _
  intro _
  intro _
  split
  refine Ext.ite ?_ ?_
  refine Ext.step (State.reseedSlot_ext ..) rfl ?_
  with_reducible assumption
  with_reducible assumption
  with_reducible assumption

theorem State.scaleAction_ext (a0 : State) (a1 : Bool) (a2 : Bool) :
    Ext [.rst, .regs, .hlk, .cores, .mem, .scale, .ras, .free] a0 (@State.scaleAction a0 a1 a2) := by
  unfold Sys2Proof.Machine.State.scaleAction
  refine Ext.ite ?_ ?_
  refine Ext.step (State.scaleRefused_ext ..) rfl ?_
  exact Ext.refl _ _
  refine Ext.ite ?_ ?_
  refine Ext.step (Ext.set_scale ..) rfl ?_
  exact Ext.refl _ _
  refine Ext.ite ?_ ?_
  refine Ext.step (State.histDeclared_ext ..) rfl ?_
  refine Ext.ite ?_ ?_
  refine Ext.step (State.histDeclared_ext ..) rfl ?_
  refine Ext.step (State.reseedAll_ext ..) rfl ?_
  exact Ext.refl _ _
  exact Ext.refl _ _
  refine Ext.ite ?_ ?_
  refine Ext.step (State.histDeclared_ext ..) rfl ?_
  refine Ext.step (State.reseedAll_ext ..) rfl ?_
  exact Ext.refl _ _
  exact Ext.refl _ _

theorem State.slotFold_ext (a0 : State) (a1 : ℕ) (a2 : ℕ) (a3 : ℕ) (a4 : ℕ) :
    Ext [.rst, .regs, .hlk, .cores, .mem, .scale, .ras, .free] a0 (@State.slotFold a0 a1 a2 a3 a4) := by
  unfold Sys2Proof.Machine.State.slotFold
  (dsimp only; split)
  refine Ext.ite ?_ ?_
  refine Ext.step (Ext.set_scale ..) rfl ?_
  refine Ext.step (State.putHdr_ext ..) rfl ?_
  exact Ext.refl _ _
  exact Ext.refl _ _
  exact Ext.refl _ _

theorem execScaleReseed_ext (a0 : State) :
    HAll (fun x => Ext [.rst, .regs, .hlk, .cores, .mem, .scale, .ras, .free] a0 x) (@execScaleReseed a0) := by
  unfold Sys2Proof.Machine.execScaleReseed
  refine HAll.next ?_
  unfold Sys2Proof.Machine.State.devWrite
  refine Ext.ite ?_ ?_
  refine Ext.step (State.scaleAction_ext ..) rfl ?_
  exact Ext.refl _ _
  refine Ext.step (State.refuse_ext ..) rfl ?_
  exact Ext.refl _ _

theorem State.slotsEnd_ext (a0 : State) (a1 : Word) (a2 : Bool) (a3 : Bool) (a4 : ℕ → ℕ) :
    Ext [.rst, .regs, .retained, .hlk, .cores, .mem, .scale, .ras, .free] a0 (@State.slotsEnd a0 a1 a2 a3 a4) := by
  unfold Sys2Proof.Machine.State.slotsEnd
  refine Ext.step (Ext.set_scale ..) rfl ?_
  refine Ext.ite ?_ ?_
  refine foldl_all (P := fun x => Ext _ _ x) ?_ ?_
  exact Ext.refl _ _
  intro _
  intro _
  intro _
  refine Ext.step (State.slotEnd_ext ..) rfl ?_
  with_reducible assumption
  exact Ext.refl _ _

theorem State.clearHist_ext (a0 : State) :
    Ext [.regs] a0 (@State.clearHist a0) := by
  unfold Sys2Proof.Machine.State.clearHist
  refine Ext.step (State.p_ext ..) rfl ?_
  refine Ext.step (State.p_ext ..) rfl ?_
  exact Ext.refl _ _

theorem State.applyScaleBase_ext (a0 : State) (a1 : Word) :
    Ext [.regs] a0 (@State.applyScaleBase a0 a1) := by
  unfold Sys2Proof.Machine.State.applyScaleBase
  refine Ext.step (State.clearHist_ext ..) rfl ?_
  refine Ext.step (State.wr_ext ..) rfl ?_
  exact Ext.refl _ _

theorem State.writeScaleBase_ext (a0 : State) (a1 : Word) :
    Ext [.regs, .scale] a0 (@State.writeScaleBase a0 a1) := by
  unfold Sys2Proof.Machine.State.writeScaleBase
  refine Ext.ite ?_ ?_
  refine Ext.step (Ext.set_scale ..) rfl ?_
  exact Ext.refl _ _
  refine Ext.step (State.applyScaleBase_ext ..) rfl ?_
  exact Ext.refl _ _

theorem State.headerCheck_ext (a0 : State) :
    Ext [.rst, .regs, .hlk, .cores, .mem, .ras, .free] a0 (@State.headerCheck a0) := by
  unfold Sys2Proof.Machine.State.headerCheck
  refine Ext.ite ?_ ?_
  refine foldl_all (P := fun x => Ext _ _ x) ?_ ?_
  exact Ext.refl _ _
  intro _
  intro _
  intro _
  split
  refine Ext.ite ?_ ?_
  refine Ext.step (State.bump_ext ..) rfl ?_
  refine Ext.step (State.reseedSlot_ext ..) rfl ?_
  with_reducible assumption
  with_reducible assumption
  with_reducible assumption
  exact Ext.refl _ _

theorem execDevScalebaseWrite_ext (a0 : Word) (a1 : State) :
    HAll (fun x => Ext [.regs, .hlk, .scale] a1 x) (@execDevScalebaseWrite a0 a1) := by
  unfold Sys2Proof.Machine.execDevScalebaseWrite
  refine HAll.next ?_
  unfold Sys2Proof.Machine.State.devWrite
  refine Ext.ite ?_ ?_
  refine Ext.step (State.writeScaleBase_ext ..) rfl ?_
  exact Ext.refl _ _
  refine Ext.step (State.refuse_ext ..) rfl ?_
  exact Ext.refl _ _

theorem State.convSlot_ext (a0 : State) (a1 : ℕ) (a2 : ℕ) (a3 : ℕ) (a4 : ℕ) (a5 : ℕ) (a6 : ℕ → ℕ) (a7 : List Num) :
    OAll (fun x => Ext [.rst, .regs, .hlk, .cores, .mem, .scale, .ras, .free] a0 x.2) (@State.convSlot a0 a1 a2 a3 a4 a5 a6 a7) := by
  unfold Sys2Proof.Machine.State.convSlot
  refine OAll.map (OAll.triv _) ?_
  intro _
  intro _
  (dsimp only; split)
  refine Ext.at2 ?_
  refine Ext.ite ?_ ?_
  exact Ext.refl _ _
  refine Ext.step (State.slotFold_ext ..) rfl ?_
  exact Ext.refl _ _
  refine Ext.at2 ?_
  refine Ext.step (State.freeBytes_ext ..) rfl ?_
  refine Ext.ite ?_ ?_
  exact Ext.refl _ _
  refine Ext.step (State.slotFold_ext ..) rfl ?_
  exact Ext.refl _ _

theorem execDevRecipeWrite_ext (a0 : ℕ) (a1 : BitVec 8) (a2 : State) :
    HAll (fun x => Ext [.regs, .hlk, .scale] a2 x) (@execDevRecipeWrite a0 a1 a2) := by
  unfold Sys2Proof.Machine.execDevRecipeWrite
  refine HAll.next ?_
  refine Ext.ite ?_ ?_
  unfold Sys2Proof.Machine.State.devWrite
  refine Ext.ite ?_ ?_
  refine Ext.step (State.writeRecipe_ext ..) rfl ?_
  exact Ext.refl _ _
  refine Ext.step (State.refuse_ext ..) rfl ?_
  exact Ext.refl _ _
  exact Ext.refl _ _

theorem execScaleLoaded_ext (a0 : State) :
    HAll (fun x => Ext [.rst, .regs, .hlk, .cores, .mem, .scale, .ras, .free] a0 x) (@execScaleLoaded a0) := by
  unfold Sys2Proof.Machine.execScaleLoaded
  refine HAll.next ?_
  unfold Sys2Proof.Machine.State.devWrite
  refine Ext.ite ?_ ?_
  refine Ext.step (State.scaleAction_ext ..) rfl ?_
  exact Ext.refl _ _
  refine Ext.step (State.refuse_ext ..) rfl ?_
  exact Ext.refl _ _

theorem State.applyScaleCfg_ext (a0 : State) (a1 : Word) :
    Ext [.rst, .regs, .hlk, .cores, .mem, .ras, .free] a0 (@State.applyScaleCfg a0 a1) := by
  unfold Sys2Proof.Machine.State.applyScaleCfg
  refine Ext.ite ?_ ?_
  refine Ext.step (State.wr_ext ..) rfl ?_
  exact Ext.refl _ _
  refine Ext.step (State.clearHist_ext ..) rfl ?_
  refine Ext.ite ?_ ?_
  refine foldl_all (P := fun x => Ext _ _ x) ?_ ?_
  refine Ext.step (State.wr_ext ..) rfl ?_
  exact Ext.refl _ _
  intro _
  intro _
  intro _
  split
  refine Ext.step (State.putHdr_ext ..) rfl ?_
  with_reducible assumption
  with_reducible assumption
  refine Ext.step (State.wr_ext ..) rfl ?_
  exact Ext.refl _ _

theorem State.applyScaleWaiting_ext (a0 : State) :
    Ext [.rst, .regs, .hlk, .cores, .mem, .scale, .ras, .free] a0 (@State.applyScaleWaiting a0) := by
  unfold Sys2Proof.Machine.State.applyScaleWaiting
  refine Ext.ite ?_ ?_
  refine Ext.step (State.histDeclared_ext ..) rfl ?_
  refine Ext.ite ?_ ?_
  refine Ext.step (State.histDeclared_ext ..) rfl ?_
  refine Ext.step (State.reseedAll_ext ..) rfl ?_
  split
  refine Ext.step (State.applyScaleBase_ext ..) rfl ?_
  refine foldl_all (P := fun x => Ext _ _ x) ?_ ?_
  split
  refine Ext.step (State.applyScaleCfg_ext ..) rfl ?_
  refine Ext.step (Ext.set_scale ..) rfl ?_
  exact Ext.refl _ _
  refine Ext.step (Ext.set_scale ..) rfl ?_
  exact Ext.refl _ _
  intro _
  intro _
  intro _
  split
  refine Ext.step (State.applyRecipe_ext ..) rfl ?_
  with_reducible assumption
  with_reducible assumption
  refine foldl_all (P := fun x => Ext _ _ x) ?_ ?_
  split
  refine Ext.step (State.applyScaleCfg_ext ..) rfl ?_
  refine Ext.step (Ext.set_scale ..) rfl ?_
  exact Ext.refl _ _
  refine Ext.step (Ext.set_scale ..) rfl ?_
  exact Ext.refl _ _
  intro _
  intro _
  intro _
  split
  refine Ext.step (State.applyRecipe_ext ..) rfl ?_
  with_reducible assumption
  with_reducible assumption
  split
  refine Ext.step (State.applyScaleBase_ext ..) rfl ?_
  refine foldl_all (P := fun x => Ext _ _ x) ?_ ?_
  split
  refine Ext.step (State.applyScaleCfg_ext ..) rfl ?_
  refine Ext.step (Ext.set_scale ..) rfl ?_
  exact Ext.refl _ _
  refine Ext.step (Ext.set_scale ..) rfl ?_
  exact Ext.refl _ _
  intro _
  intro _
  intro _
  split
  refine Ext.step (State.applyRecipe_ext ..) rfl ?_
  with_reducible assumption
  with_reducible assumption
  refine foldl_all (P := fun x => Ext _ _ x) ?_ ?_
  split
  refine Ext.step (State.applyScaleCfg_ext ..) rfl ?_
  refine Ext.step (Ext.set_scale ..) rfl ?_
  exact Ext.refl _ _
  refine Ext.step (Ext.set_scale ..) rfl ?_
  exact Ext.refl _ _
  intro _
  intro _
  intro _
  split
  refine Ext.step (State.applyRecipe_ext ..) rfl ?_
  with_reducible assumption
  with_reducible assumption
  refine Ext.ite ?_ ?_
  refine Ext.step (State.histDeclared_ext ..) rfl ?_
  refine Ext.step (State.reseedAll_ext ..) rfl ?_
  split
  refine Ext.step (State.applyScaleBase_ext ..) rfl ?_
  refine foldl_all (P := fun x => Ext _ _ x) ?_ ?_
  split
  refine Ext.step (State.applyScaleCfg_ext ..) rfl ?_
  refine Ext.step (Ext.set_scale ..) rfl ?_
  exact Ext.refl _ _
  refine Ext.step (Ext.set_scale ..) rfl ?_
  exact Ext.refl _ _
  intro _
  intro _
  intro _
  split
  refine Ext.step (State.applyRecipe_ext ..) rfl ?_
  with_reducible assumption
  with_reducible assumption
  refine foldl_all (P := fun x => Ext _ _ x) ?_ ?_
  split
  refine Ext.step (State.applyScaleCfg_ext ..) rfl ?_
  refine Ext.step (Ext.set_scale ..) rfl ?_
  exact Ext.refl _ _
  refine Ext.step (Ext.set_scale ..) rfl ?_
  exact Ext.refl _ _
  intro _
  intro _
  intro _
  split
  refine Ext.step (State.applyRecipe_ext ..) rfl ?_
  with_reducible assumption
  with_reducible assumption
  split
  refine Ext.step (State.applyScaleBase_ext ..) rfl ?_
  refine foldl_all (P := fun x => Ext _ _ x) ?_ ?_
  split
  refine Ext.step (State.applyScaleCfg_ext ..) rfl ?_
  refine Ext.step (Ext.set_scale ..) rfl ?_
  exact Ext.refl _ _
  refine Ext.step (Ext.set_scale ..) rfl ?_
  exact Ext.refl _ _
  intro _
  intro _
  intro _
  split
  refine Ext.step (State.applyRecipe_ext ..) rfl ?_
  with_reducible assumption
  with_reducible assumption
  refine foldl_all (P := fun x => Ext _ _ x) ?_ ?_
  split
  refine Ext.step (State.applyScaleCfg_ext ..) rfl ?_
  refine Ext.step (Ext.set_scale ..) rfl ?_
  exact Ext.refl _ _
  refine Ext.step (Ext.set_scale ..) rfl ?_
  exact Ext.refl _ _
  intro _
  intro _
  intro _
  split
  refine Ext.step (State.applyRecipe_ext ..) rfl ?_
  with_reducible assumption
  with_reducible assumption

theorem State.warmupEnd_ext (a0 : State) :
    Ext [.regs] a0 (@State.warmupEnd a0) := by
  unfold Sys2Proof.Machine.State.warmupEnd
  refine Ext.ite ?_ ?_
  refine Ext.step (State.p_ext ..) rfl ?_
  refine Ext.ite ?_ ?_
  refine Ext.step (State.p_ext ..) rfl ?_
  exact Ext.refl _ _
  exact Ext.refl _ _
  refine Ext.ite ?_ ?_
  refine Ext.step (State.p_ext ..) rfl ?_
  exact Ext.refl _ _
  exact Ext.refl _ _

theorem State.writeScaleCfg_ext (a0 : State) (a1 : Word) :
    Ext [.rst, .regs, .hlk, .cores, .mem, .scale, .ras, .free] a0 (@State.writeScaleCfg a0 a1) := by
  unfold Sys2Proof.Machine.State.writeScaleCfg
  refine Ext.ite ?_ ?_
  refine Ext.step (State.scaleRefused_ext ..) rfl ?_
  exact Ext.refl _ _
  refine Ext.ite ?_ ?_
  refine Ext.step (Ext.set_scale ..) rfl ?_
  exact Ext.refl _ _
  refine Ext.step (State.applyScaleCfg_ext ..) rfl ?_
  exact Ext.refl _ _

theorem execDevScalecfgWrite_ext (a0 : Word) (a1 : State) :
    HAll (fun x => Ext [.rst, .regs, .hlk, .cores, .mem, .scale, .ras, .free] a1 x) (@execDevScalecfgWrite a0 a1) := by
  unfold Sys2Proof.Machine.execDevScalecfgWrite
  refine HAll.next ?_
  unfold Sys2Proof.Machine.State.devWrite
  refine Ext.ite ?_ ?_
  refine Ext.step (State.writeScaleCfg_ext ..) rfl ?_
  exact Ext.refl _ _
  refine Ext.step (State.refuse_ext ..) rfl ?_
  exact Ext.refl _ _

end Sys2Proof.Machine
end

