-- ==== Sys2Proof/Laws/FrameEngine.lean ====
section
/-! SUPPORT. What each definition of Machine/Engine.lean may change: every part that its lemma does not name stays, and memory keeps
its canonical form. -/

set_option maxRecDepth 4000

namespace Sys2Proof.Machine

theorem State.reportPoison_ext (a0 : State) (a1 : ℕ) (a2 : Op) (a3 : ℕ) :
    Ext [.rst, .regs, .hlk, .cores, .ras, .free] a0 (@State.reportPoison a0 a1 a2 a3) := by
  unfold Sys2Proof.Machine.State.reportPoison
  split
  split
  refine Ext.step (State.detected_ext ..) rfl ?_
  exact Ext.refl _ _
  refine Ext.step (State.detected_ext ..) rfl ?_
  exact Ext.refl _ _
  refine Ext.step (State.detected_ext ..) rfl ?_
  exact Ext.refl _ _
  refine Ext.step (State.detected_ext ..) rfl ?_
  exact Ext.refl _ _

theorem State.reportSram_ext (a0 : State) (a1 : ℕ) (a2 : Word) (a3 : ℕ) :
    Ext [.rst, .regs, .hlk, .cores, .ras, .free] a0 (@State.reportSram a0 a1 a2 a3) := by
  unfold Sys2Proof.Machine.State.reportSram
  refine Ext.step (State.detected_ext ..) rfl ?_
  refine Ext.step (State.bump_ext ..) rfl ?_
  exact Ext.refl _ _

theorem State.landPlain_ext (a0 : State) (a1 : ℕ) (a2 : Op) (a3 : Xfer) :
    LAll (fun x => Ext [.rst, .regs, .hlk, .cores, .sram, .sramUe, .mem, .ras, .free] a0 x) (@State.landPlain a0 a1 a2 a3) := by
  unfold Sys2Proof.Machine.State.landPlain
  (dsimp only; split)
  split
  refine LAll.done ?_
  refine Ext.step (State.windowWrite_ext ..) rfl ?_
  exact Ext.refl _ _
  split
  refine LAll.mark ?_
  refine Ext.step (State.reportPoison_ext ..) rfl ?_
  refine VAll.of_ok (P := fun x => Ext _ _ x) ?_ ‹_›
  refine VAll.step (State.vread_ext ..) rfl ?_
  exact Ext.refl _ _
  refine LAll.done ?_
  refine Ext.step (State.windowWrite_ext ..) rfl ?_
  refine VAll.of_ok (P := fun x => Ext _ _ x) ?_ ‹_›
  refine VAll.step (State.vread_ext ..) rfl ?_
  exact Ext.refl _ _
  refine LAll.fail ?_
  exact Ext.refl _ _
  refine LAll.wait ?_
  split
  refine LAll.done ?_
  exact Ext.refl _ _
  split
  refine LAll.done ?_
  refine Ext.ite ?_ ?_
  refine Ext.step (State.reportSram_ext ..) rfl ?_
  refine Ext.step (State.vpoison_ext ..) rfl ?_
  refine VAll.of_ok (P := fun x => Ext _ _ x) ?_ ‹_›
  refine VAll.step (State.vwrite_ext ..) rfl ?_
  exact Ext.refl _ _
  refine VAll.of_ok (P := fun x => Ext _ _ x) ?_ ‹_›
  refine VAll.step (State.vwrite_ext ..) rfl ?_
  exact Ext.refl _ _
  refine LAll.fail ?_
  exact Ext.refl _ _
  refine LAll.wait ?_
  split
  split
  refine LAll.done ?_
  refine VAll.of_ok (P := fun x => Ext _ _ x) ?_ ‹_›
  refine VAll.step (State.vwrite_ext ..) rfl ?_
  refine LAll.of_done (P := fun x => Ext _ _ x) ?_ ‹_›
  split
  refine LAll.done ?_
  exact Ext.refl _ _
  split
  refine LAll.mark ?_
  refine Ext.step (State.reportPoison_ext ..) rfl ?_
  refine VAll.of_ok (P := fun x => Ext _ _ x) ?_ ‹_›
  refine VAll.step (State.vread_ext ..) rfl ?_
  exact Ext.refl _ _
  refine LAll.done ?_
  refine VAll.of_ok (P := fun x => Ext _ _ x) ?_ ‹_›
  refine VAll.step (State.vread_ext ..) rfl ?_
  exact Ext.refl _ _
  refine LAll.fail ?_
  exact Ext.refl _ _
  refine LAll.wait ?_
  refine LAll.fail ?_
  exact Ext.refl _ _
  refine LAll.wait ?_
  split
  refine LAll.done ?_
  exact Ext.refl _ _
  split
  refine LAll.mark ?_
  refine Ext.step (State.reportPoison_ext ..) rfl ?_
  refine VAll.of_ok (P := fun x => Ext _ _ x) ?_ ‹_›
  refine VAll.step (State.vread_ext ..) rfl ?_
  exact Ext.refl _ _
  refine LAll.done ?_
  refine VAll.of_ok (P := fun x => Ext _ _ x) ?_ ‹_›
  refine VAll.step (State.vread_ext ..) rfl ?_
  exact Ext.refl _ _
  refine LAll.fail ?_
  exact Ext.refl _ _
  refine LAll.wait ?_

theorem State.xferDone_ext (a0 : State) (a1 : ℕ) (a2 : Op) (a3 : Xfer) :
    Ext [.rst, .regs, .hlk, .cores, .sram, .sramUe, .mem, .queues, .ras, .free] a0 (@State.xferDone a0 a1 a2 a3) := by
  unfold Sys2Proof.Machine.State.xferDone
  refine Ext.step (State.pump_ext ..) rfl ?_
  refine Ext.ite ?_ ?_
  refine Ext.step (State.bump_ext ..) rfl ?_
  refine Ext.step (State.bump_ext ..) rfl ?_
  refine Ext.step (State.bump_ext ..) rfl ?_
  refine Ext.step (State.modOp_ext ..) rfl ?_
  exact Ext.refl _ _
  refine Ext.step (State.bump_ext ..) rfl ?_
  refine Ext.step (State.bump_ext ..) rfl ?_
  refine Ext.step (State.modOp_ext ..) rfl ?_
  exact Ext.refl _ _

theorem State.issue_ext (a0 : State) (a1 : ℕ) (a2 : Op) (a3 : Xfer) :
    Ext [.queues] a0 (@State.issue a0 a1 a2 a3) := by
  unfold Sys2Proof.Machine.State.issue
  refine Ext.step (State.modOp_ext ..) rfl ?_
  exact Ext.refl _ _

theorem State.issuePacked_ext (a0 : State) (a1 : ℕ) (a2 : Op) :
    Ext [.queues] a0 (@State.issuePacked a0 a1 a2) := by
  unfold Sys2Proof.Machine.State.issuePacked
  refine Ext.step (State.issue_ext ..) rfl ?_
  exact Ext.refl _ _

theorem State.issuePlain_ext (a0 : State) (a1 : ℕ) (a2 : Op) :
    Ext [.rst, .regs, .hlk, .cores, .sram, .sramUe, .mem, .queues, .ras, .free] a0 (@State.issuePlain a0 a1 a2) := by
  unfold Sys2Proof.Machine.State.issuePlain
  refine Ext.ite ?_ ?_
  refine Ext.step (State.poisonTail_ext ..) rfl ?_
  refine Ext.step (State.reportPoison_ext ..) rfl ?_
  exact Ext.refl _ _
  (dsimp only; split)
  exact Ext.refl _ _
  refine Ext.step (State.issue_ext ..) rfl ?_
  refine Ext.ite ?_ ?_
  refine Ext.step (State.bump_ext ..) rfl ?_
  refine Ext.step (State.raise_ext ..) rfl ?_
  exact Ext.refl _ _
  exact Ext.refl _ _
  refine Ext.step (State.issue_ext ..) rfl ?_
  exact Ext.refl _ _

end Sys2Proof.Machine
end

