-- ==== Sys2Proof/Laws/FrameActStore.lean ====
section
/-! SUPPORT. What each definition of Machine/ActStore.lean may change: every part that its lemma does not name stays, and memory keeps
its canonical form. -/

set_option maxRecDepth 4000

namespace Sys2Proof.Machine

theorem State.restoreUnit_ext (a0 : State) (a1 : ℕ) (a2 : ARec) (a3 : ℕ) (a4 : ℕ) :
    UAll (fun x => Ext [.regs, .hlk, .mem] a0 x) (@State.restoreUnit a0 a1 a2 a3 a4) := by
  unfold Sys2Proof.Machine.State.restoreUnit
  (dsimp only; split)
  split
  refine UAll.bad ?_
  refine VAll.of_ok (P := fun x => Ext _ _ x) ?_ ‹_›
  refine VAll.step (State.vread_ext ..) rfl ?_
  exact Ext.refl _ _
  refine UAll.ok ?_
  refine VAll.of_ok (P := fun x => Ext _ _ x) ?_ ‹_›
  refine VAll.step (State.vread_ext ..) rfl ?_
  exact Ext.refl _ _
  refine UAll.hostDown ?_
  refine UAll.wait ?_
  split
  refine UAll.wait ?_
  split
  split
  refine UAll.bad ?_
  refine VAll.of_ok (P := fun x => Ext _ _ x) ?_ ‹_›
  refine VAll.step (State.vread_ext ..) rfl ?_
  exact Ext.refl _ _
  split
  refine UAll.ok ?_
  refine VAll.of_ok (P := fun x => Ext _ _ x) ?_ ‹_›
  refine VAll.step (State.vread_ext ..) rfl ?_
  exact Ext.refl _ _
  refine UAll.bad ?_
  refine VAll.of_ok (P := fun x => Ext _ _ x) ?_ ‹_›
  refine VAll.step (State.vread_ext ..) rfl ?_
  exact Ext.refl _ _
  refine UAll.hostDown ?_
  refine UAll.wait ?_
  refine UAll.bad ?_
  refine VAll.of_ok (P := fun x => Ext _ _ x) ?_ ‹_›
  refine VAll.step (State.vread_ext ..) rfl ?_
  exact Ext.refl _ _
  refine UAll.hostDown ?_
  refine UAll.wait ?_
  split
  refine UAll.wait ?_
  split
  refine UAll.bad ?_
  refine VAll.of_ok (P := fun x => Ext _ _ x) ?_ ‹_›
  refine VAll.step (State.vread_ext ..) rfl ?_
  exact Ext.refl _ _
  split
  refine UAll.ok ?_
  refine VAll.of_ok (P := fun x => Ext _ _ x) ?_ ‹_›
  refine VAll.step (State.vread_ext ..) rfl ?_
  exact Ext.refl _ _
  refine UAll.bad ?_
  refine VAll.of_ok (P := fun x => Ext _ _ x) ?_ ‹_›
  refine VAll.step (State.vread_ext ..) rfl ?_
  exact Ext.refl _ _
  refine UAll.hostDown ?_
  refine UAll.wait ?_

theorem State.restoreUnits_ext (a0 : ℕ) (a1 : ARec) (a2 : ℕ) (a3 : ℕ) (a4 : State) (a5 : ℕ) :
    UAll (fun x => Ext [.regs, .hlk, .mem] a4 x) (@State.restoreUnits a0 a1 a2 a3 a4 a5) := by
  induction a3 generalizing a0 a1 a2 a4 a5 with
  | zero =>
    unfold Sys2Proof.Machine.State.restoreUnits
    refine UAll.ok ?_
    exact Ext.refl _ _
  | succ k ih =>
    unfold Sys2Proof.Machine.State.restoreUnits
    split
    split
    refine UAll.ok ?_
    refine UAll.of_ok (P := fun x => Ext _ _ x) ?_ ‹_›
    refine UAll.step (ih _ _ _ _ _) rfl ?_
    refine UAll.of_ok (P := fun x => Ext _ _ x) ?_ ‹_›
    refine UAll.step (State.restoreUnit_ext ..) rfl ?_
    exact Ext.refl _ _
    refine UAll.step (ih _ _ _ _ _) rfl ?_
    refine UAll.of_ok (P := fun x => Ext _ _ x) ?_ ‹_›
    refine UAll.step (State.restoreUnit_ext ..) rfl ?_
    exact Ext.refl _ _
    refine UAll.step (State.restoreUnit_ext ..) rfl ?_
    exact Ext.refl _ _

theorem State.actSaveBegin_ext (a0 : State) (a1 : ℕ) (a2 : Op) :
    Ext [.rst, .regs, .hlk, .cores, .sram, .sramUe, .mem, .queues, .act, .ras, .free] a0 (@State.actSaveBegin a0 a1 a2) := by
  unfold Sys2Proof.Machine.State.actSaveBegin
  refine Ext.ite ?_ ?_
  refine Ext.step (State.poisonTail_ext ..) rfl ?_
  exact Ext.refl _ _
  refine Ext.ite ?_ ?_
  refine Ext.step (State.poisonTail_ext ..) rfl ?_
  refine Ext.step (State.raise_ext ..) rfl ?_
  exact Ext.refl _ _
  refine Ext.ite ?_ ?_
  refine Ext.step (State.modOp_ext ..) rfl ?_
  refine Ext.step (State.gatherBit_ext ..) rfl ?_
  refine Ext.step (State.bump_ext ..) rfl ?_
  exact Ext.refl _ _
  (dsimp only; split)
  refine Ext.step (State.modOp_ext ..) rfl ?_
  refine Ext.ite ?_ ?_
  refine Ext.step (State.raise_ext ..) rfl ?_
  refine Ext.step (State.bump_ext ..) rfl ?_
  refine Ext.ite ?_ ?_
  refine Ext.step (State.gatherBit_ext ..) rfl ?_
  refine Ext.step (State.bump_ext ..) rfl ?_
  refine Ext.step (State.writeRec_ext ..) rfl ?_
  refine Ext.step (State.setLedger_ext ..) rfl ?_
  exact Ext.refl _ _
  refine Ext.step (State.writeRec_ext ..) rfl ?_
  refine Ext.step (State.setLedger_ext ..) rfl ?_
  exact Ext.refl _ _
  refine Ext.ite ?_ ?_
  refine Ext.step (State.gatherBit_ext ..) rfl ?_
  refine Ext.step (State.bump_ext ..) rfl ?_
  refine Ext.step (State.writeRec_ext ..) rfl ?_
  refine Ext.step (State.setLedger_ext ..) rfl ?_
  exact Ext.refl _ _
  refine Ext.step (State.writeRec_ext ..) rfl ?_
  refine Ext.step (State.setLedger_ext ..) rfl ?_
  exact Ext.refl _ _
  refine Ext.step (State.modOp_ext ..) rfl ?_
  exact Ext.refl _ _

theorem State.saveUnits_ext (a0 : ℕ) (a1 : ARec) (a2 : ℕ) (a3 : Bytes) (a4 : ℕ) (a5 : Bool) (a6 : ℕ) (a7 : State) (a8 : ℕ) (a9 : ℕ) :
    EAll (fun x => Ext [.rst, .regs, .hlk, .cores, .mem, .ras, .free] a7 x.1) (@State.saveUnits a0 a1 a2 a3 a4 a5 a6 a7 a8 a9) := by
  induction a6 generalizing a0 a1 a2 a3 a4 a5 a7 a8 a9 with
  | zero =>
    unfold Sys2Proof.Machine.State.saveUnits
    refine EAll.ok ?_
    refine Ext.at1 ?_
    exact Ext.refl _ _
  | succ k ih =>
    unfold Sys2Proof.Machine.State.saveUnits
    refine EAll.ite ?_ ?_
    refine EAll.ok ?_
    refine Ext.at1 ?_
    exact Ext.refl _ _
    (dsimp only; split)
    split
    refine EAll.ok ?_
    refine Ext.at1 ?_
    refine Ext.ofE1 ?_ ‹_›
    refine EAll.step (ih _ _ _ _ _ _ _ _ _) rfl ?_
    refine Ext.ite ?_ ?_
    refine Ext.step (State.vpoison_ext ..) rfl ?_
    refine VAll.of_ok (P := fun x => Ext _ _ x) ?_ ‹_›
    refine VAll.step (State.vwrite_ext ..) rfl ?_
    exact Ext.refl _ _
    refine VAll.of_ok (P := fun x => Ext _ _ x) ?_ ‹_›
    refine VAll.step (State.vwrite_ext ..) rfl ?_
    exact Ext.refl _ _
    refine EAll.step (ih _ _ _ _ _ _ _ _ _) rfl ?_
    refine Ext.ite ?_ ?_
    refine Ext.step (State.vpoison_ext ..) rfl ?_
    refine VAll.of_ok (P := fun x => Ext _ _ x) ?_ ‹_›
    refine VAll.step (State.vwrite_ext ..) rfl ?_
    exact Ext.refl _ _
    refine VAll.of_ok (P := fun x => Ext _ _ x) ?_ ‹_›
    refine VAll.step (State.vwrite_ext ..) rfl ?_
    exact Ext.refl _ _
    exact EAll.error ..
    exact EAll.error ..

theorem State.landSave_ext (a0 : State) (a1 : ℕ) (a2 : Op) (a3 : Xfer) :
    LAll (fun x => Ext [.rst, .regs, .hlk, .cores, .mem, .queues, .ras, .free] a0 x) (@State.landSave a0 a1 a2 a3) := by
  unfold Sys2Proof.Machine.State.landSave
  refine LAll.ite ?_ ?_
  refine LAll.done ?_
  exact Ext.refl _ _
  (dsimp only; split)
  refine LAll.done ?_
  exact Ext.refl _ _
  split
  refine LAll.fail ?_
  exact Ext.refl _ _
  refine LAll.wait ?_
  refine LAll.done ?_
  refine Ext.step (State.modOp_ext ..) rfl ?_
  refine Ext.ite ?_ ?_
  refine Ext.step (State.reportSram_ext ..) rfl ?_
  refine Ext.ite ?_ ?_
  split
  refine Ext.ite ?_ ?_
  refine Ext.step (State.orLaunchWord_ext ..) rfl ?_
  refine Ext.ofE1 ?_ ‹_›
  refine EAll.step (State.saveUnits_ext ..) rfl ?_
  exact Ext.refl _ _
  refine Ext.ofE1 ?_ ‹_›
  refine EAll.step (State.saveUnits_ext ..) rfl ?_
  exact Ext.refl _ _
  refine Ext.ofE1 ?_ ‹_›
  refine EAll.step (State.saveUnits_ext ..) rfl ?_
  exact Ext.refl _ _
  refine Ext.ofE1 ?_ ‹_›
  refine EAll.step (State.saveUnits_ext ..) rfl ?_
  exact Ext.refl _ _
  refine Ext.ite ?_ ?_
  split
  refine Ext.ite ?_ ?_
  refine Ext.step (State.orLaunchWord_ext ..) rfl ?_
  refine Ext.ofE1 ?_ ‹_›
  refine EAll.step (State.saveUnits_ext ..) rfl ?_
  exact Ext.refl _ _
  refine Ext.ofE1 ?_ ‹_›
  refine EAll.step (State.saveUnits_ext ..) rfl ?_
  exact Ext.refl _ _
  refine Ext.ofE1 ?_ ‹_›
  refine EAll.step (State.saveUnits_ext ..) rfl ?_
  exact Ext.refl _ _
  refine Ext.ofE1 ?_ ‹_›
  refine EAll.step (State.saveUnits_ext ..) rfl ?_
  exact Ext.refl _ _

theorem State.actBad_ext (a0 : State) (a1 : ℕ) (a2 : ARec) (a3 : Op) (a4 : Bool) :
    Ext [.rst, .regs, .hlk, .cores, .mem, .act, .ras, .free] a0 (@State.actBad a0 a1 a2 a3 a4) := by
  unfold Sys2Proof.Machine.State.actBad
  refine Ext.step (State.detected_ext ..) rfl ?_
  refine Ext.ite ?_ ?_
  refine Ext.step (State.raise_ext ..) rfl ?_
  refine Ext.step (State.bump_ext ..) rfl ?_
  refine Ext.step (State.putRec_ext ..) rfl ?_
  exact Ext.refl _ _
  refine Ext.step (State.putRec_ext ..) rfl ?_
  exact Ext.refl _ _

theorem State.landRestore_ext (a0 : State) (a1 : ℕ) (a2 : Op) (a3 : Xfer) :
    LAll (fun x => Ext [.rst, .regs, .hlk, .cores, .sram, .sramUe, .mem, .act, .ras, .free] a0 x) (@State.landRestore a0 a1 a2 a3) := by
  unfold Sys2Proof.Machine.State.landRestore
  (dsimp only; split)
  refine LAll.wait ?_
  split
  refine LAll.done ?_
  refine Ext.step (State.windowWrite_ext ..) rfl ?_
  refine UAll.of_ok (P := fun x => Ext _ _ x) ?_ ‹_›
  refine UAll.step (State.restoreUnits_ext ..) rfl ?_
  exact Ext.refl _ _
  refine LAll.wait ?_
  refine LAll.fail ?_
  exact Ext.refl _ _
  refine LAll.mark ?_
  refine Ext.step (State.actBad_ext ..) rfl ?_
  refine UAll.of_bad (P := fun x => Ext _ _ x) ?_ ‹_›
  refine UAll.step (State.restoreUnits_ext ..) rfl ?_
  exact Ext.refl _ _

theorem execActSaveRoomFreed_ext (a0 : ℕ) (a1 : State) :
    HAll (fun x => Ext [.rst, .regs, .hlk, .cores, .sram, .sramUe, .mem, .queues, .act, .ras, .free] a1 x) (@execActSaveRoomFreed a0 a1) := by
  unfold Sys2Proof.Machine.execActSaveRoomFreed
  refine HAll.next ?_
  split
  refine Ext.step (State.actSaveBegin_ext ..) rfl ?_
  exact Ext.refl _ _
  exact Ext.refl _ _

theorem State.actRestoreBegin_ext (a0 : State) (a1 : ℕ) (a2 : Op) :
    Ext [.rst, .regs, .hlk, .cores, .sram, .sramUe, .mem, .queues, .act, .ras, .free] a0 (@State.actRestoreBegin a0 a1 a2) := by
  unfold Sys2Proof.Machine.State.actRestoreBegin
  refine Ext.ite ?_ ?_
  refine Ext.step (State.poisonTail_ext ..) rfl ?_
  exact Ext.refl _ _
  (dsimp only; split)
  refine Ext.step (State.poisonTail_ext ..) rfl ?_
  refine Ext.step (State.raise_ext ..) rfl ?_
  exact Ext.refl _ _
  refine Ext.ite ?_ ?_
  refine Ext.step (State.poisonTail_ext ..) rfl ?_
  exact Ext.refl _ _
  refine Ext.ite ?_ ?_
  refine Ext.step (State.poisonTail_ext ..) rfl ?_
  refine Ext.step (State.actBad_ext ..) rfl ?_
  refine Ext.step (State.modOp_ext ..) rfl ?_
  exact Ext.refl _ _
  refine Ext.step (State.modOp_ext ..) rfl ?_
  exact Ext.refl _ _

theorem execActRoomTimeout_ext (a0 : ℕ) (a1 : State) :
    HAll (fun x => Ext [.rst, .regs, .hlk, .cores, .sram, .sramUe, .mem, .queues, .ras, .free] a1 x) (@execActRoomTimeout a0 a1) := by
  unfold Sys2Proof.Machine.execActRoomTimeout
  refine HAll.next ?_
  split
  refine Ext.step (State.poisonTail_ext ..) rfl ?_
  refine Ext.step (State.raise_ext ..) rfl ?_
  exact Ext.refl _ _
  exact Ext.refl _ _

theorem execActRestore_ext (a0 : ℕ) (a1 : State) :
    HAll (fun x => Ext [.rst, .regs, .hlk, .launches, .cores, .shoals, .sram, .sramUe, .mem, .queues, .act, .shl, .red, .ras, .free] a1 x) (@execActRestore a0 a1) := by
  unfold Sys2Proof.Machine.execActRestore
  refine HAll.next ?_
  unfold Sys2Proof.Machine.State.startIf
  split
  refine Ext.ite ?_ ?_
  unfold Sys2Proof.Machine.State.startOp
  refine Ext.ite ?_ ?_
  split
  refine Ext.step (State.launchEnd_ext ..) rfl ?_
  exact Ext.refl _ _
  refine Ext.step (State.poisonTail_ext ..) rfl ?_
  exact Ext.refl _ _
  refine Ext.ite ?_ ?_
  refine Ext.step (State.poisonTail_ext ..) rfl ?_
  exact Ext.refl _ _
  refine Ext.ite ?_ ?_
  refine Ext.step (State.modOp_ext ..) rfl ?_
  exact Ext.refl _ _
  refine Ext.step (State.actRestoreBegin_ext ..) rfl ?_
  refine Ext.step (State.modOp_ext ..) rfl ?_
  exact Ext.refl _ _
  exact Ext.refl _ _
  exact Ext.refl _ _

theorem execActPurge_ext (a0 : ℕ) (a1 : State) :
    HAll (fun x => Ext [.rst, .regs, .hlk, .cores, .mem, .act, .ras, .free] a1 x) (@execActPurge a0 a1) := by
  unfold Sys2Proof.Machine.execActPurge
  refine HAll.next ?_
  refine Ext.ite ?_ ?_
  refine Ext.ite ?_ ?_
  refine Ext.step (State.refuse_ext ..) rfl ?_
  exact Ext.refl _ _
  refine Ext.ite ?_ ?_
  refine foldl_all (P := fun x => Ext _ _ x) ?_ ?_
  exact Ext.refl _ _
  intro _
  intro _
  intro _
  refine Ext.step (State.freeOrDue_ext ..) rfl ?_
  with_reducible assumption
  refine Ext.step (State.raise_ext ..) rfl ?_
  exact Ext.refl _ _
  exact Ext.refl _ _

theorem execActSave_ext (a0 : ℕ) (a1 : State) :
    HAll (fun x => Ext [.rst, .regs, .hlk, .launches, .cores, .shoals, .sram, .sramUe, .mem, .queues, .act, .shl, .red, .ras, .free] a1 x) (@execActSave a0 a1) := by
  unfold Sys2Proof.Machine.execActSave
  refine HAll.next ?_
  unfold Sys2Proof.Machine.State.startIf
  split
  refine Ext.ite ?_ ?_
  unfold Sys2Proof.Machine.State.startOp
  refine Ext.ite ?_ ?_
  split
  refine Ext.step (State.launchEnd_ext ..) rfl ?_
  exact Ext.refl _ _
  refine Ext.step (State.poisonTail_ext ..) rfl ?_
  exact Ext.refl _ _
  refine Ext.ite ?_ ?_
  refine Ext.step (State.poisonTail_ext ..) rfl ?_
  exact Ext.refl _ _
  refine Ext.ite ?_ ?_
  refine Ext.step (State.modOp_ext ..) rfl ?_
  exact Ext.refl _ _
  refine Ext.step (State.actSaveBegin_ext ..) rfl ?_
  refine Ext.step (State.modOp_ext ..) rfl ?_
  exact Ext.refl _ _
  exact Ext.refl _ _
  exact Ext.refl _ _

end Sys2Proof.Machine
end

