-- ==== Sys2Proof/Laws/FrameConv.lean ====
section
/-! SUPPORT. What each definition of Machine/Conv.lean may change: every part that its lemma does not name stays, and memory keeps
its canonical form. -/

set_option maxRecDepth 4000

namespace Sys2Proof.Machine

theorem State.beginPlain_ext (a0 : State) (a1 : ℕ) (a2 : Op) :
    Ext [.queues] a0 (@State.beginPlain a0 a1 a2) := by
  unfold Sys2Proof.Machine.State.beginPlain
  refine Ext.step (State.modOp_ext ..) rfl ?_
  exact Ext.refl _ _

theorem State.issuePatch_ext (a0 : State) (a1 : ℕ) (a2 : Op) (a3 : Bool) :
    Ext [.queues] a0 (@State.issuePatch a0 a1 a2 a3) := by
  unfold Sys2Proof.Machine.State.issuePatch
  refine Ext.step (State.issue_ext ..) rfl ?_
  exact Ext.refl _ _

theorem State.gotRead_ext (a0 : State) (a1 : ℕ) (a2 : ℕ) (a3 : ℕ) :
    GAll (fun x => Ext [.regs, .hlk, .mem] a0 x) (@State.gotRead a0 a1 a2 a3) := by
  unfold Sys2Proof.Machine.State.gotRead
  split
  refine GAll.ok ?_
  refine VAll.of_ok (P := fun x => Ext _ _ x) ?_ ‹_›
  refine VAll.step (State.vread_ext ..) rfl ?_
  exact Ext.refl _ _
  refine GAll.poison ?_
  refine VAll.of_ok (P := fun x => Ext _ _ x) ?_ ‹_›
  refine VAll.step (State.vread_ext ..) rfl ?_
  exact Ext.refl _ _
  refine GAll.hostDown ?_
  refine GAll.wait ?_

theorem State.gotPlain_ext (a0 : ℕ) (a1 : ℕ) (a2 : ℕ) (a3 : List ℕ) (a4 : State) :
    GAll (fun x => Ext [.regs, .hlk, .mem] a4 x) (@State.gotPlain a0 a1 a2 a3 a4) := by
  induction a3 generalizing a0 a1 a2 a4 with
  | nil =>
    unfold Sys2Proof.Machine.State.gotPlain
    refine GAll.ok ?_
    exact Ext.refl _ _
  | cons x l ih =>
    unfold Sys2Proof.Machine.State.gotPlain
    split
    split
    refine GAll.ok ?_
    refine GAll.of_ok (P := fun x => Ext _ _ x) ?_ ‹_›
    refine GAll.step (ih _ _ _ _) rfl ?_
    refine GAll.of_ok (P := fun x => Ext _ _ x) ?_ ‹_›
    refine GAll.step (State.gotRead_ext ..) rfl ?_
    exact Ext.refl _ _
    refine GAll.step (ih _ _ _ _) rfl ?_
    refine GAll.of_ok (P := fun x => Ext _ _ x) ?_ ‹_›
    refine GAll.step (State.gotRead_ext ..) rfl ?_
    exact Ext.refl _ _
    refine GAll.wait ?_
    refine GAll.poison ?_
    refine GAll.of_poison (P := fun x => Ext _ _ x) ?_ ‹_›
    refine GAll.step (State.gotRead_ext ..) rfl ?_
    exact Ext.refl _ _
    refine GAll.crc ?_
    refine GAll.of_crc (P := fun x => Ext _ _ x) ?_ ‹_›
    refine GAll.step (State.gotRead_ext ..) rfl ?_
    exact Ext.refl _ _
    refine GAll.hostDown ?_

theorem State.gotGroups_ext (a0 : ℕ) (a1 : ℕ) (a2 : ℕ) (a3 : ℕ) (a4 : ℕ) (a5 : ℕ) (a6 : List ℕ) (a7 : State) :
    GAll (fun x => Ext [.regs, .hlk, .mem] a7 x) (@State.gotGroups a0 a1 a2 a3 a4 a5 a6 a7) := by
  induction a6 generalizing a0 a1 a2 a3 a4 a5 a7 with
  | nil =>
    unfold Sys2Proof.Machine.State.gotGroups
    refine GAll.ok ?_
    exact Ext.refl _ _
  | cons x l ih =>
    unfold Sys2Proof.Machine.State.gotGroups
    split
    refine GAll.ite ?_ ?_
    split
    refine GAll.ok ?_
    refine GAll.of_ok (P := fun x => Ext _ _ x) ?_ ‹_›
    refine GAll.step (ih _ _ _ _ _ _ _) rfl ?_
    refine Ext.step (State.bump_ext ..) rfl ?_
    refine GAll.of_ok (P := fun x => Ext _ _ x) ?_ ‹_›
    refine GAll.step (State.gotRead_ext ..) rfl ?_
    exact Ext.refl _ _
    refine GAll.step (ih _ _ _ _ _ _ _) rfl ?_
    refine Ext.step (State.bump_ext ..) rfl ?_
    refine GAll.of_ok (P := fun x => Ext _ _ x) ?_ ‹_›
    refine GAll.step (State.gotRead_ext ..) rfl ?_
    exact Ext.refl _ _
    refine GAll.crc ?_
    refine Ext.step (State.bump_ext ..) rfl ?_
    refine GAll.of_ok (P := fun x => Ext _ _ x) ?_ ‹_›
    refine GAll.step (State.gotRead_ext ..) rfl ?_
    exact Ext.refl _ _
    refine GAll.wait ?_
    refine GAll.poison ?_
    refine GAll.of_poison (P := fun x => Ext _ _ x) ?_ ‹_›
    refine GAll.step (State.gotRead_ext ..) rfl ?_
    exact Ext.refl _ _
    refine GAll.crc ?_
    refine GAll.of_crc (P := fun x => Ext _ _ x) ?_ ‹_›
    refine GAll.step (State.gotRead_ext ..) rfl ?_
    exact Ext.refl _ _
    refine GAll.hostDown ?_

theorem State.gotElems_ext (a0 : State) (a1 : ℕ) (a2 : ℕ) (a3 : ℕ) (a4 : ℕ) (a5 : ℕ) (a6 : List ℕ) :
    GAll (fun x => Ext [.regs, .hlk, .mem] a0 x) (@State.gotElems a0 a1 a2 a3 a4 a5 a6) := by
  unfold Sys2Proof.Machine.State.gotElems
  split
  refine GAll.step (State.gotPlain_ext ..) rfl ?_
  exact Ext.refl _ _
  split
  refine GAll.wait ?_
  split
  refine GAll.ok ?_
  refine GAll.of_ok (P := fun x => Ext _ _ x) ?_ ‹_›
  refine GAll.step (State.gotGroups_ext ..) rfl ?_
  exact Ext.refl _ _
  refine GAll.wait ?_
  refine GAll.poison ?_
  refine GAll.of_poison (P := fun x => Ext _ _ x) ?_ ‹_›
  refine GAll.step (State.gotGroups_ext ..) rfl ?_
  exact Ext.refl _ _
  refine GAll.crc ?_
  refine GAll.of_crc (P := fun x => Ext _ _ x) ?_ ‹_›
  refine GAll.step (State.gotGroups_ext ..) rfl ?_
  exact Ext.refl _ _
  refine GAll.hostDown ?_

theorem execConvTpatch_ext (a0 : ℕ) (a1 : State) :
    HAll (fun x => Ext [.rst, .regs, .hlk, .launches, .cores, .shoals, .sram, .sramUe, .mem, .queues, .act, .shl, .red, .ras, .free] a1 x) (@execConvTpatch a0 a1) := by
  unfold Sys2Proof.Machine.execConvTpatch
  refine HAll.next ?_
  unfold Sys2Proof.Machine.State.startIf
  split
  refine Ext.ite ?_ ?_
  unfold Sys2Proof.Machine.State.startOp
  refine Ext.ite ?_ ?_
  split
  refine Ext.step (State.launchEnd_ext ..) rfl ?_
  exact Ext.refl _ _
  refine Ext.step (State.poisonTail_ext ..) rfl ?_
  exact Ext.refl _ _
  refine Ext.ite ?_ ?_
  refine Ext.step (State.poisonTail_ext ..) rfl ?_
  exact Ext.refl _ _
  refine Ext.ite ?_ ?_
  refine Ext.step (State.modOp_ext ..) rfl ?_
  exact Ext.refl _ _
  refine Ext.step (State.beginPlain_ext ..) rfl ?_
  refine Ext.step (State.modOp_ext ..) rfl ?_
  exact Ext.refl _ _
  exact Ext.refl _ _
  exact Ext.refl _ _

theorem execConvPatch_ext (a0 : ℕ) (a1 : State) :
    HAll (fun x => Ext [.rst, .regs, .hlk, .launches, .cores, .shoals, .sram, .sramUe, .mem, .queues, .act, .shl, .red, .ras, .free] a1 x) (@execConvPatch a0 a1) := by
  unfold Sys2Proof.Machine.execConvPatch
  refine HAll.next ?_
  unfold Sys2Proof.Machine.State.startIf
  split
  refine Ext.ite ?_ ?_
  unfold Sys2Proof.Machine.State.startOp
  refine Ext.ite ?_ ?_
  split
  refine Ext.step (State.launchEnd_ext ..) rfl ?_
  exact Ext.refl _ _
  refine Ext.step (State.poisonTail_ext ..) rfl ?_
  exact Ext.refl _ _
  refine Ext.ite ?_ ?_
  refine Ext.step (State.poisonTail_ext ..) rfl ?_
  exact Ext.refl _ _
  refine Ext.ite ?_ ?_
  refine Ext.step (State.modOp_ext ..) rfl ?_
  exact Ext.refl _ _
  refine Ext.step (State.beginPlain_ext ..) rfl ?_
  refine Ext.step (State.modOp_ext ..) rfl ?_
  exact Ext.refl _ _
  exact Ext.refl _ _
  exact Ext.refl _ _

theorem execFeatureMapCodec_ext (a0 : ℕ) (a1 : State) :
    HAll (fun x => Ext [.rst, .regs, .hlk, .launches, .cores, .shoals, .sram, .sramUe, .mem, .queues, .act, .shl, .red, .ras, .free] a1 x) (@execFeatureMapCodec a0 a1) := by
  unfold Sys2Proof.Machine.execFeatureMapCodec
  refine HAll.next ?_
  unfold Sys2Proof.Machine.State.startIf
  split
  refine Ext.ite ?_ ?_
  unfold Sys2Proof.Machine.State.startOp
  refine Ext.ite ?_ ?_
  split
  refine Ext.step (State.launchEnd_ext ..) rfl ?_
  exact Ext.refl _ _
  refine Ext.step (State.poisonTail_ext ..) rfl ?_
  exact Ext.refl _ _
  refine Ext.ite ?_ ?_
  refine Ext.step (State.poisonTail_ext ..) rfl ?_
  exact Ext.refl _ _
  refine Ext.ite ?_ ?_
  refine Ext.step (State.modOp_ext ..) rfl ?_
  exact Ext.refl _ _
  refine Ext.step (State.beginPlain_ext ..) rfl ?_
  refine Ext.step (State.modOp_ext ..) rfl ?_
  exact Ext.refl _ _
  exact Ext.refl _ _
  exact Ext.refl _ _

theorem State.gotSrcs_ext (a0 : State) (a1 : ℕ) (a2 : ℕ) (a3 : ℕ) (a4 : Geom) (a5 : List Src) :
    GAll (fun x => Ext [.regs, .hlk, .mem] a0 x) (@State.gotSrcs a0 a1 a2 a3 a4 a5) := by
  unfold Sys2Proof.Machine.State.gotSrcs
  (dsimp only; split)
  refine GAll.ok ?_
  refine GAll.of_ok (P := fun x => Ext _ _ x) ?_ ‹_›
  refine GAll.step (State.gotElems_ext ..) rfl ?_
  exact Ext.refl _ _
  refine GAll.step (State.gotElems_ext ..) rfl ?_
  exact Ext.refl _ _

theorem State.poisonAt_ext (a0 : State) (a1 : ℕ) (a2 : ℕ) (a3 : ℕ) (a4 : Word) :
    Ext [.rst, .regs, .hlk, .cores, .ras, .free] a0 (@State.poisonAt a0 a1 a2 a3 a4) := by
  unfold Sys2Proof.Machine.State.poisonAt
  split
  split
  refine Ext.step (State.detected_ext ..) rfl ?_
  exact Ext.refl _ _
  refine Ext.step (State.detected_ext ..) rfl ?_
  exact Ext.refl _ _
  refine Ext.step (State.detected_ext ..) rfl ?_
  exact Ext.refl _ _
  refine Ext.step (State.detected_ext ..) rfl ?_
  exact Ext.refl _ _

theorem State.fmcBad_ext (a0 : State) (a1 : ℕ) (a2 : Word) (a3 : ℕ) :
    Ext [.rst, .regs, .hlk, .cores, .ras, .free] a0 (@State.fmcBad a0 a1 a2 a3) := by
  unfold Sys2Proof.Machine.State.fmcBad
  refine Ext.step (State.detected_ext ..) rfl ?_
  exact Ext.refl _ _

theorem State.fmUnits_ext (a0 : ℕ) (a1 : Op) (a2 : ℕ) (a3 : ℕ) (a4 : ℕ) (a5 : Bytes) (a6 : ℕ) (a7 : Bool) (a8 : ℕ) (a9 : State) (a10 : ℕ) :
    EAll (fun x => Ext [.rst, .regs, .hlk, .cores, .mem, .ras, .free] a9 x.1) (@State.fmUnits a0 a1 a2 a3 a4 a5 a6 a7 a8 a9 a10) := by
  induction a8 generalizing a0 a1 a2 a3 a4 a5 a6 a7 a9 a10 with
  | zero =>
    unfold Sys2Proof.Machine.State.fmUnits
    refine EAll.ok ?_
    refine Ext.at1 ?_
    exact Ext.refl _ _
  | succ k ih =>
    unfold Sys2Proof.Machine.State.fmUnits
    refine EAll.ite ?_ ?_
    refine EAll.ok ?_
    refine Ext.at1 ?_
    exact Ext.refl _ _
    (dsimp only; split)
    split
    refine EAll.ok ?_
    refine Ext.at1 ?_
    refine Ext.ofE1 ?_ ‹_›
    refine EAll.step (ih _ _ _ _ _ _ _ _ _ _) rfl ?_
    refine Ext.step (State.bump_ext ..) rfl ?_
    refine Ext.ite ?_ ?_
    refine Ext.step (State.vpoison_ext ..) rfl ?_
    refine VAll.of_ok (P := fun x => Ext _ _ x) ?_ ‹_›
    refine VAll.step (State.vwrite_ext ..) rfl ?_
    exact Ext.refl _ _
    refine VAll.of_ok (P := fun x => Ext _ _ x) ?_ ‹_›
    refine VAll.step (State.vwrite_ext ..) rfl ?_
    exact Ext.refl _ _
    refine EAll.step (ih _ _ _ _ _ _ _ _ _ _) rfl ?_
    refine Ext.step (State.bump_ext ..) rfl ?_
    refine Ext.ite ?_ ?_
    refine Ext.step (State.vpoison_ext ..) rfl ?_
    refine VAll.of_ok (P := fun x => Ext _ _ x) ?_ ‹_›
    refine VAll.step (State.vwrite_ext ..) rfl ?_
    exact Ext.refl _ _
    refine VAll.of_ok (P := fun x => Ext _ _ x) ?_ ‹_›
    refine VAll.step (State.vwrite_ext ..) rfl ?_
    exact Ext.refl _ _
    exact EAll.error ..
    exact EAll.error ..

theorem State.opFlags_ext (a0 : State) (a1 : ℕ) (a2 : Op) (a3 : ℕ) :
    Ext [.regs, .red] a0 (@State.opFlags a0 a1 a2 a3) := by
  unfold Sys2Proof.Machine.State.opFlags
  refine Ext.ite ?_ ?_
  exact Ext.refl _ _
  split
  refine Ext.ite ?_ ?_
  refine Ext.step (State.orLaunchWord_ext ..) rfl ?_
  exact Ext.refl _ _
  exact Ext.refl _ _
  refine Ext.step (State.orBasinWord_ext ..) rfl ?_
  exact Ext.refl _ _

theorem State.landFm_ext (a0 : State) (a1 : ℕ) (a2 : Op) (a3 : Xfer) :
    LAll (fun x => Ext [.rst, .regs, .hlk, .cores, .sram, .sramUe, .mem, .queues, .red, .ras, .free] a0 x) (@State.landFm a0 a1 a2 a3) := by
  unfold Sys2Proof.Machine.State.landFm
  (dsimp only; split)
  refine LAll.wait ?_
  split
  refine LAll.wait ?_
  refine LAll.ite ?_ ?_
  split
  refine LAll.done ?_
  refine Ext.step (State.windowWrite_ext ..) rfl ?_
  refine GAll.of_ok (P := fun x => Ext _ _ x) ?_ ‹_›
  refine GAll.step (State.gotElems_ext ..) rfl ?_
  exact Ext.refl _ _
  refine LAll.wait ?_
  refine LAll.mark ?_
  refine Ext.step (State.poisonAt_ext ..) rfl ?_
  refine GAll.of_poison (P := fun x => Ext _ _ x) ?_ ‹_›
  refine GAll.step (State.gotElems_ext ..) rfl ?_
  exact Ext.refl _ _
  refine LAll.mark ?_
  refine Ext.step (State.fmcBad_ext ..) rfl ?_
  refine GAll.of_crc (P := fun x => Ext _ _ x) ?_ ‹_›
  refine GAll.step (State.gotElems_ext ..) rfl ?_
  exact Ext.refl _ _
  refine LAll.fail ?_
  exact Ext.refl _ _
  split
  refine LAll.fail ?_
  exact Ext.refl _ _
  refine LAll.wait ?_
  refine LAll.done ?_
  refine Ext.step (State.modOp_ext ..) rfl ?_
  refine Ext.ite ?_ ?_
  refine Ext.step (State.reportSram_ext ..) rfl ?_
  refine Ext.ite ?_ ?_
  refine Ext.step (State.opFlags_ext ..) rfl ?_
  refine Ext.ofE1 ?_ ‹_›
  refine EAll.step (State.fmUnits_ext ..) rfl ?_
  exact Ext.refl _ _
  refine Ext.ofE1 ?_ ‹_›
  refine EAll.step (State.fmUnits_ext ..) rfl ?_
  exact Ext.refl _ _
  refine Ext.ite ?_ ?_
  refine Ext.step (State.opFlags_ext ..) rfl ?_
  refine Ext.ofE1 ?_ ‹_›
  refine EAll.step (State.fmUnits_ext ..) rfl ?_
  exact Ext.refl _ _
  refine Ext.ofE1 ?_ ‹_›
  refine EAll.step (State.fmUnits_ext ..) rfl ?_
  exact Ext.refl _ _

theorem State.landPatch_ext (a0 : State) (a1 : ℕ) (a2 : Op) (a3 : Xfer) (a4 : Bool) :
    LAll (fun x => Ext [.rst, .regs, .hlk, .cores, .sram, .sramUe, .mem, .ras, .free] a0 x) (@State.landPatch a0 a1 a2 a3 a4) := by
  unfold Sys2Proof.Machine.State.landPatch
  (dsimp only; split)
  refine LAll.done ?_
  refine Ext.step (State.windowWrite_ext ..) rfl ?_
  refine GAll.of_ok (P := fun x => Ext _ _ x) ?_ ‹_›
  refine GAll.step (State.gotSrcs_ext ..) rfl ?_
  exact Ext.refl _ _
  refine LAll.wait ?_
  refine LAll.mark ?_
  refine Ext.step (State.poisonAt_ext ..) rfl ?_
  refine GAll.of_poison (P := fun x => Ext _ _ x) ?_ ‹_›
  refine GAll.step (State.gotSrcs_ext ..) rfl ?_
  exact Ext.refl _ _
  refine LAll.mark ?_
  refine Ext.step (State.fmcBad_ext ..) rfl ?_
  refine GAll.of_crc (P := fun x => Ext _ _ x) ?_ ‹_›
  refine GAll.step (State.gotSrcs_ext ..) rfl ?_
  exact Ext.refl _ _
  refine LAll.fail ?_
  exact Ext.refl _ _

end Sys2Proof.Machine
end

