-- ==== Sys2Proof/Laws/FramePackets.lean ====
section
/-! SUPPORT. What each definition of Machine/Packets.lean may change: every part that its lemma does not name stays, and memory keeps
its canonical form. -/

set_option maxRecDepth 4000

namespace Sys2Proof.Machine

theorem State.negotiate_ext (a0 : State) (a1 : ℕ) (a2 : ℕ → Bool) :
    Ext [.regs, .hlk] a0 (@State.negotiate a0 a1 a2).1 := by
  unfold Sys2Proof.Machine.State.negotiate
  (dsimp only; split)
  refine Ext.at1 ?_
  refine Ext.step (State.raise_ext ..) rfl ?_
  refine Ext.step (State.p_ext ..) rfl ?_
  exact Ext.refl _ _
  refine Ext.at1 ?_
  refine Ext.step (State.p_ext ..) rfl ?_
  refine Ext.step (State.p_ext ..) rfl ?_
  exact Ext.refl _ _

theorem State.routeEntry_ext (a0 : State) (a1 : ℕ) :
    OAll (fun x => Ext [.regs, .hlk, .mem, .fab] a0 x.2) (@State.routeEntry a0 a1) := by
  unfold Sys2Proof.Machine.State.routeEntry
  (dsimp only; split)
  refine OAll.some ?_
  refine Ext.at2 ?_
  exact Ext.refl _ _
  split
  refine OAll.some ?_
  refine Ext.at2 ?_
  refine Ext.step (Ext.set_fab ..) rfl ?_
  refine Ext.ofO2 ?_ ‹_›
  refine OAll.step (State.vget_ext ..) rfl ?_
  exact Ext.refl _ _
  refine OAll.none ?_

theorem State.route_ext (a0 : State) (a1 : ℕ) (a2 : Bool) (a3 : (Option ℕ)) :
    Ext [.regs, .hlk, .mem, .fab] a0 (@State.route a0 a1 a2 a3).2 := by
  unfold Sys2Proof.Machine.State.route
  (dsimp only; split)
  split
  refine Ext.at2 ?_
  exact Ext.refl _ _
  refine Ext.at2 ?_
  exact Ext.refl _ _
  split
  refine Ext.at2 ?_
  exact Ext.refl _ _
  split
  refine Ext.at2 ?_
  refine Ext.ofO2 ?_ ‹_›
  refine OAll.step (State.routeEntry_ext ..) rfl ?_
  exact Ext.refl _ _
  split
  refine Ext.at2 ?_
  refine Ext.step (Ext.set_fab ..) rfl ?_
  refine Ext.ofO2 ?_ ‹_›
  refine OAll.step (State.routeEntry_ext ..) rfl ?_
  exact Ext.refl _ _
  split
  refine Ext.at2 ?_
  refine Ext.ofO2 ?_ ‹_›
  refine OAll.step (State.routeEntry_ext ..) rfl ?_
  exact Ext.refl _ _
  refine Ext.at2 ?_
  refine Ext.ofO2 ?_ ‹_›
  refine OAll.step (State.routeEntry_ext ..) rfl ?_
  exact Ext.refl _ _

theorem State.emit_ext (a0 : State) (a1 : ℕ) (a2 : Pkt) :
    Ext [.regs, .hlk] a0 (@State.emit a0 a1 a2) := by
  unfold Sys2Proof.Machine.State.emit
  refine Ext.step (State.out_ext ..) rfl ?_
  refine Ext.step (State.bump_ext ..) rfl ?_
  exact Ext.refl _ _

theorem State.resend_ext (a0 : State) (a1 : Txn) (a2 : Bool) :
    OAll (fun x => Ext [.regs, .hlk, .mem, .fab] a0 x) (@State.resend a0 a1 a2) := by
  unfold Sys2Proof.Machine.State.resend
  refine OAll.ite ?_ ?_
  refine OAll.none ?_
  (dsimp only; split)
  refine OAll.some ?_
  refine Ext.step (State.emit_ext ..) rfl ?_
  refine Ext.step (State.bump_ext ..) rfl ?_
  refine Ext.step (Ext.set_fab ..) rfl ?_
  refine Ext.ofPair ?_ ‹_›
  refine Ext.step (State.route_ext ..) rfl ?_
  exact Ext.refl _ _
  refine OAll.none ?_

theorem State.dropTxn_ext (a0 : State) (a1 : Txn) :
    Ext [.fab] a0 (@State.dropTxn a0 a1) := by
  unfold Sys2Proof.Machine.State.dropTxn
  refine Ext.step (Ext.set_fab ..) rfl ?_
  exact Ext.refl _ _

theorem State.failTxn_ext (a0 : State) (a1 : Txn) (a2 : ℕ) :
    Ext [.rst, .regs, .hlk, .cores, .sram, .sramUe, .mem, .queues, .fab, .ras, .free] a0 (@State.failTxn a0 a1 a2) := by
  unfold Sys2Proof.Machine.State.failTxn
  (dsimp only; split)
  refine Ext.step (Ext.set_fab ..) rfl ?_
  exact Ext.refl _ _
  split
  refine Ext.step (State.poisonTail_ext ..) rfl ?_
  refine Ext.step (State.dropTxn_ext ..) rfl ?_
  exact Ext.refl _ _
  refine Ext.step (State.dropTxn_ext ..) rfl ?_
  exact Ext.refl _ _

theorem State.fabErr_ext (a0 : State) (a1 : ℕ) (a2 : ℕ) (a3 : ℕ) (a4 : ℕ) (a5 : ℕ) :
    Ext [.regs] a0 (@State.fabErr a0 a1 a2 a3 a4 a5) := by
  unfold Sys2Proof.Machine.State.fabErr
  refine Ext.step (State.wr_ext ..) rfl ?_
  exact Ext.refl _ _

theorem State.nackTxn_ext (a0 : State) (a1 : Txn) (a2 : ℕ) :
    Ext [.rst, .regs, .hlk, .cores, .sram, .sramUe, .mem, .queues, .fab, .ras, .free] a0 (@State.nackTxn a0 a1 a2) := by
  unfold Sys2Proof.Machine.State.nackTxn
  refine Ext.ite ?_ ?_
  split
  refine Ext.ofO ?_ ‹_›
  refine OAll.step (State.resend_ext ..) rfl ?_
  exact Ext.refl _ _
  refine Ext.step (State.failTxn_ext ..) rfl ?_
  refine Ext.step (State.raise_ext ..) rfl ?_
  refine Ext.step (State.fabErr_ext ..) rfl ?_
  exact Ext.refl _ _
  refine Ext.step (State.failTxn_ext ..) rfl ?_
  refine Ext.step (State.raise_ext ..) rfl ?_
  refine Ext.step (State.fabErr_ext ..) rfl ?_
  exact Ext.refl _ _

theorem State.mgmt_ext (a0 : State) (a1 : ℕ) (a2 : ℕ) (a3 : Bytes) :
    Ext [.regs, .hlk] a0 (@State.mgmt a0 a1 a2 a3) := by
  unfold Sys2Proof.Machine.State.mgmt
  refine Ext.step (State.emit_ext ..) rfl ?_
  exact Ext.refl _ _

theorem State.noRoute_ext (a0 : State) (a1 : ℕ) (a2 : ℕ) :
    Ext [.regs, .hlk] a0 (@State.noRoute a0 a1 a2) := by
  unfold Sys2Proof.Machine.State.noRoute
  refine Ext.step (State.raise_ext ..) rfl ?_
  refine Ext.step (State.fabErr_ext ..) rfl ?_
  exact Ext.refl _ _

theorem State.setLink_ext (a0 : State) (a1 : ℕ) (a2 : Link) :
    Ext [.fab] a0 (@State.setLink a0 a1 a2) := by
  unfold Sys2Proof.Machine.State.setLink
  refine Ext.step (Ext.set_fab ..) rfl ?_
  exact Ext.refl _ _

theorem State.linkLost_ext (a0 : State) (a1 : ℕ) :
    Ext [.regs, .hlk, .mem, .fab] a0 (@State.linkLost a0 a1) := by
  unfold Sys2Proof.Machine.State.linkLost
  refine foldl_all (P := fun x => Ext _ _ x) ?_ ?_
  exact Ext.refl _ _
  intro _
  intro _
  intro _
  split
  refine Ext.ofO ?_ ‹_›
  refine OAll.step (State.resend_ext ..) rfl ?_
  with_reducible assumption
  with_reducible assumption

theorem State.dropLink_ext (a0 : State) (a1 : ℕ) :
    Ext [.regs, .hlk, .mem, .fab] a0 (@State.dropLink a0 a1) := by
  unfold Sys2Proof.Machine.State.dropLink
  refine Ext.step (State.linkLost_ext ..) rfl ?_
  refine Ext.ite ?_ ?_
  refine Ext.step (State.raise_ext ..) rfl ?_
  refine Ext.step (State.setLink_ext ..) rfl ?_
  exact Ext.refl _ _
  refine Ext.step (State.setLink_ext ..) rfl ?_
  exact Ext.refl _ _

theorem State.request_ext (a0 : State) (a1 : ℕ) (a2 : Pkt) (a3 : Option (ℕ × ℕ × ℕ)) :
    Ext [.regs, .hlk, .fab] a0 (@State.request a0 a1 a2 a3) := by
  unfold Sys2Proof.Machine.State.request
  refine Ext.step (State.emit_ext ..) rfl ?_
  refine Ext.step (Ext.set_fab ..) rfl ?_
  exact Ext.refl _ _

theorem State.dupAdd_ext (a0 : State) (a1 : ℕ) (a2 : Pkt) :
    Ext [.fab] a0 (@State.dupAdd a0 a1 a2) := by
  unfold Sys2Proof.Machine.State.dupAdd
  refine Ext.ite ?_ ?_
  refine Ext.step (Ext.set_fab ..) rfl ?_
  exact Ext.refl _ _
  exact Ext.refl _ _

theorem State.answer_ext (a0 : State) (a1 : ℕ) (a2 : Pkt) (a3 : ℕ) (a4 : ℕ) (a5 : Bytes) (a6 : Bool) :
    Ext [.regs, .hlk, .mem, .fab] a0 (@State.answer a0 a1 a2 a3 a4 a5 a6) := by
  unfold Sys2Proof.Machine.State.answer
  (dsimp only; split)
  refine Ext.step (State.emit_ext ..) rfl ?_
  refine Ext.ofPair ?_ ‹_›
  refine Ext.step (State.route_ext ..) rfl ?_
  exact Ext.refl _ _
  refine Ext.ite ?_ ?_
  refine Ext.step (State.emit_ext ..) rfl ?_
  refine Ext.ofPair ?_ ‹_›
  refine Ext.step (State.route_ext ..) rfl ?_
  exact Ext.refl _ _
  refine Ext.ofPair ?_ ‹_›
  refine Ext.step (State.route_ext ..) rfl ?_
  exact Ext.refl _ _

end Sys2Proof.Machine
end

