-- ==== Sys2Proof/Laws/FrameKv.lean ====
section
/-! SUPPORT. What each definition of Machine/Kv.lean may change: every part that its lemma does not name stays, and memory keeps
its canonical form. -/

set_option maxRecDepth 4000

namespace Sys2Proof.Machine

theorem State.kvBad_ext (a0 : State) (a1 : ℕ) (a2 : Op) :
    Ext [.rst, .regs, .hlk, .cores, .sram, .sramUe, .mem, .queues, .ras, .free] a0 (@State.kvBad a0 a1 a2) := by
  unfold Sys2Proof.Machine.State.kvBad
  refine Ext.step (State.poisonTail_ext ..) rfl ?_
  refine Ext.step (State.detected_ext ..) rfl ?_
  refine Ext.step (State.raise_ext ..) rfl ?_
  exact Ext.refl _ _

theorem State.landMask_ext (a0 : State) (a1 : ℕ) (a2 : Op) (a3 : Xfer) :
    LAll (fun x => Ext [.sram, .sramUe] a0 x) (@State.landMask a0 a1 a2 a3) := by
  unfold Sys2Proof.Machine.State.landMask
  refine LAll.done ?_
  refine Ext.step (State.windowWrite_ext ..) rfl ?_
  exact Ext.refl _ _

theorem State.ackWhole_ext (a0 : State) (a1 : ℕ) (a2 : ℕ) :
    Ext [.queues] a0 (@State.ackWhole a0 a1 a2) := by
  unfold Sys2Proof.Machine.State.ackWhole
  refine Ext.step (State.modOp_ext ..) rfl ?_
  exact Ext.refl _ _

theorem State.kvRefuse_ext (a0 : State) (a1 : ℕ) (a2 : Pkt) (a3 : Bool) :
    Ext [.regs, .hlk, .mem, .fab] a0 (@State.kvRefuse a0 a1 a2 a3) := by
  unfold Sys2Proof.Machine.State.kvRefuse
  refine Ext.step (State.answer_ext ..) rfl ?_
  refine Ext.ite ?_ ?_
  refine Ext.step (State.raise_ext ..) rfl ?_
  refine Ext.step (State.raise_ext ..) rfl ?_
  exact Ext.refl _ _
  refine Ext.step (State.raise_ext ..) rfl ?_
  exact Ext.refl _ _

theorem State.kvRxPages_ext (a0 : ℕ) (a1 : State) (a2 : KvRec) (a3 : ℕ) :
    OAll (fun x => Ext [.rst, .regs, .hlk, .cores, .mem, .ras, .free] a1 x) (@State.kvRxPages a0 a1 a2 a3) := by
  induction a0 generalizing a1 a2 a3 with
  | zero =>
    unfold Sys2Proof.Machine.State.kvRxPages
    refine OAll.some ?_
    exact Ext.refl _ _
  | succ k ih =>
    unfold Sys2Proof.Machine.State.kvRxPages
    split
    refine OAll.none ?_
    refine OAll.ite ?_ ?_
    refine OAll.step (ih _ _ _) rfl ?_
    exact Ext.refl _ _
    split
    refine OAll.none ?_
    refine OAll.ite ?_ ?_
    refine OAll.step (ih _ _ _) rfl ?_
    refine Ext.step (State.putEntry_ext ..) rfl ?_
    refine Ext.step (State.kvAlloc_ext ..) rfl ?_
    exact Ext.refl _ _
    refine OAll.step (ih _ _ _) rfl ?_
    refine Ext.step (State.kvCopyEnd_ext ..) rfl ?_
    refine Ext.step (State.kvAlloc_ext ..) rfl ?_
    exact Ext.refl _ _

theorem State.kvReceive_ext (a0 : State) (a1 : ℕ) (a2 : Pkt) :
    Ext [.rst, .regs, .hlk, .cores, .mem, .fab, .ras, .free] a0 (@State.kvReceive a0 a1 a2) := by
  unfold Sys2Proof.Machine.State.kvReceive
  refine Ext.ite ?_ ?_
  refine Ext.step (State.kvRefuse_ext ..) rfl ?_
  exact Ext.refl _ _
  (dsimp only; split)
  exact Ext.refl _ _
  refine Ext.ite ?_ ?_
  refine Ext.step (State.kvRefuse_ext ..) rfl ?_
  refine Ext.step (State.raise_ext ..) rfl ?_
  exact Ext.refl _ _
  refine Ext.ite ?_ ?_
  refine Ext.step (State.kvRefuse_ext ..) rfl ?_
  exact Ext.refl _ _
  refine Ext.ite ?_ ?_
  refine Ext.step (State.answer_ext ..) rfl ?_
  refine Ext.step (State.putKv_ext ..) rfl ?_
  exact Ext.refl _ _
  refine Ext.ite ?_ ?_
  refine Ext.step (State.kvRefuse_ext ..) rfl ?_
  exact Ext.refl _ _
  split
  refine Ext.ite ?_ ?_
  refine Ext.step (State.kvRefuse_ext ..) rfl ?_
  exact Ext.refl _ _
  exact Ext.refl _ _
  split
  refine Ext.step (State.putKv_ext ..) rfl ?_
  refine Ext.step (State.bump_ext ..) rfl ?_
  refine foldl_all (P := fun x => Ext _ _ x) ?_ ?_
  refine Ext.ofO ?_ ‹_›
  refine OAll.step (State.kvRxPages_ext ..) rfl ?_
  exact Ext.refl _ _
  intro _
  intro _
  intro _
  split
  refine Ext.ite ?_ ?_
  refine Ext.step (State.vpoison_ext ..) rfl ?_
  refine Ext.step (State.vput_ext ..) rfl ?_
  with_reducible assumption
  refine Ext.step (State.vput_ext ..) rfl ?_
  with_reducible assumption
  with_reducible assumption
  refine Ext.step (State.bump_ext ..) rfl ?_
  refine foldl_all (P := fun x => Ext _ _ x) ?_ ?_
  refine Ext.ofO ?_ ‹_›
  refine OAll.step (State.kvRxPages_ext ..) rfl ?_
  exact Ext.refl _ _
  intro _
  intro _
  intro _
  split
  refine Ext.ite ?_ ?_
  refine Ext.step (State.vpoison_ext ..) rfl ?_
  refine Ext.step (State.vput_ext ..) rfl ?_
  with_reducible assumption
  refine Ext.step (State.vput_ext ..) rfl ?_
  with_reducible assumption
  with_reducible assumption

theorem State.kvSlots_ext (a0 : State) (a1 : KvRec) (a2 : ℕ) (a3 : ℕ) :
    OAll (fun x => Ext [.regs, .hlk, .mem] a0 x.2.2) (@State.kvSlots a0 a1 a2 a3) := by
  induction a3 generalizing a0 a1 a2 with
  | zero =>
    unfold Sys2Proof.Machine.State.kvSlots
    refine OAll.some ?_
    refine Ext.at22 ?_
    exact Ext.refl _ _
  | succ k ih =>
    unfold Sys2Proof.Machine.State.kvSlots
    refine OAll.ite ?_ ?_
    refine OAll.mapE (g := fun x => x.2.2) ?_ ?_
    refine OAll.step (ih _ _ _) rfl ?_
    exact Ext.refl _ _
    intro _
    intro _
    refine Ext.at22 ?_
    with_reducible assumption
    split
    refine OAll.none ?_
    refine OAll.mapE (g := fun x => x.2.2) ?_ ?_
    refine OAll.step (ih _ _ _) rfl ?_
    exact Ext.refl _ _
    intro _
    intro _
    refine Ext.at22 ?_
    with_reducible assumption
    split
    refine OAll.mapE (g := fun x => x.2.2) ?_ ?_
    refine OAll.step (ih _ _ _) rfl ?_
    refine VAll.of_ok (P := fun x => Ext _ _ x) ?_ ‹_›
    refine VAll.step (State.vread_ext ..) rfl ?_
    exact Ext.refl _ _
    intro _
    intro _
    refine Ext.at22 ?_
    with_reducible assumption
    refine OAll.none ?_

theorem State.kvSendBegin_ext (a0 : State) (a1 : ℕ) (a2 : Op) :
    Ext [.rst, .regs, .hlk, .cores, .sram, .sramUe, .mem, .queues, .fab, .ras, .free] a0 (@State.kvSendBegin a0 a1 a2) := by
  unfold Sys2Proof.Machine.State.kvSendBegin
  unfold Sys2Proof.Machine.State.kvStart
  refine Ext.ite ?_ ?_
  refine Ext.step (State.modOp_ext ..) rfl ?_
  exact Ext.refl _ _
  refine Ext.ite ?_ ?_
  refine Ext.step (State.poisonTail_ext ..) rfl ?_
  exact Ext.refl _ _
  (dsimp only; split)
  refine Ext.step (State.modOp_ext ..) rfl ?_
  exact Ext.refl _ _
  refine Ext.ite ?_ ?_
  refine Ext.step (State.kvBad_ext ..) rfl ?_
  exact Ext.refl _ _
  refine Ext.ite ?_ ?_
  refine Ext.step (State.poisonTail_ext ..) rfl ?_
  exact Ext.refl _ _
  refine Ext.ite ?_ ?_
  refine Ext.step (State.poisonTail_ext ..) rfl ?_
  exact Ext.refl _ _
  split
  refine Ext.step (State.modOp_ext ..) rfl ?_
  exact Ext.refl _ _
  refine Ext.step (State.poisonTail_ext ..) rfl ?_
  refine Ext.step (State.noRoute_ext ..) rfl ?_
  refine Ext.ofPair ?_ ‹_›
  refine Ext.step (State.route_ext ..) rfl ?_
  exact Ext.refl _ _
  refine Ext.ite ?_ ?_
  refine Ext.step (State.poisonTail_ext ..) rfl ?_
  refine Ext.ofPair ?_ ‹_›
  refine Ext.step (State.route_ext ..) rfl ?_
  exact Ext.refl _ _
  split
  refine Ext.step (State.modOp_ext ..) rfl ?_
  exact Ext.refl _ _
  refine Ext.step (State.poisonTail_ext ..) rfl ?_
  refine Ext.step (State.poisonAt_ext ..) rfl ?_
  refine Ext.ofO22 ?_ ‹_›
  refine OAll.step (State.kvSlots_ext ..) rfl ?_
  refine Ext.ofPair ?_ ‹_›
  refine Ext.step (State.route_ext ..) rfl ?_
  exact Ext.refl _ _
  refine Ext.step (State.modOp_ext ..) rfl ?_
  refine Ext.step (State.request_ext ..) rfl ?_
  refine foldl_all (P := fun x => Ext _ _ x) ?_ ?_
  refine Ext.ofO22 ?_ ‹_›
  refine OAll.step (State.kvSlots_ext ..) rfl ?_
  refine Ext.ofPair ?_ ‹_›
  refine Ext.step (State.route_ext ..) rfl ?_
  exact Ext.refl _ _
  intro _
  intro _
  intro _
  refine Ext.step (State.emit_ext ..) rfl ?_
  with_reducible assumption

theorem execKvSend_ext (a0 : ℕ) (a1 : State) :
    HAll (fun x => Ext [.rst, .regs, .hlk, .launches, .cores, .shoals, .sram, .sramUe, .mem, .queues, .act, .shl, .fab, .red, .ras, .free] a1 x) (@execKvSend a0 a1) := by
  unfold Sys2Proof.Machine.execKvSend
  refine HAll.next ?_
  unfold Sys2Proof.Machine.State.startIf
  split
  refine Ext.ite ?_ ?_
  unfold Sys2Proof.Machine.State.startOp
  refine Ext.ite ?_ ?_
  split
  refine Ext.step (State.launchEnd_ext ..) rfl ?_
  exact Ext.refl _ _
  refine Ext.step (State.poisonTail_ext ..) rfl ?_
  exact Ext.refl _ _
  refine Ext.ite ?_ ?_
  refine Ext.step (State.poisonTail_ext ..) rfl ?_
  exact Ext.refl _ _
  refine Ext.ite ?_ ?_
  refine Ext.step (State.modOp_ext ..) rfl ?_
  exact Ext.refl _ _
  refine Ext.step (State.kvSendBegin_ext ..) rfl ?_
  refine Ext.step (State.modOp_ext ..) rfl ?_
  exact Ext.refl _ _
  exact Ext.refl _ _
  exact Ext.refl _ _

theorem execKvAck_ext (a0 : ℕ) (a1 : Pkt) (a2 : State) :
    HAll (fun x => Ext [.regs, .hlk, .mem, .queues, .fab] a2 x) (@execKvAck a0 a1 a2) := by
  unfold Sys2Proof.Machine.execKvAck
  refine HAll.next ?_
  refine Ext.ite ?_ ?_
  unfold Sys2Proof.Machine.State.arrive
  refine Ext.ite ?_ ?_
  exact Ext.refl _ _
  refine Ext.ite ?_ ?_
  refine Ext.ite ?_ ?_
  refine Ext.step (State.answer_ext ..) rfl ?_
  refine Ext.step (State.bump_ext ..) rfl ?_
  exact Ext.refl _ _
  split
  refine Ext.step (State.emit_ext ..) rfl ?_
  refine Ext.step (State.bump_ext ..) rfl ?_
  refine Ext.ofPair ?_ ‹_›
  refine Ext.step (State.route_ext ..) rfl ?_
  refine Ext.step (State.bump_ext ..) rfl ?_
  exact Ext.refl _ _
  refine Ext.step (State.answer_ext ..) rfl ?_
  refine Ext.ofPair ?_ ‹_›
  refine Ext.step (State.route_ext ..) rfl ?_
  refine Ext.step (State.bump_ext ..) rfl ?_
  exact Ext.refl _ _
  refine Ext.ite ?_ ?_
  refine Ext.ite ?_ ?_
  unfold id
  refine Ext.step (State.bump_ext ..) rfl ?_
  refine Ext.step (State.bump_ext ..) rfl ?_
  exact Ext.refl _ _
  refine Ext.ite ?_ ?_
  refine Ext.step (State.answer_ext ..) rfl ?_
  refine Ext.step (State.bump_ext ..) rfl ?_
  exact Ext.refl _ _
  (dsimp only; split)
  split
  refine Ext.step (State.ackWhole_ext ..) rfl ?_
  refine Ext.step (State.dropTxn_ext ..) rfl ?_
  refine Ext.step (State.dupAdd_ext ..) rfl ?_
  refine Ext.step (State.bump_ext ..) rfl ?_
  exact Ext.refl _ _
  refine Ext.step (State.dupAdd_ext ..) rfl ?_
  refine Ext.step (State.bump_ext ..) rfl ?_
  exact Ext.refl _ _
  refine Ext.step (State.dupAdd_ext ..) rfl ?_
  refine Ext.step (State.bump_ext ..) rfl ?_
  exact Ext.refl _ _
  (dsimp only; split)
  split
  refine Ext.step (State.ackWhole_ext ..) rfl ?_
  refine Ext.step (State.dropTxn_ext ..) rfl ?_
  refine Ext.step (State.dupAdd_ext ..) rfl ?_
  refine Ext.step (State.bump_ext ..) rfl ?_
  exact Ext.refl _ _
  refine Ext.step (State.dupAdd_ext ..) rfl ?_
  refine Ext.step (State.bump_ext ..) rfl ?_
  exact Ext.refl _ _
  refine Ext.step (State.dupAdd_ext ..) rfl ?_
  refine Ext.step (State.bump_ext ..) rfl ?_
  exact Ext.refl _ _
  exact Ext.refl _ _

theorem State.landGather_ext (a0 : State) (a1 : ℕ) (a2 : Op) (a3 : Xfer) :
    LAll (fun x => Ext [.rst, .regs, .hlk, .cores, .sram, .sramUe, .mem, .ras, .free] a0 x) (@State.landGather a0 a1 a2 a3) := by
  unfold Sys2Proof.Machine.State.landGather
  (dsimp only; split)
  refine LAll.wait ?_
  refine LAll.ite ?_ ?_
  refine LAll.done ?_
  refine Ext.step (State.windowWrite_ext ..) rfl ?_
  exact Ext.refl _ _
  split
  refine LAll.wait ?_
  refine LAll.done ?_
  refine Ext.step (State.windowWrite_ext ..) rfl ?_
  exact Ext.refl _ _
  split
  refine LAll.mark ?_
  refine Ext.step (State.poisonAt_ext ..) rfl ?_
  refine VAll.of_ok (P := fun x => Ext _ _ x) ?_ ‹_›
  refine VAll.step (State.vread_ext ..) rfl ?_
  exact Ext.refl _ _
  refine LAll.done ?_
  refine Ext.step (State.windowWrite_ext ..) rfl ?_
  refine VAll.of_ok (P := fun x => Ext _ _ x) ?_ ‹_›
  refine VAll.step (State.vread_ext ..) rfl ?_
  exact Ext.refl _ _
  refine LAll.fail ?_
  exact Ext.refl _ _
  refine LAll.wait ?_

theorem execKv_ext (a0 : ℕ) (a1 : Pkt) (a2 : State) :
    HAll (fun x => Ext [.rst, .regs, .hlk, .cores, .mem, .fab, .ras, .free] a2 x) (@execKv a0 a1 a2) := by
  unfold Sys2Proof.Machine.execKv
  refine HAll.next ?_
  refine Ext.ite ?_ ?_
  unfold Sys2Proof.Machine.State.arrive
  refine Ext.ite ?_ ?_
  exact Ext.refl _ _
  refine Ext.ite ?_ ?_
  refine Ext.ite ?_ ?_
  refine Ext.step (State.answer_ext ..) rfl ?_
  refine Ext.step (State.bump_ext ..) rfl ?_
  exact Ext.refl _ _
  split
  refine Ext.step (State.emit_ext ..) rfl ?_
  refine Ext.step (State.bump_ext ..) rfl ?_
  refine Ext.ofPair ?_ ‹_›
  refine Ext.step (State.route_ext ..) rfl ?_
  refine Ext.step (State.bump_ext ..) rfl ?_
  exact Ext.refl _ _
  refine Ext.step (State.answer_ext ..) rfl ?_
  refine Ext.ofPair ?_ ‹_›
  refine Ext.step (State.route_ext ..) rfl ?_
  refine Ext.step (State.bump_ext ..) rfl ?_
  exact Ext.refl _ _
  refine Ext.ite ?_ ?_
  refine Ext.ite ?_ ?_
  refine Ext.step (State.answer_ext ..) rfl ?_
  refine Ext.step (State.bump_ext ..) rfl ?_
  refine Ext.step (State.bump_ext ..) rfl ?_
  exact Ext.refl _ _
  refine Ext.ite ?_ ?_
  refine Ext.step (State.answer_ext ..) rfl ?_
  refine Ext.step (State.bump_ext ..) rfl ?_
  exact Ext.refl _ _
  refine Ext.step (State.kvReceive_ext ..) rfl ?_
  refine Ext.step (State.dupAdd_ext ..) rfl ?_
  refine Ext.step (State.bump_ext ..) rfl ?_
  exact Ext.refl _ _
  refine Ext.step (State.kvReceive_ext ..) rfl ?_
  refine Ext.step (State.dupAdd_ext ..) rfl ?_
  refine Ext.step (State.bump_ext ..) rfl ?_
  exact Ext.refl _ _
  exact Ext.refl _ _

theorem State.kvPrepare_ext (a0 : ℕ) (a1 : State) (a2 : ℕ) (a3 : Op) (a4 : KvRec) (a5 : ℕ) :
    Ext [.rst, .regs, .hlk, .cores, .mem, .queues, .ras, .free] a1 (@State.kvPrepare a0 a1 a2 a3 a4 a5) := by
  induction a0 generalizing a1 a2 a3 a4 a5 with
  | zero =>
    unfold Sys2Proof.Machine.State.kvPrepare
    refine Ext.step (State.modOp_ext ..) rfl ?_
    exact Ext.refl _ _
  | succ k ih =>
    unfold Sys2Proof.Machine.State.kvPrepare
    (dsimp only; split)
    refine Ext.step (State.modOp_ext ..) rfl ?_
    exact Ext.refl _ _
    refine Ext.ite ?_ ?_
    split
    refine Ext.step (ih _ _ _ _ _) rfl ?_
    refine Ext.step (State.putEntry_ext ..) rfl ?_
    refine Ext.step (State.kvAlloc_ext ..) rfl ?_
    exact Ext.refl _ _
    refine Ext.step (State.modOp_ext ..) rfl ?_
    exact Ext.refl _ _
    refine Ext.ite ?_ ?_
    refine Ext.step (ih _ _ _ _ _) rfl ?_
    exact Ext.refl _ _
    split
    refine Ext.step (State.modOp_ext ..) rfl ?_
    refine Ext.step (State.kvAlloc_ext ..) rfl ?_
    refine Ext.step (State.putKv_ext ..) rfl ?_
    exact Ext.refl _ _
    refine Ext.step (State.modOp_ext ..) rfl ?_
    exact Ext.refl _ _

theorem State.kvPrepFrom_ext (a0 : State) (a1 : ℕ) (a2 : Op) (a3 : KvRec) (a4 : ℕ) :
    Ext [.rst, .regs, .hlk, .cores, .mem, .queues, .ras, .free] a0 (@State.kvPrepFrom a0 a1 a2 a3 a4) := by
  unfold Sys2Proof.Machine.State.kvPrepFrom
  refine Ext.step (State.kvPrepare_ext ..) rfl ?_
  exact Ext.refl _ _

theorem State.kvWriteBegin_ext (a0 : State) (a1 : ℕ) (a2 : Op) :
    Ext [.rst, .regs, .hlk, .cores, .sram, .sramUe, .mem, .queues, .ras, .free] a0 (@State.kvWriteBegin a0 a1 a2) := by
  unfold Sys2Proof.Machine.State.kvWriteBegin
  unfold Sys2Proof.Machine.State.kvStart
  refine Ext.ite ?_ ?_
  refine Ext.step (State.modOp_ext ..) rfl ?_
  exact Ext.refl _ _
  refine Ext.ite ?_ ?_
  refine Ext.step (State.poisonTail_ext ..) rfl ?_
  exact Ext.refl _ _
  split
  refine Ext.step (State.modOp_ext ..) rfl ?_
  exact Ext.refl _ _
  refine Ext.ite ?_ ?_
  refine Ext.step (State.kvBad_ext ..) rfl ?_
  exact Ext.refl _ _
  refine Ext.ite ?_ ?_
  refine Ext.step (State.poisonTail_ext ..) rfl ?_
  exact Ext.refl _ _
  refine Ext.ite ?_ ?_
  refine Ext.step (State.poisonTail_ext ..) rfl ?_
  exact Ext.refl _ _
  refine Ext.step (State.kvPrepFrom_ext ..) rfl ?_
  exact Ext.refl _ _

theorem execAttMask_ext (a0 : ℕ) (a1 : State) :
    HAll (fun x => Ext [.rst, .regs, .hlk, .launches, .cores, .shoals, .sram, .sramUe, .mem, .queues, .act, .shl, .red, .ras, .free] a1 x) (@execAttMask a0 a1) := by
  unfold Sys2Proof.Machine.execAttMask
  refine HAll.next ?_
  unfold Sys2Proof.Machine.State.startIf
  split
  refine Ext.ite ?_ ?_
  unfold Sys2Proof.Machine.State.startOp
  refine Ext.ite ?_ ?_
  split
  refine Ext.step (State.launchEnd_ext ..) rfl ?_
  exact Ext.refl _ _
  refine Ext.step (State.poisonTail_ext ..) rfl ?_
  exact Ext.refl _ _
  refine Ext.ite ?_ ?_
  refine Ext.step (State.poisonTail_ext ..) rfl ?_
  exact Ext.refl _ _
  refine Ext.ite ?_ ?_
  refine Ext.step (State.modOp_ext ..) rfl ?_
  exact Ext.refl _ _
  refine Ext.step (State.beginPlain_ext ..) rfl ?_
  refine Ext.step (State.modOp_ext ..) rfl ?_
  exact Ext.refl _ _
  exact Ext.refl _ _
  exact Ext.refl _ _

theorem State.kvGatherBegin_ext (a0 : State) (a1 : ℕ) (a2 : Op) :
    Ext [.rst, .regs, .hlk, .cores, .sram, .sramUe, .mem, .queues, .ras, .free] a0 (@State.kvGatherBegin a0 a1 a2) := by
  unfold Sys2Proof.Machine.State.kvGatherBegin
  unfold Sys2Proof.Machine.State.kvStart
  refine Ext.ite ?_ ?_
  refine Ext.step (State.modOp_ext ..) rfl ?_
  exact Ext.refl _ _
  refine Ext.ite ?_ ?_
  refine Ext.step (State.poisonTail_ext ..) rfl ?_
  exact Ext.refl _ _
  split
  refine Ext.step (State.modOp_ext ..) rfl ?_
  exact Ext.refl _ _
  refine Ext.ite ?_ ?_
  refine Ext.step (State.kvBad_ext ..) rfl ?_
  exact Ext.refl _ _
  refine Ext.ite ?_ ?_
  refine Ext.step (State.poisonTail_ext ..) rfl ?_
  exact Ext.refl _ _
  refine Ext.step (State.modOp_ext ..) rfl ?_
  exact Ext.refl _ _

theorem execKvPageCopyDone_ext (a0 : ℕ) (a1 : State) :
    HAll (fun x => Ext [.rst, .regs, .hlk, .cores, .mem, .queues, .ras, .free] a1 x) (@execKvPageCopyDone a0 a1) := by
  unfold Sys2Proof.Machine.execKvPageCopyDone
  refine HAll.next ?_
  (dsimp only; split)
  split
  split
  refine Ext.step (State.kvPrepFrom_ext ..) rfl ?_
  refine Ext.step (State.kvSettle_ext ..) rfl ?_
  exact Ext.refl _ _
  refine Ext.step (State.modOp_ext ..) rfl ?_
  refine Ext.step (State.kvSettle_ext ..) rfl ?_
  exact Ext.refl _ _
  exact Ext.refl _ _
  exact Ext.refl _ _

theorem execKvPoolWaitResume_ext (a0 : ℕ) (a1 : State) :
    HAll (fun x => Ext [.rst, .regs, .hlk, .cores, .mem, .queues, .ras, .free] a1 x) (@execKvPoolWaitResume a0 a1) := by
  unfold Sys2Proof.Machine.execKvPoolWaitResume
  refine HAll.next ?_
  split
  split
  refine Ext.step (State.kvPrepFrom_ext ..) rfl ?_
  exact Ext.refl _ _
  exact Ext.refl _ _
  exact Ext.refl _ _

theorem execKvPoolWaitTimeout_ext (a0 : ℕ) (a1 : State) :
    HAll (fun x => Ext [.rst, .regs, .hlk, .cores, .sram, .sramUe, .mem, .queues, .ras, .free] a1 x) (@execKvPoolWaitTimeout a0 a1) := by
  unfold Sys2Proof.Machine.execKvPoolWaitTimeout
  refine HAll.next ?_
  split
  refine Ext.step (State.poisonTail_ext ..) rfl ?_
  refine Ext.step (State.raise_ext ..) rfl ?_
  exact Ext.refl _ _
  exact Ext.refl _ _

theorem State.landKvWrite_ext (a0 : State) (a1 : ℕ) (a2 : Op) (a3 : Xfer) :
    LAll (fun x => Ext [.rst, .regs, .hlk, .cores, .mem, .ras, .free] a0 x) (@State.landKvWrite a0 a1 a2 a3) := by
  unfold Sys2Proof.Machine.State.landKvWrite
  (dsimp only; split)
  refine LAll.wait ?_
  split
  split
  refine LAll.done ?_
  refine Ext.ite ?_ ?_
  refine Ext.step (State.reportSram_ext ..) rfl ?_
  refine Ext.step (State.vpoison_ext ..) rfl ?_
  refine VAll.of_ok (P := fun x => Ext _ _ x) ?_ ‹_›
  refine VAll.step (State.vwrite_ext ..) rfl ?_
  exact Ext.refl _ _
  refine VAll.of_ok (P := fun x => Ext _ _ x) ?_ ‹_›
  refine VAll.step (State.vwrite_ext ..) rfl ?_
  exact Ext.refl _ _
  refine LAll.fail ?_
  exact Ext.refl _ _
  refine LAll.wait ?_
  refine LAll.wait ?_

theorem execKvWrite_ext (a0 : ℕ) (a1 : State) :
    HAll (fun x => Ext [.rst, .regs, .hlk, .launches, .cores, .shoals, .sram, .sramUe, .mem, .queues, .act, .shl, .red, .ras, .free] a1 x) (@execKvWrite a0 a1) := by
  unfold Sys2Proof.Machine.execKvWrite
  refine HAll.next ?_
  unfold Sys2Proof.Machine.State.startIf
  split
  refine Ext.ite ?_ ?_
  unfold Sys2Proof.Machine.State.startOp
  refine Ext.ite ?_ ?_
  split
  refine Ext.step (State.launchEnd_ext ..) rfl ?_
  exact Ext.refl _ _
  refine Ext.step (State.poisonTail_ext ..) rfl ?_
  exact Ext.refl _ _
  refine Ext.ite ?_ ?_
  refine Ext.step (State.poisonTail_ext ..) rfl ?_
  exact Ext.refl _ _
  refine Ext.ite ?_ ?_
  refine Ext.step (State.modOp_ext ..) rfl ?_
  exact Ext.refl _ _
  refine Ext.step (State.kvWriteBegin_ext ..) rfl ?_
  refine Ext.step (State.modOp_ext ..) rfl ?_
  exact Ext.refl _ _
  exact Ext.refl _ _
  exact Ext.refl _ _

theorem execKvGather_ext (a0 : ℕ) (a1 : State) :
    HAll (fun x => Ext [.rst, .regs, .hlk, .launches, .cores, .shoals, .sram, .sramUe, .mem, .queues, .act, .shl, .red, .ras, .free] a1 x) (@execKvGather a0 a1) := by
  unfold Sys2Proof.Machine.execKvGather
  refine HAll.next ?_
  unfold Sys2Proof.Machine.State.startIf
  split
  refine Ext.ite ?_ ?_
  unfold Sys2Proof.Machine.State.startOp
  refine Ext.ite ?_ ?_
  split
  refine Ext.step (State.launchEnd_ext ..) rfl ?_
  exact Ext.refl _ _
  refine Ext.step (State.poisonTail_ext ..) rfl ?_
  exact Ext.refl _ _
  refine Ext.ite ?_ ?_
  refine Ext.step (State.poisonTail_ext ..) rfl ?_
  exact Ext.refl _ _
  refine Ext.ite ?_ ?_
  refine Ext.step (State.modOp_ext ..) rfl ?_
  exact Ext.refl _ _
  refine Ext.step (State.kvGatherBegin_ext ..) rfl ?_
  refine Ext.step (State.modOp_ext ..) rfl ?_
  exact Ext.refl _ _
  exact Ext.refl _ _
  exact Ext.refl _ _

end Sys2Proof.Machine
end

