-- ==== Sys2Proof/Laws/FrameStage.lean ====
section
/-! SUPPORT. What each definition of Machine/Stage.lean may change: every part that its lemma does not name stays, and memory keeps
its canonical form. -/

set_option maxRecDepth 4000

namespace Sys2Proof.Machine

theorem State.setConsumed_ext (a0 : State) (a1 : ℕ) (a2 : ℕ) :
    Ext [.regs] a0 (@State.setConsumed a0 a1 a2) := by
  unfold Sys2Proof.Machine.State.setConsumed
  refine Ext.step (State.p_ext ..) rfl ?_
  exact Ext.refl _ _

theorem State.setLanded_ext (a0 : State) (a1 : ℕ) (a2 : ℕ) :
    Ext [.regs] a0 (@State.setLanded a0 a1 a2) := by
  unfold Sys2Proof.Machine.State.setLanded
  refine Ext.step (State.p_ext ..) rfl ?_
  exact Ext.refl _ _

theorem State.stgTake_ext (a0 : State) (a1 : ℕ) (a2 : Bytes) :
    Ext [.regs] a0 (@State.stgTake a0 a1 a2) := by
  unfold Sys2Proof.Machine.State.stgTake
  refine foldl_all (P := fun x => Ext _ _ x) ?_ ?_
  exact Ext.refl _ _
  intro _
  intro _
  intro _
  refine Ext.ite ?_ ?_
  refine Ext.ite ?_ ?_
  refine Ext.step (State.setConsumed_ext ..) rfl ?_
  with_reducible assumption
  refine Ext.step (State.setLanded_ext ..) rfl ?_
  with_reducible assumption
  with_reducible assumption

theorem State.stgDone_ext (a0 : State) (a1 : ℕ) (a2 : ℕ) :
    Ext [.queues] a0 (@State.stgDone a0 a1 a2) := by
  unfold Sys2Proof.Machine.State.stgDone
  refine Ext.step (State.modOp_ext ..) rfl ?_
  exact Ext.refl _ _

theorem State.stgAcked_ext (a0 : State) (a1 : ℕ) (a2 : Op) :
    Ext [.regs, .queues] a0 (@State.stgAcked a0 a1 a2) := by
  unfold Sys2Proof.Machine.State.stgAcked
  refine Ext.step (State.stgDone_ext ..) rfl ?_
  refine Ext.ite ?_ ?_
  refine Ext.step (State.setLanded_ext ..) rfl ?_
  exact Ext.refl _ _
  refine Ext.step (State.setConsumed_ext ..) rfl ?_
  exact Ext.refl _ _

theorem State.stgSend_ext (a0 : State) (a1 : ℕ) (a2 : Op) :
    Ext [.rst, .regs, .hlk, .cores, .sram, .sramUe, .mem, .queues, .fab, .ras, .free] a0 (@State.stgSend a0 a1 a2) := by
  unfold Sys2Proof.Machine.State.stgSend
  refine Ext.ite ?_ ?_
  split
  refine Ext.step (State.stgAcked_ext ..) rfl ?_
  refine Ext.step (State.stgTake_ext ..) rfl ?_
  refine VAll.of_ok (P := fun x => Ext _ _ x) ?_ ‹_›
  refine VAll.step (State.vwrite_ext ..) rfl ?_
  exact Ext.refl _ _
  exact Ext.refl _ _
  (dsimp only; split)
  refine Ext.ofPair ?_ ‹_›
  refine Ext.step (State.route_ext ..) rfl ?_
  exact Ext.refl _ _
  refine Ext.step (State.poisonTail_ext ..) rfl ?_
  refine Ext.step (State.noRoute_ext ..) rfl ?_
  refine Ext.ofPair ?_ ‹_›
  refine Ext.step (State.route_ext ..) rfl ?_
  exact Ext.refl _ _
  refine Ext.step (State.modOp_ext ..) rfl ?_
  refine Ext.step (State.request_ext ..) rfl ?_
  refine Ext.ofPair ?_ ‹_›
  refine Ext.step (State.route_ext ..) rfl ?_
  exact Ext.refl _ _

theorem State.stgTry_ext (a0 : State) (a1 : ℕ) (a2 : Op) :
    Ext [.rst, .regs, .hlk, .cores, .sram, .sramUe, .mem, .queues, .fab, .ras, .free] a0 (@State.stgTry a0 a1 a2) := by
  unfold Sys2Proof.Machine.State.stgTry
  refine Ext.ite ?_ ?_
  refine Ext.ite ?_ ?_
  refine Ext.step (State.stgDone_ext ..) rfl ?_
  exact Ext.refl _ _
  exact Ext.refl _ _
  refine Ext.ite ?_ ?_
  refine Ext.ite ?_ ?_
  refine Ext.step (State.stgDone_ext ..) rfl ?_
  exact Ext.refl _ _
  exact Ext.refl _ _
  refine Ext.ite ?_ ?_
  refine Ext.ite ?_ ?_
  refine Ext.step (State.poisonTail_ext ..) rfl ?_
  exact Ext.refl _ _
  refine Ext.ite ?_ ?_
  refine Ext.step (State.stgSend_ext ..) rfl ?_
  exact Ext.refl _ _
  exact Ext.refl _ _
  refine Ext.ite ?_ ?_
  refine Ext.step (State.poisonTail_ext ..) rfl ?_
  exact Ext.refl _ _
  refine Ext.ite ?_ ?_
  refine Ext.step (State.stgSend_ext ..) rfl ?_
  exact Ext.refl _ _
  exact Ext.refl _ _

theorem State.stgBegin_ext (a0 : State) (a1 : ℕ) (a2 : Op) :
    Ext [.rst, .regs, .hlk, .cores, .sram, .sramUe, .mem, .queues, .fab, .ras, .free] a0 (@State.stgBegin a0 a1 a2) := by
  unfold Sys2Proof.Machine.State.stgBegin
  refine Ext.step (State.stgTry_ext ..) rfl ?_
  refine Ext.step (State.modOp_ext ..) rfl ?_
  exact Ext.refl _ _

theorem State.applyStgCfg_ext (a0 : State) (a1 : ℕ) (a2 : Word) :
    Ext [.regs] a0 (@State.applyStgCfg a0 a1 a2) := by
  unfold Sys2Proof.Machine.State.applyStgCfg
  refine Ext.ite ?_ ?_
  refine Ext.step (State.wr_ext ..) rfl ?_
  refine Ext.step (State.wr_ext ..) rfl ?_
  exact Ext.refl _ _
  refine Ext.step (State.wr_ext ..) rfl ?_
  exact Ext.refl _ _

theorem State.writeStgCfg_ext (a0 : State) (a1 : ℕ) (a2 : Word) :
    Ext [.rst, .regs] a0 (@State.writeStgCfg a0 a1 a2) := by
  unfold Sys2Proof.Machine.State.writeStgCfg
  refine Ext.ite ?_ ?_
  refine Ext.step (Ext.set_rst ..) rfl ?_
  exact Ext.refl _ _
  refine Ext.step (State.applyStgCfg_ext ..) rfl ?_
  exact Ext.refl _ _

theorem State.stgPeerReset_ext (a0 : State) (a1 : ℕ) :
    Ext [.rst, .regs, .hlk, .cores, .sram, .sramUe, .mem, .queues, .ras, .free] a0 (@State.stgPeerReset a0 a1) := by
  unfold Sys2Proof.Machine.State.stgPeerReset
  refine foldl_all (P := fun x => Ext _ _ x) ?_ ?_
  exact Ext.refl _ _
  intro _
  intro _
  intro _
  refine foldl_all (P := fun x => Ext _ _ x) ?_ ?_
  with_reducible assumption
  intro _
  intro _
  intro _
  refine Ext.step (State.poisonTail_ext ..) rfl ?_
  with_reducible assumption

theorem execStgAcquire_ext (a0 : ℕ) (a1 : State) :
    HAll (fun x => Ext [.rst, .regs, .hlk, .launches, .cores, .shoals, .sram, .sramUe, .mem, .queues, .act, .shl, .fab, .red, .ras, .free] a1 x) (@execStgAcquire a0 a1) := by
  unfold Sys2Proof.Machine.execStgAcquire
  refine HAll.next ?_
  unfold Sys2Proof.Machine.State.startIf
  split
  refine Ext.ite ?_ ?_
  unfold Sys2Proof.Machine.State.startOp
  refine Ext.ite ?_ ?_
  split
  refine Ext.step (State.launchEnd_ext ..) rfl ?_
  exact Ext.refl _ _
  refine Ext.step (State.poisonTail_ext ..) rfl ?_
  exact Ext.refl _ _
  refine Ext.ite ?_ ?_
  refine Ext.step (State.poisonTail_ext ..) rfl ?_
  exact Ext.refl _ _
  refine Ext.ite ?_ ?_
  refine Ext.step (State.modOp_ext ..) rfl ?_
  exact Ext.refl _ _
  refine Ext.step (State.stgBegin_ext ..) rfl ?_
  refine Ext.step (State.modOp_ext ..) rfl ?_
  exact Ext.refl _ _
  exact Ext.refl _ _
  exact Ext.refl _ _

theorem State.stgCfgDue_ext (a0 : State) :
    Ext [.rst, .regs] a0 (@State.stgCfgDue a0) := by
  unfold Sys2Proof.Machine.State.stgCfgDue
  refine foldl_all (P := fun x => Ext _ _ x) ?_ ?_
  exact Ext.refl _ _
  intro _
  intro _
  intro _
  refine Ext.ite ?_ ?_
  with_reducible assumption
  refine foldl_all (P := fun x => Ext _ _ x) ?_ ?_
  refine Ext.step (Ext.set_rst ..) rfl ?_
  with_reducible assumption
  intro _
  intro _
  intro _
  refine Ext.step (State.applyStgCfg_ext ..) rfl ?_
  with_reducible assumption

theorem execStgPublish_ext (a0 : ℕ) (a1 : State) :
    HAll (fun x => Ext [.rst, .regs, .hlk, .launches, .cores, .shoals, .sram, .sramUe, .mem, .queues, .act, .shl, .fab, .red, .ras, .free] a1 x) (@execStgPublish a0 a1) := by
  unfold Sys2Proof.Machine.execStgPublish
  refine HAll.next ?_
  unfold Sys2Proof.Machine.State.startIf
  split
  refine Ext.ite ?_ ?_
  unfold Sys2Proof.Machine.State.startOp
  refine Ext.ite ?_ ?_
  split
  refine Ext.step (State.launchEnd_ext ..) rfl ?_
  exact Ext.refl _ _
  refine Ext.step (State.poisonTail_ext ..) rfl ?_
  exact Ext.refl _ _
  refine Ext.ite ?_ ?_
  refine Ext.step (State.poisonTail_ext ..) rfl ?_
  exact Ext.refl _ _
  refine Ext.ite ?_ ?_
  refine Ext.step (State.modOp_ext ..) rfl ?_
  exact Ext.refl _ _
  refine Ext.step (State.stgBegin_ext ..) rfl ?_
  refine Ext.step (State.modOp_ext ..) rfl ?_
  exact Ext.refl _ _
  exact Ext.refl _ _
  exact Ext.refl _ _

theorem execStgAwait_ext (a0 : ℕ) (a1 : State) :
    HAll (fun x => Ext [.rst, .regs, .hlk, .launches, .cores, .shoals, .sram, .sramUe, .mem, .queues, .act, .shl, .fab, .red, .ras, .free] a1 x) (@execStgAwait a0 a1) := by
  unfold Sys2Proof.Machine.execStgAwait
  refine HAll.next ?_
  unfold Sys2Proof.Machine.State.startIf
  split
  refine Ext.ite ?_ ?_
  unfold Sys2Proof.Machine.State.startOp
  refine Ext.ite ?_ ?_
  split
  refine Ext.step (State.launchEnd_ext ..) rfl ?_
  exact Ext.refl _ _
  refine Ext.step (State.poisonTail_ext ..) rfl ?_
  exact Ext.refl _ _
  refine Ext.ite ?_ ?_
  refine Ext.step (State.poisonTail_ext ..) rfl ?_
  exact Ext.refl _ _
  refine Ext.ite ?_ ?_
  refine Ext.step (State.modOp_ext ..) rfl ?_
  exact Ext.refl _ _
  refine Ext.step (State.stgBegin_ext ..) rfl ?_
  refine Ext.step (State.modOp_ext ..) rfl ?_
  exact Ext.refl _ _
  exact Ext.refl _ _
  exact Ext.refl _ _

theorem State.stgWake_ext (a0 : State) :
    Ext [.rst, .regs, .hlk, .cores, .sram, .sramUe, .mem, .queues, .fab, .ras, .free] a0 (@State.stgWake a0) := by
  unfold Sys2Proof.Machine.State.stgWake
  refine foldl_all (P := fun x => Ext _ _ x) ?_ ?_
  exact Ext.refl _ _
  intro _
  intro _
  intro _
  refine foldl_all (P := fun x => Ext _ _ x) ?_ ?_
  with_reducible assumption
  intro _
  intro _
  intro _
  refine Ext.step (State.stgTry_ext ..) rfl ?_
  with_reducible assumption

theorem State.stgLand_ext (a0 : State) (a1 : ℕ) (a2 : Bytes) :
    Ext [.rst, .regs, .hlk, .cores, .sram, .sramUe, .mem, .queues, .fab, .ras, .free] a0 (@State.stgLand a0 a1 a2) := by
  unfold Sys2Proof.Machine.State.stgLand
  refine Ext.step (State.stgWake_ext ..) rfl ?_
  refine Ext.step (State.stgTake_ext ..) rfl ?_
  exact Ext.refl _ _

theorem execStageOccupancySample_ext (a0 : ℕ) (a1 : State) :
    HAll (fun x => Ext [.regs, .hlk] a1 x) (@execStageOccupancySample a0 a1) := by
  unfold Sys2Proof.Machine.execStageOccupancySample
  refine HAll.next ?_
  refine Ext.ite ?_ ?_
  refine Ext.ite ?_ ?_
  refine Ext.step (State.bump_ext ..) rfl ?_
  refine Ext.ite ?_ ?_
  refine Ext.step (State.bump_ext ..) rfl ?_
  refine Ext.step (State.bumpBin_ext ..) rfl ?_
  exact Ext.refl _ _
  refine Ext.step (State.bumpBin_ext ..) rfl ?_
  exact Ext.refl _ _
  refine Ext.ite ?_ ?_
  refine Ext.step (State.bump_ext ..) rfl ?_
  refine Ext.step (State.bumpBin_ext ..) rfl ?_
  exact Ext.refl _ _
  refine Ext.step (State.bumpBin_ext ..) rfl ?_
  exact Ext.refl _ _
  exact Ext.refl _ _

theorem execSthStgcfgWrite_ext (a0 : ℕ) (a1 : Word) (a2 : State) :
    HAll (fun x => Ext [.rst, .regs, .hlk] a2 x) (@execSthStgcfgWrite a0 a1 a2) := by
  unfold Sys2Proof.Machine.execSthStgcfgWrite
  refine HAll.next ?_
  refine Ext.ite ?_ ?_
  refine Ext.ite ?_ ?_
  refine Ext.step (State.writeStgCfg_ext ..) rfl ?_
  exact Ext.refl _ _
  refine Ext.step (State.refuse_ext ..) rfl ?_
  exact Ext.refl _ _
  exact Ext.refl _ _

theorem execStgRelease_ext (a0 : ℕ) (a1 : State) :
    HAll (fun x => Ext [.rst, .regs, .hlk, .launches, .cores, .shoals, .sram, .sramUe, .mem, .queues, .act, .shl, .fab, .red, .ras, .free] a1 x) (@execStgRelease a0 a1) := by
  unfold Sys2Proof.Machine.execStgRelease
  refine HAll.next ?_
  unfold Sys2Proof.Machine.State.startIf
  split
  refine Ext.ite ?_ ?_
  unfold Sys2Proof.Machine.State.startOp
  refine Ext.ite ?_ ?_
  split
  refine Ext.step (State.launchEnd_ext ..) rfl ?_
  exact Ext.refl _ _
  refine Ext.step (State.poisonTail_ext ..) rfl ?_
  exact Ext.refl _ _
  refine Ext.ite ?_ ?_
  refine Ext.step (State.poisonTail_ext ..) rfl ?_
  exact Ext.refl _ _
  refine Ext.ite ?_ ?_
  refine Ext.step (State.modOp_ext ..) rfl ?_
  exact Ext.refl _ _
  refine Ext.step (State.stgBegin_ext ..) rfl ?_
  refine Ext.step (State.modOp_ext ..) rfl ?_
  exact Ext.refl _ _
  exact Ext.refl _ _
  exact Ext.refl _ _

theorem execStageWaitLong_ext (a0 : ℕ) (a1 : State) :
    HAll (fun x => Ext [.regs, .hlk, .queues] a1 x) (@execStageWaitLong a0 a1) := by
  unfold Sys2Proof.Machine.execStageWaitLong
  refine HAll.next ?_
  split
  refine Ext.ite ?_ ?_
  exact Ext.refl _ _
  refine Ext.step (State.raise_ext ..) rfl ?_
  refine Ext.step (State.bump_ext ..) rfl ?_
  refine Ext.step (State.modOp_ext ..) rfl ?_
  exact Ext.refl _ _
  exact Ext.refl _ _

end Sys2Proof.Machine
end

