-- ==== Sys2Proof/Laws/FrameFabric.lean ====
section
/-! SUPPORT. What each definition of Machine/Fabric.lean may change: every part that its lemma does not name stays, and memory keeps
its canonical form. -/

set_option maxRecDepth 4000

namespace Sys2Proof.Machine

theorem State.peerReset_ext (a0 : State) (a1 : BitVec 16) :
    Ext [.rst, .regs, .hlk, .cores, .sram, .sramUe, .mem, .queues, .fab, .ras, .free] a0 (@State.peerReset a0 a1) := by
  unfold Sys2Proof.Machine.State.peerReset
  refine Ext.step (Ext.set_fab ..) rfl ?_
  refine foldl_all (P := fun x => Ext _ _ x) ?_ ?_
  refine Ext.step (State.stgPeerReset_ext ..) rfl ?_
  exact Ext.refl _ _
  intro _
  intro _
  intro _
  refine Ext.step (State.nackTxn_ext ..) rfl ?_
  with_reducible assumption

theorem State.setMdata_ext (a0 : State) (a1 : ℕ) (a2 : Bytes) :
    Ext [.regs] a0 (@State.setMdata a0 a1 a2) := by
  unfold Sys2Proof.Machine.State.setMdata
  refine foldl_all (P := fun x => Ext _ _ x) ?_ ?_
  exact Ext.refl _ _
  intro _
  intro _
  intro _
  refine Ext.step (State.wr_ext ..) rfl ?_
  with_reducible assumption

theorem State.mgmtRx_ext (a0 : State) (a1 : ℕ) (a2 : Pkt) :
    Ext [.regs, .hlk] a0 (@State.mgmtRx a0 a1 a2) := by
  unfold Sys2Proof.Machine.State.mgmtRx
  refine Ext.step (State.raise_ext ..) rfl ?_
  refine Ext.step (State.setMdata_ext ..) rfl ?_
  exact Ext.refl _ _

theorem execAdopt_ext (a0 : ℕ) (a1 : Pkt) (a2 : State) :
    HAll (fun x => Ext [.rst, .regs, .hlk, .cores, .sram, .sramUe, .mem, .queues, .fab, .ras, .free] a2 x) (@execAdopt a0 a1 a2) := by
  unfold Sys2Proof.Machine.execAdopt
  refine HAll.next ?_
  unfold Sys2Proof.Machine.State.mgmtArrive
  refine Ext.ite ?_ ?_
  unfold Sys2Proof.Machine.State.arrive
  refine Ext.ite ?_ ?_
  exact Ext.refl _ _
  refine Ext.ite ?_ ?_
  refine Ext.ite ?_ ?_
  refine Ext.step (State.answer_ext ..) rfl ?_
  refine Ext.step (State.bump_ext ..) rfl ?_
  exact Ext.refl _ _
  split
  refine Ext.step (State.emit_ext ..) rfl ?_
  refine Ext.step (State.bump_ext ..) rfl ?_
  refine Ext.ofPair ?_ ‹_›
  refine Ext.step (State.route_ext ..) rfl ?_
  refine Ext.step (State.bump_ext ..) rfl ?_
  exact Ext.refl _ _
  refine Ext.step (State.answer_ext ..) rfl ?_
  refine Ext.ofPair ?_ ‹_›
  refine Ext.step (State.route_ext ..) rfl ?_
  refine Ext.step (State.bump_ext ..) rfl ?_
  exact Ext.refl _ _
  refine Ext.ite ?_ ?_
  refine Ext.ite ?_ ?_
  unfold id
  refine Ext.step (State.bump_ext ..) rfl ?_
  refine Ext.step (State.bump_ext ..) rfl ?_
  exact Ext.refl _ _
  refine Ext.ite ?_ ?_
  refine Ext.step (State.answer_ext ..) rfl ?_
  refine Ext.step (State.bump_ext ..) rfl ?_
  exact Ext.refl _ _
  refine Ext.step (State.mgmtRx_ext ..) rfl ?_
  refine Ext.step (State.peerReset_ext ..) rfl ?_
  refine Ext.step (State.dupAdd_ext ..) rfl ?_
  refine Ext.step (State.bump_ext ..) rfl ?_
  exact Ext.refl _ _
  refine Ext.step (State.mgmtRx_ext ..) rfl ?_
  refine Ext.step (State.peerReset_ext ..) rfl ?_
  refine Ext.step (State.dupAdd_ext ..) rfl ?_
  refine Ext.step (State.bump_ext ..) rfl ?_
  exact Ext.refl _ _
  exact Ext.refl _ _

theorem State.mrespDone_ext (a0 : State) (a1 : ℕ) (a2 : ℕ) :
    Ext [.regs] a0 (@State.mrespDone a0 a1 a2) := by
  unfold Sys2Proof.Machine.State.mrespDone
  refine Ext.step (State.p_ext ..) rfl ?_
  refine Ext.step (State.p_ext ..) rfl ?_
  refine Ext.step (State.p_ext ..) rfl ?_
  exact Ext.refl _ _

theorem State.mcmdSend_ext (a0 : State) (a1 : ℕ) (a2 : ℕ) (a3 : ℕ) (a4 : ℕ) :
    Ext [.regs, .hlk, .mem, .fab] a0 (@State.mcmdSend a0 a1 a2 a3 a4) := by
  unfold Sys2Proof.Machine.State.mcmdSend
  refine Ext.ite ?_ ?_
  refine Ext.step (State.refuse_ext ..) rfl ?_
  exact Ext.refl _ _
  refine Ext.ite ?_ ?_
  exact Ext.refl _ _
  (dsimp only; split)
  refine Ext.ofPair ?_ ‹_›
  refine Ext.step (State.route_ext ..) rfl ?_
  refine Ext.step (State.p_ext ..) rfl ?_
  refine Ext.step (State.p_ext ..) rfl ?_
  refine Ext.step (State.wr_ext ..) rfl ?_
  exact Ext.refl _ _
  refine Ext.step (State.mrespDone_ext ..) rfl ?_
  refine Ext.ofPair ?_ ‹_›
  refine Ext.step (State.route_ext ..) rfl ?_
  refine Ext.step (State.p_ext ..) rfl ?_
  refine Ext.step (State.p_ext ..) rfl ?_
  refine Ext.step (State.wr_ext ..) rfl ?_
  exact Ext.refl _ _
  refine Ext.ite ?_ ?_
  refine Ext.step (State.mrespDone_ext ..) rfl ?_
  refine Ext.ofPair ?_ ‹_›
  refine Ext.step (State.route_ext ..) rfl ?_
  refine Ext.step (State.p_ext ..) rfl ?_
  refine Ext.step (State.p_ext ..) rfl ?_
  refine Ext.step (State.wr_ext ..) rfl ?_
  exact Ext.refl _ _
  refine Ext.ite ?_ ?_
  refine Ext.step (State.mgmt_ext ..) rfl ?_
  refine Ext.ofPair ?_ ‹_›
  refine Ext.step (State.route_ext ..) rfl ?_
  refine Ext.step (State.p_ext ..) rfl ?_
  refine Ext.step (State.p_ext ..) rfl ?_
  refine Ext.step (State.wr_ext ..) rfl ?_
  exact Ext.refl _ _
  refine Ext.step (State.mrespDone_ext ..) rfl ?_
  refine Ext.step (State.mgmt_ext ..) rfl ?_
  refine Ext.ofPair ?_ ‹_›
  refine Ext.step (State.route_ext ..) rfl ?_
  refine Ext.step (State.p_ext ..) rfl ?_
  refine Ext.step (State.p_ext ..) rfl ?_
  refine Ext.step (State.wr_ext ..) rfl ?_
  exact Ext.refl _ _

theorem execFabMcmdPing_ext (a0 : ℕ) (a1 : BitVec 16) (a2 : BitVec 8) (a3 : State) :
    HAll (fun x => Ext [.regs, .hlk, .mem, .fab] a3 x) (@execFabMcmdPing a0 a1 a2 a3) := by
  unfold Sys2Proof.Machine.execFabMcmdPing
  refine HAll.next ?_
  refine Ext.ite ?_ ?_
  refine Ext.step (State.mcmdSend_ext ..) rfl ?_
  exact Ext.refl _ _
  exact Ext.refl _ _

theorem State.enterUp_ext (a0 : State) (a1 : ℕ) (a2 : Bool) :
    Ext [.regs, .hlk, .fab] a0 (@State.enterUp a0 a1 a2) := by
  unfold Sys2Proof.Machine.State.enterUp
  refine Ext.ite ?_ ?_
  refine Ext.step (State.raise_ext ..) rfl ?_
  refine Ext.ite ?_ ?_
  refine Ext.step (State.raise_ext ..) rfl ?_
  refine Ext.step (State.setLink_ext ..) rfl ?_
  exact Ext.refl _ _
  refine Ext.step (State.setLink_ext ..) rfl ?_
  exact Ext.refl _ _
  refine Ext.ite ?_ ?_
  refine Ext.step (State.raise_ext ..) rfl ?_
  refine Ext.step (State.setLink_ext ..) rfl ?_
  exact Ext.refl _ _
  refine Ext.step (State.setLink_ext ..) rfl ?_
  exact Ext.refl _ _

theorem execFabRetrainDone_ext (a0 : ℕ) (a1 : State) :
    HAll (fun x => Ext [.regs, .hlk, .fab] a1 x) (@execFabRetrainDone a0 a1) := by
  unfold Sys2Proof.Machine.execFabRetrainDone
  refine HAll.next ?_
  refine Ext.ite ?_ ?_
  refine Ext.step (State.enterUp_ext ..) rfl ?_
  exact Ext.refl _ _
  exact Ext.refl _ _

theorem State.identified_ext (a0 : State) (a1 : ℕ) (a2 : Pkt) :
    Ext [.regs, .hlk, .fab] a0 (@State.identified a0 a1 a2) := by
  unfold Sys2Proof.Machine.State.identified
  refine Ext.ite ?_ ?_
  (dsimp only; split)
  refine Ext.step (State.setLink_ext ..) rfl ?_
  refine Ext.ofPair1 ?_ ‹_›
  refine Ext.step (State.negotiate_ext ..) rfl ?_
  exact Ext.refl _ _
  refine Ext.step (State.raise_ext ..) rfl ?_
  refine Ext.step (State.setLink_ext ..) rfl ?_
  refine Ext.ofPair1 ?_ ‹_›
  refine Ext.step (State.negotiate_ext ..) rfl ?_
  exact Ext.refl _ _
  refine Ext.ite ?_ ?_
  refine Ext.step (State.enterUp_ext ..) rfl ?_
  refine Ext.step (State.setLink_ext ..) rfl ?_
  exact Ext.refl _ _
  refine Ext.step (State.setLink_ext ..) rfl ?_
  exact Ext.refl _ _

theorem execFabMcmdSpdm_ext (a0 : ℕ) (a1 : BitVec 16) (a2 : BitVec 8) (a3 : State) :
    HAll (fun x => Ext [.regs, .hlk, .mem, .fab] a3 x) (@execFabMcmdSpdm a0 a1 a2 a3) := by
  unfold Sys2Proof.Machine.execFabMcmdSpdm
  refine HAll.next ?_
  refine Ext.ite ?_ ?_
  refine Ext.step (State.mcmdSend_ext ..) rfl ?_
  exact Ext.refl _ _
  exact Ext.refl _ _

theorem State.importDo_ext (a0 : State) (a1 : ℕ) (a2 : Pkt) :
    OAll (fun x => Ext [.rst, .regs, .hlk, .cores, .sram, .sramUe, .mem, .queues, .fab, .ras, .free] a0 x) (@State.importDo a0 a1 a2) := by
  unfold Sys2Proof.Machine.State.importDo
  refine OAll.ite ?_ ?_
  (dsimp only; split)
  refine OAll.some ?_
  refine Ext.step (State.answer_ext ..) rfl ?_
  refine Ext.step (State.stgLand_ext ..) rfl ?_
  refine Ext.ite ?_ ?_
  refine Ext.step (State.vpoison_ext ..) rfl ?_
  refine VAll.of_ok (P := fun x => Ext _ _ x) ?_ ‹_›
  refine VAll.step (State.vwrite_ext ..) rfl ?_
  exact Ext.refl _ _
  refine VAll.of_ok (P := fun x => Ext _ _ x) ?_ ‹_›
  refine VAll.step (State.vwrite_ext ..) rfl ?_
  exact Ext.refl _ _
  refine OAll.some ?_
  refine Ext.step (State.answer_ext ..) rfl ?_
  exact Ext.refl _ _
  refine OAll.none ?_
  split
  refine OAll.some ?_
  refine Ext.step (State.answer_ext ..) rfl ?_
  refine VAll.of_ok (P := fun x => Ext _ _ x) ?_ ‹_›
  refine VAll.step (State.vread_ext ..) rfl ?_
  exact Ext.refl _ _
  refine OAll.some ?_
  refine Ext.step (State.answer_ext ..) rfl ?_
  exact Ext.refl _ _
  refine OAll.none ?_

theorem State.setParked_ext (a0 : State) (a1 : ℕ) (a2 : List (ℕ × Pkt)) :
    Ext [.fab] a0 (@State.setParked a0 a1 a2) := by
  unfold Sys2Proof.Machine.State.setParked
  refine Ext.step (Ext.set_fab ..) rfl ?_
  exact Ext.refl _ _

theorem State.importReq_ext (a0 : State) (a1 : ℕ) (a2 : Pkt) :
    Ext [.rst, .regs, .hlk, .cores, .sram, .sramUe, .mem, .queues, .fab, .ras, .free] a0 (@State.importReq a0 a1 a2) := by
  unfold Sys2Proof.Machine.State.importReq
  refine Ext.ite ?_ ?_
  refine Ext.step (State.answer_ext ..) rfl ?_
  refine Ext.step (State.raise_ext ..) rfl ?_
  exact Ext.refl _ _
  (dsimp only; split)
  refine Ext.ofO ?_ ‹_›
  refine OAll.step (State.importDo_ext ..) rfl ?_
  exact Ext.refl _ _
  refine Ext.ite ?_ ?_
  exact Ext.refl _ _
  split
  refine Ext.step (State.missFault_ext ..) rfl ?_
  refine Ext.step (State.answer_ext ..) rfl ?_
  refine Ext.step (State.setParked_ext ..) rfl ?_
  exact Ext.refl _ _
  refine Ext.step (State.missFault_ext ..) rfl ?_
  refine Ext.step (State.answer_ext ..) rfl ?_
  refine Ext.step (State.setParked_ext ..) rfl ?_
  exact Ext.refl _ _
  refine Ext.step (State.answer_ext ..) rfl ?_
  refine Ext.step (State.setParked_ext ..) rfl ?_
  exact Ext.refl _ _

theorem execGet_ext (a0 : ℕ) (a1 : Pkt) (a2 : State) :
    HAll (fun x => Ext [.rst, .regs, .hlk, .cores, .sram, .sramUe, .mem, .queues, .fab, .ras, .free] a2 x) (@execGet a0 a1 a2) := by
  unfold Sys2Proof.Machine.execGet
  refine HAll.next ?_
  refine Ext.ite ?_ ?_
  unfold Sys2Proof.Machine.State.arrive
  refine Ext.ite ?_ ?_
  exact Ext.refl _ _
  refine Ext.ite ?_ ?_
  refine Ext.ite ?_ ?_
  refine Ext.step (State.answer_ext ..) rfl ?_
  refine Ext.step (State.bump_ext ..) rfl ?_
  exact Ext.refl _ _
  split
  refine Ext.step (State.emit_ext ..) rfl ?_
  refine Ext.step (State.bump_ext ..) rfl ?_
  refine Ext.ofPair ?_ ‹_›
  refine Ext.step (State.route_ext ..) rfl ?_
  refine Ext.step (State.bump_ext ..) rfl ?_
  exact Ext.refl _ _
  refine Ext.step (State.answer_ext ..) rfl ?_
  refine Ext.ofPair ?_ ‹_›
  refine Ext.step (State.route_ext ..) rfl ?_
  refine Ext.step (State.bump_ext ..) rfl ?_
  exact Ext.refl _ _
  refine Ext.ite ?_ ?_
  refine Ext.ite ?_ ?_
  refine Ext.step (State.importReq_ext ..) rfl ?_
  refine Ext.step (State.bump_ext ..) rfl ?_
  refine Ext.step (State.bump_ext ..) rfl ?_
  exact Ext.refl _ _
  refine Ext.ite ?_ ?_
  refine Ext.step (State.answer_ext ..) rfl ?_
  refine Ext.step (State.bump_ext ..) rfl ?_
  exact Ext.refl _ _
  refine Ext.step (State.importReq_ext ..) rfl ?_
  refine Ext.step (State.dupAdd_ext ..) rfl ?_
  refine Ext.step (State.bump_ext ..) rfl ?_
  exact Ext.refl _ _
  refine Ext.step (State.importReq_ext ..) rfl ?_
  refine Ext.step (State.dupAdd_ext ..) rfl ?_
  refine Ext.step (State.bump_ext ..) rfl ?_
  exact Ext.refl _ _
  exact Ext.refl _ _

theorem State.retrain_ext (a0 : State) (a1 : ℕ) :
    Ext [.regs, .hlk, .mem, .fab] a0 (@State.retrain a0 a1) := by
  unfold Sys2Proof.Machine.State.retrain
  refine Ext.ite ?_ ?_
  refine Ext.step (State.dropLink_ext ..) rfl ?_
  refine Ext.step (State.raise_ext ..) rfl ?_
  refine Ext.step (State.bump_ext ..) rfl ?_
  refine Ext.step (State.bump_ext ..) rfl ?_
  exact Ext.refl _ _
  refine Ext.step (State.setLink_ext ..) rfl ?_
  refine Ext.step (State.raise_ext ..) rfl ?_
  refine Ext.step (State.bump_ext ..) rfl ?_
  refine Ext.step (State.bump_ext ..) rfl ?_
  exact Ext.refl _ _

theorem State.lightChange_ext (a0 : State) (a1 : ℕ) (a2 : BitVec 8) :
    Ext [.regs, .hlk, .mem, .fab] a0 (@State.lightChange a0 a1 a2) := by
  unfold Sys2Proof.Machine.State.lightChange
  refine Ext.ite ?_ ?_
  refine Ext.step (State.setLink_ext ..) rfl ?_
  exact Ext.refl _ _
  refine Ext.ite ?_ ?_
  refine Ext.step (State.setLink_ext ..) rfl ?_
  exact Ext.refl _ _
  refine Ext.ite ?_ ?_
  refine Ext.step (State.retrain_ext ..) rfl ?_
  refine Ext.step (State.raise_ext ..) rfl ?_
  refine Ext.step (State.setLink_ext ..) rfl ?_
  exact Ext.refl _ _
  refine Ext.step (State.dropLink_ext ..) rfl ?_
  refine Ext.step (State.setLink_ext ..) rfl ?_
  exact Ext.refl _ _

theorem execFlitRetry_ext (a0 : ℕ) (a1 : ℕ) (a2 : State) :
    HAll (fun x => Ext [.regs, .hlk, .mem, .fab] a2 x) (@execFlitRetry a0 a1 a2) := by
  unfold Sys2Proof.Machine.execFlitRetry
  refine HAll.next ?_
  refine Ext.ite ?_ ?_
  refine Ext.ite ?_ ?_
  refine Ext.step (State.retrain_ext ..) rfl ?_
  refine Ext.step (State.setLink_ext ..) rfl ?_
  refine Ext.step (State.bump_ext ..) rfl ?_
  exact Ext.refl _ _
  refine Ext.step (State.setLink_ext ..) rfl ?_
  refine Ext.step (State.bump_ext ..) rfl ?_
  exact Ext.refl _ _
  exact Ext.refl _ _

theorem execFabLinkUp_ext (a0 : ℕ) (a1 : State) :
    HAll (fun x => Ext [.regs, .hlk, .fab] a1 x) (@execFabLinkUp a0 a1) := by
  unfold Sys2Proof.Machine.execFabLinkUp
  refine HAll.next ?_
  refine Ext.ite ?_ ?_
  refine Ext.step (State.enterUp_ext ..) rfl ?_
  refine Ext.step (State.setLink_ext ..) rfl ?_
  exact Ext.refl _ _
  exact Ext.refl _ _

theorem execDupKeyExpiry_ext (a0 : ℕ) (a1 : State) :
    HAll (fun x => Ext [.fab] a1 x) (@execDupKeyExpiry a0 a1) := by
  unfold Sys2Proof.Machine.execDupKeyExpiry
  refine HAll.next ?_
  refine Ext.step (Ext.set_fab ..) rfl ?_
  exact Ext.refl _ _

theorem execFabMcmdReset_ext (a0 : ℕ) (a1 : BitVec 16) (a2 : BitVec 8) (a3 : State) :
    HAll (fun x => Ext [.regs, .hlk, .mem, .fab] a3 x) (@execFabMcmdReset a0 a1 a2 a3) := by
  unfold Sys2Proof.Machine.execFabMcmdReset
  refine HAll.next ?_
  refine Ext.ite ?_ ?_
  refine Ext.step (State.mcmdSend_ext ..) rfl ?_
  exact Ext.refl _ _
  exact Ext.refl _ _

theorem execRouteFlush_ext (a0 : State) :
    HAll (fun x => Ext [.regs, .hlk, .fab] a0 x) (@execRouteFlush a0) := by
  unfold Sys2Proof.Machine.execRouteFlush
  refine HAll.next ?_
  unfold Sys2Proof.Machine.State.devWrite
  refine Ext.ite ?_ ?_
  refine Ext.step (Ext.set_fab ..) rfl ?_
  exact Ext.refl _ _
  refine Ext.step (State.refuse_ext ..) rfl ?_
  exact Ext.refl _ _

theorem execFabGet_ext (a0 : ℕ) (a1 : State) :
    HAll (fun x => Ext [.rst, .regs, .hlk, .launches, .cores, .shoals, .sram, .sramUe, .mem, .queues, .act, .shl, .red, .ras, .free] a1 x) (@execFabGet a0 a1) := by
  unfold Sys2Proof.Machine.execFabGet
  refine HAll.next ?_
  unfold Sys2Proof.Machine.State.startIf
  split
  refine Ext.ite ?_ ?_
  unfold Sys2Proof.Machine.State.startOp
  refine Ext.ite ?_ ?_
  split
  refine Ext.step (State.launchEnd_ext ..) rfl ?_
  exact Ext.refl _ _
  refine Ext.step (State.poisonTail_ext ..) rfl ?_
  exact Ext.refl _ _
  refine Ext.ite ?_ ?_
  refine Ext.step (State.poisonTail_ext ..) rfl ?_
  exact Ext.refl _ _
  refine Ext.ite ?_ ?_
  refine Ext.step (State.modOp_ext ..) rfl ?_
  exact Ext.refl _ _
  refine Ext.step (State.beginPlain_ext ..) rfl ?_
  refine Ext.step (State.modOp_ext ..) rfl ?_
  exact Ext.refl _ _
  exact Ext.refl _ _
  exact Ext.refl _ _

theorem State.nackParked_ext (a0 : State) (a1 : ℕ) (a2 : ℕ) :
    Ext [.regs, .hlk, .mem, .fab] a0 (@State.nackParked a0 a1 a2) := by
  unfold Sys2Proof.Machine.State.nackParked
  refine foldl_all (P := fun x => Ext _ _ x) ?_ ?_
  exact Ext.refl _ _
  intro _
  intro _
  intro _
  refine Ext.ite ?_ ?_
  refine Ext.step (State.answer_ext ..) rfl ?_
  refine Ext.step (State.setParked_ext ..) rfl ?_
  with_reducible assumption
  with_reducible assumption

theorem execFabHoldResend_ext (a0 : ℕ) (a1 : ℕ) (a2 : State) :
    HAll (fun x => Ext [.rst, .regs, .hlk, .cores, .sram, .sramUe, .mem, .queues, .fab, .ras, .free] a2 x) (@execFabHoldResend a0 a1 a2) := by
  unfold Sys2Proof.Machine.execFabHoldResend
  refine HAll.next ?_
  split
  exact Ext.refl _ _
  refine Ext.ite ?_ ?_
  refine Ext.step (State.answer_ext ..) rfl ?_
  exact Ext.refl _ _
  split
  refine Ext.step (State.setParked_ext ..) rfl ?_
  refine Ext.ofO ?_ ‹_›
  refine OAll.step (State.importDo_ext ..) rfl ?_
  exact Ext.refl _ _
  refine Ext.step (State.answer_ext ..) rfl ?_
  exact Ext.refl _ _

theorem execGetData_ext (a0 : ℕ) (a1 : Pkt) (a2 : State) :
    HAll (fun x => Ext [.rst, .regs, .hlk, .cores, .sram, .sramUe, .mem, .queues, .fab, .ras, .free] a2 x) (@execGetData a0 a1 a2) := by
  unfold Sys2Proof.Machine.execGetData
  refine HAll.next ?_
  refine Ext.ite ?_ ?_
  unfold Sys2Proof.Machine.State.arrive
  refine Ext.ite ?_ ?_
  exact Ext.refl _ _
  refine Ext.ite ?_ ?_
  refine Ext.ite ?_ ?_
  refine Ext.step (State.answer_ext ..) rfl ?_
  refine Ext.step (State.bump_ext ..) rfl ?_
  exact Ext.refl _ _
  split
  refine Ext.step (State.emit_ext ..) rfl ?_
  refine Ext.step (State.bump_ext ..) rfl ?_
  refine Ext.ofPair ?_ ‹_›
  refine Ext.step (State.route_ext ..) rfl ?_
  refine Ext.step (State.bump_ext ..) rfl ?_
  exact Ext.refl _ _
  refine Ext.step (State.answer_ext ..) rfl ?_
  refine Ext.ofPair ?_ ‹_›
  refine Ext.step (State.route_ext ..) rfl ?_
  refine Ext.step (State.bump_ext ..) rfl ?_
  exact Ext.refl _ _
  refine Ext.ite ?_ ?_
  refine Ext.ite ?_ ?_
  unfold id
  refine Ext.step (State.bump_ext ..) rfl ?_
  refine Ext.step (State.bump_ext ..) rfl ?_
  exact Ext.refl _ _
  refine Ext.ite ?_ ?_
  refine Ext.step (State.answer_ext ..) rfl ?_
  refine Ext.step (State.bump_ext ..) rfl ?_
  exact Ext.refl _ _
  split
  (dsimp only; split)
  refine Ext.step (State.dupAdd_ext ..) rfl ?_
  refine Ext.step (State.bump_ext ..) rfl ?_
  exact Ext.refl _ _
  unfold Sys2Proof.Machine.State.fabLanded
  split
  refine Ext.step (State.dropTxn_ext ..) rfl ?_
  refine Ext.step (State.dupAdd_ext ..) rfl ?_
  refine Ext.step (State.bump_ext ..) rfl ?_
  exact Ext.refl _ _
  split
  refine Ext.step (State.dropTxn_ext ..) rfl ?_
  refine Ext.step (State.dupAdd_ext ..) rfl ?_
  refine Ext.step (State.bump_ext ..) rfl ?_
  exact Ext.refl _ _
  refine Ext.ite ?_ ?_
  refine Ext.step (State.dropTxn_ext ..) rfl ?_
  refine Ext.step (State.stgAcked_ext ..) rfl ?_
  refine Ext.step (State.dupAdd_ext ..) rfl ?_
  refine Ext.step (State.bump_ext ..) rfl ?_
  exact Ext.refl _ _
  split
  refine Ext.step (State.dropTxn_ext ..) rfl ?_
  refine Ext.step (State.dupAdd_ext ..) rfl ?_
  refine Ext.step (State.bump_ext ..) rfl ?_
  exact Ext.refl _ _
  refine Ext.step (State.dropTxn_ext ..) rfl ?_
  unfold Sys2Proof.Machine.State.landed
  refine Ext.step (State.pump_ext ..) rfl ?_
  refine Ext.step (State.modOp_ext ..) rfl ?_
  refine Ext.step (State.detected_ext ..) rfl ?_
  refine Ext.step (State.dupAdd_ext ..) rfl ?_
  refine Ext.step (State.bump_ext ..) rfl ?_
  exact Ext.refl _ _
  (dsimp only; split)
  refine Ext.step (State.dupAdd_ext ..) rfl ?_
  refine Ext.step (State.bump_ext ..) rfl ?_
  exact Ext.refl _ _
  unfold Sys2Proof.Machine.State.fabLanded
  split
  refine Ext.step (State.dropTxn_ext ..) rfl ?_
  refine Ext.step (State.dupAdd_ext ..) rfl ?_
  refine Ext.step (State.bump_ext ..) rfl ?_
  exact Ext.refl _ _
  split
  refine Ext.step (State.dropTxn_ext ..) rfl ?_
  refine Ext.step (State.dupAdd_ext ..) rfl ?_
  refine Ext.step (State.bump_ext ..) rfl ?_
  exact Ext.refl _ _
  refine Ext.ite ?_ ?_
  refine Ext.step (State.dropTxn_ext ..) rfl ?_
  refine Ext.step (State.stgAcked_ext ..) rfl ?_
  refine Ext.step (State.dupAdd_ext ..) rfl ?_
  refine Ext.step (State.bump_ext ..) rfl ?_
  exact Ext.refl _ _
  split
  refine Ext.step (State.dropTxn_ext ..) rfl ?_
  refine Ext.step (State.dupAdd_ext ..) rfl ?_
  refine Ext.step (State.bump_ext ..) rfl ?_
  exact Ext.refl _ _
  split
  refine Ext.step (State.dupAdd_ext ..) rfl ?_
  refine Ext.step (State.bump_ext ..) rfl ?_
  exact Ext.refl _ _
  refine Ext.step (State.dropTxn_ext ..) rfl ?_
  unfold Sys2Proof.Machine.State.landed
  (dsimp only; split)
  refine Ext.step (State.xferDone_ext ..) rfl ?_
  refine LAll.of_done (P := fun x => Ext _ _ x) ?_ ‹_›
  split
  refine LAll.done ?_
  refine VAll.of_ok (P := fun x => Ext _ _ x) ?_ ‹_›
  refine VAll.step (State.vwrite_ext ..) rfl ?_
  refine Ext.step (State.dupAdd_ext ..) rfl ?_
  refine Ext.step (State.bump_ext ..) rfl ?_
  exact Ext.refl _ _
  refine LAll.fail ?_
  refine Ext.step (State.dupAdd_ext ..) rfl ?_
  refine Ext.step (State.bump_ext ..) rfl ?_
  exact Ext.refl _ _
  refine LAll.wait ?_
  refine Ext.step (State.dupAdd_ext ..) rfl ?_
  refine Ext.step (State.bump_ext ..) rfl ?_
  exact Ext.refl _ _
  refine Ext.step (State.pump_ext ..) rfl ?_
  refine Ext.step (State.modOp_ext ..) rfl ?_
  refine LAll.of_mark (P := fun x => Ext _ _ x) ?_ ‹_›
  split
  refine LAll.done ?_
  refine VAll.of_ok (P := fun x => Ext _ _ x) ?_ ‹_›
  refine VAll.step (State.vwrite_ext ..) rfl ?_
  refine Ext.step (State.dupAdd_ext ..) rfl ?_
  refine Ext.step (State.bump_ext ..) rfl ?_
  exact Ext.refl _ _
  refine LAll.fail ?_
  refine Ext.step (State.dupAdd_ext ..) rfl ?_
  refine Ext.step (State.bump_ext ..) rfl ?_
  exact Ext.refl _ _
  refine LAll.wait ?_
  refine Ext.step (State.poisonTail_ext ..) rfl ?_
  refine LAll.of_fail (P := fun x => Ext _ _ x) ?_ ‹_›
  split
  refine LAll.done ?_
  refine VAll.of_ok (P := fun x => Ext _ _ x) ?_ ‹_›
  refine VAll.step (State.vwrite_ext ..) rfl ?_
  refine Ext.step (State.dupAdd_ext ..) rfl ?_
  refine Ext.step (State.bump_ext ..) rfl ?_
  exact Ext.refl _ _
  refine LAll.fail ?_
  refine Ext.step (State.dupAdd_ext ..) rfl ?_
  refine Ext.step (State.bump_ext ..) rfl ?_
  exact Ext.refl _ _
  refine LAll.wait ?_
  split
  (dsimp only; split)
  refine Ext.step (State.dupAdd_ext ..) rfl ?_
  refine Ext.step (State.bump_ext ..) rfl ?_
  exact Ext.refl _ _
  unfold Sys2Proof.Machine.State.fabLanded
  split
  refine Ext.step (State.dropTxn_ext ..) rfl ?_
  refine Ext.step (State.dupAdd_ext ..) rfl ?_
  refine Ext.step (State.bump_ext ..) rfl ?_
  exact Ext.refl _ _
  split
  refine Ext.step (State.dropTxn_ext ..) rfl ?_
  refine Ext.step (State.dupAdd_ext ..) rfl ?_
  refine Ext.step (State.bump_ext ..) rfl ?_
  exact Ext.refl _ _
  refine Ext.ite ?_ ?_
  refine Ext.step (State.dropTxn_ext ..) rfl ?_
  refine Ext.step (State.stgAcked_ext ..) rfl ?_
  refine Ext.step (State.dupAdd_ext ..) rfl ?_
  refine Ext.step (State.bump_ext ..) rfl ?_
  exact Ext.refl _ _
  split
  refine Ext.step (State.dropTxn_ext ..) rfl ?_
  refine Ext.step (State.dupAdd_ext ..) rfl ?_
  refine Ext.step (State.bump_ext ..) rfl ?_
  exact Ext.refl _ _
  refine Ext.step (State.dropTxn_ext ..) rfl ?_
  unfold Sys2Proof.Machine.State.landed
  refine Ext.step (State.pump_ext ..) rfl ?_
  refine Ext.step (State.modOp_ext ..) rfl ?_
  refine Ext.step (State.detected_ext ..) rfl ?_
  refine Ext.step (State.dupAdd_ext ..) rfl ?_
  refine Ext.step (State.bump_ext ..) rfl ?_
  exact Ext.refl _ _
  (dsimp only; split)
  refine Ext.step (State.dupAdd_ext ..) rfl ?_
  refine Ext.step (State.bump_ext ..) rfl ?_
  exact Ext.refl _ _
  unfold Sys2Proof.Machine.State.fabLanded
  split
  refine Ext.step (State.dropTxn_ext ..) rfl ?_
  refine Ext.step (State.dupAdd_ext ..) rfl ?_
  refine Ext.step (State.bump_ext ..) rfl ?_
  exact Ext.refl _ _
  split
  refine Ext.step (State.dropTxn_ext ..) rfl ?_
  refine Ext.step (State.dupAdd_ext ..) rfl ?_
  refine Ext.step (State.bump_ext ..) rfl ?_
  exact Ext.refl _ _
  refine Ext.ite ?_ ?_
  refine Ext.step (State.dropTxn_ext ..) rfl ?_
  refine Ext.step (State.stgAcked_ext ..) rfl ?_
  refine Ext.step (State.dupAdd_ext ..) rfl ?_
  refine Ext.step (State.bump_ext ..) rfl ?_
  exact Ext.refl _ _
  split
  refine Ext.step (State.dropTxn_ext ..) rfl ?_
  refine Ext.step (State.dupAdd_ext ..) rfl ?_
  refine Ext.step (State.bump_ext ..) rfl ?_
  exact Ext.refl _ _
  split
  refine Ext.step (State.dupAdd_ext ..) rfl ?_
  refine Ext.step (State.bump_ext ..) rfl ?_
  exact Ext.refl _ _
  refine Ext.step (State.dropTxn_ext ..) rfl ?_
  unfold Sys2Proof.Machine.State.landed
  (dsimp only; split)
  refine Ext.step (State.xferDone_ext ..) rfl ?_
  refine LAll.of_done (P := fun x => Ext _ _ x) ?_ ‹_›
  split
  refine LAll.done ?_
  refine VAll.of_ok (P := fun x => Ext _ _ x) ?_ ‹_›
  refine VAll.step (State.vwrite_ext ..) rfl ?_
  refine Ext.step (State.dupAdd_ext ..) rfl ?_
  refine Ext.step (State.bump_ext ..) rfl ?_
  exact Ext.refl _ _
  refine LAll.fail ?_
  refine Ext.step (State.dupAdd_ext ..) rfl ?_
  refine Ext.step (State.bump_ext ..) rfl ?_
  exact Ext.refl _ _
  refine LAll.wait ?_
  refine Ext.step (State.dupAdd_ext ..) rfl ?_
  refine Ext.step (State.bump_ext ..) rfl ?_
  exact Ext.refl _ _
  refine Ext.step (State.pump_ext ..) rfl ?_
  refine Ext.step (State.modOp_ext ..) rfl ?_
  refine LAll.of_mark (P := fun x => Ext _ _ x) ?_ ‹_›
  split
  refine LAll.done ?_
  refine VAll.of_ok (P := fun x => Ext _ _ x) ?_ ‹_›
  refine VAll.step (State.vwrite_ext ..) rfl ?_
  refine Ext.step (State.dupAdd_ext ..) rfl ?_
  refine Ext.step (State.bump_ext ..) rfl ?_
  exact Ext.refl _ _
  refine LAll.fail ?_
  refine Ext.step (State.dupAdd_ext ..) rfl ?_
  refine Ext.step (State.bump_ext ..) rfl ?_
  exact Ext.refl _ _
  refine LAll.wait ?_
  refine Ext.step (State.poisonTail_ext ..) rfl ?_
  refine LAll.of_fail (P := fun x => Ext _ _ x) ?_ ‹_›
  split
  refine LAll.done ?_
  refine VAll.of_ok (P := fun x => Ext _ _ x) ?_ ‹_›
  refine VAll.step (State.vwrite_ext ..) rfl ?_
  refine Ext.step (State.dupAdd_ext ..) rfl ?_
  refine Ext.step (State.bump_ext ..) rfl ?_
  exact Ext.refl _ _
  refine LAll.fail ?_
  refine Ext.step (State.dupAdd_ext ..) rfl ?_
  refine Ext.step (State.bump_ext ..) rfl ?_
  exact Ext.refl _ _
  refine LAll.wait ?_
  exact Ext.refl _ _

theorem State.mgmtAnswer_ext (a0 : State) (a1 : ℕ) (a2 : Pkt) (a3 : ℕ) :
    Ext [.regs, .hlk] a0 (@State.mgmtAnswer a0 a1 a2 a3) := by
  unfold Sys2Proof.Machine.State.mgmtAnswer
  split
  refine Ext.step (State.mrespDone_ext ..) rfl ?_
  refine Ext.step (State.setMdata_ext ..) rfl ?_
  exact Ext.refl _ _
  refine Ext.step (State.mgmtRx_ext ..) rfl ?_
  exact Ext.refl _ _

theorem execPong_ext (a0 : ℕ) (a1 : Pkt) (a2 : State) :
    HAll (fun x => Ext [.regs, .hlk, .mem, .fab] a2 x) (@execPong a0 a1 a2) := by
  unfold Sys2Proof.Machine.execPong
  refine HAll.next ?_
  unfold Sys2Proof.Machine.State.mgmtArrive
  refine Ext.ite ?_ ?_
  unfold Sys2Proof.Machine.State.arrive
  refine Ext.ite ?_ ?_
  exact Ext.refl _ _
  refine Ext.ite ?_ ?_
  refine Ext.ite ?_ ?_
  refine Ext.step (State.answer_ext ..) rfl ?_
  refine Ext.step (State.bump_ext ..) rfl ?_
  exact Ext.refl _ _
  split
  refine Ext.step (State.emit_ext ..) rfl ?_
  refine Ext.step (State.bump_ext ..) rfl ?_
  refine Ext.ofPair ?_ ‹_›
  refine Ext.step (State.route_ext ..) rfl ?_
  refine Ext.step (State.bump_ext ..) rfl ?_
  exact Ext.refl _ _
  refine Ext.step (State.answer_ext ..) rfl ?_
  refine Ext.ofPair ?_ ‹_›
  refine Ext.step (State.route_ext ..) rfl ?_
  refine Ext.step (State.bump_ext ..) rfl ?_
  exact Ext.refl _ _
  refine Ext.ite ?_ ?_
  refine Ext.ite ?_ ?_
  unfold id
  refine Ext.step (State.bump_ext ..) rfl ?_
  refine Ext.step (State.bump_ext ..) rfl ?_
  exact Ext.refl _ _
  refine Ext.ite ?_ ?_
  refine Ext.step (State.answer_ext ..) rfl ?_
  refine Ext.step (State.bump_ext ..) rfl ?_
  exact Ext.refl _ _
  refine Ext.step (State.mgmtAnswer_ext ..) rfl ?_
  refine Ext.step (State.dupAdd_ext ..) rfl ?_
  refine Ext.step (State.bump_ext ..) rfl ?_
  exact Ext.refl _ _
  refine Ext.step (State.mgmtAnswer_ext ..) rfl ?_
  refine Ext.step (State.dupAdd_ext ..) rfl ?_
  refine Ext.step (State.bump_ext ..) rfl ?_
  exact Ext.refl _ _
  exact Ext.refl _ _

theorem execResetAck_ext (a0 : ℕ) (a1 : Pkt) (a2 : State) :
    HAll (fun x => Ext [.regs, .hlk, .mem, .fab] a2 x) (@execResetAck a0 a1 a2) := by
  unfold Sys2Proof.Machine.execResetAck
  refine HAll.next ?_
  unfold Sys2Proof.Machine.State.mgmtArrive
  refine Ext.ite ?_ ?_
  unfold Sys2Proof.Machine.State.arrive
  refine Ext.ite ?_ ?_
  exact Ext.refl _ _
  refine Ext.ite ?_ ?_
  refine Ext.ite ?_ ?_
  refine Ext.step (State.answer_ext ..) rfl ?_
  refine Ext.step (State.bump_ext ..) rfl ?_
  exact Ext.refl _ _
  split
  refine Ext.step (State.emit_ext ..) rfl ?_
  refine Ext.step (State.bump_ext ..) rfl ?_
  refine Ext.ofPair ?_ ‹_›
  refine Ext.step (State.route_ext ..) rfl ?_
  refine Ext.step (State.bump_ext ..) rfl ?_
  exact Ext.refl _ _
  refine Ext.step (State.answer_ext ..) rfl ?_
  refine Ext.ofPair ?_ ‹_›
  refine Ext.step (State.route_ext ..) rfl ?_
  refine Ext.step (State.bump_ext ..) rfl ?_
  exact Ext.refl _ _
  refine Ext.ite ?_ ?_
  refine Ext.ite ?_ ?_
  unfold id
  refine Ext.step (State.bump_ext ..) rfl ?_
  refine Ext.step (State.bump_ext ..) rfl ?_
  exact Ext.refl _ _
  refine Ext.ite ?_ ?_
  refine Ext.step (State.answer_ext ..) rfl ?_
  refine Ext.step (State.bump_ext ..) rfl ?_
  exact Ext.refl _ _
  refine Ext.step (State.mgmtAnswer_ext ..) rfl ?_
  refine Ext.step (State.dupAdd_ext ..) rfl ?_
  refine Ext.step (State.bump_ext ..) rfl ?_
  exact Ext.refl _ _
  refine Ext.step (State.mgmtAnswer_ext ..) rfl ?_
  refine Ext.step (State.dupAdd_ext ..) rfl ?_
  refine Ext.step (State.bump_ext ..) rfl ?_
  exact Ext.refl _ _
  exact Ext.refl _ _

theorem execHold_ext (a0 : ℕ) (a1 : Pkt) (a2 : State) :
    HAll (fun x => Ext [.regs, .hlk, .mem, .fab] a2 x) (@execHold a0 a1 a2) := by
  unfold Sys2Proof.Machine.execHold
  refine HAll.next ?_
  refine Ext.ite ?_ ?_
  unfold Sys2Proof.Machine.State.arrive
  refine Ext.ite ?_ ?_
  exact Ext.refl _ _
  refine Ext.ite ?_ ?_
  refine Ext.ite ?_ ?_
  refine Ext.step (State.answer_ext ..) rfl ?_
  refine Ext.step (State.bump_ext ..) rfl ?_
  exact Ext.refl _ _
  split
  refine Ext.step (State.emit_ext ..) rfl ?_
  refine Ext.step (State.bump_ext ..) rfl ?_
  refine Ext.ofPair ?_ ‹_›
  refine Ext.step (State.route_ext ..) rfl ?_
  refine Ext.step (State.bump_ext ..) rfl ?_
  exact Ext.refl _ _
  refine Ext.step (State.answer_ext ..) rfl ?_
  refine Ext.ofPair ?_ ‹_›
  refine Ext.step (State.route_ext ..) rfl ?_
  refine Ext.step (State.bump_ext ..) rfl ?_
  exact Ext.refl _ _
  refine Ext.ite ?_ ?_
  refine Ext.ite ?_ ?_
  unfold id
  refine Ext.step (State.bump_ext ..) rfl ?_
  refine Ext.step (State.bump_ext ..) rfl ?_
  exact Ext.refl _ _
  refine Ext.ite ?_ ?_
  refine Ext.step (State.answer_ext ..) rfl ?_
  refine Ext.step (State.bump_ext ..) rfl ?_
  exact Ext.refl _ _
  unfold id
  refine Ext.step (State.dupAdd_ext ..) rfl ?_
  refine Ext.step (State.bump_ext ..) rfl ?_
  exact Ext.refl _ _
  unfold id
  refine Ext.step (State.dupAdd_ext ..) rfl ?_
  refine Ext.step (State.bump_ext ..) rfl ?_
  exact Ext.refl _ _
  exact Ext.refl _ _

theorem execNack_ext (a0 : ℕ) (a1 : Pkt) (a2 : State) :
    HAll (fun x => Ext [.rst, .regs, .hlk, .cores, .sram, .sramUe, .mem, .queues, .fab, .ras, .free] a2 x) (@execNack a0 a1 a2) := by
  unfold Sys2Proof.Machine.execNack
  refine HAll.next ?_
  refine Ext.ite ?_ ?_
  unfold Sys2Proof.Machine.State.arrive
  refine Ext.ite ?_ ?_
  exact Ext.refl _ _
  refine Ext.ite ?_ ?_
  refine Ext.ite ?_ ?_
  refine Ext.step (State.answer_ext ..) rfl ?_
  refine Ext.step (State.bump_ext ..) rfl ?_
  exact Ext.refl _ _
  split
  refine Ext.step (State.emit_ext ..) rfl ?_
  refine Ext.step (State.bump_ext ..) rfl ?_
  refine Ext.ofPair ?_ ‹_›
  refine Ext.step (State.route_ext ..) rfl ?_
  refine Ext.step (State.bump_ext ..) rfl ?_
  exact Ext.refl _ _
  refine Ext.step (State.answer_ext ..) rfl ?_
  refine Ext.ofPair ?_ ‹_›
  refine Ext.step (State.route_ext ..) rfl ?_
  refine Ext.step (State.bump_ext ..) rfl ?_
  exact Ext.refl _ _
  refine Ext.ite ?_ ?_
  refine Ext.ite ?_ ?_
  unfold id
  refine Ext.step (State.bump_ext ..) rfl ?_
  refine Ext.step (State.bump_ext ..) rfl ?_
  exact Ext.refl _ _
  refine Ext.ite ?_ ?_
  refine Ext.step (State.answer_ext ..) rfl ?_
  refine Ext.step (State.bump_ext ..) rfl ?_
  exact Ext.refl _ _
  (dsimp only; split)
  refine Ext.step (State.dupAdd_ext ..) rfl ?_
  refine Ext.step (State.bump_ext ..) rfl ?_
  exact Ext.refl _ _
  refine Ext.step (State.nackTxn_ext ..) rfl ?_
  refine Ext.step (State.bump_ext ..) rfl ?_
  refine Ext.step (State.dupAdd_ext ..) rfl ?_
  refine Ext.step (State.bump_ext ..) rfl ?_
  exact Ext.refl _ _
  (dsimp only; split)
  refine Ext.step (State.dupAdd_ext ..) rfl ?_
  refine Ext.step (State.bump_ext ..) rfl ?_
  exact Ext.refl _ _
  refine Ext.step (State.nackTxn_ext ..) rfl ?_
  refine Ext.step (State.bump_ext ..) rfl ?_
  refine Ext.step (State.dupAdd_ext ..) rfl ?_
  refine Ext.step (State.bump_ext ..) rfl ?_
  exact Ext.refl _ _
  exact Ext.refl _ _

theorem State.trainFail_ext (a0 : State) (a1 : ℕ) :
    Ext [.regs, .hlk, .fab] a0 (@State.trainFail a0 a1) := by
  unfold Sys2Proof.Machine.State.trainFail
  refine Ext.ite ?_ ?_
  refine Ext.step (State.raise_ext ..) rfl ?_
  refine Ext.step (State.setLink_ext ..) rfl ?_
  exact Ext.refl _ _
  refine Ext.step (State.setLink_ext ..) rfl ?_
  exact Ext.refl _ _

theorem execFabTrainingTimeout_ext (a0 : ℕ) (a1 : State) :
    HAll (fun x => Ext [.regs, .hlk, .fab] a1 x) (@execFabTrainingTimeout a0 a1) := by
  unfold Sys2Proof.Machine.execFabTrainingTimeout
  refine HAll.next ?_
  refine Ext.ite ?_ ?_
  refine Ext.step (State.trainFail_ext ..) rfl ?_
  exact Ext.refl _ _
  exact Ext.refl _ _

theorem execAck_ext (a0 : ℕ) (a1 : Pkt) (a2 : State) :
    HAll (fun x => Ext [.rst, .regs, .hlk, .cores, .sram, .sramUe, .mem, .queues, .fab, .ras, .free] a2 x) (@execAck a0 a1 a2) := by
  unfold Sys2Proof.Machine.execAck
  refine HAll.next ?_
  refine Ext.ite ?_ ?_
  unfold Sys2Proof.Machine.State.arrive
  refine Ext.ite ?_ ?_
  exact Ext.refl _ _
  refine Ext.ite ?_ ?_
  refine Ext.ite ?_ ?_
  refine Ext.step (State.answer_ext ..) rfl ?_
  refine Ext.step (State.bump_ext ..) rfl ?_
  exact Ext.refl _ _
  split
  refine Ext.step (State.emit_ext ..) rfl ?_
  refine Ext.step (State.bump_ext ..) rfl ?_
  refine Ext.ofPair ?_ ‹_›
  refine Ext.step (State.route_ext ..) rfl ?_
  refine Ext.step (State.bump_ext ..) rfl ?_
  exact Ext.refl _ _
  refine Ext.step (State.answer_ext ..) rfl ?_
  refine Ext.ofPair ?_ ‹_›
  refine Ext.step (State.route_ext ..) rfl ?_
  refine Ext.step (State.bump_ext ..) rfl ?_
  exact Ext.refl _ _
  refine Ext.ite ?_ ?_
  refine Ext.ite ?_ ?_
  unfold id
  refine Ext.step (State.bump_ext ..) rfl ?_
  refine Ext.step (State.bump_ext ..) rfl ?_
  exact Ext.refl _ _
  refine Ext.ite ?_ ?_
  refine Ext.step (State.answer_ext ..) rfl ?_
  refine Ext.step (State.bump_ext ..) rfl ?_
  exact Ext.refl _ _
  (dsimp only; split)
  refine Ext.step (State.dupAdd_ext ..) rfl ?_
  refine Ext.step (State.bump_ext ..) rfl ?_
  exact Ext.refl _ _
  unfold Sys2Proof.Machine.State.fabLanded
  split
  refine Ext.step (State.dropTxn_ext ..) rfl ?_
  refine Ext.step (State.dupAdd_ext ..) rfl ?_
  refine Ext.step (State.bump_ext ..) rfl ?_
  exact Ext.refl _ _
  split
  refine Ext.step (State.dropTxn_ext ..) rfl ?_
  refine Ext.step (State.dupAdd_ext ..) rfl ?_
  refine Ext.step (State.bump_ext ..) rfl ?_
  exact Ext.refl _ _
  refine Ext.ite ?_ ?_
  refine Ext.step (State.dropTxn_ext ..) rfl ?_
  refine Ext.step (State.stgAcked_ext ..) rfl ?_
  refine Ext.step (State.dupAdd_ext ..) rfl ?_
  refine Ext.step (State.bump_ext ..) rfl ?_
  exact Ext.refl _ _
  split
  refine Ext.step (State.dropTxn_ext ..) rfl ?_
  refine Ext.step (State.dupAdd_ext ..) rfl ?_
  refine Ext.step (State.bump_ext ..) rfl ?_
  exact Ext.refl _ _
  refine Ext.step (State.dropTxn_ext ..) rfl ?_
  unfold Sys2Proof.Machine.State.landed
  refine Ext.step (State.xferDone_ext ..) rfl ?_
  refine Ext.step (State.dupAdd_ext ..) rfl ?_
  refine Ext.step (State.bump_ext ..) rfl ?_
  exact Ext.refl _ _
  (dsimp only; split)
  refine Ext.step (State.dupAdd_ext ..) rfl ?_
  refine Ext.step (State.bump_ext ..) rfl ?_
  exact Ext.refl _ _
  unfold Sys2Proof.Machine.State.fabLanded
  split
  refine Ext.step (State.dropTxn_ext ..) rfl ?_
  refine Ext.step (State.dupAdd_ext ..) rfl ?_
  refine Ext.step (State.bump_ext ..) rfl ?_
  exact Ext.refl _ _
  split
  refine Ext.step (State.dropTxn_ext ..) rfl ?_
  refine Ext.step (State.dupAdd_ext ..) rfl ?_
  refine Ext.step (State.bump_ext ..) rfl ?_
  exact Ext.refl _ _
  refine Ext.ite ?_ ?_
  refine Ext.step (State.dropTxn_ext ..) rfl ?_
  refine Ext.step (State.stgAcked_ext ..) rfl ?_
  refine Ext.step (State.dupAdd_ext ..) rfl ?_
  refine Ext.step (State.bump_ext ..) rfl ?_
  exact Ext.refl _ _
  split
  refine Ext.step (State.dropTxn_ext ..) rfl ?_
  refine Ext.step (State.dupAdd_ext ..) rfl ?_
  refine Ext.step (State.bump_ext ..) rfl ?_
  exact Ext.refl _ _
  refine Ext.step (State.dropTxn_ext ..) rfl ?_
  unfold Sys2Proof.Machine.State.landed
  refine Ext.step (State.xferDone_ext ..) rfl ?_
  refine Ext.step (State.dupAdd_ext ..) rfl ?_
  refine Ext.step (State.bump_ext ..) rfl ?_
  exact Ext.refl _ _
  exact Ext.refl _ _

theorem execFabPut_ext (a0 : ℕ) (a1 : State) :
    HAll (fun x => Ext [.rst, .regs, .hlk, .launches, .cores, .shoals, .sram, .sramUe, .mem, .queues, .act, .shl, .red, .ras, .free] a1 x) (@execFabPut a0 a1) := by
  unfold Sys2Proof.Machine.execFabPut
  refine HAll.next ?_
  unfold Sys2Proof.Machine.State.startIf
  split
  refine Ext.ite ?_ ?_
  unfold Sys2Proof.Machine.State.startOp
  refine Ext.ite ?_ ?_
  split
  refine Ext.step (State.launchEnd_ext ..) rfl ?_
  exact Ext.refl _ _
  refine Ext.step (State.poisonTail_ext ..) rfl ?_
  exact Ext.refl _ _
  refine Ext.ite ?_ ?_
  refine Ext.step (State.poisonTail_ext ..) rfl ?_
  exact Ext.refl _ _
  refine Ext.ite ?_ ?_
  refine Ext.step (State.modOp_ext ..) rfl ?_
  exact Ext.refl _ _
  refine Ext.step (State.beginPlain_ext ..) rfl ?_
  refine Ext.step (State.modOp_ext ..) rfl ?_
  exact Ext.refl _ _
  exact Ext.refl _ _
  exact Ext.refl _ _

theorem execIdentify_ext (a0 : ℕ) (a1 : Pkt) (a2 : State) :
    HAll (fun x => Ext [.regs, .hlk, .fab] a2 x) (@execIdentify a0 a1 a2) := by
  unfold Sys2Proof.Machine.execIdentify
  refine HAll.next ?_
  refine Ext.ite ?_ ?_
  refine Ext.step (State.identified_ext ..) rfl ?_
  refine Ext.step (State.bump_ext ..) rfl ?_
  exact Ext.refl _ _
  exact Ext.refl _ _

theorem execFabTrainingStart_ext (a0 : ℕ) (a1 : State) :
    HAll (fun x => Ext [.regs, .hlk, .fab] a1 x) (@execFabTrainingStart a0 a1) := by
  unfold Sys2Proof.Machine.execFabTrainingStart
  refine HAll.next ?_
  refine Ext.ite ?_ ?_
  (dsimp only; split)
  exact Ext.refl _ _
  refine Ext.step (State.mgmt_ext ..) rfl ?_
  refine Ext.step (State.setLink_ext ..) rfl ?_
  exact Ext.refl _ _
  exact Ext.refl _ _

theorem State.writeFabid_ext (a0 : State) (a1 : Word) :
    Ext [.regs, .hlk, .fab] a0 (@State.writeFabid a0 a1) := by
  unfold Sys2Proof.Machine.State.writeFabid
  refine Ext.ite ?_ ?_
  refine Ext.step (State.wr_ext ..) rfl ?_
  exact Ext.refl _ _
  refine foldl_all (P := fun x => Ext _ _ x) ?_ ?_
  refine Ext.ite ?_ ?_
  refine foldl_all (P := fun x => Ext _ _ x) ?_ ?_
  refine Ext.ite ?_ ?_
  refine Ext.step (State.bump_ext ..) rfl ?_
  refine foldl_all (P := fun x => Ext _ _ x) ?_ ?_
  refine Ext.step (State.wr_ext ..) rfl ?_
  exact Ext.refl _ _
  intro _
  intro _
  intro _
  refine Ext.step (State.mgmt_ext ..) rfl ?_
  with_reducible assumption
  refine foldl_all (P := fun x => Ext _ _ x) ?_ ?_
  refine Ext.step (State.wr_ext ..) rfl ?_
  exact Ext.refl _ _
  intro _
  intro _
  intro _
  refine Ext.step (State.mgmt_ext ..) rfl ?_
  with_reducible assumption
  intro _
  intro _
  intro _
  refine Ext.step (State.mgmt_ext ..) rfl ?_
  with_reducible assumption
  refine Ext.ite ?_ ?_
  refine Ext.step (State.bump_ext ..) rfl ?_
  refine foldl_all (P := fun x => Ext _ _ x) ?_ ?_
  refine Ext.step (State.wr_ext ..) rfl ?_
  exact Ext.refl _ _
  intro _
  intro _
  intro _
  refine Ext.step (State.mgmt_ext ..) rfl ?_
  with_reducible assumption
  refine foldl_all (P := fun x => Ext _ _ x) ?_ ?_
  refine Ext.step (State.wr_ext ..) rfl ?_
  exact Ext.refl _ _
  intro _
  intro _
  intro _
  refine Ext.step (State.mgmt_ext ..) rfl ?_
  with_reducible assumption
  intro _
  intro _
  intro _
  refine Ext.ite ?_ ?_
  with_reducible assumption
  refine Ext.step (State.enterUp_ext ..) rfl ?_
  with_reducible assumption

theorem execFabLightLoss_ext (a0 : ℕ) (a1 : BitVec 8) (a2 : State) :
    HAll (fun x => Ext [.regs, .hlk, .mem, .fab] a2 x) (@execFabLightLoss a0 a1 a2) := by
  unfold Sys2Proof.Machine.execFabLightLoss
  refine HAll.next ?_
  refine Ext.ite ?_ ?_
  refine Ext.step (State.lightChange_ext ..) rfl ?_
  exact Ext.refl _ _
  exact Ext.refl _ _

theorem execResetNotice_ext (a0 : ℕ) (a1 : Pkt) (a2 : State) :
    HAll (fun x => Ext [.rst, .regs, .hlk, .cores, .sram, .sramUe, .mem, .queues, .fab, .ras, .free] a2 x) (@execResetNotice a0 a1 a2) := by
  unfold Sys2Proof.Machine.execResetNotice
  refine HAll.next ?_
  unfold Sys2Proof.Machine.State.mgmtArrive
  refine Ext.ite ?_ ?_
  unfold Sys2Proof.Machine.State.arrive
  refine Ext.ite ?_ ?_
  exact Ext.refl _ _
  refine Ext.ite ?_ ?_
  refine Ext.ite ?_ ?_
  refine Ext.step (State.answer_ext ..) rfl ?_
  refine Ext.step (State.bump_ext ..) rfl ?_
  exact Ext.refl _ _
  split
  refine Ext.step (State.emit_ext ..) rfl ?_
  refine Ext.step (State.bump_ext ..) rfl ?_
  refine Ext.ofPair ?_ ‹_›
  refine Ext.step (State.route_ext ..) rfl ?_
  refine Ext.step (State.bump_ext ..) rfl ?_
  exact Ext.refl _ _
  refine Ext.step (State.answer_ext ..) rfl ?_
  refine Ext.ofPair ?_ ‹_›
  refine Ext.step (State.route_ext ..) rfl ?_
  refine Ext.step (State.bump_ext ..) rfl ?_
  exact Ext.refl _ _
  refine Ext.ite ?_ ?_
  refine Ext.ite ?_ ?_
  unfold id
  refine Ext.step (State.bump_ext ..) rfl ?_
  refine Ext.step (State.bump_ext ..) rfl ?_
  exact Ext.refl _ _
  refine Ext.ite ?_ ?_
  refine Ext.step (State.answer_ext ..) rfl ?_
  refine Ext.step (State.bump_ext ..) rfl ?_
  exact Ext.refl _ _
  refine Ext.step (State.mgmtRx_ext ..) rfl ?_
  refine Ext.step (State.peerReset_ext ..) rfl ?_
  refine Ext.step (State.dupAdd_ext ..) rfl ?_
  refine Ext.step (State.bump_ext ..) rfl ?_
  exact Ext.refl _ _
  refine Ext.step (State.mgmtRx_ext ..) rfl ?_
  refine Ext.step (State.peerReset_ext ..) rfl ?_
  refine Ext.step (State.dupAdd_ext ..) rfl ?_
  refine Ext.step (State.bump_ext ..) rfl ?_
  exact Ext.refl _ _
  exact Ext.refl _ _

theorem execPing_ext (a0 : ℕ) (a1 : Pkt) (a2 : State) :
    HAll (fun x => Ext [.regs, .hlk, .mem, .fab] a2 x) (@execPing a0 a1 a2) := by
  unfold Sys2Proof.Machine.execPing
  refine HAll.next ?_
  unfold Sys2Proof.Machine.State.mgmtArrive
  refine Ext.ite ?_ ?_
  unfold Sys2Proof.Machine.State.arrive
  refine Ext.ite ?_ ?_
  exact Ext.refl _ _
  refine Ext.ite ?_ ?_
  refine Ext.ite ?_ ?_
  refine Ext.step (State.answer_ext ..) rfl ?_
  refine Ext.step (State.bump_ext ..) rfl ?_
  exact Ext.refl _ _
  split
  refine Ext.step (State.emit_ext ..) rfl ?_
  refine Ext.step (State.bump_ext ..) rfl ?_
  refine Ext.ofPair ?_ ‹_›
  refine Ext.step (State.route_ext ..) rfl ?_
  refine Ext.step (State.bump_ext ..) rfl ?_
  exact Ext.refl _ _
  refine Ext.step (State.answer_ext ..) rfl ?_
  refine Ext.ofPair ?_ ‹_›
  refine Ext.step (State.route_ext ..) rfl ?_
  refine Ext.step (State.bump_ext ..) rfl ?_
  exact Ext.refl _ _
  refine Ext.ite ?_ ?_
  refine Ext.ite ?_ ?_
  unfold id
  refine Ext.step (State.bump_ext ..) rfl ?_
  refine Ext.step (State.bump_ext ..) rfl ?_
  exact Ext.refl _ _
  refine Ext.ite ?_ ?_
  refine Ext.step (State.answer_ext ..) rfl ?_
  refine Ext.step (State.bump_ext ..) rfl ?_
  exact Ext.refl _ _
  refine Ext.step (State.answer_ext ..) rfl ?_
  refine Ext.step (State.dupAdd_ext ..) rfl ?_
  refine Ext.step (State.bump_ext ..) rfl ?_
  exact Ext.refl _ _
  refine Ext.step (State.answer_ext ..) rfl ?_
  refine Ext.step (State.dupAdd_ext ..) rfl ?_
  refine Ext.step (State.bump_ext ..) rfl ?_
  exact Ext.refl _ _
  exact Ext.refl _ _

theorem execPut_ext (a0 : ℕ) (a1 : Pkt) (a2 : State) :
    HAll (fun x => Ext [.rst, .regs, .hlk, .cores, .sram, .sramUe, .mem, .queues, .fab, .ras, .free] a2 x) (@execPut a0 a1 a2) := by
  unfold Sys2Proof.Machine.execPut
  refine HAll.next ?_
  refine Ext.ite ?_ ?_
  unfold Sys2Proof.Machine.State.arrive
  refine Ext.ite ?_ ?_
  exact Ext.refl _ _
  refine Ext.ite ?_ ?_
  refine Ext.ite ?_ ?_
  refine Ext.step (State.answer_ext ..) rfl ?_
  refine Ext.step (State.bump_ext ..) rfl ?_
  exact Ext.refl _ _
  split
  refine Ext.step (State.emit_ext ..) rfl ?_
  refine Ext.step (State.bump_ext ..) rfl ?_
  refine Ext.ofPair ?_ ‹_›
  refine Ext.step (State.route_ext ..) rfl ?_
  refine Ext.step (State.bump_ext ..) rfl ?_
  exact Ext.refl _ _
  refine Ext.step (State.answer_ext ..) rfl ?_
  refine Ext.ofPair ?_ ‹_›
  refine Ext.step (State.route_ext ..) rfl ?_
  refine Ext.step (State.bump_ext ..) rfl ?_
  exact Ext.refl _ _
  refine Ext.ite ?_ ?_
  refine Ext.ite ?_ ?_
  refine Ext.step (State.answer_ext ..) rfl ?_
  refine Ext.step (State.bump_ext ..) rfl ?_
  refine Ext.step (State.bump_ext ..) rfl ?_
  exact Ext.refl _ _
  refine Ext.ite ?_ ?_
  refine Ext.step (State.answer_ext ..) rfl ?_
  refine Ext.step (State.bump_ext ..) rfl ?_
  exact Ext.refl _ _
  refine Ext.step (State.importReq_ext ..) rfl ?_
  refine Ext.step (State.dupAdd_ext ..) rfl ?_
  refine Ext.step (State.bump_ext ..) rfl ?_
  exact Ext.refl _ _
  refine Ext.step (State.importReq_ext ..) rfl ?_
  refine Ext.step (State.dupAdd_ext ..) rfl ?_
  refine Ext.step (State.bump_ext ..) rfl ?_
  exact Ext.refl _ _
  exact Ext.refl _ _

theorem State.issueFab_ext (a0 : State) (a1 : ℕ) (a2 : Op) :
    Ext [.rst, .regs, .hlk, .cores, .sram, .sramUe, .mem, .queues, .fab, .ras, .free] a0 (@State.issueFab a0 a1 a2) := by
  unfold Sys2Proof.Machine.State.issueFab
  refine Ext.ite ?_ ?_
  refine Ext.step (State.issuePlain_ext ..) rfl ?_
  exact Ext.refl _ _
  (dsimp only; split)
  split
  refine Ext.ofPair ?_ ‹_›
  refine Ext.step (State.route_ext ..) rfl ?_
  exact Ext.refl _ _
  refine Ext.step (State.poisonTail_ext ..) rfl ?_
  refine Ext.step (State.noRoute_ext ..) rfl ?_
  refine Ext.ofPair ?_ ‹_›
  refine Ext.step (State.route_ext ..) rfl ?_
  exact Ext.refl _ _
  refine Ext.ite ?_ ?_
  split
  unfold Sys2Proof.Machine.State.landed
  refine Ext.step (State.pump_ext ..) rfl ?_
  refine Ext.step (State.modOp_ext ..) rfl ?_
  refine Ext.step (State.reportPoison_ext ..) rfl ?_
  refine VAll.of_ok (P := fun x => Ext _ _ x) ?_ ‹_›
  refine VAll.step (State.vread_ext ..) rfl ?_
  refine Ext.ofPair ?_ ‹_›
  refine Ext.step (State.route_ext ..) rfl ?_
  exact Ext.refl _ _
  refine Ext.step (State.issue_ext ..) rfl ?_
  refine Ext.step (State.request_ext ..) rfl ?_
  refine VAll.of_ok (P := fun x => Ext _ _ x) ?_ ‹_›
  refine VAll.step (State.vread_ext ..) rfl ?_
  refine Ext.ofPair ?_ ‹_›
  refine Ext.step (State.route_ext ..) rfl ?_
  exact Ext.refl _ _
  refine Ext.step (State.poisonTail_ext ..) rfl ?_
  refine Ext.ofPair ?_ ‹_›
  refine Ext.step (State.route_ext ..) rfl ?_
  exact Ext.refl _ _
  exact Ext.refl _ _
  refine Ext.step (State.issue_ext ..) rfl ?_
  refine Ext.step (State.request_ext ..) rfl ?_
  refine Ext.ofPair ?_ ‹_›
  refine Ext.step (State.route_ext ..) rfl ?_
  exact Ext.refl _ _
  exact Ext.refl _ _

theorem execLeaving_ext (a0 : ℕ) (a1 : Pkt) (a2 : State) :
    HAll (fun x => Ext [.regs, .hlk, .mem, .fab] a2 x) (@execLeaving a0 a1 a2) := by
  unfold Sys2Proof.Machine.execLeaving
  refine HAll.next ?_
  unfold Sys2Proof.Machine.State.mgmtArrive
  refine Ext.ite ?_ ?_
  unfold Sys2Proof.Machine.State.arrive
  refine Ext.ite ?_ ?_
  exact Ext.refl _ _
  refine Ext.ite ?_ ?_
  refine Ext.ite ?_ ?_
  refine Ext.step (State.answer_ext ..) rfl ?_
  refine Ext.step (State.bump_ext ..) rfl ?_
  exact Ext.refl _ _
  split
  refine Ext.step (State.emit_ext ..) rfl ?_
  refine Ext.step (State.bump_ext ..) rfl ?_
  refine Ext.ofPair ?_ ‹_›
  refine Ext.step (State.route_ext ..) rfl ?_
  refine Ext.step (State.bump_ext ..) rfl ?_
  exact Ext.refl _ _
  refine Ext.step (State.answer_ext ..) rfl ?_
  refine Ext.ofPair ?_ ‹_›
  refine Ext.step (State.route_ext ..) rfl ?_
  refine Ext.step (State.bump_ext ..) rfl ?_
  exact Ext.refl _ _
  refine Ext.ite ?_ ?_
  refine Ext.ite ?_ ?_
  unfold id
  refine Ext.step (State.bump_ext ..) rfl ?_
  refine Ext.step (State.bump_ext ..) rfl ?_
  exact Ext.refl _ _
  refine Ext.ite ?_ ?_
  refine Ext.step (State.answer_ext ..) rfl ?_
  refine Ext.step (State.bump_ext ..) rfl ?_
  exact Ext.refl _ _
  refine Ext.step (State.mgmtRx_ext ..) rfl ?_
  refine Ext.step (State.dupAdd_ext ..) rfl ?_
  refine Ext.step (State.bump_ext ..) rfl ?_
  exact Ext.refl _ _
  refine Ext.step (State.mgmtRx_ext ..) rfl ?_
  refine Ext.step (State.dupAdd_ext ..) rfl ?_
  refine Ext.step (State.bump_ext ..) rfl ?_
  exact Ext.refl _ _
  exact Ext.refl _ _

theorem execFabMcmdTimeout_ext (a0 : ℕ) (a1 : State) :
    HAll (fun x => Ext [.regs] a1 x) (@execFabMcmdTimeout a0 a1) := by
  unfold Sys2Proof.Machine.execFabMcmdTimeout
  refine HAll.next ?_
  refine Ext.ite ?_ ?_
  refine Ext.step (State.mrespDone_ext ..) rfl ?_
  exact Ext.refl _ _
  exact Ext.refl _ _

theorem execDevFabidWrite_ext (a0 : Word) (a1 : State) :
    HAll (fun x => Ext [.regs, .hlk, .fab] a1 x) (@execDevFabidWrite a0 a1) := by
  unfold Sys2Proof.Machine.execDevFabidWrite
  refine HAll.next ?_
  unfold Sys2Proof.Machine.State.devWrite
  refine Ext.ite ?_ ?_
  refine Ext.step (State.writeFabid_ext ..) rfl ?_
  exact Ext.refl _ _
  refine Ext.step (State.refuse_ext ..) rfl ?_
  exact Ext.refl _ _

theorem execFabTxnTimeout_ext (a0 : BitVec 32) (a1 : Bool) (a2 : State) :
    HAll (fun x => Ext [.rst, .regs, .hlk, .cores, .sram, .sramUe, .mem, .queues, .fab, .ras, .free] a2 x) (@execFabTxnTimeout a0 a1 a2) := by
  unfold Sys2Proof.Machine.execFabTxnTimeout
  refine HAll.next ?_
  (dsimp only; split)
  exact Ext.refl _ _
  split
  refine Ext.ofO ?_ ‹_›
  refine OAll.step (State.resend_ext ..) rfl ?_
  exact Ext.refl _ _
  refine Ext.step (State.failTxn_ext ..) rfl ?_
  refine Ext.step (State.bump_ext ..) rfl ?_
  refine Ext.step (State.raise_ext ..) rfl ?_
  refine Ext.step (State.fabErr_ext ..) rfl ?_
  exact Ext.refl _ _

end Sys2Proof.Machine
end

