-- ==== Sys2Proof/Laws/FrameReduction.lean ====
section
/-! SUPPORT. What each definition of Machine/Reduction.lean may change: every part that its lemma does not name stays, and memory keeps
its canonical form. -/

set_option maxRecDepth 4000

namespace Sys2Proof.Machine

theorem State.badTile_ext (a0 : State) (a1 : ℕ) (a2 : Word) :
    Ext [.regs, .hlk, .red] a0 (@State.badTile a0 a1 a2) := by
  unfold Sys2Proof.Machine.State.badTile
  refine Ext.step (State.orBasinWord_ext ..) rfl ?_
  refine Ext.step (State.raise_ext ..) rfl ?_
  exact Ext.refl _ _

theorem State.setRed_ext (a0 : State) (a1 : Red) :
    Ext [.red] a0 (@State.setRed a0 a1) := by
  unfold Sys2Proof.Machine.State.setRed
  refine Ext.step (Ext.set_red ..) rfl ?_
  exact Ext.refl _ _

theorem State.contribute_ext (a0 : State) (a1 : ℕ) (a2 : ℕ) (a3 : Word) (a4 : Tensor → Option ℕ) (a5 : Word) (a6 : Bool) (a7 : List W32) :
    OAll (fun x => Ext [.regs, .hlk, .red] a0 x) (@State.contribute a0 a1 a2 a3 a4 a5 a6 a7) := by
  unfold Sys2Proof.Machine.State.contribute
  (dsimp only; split)
  refine OAll.some ?_
  refine Ext.step (State.badTile_ext ..) rfl ?_
  exact Ext.refl _ _
  split
  refine OAll.some ?_
  refine Ext.step (State.badTile_ext ..) rfl ?_
  exact Ext.refl _ _
  refine OAll.ite ?_ ?_
  refine OAll.some ?_
  refine Ext.step (State.badTile_ext ..) rfl ?_
  exact Ext.refl _ _
  refine OAll.ite ?_ ?_
  refine OAll.none ?_
  refine OAll.some ?_
  refine Ext.step (State.bump_ext ..) rfl ?_
  refine Ext.step (State.setRed_ext ..) rfl ?_
  exact Ext.refl _ _

theorem State.redSend_ext (a0 : State) (a1 : Pkt) :
    OAll (fun x => Ext [.regs, .hlk, .mem, .fab] a0 x) (@State.redSend a0 a1) := by
  unfold Sys2Proof.Machine.State.redSend
  split
  refine OAll.some ?_
  refine Ext.step (State.bump_ext ..) rfl ?_
  refine Ext.step (State.request_ext ..) rfl ?_
  refine Ext.ofPair ?_ ‹_›
  refine Ext.step (State.route_ext ..) rfl ?_
  exact Ext.refl _ _
  refine OAll.ite ?_ ?_
  refine OAll.none ?_
  refine OAll.some ?_
  refine Ext.step (State.noRoute_ext ..) rfl ?_
  refine Ext.ofPair ?_ ‹_›
  refine Ext.step (State.route_ext ..) rfl ?_
  exact Ext.refl _ _
  refine OAll.none ?_

theorem State.unitRegs_ext (a0 : State) (a1 : ℕ) :
    Ext [.regs] a0 (@State.unitRegs a0 a1) := by
  unfold Sys2Proof.Machine.State.unitRegs
  refine Ext.step (State.p_ext ..) rfl ?_
  refine Ext.step (State.p_ext ..) rfl ?_
  exact Ext.refl _ _

theorem State.setUnit_ext (a0 : State) (a1 : ℕ) (a2 : UpdUnit) :
    Ext [.red] a0 (@State.setUnit a0 a1 a2) := by
  unfold Sys2Proof.Machine.State.setUnit
  refine Ext.step (State.setRed_ext ..) rfl ?_
  exact Ext.refl _ _

theorem State.routeSlab_ext (a0 : State) (a1 : Tensor) (a2 : UnitSlab) :
    OAll (fun x => Ext [.regs, .red] a0 x) (@State.routeSlab a0 a1 a2) := by
  unfold Sys2Proof.Machine.State.routeSlab
  refine OAll.map (OAll.triv _) ?_
  intro _
  intro _
  refine Ext.step (State.unitRegs_ext ..) rfl ?_
  refine Ext.step (State.setUnit_ext ..) rfl ?_
  exact Ext.refl _ _

theorem State.takeMirror_ext (a0 : State) (a1 : ℕ) (a2 : Pkt) :
    Ext [.regs, .red] a0 (@State.takeMirror a0 a1 a2) := by
  unfold Sys2Proof.Machine.State.takeMirror
  refine Ext.ite ?_ ?_
  refine Ext.step (State.setRed_ext ..) rfl ?_
  exact Ext.refl _ _
  (dsimp only; split)
  exact Ext.refl _ _
  split
  refine Ext.step (State.setRed_ext ..) rfl ?_
  refine Ext.ofO ?_ ‹_›
  refine OAll.step (State.routeSlab_ext ..) rfl ?_
  exact Ext.refl _ _
  refine Ext.step (State.setRed_ext ..) rfl ?_
  exact Ext.refl _ _

theorem State.takeVerdict_ext (a0 : State) (a1 : Pkt) :
    Ext [.red] a0 (@State.takeVerdict a0 a1) := by
  unfold Sys2Proof.Machine.State.takeVerdict
  refine Ext.ite ?_ ?_
  refine Ext.step (State.setRed_ext ..) rfl ?_
  exact Ext.refl _ _
  refine Ext.step (State.setRed_ext ..) rfl ?_
  exact Ext.refl _ _

theorem State.vputAll_ext (a0 : ℕ) (a1 : List (ℕ × Bytes)) (a2 : State) :
    EAll (fun x => Ext [.rst, .regs, .hlk, .cores, .mem, .ras, .free] a2 x) (@State.vputAll a0 a1 a2) := by
  induction a1 generalizing a0 a2 with
  | nil =>
    unfold Sys2Proof.Machine.State.vputAll
    refine EAll.ok ?_
    exact Ext.refl _ _
  | cons x l ih =>
    unfold Sys2Proof.Machine.State.vputAll
    split
    refine EAll.step (ih _ _) rfl ?_
    refine VAll.of_ok (P := fun x => Ext _ _ x) ?_ ‹_›
    refine VAll.step (State.vwrite_ext ..) rfl ?_
    exact Ext.refl _ _
    exact EAll.error ..
    exact EAll.error ..

theorem State.updWrite_ext (a0 : State) (a1 : ℕ) (a2 : Pkt) (a3 : List (ℕ × ℕ)) :
    EAll (fun x => Ext [.rst, .regs, .hlk, .cores, .mem, .red, .ras, .free] a0 x) (@State.updWrite a0 a1 a2 a3) := by
  unfold Sys2Proof.Machine.State.updWrite
  (dsimp only; split)
  refine EAll.ok ?_
  refine Ext.step (State.setRed_ext ..) rfl ?_
  refine Ext.ite ?_ ?_
  refine foldl_all (P := fun x => Ext _ _ x) ?_ ?_
  refine Ext.ofE ?_ ‹_›
  refine EAll.step (State.vputAll_ext ..) rfl ?_
  exact Ext.refl _ _
  intro _
  intro _
  intro _
  refine Ext.step (State.vpoison_ext ..) rfl ?_
  with_reducible assumption
  refine Ext.ofE ?_ ‹_›
  refine EAll.step (State.vputAll_ext ..) rfl ?_
  exact Ext.refl _ _
  refine EAll.step (State.vputAll_ext ..) rfl ?_
  exact Ext.refl _ _

theorem State.takeKid_ext (a0 : State) (a1 : Pkt) :
    Ext [.red] a0 (@State.takeKid a0 a1) := by
  unfold Sys2Proof.Machine.State.takeKid
  (dsimp only; split)
  exact Ext.refl _ _
  split
  exact Ext.refl _ _
  refine Ext.step (State.setRed_ext ..) rfl ?_
  exact Ext.refl _ _

theorem State.takeSlab_ext (a0 : State) (a1 : Pkt) :
    Ext [.red] a0 (@State.takeSlab a0 a1) := by
  unfold Sys2Proof.Machine.State.takeSlab
  (dsimp only; split)
  exact Ext.refl _ _
  split
  exact Ext.refl _ _
  refine Ext.step (State.setRed_ext ..) rfl ?_
  exact Ext.refl _ _

theorem State.redApply_ext (a0 : State) (a1 : ℕ) (a2 : Pkt) :
    Ext [.rst, .regs, .hlk, .cores, .mem, .red, .ras, .free] a0 (@State.redApply a0 a1 a2) := by
  unfold Sys2Proof.Machine.State.redApply
  refine Ext.ite ?_ ?_
  refine Ext.step (State.takeMirror_ext ..) rfl ?_
  exact Ext.refl _ _
  refine Ext.ite ?_ ?_
  refine Ext.ite ?_ ?_
  refine Ext.step (State.takeVerdict_ext ..) rfl ?_
  exact Ext.refl _ _
  (dsimp only; split)
  exact Ext.refl _ _
  refine Ext.ite ?_ ?_
  refine Ext.step (State.raise_ext ..) rfl ?_
  exact Ext.refl _ _
  split
  refine Ext.ofE ?_ ‹_›
  refine EAll.step (State.updWrite_ext ..) rfl ?_
  exact Ext.refl _ _
  refine Ext.step (State.setRed_ext ..) rfl ?_
  exact Ext.refl _ _
  refine Ext.ite ?_ ?_
  refine Ext.step (State.takeKid_ext ..) rfl ?_
  exact Ext.refl _ _
  refine Ext.step (State.takeSlab_ext ..) rfl ?_
  exact Ext.refl _ _

theorem State.joinBasins_ext (a0 : State) (a1 : Tensor) (a2 : ℕ) (a3 : ℕ) :
    Ext [.red] a0 (@State.joinBasins a0 a1 a2 a3) := by
  unfold Sys2Proof.Machine.State.joinBasins
  refine Ext.ite ?_ ?_
  refine Ext.step (State.setRed_ext ..) rfl ?_
  exact Ext.refl _ _
  exact Ext.refl _ _

theorem execBasinPieceReduce_ext (a0 : ℕ) (a1 : ℕ) (a2 : ℕ) (a3 : Check) (a4 : State) :
    HAll (fun x => Ext [.rst, .regs, .hlk, .cores, .red, .ras, .free] a4 x) (@execBasinPieceReduce a0 a1 a2 a3 a4) := by
  unfold Sys2Proof.Machine.execBasinPieceReduce
  refine HAll.next ?_
  (dsimp only; split)
  exact Ext.refl _ _
  refine Ext.ite ?_ ?_
  exact Ext.refl _ _
  refine Ext.ite ?_ ?_
  refine Ext.step (State.detected_ext ..) rfl ?_
  refine Ext.step (State.setRed_ext ..) rfl ?_
  exact Ext.refl _ _
  refine foldl_all (P := fun x => Ext _ _ x) ?_ ?_
  refine Ext.step (State.setRed_ext ..) rfl ?_
  exact Ext.refl _ _
  intro _
  intro _
  intro _
  refine Ext.step (State.joinBasins_ext ..) rfl ?_
  refine Ext.step (State.setRed_ext ..) rfl ?_
  with_reducible assumption

theorem State.landPush_ext (a0 : State) (a1 : ℕ) (a2 : Op) (a3 : Xfer) :
    LAll (fun x => Ext [.rst, .regs, .hlk, .cores, .queues, .red, .ras, .free] a0 x) (@State.landPush a0 a1 a2 a3) := by
  unfold Sys2Proof.Machine.State.landPush
  refine LAll.ite ?_ ?_
  refine LAll.mark ?_
  refine Ext.step (State.reportSram_ext ..) rfl ?_
  exact Ext.refl _ _
  refine LAll.ite ?_ ?_
  refine LAll.done ?_
  refine Ext.step (State.modOp_ext ..) rfl ?_
  exact Ext.refl _ _
  (dsimp only; split)
  refine LAll.done ?_
  refine Ext.ofO ?_ ‹_›
  refine OAll.step (State.contribute_ext ..) rfl ?_
  refine Ext.step (State.modOp_ext ..) rfl ?_
  exact Ext.refl _ _
  refine LAll.wait ?_

theorem State.redArrive_ext (a0 : State) (a1 : ℕ) (a2 : Pkt) :
    Ext [.rst, .regs, .hlk, .cores, .mem, .fab, .red, .ras, .free] a0 (@State.redArrive a0 a1 a2) := by
  unfold Sys2Proof.Machine.State.redArrive
  (dsimp only; split)
  refine Ext.step (State.bump_ext ..) rfl ?_
  refine Ext.step (State.answer_ext ..) rfl ?_
  exact Ext.refl _ _
  refine Ext.ite ?_ ?_
  refine Ext.step (State.raise_ext ..) rfl ?_
  exact Ext.refl _ _
  refine Ext.ite ?_ ?_
  refine Ext.step (State.redApply_ext ..) rfl ?_
  refine Ext.step (State.bump_ext ..) rfl ?_
  refine Ext.step (State.answer_ext ..) rfl ?_
  exact Ext.refl _ _
  refine Ext.step (State.setRed_ext ..) rfl ?_
  refine Ext.step (State.bump_ext ..) rfl ?_
  refine Ext.step (State.answer_ext ..) rfl ?_
  exact Ext.refl _ _

theorem execMirror_ext (a0 : ℕ) (a1 : Pkt) (a2 : State) :
    HAll (fun x => Ext [.rst, .regs, .hlk, .cores, .mem, .fab, .red, .ras, .free] a2 x) (@execMirror a0 a1 a2) := by
  unfold Sys2Proof.Machine.execMirror
  refine HAll.next ?_
  refine Ext.ite ?_ ?_
  unfold Sys2Proof.Machine.State.arrive
  refine Ext.ite ?_ ?_
  exact Ext.refl _ _
  refine Ext.ite ?_ ?_
  refine Ext.ite ?_ ?_
  refine Ext.step (State.answer_ext ..) rfl ?_
  refine Ext.step (State.bump_ext ..) rfl ?_
  exact Ext.refl _ _
  split
  refine Ext.step (State.emit_ext ..) rfl ?_
  refine Ext.step (State.bump_ext ..) rfl ?_
  refine Ext.ofPair ?_ ‹_›
  refine Ext.step (State.route_ext ..) rfl ?_
  refine Ext.step (State.bump_ext ..) rfl ?_
  exact Ext.refl _ _
  refine Ext.step (State.answer_ext ..) rfl ?_
  refine Ext.ofPair ?_ ‹_›
  refine Ext.step (State.route_ext ..) rfl ?_
  refine Ext.step (State.bump_ext ..) rfl ?_
  exact Ext.refl _ _
  refine Ext.ite ?_ ?_
  refine Ext.ite ?_ ?_
  refine Ext.step (State.answer_ext ..) rfl ?_
  refine Ext.step (State.bump_ext ..) rfl ?_
  refine Ext.step (State.bump_ext ..) rfl ?_
  exact Ext.refl _ _
  refine Ext.ite ?_ ?_
  refine Ext.step (State.answer_ext ..) rfl ?_
  refine Ext.step (State.bump_ext ..) rfl ?_
  exact Ext.refl _ _
  refine Ext.step (State.redArrive_ext ..) rfl ?_
  refine Ext.step (State.dupAdd_ext ..) rfl ?_
  refine Ext.step (State.bump_ext ..) rfl ?_
  exact Ext.refl _ _
  refine Ext.step (State.redArrive_ext ..) rfl ?_
  refine Ext.step (State.dupAdd_ext ..) rfl ?_
  refine Ext.step (State.bump_ext ..) rfl ?_
  exact Ext.refl _ _
  exact Ext.refl _ _

theorem State.ownSlab_ext (a0 : State) (a1 : Tensor) (a2 : UnitSlab) :
    OAll (fun x => Ext [.regs, .hlk, .mem, .fab, .red] a0 x) (@State.ownSlab a0 a1 a2) := by
  unfold Sys2Proof.Machine.State.ownSlab
  (dsimp only; split)
  refine OAll.none ?_
  refine OAll.ite ?_ ?_
  refine OAll.some ?_
  refine Ext.ite ?_ ?_
  refine Ext.step (State.setRed_ext ..) rfl ?_
  refine Ext.ofO ?_ ‹_›
  refine OAll.step (State.routeSlab_ext ..) rfl ?_
  exact Ext.refl _ _
  refine Ext.ofO ?_ ‹_›
  refine OAll.step (State.routeSlab_ext ..) rfl ?_
  exact Ext.refl _ _
  refine OAll.step (State.redSend_ext ..) rfl ?_
  refine Ext.ite ?_ ?_
  refine Ext.step (State.setRed_ext ..) rfl ?_
  refine Ext.ofO ?_ ‹_›
  refine OAll.step (State.routeSlab_ext ..) rfl ?_
  exact Ext.refl _ _
  refine Ext.ofO ?_ ‹_›
  refine OAll.step (State.routeSlab_ext ..) rfl ?_
  exact Ext.refl _ _

theorem State.nodeSend_ext (a0 : State) (a1 : ℕ) (a2 : ℕ) (a3 : ℕ) :
    OAll (fun x => Ext [.rst, .regs, .hlk, .cores, .mem, .fab, .red, .ras, .free] a0 x) (@State.nodeSend a0 a1 a2 a3) := by
  unfold Sys2Proof.Machine.State.nodeSend
  (dsimp only; split)
  refine OAll.none ?_
  split
  refine OAll.none ?_
  split
  refine OAll.none ?_
  refine OAll.ite ?_ ?_
  refine OAll.none ?_
  refine OAll.ite ?_ ?_
  refine OAll.ite ?_ ?_
  refine OAll.step (State.ownSlab_ext ..) rfl ?_
  refine Ext.step (State.setRed_ext ..) rfl ?_
  exact Ext.refl _ _
  refine OAll.some ?_
  refine Ext.step (State.setRed_ext ..) rfl ?_
  exact Ext.refl _ _
  split
  refine OAll.none ?_
  refine OAll.ite ?_ ?_
  refine OAll.step (State.redSend_ext ..) rfl ?_
  refine Ext.step (State.setRed_ext ..) rfl ?_
  exact Ext.refl _ _
  split
  refine OAll.none ?_
  split
  refine OAll.mapE (g := fun x => x) ?_ ?_
  refine OAll.step (State.redSend_ext ..) rfl ?_
  refine VAll.of_ok (P := fun x => Ext _ _ x) ?_ ‹_›
  refine VAll.step (State.vwrite_ext ..) rfl ?_
  refine Ext.ofO2 ?_ ‹_›
  refine OAll.step (State.vget_ext ..) rfl ?_
  refine Ext.step (State.setRed_ext ..) rfl ?_
  exact Ext.refl _ _
  intro _
  intro _
  refine Ext.ite ?_ ?_
  refine Ext.step (State.bump_ext ..) rfl ?_
  with_reducible assumption
  with_reducible assumption
  refine OAll.none ?_

theorem execRedTileAccept_ext (a0 : ℕ) (a1 : Check) (a2 : State) :
    HAll (fun x => Ext [.rst, .regs, .hlk, .cores, .red, .ras, .free] a2 x) (@execRedTileAccept a0 a1 a2) := by
  unfold Sys2Proof.Machine.execRedTileAccept
  refine HAll.next ?_
  (dsimp only; split)
  exact Ext.refl _ _
  refine Ext.ite ?_ ?_
  refine Ext.step (State.setCore_ext ..) rfl ?_
  exact Ext.refl _ _
  refine Ext.ite ?_ ?_
  refine Ext.step (State.detected_ext ..) rfl ?_
  refine Ext.step (State.setCore_ext ..) rfl ?_
  exact Ext.refl _ _
  split
  refine Ext.step (State.setCore_ext ..) rfl ?_
  refine Ext.ofO ?_ ‹_›
  refine OAll.step (State.contribute_ext ..) rfl ?_
  exact Ext.refl _ _
  refine Ext.step (State.raise_ext ..) rfl ?_
  exact Ext.refl _ _

theorem State.redRelease_ext (a0 : State) :
    Ext [.rst, .regs, .hlk, .cores, .mem, .red, .ras, .free] a0 (@State.redRelease a0) := by
  unfold Sys2Proof.Machine.State.redRelease
  refine foldl_all (P := fun x => Ext _ _ x) ?_ ?_
  refine Ext.step (State.setRed_ext ..) rfl ?_
  exact Ext.refl _ _
  intro _
  intro _
  intro _
  (dsimp only; split)
  refine Ext.step (State.redApply_ext ..) rfl ?_
  with_reducible assumption
  refine Ext.step (State.setRed_ext ..) rfl ?_
  with_reducible assumption
  refine Ext.step (State.bump_ext ..) rfl ?_
  with_reducible assumption

theorem execRedC_ext (a0 : ℕ) (a1 : Pkt) (a2 : State) :
    HAll (fun x => Ext [.rst, .regs, .hlk, .cores, .mem, .fab, .red, .ras, .free] a2 x) (@execRedC a0 a1 a2) := by
  unfold Sys2Proof.Machine.execRedC
  refine HAll.next ?_
  refine Ext.ite ?_ ?_
  unfold Sys2Proof.Machine.State.arrive
  refine Ext.ite ?_ ?_
  exact Ext.refl _ _
  refine Ext.ite ?_ ?_
  refine Ext.ite ?_ ?_
  refine Ext.step (State.answer_ext ..) rfl ?_
  refine Ext.step (State.bump_ext ..) rfl ?_
  exact Ext.refl _ _
  split
  refine Ext.step (State.emit_ext ..) rfl ?_
  refine Ext.step (State.bump_ext ..) rfl ?_
  refine Ext.ofPair ?_ ‹_›
  refine Ext.step (State.route_ext ..) rfl ?_
  refine Ext.step (State.bump_ext ..) rfl ?_
  exact Ext.refl _ _
  refine Ext.step (State.answer_ext ..) rfl ?_
  refine Ext.ofPair ?_ ‹_›
  refine Ext.step (State.route_ext ..) rfl ?_
  refine Ext.step (State.bump_ext ..) rfl ?_
  exact Ext.refl _ _
  refine Ext.ite ?_ ?_
  refine Ext.ite ?_ ?_
  refine Ext.step (State.answer_ext ..) rfl ?_
  refine Ext.step (State.bump_ext ..) rfl ?_
  refine Ext.step (State.bump_ext ..) rfl ?_
  exact Ext.refl _ _
  refine Ext.ite ?_ ?_
  refine Ext.step (State.answer_ext ..) rfl ?_
  refine Ext.step (State.bump_ext ..) rfl ?_
  exact Ext.refl _ _
  refine Ext.step (State.redArrive_ext ..) rfl ?_
  refine Ext.step (State.dupAdd_ext ..) rfl ?_
  refine Ext.step (State.bump_ext ..) rfl ?_
  exact Ext.refl _ _
  refine Ext.step (State.redArrive_ext ..) rfl ?_
  refine Ext.step (State.dupAdd_ext ..) rfl ?_
  refine Ext.step (State.bump_ext ..) rfl ?_
  exact Ext.refl _ _
  exact Ext.refl _ _

theorem State.unpark_ext (a0 : State) :
    Ext [.rst, .regs, .hlk, .cores, .sram, .sramUe, .mem, .queues, .fab, .red, .ras, .free] a0 (@State.unpark a0) := by
  unfold Sys2Proof.Machine.State.unpark
  refine foldl_all (P := fun x => Ext _ _ x) ?_ ?_
  exact Ext.refl _ _
  intro _
  intro _
  intro _
  refine foldl_all (P := fun x => Ext _ _ x) ?_ ?_
  with_reducible assumption
  intro _
  intro _
  intro _
  refine Ext.ite ?_ ?_
  split
  refine Ext.step (State.setParked_ext ..) rfl ?_
  with_reducible assumption
  split
  refine Ext.step (State.bump_ext ..) rfl ?_
  refine Ext.step (State.answer_ext ..) rfl ?_
  refine Ext.step (State.setParked_ext ..) rfl ?_
  refine Ext.ofE ?_ ‹_›
  refine EAll.step (State.updWrite_ext ..) rfl ?_
  with_reducible assumption
  refine Ext.step (State.answer_ext ..) rfl ?_
  refine Ext.step (State.setParked_ext ..) rfl ?_
  with_reducible assumption
  with_reducible assumption
  split
  refine Ext.step (State.setParked_ext ..) rfl ?_
  refine Ext.ofO ?_ ‹_›
  refine OAll.step (State.importDo_ext ..) rfl ?_
  with_reducible assumption
  with_reducible assumption

theorem execRedPush_ext (a0 : ℕ) (a1 : State) :
    HAll (fun x => Ext [.rst, .regs, .hlk, .launches, .cores, .shoals, .sram, .sramUe, .mem, .queues, .act, .shl, .red, .ras, .free] a1 x) (@execRedPush a0 a1) := by
  unfold Sys2Proof.Machine.execRedPush
  refine HAll.next ?_
  unfold Sys2Proof.Machine.State.startIf
  split
  refine Ext.ite ?_ ?_
  unfold Sys2Proof.Machine.State.startOp
  refine Ext.ite ?_ ?_
  split
  refine Ext.step (State.launchEnd_ext ..) rfl ?_
  exact Ext.refl _ _
  refine Ext.step (State.poisonTail_ext ..) rfl ?_
  exact Ext.refl _ _
  refine Ext.ite ?_ ?_
  refine Ext.step (State.poisonTail_ext ..) rfl ?_
  exact Ext.refl _ _
  refine Ext.ite ?_ ?_
  refine Ext.step (State.modOp_ext ..) rfl ?_
  exact Ext.refl _ _
  refine Ext.step (State.beginPlain_ext ..) rfl ?_
  refine Ext.step (State.modOp_ext ..) rfl ?_
  exact Ext.refl _ _
  exact Ext.refl _ _
  exact Ext.refl _ _

theorem execRedNodeSend_ext (a0 : ℕ) (a1 : ℕ) (a2 : ℕ) (a3 : Check) (a4 : State) :
    HAll (fun x => Ext [.rst, .regs, .hlk, .cores, .mem, .fab, .red, .ras, .free] a4 x) (@execRedNodeSend a0 a1 a2 a3 a4) := by
  unfold Sys2Proof.Machine.execRedNodeSend
  refine HAll.next ?_
  refine Ext.ite ?_ ?_
  refine Ext.ite ?_ ?_
  refine Ext.step (State.detected_ext ..) rfl ?_
  refine Ext.step (State.setRed_ext ..) rfl ?_
  exact Ext.refl _ _
  exact Ext.refl _ _
  refine OAll.getD (P := fun x => Ext _ _ x) ?_ ?_
  refine OAll.step (State.nodeSend_ext ..) rfl ?_
  exact Ext.refl _ _
  exact Ext.refl _ _

theorem execRed_ext (a0 : ℕ) (a1 : Pkt) (a2 : State) :
    HAll (fun x => Ext [.rst, .regs, .hlk, .cores, .mem, .fab, .red, .ras, .free] a2 x) (@execRed a0 a1 a2) := by
  unfold Sys2Proof.Machine.execRed
  refine HAll.next ?_
  refine Ext.ite ?_ ?_
  unfold Sys2Proof.Machine.State.arrive
  refine Ext.ite ?_ ?_
  exact Ext.refl _ _
  refine Ext.ite ?_ ?_
  refine Ext.ite ?_ ?_
  refine Ext.step (State.answer_ext ..) rfl ?_
  refine Ext.step (State.bump_ext ..) rfl ?_
  exact Ext.refl _ _
  split
  refine Ext.step (State.emit_ext ..) rfl ?_
  refine Ext.step (State.bump_ext ..) rfl ?_
  refine Ext.ofPair ?_ ‹_›
  refine Ext.step (State.route_ext ..) rfl ?_
  refine Ext.step (State.bump_ext ..) rfl ?_
  exact Ext.refl _ _
  refine Ext.step (State.answer_ext ..) rfl ?_
  refine Ext.ofPair ?_ ‹_›
  refine Ext.step (State.route_ext ..) rfl ?_
  refine Ext.step (State.bump_ext ..) rfl ?_
  exact Ext.refl _ _
  refine Ext.ite ?_ ?_
  refine Ext.ite ?_ ?_
  refine Ext.step (State.answer_ext ..) rfl ?_
  refine Ext.step (State.bump_ext ..) rfl ?_
  refine Ext.step (State.bump_ext ..) rfl ?_
  exact Ext.refl _ _
  refine Ext.ite ?_ ?_
  refine Ext.step (State.answer_ext ..) rfl ?_
  refine Ext.step (State.bump_ext ..) rfl ?_
  exact Ext.refl _ _
  refine Ext.step (State.redArrive_ext ..) rfl ?_
  refine Ext.step (State.dupAdd_ext ..) rfl ?_
  refine Ext.step (State.bump_ext ..) rfl ?_
  exact Ext.refl _ _
  refine Ext.step (State.redArrive_ext ..) rfl ?_
  refine Ext.step (State.dupAdd_ext ..) rfl ?_
  refine Ext.step (State.bump_ext ..) rfl ?_
  exact Ext.refl _ _
  exact Ext.refl _ _

theorem State.pushArrive_ext (a0 : State) (a1 : ℕ) (a2 : Pkt) :
    Ext [.rst, .regs, .hlk, .cores, .mem, .fab, .red, .ras, .free] a0 (@State.pushArrive a0 a1 a2) := by
  unfold Sys2Proof.Machine.State.pushArrive
  refine Ext.ite ?_ ?_
  refine Ext.step (State.redArrive_ext ..) rfl ?_
  exact Ext.refl _ _
  (dsimp only; split)
  refine Ext.step (State.answer_ext ..) rfl ?_
  refine Ext.step (State.raise_ext ..) rfl ?_
  exact Ext.refl _ _
  refine Ext.ite ?_ ?_
  refine Ext.step (State.answer_ext ..) rfl ?_
  refine Ext.step (State.raise_ext ..) rfl ?_
  exact Ext.refl _ _
  split
  refine Ext.step (State.bump_ext ..) rfl ?_
  refine Ext.step (State.answer_ext ..) rfl ?_
  refine Ext.ofE ?_ ‹_›
  refine EAll.step (State.updWrite_ext ..) rfl ?_
  exact Ext.refl _ _
  refine Ext.step (State.answer_ext ..) rfl ?_
  exact Ext.refl _ _
  refine Ext.ite ?_ ?_
  exact Ext.refl _ _
  refine Ext.step (State.answer_ext ..) rfl ?_
  refine Ext.step (State.setParked_ext ..) rfl ?_
  exact Ext.refl _ _

end Sys2Proof.Machine
end

