-- ==== Sys2Proof/Laws/FrameThreads.lean ====
section
/-! SUPPORT. What each definition of Machine/Threads.lean may change: every part that its lemma does not name stays, and memory keeps
its canonical form. -/

set_option maxRecDepth 4000

namespace Sys2Proof.Machine

theorem State.clearSlot_ext (a0 : State) (a1 : ℕ) (a2 : ℕ) :
    Ext [.gpr, .preds, .lflags] a0 (@State.clearSlot a0 a1 a2) := by
  unfold Sys2Proof.Machine.State.clearSlot
  refine Ext.step (Ext.set_gpr_preds_lflags ..) rfl ?_
  exact Ext.refl _ _

theorem State.setReg_ext (a0 : State) (a1 : ℕ) (a2 : ℕ) (a3 : ℕ) (a4 : ℕ) (a5 : W32) :
    Ext [.gpr] a0 (@State.setReg a0 a1 a2 a3 a4 a5) := by
  unfold Sys2Proof.Machine.State.setReg
  refine Ext.step (Ext.set_gpr ..) rfl ?_
  exact Ext.refl _ _

theorem State.startShoal_ext (a0 : State) (a1 : ℕ) (a2 : ℕ) (a3 : Shoal) (a4 : ℕ → List (ℕ × ℕ)) :
    Ext [.shoals, .gpr, .preds, .lflags] a0 (@State.startShoal a0 a1 a2 a3 a4) := by
  unfold Sys2Proof.Machine.State.startShoal
  refine foldl_all (P := fun x => Ext _ _ x) ?_ ?_
  refine Ext.step (State.setShoal_ext ..) rfl ?_
  refine Ext.step (State.clearSlot_ext ..) rfl ?_
  exact Ext.refl _ _
  intro _
  intro _
  intro _
  refine Ext.ite ?_ ?_
  with_reducible assumption
  refine foldl_all (P := fun x => Ext _ _ x) ?_ ?_
  with_reducible assumption
  intro _
  intro _
  intro _
  refine Ext.step (State.setReg_ext ..) rfl ?_
  with_reducible assumption

end Sys2Proof.Machine
end

