-- ==== Sys2Proof/Laws/FrameUpdate.lean ====
section
/-! SUPPORT. What each definition of Machine/Update.lean may change: every part that its lemma does not name stays, and memory keeps
its canonical form. -/

set_option maxRecDepth 4000

namespace Sys2Proof.Machine

theorem State.addLw_ext (a0 : State) (a1 : ℕ) (a2 : Dy × Dy × ℕ × ℕ) :
    Ext [.red] a0 (@State.addLw a0 a1 a2) := by
  unfold Sys2Proof.Machine.State.addLw
  refine Ext.step (State.setRed_ext ..) rfl ?_
  exact Ext.refl _ _

theorem State.startRows_ext (a0 : ℕ) (a1 : Tensor) (a2 : UnitSlab) (a3 : BitVec 16) (a4 : ℕ) (a5 : ℕ) (a6 : ℕ) (a7 : State) :
    OAll (fun x => Ext [.shoals, .gpr, .preds, .lflags] a7 x) (@State.startRows a0 a1 a2 a3 a4 a5 a6 a7) := by
  induction a6 generalizing a0 a1 a2 a3 a4 a5 a7 with
  | zero =>
    unfold Sys2Proof.Machine.State.startRows
    refine OAll.some ?_
    exact Ext.refl _ _
  | succ k ih =>
    unfold Sys2Proof.Machine.State.startRows
    refine OAll.bindE (g := fun x => x) ?_ ?_
    refine OAll.step (ih _ _ _ _ _ _ _) rfl ?_
    exact Ext.refl _ _
    intro _
    intro _
    refine OAll.ite ?_ ?_
    refine OAll.some ?_
    with_reducible assumption
    refine OAll.map (OAll.triv _) ?_
    intro _
    intro _
    refine foldl_all (P := fun x => Ext _ _ x) ?_ ?_
    with_reducible assumption
    intro _
    intro _
    intro _
    refine Ext.ite ?_ ?_
    with_reducible assumption
    refine Ext.step (State.startShoal_ext ..) rfl ?_
    with_reducible assumption

theorem State.orUpdWord_ext (a0 : State) (a1 : ℕ) (a2 : ℕ) :
    Ext [.regs] a0 (@State.orUpdWord a0 a1 a2) := by
  unfold Sys2Proof.Machine.State.orUpdWord
  refine Ext.step (State.p_ext ..) rfl ?_
  exact Ext.refl _ _

theorem State.unitFree_ext (a0 : State) (a1 : ℕ) :
    Ext [.regs, .shoals, .red] a0 (@State.unitFree a0 a1) := by
  unfold Sys2Proof.Machine.State.unitFree
  refine Ext.step (State.unitRegs_ext ..) rfl ?_
  refine Ext.step (State.setUnit_ext ..) rfl ?_
  refine foldl_all (P := fun x => Ext _ _ x) ?_ ?_
  exact Ext.refl _ _
  intro _
  intro _
  intro _
  refine Ext.step (State.setShoal_ext ..) rfl ?_
  with_reducible assumption

theorem State.stagedMark_ext (a0 : State) (a1 : UnitSlab) :
    Ext [.red] a0 (@State.stagedMark a0 a1) := by
  unfold Sys2Proof.Machine.State.stagedMark
  refine Ext.step (State.setRed_ext ..) rfl ?_
  exact Ext.refl _ _

theorem State.unitFail_ext (a0 : State) (a1 : ℕ) (a2 : ℕ) (a3 : ℕ) :
    Ext [.rst, .regs, .hlk, .cores, .shoals, .mem, .red, .ras, .free] a0 (@State.unitFail a0 a1 a2 a3) := by
  unfold Sys2Proof.Machine.State.unitFail
  (dsimp only; split)
  exact Ext.refl _ _
  refine Ext.step (State.unitFree_ext ..) rfl ?_
  refine Ext.step (State.bump_ext ..) rfl ?_
  refine Ext.step (State.stagedMark_ext ..) rfl ?_
  refine Ext.step (State.raise_ext ..) rfl ?_
  refine Ext.step (State.p_ext ..) rfl ?_
  refine Ext.step (State.orUpdWord_ext ..) rfl ?_
  split
  refine foldl_all (P := fun x => Ext _ _ x) ?_ ?_
  exact Ext.refl _ _
  intro _
  intro _
  intro _
  refine Ext.step (State.vput_ext ..) rfl ?_
  refine Ext.step (State.freeBytes_ext ..) rfl ?_
  with_reducible assumption
  exact Ext.refl _ _

theorem State.vgetAll_ext (a0 : ℕ) (a1 : List (ℕ × ℕ)) (a2 : State) :
    OAll (fun x => Ext [.regs, .hlk, .mem] a2 x.2) (@State.vgetAll a0 a1 a2) := by
  induction a1 generalizing a0 a2 with
  | nil =>
    unfold Sys2Proof.Machine.State.vgetAll
    refine OAll.some ?_
    refine Ext.at2 ?_
    exact Ext.refl _ _
  | cons x l ih =>
    unfold Sys2Proof.Machine.State.vgetAll
    refine OAll.bindE (g := fun x => x.2) ?_ ?_
    refine OAll.step (State.vget_ext ..) rfl ?_
    exact Ext.refl _ _
    intro _
    intro _
    refine OAll.mapE (g := fun x => x.2) ?_ ?_
    refine OAll.step (ih _ _) rfl ?_
    with_reducible assumption
    intro _
    intro _
    refine Ext.at2 ?_
    with_reducible assumption

theorem State.slabBegin_ext (a0 : State) (a1 : ℕ) (a2 : Tensor) (a3 : Shard) (a4 : UnitSlab) :
    OAll (fun x => Ext [.rst, .regs, .hlk, .cores, .shoals, .gpr, .preds, .lflags, .sram, .sramUe, .mem, .red, .ras, .free] a0 x) (@State.slabBegin a0 a1 a2 a3 a4) := by
  unfold Sys2Proof.Machine.State.slabBegin
  refine OAll.ite ?_ ?_
  refine OAll.some ?_
  refine Ext.step (State.detected_ext ..) rfl ?_
  refine Ext.step (State.unitFail_ext ..) rfl ?_
  exact Ext.refl _ _
  (dsimp only; split)
  refine OAll.some ?_
  refine Ext.step (State.unitFail_ext ..) rfl ?_
  exact Ext.refl _ _
  refine OAll.bind (OAll.triv _) ?_
  intro _
  intro _
  refine OAll.bindE (g := fun x => x.2) ?_ ?_
  refine OAll.step (State.vgetAll_ext ..) rfl ?_
  exact Ext.refl _ _
  intro _
  intro _
  refine OAll.step (State.startRows_ext ..) rfl ?_
  refine Ext.step (State.setUnit_ext ..) rfl ?_
  refine Ext.step (State.srWrite_ext ..) rfl ?_
  refine foldl_all (P := fun x => Ext _ _ x) ?_ ?_
  refine Ext.step (State.srWrite_ext ..) rfl ?_
  with_reducible assumption
  intro _
  intro _
  intro _
  refine Ext.step (State.srWrite_ext ..) rfl ?_
  with_reducible assumption

theorem State.shardCrc_ext (a0 : State) (a1 : Tensor) (a2 : Shard) (a3 : ℕ) (a4 : ℕ) :
    Ext [.rst, .regs, .hlk, .cores, .mem, .ras, .free] a0 (@State.shardCrc a0 a1 a2 a3 a4) := by
  unfold Sys2Proof.Machine.State.shardCrc
  refine Ext.ite ?_ ?_
  exact Ext.refl _ _
  (dsimp only; split)
  refine Ext.step (State.vput_ext ..) rfl ?_
  refine VAll.of_ok (P := fun x => Ext _ _ x) ?_ ‹_›
  refine VAll.step (State.vread_ext ..) rfl ?_
  exact Ext.refl _ _
  exact Ext.refl _ _

theorem State.pushSlab_ext (a0 : State) (a1 : Tensor) (a2 : UnitSlab) (a3 : Bytes) :
    OAll (fun x => Ext [.regs, .hlk, .mem, .fab] a0 x) (@State.pushSlab a0 a1 a2 a3) := by
  unfold Sys2Proof.Machine.State.pushSlab
  refine OAll.ite ?_ ?_
  refine OAll.some ?_
  exact Ext.refl _ _
  split
  refine OAll.none ?_
  refine foldl_all (P := fun x => OAll (fun x => Ext _ _ x) x) ?_ ?_
  refine OAll.some ?_
  exact Ext.refl _ _
  intro _
  intro _
  intro _
  refine OAll.bindE (g := fun x => x) ?_ ?_
  with_reducible assumption
  intro _
  intro _
  refine OAll.ite ?_ ?_
  refine OAll.some ?_
  with_reducible assumption
  split
  refine OAll.none ?_
  refine OAll.step (State.redSend_ext ..) rfl ?_
  with_reducible assumption

theorem State.slabStaged_ext (a0 : State) (a1 : ℕ) (a2 : Tensor) (a3 : Shard) (a4 : UnitSlab) (a5 : List Bytes) :
    OAll (fun x => Ext [.rst, .regs, .hlk, .cores, .shoals, .mem, .fab, .red, .ras, .free] a0 x) (@State.slabStaged a0 a1 a2 a3 a4 a5) := by
  unfold Sys2Proof.Machine.State.slabStaged
  refine OAll.mapE (g := fun x => x) ?_ ?_
  refine OAll.ite ?_ ?_
  refine OAll.step (State.pushSlab_ext ..) rfl ?_
  exact Ext.refl _ _
  refine OAll.some ?_
  exact Ext.refl _ _
  intro _
  intro _
  refine Ext.step (State.unitFree_ext ..) rfl ?_
  refine Ext.step (State.bump_ext ..) rfl ?_
  refine Ext.step (State.shardCrc_ext ..) rfl ?_
  refine Ext.step (State.stagedMark_ext ..) rfl ?_
  with_reducible assumption

theorem State.slabEnd_ext (a0 : State) (a1 : ℕ) (a2 : Tensor) (a3 : Shard) (a4 : UnitSlab) :
    OAll (fun x => Ext [.rst, .regs, .hlk, .cores, .shoals, .mem, .fab, .red, .ras, .free] a0 x) (@State.slabEnd a0 a1 a2 a3 a4) := by
  unfold Sys2Proof.Machine.State.slabEnd
  refine OAll.bindE (g := fun x => x.2) ?_ ?_
  refine OAll.step (State.vgetAll_ext ..) rfl ?_
  exact Ext.refl _ _
  intro _
  intro _
  refine OAll.bind (OAll.triv _) ?_
  intro _
  intro _
  (dsimp only; split)
  refine OAll.none ?_
  refine OAll.mapE (g := fun x => x) ?_ ?_
  refine OAll.step (State.slabStaged_ext ..) rfl ?_
  refine Ext.ite ?_ ?_
  refine Ext.step (State.addLw_ext ..) rfl ?_
  refine Ext.ofE ?_ ‹_›
  refine EAll.step (State.vputAll_ext ..) rfl ?_
  with_reducible assumption
  refine Ext.ofE ?_ ‹_›
  refine EAll.step (State.vputAll_ext ..) rfl ?_
  with_reducible assumption
  intro _
  intro _
  refine Ext.step (State.bump_ext ..) rfl ?_
  refine Ext.step (State.bump_ext ..) rfl ?_
  with_reducible assumption

theorem execUpdateSlabDone_ext (a0 : Bool) (a1 : ℕ) (a2 : State) :
    HAll (fun x => Ext [.rst, .regs, .hlk, .cores, .shoals, .mem, .fab, .red, .ras, .free] a2 x) (@execUpdateSlabDone a0 a1 a2) := by
  unfold Sys2Proof.Machine.execUpdateSlabDone
  refine HAll.next ?_
  (dsimp only; split)
  exact Ext.refl _ _
  refine Ext.ite ?_ ?_
  split
  refine OAll.getD (P := fun x => Ext _ _ x) ?_ ?_
  refine OAll.step (State.slabEnd_ext ..) rfl ?_
  exact Ext.refl _ _
  exact Ext.refl _ _
  exact Ext.refl _ _
  exact Ext.refl _ _

theorem State.unitFault_ext (a0 : State) (a1 : ℕ) (a2 : ℕ) :
    Ext [.rst, .regs, .hlk, .cores, .shoals, .mem, .red, .ras, .free] a0 (@State.unitFault a0 a1 a2) := by
  unfold Sys2Proof.Machine.State.unitFault
  refine Ext.ite ?_ ?_
  refine Ext.step (State.detected_ext ..) rfl ?_
  refine Ext.step (State.unitFail_ext ..) rfl ?_
  exact Ext.refl _ _
  refine Ext.step (State.unitFail_ext ..) rfl ?_
  exact Ext.refl _ _

theorem State.slabNf_ext (a0 : State) (a1 : ℕ) (a2 : Tensor) (a3 : Shard) (a4 : UnitSlab) :
    OAll (fun x => Ext [.rst, .regs, .hlk, .cores, .shoals, .mem, .fab, .red, .ras, .free] a0 x) (@State.slabNf a0 a1 a2 a3 a4) := by
  unfold Sys2Proof.Machine.State.slabNf
  refine OAll.bindE (g := fun x => x.2) ?_ ?_
  refine OAll.step (State.vgetAll_ext ..) rfl ?_
  exact Ext.refl _ _
  intro _
  intro _
  refine OAll.bind (OAll.triv _) ?_
  intro _
  intro _
  (dsimp only; split)
  refine OAll.mapE (g := fun x => x) ?_ ?_
  refine OAll.step (State.slabStaged_ext ..) rfl ?_
  refine Ext.step (State.orUpdWord_ext ..) rfl ?_
  refine Ext.ofE ?_ ‹_›
  refine EAll.step (State.vputAll_ext ..) rfl ?_
  with_reducible assumption
  intro _
  intro _
  refine Ext.step (State.bump_ext ..) rfl ?_
  with_reducible assumption
  refine OAll.none ?_

theorem execUpdateKernelTimeout_ext (a0 : Bool) (a1 : ℕ) (a2 : State) :
    HAll (fun x => Ext [.rst, .regs, .hlk, .cores, .shoals, .mem, .red, .ras, .free] a2 x) (@execUpdateKernelTimeout a0 a1 a2) := by
  unfold Sys2Proof.Machine.execUpdateKernelTimeout
  refine HAll.next ?_
  refine Ext.ite ?_ ?_
  refine Ext.step (State.unitFail_ext ..) rfl ?_
  exact Ext.refl _ _
  exact Ext.refl _ _

theorem execUpdateSlabStart_ext (a0 : Bool) (a1 : ℕ) (a2 : State) :
    HAll (fun x => Ext [.rst, .regs, .hlk, .cores, .shoals, .gpr, .preds, .lflags, .sram, .sramUe, .mem, .fab, .red, .ras, .free] a2 x) (@execUpdateSlabStart a0 a1 a2) := by
  unfold Sys2Proof.Machine.execUpdateSlabStart
  refine HAll.next ?_
  refine Ext.ite ?_ ?_
  (dsimp only; split)
  exact Ext.refl _ _
  split
  split
  refine Ext.step (State.unitRegs_ext ..) rfl ?_
  refine Ext.ofO ?_ ‹_›
  refine OAll.ite ?_ ?_
  refine OAll.step (State.slabNf_ext ..) rfl ?_
  refine Ext.step (State.setUnit_ext ..) rfl ?_
  refine Ext.step (State.setRed_ext ..) rfl ?_
  exact Ext.refl _ _
  refine OAll.step (State.slabBegin_ext ..) rfl ?_
  refine Ext.step (State.setUnit_ext ..) rfl ?_
  refine Ext.step (State.setRed_ext ..) rfl ?_
  exact Ext.refl _ _
  exact Ext.refl _ _
  exact Ext.refl _ _
  exact Ext.refl _ _

end Sys2Proof.Machine
end

