-- ==== Sys2Proof/Laws/FrameFlags.lean ====
section
/-! SUPPORT. What each definition of Machine/Flags.lean may change: every part that its lemma does not name stays, and memory keeps
its canonical form. -/

set_option maxRecDepth 4000

namespace Sys2Proof.Machine

theorem State.setPred_ext (a0 : State) (a1 : ℕ) (a2 : ℕ) (a3 : ℕ) (a4 : ℕ) (a5 : Bool) :
    Ext [.preds] a0 (@State.setPred a0 a1 a2 a3 a4 a5) := by
  unfold Sys2Proof.Machine.State.setPred
  refine Ext.ite ?_ ?_
  exact Ext.refl _ _
  refine Ext.step (Ext.set_preds ..) rfl ?_
  exact Ext.refl _ _

theorem State.setLaneFlags_ext (a0 : State) (a1 : ℕ) (a2 : ℕ) (a3 : ℕ) (a4 : BitVec 4) :
    Ext [.lflags] a0 (@State.setLaneFlags a0 a1 a2 a3 a4) := by
  unfold Sys2Proof.Machine.State.setLaneFlags
  refine Ext.step (Ext.set_lflags ..) rfl ?_
  exact Ext.refl _ _

theorem State.applyLane_ext (a0 : State) (a1 : Thr) (a2 : ℕ) (a3 : LaneW) :
    Ext [.gpr, .preds, .lflags] a0 (@State.applyLane a0 a1 a2 a3) := by
  unfold Sys2Proof.Machine.State.applyLane
  refine Ext.ite ?_ ?_
  split
  refine Ext.step (State.setPred_ext ..) rfl ?_
  refine foldl_all (P := fun x => Ext _ _ x) ?_ ?_
  exact Ext.refl _ _
  intro _
  intro _
  intro _
  refine Ext.step (State.setReg_ext ..) rfl ?_
  with_reducible assumption
  refine foldl_all (P := fun x => Ext _ _ x) ?_ ?_
  exact Ext.refl _ _
  intro _
  intro _
  intro _
  refine Ext.step (State.setReg_ext ..) rfl ?_
  with_reducible assumption
  refine Ext.step (State.setLaneFlags_ext ..) rfl ?_
  split
  refine Ext.step (State.setPred_ext ..) rfl ?_
  refine foldl_all (P := fun x => Ext _ _ x) ?_ ?_
  exact Ext.refl _ _
  intro _
  intro _
  intro _
  refine Ext.step (State.setReg_ext ..) rfl ?_
  with_reducible assumption
  refine foldl_all (P := fun x => Ext _ _ x) ?_ ?_
  exact Ext.refl _ _
  intro _
  intro _
  intro _
  refine Ext.step (State.setReg_ext ..) rfl ?_
  with_reducible assumption

theorem State.thrFaultAt_ext (a0 : State) (a1 : Thr) (a2 : ℕ) (a3 : ℕ) :
    Ext [.rst, .regs, .hlk, .launches, .cores, .shoals, .sram, .sramUe, .mem, .queues, .act, .shl, .red, .ras, .free] a0 (@State.thrFaultAt a0 a1 a2 a3) := by
  unfold Sys2Proof.Machine.State.thrFaultAt
  refine Ext.ite ?_ ?_
  refine Ext.step (State.threadFault_ext ..) rfl ?_
  refine Ext.ite ?_ ?_
  refine Ext.step (State.detected_ext ..) rfl ?_
  exact Ext.refl _ _
  exact Ext.refl _ _
  refine Ext.step (State.unitFault_ext ..) rfl ?_
  exact Ext.refl _ _

theorem State.thrFault_ext (a0 : State) (a1 : Thr) (a2 : ℕ) :
    Ext [.rst, .regs, .hlk, .launches, .cores, .shoals, .sram, .sramUe, .mem, .queues, .act, .shl, .red, .ras, .free] a0 (@State.thrFault a0 a1 a2) := by
  unfold Sys2Proof.Machine.State.thrFault
  refine Ext.step (State.thrFaultAt_ext ..) rfl ?_
  exact Ext.refl _ _

theorem State.goto_ext (a0 : State) (a1 : Thr) (a2 : ℤ) :
    Ext [.rst, .regs, .hlk, .launches, .cores, .shoals, .sram, .sramUe, .mem, .queues, .act, .shl, .red, .ras, .free] a0 (@State.goto a0 a1 a2) := by
  unfold Sys2Proof.Machine.State.goto
  split
  refine Ext.ite ?_ ?_
  refine Ext.step (State.setShoal_ext ..) rfl ?_
  exact Ext.refl _ _
  refine Ext.step (State.thrFault_ext ..) rfl ?_
  exact Ext.refl _ _
  exact Ext.refl _ _

theorem State.gatherFlags_ext (a0 : State) (a1 : Thr) (a2 : ℕ) (a3 : ℕ) :
    Ext [.regs, .hlk, .shoals] a0 (@State.gatherFlags a0 a1 a2 a3) := by
  unfold Sys2Proof.Machine.State.gatherFlags
  refine Ext.ite ?_ ?_
  exact Ext.refl _ _
  refine Ext.ite ?_ ?_
  refine Ext.step (State.bump_ext ..) rfl ?_
  refine Ext.step (State.orLaunchWord_ext ..) rfl ?_
  split
  refine Ext.step (State.setShoal_ext ..) rfl ?_
  exact Ext.refl _ _
  exact Ext.refl _ _
  refine Ext.step (State.orUpdWord_ext ..) rfl ?_
  split
  refine Ext.step (State.setShoal_ext ..) rfl ?_
  exact Ext.refl _ _
  exact Ext.refl _ _

theorem State.applyLanes_ext (a0 : State) (a1 : Thr) (a2 : List (ℕ × LaneW)) :
    Ext [.regs, .hlk, .shoals, .gpr, .preds, .lflags] a0 (@State.applyLanes a0 a1 a2) := by
  unfold Sys2Proof.Machine.State.applyLanes
  refine Ext.step (State.gatherFlags_ext ..) rfl ?_
  refine foldl_all (P := fun x => Ext _ _ x) ?_ ?_
  exact Ext.refl _ _
  intro _
  intro _
  intro _
  refine Ext.step (State.applyLane_ext ..) rfl ?_
  with_reducible assumption

theorem State.nextPc_ext (a0 : State) (a1 : Thr) :
    Ext [.rst, .regs, .hlk, .launches, .cores, .shoals, .sram, .sramUe, .mem, .queues, .act, .shl, .red, .ras, .free] a0 (@State.nextPc a0 a1) := by
  unfold Sys2Proof.Machine.State.nextPc
  refine Ext.step (State.goto_ext ..) rfl ?_
  exact Ext.refl _ _

theorem State.waitPc_ext (a0 : State) (a1 : Thr) (a2 : Wait) :
    Ext [.shoals] a0 (@State.waitPc a0 a1 a2) := by
  unfold Sys2Proof.Machine.State.waitPc
  split
  refine Ext.step (State.setShoal_ext ..) rfl ?_
  exact Ext.refl _ _
  exact Ext.refl _ _

theorem State.regionFault_ext (a0 : State) (a1 : Thr) (a2 : ℕ) :
    Ext [.rst, .regs, .hlk, .launches, .cores, .shoals, .sram, .sramUe, .mem, .queues, .act, .shl, .red, .ras, .free] a0 (@State.regionFault a0 a1 a2) := by
  unfold Sys2Proof.Machine.State.regionFault
  refine Ext.ite ?_ ?_
  refine Ext.step (State.launchEnd_ext ..) rfl ?_
  exact Ext.refl _ _
  refine Ext.step (State.unitFault_ext ..) rfl ?_
  exact Ext.refl _ _

end Sys2Proof.Machine
end

