-- ==== Sys2Proof/Laws/FrameSeptoon.lean ====
section
/-! SUPPORT. What each definition of Machine/Septoon.lean may change: every part that its lemma does not name stays, and memory keeps
its canonical form. -/

set_option maxRecDepth 4000

namespace Sys2Proof.Machine

theorem State.countIssue_ext (a0 : State) (a1 : Thr) :
    Ext [.regs, .hlk, .cores] a0 (@State.countIssue a0 a1) := by
  unfold Sys2Proof.Machine.State.countIssue
  refine Ext.ite ?_ ?_
  refine Ext.step (State.bump_ext ..) rfl ?_
  refine Ext.step (State.setCore_ext ..) rfl ?_
  exact Ext.refl _ _
  exact Ext.refl _ _

theorem State.intR_ext (a0 : State) (a1 : ℕ) (a2 : ℕ) (a3 : Check) (a4 : ℕ) :
    Ext [.rst, .regs, .hlk, .launches, .cores, .shoals, .gpr, .preds, .lflags, .sram, .sramUe, .mem, .queues, .act, .shl, .red, .ras, .free] a0 (@State.intR a0 a1 a2 a3 a4) := by
  unfold Sys2Proof.Machine.State.intR
  unfold Sys2Proof.Machine.State.laneOp
  unfold Sys2Proof.Machine.State.issueWord
  split
  exact Ext.refl _ _
  refine Ext.ite ?_ ?_
  split
  refine Ext.step (State.thrFault_ext ..) rfl ?_
  refine Ext.step (State.countIssue_ext ..) rfl ?_
  exact Ext.refl _ _
  refine OAll.getD (P := fun x => Ext _ _ x) ?_ ?_
  refine OAll.some ?_
  refine Ext.step (State.nextPc_ext ..) rfl ?_
  refine Ext.step (State.applyLanes_ext ..) rfl ?_
  refine Ext.step (State.countIssue_ext ..) rfl ?_
  exact Ext.refl _ _
  exact Ext.refl _ _
  exact Ext.refl _ _

theorem execImin_ext (a0 : ℕ) (a1 : ℕ) (a2 : Check) (a3 : State) :
    HAll (fun x => Ext [.rst, .regs, .hlk, .launches, .cores, .shoals, .gpr, .preds, .lflags, .sram, .sramUe, .mem, .queues, .act, .shl, .red, .ras, .free] a3 x) (@execImin a0 a1 a2 a3) := by
  unfold Sys2Proof.Machine.execImin
  refine HAll.next ?_
  refine Ext.step (State.intR_ext ..) rfl ?_
  exact Ext.refl _ _

theorem execShflx_ext (a0 : ℕ) (a1 : ℕ) (a2 : Check) (a3 : State) :
    HAll (fun x => Ext [.rst, .regs, .hlk, .launches, .cores, .shoals, .gpr, .preds, .lflags, .sram, .sramUe, .mem, .queues, .act, .shl, .red, .ras, .free] a3 x) (@execShflx a0 a1 a2 a3) := by
  unfold Sys2Proof.Machine.execShflx
  refine HAll.next ?_
  unfold Sys2Proof.Machine.State.laneOp
  unfold Sys2Proof.Machine.State.issueWord
  split
  exact Ext.refl _ _
  refine Ext.ite ?_ ?_
  split
  refine Ext.step (State.thrFault_ext ..) rfl ?_
  refine Ext.step (State.countIssue_ext ..) rfl ?_
  exact Ext.refl _ _
  refine OAll.getD (P := fun x => Ext _ _ x) ?_ ?_
  refine OAll.some ?_
  refine Ext.step (State.nextPc_ext ..) rfl ?_
  refine Ext.step (State.applyLanes_ext ..) rfl ?_
  refine Ext.step (State.countIssue_ext ..) rfl ?_
  exact Ext.refl _ _
  exact Ext.refl _ _
  exact Ext.refl _ _

theorem State.sqpushRun_ext (a0 : State) (a1 : Thr) (a2 : ℕ) :
    OAll (fun x => Ext [.rst, .regs, .hlk, .launches, .cores, .shoals, .sram, .sramUe, .mem, .queues, .nextOp, .act, .shl, .red, .ras, .free] a0 x) (@State.sqpushRun a0 a1 a2) := by
  unfold Sys2Proof.Machine.State.sqpushRun
  refine OAll.ite ?_ ?_
  refine OAll.none ?_
  refine OAll.ite ?_ ?_
  refine OAll.some ?_
  refine Ext.step (State.regionFault_ext ..) rfl ?_
  exact Ext.refl _ _
  refine OAll.ite ?_ ?_
  refine OAll.some ?_
  refine Ext.step (State.regionFault_ext ..) rfl ?_
  exact Ext.refl _ _
  refine OAll.some ?_
  refine Ext.step (State.nextPc_ext ..) rfl ?_
  refine Ext.step (State.setQueue_ext ..) rfl ?_
  refine Ext.step (Ext.set_nextOp ..) rfl ?_
  exact Ext.refl _ _

theorem execSqpush_ext (a0 : ℕ) (a1 : ℕ) (a2 : Check) (a3 : State) :
    HAll (fun x => Ext [.rst, .regs, .hlk, .launches, .cores, .shoals, .sram, .sramUe, .mem, .queues, .nextOp, .act, .shl, .red, .ras, .free] a3 x) (@execSqpush a0 a1 a2 a3) := by
  unfold Sys2Proof.Machine.execSqpush
  refine HAll.next ?_
  unfold Sys2Proof.Machine.State.shoalOp
  unfold Sys2Proof.Machine.State.issueWord
  split
  exact Ext.refl _ _
  refine Ext.ite ?_ ?_
  split
  refine Ext.step (State.thrFault_ext ..) rfl ?_
  refine Ext.step (State.countIssue_ext ..) rfl ?_
  exact Ext.refl _ _
  split
  refine OAll.getD (P := fun x => Ext _ _ x) ?_ ?_
  (dsimp only; split)
  refine OAll.some ?_
  refine Ext.step (State.nextPc_ext ..) rfl ?_
  refine Ext.step (State.countIssue_ext ..) rfl ?_
  exact Ext.refl _ _
  refine OAll.step (State.sqpushRun_ext ..) rfl ?_
  refine Ext.step (State.countIssue_ext ..) rfl ?_
  exact Ext.refl _ _
  exact Ext.refl _ _
  exact Ext.refl _ _
  exact Ext.refl _ _

theorem State.memFault_ext (a0 : State) (a1 : Thr) (a2 : ℕ) (a3 : List ℕ) :
    OAll (fun x => Ext [.rst, .regs, .hlk, .launches, .cores, .shoals, .sram, .sramUe, .mem, .queues, .act, .shl, .red, .ras, .free] a0 x) (@State.memFault a0 a1 a2 a3) := by
  unfold Sys2Proof.Machine.State.memFault
  refine OAll.ite ?_ ?_
  refine OAll.some ?_
  refine Ext.step (State.thrFault_ext ..) rfl ?_
  exact Ext.refl _ _
  split
  refine OAll.some ?_
  refine Ext.step (State.regionFault_ext ..) rfl ?_
  exact Ext.refl _ _
  refine OAll.none ?_

theorem State.store_ext (a0 : State) (a1 : ℕ) (a2 : ℕ) (a3 : Check) (a4 : ℕ) (a5 : ℕ) :
    Ext [.rst, .regs, .hlk, .launches, .cores, .shoals, .sram, .sramUe, .mem, .queues, .act, .shl, .red, .ras, .free] a0 (@State.store a0 a1 a2 a3 a4 a5) := by
  unfold Sys2Proof.Machine.State.store
  unfold Sys2Proof.Machine.State.issueWord
  (dsimp only; split)
  exact Ext.refl _ _
  refine Ext.ite ?_ ?_
  split
  refine Ext.step (State.thrFault_ext ..) rfl ?_
  refine Ext.step (State.countIssue_ext ..) rfl ?_
  exact Ext.refl _ _
  split
  refine OAll.getD (P := fun x => Ext _ _ x) ?_ ?_
  split
  refine OAll.some ?_
  refine Ext.ofO ?_ ‹_›
  refine OAll.step (State.memFault_ext ..) rfl ?_
  refine Ext.step (State.countIssue_ext ..) rfl ?_
  exact Ext.refl _ _
  refine OAll.some ?_
  refine Ext.step (State.nextPc_ext ..) rfl ?_
  refine foldl_all (P := fun x => Ext _ _ x) ?_ ?_
  refine Ext.step (State.countIssue_ext ..) rfl ?_
  exact Ext.refl _ _
  intro _
  intro _
  intro _
  refine Ext.step (State.srWrite_ext ..) rfl ?_
  with_reducible assumption
  exact Ext.refl _ _
  exact Ext.refl _ _
  exact Ext.refl _ _

theorem execImulh_ext (a0 : ℕ) (a1 : ℕ) (a2 : Check) (a3 : State) :
    HAll (fun x => Ext [.rst, .regs, .hlk, .launches, .cores, .shoals, .gpr, .preds, .lflags, .sram, .sramUe, .mem, .queues, .act, .shl, .red, .ras, .free] a3 x) (@execImulh a0 a1 a2 a3) := by
  unfold Sys2Proof.Machine.execImulh
  refine HAll.next ?_
  refine Ext.step (State.intR_ext ..) rfl ?_
  exact Ext.refl _ _

theorem execMovi_ext (a0 : ℕ) (a1 : ℕ) (a2 : Check) (a3 : State) :
    HAll (fun x => Ext [.rst, .regs, .hlk, .launches, .cores, .shoals, .gpr, .preds, .lflags, .sram, .sramUe, .mem, .queues, .act, .shl, .red, .ras, .free] a3 x) (@execMovi a0 a1 a2 a3) := by
  unfold Sys2Proof.Machine.execMovi
  refine HAll.next ?_
  unfold Sys2Proof.Machine.State.laneOp
  unfold Sys2Proof.Machine.State.issueWord
  split
  exact Ext.refl _ _
  refine Ext.ite ?_ ?_
  split
  refine Ext.step (State.thrFault_ext ..) rfl ?_
  refine Ext.step (State.countIssue_ext ..) rfl ?_
  exact Ext.refl _ _
  refine OAll.getD (P := fun x => Ext _ _ x) ?_ ?_
  refine OAll.some ?_
  refine Ext.step (State.nextPc_ext ..) rfl ?_
  refine Ext.step (State.applyLanes_ext ..) rfl ?_
  refine Ext.step (State.countIssue_ext ..) rfl ?_
  exact Ext.refl _ _
  exact Ext.refl _ _
  exact Ext.refl _ _

theorem State.intI_ext (a0 : State) (a1 : ℕ) (a2 : ℕ) (a3 : Check) (a4 : ℕ) :
    Ext [.rst, .regs, .hlk, .launches, .cores, .shoals, .gpr, .preds, .lflags, .sram, .sramUe, .mem, .queues, .act, .shl, .red, .ras, .free] a0 (@State.intI a0 a1 a2 a3 a4) := by
  unfold Sys2Proof.Machine.State.intI
  unfold Sys2Proof.Machine.State.laneOp
  unfold Sys2Proof.Machine.State.issueWord
  split
  exact Ext.refl _ _
  refine Ext.ite ?_ ?_
  split
  refine Ext.step (State.thrFault_ext ..) rfl ?_
  refine Ext.step (State.countIssue_ext ..) rfl ?_
  exact Ext.refl _ _
  refine OAll.getD (P := fun x => Ext _ _ x) ?_ ?_
  refine OAll.some ?_
  refine Ext.step (State.nextPc_ext ..) rfl ?_
  refine Ext.step (State.applyLanes_ext ..) rfl ?_
  refine Ext.step (State.countIssue_ext ..) rfl ?_
  exact Ext.refl _ _
  exact Ext.refl _ _
  exact Ext.refl _ _

theorem execImulhImm_ext (a0 : ℕ) (a1 : ℕ) (a2 : Check) (a3 : State) :
    HAll (fun x => Ext [.rst, .regs, .hlk, .launches, .cores, .shoals, .gpr, .preds, .lflags, .sram, .sramUe, .mem, .queues, .act, .shl, .red, .ras, .free] a3 x) (@execImulhImm a0 a1 a2 a3) := by
  unfold Sys2Proof.Machine.execImulhImm
  refine HAll.next ?_
  refine Ext.step (State.intI_ext ..) rfl ?_
  exact Ext.refl _ _

theorem State.packedOp_ext (a0 : State) (a1 : ℕ) (a2 : ℕ) (a3 : Check) (a4 : ℕ) (a5 : List Num → Num) :
    Ext [.rst, .regs, .hlk, .launches, .cores, .shoals, .gpr, .preds, .lflags, .sram, .sramUe, .mem, .queues, .act, .shl, .red, .ras, .free] a0 (@State.packedOp a0 a1 a2 a3 a4 a5) := by
  unfold Sys2Proof.Machine.State.packedOp
  unfold Sys2Proof.Machine.State.laneOp
  unfold Sys2Proof.Machine.State.issueWord
  (dsimp only; split)
  exact Ext.refl _ _
  refine Ext.ite ?_ ?_
  split
  refine Ext.step (State.thrFault_ext ..) rfl ?_
  refine Ext.step (State.countIssue_ext ..) rfl ?_
  exact Ext.refl _ _
  refine OAll.getD (P := fun x => Ext _ _ x) ?_ ?_
  refine OAll.some ?_
  refine Ext.step (State.nextPc_ext ..) rfl ?_
  refine Ext.step (State.applyLanes_ext ..) rfl ?_
  refine Ext.step (State.countIssue_ext ..) rfl ?_
  exact Ext.refl _ _
  exact Ext.refl _ _
  exact Ext.refl _ _

theorem execSfrd_ext (a0 : ℕ) (a1 : ℕ) (a2 : Check) (a3 : State) :
    HAll (fun x => Ext [.rst, .regs, .hlk, .launches, .cores, .shoals, .gpr, .preds, .lflags, .sram, .sramUe, .mem, .queues, .act, .shl, .red, .ras, .free] a3 x) (@execSfrd a0 a1 a2 a3) := by
  unfold Sys2Proof.Machine.execSfrd
  refine HAll.next ?_
  unfold Sys2Proof.Machine.State.laneOp
  unfold Sys2Proof.Machine.State.issueWord
  split
  exact Ext.refl _ _
  refine Ext.ite ?_ ?_
  split
  refine Ext.step (State.thrFault_ext ..) rfl ?_
  refine Ext.step (State.countIssue_ext ..) rfl ?_
  exact Ext.refl _ _
  refine OAll.getD (P := fun x => Ext _ _ x) ?_ ?_
  refine OAll.some ?_
  refine Ext.step (State.nextPc_ext ..) rfl ?_
  refine Ext.step (State.applyLanes_ext ..) rfl ?_
  refine Ext.step (State.countIssue_ext ..) rfl ?_
  exact Ext.refl _ _
  exact Ext.refl _ _
  exact Ext.refl _ _

theorem State.fpI_ext (a0 : State) (a1 : ℕ) (a2 : ℕ) (a3 : Check) (a4 : ℕ) (a5 : Bool → ℕ → ℕ → FRes) :
    Ext [.rst, .regs, .hlk, .launches, .cores, .shoals, .gpr, .preds, .lflags, .sram, .sramUe, .mem, .queues, .act, .shl, .red, .ras, .free] a0 (@State.fpI a0 a1 a2 a3 a4 a5) := by
  unfold Sys2Proof.Machine.State.fpI
  unfold Sys2Proof.Machine.State.laneOp
  unfold Sys2Proof.Machine.State.issueWord
  split
  exact Ext.refl _ _
  refine Ext.ite ?_ ?_
  split
  refine Ext.step (State.thrFault_ext ..) rfl ?_
  refine Ext.step (State.countIssue_ext ..) rfl ?_
  exact Ext.refl _ _
  refine OAll.getD (P := fun x => Ext _ _ x) ?_ ?_
  refine OAll.some ?_
  refine Ext.step (State.nextPc_ext ..) rfl ?_
  refine Ext.step (State.applyLanes_ext ..) rfl ?_
  refine Ext.step (State.countIssue_ext ..) rfl ?_
  exact Ext.refl _ _
  exact Ext.refl _ _
  exact Ext.refl _ _

theorem State.transc_ext (a0 : State) (a1 : ℕ) (a2 : ℕ) (a3 : Check) (a4 : ℕ) :
    Ext [.rst, .regs, .hlk, .launches, .cores, .shoals, .gpr, .preds, .lflags, .sram, .sramUe, .mem, .queues, .act, .shl, .red, .ras, .free] a0 (@State.transc a0 a1 a2 a3 a4) := by
  unfold Sys2Proof.Machine.State.transc
  unfold Sys2Proof.Machine.State.laneOp
  unfold Sys2Proof.Machine.State.issueWord
  split
  exact Ext.refl _ _
  refine Ext.ite ?_ ?_
  split
  refine Ext.step (State.thrFault_ext ..) rfl ?_
  refine Ext.step (State.countIssue_ext ..) rfl ?_
  exact Ext.refl _ _
  refine OAll.getD (P := fun x => Ext _ _ x) ?_ ?_
  refine OAll.some ?_
  refine Ext.step (State.nextPc_ext ..) rfl ?_
  refine Ext.step (State.applyLanes_ext ..) rfl ?_
  refine Ext.step (State.countIssue_ext ..) rfl ?_
  exact Ext.refl _ _
  exact Ext.refl _ _
  exact Ext.refl _ _

theorem execTanh_ext (a0 : ℕ) (a1 : ℕ) (a2 : Check) (a3 : State) :
    HAll (fun x => Ext [.rst, .regs, .hlk, .launches, .cores, .shoals, .gpr, .preds, .lflags, .sram, .sramUe, .mem, .queues, .act, .shl, .red, .ras, .free] a3 x) (@execTanh a0 a1 a2 a3) := by
  unfold Sys2Proof.Machine.execTanh
  refine HAll.next ?_
  refine Ext.step (State.transc_ext ..) rfl ?_
  exact Ext.refl _ _

theorem State.reduceFp_ext (a0 : State) (a1 : ℕ) (a2 : ℕ) (a3 : Check) (a4 : ℕ) (a5 : ℕ) :
    Ext [.rst, .regs, .hlk, .launches, .cores, .shoals, .gpr, .preds, .lflags, .sram, .sramUe, .mem, .queues, .act, .shl, .red, .ras, .free] a0 (@State.reduceFp a0 a1 a2 a3 a4 a5) := by
  unfold Sys2Proof.Machine.State.reduceFp
  unfold Sys2Proof.Machine.State.issueWord
  (dsimp only; split)
  exact Ext.refl _ _
  refine Ext.ite ?_ ?_
  split
  refine Ext.step (State.thrFault_ext ..) rfl ?_
  refine Ext.step (State.countIssue_ext ..) rfl ?_
  exact Ext.refl _ _
  refine OAll.getD (P := fun x => Ext _ _ x) ?_ ?_
  refine OAll.some ?_
  refine Ext.step (State.nextPc_ext ..) rfl ?_
  refine Ext.step (State.applyLanes_ext ..) rfl ?_
  refine Ext.step (State.countIssue_ext ..) rfl ?_
  exact Ext.refl _ _
  exact Ext.refl _ _
  exact Ext.refl _ _

theorem execRmax_ext (a0 : ℕ) (a1 : ℕ) (a2 : Check) (a3 : State) :
    HAll (fun x => Ext [.rst, .regs, .hlk, .launches, .cores, .shoals, .gpr, .preds, .lflags, .sram, .sramUe, .mem, .queues, .act, .shl, .red, .ras, .free] a3 x) (@execRmax a0 a1 a2 a3) := by
  unfold Sys2Proof.Machine.execRmax
  refine HAll.next ?_
  refine Ext.step (State.reduceFp_ext ..) rfl ?_
  exact Ext.refl _ _

theorem State.resumeShoal_ext (a0 : State) (a1 : ℕ) (a2 : ℕ) :
    Ext [.rst, .regs, .hlk, .launches, .cores, .shoals, .sram, .sramUe, .mem, .queues, .act, .shl, .red, .ras, .free] a0 (@State.resumeShoal a0 a1 a2) := by
  unfold Sys2Proof.Machine.State.resumeShoal
  (dsimp only; split)
  split
  refine Ext.ite ?_ ?_
  refine Ext.step (State.setShoal_ext ..) rfl ?_
  exact Ext.refl _ _
  refine Ext.step (State.thrFaultAt_ext ..) rfl ?_
  refine Ext.step (State.setShoal_ext ..) rfl ?_
  exact Ext.refl _ _
  exact Ext.refl _ _
  exact Ext.refl _ _

theorem State.flagRelease_ext (a0 : State) (a1 : ℕ) (a2 : ℕ) :
    Ext [.rst, .regs, .hlk, .launches, .cores, .shoals, .sram, .sramUe, .mem, .queues, .act, .shl, .red, .ras, .free] a0 (@State.flagRelease a0 a1 a2) := by
  unfold Sys2Proof.Machine.State.flagRelease
  refine Ext.ite ?_ ?_
  refine foldl_all (P := fun x => Ext _ _ x) ?_ ?_
  refine Ext.ite ?_ ?_
  refine Ext.step (State.clearFlag_ext ..) rfl ?_
  exact Ext.refl _ _
  exact Ext.refl _ _
  intro _
  intro _
  intro _
  refine Ext.step (State.resumeShoal_ext ..) rfl ?_
  with_reducible assumption
  exact Ext.refl _ _

theorem execNop_ext (a0 : ℕ) (a1 : ℕ) (a2 : Check) (a3 : State) :
    HAll (fun x => Ext [.rst, .regs, .hlk, .launches, .cores, .shoals, .sram, .sramUe, .mem, .queues, .act, .shl, .red, .ras, .free] a3 x) (@execNop a0 a1 a2 a3) := by
  unfold Sys2Proof.Machine.execNop
  refine HAll.next ?_
  unfold Sys2Proof.Machine.State.issueWord
  split
  exact Ext.refl _ _
  refine Ext.ite ?_ ?_
  split
  refine Ext.step (State.thrFault_ext ..) rfl ?_
  refine Ext.step (State.countIssue_ext ..) rfl ?_
  exact Ext.refl _ _
  refine OAll.getD (P := fun x => Ext _ _ x) ?_ ?_
  refine OAll.some ?_
  refine Ext.step (State.nextPc_ext ..) rfl ?_
  refine Ext.step (State.countIssue_ext ..) rfl ?_
  exact Ext.refl _ _
  exact Ext.refl _ _
  exact Ext.refl _ _

theorem State.m40Fault_ext (a0 : State) (a1 : Thr) (a2 : List ℕ) :
    OAll (fun x => Ext [.rst, .regs, .hlk, .launches, .cores, .shoals, .sram, .sramUe, .mem, .queues, .act, .shl, .red, .ras, .free] a0 x) (@State.m40Fault a0 a1 a2) := by
  unfold Sys2Proof.Machine.State.m40Fault
  split
  refine OAll.some ?_
  refine Ext.ofO ?_ ‹_›
  refine OAll.step (State.memFault_ext ..) rfl ?_
  exact Ext.refl _ _
  refine OAll.step (State.memFault_ext ..) rfl ?_
  exact Ext.refl _ _

theorem State.reportUe_ext (a0 : State) (a1 : Thr) (a2 : ℕ) :
    Ext [.rst, .regs, .hlk, .cores, .ras, .free] a0 (@State.reportUe a0 a1 a2) := by
  unfold Sys2Proof.Machine.State.reportUe
  refine Ext.ite ?_ ?_
  refine Ext.step (State.reportSram_ext ..) rfl ?_
  exact Ext.refl _ _
  exact Ext.refl _ _

theorem State.ldm40Run_ext (a0 : State) (a1 : Thr) :
    Ext [.rst, .regs, .hlk, .launches, .cores, .shoals, .gpr, .preds, .lflags, .sram, .sramUe, .mem, .queues, .act, .shl, .red, .ras, .free] a0 (@State.ldm40Run a0 a1) := by
  unfold Sys2Proof.Machine.State.ldm40Run
  (dsimp only; split)
  refine Ext.ofO ?_ ‹_›
  refine OAll.step (State.m40Fault_ext ..) rfl ?_
  exact Ext.refl _ _
  refine Ext.step (State.nextPc_ext ..) rfl ?_
  refine foldl_all (P := fun x => Ext _ _ x) ?_ ?_
  refine Ext.step (State.applyLanes_ext ..) rfl ?_
  exact Ext.refl _ _
  intro _
  intro _
  intro _
  refine Ext.step (State.reportUe_ext ..) rfl ?_
  with_reducible assumption

theorem execLdm40_ext (a0 : ℕ) (a1 : ℕ) (a2 : Check) (a3 : State) :
    HAll (fun x => Ext [.rst, .regs, .hlk, .launches, .cores, .shoals, .gpr, .preds, .lflags, .sram, .sramUe, .mem, .queues, .act, .shl, .red, .ras, .free] a3 x) (@execLdm40 a0 a1 a2 a3) := by
  unfold Sys2Proof.Machine.execLdm40
  refine HAll.next ?_
  unfold Sys2Proof.Machine.State.issueWord
  split
  exact Ext.refl _ _
  refine Ext.ite ?_ ?_
  split
  refine Ext.step (State.thrFault_ext ..) rfl ?_
  refine Ext.step (State.countIssue_ext ..) rfl ?_
  exact Ext.refl _ _
  refine OAll.getD (P := fun x => Ext _ _ x) ?_ ?_
  refine OAll.some ?_
  refine Ext.step (State.ldm40Run_ext ..) rfl ?_
  refine Ext.step (State.countIssue_ext ..) rfl ?_
  exact Ext.refl _ _
  exact Ext.refl _ _
  exact Ext.refl _ _

theorem execSqsync_ext (a0 : ℕ) (a1 : ℕ) (a2 : Check) (a3 : State) :
    HAll (fun x => Ext [.rst, .regs, .hlk, .launches, .cores, .shoals, .sram, .sramUe, .mem, .queues, .act, .shl, .red, .ras, .free] a3 x) (@execSqsync a0 a1 a2 a3) := by
  unfold Sys2Proof.Machine.execSqsync
  refine HAll.next ?_
  unfold Sys2Proof.Machine.State.shoalOp
  unfold Sys2Proof.Machine.State.issueWord
  split
  exact Ext.refl _ _
  refine Ext.ite ?_ ?_
  split
  refine Ext.step (State.thrFault_ext ..) rfl ?_
  refine Ext.step (State.countIssue_ext ..) rfl ?_
  exact Ext.refl _ _
  split
  refine OAll.getD (P := fun x => Ext _ _ x) ?_ ?_
  (dsimp only; split)
  refine OAll.some ?_
  refine Ext.step (State.nextPc_ext ..) rfl ?_
  refine Ext.step (State.countIssue_ext ..) rfl ?_
  exact Ext.refl _ _
  refine OAll.ite ?_ ?_
  refine OAll.some ?_
  refine Ext.step (State.nextPc_ext ..) rfl ?_
  refine Ext.step (State.countIssue_ext ..) rfl ?_
  exact Ext.refl _ _
  refine OAll.none ?_
  exact Ext.refl _ _
  exact Ext.refl _ _
  exact Ext.refl _ _

theorem State.branch_ext (a0 : State) (a1 : ℕ) (a2 : ℕ) (a3 : Check) (a4 : ℕ) (a5 : List Bool → Bool) :
    Ext [.rst, .regs, .hlk, .launches, .cores, .shoals, .sram, .sramUe, .mem, .queues, .act, .shl, .red, .ras, .free] a0 (@State.branch a0 a1 a2 a3 a4 a5) := by
  unfold Sys2Proof.Machine.State.branch
  unfold Sys2Proof.Machine.State.issueWord
  split
  exact Ext.refl _ _
  refine Ext.ite ?_ ?_
  split
  refine Ext.step (State.thrFault_ext ..) rfl ?_
  refine Ext.step (State.countIssue_ext ..) rfl ?_
  exact Ext.refl _ _
  refine OAll.getD (P := fun x => Ext _ _ x) ?_ ?_
  refine OAll.some ?_
  refine Ext.ite ?_ ?_
  refine Ext.step (State.goto_ext ..) rfl ?_
  refine Ext.step (State.countIssue_ext ..) rfl ?_
  exact Ext.refl _ _
  refine Ext.step (State.nextPc_ext ..) rfl ?_
  refine Ext.step (State.countIssue_ext ..) rfl ?_
  exact Ext.refl _ _
  exact Ext.refl _ _
  exact Ext.refl _ _

theorem execBraNone_ext (a0 : ℕ) (a1 : ℕ) (a2 : Check) (a3 : State) :
    HAll (fun x => Ext [.rst, .regs, .hlk, .launches, .cores, .shoals, .sram, .sramUe, .mem, .queues, .act, .shl, .red, .ras, .free] a3 x) (@execBraNone a0 a1 a2 a3) := by
  unfold Sys2Proof.Machine.execBraNone
  refine HAll.next ?_
  refine Ext.step (State.branch_ext ..) rfl ?_
  exact Ext.refl _ _

theorem execIadd_ext (a0 : ℕ) (a1 : ℕ) (a2 : Check) (a3 : State) :
    HAll (fun x => Ext [.rst, .regs, .hlk, .launches, .cores, .shoals, .gpr, .preds, .lflags, .sram, .sramUe, .mem, .queues, .act, .shl, .red, .ras, .free] a3 x) (@execIadd a0 a1 a2 a3) := by
  unfold Sys2Proof.Machine.execIadd
  refine HAll.next ?_
  refine Ext.step (State.intR_ext ..) rfl ?_
  exact Ext.refl _ _

theorem execSqrt_ext (a0 : ℕ) (a1 : ℕ) (a2 : Check) (a3 : State) :
    HAll (fun x => Ext [.rst, .regs, .hlk, .launches, .cores, .shoals, .gpr, .preds, .lflags, .sram, .sramUe, .mem, .queues, .act, .shl, .red, .ras, .free] a3 x) (@execSqrt a0 a1 a2 a3) := by
  unfold Sys2Proof.Machine.execSqrt
  refine HAll.next ?_
  refine Ext.step (State.transc_ext ..) rfl ?_
  exact Ext.refl _ _

theorem State.sfclrRun_ext (a0 : State) (a1 : Thr) :
    Ext [.rst, .regs, .hlk, .launches, .cores, .shoals, .lflags, .sram, .sramUe, .mem, .queues, .act, .shl, .red, .ras, .free] a0 (@State.sfclrRun a0 a1) := by
  unfold Sys2Proof.Machine.State.sfclrRun
  refine Ext.step (State.nextPc_ext ..) rfl ?_
  refine foldl_all (P := fun x => Ext _ _ x) ?_ ?_
  exact Ext.refl _ _
  intro _
  intro _
  intro _
  refine Ext.step (State.setLaneFlags_ext ..) rfl ?_
  with_reducible assumption

theorem execIsubImm_ext (a0 : ℕ) (a1 : ℕ) (a2 : Check) (a3 : State) :
    HAll (fun x => Ext [.rst, .regs, .hlk, .launches, .cores, .shoals, .gpr, .preds, .lflags, .sram, .sramUe, .mem, .queues, .act, .shl, .red, .ras, .free] a3 x) (@execIsubImm a0 a1 a2 a3) := by
  unfold Sys2Proof.Machine.execIsubImm
  refine HAll.next ?_
  refine Ext.step (State.intI_ext ..) rfl ?_
  exact Ext.refl _ _

theorem execOr_ext (a0 : ℕ) (a1 : ℕ) (a2 : Check) (a3 : State) :
    HAll (fun x => Ext [.rst, .regs, .hlk, .launches, .cores, .shoals, .gpr, .preds, .lflags, .sram, .sramUe, .mem, .queues, .act, .shl, .red, .ras, .free] a3 x) (@execOr a0 a1 a2 a3) := by
  unfold Sys2Proof.Machine.execOr
  refine HAll.next ?_
  refine Ext.step (State.intR_ext ..) rfl ?_
  exact Ext.refl _ _

theorem execSt32_ext (a0 : ℕ) (a1 : ℕ) (a2 : Check) (a3 : State) :
    HAll (fun x => Ext [.rst, .regs, .hlk, .launches, .cores, .shoals, .sram, .sramUe, .mem, .queues, .act, .shl, .red, .ras, .free] a3 x) (@execSt32 a0 a1 a2 a3) := by
  unfold Sys2Proof.Machine.execSt32
  refine HAll.next ?_
  refine Ext.step (State.store_ext ..) rfl ?_
  exact Ext.refl _ _

theorem execRcp_ext (a0 : ℕ) (a1 : ℕ) (a2 : Check) (a3 : State) :
    HAll (fun x => Ext [.rst, .regs, .hlk, .launches, .cores, .shoals, .gpr, .preds, .lflags, .sram, .sramUe, .mem, .queues, .act, .shl, .red, .ras, .free] a3 x) (@execRcp a0 a1 a2 a3) := by
  unfold Sys2Proof.Machine.execRcp
  refine HAll.next ?_
  refine Ext.step (State.transc_ext ..) rfl ?_
  exact Ext.refl _ _

theorem State.load_ext (a0 : State) (a1 : ℕ) (a2 : ℕ) (a3 : Check) (a4 : ℕ) (a5 : ℕ) :
    Ext [.rst, .regs, .hlk, .launches, .cores, .shoals, .gpr, .preds, .lflags, .sram, .sramUe, .mem, .queues, .act, .shl, .red, .ras, .free] a0 (@State.load a0 a1 a2 a3 a4 a5) := by
  unfold Sys2Proof.Machine.State.load
  unfold Sys2Proof.Machine.State.issueWord
  (dsimp only; split)
  exact Ext.refl _ _
  refine Ext.ite ?_ ?_
  split
  refine Ext.step (State.thrFault_ext ..) rfl ?_
  refine Ext.step (State.countIssue_ext ..) rfl ?_
  exact Ext.refl _ _
  split
  refine OAll.getD (P := fun x => Ext _ _ x) ?_ ?_
  split
  refine OAll.some ?_
  refine Ext.ofO ?_ ‹_›
  refine OAll.step (State.memFault_ext ..) rfl ?_
  refine Ext.step (State.countIssue_ext ..) rfl ?_
  exact Ext.refl _ _
  refine OAll.some ?_
  refine Ext.step (State.nextPc_ext ..) rfl ?_
  refine foldl_all (P := fun x => Ext _ _ x) ?_ ?_
  refine Ext.step (State.applyLanes_ext ..) rfl ?_
  refine Ext.step (State.countIssue_ext ..) rfl ?_
  exact Ext.refl _ _
  intro _
  intro _
  intro _
  refine Ext.step (State.reportUe_ext ..) rfl ?_
  with_reducible assumption
  exact Ext.refl _ _
  exact Ext.refl _ _
  exact Ext.refl _ _

theorem execLd8_ext (a0 : ℕ) (a1 : ℕ) (a2 : Check) (a3 : State) :
    HAll (fun x => Ext [.rst, .regs, .hlk, .launches, .cores, .shoals, .gpr, .preds, .lflags, .sram, .sramUe, .mem, .queues, .act, .shl, .red, .ras, .free] a3 x) (@execLd8 a0 a1 a2 a3) := by
  unfold Sys2Proof.Machine.execLd8
  refine HAll.next ?_
  refine Ext.step (State.load_ext ..) rfl ?_
  exact Ext.refl _ _

theorem State.fp2_ext (a0 : State) (a1 : ℕ) (a2 : ℕ) (a3 : Check) (a4 : ℕ) (a5 : Bool → ℕ → ℕ → FRes) :
    Ext [.rst, .regs, .hlk, .launches, .cores, .shoals, .gpr, .preds, .lflags, .sram, .sramUe, .mem, .queues, .act, .shl, .red, .ras, .free] a0 (@State.fp2 a0 a1 a2 a3 a4 a5) := by
  unfold Sys2Proof.Machine.State.fp2
  unfold Sys2Proof.Machine.State.laneOp
  unfold Sys2Proof.Machine.State.issueWord
  split
  exact Ext.refl _ _
  refine Ext.ite ?_ ?_
  split
  refine Ext.step (State.thrFault_ext ..) rfl ?_
  refine Ext.step (State.countIssue_ext ..) rfl ?_
  exact Ext.refl _ _
  refine OAll.getD (P := fun x => Ext _ _ x) ?_ ?_
  refine OAll.some ?_
  refine Ext.step (State.nextPc_ext ..) rfl ?_
  refine Ext.step (State.applyLanes_ext ..) rfl ?_
  refine Ext.step (State.countIssue_ext ..) rfl ?_
  exact Ext.refl _ _
  exact Ext.refl _ _
  exact Ext.refl _ _

theorem execFmin_ext (a0 : ℕ) (a1 : ℕ) (a2 : Check) (a3 : State) :
    HAll (fun x => Ext [.rst, .regs, .hlk, .launches, .cores, .shoals, .gpr, .preds, .lflags, .sram, .sramUe, .mem, .queues, .act, .shl, .red, .ras, .free] a3 x) (@execFmin a0 a1 a2 a3) := by
  unfold Sys2Proof.Machine.execFmin
  refine HAll.next ?_
  refine Ext.step (State.fp2_ext ..) rfl ?_
  exact Ext.refl _ _

theorem execImul_ext (a0 : ℕ) (a1 : ℕ) (a2 : Check) (a3 : State) :
    HAll (fun x => Ext [.rst, .regs, .hlk, .launches, .cores, .shoals, .gpr, .preds, .lflags, .sram, .sramUe, .mem, .queues, .act, .shl, .red, .ras, .free] a3 x) (@execImul a0 a1 a2 a3) := by
  unfold Sys2Proof.Machine.execImul
  refine HAll.next ?_
  refine Ext.step (State.intR_ext ..) rfl ?_
  exact Ext.refl _ _

theorem execIminImm_ext (a0 : ℕ) (a1 : ℕ) (a2 : Check) (a3 : State) :
    HAll (fun x => Ext [.rst, .regs, .hlk, .launches, .cores, .shoals, .gpr, .preds, .lflags, .sram, .sramUe, .mem, .queues, .act, .shl, .red, .ras, .free] a3 x) (@execIminImm a0 a1 a2 a3) := by
  unfold Sys2Proof.Machine.execIminImm
  refine HAll.next ?_
  refine Ext.step (State.intI_ext ..) rfl ?_
  exact Ext.refl _ _

theorem State.efwaitRun_ext (a0 : State) (a1 : Thr) (a2 : Bool) :
    OAll (fun x => Ext [.rst, .regs, .hlk, .launches, .cores, .shoals, .sram, .sramUe, .mem, .queues, .act, .shl, .red, .ras, .free] a0 x) (@State.efwaitRun a0 a1 a2) := by
  unfold Sys2Proof.Machine.State.efwaitRun
  refine OAll.ite ?_ ?_
  refine OAll.none ?_
  refine OAll.some ?_
  refine Ext.ite ?_ ?_
  refine Ext.ite ?_ ?_
  refine Ext.step (State.flagRelease_ext ..) rfl ?_
  refine Ext.step (State.waitPc_ext ..) rfl ?_
  exact Ext.refl _ _
  refine Ext.step (State.resumeShoal_ext ..) rfl ?_
  refine Ext.step (State.waitPc_ext ..) rfl ?_
  exact Ext.refl _ _
  refine Ext.step (State.waitPc_ext ..) rfl ?_
  exact Ext.refl _ _

theorem execSfset_ext (a0 : ℕ) (a1 : ℕ) (a2 : Check) (a3 : State) :
    HAll (fun x => Ext [.rst, .regs, .hlk, .launches, .cores, .shoals, .gpr, .preds, .lflags, .sram, .sramUe, .mem, .queues, .act, .shl, .red, .ras, .free] a3 x) (@execSfset a0 a1 a2 a3) := by
  unfold Sys2Proof.Machine.execSfset
  refine HAll.next ?_
  unfold Sys2Proof.Machine.State.laneOp
  unfold Sys2Proof.Machine.State.issueWord
  split
  exact Ext.refl _ _
  refine Ext.ite ?_ ?_
  split
  refine Ext.step (State.thrFault_ext ..) rfl ?_
  refine Ext.step (State.countIssue_ext ..) rfl ?_
  exact Ext.refl _ _
  refine OAll.getD (P := fun x => Ext _ _ x) ?_ ?_
  refine OAll.some ?_
  refine Ext.step (State.nextPc_ext ..) rfl ?_
  refine Ext.step (State.applyLanes_ext ..) rfl ?_
  refine Ext.step (State.countIssue_ext ..) rfl ?_
  exact Ext.refl _ _
  exact Ext.refl _ _
  exact Ext.refl _ _

theorem execSfclr_ext (a0 : ℕ) (a1 : ℕ) (a2 : Check) (a3 : State) :
    HAll (fun x => Ext [.rst, .regs, .hlk, .launches, .cores, .shoals, .lflags, .sram, .sramUe, .mem, .queues, .act, .shl, .red, .ras, .free] a3 x) (@execSfclr a0 a1 a2 a3) := by
  unfold Sys2Proof.Machine.execSfclr
  refine HAll.next ?_
  unfold Sys2Proof.Machine.State.issueWord
  split
  exact Ext.refl _ _
  refine Ext.ite ?_ ?_
  split
  refine Ext.step (State.thrFault_ext ..) rfl ?_
  refine Ext.step (State.countIssue_ext ..) rfl ?_
  exact Ext.refl _ _
  refine OAll.getD (P := fun x => Ext _ _ x) ?_ ?_
  refine OAll.some ?_
  refine Ext.step (State.sfclrRun_ext ..) rfl ?_
  refine Ext.step (State.countIssue_ext ..) rfl ?_
  exact Ext.refl _ _
  exact Ext.refl _ _
  exact Ext.refl _ _

theorem execFmuli_ext (a0 : ℕ) (a1 : ℕ) (a2 : Check) (a3 : State) :
    HAll (fun x => Ext [.rst, .regs, .hlk, .launches, .cores, .shoals, .gpr, .preds, .lflags, .sram, .sramUe, .mem, .queues, .act, .shl, .red, .ras, .free] a3 x) (@execFmuli a0 a1 a2 a3) := by
  unfold Sys2Proof.Machine.execFmuli
  refine HAll.next ?_
  refine Ext.step (State.fpI_ext ..) rfl ?_
  exact Ext.refl _ _

theorem execBraAll_ext (a0 : ℕ) (a1 : ℕ) (a2 : Check) (a3 : State) :
    HAll (fun x => Ext [.rst, .regs, .hlk, .launches, .cores, .shoals, .sram, .sramUe, .mem, .queues, .act, .shl, .red, .ras, .free] a3 x) (@execBraAll a0 a1 a2 a3) := by
  unfold Sys2Proof.Machine.execBraAll
  refine HAll.next ?_
  refine Ext.step (State.branch_ext ..) rfl ?_
  exact Ext.refl _ _

theorem execImax_ext (a0 : ℕ) (a1 : ℕ) (a2 : Check) (a3 : State) :
    HAll (fun x => Ext [.rst, .regs, .hlk, .launches, .cores, .shoals, .gpr, .preds, .lflags, .sram, .sramUe, .mem, .queues, .act, .shl, .red, .ras, .free] a3 x) (@execImax a0 a1 a2 a3) := by
  unfold Sys2Proof.Machine.execImax
  refine HAll.next ?_
  refine Ext.step (State.intR_ext ..) rfl ?_
  exact Ext.refl _ _

theorem execIaddImm_ext (a0 : ℕ) (a1 : ℕ) (a2 : Check) (a3 : State) :
    HAll (fun x => Ext [.rst, .regs, .hlk, .launches, .cores, .shoals, .gpr, .preds, .lflags, .sram, .sramUe, .mem, .queues, .act, .shl, .red, .ras, .free] a3 x) (@execIaddImm a0 a1 a2 a3) := by
  unfold Sys2Proof.Machine.execIaddImm
  refine HAll.next ?_
  refine Ext.step (State.intI_ext ..) rfl ?_
  exact Ext.refl _ _

theorem State.predOp_ext (a0 : State) (a1 : ℕ) (a2 : ℕ) (a3 : Check) (a4 : ℕ) (a5 : Bool → Bool → Bool) :
    Ext [.rst, .regs, .hlk, .launches, .cores, .shoals, .gpr, .preds, .lflags, .sram, .sramUe, .mem, .queues, .act, .shl, .red, .ras, .free] a0 (@State.predOp a0 a1 a2 a3 a4 a5) := by
  unfold Sys2Proof.Machine.State.predOp
  unfold Sys2Proof.Machine.State.laneOp
  unfold Sys2Proof.Machine.State.issueWord
  split
  exact Ext.refl _ _
  refine Ext.ite ?_ ?_
  split
  refine Ext.step (State.thrFault_ext ..) rfl ?_
  refine Ext.step (State.countIssue_ext ..) rfl ?_
  exact Ext.refl _ _
  refine OAll.getD (P := fun x => Ext _ _ x) ?_ ?_
  refine OAll.some ?_
  refine Ext.step (State.nextPc_ext ..) rfl ?_
  refine Ext.step (State.applyLanes_ext ..) rfl ?_
  refine Ext.step (State.countIssue_ext ..) rfl ?_
  exact Ext.refl _ _
  exact Ext.refl _ _
  exact Ext.refl _ _

theorem State.endRun_ext (a0 : State) (a1 : Thr) :
    Ext [.rst, .regs, .hlk, .launches, .cores, .shoals, .sram, .sramUe, .mem, .queues, .act, .shl, .red, .ras, .free] a0 (@State.endRun a0 a1) := by
  unfold Sys2Proof.Machine.State.endRun
  refine Ext.ite ?_ ?_
  refine Ext.step (State.setShoal_ext ..) rfl ?_
  exact Ext.refl _ _
  refine Ext.step (State.nextPc_ext ..) rfl ?_
  refine Ext.step (State.setShoal_ext ..) rfl ?_
  exact Ext.refl _ _

theorem execEndThread_ext (a0 : ℕ) (a1 : ℕ) (a2 : Check) (a3 : State) :
    HAll (fun x => Ext [.rst, .regs, .hlk, .launches, .cores, .shoals, .sram, .sramUe, .mem, .queues, .act, .shl, .red, .ras, .free] a3 x) (@execEndThread a0 a1 a2 a3) := by
  unfold Sys2Proof.Machine.execEndThread
  refine HAll.next ?_
  unfold Sys2Proof.Machine.State.issueWord
  split
  exact Ext.refl _ _
  refine Ext.ite ?_ ?_
  split
  refine Ext.step (State.thrFault_ext ..) rfl ?_
  refine Ext.step (State.countIssue_ext ..) rfl ?_
  exact Ext.refl _ _
  refine OAll.getD (P := fun x => Ext _ _ x) ?_ ?_
  refine OAll.some ?_
  refine Ext.step (State.endRun_ext ..) rfl ?_
  refine Ext.step (State.countIssue_ext ..) rfl ?_
  exact Ext.refl _ _
  exact Ext.refl _ _
  exact Ext.refl _ _

theorem execM40fma_ext (a0 : ℕ) (a1 : ℕ) (a2 : Check) (a3 : State) :
    HAll (fun x => Ext [.rst, .regs, .hlk, .launches, .cores, .shoals, .gpr, .preds, .lflags, .sram, .sramUe, .mem, .queues, .act, .shl, .red, .ras, .free] a3 x) (@execM40fma a0 a1 a2 a3) := by
  unfold Sys2Proof.Machine.execM40fma
  refine HAll.next ?_
  unfold Sys2Proof.Machine.State.laneOp
  unfold Sys2Proof.Machine.State.issueWord
  split
  exact Ext.refl _ _
  refine Ext.ite ?_ ?_
  split
  refine Ext.step (State.thrFault_ext ..) rfl ?_
  refine Ext.step (State.countIssue_ext ..) rfl ?_
  exact Ext.refl _ _
  refine OAll.getD (P := fun x => Ext _ _ x) ?_ ?_
  refine OAll.some ?_
  refine Ext.step (State.nextPc_ext ..) rfl ?_
  refine Ext.step (State.applyLanes_ext ..) rfl ?_
  refine Ext.step (State.countIssue_ext ..) rfl ?_
  exact Ext.refl _ _
  exact Ext.refl _ _
  exact Ext.refl _ _

theorem execExp2_ext (a0 : ℕ) (a1 : ℕ) (a2 : Check) (a3 : State) :
    HAll (fun x => Ext [.rst, .regs, .hlk, .launches, .cores, .shoals, .gpr, .preds, .lflags, .sram, .sramUe, .mem, .queues, .act, .shl, .red, .ras, .free] a3 x) (@execExp2 a0 a1 a2 a3) := by
  unfold Sys2Proof.Machine.execExp2
  refine HAll.next ?_
  refine Ext.step (State.transc_ext ..) rfl ?_
  exact Ext.refl _ _

theorem execPxor_ext (a0 : ℕ) (a1 : ℕ) (a2 : Check) (a3 : State) :
    HAll (fun x => Ext [.rst, .regs, .hlk, .launches, .cores, .shoals, .gpr, .preds, .lflags, .sram, .sramUe, .mem, .queues, .act, .shl, .red, .ras, .free] a3 x) (@execPxor a0 a1 a2 a3) := by
  unfold Sys2Proof.Machine.execPxor
  refine HAll.next ?_
  refine Ext.step (State.predOp_ext ..) rfl ?_
  exact Ext.refl _ _

theorem execImaxImm_ext (a0 : ℕ) (a1 : ℕ) (a2 : Check) (a3 : State) :
    HAll (fun x => Ext [.rst, .regs, .hlk, .launches, .cores, .shoals, .gpr, .preds, .lflags, .sram, .sramUe, .mem, .queues, .act, .shl, .red, .ras, .free] a3 x) (@execImaxImm a0 a1 a2 a3) := by
  unfold Sys2Proof.Machine.execImaxImm
  refine HAll.next ?_
  refine Ext.step (State.intI_ext ..) rfl ?_
  exact Ext.refl _ _

theorem execRmin_ext (a0 : ℕ) (a1 : ℕ) (a2 : Check) (a3 : State) :
    HAll (fun x => Ext [.rst, .regs, .hlk, .launches, .cores, .shoals, .gpr, .preds, .lflags, .sram, .sramUe, .mem, .queues, .act, .shl, .red, .ras, .free] a3 x) (@execRmin a0 a1 a2 a3) := by
  unfold Sys2Proof.Machine.execRmin
  refine HAll.next ?_
  refine Ext.step (State.reduceFp_ext ..) rfl ?_
  exact Ext.refl _ _

theorem execPor_ext (a0 : ℕ) (a1 : ℕ) (a2 : Check) (a3 : State) :
    HAll (fun x => Ext [.rst, .regs, .hlk, .launches, .cores, .shoals, .gpr, .preds, .lflags, .sram, .sramUe, .mem, .queues, .act, .shl, .red, .ras, .free] a3 x) (@execPor a0 a1 a2 a3) := by
  unfold Sys2Proof.Machine.execPor
  refine HAll.next ?_
  refine Ext.step (State.predOp_ext ..) rfl ?_
  exact Ext.refl _ _

theorem execRsum_ext (a0 : ℕ) (a1 : ℕ) (a2 : Check) (a3 : State) :
    HAll (fun x => Ext [.rst, .regs, .hlk, .launches, .cores, .shoals, .gpr, .preds, .lflags, .sram, .sramUe, .mem, .queues, .act, .shl, .red, .ras, .free] a3 x) (@execRsum a0 a1 a2 a3) := by
  unfold Sys2Proof.Machine.execRsum
  refine HAll.next ?_
  refine Ext.step (State.reduceFp_ext ..) rfl ?_
  exact Ext.refl _ _

theorem execEfwait_ext (a0 : ℕ) (a1 : ℕ) (a2 : Check) (a3 : State) :
    HAll (fun x => Ext [.rst, .regs, .hlk, .launches, .cores, .shoals, .sram, .sramUe, .mem, .queues, .act, .shl, .red, .ras, .free] a3 x) (@execEfwait a0 a1 a2 a3) := by
  unfold Sys2Proof.Machine.execEfwait
  refine HAll.next ?_
  unfold Sys2Proof.Machine.State.shoalOp
  unfold Sys2Proof.Machine.State.issueWord
  split
  exact Ext.refl _ _
  refine Ext.ite ?_ ?_
  split
  refine Ext.step (State.thrFault_ext ..) rfl ?_
  refine Ext.step (State.countIssue_ext ..) rfl ?_
  exact Ext.refl _ _
  split
  refine OAll.getD (P := fun x => Ext _ _ x) ?_ ?_
  (dsimp only; split)
  refine OAll.some ?_
  refine Ext.step (State.nextPc_ext ..) rfl ?_
  refine Ext.step (State.countIssue_ext ..) rfl ?_
  exact Ext.refl _ _
  refine OAll.step (State.efwaitRun_ext ..) rfl ?_
  refine Ext.step (State.countIssue_ext ..) rfl ?_
  exact Ext.refl _ _
  exact Ext.refl _ _
  exact Ext.refl _ _
  exact Ext.refl _ _

theorem execHmul2_ext (a0 : ℕ) (a1 : ℕ) (a2 : Check) (a3 : State) :
    HAll (fun x => Ext [.rst, .regs, .hlk, .launches, .cores, .shoals, .gpr, .preds, .lflags, .sram, .sramUe, .mem, .queues, .act, .shl, .red, .ras, .free] a3 x) (@execHmul2 a0 a1 a2 a3) := by
  unfold Sys2Proof.Machine.execHmul2
  refine HAll.next ?_
  refine Ext.step (State.packedOp_ext ..) rfl ?_
  exact Ext.refl _ _

theorem execEfset_ext (a0 : ℕ) (a1 : ℕ) (a2 : Check) (a3 : State) :
    HAll (fun x => Ext [.rst, .regs, .hlk, .launches, .cores, .shoals, .sram, .sramUe, .mem, .queues, .act, .shl, .red, .ras, .free] a3 x) (@execEfset a0 a1 a2 a3) := by
  unfold Sys2Proof.Machine.execEfset
  refine HAll.next ?_
  unfold Sys2Proof.Machine.State.shoalOp
  unfold Sys2Proof.Machine.State.issueWord
  split
  exact Ext.refl _ _
  refine Ext.ite ?_ ?_
  split
  refine Ext.step (State.thrFault_ext ..) rfl ?_
  refine Ext.step (State.countIssue_ext ..) rfl ?_
  exact Ext.refl _ _
  split
  refine OAll.getD (P := fun x => Ext _ _ x) ?_ ?_
  (dsimp only; split)
  refine OAll.some ?_
  refine Ext.step (State.nextPc_ext ..) rfl ?_
  refine Ext.step (State.countIssue_ext ..) rfl ?_
  exact Ext.refl _ _
  refine OAll.ite ?_ ?_
  refine OAll.some ?_
  refine Ext.step (State.nextPc_ext ..) rfl ?_
  refine Ext.step (State.setFlag_ext ..) rfl ?_
  refine Ext.step (State.countIssue_ext ..) rfl ?_
  exact Ext.refl _ _
  refine OAll.none ?_
  exact Ext.refl _ _
  exact Ext.refl _ _
  exact Ext.refl _ _

theorem execPbit_ext (a0 : ℕ) (a1 : ℕ) (a2 : Check) (a3 : State) :
    HAll (fun x => Ext [.rst, .regs, .hlk, .launches, .cores, .shoals, .gpr, .preds, .lflags, .sram, .sramUe, .mem, .queues, .act, .shl, .red, .ras, .free] a3 x) (@execPbit a0 a1 a2 a3) := by
  unfold Sys2Proof.Machine.execPbit
  refine HAll.next ?_
  unfold Sys2Proof.Machine.State.laneOp
  unfold Sys2Proof.Machine.State.issueWord
  split
  exact Ext.refl _ _
  refine Ext.ite ?_ ?_
  split
  refine Ext.step (State.thrFault_ext ..) rfl ?_
  refine Ext.step (State.countIssue_ext ..) rfl ?_
  exact Ext.refl _ _
  refine OAll.getD (P := fun x => Ext _ _ x) ?_ ?_
  refine OAll.some ?_
  refine Ext.step (State.nextPc_ext ..) rfl ?_
  refine Ext.step (State.applyLanes_ext ..) rfl ?_
  refine Ext.step (State.countIssue_ext ..) rfl ?_
  exact Ext.refl _ _
  exact Ext.refl _ _
  exact Ext.refl _ _

theorem execIsub_ext (a0 : ℕ) (a1 : ℕ) (a2 : Check) (a3 : State) :
    HAll (fun x => Ext [.rst, .regs, .hlk, .launches, .cores, .shoals, .gpr, .preds, .lflags, .sram, .sramUe, .mem, .queues, .act, .shl, .red, .ras, .free] a3 x) (@execIsub a0 a1 a2 a3) := by
  unfold Sys2Proof.Machine.execIsub
  refine HAll.next ?_
  refine Ext.step (State.intR_ext ..) rfl ?_
  exact Ext.refl _ _

theorem execFsetp_ext (a0 : ℕ) (a1 : ℕ) (a2 : Check) (a3 : State) :
    HAll (fun x => Ext [.rst, .regs, .hlk, .launches, .cores, .shoals, .gpr, .preds, .lflags, .sram, .sramUe, .mem, .queues, .act, .shl, .red, .ras, .free] a3 x) (@execFsetp a0 a1 a2 a3) := by
  unfold Sys2Proof.Machine.execFsetp
  refine HAll.next ?_
  unfold Sys2Proof.Machine.State.laneOp
  unfold Sys2Proof.Machine.State.issueWord
  (dsimp only; split)
  exact Ext.refl _ _
  refine Ext.ite ?_ ?_
  split
  refine Ext.step (State.thrFault_ext ..) rfl ?_
  refine Ext.step (State.countIssue_ext ..) rfl ?_
  exact Ext.refl _ _
  refine OAll.getD (P := fun x => Ext _ _ x) ?_ ?_
  refine OAll.some ?_
  refine Ext.step (State.nextPc_ext ..) rfl ?_
  refine Ext.step (State.applyLanes_ext ..) rfl ?_
  refine Ext.step (State.countIssue_ext ..) rfl ?_
  exact Ext.refl _ _
  exact Ext.refl _ _
  exact Ext.refl _ _

theorem execFfma_ext (a0 : ℕ) (a1 : ℕ) (a2 : Check) (a3 : State) :
    HAll (fun x => Ext [.rst, .regs, .hlk, .launches, .cores, .shoals, .gpr, .preds, .lflags, .sram, .sramUe, .mem, .queues, .act, .shl, .red, .ras, .free] a3 x) (@execFfma a0 a1 a2 a3) := by
  unfold Sys2Proof.Machine.execFfma
  refine HAll.next ?_
  unfold Sys2Proof.Machine.State.laneOp
  unfold Sys2Proof.Machine.State.issueWord
  split
  exact Ext.refl _ _
  refine Ext.ite ?_ ?_
  split
  refine Ext.step (State.thrFault_ext ..) rfl ?_
  refine Ext.step (State.countIssue_ext ..) rfl ?_
  exact Ext.refl _ _
  refine OAll.getD (P := fun x => Ext _ _ x) ?_ ?_
  refine OAll.some ?_
  refine Ext.step (State.nextPc_ext ..) rfl ?_
  refine Ext.step (State.applyLanes_ext ..) rfl ?_
  refine Ext.step (State.countIssue_ext ..) rfl ?_
  exact Ext.refl _ _
  exact Ext.refl _ _
  exact Ext.refl _ _

theorem execPand_ext (a0 : ℕ) (a1 : ℕ) (a2 : Check) (a3 : State) :
    HAll (fun x => Ext [.rst, .regs, .hlk, .launches, .cores, .shoals, .gpr, .preds, .lflags, .sram, .sramUe, .mem, .queues, .act, .shl, .red, .ras, .free] a3 x) (@execPand a0 a1 a2 a3) := by
  unfold Sys2Proof.Machine.execPand
  refine HAll.next ?_
  refine Ext.step (State.predOp_ext ..) rfl ?_
  exact Ext.refl _ _

theorem execSint_ext (a0 : ℕ) (a1 : ℕ) (a2 : Check) (a3 : State) :
    HAll (fun x => Ext [.rst, .regs, .hlk, .launches, .cores, .shoals, .gpr, .preds, .lflags, .sram, .sramUe, .mem, .queues, .act, .shl, .red, .ras, .free] a3 x) (@execSint a0 a1 a2 a3) := by
  unfold Sys2Proof.Machine.execSint
  refine HAll.next ?_
  refine Ext.step (State.transc_ext ..) rfl ?_
  exact Ext.refl _ _

theorem execEfwaitc_ext (a0 : ℕ) (a1 : ℕ) (a2 : Check) (a3 : State) :
    HAll (fun x => Ext [.rst, .regs, .hlk, .launches, .cores, .shoals, .sram, .sramUe, .mem, .queues, .act, .shl, .red, .ras, .free] a3 x) (@execEfwaitc a0 a1 a2 a3) := by
  unfold Sys2Proof.Machine.execEfwaitc
  refine HAll.next ?_
  unfold Sys2Proof.Machine.State.shoalOp
  unfold Sys2Proof.Machine.State.issueWord
  split
  exact Ext.refl _ _
  refine Ext.ite ?_ ?_
  split
  refine Ext.step (State.thrFault_ext ..) rfl ?_
  refine Ext.step (State.countIssue_ext ..) rfl ?_
  exact Ext.refl _ _
  split
  refine OAll.getD (P := fun x => Ext _ _ x) ?_ ?_
  (dsimp only; split)
  refine OAll.some ?_
  refine Ext.step (State.nextPc_ext ..) rfl ?_
  refine Ext.step (State.countIssue_ext ..) rfl ?_
  exact Ext.refl _ _
  refine OAll.step (State.efwaitRun_ext ..) rfl ?_
  refine Ext.step (State.countIssue_ext ..) rfl ?_
  exact Ext.refl _ _
  exact Ext.refl _ _
  exact Ext.refl _ _
  exact Ext.refl _ _

theorem execFmax_ext (a0 : ℕ) (a1 : ℕ) (a2 : Check) (a3 : State) :
    HAll (fun x => Ext [.rst, .regs, .hlk, .launches, .cores, .shoals, .gpr, .preds, .lflags, .sram, .sramUe, .mem, .queues, .act, .shl, .red, .ras, .free] a3 x) (@execFmax a0 a1 a2 a3) := by
  unfold Sys2Proof.Machine.execFmax
  refine HAll.next ?_
  refine Ext.step (State.fp2_ext ..) rfl ?_
  exact Ext.refl _ _

theorem execImulImm_ext (a0 : ℕ) (a1 : ℕ) (a2 : Check) (a3 : State) :
    HAll (fun x => Ext [.rst, .regs, .hlk, .launches, .cores, .shoals, .gpr, .preds, .lflags, .sram, .sramUe, .mem, .queues, .act, .shl, .red, .ras, .free] a3 x) (@execImulImm a0 a1 a2 a3) := by
  unfold Sys2Proof.Machine.execImulImm
  refine HAll.next ?_
  refine Ext.step (State.intI_ext ..) rfl ?_
  exact Ext.refl _ _

theorem execHfma2_ext (a0 : ℕ) (a1 : ℕ) (a2 : Check) (a3 : State) :
    HAll (fun x => Ext [.rst, .regs, .hlk, .launches, .cores, .shoals, .gpr, .preds, .lflags, .sram, .sramUe, .mem, .queues, .act, .shl, .red, .ras, .free] a3 x) (@execHfma2 a0 a1 a2 a3) := by
  unfold Sys2Proof.Machine.execHfma2
  refine HAll.next ?_
  refine Ext.step (State.packedOp_ext ..) rfl ?_
  exact Ext.refl _ _

theorem execAnd_ext (a0 : ℕ) (a1 : ℕ) (a2 : Check) (a3 : State) :
    HAll (fun x => Ext [.rst, .regs, .hlk, .launches, .cores, .shoals, .gpr, .preds, .lflags, .sram, .sramUe, .mem, .queues, .act, .shl, .red, .ras, .free] a3 x) (@execAnd a0 a1 a2 a3) := by
  unfold Sys2Proof.Machine.execAnd
  refine HAll.next ?_
  refine Ext.step (State.intR_ext ..) rfl ?_
  exact Ext.refl _ _

theorem State.cvtctxRun_ext (a0 : State) (a1 : Thr) (a2 : ℕ) :
    OAll (fun x => Ext [.rst, .regs, .hlk, .launches, .cores, .shoals, .sram, .sramUe, .mem, .queues, .act, .shl, .red, .ras, .free] a0 x) (@State.cvtctxRun a0 a1 a2) := by
  unfold Sys2Proof.Machine.State.cvtctxRun
  refine OAll.some ?_
  refine Ext.step (State.nextPc_ext ..) rfl ?_
  refine Ext.step (State.setShoal_ext ..) rfl ?_
  exact Ext.refl _ _

theorem execFaddi_ext (a0 : ℕ) (a1 : ℕ) (a2 : Check) (a3 : State) :
    HAll (fun x => Ext [.rst, .regs, .hlk, .launches, .cores, .shoals, .gpr, .preds, .lflags, .sram, .sramUe, .mem, .queues, .act, .shl, .red, .ras, .free] a3 x) (@execFaddi a0 a1 a2 a3) := by
  unfold Sys2Proof.Machine.execFaddi
  refine HAll.next ?_
  refine Ext.step (State.fpI_ext ..) rfl ?_
  exact Ext.refl _ _

theorem execSarImm_ext (a0 : ℕ) (a1 : ℕ) (a2 : Check) (a3 : State) :
    HAll (fun x => Ext [.rst, .regs, .hlk, .launches, .cores, .shoals, .gpr, .preds, .lflags, .sram, .sramUe, .mem, .queues, .act, .shl, .red, .ras, .free] a3 x) (@execSarImm a0 a1 a2 a3) := by
  unfold Sys2Proof.Machine.execSarImm
  refine HAll.next ?_
  refine Ext.step (State.intI_ext ..) rfl ?_
  exact Ext.refl _ _

theorem execSar_ext (a0 : ℕ) (a1 : ℕ) (a2 : Check) (a3 : State) :
    HAll (fun x => Ext [.rst, .regs, .hlk, .launches, .cores, .shoals, .gpr, .preds, .lflags, .sram, .sramUe, .mem, .queues, .act, .shl, .red, .ras, .free] a3 x) (@execSar a0 a1 a2 a3) := by
  unfold Sys2Proof.Machine.execSar
  refine HAll.next ?_
  refine Ext.step (State.intR_ext ..) rfl ?_
  exact Ext.refl _ _

theorem State.stm40Run_ext (a0 : State) (a1 : Thr) :
    Ext [.rst, .regs, .hlk, .launches, .cores, .shoals, .sram, .sramUe, .mem, .queues, .act, .shl, .red, .ras, .free] a0 (@State.stm40Run a0 a1) := by
  unfold Sys2Proof.Machine.State.stm40Run
  (dsimp only; split)
  refine Ext.ofO ?_ ‹_›
  refine OAll.step (State.m40Fault_ext ..) rfl ?_
  exact Ext.refl _ _
  refine Ext.step (State.nextPc_ext ..) rfl ?_
  refine foldl_all (P := fun x => Ext _ _ x) ?_ ?_
  exact Ext.refl _ _
  intro _
  intro _
  intro _
  refine Ext.step (State.srWrite_ext ..) rfl ?_
  refine Ext.step (State.srWrite_ext ..) rfl ?_
  with_reducible assumption

theorem execStm40_ext (a0 : ℕ) (a1 : ℕ) (a2 : Check) (a3 : State) :
    HAll (fun x => Ext [.rst, .regs, .hlk, .launches, .cores, .shoals, .sram, .sramUe, .mem, .queues, .act, .shl, .red, .ras, .free] a3 x) (@execStm40 a0 a1 a2 a3) := by
  unfold Sys2Proof.Machine.execStm40
  refine HAll.next ?_
  unfold Sys2Proof.Machine.State.issueWord
  split
  exact Ext.refl _ _
  refine Ext.ite ?_ ?_
  split
  refine Ext.step (State.thrFault_ext ..) rfl ?_
  refine Ext.step (State.countIssue_ext ..) rfl ?_
  exact Ext.refl _ _
  refine OAll.getD (P := fun x => Ext _ _ x) ?_ ?_
  refine OAll.some ?_
  refine Ext.step (State.stm40Run_ext ..) rfl ?_
  refine Ext.step (State.countIssue_ext ..) rfl ?_
  exact Ext.refl _ _
  exact Ext.refl _ _
  exact Ext.refl _ _

theorem execSt16_ext (a0 : ℕ) (a1 : ℕ) (a2 : Check) (a3 : State) :
    HAll (fun x => Ext [.rst, .regs, .hlk, .launches, .cores, .shoals, .sram, .sramUe, .mem, .queues, .act, .shl, .red, .ras, .free] a3 x) (@execSt16 a0 a1 a2 a3) := by
  unfold Sys2Proof.Machine.execSt16
  refine HAll.next ?_
  refine Ext.step (State.store_ext ..) rfl ?_
  exact Ext.refl _ _

theorem execFmul_ext (a0 : ℕ) (a1 : ℕ) (a2 : Check) (a3 : State) :
    HAll (fun x => Ext [.rst, .regs, .hlk, .launches, .cores, .shoals, .gpr, .preds, .lflags, .sram, .sramUe, .mem, .queues, .act, .shl, .red, .ras, .free] a3 x) (@execFmul a0 a1 a2 a3) := by
  unfold Sys2Proof.Machine.execFmul
  refine HAll.next ?_
  refine Ext.step (State.fp2_ext ..) rfl ?_
  exact Ext.refl _ _

theorem execShl_ext (a0 : ℕ) (a1 : ℕ) (a2 : Check) (a3 : State) :
    HAll (fun x => Ext [.rst, .regs, .hlk, .launches, .cores, .shoals, .gpr, .preds, .lflags, .sram, .sramUe, .mem, .queues, .act, .shl, .red, .ras, .free] a3 x) (@execShl a0 a1 a2 a3) := by
  unfold Sys2Proof.Machine.execShl
  refine HAll.next ?_
  refine Ext.step (State.intR_ext ..) rfl ?_
  exact Ext.refl _ _

theorem execVote_ext (a0 : ℕ) (a1 : ℕ) (a2 : Check) (a3 : State) :
    HAll (fun x => Ext [.rst, .regs, .hlk, .launches, .cores, .shoals, .gpr, .preds, .lflags, .sram, .sramUe, .mem, .queues, .act, .shl, .red, .ras, .free] a3 x) (@execVote a0 a1 a2 a3) := by
  unfold Sys2Proof.Machine.execVote
  refine HAll.next ?_
  unfold Sys2Proof.Machine.State.laneOp
  unfold Sys2Proof.Machine.State.issueWord
  split
  exact Ext.refl _ _
  refine Ext.ite ?_ ?_
  split
  refine Ext.step (State.thrFault_ext ..) rfl ?_
  refine Ext.step (State.countIssue_ext ..) rfl ?_
  exact Ext.refl _ _
  refine OAll.getD (P := fun x => Ext _ _ x) ?_ ?_
  refine OAll.some ?_
  refine Ext.step (State.nextPc_ext ..) rfl ?_
  refine Ext.step (State.applyLanes_ext ..) rfl ?_
  refine Ext.step (State.countIssue_ext ..) rfl ?_
  exact Ext.refl _ _
  exact Ext.refl _ _
  exact Ext.refl _ _

theorem execSt64_ext (a0 : ℕ) (a1 : ℕ) (a2 : Check) (a3 : State) :
    HAll (fun x => Ext [.rst, .regs, .hlk, .launches, .cores, .shoals, .sram, .sramUe, .mem, .queues, .act, .shl, .red, .ras, .free] a3 x) (@execSt64 a0 a1 a2 a3) := by
  unfold Sys2Proof.Machine.execSt64
  refine HAll.next ?_
  refine Ext.step (State.store_ext ..) rfl ?_
  exact Ext.refl _ _

theorem execShrImm_ext (a0 : ℕ) (a1 : ℕ) (a2 : Check) (a3 : State) :
    HAll (fun x => Ext [.rst, .regs, .hlk, .launches, .cores, .shoals, .gpr, .preds, .lflags, .sram, .sramUe, .mem, .queues, .act, .shl, .red, .ras, .free] a3 x) (@execShrImm a0 a1 a2 a3) := by
  unfold Sys2Proof.Machine.execShrImm
  refine HAll.next ?_
  refine Ext.step (State.intI_ext ..) rfl ?_
  exact Ext.refl _ _

theorem execCost_ext (a0 : ℕ) (a1 : ℕ) (a2 : Check) (a3 : State) :
    HAll (fun x => Ext [.rst, .regs, .hlk, .launches, .cores, .shoals, .gpr, .preds, .lflags, .sram, .sramUe, .mem, .queues, .act, .shl, .red, .ras, .free] a3 x) (@execCost a0 a1 a2 a3) := by
  unfold Sys2Proof.Machine.execCost
  refine HAll.next ?_
  refine Ext.step (State.transc_ext ..) rfl ?_
  exact Ext.refl _ _

theorem execXorImm_ext (a0 : ℕ) (a1 : ℕ) (a2 : Check) (a3 : State) :
    HAll (fun x => Ext [.rst, .regs, .hlk, .launches, .cores, .shoals, .gpr, .preds, .lflags, .sram, .sramUe, .mem, .queues, .act, .shl, .red, .ras, .free] a3 x) (@execXorImm a0 a1 a2 a3) := by
  unfold Sys2Proof.Machine.execXorImm
  refine HAll.next ?_
  refine Ext.step (State.intI_ext ..) rfl ?_
  exact Ext.refl _ _

theorem State.barRun_ext (a0 : State) (a1 : Thr) :
    OAll (fun x => Ext [.shoals] a0 x) (@State.barRun a0 a1) := by
  unfold Sys2Proof.Machine.State.barRun
  refine OAll.ite ?_ ?_
  refine OAll.none ?_
  refine OAll.ite ?_ ?_
  refine OAll.some ?_
  refine Ext.step (State.waitPc_ext ..) rfl ?_
  exact Ext.refl _ _
  refine OAll.none ?_

theorem execLd16_ext (a0 : ℕ) (a1 : ℕ) (a2 : Check) (a3 : State) :
    HAll (fun x => Ext [.rst, .regs, .hlk, .launches, .cores, .shoals, .gpr, .preds, .lflags, .sram, .sramUe, .mem, .queues, .act, .shl, .red, .ras, .free] a3 x) (@execLd16 a0 a1 a2 a3) := by
  unfold Sys2Proof.Machine.execLd16
  refine HAll.next ?_
  refine Ext.step (State.load_ext ..) rfl ?_
  exact Ext.refl _ _

theorem execBraAny_ext (a0 : ℕ) (a1 : ℕ) (a2 : Check) (a3 : State) :
    HAll (fun x => Ext [.rst, .regs, .hlk, .launches, .cores, .shoals, .sram, .sramUe, .mem, .queues, .act, .shl, .red, .ras, .free] a3 x) (@execBraAny a0 a1 a2 a3) := by
  unfold Sys2Proof.Machine.execBraAny
  refine HAll.next ?_
  refine Ext.step (State.branch_ext ..) rfl ?_
  exact Ext.refl _ _

theorem State.cvtRun_ext (a0 : State) (a1 : Thr) :
    OAll (fun x => Ext [.rst, .regs, .hlk, .launches, .cores, .shoals, .gpr, .preds, .lflags, .sram, .sramUe, .mem, .queues, .act, .shl, .red, .scale, .ras, .free] a0 x) (@State.cvtRun a0 a1) := by
  unfold Sys2Proof.Machine.State.cvtRun
  refine OAll.mapE (g := fun x => x.2) ?_ ?_
  refine OAll.step (State.convSlot_ext ..) rfl ?_
  exact Ext.refl _ _
  intro _
  intro _
  refine Ext.step (State.nextPc_ext ..) rfl ?_
  refine Ext.step (State.applyLanes_ext ..) rfl ?_
  with_reducible assumption

theorem execCvtctx_ext (a0 : ℕ) (a1 : ℕ) (a2 : Check) (a3 : State) :
    HAll (fun x => Ext [.rst, .regs, .hlk, .launches, .cores, .shoals, .sram, .sramUe, .mem, .queues, .act, .shl, .red, .ras, .free] a3 x) (@execCvtctx a0 a1 a2 a3) := by
  unfold Sys2Proof.Machine.execCvtctx
  refine HAll.next ?_
  unfold Sys2Proof.Machine.State.shoalOp
  unfold Sys2Proof.Machine.State.issueWord
  split
  exact Ext.refl _ _
  refine Ext.ite ?_ ?_
  split
  refine Ext.step (State.thrFault_ext ..) rfl ?_
  refine Ext.step (State.countIssue_ext ..) rfl ?_
  exact Ext.refl _ _
  split
  refine OAll.getD (P := fun x => Ext _ _ x) ?_ ?_
  (dsimp only; split)
  refine OAll.some ?_
  refine Ext.step (State.nextPc_ext ..) rfl ?_
  refine Ext.step (State.countIssue_ext ..) rfl ?_
  exact Ext.refl _ _
  refine OAll.step (State.cvtctxRun_ext ..) rfl ?_
  refine Ext.step (State.countIssue_ext ..) rfl ?_
  exact Ext.refl _ _
  exact Ext.refl _ _
  exact Ext.refl _ _
  exact Ext.refl _ _

theorem execLd32_ext (a0 : ℕ) (a1 : ℕ) (a2 : Check) (a3 : State) :
    HAll (fun x => Ext [.rst, .regs, .hlk, .launches, .cores, .shoals, .gpr, .preds, .lflags, .sram, .sramUe, .mem, .queues, .act, .shl, .red, .ras, .free] a3 x) (@execLd32 a0 a1 a2 a3) := by
  unfold Sys2Proof.Machine.execLd32
  refine HAll.next ?_
  refine Ext.step (State.load_ext ..) rfl ?_
  exact Ext.refl _ _

theorem State.mmaRun_ext (a0 : State) (a1 : Thr) (a2 : ℕ) :
    OAll (fun x => Ext [.rst, .regs, .hlk, .launches, .cores, .shoals, .sram, .sramUe, .mem, .queues, .act, .shl, .red, .ras, .free] a0 x) (@State.mmaRun a0 a1 a2) := by
  unfold Sys2Proof.Machine.State.mmaRun
  refine OAll.ite ?_ ?_
  refine OAll.none ?_
  refine OAll.some ?_
  refine Ext.step (State.nextPc_ext ..) rfl ?_
  refine Ext.step (State.setCore_ext ..) rfl ?_
  exact Ext.refl _ _

theorem execBar_ext (a0 : ℕ) (a1 : ℕ) (a2 : Check) (a3 : State) :
    HAll (fun x => Ext [.rst, .regs, .hlk, .launches, .cores, .shoals, .sram, .sramUe, .mem, .queues, .act, .shl, .red, .ras, .free] a3 x) (@execBar a0 a1 a2 a3) := by
  unfold Sys2Proof.Machine.execBar
  refine HAll.next ?_
  unfold Sys2Proof.Machine.State.issueWord
  split
  exact Ext.refl _ _
  refine Ext.ite ?_ ?_
  split
  refine Ext.step (State.thrFault_ext ..) rfl ?_
  refine Ext.step (State.countIssue_ext ..) rfl ?_
  exact Ext.refl _ _
  split
  refine OAll.getD (P := fun x => Ext _ _ x) ?_ ?_
  refine OAll.step (State.barRun_ext ..) rfl ?_
  refine Ext.step (State.countIssue_ext ..) rfl ?_
  exact Ext.refl _ _
  exact Ext.refl _ _
  exact Ext.refl _ _
  exact Ext.refl _ _

theorem execShfl_ext (a0 : ℕ) (a1 : ℕ) (a2 : Check) (a3 : State) :
    HAll (fun x => Ext [.rst, .regs, .hlk, .launches, .cores, .shoals, .gpr, .preds, .lflags, .sram, .sramUe, .mem, .queues, .act, .shl, .red, .ras, .free] a3 x) (@execShfl a0 a1 a2 a3) := by
  unfold Sys2Proof.Machine.execShfl
  refine HAll.next ?_
  unfold Sys2Proof.Machine.State.laneOp
  unfold Sys2Proof.Machine.State.issueWord
  split
  exact Ext.refl _ _
  refine Ext.ite ?_ ?_
  split
  refine Ext.step (State.thrFault_ext ..) rfl ?_
  refine Ext.step (State.countIssue_ext ..) rfl ?_
  exact Ext.refl _ _
  refine OAll.getD (P := fun x => Ext _ _ x) ?_ ?_
  refine OAll.some ?_
  refine Ext.step (State.nextPc_ext ..) rfl ?_
  refine Ext.step (State.applyLanes_ext ..) rfl ?_
  refine Ext.step (State.countIssue_ext ..) rfl ?_
  exact Ext.refl _ _
  exact Ext.refl _ _
  exact Ext.refl _ _

theorem execRisum_ext (a0 : ℕ) (a1 : ℕ) (a2 : Check) (a3 : State) :
    HAll (fun x => Ext [.rst, .regs, .hlk, .launches, .cores, .shoals, .gpr, .preds, .lflags, .sram, .sramUe, .mem, .queues, .act, .shl, .red, .ras, .free] a3 x) (@execRisum a0 a1 a2 a3) := by
  unfold Sys2Proof.Machine.execRisum
  refine HAll.next ?_
  unfold Sys2Proof.Machine.State.laneOp
  unfold Sys2Proof.Machine.State.issueWord
  split
  exact Ext.refl _ _
  refine Ext.ite ?_ ?_
  split
  refine Ext.step (State.thrFault_ext ..) rfl ?_
  refine Ext.step (State.countIssue_ext ..) rfl ?_
  exact Ext.refl _ _
  refine OAll.getD (P := fun x => Ext _ _ x) ?_ ?_
  refine OAll.some ?_
  refine Ext.step (State.nextPc_ext ..) rfl ?_
  refine Ext.step (State.applyLanes_ext ..) rfl ?_
  refine Ext.step (State.countIssue_ext ..) rfl ?_
  exact Ext.refl _ _
  exact Ext.refl _ _
  exact Ext.refl _ _

theorem execHadd2_ext (a0 : ℕ) (a1 : ℕ) (a2 : Check) (a3 : State) :
    HAll (fun x => Ext [.rst, .regs, .hlk, .launches, .cores, .shoals, .gpr, .preds, .lflags, .sram, .sramUe, .mem, .queues, .act, .shl, .red, .ras, .free] a3 x) (@execHadd2 a0 a1 a2 a3) := by
  unfold Sys2Proof.Machine.execHadd2
  refine HAll.next ?_
  refine Ext.step (State.packedOp_ext ..) rfl ?_
  exact Ext.refl _ _

theorem execLog2_ext (a0 : ℕ) (a1 : ℕ) (a2 : Check) (a3 : State) :
    HAll (fun x => Ext [.rst, .regs, .hlk, .launches, .cores, .shoals, .gpr, .preds, .lflags, .sram, .sramUe, .mem, .queues, .act, .shl, .red, .ras, .free] a3 x) (@execLog2 a0 a1 a2 a3) := by
  unfold Sys2Proof.Machine.execLog2
  refine HAll.next ?_
  refine Ext.step (State.transc_ext ..) rfl ?_
  exact Ext.refl _ _

theorem execAndImm_ext (a0 : ℕ) (a1 : ℕ) (a2 : Check) (a3 : State) :
    HAll (fun x => Ext [.rst, .regs, .hlk, .launches, .cores, .shoals, .gpr, .preds, .lflags, .sram, .sramUe, .mem, .queues, .act, .shl, .red, .ras, .free] a3 x) (@execAndImm a0 a1 a2 a3) := by
  unfold Sys2Proof.Machine.execAndImm
  refine HAll.next ?_
  refine Ext.step (State.intI_ext ..) rfl ?_
  exact Ext.refl _ _

theorem execCvt_ext (a0 : ℕ) (a1 : ℕ) (a2 : Check) (a3 : State) :
    HAll (fun x => Ext [.rst, .regs, .hlk, .launches, .cores, .shoals, .gpr, .preds, .lflags, .sram, .sramUe, .mem, .queues, .act, .shl, .red, .scale, .ras, .free] a3 x) (@execCvt a0 a1 a2 a3) := by
  unfold Sys2Proof.Machine.execCvt
  refine HAll.next ?_
  unfold Sys2Proof.Machine.State.issueWord
  split
  exact Ext.refl _ _
  refine Ext.ite ?_ ?_
  split
  refine Ext.step (State.thrFault_ext ..) rfl ?_
  refine Ext.step (State.countIssue_ext ..) rfl ?_
  exact Ext.refl _ _
  split
  refine OAll.getD (P := fun x => Ext _ _ x) ?_ ?_
  refine OAll.step (State.cvtRun_ext ..) rfl ?_
  refine Ext.step (State.countIssue_ext ..) rfl ?_
  exact Ext.refl _ _
  exact Ext.refl _ _
  exact Ext.refl _ _
  exact Ext.refl _ _

theorem execSt8_ext (a0 : ℕ) (a1 : ℕ) (a2 : Check) (a3 : State) :
    HAll (fun x => Ext [.rst, .regs, .hlk, .launches, .cores, .shoals, .sram, .sramUe, .mem, .queues, .act, .shl, .red, .ras, .free] a3 x) (@execSt8 a0 a1 a2 a3) := by
  unfold Sys2Proof.Machine.execSt8
  refine HAll.next ?_
  refine Ext.step (State.store_ext ..) rfl ?_
  exact Ext.refl _ _

theorem execSel_ext (a0 : ℕ) (a1 : ℕ) (a2 : Check) (a3 : State) :
    HAll (fun x => Ext [.rst, .regs, .hlk, .launches, .cores, .shoals, .gpr, .preds, .lflags, .sram, .sramUe, .mem, .queues, .act, .shl, .red, .ras, .free] a3 x) (@execSel a0 a1 a2 a3) := by
  unfold Sys2Proof.Machine.execSel
  refine HAll.next ?_
  unfold Sys2Proof.Machine.State.laneOp
  unfold Sys2Proof.Machine.State.issueWord
  split
  exact Ext.refl _ _
  refine Ext.ite ?_ ?_
  split
  refine Ext.step (State.thrFault_ext ..) rfl ?_
  refine Ext.step (State.countIssue_ext ..) rfl ?_
  exact Ext.refl _ _
  refine OAll.getD (P := fun x => Ext _ _ x) ?_ ?_
  refine OAll.some ?_
  refine Ext.step (State.nextPc_ext ..) rfl ?_
  refine Ext.step (State.applyLanes_ext ..) rfl ?_
  refine Ext.step (State.countIssue_ext ..) rfl ?_
  exact Ext.refl _ _
  exact Ext.refl _ _
  exact Ext.refl _ _

theorem execShr_ext (a0 : ℕ) (a1 : ℕ) (a2 : Check) (a3 : State) :
    HAll (fun x => Ext [.rst, .regs, .hlk, .launches, .cores, .shoals, .gpr, .preds, .lflags, .sram, .sramUe, .mem, .queues, .act, .shl, .red, .ras, .free] a3 x) (@execShr a0 a1 a2 a3) := by
  unfold Sys2Proof.Machine.execShr
  refine HAll.next ?_
  refine Ext.step (State.intR_ext ..) rfl ?_
  exact Ext.refl _ _

theorem execRsqrt_ext (a0 : ℕ) (a1 : ℕ) (a2 : Check) (a3 : State) :
    HAll (fun x => Ext [.rst, .regs, .hlk, .launches, .cores, .shoals, .gpr, .preds, .lflags, .sram, .sramUe, .mem, .queues, .act, .shl, .red, .ras, .free] a3 x) (@execRsqrt a0 a1 a2 a3) := by
  unfold Sys2Proof.Machine.execRsqrt
  refine HAll.next ?_
  refine Ext.step (State.transc_ext ..) rfl ?_
  exact Ext.refl _ _

theorem execMma_ext (a0 : ℕ) (a1 : ℕ) (a2 : Check) (a3 : State) :
    HAll (fun x => Ext [.rst, .regs, .hlk, .launches, .cores, .shoals, .sram, .sramUe, .mem, .queues, .act, .shl, .red, .ras, .free] a3 x) (@execMma a0 a1 a2 a3) := by
  unfold Sys2Proof.Machine.execMma
  refine HAll.next ?_
  unfold Sys2Proof.Machine.State.shoalOp
  unfold Sys2Proof.Machine.State.issueWord
  split
  exact Ext.refl _ _
  refine Ext.ite ?_ ?_
  split
  refine Ext.step (State.thrFault_ext ..) rfl ?_
  refine Ext.step (State.countIssue_ext ..) rfl ?_
  exact Ext.refl _ _
  split
  refine OAll.getD (P := fun x => Ext _ _ x) ?_ ?_
  (dsimp only; split)
  refine OAll.some ?_
  refine Ext.step (State.nextPc_ext ..) rfl ?_
  refine Ext.step (State.countIssue_ext ..) rfl ?_
  exact Ext.refl _ _
  refine OAll.step (State.mmaRun_ext ..) rfl ?_
  refine Ext.step (State.countIssue_ext ..) rfl ?_
  exact Ext.refl _ _
  exact Ext.refl _ _
  exact Ext.refl _ _
  exact Ext.refl _ _

theorem execLd64_ext (a0 : ℕ) (a1 : ℕ) (a2 : Check) (a3 : State) :
    HAll (fun x => Ext [.rst, .regs, .hlk, .launches, .cores, .shoals, .gpr, .preds, .lflags, .sram, .sramUe, .mem, .queues, .act, .shl, .red, .ras, .free] a3 x) (@execLd64 a0 a1 a2 a3) := by
  unfold Sys2Proof.Machine.execLd64
  refine HAll.next ?_
  refine Ext.step (State.load_ext ..) rfl ?_
  exact Ext.refl _ _

theorem execOrImm_ext (a0 : ℕ) (a1 : ℕ) (a2 : Check) (a3 : State) :
    HAll (fun x => Ext [.rst, .regs, .hlk, .launches, .cores, .shoals, .gpr, .preds, .lflags, .sram, .sramUe, .mem, .queues, .act, .shl, .red, .ras, .free] a3 x) (@execOrImm a0 a1 a2 a3) := by
  unfold Sys2Proof.Machine.execOrImm
  refine HAll.next ?_
  refine Ext.step (State.intI_ext ..) rfl ?_
  exact Ext.refl _ _

theorem execEfclr_ext (a0 : ℕ) (a1 : ℕ) (a2 : Check) (a3 : State) :
    HAll (fun x => Ext [.rst, .regs, .hlk, .launches, .cores, .shoals, .sram, .sramUe, .mem, .queues, .act, .shl, .red, .ras, .free] a3 x) (@execEfclr a0 a1 a2 a3) := by
  unfold Sys2Proof.Machine.execEfclr
  refine HAll.next ?_
  unfold Sys2Proof.Machine.State.shoalOp
  unfold Sys2Proof.Machine.State.issueWord
  split
  exact Ext.refl _ _
  refine Ext.ite ?_ ?_
  split
  refine Ext.step (State.thrFault_ext ..) rfl ?_
  refine Ext.step (State.countIssue_ext ..) rfl ?_
  exact Ext.refl _ _
  split
  refine OAll.getD (P := fun x => Ext _ _ x) ?_ ?_
  (dsimp only; split)
  refine OAll.some ?_
  refine Ext.step (State.nextPc_ext ..) rfl ?_
  refine Ext.step (State.countIssue_ext ..) rfl ?_
  exact Ext.refl _ _
  refine OAll.ite ?_ ?_
  refine OAll.some ?_
  refine Ext.step (State.nextPc_ext ..) rfl ?_
  refine Ext.step (State.clearFlag_ext ..) rfl ?_
  refine Ext.step (State.countIssue_ext ..) rfl ?_
  exact Ext.refl _ _
  refine OAll.none ?_
  exact Ext.refl _ _
  exact Ext.refl _ _
  exact Ext.refl _ _

theorem execSreg_ext (a0 : ℕ) (a1 : ℕ) (a2 : Check) (a3 : State) :
    HAll (fun x => Ext [.rst, .regs, .hlk, .launches, .cores, .shoals, .gpr, .preds, .lflags, .sram, .sramUe, .mem, .queues, .act, .shl, .red, .ras, .free] a3 x) (@execSreg a0 a1 a2 a3) := by
  unfold Sys2Proof.Machine.execSreg
  refine HAll.next ?_
  unfold Sys2Proof.Machine.State.laneOp
  unfold Sys2Proof.Machine.State.issueWord
  split
  exact Ext.refl _ _
  refine Ext.ite ?_ ?_
  split
  refine Ext.step (State.thrFault_ext ..) rfl ?_
  refine Ext.step (State.countIssue_ext ..) rfl ?_
  exact Ext.refl _ _
  refine OAll.getD (P := fun x => Ext _ _ x) ?_ ?_
  refine OAll.some ?_
  refine Ext.step (State.nextPc_ext ..) rfl ?_
  refine Ext.step (State.applyLanes_ext ..) rfl ?_
  refine Ext.step (State.countIssue_ext ..) rfl ?_
  exact Ext.refl _ _
  exact Ext.refl _ _
  exact Ext.refl _ _

theorem execIsetp_ext (a0 : ℕ) (a1 : ℕ) (a2 : Check) (a3 : State) :
    HAll (fun x => Ext [.rst, .regs, .hlk, .launches, .cores, .shoals, .gpr, .preds, .lflags, .sram, .sramUe, .mem, .queues, .act, .shl, .red, .ras, .free] a3 x) (@execIsetp a0 a1 a2 a3) := by
  unfold Sys2Proof.Machine.execIsetp
  refine HAll.next ?_
  unfold Sys2Proof.Machine.State.laneOp
  unfold Sys2Proof.Machine.State.issueWord
  (dsimp only; split)
  exact Ext.refl _ _
  refine Ext.ite ?_ ?_
  split
  refine Ext.step (State.thrFault_ext ..) rfl ?_
  refine Ext.step (State.countIssue_ext ..) rfl ?_
  exact Ext.refl _ _
  refine OAll.getD (P := fun x => Ext _ _ x) ?_ ?_
  refine OAll.some ?_
  refine Ext.step (State.nextPc_ext ..) rfl ?_
  refine Ext.step (State.applyLanes_ext ..) rfl ?_
  refine Ext.step (State.countIssue_ext ..) rfl ?_
  exact Ext.refl _ _
  exact Ext.refl _ _
  exact Ext.refl _ _

theorem execXor_ext (a0 : ℕ) (a1 : ℕ) (a2 : Check) (a3 : State) :
    HAll (fun x => Ext [.rst, .regs, .hlk, .launches, .cores, .shoals, .gpr, .preds, .lflags, .sram, .sramUe, .mem, .queues, .act, .shl, .red, .ras, .free] a3 x) (@execXor a0 a1 a2 a3) := by
  unfold Sys2Proof.Machine.execXor
  refine HAll.next ?_
  refine Ext.step (State.intR_ext ..) rfl ?_
  exact Ext.refl _ _

theorem execShlImm_ext (a0 : ℕ) (a1 : ℕ) (a2 : Check) (a3 : State) :
    HAll (fun x => Ext [.rst, .regs, .hlk, .launches, .cores, .shoals, .gpr, .preds, .lflags, .sram, .sramUe, .mem, .queues, .act, .shl, .red, .ras, .free] a3 x) (@execShlImm a0 a1 a2 a3) := by
  unfold Sys2Proof.Machine.execShlImm
  refine HAll.next ?_
  refine Ext.step (State.intI_ext ..) rfl ?_
  exact Ext.refl _ _

theorem execFadd_ext (a0 : ℕ) (a1 : ℕ) (a2 : Check) (a3 : State) :
    HAll (fun x => Ext [.rst, .regs, .hlk, .launches, .cores, .shoals, .gpr, .preds, .lflags, .sram, .sramUe, .mem, .queues, .act, .shl, .red, .ras, .free] a3 x) (@execFadd a0 a1 a2 a3) := by
  unfold Sys2Proof.Machine.execFadd
  refine HAll.next ?_
  refine Ext.step (State.fp2_ext ..) rfl ?_
  exact Ext.refl _ _

end Sys2Proof.Machine
end

