-- ==== Sys2Proof/Laws/FrameChain.lean ====
section
/-! SUPPORT. What each definition of Machine/Chain.lean may change: every part that its lemma does not name stays, and memory keeps
its canonical form. -/

set_option maxRecDepth 4000

namespace Sys2Proof.Machine

theorem State.chainRows_ext (a0 : State) (a1 : ℕ) (a2 : ℕ) (a3 : CDesc) (a4 : ℕ) (a5 : List (List ℕ)) (a6 : List (List ℕ)) :
    Ext [.sram, .sramUe] a0 (@State.chainRows a0 a1 a2 a3 a4 a5 a6) := by
  unfold Sys2Proof.Machine.State.chainRows
  refine Ext.ite ?_ ?_
  refine foldl_all (P := fun x => Ext _ _ x) ?_ ?_
  exact Ext.refl _ _
  intro _
  intro _
  intro _
  refine Ext.step (State.srWrite_ext ..) rfl ?_
  with_reducible assumption
  refine Ext.step (State.srWrite_ext ..) rfl ?_
  refine foldl_all (P := fun x => Ext _ _ x) ?_ ?_
  exact Ext.refl _ _
  intro _
  intro _
  intro _
  refine Ext.step (State.srWrite_ext ..) rfl ?_
  with_reducible assumption

theorem State.chainOut_ext (a0 : State) (a1 : ℕ) (a2 : ℕ) (a3 : CDesc) (a4 : Word) (a5 : ℕ) (a6 : List (List ℕ)) :
    OAll (fun x => Ext [.rst, .regs, .hlk, .cores, .sram, .sramUe, .mem, .scale, .ras, .free] a0 x.1) (@State.chainOut a0 a1 a2 a3 a4 a5 a6) := by
  unfold Sys2Proof.Machine.State.chainOut
  refine OAll.ite ?_ ?_
  refine OAll.mapE (g := fun x => x.2) ?_ ?_
  refine OAll.step (State.convSlot_ext ..) rfl ?_
  exact Ext.refl _ _
  intro _
  intro _
  refine Ext.at1 ?_
  refine Ext.step (State.chainRows_ext ..) rfl ?_
  with_reducible assumption
  refine OAll.some ?_
  refine Ext.at1 ?_
  refine Ext.step (State.chainRows_ext ..) rfl ?_
  exact Ext.refl _ _

theorem State.chainUe_ext (a0 : State) (a1 : Thr) (a2 : ℕ) (a3 : CDesc) :
    Ext [.rst, .regs, .hlk, .cores, .ras, .free] a0 (@State.chainUe a0 a1 a2 a3) := by
  unfold Sys2Proof.Machine.State.chainUe
  split
  refine Ext.step (State.reportUe_ext ..) rfl ?_
  exact Ext.refl _ _
  exact Ext.refl _ _

theorem State.chainRun_ext (a0 : State) (a1 : Thr) (a2 : CDesc) :
    OAll (fun x => Ext [.rst, .regs, .hlk, .cores, .shoals, .lflags, .sram, .sramUe, .mem, .scale, .ras, .free] a0 x) (@State.chainRun a0 a1 a2) := by
  unfold Sys2Proof.Machine.State.chainRun
  refine OAll.bindE (g := fun x => x.1) ?_ ?_
  refine OAll.ite ?_ ?_
  refine OAll.some ?_
  refine Ext.at1 ?_
  refine Ext.step (State.chainUe_ext ..) rfl ?_
  exact Ext.refl _ _
  refine OAll.step (State.chainOut_ext ..) rfl ?_
  refine Ext.step (State.chainUe_ext ..) rfl ?_
  exact Ext.refl _ _
  intro _
  intro _
  refine OAll.mapE (g := fun x => x.1) ?_ ?_
  refine OAll.ite ?_ ?_
  refine OAll.some ?_
  refine Ext.at1 ?_
  with_reducible assumption
  refine OAll.step (State.chainOut_ext ..) rfl ?_
  with_reducible assumption
  intro _
  intro _
  refine Ext.step (State.gatherFlags_ext ..) rfl ?_
  refine foldl_all (P := fun x => Ext _ _ x) ?_ ?_
  refine Ext.ite ?_ ?_
  refine foldl_all (P := fun x => Ext _ _ x) ?_ ?_
  with_reducible assumption
  intro _
  intro _
  intro _
  refine Ext.step (State.srWrite_ext ..) rfl ?_
  with_reducible assumption
  with_reducible assumption
  intro _
  intro _
  intro _
  refine Ext.ite ?_ ?_
  with_reducible assumption
  refine Ext.step (State.setLaneFlags_ext ..) rfl ?_
  with_reducible assumption

theorem State.chainEnd_ext (a0 : State) (a1 : ℕ) (a2 : ℕ) :
    Ext [.rst, .regs, .hlk, .launches, .cores, .shoals, .lflags, .sram, .sramUe, .mem, .queues, .act, .shl, .red, .scale, .ras, .free] a0 (@State.chainEnd a0 a1 a2) := by
  unfold Sys2Proof.Machine.State.chainEnd
  (dsimp only; split)
  split
  split
  refine Ext.step (State.resumeShoal_ext ..) rfl ?_
  refine Ext.step (State.bump_ext ..) rfl ?_
  refine Ext.step (State.bump_ext ..) rfl ?_
  refine Ext.ofO ?_ ‹_›
  refine OAll.step (State.chainRun_ext ..) rfl ?_
  exact Ext.refl _ _
  exact Ext.refl _ _
  exact Ext.refl _ _
  exact Ext.refl _ _

theorem State.chainIssue_ext (a0 : State) (a1 : Thr) (a2 : ℕ) :
    OAll (fun x => Ext [.rst, .regs, .hlk, .launches, .cores, .shoals, .sram, .sramUe, .mem, .queues, .act, .shl, .red, .ras, .free] a0 x) (@State.chainIssue a0 a1 a2) := by
  unfold Sys2Proof.Machine.State.chainIssue
  refine OAll.ite ?_ ?_
  refine OAll.none ?_
  refine OAll.ite ?_ ?_
  refine OAll.some ?_
  refine Ext.step (State.thrFault_ext ..) rfl ?_
  exact Ext.refl _ _
  refine OAll.ite ?_ ?_
  refine OAll.some ?_
  refine Ext.step (State.regionFault_ext ..) rfl ?_
  exact Ext.refl _ _
  (dsimp only; split)
  refine OAll.some ?_
  refine Ext.step (State.thrFault_ext ..) rfl ?_
  exact Ext.refl _ _
  split
  refine OAll.some ?_
  refine Ext.step (State.regionFault_ext ..) rfl ?_
  exact Ext.refl _ _
  refine OAll.some ?_
  refine Ext.step (State.waitPc_ext ..) rfl ?_
  exact Ext.refl _ _

theorem execChain_ext (a0 : ℕ) (a1 : ℕ) (a2 : Check) (a3 : State) :
    HAll (fun x => Ext [.rst, .regs, .hlk, .launches, .cores, .shoals, .sram, .sramUe, .mem, .queues, .act, .shl, .red, .ras, .free] a3 x) (@execChain a0 a1 a2 a3) := by
  unfold Sys2Proof.Machine.execChain
  refine HAll.next ?_
  unfold Sys2Proof.Machine.State.shoalOp
  unfold Sys2Proof.Machine.State.issueWord
  split
  exact Ext.refl _ _
  refine Ext.ite ?_ ?_
  split
  refine Ext.step (State.thrFault_ext ..) rfl ?_
  refine Ext.step (State.countIssue_ext ..) rfl ?_
  exact Ext.refl _ _
  split
  refine OAll.getD (P := fun x => Ext _ _ x) ?_ ?_
  (dsimp only; split)
  refine OAll.some ?_
  refine Ext.step (State.nextPc_ext ..) rfl ?_
  refine Ext.step (State.countIssue_ext ..) rfl ?_
  exact Ext.refl _ _
  refine OAll.step (State.chainIssue_ext ..) rfl ?_
  refine Ext.step (State.countIssue_ext ..) rfl ?_
  exact Ext.refl _ _
  exact Ext.refl _ _
  exact Ext.refl _ _
  exact Ext.refl _ _

theorem execChainRetire_ext (a0 : ℕ) (a1 : ℕ) (a2 : State) :
    HAll (fun x => Ext [.rst, .regs, .hlk, .launches, .cores, .shoals, .lflags, .sram, .sramUe, .mem, .queues, .act, .shl, .red, .scale, .ras, .free] a2 x) (@execChainRetire a0 a1 a2) := by
  unfold Sys2Proof.Machine.execChainRetire
  refine HAll.next ?_
  refine Ext.ite ?_ ?_
  refine Ext.step (State.chainEnd_ext ..) rfl ?_
  exact Ext.refl _ _
  exact Ext.refl _ _

end Sys2Proof.Machine
end

