-- ==== Sys2Proof/Laws/FrameMatrix.lean ====
section
/-! SUPPORT. What each definition of Machine/Matrix.lean may change: every part that its lemma does not name stays, and memory keeps
its canonical form. -/

set_option maxRecDepth 4000

namespace Sys2Proof.Machine

theorem State.tileFault_ext (a0 : State) (a1 : ℕ) (a2 : Tile) (a3 : ℕ) :
    Ext [.rst, .regs, .hlk, .launches, .cores, .shoals, .sram, .sramUe, .mem, .queues, .act, .shl, .red, .ras, .free] a0 (@State.tileFault a0 a1 a2 a3) := by
  unfold Sys2Proof.Machine.State.tileFault
  refine Ext.step (State.threadFault_ext ..) rfl ?_
  exact Ext.refl _ _

theorem State.tileCheck_ext (a0 : State) (a1 : ℕ) (a2 : Tile) (a3 : Bool) :
    Ext [.rst, .regs, .hlk, .launches, .cores, .shoals, .sram, .sramUe, .mem, .queues, .act, .shl, .red, .ras, .free] a0 (@State.tileCheck a0 a1 a2 a3) := by
  unfold Sys2Proof.Machine.State.tileCheck
  refine Ext.ite ?_ ?_
  refine Ext.step (State.setCore_ext ..) rfl ?_
  refine Ext.step (State.tileFault_ext ..) rfl ?_
  refine Ext.step (State.detected_ext ..) rfl ?_
  refine Ext.step (State.bump_ext ..) rfl ?_
  exact Ext.refl _ _
  refine Ext.step (State.tileFault_ext ..) rfl ?_
  refine Ext.step (State.detected_ext ..) rfl ?_
  refine Ext.step (State.bump_ext ..) rfl ?_
  exact Ext.refl _ _

theorem execMxDebugResume_ext (a0 : ℕ) (a1 : State) :
    HAll (fun x => Ext [.regs, .hlk, .cores] a1 x) (@execMxDebugResume a0 a1) := by
  unfold Sys2Proof.Machine.execMxDebugResume
  refine HAll.next ?_
  refine Ext.ite ?_ ?_
  exact Ext.refl _ _
  refine Ext.ite ?_ ?_
  refine Ext.step (State.refuse_ext ..) rfl ?_
  exact Ext.refl _ _
  (dsimp only; split)
  refine Ext.ite ?_ ?_
  refine Ext.step (State.setCore_ext ..) rfl ?_
  exact Ext.refl _ _
  exact Ext.refl _ _
  exact Ext.refl _ _

theorem State.blockSlot_ext (a0 : State) (a1 : ℕ) (a2 : ℕ) (a3 : ℕ) (a4 : List Num) (a5 : List (ℕ × List FRes)) :
    OAll (fun x => Ext [.rst, .regs, .hlk, .cores, .mem, .scale, .ras, .free] a0 x.1) (@State.blockSlot a0 a1 a2 a3 a4 a5) := by
  unfold Sys2Proof.Machine.State.blockSlot
  refine OAll.ite ?_ ?_
  refine OAll.some ?_
  refine Ext.at1 ?_
  exact Ext.refl _ _
  refine OAll.map (OAll.triv _) ?_
  intro _
  intro _
  (dsimp only; split)
  refine Ext.at1 ?_
  refine Ext.step (State.slotFold_ext ..) rfl ?_
  exact Ext.refl _ _
  refine Ext.at1 ?_
  refine Ext.step (State.freeBytes_ext ..) rfl ?_
  refine Ext.step (State.slotFold_ext ..) rfl ?_
  exact Ext.refl _ _

theorem State.tileCount_ext (a0 : State) (a1 : ℕ) (a2 : Tile) :
    Ext [.regs, .hlk] a0 (@State.tileCount a0 a1 a2) := by
  unfold Sys2Proof.Machine.State.tileCount
  refine Ext.ite ?_ ?_
  refine Ext.step (State.bump_ext ..) rfl ?_
  exact Ext.refl _ _
  refine Ext.step (State.bump_ext ..) rfl ?_
  refine Ext.step (State.bump_ext ..) rfl ?_
  refine Ext.step (State.bump_ext ..) rfl ?_
  exact Ext.refl _ _

theorem State.tileLeave_ext (a0 : State) (a1 : ℕ) (a2 : Tile) (a3 : List W32) :
    Ext [.regs, .hlk, .cores] a0 (@State.tileLeave a0 a1 a2 a3) := by
  unfold Sys2Proof.Machine.State.tileLeave
  refine Ext.step (State.tileCount_ext ..) rfl ?_
  refine Ext.step (State.setCore_ext ..) rfl ?_
  exact Ext.refl _ _

theorem State.tileConvert_ext (a0 : State) (a1 : ℕ) (a2 : Tile) (a3 : List TileElem) :
    OAll (fun x => Ext [.rst, .regs, .hlk, .cores, .mem, .scale, .ras, .free] a0 x.1) (@State.tileConvert a0 a1 a2 a3) := by
  unfold Sys2Proof.Machine.State.tileConvert
  refine OAll.bind (OAll.triv _) ?_
  intro _
  intro _
  refine OAll.bind (OAll.triv _) ?_
  intro _
  intro _
  refine OAll.ite ?_ ?_
  refine OAll.mapE (g := fun x => x.2) ?_ ?_
  refine OAll.step (State.convSlot_ext ..) rfl ?_
  exact Ext.refl _ _
  intro _
  intro _
  refine Ext.at1 ?_
  with_reducible assumption
  refine OAll.step (State.blockSlot_ext ..) rfl ?_
  exact Ext.refl _ _

theorem State.tileFlags_ext (a0 : State) (a1 : ℕ) (a2 : Tile) (a3 : ℕ) :
    Ext [.regs, .hlk, .shoals, .lflags] a0 (@State.tileFlags a0 a1 a2 a3) := by
  unfold Sys2Proof.Machine.State.tileFlags
  refine Ext.ite ?_ ?_
  exact Ext.refl _ _
  refine Ext.step (State.bump_ext ..) rfl ?_
  refine Ext.step (State.orLaunchWord_ext ..) rfl ?_
  split
  refine Ext.ite ?_ ?_
  refine Ext.step (State.setLaneFlags_ext ..) rfl ?_
  refine Ext.step (State.setShoal_ext ..) rfl ?_
  exact Ext.refl _ _
  exact Ext.refl _ _
  exact Ext.refl _ _

theorem State.tileDone_ext (a0 : State) (a1 : ℕ) (a2 : Tile) (a3 : Check) :
    Ext [.rst, .regs, .hlk, .launches, .cores, .shoals, .lflags, .sram, .sramUe, .mem, .queues, .act, .shl, .red, .scale, .ras, .free] a0 (@State.tileDone a0 a1 a2 a3) := by
  unfold Sys2Proof.Machine.State.tileDone
  refine Ext.ite ?_ ?_
  exact Ext.refl _ _
  refine Ext.ite ?_ ?_
  refine Ext.step (State.tileLeave_ext ..) rfl ?_
  exact Ext.refl _ _
  refine Ext.ite ?_ ?_
  refine Ext.step (State.tileCheck_ext ..) rfl ?_
  exact Ext.refl _ _
  refine Ext.ite ?_ ?_
  refine Ext.step (State.tileCheck_ext ..) rfl ?_
  refine Ext.step (State.bump_ext ..) rfl ?_
  exact Ext.refl _ _
  (dsimp only; split)
  exact Ext.refl _ _
  split
  exact Ext.refl _ _
  refine Ext.step (State.tileLeave_ext ..) rfl ?_
  refine Ext.ite ?_ ?_
  refine Ext.step (State.tileFlags_ext ..) rfl ?_
  refine Ext.ofO1 ?_ ‹_›
  refine OAll.step (State.tileConvert_ext ..) rfl ?_
  exact Ext.refl _ _
  refine foldl_all (P := fun x => Ext _ _ x) ?_ ?_
  refine Ext.step (State.tileFlags_ext ..) rfl ?_
  refine Ext.ofO1 ?_ ‹_›
  refine OAll.step (State.tileConvert_ext ..) rfl ?_
  exact Ext.refl _ _
  intro _
  intro _
  intro _
  refine Ext.step (State.srWrite_ext ..) rfl ?_
  with_reducible assumption

theorem State.tileReplay_ext (a0 : State) (a1 : ℕ) (a2 : Tile) (a3 : Check) :
    Ext [.rst, .regs, .hlk, .launches, .cores, .shoals, .sram, .sramUe, .mem, .queues, .act, .shl, .red, .ras, .free] a0 (@State.tileReplay a0 a1 a2 a3) := by
  unfold Sys2Proof.Machine.State.tileReplay
  refine Ext.ite ?_ ?_
  exact Ext.refl _ _
  refine Ext.ite ?_ ?_
  exact Ext.refl _ _
  refine Ext.ite ?_ ?_
  refine Ext.step (State.tileCheck_ext ..) rfl ?_
  exact Ext.refl _ _
  refine Ext.step (State.setCore_ext ..) rfl ?_
  exact Ext.refl _ _

theorem State.tileStart_ext (a0 : State) (a1 : ℕ) (a2 : Tile) :
    Ext [.rst, .regs, .hlk, .launches, .cores, .shoals, .sram, .sramUe, .mem, .queues, .act, .shl, .red, .ras, .free] a0 (@State.tileStart a0 a1 a2) := by
  unfold Sys2Proof.Machine.State.tileStart
  refine Ext.ite ?_ ?_
  refine Ext.step (State.tileFault_ext ..) rfl ?_
  exact Ext.refl _ _
  refine Ext.ite ?_ ?_
  refine Ext.step (State.launchEnd_ext ..) rfl ?_
  exact Ext.refl _ _
  (dsimp only; split)
  refine Ext.step (State.tileFault_ext ..) rfl ?_
  exact Ext.refl _ _
  split
  refine Ext.step (State.launchEnd_ext ..) rfl ?_
  exact Ext.refl _ _
  refine Ext.step (State.setCore_ext ..) rfl ?_
  exact Ext.refl _ _

theorem execTileOverflowReplay_ext (a0 : ℕ) (a1 : Check) (a2 : State) :
    HAll (fun x => Ext [.rst, .regs, .hlk, .launches, .cores, .shoals, .sram, .sramUe, .mem, .queues, .act, .shl, .red, .ras, .free] a2 x) (@execTileOverflowReplay a0 a1 a2) := by
  unfold Sys2Proof.Machine.execTileOverflowReplay
  refine HAll.next ?_
  split
  refine Ext.step (State.tileReplay_ext ..) rfl ?_
  exact Ext.refl _ _
  exact Ext.refl _ _

theorem execMxDebugHalt_ext (a0 : ℕ) (a1 : State) :
    HAll (fun x => Ext [.regs, .cores] a1 x) (@execMxDebugHalt a0 a1) := by
  unfold Sys2Proof.Machine.execMxDebugHalt
  refine HAll.next ?_
  (dsimp only; split)
  refine Ext.ite ?_ ?_
  refine Ext.step (State.p_ext ..) rfl ?_
  refine Ext.step (State.setCore_ext ..) rfl ?_
  exact Ext.refl _ _
  exact Ext.refl _ _
  exact Ext.refl _ _

theorem execMatrixTileStart_ext (a0 : ℕ) (a1 : State) :
    HAll (fun x => Ext [.rst, .regs, .hlk, .launches, .cores, .shoals, .sram, .sramUe, .mem, .queues, .act, .shl, .red, .ras, .free] a1 x) (@execMatrixTileStart a0 a1) := by
  unfold Sys2Proof.Machine.execMatrixTileStart
  refine HAll.next ?_
  split
  refine Ext.step (State.tileStart_ext ..) rfl ?_
  exact Ext.refl _ _
  exact Ext.refl _ _

theorem execMatrixTileDone_ext (a0 : ℕ) (a1 : Check) (a2 : State) :
    HAll (fun x => Ext [.rst, .regs, .hlk, .launches, .cores, .shoals, .lflags, .sram, .sramUe, .mem, .queues, .act, .shl, .red, .scale, .ras, .free] a2 x) (@execMatrixTileDone a0 a1 a2) := by
  unfold Sys2Proof.Machine.execMatrixTileDone
  refine HAll.next ?_
  split
  refine Ext.step (State.tileDone_ext ..) rfl ?_
  exact Ext.refl _ _
  exact Ext.refl _ _

end Sys2Proof.Machine
end

