-- ==== Sys2Proof/Laws/FrameRequests.lean ====
section
/-! SUPPORT. What each definition of Machine/Requests.lean may change: every part that its lemma does not name stays, and memory keeps
its canonical form. -/

set_option maxRecDepth 4000

namespace Sys2Proof.Machine

theorem State.requestReset_ext (a0 : State) (a1 : RstClass) (a2 : ℕ) (a3 : ℕ) :
    Ext [.rst, .regs, .hlk] a0 (@State.requestReset a0 a1 a2 a3) := by
  unfold Sys2Proof.Machine.State.requestReset
  refine Ext.ite ?_ ?_
  refine Ext.step (State.raise_ext ..) rfl ?_
  exact Ext.refl _ _
  refine Ext.ite ?_ ?_
  exact Ext.refl _ _
  refine Ext.step (Ext.set_rst ..) rfl ?_
  exact Ext.refl _ _

end Sys2Proof.Machine
end

