-- ==== Sys2Proof/Laws/FrameCores.lean ====
section
/-! SUPPORT. What each definition of Machine/Cores.lean may change: every part that its lemma does not name stays, and memory keeps
its canonical form. -/

set_option maxRecDepth 4000

namespace Sys2Proof.Machine

theorem State.launchFinish_ext (a0 : State) (a1 : ℕ) (a2 : Launch) (a3 : ℕ) :
    Ext [.regs, .hlk, .launches, .cores, .red] a0 (@State.launchFinish a0 a1 a2 a3) := by
  unfold Sys2Proof.Machine.State.launchFinish
  refine Ext.ite ?_ ?_
  refine Ext.step (State.setLaunch_ext ..) rfl ?_
  refine Ext.step (State.finishCmd_ext ..) rfl ?_
  refine Ext.step (State.setCore_ext ..) rfl ?_
  refine Ext.step (State.gather_ext ..) rfl ?_
  exact Ext.refl _ _
  refine Ext.step (State.setLaunch_ext ..) rfl ?_
  refine Ext.step (State.setCore_ext ..) rfl ?_
  refine Ext.step (State.gather_ext ..) rfl ?_
  exact Ext.refl _ _

theorem execLaunchEndOnCore_ext (a0 : ℕ) (a1 : Bool) (a2 : State) :
    HAll (fun x => Ext [.regs, .hlk, .launches, .cores, .red] a2 x) (@execLaunchEndOnCore a0 a1 a2) := by
  unfold Sys2Proof.Machine.execLaunchEndOnCore
  refine HAll.next ?_
  split
  split
  refine Ext.ite ?_ ?_
  refine Ext.step (State.launchFinish_ext ..) rfl ?_
  exact Ext.refl _ _
  exact Ext.refl _ _
  exact Ext.refl _ _
  exact Ext.refl _ _

theorem State.launchShoal_ext (a0 : State) (a1 : ℕ) (a2 : Launch) (a3 : ℕ) (a4 : ℕ) :
    Ext [.shoals, .gpr, .preds, .lflags] a0 (@State.launchShoal a0 a1 a2 a3 a4) := by
  unfold Sys2Proof.Machine.State.launchShoal
  refine Ext.step (State.startShoal_ext ..) rfl ?_
  exact Ext.refl _ _

theorem State.launchBegin_ext (a0 : State) (a1 : ℕ) (a2 : Launch) (a3 : ℕ) :
    Ext [.rst, .regs, .hlk, .launches, .cores, .shoals, .gpr, .preds, .lflags, .sram, .sramUe, .mem, .queues, .act, .shl, .red, .ras, .free] a0 (@State.launchBegin a0 a1 a2 a3) := by
  unfold Sys2Proof.Machine.State.launchBegin
  refine Ext.ite ?_ ?_
  refine Ext.step (State.launchEnd_ext ..) rfl ?_
  exact Ext.refl _ _
  refine Ext.ite ?_ ?_
  refine Ext.step (State.launchEnd_ext ..) rfl ?_
  exact Ext.refl _ _
  refine foldl_all (P := fun x => Ext _ _ x) ?_ ?_
  refine Ext.step (State.setLaunch_ext ..) rfl ?_
  refine Ext.step (State.bump_ext ..) rfl ?_
  refine Ext.step (State.p_ext ..) rfl ?_
  refine Ext.step (State.setCore_ext ..) rfl ?_
  exact Ext.refl _ _
  intro _
  intro _
  intro _
  refine Ext.step (State.launchShoal_ext ..) rfl ?_
  with_reducible assumption

theorem execLaunchStart_ext (a0 : ℕ) (a1 : Bool) (a2 : State) :
    HAll (fun x => Ext [.rst, .regs, .hlk, .launches, .cores, .shoals, .gpr, .preds, .lflags, .sram, .sramUe, .mem, .queues, .act, .shl, .red, .ras, .free] a2 x) (@execLaunchStart a0 a1 a2) := by
  unfold Sys2Proof.Machine.execLaunchStart
  refine HAll.next ?_
  split
  split
  refine Ext.step (State.launchBegin_ext ..) rfl ?_
  exact Ext.refl _ _
  exact Ext.refl _ _
  exact Ext.refl _ _

theorem State.clearFlags_ext (a0 : State) (a1 : ℕ) (a2 : Word) :
    Ext [.rst, .regs, .hlk, .cores, .sram, .sramUe, .mem, .queues, .ras, .free] a0 (@State.clearFlags a0 a1 a2) := by
  unfold Sys2Proof.Machine.State.clearFlags
  refine foldl_all (P := fun x => Ext _ _ x) ?_ ?_
  exact Ext.refl _ _
  intro _
  intro _
  intro _
  refine Ext.ite ?_ ?_
  refine Ext.step (State.clearFlag_ext ..) rfl ?_
  with_reducible assumption
  with_reducible assumption

theorem execCorFlagsClr_ext (a0 : ℕ) (a1 : Word) (a2 : State) :
    HAll (fun x => Ext [.rst, .regs, .hlk, .cores, .sram, .sramUe, .mem, .queues, .ras, .free] a2 x) (@execCorFlagsClr a0 a1 a2) := by
  unfold Sys2Proof.Machine.execCorFlagsClr
  refine HAll.next ?_
  unfold Sys2Proof.Machine.State.pageWrite
  refine Ext.ite ?_ ?_
  exact Ext.refl _ _
  refine Ext.ite ?_ ?_
  refine Ext.step (State.refuse_ext ..) rfl ?_
  exact Ext.refl _ _
  refine Ext.step (State.clearFlags_ext ..) rfl ?_
  exact Ext.refl _ _

theorem State.pbReport_ext (a0 : State) (a1 : Launch) (a2 : ℕ) :
    Ext [.regs, .hlk] a0 (@State.pbReport a0 a1 a2) := by
  unfold Sys2Proof.Machine.State.pbReport
  (dsimp only; split)
  exact Ext.refl _ _
  refine Ext.step (State.raise_ext ..) rfl ?_
  refine Ext.step (State.wr_ext ..) rfl ?_
  refine Ext.step (State.wr_ext ..) rfl ?_
  exact Ext.refl _ _

theorem State.barRelease_ext (a0 : State) (a1 : ℕ) (a2 : Launch) (a3 : ℕ) (a4 : ℕ) (a5 : ℕ) :
    Ext [.rst, .regs, .hlk, .launches, .cores, .shoals, .sram, .sramUe, .mem, .queues, .act, .shl, .red, .ras, .free] a0 (@State.barRelease a0 a1 a2 a3 a4 a5) := by
  unfold Sys2Proof.Machine.State.barRelease
  refine foldl_all (P := fun x => Ext _ _ x) ?_ ?_
  refine Ext.ite ?_ ?_
  refine Ext.step (State.setLaunch_ext ..) rfl ?_
  refine foldl_all (P := fun x => Ext _ _ x) ?_ ?_
  exact Ext.refl _ _
  intro _
  intro _
  intro _
  refine Ext.step (State.pbReport_ext ..) rfl ?_
  with_reducible assumption
  exact Ext.refl _ _
  intro _
  intro _
  intro _
  refine foldl_all (P := fun x => Ext _ _ x) ?_ ?_
  with_reducible assumption
  intro _
  intro _
  intro _
  refine Ext.step (State.resumeShoal_ext ..) rfl ?_
  with_reducible assumption

theorem State.barTry_ext (a0 : State) (a1 : ℕ) (a2 : Bool) (a3 : ℕ) (a4 : ℕ) :
    Ext [.rst, .regs, .hlk, .launches, .cores, .shoals, .sram, .sramUe, .mem, .queues, .act, .shl, .red, .ras, .free] a0 (@State.barTry a0 a1 a2 a3 a4) := by
  unfold Sys2Proof.Machine.State.barTry
  split
  split
  refine Ext.ite ?_ ?_
  refine Ext.step (State.barRelease_ext ..) rfl ?_
  exact Ext.refl _ _
  exact Ext.refl _ _
  exact Ext.refl _ _
  exact Ext.refl _ _

theorem execBarrierRelease_ext (a0 : ℕ) (a1 : Bool) (a2 : ℕ) (a3 : ℕ) (a4 : State) :
    HAll (fun x => Ext [.rst, .regs, .hlk, .launches, .cores, .shoals, .sram, .sramUe, .mem, .queues, .act, .shl, .red, .ras, .free] a4 x) (@execBarrierRelease a0 a1 a2 a3 a4) := by
  unfold Sys2Proof.Machine.execBarrierRelease
  refine HAll.next ?_
  refine Ext.step (State.barTry_ext ..) rfl ?_
  exact Ext.refl _ _

theorem State.writePart_ext (a0 : State) (a1 : ℕ) (a2 : Word) :
    Ext [.regs, .hlk, .cores] a0 (@State.writePart a0 a1 a2) := by
  unfold Sys2Proof.Machine.State.writePart
  refine Ext.ite ?_ ?_
  refine Ext.step (State.raise_ext ..) rfl ?_
  exact Ext.refl _ _
  refine Ext.step (State.setCore_ext ..) rfl ?_
  exact Ext.refl _ _

theorem execCorPartWrite_ext (a0 : ℕ) (a1 : Word) (a2 : State) :
    HAll (fun x => Ext [.regs, .hlk, .cores] a2 x) (@execCorPartWrite a0 a1 a2) := by
  unfold Sys2Proof.Machine.execCorPartWrite
  refine HAll.next ?_
  unfold Sys2Proof.Machine.State.pageWrite
  refine Ext.ite ?_ ?_
  exact Ext.refl _ _
  refine Ext.ite ?_ ?_
  refine Ext.step (State.refuse_ext ..) rfl ?_
  exact Ext.refl _ _
  refine Ext.step (State.writePart_ext ..) rfl ?_
  exact Ext.refl _ _

theorem State.barStat_ext (a0 : State) (a1 : ℕ) (a2 : Launch) (a3 : ℕ) (a4 : Option (ℕ × ℕ)) :
    Ext [.regs] a0 (@State.barStat a0 a1 a2 a3 a4) := by
  unfold Sys2Proof.Machine.State.barStat
  refine Ext.step (State.wr_ext ..) rfl ?_
  exact Ext.refl _ _

theorem execBarrierTimeout_ext (a0 : ℕ) (a1 : Bool) (a2 : ℕ) (a3 : ℕ) (a4 : State) :
    HAll (fun x => Ext [.rst, .regs, .hlk, .launches, .cores, .shoals, .sram, .sramUe, .mem, .queues, .act, .shl, .red, .ras, .free] a4 x) (@execBarrierTimeout a0 a1 a2 a3 a4) := by
  unfold Sys2Proof.Machine.execBarrierTimeout
  refine HAll.next ?_
  split
  split
  refine Ext.ite ?_ ?_
  refine Ext.step (State.launchEnd_ext ..) rfl ?_
  refine Ext.step (State.raise_ext ..) rfl ?_
  refine Ext.step (State.barStat_ext ..) rfl ?_
  exact Ext.refl _ _
  exact Ext.refl _ _
  exact Ext.refl _ _
  exact Ext.refl _ _

theorem execSwapDrainPoint_ext (a0 : ℕ) (a1 : State) :
    HAll (fun x => Ext [.cores] a1 x) (@execSwapDrainPoint a0 a1) := by
  unfold Sys2Proof.Machine.execSwapDrainPoint
  refine HAll.next ?_
  (dsimp only; split)
  refine Ext.ite ?_ ?_
  refine Ext.step (State.setCore_ext ..) rfl ?_
  exact Ext.refl _ _
  exact Ext.refl _ _
  exact Ext.refl _ _
  exact Ext.refl _ _
  exact Ext.refl _ _

theorem execWorkUnitExpiry_ext (a0 : ℕ) (a1 : Bool) (a2 : State) :
    HAll (fun x => Ext [.rst, .regs, .hlk, .launches, .cores, .shoals, .sram, .sramUe, .mem, .queues, .act, .shl, .red, .ras, .free] a2 x) (@execWorkUnitExpiry a0 a1 a2) := by
  unfold Sys2Proof.Machine.execWorkUnitExpiry
  refine HAll.next ?_
  (dsimp only; split)
  split
  refine Ext.ite ?_ ?_
  refine Ext.step (State.launchEnd_ext ..) rfl ?_
  refine Ext.step (State.bump_ext ..) rfl ?_
  refine Ext.step (State.raise_ext ..) rfl ?_
  refine Ext.step (State.barStat_ext ..) rfl ?_
  exact Ext.refl _ _
  exact Ext.refl _ _
  exact Ext.refl _ _
  exact Ext.refl _ _

theorem State.setFlags_ext (a0 : State) (a1 : ℕ) (a2 : Word) :
    Ext [.rst, .regs, .hlk, .cores, .sram, .sramUe, .mem, .queues, .ras, .free] a0 (@State.setFlags a0 a1 a2) := by
  unfold Sys2Proof.Machine.State.setFlags
  refine foldl_all (P := fun x => Ext _ _ x) ?_ ?_
  exact Ext.refl _ _
  intro _
  intro _
  intro _
  refine Ext.ite ?_ ?_
  refine Ext.step (State.setFlag_ext ..) rfl ?_
  with_reducible assumption
  with_reducible assumption

theorem execPartApply_ext (a0 : ℕ) (a1 : State) :
    HAll (fun x => Ext [.regs, .hlk, .cores] a1 x) (@execPartApply a0 a1) := by
  unfold Sys2Proof.Machine.execPartApply
  refine HAll.next ?_
  (dsimp only; split)
  refine Ext.ite ?_ ?_
  refine Ext.step (State.raise_ext ..) rfl ?_
  refine Ext.step (State.wr_ext ..) rfl ?_
  refine Ext.step (State.setCore_ext ..) rfl ?_
  exact Ext.refl _ _
  exact Ext.refl _ _
  exact Ext.refl _ _

theorem execEfWaitRelease_ext (a0 : ℕ) (a1 : ℕ) (a2 : State) :
    HAll (fun x => Ext [.rst, .regs, .hlk, .launches, .cores, .shoals, .sram, .sramUe, .mem, .queues, .act, .shl, .red, .ras, .free] a2 x) (@execEfWaitRelease a0 a1 a2) := by
  unfold Sys2Proof.Machine.execEfWaitRelease
  refine HAll.next ?_
  refine Ext.ite ?_ ?_
  refine Ext.step (State.flagRelease_ext ..) rfl ?_
  exact Ext.refl _ _
  exact Ext.refl _ _

theorem execSwapRequest_ext (a0 : ℕ) (a1 : Bool) (a2 : State) :
    HAll (fun x => Ext [.regs, .hlk, .cores, .ras, .free] a2 x) (@execSwapRequest a0 a1 a2) := by
  unfold Sys2Proof.Machine.execSwapRequest
  refine HAll.next ?_
  refine Ext.ite ?_ ?_
  refine Ext.step (State.requestSwap_ext ..) rfl ?_
  exact Ext.refl _ _
  exact Ext.refl _ _

theorem execSwapCopyStart_ext (a0 : ℕ) (a1 : State) :
    HAll (fun x => Ext [.cores] a1 x) (@execSwapCopyStart a0 a1) := by
  unfold Sys2Proof.Machine.execSwapCopyStart
  refine HAll.next ?_
  (dsimp only; split)
  refine Ext.ite ?_ ?_
  refine Ext.step (State.setCore_ext ..) rfl ?_
  exact Ext.refl _ _
  exact Ext.refl _ _
  exact Ext.refl _ _
  exact Ext.refl _ _
  exact Ext.refl _ _

theorem State.swapEnd_ext (a0 : State) (a1 : ℕ) (a2 : ℕ) (a3 : Bool) :
    Ext [.rst, .regs, .hlk, .launches, .cores, .shoals, .sram, .sramUe, .mem, .queues, .act, .shl, .red, .ras, .free] a0 (@State.swapEnd a0 a1 a2 a3) := by
  unfold Sys2Proof.Machine.State.swapEnd
  (dsimp only; split)
  split
  refine Ext.step (State.barTry_ext ..) rfl ?_
  refine Ext.ite ?_ ?_
  refine Ext.step (State.bump_ext ..) rfl ?_
  refine Ext.step (State.bump_ext ..) rfl ?_
  refine Ext.step (State.raise_ext ..) rfl ?_
  refine Ext.step (State.setPhysOf_ext ..) rfl ?_
  refine Ext.step (State.setCore_ext ..) rfl ?_
  exact Ext.refl _ _
  refine Ext.step (State.bump_ext ..) rfl ?_
  refine Ext.step (State.raise_ext ..) rfl ?_
  refine Ext.step (State.setPhysOf_ext ..) rfl ?_
  refine Ext.step (State.setCore_ext ..) rfl ?_
  exact Ext.refl _ _
  refine Ext.ite ?_ ?_
  refine Ext.step (State.bump_ext ..) rfl ?_
  refine Ext.step (State.bump_ext ..) rfl ?_
  refine Ext.step (State.raise_ext ..) rfl ?_
  refine Ext.step (State.setPhysOf_ext ..) rfl ?_
  refine Ext.step (State.setCore_ext ..) rfl ?_
  exact Ext.refl _ _
  refine Ext.step (State.bump_ext ..) rfl ?_
  refine Ext.step (State.raise_ext ..) rfl ?_
  refine Ext.step (State.setPhysOf_ext ..) rfl ?_
  refine Ext.step (State.setCore_ext ..) rfl ?_
  exact Ext.refl _ _
  refine Ext.ite ?_ ?_
  refine Ext.step (State.bump_ext ..) rfl ?_
  refine Ext.step (State.bump_ext ..) rfl ?_
  refine Ext.step (State.raise_ext ..) rfl ?_
  refine Ext.step (State.setPhysOf_ext ..) rfl ?_
  refine Ext.step (State.setCore_ext ..) rfl ?_
  exact Ext.refl _ _
  refine Ext.step (State.bump_ext ..) rfl ?_
  refine Ext.step (State.raise_ext ..) rfl ?_
  refine Ext.step (State.setPhysOf_ext ..) rfl ?_
  refine Ext.step (State.setCore_ext ..) rfl ?_
  exact Ext.refl _ _

theorem execSwapCopyDone_ext (a0 : ℕ) (a1 : State) :
    HAll (fun x => Ext [.rst, .regs, .hlk, .launches, .cores, .shoals, .sram, .sramUe, .mem, .queues, .act, .shl, .red, .ras, .free] a1 x) (@execSwapCopyDone a0 a1) := by
  unfold Sys2Proof.Machine.execSwapCopyDone
  refine HAll.next ?_
  split
  refine Ext.step (State.swapEnd_ext ..) rfl ?_
  exact Ext.refl _ _
  exact Ext.refl _ _
  exact Ext.refl _ _
  exact Ext.refl _ _

theorem execCorFlagsSet_ext (a0 : ℕ) (a1 : Word) (a2 : State) :
    HAll (fun x => Ext [.rst, .regs, .hlk, .cores, .sram, .sramUe, .mem, .queues, .ras, .free] a2 x) (@execCorFlagsSet a0 a1 a2) := by
  unfold Sys2Proof.Machine.execCorFlagsSet
  refine HAll.next ?_
  unfold Sys2Proof.Machine.State.pageWrite
  refine Ext.ite ?_ ?_
  exact Ext.refl _ _
  refine Ext.ite ?_ ?_
  refine Ext.step (State.refuse_ext ..) rfl ?_
  exact Ext.refl _ _
  refine Ext.step (State.setFlags_ext ..) rfl ?_
  exact Ext.refl _ _

end Sys2Proof.Machine
end

