-- ==== Sys2Proof/Laws/FrameKernels.lean ====
section
/-! SUPPORT. What each definition of Machine/Kernels.lean may change: every part that its lemma does not name stays, and memory keeps
its canonical form. -/

set_option maxRecDepth 4000

namespace Sys2Proof.Machine

theorem State.placeKernel_ext (a0 : State) (a1 : ℕ) (a2 : Kernel) :
    Ext [.kernels, .gens] a0 (@State.placeKernel a0 a1 a2).2 := by
  unfold Sys2Proof.Machine.State.placeKernel
  refine Ext.at2 ?_
  refine Ext.step (Ext.set_kernels_gens ..) rfl ?_
  exact Ext.refl _ _

theorem State.placeOver_ext (a0 : State) (a1 : Word) (a2 : Kernel) :
    SAll (fun x => Ext [.kernels, .gens] a0 x.2) (@State.placeOver a0 a1 a2) := by
  unfold Sys2Proof.Machine.State.placeOver
  split
  exact SAll.inl ..
  refine SAll.ite ?_ ?_
  refine SAll.inr ?_
  refine Ext.step (State.placeKernel_ext ..) rfl ?_
  exact Ext.refl _ _
  exact SAll.inl ..

theorem State.placeNew_ext (a0 : State) (a1 : Kernel) :
    SAll (fun x => Ext [.kernels, .gens] a0 x.2) (@State.placeNew a0 a1) := by
  unfold Sys2Proof.Machine.State.placeNew
  split
  refine SAll.ite ?_ ?_
  refine SAll.inr ?_
  refine Ext.step (State.placeKernel_ext ..) rfl ?_
  exact Ext.refl _ _
  exact SAll.inl ..
  exact SAll.inl ..

theorem State.loadPlace_ext (a0 : State) (a1 : ℕ) (a2 : ℕ) (a3 : Word) (a4 : Kernel) :
    Ext [.hlk, .kernels, .gens, .loads] a0 (@State.loadPlace a0 a1 a2 a3 a4) := by
  unfold Sys2Proof.Machine.State.loadPlace
  refine Ext.ite ?_ ?_
  unfold Sys2Proof.Machine.State.loadEnd
  split
  refine Ext.step (State.finishCmd_ext ..) rfl ?_
  exact Ext.refl _ _
  refine Ext.step (State.finishCmd_ext ..) rfl ?_
  refine Ext.ofS2 ?_ ‹_›
  refine SAll.step (State.placeNew_ext ..) rfl ?_
  exact Ext.refl _ _
  refine Ext.ite ?_ ?_
  refine Ext.step (Ext.set_loads ..) rfl ?_
  exact Ext.refl _ _
  split
  unfold Sys2Proof.Machine.State.loadEnd
  refine Ext.step (State.finishCmd_ext ..) rfl ?_
  exact Ext.refl _ _
  refine Ext.ite ?_ ?_
  refine Ext.step (Ext.set_loads ..) rfl ?_
  exact Ext.refl _ _
  unfold Sys2Proof.Machine.State.loadEnd
  refine Ext.step (State.finishCmd_ext ..) rfl ?_
  refine Ext.ofS2 ?_ ‹_›
  refine SAll.step (State.placeOver_ext ..) rfl ?_
  exact Ext.refl _ _

theorem execKernelReplaceApply_ext (a0 : ℕ) (a1 : State) :
    HAll (fun x => Ext [.hlk, .kernels, .gens, .loads] a1 x) (@execKernelReplaceApply a0 a1) := by
  unfold Sys2Proof.Machine.execKernelReplaceApply
  refine HAll.next ?_
  (dsimp only; split)
  refine Ext.ite ?_ ?_
  exact Ext.refl _ _
  unfold Sys2Proof.Machine.State.loadEnd
  split
  refine Ext.step (State.finishCmd_ext ..) rfl ?_
  refine Ext.step (Ext.set_loads ..) rfl ?_
  exact Ext.refl _ _
  refine Ext.step (State.finishCmd_ext ..) rfl ?_
  refine Ext.ofS2 ?_ ‹_›
  refine SAll.step (State.placeOver_ext ..) rfl ?_
  refine Ext.step (Ext.set_loads ..) rfl ?_
  exact Ext.refl _ _
  exact Ext.refl _ _

end Sys2Proof.Machine
end

