-- ==== Sys2Proof/Laws/FrameSteps.lean ====
section
/-! SUPPORT. What each definition of Machine/Steps.lean may change: every part that its lemma does not name stays, and memory keeps
its canonical form. -/

set_option maxRecDepth 4000

namespace Sys2Proof.Machine

theorem State.setRedState_ext (a0 : State) (a1 : ℕ) :
    Ext [.regs] a0 (@State.setRedState a0 a1) := by
  unfold Sys2Proof.Machine.State.setRedState
  refine Ext.step (State.p_ext ..) rfl ?_
  exact Ext.refl _ _

theorem State.closeStep_ext (a0 : State) (a1 : ℕ) :
    Ext [.regs, .hlk] a0 (@State.closeStep a0 a1) := by
  unfold Sys2Proof.Machine.State.closeStep
  refine Ext.ite ?_ ?_
  refine Ext.step (State.setRedState_ext ..) rfl ?_
  refine Ext.step (State.p_ext ..) rfl ?_
  exact Ext.refl _ _
  refine Ext.step (State.raise_ext ..) rfl ?_
  refine Ext.step (State.p_ext ..) rfl ?_
  exact Ext.refl _ _

theorem execStepClose_ext (a0 : BitVec 62) (a1 : State) :
    HAll (fun x => Ext [.regs, .hlk] a1 x) (@execStepClose a0 a1) := by
  unfold Sys2Proof.Machine.execStepClose
  refine HAll.next ?_
  unfold Sys2Proof.Machine.redWrite
  refine Ext.ite ?_ ?_
  refine Ext.step (State.closeStep_ext ..) rfl ?_
  exact Ext.refl _ _
  refine Ext.step (State.refuse_ext ..) rfl ?_
  exact Ext.refl _ _

theorem State.lscaleEnd_ext (a0 : State) (a1 : Bool) (a2 : Bool) :
    Ext [.regs, .hlk] a0 (@State.lscaleEnd a0 a1 a2) := by
  unfold Sys2Proof.Machine.State.lscaleEnd
  refine Ext.ite ?_ ?_
  exact Ext.refl _ _
  refine Ext.ite ?_ ?_
  refine Ext.ite ?_ ?_
  refine Ext.step (State.p_ext ..) rfl ?_
  refine Ext.step (State.p_ext ..) rfl ?_
  exact Ext.refl _ _
  refine Ext.step (State.p_ext ..) rfl ?_
  refine Ext.step (State.p_ext ..) rfl ?_
  exact Ext.refl _ _
  refine Ext.ite ?_ ?_
  refine Ext.step (State.p_ext ..) rfl ?_
  refine Ext.step (State.p_ext ..) rfl ?_
  refine Ext.ite ?_ ?_
  refine Ext.step (State.raise_ext ..) rfl ?_
  exact Ext.refl _ _
  exact Ext.refl _ _
  exact Ext.refl _ _

theorem State.dropRedTxns_ext (a0 : State) :
    Ext [.fab] a0 (@State.dropRedTxns a0) := by
  unfold Sys2Proof.Machine.State.dropRedTxns
  refine Ext.step (Ext.set_fab ..) rfl ?_
  exact Ext.refl _ _

theorem State.applyBsteer_ext (a0 : State) (a1 : Word) :
    Ext [.regs] a0 (@State.applyBsteer a0 a1) := by
  unfold Sys2Proof.Machine.State.applyBsteer
  refine Ext.step (State.wr_ext ..) rfl ?_
  exact Ext.refl _ _

theorem State.writeBsteer_ext (a0 : State) (a1 : Word) :
    Ext [.regs, .hlk, .red] a0 (@State.writeBsteer a0 a1) := by
  unfold Sys2Proof.Machine.State.writeBsteer
  refine Ext.ite ?_ ?_
  refine Ext.step (State.raise_ext ..) rfl ?_
  exact Ext.refl _ _
  refine Ext.ite ?_ ?_
  refine Ext.step (State.setRed_ext ..) rfl ?_
  exact Ext.refl _ _
  refine Ext.step (State.applyBsteer_ext ..) rfl ?_
  exact Ext.refl _ _

theorem State.setPhase_ext (a0 : State) (a1 : ℕ) :
    Ext [.regs] a0 (@State.setPhase a0 a1) := by
  unfold Sys2Proof.Machine.State.setPhase
  refine Ext.step (State.p_ext ..) rfl ?_
  exact Ext.refl _ _

theorem State.bsteerDue_ext (a0 : State) :
    Ext [.regs, .red] a0 (@State.bsteerDue a0) := by
  unfold Sys2Proof.Machine.State.bsteerDue
  (dsimp only; split)
  refine Ext.step (State.applyBsteer_ext ..) rfl ?_
  refine Ext.step (State.setRed_ext ..) rfl ?_
  exact Ext.refl _ _
  exact Ext.refl _ _

theorem State.gnsEnd_ext (a0 : State) (a1 : Bytes) :
    Ext [.regs] a0 (@State.gnsEnd a0 a1) := by
  unfold Sys2Proof.Machine.State.gnsEnd
  refine Ext.ite ?_ ?_
  exact Ext.refl _ _
  refine Ext.ite ?_ ?_
  refine Ext.step (State.wr_ext ..) rfl ?_
  refine Ext.step (State.wr_ext ..) rfl ?_
  exact Ext.refl _ _
  refine Ext.step (State.wr_ext ..) rfl ?_
  exact Ext.refl _ _

theorem State.lwEntry_ext (a0 : State) (a1 : ℕ) (a2 : Bytes) (a3 : ℕ) :
    Ext [.rst, .regs, .hlk, .cores, .mem, .ras, .free] a0 (@State.lwEntry a0 a1 a2 a3) := by
  unfold Sys2Proof.Machine.State.lwEntry
  refine Ext.ite ?_ ?_
  exact Ext.refl _ _
  (dsimp only; split)
  exact Ext.refl _ _
  refine Ext.ite ?_ ?_
  refine Ext.step (State.vput_ext ..) rfl ?_
  refine Ext.ofO2 ?_ ‹_›
  refine OAll.step (State.vget_ext ..) rfl ?_
  exact Ext.refl _ _
  refine Ext.ite ?_ ?_
  refine Ext.step (State.raise_ext ..) rfl ?_
  refine Ext.step (State.bump_ext ..) rfl ?_
  refine Ext.step (State.wr_ext ..) rfl ?_
  refine Ext.step (State.vput_ext ..) rfl ?_
  refine Ext.ofO2 ?_ ‹_›
  refine OAll.step (State.vget_ext ..) rfl ?_
  exact Ext.refl _ _
  refine Ext.step (State.vput_ext ..) rfl ?_
  refine Ext.ofO2 ?_ ‹_›
  refine OAll.step (State.vget_ext ..) rfl ?_
  exact Ext.refl _ _

theorem State.steerClamp_ext (a0 : State) :
    Ext [.regs, .hlk] a0 (@State.steerClamp a0) := by
  unfold Sys2Proof.Machine.State.steerClamp
  refine Ext.step (State.raise_ext ..) rfl ?_
  refine Ext.step (State.bump_ext ..) rfl ?_
  exact Ext.refl _ _

theorem State.steer_ext (a0 : State) :
    Ext [.regs, .hlk] a0 (@State.steer a0) := by
  unfold Sys2Proof.Machine.State.steer
  refine Ext.ite ?_ ?_
  refine Ext.step (State.p_ext ..) rfl ?_
  refine Ext.ite ?_ ?_
  refine Ext.step (State.steerClamp_ext ..) rfl ?_
  refine Ext.step (State.p_ext ..) rfl ?_
  refine Ext.step (State.p_ext ..) rfl ?_
  refine Ext.ite ?_ ?_
  refine Ext.ite ?_ ?_
  refine Ext.ite ?_ ?_
  refine Ext.step (State.bump_ext ..) rfl ?_
  refine Ext.step (State.p_ext ..) rfl ?_
  refine Ext.step (State.p_ext ..) rfl ?_
  refine Ext.ite ?_ ?_
  refine Ext.step (State.steerClamp_ext ..) rfl ?_
  refine Ext.step (State.p_ext ..) rfl ?_
  refine Ext.step (State.p_ext ..) rfl ?_
  exact Ext.refl _ _
  refine Ext.step (State.p_ext ..) rfl ?_
  refine Ext.step (State.p_ext ..) rfl ?_
  exact Ext.refl _ _
  refine Ext.ite ?_ ?_
  refine Ext.step (State.steerClamp_ext ..) rfl ?_
  refine Ext.step (State.p_ext ..) rfl ?_
  refine Ext.step (State.p_ext ..) rfl ?_
  exact Ext.refl _ _
  refine Ext.step (State.p_ext ..) rfl ?_
  refine Ext.step (State.p_ext ..) rfl ?_
  exact Ext.refl _ _
  refine Ext.step (State.p_ext ..) rfl ?_
  refine Ext.step (State.p_ext ..) rfl ?_
  exact Ext.refl _ _
  refine Ext.step (State.p_ext ..) rfl ?_
  exact Ext.refl _ _
  refine Ext.ite ?_ ?_
  refine Ext.ite ?_ ?_
  refine Ext.ite ?_ ?_
  refine Ext.step (State.bump_ext ..) rfl ?_
  refine Ext.step (State.p_ext ..) rfl ?_
  refine Ext.step (State.p_ext ..) rfl ?_
  refine Ext.ite ?_ ?_
  refine Ext.step (State.steerClamp_ext ..) rfl ?_
  refine Ext.step (State.p_ext ..) rfl ?_
  refine Ext.step (State.p_ext ..) rfl ?_
  exact Ext.refl _ _
  refine Ext.step (State.p_ext ..) rfl ?_
  refine Ext.step (State.p_ext ..) rfl ?_
  exact Ext.refl _ _
  refine Ext.ite ?_ ?_
  refine Ext.step (State.steerClamp_ext ..) rfl ?_
  refine Ext.step (State.p_ext ..) rfl ?_
  refine Ext.step (State.p_ext ..) rfl ?_
  exact Ext.refl _ _
  refine Ext.step (State.p_ext ..) rfl ?_
  refine Ext.step (State.p_ext ..) rfl ?_
  exact Ext.refl _ _
  refine Ext.step (State.p_ext ..) rfl ?_
  refine Ext.step (State.p_ext ..) rfl ?_
  exact Ext.refl _ _
  refine Ext.step (State.p_ext ..) rfl ?_
  exact Ext.refl _ _
  refine Ext.ite ?_ ?_
  refine Ext.step (State.steerClamp_ext ..) rfl ?_
  refine Ext.step (State.p_ext ..) rfl ?_
  refine Ext.step (State.p_ext ..) rfl ?_
  refine Ext.ite ?_ ?_
  refine Ext.ite ?_ ?_
  refine Ext.ite ?_ ?_
  refine Ext.step (State.bump_ext ..) rfl ?_
  refine Ext.step (State.p_ext ..) rfl ?_
  refine Ext.step (State.p_ext ..) rfl ?_
  refine Ext.ite ?_ ?_
  refine Ext.step (State.steerClamp_ext ..) rfl ?_
  refine Ext.step (State.p_ext ..) rfl ?_
  refine Ext.step (State.p_ext ..) rfl ?_
  exact Ext.refl _ _
  refine Ext.step (State.p_ext ..) rfl ?_
  refine Ext.step (State.p_ext ..) rfl ?_
  exact Ext.refl _ _
  refine Ext.ite ?_ ?_
  refine Ext.step (State.steerClamp_ext ..) rfl ?_
  refine Ext.step (State.p_ext ..) rfl ?_
  refine Ext.step (State.p_ext ..) rfl ?_
  exact Ext.refl _ _
  refine Ext.step (State.p_ext ..) rfl ?_
  refine Ext.step (State.p_ext ..) rfl ?_
  exact Ext.refl _ _
  refine Ext.step (State.p_ext ..) rfl ?_
  refine Ext.step (State.p_ext ..) rfl ?_
  exact Ext.refl _ _
  refine Ext.step (State.p_ext ..) rfl ?_
  exact Ext.refl _ _
  refine Ext.ite ?_ ?_
  refine Ext.ite ?_ ?_
  refine Ext.ite ?_ ?_
  refine Ext.step (State.bump_ext ..) rfl ?_
  refine Ext.step (State.p_ext ..) rfl ?_
  refine Ext.step (State.p_ext ..) rfl ?_
  refine Ext.ite ?_ ?_
  refine Ext.step (State.steerClamp_ext ..) rfl ?_
  refine Ext.step (State.p_ext ..) rfl ?_
  refine Ext.step (State.p_ext ..) rfl ?_
  exact Ext.refl _ _
  refine Ext.step (State.p_ext ..) rfl ?_
  refine Ext.step (State.p_ext ..) rfl ?_
  exact Ext.refl _ _
  refine Ext.ite ?_ ?_
  refine Ext.step (State.steerClamp_ext ..) rfl ?_
  refine Ext.step (State.p_ext ..) rfl ?_
  refine Ext.step (State.p_ext ..) rfl ?_
  exact Ext.refl _ _
  refine Ext.step (State.p_ext ..) rfl ?_
  refine Ext.step (State.p_ext ..) rfl ?_
  exact Ext.refl _ _
  refine Ext.step (State.p_ext ..) rfl ?_
  refine Ext.step (State.p_ext ..) rfl ?_
  exact Ext.refl _ _
  refine Ext.step (State.p_ext ..) rfl ?_
  exact Ext.refl _ _

theorem State.updWords_ext (a0 : State) (a1 : ℕ → ℕ) :
    Ext [.regs] a0 (@State.updWords a0 a1) := by
  unfold Sys2Proof.Machine.State.updWords
  refine foldl_all (P := fun x => Ext _ _ x) ?_ ?_
  exact Ext.refl _ _
  intro _
  intro _
  intro _
  refine Ext.step (State.p_ext ..) rfl ?_
  with_reducible assumption

theorem State.unitsClear_ext (a0 : State) :
    Ext [.regs, .shoals, .red] a0 (@State.unitsClear a0) := by
  unfold Sys2Proof.Machine.State.unitsClear
  refine foldl_all (P := fun x => Ext _ _ x) ?_ ?_
  exact Ext.refl _ _
  intro _
  intro _
  intro _
  refine Ext.step (State.unitRegs_ext ..) rfl ?_
  refine foldl_all (P := fun x => Ext _ _ x) ?_ ?_
  refine Ext.step (State.setUnit_ext ..) rfl ?_
  with_reducible assumption
  intro _
  intro _
  intro _
  refine Ext.step (State.setShoal_ext ..) rfl ?_
  with_reducible assumption

theorem State.lwClear_ext (a0 : State) (a1 : ℕ) :
    Ext [.rst, .regs, .hlk, .cores, .mem, .ras, .free] a0 (@State.lwClear a0 a1) := by
  unfold Sys2Proof.Machine.State.lwClear
  (dsimp only; split)
  refine Ext.step (State.vput_ext ..) rfl ?_
  refine Ext.ofO2 ?_ ‹_›
  refine OAll.step (State.vget_ext ..) rfl ?_
  exact Ext.refl _ _
  exact Ext.refl _ _

theorem State.lwClearsDue_ext (a0 : State) :
    Ext [.rst, .regs, .hlk, .cores, .mem, .red, .ras, .free] a0 (@State.lwClearsDue a0) := by
  unfold Sys2Proof.Machine.State.lwClearsDue
  refine foldl_all (P := fun x => Ext _ _ x) ?_ ?_
  refine Ext.step (State.setRed_ext ..) rfl ?_
  exact Ext.refl _ _
  intro _
  intro _
  intro _
  split
  refine Ext.step (State.lwClear_ext ..) rfl ?_
  with_reducible assumption
  refine foldl_all (P := fun x => Ext _ _ x) ?_ ?_
  with_reducible assumption
  intro _
  intro _
  intro _
  refine Ext.step (State.lwClear_ext ..) rfl ?_
  with_reducible assumption

theorem State.stepFinish_ext (a0 : State) (a1 : ℕ) :
    Ext [.rst, .jrn, .regs, .hlk, .cores, .shoals, .mem, .act, .fab, .red, .scale, .ras, .free] a0 (@State.stepFinish a0 a1) := by
  unfold Sys2Proof.Machine.State.stepFinish
  refine Ext.step (State.lwClearsDue_ext ..) rfl ?_
  refine Ext.step (State.bsteerDue_ext ..) rfl ?_
  refine Ext.step (State.applyScaleWaiting_ext ..) rfl ?_
  refine Ext.step (State.p_ext ..) rfl ?_
  refine Ext.step (Ext.set_jrn ..) rfl ?_
  refine Ext.step (State.p_ext ..) rfl ?_
  refine Ext.step (State.setRedState_ext ..) rfl ?_
  refine Ext.step (State.setRed_ext ..) rfl ?_
  refine Ext.step (State.updWords_ext ..) rfl ?_
  refine Ext.step (State.dropRedTxns_ext ..) rfl ?_
  refine Ext.step (State.unitsClear_ext ..) rfl ?_
  refine Ext.step (State.p_ext ..) rfl ?_
  refine Ext.step (State.ledgerStepEnd_ext ..) rfl ?_
  exact Ext.refl _ _

theorem State.commitEnd_ext (a0 : State) (a1 : Bool) :
    Ext [.rst, .jrn, .regs, .retained, .hlk, .cores, .shoals, .mem, .act, .fab, .red, .scale, .ras, .free] a0 (@State.commitEnd a0 a1) := by
  unfold Sys2Proof.Machine.State.commitEnd
  refine Ext.step (State.stepFinish_ext ..) rfl ?_
  refine Ext.step (State.p_ext ..) rfl ?_
  refine Ext.step (State.wr_ext ..) rfl ?_
  refine Ext.step (State.raise_ext ..) rfl ?_
  refine Ext.step (State.bump_ext ..) rfl ?_
  refine Ext.step (State.bump_ext ..) rfl ?_
  refine Ext.step (State.lscaleEnd_ext ..) rfl ?_
  refine Ext.step (State.steer_ext ..) rfl ?_
  split
  refine Ext.step (State.gnsEnd_ext ..) rfl ?_
  refine foldl_all (P := fun x => Ext _ _ x) ?_ ?_
  refine Ext.step (State.bsteerDue_ext ..) rfl ?_
  refine Ext.step (State.warmupEnd_ext ..) rfl ?_
  refine Ext.step (State.slotsEnd_ext ..) rfl ?_
  exact Ext.refl _ _
  intro _
  intro _
  intro _
  refine Ext.step (State.lwEntry_ext ..) rfl ?_
  with_reducible assumption
  refine Ext.step (State.bsteerDue_ext ..) rfl ?_
  refine Ext.step (State.warmupEnd_ext ..) rfl ?_
  refine Ext.step (State.slotsEnd_ext ..) rfl ?_
  exact Ext.refl _ _

theorem State.twinMsg_ext (a0 : State) (a1 : ℕ) (a2 : Bytes) :
    Ext [.regs, .hlk, .mem, .fab] a0 (@State.twinMsg a0 a1 a2) := by
  unfold Sys2Proof.Machine.State.twinMsg
  (dsimp only; split)
  refine Ext.step (State.bump_ext ..) rfl ?_
  refine Ext.step (State.request_ext ..) rfl ?_
  refine Ext.ofPair ?_ ‹_›
  refine Ext.step (State.route_ext ..) rfl ?_
  exact Ext.refl _ _
  refine Ext.step (State.noRoute_ext ..) rfl ?_
  refine Ext.ofPair ?_ ‹_›
  refine Ext.step (State.route_ext ..) rfl ?_
  exact Ext.refl _ _
  refine Ext.ofPair ?_ ‹_›
  refine Ext.step (State.route_ext ..) rfl ?_
  exact Ext.refl _ _

theorem State.mirrored_ext (a0 : State) (a1 : Bool) :
    Ext [.rst, .jrn, .regs, .retained, .hlk, .cores, .shoals, .mem, .act, .fab, .red, .scale, .ras, .free] a0 (@State.mirrored a0 a1) := by
  unfold Sys2Proof.Machine.State.mirrored
  refine Ext.ite ?_ ?_
  refine Ext.step (State.commitEnd_ext ..) rfl ?_
  refine Ext.step (State.setPhase_ext ..) rfl ?_
  refine Ext.step (State.p_ext ..) rfl ?_
  refine Ext.step (State.setPhase_ext ..) rfl ?_
  exact Ext.refl _ _
  refine Ext.step (State.twinMsg_ext ..) rfl ?_
  refine Ext.step (State.setPhase_ext ..) rfl ?_
  refine Ext.step (State.p_ext ..) rfl ?_
  refine Ext.step (State.setPhase_ext ..) rfl ?_
  exact Ext.refl _ _

theorem State.skipEnd_ext (a0 : State) (a1 : ℕ) (a2 : Bool) :
    Ext [.rst, .jrn, .regs, .retained, .hlk, .cores, .shoals, .mem, .act, .fab, .red, .scale, .ras, .free] a0 (@State.skipEnd a0 a1 a2) := by
  unfold Sys2Proof.Machine.State.skipEnd
  refine Ext.step (State.stepFinish_ext ..) rfl ?_
  refine Ext.step (State.p_ext ..) rfl ?_
  refine Ext.step (State.raise_ext ..) rfl ?_
  refine Ext.step (State.bump_ext ..) rfl ?_
  refine Ext.step (State.bump_ext ..) rfl ?_
  refine Ext.step (State.lscaleEnd_ext ..) rfl ?_
  refine Ext.step (State.slotsEnd_ext ..) rfl ?_
  exact Ext.refl _ _

theorem State.redoSlabs_ext (a0 : State) :
    OAll (fun x => Ext [.regs, .hlk, .shoals, .mem, .red] a0 x) (@State.redoSlabs a0) := by
  unfold Sys2Proof.Machine.State.redoSlabs
  refine foldl_all (P := fun x => OAll (fun x => Ext _ _ x) x) ?_ ?_
  refine OAll.some ?_
  refine Ext.step (State.setRed_ext ..) rfl ?_
  refine Ext.step (State.unitsClear_ext ..) rfl ?_
  exact Ext.refl _ _
  intro _
  intro _
  intro _
  refine OAll.bindE (g := fun x => x) ?_ ?_
  with_reducible assumption
  intro _
  intro _
  (dsimp only; split)
  refine OAll.ite ?_ ?_
  refine OAll.none ?_
  refine OAll.bindE (g := fun x => x.2) ?_ ?_
  refine OAll.step (State.vget_ext ..) rfl ?_
  with_reducible assumption
  intro _
  intro _
  refine OAll.step (State.routeSlab_ext ..) rfl ?_
  with_reducible assumption
  refine OAll.none ?_

theorem State.holdCommit_ext (a0 : State) :
    Ext [.jrn, .regs, .hlk] a0 (@State.holdCommit a0) := by
  unfold Sys2Proof.Machine.State.holdCommit
  refine Ext.step (State.raise_ext ..) rfl ?_
  refine Ext.step (State.p_ext ..) rfl ?_
  refine Ext.step (Ext.set_jrn ..) rfl ?_
  exact Ext.refl _ _

theorem State.compareDigest_ext (a0 : State) (a1 : Bool) :
    Ext [.rst, .jrn, .regs, .retained, .hlk, .cores, .shoals, .mem, .act, .fab, .red, .scale, .ras, .free] a0 (@State.compareDigest a0 a1) := by
  unfold Sys2Proof.Machine.State.compareDigest
  (dsimp only; split)
  exact Ext.refl _ _
  refine Ext.ite ?_ ?_
  refine Ext.step (State.mirrored_ext ..) rfl ?_
  refine Ext.step (State.setRed_ext ..) rfl ?_
  exact Ext.refl _ _
  refine Ext.ite ?_ ?_
  refine OAll.getD (P := fun x => Ext _ _ x) ?_ ?_
  refine OAll.step (State.redoSlabs_ext ..) rfl ?_
  refine Ext.step (State.raise_ext ..) rfl ?_
  refine Ext.step (State.record_ext ..) rfl ?_
  refine Ext.step (State.bump_ext ..) rfl ?_
  refine Ext.step (State.setRed_ext ..) rfl ?_
  refine Ext.step (State.setRed_ext ..) rfl ?_
  exact Ext.refl _ _
  refine Ext.step (State.holdCommit_ext ..) rfl ?_
  refine Ext.step (State.raise_ext ..) rfl ?_
  refine Ext.step (State.record_ext ..) rfl ?_
  refine Ext.step (State.bump_ext ..) rfl ?_
  refine Ext.step (State.setRed_ext ..) rfl ?_
  refine Ext.step (State.setRed_ext ..) rfl ?_
  exact Ext.refl _ _
  refine Ext.step (State.holdCommit_ext ..) rfl ?_
  refine Ext.step (State.raise_ext ..) rfl ?_
  refine Ext.step (State.record_ext ..) rfl ?_
  refine Ext.step (State.bump_ext ..) rfl ?_
  refine Ext.step (State.setRed_ext ..) rfl ?_
  refine Ext.step (State.setRed_ext ..) rfl ?_
  exact Ext.refl _ _

theorem State.writeStaged_ext (a0 : State) (a1 : Bool) :
    Ext [.rst, .jrn, .regs, .retained, .hlk, .cores, .shoals, .mem, .act, .fab, .red, .scale, .ras, .free] a0 (@State.writeStaged a0 a1) := by
  unfold Sys2Proof.Machine.State.writeStaged
  refine Ext.ite ?_ ?_
  refine Ext.step (State.mirrored_ext ..) rfl ?_
  refine Ext.step (State.setPhase_ext ..) rfl ?_
  refine Ext.step (State.wr_ext ..) rfl ?_
  refine Ext.step (State.retWrite_ext ..) rfl ?_
  exact Ext.refl _ _
  refine Ext.step (State.compareDigest_ext ..) rfl ?_
  refine Ext.step (State.twinMsg_ext ..) rfl ?_
  refine Ext.step (State.setPhase_ext ..) rfl ?_
  refine Ext.step (State.wr_ext ..) rfl ?_
  refine Ext.step (State.retWrite_ext ..) rfl ?_
  exact Ext.refl _ _

theorem State.setAmax_ext (a0 : State) (a1 : ℕ → ℕ) :
    Ext [.rst, .regs, .hlk, .cores, .mem, .ras, .free] a0 (@State.setAmax a0 a1) := by
  unfold Sys2Proof.Machine.State.setAmax
  refine Ext.ite ?_ ?_
  refine foldl_all (P := fun x => Ext _ _ x) ?_ ?_
  exact Ext.refl _ _
  intro _
  intro _
  intro _
  split
  refine Ext.ite ?_ ?_
  refine Ext.step (State.putHdr_ext ..) rfl ?_
  with_reducible assumption
  with_reducible assumption
  with_reducible assumption
  exact Ext.refl _ _

theorem State.verdictAct_ext (a0 : State) (a1 : Bytes) :
    Ext [.rst, .jrn, .regs, .retained, .hlk, .cores, .shoals, .mem, .act, .fab, .red, .scale, .ras, .free] a0 (@State.verdictAct a0 a1) := by
  unfold Sys2Proof.Machine.State.verdictAct
  refine Ext.ite ?_ ?_
  refine Ext.step (State.skipEnd_ext ..) rfl ?_
  refine Ext.step (State.setPhase_ext ..) rfl ?_
  refine Ext.step (State.p_ext ..) rfl ?_
  refine Ext.step (State.p_ext ..) rfl ?_
  refine Ext.step (State.wr_ext ..) rfl ?_
  exact Ext.refl _ _
  refine Ext.step (State.writeStaged_ext ..) rfl ?_
  refine Ext.step (State.setAmax_ext ..) rfl ?_
  refine Ext.step (State.setPhase_ext ..) rfl ?_
  refine Ext.step (State.p_ext ..) rfl ?_
  refine Ext.step (State.p_ext ..) rfl ?_
  refine Ext.step (State.wr_ext ..) rfl ?_
  exact Ext.refl _ _

theorem execCommitTimeout_ext (a0 : State) :
    HAll (fun x => Ext [.rst, .regs, .hlk] a0 x) (@execCommitTimeout a0) := by
  unfold Sys2Proof.Machine.execCommitTimeout
  refine HAll.next ?_
  refine Ext.ite ?_ ?_
  refine Ext.step (State.requestReset_ext ..) rfl ?_
  refine Ext.step (State.raise_ext ..) rfl ?_
  exact Ext.refl _ _
  exact Ext.refl _ _

theorem State.writeLwclr_ext (a0 : State) (a1 : Option ℕ) :
    Ext [.rst, .regs, .hlk, .cores, .mem, .red, .ras, .free] a0 (@State.writeLwclr a0 a1) := by
  unfold Sys2Proof.Machine.State.writeLwclr
  refine Ext.ite ?_ ?_
  refine Ext.step (State.lwClearsDue_ext ..) rfl ?_
  refine Ext.step (State.setRed_ext ..) rfl ?_
  exact Ext.refl _ _
  refine Ext.step (State.setRed_ext ..) rfl ?_
  exact Ext.refl _ _

theorem State.takeAttempt_ext (a0 : State) (a1 : ℕ) (a2 : Bool) :
    Ext [.regs] a0 (@State.takeAttempt a0 a1 a2).2 := by
  unfold Sys2Proof.Machine.State.takeAttempt
  (dsimp only; split)
  refine Ext.at2 ?_
  refine Ext.step (State.p_ext ..) rfl ?_
  exact Ext.refl _ _
  split
  refine Ext.at2 ?_
  exact Ext.refl _ _
  refine Ext.at2 ?_
  exact Ext.refl _ _

theorem State.redDiscard_ext (a0 : State) :
    Ext [.regs, .shoals, .fab, .red] a0 (@State.redDiscard a0) := by
  unfold Sys2Proof.Machine.State.redDiscard
  refine Ext.step (State.setRed_ext ..) rfl ?_
  refine Ext.step (State.dropRedTxns_ext ..) rfl ?_
  refine Ext.step (State.unitsClear_ext ..) rfl ?_
  exact Ext.refl _ _

theorem State.writeBsteer1_ext (a0 : State) (a1 : Word) :
    Ext [.regs, .hlk] a0 (@State.writeBsteer1 a0 a1) := by
  unfold Sys2Proof.Machine.State.writeBsteer1
  refine Ext.ite ?_ ?_
  refine Ext.step (State.p_ext ..) rfl ?_
  refine Ext.step (State.p_ext ..) rfl ?_
  exact Ext.refl _ _
  refine Ext.step (State.raise_ext ..) rfl ?_
  exact Ext.refl _ _

theorem execBsteerStateWrite_ext (a0 : Word) (a1 : State) :
    HAll (fun x => Ext [.regs, .hlk] a1 x) (@execBsteerStateWrite a0 a1) := by
  unfold Sys2Proof.Machine.execBsteerStateWrite
  refine HAll.next ?_
  unfold Sys2Proof.Machine.redWrite
  refine Ext.ite ?_ ?_
  refine Ext.step (State.writeBsteer1_ext ..) rfl ?_
  exact Ext.refl _ _
  refine Ext.step (State.refuse_ext ..) rfl ?_
  exact Ext.refl _ _

theorem execVerdictTimeout_ext (a0 : State) :
    HAll (fun x => Ext [.regs, .hlk] a0 x) (@execVerdictTimeout a0) := by
  unfold Sys2Proof.Machine.execVerdictTimeout
  refine HAll.next ?_
  refine Ext.ite ?_ ?_
  refine Ext.step (State.raise_ext ..) rfl ?_
  exact Ext.refl _ _
  exact Ext.refl _ _

theorem State.stepOpen_ext (a0 : State) (a1 : ℕ) :
    OAll (fun x => Ext [.rst, .regs, .hlk, .cores, .shoals, .mem, .act, .fab, .red, .ras, .free] a0 x) (@State.stepOpen a0 a1) := by
  unfold Sys2Proof.Machine.State.stepOpen
  refine OAll.ite ?_ ?_
  refine OAll.none ?_
  refine OAll.some ?_
  refine Ext.step (State.redRelease_ext ..) rfl ?_
  refine Ext.step (State.ledgerRestart_ext ..) rfl ?_
  refine Ext.ite ?_ ?_
  refine Ext.step (State.p_ext ..) rfl ?_
  refine Ext.step (State.wr_ext ..) rfl ?_
  refine Ext.step (State.updWords_ext ..) rfl ?_
  refine Ext.ite ?_ ?_
  refine Ext.step (State.bump_ext ..) rfl ?_
  refine Ext.step (State.setAmax_ext ..) rfl ?_
  refine Ext.step (State.redDiscard_ext ..) rfl ?_
  refine Ext.decRec2 ?_ ?_
  intro _
  split
  refine Ext.at2 ?_
  exact Ext.refl _ _
  refine Ext.at2 ?_
  exact Ext.refl _ _
  intro _
  refine Ext.at2 ?_
  refine Ext.step (State.p_ext ..) rfl ?_
  exact Ext.refl _ _
  refine Ext.decRec2 ?_ ?_
  intro _
  split
  refine Ext.at2 ?_
  exact Ext.refl _ _
  refine Ext.at2 ?_
  exact Ext.refl _ _
  intro _
  refine Ext.at2 ?_
  refine Ext.step (State.p_ext ..) rfl ?_
  exact Ext.refl _ _
  refine Ext.step (State.wr_ext ..) rfl ?_
  refine Ext.step (State.updWords_ext ..) rfl ?_
  refine Ext.ite ?_ ?_
  refine Ext.step (State.bump_ext ..) rfl ?_
  refine Ext.step (State.setAmax_ext ..) rfl ?_
  refine Ext.step (State.redDiscard_ext ..) rfl ?_
  refine Ext.decRec2 ?_ ?_
  intro _
  split
  refine Ext.at2 ?_
  exact Ext.refl _ _
  refine Ext.at2 ?_
  exact Ext.refl _ _
  intro _
  refine Ext.at2 ?_
  refine Ext.step (State.p_ext ..) rfl ?_
  exact Ext.refl _ _
  refine Ext.decRec2 ?_ ?_
  intro _
  split
  refine Ext.at2 ?_
  exact Ext.refl _ _
  refine Ext.at2 ?_
  exact Ext.refl _ _
  intro _
  refine Ext.at2 ?_
  refine Ext.step (State.p_ext ..) rfl ?_
  exact Ext.refl _ _

theorem State.sendRec_ext (a0 : State) (a1 : ℕ) (a2 : ℕ) (a3 : Bytes) :
    OAll (fun x => Ext [.regs, .hlk, .mem, .fab] a0 x) (@State.sendRec a0 a1 a2 a3) := by
  unfold Sys2Proof.Machine.State.sendRec
  refine foldl_all (P := fun x => OAll (fun x => Ext _ _ x) x) ?_ ?_
  refine OAll.some ?_
  exact Ext.refl _ _
  intro _
  intro _
  intro _
  refine OAll.bindE (g := fun x => x) ?_ ?_
  with_reducible assumption
  intro _
  intro _
  refine OAll.step (State.redSend_ext ..) rfl ?_
  with_reducible assumption

theorem State.passVerdict_ext (a0 : State) (a1 : Bytes) :
    OAll (fun x => Ext [.rst, .regs, .hlk, .cores, .mem, .fab, .ras, .free] a0 x) (@State.passVerdict a0 a1) := by
  unfold Sys2Proof.Machine.State.passVerdict
  (dsimp only; split)
  refine OAll.some ?_
  refine Ext.ite ?_ ?_
  exact Ext.refl _ _
  refine Ext.step (State.vput_ext ..) rfl ?_
  exact Ext.refl _ _
  refine foldl_all (P := fun x => OAll (fun x => Ext _ _ x) x) ?_ ?_
  refine OAll.some ?_
  refine Ext.ite ?_ ?_
  exact Ext.refl _ _
  refine Ext.step (State.vput_ext ..) rfl ?_
  exact Ext.refl _ _
  intro _
  intro _
  intro _
  refine OAll.bindE (g := fun x => x) ?_ ?_
  with_reducible assumption
  intro _
  intro _
  split
  refine OAll.none ?_
  refine OAll.step (State.sendRec_ext ..) rfl ?_
  with_reducible assumption

theorem execTwinFlipped_ext (a0 : State) :
    HAll (fun x => Ext [.rst, .jrn, .regs, .retained, .hlk, .cores, .shoals, .mem, .act, .fab, .red, .scale, .ras, .free] a0 x) (@execTwinFlipped a0) := by
  unfold Sys2Proof.Machine.execTwinFlipped
  refine HAll.next ?_
  refine Ext.ite ?_ ?_
  refine Ext.step (State.commitEnd_ext ..) rfl ?_
  exact Ext.refl _ _
  exact Ext.refl _ _

theorem State.combine_ext (a0 : State) :
    Ext [.regs, .hlk, .mem, .fab, .red] a0 (@State.combine a0) := by
  unfold Sys2Proof.Machine.State.combine
  (dsimp only; split)
  refine Ext.ite ?_ ?_
  exact Ext.refl _ _
  refine Ext.ite ?_ ?_
  refine Ext.step (State.setRed_ext ..) rfl ?_
  exact Ext.refl _ _
  split
  exact Ext.refl _ _
  split
  refine Ext.step (State.setRed_ext ..) rfl ?_
  refine Ext.ofO ?_ ‹_›
  refine OAll.step (State.sendRec_ext ..) rfl ?_
  exact Ext.refl _ _
  exact Ext.refl _ _
  exact Ext.refl _ _

theorem execLwClearAll_ext (a0 : State) :
    HAll (fun x => Ext [.rst, .regs, .hlk, .cores, .mem, .red, .ras, .free] a0 x) (@execLwClearAll a0) := by
  unfold Sys2Proof.Machine.execLwClearAll
  refine HAll.next ?_
  unfold Sys2Proof.Machine.redWrite
  refine Ext.ite ?_ ?_
  refine Ext.step (State.writeLwclr_ext ..) rfl ?_
  exact Ext.refl _ _
  refine Ext.step (State.refuse_ext ..) rfl ?_
  exact Ext.refl _ _

theorem State.writeBsteer2_ext (a0 : State) (a1 : Bool) (a2 : ℕ) :
    Ext [.regs, .hlk] a0 (@State.writeBsteer2 a0 a1 a2) := by
  unfold Sys2Proof.Machine.State.writeBsteer2
  refine Ext.ite ?_ ?_
  refine Ext.step (State.raise_ext ..) rfl ?_
  exact Ext.refl _ _
  refine Ext.ite ?_ ?_
  refine Ext.step (State.p_ext ..) rfl ?_
  exact Ext.refl _ _
  exact Ext.refl _ _

theorem execBsteerEmaLoad_ext (a0 : W32) (a1 : State) :
    HAll (fun x => Ext [.regs, .hlk] a1 x) (@execBsteerEmaLoad a0 a1) := by
  unfold Sys2Proof.Machine.execBsteerEmaLoad
  refine HAll.next ?_
  unfold Sys2Proof.Machine.redWrite
  refine Ext.ite ?_ ?_
  refine Ext.step (State.writeBsteer2_ext ..) rfl ?_
  exact Ext.refl _ _
  refine Ext.step (State.refuse_ext ..) rfl ?_
  exact Ext.refl _ _

theorem State.abandonStep_ext (a0 : State) (a1 : ℕ) :
    Ext [.rst, .jrn, .regs, .retained, .hlk, .cores, .shoals, .mem, .act, .fab, .red, .scale, .ras, .free] a0 (@State.abandonStep a0 a1) := by
  unfold Sys2Proof.Machine.State.abandonStep
  refine Ext.ite ?_ ?_
  refine Ext.step (State.skipEnd_ext ..) rfl ?_
  refine Ext.step (State.redDiscard_ext ..) rfl ?_
  refine Ext.step (State.p_ext ..) rfl ?_
  exact Ext.refl _ _
  refine Ext.step (State.raise_ext ..) rfl ?_
  refine Ext.step (State.p_ext ..) rfl ?_
  exact Ext.refl _ _

theorem execLwClearEntry_ext (a0 : BitVec 12) (a1 : State) :
    HAll (fun x => Ext [.rst, .regs, .hlk, .cores, .mem, .red, .ras, .free] a1 x) (@execLwClearEntry a0 a1) := by
  unfold Sys2Proof.Machine.execLwClearEntry
  refine HAll.next ?_
  unfold Sys2Proof.Machine.redWrite
  refine Ext.ite ?_ ?_
  refine Ext.step (State.writeLwclr_ext ..) rfl ?_
  exact Ext.refl _ _
  refine Ext.step (State.refuse_ext ..) rfl ?_
  exact Ext.refl _ _

theorem execStepVote_ext (a0 : State) :
    HAll (fun x => Ext [.regs, .hlk, .mem, .fab, .red] a0 x) (@execStepVote a0) := by
  unfold Sys2Proof.Machine.execStepVote
  refine HAll.next ?_
  refine Ext.ite ?_ ?_
  refine Ext.step (State.combine_ext ..) rfl ?_
  refine Ext.step (State.setRedState_ext ..) rfl ?_
  refine Ext.step (State.setRed_ext ..) rfl ?_
  exact Ext.refl _ _
  exact Ext.refl _ _

theorem State.writeBankset_ext (a0 : State) (a1 : Bool) :
    Ext [.regs, .hlk] a0 (@State.writeBankset a0 a1) := by
  unfold Sys2Proof.Machine.State.writeBankset
  refine Ext.ite ?_ ?_
  refine Ext.step (State.p_ext ..) rfl ?_
  refine Ext.step (State.p_ext ..) rfl ?_
  exact Ext.refl _ _
  refine Ext.step (State.raise_ext ..) rfl ?_
  exact Ext.refl _ _

theorem execRedBanksetWrite_ext (a0 : Bool) (a1 : State) :
    HAll (fun x => Ext [.regs, .hlk] a1 x) (@execRedBanksetWrite a0 a1) := by
  unfold Sys2Proof.Machine.execRedBanksetWrite
  refine HAll.next ?_
  unfold Sys2Proof.Machine.redWrite
  refine Ext.ite ?_ ?_
  refine Ext.step (State.writeBankset_ext ..) rfl ?_
  exact Ext.refl _ _
  refine Ext.step (State.refuse_ext ..) rfl ?_
  exact Ext.refl _ _

theorem execTwinStaged_ext (a0 : Word) (a1 : State) :
    HAll (fun x => Ext [.rst, .jrn, .regs, .retained, .hlk, .cores, .shoals, .mem, .act, .fab, .red, .scale, .ras, .free] a1 x) (@execTwinStaged a0 a1) := by
  unfold Sys2Proof.Machine.execTwinStaged
  refine HAll.next ?_
  refine Ext.ite ?_ ?_
  exact Ext.refl _ _
  refine Ext.ite ?_ ?_
  refine Ext.step (State.compareDigest_ext ..) rfl ?_
  refine Ext.step (State.setRed_ext ..) rfl ?_
  exact Ext.refl _ _
  refine Ext.step (State.setRed_ext ..) rfl ?_
  exact Ext.refl _ _

theorem execMirrorRedoDone_ext (a0 : State) :
    HAll (fun x => Ext [.rst, .jrn, .regs, .retained, .hlk, .cores, .shoals, .mem, .act, .fab, .red, .scale, .ras, .free] a0 x) (@execMirrorRedoDone a0) := by
  unfold Sys2Proof.Machine.execMirrorRedoDone
  refine HAll.next ?_
  refine Ext.ite ?_ ?_
  refine Ext.ite ?_ ?_
  refine Ext.step (State.holdCommit_ext ..) rfl ?_
  refine Ext.step (State.setRed_ext ..) rfl ?_
  exact Ext.refl _ _
  refine Ext.step (State.writeStaged_ext ..) rfl ?_
  refine Ext.step (State.setRed_ext ..) rfl ?_
  exact Ext.refl _ _
  exact Ext.refl _ _

theorem execVerdictCombine_ext (a0 : State) :
    HAll (fun x => Ext [.regs, .hlk, .mem, .fab, .red] a0 x) (@execVerdictCombine a0) := by
  unfold Sys2Proof.Machine.execVerdictCombine
  refine HAll.next ?_
  refine Ext.step (State.combine_ext ..) rfl ?_
  exact Ext.refl _ _

theorem execUpd_ext (a0 : ℕ) (a1 : Pkt) (a2 : State) :
    HAll (fun x => Ext [.rst, .regs, .hlk, .cores, .mem, .fab, .red, .ras, .free] a2 x) (@execUpd a0 a1 a2) := by
  unfold Sys2Proof.Machine.execUpd
  refine HAll.next ?_
  refine Ext.ite ?_ ?_
  unfold Sys2Proof.Machine.State.arrive
  refine Ext.ite ?_ ?_
  exact Ext.refl _ _
  refine Ext.ite ?_ ?_
  refine Ext.ite ?_ ?_
  refine Ext.step (State.answer_ext ..) rfl ?_
  refine Ext.step (State.bump_ext ..) rfl ?_
  exact Ext.refl _ _
  split
  refine Ext.step (State.emit_ext ..) rfl ?_
  refine Ext.step (State.bump_ext ..) rfl ?_
  refine Ext.ofPair ?_ ‹_›
  refine Ext.step (State.route_ext ..) rfl ?_
  refine Ext.step (State.bump_ext ..) rfl ?_
  exact Ext.refl _ _
  refine Ext.step (State.answer_ext ..) rfl ?_
  refine Ext.ofPair ?_ ‹_›
  refine Ext.step (State.route_ext ..) rfl ?_
  refine Ext.step (State.bump_ext ..) rfl ?_
  exact Ext.refl _ _
  refine Ext.ite ?_ ?_
  refine Ext.ite ?_ ?_
  refine Ext.step (State.answer_ext ..) rfl ?_
  refine Ext.step (State.bump_ext ..) rfl ?_
  refine Ext.step (State.bump_ext ..) rfl ?_
  exact Ext.refl _ _
  refine Ext.ite ?_ ?_
  refine Ext.step (State.answer_ext ..) rfl ?_
  refine Ext.step (State.bump_ext ..) rfl ?_
  exact Ext.refl _ _
  refine Ext.step (State.pushArrive_ext ..) rfl ?_
  refine Ext.step (State.dupAdd_ext ..) rfl ?_
  refine Ext.step (State.bump_ext ..) rfl ?_
  exact Ext.refl _ _
  refine Ext.step (State.pushArrive_ext ..) rfl ?_
  refine Ext.step (State.dupAdd_ext ..) rfl ?_
  refine Ext.step (State.bump_ext ..) rfl ?_
  exact Ext.refl _ _
  exact Ext.refl _ _

theorem execVerdictReceived_ext (a0 : State) :
    HAll (fun x => Ext [.rst, .jrn, .regs, .retained, .hlk, .cores, .shoals, .mem, .act, .fab, .red, .scale, .ras, .free] a0 x) (@execVerdictReceived a0) := by
  unfold Sys2Proof.Machine.execVerdictReceived
  refine HAll.next ?_
  split
  refine Ext.ite ?_ ?_
  split
  refine Ext.step (State.verdictAct_ext ..) rfl ?_
  refine Ext.ofO ?_ ‹_›
  refine OAll.step (State.passVerdict_ext ..) rfl ?_
  exact Ext.refl _ _
  exact Ext.refl _ _
  exact Ext.refl _ _
  exact Ext.refl _ _

theorem execStepAbandon_ext (a0 : BitVec 62) (a1 : State) :
    HAll (fun x => Ext [.rst, .jrn, .regs, .retained, .hlk, .cores, .shoals, .mem, .act, .fab, .red, .scale, .ras, .free] a1 x) (@execStepAbandon a0 a1) := by
  unfold Sys2Proof.Machine.execStepAbandon
  refine HAll.next ?_
  unfold Sys2Proof.Machine.redWrite
  refine Ext.ite ?_ ?_
  refine Ext.step (State.abandonStep_ext ..) rfl ?_
  exact Ext.refl _ _
  refine Ext.step (State.refuse_ext ..) rfl ?_
  exact Ext.refl _ _

end Sys2Proof.Machine
end

