-- ==== Sys2Proof/Laws/FrameShallows.lean ====
section
/-! SUPPORT. What each definition of Machine/Shallows.lean may change: every part that its lemma does not name stays, and memory keeps
its canonical form. -/

set_option maxRecDepth 4000

namespace Sys2Proof.Machine

theorem State.jobRows_ext (a0 : State) (a1 : ℕ) (a2 : ℕ) (a3 : Geom) (a4 : ℕ) (a5 : ℕ) (a6 : ℕ → ℕ → Src) :
    GAll (fun x => Ext [.regs, .hlk, .mem] a0 x) (@State.jobRows a0 a1 a2 a3 a4 a5 a6) := by
  unfold Sys2Proof.Machine.State.jobRows
  refine GAll.bindE ?_ ?_
  refine GAll.step (State.gotSrcs_ext ..) rfl ?_
  exact Ext.refl _ _
  intro _
  intro _
  intro _
  refine GAll.ok ?_
  with_reducible assumption

theorem Got.ofOption_ext {α : Type} (a0 : State) (a1 : Option α) : GAll (fun x => Ext [] a0 x) (Got.ofOption a0 a1) := by
  cases a1
  · exact trivial
  · exact Ext.refl _ _

theorem State.setShlJobs_ext (a0 : State) (a1 : ℕ) (a2 : List ShlJob) :
    Ext [.shl] a0 (@State.setShlJobs a0 a1 a2) := by
  unfold Sys2Proof.Machine.State.setShlJobs
  refine Ext.step (Ext.set_shl ..) rfl ?_
  exact Ext.refl _ _

theorem State.shlRegs_ext (a0 : State) (a1 : ℕ) :
    Ext [.regs] a0 (@State.shlRegs a0 a1) := by
  unfold Sys2Proof.Machine.State.shlRegs
  refine Ext.step (State.wr_ext ..) rfl ?_
  refine Ext.step (State.p_ext ..) rfl ?_
  refine Ext.step (State.p_ext ..) rfl ?_
  exact Ext.refl _ _

theorem State.shlFail_ext (a0 : State) (a1 : ℕ) (a2 : ShlJob) (a3 : ℕ) (a4 : ℕ) (a5 : ℕ) :
    Ext [.rst, .regs, .hlk, .cores, .sram, .sramUe, .mem, .queues, .shl, .ras, .free] a0 (@State.shlFail a0 a1 a2 a3 a4 a5) := by
  unfold Sys2Proof.Machine.State.shlFail
  refine Ext.step (State.poisonTail_ext ..) rfl ?_
  refine Ext.step (State.shlRegs_ext ..) rfl ?_
  refine Ext.step (State.raise_ext ..) rfl ?_
  refine Ext.step (State.setShlJobs_ext ..) rfl ?_
  refine Ext.step (State.p_ext ..) rfl ?_
  refine Ext.step (State.p_ext ..) rfl ?_
  (dsimp only; split)
  refine Ext.ite ?_ ?_
  exact Ext.refl _ _
  refine Ext.step (State.vput_ext ..) rfl ?_
  refine Ext.step (State.vput_ext ..) rfl ?_
  exact Ext.refl _ _
  exact Ext.refl _ _

theorem execShlJobDone_ext (a0 : ℕ) (a1 : State) :
    HAll (fun x => Ext [.rst, .regs, .hlk, .launches, .cores, .sram, .sramUe, .mem, .queues, .act, .shl, .red, .ras, .free] a1 x) (@execShlJobDone a0 a1) := by
  unfold Sys2Proof.Machine.execShlJobDone
  refine HAll.next ?_
  (dsimp only; split)
  exact Ext.refl _ _
  split
  split
  refine Ext.step (State.completeOp_ext ..) rfl ?_
  refine Ext.step (State.modOp_ext ..) rfl ?_
  refine Ext.step (State.shlRegs_ext ..) rfl ?_
  refine Ext.step (State.bump_ext ..) rfl ?_
  refine Ext.step (State.p_ext ..) rfl ?_
  refine Ext.step (State.p_ext ..) rfl ?_
  refine Ext.step (State.setShlJobs_ext ..) rfl ?_
  exact Ext.refl _ _
  refine Ext.step (State.modOp_ext ..) rfl ?_
  refine Ext.step (State.shlRegs_ext ..) rfl ?_
  refine Ext.step (State.bump_ext ..) rfl ?_
  refine Ext.step (State.p_ext ..) rfl ?_
  refine Ext.step (State.p_ext ..) rfl ?_
  refine Ext.step (State.setShlJobs_ext ..) rfl ?_
  exact Ext.refl _ _
  split
  refine Ext.ite ?_ ?_
  refine Ext.step (State.shlFail_ext ..) rfl ?_
  refine VAll.of_ok (P := fun x => Ext _ _ x) ?_ ‹_›
  refine VAll.step (State.vread_ext ..) rfl ?_
  exact Ext.refl _ _
  exact Ext.refl _ _
  exact Ext.refl _ _
  exact Ext.refl _ _

theorem State.gotWrites_ext (a0 : ℕ) (a1 : List (ℕ × Bytes)) (a2 : State) :
    GAll (fun x => Ext [.rst, .regs, .hlk, .cores, .mem, .ras, .free] a2 x) (@State.gotWrites a0 a1 a2) := by
  induction a1 generalizing a0 a2 with
  | nil =>
    unfold Sys2Proof.Machine.State.gotWrites
    refine GAll.ok ?_
    exact Ext.refl _ _
  | cons x l ih =>
    unfold Sys2Proof.Machine.State.gotWrites
    split
    refine GAll.step (ih _ _) rfl ?_
    refine VAll.of_ok (P := fun x => Ext _ _ x) ?_ ‹_›
    refine VAll.step (State.vwrite_ext ..) rfl ?_
    exact Ext.refl _ _
    refine GAll.hostDown ?_
    refine GAll.wait ?_

theorem State.jobConv_ext (a0 : State) (a1 : ℕ) (a2 : ShlDesc) (a3 : Word) (a4 : List (ℕ × Num)) :
    GAll (fun x => Ext [.rst, .regs, .hlk, .cores, .mem, .scale, .ras, .free] a0 x) (@State.jobConv a0 a1 a2 a3 a4) := by
  unfold Sys2Proof.Machine.State.jobConv
  (dsimp only; split)
  refine GAll.ok ?_
  refine Ext.ofO2 ?_ ‹_›
  refine OAll.step (State.convSlot_ext ..) rfl ?_
  exact Ext.refl _ _
  refine GAll.wait ?_

theorem State.jobWeights_ext (a0 : State) (a1 : ℕ) (a2 : ShlDesc) (a3 : ℕ) (a4 : ℕ) (a5 : ℕ) :
    GAll (fun x => Ext [.regs, .hlk, .mem] a0 x) (@State.jobWeights a0 a1 a2 a3 a4 a5) := by
  unfold Sys2Proof.Machine.State.jobWeights
  refine GAll.bindE ?_ ?_
  refine GAll.step (State.gotPlain_ext ..) rfl ?_
  exact Ext.refl _ _
  intro _
  intro _
  intro _
  refine GAll.ok ?_
  with_reducible assumption

theorem State.jobScale_ext (a0 : State) (a1 : ℕ) (a2 : ℕ) (a3 : ℕ) :
    GAll (fun x => Ext [] a0 x) (@State.jobScale a0 a1 a2 a3) := by
  unfold Sys2Proof.Machine.State.jobScale
  refine GAll.step (Got.ofOption_ext ..) rfl ?_
  exact Ext.refl _ _

theorem State.placeOut_ext (a0 : State) (a1 : ℕ) (a2 : ShlDesc) (a3 : Word) (a4 : List (ℕ × ℕ × Num)) (a5 : ℕ) :
    GAll (fun x => Ext [.rst, .regs, .hlk, .cores, .mem, .scale, .ras, .free] a0 x) (@State.placeOut a0 a1 a2 a3 a4 a5) := by
  unfold Sys2Proof.Machine.State.placeOut
  refine GAll.bindE ?_ ?_
  refine GAll.step (State.jobConv_ext ..) rfl ?_
  exact Ext.refl _ _
  intro _
  intro _
  intro _
  refine GAll.ok ?_
  with_reducible assumption

theorem State.runBwdData_ext (a0 : State) (a1 : ℕ) (a2 : ShlDesc) (a3 : Word) :
    GAll (fun x => Ext [.rst, .regs, .hlk, .cores, .mem, .scale, .ras, .free] a0 x) (@State.runBwdData a0 a1 a2 a3) := by
  unfold Sys2Proof.Machine.State.runBwdData
  refine GAll.bindE ?_ ?_
  refine GAll.step (State.jobRows_ext ..) rfl ?_
  exact Ext.refl _ _
  intro _
  intro _
  intro _
  refine GAll.bindE ?_ ?_
  refine GAll.step (State.jobWeights_ext ..) rfl ?_
  with_reducible assumption
  intro _
  intro _
  intro _
  refine GAll.bindE ?_ ?_
  refine GAll.step (State.jobScale_ext ..) rfl ?_
  with_reducible assumption
  intro _
  intro _
  intro _
  refine GAll.bindE ?_ ?_
  refine GAll.step (State.jobScale_ext ..) rfl ?_
  with_reducible assumption
  intro _
  intro _
  intro _
  refine GAll.ite ?_ ?_
  refine GAll.bindE ?_ ?_
  refine GAll.step (State.placeOut_ext ..) rfl ?_
  with_reducible assumption
  intro _
  intro _
  intro _
  refine GAll.ok ?_
  with_reducible assumption
  refine GAll.bindE ?_ ?_
  refine GAll.step (State.placeOut_ext ..) rfl ?_
  with_reducible assumption
  intro _
  intro _
  intro _
  refine GAll.ok ?_
  with_reducible assumption

theorem execConvBwdData_ext (a0 : ℕ) (a1 : Check) (a2 : State) :
    HAll (fun x => Ext [.rst, .regs, .hlk, .cores, .sram, .sramUe, .mem, .queues, .shl, .red, .scale, .ras, .free] a2 x) (@execConvBwdData a0 a1 a2) := by
  unfold Sys2Proof.Machine.execConvBwdData
  refine HAll.next ?_
  unfold Sys2Proof.Machine.State.shlJob
  (dsimp only; split)
  exact Ext.refl _ _
  split
  refine Ext.ite ?_ ?_
  exact Ext.refl _ _
  split
  refine Ext.step (State.shlFail_ext ..) rfl ?_
  refine Ext.step (State.poisonAt_ext ..) rfl ?_
  refine VAll.of_ok (P := fun x => Ext _ _ x) ?_ ‹_›
  refine VAll.step (State.vread_ext ..) rfl ?_
  exact Ext.refl _ _
  refine Ext.ite ?_ ?_
  refine Ext.step (State.shlFail_ext ..) rfl ?_
  refine VAll.of_ok (P := fun x => Ext _ _ x) ?_ ‹_›
  refine VAll.step (State.vread_ext ..) rfl ?_
  exact Ext.refl _ _
  refine Ext.ite ?_ ?_
  exact Ext.refl _ _
  refine Ext.ite ?_ ?_
  refine Ext.step (State.shlFail_ext ..) rfl ?_
  refine Ext.step (State.detected_ext ..) rfl ?_
  refine VAll.of_ok (P := fun x => Ext _ _ x) ?_ ‹_›
  refine VAll.step (State.vread_ext ..) rfl ?_
  exact Ext.refl _ _
  split
  refine Ext.step (State.setShlJobs_ext ..) rfl ?_
  refine Ext.ite ?_ ?_
  refine Ext.step (State.bump_ext ..) rfl ?_
  refine Ext.step (State.bump_ext ..) rfl ?_
  refine Ext.step (State.bump_ext ..) rfl ?_
  refine Ext.step (State.bump_ext ..) rfl ?_
  refine Ext.step (State.opFlags_ext ..) rfl ?_
  refine GAll.of_ok (P := fun x => Ext _ _ x) ?_ ‹_›
  refine GAll.bindE ?_ ?_
  refine GAll.step (State.runBwdData_ext ..) rfl ?_
  refine VAll.of_ok (P := fun x => Ext _ _ x) ?_ ‹_›
  refine VAll.step (State.vread_ext ..) rfl ?_
  exact Ext.refl _ _
  intro _
  intro _
  intro _
  refine GAll.bindE ?_ ?_
  refine GAll.step (State.gotWrites_ext ..) rfl ?_
  with_reducible assumption
  intro _
  intro _
  intro _
  refine GAll.ok ?_
  with_reducible assumption
  refine Ext.step (State.bump_ext ..) rfl ?_
  refine Ext.step (State.bump_ext ..) rfl ?_
  refine Ext.step (State.bump_ext ..) rfl ?_
  refine Ext.step (State.opFlags_ext ..) rfl ?_
  refine GAll.of_ok (P := fun x => Ext _ _ x) ?_ ‹_›
  refine GAll.bindE ?_ ?_
  refine GAll.step (State.runBwdData_ext ..) rfl ?_
  refine VAll.of_ok (P := fun x => Ext _ _ x) ?_ ‹_›
  refine VAll.step (State.vread_ext ..) rfl ?_
  exact Ext.refl _ _
  intro _
  intro _
  intro _
  refine GAll.bindE ?_ ?_
  refine GAll.step (State.gotWrites_ext ..) rfl ?_
  with_reducible assumption
  intro _
  intro _
  intro _
  refine GAll.ok ?_
  with_reducible assumption
  exact Ext.refl _ _
  refine Ext.step (State.shlFail_ext ..) rfl ?_
  refine Ext.step (State.poisonAt_ext ..) rfl ?_
  refine GAll.of_poison (P := fun x => Ext _ _ x) ?_ ‹_›
  refine GAll.bindE ?_ ?_
  refine GAll.step (State.runBwdData_ext ..) rfl ?_
  refine VAll.of_ok (P := fun x => Ext _ _ x) ?_ ‹_›
  refine VAll.step (State.vread_ext ..) rfl ?_
  exact Ext.refl _ _
  intro _
  intro _
  intro _
  refine GAll.bindE ?_ ?_
  refine GAll.step (State.gotWrites_ext ..) rfl ?_
  with_reducible assumption
  intro _
  intro _
  intro _
  refine GAll.ok ?_
  with_reducible assumption
  refine Ext.step (State.shlFail_ext ..) rfl ?_
  refine Ext.step (State.fmcBad_ext ..) rfl ?_
  refine GAll.of_crc (P := fun x => Ext _ _ x) ?_ ‹_›
  refine GAll.bindE ?_ ?_
  refine GAll.step (State.runBwdData_ext ..) rfl ?_
  refine VAll.of_ok (P := fun x => Ext _ _ x) ?_ ‹_›
  refine VAll.step (State.vread_ext ..) rfl ?_
  exact Ext.refl _ _
  intro _
  intro _
  intro _
  refine GAll.bindE ?_ ?_
  refine GAll.step (State.gotWrites_ext ..) rfl ?_
  with_reducible assumption
  intro _
  intro _
  intro _
  refine GAll.ok ?_
  with_reducible assumption
  refine Ext.step (State.shlFail_ext ..) rfl ?_
  exact Ext.refl _ _
  refine Ext.step (State.shlFail_ext ..) rfl ?_
  exact Ext.refl _ _
  exact Ext.refl _ _
  exact Ext.refl _ _

theorem State.jobMap_ext (a0 : State) (a1 : ℕ) (a2 : ℕ) (a3 : Geom) (a4 : ℕ × ℕ × ℕ) :
    GAll (fun x => Ext [.regs, .hlk, .mem] a0 x) (@State.jobMap a0 a1 a2 a3 a4) := by
  unfold Sys2Proof.Machine.State.jobMap
  refine GAll.bindE ?_ ?_
  refine GAll.step (State.gotElems_ext ..) rfl ?_
  exact Ext.refl _ _
  intro _
  intro _
  intro _
  refine GAll.ok ?_
  with_reducible assumption

theorem State.runBack_ext (a0 : State) (a1 : ℕ) (a2 : ShlDesc) (a3 : Word) (a4 : List (ℕ × ℕ × Num)) (a5 : ℕ) :
    GAll (fun x => Ext [.rst, .regs, .hlk, .cores, .mem, .scale, .ras, .free] a0 x) (@State.runBack a0 a1 a2 a3 a4 a5) := by
  unfold Sys2Proof.Machine.State.runBack
  refine GAll.bindE ?_ ?_
  refine GAll.step (State.placeOut_ext ..) rfl ?_
  exact Ext.refl _ _
  intro _
  intro _
  intro _
  refine GAll.ok ?_
  with_reducible assumption

theorem State.runAvgBwd_ext (a0 : State) (a1 : ℕ) (a2 : ShlDesc) (a3 : Word) :
    GAll (fun x => Ext [.rst, .regs, .hlk, .cores, .mem, .scale, .ras, .free] a0 x) (@State.runAvgBwd a0 a1 a2 a3) := by
  unfold Sys2Proof.Machine.State.runAvgBwd
  refine GAll.bindE ?_ ?_
  refine GAll.step (State.jobMap_ext ..) rfl ?_
  exact Ext.refl _ _
  intro _
  intro _
  intro _
  refine GAll.bindE ?_ ?_
  refine GAll.step (State.jobScale_ext ..) rfl ?_
  with_reducible assumption
  intro _
  intro _
  intro _
  refine GAll.step (State.runBack_ext ..) rfl ?_
  with_reducible assumption

theorem execPoolAvgBwd_ext (a0 : ℕ) (a1 : Check) (a2 : State) :
    HAll (fun x => Ext [.rst, .regs, .hlk, .cores, .sram, .sramUe, .mem, .queues, .shl, .red, .scale, .ras, .free] a2 x) (@execPoolAvgBwd a0 a1 a2) := by
  unfold Sys2Proof.Machine.execPoolAvgBwd
  refine HAll.next ?_
  unfold Sys2Proof.Machine.State.shlJob
  (dsimp only; split)
  exact Ext.refl _ _
  split
  refine Ext.ite ?_ ?_
  exact Ext.refl _ _
  split
  refine Ext.step (State.shlFail_ext ..) rfl ?_
  refine Ext.step (State.poisonAt_ext ..) rfl ?_
  refine VAll.of_ok (P := fun x => Ext _ _ x) ?_ ‹_›
  refine VAll.step (State.vread_ext ..) rfl ?_
  exact Ext.refl _ _
  refine Ext.ite ?_ ?_
  refine Ext.step (State.shlFail_ext ..) rfl ?_
  refine VAll.of_ok (P := fun x => Ext _ _ x) ?_ ‹_›
  refine VAll.step (State.vread_ext ..) rfl ?_
  exact Ext.refl _ _
  refine Ext.ite ?_ ?_
  exact Ext.refl _ _
  refine Ext.ite ?_ ?_
  refine Ext.step (State.shlFail_ext ..) rfl ?_
  refine Ext.step (State.detected_ext ..) rfl ?_
  refine VAll.of_ok (P := fun x => Ext _ _ x) ?_ ‹_›
  refine VAll.step (State.vread_ext ..) rfl ?_
  exact Ext.refl _ _
  split
  refine Ext.step (State.setShlJobs_ext ..) rfl ?_
  refine Ext.ite ?_ ?_
  refine Ext.step (State.bump_ext ..) rfl ?_
  refine Ext.step (State.bump_ext ..) rfl ?_
  refine Ext.step (State.bump_ext ..) rfl ?_
  refine Ext.step (State.bump_ext ..) rfl ?_
  refine Ext.step (State.opFlags_ext ..) rfl ?_
  refine GAll.of_ok (P := fun x => Ext _ _ x) ?_ ‹_›
  refine GAll.bindE ?_ ?_
  refine GAll.step (State.runAvgBwd_ext ..) rfl ?_
  refine VAll.of_ok (P := fun x => Ext _ _ x) ?_ ‹_›
  refine VAll.step (State.vread_ext ..) rfl ?_
  exact Ext.refl _ _
  intro _
  intro _
  intro _
  refine GAll.bindE ?_ ?_
  refine GAll.step (State.gotWrites_ext ..) rfl ?_
  with_reducible assumption
  intro _
  intro _
  intro _
  refine GAll.ok ?_
  with_reducible assumption
  refine Ext.step (State.bump_ext ..) rfl ?_
  refine Ext.step (State.bump_ext ..) rfl ?_
  refine Ext.step (State.bump_ext ..) rfl ?_
  refine Ext.step (State.opFlags_ext ..) rfl ?_
  refine GAll.of_ok (P := fun x => Ext _ _ x) ?_ ‹_›
  refine GAll.bindE ?_ ?_
  refine GAll.step (State.runAvgBwd_ext ..) rfl ?_
  refine VAll.of_ok (P := fun x => Ext _ _ x) ?_ ‹_›
  refine VAll.step (State.vread_ext ..) rfl ?_
  exact Ext.refl _ _
  intro _
  intro _
  intro _
  refine GAll.bindE ?_ ?_
  refine GAll.step (State.gotWrites_ext ..) rfl ?_
  with_reducible assumption
  intro _
  intro _
  intro _
  refine GAll.ok ?_
  with_reducible assumption
  exact Ext.refl _ _
  refine Ext.step (State.shlFail_ext ..) rfl ?_
  refine Ext.step (State.poisonAt_ext ..) rfl ?_
  refine GAll.of_poison (P := fun x => Ext _ _ x) ?_ ‹_›
  refine GAll.bindE ?_ ?_
  refine GAll.step (State.runAvgBwd_ext ..) rfl ?_
  refine VAll.of_ok (P := fun x => Ext _ _ x) ?_ ‹_›
  refine VAll.step (State.vread_ext ..) rfl ?_
  exact Ext.refl _ _
  intro _
  intro _
  intro _
  refine GAll.bindE ?_ ?_
  refine GAll.step (State.gotWrites_ext ..) rfl ?_
  with_reducible assumption
  intro _
  intro _
  intro _
  refine GAll.ok ?_
  with_reducible assumption
  refine Ext.step (State.shlFail_ext ..) rfl ?_
  refine Ext.step (State.fmcBad_ext ..) rfl ?_
  refine GAll.of_crc (P := fun x => Ext _ _ x) ?_ ‹_›
  refine GAll.bindE ?_ ?_
  refine GAll.step (State.runAvgBwd_ext ..) rfl ?_
  refine VAll.of_ok (P := fun x => Ext _ _ x) ?_ ‹_›
  refine VAll.step (State.vread_ext ..) rfl ?_
  exact Ext.refl _ _
  intro _
  intro _
  intro _
  refine GAll.bindE ?_ ?_
  refine GAll.step (State.gotWrites_ext ..) rfl ?_
  with_reducible assumption
  intro _
  intro _
  intro _
  refine GAll.ok ?_
  with_reducible assumption
  refine Ext.step (State.shlFail_ext ..) rfl ?_
  exact Ext.refl _ _
  refine Ext.step (State.shlFail_ext ..) rfl ?_
  exact Ext.refl _ _
  exact Ext.refl _ _
  exact Ext.refl _ _

theorem State.shlBegin_ext (a0 : State) (a1 : ℕ) (a2 : Op) :
    Ext [.regs, .queues, .shl] a0 (@State.shlBegin a0 a1 a2) := by
  unfold Sys2Proof.Machine.State.shlBegin
  refine Ext.ite ?_ ?_
  refine Ext.step (State.modOp_ext ..) rfl ?_
  exact Ext.refl _ _
  refine Ext.step (State.shlRegs_ext ..) rfl ?_
  refine Ext.step (State.setShlJobs_ext ..) rfl ?_
  refine Ext.step (State.modOp_ext ..) rfl ?_
  exact Ext.refl _ _

theorem State.runPadFold_ext (a0 : State) (a1 : ℕ) (a2 : ShlDesc) (a3 : Word) :
    GAll (fun x => Ext [.rst, .regs, .hlk, .cores, .mem, .scale, .ras, .free] a0 x) (@State.runPadFold a0 a1 a2 a3) := by
  unfold Sys2Proof.Machine.State.runPadFold
  refine GAll.bindE ?_ ?_
  refine GAll.step (State.jobMap_ext ..) rfl ?_
  exact Ext.refl _ _
  intro _
  intro _
  intro _
  refine GAll.bindE ?_ ?_
  refine GAll.step (State.jobScale_ext ..) rfl ?_
  with_reducible assumption
  intro _
  intro _
  intro _
  refine GAll.bindE ?_ ?_
  refine GAll.step (State.placeOut_ext ..) rfl ?_
  with_reducible assumption
  intro _
  intro _
  intro _
  refine GAll.ok ?_
  with_reducible assumption

theorem State.jobArgs_ext (a0 : State) (a1 : ℕ) (a2 : ShlDesc) :
    GAll (fun x => Ext [.regs, .hlk, .mem] a0 x) (@State.jobArgs a0 a1 a2) := by
  unfold Sys2Proof.Machine.State.jobArgs
  refine GAll.bindE ?_ ?_
  refine GAll.step (State.gotPlain_ext ..) rfl ?_
  exact Ext.refl _ _
  intro _
  intro _
  intro _
  refine GAll.ok ?_
  with_reducible assumption

theorem State.runMaxBwd_ext (a0 : State) (a1 : ℕ) (a2 : ShlDesc) (a3 : Word) :
    GAll (fun x => Ext [.rst, .regs, .hlk, .cores, .mem, .scale, .ras, .free] a0 x) (@State.runMaxBwd a0 a1 a2 a3) := by
  unfold Sys2Proof.Machine.State.runMaxBwd
  refine GAll.bindE ?_ ?_
  refine GAll.step (State.jobMap_ext ..) rfl ?_
  exact Ext.refl _ _
  intro _
  intro _
  intro _
  refine GAll.bindE ?_ ?_
  refine GAll.step (State.jobScale_ext ..) rfl ?_
  with_reducible assumption
  intro _
  intro _
  intro _
  refine GAll.bindE ?_ ?_
  refine GAll.step (State.jobArgs_ext ..) rfl ?_
  with_reducible assumption
  intro _
  intro _
  intro _
  refine GAll.step (State.runBack_ext ..) rfl ?_
  with_reducible assumption

theorem execPoolMaxBwd_ext (a0 : ℕ) (a1 : Check) (a2 : State) :
    HAll (fun x => Ext [.rst, .regs, .hlk, .cores, .sram, .sramUe, .mem, .queues, .shl, .red, .scale, .ras, .free] a2 x) (@execPoolMaxBwd a0 a1 a2) := by
  unfold Sys2Proof.Machine.execPoolMaxBwd
  refine HAll.next ?_
  unfold Sys2Proof.Machine.State.shlJob
  (dsimp only; split)
  exact Ext.refl _ _
  split
  refine Ext.ite ?_ ?_
  exact Ext.refl _ _
  split
  refine Ext.step (State.shlFail_ext ..) rfl ?_
  refine Ext.step (State.poisonAt_ext ..) rfl ?_
  refine VAll.of_ok (P := fun x => Ext _ _ x) ?_ ‹_›
  refine VAll.step (State.vread_ext ..) rfl ?_
  exact Ext.refl _ _
  refine Ext.ite ?_ ?_
  refine Ext.step (State.shlFail_ext ..) rfl ?_
  refine VAll.of_ok (P := fun x => Ext _ _ x) ?_ ‹_›
  refine VAll.step (State.vread_ext ..) rfl ?_
  exact Ext.refl _ _
  refine Ext.ite ?_ ?_
  exact Ext.refl _ _
  refine Ext.ite ?_ ?_
  refine Ext.step (State.shlFail_ext ..) rfl ?_
  refine Ext.step (State.detected_ext ..) rfl ?_
  refine VAll.of_ok (P := fun x => Ext _ _ x) ?_ ‹_›
  refine VAll.step (State.vread_ext ..) rfl ?_
  exact Ext.refl _ _
  split
  refine Ext.step (State.setShlJobs_ext ..) rfl ?_
  refine Ext.ite ?_ ?_
  refine Ext.step (State.bump_ext ..) rfl ?_
  refine Ext.step (State.bump_ext ..) rfl ?_
  refine Ext.step (State.bump_ext ..) rfl ?_
  refine Ext.step (State.bump_ext ..) rfl ?_
  refine Ext.step (State.opFlags_ext ..) rfl ?_
  refine GAll.of_ok (P := fun x => Ext _ _ x) ?_ ‹_›
  refine GAll.bindE ?_ ?_
  refine GAll.step (State.runMaxBwd_ext ..) rfl ?_
  refine VAll.of_ok (P := fun x => Ext _ _ x) ?_ ‹_›
  refine VAll.step (State.vread_ext ..) rfl ?_
  exact Ext.refl _ _
  intro _
  intro _
  intro _
  refine GAll.bindE ?_ ?_
  refine GAll.step (State.gotWrites_ext ..) rfl ?_
  with_reducible assumption
  intro _
  intro _
  intro _
  refine GAll.ok ?_
  with_reducible assumption
  refine Ext.step (State.bump_ext ..) rfl ?_
  refine Ext.step (State.bump_ext ..) rfl ?_
  refine Ext.step (State.bump_ext ..) rfl ?_
  refine Ext.step (State.opFlags_ext ..) rfl ?_
  refine GAll.of_ok (P := fun x => Ext _ _ x) ?_ ‹_›
  refine GAll.bindE ?_ ?_
  refine GAll.step (State.runMaxBwd_ext ..) rfl ?_
  refine VAll.of_ok (P := fun x => Ext _ _ x) ?_ ‹_›
  refine VAll.step (State.vread_ext ..) rfl ?_
  exact Ext.refl _ _
  intro _
  intro _
  intro _
  refine GAll.bindE ?_ ?_
  refine GAll.step (State.gotWrites_ext ..) rfl ?_
  with_reducible assumption
  intro _
  intro _
  intro _
  refine GAll.ok ?_
  with_reducible assumption
  exact Ext.refl _ _
  refine Ext.step (State.shlFail_ext ..) rfl ?_
  refine Ext.step (State.poisonAt_ext ..) rfl ?_
  refine GAll.of_poison (P := fun x => Ext _ _ x) ?_ ‹_›
  refine GAll.bindE ?_ ?_
  refine GAll.step (State.runMaxBwd_ext ..) rfl ?_
  refine VAll.of_ok (P := fun x => Ext _ _ x) ?_ ‹_›
  refine VAll.step (State.vread_ext ..) rfl ?_
  exact Ext.refl _ _
  intro _
  intro _
  intro _
  refine GAll.bindE ?_ ?_
  refine GAll.step (State.gotWrites_ext ..) rfl ?_
  with_reducible assumption
  intro _
  intro _
  intro _
  refine GAll.ok ?_
  with_reducible assumption
  refine Ext.step (State.shlFail_ext ..) rfl ?_
  refine Ext.step (State.fmcBad_ext ..) rfl ?_
  refine GAll.of_crc (P := fun x => Ext _ _ x) ?_ ‹_›
  refine GAll.bindE ?_ ?_
  refine GAll.step (State.runMaxBwd_ext ..) rfl ?_
  refine VAll.of_ok (P := fun x => Ext _ _ x) ?_ ‹_›
  refine VAll.step (State.vread_ext ..) rfl ?_
  exact Ext.refl _ _
  intro _
  intro _
  intro _
  refine GAll.bindE ?_ ?_
  refine GAll.step (State.gotWrites_ext ..) rfl ?_
  with_reducible assumption
  intro _
  intro _
  intro _
  refine GAll.ok ?_
  with_reducible assumption
  refine Ext.step (State.shlFail_ext ..) rfl ?_
  exact Ext.refl _ _
  refine Ext.step (State.shlFail_ext ..) rfl ?_
  exact Ext.refl _ _
  exact Ext.refl _ _
  exact Ext.refl _ _

theorem State.runBwdWeight_ext (a0 : State) (a1 : ℕ) (a2 : ShlDesc) (a3 : Word) :
    GAll (fun x => Ext [.rst, .regs, .hlk, .cores, .mem, .scale, .ras, .free] a0 x) (@State.runBwdWeight a0 a1 a2 a3) := by
  unfold Sys2Proof.Machine.State.runBwdWeight
  refine GAll.bindE ?_ ?_
  refine GAll.step (State.jobRows_ext ..) rfl ?_
  exact Ext.refl _ _
  intro _
  intro _
  intro _
  refine GAll.bindE ?_ ?_
  refine GAll.step (State.jobRows_ext ..) rfl ?_
  with_reducible assumption
  intro _
  intro _
  intro _
  refine GAll.bindE ?_ ?_
  refine GAll.step (State.jobScale_ext ..) rfl ?_
  with_reducible assumption
  intro _
  intro _
  intro _
  refine GAll.bindE ?_ ?_
  refine GAll.step (State.jobScale_ext ..) rfl ?_
  with_reducible assumption
  intro _
  intro _
  intro _
  refine GAll.bindE ?_ ?_
  refine GAll.step (State.placeOut_ext ..) rfl ?_
  with_reducible assumption
  intro _
  intro _
  intro _
  refine GAll.ok ?_
  with_reducible assumption

theorem execPadFold_ext (a0 : ℕ) (a1 : Check) (a2 : State) :
    HAll (fun x => Ext [.rst, .regs, .hlk, .cores, .sram, .sramUe, .mem, .queues, .shl, .red, .scale, .ras, .free] a2 x) (@execPadFold a0 a1 a2) := by
  unfold Sys2Proof.Machine.execPadFold
  refine HAll.next ?_
  unfold Sys2Proof.Machine.State.shlJob
  (dsimp only; split)
  exact Ext.refl _ _
  split
  refine Ext.ite ?_ ?_
  exact Ext.refl _ _
  split
  refine Ext.step (State.shlFail_ext ..) rfl ?_
  refine Ext.step (State.poisonAt_ext ..) rfl ?_
  refine VAll.of_ok (P := fun x => Ext _ _ x) ?_ ‹_›
  refine VAll.step (State.vread_ext ..) rfl ?_
  exact Ext.refl _ _
  refine Ext.ite ?_ ?_
  refine Ext.step (State.shlFail_ext ..) rfl ?_
  refine VAll.of_ok (P := fun x => Ext _ _ x) ?_ ‹_›
  refine VAll.step (State.vread_ext ..) rfl ?_
  exact Ext.refl _ _
  refine Ext.ite ?_ ?_
  exact Ext.refl _ _
  refine Ext.ite ?_ ?_
  refine Ext.step (State.shlFail_ext ..) rfl ?_
  refine Ext.step (State.detected_ext ..) rfl ?_
  refine VAll.of_ok (P := fun x => Ext _ _ x) ?_ ‹_›
  refine VAll.step (State.vread_ext ..) rfl ?_
  exact Ext.refl _ _
  split
  refine Ext.step (State.setShlJobs_ext ..) rfl ?_
  refine Ext.ite ?_ ?_
  refine Ext.step (State.bump_ext ..) rfl ?_
  refine Ext.step (State.bump_ext ..) rfl ?_
  refine Ext.step (State.bump_ext ..) rfl ?_
  refine Ext.step (State.bump_ext ..) rfl ?_
  refine Ext.step (State.opFlags_ext ..) rfl ?_
  refine GAll.of_ok (P := fun x => Ext _ _ x) ?_ ‹_›
  refine GAll.bindE ?_ ?_
  refine GAll.step (State.runPadFold_ext ..) rfl ?_
  refine VAll.of_ok (P := fun x => Ext _ _ x) ?_ ‹_›
  refine VAll.step (State.vread_ext ..) rfl ?_
  exact Ext.refl _ _
  intro _
  intro _
  intro _
  refine GAll.bindE ?_ ?_
  refine GAll.step (State.gotWrites_ext ..) rfl ?_
  with_reducible assumption
  intro _
  intro _
  intro _
  refine GAll.ok ?_
  with_reducible assumption
  refine Ext.step (State.bump_ext ..) rfl ?_
  refine Ext.step (State.bump_ext ..) rfl ?_
  refine Ext.step (State.bump_ext ..) rfl ?_
  refine Ext.step (State.opFlags_ext ..) rfl ?_
  refine GAll.of_ok (P := fun x => Ext _ _ x) ?_ ‹_›
  refine GAll.bindE ?_ ?_
  refine GAll.step (State.runPadFold_ext ..) rfl ?_
  refine VAll.of_ok (P := fun x => Ext _ _ x) ?_ ‹_›
  refine VAll.step (State.vread_ext ..) rfl ?_
  exact Ext.refl _ _
  intro _
  intro _
  intro _
  refine GAll.bindE ?_ ?_
  refine GAll.step (State.gotWrites_ext ..) rfl ?_
  with_reducible assumption
  intro _
  intro _
  intro _
  refine GAll.ok ?_
  with_reducible assumption
  exact Ext.refl _ _
  refine Ext.step (State.shlFail_ext ..) rfl ?_
  refine Ext.step (State.poisonAt_ext ..) rfl ?_
  refine GAll.of_poison (P := fun x => Ext _ _ x) ?_ ‹_›
  refine GAll.bindE ?_ ?_
  refine GAll.step (State.runPadFold_ext ..) rfl ?_
  refine VAll.of_ok (P := fun x => Ext _ _ x) ?_ ‹_›
  refine VAll.step (State.vread_ext ..) rfl ?_
  exact Ext.refl _ _
  intro _
  intro _
  intro _
  refine GAll.bindE ?_ ?_
  refine GAll.step (State.gotWrites_ext ..) rfl ?_
  with_reducible assumption
  intro _
  intro _
  intro _
  refine GAll.ok ?_
  with_reducible assumption
  refine Ext.step (State.shlFail_ext ..) rfl ?_
  refine Ext.step (State.fmcBad_ext ..) rfl ?_
  refine GAll.of_crc (P := fun x => Ext _ _ x) ?_ ‹_›
  refine GAll.bindE ?_ ?_
  refine GAll.step (State.runPadFold_ext ..) rfl ?_
  refine VAll.of_ok (P := fun x => Ext _ _ x) ?_ ‹_›
  refine VAll.step (State.vread_ext ..) rfl ?_
  exact Ext.refl _ _
  intro _
  intro _
  intro _
  refine GAll.bindE ?_ ?_
  refine GAll.step (State.gotWrites_ext ..) rfl ?_
  with_reducible assumption
  intro _
  intro _
  intro _
  refine GAll.ok ?_
  with_reducible assumption
  refine Ext.step (State.shlFail_ext ..) rfl ?_
  exact Ext.refl _ _
  refine Ext.step (State.shlFail_ext ..) rfl ?_
  exact Ext.refl _ _
  exact Ext.refl _ _
  exact Ext.refl _ _

theorem State.runFwd_ext (a0 : State) (a1 : ℕ) (a2 : ShlDesc) (a3 : Word) :
    GAll (fun x => Ext [.rst, .regs, .hlk, .cores, .mem, .scale, .ras, .free] a0 x) (@State.runFwd a0 a1 a2 a3) := by
  unfold Sys2Proof.Machine.State.runFwd
  refine GAll.bindE ?_ ?_
  refine GAll.step (State.jobRows_ext ..) rfl ?_
  exact Ext.refl _ _
  intro _
  intro _
  intro _
  refine GAll.bindE ?_ ?_
  refine GAll.step (State.jobWeights_ext ..) rfl ?_
  with_reducible assumption
  intro _
  intro _
  intro _
  refine GAll.bindE ?_ ?_
  refine GAll.step (State.jobScale_ext ..) rfl ?_
  with_reducible assumption
  intro _
  intro _
  intro _
  refine GAll.bindE ?_ ?_
  refine GAll.step (State.jobScale_ext ..) rfl ?_
  with_reducible assumption
  intro _
  intro _
  intro _
  refine GAll.bindE ?_ ?_
  refine GAll.step (State.placeOut_ext ..) rfl ?_
  with_reducible assumption
  intro _
  intro _
  intro _
  refine GAll.ok ?_
  with_reducible assumption

theorem execConvFwd_ext (a0 : ℕ) (a1 : Check) (a2 : State) :
    HAll (fun x => Ext [.rst, .regs, .hlk, .cores, .sram, .sramUe, .mem, .queues, .shl, .red, .scale, .ras, .free] a2 x) (@execConvFwd a0 a1 a2) := by
  unfold Sys2Proof.Machine.execConvFwd
  refine HAll.next ?_
  unfold Sys2Proof.Machine.State.shlJob
  (dsimp only; split)
  exact Ext.refl _ _
  split
  refine Ext.ite ?_ ?_
  exact Ext.refl _ _
  split
  refine Ext.step (State.shlFail_ext ..) rfl ?_
  refine Ext.step (State.poisonAt_ext ..) rfl ?_
  refine VAll.of_ok (P := fun x => Ext _ _ x) ?_ ‹_›
  refine VAll.step (State.vread_ext ..) rfl ?_
  exact Ext.refl _ _
  refine Ext.ite ?_ ?_
  refine Ext.step (State.shlFail_ext ..) rfl ?_
  refine VAll.of_ok (P := fun x => Ext _ _ x) ?_ ‹_›
  refine VAll.step (State.vread_ext ..) rfl ?_
  exact Ext.refl _ _
  refine Ext.ite ?_ ?_
  exact Ext.refl _ _
  refine Ext.ite ?_ ?_
  refine Ext.step (State.shlFail_ext ..) rfl ?_
  refine Ext.step (State.detected_ext ..) rfl ?_
  refine VAll.of_ok (P := fun x => Ext _ _ x) ?_ ‹_›
  refine VAll.step (State.vread_ext ..) rfl ?_
  exact Ext.refl _ _
  split
  refine Ext.step (State.setShlJobs_ext ..) rfl ?_
  refine Ext.ite ?_ ?_
  refine Ext.step (State.bump_ext ..) rfl ?_
  refine Ext.step (State.bump_ext ..) rfl ?_
  refine Ext.step (State.bump_ext ..) rfl ?_
  refine Ext.step (State.bump_ext ..) rfl ?_
  refine Ext.step (State.opFlags_ext ..) rfl ?_
  refine GAll.of_ok (P := fun x => Ext _ _ x) ?_ ‹_›
  refine GAll.bindE ?_ ?_
  refine GAll.step (State.runFwd_ext ..) rfl ?_
  refine VAll.of_ok (P := fun x => Ext _ _ x) ?_ ‹_›
  refine VAll.step (State.vread_ext ..) rfl ?_
  exact Ext.refl _ _
  intro _
  intro _
  intro _
  refine GAll.bindE ?_ ?_
  refine GAll.step (State.gotWrites_ext ..) rfl ?_
  with_reducible assumption
  intro _
  intro _
  intro _
  refine GAll.ok ?_
  with_reducible assumption
  refine Ext.step (State.bump_ext ..) rfl ?_
  refine Ext.step (State.bump_ext ..) rfl ?_
  refine Ext.step (State.bump_ext ..) rfl ?_
  refine Ext.step (State.opFlags_ext ..) rfl ?_
  refine GAll.of_ok (P := fun x => Ext _ _ x) ?_ ‹_›
  refine GAll.bindE ?_ ?_
  refine GAll.step (State.runFwd_ext ..) rfl ?_
  refine VAll.of_ok (P := fun x => Ext _ _ x) ?_ ‹_›
  refine VAll.step (State.vread_ext ..) rfl ?_
  exact Ext.refl _ _
  intro _
  intro _
  intro _
  refine GAll.bindE ?_ ?_
  refine GAll.step (State.gotWrites_ext ..) rfl ?_
  with_reducible assumption
  intro _
  intro _
  intro _
  refine GAll.ok ?_
  with_reducible assumption
  exact Ext.refl _ _
  refine Ext.step (State.shlFail_ext ..) rfl ?_
  refine Ext.step (State.poisonAt_ext ..) rfl ?_
  refine GAll.of_poison (P := fun x => Ext _ _ x) ?_ ‹_›
  refine GAll.bindE ?_ ?_
  refine GAll.step (State.runFwd_ext ..) rfl ?_
  refine VAll.of_ok (P := fun x => Ext _ _ x) ?_ ‹_›
  refine VAll.step (State.vread_ext ..) rfl ?_
  exact Ext.refl _ _
  intro _
  intro _
  intro _
  refine GAll.bindE ?_ ?_
  refine GAll.step (State.gotWrites_ext ..) rfl ?_
  with_reducible assumption
  intro _
  intro _
  intro _
  refine GAll.ok ?_
  with_reducible assumption
  refine Ext.step (State.shlFail_ext ..) rfl ?_
  refine Ext.step (State.fmcBad_ext ..) rfl ?_
  refine GAll.of_crc (P := fun x => Ext _ _ x) ?_ ‹_›
  refine GAll.bindE ?_ ?_
  refine GAll.step (State.runFwd_ext ..) rfl ?_
  refine VAll.of_ok (P := fun x => Ext _ _ x) ?_ ‹_›
  refine VAll.step (State.vread_ext ..) rfl ?_
  exact Ext.refl _ _
  intro _
  intro _
  intro _
  refine GAll.bindE ?_ ?_
  refine GAll.step (State.gotWrites_ext ..) rfl ?_
  with_reducible assumption
  intro _
  intro _
  intro _
  refine GAll.ok ?_
  with_reducible assumption
  refine Ext.step (State.shlFail_ext ..) rfl ?_
  exact Ext.refl _ _
  refine Ext.step (State.shlFail_ext ..) rfl ?_
  exact Ext.refl _ _
  exact Ext.refl _ _
  exact Ext.refl _ _

theorem execConvBwdWeight_ext (a0 : ℕ) (a1 : Check) (a2 : State) :
    HAll (fun x => Ext [.rst, .regs, .hlk, .cores, .sram, .sramUe, .mem, .queues, .shl, .red, .scale, .ras, .free] a2 x) (@execConvBwdWeight a0 a1 a2) := by
  unfold Sys2Proof.Machine.execConvBwdWeight
  refine HAll.next ?_
  unfold Sys2Proof.Machine.State.shlJob
  (dsimp only; split)
  exact Ext.refl _ _
  split
  refine Ext.ite ?_ ?_
  exact Ext.refl _ _
  split
  refine Ext.step (State.shlFail_ext ..) rfl ?_
  refine Ext.step (State.poisonAt_ext ..) rfl ?_
  refine VAll.of_ok (P := fun x => Ext _ _ x) ?_ ‹_›
  refine VAll.step (State.vread_ext ..) rfl ?_
  exact Ext.refl _ _
  refine Ext.ite ?_ ?_
  refine Ext.step (State.shlFail_ext ..) rfl ?_
  refine VAll.of_ok (P := fun x => Ext _ _ x) ?_ ‹_›
  refine VAll.step (State.vread_ext ..) rfl ?_
  exact Ext.refl _ _
  refine Ext.ite ?_ ?_
  exact Ext.refl _ _
  refine Ext.ite ?_ ?_
  refine Ext.step (State.shlFail_ext ..) rfl ?_
  refine Ext.step (State.detected_ext ..) rfl ?_
  refine VAll.of_ok (P := fun x => Ext _ _ x) ?_ ‹_›
  refine VAll.step (State.vread_ext ..) rfl ?_
  exact Ext.refl _ _
  split
  refine Ext.step (State.setShlJobs_ext ..) rfl ?_
  refine Ext.ite ?_ ?_
  refine Ext.step (State.bump_ext ..) rfl ?_
  refine Ext.step (State.bump_ext ..) rfl ?_
  refine Ext.step (State.bump_ext ..) rfl ?_
  refine Ext.step (State.bump_ext ..) rfl ?_
  refine Ext.step (State.opFlags_ext ..) rfl ?_
  refine GAll.of_ok (P := fun x => Ext _ _ x) ?_ ‹_›
  refine GAll.bindE ?_ ?_
  refine GAll.step (State.runBwdWeight_ext ..) rfl ?_
  refine VAll.of_ok (P := fun x => Ext _ _ x) ?_ ‹_›
  refine VAll.step (State.vread_ext ..) rfl ?_
  exact Ext.refl _ _
  intro _
  intro _
  intro _
  refine GAll.bindE ?_ ?_
  refine GAll.step (State.gotWrites_ext ..) rfl ?_
  with_reducible assumption
  intro _
  intro _
  intro _
  refine GAll.ok ?_
  with_reducible assumption
  refine Ext.step (State.bump_ext ..) rfl ?_
  refine Ext.step (State.bump_ext ..) rfl ?_
  refine Ext.step (State.bump_ext ..) rfl ?_
  refine Ext.step (State.opFlags_ext ..) rfl ?_
  refine GAll.of_ok (P := fun x => Ext _ _ x) ?_ ‹_›
  refine GAll.bindE ?_ ?_
  refine GAll.step (State.runBwdWeight_ext ..) rfl ?_
  refine VAll.of_ok (P := fun x => Ext _ _ x) ?_ ‹_›
  refine VAll.step (State.vread_ext ..) rfl ?_
  exact Ext.refl _ _
  intro _
  intro _
  intro _
  refine GAll.bindE ?_ ?_
  refine GAll.step (State.gotWrites_ext ..) rfl ?_
  with_reducible assumption
  intro _
  intro _
  intro _
  refine GAll.ok ?_
  with_reducible assumption
  exact Ext.refl _ _
  refine Ext.step (State.shlFail_ext ..) rfl ?_
  refine Ext.step (State.poisonAt_ext ..) rfl ?_
  refine GAll.of_poison (P := fun x => Ext _ _ x) ?_ ‹_›
  refine GAll.bindE ?_ ?_
  refine GAll.step (State.runBwdWeight_ext ..) rfl ?_
  refine VAll.of_ok (P := fun x => Ext _ _ x) ?_ ‹_›
  refine VAll.step (State.vread_ext ..) rfl ?_
  exact Ext.refl _ _
  intro _
  intro _
  intro _
  refine GAll.bindE ?_ ?_
  refine GAll.step (State.gotWrites_ext ..) rfl ?_
  with_reducible assumption
  intro _
  intro _
  intro _
  refine GAll.ok ?_
  with_reducible assumption
  refine Ext.step (State.shlFail_ext ..) rfl ?_
  refine Ext.step (State.fmcBad_ext ..) rfl ?_
  refine GAll.of_crc (P := fun x => Ext _ _ x) ?_ ‹_›
  refine GAll.bindE ?_ ?_
  refine GAll.step (State.runBwdWeight_ext ..) rfl ?_
  refine VAll.of_ok (P := fun x => Ext _ _ x) ?_ ‹_›
  refine VAll.step (State.vread_ext ..) rfl ?_
  exact Ext.refl _ _
  intro _
  intro _
  intro _
  refine GAll.bindE ?_ ?_
  refine GAll.step (State.gotWrites_ext ..) rfl ?_
  with_reducible assumption
  intro _
  intro _
  intro _
  refine GAll.ok ?_
  with_reducible assumption
  refine Ext.step (State.shlFail_ext ..) rfl ?_
  exact Ext.refl _ _
  refine Ext.step (State.shlFail_ext ..) rfl ?_
  exact Ext.refl _ _
  exact Ext.refl _ _
  exact Ext.refl _ _

theorem State.runPool_ext (a0 : State) (a1 : ℕ) (a2 : ShlDesc) (a3 : Word) (a4 : Bool) :
    GAll (fun x => Ext [.rst, .regs, .hlk, .cores, .mem, .scale, .ras, .free] a0 x) (@State.runPool a0 a1 a2 a3 a4) := by
  unfold Sys2Proof.Machine.State.runPool
  refine GAll.bindE ?_ ?_
  refine GAll.step (State.jobMap_ext ..) rfl ?_
  exact Ext.refl _ _
  intro _
  intro _
  intro _
  refine GAll.bindE ?_ ?_
  refine GAll.step (State.jobScale_ext ..) rfl ?_
  with_reducible assumption
  intro _
  intro _
  intro _
  refine GAll.bindE ?_ ?_
  refine GAll.step (State.placeOut_ext ..) rfl ?_
  with_reducible assumption
  intro _
  intro _
  intro _
  refine GAll.ok ?_
  with_reducible assumption

theorem execPoolMax_ext (a0 : ℕ) (a1 : Check) (a2 : State) :
    HAll (fun x => Ext [.rst, .regs, .hlk, .cores, .sram, .sramUe, .mem, .queues, .shl, .red, .scale, .ras, .free] a2 x) (@execPoolMax a0 a1 a2) := by
  unfold Sys2Proof.Machine.execPoolMax
  refine HAll.next ?_
  unfold Sys2Proof.Machine.State.shlJob
  (dsimp only; split)
  exact Ext.refl _ _
  split
  refine Ext.ite ?_ ?_
  exact Ext.refl _ _
  split
  refine Ext.step (State.shlFail_ext ..) rfl ?_
  refine Ext.step (State.poisonAt_ext ..) rfl ?_
  refine VAll.of_ok (P := fun x => Ext _ _ x) ?_ ‹_›
  refine VAll.step (State.vread_ext ..) rfl ?_
  exact Ext.refl _ _
  refine Ext.ite ?_ ?_
  refine Ext.step (State.shlFail_ext ..) rfl ?_
  refine VAll.of_ok (P := fun x => Ext _ _ x) ?_ ‹_›
  refine VAll.step (State.vread_ext ..) rfl ?_
  exact Ext.refl _ _
  refine Ext.ite ?_ ?_
  exact Ext.refl _ _
  refine Ext.ite ?_ ?_
  refine Ext.step (State.shlFail_ext ..) rfl ?_
  refine Ext.step (State.detected_ext ..) rfl ?_
  refine VAll.of_ok (P := fun x => Ext _ _ x) ?_ ‹_›
  refine VAll.step (State.vread_ext ..) rfl ?_
  exact Ext.refl _ _
  split
  refine Ext.step (State.setShlJobs_ext ..) rfl ?_
  refine Ext.ite ?_ ?_
  refine Ext.step (State.bump_ext ..) rfl ?_
  refine Ext.step (State.bump_ext ..) rfl ?_
  refine Ext.step (State.bump_ext ..) rfl ?_
  refine Ext.step (State.bump_ext ..) rfl ?_
  refine Ext.step (State.opFlags_ext ..) rfl ?_
  refine GAll.of_ok (P := fun x => Ext _ _ x) ?_ ‹_›
  refine GAll.bindE ?_ ?_
  refine GAll.step (State.runPool_ext ..) rfl ?_
  refine VAll.of_ok (P := fun x => Ext _ _ x) ?_ ‹_›
  refine VAll.step (State.vread_ext ..) rfl ?_
  exact Ext.refl _ _
  intro _
  intro _
  intro _
  refine GAll.bindE ?_ ?_
  refine GAll.step (State.gotWrites_ext ..) rfl ?_
  with_reducible assumption
  intro _
  intro _
  intro _
  refine GAll.ok ?_
  with_reducible assumption
  refine Ext.step (State.bump_ext ..) rfl ?_
  refine Ext.step (State.bump_ext ..) rfl ?_
  refine Ext.step (State.bump_ext ..) rfl ?_
  refine Ext.step (State.opFlags_ext ..) rfl ?_
  refine GAll.of_ok (P := fun x => Ext _ _ x) ?_ ‹_›
  refine GAll.bindE ?_ ?_
  refine GAll.step (State.runPool_ext ..) rfl ?_
  refine VAll.of_ok (P := fun x => Ext _ _ x) ?_ ‹_›
  refine VAll.step (State.vread_ext ..) rfl ?_
  exact Ext.refl _ _
  intro _
  intro _
  intro _
  refine GAll.bindE ?_ ?_
  refine GAll.step (State.gotWrites_ext ..) rfl ?_
  with_reducible assumption
  intro _
  intro _
  intro _
  refine GAll.ok ?_
  with_reducible assumption
  exact Ext.refl _ _
  refine Ext.step (State.shlFail_ext ..) rfl ?_
  refine Ext.step (State.poisonAt_ext ..) rfl ?_
  refine GAll.of_poison (P := fun x => Ext _ _ x) ?_ ‹_›
  refine GAll.bindE ?_ ?_
  refine GAll.step (State.runPool_ext ..) rfl ?_
  refine VAll.of_ok (P := fun x => Ext _ _ x) ?_ ‹_›
  refine VAll.step (State.vread_ext ..) rfl ?_
  exact Ext.refl _ _
  intro _
  intro _
  intro _
  refine GAll.bindE ?_ ?_
  refine GAll.step (State.gotWrites_ext ..) rfl ?_
  with_reducible assumption
  intro _
  intro _
  intro _
  refine GAll.ok ?_
  with_reducible assumption
  refine Ext.step (State.shlFail_ext ..) rfl ?_
  refine Ext.step (State.fmcBad_ext ..) rfl ?_
  refine GAll.of_crc (P := fun x => Ext _ _ x) ?_ ‹_›
  refine GAll.bindE ?_ ?_
  refine GAll.step (State.runPool_ext ..) rfl ?_
  refine VAll.of_ok (P := fun x => Ext _ _ x) ?_ ‹_›
  refine VAll.step (State.vread_ext ..) rfl ?_
  exact Ext.refl _ _
  intro _
  intro _
  intro _
  refine GAll.bindE ?_ ?_
  refine GAll.step (State.gotWrites_ext ..) rfl ?_
  with_reducible assumption
  intro _
  intro _
  intro _
  refine GAll.ok ?_
  with_reducible assumption
  refine Ext.step (State.shlFail_ext ..) rfl ?_
  exact Ext.refl _ _
  refine Ext.step (State.shlFail_ext ..) rfl ?_
  exact Ext.refl _ _
  exact Ext.refl _ _
  exact Ext.refl _ _

theorem execShlRun_ext (a0 : ℕ) (a1 : State) :
    HAll (fun x => Ext [.rst, .regs, .hlk, .launches, .cores, .shoals, .sram, .sramUe, .mem, .queues, .act, .shl, .red, .ras, .free] a1 x) (@execShlRun a0 a1) := by
  unfold Sys2Proof.Machine.execShlRun
  refine HAll.next ?_
  refine Ext.ite ?_ ?_
  unfold Sys2Proof.Machine.State.startIf
  split
  refine Ext.ite ?_ ?_
  unfold Sys2Proof.Machine.State.startOp
  refine Ext.ite ?_ ?_
  split
  refine Ext.step (State.launchEnd_ext ..) rfl ?_
  exact Ext.refl _ _
  refine Ext.step (State.poisonTail_ext ..) rfl ?_
  exact Ext.refl _ _
  refine Ext.ite ?_ ?_
  refine Ext.step (State.poisonTail_ext ..) rfl ?_
  exact Ext.refl _ _
  refine Ext.ite ?_ ?_
  refine Ext.step (State.modOp_ext ..) rfl ?_
  exact Ext.refl _ _
  refine Ext.step (State.shlBegin_ext ..) rfl ?_
  refine Ext.step (State.modOp_ext ..) rfl ?_
  exact Ext.refl _ _
  exact Ext.refl _ _
  exact Ext.refl _ _
  exact Ext.refl _ _

theorem execPoolAvg_ext (a0 : ℕ) (a1 : Check) (a2 : State) :
    HAll (fun x => Ext [.rst, .regs, .hlk, .cores, .sram, .sramUe, .mem, .queues, .shl, .red, .scale, .ras, .free] a2 x) (@execPoolAvg a0 a1 a2) := by
  unfold Sys2Proof.Machine.execPoolAvg
  refine HAll.next ?_
  unfold Sys2Proof.Machine.State.shlJob
  (dsimp only; split)
  exact Ext.refl _ _
  split
  refine Ext.ite ?_ ?_
  exact Ext.refl _ _
  split
  refine Ext.step (State.shlFail_ext ..) rfl ?_
  refine Ext.step (State.poisonAt_ext ..) rfl ?_
  refine VAll.of_ok (P := fun x => Ext _ _ x) ?_ ‹_›
  refine VAll.step (State.vread_ext ..) rfl ?_
  exact Ext.refl _ _
  refine Ext.ite ?_ ?_
  refine Ext.step (State.shlFail_ext ..) rfl ?_
  refine VAll.of_ok (P := fun x => Ext _ _ x) ?_ ‹_›
  refine VAll.step (State.vread_ext ..) rfl ?_
  exact Ext.refl _ _
  refine Ext.ite ?_ ?_
  exact Ext.refl _ _
  refine Ext.ite ?_ ?_
  refine Ext.step (State.shlFail_ext ..) rfl ?_
  refine Ext.step (State.detected_ext ..) rfl ?_
  refine VAll.of_ok (P := fun x => Ext _ _ x) ?_ ‹_›
  refine VAll.step (State.vread_ext ..) rfl ?_
  exact Ext.refl _ _
  split
  refine Ext.step (State.setShlJobs_ext ..) rfl ?_
  refine Ext.ite ?_ ?_
  refine Ext.step (State.bump_ext ..) rfl ?_
  refine Ext.step (State.bump_ext ..) rfl ?_
  refine Ext.step (State.bump_ext ..) rfl ?_
  refine Ext.step (State.bump_ext ..) rfl ?_
  refine Ext.step (State.opFlags_ext ..) rfl ?_
  refine GAll.of_ok (P := fun x => Ext _ _ x) ?_ ‹_›
  refine GAll.bindE ?_ ?_
  refine GAll.step (State.runPool_ext ..) rfl ?_
  refine VAll.of_ok (P := fun x => Ext _ _ x) ?_ ‹_›
  refine VAll.step (State.vread_ext ..) rfl ?_
  exact Ext.refl _ _
  intro _
  intro _
  intro _
  refine GAll.bindE ?_ ?_
  refine GAll.step (State.gotWrites_ext ..) rfl ?_
  with_reducible assumption
  intro _
  intro _
  intro _
  refine GAll.ok ?_
  with_reducible assumption
  refine Ext.step (State.bump_ext ..) rfl ?_
  refine Ext.step (State.bump_ext ..) rfl ?_
  refine Ext.step (State.bump_ext ..) rfl ?_
  refine Ext.step (State.opFlags_ext ..) rfl ?_
  refine GAll.of_ok (P := fun x => Ext _ _ x) ?_ ‹_›
  refine GAll.bindE ?_ ?_
  refine GAll.step (State.runPool_ext ..) rfl ?_
  refine VAll.of_ok (P := fun x => Ext _ _ x) ?_ ‹_›
  refine VAll.step (State.vread_ext ..) rfl ?_
  exact Ext.refl _ _
  intro _
  intro _
  intro _
  refine GAll.bindE ?_ ?_
  refine GAll.step (State.gotWrites_ext ..) rfl ?_
  with_reducible assumption
  intro _
  intro _
  intro _
  refine GAll.ok ?_
  with_reducible assumption
  exact Ext.refl _ _
  refine Ext.step (State.shlFail_ext ..) rfl ?_
  refine Ext.step (State.poisonAt_ext ..) rfl ?_
  refine GAll.of_poison (P := fun x => Ext _ _ x) ?_ ‹_›
  refine GAll.bindE ?_ ?_
  refine GAll.step (State.runPool_ext ..) rfl ?_
  refine VAll.of_ok (P := fun x => Ext _ _ x) ?_ ‹_›
  refine VAll.step (State.vread_ext ..) rfl ?_
  exact Ext.refl _ _
  intro _
  intro _
  intro _
  refine GAll.bindE ?_ ?_
  refine GAll.step (State.gotWrites_ext ..) rfl ?_
  with_reducible assumption
  intro _
  intro _
  intro _
  refine GAll.ok ?_
  with_reducible assumption
  refine Ext.step (State.shlFail_ext ..) rfl ?_
  refine Ext.step (State.fmcBad_ext ..) rfl ?_
  refine GAll.of_crc (P := fun x => Ext _ _ x) ?_ ‹_›
  refine GAll.bindE ?_ ?_
  refine GAll.step (State.runPool_ext ..) rfl ?_
  refine VAll.of_ok (P := fun x => Ext _ _ x) ?_ ‹_›
  refine VAll.step (State.vread_ext ..) rfl ?_
  exact Ext.refl _ _
  intro _
  intro _
  intro _
  refine GAll.bindE ?_ ?_
  refine GAll.step (State.gotWrites_ext ..) rfl ?_
  with_reducible assumption
  intro _
  intro _
  intro _
  refine GAll.ok ?_
  with_reducible assumption
  refine Ext.step (State.shlFail_ext ..) rfl ?_
  exact Ext.refl _ _
  refine Ext.step (State.shlFail_ext ..) rfl ?_
  exact Ext.refl _ _
  exact Ext.refl _ _
  exact Ext.refl _ _

theorem execShlJobTimeout_ext (a0 : ℕ) (a1 : State) :
    HAll (fun x => Ext [.rst, .regs, .hlk, .cores, .sram, .sramUe, .mem, .queues, .shl, .ras, .free] a1 x) (@execShlJobTimeout a0 a1) := by
  unfold Sys2Proof.Machine.execShlJobTimeout
  refine HAll.next ?_
  split
  exact Ext.refl _ _
  split
  refine Ext.ite ?_ ?_
  exact Ext.refl _ _
  refine Ext.step (State.shlFail_ext ..) rfl ?_
  exact Ext.refl _ _
  exact Ext.refl _ _

end Sys2Proof.Machine
end

