-- ==== Sys2Proof/Laws/FrameStreams.lean ====
section
/-! SUPPORT. What each definition of Machine/Streams.lean may change: every part that its lemma does not name stays, and memory keeps
its canonical form. -/

set_option maxRecDepth 4000

namespace Sys2Proof.Machine

theorem State.cowBegin_ext (a0 : State) (a1 : ℕ) (a2 : Xent) (a3 : ℕ) (a4 : ℕ) (a5 : ℕ) (a6 : ℕ) :
    Ext [.mem] a0 (@State.cowBegin a0 a1 a2 a3 a4 a5 a6) := by
  unfold Sys2Proof.Machine.State.cowBegin
  refine Ext.step (Ext.set_mem ..) rfl ?_
  exact Ext.refl _ _

theorem State.pumpQueue_ext (a0 : State) (a1 : ℕ) :
    Ext [.rst, .regs, .hlk, .cores, .sram, .sramUe, .mem, .queues, .ras, .free] a0 (@State.pumpQueue a0 a1) := by
  unfold Sys2Proof.Machine.State.pumpQueue
  refine foldl_all (P := fun x => Ext _ _ x) ?_ ?_
  exact Ext.refl _ _
  intro _
  intro _
  intro _
  refine Ext.step (State.pump_ext ..) rfl ?_
  with_reducible assumption

theorem State.afterResume_ext (a0 : State) (a1 : XFault) :
    Ext [.rst, .regs, .hlk, .cores, .sram, .sramUe, .mem, .queues, .fab, .red, .ras, .free] a0 (@State.afterResume a0 a1) := by
  unfold Sys2Proof.Machine.State.afterResume
  refine Ext.step (State.unpark_ext ..) rfl ?_
  refine foldl_all (P := fun x => Ext _ _ x) ?_ ?_
  exact Ext.refl _ _
  intro _
  intro _
  intro _
  refine Ext.ite ?_ ?_
  refine Ext.step (State.pumpQueue_ext ..) rfl ?_
  with_reducible assumption
  with_reducible assumption

theorem State.cowResume_ext (a0 : State) (a1 : Cow) :
    Ext [.rst, .regs, .hlk, .cores, .sram, .sramUe, .mem, .queues, .ras, .free] a0 (@State.cowResume a0 a1) := by
  unfold Sys2Proof.Machine.State.cowResume
  refine foldl_all (P := fun x => Ext _ _ x) ?_ ?_
  exact Ext.refl _ _
  intro _
  intro _
  intro _
  refine foldl_all (P := fun x => Ext _ _ x) ?_ ?_
  with_reducible assumption
  intro _
  intro _
  intro _
  refine Ext.ite ?_ ?_
  refine Ext.step (State.pump_ext ..) rfl ?_
  refine Ext.step (State.modOp_ext ..) rfl ?_
  with_reducible assumption
  with_reducible assumption

theorem State.cowEmpty_ext (a0 : State) (a1 : ℕ) (a2 : ℕ) :
    Ext [.regs, .hlk] a0 (@State.cowEmpty a0 a1 a2) := by
  unfold Sys2Proof.Machine.State.cowEmpty
  refine Ext.ite ?_ ?_
  refine Ext.step (State.raise_ext ..) rfl ?_
  exact Ext.refl _ _
  exact Ext.refl _ _

theorem State.ringFault_ext (a0 : State) (a1 : ℕ) :
    Ext [.hlk] a0 (@State.ringFault a0 a1) := by
  unfold Sys2Proof.Machine.State.ringFault
  split
  refine Ext.step (State.finishCmd_ext ..) rfl ?_
  exact Ext.refl _ _
  exact Ext.refl _ _

theorem State.holderFail_ext (a0 : State) (a1 : ℕ) (a2 : ℕ) :
    Ext [.rst, .regs, .hlk, .launches, .cores, .shoals, .sram, .sramUe, .mem, .queues, .act, .shl, .fab, .red, .ras, .free] a0 (@State.holderFail a0 a1 a2) := by
  unfold Sys2Proof.Machine.State.holderFail
  refine Ext.ite ?_ ?_
  (dsimp only; split)
  split
  refine Ext.ite ?_ ?_
  refine Ext.step (State.completeOp_ext ..) rfl ?_
  refine Ext.step (State.markHeld_ext ..) rfl ?_
  exact Ext.refl _ _
  refine Ext.ite ?_ ?_
  split
  refine Ext.step (State.shlFail_ext ..) rfl ?_
  refine Ext.step (State.markHeld_ext ..) rfl ?_
  exact Ext.refl _ _
  refine Ext.step (State.poisonTail_ext ..) rfl ?_
  refine Ext.step (State.markHeld_ext ..) rfl ?_
  exact Ext.refl _ _
  refine Ext.step (State.poisonTail_ext ..) rfl ?_
  refine Ext.step (State.markHeld_ext ..) rfl ?_
  exact Ext.refl _ _
  refine Ext.step (State.markHeld_ext ..) rfl ?_
  exact Ext.refl _ _
  exact Ext.refl _ _
  refine Ext.ite ?_ ?_
  refine Ext.step (State.ringFault_ext ..) rfl ?_
  exact Ext.refl _ _
  refine Ext.ite ?_ ?_
  refine Ext.step (State.nackParked_ext ..) rfl ?_
  exact Ext.refl _ _
  (dsimp only; split)
  exact Ext.refl _ _
  refine Ext.step (State.unitFail_ext ..) rfl ?_
  split
  refine Ext.step (State.setUnit_ext ..) rfl ?_
  exact Ext.refl _ _
  exact Ext.refl _ _

theorem State.xltFail_ext (a0 : State) (a1 : XFault) :
    Ext [.rst, .regs, .hlk, .launches, .cores, .shoals, .sram, .sramUe, .mem, .queues, .act, .shl, .fab, .red, .ras, .free] a0 (@State.xltFail a0 a1) := by
  unfold Sys2Proof.Machine.State.xltFail
  refine Ext.step (State.pullHost_ext ..) rfl ?_
  refine foldl_all (P := fun x => Ext _ _ x) ?_ ?_
  refine Ext.step (State.record_ext ..) rfl ?_
  refine Ext.step (State.bump_ext ..) rfl ?_
  refine Ext.step (State.raise_ext ..) rfl ?_
  refine Ext.step (Ext.set_mem ..) rfl ?_
  exact Ext.refl _ _
  intro _
  intro _
  intro _
  refine Ext.step (State.holderFail_ext ..) rfl ?_
  with_reducible assumption

theorem State.searchEnd_ext (a0 : State) (a1 : XFault) (a2 : Bool) :
    Ext [.rst, .regs, .hlk, .launches, .cores, .shoals, .sram, .sramUe, .mem, .queues, .act, .shl, .fab, .red, .ras, .free] a0 (@State.searchEnd a0 a1 a2) := by
  unfold Sys2Proof.Machine.State.searchEnd
  (dsimp only; split)
  refine Ext.ite ?_ ?_
  split
  refine Ext.ite ?_ ?_
  refine Ext.step (State.xltFail_ext ..) rfl ?_
  refine Ext.step (State.cowEmpty_ext ..) rfl ?_
  exact Ext.refl _ _
  refine Ext.step (State.toHost_ext ..) rfl ?_
  refine Ext.step (State.cowEmpty_ext ..) rfl ?_
  exact Ext.refl _ _
  refine Ext.ite ?_ ?_
  exact Ext.refl _ _
  refine Ext.step (State.pullHost_ext ..) rfl ?_
  refine Ext.step (State.cowBegin_ext ..) rfl ?_
  refine Ext.step (Ext.set_mem ..) rfl ?_
  exact Ext.refl _ _
  refine Ext.step (State.afterResume_ext ..) rfl ?_
  unfold Sys2Proof.Machine.State.mapDone
  (dsimp only; split)
  refine Ext.step (State.pullHost_ext ..) rfl ?_
  refine Ext.step (State.resume_ext ..) rfl ?_
  refine Ext.step (State.bump_ext ..) rfl ?_
  refine Ext.step (State.installIn_ext ..) rfl ?_
  refine Ext.step (State.setSlice_ext ..) rfl ?_
  exact Ext.refl _ _
  refine Ext.step (State.setFault_ext ..) rfl ?_
  exact Ext.refl _ _
  refine Ext.step (State.pullHost_ext ..) rfl ?_
  refine Ext.step (State.resume_ext ..) rfl ?_
  exact Ext.refl _ _
  refine Ext.ite ?_ ?_
  refine Ext.step (State.xltFail_ext ..) rfl ?_
  refine Ext.ite ?_ ?_
  refine Ext.step (State.raise_ext ..) rfl ?_
  exact Ext.refl _ _
  exact Ext.refl _ _
  refine Ext.step (State.toHost_ext ..) rfl ?_
  refine Ext.ite ?_ ?_
  refine Ext.step (State.raise_ext ..) rfl ?_
  exact Ext.refl _ _
  exact Ext.refl _ _
  refine Ext.step (State.afterResume_ext ..) rfl ?_
  unfold Sys2Proof.Machine.State.mapDone
  (dsimp only; split)
  refine Ext.step (State.pullHost_ext ..) rfl ?_
  refine Ext.step (State.resume_ext ..) rfl ?_
  refine Ext.step (State.bump_ext ..) rfl ?_
  refine Ext.step (State.installIn_ext ..) rfl ?_
  refine Ext.step (State.setSlice_ext ..) rfl ?_
  exact Ext.refl _ _
  refine Ext.step (State.setFault_ext ..) rfl ?_
  exact Ext.refl _ _
  refine Ext.step (State.pullHost_ext ..) rfl ?_
  refine Ext.step (State.resume_ext ..) rfl ?_
  exact Ext.refl _ _
  refine Ext.ite ?_ ?_
  refine Ext.step (State.xltFail_ext ..) rfl ?_
  refine Ext.ite ?_ ?_
  refine Ext.step (State.raise_ext ..) rfl ?_
  exact Ext.refl _ _
  exact Ext.refl _ _
  refine Ext.step (State.toHost_ext ..) rfl ?_
  refine Ext.ite ?_ ?_
  refine Ext.step (State.raise_ext ..) rfl ?_
  exact Ext.refl _ _
  exact Ext.refl _ _

theorem execMapDescRecheck_ext (a0 : ℕ) (a1 : State) :
    HAll (fun x => Ext [.rst, .regs, .hlk, .launches, .cores, .shoals, .sram, .sramUe, .mem, .queues, .act, .shl, .fab, .red, .ras, .free] a1 x) (@execMapDescRecheck a0 a1) := by
  unfold Sys2Proof.Machine.execMapDescRecheck
  refine HAll.next ?_
  split
  refine Ext.step (State.searchEnd_ext ..) rfl ?_
  exact Ext.refl _ _
  exact Ext.refl _ _

theorem State.issueNext_ext (a0 : State) (a1 : ℕ) (a2 : Op) :
    Ext [.rst, .regs, .hlk, .cores, .sram, .sramUe, .mem, .queues, .fab, .ras, .free] a0 (@State.issueNext a0 a1 a2) := by
  unfold Sys2Proof.Machine.State.issueNext
  split
  refine Ext.step (State.issuePatch_ext ..) rfl ?_
  exact Ext.refl _ _
  refine Ext.step (State.issuePatch_ext ..) rfl ?_
  exact Ext.refl _ _
  refine Ext.step (State.issueFab_ext ..) rfl ?_
  exact Ext.refl _ _
  refine Ext.step (State.issueFab_ext ..) rfl ?_
  exact Ext.refl _ _
  exact Ext.refl _ _
  exact Ext.refl _ _
  exact Ext.refl _ _
  exact Ext.refl _ _
  exact Ext.refl _ _
  exact Ext.refl _ _
  refine Ext.step (State.issuePlain_ext ..) rfl ?_
  exact Ext.refl _ _
  refine Ext.step (State.issuePacked_ext ..) rfl ?_
  exact Ext.refl _ _

theorem execTransferGrant_ext (a0 : ℕ) (a1 : State) :
    HAll (fun x => Ext [.rst, .regs, .hlk, .cores, .sram, .sramUe, .mem, .queues, .fab, .ras, .free] a1 x) (@execTransferGrant a0 a1) := by
  unfold Sys2Proof.Machine.execTransferGrant
  refine HAll.next ?_
  split
  exact Ext.refl _ _
  refine Ext.ite ?_ ?_
  refine Ext.step (State.issueNext_ext ..) rfl ?_
  exact Ext.refl _ _
  exact Ext.refl _ _

theorem State.beginCodec_ext (a0 : State) (a1 : ℕ) (a2 : Op) :
    Ext [.rst, .regs, .hlk, .cores, .sram, .sramUe, .mem, .queues, .act, .shl, .fab, .ras, .free] a0 (@State.beginCodec a0 a1 a2) := by
  unfold Sys2Proof.Machine.State.beginCodec
  split
  refine Ext.step (State.shlBegin_ext ..) rfl ?_
  exact Ext.refl _ _
  refine Ext.step (State.actSaveBegin_ext ..) rfl ?_
  exact Ext.refl _ _
  refine Ext.step (State.actRestoreBegin_ext ..) rfl ?_
  exact Ext.refl _ _
  refine Ext.step (State.kvGatherBegin_ext ..) rfl ?_
  exact Ext.refl _ _
  refine Ext.step (State.kvWriteBegin_ext ..) rfl ?_
  exact Ext.refl _ _
  refine Ext.step (State.kvSendBegin_ext ..) rfl ?_
  exact Ext.refl _ _
  refine Ext.step (State.stgBegin_ext ..) rfl ?_
  exact Ext.refl _ _
  refine Ext.step (State.stgBegin_ext ..) rfl ?_
  exact Ext.refl _ _
  refine Ext.step (State.stgBegin_ext ..) rfl ?_
  exact Ext.refl _ _
  refine Ext.step (State.stgBegin_ext ..) rfl ?_
  exact Ext.refl _ _
  refine Ext.step (State.beginPlain_ext ..) rfl ?_
  exact Ext.refl _ _

theorem execStreamWaitPoll_ext (a0 : ℕ) (a1 : State) :
    HAll (fun x => Ext [.rst, .regs, .hlk, .cores, .sram, .sramUe, .mem, .queues, .act, .shl, .fab, .ras, .free] a1 x) (@execStreamWaitPoll a0 a1) := by
  unfold Sys2Proof.Machine.execStreamWaitPoll
  refine HAll.next ?_
  split
  exact Ext.refl _ _
  refine Ext.ite ?_ ?_
  exact Ext.refl _ _
  refine Ext.ite ?_ ?_
  split
  refine Ext.step (State.poisonTail_ext ..) rfl ?_
  refine Ext.step (State.reportPoison_ext ..) rfl ?_
  refine VAll.of_ok (P := fun x => Ext _ _ x) ?_ ‹_›
  refine VAll.step (State.vread_ext ..) rfl ?_
  exact Ext.refl _ _
  refine Ext.ite ?_ ?_
  refine Ext.step (State.beginCodec_ext ..) rfl ?_
  refine VAll.of_ok (P := fun x => Ext _ _ x) ?_ ‹_›
  refine VAll.step (State.vread_ext ..) rfl ?_
  exact Ext.refl _ _
  refine VAll.of_ok (P := fun x => Ext _ _ x) ?_ ‹_›
  refine VAll.step (State.vread_ext ..) rfl ?_
  exact Ext.refl _ _
  refine Ext.step (State.poisonTail_ext ..) rfl ?_
  exact Ext.refl _ _
  exact Ext.refl _ _
  refine Ext.step (State.beginCodec_ext ..) rfl ?_
  exact Ext.refl _ _

theorem execStreamOpComplete_ext (a0 : ℕ) (a1 : State) :
    HAll (fun x => Ext [.rst, .regs, .hlk, .launches, .cores, .sram, .sramUe, .mem, .queues, .act, .shl, .fab, .red, .ras, .free] a1 x) (@execStreamOpComplete a0 a1) := by
  unfold Sys2Proof.Machine.execStreamOpComplete
  refine HAll.next ?_
  split
  refine Ext.step (State.stgCfgDue_ext ..) rfl ?_
  refine Ext.step (State.stgWake_ext ..) rfl ?_
  refine Ext.step (State.completeOp_ext ..) rfl ?_
  exact Ext.refl _ _
  exact Ext.refl _ _

theorem State.startPlain_ext (a0 : State) (a1 : ℕ) (a2 : ℕ → Bool) :
    Ext [.rst, .regs, .hlk, .launches, .cores, .shoals, .sram, .sramUe, .mem, .queues, .act, .shl, .red, .ras, .free] a0 (@State.startPlain a0 a1 a2) := by
  unfold Sys2Proof.Machine.State.startPlain
  unfold Sys2Proof.Machine.State.startIf
  split
  refine Ext.ite ?_ ?_
  unfold Sys2Proof.Machine.State.startOp
  refine Ext.ite ?_ ?_
  split
  refine Ext.step (State.launchEnd_ext ..) rfl ?_
  exact Ext.refl _ _
  refine Ext.step (State.poisonTail_ext ..) rfl ?_
  exact Ext.refl _ _
  refine Ext.ite ?_ ?_
  refine Ext.step (State.poisonTail_ext ..) rfl ?_
  exact Ext.refl _ _
  refine Ext.ite ?_ ?_
  refine Ext.step (State.modOp_ext ..) rfl ?_
  exact Ext.refl _ _
  refine Ext.step (State.beginPlain_ext ..) rfl ?_
  refine Ext.step (State.modOp_ext ..) rfl ?_
  exact Ext.refl _ _
  exact Ext.refl _ _
  exact Ext.refl _ _

theorem execStreamOut_ext (a0 : ℕ) (a1 : State) :
    HAll (fun x => Ext [.rst, .regs, .hlk, .launches, .cores, .shoals, .sram, .sramUe, .mem, .queues, .act, .shl, .red, .ras, .free] a1 x) (@execStreamOut a0 a1) := by
  unfold Sys2Proof.Machine.execStreamOut
  refine HAll.next ?_
  refine Ext.step (State.startPlain_ext ..) rfl ?_
  exact Ext.refl _ _

theorem State.landNext_ext (a0 : State) (a1 : ℕ) (a2 : Op) (a3 : Xfer) :
    LAll (fun x => Ext [.rst, .regs, .hlk, .cores, .sram, .sramUe, .mem, .queues, .act, .red, .ras, .free] a0 x) (@State.landNext a0 a1 a2 a3) := by
  unfold Sys2Proof.Machine.State.landNext
  split
  refine LAll.step (State.landPatch_ext ..) rfl ?_
  exact Ext.refl _ _
  refine LAll.step (State.landPatch_ext ..) rfl ?_
  exact Ext.refl _ _
  refine LAll.step (State.landSave_ext ..) rfl ?_
  exact Ext.refl _ _
  refine LAll.step (State.landRestore_ext ..) rfl ?_
  exact Ext.refl _ _
  refine LAll.step (State.landMask_ext ..) rfl ?_
  exact Ext.refl _ _
  refine LAll.step (State.landGather_ext ..) rfl ?_
  exact Ext.refl _ _
  refine LAll.step (State.landKvWrite_ext ..) rfl ?_
  exact Ext.refl _ _
  refine LAll.step (State.landPush_ext ..) rfl ?_
  exact Ext.refl _ _
  refine LAll.ite ?_ ?_
  refine LAll.step (State.landPlain_ext ..) rfl ?_
  exact Ext.refl _ _
  refine LAll.wait ?_
  refine LAll.ite ?_ ?_
  refine LAll.step (State.landPlain_ext ..) rfl ?_
  exact Ext.refl _ _
  refine LAll.wait ?_
  refine LAll.ite ?_ ?_
  refine LAll.step (State.landFm_ext ..) rfl ?_
  exact Ext.refl _ _
  refine LAll.step (State.landPlain_ext ..) rfl ?_
  exact Ext.refl _ _

theorem execStreamTransferTimeout_ext (a0 : ℕ) (a1 : ℕ) (a2 : State) :
    HAll (fun x => Ext [.rst, .regs, .hlk, .cores, .sram, .sramUe, .mem, .queues, .ras, .free] a2 x) (@execStreamTransferTimeout a0 a1 a2) := by
  unfold Sys2Proof.Machine.execStreamTransferTimeout
  refine HAll.next ?_
  (dsimp only; split)
  refine Ext.ite ?_ ?_
  exact Ext.refl _ _
  refine Ext.step (State.poisonTail_ext ..) rfl ?_
  refine Ext.step (State.bump_ext ..) rfl ?_
  refine Ext.step (State.raise_ext ..) rfl ?_
  exact Ext.refl _ _
  exact Ext.refl _ _

theorem State.cowEnd_ext (a0 : State) (a1 : ℕ) (a2 : Cow) :
    Ext [.rst, .regs, .hlk, .cores, .sram, .sramUe, .mem, .queues, .ras, .free] a0 (@State.cowEnd a0 a1 a2) := by
  unfold Sys2Proof.Machine.State.cowEnd
  refine Ext.step (State.cowResume_ext ..) rfl ?_
  refine Ext.step (State.bump_ext ..) rfl ?_
  refine Ext.step (State.raise_ext ..) rfl ?_
  refine Ext.step (Ext.set_mem ..) rfl ?_
  refine Ext.step (State.p_ext ..) rfl ?_
  refine Ext.step (State.storePhys_ext ..) rfl ?_
  refine foldl_all (P := fun x => Ext _ _ x) ?_ ?_
  (dsimp only; split)
  refine Ext.step (State.storePhys_ext ..) rfl ?_
  refine Ext.step (State.copyPhys_ext ..) rfl ?_
  exact Ext.refl _ _
  refine Ext.step (State.copyPhys_ext ..) rfl ?_
  exact Ext.refl _ _
  intro _
  intro _
  intro _
  refine Ext.step (State.setSlice_ext ..) rfl ?_
  with_reducible assumption

theorem execCowCopyStart_ext (a0 : ℕ) (a1 : ℕ) (a2 : ℕ) (a3 : State) :
    HAll (fun x => Ext [.regs, .hlk, .mem, .queues] a3 x) (@execCowCopyStart a0 a1 a2 a3) := by
  unfold Sys2Proof.Machine.execCowCopyStart
  refine HAll.next ?_
  refine Ext.ite ?_ ?_
  (dsimp only; split)
  split
  refine Ext.ite ?_ ?_
  refine Ext.step (State.holdQueue_ext ..) rfl ?_
  refine Ext.step (State.countCow_ext ..) rfl ?_
  exact Ext.refl _ _
  refine Ext.step (State.countCow_ext ..) rfl ?_
  exact Ext.refl _ _
  split
  refine Ext.step (State.cowFault_ext ..) rfl ?_
  refine Ext.step (State.cowEmpty_ext ..) rfl ?_
  refine Ext.step (State.countCow_ext ..) rfl ?_
  exact Ext.refl _ _
  refine Ext.step (State.cowBegin_ext ..) rfl ?_
  refine Ext.step (State.holdQueue_ext ..) rfl ?_
  refine Ext.step (State.countCow_ext ..) rfl ?_
  exact Ext.refl _ _
  exact Ext.refl _ _
  exact Ext.refl _ _

theorem execXltFaultTimeout_ext (a0 : ℕ) (a1 : State) :
    HAll (fun x => Ext [.rst, .regs, .hlk, .launches, .cores, .shoals, .sram, .sramUe, .mem, .queues, .act, .shl, .fab, .red, .ras, .free] a1 x) (@execXltFaultTimeout a0 a1) := by
  unfold Sys2Proof.Machine.execXltFaultTimeout
  refine HAll.next ?_
  split
  refine Ext.step (State.xltFail_ext ..) rfl ?_
  exact Ext.refl _ _
  exact Ext.refl _ _

theorem execMapSearchDone_ext (a0 : ℕ) (a1 : State) :
    HAll (fun x => Ext [.rst, .regs, .hlk, .launches, .cores, .shoals, .sram, .sramUe, .mem, .queues, .act, .shl, .fab, .red, .ras, .free] a1 x) (@execMapSearchDone a0 a1) := by
  unfold Sys2Proof.Machine.execMapSearchDone
  refine HAll.next ?_
  split
  refine Ext.step (State.searchEnd_ext ..) rfl ?_
  exact Ext.refl _ _
  exact Ext.refl _ _

theorem execCowCopyDone_ext (a0 : ℕ) (a1 : State) :
    HAll (fun x => Ext [.rst, .regs, .hlk, .cores, .sram, .sramUe, .mem, .queues, .ras, .free] a1 x) (@execCowCopyDone a0 a1) := by
  unfold Sys2Proof.Machine.execCowCopyDone
  refine HAll.next ?_
  split
  refine Ext.step (State.cowEnd_ext ..) rfl ?_
  exact Ext.refl _ _
  exact Ext.refl _ _

theorem execStreamIn_ext (a0 : ℕ) (a1 : State) :
    HAll (fun x => Ext [.rst, .regs, .hlk, .launches, .cores, .shoals, .sram, .sramUe, .mem, .queues, .act, .shl, .red, .ras, .free] a1 x) (@execStreamIn a0 a1) := by
  unfold Sys2Proof.Machine.execStreamIn
  refine HAll.next ?_
  refine Ext.step (State.startPlain_ext ..) rfl ?_
  exact Ext.refl _ _

theorem execStreamCopy_ext (a0 : ℕ) (a1 : State) :
    HAll (fun x => Ext [.rst, .regs, .hlk, .launches, .cores, .shoals, .sram, .sramUe, .mem, .queues, .act, .shl, .red, .ras, .free] a1 x) (@execStreamCopy a0 a1) := by
  unfold Sys2Proof.Machine.execStreamCopy
  refine HAll.next ?_
  refine Ext.step (State.startPlain_ext ..) rfl ?_
  exact Ext.refl _ _

theorem execTransferLanded_ext (a0 : ℕ) (a1 : ℕ) (a2 : State) :
    HAll (fun x => Ext [.rst, .regs, .hlk, .cores, .sram, .sramUe, .mem, .queues, .act, .red, .ras, .free] a2 x) (@execTransferLanded a0 a1 a2) := by
  unfold Sys2Proof.Machine.execTransferLanded
  refine HAll.next ?_
  split
  unfold Sys2Proof.Machine.State.landed
  (dsimp only; split)
  refine Ext.step (State.xferDone_ext ..) rfl ?_
  refine LAll.of_done (P := fun x => Ext _ _ x) ?_ ‹_›
  refine LAll.step (State.landNext_ext ..) rfl ?_
  exact Ext.refl _ _
  exact Ext.refl _ _
  refine Ext.step (State.pump_ext ..) rfl ?_
  refine Ext.step (State.modOp_ext ..) rfl ?_
  refine LAll.of_mark (P := fun x => Ext _ _ x) ?_ ‹_›
  refine LAll.step (State.landNext_ext ..) rfl ?_
  exact Ext.refl _ _
  refine Ext.step (State.poisonTail_ext ..) rfl ?_
  refine LAll.of_fail (P := fun x => Ext _ _ x) ?_ ‹_›
  refine LAll.step (State.landNext_ext ..) rfl ?_
  exact Ext.refl _ _
  exact Ext.refl _ _

end Sys2Proof.Machine
end

