-- ==== Sys2Proof/Laws/FrameRings.lean ====
section
/-! SUPPORT. What each definition of Machine/Rings.lean may change: every part that its lemma does not name stays, and memory keeps
its canonical form. -/

set_option maxRecDepth 4000

namespace Sys2Proof.Machine

theorem State.startCmd_ext (a0 : State) (a1 : ℕ) (a2 : ℕ) :
    Ext [.hlk] a0 (@State.startCmd a0 a1 a2) := by
  unfold Sys2Proof.Machine.State.startCmd
  refine Ext.step (State.modCmd_ext ..) rfl ?_
  exact Ext.refl _ _

theorem execWait_ext (a0 : ℕ) (a1 : State) :
    HAll (fun x => Ext [.hlk] a1 x) (@execWait a0 a1) := by
  unfold Sys2Proof.Machine.execWait
  refine HAll.next ?_
  split
  refine Ext.ite ?_ ?_
  refine Ext.step (State.finishCmd_ext ..) rfl ?_
  refine Ext.step (State.startCmd_ext ..) rfl ?_
  exact Ext.refl _ _
  refine Ext.step (State.startCmd_ext ..) rfl ?_
  exact Ext.refl _ _
  exact Ext.refl _ _

theorem State.fenceDone_ext (a0 : State) (a1 : ℕ) :
    Ext [.hlk] a0 (@State.fenceDone a0 a1) := by
  unfold Sys2Proof.Machine.State.fenceDone
  split
  refine Ext.ite ?_ ?_
  refine Ext.step (State.finishCmd_ext ..) rfl ?_
  exact Ext.refl _ _
  exact Ext.refl _ _
  exact Ext.refl _ _

theorem execFence_ext (a0 : ℕ) (a1 : State) :
    HAll (fun x => Ext [.hlk] a1 x) (@execFence a0 a1) := by
  unfold Sys2Proof.Machine.execFence
  refine HAll.next ?_
  split
  refine Ext.step (State.fenceDone_ext ..) rfl ?_
  refine Ext.step (State.startCmd_ext ..) rfl ?_
  exact Ext.refl _ _
  exact Ext.refl _ _

theorem State.signalRun_ext (a0 : State) (a1 : ℕ) (a2 : Cmd) :
    Ext [.rst, .regs, .hlk, .cores, .mem, .ras, .free] a0 (@State.signalRun a0 a1 a2) := by
  unfold Sys2Proof.Machine.State.signalRun
  split
  refine Ext.step (State.finishCmd_ext ..) rfl ?_
  refine Ext.step (State.startCmd_ext ..) rfl ?_
  refine VAll.of_ok (P := fun x => Ext _ _ x) ?_ ‹_›
  refine VAll.step (State.vwrite_ext ..) rfl ?_
  exact Ext.refl _ _
  refine Ext.step (State.finishCmd_ext ..) rfl ?_
  refine Ext.step (State.startCmd_ext ..) rfl ?_
  exact Ext.refl _ _
  exact Ext.refl _ _
  exact Ext.refl _ _

theorem State.abortRing_ext (a0 : State) (a1 : ℕ) (a2 : ℕ) :
    Ext [.rst, .regs, .hlk, .loads, .launches, .cores, .shoals, .sram, .sramUe, .mem, .queues, .act, .shl, .red, .ras, .free] a0 (@State.abortRing a0 a1 a2) := by
  unfold Sys2Proof.Machine.State.abortRing
  refine foldl_all (P := fun x => Ext _ _ x) ?_ ?_
  refine Ext.step (State.setRing_ext ..) rfl ?_
  refine Ext.step (Ext.set_loads ..) rfl ?_
  exact Ext.refl _ _
  intro _
  intro _
  intro _
  refine Ext.ite ?_ ?_
  refine Ext.step (State.finishCmd_ext ..) rfl ?_
  refine foldl_all (P := fun x => Ext _ _ x) ?_ ?_
  split
  refine Ext.step (State.launchEnd_ext ..) rfl ?_
  with_reducible assumption
  with_reducible assumption
  intro _
  intro _
  intro _
  refine Ext.step (State.resetOps_ext ..) rfl ?_
  with_reducible assumption
  with_reducible assumption

theorem State.ringResetStart_ext (a0 : State) (a1 : ℕ) :
    Ext [.rst, .regs, .hlk, .loads, .launches, .cores, .shoals, .sram, .sramUe, .mem, .queues, .act, .shl, .red, .ras, .free] a0 (@State.ringResetStart a0 a1) := by
  unfold Sys2Proof.Machine.State.ringResetStart
  refine Ext.ite ?_ ?_
  exact Ext.refl _ _
  refine Ext.step (State.wr_ext ..) rfl ?_
  refine Ext.step (State.setRing_ext ..) rfl ?_
  refine Ext.step (State.abortRing_ext ..) rfl ?_
  exact Ext.refl _ _

theorem State.pushHub_ext (a0 : State) (a1 : ℕ) (a2 : ℕ) (a3 : Cmd) (a4 : ℕ) (a5 : Bytes) (a6 : Bool) (a7 : List ℕ) :
    Ext [.queues, .nextOp] a0 (@State.pushHub a0 a1 a2 a3 a4 a5 a6 a7) := by
  unfold Sys2Proof.Machine.State.pushHub
  refine Ext.step (State.setQueue_ext ..) rfl ?_
  refine Ext.step (Ext.set_nextOp ..) rfl ?_
  exact Ext.refl _ _

theorem State.copyRun_ext (a0 : State) (a1 : ℕ) (a2 : Cmd) :
    Ext [.hlk, .queues, .nextOp] a0 (@State.copyRun a0 a1 a2) := by
  unfold Sys2Proof.Machine.State.copyRun
  refine Ext.ite ?_ ?_
  exact Ext.refl _ _
  refine Ext.ite ?_ ?_
  refine Ext.step (State.finishCmd_ext ..) rfl ?_
  refine Ext.step (State.startCmd_ext ..) rfl ?_
  exact Ext.refl _ _
  refine Ext.ite ?_ ?_
  refine Ext.step (State.finishCmd_ext ..) rfl ?_
  refine Ext.step (State.startCmd_ext ..) rfl ?_
  exact Ext.refl _ _
  refine foldl_all (P := fun x => Ext _ _ x) ?_ ?_
  refine Ext.step (State.startCmd_ext ..) rfl ?_
  exact Ext.refl _ _
  intro _
  intro _
  intro _
  refine Ext.step (State.pushHub_ext ..) rfl ?_
  with_reducible assumption

theorem execCopy_ext (a0 : ℕ) (a1 : State) :
    HAll (fun x => Ext [.hlk, .queues, .nextOp] a1 x) (@execCopy a0 a1) := by
  unfold Sys2Proof.Machine.execCopy
  refine HAll.next ?_
  split
  refine Ext.step (State.copyRun_ext ..) rfl ?_
  exact Ext.refl _ _
  exact Ext.refl _ _

theorem execSignal_ext (a0 : ℕ) (a1 : State) :
    HAll (fun x => Ext [.rst, .regs, .hlk, .cores, .mem, .ras, .free] a1 x) (@execSignal a0 a1) := by
  unfold Sys2Proof.Machine.execSignal
  refine HAll.next ?_
  split
  refine Ext.step (State.signalRun_ext ..) rfl ?_
  exact Ext.refl _ _
  exact Ext.refl _ _

theorem State.ringStop_ext (a0 : State) (a1 : ℕ) (a2 : ℕ) :
    Ext [.regs, .hlk] a0 (@State.ringStop a0 a1 a2) := by
  unfold Sys2Proof.Machine.State.ringStop
  refine Ext.step (State.raise_ext ..) rfl ?_
  refine Ext.step (State.setRing_ext ..) rfl ?_
  exact Ext.refl _ _

theorem State.fetchCmd_ext (a0 : State) (a1 : ℕ) :
    Ext [.regs, .hlk] a0 (@State.fetchCmd a0 a1) := by
  unfold Sys2Proof.Machine.State.fetchCmd
  (dsimp only; split)
  refine Ext.step (State.ringStop_ext ..) rfl ?_
  exact Ext.refl _ _
  refine Ext.step (State.setRing_ext ..) rfl ?_
  refine Ext.step (Ext.set_hlk ..) rfl ?_
  exact Ext.refl _ _

theorem execCommandFetch_ext (a0 : ℕ) (a1 : State) :
    HAll (fun x => Ext [.regs, .hlk] a1 x) (@execCommandFetch a0 a1) := by
  unfold Sys2Proof.Machine.execCommandFetch
  refine HAll.next ?_
  refine Ext.ite ?_ ?_
  refine Ext.step (State.fetchCmd_ext ..) rfl ?_
  exact Ext.refl _ _
  exact Ext.refl _ _

theorem State.pushList_ext (a0 : ℕ) (a1 : ℕ) (a2 : Cmd) (a3 : ℕ) (a4 : ℕ) (a5 : ℕ) (a6 : ℕ) (a7 : Bytes) (a8 : State) :
    Ext [.queues, .nextOp] a8 (@State.pushList a0 a1 a2 a3 a4 a5 a6 a7 a8) := by
  induction a4 generalizing a0 a1 a2 a3 a5 a6 a7 a8 with
  | zero =>
    unfold Sys2Proof.Machine.State.pushList
    exact Ext.refl _ _
  | succ k ih =>
    unfold Sys2Proof.Machine.State.pushList
    refine Ext.step (ih _ _ _ _ _ _ _ _) rfl ?_
    refine Ext.step (State.pushHub_ext ..) rfl ?_
    exact Ext.refl _ _

theorem State.streamRun_ext (a0 : State) (a1 : ℕ) (a2 : Cmd) :
    Ext [.regs, .hlk, .mem, .queues, .nextOp] a0 (@State.streamRun a0 a1 a2) := by
  unfold Sys2Proof.Machine.State.streamRun
  refine Ext.ite ?_ ?_
  refine Ext.step (State.finishCmd_ext ..) rfl ?_
  refine Ext.step (State.startCmd_ext ..) rfl ?_
  exact Ext.refl _ _
  refine Ext.ite ?_ ?_
  exact Ext.refl _ _
  refine Ext.ite ?_ ?_
  refine Ext.step (State.finishCmd_ext ..) rfl ?_
  refine Ext.step (State.startCmd_ext ..) rfl ?_
  exact Ext.refl _ _
  split
  refine Ext.step (State.pushList_ext ..) rfl ?_
  refine Ext.step (State.startCmd_ext ..) rfl ?_
  refine VAll.of_ok (P := fun x => Ext _ _ x) ?_ ‹_›
  refine VAll.step (State.vread_ext ..) rfl ?_
  exact Ext.refl _ _
  refine Ext.step (State.finishCmd_ext ..) rfl ?_
  refine Ext.step (State.startCmd_ext ..) rfl ?_
  exact Ext.refl _ _
  refine Ext.step (State.finishCmd_ext ..) rfl ?_
  refine Ext.step (State.startCmd_ext ..) rfl ?_
  exact Ext.refl _ _
  exact Ext.refl _ _
  exact Ext.refl _ _

theorem execStream_ext (a0 : ℕ) (a1 : State) :
    HAll (fun x => Ext [.regs, .hlk, .mem, .queues, .nextOp] a1 x) (@execStream a0 a1) := by
  unfold Sys2Proof.Machine.execStream
  refine HAll.next ?_
  split
  refine Ext.step (State.streamRun_ext ..) rfl ?_
  exact Ext.refl _ _
  exact Ext.refl _ _

theorem State.enqueue_ext (a0 : State) (a1 : ℕ) (a2 : Launch) :
    Ext [.cores] a0 (@State.enqueue a0 a1 a2) := by
  unfold Sys2Proof.Machine.State.enqueue
  refine foldl_all (P := fun x => Ext _ _ x) ?_ ?_
  exact Ext.refl _ _
  intro _
  intro _
  intro _
  refine Ext.step (State.setCore_ext ..) rfl ?_
  with_reducible assumption

theorem State.dispatch_ext (a0 : State) (a1 : ℕ) (a2 : Cmd) :
    Ext [.hlk, .launches, .cores] a0 (@State.dispatch a0 a1 a2) := by
  unfold Sys2Proof.Machine.State.dispatch
  (dsimp only; split)
  refine Ext.step (State.finishCmd_ext ..) rfl ?_
  refine Ext.step (State.startCmd_ext ..) rfl ?_
  refine Ext.step (Ext.set_hlk ..) rfl ?_
  exact Ext.refl _ _
  refine Ext.ite ?_ ?_
  refine Ext.step (State.enqueue_ext ..) rfl ?_
  refine Ext.step (State.setLaunch_ext ..) rfl ?_
  refine Ext.step (State.startCmd_ext ..) rfl ?_
  refine Ext.step (Ext.set_hlk ..) rfl ?_
  exact Ext.refl _ _
  exact Ext.refl _ _
  exact Ext.refl _ _

theorem execLaunch_ext (a0 : ℕ) (a1 : State) :
    HAll (fun x => Ext [.hlk, .launches, .cores] a1 x) (@execLaunch a0 a1) := by
  unfold Sys2Proof.Machine.execLaunch
  refine HAll.next ?_
  split
  refine Ext.ite ?_ ?_
  refine Ext.step (State.dispatch_ext ..) rfl ?_
  exact Ext.refl _ _
  exact Ext.refl _ _
  exact Ext.refl _ _

theorem State.loadRun_ext (a0 : State) (a1 : ℕ) (a2 : Cmd) :
    Ext [.regs, .hlk, .kernels, .gens, .loads, .mem] a0 (@State.loadRun a0 a1 a2) := by
  unfold Sys2Proof.Machine.State.loadRun
  refine Ext.ite ?_ ?_
  refine Ext.step (State.finishCmd_ext ..) rfl ?_
  refine Ext.step (State.startCmd_ext ..) rfl ?_
  exact Ext.refl _ _
  split
  split
  refine Ext.step (State.finishCmd_ext ..) rfl ?_
  refine Ext.step (State.startCmd_ext ..) rfl ?_
  refine Ext.ofPair1 ?_ ‹_›
  refine Ext.step (State.negotiate_ext ..) rfl ?_
  refine VAll.of_ok (P := fun x => Ext _ _ x) ?_ ‹_›
  refine VAll.step (State.vread_ext ..) rfl ?_
  exact Ext.refl _ _
  refine Ext.ite ?_ ?_
  refine Ext.step (State.finishCmd_ext ..) rfl ?_
  refine Ext.step (State.startCmd_ext ..) rfl ?_
  refine Ext.ofPair1 ?_ ‹_›
  refine Ext.step (State.negotiate_ext ..) rfl ?_
  refine VAll.of_ok (P := fun x => Ext _ _ x) ?_ ‹_›
  refine VAll.step (State.vread_ext ..) rfl ?_
  exact Ext.refl _ _
  refine Ext.ite ?_ ?_
  refine Ext.step (State.finishCmd_ext ..) rfl ?_
  refine Ext.step (State.startCmd_ext ..) rfl ?_
  refine Ext.ofPair1 ?_ ‹_›
  refine Ext.step (State.negotiate_ext ..) rfl ?_
  refine VAll.of_ok (P := fun x => Ext _ _ x) ?_ ‹_›
  refine VAll.step (State.vread_ext ..) rfl ?_
  exact Ext.refl _ _
  split
  split
  refine Ext.step (State.finishCmd_ext ..) rfl ?_
  refine Ext.step (State.startCmd_ext ..) rfl ?_
  refine VAll.of_ok (P := fun x => Ext _ _ x) ?_ ‹_›
  refine VAll.step (State.vread_ext ..) rfl ?_
  refine Ext.ofPair1 ?_ ‹_›
  refine Ext.step (State.negotiate_ext ..) rfl ?_
  refine VAll.of_ok (P := fun x => Ext _ _ x) ?_ ‹_›
  refine VAll.step (State.vread_ext ..) rfl ?_
  exact Ext.refl _ _
  refine Ext.step (State.loadPlace_ext ..) rfl ?_
  refine Ext.step (State.startCmd_ext ..) rfl ?_
  refine VAll.of_ok (P := fun x => Ext _ _ x) ?_ ‹_›
  refine VAll.step (State.vread_ext ..) rfl ?_
  refine Ext.ofPair1 ?_ ‹_›
  refine Ext.step (State.negotiate_ext ..) rfl ?_
  refine VAll.of_ok (P := fun x => Ext _ _ x) ?_ ‹_›
  refine VAll.step (State.vread_ext ..) rfl ?_
  exact Ext.refl _ _
  refine Ext.step (State.finishCmd_ext ..) rfl ?_
  refine Ext.step (State.startCmd_ext ..) rfl ?_
  refine Ext.ofPair1 ?_ ‹_›
  refine Ext.step (State.negotiate_ext ..) rfl ?_
  refine VAll.of_ok (P := fun x => Ext _ _ x) ?_ ‹_›
  refine VAll.step (State.vread_ext ..) rfl ?_
  exact Ext.refl _ _
  refine Ext.step (State.finishCmd_ext ..) rfl ?_
  refine Ext.step (State.startCmd_ext ..) rfl ?_
  refine Ext.ofPair1 ?_ ‹_›
  refine Ext.step (State.negotiate_ext ..) rfl ?_
  refine VAll.of_ok (P := fun x => Ext _ _ x) ?_ ‹_›
  refine VAll.step (State.vread_ext ..) rfl ?_
  exact Ext.refl _ _
  refine Ext.ofPair1 ?_ ‹_›
  refine Ext.step (State.negotiate_ext ..) rfl ?_
  refine VAll.of_ok (P := fun x => Ext _ _ x) ?_ ‹_›
  refine VAll.step (State.vread_ext ..) rfl ?_
  exact Ext.refl _ _
  refine Ext.ofPair1 ?_ ‹_›
  refine Ext.step (State.negotiate_ext ..) rfl ?_
  refine VAll.of_ok (P := fun x => Ext _ _ x) ?_ ‹_›
  refine VAll.step (State.vread_ext ..) rfl ?_
  exact Ext.refl _ _
  refine Ext.step (State.finishCmd_ext ..) rfl ?_
  refine Ext.step (State.startCmd_ext ..) rfl ?_
  exact Ext.refl _ _
  refine Ext.step (State.finishCmd_ext ..) rfl ?_
  refine Ext.step (State.startCmd_ext ..) rfl ?_
  exact Ext.refl _ _
  exact Ext.refl _ _
  exact Ext.refl _ _

theorem execLoadKernel_ext (a0 : ℕ) (a1 : State) :
    HAll (fun x => Ext [.regs, .hlk, .kernels, .gens, .loads, .mem] a1 x) (@execLoadKernel a0 a1) := by
  unfold Sys2Proof.Machine.execLoadKernel
  refine HAll.next ?_
  split
  refine Ext.step (State.loadRun_ext ..) rfl ?_
  exact Ext.refl _ _
  exact Ext.refl _ _

theorem execRingCloseDone_ext (a0 : ℕ) (a1 : State) :
    HAll (fun x => Ext [.hlk] a1 x) (@execRingCloseDone a0 a1) := by
  unfold Sys2Proof.Machine.execRingCloseDone
  refine HAll.next ?_
  refine Ext.ite ?_ ?_
  refine Ext.step (State.setRing_ext ..) rfl ?_
  exact Ext.refl _ _
  exact Ext.refl _ _

theorem State.headBell_ext (a0 : State) (a1 : ℕ) (a2 : ℕ) :
    Ext [.regs, .hlk] a0 (@State.headBell a0 a1 a2) := by
  unfold Sys2Proof.Machine.State.headBell
  refine Ext.ite ?_ ?_
  exact Ext.refl _ _
  refine Ext.ite ?_ ?_
  refine Ext.step (State.raise_ext ..) rfl ?_
  exact Ext.refl _ _
  refine Ext.step (State.setRing_ext ..) rfl ?_
  exact Ext.refl _ _

theorem execCompletionHeadDoorbell_ext (a0 : ℕ) (a1 : BitVec 16) (a2 : State) :
    HAll (fun x => Ext [.regs, .hlk] a2 x) (@execCompletionHeadDoorbell a0 a1 a2) := by
  unfold Sys2Proof.Machine.execCompletionHeadDoorbell
  refine HAll.next ?_
  refine Ext.ite ?_ ?_
  refine Ext.step (State.headBell_ext ..) rfl ?_
  exact Ext.refl _ _
  exact Ext.refl _ _

theorem State.tailBell_ext (a0 : State) (a1 : ℕ) (a2 : ℕ) :
    Ext [.regs, .hlk] a0 (@State.tailBell a0 a1 a2) := by
  unfold Sys2Proof.Machine.State.tailBell
  refine Ext.ite ?_ ?_
  exact Ext.refl _ _
  refine Ext.ite ?_ ?_
  refine Ext.step (State.raise_ext ..) rfl ?_
  exact Ext.refl _ _
  refine Ext.ite ?_ ?_
  refine Ext.step (State.ringStop_ext ..) rfl ?_
  exact Ext.refl _ _
  refine Ext.step (State.setRing_ext ..) rfl ?_
  exact Ext.refl _ _

theorem State.hostWrite_ext (a0 : State) (a1 : ℕ) (a2 : Bytes) :
    OAll (fun x => Ext [.rst, .regs, .hlk, .cores, .mem, .ras, .free] a0 x) (@State.hostWrite a0 a1 a2) := by
  unfold Sys2Proof.Machine.State.hostWrite
  refine OAll.ite ?_ ?_
  refine OAll.some ?_
  refine Ext.step (State.storePhys_ext ..) rfl ?_
  exact Ext.refl _ _
  refine OAll.none ?_

theorem State.openRing_ext (a0 : State) (a1 : ℕ) (a2 : Word) :
    Ext [.regs, .hlk] a0 (@State.openRing a0 a1 a2) := by
  unfold Sys2Proof.Machine.State.openRing
  refine Ext.ite ?_ ?_
  refine Ext.step (State.setRing_ext ..) rfl ?_
  refine Ext.step (State.wr_ext ..) rfl ?_
  exact Ext.refl _ _
  (dsimp only; split)
  refine Ext.step (State.setRing_ext ..) rfl ?_
  refine Ext.ofPair1 ?_ ‹_›
  refine Ext.step (State.negotiate_ext ..) rfl ?_
  refine Ext.step (State.wr_ext ..) rfl ?_
  exact Ext.refl _ _
  refine Ext.step (State.setRing_ext ..) rfl ?_
  refine Ext.ofPair1 ?_ ‹_›
  refine Ext.step (State.negotiate_ext ..) rfl ?_
  refine Ext.step (State.wr_ext ..) rfl ?_
  exact Ext.refl _ _

theorem State.writeRcfg_ext (a0 : State) (a1 : ℕ) (a2 : Word) :
    Ext [.rst, .regs, .hlk, .loads, .launches, .cores, .shoals, .sram, .sramUe, .mem, .queues, .act, .shl, .red, .ras, .free] a0 (@State.writeRcfg a0 a1 a2) := by
  unfold Sys2Proof.Machine.State.writeRcfg
  refine Ext.ite ?_ ?_
  exact Ext.refl _ _
  refine Ext.ite ?_ ?_
  refine Ext.step (State.ringResetStart_ext ..) rfl ?_
  exact Ext.refl _ _
  refine Ext.ite ?_ ?_
  refine Ext.ite ?_ ?_
  refine Ext.step (State.openRing_ext ..) rfl ?_
  exact Ext.refl _ _
  refine Ext.step (State.wr_ext ..) rfl ?_
  exact Ext.refl _ _
  refine Ext.ite ?_ ?_
  refine Ext.step (State.wr_ext ..) rfl ?_
  exact Ext.refl _ _
  refine Ext.step (State.setRing_ext ..) rfl ?_
  refine Ext.step (State.wr_ext ..) rfl ?_
  exact Ext.refl _ _

theorem execRingOpen_ext (a0 : ℕ) (a1 : Word) (a2 : State) :
    HAll (fun x => Ext [.rst, .regs, .hlk, .loads, .launches, .cores, .shoals, .sram, .sramUe, .mem, .queues, .act, .shl, .red, .ras, .free] a2 x) (@execRingOpen a0 a1 a2) := by
  unfold Sys2Proof.Machine.execRingOpen
  refine HAll.next ?_
  unfold Sys2Proof.Machine.State.ringWrite
  refine Ext.ite ?_ ?_
  exact Ext.refl _ _
  unfold Sys2Proof.Machine.State.pageWrite
  refine Ext.ite ?_ ?_
  exact Ext.refl _ _
  refine Ext.ite ?_ ?_
  refine Ext.step (State.refuse_ext ..) rfl ?_
  exact Ext.refl _ _
  refine Ext.step (State.writeRcfg_ext ..) rfl ?_
  exact Ext.refl _ _

theorem State.complete_ext (a0 : State) (a1 : ℕ) (a2 : Cmd) (a3 : BitVec 16) (a4 : Word) :
    Ext [.rst, .regs, .hlk, .cores, .mem, .ras, .free] a0 (@State.complete a0 a1 a2 a3 a4) := by
  unfold Sys2Proof.Machine.State.complete
  refine Ext.ite ?_ ?_
  refine Ext.step (State.fenceDone_ext ..) rfl ?_
  refine Ext.step (State.setRing_ext ..) rfl ?_
  exact Ext.refl _ _
  (dsimp only; split)
  refine Ext.step (State.fenceDone_ext ..) rfl ?_
  refine Ext.ite ?_ ?_
  refine Ext.step (State.setRing_ext ..) rfl ?_
  exact Ext.refl _ _
  refine Ext.step (State.ringStop_ext ..) rfl ?_
  refine Ext.step (State.setRing_ext ..) rfl ?_
  exact Ext.refl _ _
  refine Ext.step (State.fenceDone_ext ..) rfl ?_
  refine Ext.ite ?_ ?_
  refine Ext.step (State.msix_ext ..) rfl ?_
  refine Ext.step (State.setRing_ext ..) rfl ?_
  refine Ext.ofO ?_ ‹_›
  refine OAll.step (State.hostWrite_ext ..) rfl ?_
  refine Ext.step (State.setRing_ext ..) rfl ?_
  exact Ext.refl _ _
  refine Ext.step (State.setRing_ext ..) rfl ?_
  refine Ext.ofO ?_ ‹_›
  refine OAll.step (State.hostWrite_ext ..) rfl ?_
  refine Ext.step (State.setRing_ext ..) rfl ?_
  exact Ext.refl _ _

theorem execCommandComplete_ext (a0 : ℕ) (a1 : ℕ) (a2 : State) :
    HAll (fun x => Ext [.rst, .regs, .hlk, .cores, .mem, .ras, .free] a2 x) (@execCommandComplete a0 a1 a2) := by
  unfold Sys2Proof.Machine.execCommandComplete
  refine HAll.next ?_
  split
  split
  refine Ext.ite ?_ ?_
  exact Ext.refl _ _
  refine Ext.step (State.complete_ext ..) rfl ?_
  exact Ext.refl _ _
  exact Ext.refl _ _
  exact Ext.refl _ _
  exact Ext.refl _ _

theorem State.waitRun_ext (a0 : State) (a1 : ℕ) (a2 : Cmd) :
    Ext [.regs, .hlk, .mem] a0 (@State.waitRun a0 a1 a2) := by
  unfold Sys2Proof.Machine.State.waitRun
  (dsimp only; split)
  refine Ext.ite ?_ ?_
  refine Ext.step (State.finishCmd_ext ..) rfl ?_
  refine VAll.of_ok (P := fun x => Ext _ _ x) ?_ ‹_›
  refine VAll.step (State.vread_ext ..) rfl ?_
  exact Ext.refl _ _
  refine VAll.of_ok (P := fun x => Ext _ _ x) ?_ ‹_›
  refine VAll.step (State.vread_ext ..) rfl ?_
  exact Ext.refl _ _
  refine Ext.step (State.finishCmd_ext ..) rfl ?_
  exact Ext.refl _ _
  refine Ext.step (State.finishCmd_ext ..) rfl ?_
  exact Ext.refl _ _
  exact Ext.refl _ _
  exact Ext.refl _ _

theorem execWaitPoll_ext (a0 : ℕ) (a1 : ℕ) (a2 : State) :
    HAll (fun x => Ext [.regs, .hlk, .mem] a2 x) (@execWaitPoll a0 a1 a2) := by
  unfold Sys2Proof.Machine.execWaitPoll
  refine HAll.next ?_
  split
  refine Ext.step (State.waitRun_ext ..) rfl ?_
  exact Ext.refl _ _
  exact Ext.refl _ _

theorem execStepBegin_ext (a0 : ℕ) (a1 : State) :
    HAll (fun x => Ext [.rst, .regs, .hlk, .cores, .shoals, .mem, .act, .fab, .red, .ras, .free] a1 x) (@execStepBegin a0 a1) := by
  unfold Sys2Proof.Machine.execStepBegin
  refine HAll.next ?_
  split
  refine Ext.ite ?_ ?_
  refine Ext.step (State.finishCmd_ext ..) rfl ?_
  refine Ext.step (State.startCmd_ext ..) rfl ?_
  exact Ext.refl _ _
  split
  refine Ext.step (State.finishCmd_ext ..) rfl ?_
  refine Ext.step (State.startCmd_ext ..) rfl ?_
  refine Ext.ofO ?_ ‹_›
  refine OAll.step (State.stepOpen_ext ..) rfl ?_
  exact Ext.refl _ _
  exact Ext.refl _ _
  exact Ext.refl _ _

theorem execNotReadyTimeout_ext (a0 : ℕ) (a1 : State) :
    HAll (fun x => Ext [.hlk] a1 x) (@execNotReadyTimeout a0 a1) := by
  unfold Sys2Proof.Machine.execNotReadyTimeout
  refine HAll.next ?_
  split
  refine Ext.ite ?_ ?_
  refine Ext.step (State.finishCmd_ext ..) rfl ?_
  refine Ext.step (State.startCmd_ext ..) rfl ?_
  exact Ext.refl _ _
  exact Ext.refl _ _
  exact Ext.refl _ _

theorem execCommandTailDoorbell_ext (a0 : ℕ) (a1 : BitVec 16) (a2 : State) :
    HAll (fun x => Ext [.regs, .hlk] a2 x) (@execCommandTailDoorbell a0 a1 a2) := by
  unfold Sys2Proof.Machine.execCommandTailDoorbell
  refine HAll.next ?_
  refine Ext.ite ?_ ?_
  refine Ext.step (State.tailBell_ext ..) rfl ?_
  exact Ext.refl _ _
  exact Ext.refl _ _

theorem execRingReset_ext (a0 : ℕ) (a1 : State) :
    HAll (fun x => Ext [.rst, .regs, .hlk, .loads, .launches, .cores, .shoals, .sram, .sramUe, .mem, .queues, .act, .shl, .red, .ras, .free] a1 x) (@execRingReset a0 a1) := by
  unfold Sys2Proof.Machine.execRingReset
  refine HAll.next ?_
  unfold Sys2Proof.Machine.State.ringWrite
  refine Ext.ite ?_ ?_
  exact Ext.refl _ _
  unfold Sys2Proof.Machine.State.pageWrite
  refine Ext.ite ?_ ?_
  exact Ext.refl _ _
  refine Ext.ite ?_ ?_
  refine Ext.step (State.refuse_ext ..) rfl ?_
  exact Ext.refl _ _
  refine Ext.step (State.ringResetStart_ext ..) rfl ?_
  exact Ext.refl _ _

theorem execRingResetDone_ext (a0 : ℕ) (a1 : State) :
    HAll (fun x => Ext [.regs, .hlk] a1 x) (@execRingResetDone a0 a1) := by
  unfold Sys2Proof.Machine.execRingResetDone
  refine HAll.next ?_
  refine Ext.ite ?_ ?_
  refine Ext.step (State.wr_ext ..) rfl ?_
  refine Ext.step (State.setRing_ext ..) rfl ?_
  exact Ext.refl _ _
  exact Ext.refl _ _

theorem execRingNop_ext (a0 : ℕ) (a1 : State) :
    HAll (fun x => Ext [.hlk] a1 x) (@execRingNop a0 a1) := by
  unfold Sys2Proof.Machine.execRingNop
  refine HAll.next ?_
  split
  refine Ext.step (State.finishCmd_ext ..) rfl ?_
  refine Ext.step (State.startCmd_ext ..) rfl ?_
  exact Ext.refl _ _
  exact Ext.refl _ _

theorem execRingClose_ext (a0 : ℕ) (a1 : State) :
    HAll (fun x => Ext [.rst, .regs, .hlk, .loads, .launches, .cores, .shoals, .sram, .sramUe, .mem, .queues, .act, .shl, .red, .ras, .free] a1 x) (@execRingClose a0 a1) := by
  unfold Sys2Proof.Machine.execRingClose
  refine HAll.next ?_
  unfold Sys2Proof.Machine.State.ringWrite
  refine Ext.ite ?_ ?_
  exact Ext.refl _ _
  unfold Sys2Proof.Machine.State.pageWrite
  refine Ext.ite ?_ ?_
  exact Ext.refl _ _
  refine Ext.ite ?_ ?_
  refine Ext.step (State.refuse_ext ..) rfl ?_
  exact Ext.refl _ _
  refine Ext.step (State.writeRcfg_ext ..) rfl ?_
  exact Ext.refl _ _

end Sys2Proof.Machine
end

