-- ==== Sys2Proof/Laws/FrameResetOps.lean ====
section
/-! SUPPORT. What each definition of Machine/ResetOps.lean may change: every part that its lemma does not name stays, and memory keeps
its canonical form. -/

set_option maxRecDepth 4000

namespace Sys2Proof.Machine

theorem State.resetNotice_ext (a0 : State) (a1 : ℕ) :
    Ext [.regs, .hlk] a0 (@State.resetNotice a0 a1) := by
  unfold Sys2Proof.Machine.State.resetNotice
  refine foldl_all (P := fun x => Ext _ _ x) ?_ ?_
  exact Ext.refl _ _
  intro _
  intro _
  intro _
  refine Ext.step (State.mgmt_ext ..) rfl ?_
  with_reducible assumption

theorem State.hostLost_ext (a0 : State) :
    Ext [.rst, .regs, .hlk, .cores, .sram, .sramUe, .mem, .queues, .ras, .free] a0 (@State.hostLost a0) := by
  unfold Sys2Proof.Machine.State.hostLost
  refine foldl_all (P := fun x => Ext _ _ x) ?_ ?_
  exact Ext.refl _ _
  intro _
  intro _
  intro _
  refine foldl_all (P := fun x => Ext _ _ x) ?_ ?_
  with_reducible assumption
  intro _
  intro _
  intro _
  refine Ext.ite ?_ ?_
  refine Ext.step (State.poisonTail_ext ..) rfl ?_
  with_reducible assumption
  with_reducible assumption

theorem State.hlkRetrain_ext (a0 : State) (a1 : ℕ) :
    Ext [.rst, .regs, .hlk, .cores, .mem, .act, .ras, .free] a0 (@State.hlkRetrain a0 a1) := by
  unfold Sys2Proof.Machine.State.hlkRetrain
  refine Ext.step (State.ledgerHostDown_ext ..) rfl ?_
  refine Ext.step (State.wr_ext ..) rfl ?_
  refine Ext.step (Ext.set_hlk ..) rfl ?_
  exact Ext.refl _ _

theorem State.holdPage_ext (a0 : State) (a1 : Blk) (a2 : ℕ) :
    Ext [.rst] a0 (@State.holdPage a0 a1 a2) := by
  unfold Sys2Proof.Machine.State.holdPage
  refine Ext.step (Ext.set_rst ..) rfl ?_
  refine Ext.step (State.setReady_ext ..) rfl ?_
  exact Ext.refl _ _

theorem State.pageState_ext (a0 : State) (a1 : Blk → ℕ → Bool) :
    Ext [.rst] a0 (@State.pageState a0 a1) := by
  unfold Sys2Proof.Machine.State.pageState
  refine Ext.step (Ext.set_rst ..) rfl ?_
  exact Ext.refl _ _

theorem State.columns_ext (a0 : State) (a1 : Bool) (a2 : Blk → ℕ → Bool) :
    Ext [.regs, .snaps] a0 (@State.columns a0 a1 a2) := by
  unfold Sys2Proof.Machine.State.columns
  refine Ext.step (Ext.set_regs_snaps ..) rfl ?_
  exact Ext.refl _ _

theorem State.pageColumn_ext (a0 : State) (a1 : Blk) (a2 : ℕ) :
    Ext [.rst, .regs, .snaps] a0 (@State.pageColumn a0 a1 a2) := by
  unfold Sys2Proof.Machine.State.pageColumn
  refine Ext.step (Ext.set_rst ..) rfl ?_
  refine Ext.step (State.pageState_ext ..) rfl ?_
  refine Ext.step (State.columns_ext ..) rfl ?_
  exact Ext.refl _ _

theorem State.closeRings_ext (a0 : State) :
    Ext [.hlk] a0 (@State.closeRings a0) := by
  unfold Sys2Proof.Machine.State.closeRings
  refine Ext.step (Ext.set_hlk ..) rfl ?_
  exact Ext.refl _ _

theorem State.hlkBlock_ext (a0 : State) (a1 : ℕ) :
    Ext [.rst, .regs, .snaps, .hlk, .cores, .sram, .sramUe, .mem, .queues, .act, .ras, .free] a0 (@State.hlkBlock a0 a1) := by
  unfold Sys2Proof.Machine.State.hlkBlock
  refine Ext.ite ?_ ?_
  refine Ext.ite ?_ ?_
  refine Ext.step (State.raise_ext ..) rfl ?_
  refine Ext.step (State.hlkRetrain_ext ..) rfl ?_
  refine Ext.step (State.holdPage_ext ..) rfl ?_
  refine Ext.step (State.pageColumn_ext ..) rfl ?_
  refine Ext.step (State.closeRings_ext ..) rfl ?_
  refine Ext.ite ?_ ?_
  refine Ext.step (State.hostLost_ext ..) rfl ?_
  exact Ext.refl _ _
  exact Ext.refl _ _
  refine Ext.step (State.hlkRetrain_ext ..) rfl ?_
  refine Ext.step (State.holdPage_ext ..) rfl ?_
  refine Ext.step (State.pageColumn_ext ..) rfl ?_
  refine Ext.step (State.closeRings_ext ..) rfl ?_
  refine Ext.ite ?_ ?_
  refine Ext.step (State.hostLost_ext ..) rfl ?_
  exact Ext.refl _ _
  exact Ext.refl _ _
  refine Ext.step (State.bump_ext ..) rfl ?_
  refine Ext.ite ?_ ?_
  refine Ext.step (State.raise_ext ..) rfl ?_
  refine Ext.step (State.hlkRetrain_ext ..) rfl ?_
  refine Ext.step (State.holdPage_ext ..) rfl ?_
  refine Ext.step (State.pageColumn_ext ..) rfl ?_
  refine Ext.step (State.closeRings_ext ..) rfl ?_
  refine Ext.ite ?_ ?_
  refine Ext.step (State.hostLost_ext ..) rfl ?_
  exact Ext.refl _ _
  exact Ext.refl _ _
  refine Ext.step (State.hlkRetrain_ext ..) rfl ?_
  refine Ext.step (State.holdPage_ext ..) rfl ?_
  refine Ext.step (State.pageColumn_ext ..) rfl ?_
  refine Ext.step (State.closeRings_ext ..) rfl ?_
  refine Ext.ite ?_ ?_
  refine Ext.step (State.hostLost_ext ..) rfl ?_
  exact Ext.refl _ _
  exact Ext.refl _ _

theorem State.dropFaults_ext (a0 : State) :
    Ext [.rst, .regs, .hlk, .launches, .cores, .mem, .queues, .act, .shl, .red, .ras, .free] a0 (@State.dropFaults a0) := by
  unfold Sys2Proof.Machine.State.dropFaults
  refine foldl_all (P := fun x => Ext _ _ x) ?_ ?_
  refine Ext.step (Ext.set_mem ..) rfl ?_
  exact Ext.refl _ _
  intro _
  intro _
  intro _
  refine foldl_all (P := fun x => Ext _ _ x) ?_ ?_
  with_reducible assumption
  intro _
  intro _
  intro _
  refine Ext.ite ?_ ?_
  split
  refine Ext.step (State.resetOp_ext ..) rfl ?_
  with_reducible assumption
  with_reducible assumption
  with_reducible assumption

theorem State.dropMbx_ext (a0 : State) :
    Ext [.hlk] a0 (@State.dropMbx a0) := by
  unfold Sys2Proof.Machine.State.dropMbx
  refine Ext.step (Ext.set_hlk ..) rfl ?_
  exact Ext.refl _ _

theorem State.dropSlices_ext (a0 : State) (a1 : ℕ → Bool) :
    Ext [.mem] a0 (@State.dropSlices a0 a1) := by
  unfold Sys2Proof.Machine.State.dropSlices
  refine Ext.step (Ext.set_mem ..) rfl ?_
  exact Ext.refl _ _

theorem State.resetBasinOps_ext (a0 : State) (a1 : ℕ) (a2 : Op → Bool) :
    Ext [.rst, .regs, .hlk, .launches, .cores, .mem, .queues, .act, .shl, .red, .ras, .free] a0 (@State.resetBasinOps a0 a1 a2) := by
  unfold Sys2Proof.Machine.State.resetBasinOps
  refine foldl_all (P := fun x => Ext _ _ x) ?_ ?_
  exact Ext.refl _ _
  intro _
  intro _
  intro _
  refine Ext.step (State.resetOps_ext ..) rfl ?_
  with_reducible assumption

theorem State.dropDeadTxns_ext (a0 : State) :
    Ext [.fab] a0 (@State.dropDeadTxns a0) := by
  unfold Sys2Proof.Machine.State.dropDeadTxns
  refine Ext.step (Ext.set_fab ..) rfl ?_
  exact Ext.refl _ _

theorem State.zeroProcs_ext (a0 : State) (a1 : ℕ → Bool) :
    Ext [.cores, .shoals, .gpr, .preds, .lflags, .sram, .sramUe] a0 (@State.zeroProcs a0 a1) := by
  unfold Sys2Proof.Machine.State.zeroProcs
  refine Ext.step (Ext.set_cores_shoals_gpr_preds_lflags_sram_sramUe ..) rfl ?_
  exact Ext.refl _ _

theorem State.portReset_ext (a0 : State) (a1 : ℕ) :
    Ext [.rst, .regs, .hlk, .launches, .cores, .mem, .queues, .act, .shl, .fab, .red, .ras, .free] a0 (@State.portReset a0 a1) := by
  unfold Sys2Proof.Machine.State.portReset
  refine foldl_all (P := fun x => Ext _ _ x) ?_ ?_
  refine Ext.step (Ext.set_fab ..) rfl ?_
  exact Ext.refl _ _
  intro _
  intro _
  intro _
  refine foldl_all (P := fun x => Ext _ _ x) ?_ ?_
  refine Ext.step (State.linkLost_ext ..) rfl ?_
  refine Ext.step (State.setLink_ext ..) rfl ?_
  with_reducible assumption
  intro _
  intro _
  intro _
  split
  refine Ext.step (State.dropTxn_ext ..) rfl ?_
  split
  refine Ext.step (State.resetOp_ext ..) rfl ?_
  with_reducible assumption
  with_reducible assumption
  with_reducible assumption

theorem State.stepReset_ext (a0 : State) :
    Ext [.red] a0 (@State.stepReset a0) := by
  unfold Sys2Proof.Machine.State.stepReset
  refine Ext.ite ?_ ?_
  refine Ext.step (State.setRed_ext ..) rfl ?_
  exact Ext.refl _ _
  exact Ext.refl _ _

theorem State.unitReset_ext (a0 : State) (a1 : ℕ) :
    Ext [.cores, .shoals, .gpr, .preds, .lflags, .sram, .sramUe, .red] a0 (@State.unitReset a0 a1) := by
  unfold Sys2Proof.Machine.State.unitReset
  refine Ext.step (State.stepReset_ext ..) rfl ?_
  refine Ext.step (State.zeroProcs_ext ..) rfl ?_
  refine Ext.step (State.setUnit_ext ..) rfl ?_
  exact Ext.refl _ _

theorem State.blockWork_ext (a0 : State) (a1 : Blk) (a2 : ℕ) :
    Ext [.rst, .regs, .hlk, .launches, .cores, .shoals, .gpr, .preds, .lflags, .sram, .sramUe, .mem, .queues, .act, .shl, .fab, .red, .ras, .free] a0 (@State.blockWork a0 a1 a2) := by
  unfold Sys2Proof.Machine.State.blockWork
  (dsimp only; split)
  exact Ext.refl _ _
  exact Ext.refl _ _
  exact Ext.refl _ _
  exact Ext.refl _ _
  exact Ext.refl _ _
  exact Ext.refl _ _
  exact Ext.refl _ _
  exact Ext.refl _ _
  refine Ext.step (State.dropMbx_ext ..) rfl ?_
  exact Ext.refl _ _
  refine Ext.step (State.dropSlices_ext ..) rfl ?_
  refine Ext.step (State.dropFaults_ext ..) rfl ?_
  exact Ext.refl _ _
  refine Ext.step (State.dropDeadTxns_ext ..) rfl ?_
  refine Ext.step (Ext.set_mem ..) rfl ?_
  refine Ext.step (State.resetBasinOps_ext ..) rfl ?_
  exact Ext.refl _ _
  refine Ext.step (State.dropDeadTxns_ext ..) rfl ?_
  refine Ext.step (State.setCore_ext ..) rfl ?_
  refine Ext.step (State.zeroProcs_ext ..) rfl ?_
  refine foldl_all (P := fun x => Ext _ _ x) ?_ ?_
  refine foldl_all (P := fun x => Ext _ _ x) ?_ ?_
  exact Ext.refl _ _
  intro _
  intro _
  intro _
  refine Ext.step (State.launchEnd_ext ..) rfl ?_
  with_reducible assumption
  intro _
  intro _
  intro _
  refine Ext.step (State.resetOps_ext ..) rfl ?_
  with_reducible assumption
  refine Ext.step (State.ledgerReset_ext ..) rfl ?_
  refine Ext.step (State.resetBasinOps_ext ..) rfl ?_
  exact Ext.refl _ _
  refine Ext.step (Ext.set_shl ..) rfl ?_
  refine Ext.step (State.resetBasinOps_ext ..) rfl ?_
  exact Ext.refl _ _
  refine Ext.step (State.dropDeadTxns_ext ..) rfl ?_
  refine foldl_all (P := fun x => Ext _ _ x) ?_ ?_
  exact Ext.refl _ _
  intro _
  intro _
  intro _
  refine Ext.step (State.resetOps_ext ..) rfl ?_
  with_reducible assumption
  refine Ext.step (State.portReset_ext ..) rfl ?_
  exact Ext.refl _ _
  refine Ext.step (State.unitReset_ext ..) rfl ?_
  exact Ext.refl _ _
  refine Ext.step (State.unitReset_ext ..) rfl ?_
  exact Ext.refl _ _
  refine Ext.step (State.stepReset_ext ..) rfl ?_
  refine Ext.step (State.setRed_ext ..) rfl ?_
  exact Ext.refl _ _

theorem State.blockStart_ext (a0 : State) (a1 : Blk) (a2 : ℕ) :
    Ext [.rst, .regs, .snaps, .hlk, .launches, .cores, .shoals, .gpr, .preds, .lflags, .sram, .sramUe, .mem, .queues, .act, .shl, .fab, .red, .ras, .free] a0 (@State.blockStart a0 a1 a2) := by
  unfold Sys2Proof.Machine.State.blockStart
  (dsimp only; split)
  exact Ext.refl _ _
  exact Ext.refl _ _
  exact Ext.refl _ _
  exact Ext.refl _ _
  exact Ext.refl _ _
  refine Ext.step (State.hlkBlock_ext ..) rfl ?_
  exact Ext.refl _ _
  refine Ext.step (State.holdPage_ext ..) rfl ?_
  refine Ext.step (State.wr_ext ..) rfl ?_
  refine Ext.step (State.pageColumn_ext ..) rfl ?_
  refine Ext.step (State.blockWork_ext ..) rfl ?_
  refine Ext.step (State.setReady_ext ..) rfl ?_
  exact Ext.refl _ _
  refine Ext.step (State.holdPage_ext ..) rfl ?_
  refine Ext.step (State.pageColumn_ext ..) rfl ?_
  refine Ext.step (State.blockWork_ext ..) rfl ?_
  refine Ext.step (State.setReady_ext ..) rfl ?_
  exact Ext.refl _ _
  refine Ext.step (State.holdPage_ext ..) rfl ?_
  refine Ext.step (State.pageColumn_ext ..) rfl ?_
  refine Ext.step (State.blockWork_ext ..) rfl ?_
  refine Ext.step (State.setReady_ext ..) rfl ?_
  exact Ext.refl _ _
  refine Ext.step (State.holdPage_ext ..) rfl ?_
  refine Ext.step (State.pageColumn_ext ..) rfl ?_
  refine Ext.step (State.blockWork_ext ..) rfl ?_
  refine Ext.step (State.setReady_ext ..) rfl ?_
  exact Ext.refl _ _
  refine Ext.step (State.holdPage_ext ..) rfl ?_
  refine Ext.step (State.pageColumn_ext ..) rfl ?_
  refine Ext.step (State.blockWork_ext ..) rfl ?_
  refine Ext.step (State.setReady_ext ..) rfl ?_
  exact Ext.refl _ _
  refine Ext.step (State.holdPage_ext ..) rfl ?_
  refine Ext.step (State.pageColumn_ext ..) rfl ?_
  refine Ext.step (State.blockWork_ext ..) rfl ?_
  refine Ext.step (State.setReady_ext ..) rfl ?_
  exact Ext.refl _ _
  refine Ext.step (State.holdPage_ext ..) rfl ?_
  refine Ext.step (State.pageColumn_ext ..) rfl ?_
  refine Ext.step (State.blockWork_ext ..) rfl ?_
  refine Ext.step (State.setReady_ext ..) rfl ?_
  exact Ext.refl _ _
  refine Ext.step (State.holdPage_ext ..) rfl ?_
  refine Ext.step (State.pageColumn_ext ..) rfl ?_
  refine Ext.step (State.blockWork_ext ..) rfl ?_
  refine Ext.step (State.setReady_ext ..) rfl ?_
  exact Ext.refl _ _
  refine Ext.step (State.holdPage_ext ..) rfl ?_
  refine Ext.step (State.pageColumn_ext ..) rfl ?_
  refine Ext.step (State.blockWork_ext ..) rfl ?_
  refine Ext.step (State.setReady_ext ..) rfl ?_
  exact Ext.refl _ _
  refine Ext.step (State.holdPage_ext ..) rfl ?_
  refine Ext.step (State.pageColumn_ext ..) rfl ?_
  refine Ext.step (State.blockWork_ext ..) rfl ?_
  refine Ext.step (State.setReady_ext ..) rfl ?_
  exact Ext.refl _ _
  refine Ext.step (State.holdPage_ext ..) rfl ?_
  refine Ext.step (State.pageColumn_ext ..) rfl ?_
  refine Ext.step (State.blockWork_ext ..) rfl ?_
  refine Ext.step (State.setReady_ext ..) rfl ?_
  exact Ext.refl _ _
  refine Ext.step (State.holdPage_ext ..) rfl ?_
  refine Ext.step (State.pageColumn_ext ..) rfl ?_
  refine Ext.step (State.blockWork_ext ..) rfl ?_
  refine Ext.step (State.setReady_ext ..) rfl ?_
  exact Ext.refl _ _
  refine Ext.step (State.holdPage_ext ..) rfl ?_
  refine Ext.step (State.pageColumn_ext ..) rfl ?_
  refine Ext.step (State.blockWork_ext ..) rfl ?_
  refine Ext.step (State.setReady_ext ..) rfl ?_
  exact Ext.refl _ _

theorem State.blockRequest_ext (a0 : State) (a1 : Blk) (a2 : ℕ) :
    Ext [.rst, .regs, .snaps, .hlk, .launches, .cores, .shoals, .gpr, .preds, .lflags, .sram, .sramUe, .mem, .queues, .act, .shl, .fab, .red, .ras, .free] a0 (@State.blockRequest a0 a1 a2) := by
  unfold Sys2Proof.Machine.State.blockRequest
  refine Ext.ite ?_ ?_
  exact Ext.refl _ _
  refine Ext.ite ?_ ?_
  refine Ext.step (Ext.set_rst ..) rfl ?_
  exact Ext.refl _ _
  refine Ext.step (State.blockStart_ext ..) rfl ?_
  exact Ext.refl _ _

theorem State.rebuildBasin_ext (a0 : State) (a1 : ℕ) :
    Ext [.rst, .regs, .hlk, .cores, .ras, .free] a0 (@State.rebuildBasin a0 a1) := by
  unfold Sys2Proof.Machine.State.rebuildBasin
  refine Ext.ite ?_ ?_
  refine Ext.step (State.record_ext ..) rfl ?_
  refine Ext.ite ?_ ?_
  refine foldl_all (P := fun x => Ext _ _ x) ?_ ?_
  refine foldl_all (P := fun x => Ext _ _ x) ?_ ?_
  refine foldl_all (P := fun x => Ext _ _ x) ?_ ?_
  refine Ext.step (Ext.set_rst ..) rfl ?_
  refine Ext.step (Ext.set_cores ..) rfl ?_
  refine Ext.step (Ext.set_cores ..) rfl ?_
  exact Ext.refl _ _
  intro _
  intro _
  intro _
  refine Ext.ite ?_ ?_
  refine Ext.step (State.setPcore_ext ..) rfl ?_
  with_reducible assumption
  with_reducible assumption
  intro _
  intro _
  intro _
  split
  refine Ext.step (State.setPhysOf_ext ..) rfl ?_
  with_reducible assumption
  refine Ext.step (State.coreLost_ext ..) rfl ?_
  with_reducible assumption
  intro _
  intro _
  intro _
  refine Ext.step (State.latchFault_ext ..) rfl ?_
  with_reducible assumption
  refine foldl_all (P := fun x => Ext _ _ x) ?_ ?_
  refine foldl_all (P := fun x => Ext _ _ x) ?_ ?_
  refine Ext.step (Ext.set_rst ..) rfl ?_
  refine Ext.step (Ext.set_cores ..) rfl ?_
  refine Ext.step (Ext.set_cores ..) rfl ?_
  exact Ext.refl _ _
  intro _
  intro _
  intro _
  refine Ext.ite ?_ ?_
  refine Ext.step (State.setPcore_ext ..) rfl ?_
  with_reducible assumption
  with_reducible assumption
  intro _
  intro _
  intro _
  split
  refine Ext.step (State.setPhysOf_ext ..) rfl ?_
  with_reducible assumption
  refine Ext.step (State.coreLost_ext ..) rfl ?_
  with_reducible assumption
  refine Ext.ite ?_ ?_
  refine foldl_all (P := fun x => Ext _ _ x) ?_ ?_
  refine foldl_all (P := fun x => Ext _ _ x) ?_ ?_
  refine foldl_all (P := fun x => Ext _ _ x) ?_ ?_
  refine Ext.step (Ext.set_rst ..) rfl ?_
  refine Ext.step (Ext.set_cores ..) rfl ?_
  refine Ext.step (Ext.set_cores ..) rfl ?_
  exact Ext.refl _ _
  intro _
  intro _
  intro _
  refine Ext.ite ?_ ?_
  refine Ext.step (State.setPcore_ext ..) rfl ?_
  with_reducible assumption
  with_reducible assumption
  intro _
  intro _
  intro _
  split
  refine Ext.step (State.setPhysOf_ext ..) rfl ?_
  with_reducible assumption
  refine Ext.step (State.coreLost_ext ..) rfl ?_
  with_reducible assumption
  intro _
  intro _
  intro _
  refine Ext.step (State.latchFault_ext ..) rfl ?_
  with_reducible assumption
  refine foldl_all (P := fun x => Ext _ _ x) ?_ ?_
  refine foldl_all (P := fun x => Ext _ _ x) ?_ ?_
  refine Ext.step (Ext.set_rst ..) rfl ?_
  refine Ext.step (Ext.set_cores ..) rfl ?_
  refine Ext.step (Ext.set_cores ..) rfl ?_
  exact Ext.refl _ _
  intro _
  intro _
  intro _
  refine Ext.ite ?_ ?_
  refine Ext.step (State.setPcore_ext ..) rfl ?_
  with_reducible assumption
  with_reducible assumption
  intro _
  intro _
  intro _
  split
  refine Ext.step (State.setPhysOf_ext ..) rfl ?_
  with_reducible assumption
  refine Ext.step (State.coreLost_ext ..) rfl ?_
  with_reducible assumption

theorem State.rebuildMap_ext (a0 : State) :
    Ext [.rst, .regs, .hlk, .cores, .ras, .free] a0 (@State.rebuildMap a0) := by
  unfold Sys2Proof.Machine.State.rebuildMap
  refine foldl_all (P := fun x => Ext _ _ x) ?_ ?_
  exact Ext.refl _ _
  intro _
  intro _
  intro _
  refine Ext.step (State.rebuildBasin_ext ..) rfl ?_
  with_reducible assumption

theorem State.dieClear_ext (a0 : State) :
    Ext [.power, .rst, .jrn, .regs, .snaps, .retained, .hlk, .kernels, .loads, .launches, .cores, .shoals, .gpr, .preds, .lflags, .sram, .sramUe, .mem, .queues, .act, .shl, .fab, .red, .scale, .ras, .free] a0 (@State.dieClear a0) := by
  unfold Sys2Proof.Machine.State.dieClear
  refine Ext.step (State.rebuildMap_ext ..) rfl ?_
  refine Ext.step (Ext.set_ras ..) rfl ?_
  refine Ext.step (Ext.set_power_mem_fab_red_scale (h := fun h => by dsimp only; exact Memory.wf_tdrop _ _ h) ..) rfl ?_
  refine Ext.step (State.zeroProcs_ext ..) rfl ?_
  refine Ext.step (Ext.set_rst_jrn_retained_hlk_kernels_loads_launches_queues_act_shl ..) rfl ?_
  refine Ext.ite ?_ ?_
  refine Ext.step (State.raise_ext ..) rfl ?_
  refine Ext.step (State.p_ext ..) rfl ?_
  refine Ext.step (State.columns_ext ..) rfl ?_
  exact Ext.refl _ _
  refine Ext.step (State.p_ext ..) rfl ?_
  refine Ext.step (State.columns_ext ..) rfl ?_
  exact Ext.refl _ _

theorem State.warmEmpty_ext (a0 : State) (a1 : Bool) :
    Ext [.jrn, .hlk, .loads, .launches, .mem, .queues, .shl, .fab, .red, .scale] a0 (@State.warmEmpty a0 a1) := by
  unfold Sys2Proof.Machine.State.warmEmpty
  refine Ext.step (Ext.set_jrn_hlk_loads_launches_mem_queues_shl_fab_red_scale ..) rfl ?_
  exact Ext.refl _ _

theorem State.completeAll_ext (a0 : State) (a1 : ℕ) :
    Ext [.rst, .regs, .hlk, .cores, .mem, .ras, .free] a0 (@State.completeAll a0 a1) := by
  unfold Sys2Proof.Machine.State.completeAll
  refine foldl_all (P := fun x => Ext _ _ x) ?_ ?_
  exact Ext.refl _ _
  intro _
  intro _
  intro _
  split
  refine Ext.step (State.complete_ext ..) rfl ?_
  with_reducible assumption
  with_reducible assumption
  with_reducible assumption

theorem State.basinFaults_ext (a0 : State) (a1 : ℕ) :
    Ext [.mem] a0 (@State.basinFaults a0 a1) := by
  unfold Sys2Proof.Machine.State.basinFaults
  refine Ext.step (Ext.set_mem ..) rfl ?_
  exact Ext.refl _ _

theorem State.basinClear_ext (a0 : State) (a1 : ℕ) :
    Ext [.rst, .regs, .snaps, .hlk, .launches, .cores, .shoals, .gpr, .preds, .lflags, .sram, .sramUe, .mem, .queues, .act, .shl, .fab, .red, .ras, .free] a0 (@State.basinClear a0 a1) := by
  unfold Sys2Proof.Machine.State.basinClear
  refine Ext.step (State.stepReset_ext ..) rfl ?_
  refine Ext.step (State.rebuildBasin_ext ..) rfl ?_
  refine Ext.step (Ext.set_mem_shl ..) rfl ?_
  refine Ext.step (State.zeroProcs_ext ..) rfl ?_
  refine Ext.step (State.dropDeadTxns_ext ..) rfl ?_
  refine Ext.step (State.dropSlices_ext ..) rfl ?_
  refine Ext.step (State.basinFaults_ext ..) rfl ?_
  refine Ext.ite ?_ ?_
  refine Ext.step (State.setReady_ext ..) rfl ?_
  refine Ext.step (State.setBasinReady_ext ..) rfl ?_
  refine Ext.step (State.setReady_ext ..) rfl ?_
  refine Ext.step (State.setReady_ext ..) rfl ?_
  refine Ext.step (State.setReady_ext ..) rfl ?_
  refine Ext.step (State.setReady_ext ..) rfl ?_
  refine Ext.step (State.pageState_ext ..) rfl ?_
  refine Ext.step (State.columns_ext ..) rfl ?_
  refine Ext.step (State.ledgerReset_ext ..) rfl ?_
  refine Ext.step (State.resetBasinOps_ext ..) rfl ?_
  refine foldl_all (P := fun x => Ext _ _ x) ?_ ?_
  exact Ext.refl _ _
  intro _
  intro _
  intro _
  refine Ext.step (State.launchEnd_ext ..) rfl ?_
  with_reducible assumption
  refine Ext.step (State.setBasinReady_ext ..) rfl ?_
  refine Ext.step (State.setReady_ext ..) rfl ?_
  refine Ext.step (State.setReady_ext ..) rfl ?_
  refine Ext.step (State.setReady_ext ..) rfl ?_
  refine Ext.step (State.setReady_ext ..) rfl ?_
  refine Ext.step (State.pageState_ext ..) rfl ?_
  refine Ext.step (State.columns_ext ..) rfl ?_
  refine Ext.step (State.ledgerReset_ext ..) rfl ?_
  refine Ext.step (State.resetBasinOps_ext ..) rfl ?_
  refine foldl_all (P := fun x => Ext _ _ x) ?_ ?_
  exact Ext.refl _ _
  intro _
  intro _
  intro _
  refine Ext.step (State.launchEnd_ext ..) rfl ?_
  with_reducible assumption

theorem State.hostBlock_ext (a0 : State) (a1 : ℕ) :
    Ext [.rst, .regs, .snaps, .hlk, .cores, .sram, .sramUe, .mem, .queues, .act, .ras, .free] a0 (@State.hostBlock a0 a1) := by
  unfold Sys2Proof.Machine.State.hostBlock
  refine Ext.step (State.holdPage_ext ..) rfl ?_
  refine Ext.step (State.pageColumn_ext ..) rfl ?_
  refine Ext.step (State.dropMbx_ext ..) rfl ?_
  refine Ext.step (State.hlkBlock_ext ..) rfl ?_
  exact Ext.refl _ _

theorem State.abortRings_ext (a0 : State) (a1 : ℕ) :
    Ext [.rst, .regs, .hlk, .loads, .launches, .cores, .shoals, .sram, .sramUe, .mem, .queues, .act, .shl, .red, .ras, .free] a0 (@State.abortRings a0 a1) := by
  unfold Sys2Proof.Machine.State.abortRings
  refine foldl_all (P := fun x => Ext _ _ x) ?_ ?_
  exact Ext.refl _ _
  intro _
  intro _
  intro _
  refine Ext.step (State.completeAll_ext ..) rfl ?_
  refine Ext.step (State.abortRing_ext ..) rfl ?_
  with_reducible assumption

theorem State.warmEnds_ext (a0 : State) :
    Ext [.rst, .regs, .hlk, .loads, .launches, .cores, .shoals, .sram, .sramUe, .mem, .queues, .act, .shl, .red, .ras, .free] a0 (@State.warmEnds a0) := by
  unfold Sys2Proof.Machine.State.warmEnds
  refine foldl_all (P := fun x => Ext _ _ x) ?_ ?_
  refine foldl_all (P := fun x => Ext _ _ x) ?_ ?_
  refine Ext.step (State.abortRings_ext ..) rfl ?_
  refine foldl_all (P := fun x => Ext _ _ x) ?_ ?_
  exact Ext.refl _ _
  intro _
  intro _
  intro _
  refine Ext.step (State.launchEnd_ext ..) rfl ?_
  with_reducible assumption
  intro _
  intro _
  intro _
  refine Ext.step (State.resetOps_ext ..) rfl ?_
  with_reducible assumption
  intro _
  intro _
  intro _
  refine Ext.step (State.ledgerReset_ext ..) rfl ?_
  with_reducible assumption

theorem State.dropReady_ext (a0 : State) :
    Ext [.rst] a0 (@State.dropReady a0) := by
  unfold Sys2Proof.Machine.State.dropReady
  refine Ext.step (Ext.set_rst ..) rfl ?_
  exact Ext.refl _ _

theorem State.warmClear_ext (a0 : State) :
    Ext [.rst, .jrn, .regs, .snaps, .hlk, .loads, .launches, .cores, .shoals, .gpr, .preds, .lflags, .sram, .sramUe, .mem, .queues, .act, .shl, .fab, .red, .scale, .ras, .free] a0 (@State.warmClear a0) := by
  unfold Sys2Proof.Machine.State.warmClear
  refine Ext.step (State.rebuildMap_ext ..) rfl ?_
  refine Ext.step (State.warmEmpty_ext ..) rfl ?_
  refine Ext.step (State.zeroProcs_ext ..) rfl ?_
  refine Ext.step (State.dropReady_ext ..) rfl ?_
  refine Ext.step (State.p_ext ..) rfl ?_
  refine Ext.step (State.p_ext ..) rfl ?_
  refine Ext.step (State.pageState_ext ..) rfl ?_
  refine Ext.step (State.columns_ext ..) rfl ?_
  refine Ext.step (State.warmEnds_ext ..) rfl ?_
  exact Ext.refl _ _

end Sys2Proof.Machine
end

