-- ==== Sys2Proof/Laws/FrameReset.lean ====
section
/-! SUPPORT. What each definition of Machine/Reset.lean may change: every part that its lemma does not name stays, and memory keeps
its canonical form. -/

set_option maxRecDepth 4000

namespace Sys2Proof.Machine

theorem State.assertReq_ext (a0 : State) (a1 : RstReq) :
    Ext [.rst] a0 (@State.assertReq a0 a1) := by
  unfold Sys2Proof.Machine.State.assertReq
  refine Ext.step (Ext.set_rst ..) rfl ?_
  exact Ext.refl _ _

theorem execWarmResetAssert_ext (a0 : State) :
    HAll (fun x => Ext [.rst, .jrn, .regs, .snaps, .hlk, .loads, .launches, .cores, .shoals, .gpr, .preds, .lflags, .sram, .sramUe, .mem, .queues, .act, .shl, .fab, .red, .scale, .ras, .free] a0 x) (@execWarmResetAssert a0) := by
  unfold Sys2Proof.Machine.execWarmResetAssert
  refine HAll.next ?_
  split
  refine Ext.step (State.assertReq_ext ..) rfl ?_
  refine Ext.step (State.warmClear_ext ..) rfl ?_
  refine Ext.ite ?_ ?_
  exact Ext.refl _ _
  refine Ext.step (State.resetNotice_ext ..) rfl ?_
  exact Ext.refl _ _
  exact Ext.refl _ _

theorem State.coldAsserted_ext (a0 : State) (a1 : ℕ) :
    Ext [.rst] a0 (@State.coldAsserted a0 a1) := by
  unfold Sys2Proof.Machine.State.coldAsserted
  refine Ext.step (Ext.set_rst ..) rfl ?_
  exact Ext.refl _ _

theorem State.releaseReq_ext (a0 : State) (a1 : RstReq) (a2 : ℕ) (a3 : ℕ) (a4 : ℕ) :
    Ext [.rst, .regs, .hlk] a0 (@State.releaseReq a0 a1 a2 a3 a4) := by
  unfold Sys2Proof.Machine.State.releaseReq
  refine Ext.step (State.bump_ext ..) rfl ?_
  refine Ext.step (State.raise_ext ..) rfl ?_
  refine Ext.step (State.wr_ext ..) rfl ?_
  refine Ext.step (Ext.set_rst ..) rfl ?_
  exact Ext.refl _ _

theorem State.warmCount_ext (a0 : State) :
    Ext [.regs] a0 (@State.warmCount a0) := by
  unfold Sys2Proof.Machine.State.warmCount
  refine Ext.step (State.p_ext ..) rfl ?_
  exact Ext.refl _ _

theorem execBasinResetRelease_ext (a0 : ℕ) (a1 : State) :
    HAll (fun x => Ext [.rst, .regs, .hlk] a1 x) (@execBasinResetRelease a0 a1) := by
  unfold Sys2Proof.Machine.execBasinResetRelease
  refine HAll.next ?_
  split
  refine Ext.step (State.releaseReq_ext ..) rfl ?_
  refine Ext.step (State.warmCount_ext ..) rfl ?_
  exact Ext.refl _ _
  exact Ext.refl _ _

theorem State.mapIn_ext (a0 : State) (a1 : ℕ) :
    Ext [.regs, .hlk, .mem] a0 (@State.mapIn a0 a1) := by
  unfold Sys2Proof.Machine.State.mapIn
  (dsimp only; split)
  split
  refine Ext.step (State.installIn_ext ..) rfl ?_
  refine Ext.step (State.setSlice_ext ..) rfl ?_
  exact Ext.refl _ _
  exact Ext.refl _ _
  exact Ext.refl _ _
  exact Ext.refl _ _
  exact Ext.refl _ _
  exact Ext.refl _ _
  exact Ext.refl _ _

theorem State.headersDue_ext (a0 : State) :
    Ext [.rst, .regs, .hlk, .cores, .mem, .ras, .free] a0 (@State.headersDue a0) := by
  unfold Sys2Proof.Machine.State.headersDue
  refine Ext.ite ?_ ?_
  refine Ext.step (State.headerCheck_ext ..) rfl ?_
  refine foldl_all (P := fun x => Ext _ _ x) ?_ ?_
  exact Ext.refl _ _
  intro _
  intro _
  intro _
  refine Ext.step (State.mapIn_ext ..) rfl ?_
  with_reducible assumption
  exact Ext.refl _ _

theorem execBasinReady_ext (a0 : ℕ) (a1 : State) :
    HAll (fun x => Ext [.rst, .regs, .hlk, .cores, .mem, .ras, .free] a1 x) (@execBasinReady a0 a1) := by
  unfold Sys2Proof.Machine.execBasinReady
  refine HAll.next ?_
  refine Ext.ite ?_ ?_
  refine Ext.step (State.headersDue_ext ..) rfl ?_
  refine Ext.step (State.setBasinReady_ext ..) rfl ?_
  exact Ext.refl _ _
  exact Ext.refl _ _

theorem execBlkReset_ext (a0 : Blk) (a1 : ℕ) (a2 : State) :
    HAll (fun x => Ext [.rst, .regs, .snaps, .hlk, .launches, .cores, .shoals, .gpr, .preds, .lflags, .sram, .sramUe, .mem, .queues, .act, .shl, .fab, .red, .ras, .free] a2 x) (@execBlkReset a0 a1 a2) := by
  unfold Sys2Proof.Machine.execBlkReset
  refine HAll.next ?_
  refine Ext.step (State.blockRequest_ext ..) rfl ?_
  exact Ext.refl _ _

theorem State.remoteReset_ext (a0 : State) (a1 : ℕ) (a2 : Pkt) :
    Ext [.rst, .regs, .hlk, .mem, .fab] a0 (@State.remoteReset a0 a1 a2) := by
  unfold Sys2Proof.Machine.State.remoteReset
  refine Ext.ite ?_ ?_
  refine Ext.step (State.raise_ext ..) rfl ?_
  refine Ext.step (State.answer_ext ..) rfl ?_
  exact Ext.refl _ _
  refine Ext.ite ?_ ?_
  refine Ext.step (State.answer_ext ..) rfl ?_
  exact Ext.refl _ _
  refine Ext.ite ?_ ?_
  refine Ext.step (State.requestReset_ext ..) rfl ?_
  refine Ext.step (State.resetNotice_ext ..) rfl ?_
  refine Ext.step (State.answer_ext ..) rfl ?_
  exact Ext.refl _ _
  refine Ext.ite ?_ ?_
  refine Ext.step (State.requestReset_ext ..) rfl ?_
  refine Ext.step (State.resetNotice_ext ..) rfl ?_
  refine Ext.step (State.answer_ext ..) rfl ?_
  exact Ext.refl _ _
  refine foldl_all (P := fun x => Ext _ _ x) ?_ ?_
  refine Ext.step (State.resetNotice_ext ..) rfl ?_
  refine Ext.step (State.answer_ext ..) rfl ?_
  exact Ext.refl _ _
  intro _
  intro _
  intro _
  refine Ext.ite ?_ ?_
  refine Ext.step (State.requestReset_ext ..) rfl ?_
  with_reducible assumption
  with_reducible assumption

theorem State.clockLost_ext (a0 : State) :
    Ext [.power, .rst, .jrn, .regs, .snaps, .retained, .hlk, .kernels, .loads, .launches, .cores, .shoals, .gpr, .preds, .lflags, .sram, .sramUe, .mem, .queues, .act, .shl, .fab, .red, .scale, .ras, .free] a0 (@State.clockLost a0) := by
  unfold Sys2Proof.Machine.State.clockLost
  refine Ext.step (Ext.set_rst ..) rfl ?_
  refine Ext.step (State.dieClear_ext ..) rfl ?_
  exact Ext.refl _ _

theorem State.clockBack_ext (a0 : State) :
    Ext [.rst] a0 (@State.clockBack a0) := by
  unfold Sys2Proof.Machine.State.clockBack
  refine Ext.ite ?_ ?_
  refine Ext.step (State.coldAsserted_ext ..) rfl ?_
  exact Ext.refl _ _
  exact Ext.refl _ _

theorem execLogicPllLockReturn_ext (a0 : State) :
    HAll (fun x => Ext [.clock, .rst] a0 x) (@execLogicPllLockReturn a0) := by
  unfold Sys2Proof.Machine.execLogicPllLockReturn
  refine HAll.next ?_
  refine Ext.step (State.clockBack_ext ..) rfl ?_
  refine Ext.step (Ext.set_clock ..) rfl ?_
  exact Ext.refl _ _

theorem State.phyReset_ext (a0 : State) (a1 : Blk) (a2 : ℕ) :
    Ext [.rst, .regs, .snaps, .hlk, .launches, .cores, .shoals, .gpr, .preds, .lflags, .sram, .sramUe, .mem, .queues, .act, .shl, .fab, .red, .ras, .free] a0 (@State.phyReset a0 a1 a2) := by
  unfold Sys2Proof.Machine.State.phyReset
  refine Ext.step (State.blockRequest_ext ..) rfl ?_
  refine Ext.step (Ext.set_rst ..) rfl ?_
  exact Ext.refl _ _

theorem execDdrPhyPllLockLost_ext (a0 : State) :
    HAll (fun x => Ext [.clock, .rst, .regs, .snaps, .hlk, .launches, .cores, .shoals, .gpr, .preds, .lflags, .sram, .sramUe, .mem, .queues, .act, .shl, .fab, .red, .ras, .free] a0 x) (@execDdrPhyPllLockLost a0) := by
  unfold Sys2Proof.Machine.execDdrPhyPllLockLost
  refine HAll.next ?_
  refine Ext.ite ?_ ?_
  refine foldl_all (P := fun x => Ext _ _ x) ?_ ?_
  refine Ext.step (Ext.set_clock ..) rfl ?_
  exact Ext.refl _ _
  intro _
  intro _
  intro _
  refine Ext.step (State.phyReset_ext ..) rfl ?_
  with_reducible assumption
  exact Ext.refl _ _

theorem execLogicPllLockLost_ext (a0 : State) :
    HAll (fun x => Ext [.power, .clock, .rst, .jrn, .regs, .snaps, .retained, .hlk, .kernels, .loads, .launches, .cores, .shoals, .gpr, .preds, .lflags, .sram, .sramUe, .mem, .queues, .act, .shl, .fab, .red, .scale, .ras, .free] a0 x) (@execLogicPllLockLost a0) := by
  unfold Sys2Proof.Machine.execLogicPllLockLost
  refine HAll.next ?_
  refine Ext.ite ?_ ?_
  refine Ext.step (State.clockLost_ext ..) rfl ?_
  refine Ext.step (Ext.set_clock ..) rfl ?_
  exact Ext.refl _ _
  exact Ext.refl _ _

theorem State.nowReady_ext (a0 : State) (a1 : Blk) (a2 : ℕ) :
    Ext [.clock, .rst] a0 (@State.nowReady a0 a1 a2) := by
  unfold Sys2Proof.Machine.State.nowReady
  refine Ext.ite ?_ ?_
  refine Ext.step (Ext.set_clock ..) rfl ?_
  refine Ext.step (State.latchFault_ext ..) rfl ?_
  refine Ext.step (State.setReady_ext ..) rfl ?_
  exact Ext.refl _ _
  refine Ext.step (State.latchFault_ext ..) rfl ?_
  refine Ext.step (State.setReady_ext ..) rfl ?_
  exact Ext.refl _ _

theorem State.writeRstCtrl_ext (a0 : State) (a1 : Word) :
    Ext [.rst, .regs, .hlk] a0 (@State.writeRstCtrl a0 a1) := by
  unfold Sys2Proof.Machine.State.writeRstCtrl
  refine Ext.ite ?_ ?_
  refine Ext.step (State.raise_ext ..) rfl ?_
  exact Ext.refl _ _
  refine foldl_all (P := fun x => Ext _ _ x) ?_ ?_
  refine Ext.ite ?_ ?_
  refine Ext.step (State.requestReset_ext ..) rfl ?_
  refine Ext.ite ?_ ?_
  refine Ext.step (State.requestReset_ext ..) rfl ?_
  exact Ext.refl _ _
  exact Ext.refl _ _
  refine Ext.ite ?_ ?_
  refine Ext.step (State.requestReset_ext ..) rfl ?_
  exact Ext.refl _ _
  exact Ext.refl _ _
  intro _
  intro _
  intro _
  refine Ext.ite ?_ ?_
  refine Ext.step (State.requestReset_ext ..) rfl ?_
  with_reducible assumption
  with_reducible assumption

theorem rstWrite_ext (a0 : State) (a1 : Word) :
    Ext [.rst, .regs, .hlk] a0 (@rstWrite a0 a1) := by
  unfold Sys2Proof.Machine.rstWrite
  unfold Sys2Proof.Machine.State.pageWrite
  refine Ext.ite ?_ ?_
  exact Ext.refl _ _
  refine Ext.ite ?_ ?_
  refine Ext.step (State.refuse_ext ..) rfl ?_
  exact Ext.refl _ _
  refine Ext.step (State.writeRstCtrl_ext ..) rfl ?_
  exact Ext.refl _ _

theorem execRstCtrlBasin_ext (a0 : BitVec 16) (a1 : BitVec 4) (a2 : State) :
    HAll (fun x => Ext [.rst, .regs, .hlk] a2 x) (@execRstCtrlBasin a0 a1 a2) := by
  unfold Sys2Proof.Machine.execRstCtrlBasin
  refine HAll.next ?_
  refine Ext.step (rstWrite_ext ..) rfl ?_
  exact Ext.refl _ _

theorem State.postPass_ext (a0 : State) (a1 : ℕ) :
    Ext [.ras] a0 (@State.postPass a0 a1) := by
  unfold Sys2Proof.Machine.State.postPass
  refine Ext.ite ?_ ?_
  refine Ext.step (State.setPcore_ext ..) rfl ?_
  exact Ext.refl _ _
  exact Ext.refl _ _

theorem State.lateRecord_ext (a0 : State) (a1 : Blk) (a2 : ℕ) :
    Ext [.regs, .hlk, .ras, .free] a0 (@State.lateRecord a0 a1 a2) := by
  unfold Sys2Proof.Machine.State.lateRecord
  refine Ext.step (State.record_ext ..) rfl ?_
  refine Ext.step (Ext.set_free ..) rfl ?_
  exact Ext.refl _ _

theorem execColdResetRelease_ext (a0 : State) :
    HAll (fun x => Ext [.rst, .regs, .hlk] a0 x) (@execColdResetRelease a0) := by
  unfold Sys2Proof.Machine.execColdResetRelease
  refine HAll.next ?_
  (dsimp only; split)
  refine Ext.ite ?_ ?_
  refine Ext.ite ?_ ?_
  refine Ext.step (State.raise_ext ..) rfl ?_
  refine Ext.step (State.releaseReq_ext ..) rfl ?_
  exact Ext.refl _ _
  refine Ext.step (State.p_ext ..) rfl ?_
  refine Ext.step (State.releaseReq_ext ..) rfl ?_
  exact Ext.refl _ _
  exact Ext.refl _ _
  exact Ext.refl _ _

theorem State.postDone_ext (a0 : State) (a1 : ℕ) (a2 : List ℕ) :
    Ext [.rst, .regs, .hlk, .cores, .ras, .free] a0 (@State.postDone a0 a1 a2) := by
  unfold Sys2Proof.Machine.State.postDone
  refine Ext.ite ?_ ?_
  refine Ext.step (Ext.set_rst ..) rfl ?_
  refine foldl_all (P := fun x => Ext _ _ x) ?_ ?_
  refine Ext.step (State.bump_ext ..) rfl ?_
  refine Ext.step (State.bump_ext ..) rfl ?_
  refine foldl_all (P := fun x => Ext _ _ x) ?_ ?_
  refine foldl_all (P := fun x => Ext _ _ x) ?_ ?_
  exact Ext.refl _ _
  intro _
  intro _
  intro _
  refine Ext.step (State.postPass_ext ..) rfl ?_
  with_reducible assumption
  intro _
  intro _
  intro _
  refine Ext.step (State.retireMark_ext ..) rfl ?_
  with_reducible assumption
  intro _
  intro _
  intro _
  refine Ext.step (State.record_ext ..) rfl ?_
  refine Ext.step (State.raise_ext ..) rfl ?_
  with_reducible assumption
  refine Ext.step (State.rebuildBasin_ext ..) rfl ?_
  refine Ext.step (Ext.set_rst ..) rfl ?_
  refine foldl_all (P := fun x => Ext _ _ x) ?_ ?_
  refine Ext.step (State.bump_ext ..) rfl ?_
  refine Ext.step (State.bump_ext ..) rfl ?_
  refine foldl_all (P := fun x => Ext _ _ x) ?_ ?_
  refine foldl_all (P := fun x => Ext _ _ x) ?_ ?_
  exact Ext.refl _ _
  intro _
  intro _
  intro _
  refine Ext.step (State.postPass_ext ..) rfl ?_
  with_reducible assumption
  intro _
  intro _
  intro _
  refine Ext.step (State.retireMark_ext ..) rfl ?_
  with_reducible assumption
  intro _
  intro _
  intro _
  refine Ext.step (State.record_ext ..) rfl ?_
  refine Ext.step (State.raise_ext ..) rfl ?_
  with_reducible assumption

theorem execPowerOnCoreTestDone_ext (a0 : ℕ) (a1 : List ℕ) (a2 : State) :
    HAll (fun x => Ext [.rst, .regs, .hlk, .cores, .ras, .free] a2 x) (@execPowerOnCoreTestDone a0 a1 a2) := by
  unfold Sys2Proof.Machine.execPowerOnCoreTestDone
  refine HAll.next ?_
  refine Ext.ite ?_ ?_
  refine Ext.step (State.postDone_ext ..) rfl ?_
  exact Ext.refl _ _
  exact Ext.refl _ _

theorem execRstCtrlWarm_ext (a0 : BitVec 16) (a1 : State) :
    HAll (fun x => Ext [.rst, .regs, .hlk] a1 x) (@execRstCtrlWarm a0 a1) := by
  unfold Sys2Proof.Machine.execRstCtrlWarm
  refine HAll.next ?_
  refine Ext.step (rstWrite_ext ..) rfl ?_
  exact Ext.refl _ _

theorem execReadyLate_ext (a0 : Blk) (a1 : ℕ) (a2 : State) :
    HAll (fun x => Ext [.rst, .regs, .hlk, .ras, .free] a2 x) (@execReadyLate a0 a1 a2) := by
  unfold Sys2Proof.Machine.execReadyLate
  refine HAll.next ?_
  refine Ext.ite ?_ ?_
  refine Ext.ite ?_ ?_
  refine Ext.step (State.lateRecord_ext ..) rfl ?_
  refine Ext.step (State.raise_ext ..) rfl ?_
  exact Ext.refl _ _
  refine Ext.step (State.latchFault_ext ..) rfl ?_
  refine Ext.step (State.lateRecord_ext ..) rfl ?_
  refine Ext.step (State.raise_ext ..) rfl ?_
  exact Ext.refl _ _
  exact Ext.refl _ _

theorem execRootRefStop_ext (a0 : State) :
    HAll (fun x => Ext [.power, .clock, .rst, .jrn, .regs, .snaps, .retained, .hlk, .kernels, .loads, .launches, .cores, .shoals, .gpr, .preds, .lflags, .sram, .sramUe, .mem, .queues, .act, .shl, .fab, .red, .scale, .ras, .free] a0 x) (@execRootRefStop a0) := by
  unfold Sys2Proof.Machine.execRootRefStop
  refine HAll.next ?_
  refine Ext.ite ?_ ?_
  refine Ext.ite ?_ ?_
  refine Ext.step (State.clockLost_ext ..) rfl ?_
  refine Ext.step (Ext.set_clock ..) rfl ?_
  exact Ext.refl _ _
  refine Ext.step (Ext.set_clock ..) rfl ?_
  exact Ext.refl _ _
  exact Ext.refl _ _

theorem execColdResetAssert_ext (a0 : State) :
    HAll (fun x => Ext [.power, .rst, .jrn, .regs, .snaps, .retained, .hlk, .kernels, .loads, .launches, .cores, .shoals, .gpr, .preds, .lflags, .sram, .sramUe, .mem, .queues, .act, .shl, .fab, .red, .scale, .ras, .free] a0 x) (@execColdResetAssert a0) := by
  unfold Sys2Proof.Machine.execColdResetAssert
  refine HAll.next ?_
  split
  refine Ext.ite ?_ ?_
  exact Ext.refl _ _
  refine Ext.step (State.assertReq_ext ..) rfl ?_
  refine Ext.step (State.dieClear_ext ..) rfl ?_
  exact Ext.refl _ _
  exact Ext.refl _ _

theorem execReset_ext (a0 : ℕ) (a1 : Pkt) (a2 : State) :
    HAll (fun x => Ext [.rst, .regs, .hlk, .mem, .fab] a2 x) (@execReset a0 a1 a2) := by
  unfold Sys2Proof.Machine.execReset
  refine HAll.next ?_
  unfold Sys2Proof.Machine.State.mgmtArrive
  refine Ext.ite ?_ ?_
  unfold Sys2Proof.Machine.State.arrive
  refine Ext.ite ?_ ?_
  exact Ext.refl _ _
  refine Ext.ite ?_ ?_
  refine Ext.ite ?_ ?_
  refine Ext.step (State.answer_ext ..) rfl ?_
  refine Ext.step (State.bump_ext ..) rfl ?_
  exact Ext.refl _ _
  split
  refine Ext.step (State.emit_ext ..) rfl ?_
  refine Ext.step (State.bump_ext ..) rfl ?_
  refine Ext.ofPair ?_ ‹_›
  refine Ext.step (State.route_ext ..) rfl ?_
  refine Ext.step (State.bump_ext ..) rfl ?_
  exact Ext.refl _ _
  refine Ext.step (State.answer_ext ..) rfl ?_
  refine Ext.ofPair ?_ ‹_›
  refine Ext.step (State.route_ext ..) rfl ?_
  refine Ext.step (State.bump_ext ..) rfl ?_
  exact Ext.refl _ _
  refine Ext.ite ?_ ?_
  refine Ext.ite ?_ ?_
  unfold id
  refine Ext.step (State.bump_ext ..) rfl ?_
  refine Ext.step (State.bump_ext ..) rfl ?_
  exact Ext.refl _ _
  refine Ext.ite ?_ ?_
  refine Ext.step (State.answer_ext ..) rfl ?_
  refine Ext.step (State.bump_ext ..) rfl ?_
  exact Ext.refl _ _
  refine Ext.step (State.remoteReset_ext ..) rfl ?_
  refine Ext.step (State.dupAdd_ext ..) rfl ?_
  refine Ext.step (State.bump_ext ..) rfl ?_
  exact Ext.refl _ _
  refine Ext.step (State.remoteReset_ext ..) rfl ?_
  refine Ext.step (State.dupAdd_ext ..) rfl ?_
  refine Ext.step (State.bump_ext ..) rfl ?_
  exact Ext.refl _ _
  exact Ext.refl _ _

theorem execDeferredResetStart_ext (a0 : Blk) (a1 : ℕ) (a2 : State) :
    HAll (fun x => Ext [.rst, .regs, .snaps, .hlk, .launches, .cores, .shoals, .gpr, .preds, .lflags, .sram, .sramUe, .mem, .queues, .act, .shl, .fab, .red, .ras, .free] a2 x) (@execDeferredResetStart a0 a1 a2) := by
  unfold Sys2Proof.Machine.execDeferredResetStart
  refine HAll.next ?_
  refine Ext.ite ?_ ?_
  refine Ext.step (State.blockStart_ext ..) rfl ?_
  exact Ext.refl _ _
  exact Ext.refl _ _

theorem execPhyPllLockLost_ext (a0 : Bool) (a1 : State) :
    HAll (fun x => Ext [.clock, .rst, .regs, .snaps, .hlk, .launches, .cores, .shoals, .gpr, .preds, .lflags, .sram, .sramUe, .mem, .queues, .act, .shl, .fab, .red, .ras, .free] a1 x) (@execPhyPllLockLost a0 a1) := by
  unfold Sys2Proof.Machine.execPhyPllLockLost
  refine HAll.next ?_
  refine Ext.ite ?_ ?_
  exact Ext.refl _ _
  refine Ext.ite ?_ ?_
  refine Ext.ite ?_ ?_
  refine Ext.step (State.phyReset_ext ..) rfl ?_
  refine Ext.step (Ext.set_clock ..) rfl ?_
  exact Ext.refl _ _
  exact Ext.refl _ _
  refine Ext.ite ?_ ?_
  refine foldl_all (P := fun x => Ext _ _ x) ?_ ?_
  refine Ext.step (Ext.set_clock ..) rfl ?_
  exact Ext.refl _ _
  intro _
  intro _
  intro _
  refine Ext.step (State.phyReset_ext ..) rfl ?_
  with_reducible assumption
  exact Ext.refl _ _

theorem execBasinResetAssert_ext (a0 : ℕ) (a1 : State) :
    HAll (fun x => Ext [.rst, .regs, .snaps, .hlk, .launches, .cores, .shoals, .gpr, .preds, .lflags, .sram, .sramUe, .mem, .queues, .act, .shl, .fab, .red, .ras, .free] a1 x) (@execBasinResetAssert a0 a1) := by
  unfold Sys2Proof.Machine.execBasinResetAssert
  refine HAll.next ?_
  split
  refine Ext.ite ?_ ?_
  refine Ext.step (State.assertReq_ext ..) rfl ?_
  refine Ext.step (State.basinClear_ext ..) rfl ?_
  exact Ext.refl _ _
  exact Ext.refl _ _
  exact Ext.refl _ _

theorem execBlockReady_ext (a0 : Blk) (a1 : ℕ) (a2 : State) :
    HAll (fun x => Ext [.clock, .rst] a2 x) (@execBlockReady a0 a1 a2) := by
  unfold Sys2Proof.Machine.execBlockReady
  refine HAll.next ?_
  refine Ext.ite ?_ ?_
  refine Ext.step (State.nowReady_ext ..) rfl ?_
  exact Ext.refl _ _
  exact Ext.refl _ _

theorem execRstCtrlCold_ext (a0 : BitVec 16) (a1 : State) :
    HAll (fun x => Ext [.rst, .regs, .hlk] a1 x) (@execRstCtrlCold a0 a1) := by
  unfold Sys2Proof.Machine.execRstCtrlCold
  refine HAll.next ?_
  refine Ext.step (rstWrite_ext ..) rfl ?_
  exact Ext.refl _ _

theorem execRootRefReturn_ext (a0 : State) :
    HAll (fun x => Ext [.clock, .rst] a0 x) (@execRootRefReturn a0) := by
  unfold Sys2Proof.Machine.execRootRefReturn
  refine HAll.next ?_
  refine Ext.step (State.clockBack_ext ..) rfl ?_
  refine Ext.step (Ext.set_clock ..) rfl ?_
  exact Ext.refl _ _

theorem execWarmResetRelease_ext (a0 : State) :
    HAll (fun x => Ext [.rst, .regs, .hlk] a0 x) (@execWarmResetRelease a0) := by
  unfold Sys2Proof.Machine.execWarmResetRelease
  refine HAll.next ?_
  split
  refine Ext.step (State.releaseReq_ext ..) rfl ?_
  refine Ext.step (State.warmCount_ext ..) rfl ?_
  exact Ext.refl _ _
  exact Ext.refl _ _

end Sys2Proof.Machine
end

