-- ==== Sys2Proof/Laws/FrameHostLink.lean ====
section
/-! SUPPORT. What each definition of Machine/HostLink.lean may change: every part that its lemma does not name stays, and memory keeps
its canonical form. -/

set_option maxRecDepth 4000

namespace Sys2Proof.Machine

theorem State.hostDark_ext (a0 : State) :
    Ext [.rst, .regs, .snaps, .hlk, .cores, .sram, .sramUe, .mem, .queues, .act, .ras, .free] a0 (@State.hostDark a0) := by
  unfold Sys2Proof.Machine.State.hostDark
  refine Ext.ite ?_ ?_
  refine Ext.step (State.raise_ext ..) rfl ?_
  refine Ext.step (State.hostBlock_ext ..) rfl ?_
  exact Ext.refl _ _
  refine Ext.step (State.hostBlock_ext ..) rfl ?_
  exact Ext.refl _ _

theorem State.hostLight_ext (a0 : State) (a1 : ℕ) :
    Ext [.rst, .regs, .snaps, .hlk, .cores, .sram, .sramUe, .mem, .queues, .act, .ras, .free] a0 (@State.hostLight a0 a1) := by
  unfold Sys2Proof.Machine.State.hostLight
  refine Ext.ite ?_ ?_
  refine Ext.step (State.p_ext ..) rfl ?_
  exact Ext.refl _ _
  refine Ext.ite ?_ ?_
  refine Ext.step (State.bump_ext ..) rfl ?_
  refine Ext.step (State.p_ext ..) rfl ?_
  refine Ext.step (State.p_ext ..) rfl ?_
  exact Ext.refl _ _
  refine Ext.step (State.hostDark_ext ..) rfl ?_
  refine Ext.step (State.p_ext ..) rfl ?_
  exact Ext.refl _ _

theorem execHostLightLoss_ext (a0 : BitVec 16) (a1 : State) :
    HAll (fun x => Ext [.rst, .regs, .snaps, .hlk, .cores, .sram, .sramUe, .mem, .queues, .act, .ras, .free] a1 x) (@execHostLightLoss a0 a1) := by
  unfold Sys2Proof.Machine.execHostLightLoss
  refine HAll.next ?_
  refine Ext.ite ?_ ?_
  refine Ext.step (State.hostLight_ext ..) rfl ?_
  exact Ext.refl _ _
  exact Ext.refl _ _

theorem State.hostTrained_ext (a0 : State) (a1 : ℕ) (a2 : ℕ) (a3 : ℕ) (a4 : ℕ) :
    Ext [.regs, .hlk] a0 (@State.hostTrained a0 a1 a2 a3 a4) := by
  unfold Sys2Proof.Machine.State.hostTrained
  refine Ext.ite ?_ ?_
  refine Ext.step (State.raise_ext ..) rfl ?_
  refine Ext.ite ?_ ?_
  refine Ext.step (State.wr_ext ..) rfl ?_
  exact Ext.refl _ _
  refine Ext.step (State.raise_ext ..) rfl ?_
  refine Ext.step (State.wr_ext ..) rfl ?_
  exact Ext.refl _ _
  refine Ext.ite ?_ ?_
  refine Ext.step (State.wr_ext ..) rfl ?_
  exact Ext.refl _ _
  refine Ext.step (State.raise_ext ..) rfl ?_
  refine Ext.step (State.wr_ext ..) rfl ?_
  exact Ext.refl _ _

theorem State.hostTrain_ext (a0 : State) (a1 : List (BitVec 8)) (a2 : ℕ) (a3 : ℕ) (a4 : ℕ) :
    Ext [.regs, .hlk] a0 (@State.hostTrain a0 a1 a2 a3 a4) := by
  unfold Sys2Proof.Machine.State.hostTrain
  refine Ext.ite ?_ ?_
  refine Ext.step (State.hostTrained_ext ..) rfl ?_
  exact Ext.refl _ _
  split
  refine Ext.step (State.hostTrained_ext ..) rfl ?_
  refine Ext.ofPair1 ?_ ‹_›
  refine Ext.step (State.negotiate_ext ..) rfl ?_
  exact Ext.refl _ _
  refine Ext.step (State.p_ext ..) rfl ?_
  refine Ext.ofPair1 ?_ ‹_›
  refine Ext.step (State.negotiate_ext ..) rfl ?_
  exact Ext.refl _ _

theorem execHostLinkTrained_ext (a0 : List (BitVec 8)) (a1 : BitVec 8) (a2 : BitVec 8) (a3 : BitVec 16) (a4 : State) :
    HAll (fun x => Ext [.regs, .hlk] a4 x) (@execHostLinkTrained a0 a1 a2 a3 a4) := by
  unfold Sys2Proof.Machine.execHostLinkTrained
  refine HAll.next ?_
  refine Ext.ite ?_ ?_
  refine Ext.step (State.hostTrain_ext ..) rfl ?_
  exact Ext.refl _ _
  exact Ext.refl _ _

theorem State.writeExpose_ext (a0 : State) (a1 : ℕ) :
    Ext [.regs, .hlk] a0 (@State.writeExpose a0 a1) := by
  unfold Sys2Proof.Machine.State.writeExpose
  refine Ext.ite ?_ ?_
  refine Ext.step (State.refuse_ext ..) rfl ?_
  exact Ext.refl _ _
  refine Ext.ite ?_ ?_
  refine Ext.step (State.raise_ext ..) rfl ?_
  exact Ext.refl _ _
  refine Ext.step (State.p_ext ..) rfl ?_
  exact Ext.refl _ _

theorem execHdmExposeWrite_ext (a0 : BitVec 11) (a1 : State) :
    HAll (fun x => Ext [.regs, .hlk] a1 x) (@execHdmExposeWrite a0 a1) := by
  unfold Sys2Proof.Machine.execHdmExposeWrite
  refine HAll.next ?_
  unfold Sys2Proof.Machine.State.pageWrite
  refine Ext.ite ?_ ?_
  exact Ext.refl _ _
  refine Ext.ite ?_ ?_
  refine Ext.step (State.refuse_ext ..) rfl ?_
  exact Ext.refl _ _
  refine Ext.step (State.writeExpose_ext ..) rfl ?_
  exact Ext.refl _ _

theorem State.hdmAccess_ext (a0 : State) (a1 : Bool) (a2 : ℕ) (a3 : ℕ) (a4 : Bytes) :
    Ext [.rst, .regs, .hlk, .cores, .mem, .ras, .free] a0 (@State.hdmAccess a0 a1 a2 a3 a4) := by
  unfold Sys2Proof.Machine.State.hdmAccess
  (dsimp only; split)
  exact Ext.refl _ _
  refine Ext.ite ?_ ?_
  exact Ext.refl _ _
  refine Ext.ite ?_ ?_
  refine Ext.step (State.storePhys_ext ..) rfl ?_
  refine Ext.ite ?_ ?_
  refine Ext.step (State.bump_ext ..) rfl ?_
  refine Ext.step (State.raise_ext ..) rfl ?_
  exact Ext.refl _ _
  exact Ext.refl _ _
  refine Ext.step (State.out_ext ..) rfl ?_
  refine Ext.step (State.countBytes_ext ..) rfl ?_
  refine Ext.ite ?_ ?_
  refine Ext.step (State.bump_ext ..) rfl ?_
  refine Ext.step (State.raise_ext ..) rfl ?_
  exact Ext.refl _ _
  exact Ext.refl _ _

theorem State.flr_ext (a0 : State) :
    Ext [.rst, .regs, .snaps, .hlk, .loads, .launches, .cores, .shoals, .sram, .sramUe, .mem, .queues, .act, .shl, .red, .ras, .free] a0 (@State.flr a0) := by
  unfold Sys2Proof.Machine.State.flr
  refine Ext.step (State.holdPage_ext ..) rfl ?_
  refine Ext.step (State.pageColumn_ext ..) rfl ?_
  refine Ext.step (State.dropMbx_ext ..) rfl ?_
  refine Ext.step (State.holdPage_ext ..) rfl ?_
  refine Ext.step (State.pageColumn_ext ..) rfl ?_
  refine Ext.step (Ext.set_hlk ..) rfl ?_
  refine Ext.step (State.closeRings_ext ..) rfl ?_
  refine Ext.step (State.abortRings_ext ..) rfl ?_
  exact Ext.refl _ _

theorem State.setHdm_ext (a0 : State) (a1 : ℕ) (a2 : Hdm) :
    Ext [.hlk] a0 (@State.setHdm a0 a1 a2) := by
  unfold Sys2Proof.Machine.State.setHdm
  refine Ext.step (Ext.set_hlk ..) rfl ?_
  exact Ext.refl _ _

theorem State.hdmCommit_ext (a0 : State) (a1 : ℕ) (a2 : ℕ) (a3 : ℕ) (a4 : ℕ) (a5 : ℕ) :
    Ext [.hlk] a0 (@State.hdmCommit a0 a1 a2 a3 a4 a5) := by
  unfold Sys2Proof.Machine.State.hdmCommit
  refine Ext.ite ?_ ?_
  exact Ext.refl _ _
  refine Ext.ite ?_ ?_
  exact Ext.refl _ _
  refine Ext.ite ?_ ?_
  refine Ext.step (State.setHdm_ext ..) rfl ?_
  exact Ext.refl _ _
  refine Ext.step (State.setHdm_ext ..) rfl ?_
  exact Ext.refl _ _

theorem execBiasSettled_ext (a0 : State) :
    HAll (fun x => Ext [.hlk] a0 x) (@execBiasSettled a0) := by
  unfold Sys2Proof.Machine.execBiasSettled
  refine HAll.next ?_
  refine Ext.step (Ext.set_hlk ..) rfl ?_
  exact Ext.refl _ _

theorem execHdmDecoderCommit_ext (a0 : ℕ) (a1 : ℕ) (a2 : ℕ) (a3 : ℕ) (a4 : ℕ) (a5 : State) :
    HAll (fun x => Ext [.hlk] a5 x) (@execHdmDecoderCommit a0 a1 a2 a3 a4 a5) := by
  unfold Sys2Proof.Machine.execHdmDecoderCommit
  refine HAll.next ?_
  refine Ext.step (State.hdmCommit_ext ..) rfl ?_
  exact Ext.refl _ _

theorem execCxlReset_ext (a0 : State) :
    HAll (fun x => Ext [.rst, .regs, .hlk] a0 x) (@execCxlReset a0) := by
  unfold Sys2Proof.Machine.execCxlReset
  refine HAll.next ?_
  refine Ext.ite ?_ ?_
  refine Ext.step (State.requestReset_ext ..) rfl ?_
  exact Ext.refl _ _
  exact Ext.refl _ _

theorem execHostHotReset_ext (a0 : State) :
    HAll (fun x => Ext [.rst, .regs, .snaps, .hlk, .cores, .sram, .sramUe, .mem, .queues, .act, .ras, .free] a0 x) (@execHostHotReset a0) := by
  unfold Sys2Proof.Machine.execHostHotReset
  refine HAll.next ?_
  refine Ext.ite ?_ ?_
  refine Ext.step (State.hostBlock_ext ..) rfl ?_
  exact Ext.refl _ _
  exact Ext.refl _ _

theorem execFunctionLevelReset_ext (a0 : State) :
    HAll (fun x => Ext [.rst, .regs, .snaps, .hlk, .loads, .launches, .cores, .shoals, .sram, .sramUe, .mem, .queues, .act, .shl, .red, .ras, .free] a0 x) (@execFunctionLevelReset a0) := by
  unfold Sys2Proof.Machine.execFunctionLevelReset
  refine HAll.next ?_
  refine Ext.ite ?_ ?_
  refine Ext.step (State.flr_ext ..) rfl ?_
  exact Ext.refl _ _
  exact Ext.refl _ _

theorem State.writeBias_ext (a0 : State) (a1 : ℕ) (a2 : Word) :
    Ext [.regs, .hlk] a0 (@State.writeBias a0 a1 a2) := by
  unfold Sys2Proof.Machine.State.writeBias
  refine Ext.ite ?_ ?_
  exact Ext.refl _ _
  refine Ext.step (Ext.set_hlk ..) rfl ?_
  refine Ext.step (State.wr_ext ..) rfl ?_
  exact Ext.refl _ _

theorem execHostHdmAccess_ext (a0 : Bool) (a1 : ℕ) (a2 : ℕ) (a3 : Bytes) (a4 : State) :
    HAll (fun x => Ext [.rst, .regs, .hlk, .cores, .mem, .ras, .free] a4 x) (@execHostHdmAccess a0 a1 a2 a3 a4) := by
  unfold Sys2Proof.Machine.execHostHdmAccess
  refine HAll.next ?_
  refine Ext.step (State.hdmAccess_ext ..) rfl ?_
  exact Ext.refl _ _

theorem execHlkBiasWrite_ext (a0 : ℕ) (a1 : Word) (a2 : State) :
    HAll (fun x => Ext [.regs, .hlk] a2 x) (@execHlkBiasWrite a0 a1 a2) := by
  unfold Sys2Proof.Machine.execHlkBiasWrite
  refine HAll.next ?_
  refine Ext.ite ?_ ?_
  unfold Sys2Proof.Machine.State.pageWrite
  refine Ext.ite ?_ ?_
  exact Ext.refl _ _
  refine Ext.ite ?_ ?_
  refine Ext.step (State.refuse_ext ..) rfl ?_
  exact Ext.refl _ _
  refine Ext.step (State.writeBias_ext ..) rfl ?_
  exact Ext.refl _ _
  exact Ext.refl _ _

end Sys2Proof.Machine
end

