-- ==== Sys2Proof/Laws/FrameRas.lean ====
section
/-! SUPPORT. What each definition of Machine/Ras.lean may change: every part that its lemma does not name stays, and memory keeps
its canonical form. -/

set_option maxRecDepth 4000

namespace Sys2Proof.Machine

theorem execTestDeferExpiry_ext (a0 : ℕ) (a1 : State) :
    HAll (fun x => Ext [.ras] a1 x) (@execTestDeferExpiry a0 a1) := by
  unfold Sys2Proof.Machine.execTestDeferExpiry
  refine HAll.next ?_
  refine Ext.ite ?_ ?_
  refine Ext.step (State.setPcore_ext ..) rfl ?_
  exact Ext.refl _ _
  exact Ext.refl _ _

theorem State.takeSnap_ext (a0 : State) (a1 : Blk) (a2 : ℕ) :
    Ext [.regs, .snaps] a0 (@State.takeSnap a0 a1 a2) := by
  unfold Sys2Proof.Machine.State.takeSnap
  refine Ext.ite ?_ ?_
  exact Ext.refl _ _
  refine Ext.step (State.p_ext ..) rfl ?_
  refine Ext.step (Ext.set_snaps ..) rfl ?_
  exact Ext.refl _ _

theorem State.persist_ext (a0 : State) (a1 : ℕ) (a2 : Bool) :
    Ext [.regs, .snaps, .hlk, .ras] a0 (@State.persist a0 a1 a2) := by
  unfold Sys2Proof.Machine.State.persist
  refine Ext.ite ?_ ?_
  refine Ext.step (State.raise_ext ..) rfl ?_
  refine Ext.step (State.p_ext ..) rfl ?_
  refine Ext.step (Ext.set_ras ..) rfl ?_
  refine Ext.step (State.takeSnap_ext ..) rfl ?_
  exact Ext.refl _ _
  refine Ext.step (State.raise_ext ..) rfl ?_
  refine Ext.step (Ext.set_ras ..) rfl ?_
  refine Ext.step (State.takeSnap_ext ..) rfl ?_
  exact Ext.refl _ _

theorem execTlmPersistPeriodic_ext (a0 : Bool) (a1 : State) :
    HAll (fun x => Ext [.regs, .snaps, .hlk, .ras] a1 x) (@execTlmPersistPeriodic a0 a1) := by
  unfold Sys2Proof.Machine.execTlmPersistPeriodic
  refine HAll.next ?_
  refine Ext.ite ?_ ?_
  refine Ext.step (State.persist_ext ..) rfl ?_
  exact Ext.refl _ _
  exact Ext.refl _ _

theorem State.testBegin_ext (a0 : State) (a1 : ℕ) :
    Ext [.regs, .hlk, .ras] a0 (@State.testBegin a0 a1) := by
  unfold Sys2Proof.Machine.State.testBegin
  refine Ext.step (State.spareLow_ext ..) rfl ?_
  refine Ext.step (State.setPcore_ext ..) rfl ?_
  exact Ext.refl _ _

theorem State.makeDue_ext (a0 : State) (a1 : ℕ) :
    Ext [.ras] a0 (@State.makeDue a0 a1) := by
  unfold Sys2Proof.Machine.State.makeDue
  refine Ext.ite ?_ ?_
  refine Ext.step (State.setPcore_ext ..) rfl ?_
  exact Ext.refl _ _
  exact Ext.refl _ _

theorem execRasTestreq_ext (a0 : BitVec 12) (a1 : State) :
    HAll (fun x => Ext [.regs, .hlk, .ras] a1 x) (@execRasTestreq a0 a1) := by
  unfold Sys2Proof.Machine.execRasTestreq
  refine HAll.next ?_
  unfold Sys2Proof.Machine.State.pageWrite
  refine Ext.ite ?_ ?_
  exact Ext.refl _ _
  refine Ext.ite ?_ ?_
  refine Ext.step (State.refuse_ext ..) rfl ?_
  exact Ext.refl _ _
  refine Ext.step (State.makeDue_ext ..) rfl ?_
  refine Ext.step (State.p_ext ..) rfl ?_
  exact Ext.refl _ _

theorem execRasReplayctlSet_ext (a0 : BitVec 48) (a1 : BitVec 4) (a2 : State) :
    HAll (fun x => Ext [.regs, .hlk] a2 x) (@execRasReplayctlSet a0 a1 a2) := by
  unfold Sys2Proof.Machine.execRasReplayctlSet
  refine HAll.next ?_
  unfold Sys2Proof.Machine.State.pageWrite
  refine Ext.ite ?_ ?_
  exact Ext.refl _ _
  refine Ext.ite ?_ ?_
  refine Ext.step (State.refuse_ext ..) rfl ?_
  exact Ext.refl _ _
  refine Ext.step (State.wr_ext ..) rfl ?_
  exact Ext.refl _ _

theorem execSuspicionExpiry_ext (a0 : ℕ) (a1 : State) :
    HAll (fun x => Ext [.ras] a1 x) (@execSuspicionExpiry a0 a1) := by
  unfold Sys2Proof.Machine.execSuspicionExpiry
  refine HAll.next ?_
  refine Ext.ite ?_ ?_
  refine Ext.step (State.setPcore_ext ..) rfl ?_
  exact Ext.refl _ _
  exact Ext.refl _ _

theorem State.vinject_ext (a0 : State) :
    Ext [.regs, .hlk, .mem, .red] a0 (@State.vinject a0) := by
  unfold Sys2Proof.Machine.State.vinject
  refine Ext.ite ?_ ?_
  refine Ext.step (State.raise_ext ..) rfl ?_
  exact Ext.refl _ _
  (dsimp only; split)
  refine Ext.ite ?_ ?_
  refine Ext.step (State.setRed_ext ..) rfl ?_
  refine Ext.ofO2 ?_ ‹_›
  refine OAll.step (State.vget_ext ..) rfl ?_
  exact Ext.refl _ _
  refine Ext.step (State.raise_ext ..) rfl ?_
  exact Ext.refl _ _
  refine Ext.step (State.raise_ext ..) rfl ?_
  exact Ext.refl _ _

theorem State.testStart_ext (a0 : State) (a1 : ℕ) :
    Ext [.regs, .hlk, .cores, .ras, .free] a0 (@State.testStart a0 a1) := by
  unfold Sys2Proof.Machine.State.testStart
  refine Ext.ite ?_ ?_
  exact Ext.refl _ _
  (dsimp only; split)
  refine Ext.ite ?_ ?_
  refine Ext.step (State.testBegin_ext ..) rfl ?_
  exact Ext.refl _ _
  exact Ext.refl _ _
  refine Ext.ite ?_ ?_
  exact Ext.refl _ _
  refine Ext.step (State.requestSwap_ext ..) rfl ?_
  refine Ext.step (State.setPcore_ext ..) rfl ?_
  exact Ext.refl _ _

theorem execInFieldTestStart_ext (a0 : ℕ) (a1 : State) :
    HAll (fun x => Ext [.regs, .hlk, .cores, .ras, .free] a1 x) (@execInFieldTestStart a0 a1) := by
  unfold Sys2Proof.Machine.execInFieldTestStart
  refine HAll.next ?_
  refine Ext.step (State.testStart_ext ..) rfl ?_
  exact Ext.refl _ _

theorem State.testFail_ext (a0 : State) (a1 : ℕ) :
    Ext [.rst, .regs, .hlk, .cores, .ras, .free] a0 (@State.testFail a0 a1) := by
  unfold Sys2Proof.Machine.State.testFail
  refine Ext.step (State.retire_ext ..) rfl ?_
  refine Ext.step (State.record_ext ..) rfl ?_
  refine Ext.step (State.raise_ext ..) rfl ?_
  refine Ext.step (State.bump_ext ..) rfl ?_
  refine Ext.step (State.bump_ext ..) rfl ?_
  refine Ext.step (State.bump_ext ..) rfl ?_
  refine Ext.step (State.setPcore_ext ..) rfl ?_
  exact Ext.refl _ _

theorem execInFieldTestTimeout_ext (a0 : ℕ) (a1 : State) :
    HAll (fun x => Ext [.rst, .regs, .hlk, .cores, .ras, .free] a1 x) (@execInFieldTestTimeout a0 a1) := by
  unfold Sys2Proof.Machine.execInFieldTestTimeout
  refine HAll.next ?_
  refine Ext.ite ?_ ?_
  refine Ext.step (State.testFail_ext ..) rfl ?_
  exact Ext.refl _ _
  exact Ext.refl _ _

theorem execTestDue_ext (a0 : ℕ) (a1 : State) :
    HAll (fun x => Ext [.ras] a1 x) (@execTestDue a0 a1) := by
  unfold Sys2Proof.Machine.execTestDue
  refine HAll.next ?_
  refine Ext.ite ?_ ?_
  refine Ext.step (State.makeDue_ext ..) rfl ?_
  exact Ext.refl _ _
  exact Ext.refl _ _

theorem State.histSample_ext (a0 : State) :
    Ext [.regs, .hlk] a0 (@State.histSample a0) := by
  unfold Sys2Proof.Machine.State.histSample
  refine Ext.step (State.bumpBin_ext ..) rfl ?_
  refine Ext.step (State.bumpBin_ext ..) rfl ?_
  refine Ext.step (State.bumpBin_ext ..) rfl ?_
  refine Ext.step (State.bumpBin_ext ..) rfl ?_
  exact Ext.refl _ _

theorem execTlmHistSample_ext (a0 : BitVec 16) (a1 : BitVec 16) (a2 : BitVec 16) (a3 : State) :
    HAll (fun x => Ext [.regs, .hlk] a3 x) (@execTlmHistSample a0 a1 a2 a3) := by
  unfold Sys2Proof.Machine.execTlmHistSample
  refine HAll.next ?_
  refine Ext.ite ?_ ?_
  refine Ext.step (State.histSample_ext ..) rfl ?_
  refine Ext.step (State.p_ext ..) rfl ?_
  refine Ext.step (State.p_ext ..) rfl ?_
  refine Ext.step (State.p_ext ..) rfl ?_
  exact Ext.refl _ _
  exact Ext.refl _ _

theorem State.testPass_ext (a0 : State) (a1 : ℕ) :
    Ext [.regs, .hlk, .ras] a0 (@State.testPass a0 a1) := by
  unfold Sys2Proof.Machine.State.testPass
  refine Ext.step (State.bump_ext ..) rfl ?_
  refine Ext.step (State.bump_ext ..) rfl ?_
  refine Ext.step (State.setPcore_ext ..) rfl ?_
  exact Ext.refl _ _

theorem execInFieldTestDone_ext (a0 : ℕ) (a1 : Bool) (a2 : State) :
    HAll (fun x => Ext [.rst, .regs, .hlk, .cores, .ras, .free] a2 x) (@execInFieldTestDone a0 a1 a2) := by
  unfold Sys2Proof.Machine.execInFieldTestDone
  refine HAll.next ?_
  refine Ext.ite ?_ ?_
  refine Ext.ite ?_ ?_
  refine Ext.step (State.testPass_ext ..) rfl ?_
  exact Ext.refl _ _
  refine Ext.step (State.testFail_ext ..) rfl ?_
  exact Ext.refl _ _
  exact Ext.refl _ _

theorem execRasVinject_ext (a0 : State) :
    HAll (fun x => Ext [.regs, .hlk, .mem, .red] a0 x) (@execRasVinject a0) := by
  unfold Sys2Proof.Machine.execRasVinject
  refine HAll.next ?_
  unfold Sys2Proof.Machine.State.pageWrite
  refine Ext.ite ?_ ?_
  exact Ext.refl _ _
  refine Ext.ite ?_ ?_
  refine Ext.step (State.refuse_ext ..) rfl ?_
  exact Ext.refl _ _
  refine Ext.step (State.vinject_ext ..) rfl ?_
  exact Ext.refl _ _

theorem execTlmPersistNow_ext (a0 : Bool) (a1 : State) :
    HAll (fun x => Ext [.regs, .snaps, .hlk, .ras] a1 x) (@execTlmPersistNow a0 a1) := by
  unfold Sys2Proof.Machine.execTlmPersistNow
  refine HAll.next ?_
  unfold Sys2Proof.Machine.State.pageWrite
  refine Ext.ite ?_ ?_
  exact Ext.refl _ _
  refine Ext.ite ?_ ?_
  refine Ext.step (State.refuse_ext ..) rfl ?_
  exact Ext.refl _ _
  refine Ext.step (State.persist_ext ..) rfl ?_
  exact Ext.refl _ _

theorem execTestOverdue_ext (a0 : ℕ) (a1 : State) :
    HAll (fun x => Ext [.regs, .hlk, .ras] a1 x) (@execTestOverdue a0 a1) := by
  unfold Sys2Proof.Machine.execTestOverdue
  refine HAll.next ?_
  refine Ext.ite ?_ ?_
  refine Ext.step (State.raise_ext ..) rfl ?_
  refine Ext.step (State.setPcore_ext ..) rfl ?_
  exact Ext.refl _ _
  exact Ext.refl _ _

theorem State.writeLoadgate_ext (a0 : State) (a1 : Bool) :
    Ext [.rst, .regs, .hlk, .cores, .mem, .red, .ras, .free] a0 (@State.writeLoadgate a0 a1) := by
  unfold Sys2Proof.Machine.State.writeLoadgate
  refine Ext.ite ?_ ?_
  refine Ext.step (State.p_ext ..) rfl ?_
  exact Ext.refl _ _
  refine Ext.step (State.redRelease_ext ..) rfl ?_
  refine Ext.step (State.p_ext ..) rfl ?_
  exact Ext.refl _ _

theorem execRasLoadgateWrite_ext (a0 : Bool) (a1 : State) :
    HAll (fun x => Ext [.rst, .regs, .hlk, .cores, .mem, .red, .ras, .free] a1 x) (@execRasLoadgateWrite a0 a1) := by
  unfold Sys2Proof.Machine.execRasLoadgateWrite
  refine HAll.next ?_
  unfold Sys2Proof.Machine.State.pageWrite
  refine Ext.ite ?_ ?_
  exact Ext.refl _ _
  refine Ext.ite ?_ ?_
  refine Ext.step (State.refuse_ext ..) rfl ?_
  exact Ext.refl _ _
  refine Ext.step (State.writeLoadgate_ext ..) rfl ?_
  exact Ext.refl _ _

end Sys2Proof.Machine
end

