-- ==== Sys2Proof/Laws/FrameSecurity.lean ====
section
/-! SUPPORT. What each definition of Machine/Security.lean may change: every part that its lemma does not name stays, and memory keeps
its canonical form. -/

set_option maxRecDepth 4000

namespace Sys2Proof.Machine

theorem State.setConn_ext (a0 : State) (a1 : Transport) (a2 : Spdm) :
    Ext [.sec] a0 (@State.setConn a0 a1 a2) := by
  unfold Sys2Proof.Machine.State.setConn
  refine Ext.step (Ext.set_sec ..) rfl ?_
  exact Ext.refl _ _

theorem State.spdmVersion_ext (a0 : State) (a1 : Transport) (a2 : Bytes) :
    Ext [.regs, .hlk, .sec] a0 (@State.spdmVersion a0 a1 a2).2 := by
  unfold Sys2Proof.Machine.State.spdmVersion
  (dsimp only; split)
  refine Ext.at2 ?_
  refine Ext.ofPair1 ?_ ‹_›
  refine Ext.step (State.negotiate_ext ..) rfl ?_
  exact Ext.refl _ _
  refine Ext.at2 ?_
  refine Ext.step (State.setConn_ext ..) rfl ?_
  refine Ext.ofPair1 ?_ ‹_›
  refine Ext.step (State.negotiate_ext ..) rfl ?_
  exact Ext.refl _ _

theorem State.spdmCaps_ext (a0 : State) (a1 : Transport) (a2 : Bytes) :
    Ext [.sec] a0 (@State.spdmCaps a0 a1 a2).2 := by
  unfold Sys2Proof.Machine.State.spdmCaps
  refine Ext.at2 ?_
  refine Ext.step (State.setConn_ext ..) rfl ?_
  exact Ext.refl _ _

theorem State.spdmAlgs_ext (a0 : State) (a1 : Transport) (a2 : Bytes) :
    Ext [.sec] a0 (@State.spdmAlgs a0 a1 a2).2 := by
  unfold Sys2Proof.Machine.State.spdmAlgs
  (dsimp only; split)
  refine Ext.at2 ?_
  exact Ext.refl _ _
  refine Ext.at2 ?_
  refine Ext.step (State.setConn_ext ..) rfl ?_
  exact Ext.refl _ _

theorem State.spdmDigests_ext (a0 : State) (a1 : Transport) (a2 : Bytes) :
    Ext [.sec] a0 (@State.spdmDigests a0 a1 a2).2 := by
  unfold Sys2Proof.Machine.State.spdmDigests
  refine Ext.at2 ?_
  refine Ext.step (State.setConn_ext ..) rfl ?_
  exact Ext.refl _ _

theorem State.spdmCert_ext (a0 : State) (a1 : Transport) (a2 : Bytes) :
    Ext [.sec] a0 (@State.spdmCert a0 a1 a2).2 := by
  unfold Sys2Proof.Machine.State.spdmCert
  (dsimp only; split)
  refine Ext.at2 ?_
  exact Ext.refl _ _
  refine Ext.at2 ?_
  refine Ext.step (State.setConn_ext ..) rfl ?_
  exact Ext.refl _ _

theorem State.drawNonce_ext (a0 : State) :
    Ext [.free] a0 (@State.drawNonce a0).2 := by
  unfold Sys2Proof.Machine.State.drawNonce
  refine Ext.at2 ?_
  refine Ext.step (Ext.set_free ..) rfl ?_
  exact Ext.refl _ _

theorem State.sign_ext (a0 : State) (a1 : Bytes) :
    Ext [.free] a0 (@State.sign a0 a1).2 := by
  unfold Sys2Proof.Machine.State.sign
  refine Ext.at2 ?_
  refine Ext.step (Ext.set_free ..) rfl ?_
  exact Ext.refl _ _

theorem State.spdmChallenge_ext (a0 : State) (a1 : Transport) (a2 : Bytes) :
    Ext [.sec, .free] a0 (@State.spdmChallenge a0 a1 a2).2 := by
  unfold Sys2Proof.Machine.State.spdmChallenge
  (dsimp only; split)
  refine Ext.at2 ?_
  exact Ext.refl _ _
  refine Ext.at2 ?_
  refine Ext.step (State.setConn_ext ..) rfl ?_
  refine Ext.step (State.sign_ext ..) rfl ?_
  refine Ext.step (State.drawNonce_ext ..) rfl ?_
  exact Ext.refl _ _

theorem State.spdmMeas_ext (a0 : State) (a1 : Transport) (a2 : Bytes) :
    Ext [.sec, .free] a0 (@State.spdmMeas a0 a1 a2).2 := by
  unfold Sys2Proof.Machine.State.spdmMeas
  (dsimp only; split)
  refine Ext.at2 ?_
  exact Ext.refl _ _
  split
  refine Ext.at2 ?_
  refine Ext.step (State.setConn_ext ..) rfl ?_
  refine Ext.step (State.sign_ext ..) rfl ?_
  refine Ext.step (State.drawNonce_ext ..) rfl ?_
  exact Ext.refl _ _
  refine Ext.at2 ?_
  refine Ext.step (State.setConn_ext ..) rfl ?_
  refine Ext.step (State.drawNonce_ext ..) rfl ?_
  exact Ext.refl _ _

theorem State.spdmRun_ext (a0 : State) (a1 : Transport) (a2 : Bytes) :
    Ext [.regs, .hlk, .sec, .free] a0 (@State.spdmRun a0 a1 a2).2 := by
  unfold Sys2Proof.Machine.State.spdmRun
  (dsimp only; split)
  refine Ext.step (State.spdmVersion_ext ..) rfl ?_
  exact Ext.refl _ _
  split
  refine Ext.at2 ?_
  exact Ext.refl _ _
  split
  refine Ext.at2 ?_
  exact Ext.refl _ _
  split
  refine Ext.at2 ?_
  exact Ext.refl _ _
  split
  refine Ext.step (State.spdmCaps_ext ..) rfl ?_
  exact Ext.refl _ _
  split
  refine Ext.at2 ?_
  exact Ext.refl _ _
  split
  refine Ext.step (State.spdmAlgs_ext ..) rfl ?_
  exact Ext.refl _ _
  split
  refine Ext.at2 ?_
  exact Ext.refl _ _
  split
  refine Ext.step (State.spdmDigests_ext ..) rfl ?_
  exact Ext.refl _ _
  split
  refine Ext.step (State.spdmCert_ext ..) rfl ?_
  exact Ext.refl _ _
  split
  refine Ext.step (State.spdmChallenge_ext ..) rfl ?_
  exact Ext.refl _ _
  refine Ext.step (State.spdmMeas_ext ..) rfl ?_
  exact Ext.refl _ _

theorem State.spdmAnswer_ext (a0 : State) (a1 : Transport) (a2 : Bytes) :
    Ext [.regs, .hlk, .sec, .free] a0 (@State.spdmAnswer a0 a1 a2).2 := by
  unfold Sys2Proof.Machine.State.spdmAnswer
  refine Ext.at2 ?_
  refine Ext.ite ?_ ?_
  refine Ext.step (State.bump_ext ..) rfl ?_
  refine Ext.step (State.bump_ext ..) rfl ?_
  refine Ext.decRec2 ?_ ?_
  intro _
  split
  refine Ext.at2 ?_
  exact Ext.refl _ _
  split
  refine Ext.at2 ?_
  exact Ext.refl _ _
  split
  refine Ext.at2 ?_
  exact Ext.refl _ _
  split
  refine Ext.step (State.spdmCaps_ext ..) rfl ?_
  exact Ext.refl _ _
  split
  refine Ext.at2 ?_
  exact Ext.refl _ _
  split
  refine Ext.step (State.spdmAlgs_ext ..) rfl ?_
  exact Ext.refl _ _
  split
  refine Ext.at2 ?_
  exact Ext.refl _ _
  split
  refine Ext.step (State.spdmDigests_ext ..) rfl ?_
  exact Ext.refl _ _
  split
  refine Ext.step (State.spdmCert_ext ..) rfl ?_
  exact Ext.refl _ _
  split
  refine Ext.step (State.spdmChallenge_ext ..) rfl ?_
  exact Ext.refl _ _
  refine Ext.step (State.spdmMeas_ext ..) rfl ?_
  exact Ext.refl _ _
  intro _
  refine Ext.step (State.spdmVersion_ext ..) rfl ?_
  exact Ext.refl _ _
  refine Ext.step (State.bump_ext ..) rfl ?_
  refine Ext.decRec2 ?_ ?_
  intro _
  split
  refine Ext.at2 ?_
  exact Ext.refl _ _
  split
  refine Ext.at2 ?_
  exact Ext.refl _ _
  split
  refine Ext.at2 ?_
  exact Ext.refl _ _
  split
  refine Ext.step (State.spdmCaps_ext ..) rfl ?_
  exact Ext.refl _ _
  split
  refine Ext.at2 ?_
  exact Ext.refl _ _
  split
  refine Ext.step (State.spdmAlgs_ext ..) rfl ?_
  exact Ext.refl _ _
  split
  refine Ext.at2 ?_
  exact Ext.refl _ _
  split
  refine Ext.step (State.spdmDigests_ext ..) rfl ?_
  exact Ext.refl _ _
  split
  refine Ext.step (State.spdmCert_ext ..) rfl ?_
  exact Ext.refl _ _
  split
  refine Ext.step (State.spdmChallenge_ext ..) rfl ?_
  exact Ext.refl _ _
  refine Ext.step (State.spdmMeas_ext ..) rfl ?_
  exact Ext.refl _ _
  intro _
  refine Ext.step (State.spdmVersion_ext ..) rfl ?_
  exact Ext.refl _ _

theorem State.spdmRequest_ext (a0 : State) (a1 : Transport) (a2 : ℕ) (a3 : Bytes) :
    Ext [.regs, .hlk, .sec, .free] a0 (@State.spdmRequest a0 a1 a2 a3) := by
  unfold Sys2Proof.Machine.State.spdmRequest
  (dsimp only; split)
  refine Ext.ite ?_ ?_
  exact Ext.refl _ _
  refine Ext.ite ?_ ?_
  refine Ext.step (Ext.set_sec ..) rfl ?_
  exact Ext.refl _ _
  refine Ext.step (State.out_ext ..) rfl ?_
  refine Ext.step (State.spdmAnswer_ext ..) rfl ?_
  exact Ext.refl _ _
  refine Ext.ite ?_ ?_
  exact Ext.refl _ _
  refine Ext.step (State.mgmt_ext ..) rfl ?_
  refine Ext.step (State.spdmAnswer_ext ..) rfl ?_
  exact Ext.refl _ _

theorem State.spdmNamed_ext (a0 : State) (a1 : Transport) (a2 : Bytes) (a3 : ℕ) :
    Ext [.regs, .hlk, .sec, .free] a0 (@State.spdmNamed a0 a1 a2 a3) := by
  unfold Sys2Proof.Machine.State.spdmNamed
  refine Ext.ite ?_ ?_
  split
  refine Ext.step (State.spdmRequest_ext ..) rfl ?_
  exact Ext.refl _ _
  refine Ext.step (State.spdmRequest_ext ..) rfl ?_
  exact Ext.refl _ _
  exact Ext.refl _ _

theorem execSpdmUnsupportedRequest_ext (a0 : Transport) (a1 : Bytes) (a2 : State) :
    HAll (fun x => Ext [.regs, .hlk, .sec, .free] a2 x) (@execSpdmUnsupportedRequest a0 a1 a2) := by
  unfold Sys2Proof.Machine.execSpdmUnsupportedRequest
  refine HAll.next ?_
  refine Ext.ite ?_ ?_
  exact Ext.refl _ _
  refine Ext.step (State.spdmNamed_ext ..) rfl ?_
  exact Ext.refl _ _

theorem execGetVersion_ext (a0 : Transport) (a1 : Bytes) (a2 : State) :
    HAll (fun x => Ext [.regs, .hlk, .sec, .free] a2 x) (@execGetVersion a0 a1 a2) := by
  unfold Sys2Proof.Machine.execGetVersion
  refine HAll.next ?_
  refine Ext.step (State.spdmNamed_ext ..) rfl ?_
  exact Ext.refl _ _

theorem State.confirm_ext (a0 : State) :
    Ext [.regs, .hlk, .sec] a0 (@State.confirm a0) := by
  unfold Sys2Proof.Machine.State.confirm
  refine Ext.ite ?_ ?_
  refine Ext.step (State.raise_ext ..) rfl ?_
  refine Ext.step (State.p_ext ..) rfl ?_
  refine Ext.step (Ext.set_sec ..) rfl ?_
  exact Ext.refl _ _
  refine Ext.step (State.p_ext ..) rfl ?_
  refine Ext.step (Ext.set_sec ..) rfl ?_
  exact Ext.refl _ _

theorem execGetDigests_ext (a0 : Transport) (a1 : Bytes) (a2 : State) :
    HAll (fun x => Ext [.regs, .hlk, .sec, .free] a2 x) (@execGetDigests a0 a1 a2) := by
  unfold Sys2Proof.Machine.execGetDigests
  refine HAll.next ?_
  refine Ext.step (State.spdmNamed_ext ..) rfl ?_
  exact Ext.refl _ _

theorem State.fwActivate_ext (a0 : State) (a1 : ℕ) :
    Ext [.regs, .hlk, .sec] a0 (@State.fwActivate a0 a1).2 := by
  unfold Sys2Proof.Machine.State.fwActivate
  (dsimp only; split)
  refine Ext.at2 ?_
  refine Ext.step (Ext.set_sec ..) rfl ?_
  exact Ext.refl _ _
  split
  refine Ext.at2 ?_
  exact Ext.refl _ _
  split
  refine Ext.at2 ?_
  exact Ext.refl _ _
  refine Ext.at2 ?_
  refine Ext.step (State.bump_ext ..) rfl ?_
  refine Ext.step (Ext.set_sec ..) rfl ?_
  exact Ext.refl _ _

theorem State.doe_ext (a0 : State) (a1 : DoeReq) :
    Ext [.regs, .hlk, .sec, .free] a0 (@State.doe a0 a1) := by
  unfold Sys2Proof.Machine.State.doe
  refine Ext.ite ?_ ?_
  exact Ext.refl _ _
  split
  refine Ext.step (State.out_ext ..) rfl ?_
  exact Ext.refl _ _
  refine Ext.step (State.out_ext ..) rfl ?_
  exact Ext.refl _ _
  refine Ext.step (State.spdmRequest_ext ..) rfl ?_
  exact Ext.refl _ _

theorem State.setSlot_ext (a0 : State) (a1 : Bool) (a2 : Bytes) :
    Ext [.sec] a0 (@State.setSlot a0 a1 a2) := by
  unfold Sys2Proof.Machine.State.setSlot
  refine Ext.step (Ext.set_sec ..) rfl ?_
  exact Ext.refl _ _

theorem State.fwStage_ext (a0 : State) (a1 : Bytes) :
    Ext [.regs, .hlk, .sec] a0 (@State.fwStage a0 a1).2 := by
  unfold Sys2Proof.Machine.State.fwStage
  (dsimp only; split)
  refine Ext.at2 ?_
  exact Ext.refl _ _
  split
  split
  refine Ext.at2 ?_
  refine Ext.step (Ext.set_sec ..) rfl ?_
  exact Ext.refl _ _
  split
  refine Ext.at2 ?_
  refine Ext.step (Ext.set_sec ..) rfl ?_
  refine Ext.step (State.setSlot_ext ..) rfl ?_
  refine Ext.step (Ext.set_sec ..) rfl ?_
  exact Ext.refl _ _
  split
  refine Ext.at2 ?_
  refine Ext.step (State.raise_ext ..) rfl ?_
  refine Ext.step (Ext.set_sec ..) rfl ?_
  refine Ext.step (State.setSlot_ext ..) rfl ?_
  refine Ext.step (Ext.set_sec ..) rfl ?_
  exact Ext.refl _ _
  refine Ext.at2 ?_
  refine Ext.step (Ext.set_sec ..) rfl ?_
  refine Ext.step (State.setSlot_ext ..) rfl ?_
  refine Ext.step (Ext.set_sec ..) rfl ?_
  exact Ext.refl _ _
  refine Ext.at2 ?_
  refine Ext.step (Ext.set_sec ..) rfl ?_
  refine Ext.step (State.setSlot_ext ..) rfl ?_
  refine Ext.step (Ext.set_sec ..) rfl ?_
  exact Ext.refl _ _
  refine Ext.at2 ?_
  refine Ext.step (Ext.set_sec ..) rfl ?_
  refine Ext.step (State.setSlot_ext ..) rfl ?_
  refine Ext.step (Ext.set_sec ..) rfl ?_
  exact Ext.refl _ _
  split
  refine Ext.at2 ?_
  exact Ext.refl _ _
  split
  refine Ext.at2 ?_
  refine Ext.step (Ext.set_sec ..) rfl ?_
  refine Ext.step (State.setSlot_ext ..) rfl ?_
  exact Ext.refl _ _
  split
  refine Ext.at2 ?_
  refine Ext.step (State.raise_ext ..) rfl ?_
  refine Ext.step (Ext.set_sec ..) rfl ?_
  refine Ext.step (State.setSlot_ext ..) rfl ?_
  exact Ext.refl _ _
  refine Ext.at2 ?_
  refine Ext.step (Ext.set_sec ..) rfl ?_
  refine Ext.step (State.setSlot_ext ..) rfl ?_
  exact Ext.refl _ _
  refine Ext.at2 ?_
  refine Ext.step (Ext.set_sec ..) rfl ?_
  refine Ext.step (State.setSlot_ext ..) rfl ?_
  exact Ext.refl _ _
  refine Ext.at2 ?_
  refine Ext.step (Ext.set_sec ..) rfl ?_
  refine Ext.step (State.setSlot_ext ..) rfl ?_
  exact Ext.refl _ _

theorem execGetCertificate_ext (a0 : Transport) (a1 : Bytes) (a2 : State) :
    HAll (fun x => Ext [.regs, .hlk, .sec, .free] a2 x) (@execGetCertificate a0 a1 a2) := by
  unfold Sys2Proof.Machine.execGetCertificate
  refine HAll.next ?_
  refine Ext.step (State.spdmNamed_ext ..) rfl ?_
  exact Ext.refl _ _

theorem State.spdmRx_ext (a0 : State) (a1 : Pkt) :
    Ext [.regs, .hlk] a0 (@State.spdmRx a0 a1) := by
  unfold Sys2Proof.Machine.State.spdmRx
  refine Ext.step (State.raise_ext ..) rfl ?_
  refine Ext.step (State.wr_ext ..) rfl ?_
  refine foldl_all (P := fun x => Ext _ _ x) ?_ ?_
  split
  refine Ext.step (State.mrespDone_ext ..) rfl ?_
  exact Ext.refl _ _
  exact Ext.refl _ _
  intro _
  intro _
  intro _
  refine Ext.step (State.wr_ext ..) rfl ?_
  with_reducible assumption

theorem State.spdmArrive_ext (a0 : State) (a1 : ℕ) (a2 : Pkt) :
    Ext [.regs, .hlk, .sec, .free] a0 (@State.spdmArrive a0 a1 a2) := by
  unfold Sys2Proof.Machine.State.spdmArrive
  refine Ext.ite ?_ ?_
  exact Ext.refl _ _
  refine Ext.ite ?_ ?_
  refine Ext.step (State.spdmRequest_ext ..) rfl ?_
  exact Ext.refl _ _
  refine Ext.step (State.spdmRx_ext ..) rfl ?_
  exact Ext.refl _ _

theorem execSpdmMessage_ext (a0 : ℕ) (a1 : Pkt) (a2 : State) :
    HAll (fun x => Ext [.regs, .hlk, .mem, .fab, .sec, .free] a2 x) (@execSpdmMessage a0 a1 a2) := by
  unfold Sys2Proof.Machine.execSpdmMessage
  refine HAll.next ?_
  unfold Sys2Proof.Machine.State.mgmtArrive
  refine Ext.ite ?_ ?_
  unfold Sys2Proof.Machine.State.arrive
  refine Ext.ite ?_ ?_
  exact Ext.refl _ _
  refine Ext.ite ?_ ?_
  refine Ext.ite ?_ ?_
  refine Ext.step (State.answer_ext ..) rfl ?_
  refine Ext.step (State.bump_ext ..) rfl ?_
  exact Ext.refl _ _
  split
  refine Ext.step (State.emit_ext ..) rfl ?_
  refine Ext.step (State.bump_ext ..) rfl ?_
  refine Ext.ofPair ?_ ‹_›
  refine Ext.step (State.route_ext ..) rfl ?_
  refine Ext.step (State.bump_ext ..) rfl ?_
  exact Ext.refl _ _
  refine Ext.step (State.answer_ext ..) rfl ?_
  refine Ext.ofPair ?_ ‹_›
  refine Ext.step (State.route_ext ..) rfl ?_
  refine Ext.step (State.bump_ext ..) rfl ?_
  exact Ext.refl _ _
  refine Ext.ite ?_ ?_
  refine Ext.ite ?_ ?_
  unfold id
  refine Ext.step (State.bump_ext ..) rfl ?_
  refine Ext.step (State.bump_ext ..) rfl ?_
  exact Ext.refl _ _
  refine Ext.ite ?_ ?_
  refine Ext.step (State.answer_ext ..) rfl ?_
  refine Ext.step (State.bump_ext ..) rfl ?_
  exact Ext.refl _ _
  refine Ext.step (State.spdmArrive_ext ..) rfl ?_
  refine Ext.step (State.dupAdd_ext ..) rfl ?_
  refine Ext.step (State.bump_ext ..) rfl ?_
  exact Ext.refl _ _
  refine Ext.step (State.spdmArrive_ext ..) rfl ?_
  refine Ext.step (State.dupAdd_ext ..) rfl ?_
  refine Ext.step (State.bump_ext ..) rfl ?_
  exact Ext.refl _ _
  exact Ext.refl _ _

theorem execGetMeasurements_ext (a0 : Transport) (a1 : Bytes) (a2 : State) :
    HAll (fun x => Ext [.regs, .hlk, .sec, .free] a2 x) (@execGetMeasurements a0 a1 a2) := by
  unfold Sys2Proof.Machine.execGetMeasurements
  refine HAll.next ?_
  refine Ext.step (State.spdmNamed_ext ..) rfl ?_
  exact Ext.refl _ _

theorem State.setBoot_ext (a0 : State) (a1 : Option Bool) (a2 : Bool) (a3 : Bool) :
    Ext [.regs] a0 (@State.setBoot a0 a1 a2 a3) := by
  unfold Sys2Proof.Machine.State.setBoot
  (dsimp only; split)
  refine Ext.step (State.p_ext ..) rfl ?_
  refine Ext.step (State.p_ext ..) rfl ?_
  refine Ext.step (State.p_ext ..) rfl ?_
  refine Ext.step (State.p_ext ..) rfl ?_
  refine Ext.step (State.p_ext ..) rfl ?_
  refine Ext.step (State.wr_ext ..) rfl ?_
  exact Ext.refl _ _
  refine Ext.step (State.p_ext ..) rfl ?_
  refine Ext.step (State.wr_ext ..) rfl ?_
  exact Ext.refl _ _

theorem execGetCapabilities_ext (a0 : Transport) (a1 : Bytes) (a2 : State) :
    HAll (fun x => Ext [.regs, .hlk, .sec, .free] a2 x) (@execGetCapabilities a0 a1 a2) := by
  unfold Sys2Proof.Machine.execGetCapabilities
  refine HAll.next ?_
  refine Ext.step (State.spdmNamed_ext ..) rfl ?_
  exact Ext.refl _ _

theorem execFwTrialConfirm_ext (a0 : State) :
    HAll (fun x => Ext [.regs, .hlk, .sec] a0 x) (@execFwTrialConfirm a0) := by
  unfold Sys2Proof.Machine.execFwTrialConfirm
  refine HAll.next ?_
  refine Ext.ite ?_ ?_
  refine Ext.step (State.confirm_ext ..) rfl ?_
  exact Ext.refl _ _
  exact Ext.refl _ _

theorem State.releaseHalt_ext (a0 : State) (a1 : ℕ) :
    Ext [.cores] a0 (@State.releaseHalt a0 a1) := by
  unfold Sys2Proof.Machine.State.releaseHalt
  (dsimp only; split)
  refine Ext.step (State.setCore_ext ..) rfl ?_
  exact Ext.refl _ _
  exact Ext.refl _ _

theorem State.revoke_ext (a0 : State) (a1 : ℕ) :
    Ext [.sec] a0 (@State.revoke a0 a1).2 := by
  unfold Sys2Proof.Machine.State.revoke
  (dsimp only; split)
  refine Ext.at2 ?_
  exact Ext.refl _ _
  refine Ext.at2 ?_
  refine Ext.step (Ext.set_sec ..) rfl ?_
  exact Ext.refl _ _

theorem State.provision_ext (a0 : State) (a1 : ℕ) (a2 : Bytes) :
    Ext [.sec] a0 (@State.provision a0 a1 a2).2 := by
  unfold Sys2Proof.Machine.State.provision
  (dsimp only; split)
  refine Ext.at2 ?_
  exact Ext.refl _ _
  split
  refine Ext.at2 ?_
  exact Ext.refl _ _
  refine Ext.at2 ?_
  refine Ext.step (Ext.set_sec ..) rfl ?_
  exact Ext.refl _ _

theorem State.wellheadDown_ext (a0 : State) :
    Ext [.sec] a0 (@State.wellheadDown a0) := by
  unfold Sys2Proof.Machine.State.wellheadDown
  refine Ext.step (Ext.set_sec ..) rfl ?_
  exact Ext.refl _ _

theorem execChallenge_ext (a0 : Transport) (a1 : Bytes) (a2 : State) :
    HAll (fun x => Ext [.regs, .hlk, .sec, .free] a2 x) (@execChallenge a0 a1 a2) := by
  unfold Sys2Proof.Machine.execChallenge
  refine HAll.next ?_
  refine Ext.step (State.spdmNamed_ext ..) rfl ?_
  exact Ext.refl _ _

theorem execNegotiateAlgorithms_ext (a0 : Transport) (a1 : Bytes) (a2 : State) :
    HAll (fun x => Ext [.regs, .hlk, .sec, .free] a2 x) (@execNegotiateAlgorithms a0 a1 a2) := by
  unfold Sys2Proof.Machine.execNegotiateAlgorithms
  refine HAll.next ?_
  refine Ext.step (State.spdmNamed_ext ..) rfl ?_
  exact Ext.refl _ _

theorem State.doeDrain_ext (a0 : State) :
    Ext [.regs, .hlk, .sec, .free] a0 (@State.doeDrain a0) := by
  unfold Sys2Proof.Machine.State.doeDrain
  refine foldl_all (P := fun x => Ext _ _ x) ?_ ?_
  refine Ext.step (Ext.set_sec ..) rfl ?_
  exact Ext.refl _ _
  intro _
  intro _
  intro _
  refine Ext.step (State.spdmRequest_ext ..) rfl ?_
  with_reducible assumption

theorem State.lockDebug_ext (a0 : State) :
    Ext [.regs, .hlk, .cores] a0 (@State.lockDebug a0) := by
  unfold Sys2Proof.Machine.State.lockDebug
  refine Ext.ite ?_ ?_
  exact Ext.refl _ _
  refine foldl_all (P := fun x => Ext _ _ x) ?_ ?_
  refine Ext.step (State.raise_ext ..) rfl ?_
  refine Ext.step (State.wr_ext ..) rfl ?_
  exact Ext.refl _ _
  intro _
  intro _
  intro _
  refine Ext.step (State.releaseHalt_ext ..) rfl ?_
  with_reducible assumption

theorem State.unlockDebug_ext (a0 : State) (a1 : Bytes) :
    Ext [.regs, .hlk, .sec] a0 (@State.unlockDebug a0 a1).2 := by
  unfold Sys2Proof.Machine.State.unlockDebug
  (dsimp only; split)
  refine Ext.at2 ?_
  refine Ext.step (State.raise_ext ..) rfl ?_
  refine Ext.step (State.bump_ext ..) rfl ?_
  refine Ext.step (Ext.set_sec ..) rfl ?_
  refine Ext.step (State.wr_ext ..) rfl ?_
  refine Ext.step (Ext.set_sec ..) rfl ?_
  exact Ext.refl _ _
  refine Ext.at2 ?_
  refine Ext.step (State.bump_ext ..) rfl ?_
  refine Ext.step (Ext.set_sec ..) rfl ?_
  exact Ext.refl _ _

theorem execDoeRequest_ext (a0 : DoeReq) (a1 : State) :
    HAll (fun x => Ext [.regs, .hlk, .sec, .free] a1 x) (@execDoeRequest a0 a1) := by
  unfold Sys2Proof.Machine.execDoeRequest
  refine HAll.next ?_
  refine Ext.step (State.doe_ext ..) rfl ?_
  exact Ext.refl _ _

theorem State.boot_ext (a0 : State) :
    Ext [.regs, .hlk, .sec] a0 (@State.boot a0) := by
  unfold Sys2Proof.Machine.State.boot
  refine Ext.ite ?_ ?_
  refine Ext.step (State.raise_ext ..) rfl ?_
  refine Ext.step (State.setBoot_ext ..) rfl ?_
  refine Ext.step (Ext.set_sec ..) rfl ?_
  exact Ext.refl _ _
  refine Ext.step (State.setBoot_ext ..) rfl ?_
  refine Ext.step (Ext.set_sec ..) rfl ?_
  exact Ext.refl _ _

theorem State.newNonce_ext (a0 : State) :
    Ext [.sec, .free] a0 (@State.newNonce a0).2 := by
  unfold Sys2Proof.Machine.State.newNonce
  refine Ext.at2 ?_
  refine Ext.step (Ext.set_sec_free ..) rfl ?_
  exact Ext.refl _ _

end Sys2Proof.Machine
end

