-- ==== Sys2Proof/Laws/FrameMailbox.lean ====
section
/-! SUPPORT. What each definition of Machine/Mailbox.lean may change: every part that its lemma does not name stays, and memory keeps
its canonical form. -/

set_option maxRecDepth 4000

namespace Sys2Proof.Machine

theorem State.cmdGetInfo_ext (a0 : State) (a1 : Bytes) :
    Ext [] a0 (@State.cmdGetInfo a0 a1).2.2 := by
  unfold Sys2Proof.Machine.State.cmdGetInfo
  (dsimp only; split)
  refine Ext.at22 ?_
  exact Ext.refl _ _
  refine Ext.at22 ?_
  exact Ext.refl _ _

theorem State.cmdFaultLogOpen_ext (a0 : State) (a1 : Bytes) :
    Ext [.regs, .hlk] a0 (@State.cmdFaultLogOpen a0 a1).2.2 := by
  unfold Sys2Proof.Machine.State.cmdFaultLogOpen
  (dsimp only; split)
  refine Ext.at22 ?_
  exact Ext.refl _ _
  split
  refine Ext.at22 ?_
  refine Ext.ofPair1 ?_ ‹_›
  refine Ext.step (State.negotiate_ext ..) rfl ?_
  exact Ext.refl _ _
  refine Ext.at22 ?_
  refine Ext.step (State.p_ext ..) rfl ?_
  refine Ext.ofPair1 ?_ ‹_›
  refine Ext.step (State.negotiate_ext ..) rfl ?_
  exact Ext.refl _ _

theorem State.cmdFaultRead_ext (a0 : State) (a1 : Bytes) :
    Ext [.ras] a0 (@State.cmdFaultRead a0 a1).2.2 := by
  unfold Sys2Proof.Machine.State.cmdFaultRead
  (dsimp only; split)
  refine Ext.at22 ?_
  exact Ext.refl _ _
  refine Ext.at22 ?_
  refine Ext.step (Ext.set_ras ..) rfl ?_
  exact Ext.refl _ _

theorem State.cmdTlmRead_ext (a0 : State) (a1 : Bytes) :
    Ext [.regs, .snaps] a0 (@State.cmdTlmRead a0 a1).2.2 := by
  unfold Sys2Proof.Machine.State.cmdTlmRead
  (dsimp only; split)
  refine Ext.at22 ?_
  exact Ext.refl _ _
  split
  refine Ext.at22 ?_
  exact Ext.refl _ _
  split
  refine Ext.at22 ?_
  refine Ext.step (State.takeSnap_ext ..) rfl ?_
  exact Ext.refl _ _
  split
  refine Ext.at22 ?_
  exact Ext.refl _ _
  refine Ext.at22 ?_
  exact Ext.refl _ _

theorem State.cmdFwStage_ext (a0 : State) (a1 : Bytes) :
    Ext [.regs, .hlk, .sec] a0 (@State.cmdFwStage a0 a1).2.2 := by
  unfold Sys2Proof.Machine.State.cmdFwStage
  split
  refine Ext.at22 ?_
  exact Ext.refl _ _
  refine Ext.at22 ?_
  refine Ext.decRec2 ?_ ?_
  intro _
  (dsimp only; split)
  split
  refine Ext.at2 ?_
  refine Ext.step (Ext.set_sec ..) rfl ?_
  exact Ext.refl _ _
  split
  refine Ext.at2 ?_
  refine Ext.step (Ext.set_sec ..) rfl ?_
  refine Ext.step (State.setSlot_ext ..) rfl ?_
  refine Ext.step (Ext.set_sec ..) rfl ?_
  exact Ext.refl _ _
  split
  refine Ext.at2 ?_
  refine Ext.step (State.raise_ext ..) rfl ?_
  refine Ext.step (Ext.set_sec ..) rfl ?_
  refine Ext.step (State.setSlot_ext ..) rfl ?_
  refine Ext.step (Ext.set_sec ..) rfl ?_
  exact Ext.refl _ _
  refine Ext.at2 ?_
  refine Ext.step (Ext.set_sec ..) rfl ?_
  refine Ext.step (State.setSlot_ext ..) rfl ?_
  refine Ext.step (Ext.set_sec ..) rfl ?_
  exact Ext.refl _ _
  refine Ext.at2 ?_
  refine Ext.step (Ext.set_sec ..) rfl ?_
  refine Ext.step (State.setSlot_ext ..) rfl ?_
  refine Ext.step (Ext.set_sec ..) rfl ?_
  exact Ext.refl _ _
  refine Ext.at2 ?_
  refine Ext.step (Ext.set_sec ..) rfl ?_
  refine Ext.step (State.setSlot_ext ..) rfl ?_
  refine Ext.step (Ext.set_sec ..) rfl ?_
  exact Ext.refl _ _
  split
  refine Ext.at2 ?_
  exact Ext.refl _ _
  split
  refine Ext.at2 ?_
  refine Ext.step (Ext.set_sec ..) rfl ?_
  refine Ext.step (State.setSlot_ext ..) rfl ?_
  exact Ext.refl _ _
  split
  refine Ext.at2 ?_
  refine Ext.step (State.raise_ext ..) rfl ?_
  refine Ext.step (Ext.set_sec ..) rfl ?_
  refine Ext.step (State.setSlot_ext ..) rfl ?_
  exact Ext.refl _ _
  refine Ext.at2 ?_
  refine Ext.step (Ext.set_sec ..) rfl ?_
  refine Ext.step (State.setSlot_ext ..) rfl ?_
  exact Ext.refl _ _
  refine Ext.at2 ?_
  refine Ext.step (Ext.set_sec ..) rfl ?_
  refine Ext.step (State.setSlot_ext ..) rfl ?_
  exact Ext.refl _ _
  refine Ext.at2 ?_
  refine Ext.step (Ext.set_sec ..) rfl ?_
  refine Ext.step (State.setSlot_ext ..) rfl ?_
  exact Ext.refl _ _
  intro _
  refine Ext.at2 ?_
  exact Ext.refl _ _

theorem State.cmdFwActivate_ext (a0 : State) (a1 : Bytes) :
    Ext [.regs, .hlk, .sec] a0 (@State.cmdFwActivate a0 a1).2.2 := by
  unfold Sys2Proof.Machine.State.cmdFwActivate
  split
  refine Ext.at22 ?_
  exact Ext.refl _ _
  refine Ext.at22 ?_
  refine Ext.decRec2 ?_ ?_
  intro _
  (dsimp only; split)
  refine Ext.at2 ?_
  exact Ext.refl _ _
  split
  refine Ext.at2 ?_
  exact Ext.refl _ _
  refine Ext.at2 ?_
  refine Ext.step (State.bump_ext ..) rfl ?_
  refine Ext.step (Ext.set_sec ..) rfl ?_
  exact Ext.refl _ _
  intro _
  refine Ext.at2 ?_
  refine Ext.step (Ext.set_sec ..) rfl ?_
  exact Ext.refl _ _

theorem State.cmdDebug_ext (a0 : State) (a1 : Bytes) :
    Ext [.regs, .hlk, .cores, .sec, .free] a0 (@State.cmdDebug a0 a1).2.2 := by
  unfold Sys2Proof.Machine.State.cmdDebug
  split
  refine Ext.at22 ?_
  exact Ext.refl _ _
  refine Ext.at22 ?_
  refine Ext.step (Ext.set_sec_free ..) rfl ?_
  exact Ext.refl _ _
  split
  split
  refine Ext.at22 ?_
  refine Ext.ofPair ?_ ‹_›
  refine Ext.step (State.unlockDebug_ext ..) rfl ?_
  exact Ext.refl _ _
  refine Ext.at22 ?_
  refine Ext.ofPair ?_ ‹_›
  refine Ext.step (State.unlockDebug_ext ..) rfl ?_
  exact Ext.refl _ _
  refine Ext.at22 ?_
  refine Ext.step (State.lockDebug_ext ..) rfl ?_
  exact Ext.refl _ _
  split
  refine Ext.at22 ?_
  exact Ext.refl _ _
  split
  split
  refine Ext.at22 ?_
  refine Ext.ofPair ?_ ‹_›
  refine Ext.step (State.provision_ext ..) rfl ?_
  exact Ext.refl _ _
  refine Ext.at22 ?_
  refine Ext.ofPair ?_ ‹_›
  refine Ext.step (State.provision_ext ..) rfl ?_
  exact Ext.refl _ _
  split
  refine Ext.at22 ?_
  exact Ext.refl _ _
  split
  split
  refine Ext.at22 ?_
  refine Ext.ofPair ?_ ‹_›
  refine Ext.step (State.revoke_ext ..) rfl ?_
  exact Ext.refl _ _
  refine Ext.at22 ?_
  refine Ext.ofPair ?_ ‹_›
  refine Ext.step (State.revoke_ext ..) rfl ?_
  exact Ext.refl _ _
  refine Ext.at22 ?_
  exact Ext.refl _ _

theorem State.cmdXltResolve_ext (a0 : State) (a1 : Bytes) :
    Ext [.rst, .regs, .hlk, .launches, .cores, .shoals, .sram, .sramUe, .mem, .queues, .act, .shl, .fab, .red, .ras, .free] a0 (@State.cmdXltResolve a0 a1).2.2 := by
  unfold Sys2Proof.Machine.State.cmdXltResolve
  split
  refine Ext.at22 ?_
  exact Ext.refl _ _
  split
  refine Ext.at22 ?_
  exact Ext.refl _ _
  split
  refine Ext.at22 ?_
  exact Ext.refl _ _
  split
  refine Ext.at22 ?_
  refine Ext.step (State.pullHost_ext ..) rfl ?_
  refine Ext.step (State.setFault_ext ..) rfl ?_
  exact Ext.refl _ _
  refine Ext.at22 ?_
  refine Ext.step (State.pullHost_ext ..) rfl ?_
  refine Ext.step (State.xltFail_ext ..) rfl ?_
  exact Ext.refl _ _

theorem State.mbxRun_ext (a0 : State) (a1 : ℕ) (a2 : ℕ) (a3 : Bytes) :
    Ext [.rst, .regs, .snaps, .hlk, .launches, .cores, .shoals, .sram, .sramUe, .mem, .queues, .act, .shl, .fab, .red, .ras, .sec, .free] a0 (@State.mbxRun a0 a1 a2 a3).2.2 := by
  unfold Sys2Proof.Machine.State.mbxRun
  split
  refine Ext.at22 ?_
  exact Ext.refl _ _
  split
  refine Ext.at22 ?_
  exact Ext.refl _ _
  split
  refine Ext.at22 ?_
  exact Ext.refl _ _
  split
  refine Ext.step (State.cmdGetInfo_ext ..) rfl ?_
  exact Ext.refl _ _
  refine Ext.step (State.cmdFaultLogOpen_ext ..) rfl ?_
  exact Ext.refl _ _
  refine Ext.step (State.cmdFaultRead_ext ..) rfl ?_
  exact Ext.refl _ _
  refine Ext.step (State.cmdTlmRead_ext ..) rfl ?_
  exact Ext.refl _ _
  refine Ext.step (State.cmdFwStage_ext ..) rfl ?_
  exact Ext.refl _ _
  refine Ext.step (State.cmdFwActivate_ext ..) rfl ?_
  exact Ext.refl _ _
  refine Ext.step (State.cmdDebug_ext ..) rfl ?_
  exact Ext.refl _ _
  refine Ext.step (State.cmdXltResolve_ext ..) rfl ?_
  exact Ext.refl _ _

theorem State.mbxServe_ext (a0 : State) :
    Ext [.rst, .regs, .snaps, .hlk, .launches, .cores, .shoals, .sram, .sramUe, .mem, .queues, .act, .shl, .fab, .red, .ras, .sec, .free] a0 (@State.mbxServe a0) := by
  unfold Sys2Proof.Machine.State.mbxServe
  (dsimp only; split)
  refine Ext.ite ?_ ?_
  exact Ext.refl _ _
  refine Ext.step (Ext.set_hlk ..) rfl ?_
  refine Ext.step (State.mbxRun_ext ..) rfl ?_
  exact Ext.refl _ _
  exact Ext.refl _ _

theorem State.mbxGo_ext (a0 : State) (a1 : ℕ) (a2 : ℕ) (a3 : ℕ) :
    Ext [.rst, .regs, .snaps, .hlk, .launches, .cores, .shoals, .sram, .sramUe, .mem, .queues, .act, .shl, .fab, .red, .ras, .sec, .free] a0 (@State.mbxGo a0 a1 a2 a3) := by
  unfold Sys2Proof.Machine.State.mbxGo
  refine Ext.ite ?_ ?_
  refine Ext.step (State.raise_ext ..) rfl ?_
  exact Ext.refl _ _
  refine Ext.step (State.mbxServe_ext ..) rfl ?_
  refine Ext.step (Ext.set_hlk ..) rfl ?_
  refine Ext.step (State.p_ext ..) rfl ?_
  refine Ext.step (State.wr_ext ..) rfl ?_
  exact Ext.refl _ _

theorem State.mbxRow_ext (a0 : State) (a1 : ℕ) (a2 : BitVec 16) (a3 : BitVec 16) (a4 : (Bytes → Bool)) :
    Ext [.rst, .regs, .snaps, .hlk, .launches, .cores, .shoals, .sram, .sramUe, .mem, .queues, .act, .shl, .fab, .red, .ras, .sec, .free] a0 (@State.mbxRow a0 a1 a2 a3 a4) := by
  unfold Sys2Proof.Machine.State.mbxRow
  unfold Sys2Proof.Machine.State.pageWrite
  refine Ext.ite ?_ ?_
  exact Ext.refl _ _
  refine Ext.ite ?_ ?_
  refine Ext.step (State.refuse_ext ..) rfl ?_
  exact Ext.refl _ _
  refine Ext.ite ?_ ?_
  refine Ext.step (State.mbxGo_ext ..) rfl ?_
  exact Ext.refl _ _
  exact Ext.refl _ _

theorem execFwStage_ext (a0 : BitVec 16) (a1 : BitVec 16) (a2 : State) :
    HAll (fun x => Ext [.rst, .regs, .snaps, .hlk, .launches, .cores, .shoals, .sram, .sramUe, .mem, .queues, .act, .shl, .fab, .red, .ras, .sec, .free] a2 x) (@execFwStage a0 a1 a2) := by
  unfold Sys2Proof.Machine.execFwStage
  refine HAll.next ?_
  refine Ext.step (State.mbxRow_ext ..) rfl ?_
  exact Ext.refl _ _

theorem execGetNonce_ext (a0 : BitVec 16) (a1 : BitVec 16) (a2 : State) :
    HAll (fun x => Ext [.rst, .regs, .snaps, .hlk, .launches, .cores, .shoals, .sram, .sramUe, .mem, .queues, .act, .shl, .fab, .red, .ras, .sec, .free] a2 x) (@execGetNonce a0 a1 a2) := by
  unfold Sys2Proof.Machine.execGetNonce
  refine HAll.next ?_
  refine Ext.step (State.mbxRow_ext ..) rfl ?_
  exact Ext.refl _ _

theorem execWellheadActivationRestart_ext (a0 : Bool) (a1 : State) :
    HAll (fun x => Ext [.sec] a1 x) (@execWellheadActivationRestart a0 a1) := by
  unfold Sys2Proof.Machine.execWellheadActivationRestart
  refine HAll.next ?_
  refine Ext.ite ?_ ?_
  refine Ext.step (State.wellheadDown_ext ..) rfl ?_
  exact Ext.refl _ _
  exact Ext.refl _ _

theorem execLock_ext (a0 : BitVec 16) (a1 : BitVec 16) (a2 : State) :
    HAll (fun x => Ext [.rst, .regs, .snaps, .hlk, .launches, .cores, .shoals, .sram, .sramUe, .mem, .queues, .act, .shl, .fab, .red, .ras, .sec, .free] a2 x) (@execLock a0 a1 a2) := by
  unfold Sys2Proof.Machine.execLock
  refine HAll.next ?_
  refine Ext.step (State.mbxRow_ext ..) rfl ?_
  exact Ext.refl _ _

theorem State.setPayload_ext (a0 : State) (a1 : Bytes) :
    Ext [.regs] a0 (@State.setPayload a0 a1) := by
  unfold Sys2Proof.Machine.State.setPayload
  refine foldl_all (P := fun x => Ext _ _ x) ?_ ?_
  exact Ext.refl _ _
  intro _
  intro _
  intro _
  refine Ext.step (State.wr_ext ..) rfl ?_
  with_reducible assumption

theorem State.mbxDone_ext (a0 : State) (a1 : ℕ) (a2 : ℕ) (a3 : Bytes) :
    Ext [.regs, .hlk] a0 (@State.mbxDone a0 a1 a2 a3) := by
  unfold Sys2Proof.Machine.State.mbxDone
  refine Ext.step (State.raise_ext ..) rfl ?_
  refine Ext.step (Ext.set_hlk ..) rfl ?_
  refine Ext.step (State.p_ext ..) rfl ?_
  refine Ext.step (State.wr_ext ..) rfl ?_
  refine Ext.ite ?_ ?_
  exact Ext.refl _ _
  refine Ext.step (State.setPayload_ext ..) rfl ?_
  exact Ext.refl _ _

theorem execMbxResponse_ext (a0 : State) :
    HAll (fun x => Ext [.regs, .hlk] a0 x) (@execMbxResponse a0) := by
  unfold Sys2Proof.Machine.execMbxResponse
  refine HAll.next ?_
  split
  split
  refine Ext.step (State.mbxDone_ext ..) rfl ?_
  exact Ext.refl _ _
  exact Ext.refl _ _
  exact Ext.refl _ _

theorem State.wellheadRestart_ext (a0 : State) :
    Ext [.regs, .hlk, .sec] a0 (@State.wellheadRestart a0) := by
  unfold Sys2Proof.Machine.State.wellheadRestart
  (dsimp only; split)
  refine Ext.step (State.mbxDone_ext ..) rfl ?_
  refine Ext.step (State.raise_ext ..) rfl ?_
  refine Ext.step (State.wellheadDown_ext ..) rfl ?_
  exact Ext.refl _ _
  refine Ext.step (State.raise_ext ..) rfl ?_
  refine Ext.step (State.wellheadDown_ext ..) rfl ?_
  exact Ext.refl _ _

theorem execWellheadWatchdogExpiry_ext (a0 : State) :
    HAll (fun x => Ext [.regs, .hlk, .sec] a0 x) (@execWellheadWatchdogExpiry a0) := by
  unfold Sys2Proof.Machine.execWellheadWatchdogExpiry
  refine HAll.next ?_
  refine Ext.ite ?_ ?_
  refine Ext.step (State.wellheadRestart_ext ..) rfl ?_
  exact Ext.refl _ _
  exact Ext.refl _ _

theorem execFwActivateTrial_ext (a0 : BitVec 16) (a1 : BitVec 16) (a2 : State) :
    HAll (fun x => Ext [.rst, .regs, .snaps, .hlk, .launches, .cores, .shoals, .sram, .sramUe, .mem, .queues, .act, .shl, .fab, .red, .ras, .sec, .free] a2 x) (@execFwActivateTrial a0 a1 a2) := by
  unfold Sys2Proof.Machine.execFwActivateTrial
  refine HAll.next ?_
  refine Ext.step (State.mbxRow_ext ..) rfl ?_
  exact Ext.refl _ _

theorem execMbxTimeout_ext (a0 : State) :
    HAll (fun x => Ext [.regs, .hlk] a0 x) (@execMbxTimeout a0) := by
  unfold Sys2Proof.Machine.execMbxTimeout
  refine HAll.next ?_
  split
  refine Ext.ite ?_ ?_
  exact Ext.refl _ _
  refine Ext.step (State.mbxDone_ext ..) rfl ?_
  refine Ext.step (State.raise_ext ..) rfl ?_
  exact Ext.refl _ _
  exact Ext.refl _ _

theorem execWellheadSramUe_ext (a0 : State) :
    HAll (fun x => Ext [.regs, .hlk, .ras, .sec, .free] a0 x) (@execWellheadSramUe a0) := by
  unfold Sys2Proof.Machine.execWellheadSramUe
  refine HAll.next ?_
  refine Ext.ite ?_ ?_
  refine Ext.step (State.record_ext ..) rfl ?_
  refine Ext.step (Ext.set_free ..) rfl ?_
  refine Ext.step (State.wellheadRestart_ext ..) rfl ?_
  exact Ext.refl _ _
  exact Ext.refl _ _

theorem execProvision_ext (a0 : BitVec 16) (a1 : BitVec 16) (a2 : State) :
    HAll (fun x => Ext [.rst, .regs, .snaps, .hlk, .launches, .cores, .shoals, .sram, .sramUe, .mem, .queues, .act, .shl, .fab, .red, .ras, .sec, .free] a2 x) (@execProvision a0 a1 a2) := by
  unfold Sys2Proof.Machine.execProvision
  refine HAll.next ?_
  refine Ext.step (State.mbxRow_ext ..) rfl ?_
  exact Ext.refl _ _

theorem execRevoke_ext (a0 : BitVec 16) (a1 : BitVec 16) (a2 : State) :
    HAll (fun x => Ext [.rst, .regs, .snaps, .hlk, .launches, .cores, .shoals, .sram, .sramUe, .mem, .queues, .act, .shl, .fab, .red, .ras, .sec, .free] a2 x) (@execRevoke a0 a1 a2) := by
  unfold Sys2Proof.Machine.execRevoke
  refine HAll.next ?_
  refine Ext.step (State.mbxRow_ext ..) rfl ?_
  exact Ext.refl _ _

theorem execFaultRead_ext (a0 : BitVec 16) (a1 : BitVec 16) (a2 : State) :
    HAll (fun x => Ext [.rst, .regs, .snaps, .hlk, .launches, .cores, .shoals, .sram, .sramUe, .mem, .queues, .act, .shl, .fab, .red, .ras, .sec, .free] a2 x) (@execFaultRead a0 a1 a2) := by
  unfold Sys2Proof.Machine.execFaultRead
  refine HAll.next ?_
  refine Ext.step (State.mbxRow_ext ..) rfl ?_
  exact Ext.refl _ _

theorem execWellheadBoot_ext (a0 : State) :
    HAll (fun x => Ext [.rst, .regs, .snaps, .hlk, .launches, .cores, .shoals, .sram, .sramUe, .mem, .queues, .act, .shl, .fab, .red, .ras, .sec, .free] a0 x) (@execWellheadBoot a0) := by
  unfold Sys2Proof.Machine.execWellheadBoot
  refine HAll.next ?_
  refine Ext.ite ?_ ?_
  refine Ext.step (State.mbxServe_ext ..) rfl ?_
  refine Ext.step (State.doeDrain_ext ..) rfl ?_
  refine Ext.step (State.boot_ext ..) rfl ?_
  exact Ext.refl _ _
  exact Ext.refl _ _

theorem execXltResolveFail_ext (a0 : BitVec 16) (a1 : BitVec 16) (a2 : State) :
    HAll (fun x => Ext [.rst, .regs, .snaps, .hlk, .launches, .cores, .shoals, .sram, .sramUe, .mem, .queues, .act, .shl, .fab, .red, .ras, .sec, .free] a2 x) (@execXltResolveFail a0 a1 a2) := by
  unfold Sys2Proof.Machine.execXltResolveFail
  refine HAll.next ?_
  refine Ext.step (State.mbxRow_ext ..) rfl ?_
  exact Ext.refl _ _

theorem execFwActivateCancel_ext (a0 : BitVec 16) (a1 : BitVec 16) (a2 : State) :
    HAll (fun x => Ext [.rst, .regs, .snaps, .hlk, .launches, .cores, .shoals, .sram, .sramUe, .mem, .queues, .act, .shl, .fab, .red, .ras, .sec, .free] a2 x) (@execFwActivateCancel a0 a1 a2) := by
  unfold Sys2Proof.Machine.execFwActivateCancel
  refine HAll.next ?_
  refine Ext.step (State.mbxRow_ext ..) rfl ?_
  exact Ext.refl _ _

theorem execUnlock_ext (a0 : BitVec 16) (a1 : BitVec 16) (a2 : State) :
    HAll (fun x => Ext [.rst, .regs, .snaps, .hlk, .launches, .cores, .shoals, .sram, .sramUe, .mem, .queues, .act, .shl, .fab, .red, .ras, .sec, .free] a2 x) (@execUnlock a0 a1 a2) := by
  unfold Sys2Proof.Machine.execUnlock
  refine HAll.next ?_
  refine Ext.step (State.mbxRow_ext ..) rfl ?_
  exact Ext.refl _ _

theorem execMbxBadOpcode_ext (a0 : BitVec 16) (a1 : BitVec 16) (a2 : BitVec 16) (a3 : State) :
    HAll (fun x => Ext [.rst, .regs, .snaps, .hlk, .launches, .cores, .shoals, .sram, .sramUe, .mem, .queues, .act, .shl, .fab, .red, .ras, .sec, .free] a3 x) (@execMbxBadOpcode a0 a1 a2 a3) := by
  unfold Sys2Proof.Machine.execMbxBadOpcode
  refine HAll.next ?_
  refine Ext.ite ?_ ?_
  exact Ext.refl _ _
  refine Ext.step (State.mbxRow_ext ..) rfl ?_
  exact Ext.refl _ _

theorem execTlmRead_ext (a0 : BitVec 16) (a1 : BitVec 16) (a2 : State) :
    HAll (fun x => Ext [.rst, .regs, .snaps, .hlk, .launches, .cores, .shoals, .sram, .sramUe, .mem, .queues, .act, .shl, .fab, .red, .ras, .sec, .free] a2 x) (@execTlmRead a0 a1 a2) := by
  unfold Sys2Proof.Machine.execTlmRead
  refine HAll.next ?_
  refine Ext.step (State.mbxRow_ext ..) rfl ?_
  exact Ext.refl _ _

theorem execFaultLogOpen_ext (a0 : BitVec 16) (a1 : BitVec 16) (a2 : State) :
    HAll (fun x => Ext [.rst, .regs, .snaps, .hlk, .launches, .cores, .shoals, .sram, .sramUe, .mem, .queues, .act, .shl, .fab, .red, .ras, .sec, .free] a2 x) (@execFaultLogOpen a0 a1 a2) := by
  unfold Sys2Proof.Machine.execFaultLogOpen
  refine HAll.next ?_
  refine Ext.step (State.mbxRow_ext ..) rfl ?_
  exact Ext.refl _ _

theorem execXltResolveRetry_ext (a0 : BitVec 16) (a1 : BitVec 16) (a2 : State) :
    HAll (fun x => Ext [.rst, .regs, .snaps, .hlk, .launches, .cores, .shoals, .sram, .sramUe, .mem, .queues, .act, .shl, .fab, .red, .ras, .sec, .free] a2 x) (@execXltResolveRetry a0 a1 a2) := by
  unfold Sys2Proof.Machine.execXltResolveRetry
  refine HAll.next ?_
  refine Ext.step (State.mbxRow_ext ..) rfl ?_
  exact Ext.refl _ _

theorem execGetInfo_ext (a0 : BitVec 16) (a1 : BitVec 16) (a2 : State) :
    HAll (fun x => Ext [.rst, .regs, .snaps, .hlk, .launches, .cores, .shoals, .sram, .sramUe, .mem, .queues, .act, .shl, .fab, .red, .ras, .sec, .free] a2 x) (@execGetInfo a0 a1 a2) := by
  unfold Sys2Proof.Machine.execGetInfo
  refine HAll.next ?_
  refine Ext.step (State.mbxRow_ext ..) rfl ?_
  exact Ext.refl _ _

theorem execFwActivateRestart_ext (a0 : BitVec 16) (a1 : BitVec 16) (a2 : State) :
    HAll (fun x => Ext [.rst, .regs, .snaps, .hlk, .launches, .cores, .shoals, .sram, .sramUe, .mem, .queues, .act, .shl, .fab, .red, .ras, .sec, .free] a2 x) (@execFwActivateRestart a0 a1 a2) := by
  unfold Sys2Proof.Machine.execFwActivateRestart
  refine HAll.next ?_
  refine Ext.step (State.mbxRow_ext ..) rfl ?_
  exact Ext.refl _ _

end Sys2Proof.Machine
end

