-- ==== Sys2Proof/Laws/FramePower.lean ====
section
/-! SUPPORT. What each definition of Machine/Power.lean may change: every part that its lemma does not name stays, and memory keeps
its canonical form. -/

set_option maxRecDepth 4000

namespace Sys2Proof.Machine

theorem State.removeReq_ext (a0 : State) :
    Ext [.power, .regs] a0 (@State.removeReq a0) := by
  unfold Sys2Proof.Machine.State.removeReq
  refine Ext.ite ?_ ?_
  refine Ext.step (Ext.set_power ..) rfl ?_
  refine Ext.step (State.p_ext ..) rfl ?_
  exact Ext.refl _ _
  exact Ext.refl _ _

theorem State.latchPwr_ext (a0 : State) (a1 : ℕ) :
    Ext [.regs, .hlk] a0 (@State.latchPwr a0 a1) := by
  unfold Sys2Proof.Machine.State.latchPwr
  refine Ext.ite ?_ ?_
  exact Ext.refl _ _
  refine Ext.step (State.raise_ext ..) rfl ?_
  refine Ext.step (State.p_ext ..) rfl ?_
  exact Ext.refl _ _

theorem State.opticsOff_ext (a0 : State) (a1 : ℕ) :
    Ext [.power, .rst, .regs, .snaps, .hlk, .cores, .sram, .sramUe, .mem, .queues, .act, .fab, .ras, .free] a0 (@State.opticsOff a0 a1) := by
  unfold Sys2Proof.Machine.State.opticsOff
  refine Ext.ite ?_ ?_
  refine Ext.ite ?_ ?_
  refine Ext.step (State.hostDark_ext ..) rfl ?_
  refine Ext.step (State.latchPwr_ext ..) rfl ?_
  refine Ext.step (Ext.set_power ..) rfl ?_
  exact Ext.refl _ _
  refine Ext.step (State.latchPwr_ext ..) rfl ?_
  refine Ext.step (Ext.set_power ..) rfl ?_
  exact Ext.refl _ _
  refine foldl_all (P := fun x => Ext _ _ x) ?_ ?_
  refine Ext.step (State.latchPwr_ext ..) rfl ?_
  refine Ext.step (Ext.set_power ..) rfl ?_
  exact Ext.refl _ _
  intro _
  intro _
  intro _
  refine Ext.ite ?_ ?_
  refine Ext.step (State.dropLink_ext ..) rfl ?_
  with_reducible assumption
  refine Ext.step (State.setLink_ext ..) rfl ?_
  with_reducible assumption

theorem State.railsUp_ext (a0 : State) :
    Ext [.power, .clock, .rst, .jrn, .regs, .snaps, .retained, .hlk, .kernels, .loads, .launches, .cores, .shoals, .gpr, .preds, .lflags, .sram, .sramUe, .mem, .queues, .act, .shl, .fab, .red, .scale, .ras, .free] a0 (@State.railsUp a0) := by
  unfold Sys2Proof.Machine.State.railsUp
  refine Ext.step (State.coldAsserted_ext ..) rfl ?_
  refine Ext.step (Ext.set_power_clock ..) rfl ?_
  refine Ext.step (State.dieClear_ext ..) rfl ?_
  exact Ext.refl _ _

theorem execMainRailsUp_ext (a0 : State) :
    HAll (fun x => Ext [.power, .clock, .rst, .jrn, .regs, .snaps, .retained, .hlk, .kernels, .loads, .launches, .cores, .shoals, .gpr, .preds, .lflags, .sram, .sramUe, .mem, .queues, .act, .shl, .fab, .red, .scale, .ras, .free] a0 x) (@execMainRailsUp a0) := by
  unfold Sys2Proof.Machine.execMainRailsUp
  refine HAll.next ?_
  refine Ext.ite ?_ ?_
  refine Ext.step (State.railsUp_ext ..) rfl ?_
  exact Ext.refl _ _
  exact Ext.refl _ _

theorem State.vin_ext (a0 : State) (a1 : ℕ) :
    Ext [.regs] a0 (@State.vin a0 a1) := by
  unfold Sys2Proof.Machine.State.vin
  refine Ext.step (State.p_ext ..) rfl ?_
  refine Ext.step (State.p_ext ..) rfl ?_
  refine Ext.step (State.p_ext ..) rfl ?_
  exact Ext.refl _ _

theorem State.loopTick_ext (a0 : State) (a1 : ℕ) :
    Ext [.power, .regs, .hlk] a0 (@State.loopTick a0 a1) := by
  unfold Sys2Proof.Machine.State.loopTick
  refine Ext.step (Ext.set_power ..) rfl ?_
  refine Ext.ite ?_ ?_
  refine Ext.step (State.raise_ext ..) rfl ?_
  refine Ext.step (State.bump_ext ..) rfl ?_
  refine Ext.step (State.p_ext ..) rfl ?_
  exact Ext.refl _ _
  refine Ext.step (State.p_ext ..) rfl ?_
  exact Ext.refl _ _

theorem execInletDeratingEnd_ext (a0 : BitVec 16) (a1 : State) :
    HAll (fun x => Ext [.power, .regs] a1 x) (@execInletDeratingEnd a0 a1) := by
  unfold Sys2Proof.Machine.execInletDeratingEnd
  refine HAll.next ?_
  refine Ext.ite ?_ ?_
  refine Ext.step (Ext.set_power ..) rfl ?_
  refine Ext.step (State.p_ext ..) rfl ?_
  exact Ext.refl _ _
  exact Ext.refl _ _

theorem State.dieTemp_ext (a0 : State) (a1 : ℤ) :
    Ext [.power] a0 (@State.dieTemp a0 a1) := by
  unfold Sys2Proof.Machine.State.dieTemp
  refine Ext.step (Ext.set_power ..) rfl ?_
  exact Ext.refl _ _

theorem State.limitFall_ext (a0 : State) (a1 : ℕ) (a2 : ℤ) :
    Ext [.power] a0 (@State.limitFall a0 a1 a2) := by
  unfold Sys2Proof.Machine.State.limitFall
  refine Ext.ite ?_ ?_
  refine Ext.step (Ext.set_power ..) rfl ?_
  refine Ext.step (State.dieTemp_ext ..) rfl ?_
  exact Ext.refl _ _
  refine Ext.step (State.dieTemp_ext ..) rfl ?_
  exact Ext.refl _ _

theorem State.mainOff_ext (a0 : State) :
    Ext [.power, .rst, .jrn, .regs, .snaps, .retained, .hlk, .kernels, .loads, .launches, .cores, .shoals, .gpr, .preds, .lflags, .sram, .sramUe, .mem, .queues, .act, .shl, .fab, .red, .scale, .ras, .free] a0 (@State.mainOff a0) := by
  unfold Sys2Proof.Machine.State.mainOff
  refine Ext.ite ?_ ?_
  refine Ext.step (Ext.set_rst ..) rfl ?_
  refine Ext.step (State.dieClear_ext ..) rfl ?_
  refine Ext.step (Ext.set_power ..) rfl ?_
  exact Ext.refl _ _
  refine Ext.step (Ext.set_power ..) rfl ?_
  exact Ext.refl _ _

theorem State.drainDone_ext (a0 : State) :
    Ext [.power, .rst, .jrn, .regs, .snaps, .retained, .hlk, .kernels, .loads, .launches, .cores, .shoals, .gpr, .preds, .lflags, .sram, .sramUe, .mem, .queues, .act, .shl, .fab, .red, .scale, .ras, .free] a0 (@State.drainDone a0) := by
  unfold Sys2Proof.Machine.State.drainDone
  refine Ext.step (Ext.set_power ..) rfl ?_
  refine Ext.step (State.p_ext ..) rfl ?_
  refine Ext.step (State.p_ext ..) rfl ?_
  refine Ext.step (State.mainOff_ext ..) rfl ?_
  exact Ext.refl _ _

theorem State.trip_ext (a0 : State) (a1 : ℕ) :
    Ext [.power, .rst, .jrn, .regs, .snaps, .retained, .hlk, .kernels, .loads, .launches, .cores, .shoals, .gpr, .preds, .lflags, .sram, .sramUe, .mem, .queues, .act, .shl, .fab, .red, .scale, .ras, .free] a0 (@State.trip a0 a1) := by
  unfold Sys2Proof.Machine.State.trip
  refine Ext.step (State.latchPwr_ext ..) rfl ?_
  refine Ext.ite ?_ ?_
  refine Ext.step (State.drainDone_ext ..) rfl ?_
  refine Ext.step (State.persist_ext ..) rfl ?_
  refine Ext.step (State.bump_ext ..) rfl ?_
  exact Ext.refl _ _
  refine Ext.step (State.mainOff_ext ..) rfl ?_
  refine Ext.step (State.bump_ext ..) rfl ?_
  exact Ext.refl _ _

theorem State.thermTrip_ext (a0 : State) :
    Ext [.power, .rst, .jrn, .regs, .snaps, .retained, .hlk, .kernels, .loads, .launches, .cores, .shoals, .gpr, .preds, .lflags, .sram, .sramUe, .mem, .queues, .act, .shl, .fab, .red, .scale, .ras, .free] a0 (@State.thermTrip a0) := by
  unfold Sys2Proof.Machine.State.thermTrip
  refine Ext.ite ?_ ?_
  refine Ext.step (State.trip_ext ..) rfl ?_
  refine Ext.step (Ext.set_power ..) rfl ?_
  exact Ext.refl _ _
  exact Ext.refl _ _

theorem State.debounceStart_ext (a0 : State) :
    Ext [.power] a0 (@State.debounceStart a0) := by
  unfold Sys2Proof.Machine.State.debounceStart
  refine Ext.ite ?_ ?_
  refine Ext.step (Ext.set_power ..) rfl ?_
  exact Ext.refl _ _
  exact Ext.refl _ _

theorem execRemoveDrainTimeout_ext (a0 : State) :
    HAll (fun x => Ext [.power, .rst, .jrn, .regs, .snaps, .retained, .hlk, .kernels, .loads, .launches, .cores, .shoals, .gpr, .preds, .lflags, .sram, .sramUe, .mem, .queues, .act, .shl, .fab, .red, .scale, .ras, .free] a0 x) (@execRemoveDrainTimeout a0) := by
  unfold Sys2Proof.Machine.execRemoveDrainTimeout
  refine HAll.next ?_
  refine Ext.ite ?_ ?_
  refine Ext.step (State.latchPwr_ext ..) rfl ?_
  refine Ext.step (State.drainDone_ext ..) rfl ?_
  refine Ext.step (State.persist_ext ..) rfl ?_
  exact Ext.refl _ _
  exact Ext.refl _ _

theorem State.limitRise_ext (a0 : State) (a1 : ℕ) (a2 : ℤ) :
    Ext [.power, .regs, .hlk] a0 (@State.limitRise a0 a1 a2) := by
  unfold Sys2Proof.Machine.State.limitRise
  refine Ext.ite ?_ ?_
  refine Ext.ite ?_ ?_
  refine Ext.step (State.raise_ext ..) rfl ?_
  refine Ext.step (State.bump_ext ..) rfl ?_
  refine Ext.step (Ext.set_power ..) rfl ?_
  refine Ext.step (State.p_ext ..) rfl ?_
  refine Ext.step (State.dieTemp_ext ..) rfl ?_
  exact Ext.refl _ _
  refine Ext.step (Ext.set_power ..) rfl ?_
  refine Ext.step (State.p_ext ..) rfl ?_
  refine Ext.step (State.dieTemp_ext ..) rfl ?_
  exact Ext.refl _ _
  refine Ext.step (State.p_ext ..) rfl ?_
  refine Ext.step (State.dieTemp_ext ..) rfl ?_
  exact Ext.refl _ _

theorem execPowerLimitRiseTick_ext (a0 : BitVec 16) (a1 : BitVec 16) (a2 : State) :
    HAll (fun x => Ext [.power, .regs, .hlk] a2 x) (@execPowerLimitRiseTick a0 a1 a2) := by
  unfold Sys2Proof.Machine.execPowerLimitRiseTick
  refine HAll.next ?_
  refine Ext.ite ?_ ?_
  refine Ext.step (State.limitRise_ext ..) rfl ?_
  exact Ext.refl _ _
  exact Ext.refl _ _

theorem execDieOvertempTrip_ext (a0 : BitVec 16) (a1 : State) :
    HAll (fun x => Ext [.power, .rst, .jrn, .regs, .snaps, .retained, .hlk, .kernels, .loads, .launches, .cores, .shoals, .gpr, .preds, .lflags, .sram, .sramUe, .mem, .queues, .act, .shl, .fab, .red, .scale, .ras, .free] a1 x) (@execDieOvertempTrip a0 a1) := by
  unfold Sys2Proof.Machine.execDieOvertempTrip
  refine HAll.next ?_
  refine Ext.ite ?_ ?_
  refine Ext.step (State.thermTrip_ext ..) rfl ?_
  refine Ext.step (State.p_ext ..) rfl ?_
  exact Ext.refl _ _
  exact Ext.refl _ _

theorem execDimmRefreshDouble_ext (a0 : ℕ) (a1 : State) :
    HAll (fun x => Ext [.power] a1 x) (@execDimmRefreshDouble a0 a1) := by
  unfold Sys2Proof.Machine.execDimmRefreshDouble
  refine HAll.next ?_
  refine Ext.ite ?_ ?_
  refine Ext.step (Ext.set_power ..) rfl ?_
  exact Ext.refl _ _
  exact Ext.refl _ _

theorem execOvTrip_ext (a0 : BitVec 16) (a1 : State) :
    HAll (fun x => Ext [.power, .rst, .jrn, .regs, .snaps, .retained, .hlk, .kernels, .loads, .launches, .cores, .shoals, .gpr, .preds, .lflags, .sram, .sramUe, .mem, .queues, .act, .shl, .fab, .red, .scale, .ras, .free] a1 x) (@execOvTrip a0 a1) := by
  unfold Sys2Proof.Machine.execOvTrip
  refine HAll.next ?_
  refine Ext.ite ?_ ?_
  refine Ext.step (State.trip_ext ..) rfl ?_
  refine Ext.step (State.vin_ext ..) rfl ?_
  refine Ext.step (Ext.set_power ..) rfl ?_
  exact Ext.refl _ _
  exact Ext.refl _ _

theorem execUvTrip_ext (a0 : BitVec 16) (a1 : State) :
    HAll (fun x => Ext [.power, .rst, .jrn, .regs, .snaps, .retained, .hlk, .kernels, .loads, .launches, .cores, .shoals, .gpr, .preds, .lflags, .sram, .sramUe, .mem, .queues, .act, .shl, .fab, .red, .scale, .ras, .free] a1 x) (@execUvTrip a0 a1) := by
  unfold Sys2Proof.Machine.execUvTrip
  refine HAll.next ?_
  refine Ext.ite ?_ ?_
  refine Ext.step (State.trip_ext ..) rfl ?_
  refine Ext.step (State.vin_ext ..) rfl ?_
  refine Ext.step (Ext.set_power ..) rfl ?_
  exact Ext.refl _ _
  exact Ext.refl _ _

theorem execInletTripTimer_ext (a0 : State) :
    HAll (fun x => Ext [.power, .rst, .jrn, .regs, .snaps, .retained, .hlk, .kernels, .loads, .launches, .cores, .shoals, .gpr, .preds, .lflags, .sram, .sramUe, .mem, .queues, .act, .shl, .fab, .red, .scale, .ras, .free] a0 x) (@execInletTripTimer a0) := by
  unfold Sys2Proof.Machine.execInletTripTimer
  refine HAll.next ?_
  refine Ext.ite ?_ ?_
  refine Ext.step (State.thermTrip_ext ..) rfl ?_
  exact Ext.refl _ _
  exact Ext.refl _ _

theorem execUvRelease_ext (a0 : BitVec 16) (a1 : State) :
    HAll (fun x => Ext [.power, .regs] a1 x) (@execUvRelease a0 a1) := by
  unfold Sys2Proof.Machine.execUvRelease
  refine HAll.next ?_
  refine Ext.ite ?_ ?_
  refine Ext.step (State.debounceStart_ext ..) rfl ?_
  refine Ext.step (State.vin_ext ..) rfl ?_
  refine Ext.step (Ext.set_power ..) rfl ?_
  exact Ext.refl _ _
  exact Ext.refl _ _

theorem State.loadTlm_ext (a0 : State) (a1 : Bytes) :
    Ext [.regs] a0 (@State.loadTlm a0 a1) := by
  unfold Sys2Proof.Machine.State.loadTlm
  refine foldl_all (P := fun x => Ext _ _ x) ?_ ?_
  refine Ext.step (State.wr_ext ..) rfl ?_
  refine foldl_all (P := fun x => Ext _ _ x) ?_ ?_
  exact Ext.refl _ _
  intro _
  intro _
  intro _
  refine Ext.step (State.wr_ext ..) rfl ?_
  with_reducible assumption
  intro _
  intro _
  intro _
  refine Ext.step (State.wr_ext ..) rfl ?_
  with_reducible assumption

theorem State.surpriseOff_ext (a0 : State) :
    Ext [.power, .rst, .jrn, .regs, .snaps, .retained, .hlk, .kernels, .loads, .launches, .cores, .shoals, .gpr, .preds, .lflags, .sram, .sramUe, .mem, .queues, .act, .shl, .fab, .red, .scale, .ras, .free] a0 (@State.surpriseOff a0) := by
  unfold Sys2Proof.Machine.State.surpriseOff
  refine Ext.ite ?_ ?_
  refine Ext.step (State.mainOff_ext ..) rfl ?_
  refine Ext.step (Ext.set_ras ..) rfl ?_
  exact Ext.refl _ _
  refine Ext.step (State.mainOff_ext ..) rfl ?_
  exact Ext.refl _ _

theorem State.standbyLost_ext (a0 : State) :
    Ext [.power, .rst, .jrn, .regs, .snaps, .retained, .hlk, .kernels, .gens, .loads, .launches, .cores, .shoals, .gpr, .preds, .lflags, .sram, .sramUe, .mem, .queues, .act, .shl, .fab, .red, .scale, .ras, .sec, .free] a0 (@State.standbyLost a0) := by
  unfold Sys2Proof.Machine.State.standbyLost
  refine Ext.step (Ext.set_power_regs_snaps_gens_ras_sec ..) rfl ?_
  refine Ext.step (State.surpriseOff_ext ..) rfl ?_
  exact Ext.refl _ _

theorem execInputLoss_ext (a0 : State) :
    HAll (fun x => Ext [.power, .rst, .jrn, .regs, .snaps, .retained, .hlk, .kernels, .gens, .loads, .launches, .cores, .shoals, .gpr, .preds, .lflags, .sram, .sramUe, .mem, .queues, .act, .shl, .fab, .red, .scale, .ras, .sec, .free] a0 x) (@execInputLoss a0) := by
  unfold Sys2Proof.Machine.execInputLoss
  refine HAll.next ?_
  refine Ext.ite ?_ ?_
  refine Ext.step (State.standbyLost_ext ..) rfl ?_
  exact Ext.refl _ _
  exact Ext.refl _ _

theorem execDieHot_ext (a0 : BitVec 16) (a1 : State) :
    HAll (fun x => Ext [.power, .regs, .hlk] a1 x) (@execDieHot a0 a1) := by
  unfold Sys2Proof.Machine.execDieHot
  refine HAll.next ?_
  refine Ext.ite ?_ ?_
  refine Ext.step (State.latchPwr_ext ..) rfl ?_
  refine Ext.step (State.dieTemp_ext ..) rfl ?_
  refine Ext.step (State.p_ext ..) rfl ?_
  exact Ext.refl _ _
  exact Ext.refl _ _

theorem execPresMake_ext (a0 : State) :
    HAll (fun x => Ext [.power, .regs, .hlk] a0 x) (@execPresMake a0) := by
  unfold Sys2Proof.Machine.execPresMake
  refine HAll.next ?_
  refine Ext.ite ?_ ?_
  refine Ext.step (State.debounceStart_ext ..) rfl ?_
  refine Ext.step (State.bump_ext ..) rfl ?_
  refine Ext.step (Ext.set_power ..) rfl ?_
  exact Ext.refl _ _
  exact Ext.refl _ _

theorem execClockPowerLoopTick_ext (a0 : BitVec 16) (a1 : State) :
    HAll (fun x => Ext [.power, .regs, .hlk] a1 x) (@execClockPowerLoopTick a0 a1) := by
  unfold Sys2Proof.Machine.execClockPowerLoopTick
  refine HAll.next ?_
  refine Ext.ite ?_ ?_
  refine Ext.step (State.loopTick_ext ..) rfl ?_
  exact Ext.refl _ _
  exact Ext.refl _ _

theorem State.leave_ext (a0 : State) :
    Ext [.regs, .hlk] a0 (@State.leave a0) := by
  unfold Sys2Proof.Machine.State.leave
  refine foldl_all (P := fun x => Ext _ _ x) ?_ ?_
  exact Ext.refl _ _
  intro _
  intro _
  intro _
  refine Ext.step (State.mgmt_ext ..) rfl ?_
  with_reducible assumption

theorem execRemovalDrainResume_ext (a0 : State) :
    HAll (fun x => Ext [.power, .rst, .jrn, .regs, .snaps, .retained, .hlk, .kernels, .loads, .launches, .cores, .shoals, .gpr, .preds, .lflags, .sram, .sramUe, .mem, .queues, .act, .shl, .fab, .red, .scale, .ras, .free] a0 x) (@execRemovalDrainResume a0) := by
  unfold Sys2Proof.Machine.execRemovalDrainResume
  refine HAll.next ?_
  refine Ext.ite ?_ ?_
  refine Ext.step (State.drainDone_ext ..) rfl ?_
  refine Ext.step (State.persist_ext ..) rfl ?_
  refine Ext.step (State.leave_ext ..) rfl ?_
  exact Ext.refl _ _
  exact Ext.refl _ _

theorem execInletHigh_ext (a0 : BitVec 16) (a1 : State) :
    HAll (fun x => Ext [.power, .regs, .hlk] a1 x) (@execInletHigh a0 a1) := by
  unfold Sys2Proof.Machine.execInletHigh
  refine HAll.next ?_
  refine Ext.ite ?_ ?_
  refine Ext.step (State.latchPwr_ext ..) rfl ?_
  refine Ext.step (Ext.set_power ..) rfl ?_
  refine Ext.step (State.p_ext ..) rfl ?_
  exact Ext.refl _ _
  exact Ext.refl _ _

theorem execThermalRestart_ext (a0 : State) :
    HAll (fun x => Ext [.power] a0 x) (@execThermalRestart a0) := by
  unfold Sys2Proof.Machine.execThermalRestart
  refine HAll.next ?_
  refine Ext.ite ?_ ?_
  refine Ext.ite ?_ ?_
  refine Ext.step (Ext.set_power ..) rfl ?_
  refine Ext.step (Ext.set_power ..) rfl ?_
  exact Ext.refl _ _
  refine Ext.step (Ext.set_power ..) rfl ?_
  exact Ext.refl _ _
  exact Ext.refl _ _

theorem execRemoveReq_ext (a0 : State) :
    HAll (fun x => Ext [.power, .regs, .hlk] a0 x) (@execRemoveReq a0) := by
  unfold Sys2Proof.Machine.execRemoveReq
  refine HAll.next ?_
  unfold Sys2Proof.Machine.State.pageWrite
  refine Ext.ite ?_ ?_
  exact Ext.refl _ _
  refine Ext.ite ?_ ?_
  refine Ext.step (State.refuse_ext ..) rfl ?_
  exact Ext.refl _ _
  refine Ext.step (State.removeReq_ext ..) rfl ?_
  exact Ext.refl _ _

theorem State.loadCores_ext (a0 : State) (a1 : Bytes) :
    Ext [.ras] a0 (@State.loadCores a0 a1) := by
  unfold Sys2Proof.Machine.State.loadCores
  refine foldl_all (P := fun x => Ext _ _ x) ?_ ?_
  refine foldl_all (P := fun x => Ext _ _ x) ?_ ?_
  exact Ext.refl _ _
  intro _
  intro _
  intro _
  refine Ext.step (State.setPcore_ext ..) rfl ?_
  with_reducible assumption
  intro _
  intro _
  intro _
  refine Ext.ite ?_ ?_
  with_reducible assumption
  refine Ext.step (State.setPcore_ext ..) rfl ?_
  with_reducible assumption

theorem execOpticHot_ext (a0 : ℕ) (a1 : State) :
    HAll (fun x => Ext [.power, .rst, .regs, .snaps, .hlk, .cores, .sram, .sramUe, .mem, .queues, .act, .fab, .ras, .free] a1 x) (@execOpticHot a0 a1) := by
  unfold Sys2Proof.Machine.execOpticHot
  refine HAll.next ?_
  refine Ext.ite ?_ ?_
  refine Ext.step (State.opticsOff_ext ..) rfl ?_
  exact Ext.refl _ _
  exact Ext.refl _ _

theorem execDimmHot_ext (a0 : ℕ) (a1 : State) :
    HAll (fun x => Ext [.power, .regs, .hlk] a1 x) (@execDimmHot a0 a1) := by
  unfold Sys2Proof.Machine.execDimmHot
  refine HAll.next ?_
  refine Ext.ite ?_ ?_
  refine Ext.step (State.latchPwr_ext ..) rfl ?_
  refine Ext.step (Ext.set_power ..) rfl ?_
  exact Ext.refl _ _
  exact Ext.refl _ _

theorem execVinBandChange_ext (a0 : BitVec 16) (a1 : State) :
    HAll (fun x => Ext [.regs] a1 x) (@execVinBandChange a0 a1) := by
  unfold Sys2Proof.Machine.execVinBandChange
  refine HAll.next ?_
  refine Ext.ite ?_ ?_
  refine Ext.step (State.vin_ext ..) rfl ?_
  exact Ext.refl _ _
  exact Ext.refl _ _

theorem State.tlmLoad_ext (a0 : State) :
    Ext [.regs, .hlk, .ras] a0 (@State.tlmLoad a0) := by
  unfold Sys2Proof.Machine.State.tlmLoad
  (dsimp only; split)
  refine Ext.ite ?_ ?_
  refine Ext.step (State.p_ext ..) rfl ?_
  refine Ext.step (State.loadCores_ext ..) rfl ?_
  refine Ext.step (State.loadTlm_ext ..) rfl ?_
  exact Ext.refl _ _
  refine Ext.step (State.raise_ext ..) rfl ?_
  refine Ext.step (State.p_ext ..) rfl ?_
  refine Ext.step (State.loadCores_ext ..) rfl ?_
  refine Ext.step (State.loadTlm_ext ..) rfl ?_
  exact Ext.refl _ _
  exact Ext.refl _ _

theorem State.standbyUp_ext (a0 : State) :
    Ext [.power, .clock, .regs, .hlk, .ras] a0 (@State.standbyUp a0) := by
  unfold Sys2Proof.Machine.State.standbyUp
  refine Ext.step (State.tlmLoad_ext ..) rfl ?_
  refine Ext.step (Ext.set_power_clock_ras ..) rfl ?_
  exact Ext.refl _ _

theorem execOvRelease_ext (a0 : BitVec 16) (a1 : State) :
    HAll (fun x => Ext [.power, .regs] a1 x) (@execOvRelease a0 a1) := by
  unfold Sys2Proof.Machine.execOvRelease
  refine HAll.next ?_
  refine Ext.ite ?_ ?_
  refine Ext.step (State.debounceStart_ext ..) rfl ?_
  refine Ext.step (State.vin_ext ..) rfl ?_
  refine Ext.step (Ext.set_power ..) rfl ?_
  exact Ext.refl _ _
  exact Ext.refl _ _

theorem execPowerLimitFallTick_ext (a0 : BitVec 16) (a1 : BitVec 16) (a2 : State) :
    HAll (fun x => Ext [.power] a2 x) (@execPowerLimitFallTick a0 a1 a2) := by
  unfold Sys2Proof.Machine.execPowerLimitFallTick
  refine HAll.next ?_
  refine Ext.ite ?_ ?_
  refine Ext.step (State.limitFall_ext ..) rfl ?_
  exact Ext.refl _ _
  exact Ext.refl _ _

theorem execPresBreak_ext (a0 : State) :
    HAll (fun x => Ext [.power, .rst, .jrn, .regs, .snaps, .retained, .hlk, .kernels, .loads, .launches, .cores, .shoals, .gpr, .preds, .lflags, .sram, .sramUe, .mem, .queues, .act, .shl, .fab, .red, .scale, .ras, .free] a0 x) (@execPresBreak a0) := by
  unfold Sys2Proof.Machine.execPresBreak
  refine HAll.next ?_
  refine Ext.ite ?_ ?_
  refine Ext.ite ?_ ?_
  refine Ext.step (Ext.set_power ..) rfl ?_
  exact Ext.refl _ _
  refine Ext.step (State.surpriseOff_ext ..) rfl ?_
  refine Ext.step (Ext.set_power ..) rfl ?_
  exact Ext.refl _ _
  exact Ext.refl _ _

theorem execPresDebounceDone_ext (a0 : State) :
    HAll (fun x => Ext [.power] a0 x) (@execPresDebounceDone a0) := by
  unfold Sys2Proof.Machine.execPresDebounceDone
  refine HAll.next ?_
  refine Ext.ite ?_ ?_
  refine Ext.step (Ext.set_power ..) rfl ?_
  exact Ext.refl _ _
  exact Ext.refl _ _

theorem execV36Make_ext (a0 : State) :
    HAll (fun x => Ext [.power, .clock, .regs, .hlk, .ras] a0 x) (@execV36Make a0) := by
  unfold Sys2Proof.Machine.execV36Make
  refine HAll.next ?_
  refine Ext.ite ?_ ?_
  exact Ext.refl _ _
  refine Ext.step (State.standbyUp_ext ..) rfl ?_
  exact Ext.refl _ _

end Sys2Proof.Machine
end

