-- ==== Sys2Proof/Laws/FrameJournal.lean ====
section
/-! SUPPORT. What each definition of Machine/Journal.lean may change: every part that its lemma does not name stays, and memory keeps
its canonical form. -/

set_option maxRecDepth 4000

namespace Sys2Proof.Machine

theorem execJournalTwinTimeout_ext (a0 : State) :
    HAll (fun x => Ext [.jrn, .regs, .hlk] a0 x) (@execJournalTwinTimeout a0) := by
  unfold Sys2Proof.Machine.execJournalTwinTimeout
  refine HAll.next ?_
  refine Ext.ite ?_ ?_
  refine Ext.ite ?_ ?_
  refine Ext.step (State.holdCommit_ext ..) rfl ?_
  refine Ext.step (Ext.set_jrn ..) rfl ?_
  refine Ext.step (State.p_ext ..) rfl ?_
  exact Ext.refl _ _
  refine Ext.step (State.holdCommit_ext ..) rfl ?_
  refine Ext.step (Ext.set_jrn ..) rfl ?_
  exact Ext.refl _ _
  exact Ext.refl _ _

theorem State.jrnGo_ext (a0 : State) :
    Ext [.jrn, .regs] a0 (@State.jrnGo a0) := by
  unfold Sys2Proof.Machine.State.jrnGo
  refine Ext.step (State.p_ext ..) rfl ?_
  refine Ext.step (Ext.set_jrn ..) rfl ?_
  exact Ext.refl _ _

theorem State.jrnSkip_ext (a0 : State) :
    Ext [.rst, .jrn, .regs, .retained, .hlk, .cores, .shoals, .mem, .act, .fab, .red, .scale, .ras, .free] a0 (@State.jrnSkip a0) := by
  unfold Sys2Proof.Machine.State.jrnSkip
  refine Ext.step (State.skipEnd_ext ..) rfl ?_
  refine Ext.step (State.jrnGo_ext ..) rfl ?_
  refine Ext.step (Ext.set_free ..) rfl ?_
  exact Ext.refl _ _

theorem State.back_ext (a0 : State) :
    Ext [.jrn, .regs, .hlk, .shoals, .mem, .red] a0 (@State.back a0) := by
  unfold Sys2Proof.Machine.State.back
  split
  exact Ext.refl _ _
  refine Ext.ite ?_ ?_
  refine Ext.step (State.holdCommit_ext ..) rfl ?_
  refine Ext.step (State.jrnGo_ext ..) rfl ?_
  exact Ext.refl _ _
  split
  refine Ext.ofO ?_ ‹_›
  refine OAll.step (State.redoSlabs_ext ..) rfl ?_
  refine Ext.step (State.setPhase_ext ..) rfl ?_
  refine Ext.step (State.jrnGo_ext ..) rfl ?_
  exact Ext.refl _ _
  exact Ext.refl _ _

theorem State.goForward_ext (a0 : State) (a1 : Bool) :
    Ext [.rst, .jrn, .regs, .retained, .hlk, .cores, .shoals, .mem, .act, .fab, .red, .scale, .ras, .free] a0 (@State.goForward a0 a1) := by
  unfold Sys2Proof.Machine.State.goForward
  refine Ext.ite ?_ ?_
  refine Ext.step (State.commitEnd_ext ..) rfl ?_
  refine Ext.step (State.setPhase_ext ..) rfl ?_
  refine Ext.step (State.p_ext ..) rfl ?_
  refine Ext.step (State.setPhase_ext ..) rfl ?_
  exact Ext.refl _ _
  refine Ext.step (State.mirrored_ext ..) rfl ?_
  refine Ext.step (State.setPhase_ext ..) rfl ?_
  refine Ext.step (State.p_ext ..) rfl ?_
  refine Ext.step (State.setPhase_ext ..) rfl ?_
  exact Ext.refl _ _

theorem State.forward_ext (a0 : State) (a1 : Bool) :
    Ext [.rst, .jrn, .regs, .retained, .hlk, .cores, .shoals, .mem, .act, .fab, .red, .scale, .ras, .free] a0 (@State.forward a0 a1) := by
  unfold Sys2Proof.Machine.State.forward
  split
  exact Ext.refl _ _
  refine Ext.step (State.goForward_ext ..) rfl ?_
  refine Ext.step (State.jrnGo_ext ..) rfl ?_
  exact Ext.refl _ _
  refine Ext.step (State.holdCommit_ext ..) rfl ?_
  refine Ext.step (State.jrnGo_ext ..) rfl ?_
  exact Ext.refl _ _

theorem State.alone_ext (a0 : State) :
    Ext [.rst, .jrn, .regs, .retained, .hlk, .cores, .shoals, .mem, .act, .fab, .red, .scale, .ras, .free] a0 (@State.alone a0) := by
  unfold Sys2Proof.Machine.State.alone
  split
  refine Ext.step (State.back_ext ..) rfl ?_
  exact Ext.refl _ _
  split
  exact Ext.refl _ _
  refine Ext.step (State.goForward_ext ..) rfl ?_
  refine Ext.step (State.jrnGo_ext ..) rfl ?_
  exact Ext.refl _ _
  refine Ext.step (State.back_ext ..) rfl ?_
  exact Ext.refl _ _
  refine Ext.step (State.forward_ext ..) rfl ?_
  exact Ext.refl _ _
  refine Ext.step (State.goForward_ext ..) rfl ?_
  refine Ext.step (State.jrnGo_ext ..) rfl ?_
  exact Ext.refl _ _
  exact Ext.refl _ _

theorem State.twinLost_ext (a0 : State) :
    Ext [.rst, .jrn, .regs, .retained, .hlk, .cores, .shoals, .mem, .act, .fab, .red, .scale, .ras, .free] a0 (@State.twinLost a0) := by
  unfold Sys2Proof.Machine.State.twinLost
  refine Ext.ite ?_ ?_
  exact Ext.refl _ _
  refine Ext.ite ?_ ?_
  refine Ext.step (State.p_ext ..) rfl ?_
  refine Ext.step (State.p_ext ..) rfl ?_
  exact Ext.refl _ _
  refine Ext.ite ?_ ?_
  refine Ext.step (State.jrnSkip_ext ..) rfl ?_
  refine Ext.step (State.p_ext ..) rfl ?_
  refine Ext.step (State.p_ext ..) rfl ?_
  exact Ext.refl _ _
  refine Ext.step (State.alone_ext ..) rfl ?_
  refine Ext.step (State.p_ext ..) rfl ?_
  refine Ext.step (State.p_ext ..) rfl ?_
  exact Ext.refl _ _

theorem execJournalResolutionBegin_ext (a0 : State) :
    HAll (fun x => Ext [.rst, .jrn, .regs, .retained, .hlk, .cores, .shoals, .mem, .act, .fab, .red, .scale, .ras, .free] a0 x) (@execJournalResolutionBegin a0) := by
  unfold Sys2Proof.Machine.execJournalResolutionBegin
  refine HAll.next ?_
  refine Ext.ite ?_ ?_
  refine Ext.ite ?_ ?_
  refine Ext.step (State.jrnSkip_ext ..) rfl ?_
  exact Ext.refl _ _
  refine Ext.ite ?_ ?_
  refine Ext.step (State.alone_ext ..) rfl ?_
  exact Ext.refl _ _
  refine Ext.step (Ext.set_jrn ..) rfl ?_
  exact Ext.refl _ _
  exact Ext.refl _ _

theorem execTwinLost_ext (a0 : State) :
    HAll (fun x => Ext [.rst, .jrn, .regs, .retained, .hlk, .cores, .shoals, .mem, .act, .fab, .red, .scale, .ras, .free] a0 x) (@execTwinLost a0) := by
  unfold Sys2Proof.Machine.execTwinLost
  refine HAll.next ?_
  unfold Sys2Proof.Machine.State.pageWrite
  refine Ext.ite ?_ ?_
  exact Ext.refl _ _
  refine Ext.ite ?_ ?_
  refine Ext.step (State.refuse_ext ..) rfl ?_
  exact Ext.refl _ _
  refine Ext.step (State.twinLost_ext ..) rfl ?_
  exact Ext.refl _ _

theorem State.twinAnswer_ext (a0 : State) (a1 : ℕ) :
    Ext [.rst, .jrn, .regs, .retained, .hlk, .cores, .shoals, .mem, .act, .fab, .red, .scale, .ras, .free] a0 (@State.twinAnswer a0 a1) := by
  unfold Sys2Proof.Machine.State.twinAnswer
  split
  refine Ext.ite ?_ ?_
  refine Ext.step (State.back_ext ..) rfl ?_
  exact Ext.refl _ _
  exact Ext.refl _ _
  refine Ext.ite ?_ ?_
  refine Ext.step (State.back_ext ..) rfl ?_
  exact Ext.refl _ _
  refine Ext.step (State.forward_ext ..) rfl ?_
  exact Ext.refl _ _
  refine Ext.step (State.forward_ext ..) rfl ?_
  exact Ext.refl _ _
  refine Ext.ite ?_ ?_
  refine Ext.step (State.goForward_ext ..) rfl ?_
  refine Ext.step (State.jrnGo_ext ..) rfl ?_
  exact Ext.refl _ _
  refine Ext.step (State.mirrored_ext ..) rfl ?_
  refine Ext.step (State.jrnGo_ext ..) rfl ?_
  exact Ext.refl _ _
  exact Ext.refl _ _

theorem execJournalTwinAnswer_ext (a0 : ℕ) (a1 : Bool) (a2 : State) :
    HAll (fun x => Ext [.rst, .jrn, .regs, .retained, .hlk, .cores, .shoals, .mem, .act, .fab, .red, .scale, .ras, .free] a2 x) (@execJournalTwinAnswer a0 a1 a2) := by
  unfold Sys2Proof.Machine.execJournalTwinAnswer
  refine HAll.next ?_
  refine Ext.ite ?_ ?_
  refine Ext.ite ?_ ?_
  refine Ext.step (State.mirrored_ext ..) rfl ?_
  refine Ext.step (State.jrnGo_ext ..) rfl ?_
  exact Ext.refl _ _
  refine Ext.ite ?_ ?_
  refine Ext.step (State.alone_ext ..) rfl ?_
  exact Ext.refl _ _
  refine Ext.step (State.twinAnswer_ext ..) rfl ?_
  exact Ext.refl _ _
  exact Ext.refl _ _

end Sys2Proof.Machine
end

