-- ==== Sys2Proof/Laws/FrameBar0.lean ====
section
/-! SUPPORT. What each definition of Machine/Bar0.lean may change: every part that its lemma does not name stays, and memory keeps
its canonical form. -/

set_option maxRecDepth 4000

namespace Sys2Proof.Machine

theorem Ext.set_clock_rst (s : State) (vclock : Clock) (vrst : Rst) : Ext [.clock, .rst] s { s with clock := vclock, rst := vrst } :=
  ⟨fun q hq => by cases q <;> first | rfl | simp at hq, fun hs => hs⟩

theorem State.release_ext (a0 : State) (a1 : Blk) (a2 : ℕ) :
    Ext [.rst, .regs, .snaps, .hlk, .launches, .cores, .shoals, .sram, .sramUe, .mem, .queues, .act, .shl, .fab, .red, .ras, .sec, .free] a0 (@State.release a0 a1 a2) := by
  unfold Sys2Proof.Machine.State.release
  (dsimp only; split)
  refine Ext.step (State.mbxServe_ext ..) rfl ?_
  refine Ext.step (Ext.set_rst ..) rfl ?_
  exact Ext.refl _ _
  refine Ext.step (xltRelease_ext ..) rfl ?_
  refine Ext.step (Ext.set_rst ..) rfl ?_
  exact Ext.refl _ _
  refine Ext.step (State.kvTry_ext ..) rfl ?_
  refine Ext.step (Ext.set_rst ..) rfl ?_
  exact Ext.refl _ _
  refine Ext.step (Ext.set_rst ..) rfl ?_
  exact Ext.refl _ _
  refine Ext.step (Ext.set_rst ..) rfl ?_
  exact Ext.refl _ _
  refine Ext.step (Ext.set_rst ..) rfl ?_
  exact Ext.refl _ _
  refine Ext.step (Ext.set_rst ..) rfl ?_
  exact Ext.refl _ _
  refine Ext.step (Ext.set_rst ..) rfl ?_
  exact Ext.refl _ _
  refine Ext.step (Ext.set_rst ..) rfl ?_
  exact Ext.refl _ _
  refine Ext.step (Ext.set_rst ..) rfl ?_
  exact Ext.refl _ _
  refine Ext.step (Ext.set_rst ..) rfl ?_
  exact Ext.refl _ _
  refine Ext.step (Ext.set_rst ..) rfl ?_
  exact Ext.refl _ _
  refine Ext.step (Ext.set_rst ..) rfl ?_
  exact Ext.refl _ _
  refine Ext.step (Ext.set_rst ..) rfl ?_
  exact Ext.refl _ _
  refine Ext.step (Ext.set_rst ..) rfl ?_
  exact Ext.refl _ _
  refine Ext.step (Ext.set_rst ..) rfl ?_
  exact Ext.refl _ _
  refine Ext.step (Ext.set_rst ..) rfl ?_
  exact Ext.refl _ _
  refine Ext.step (Ext.set_rst ..) rfl ?_
  exact Ext.refl _ _
  refine Ext.step (Ext.set_rst ..) rfl ?_
  exact Ext.refl _ _

theorem State.unmask_ext (a0 : State) (a1 : ℕ) :
    Ext [.hlk] a0 (@State.unmask a0 a1) := by
  unfold Sys2Proof.Machine.State.unmask
  refine Ext.ite ?_ ?_
  refine Ext.step (State.out_ext ..) rfl ?_
  refine Ext.step (State.setMsix_ext ..) rfl ?_
  exact Ext.refl _ _
  refine Ext.step (State.setMsix_ext ..) rfl ?_
  exact Ext.refl _ _

theorem execMsixUnmask_ext (a0 : ℕ) (a1 : State) :
    HAll (fun x => Ext [.hlk] a1 x) (@execMsixUnmask a0 a1) := by
  unfold Sys2Proof.Machine.execMsixUnmask
  refine HAll.next ?_
  refine Ext.ite ?_ ?_
  refine Ext.step (State.unmask_ext ..) rfl ?_
  exact Ext.refl _ _
  exact Ext.refl _ _

theorem State.ifWrite_ext (a0 : State) (a1 : ℕ) (a2 : ℕ) (a3 : ℕ) :
    Ext [.regs, .hlk] a0 (@State.ifWrite a0 a1 a2 a3) := by
  unfold Sys2Proof.Machine.State.ifWrite
  (dsimp only; split)
  refine Ext.ite ?_ ?_
  refine Ext.step (State.raise_ext ..) rfl ?_
  exact Ext.refl _ _
  refine Ext.step (State.p_ext ..) rfl ?_
  refine Ext.step (State.p_ext ..) rfl ?_
  exact Ext.refl _ _
  exact Ext.refl _ _

theorem execDevIfCapFloorWrite_ext (a0 : ℕ) (a1 : BitVec 8) (a2 : BitVec 8) (a3 : State) :
    HAll (fun x => Ext [.regs, .hlk] a3 x) (@execDevIfCapFloorWrite a0 a1 a2 a3) := by
  unfold Sys2Proof.Machine.execDevIfCapFloorWrite
  refine HAll.next ?_
  refine Ext.ite ?_ ?_
  unfold Sys2Proof.Machine.State.pageWrite
  refine Ext.ite ?_ ?_
  exact Ext.refl _ _
  refine Ext.ite ?_ ?_
  refine Ext.step (State.refuse_ext ..) rfl ?_
  exact Ext.refl _ _
  refine Ext.ite ?_ ?_
  refine Ext.step (State.refuse_ext ..) rfl ?_
  exact Ext.refl _ _
  refine Ext.step (State.ifWrite_ext ..) rfl ?_
  exact Ext.refl _ _
  exact Ext.refl _ _

theorem execDevLockWrite_ext (a0 : Bool) (a1 : State) :
    HAll (fun x => Ext [.regs, .hlk] a1 x) (@execDevLockWrite a0 a1) := by
  unfold Sys2Proof.Machine.execDevLockWrite
  refine HAll.next ?_
  unfold Sys2Proof.Machine.State.pageWrite
  refine Ext.ite ?_ ?_
  exact Ext.refl _ _
  refine Ext.ite ?_ ?_
  refine Ext.step (State.refuse_ext ..) rfl ?_
  exact Ext.refl _ _
  refine Ext.ite ?_ ?_
  refine Ext.step (State.refuse_ext ..) rfl ?_
  exact Ext.refl _ _
  refine Ext.step (State.p_ext ..) rfl ?_
  exact Ext.refl _ _

theorem State.plainWrite_ext (a0 : State) (a1 : Blk) (a2 : ℕ) (a3 : ℕ) (a4 : ℕ) (a5 : Word) :
    Ext [.regs] a0 (@State.plainWrite a0 a1 a2 a3 a4 a5) := by
  unfold Sys2Proof.Machine.State.plainWrite
  split
  refine Ext.step (State.wr_ext ..) rfl ?_
  exact Ext.refl _ _
  exact Ext.refl _ _

theorem State.eventWrite_ext (a0 : State) (a1 : Blk) (a2 : ℕ) (a3 : ℕ) (a4 : ℕ) (a5 : Word) :
    Ext [.regs, .hlk] a0 (@State.eventWrite a0 a1 a2 a3 a4 a5) := by
  unfold Sys2Proof.Machine.State.eventWrite
  refine Ext.ite ?_ ?_
  refine Ext.step (State.plainWrite_ext ..) rfl ?_
  exact Ext.refl _ _
  refine Ext.step (State.msix_ext ..) rfl ?_
  refine Ext.step (State.plainWrite_ext ..) rfl ?_
  exact Ext.refl _ _

theorem State.rtbaseWrite_ext (a0 : State) (a1 : Word) :
    Ext [.regs, .fab] a0 (@State.rtbaseWrite a0 a1) := by
  unfold Sys2Proof.Machine.State.rtbaseWrite
  refine Ext.ite ?_ ?_
  refine Ext.step (Ext.set_fab ..) rfl ?_
  refine Ext.step (State.plainWrite_ext ..) rfl ?_
  exact Ext.refl _ _
  refine Ext.step (State.plainWrite_ext ..) rfl ?_
  exact Ext.refl _ _

theorem State.mxResume_ext (a0 : State) (a1 : ℕ) :
    Ext [.cores] a0 (@State.mxResume a0 a1) := by
  unfold Sys2Proof.Machine.State.mxResume
  (dsimp only; split)
  refine Ext.step (State.setCore_ext ..) rfl ?_
  exact Ext.refl _ _
  exact Ext.refl _ _

theorem State.ctrlWrite_ext (a0 : State) (a1 : Blk) (a2 : ℕ) (a3 : ℕ) (a4 : Word) :
    Ext [.rst, .regs, .snaps, .hlk, .launches, .cores, .shoals, .sram, .sramUe, .mem, .queues, .act, .shl, .fab, .red, .ras, .sec, .free] a0 (@State.ctrlWrite a0 a1 a2 a3 a4) := by
  unfold Sys2Proof.Machine.State.ctrlWrite
  refine Ext.ite ?_ ?_
  refine Ext.step (State.plainWrite_ext ..) rfl ?_
  exact Ext.refl _ _
  refine Ext.step (State.release_ext ..) rfl ?_
  refine Ext.step (State.plainWrite_ext ..) rfl ?_
  exact Ext.refl _ _

theorem State.snapWrite_ext (a0 : State) (a1 : Blk) (a2 : ℕ) (a3 : Word) :
    Ext [.regs, .snaps] a0 (@State.snapWrite a0 a1 a2 a3) := by
  unfold Sys2Proof.Machine.State.snapWrite
  refine Ext.ite ?_ ?_
  exact Ext.refl _ _
  refine Ext.ite ?_ ?_
  refine Ext.step (State.takeSnap_ext ..) rfl ?_
  refine Ext.step (State.plainWrite_ext ..) rfl ?_
  exact Ext.refl _ _
  refine Ext.step (State.plainWrite_ext ..) rfl ?_
  exact Ext.refl _ _

theorem State.headerWrite_ext (a0 : State) (a1 : Blk) (a2 : ℕ) (a3 : ℕ) (a4 : ℕ) (a5 : Word) :
    Ext [.rst, .regs, .snaps, .hlk, .launches, .cores, .shoals, .gpr, .preds, .lflags, .sram, .sramUe, .mem, .queues, .act, .shl, .fab, .red, .ras, .sec, .free] a0 (@State.headerWrite a0 a1 a2 a3 a4 a5) := by
  unfold Sys2Proof.Machine.State.headerWrite
  refine Ext.ite ?_ ?_
  refine Ext.step (State.ctrlWrite_ext ..) rfl ?_
  exact Ext.refl _ _
  refine Ext.ite ?_ ?_
  refine Ext.step (State.eventWrite_ext ..) rfl ?_
  exact Ext.refl _ _
  refine Ext.ite ?_ ?_
  refine Ext.ite ?_ ?_
  refine Ext.step (State.plainWrite_ext ..) rfl ?_
  exact Ext.refl _ _
  exact Ext.refl _ _
  refine Ext.ite ?_ ?_
  refine Ext.ite ?_ ?_
  refine Ext.step (State.blockRequest_ext ..) rfl ?_
  exact Ext.refl _ _
  exact Ext.refl _ _
  refine Ext.ite ?_ ?_
  refine Ext.step (State.snapWrite_ext ..) rfl ?_
  exact Ext.refl _ _
  refine Ext.ite ?_ ?_
  refine Ext.ite ?_ ?_
  refine Ext.step (State.plainWrite_ext ..) rfl ?_
  exact Ext.refl _ _
  exact Ext.refl _ _
  exact Ext.refl _ _

theorem State.pwrctlWrite_ext (a0 : State) (a1 : ℕ) (a2 : Word) :
    Ext [.power, .regs, .hlk] a0 (@State.pwrctlWrite a0 a1 a2) := by
  unfold Sys2Proof.Machine.State.pwrctlWrite
  refine Ext.ite ?_ ?_
  refine Ext.step (State.removeReq_ext ..) rfl ?_
  refine Ext.ite ?_ ?_
  refine Ext.step (State.plainWrite_ext ..) rfl ?_
  exact Ext.refl _ _
  refine Ext.step (State.raise_ext ..) rfl ?_
  refine Ext.step (State.plainWrite_ext ..) rfl ?_
  exact Ext.refl _ _
  refine Ext.ite ?_ ?_
  refine Ext.step (State.plainWrite_ext ..) rfl ?_
  exact Ext.refl _ _
  refine Ext.step (State.raise_ext ..) rfl ?_
  refine Ext.step (State.plainWrite_ext ..) rfl ?_
  exact Ext.refl _ _

theorem State.scalestatWrite_ext (a0 : State) (a1 : ℕ) (a2 : Word) :
    Ext [.rst, .regs, .hlk, .cores, .mem, .scale, .ras, .free] a0 (@State.scalestatWrite a0 a1 a2) := by
  unfold Sys2Proof.Machine.State.scalestatWrite
  refine Ext.ite ?_ ?_
  refine Ext.step (State.scaleAction_ext ..) rfl ?_
  refine Ext.step (State.plainWrite_ext ..) rfl ?_
  exact Ext.refl _ _
  refine Ext.step (State.plainWrite_ext ..) rfl ?_
  exact Ext.refl _ _

theorem State.writeDev_ext (a0 : State) (a1 : ℕ) (a2 : ℕ) (a3 : Word) :
    Ext [.power, .rst, .regs, .hlk, .cores, .mem, .fab, .scale, .ras, .free] a0 (@State.writeDev a0 a1 a2 a3) := by
  unfold Sys2Proof.Machine.State.writeDev
  refine Ext.ite ?_ ?_
  refine Ext.step (State.pwrctlWrite_ext ..) rfl ?_
  exact Ext.refl _ _
  refine Ext.ite ?_ ?_
  refine Ext.step (State.ifWrite_ext ..) rfl ?_
  exact Ext.refl _ _
  refine Ext.ite ?_ ?_
  refine Ext.step (State.writeScaleCfg_ext ..) rfl ?_
  exact Ext.refl _ _
  refine Ext.ite ?_ ?_
  refine Ext.step (State.writeScaleBase_ext ..) rfl ?_
  exact Ext.refl _ _
  refine Ext.ite ?_ ?_
  refine Ext.step (State.writeRecipe_ext ..) rfl ?_
  exact Ext.refl _ _
  refine Ext.ite ?_ ?_
  refine Ext.step (State.scalestatWrite_ext ..) rfl ?_
  exact Ext.refl _ _
  refine Ext.ite ?_ ?_
  refine Ext.step (State.writeFabid_ext ..) rfl ?_
  exact Ext.refl _ _
  refine Ext.ite ?_ ?_
  refine Ext.step (State.rtbaseWrite_ext ..) rfl ?_
  exact Ext.refl _ _
  refine Ext.step (State.plainWrite_ext ..) rfl ?_
  exact Ext.refl _ _

theorem State.writeRcc_ext (a0 : State) (a1 : ℕ) (a2 : ℕ) (a3 : Word) :
    Ext [.rst, .jrn, .regs, .retained, .hlk, .cores, .shoals, .mem, .act, .fab, .red, .scale, .ras, .free] a0 (@State.writeRcc a0 a1 a2 a3) := by
  unfold Sys2Proof.Machine.State.writeRcc
  refine Ext.ite ?_ ?_
  refine Ext.step (State.writeRstCtrl_ext ..) rfl ?_
  exact Ext.refl _ _
  refine Ext.ite ?_ ?_
  refine Ext.ite ?_ ?_
  refine Ext.step (State.twinLost_ext ..) rfl ?_
  exact Ext.refl _ _
  exact Ext.refl _ _
  refine Ext.step (State.plainWrite_ext ..) rfl ?_
  exact Ext.refl _ _

theorem State.writeMbx_ext (a0 : State) (a1 : ℕ) (a2 : ℕ) (a3 : Word) :
    Ext [.rst, .regs, .snaps, .hlk, .launches, .cores, .shoals, .sram, .sramUe, .mem, .queues, .act, .shl, .fab, .red, .ras, .sec, .free] a0 (@State.writeMbx a0 a1 a2 a3) := by
  unfold Sys2Proof.Machine.State.writeMbx
  refine Ext.ite ?_ ?_
  refine Ext.step (State.mbxGo_ext ..) rfl ?_
  exact Ext.refl _ _
  refine Ext.step (State.plainWrite_ext ..) rfl ?_
  exact Ext.refl _ _

theorem State.writeHlk_ext (a0 : State) (a1 : ℕ) (a2 : ℕ) (a3 : Word) :
    Ext [.rst, .regs, .hlk, .loads, .launches, .cores, .shoals, .sram, .sramUe, .mem, .queues, .act, .shl, .red, .ras, .free] a0 (@State.writeHlk a0 a1 a2 a3) := by
  unfold Sys2Proof.Machine.State.writeHlk
  refine Ext.ite ?_ ?_
  refine Ext.step (State.writeExpose_ext ..) rfl ?_
  exact Ext.refl _ _
  refine Ext.ite ?_ ?_
  refine Ext.step (State.writeBias_ext ..) rfl ?_
  exact Ext.refl _ _
  refine Ext.ite ?_ ?_
  refine Ext.step (State.writeRcfg_ext ..) rfl ?_
  exact Ext.refl _ _
  refine Ext.ite ?_ ?_
  exact Ext.refl _ _
  refine Ext.step (State.plainWrite_ext ..) rfl ?_
  exact Ext.refl _ _

theorem State.writeXlt_ext (a0 : State) (a1 : ℕ) (a2 : ℕ) (a3 : Word) :
    Ext [.regs, .hlk, .mem] a0 (@State.writeXlt a0 a1 a2 a3) := by
  unfold Sys2Proof.Machine.State.writeXlt
  refine Ext.ite ?_ ?_
  refine Ext.step (xltGo_ext ..) rfl ?_
  refine Ext.ite ?_ ?_
  exact Ext.refl _ _
  refine Ext.step (State.plainWrite_ext ..) rfl ?_
  exact Ext.refl _ _
  refine Ext.ite ?_ ?_
  exact Ext.refl _ _
  refine Ext.step (State.plainWrite_ext ..) rfl ?_
  exact Ext.refl _ _

theorem State.writeSth_ext (a0 : State) (a1 : ℕ) (a2 : ℕ) (a3 : ℕ) (a4 : Word) :
    Ext [.rst, .regs, .hlk] a0 (@State.writeSth a0 a1 a2 a3 a4) := by
  unfold Sys2Proof.Machine.State.writeSth
  refine Ext.ite ?_ ?_
  refine Ext.step (State.raise_ext ..) rfl ?_
  exact Ext.refl _ _
  refine Ext.ite ?_ ?_
  refine Ext.step (State.raise_ext ..) rfl ?_
  exact Ext.refl _ _
  refine Ext.ite ?_ ?_
  refine Ext.step (State.writeStgCfg_ext ..) rfl ?_
  exact Ext.refl _ _
  refine Ext.step (State.plainWrite_ext ..) rfl ?_
  exact Ext.refl _ _

theorem State.writeCor_ext (a0 : State) (a1 : ℕ) (a2 : ℕ) (a3 : ℕ) (a4 : Word) :
    Ext [.rst, .regs, .hlk, .cores, .sram, .sramUe, .mem, .queues, .ras, .free] a0 (@State.writeCor a0 a1 a2 a3 a4) := by
  unfold Sys2Proof.Machine.State.writeCor
  refine Ext.ite ?_ ?_
  refine Ext.step (State.writePart_ext ..) rfl ?_
  exact Ext.refl _ _
  refine Ext.ite ?_ ?_
  refine Ext.step (State.setFlags_ext ..) rfl ?_
  exact Ext.refl _ _
  refine Ext.ite ?_ ?_
  refine Ext.step (State.clearFlags_ext ..) rfl ?_
  exact Ext.refl _ _
  refine Ext.ite ?_ ?_
  refine Ext.step (State.raise_ext ..) rfl ?_
  exact Ext.refl _ _
  refine Ext.ite ?_ ?_
  refine Ext.ite ?_ ?_
  exact Ext.refl _ _
  refine Ext.ite ?_ ?_
  refine Ext.step (State.mxResume_ext ..) rfl ?_
  refine Ext.step (State.plainWrite_ext ..) rfl ?_
  exact Ext.refl _ _
  refine Ext.step (State.plainWrite_ext ..) rfl ?_
  exact Ext.refl _ _
  refine Ext.step (State.plainWrite_ext ..) rfl ?_
  exact Ext.refl _ _

theorem State.writeAct_ext (a0 : State) (a1 : ℕ) (a2 : ℕ) (a3 : ℕ) (a4 : Word) :
    Ext [.rst, .regs, .hlk, .cores, .mem, .act, .ras, .free] a0 (@State.writeAct a0 a1 a2 a3 a4) := by
  unfold Sys2Proof.Machine.State.writeAct
  refine Ext.ite ?_ ?_
  refine Ext.ite ?_ ?_
  refine Ext.step (State.plainWrite_ext ..) rfl ?_
  exact Ext.refl _ _
  refine Ext.step (State.raise_ext ..) rfl ?_
  exact Ext.refl _ _
  refine Ext.ite ?_ ?_
  refine Ext.ite ?_ ?_
  exact Ext.refl _ _
  refine Ext.ite ?_ ?_
  refine foldl_all (P := fun x => Ext _ _ x) ?_ ?_
  exact Ext.refl _ _
  intro _
  intro _
  intro _
  refine Ext.step (State.freeOrDue_ext ..) rfl ?_
  with_reducible assumption
  refine Ext.step (State.raise_ext ..) rfl ?_
  exact Ext.refl _ _
  refine Ext.step (State.plainWrite_ext ..) rfl ?_
  exact Ext.refl _ _

theorem State.writeKvp_ext (a0 : State) (a1 : ℕ) (a2 : ℕ) (a3 : Word) :
    Ext [.rst, .regs, .hlk, .cores, .mem, .ras, .free] a0 (@State.writeKvp a0 a1 a2 a3) := by
  unfold Sys2Proof.Machine.State.writeKvp
  refine Ext.ite ?_ ?_
  refine Ext.ite ?_ ?_
  refine Ext.step (State.plainWrite_ext ..) rfl ?_
  exact Ext.refl _ _
  refine Ext.step (State.raise_ext ..) rfl ?_
  exact Ext.refl _ _
  refine Ext.ite ?_ ?_
  refine Ext.ite ?_ ?_
  exact Ext.refl _ _
  refine Ext.step (State.poolConfig_ext ..) rfl ?_
  exact Ext.refl _ _
  refine Ext.ite ?_ ?_
  refine Ext.step (State.kvGo_ext ..) rfl ?_
  exact Ext.refl _ _
  refine Ext.step (State.plainWrite_ext ..) rfl ?_
  exact Ext.refl _ _

theorem State.writeFab_ext (a0 : State) (a1 : ℕ) (a2 : ℕ) (a3 : ℕ) (a4 : Word) :
    Ext [.regs, .hlk, .mem, .fab] a0 (@State.writeFab a0 a1 a2 a3 a4) := by
  unfold Sys2Proof.Machine.State.writeFab
  refine Ext.ite ?_ ?_
  refine Ext.step (State.raise_ext ..) rfl ?_
  exact Ext.refl _ _
  refine Ext.ite ?_ ?_
  refine Ext.step (State.mcmdSend_ext ..) rfl ?_
  exact Ext.refl _ _
  refine Ext.ite ?_ ?_
  refine foldl_all (P := fun x => Ext _ _ x) ?_ ?_
  refine Ext.step (State.plainWrite_ext ..) rfl ?_
  exact Ext.refl _ _
  intro _
  intro _
  intro _
  refine Ext.ite ?_ ?_
  with_reducible assumption
  refine Ext.step (State.dropLink_ext ..) rfl ?_
  with_reducible assumption
  refine Ext.step (State.plainWrite_ext ..) rfl ?_
  exact Ext.refl _ _

theorem State.writeRed_ext (a0 : State) (a1 : ℕ) (a2 : ℕ) (a3 : Word) :
    Ext [.rst, .jrn, .regs, .retained, .hlk, .cores, .shoals, .mem, .act, .fab, .red, .scale, .ras, .free] a0 (@State.writeRed a0 a1 a2 a3) := by
  unfold Sys2Proof.Machine.State.writeRed
  refine Ext.ite ?_ ?_
  refine Ext.ite ?_ ?_
  refine Ext.step (State.raise_ext ..) rfl ?_
  exact Ext.refl _ _
  refine Ext.ite ?_ ?_
  refine Ext.step (State.plainWrite_ext ..) rfl ?_
  exact Ext.refl _ _
  refine Ext.step (State.wr_ext ..) rfl ?_
  exact Ext.refl _ _
  refine Ext.ite ?_ ?_
  refine Ext.ite ?_ ?_
  refine Ext.step (State.closeStep_ext ..) rfl ?_
  exact Ext.refl _ _
  refine Ext.ite ?_ ?_
  refine Ext.step (State.abandonStep_ext ..) rfl ?_
  exact Ext.refl _ _
  refine Ext.step (State.plainWrite_ext ..) rfl ?_
  exact Ext.refl _ _
  refine Ext.ite ?_ ?_
  refine Ext.step (State.writeBankset_ext ..) rfl ?_
  exact Ext.refl _ _
  refine Ext.ite ?_ ?_
  refine Ext.step (State.writeLwclr_ext ..) rfl ?_
  exact Ext.refl _ _
  refine Ext.ite ?_ ?_
  refine Ext.step (State.writeBsteer_ext ..) rfl ?_
  exact Ext.refl _ _
  refine Ext.ite ?_ ?_
  refine Ext.step (State.writeBsteer1_ext ..) rfl ?_
  exact Ext.refl _ _
  refine Ext.ite ?_ ?_
  refine Ext.step (State.writeBsteer2_ext ..) rfl ?_
  exact Ext.refl _ _
  refine Ext.step (State.plainWrite_ext ..) rfl ?_
  exact Ext.refl _ _

theorem State.writeRas_ext (a0 : State) (a1 : ℕ) (a2 : ℕ) (a3 : Word) :
    Ext [.rst, .regs, .hlk, .cores, .mem, .red, .ras, .free] a0 (@State.writeRas a0 a1 a2 a3) := by
  unfold Sys2Proof.Machine.State.writeRas
  refine Ext.ite ?_ ?_
  exact Ext.refl _ _
  refine Ext.ite ?_ ?_
  refine Ext.ite ?_ ?_
  refine Ext.step (State.vinject_ext ..) rfl ?_
  exact Ext.refl _ _
  exact Ext.refl _ _
  refine Ext.ite ?_ ?_
  refine Ext.step (State.writeLoadgate_ext ..) rfl ?_
  exact Ext.refl _ _
  refine Ext.ite ?_ ?_
  refine Ext.step (State.makeDue_ext ..) rfl ?_
  refine Ext.step (State.plainWrite_ext ..) rfl ?_
  exact Ext.refl _ _
  refine Ext.ite ?_ ?_
  refine Ext.step (State.p_ext ..) rfl ?_
  refine Ext.step (State.plainWrite_ext ..) rfl ?_
  exact Ext.refl _ _
  refine Ext.step (State.plainWrite_ext ..) rfl ?_
  exact Ext.refl _ _

theorem State.writeTlm_ext (a0 : State) (a1 : ℕ) (a2 : ℕ) (a3 : Word) :
    Ext [.regs, .snaps, .hlk, .ras] a0 (@State.writeTlm a0 a1 a2 a3) := by
  unfold Sys2Proof.Machine.State.writeTlm
  refine Ext.ite ?_ ?_
  exact Ext.refl _ _
  refine Ext.ite ?_ ?_
  refine Ext.step (State.persist_ext ..) rfl ?_
  exact Ext.refl _ _
  refine Ext.step (State.plainWrite_ext ..) rfl ?_
  exact Ext.refl _ _

theorem State.regWrite_ext (a0 : State) (a1 : Blk) (a2 : ℕ) (a3 : ℕ) (a4 : ℕ) (a5 : Word) :
    Ext [.power, .rst, .jrn, .regs, .snaps, .retained, .hlk, .loads, .launches, .cores, .shoals, .gpr, .preds, .lflags, .sram, .sramUe, .mem, .queues, .act, .shl, .fab, .red, .scale, .ras, .sec, .free] a0 (@State.regWrite a0 a1 a2 a3 a4 a5) := by
  unfold Sys2Proof.Machine.State.regWrite
  refine Ext.ite ?_ ?_
  refine Ext.step (State.headerWrite_ext ..) rfl ?_
  exact Ext.refl _ _
  split
  refine Ext.step (State.writeDev_ext ..) rfl ?_
  exact Ext.refl _ _
  refine Ext.step (State.writeRcc_ext ..) rfl ?_
  exact Ext.refl _ _
  refine Ext.step (State.writeMbx_ext ..) rfl ?_
  exact Ext.refl _ _
  refine Ext.step (State.writeHlk_ext ..) rfl ?_
  exact Ext.refl _ _
  refine Ext.ite ?_ ?_
  refine Ext.step (State.sdmCfg_ext ..) rfl ?_
  exact Ext.refl _ _
  refine Ext.step (State.plainWrite_ext ..) rfl ?_
  exact Ext.refl _ _
  refine Ext.step (State.writeXlt_ext ..) rfl ?_
  exact Ext.refl _ _
  refine Ext.step (State.writeSth_ext ..) rfl ?_
  exact Ext.refl _ _
  refine Ext.step (State.writeCor_ext ..) rfl ?_
  exact Ext.refl _ _
  refine Ext.step (State.writeAct_ext ..) rfl ?_
  exact Ext.refl _ _
  refine Ext.step (State.writeKvp_ext ..) rfl ?_
  exact Ext.refl _ _
  refine Ext.step (State.writeFab_ext ..) rfl ?_
  exact Ext.refl _ _
  refine Ext.step (State.writeRed_ext ..) rfl ?_
  exact Ext.refl _ _
  refine Ext.step (State.writeRas_ext ..) rfl ?_
  exact Ext.refl _ _
  refine Ext.step (State.writeTlm_ext ..) rfl ?_
  exact Ext.refl _ _
  refine Ext.step (State.plainWrite_ext ..) rfl ?_
  exact Ext.refl _ _
  refine Ext.step (State.plainWrite_ext ..) rfl ?_
  exact Ext.refl _ _
  refine Ext.step (State.plainWrite_ext ..) rfl ?_
  exact Ext.refl _ _
  refine Ext.step (State.plainWrite_ext ..) rfl ?_
  exact Ext.refl _ _
  refine Ext.step (State.plainWrite_ext ..) rfl ?_
  exact Ext.refl _ _

theorem State.applyWaiting_ext (a0 : State) (a1 : Blk) (a2 : ℕ) :
    Ext [.power, .rst, .jrn, .regs, .snaps, .retained, .hlk, .loads, .launches, .cores, .shoals, .gpr, .preds, .lflags, .sram, .sramUe, .mem, .queues, .act, .shl, .fab, .red, .scale, .ras, .sec, .free] a0 (@State.applyWaiting a0 a1 a2) := by
  unfold Sys2Proof.Machine.State.applyWaiting
  refine foldl_all (P := fun x => Ext _ _ x) ?_ ?_
  refine Ext.step (Ext.set_rst ..) rfl ?_
  exact Ext.refl _ _
  intro _
  intro _
  intro _
  refine Ext.step (State.regWrite_ext ..) rfl ?_
  with_reducible assumption

theorem State.msixWrite_ext (a0 : State) (a1 : ℕ) (a2 : ℕ) :
    Ext [.hlk] a0 (@State.msixWrite a0 a1 a2) := by
  unfold Sys2Proof.Machine.State.msixWrite
  (dsimp only; split)
  refine Ext.step (State.setMsix_ext ..) rfl ?_
  exact Ext.refl _ _
  refine Ext.step (State.setMsix_ext ..) rfl ?_
  exact Ext.refl _ _
  refine Ext.step (State.setMsix_ext ..) rfl ?_
  exact Ext.refl _ _
  refine Ext.ite ?_ ?_
  refine Ext.step (State.setMsix_ext ..) rfl ?_
  exact Ext.refl _ _
  refine Ext.step (State.unmask_ext ..) rfl ?_
  exact Ext.refl _ _

theorem State.bar2Write_ext (a0 : State) (a1 : ℕ) (a2 : ℕ) (a3 : Word) :
    Ext [.regs, .hlk] a0 (@State.bar2Write a0 a1 a2 a3) := by
  unfold Sys2Proof.Machine.State.bar2Write
  refine Ext.ite ?_ ?_
  exact Ext.refl _ _
  refine Ext.ite ?_ ?_
  refine Ext.ite ?_ ?_
  refine Ext.step (State.msixWrite_ext ..) rfl ?_
  refine Ext.step (State.msixWrite_ext ..) rfl ?_
  exact Ext.refl _ _
  refine Ext.step (State.msixWrite_ext ..) rfl ?_
  exact Ext.refl _ _
  refine Ext.ite ?_ ?_
  refine Ext.ite ?_ ?_
  refine Ext.step (State.tailBell_ext ..) rfl ?_
  exact Ext.refl _ _
  refine Ext.ite ?_ ?_
  refine Ext.step (State.headBell_ext ..) rfl ?_
  exact Ext.refl _ _
  exact Ext.refl _ _
  exact Ext.refl _ _

theorem State.bcastWrite_ext (a0 : State) (a1 : Bool) (a2 : Bcast) (a3 : ℕ) (a4 : ℕ) (a5 : Word) :
    Ext [.power, .rst, .jrn, .regs, .snaps, .retained, .hlk, .loads, .launches, .cores, .shoals, .gpr, .preds, .lflags, .sram, .sramUe, .mem, .queues, .act, .shl, .fab, .red, .scale, .ras, .sec, .free] a0 (@State.bcastWrite a0 a1 a2 a3 a4 a5) := by
  unfold Sys2Proof.Machine.State.bcastWrite
  refine Ext.ite ?_ ?_
  refine Ext.step (State.refuse_ext ..) rfl ?_
  refine foldl_all (P := fun x => Ext _ _ x) ?_ ?_
  exact Ext.refl _ _
  intro _
  intro _
  intro _
  refine Ext.ite ?_ ?_
  refine Ext.step (Ext.set_rst ..) rfl ?_
  with_reducible assumption
  refine Ext.ite ?_ ?_
  refine Ext.step (State.regWrite_ext ..) rfl ?_
  with_reducible assumption
  with_reducible assumption
  refine foldl_all (P := fun x => Ext _ _ x) ?_ ?_
  exact Ext.refl _ _
  intro _
  intro _
  intro _
  refine Ext.ite ?_ ?_
  refine Ext.step (Ext.set_rst ..) rfl ?_
  with_reducible assumption
  refine Ext.ite ?_ ?_
  refine Ext.step (State.regWrite_ext ..) rfl ?_
  with_reducible assumption
  with_reducible assumption

theorem State.bar0Write_ext (a0 : State) (a1 : Bool) (a2 : ℕ) (a3 : ℕ) (a4 : Word) :
    Ext [.power, .rst, .jrn, .regs, .snaps, .retained, .hlk, .loads, .launches, .cores, .shoals, .gpr, .preds, .lflags, .sram, .sramUe, .mem, .queues, .act, .shl, .fab, .red, .scale, .ras, .sec, .free] a0 (@State.bar0Write a0 a1 a2 a3 a4) := by
  unfold Sys2Proof.Machine.State.bar0Write
  split
  refine Ext.step (State.refuse_ext ..) rfl ?_
  exact Ext.refl _ _
  refine Ext.ite ?_ ?_
  refine Ext.step (State.retWrite_ext ..) rfl ?_
  exact Ext.refl _ _
  split
  refine Ext.step (State.regWrite_ext ..) rfl ?_
  exact Ext.refl _ _
  split
  refine Ext.step (State.bcastWrite_ext ..) rfl ?_
  exact Ext.refl _ _
  exact Ext.refl _ _

theorem execRegisterWrite_ext (a0 : Bool) (a1 : ℕ) (a2 : ℕ) (a3 : Word) (a4 : State) :
    HAll (fun x => Ext [.power, .rst, .jrn, .regs, .snaps, .retained, .hlk, .loads, .launches, .cores, .shoals, .gpr, .preds, .lflags, .sram, .sramUe, .mem, .queues, .act, .shl, .fab, .red, .scale, .ras, .sec, .free] a4 x) (@execRegisterWrite a0 a1 a2 a3 a4) := by
  unfold Sys2Proof.Machine.execRegisterWrite
  refine HAll.next ?_
  refine Ext.ite ?_ ?_
  refine Ext.ite ?_ ?_
  exact Ext.refl _ _
  refine Ext.step (State.bar2Write_ext ..) rfl ?_
  exact Ext.refl _ _
  refine Ext.step (State.bar0Write_ext ..) rfl ?_
  exact Ext.refl _ _

theorem execCntSnapTake_ext (a0 : Blk) (a1 : ℕ) (a2 : State) :
    HAll (fun x => Ext [.regs, .snaps] a2 x) (@execCntSnapTake a0 a1 a2) := by
  unfold Sys2Proof.Machine.execCntSnapTake
  refine HAll.next ?_
  refine Ext.ite ?_ ?_
  refine Ext.step (State.takeSnap_ext ..) rfl ?_
  exact Ext.refl _ _
  exact Ext.refl _ _

theorem execEventRegWrite_ext (a0 : Blk) (a1 : ℕ) (a2 : ℕ) (a3 : Word) (a4 : State) :
    HAll (fun x => Ext [.regs, .hlk] a4 x) (@execEventRegWrite a0 a1 a2 a3 a4) := by
  unfold Sys2Proof.Machine.execEventRegWrite
  refine HAll.next ?_
  refine Ext.ite ?_ ?_
  refine Ext.step (State.eventWrite_ext ..) rfl ?_
  exact Ext.refl _ _
  exact Ext.refl _ _

theorem State.phyRecord_ext (a0 : State) (a1 : Blk) (a2 : ℕ) :
    Ext [.clock, .rst, .regs, .hlk] a0 (@State.phyRecord a0 a1 a2) := by
  unfold Sys2Proof.Machine.State.phyRecord
  refine Ext.ite ?_ ?_
  exact Ext.refl _ _
  (dsimp only; split)
  refine Ext.step (State.raise_ext ..) rfl ?_
  refine Ext.step (Ext.set_rst ..) rfl ?_
  exact Ext.refl _ _
  refine Ext.step (State.raise_ext ..) rfl ?_
  refine Ext.step (Ext.set_clock_rst ..) rfl ?_
  exact Ext.refl _ _
  refine Ext.step (State.raise_ext ..) rfl ?_
  refine Ext.step (Ext.set_clock_rst ..) rfl ?_
  exact Ext.refl _ _
  refine Ext.step (Ext.set_rst ..) rfl ?_
  exact Ext.refl _ _
  refine Ext.step (Ext.set_rst ..) rfl ?_
  exact Ext.refl _ _
  refine Ext.step (Ext.set_rst ..) rfl ?_
  exact Ext.refl _ _
  refine Ext.step (Ext.set_rst ..) rfl ?_
  exact Ext.refl _ _
  refine Ext.step (Ext.set_rst ..) rfl ?_
  exact Ext.refl _ _
  refine Ext.step (Ext.set_rst ..) rfl ?_
  exact Ext.refl _ _
  refine Ext.step (Ext.set_rst ..) rfl ?_
  exact Ext.refl _ _
  refine Ext.step (Ext.set_rst ..) rfl ?_
  exact Ext.refl _ _
  refine Ext.step (Ext.set_rst ..) rfl ?_
  exact Ext.refl _ _
  refine Ext.step (Ext.set_rst ..) rfl ?_
  exact Ext.refl _ _
  refine Ext.step (Ext.set_rst ..) rfl ?_
  exact Ext.refl _ _
  refine Ext.step (Ext.set_rst ..) rfl ?_
  exact Ext.refl _ _
  refine Ext.step (Ext.set_rst ..) rfl ?_
  exact Ext.refl _ _
  refine Ext.step (Ext.set_rst ..) rfl ?_
  exact Ext.refl _ _
  refine Ext.step (Ext.set_rst ..) rfl ?_
  exact Ext.refl _ _
  refine Ext.step (Ext.set_rst ..) rfl ?_
  exact Ext.refl _ _

theorem State.blockDone_ext (a0 : State) (a1 : Blk) (a2 : ℕ) :
    Ext [.power, .clock, .rst, .jrn, .regs, .snaps, .retained, .hlk, .loads, .launches, .cores, .shoals, .gpr, .preds, .lflags, .sram, .sramUe, .mem, .queues, .act, .shl, .fab, .red, .scale, .ras, .sec, .free] a0 (@State.blockDone a0 a1 a2) := by
  unfold Sys2Proof.Machine.State.blockDone
  refine Ext.ite ?_ ?_
  refine Ext.step (State.applyWaiting_ext ..) rfl ?_
  refine Ext.step (State.phyRecord_ext ..) rfl ?_
  refine Ext.step (State.nowReady_ext ..) rfl ?_
  refine Ext.step (Ext.set_rst ..) rfl ?_
  exact Ext.refl _ _
  refine Ext.ite ?_ ?_
  refine Ext.step (State.applyWaiting_ext ..) rfl ?_
  refine Ext.step (State.phyRecord_ext ..) rfl ?_
  refine Ext.step (Ext.set_rst ..) rfl ?_
  exact Ext.refl _ _
  exact Ext.refl _ _

theorem execQuiesceWrite_ext (a0 : Blk) (a1 : ℕ) (a2 : Bool) (a3 : State) :
    HAll (fun x => Ext [.rst, .regs, .snaps, .hlk, .launches, .cores, .shoals, .sram, .sramUe, .mem, .queues, .act, .shl, .fab, .red, .ras, .sec, .free] a3 x) (@execQuiesceWrite a0 a1 a2 a3) := by
  unfold Sys2Proof.Machine.execQuiesceWrite
  refine HAll.next ?_
  refine Ext.ite ?_ ?_
  refine Ext.step (State.ctrlWrite_ext ..) rfl ?_
  exact Ext.refl _ _
  exact Ext.refl _ _

theorem execBroadcastWrite_ext (a0 : Bool) (a1 : ℕ) (a2 : ℕ) (a3 : Word) (a4 : State) :
    HAll (fun x => Ext [.power, .rst, .jrn, .regs, .snaps, .retained, .hlk, .loads, .launches, .cores, .shoals, .gpr, .preds, .lflags, .sram, .sramUe, .mem, .queues, .act, .shl, .fab, .red, .scale, .ras, .sec, .free] a4 x) (@execBroadcastWrite a0 a1 a2 a3 a4) := by
  unfold Sys2Proof.Machine.execBroadcastWrite
  refine HAll.next ?_
  split
  split
  refine Ext.step (State.refuse_ext ..) rfl ?_
  exact Ext.refl _ _
  refine Ext.step (State.bcastWrite_ext ..) rfl ?_
  exact Ext.refl _ _
  exact Ext.refl _ _

theorem execRefusedAccess_ext (a0 : Bool) (a1 : Bool) (a2 : ℕ) (a3 : ℕ) (a4 : Word) (a5 : State) :
    HAll (fun x => Ext [.regs, .hlk] a5 x) (@execRefusedAccess a0 a1 a2 a3 a4 a5) := by
  unfold Sys2Proof.Machine.execRefusedAccess
  refine HAll.next ?_
  split
  refine Ext.step (State.refuse_ext ..) rfl ?_
  exact Ext.refl _ _
  exact Ext.refl _ _

theorem execBlockQuiesced_ext (a0 : Blk) (a1 : ℕ) (a2 : State) :
    HAll (fun x => Ext [.rst] a2 x) (@execBlockQuiesced a0 a1 a2) := by
  unfold Sys2Proof.Machine.execBlockQuiesced
  refine HAll.next ?_
  refine Ext.ite ?_ ?_
  refine Ext.step (Ext.set_rst ..) rfl ?_
  exact Ext.refl _ _
  exact Ext.refl _ _

theorem execBlockResetDone_ext (a0 : Blk) (a1 : ℕ) (a2 : State) :
    HAll (fun x => Ext [.power, .clock, .rst, .jrn, .regs, .snaps, .retained, .hlk, .loads, .launches, .cores, .shoals, .gpr, .preds, .lflags, .sram, .sramUe, .mem, .queues, .act, .shl, .fab, .red, .scale, .ras, .sec, .free] a2 x) (@execBlockResetDone a0 a1 a2) := by
  unfold Sys2Proof.Machine.execBlockResetDone
  refine HAll.next ?_
  refine Ext.ite ?_ ?_
  refine Ext.step (State.blockDone_ext ..) rfl ?_
  exact Ext.refl _ _
  exact Ext.refl _ _

end Sys2Proof.Machine
end

