-- ==== Sys2Proof/Laws/Lanes.lean ====
section
/-! SUPPORT. What issuing a Septoon word does, once for every lane instruction: LaneEffect. -/

namespace Sys2Proof.Machine

/-! ### Counters and events leave other register words alone -/

namespace State

theorem rd_out (s : State) (m : List OutMsg) (a : Nat) : (s.out m).rd a = s.rd a := rfl

theorem rd_setMsix (s : State) (v : Nat) (e : Msix) (a : Nat) : (s.setMsix v e).rd a = s.rd a := rfl

theorem rd_msix (s : State) (v a : Nat) : (s.msix v).rd a = s.rd a := by
  unfold msix
  simp only
  split <;> rfl

/-- Raising an event changes no register word but the page's EVENT. -/
theorem rd_raise (s : State) (b : Blk) (i n a : Nat) (h : a ≠ pageBase b i + Off.event) : (s.raise b i n).rd a = s.rd a := by
  unfold raise
  simp only
  split
  · rw [rd_msix, rd_p, if_neg h]
  · rw [rd_p, if_neg h]

/-- Adding to a counter changes no word but the counter, its CNT_SAT word and the page's EVENT. -/
theorem rd_bump (s : State) (b : Blk) (i off n a : Nat) (h : a ≠ pageBase b i + off) (he : a ≠ pageBase b i + Off.event)
    (hs : a ≠ pageBase b i + (Off.cntSat + 8 * (satItem b off / 64))) : (s.bump b i off n).rd a = s.rd a := by
  unfold bump
  simp only
  split
  · rfl
  · split
    · rw [rd_wr_other _ _ h]
    · unfold saturate
      simp only
      split
      · rw [rd_wr_other _ _ h]
      · split
        · rw [rd_raise _ _ _ _ _ he, rd_p, if_neg hs, rd_wr_other _ _ h]
        · rw [rd_p, if_neg hs, rd_wr_other _ _ h]

/-! ### Lanes -/

theorem lanes_lt {s : State} {th : Thr} {l : Nat} (h : l ∈ s.lanes th) : l < 32 := by
  unfold lanes activeLanes at h
  simp only [List.mem_filter, List.mem_range] at h
  exact h.1.1

end State

theorem gkey_eq {q v l r q' v' l' r' : Nat} (hl : l < 32) (hl' : l' < 32) (hr : r < 64) (hr' : r' < 64) :
    gkey q v l r = gkey q' v' l' r' ↔ q * 32 + v = q' * 32 + v' ∧ l = l' ∧ r = r' := by
  unfold gkey
  omega

theorem lkey_eq {q v l q' v' l' : Nat} (hl : l < 32) (hl' : l' < 32) :
    lkey q v l = lkey q' v' l' ↔ q * 32 + v = q' * 32 + v' ∧ l = l' := by
  unfold lkey
  omega

namespace State

/-- The registers of a lane after a list of writes to a lane. -/
theorem reg_setRegs (s : State) (q v l : Nat) (ws : List (Nat × W32)) (hl : l < 32) (hw : ∀ e ∈ ws, e.1 < 64)
    (q' v' l' r' : Nat) (hl' : l' < 32) (hr' : r' < 64) :
    (ws.foldl (fun (s : State) (e : Nat × W32) => s.setReg q v l e.1 e.2) s).reg q' v' l' r' =
      if q' * 32 + v' = q * 32 + v ∧ l' = l then ws.foldl (fun x e => if e.1 = r' then e.2 else x) (s.reg q' v' l' r')
      else s.reg q' v' l' r' := by
  induction ws generalizing s with
  | nil => simp
  | cons e ws ih =>
    simp only [List.foldl_cons]
    rw [ih _ fun x hx => hw x (by simp [hx]), reg_setReg]
    have he := hw e (by simp)
    by_cases h : q' * 32 + v' = q * 32 + v ∧ l' = l
    · rw [if_pos h, if_pos h]
      congr 1
      by_cases hr : e.1 = r'
      · rw [if_pos hr]
        exact if_pos ((gkey_eq hl' hl hr' he).2 ⟨h.1, h.2, hr.symm⟩)
      · rw [if_neg hr]
        exact if_neg fun hh => hr ((gkey_eq hl' hl hr' he).1 hh).2.2.symm
    · rw [if_neg h, if_neg h]
      exact if_neg fun hh => h ⟨((gkey_eq hl' hl hr' he).1 hh).1, ((gkey_eq hl' hl hr' he).1 hh).2.1⟩

theorem setRegs_other (s : State) (q v l : Nat) (ws : List (Nat × W32)) :
    (ws.foldl (fun (s : State) (e : Nat × W32) => s.setReg q v l e.1 e.2) s).preds = s.preds ∧
      (ws.foldl (fun (s : State) (e : Nat × W32) => s.setReg q v l e.1 e.2) s).lflags = s.lflags ∧
      (ws.foldl (fun (s : State) (e : Nat × W32) => s.setReg q v l e.1 e.2) s).shoals = s.shoals ∧
      (ws.foldl (fun (s : State) (e : Nat × W32) => s.setReg q v l e.1 e.2) s).regs = s.regs ∧
      (ws.foldl (fun (s : State) (e : Nat × W32) => s.setReg q v l e.1 e.2) s).cores = s.cores := by
  induction ws generalizing s with
  | nil => simp
  | cons e ws ih => exact ih (s.setReg q v l e.1 e.2)

theorem gpr_setPred (s : State) (q v l n : Nat) (x : Bool) : (s.setPred q v l n x).gpr = s.gpr ∧
    (s.setPred q v l n x).lflags = s.lflags ∧ (s.setPred q v l n x).shoals = s.shoals ∧
    (s.setPred q v l n x).regs = s.regs ∧ (s.setPred q v l n x).cores = s.cores := by
  unfold setPred
  split <;> simp

theorem testBit_or_two_pow (w : BitVec 8) {m n : Nat} (hm : m < 8) (_hn : n < 8) :
    (w ||| BitVec.ofNat 8 (2 ^ m)).toNat.testBit n = (w.toNat.testBit n || decide (m = n)) := by
  rw [BitVec.toNat_or, Nat.testBit_or, BitVec.toNat_ofNat]
  congr 1
  rw [Nat.mod_eq_of_lt (Nat.pow_lt_pow_right (by omega) hm), Nat.testBit_two_pow]

theorem testBit_andNot_two_pow (w : BitVec 8) {m n : Nat} (_hm : m < 8) (hn : n < 8) :
    (w &&& ~~~(BitVec.ofNat 8 (2 ^ m))).toNat.testBit n = (w.toNat.testBit n && !decide (m = n)) := by
  rw [BitVec.toNat_and, Nat.testBit_and]
  congr 1
  rw [BitVec.testBit_toNat, BitVec.getLsbD_not]
  simp only [hn, decide_true, Bool.true_and]
  rw [BitVec.getLsbD_ofNat]
  simp [hn, Nat.testBit_two_pow]

theorem predOf_setPred (s : State) (q v l m : Nat) (x : Bool) (hl : l < 32) (hm : m < 8) (q' v' l' n : Nat) (hl' : l' < 32)
    (hn : n < 8) :
    (s.setPred q v l m x).predOf q' v' l' n =
      if q' * 32 + v' = q * 32 + v ∧ l' = l ∧ m = n ∧ n ≠ 0 then x else s.predOf q' v' l' n := by
  unfold setPred
  by_cases h0 : m = 0
  · rw [if_pos h0, if_neg]
    rintro ⟨-, -, rfl, h⟩
    exact h h0
  · rw [if_neg h0]
    unfold predOf
    simp only
    rw [tget_tset, Nat.mod_eq_of_lt hm]
    by_cases hk : lkey q' v' l' = lkey q v l
    · obtain ⟨h1, rfl⟩ := (lkey_eq hl' hl).1 hk
      rw [if_pos hk, hk]
      generalize tget s.preds 0 (lkey q v l') = w
      have e : (if x = true then w ||| BitVec.ofNat 8 (2 ^ m) else w &&& ~~~(BitVec.ofNat 8 (2 ^ m))).toNat.testBit n =
          if m = n then x else w.toNat.testBit n := by
        cases x
        · rw [if_neg (by simp), testBit_andNot_two_pow _ hm hn]
          by_cases hmn : m = n <;> simp [hmn]
        · rw [if_pos rfl, testBit_or_two_pow _ hm hn]
          by_cases hmn : m = n <;> simp [hmn]
      rw [e]
      by_cases hmn : m = n
      · subst n
        simp [h0, h1]
      · simp [hmn]
    · rw [if_neg hk, if_neg fun h => hk ((lkey_eq hl' hl).2 ⟨h.1, h.2.1⟩)]

theorem laneFlags_setLaneFlags (s : State) (q v l : Nat) (f : BitVec 4) (q' v' l' : Nat) (hl : l < 32) (hl' : l' < 32) :
    (s.setLaneFlags q v l f).laneFlags q' v' l' = if q' * 32 + v' = q * 32 + v ∧ l' = l then f else s.laneFlags q' v' l' := by
  unfold setLaneFlags laneFlags
  simp only
  rw [tget_tset]
  simp only [lkey_eq hl' hl]

/-- What one lane of an instruction changes. -/
theorem applyLane_spec (s : State) (th : Thr) (l : Nat) (w : LaneW) (hl : l < 32) (hw : ∀ e ∈ w.regs, e.1 < 64)
    (hp : ∀ m v, w.pred = some (m, v) → m < 8) :
    (∀ q v l' r, l' < 32 → r < 64 → (s.applyLane th l w).reg q v l' r =
      if q * 32 + v = th.p * 32 + th.t ∧ l' = l then w.regAfter r (s.reg q v l' r) else s.reg q v l' r) ∧
    (∀ q v l' n, l' < 32 → n < 8 → (s.applyLane th l w).predOf q v l' n =
      if q * 32 + v = th.p * 32 + th.t ∧ l' = l then w.predAfter n (s.predOf q v l' n) else s.predOf q v l' n) ∧
    (∀ q v l', l' < 32 → (s.applyLane th l w).laneFlags q v l' =
      if q * 32 + v = th.p * 32 + th.t ∧ l' = l then s.laneFlags q v l' ||| BitVec.ofNat 4 w.fl else s.laneFlags q v l') ∧
    (s.applyLane th l w).shoals = s.shoals ∧ (s.applyLane th l w).regs = s.regs ∧ (s.applyLane th l w).cores = s.cores := by
  have a := setRegs_other s th.p th.t l w.regs
  have g := reg_setRegs s th.p th.t l w.regs hl hw
  have e0 : s.applyLane th l w =
      (fun u : State => (fun x : State => if w.fl = 0 then x else x.setLaneFlags th.p th.t l (x.laneFlags th.p th.t l ||| BitVec.ofNat 4 w.fl))
        (match w.pred with
          | some (n, v) => u.setPred th.p th.t l n v
          | none => u)) (w.regs.foldl (fun (s : State) (r : Nat × W32) => s.setReg th.p th.t l r.1 r.2) s) := rfl
  rw [e0]
  clear e0
  generalize w.regs.foldl (fun (s : State) (r : Nat × W32) => s.setReg th.p th.t l r.1 r.2) s = u at a g ⊢
  obtain ⟨a1, a2, a3, a4, a5⟩ := a
  have hpp : ∀ q v l' n, u.predOf q v l' n = s.predOf q v l' n := fun q v l' n => by unfold predOf; rw [a1]
  have hff : ∀ q v l', u.laneFlags q v l' = s.laneFlags q v l' := fun q v l' => by unfold laneFlags; rw [a2]
  -- the predicate
  obtain ⟨x, hx, hxp, hxg, hxf, hxs, hxr, hxc⟩ : ∃ x : State, (match w.pred with
        | some (n, v) => u.setPred th.p th.t l n v
        | none => u) = x ∧
      (∀ q v l' n, l' < 32 → n < 8 → x.predOf q v l' n =
        if q * 32 + v = th.p * 32 + th.t ∧ l' = l then w.predAfter n (s.predOf q v l' n) else s.predOf q v l' n) ∧
      x.gpr = u.gpr ∧ x.lflags = u.lflags ∧ x.shoals = u.shoals ∧ x.regs = u.regs ∧ x.cores = u.cores := by
    refine ⟨_, rfl, ?_, ?_⟩
    · intro q v l' n hl' hn
      unfold LaneW.predAfter
      cases hwp : w.pred with
      | none =>
        simp only [hpp]
        split <;> rfl
      | some e =>
        obtain ⟨m, b⟩ := e
        simp only
        rw [predOf_setPred u _ _ _ _ _ hl (hp m b hwp) _ _ _ _ hl' hn, hpp]
        by_cases h1 : q * 32 + v = th.p * 32 + th.t ∧ l' = l
        · by_cases h2 : m = n ∧ n ≠ 0
          · rw [if_pos ⟨h1.1, h1.2, h2.1, h2.2⟩, if_pos h1, if_pos h2]
          · rw [if_neg fun h => h2 ⟨h.2.2.1, h.2.2.2⟩, if_pos h1, if_neg h2]
        · rw [if_neg fun h => h1 ⟨h.1, h.2.1⟩, if_neg h1]
    · cases w.pred with
      | none => simp
      | some e => exact gpr_setPred u _ _ _ _ _
  simp only [hx]
  have hxg' : ∀ q v l' r, l' < 32 → r < 64 → x.reg q v l' r =
      if q * 32 + v = th.p * 32 + th.t ∧ l' = l then w.regAfter r (s.reg q v l' r) else s.reg q v l' r := by
    intro q v l' r hl' hr
    have : x.reg q v l' r = u.reg q v l' r := by unfold reg; rw [hxg]
    rw [this]
    exact g q v l' r hl' hr
  have hxf' : ∀ q v l', x.laneFlags q v l' = s.laneFlags q v l' := fun q v l' => by
    have : x.laneFlags q v l' = u.laneFlags q v l' := by unfold laneFlags; rw [hxf]
    rw [this, hff]
  by_cases hfl : w.fl = 0
  · rw [if_pos hfl, hfl]
    refine ⟨hxg', hxp, ?_, hxs.trans a3, hxr.trans a4, hxc.trans a5⟩
    intro q v l' _
    rw [hxf']
    split <;> simp
  · rw [if_neg hfl]
    refine ⟨hxg', hxp, ?_, hxs.trans a3, hxr.trans a4, hxc.trans a5⟩
    intro q v l' hl'
    rw [laneFlags_setLaneFlags _ _ _ _ _ _ _ _ hl hl', hxf', hxf']
    split
    · rename_i h
      have hk : lkey q v l' = lkey th.p th.t l := (lkey_eq hl' hl).2 h
      unfold laneFlags
      rw [hk]
    · rfl

/-- What an instruction's lanes change, before its flags are gathered. -/
theorem applyLane_fold (s : State) (th : Thr) (f : Nat → LaneW) (ls : List Nat) (hl : ∀ l ∈ ls, l < 32) (hn : ls.Nodup)
    (hw : ∀ l ∈ ls, ∀ e ∈ (f l).regs, e.1 < 64) (hp : ∀ l ∈ ls, ∀ m v, (f l).pred = some (m, v) → m < 8) :
    let u := (ls.map fun l => (l, f l)).foldl (fun s e => s.applyLane th e.1 e.2) s
    (∀ q v l' r, l' < 32 → r < 64 → u.reg q v l' r =
      if q * 32 + v = th.p * 32 + th.t ∧ l' ∈ ls then (f l').regAfter r (s.reg q v l' r) else s.reg q v l' r) ∧
    (∀ q v l' n, l' < 32 → n < 8 → u.predOf q v l' n =
      if q * 32 + v = th.p * 32 + th.t ∧ l' ∈ ls then (f l').predAfter n (s.predOf q v l' n) else s.predOf q v l' n) ∧
    (∀ q v l', l' < 32 → u.laneFlags q v l' =
      if q * 32 + v = th.p * 32 + th.t ∧ l' ∈ ls then s.laneFlags q v l' ||| BitVec.ofNat 4 (f l').fl else s.laneFlags q v l') ∧
    u.shoals = s.shoals ∧ u.regs = s.regs ∧ u.cores = s.cores := by
  induction ls generalizing s with
  | nil => simp
  | cons l ls ih =>
    have h1 := applyLane_spec s th l (f l) (hl l (by simp)) (hw l (by simp)) (hp l (by simp))
    have hnd := List.nodup_cons.1 hn
    have h2 := ih (s.applyLane th l (f l)) (fun x hx => hl x (by simp [hx])) hnd.2 (fun x hx => hw x (by simp [hx]))
      (fun x hx => hp x (by simp [hx]))
    simp only [List.map_cons, List.foldl_cons] at h2 ⊢
    obtain ⟨r1, p1, f1, s1, g1, c1⟩ := h1
    obtain ⟨r2, p2, f2, s2, g2, c2⟩ := h2
    refine ⟨?_, ?_, ?_, s2.trans s1, g2.trans g1, c2.trans c1⟩
    · intro q v l' r hl' hr
      rw [r2 q v l' r hl' hr, r1 q v l' r hl' hr]
      by_cases hb : l' = l
      · subst hb
        simp [hnd.1]
      · simp [hb]
    · intro q v l' n hl' hn'
      rw [p2 q v l' n hl' hn', p1 q v l' n hl' hn']
      by_cases hb : l' = l
      · subst hb
        simp [hnd.1]
      · simp [hb]
    · intro q v l' hl'
      rw [f2 q v l' hl', f1 q v l' hl']
      by_cases hb : l' = l
      · subst hb
        simp [hnd.1]
      · simp [hb]

/-! ### Issue -/

theorem thrAt_spec {s : State} {p t : Nat} {th : Thr} (h : s.thrAt p t = some th) : th.p = p ∧ th.t = t ∧ s.shoal p t = some th.x := by
  unfold thrAt at h
  split at h
  · split at h
    · split at h
      · cases h
        exact ⟨rfl, rfl, ‹_›⟩
      · cases h
    · cases h
  · cases h

theorem countIssue_spec (s : State) (th : Thr) : (s.countIssue th).gpr = s.gpr ∧ (s.countIssue th).preds = s.preds ∧
    (s.countIssue th).lflags = s.lflags ∧ (s.countIssue th).shoals = s.shoals ∧
    (s.countIssue th).launchWord th.p th.x.fill = s.launchWord th.p th.x.fill := by
  have e := countIssue_ext s th
  refine ⟨e.1 .gpr (by decide), e.1 .preds (by decide), e.1 .lflags (by decide), e.1 .shoals (by decide), ?_⟩
  unfold countIssue
  split
  · unfold launchWord g
    rw [rd_bump]
    · rfl
    · split <;> simp [Off.corVflags]
    · simp [Off.corVflags, Off.event]
    · have h1 : satItem .cor 0x208 / 64 = 0 := by decide
      have h2 : satItem .cor 0x200 / 64 = 0 := by decide
      split <;> simp [h1, h2, Off.corVflags, Off.cntSat]
  · rfl

/-- The launch word of a class after its flags are gathered (step 2 of R194). -/
theorem launchWord_orLaunchWord (s : State) (c : Nat) (fill : Bool) (f : Nat) :
    (s.orLaunchWord c fill f).launchWord c fill = (s.launchWord c fill ||| f) % 16 := by
  unfold orLaunchWord
  rw [launchWord]
  cases fill <;> simp [lwHi, lwLo]

/-- What gathering flags changes (R194). -/
theorem gatherFlags_spec (s : State) (th : Thr) (fl nf : Nat) (hs : s.shoal th.p th.t = some th.x) :
    let u := s.gatherFlags th fl nf
    u.gpr = s.gpr ∧ u.preds = s.preds ∧ u.lflags = s.lflags ∧
    (∀ q v, u.shoal q v = if q * 32 + v = th.p * 32 + th.t then some { th.x with flags := th.x.flags ||| BitVec.ofNat 4 fl }
      else s.shoal q v) ∧
    (th.p < 2304 → u.launchWord th.p th.x.fill = (s.launchWord th.p th.x.fill ||| fl) % 16) := by
  have e := gatherFlags_ext s th fl nf
  refine ⟨e.1 .gpr (by decide), e.1 .preds (by decide), e.1 .lflags (by decide), ?_, ?_⟩
  · intro q v
    unfold gatherFlags
    split
    · subst fl
      split
      · have : skey q v = skey th.p th.t := ‹_›
        unfold shoal at hs ⊢
        rw [this, hs]
        simp
      · rfl
    · simp only [hs]
      have hk : ∀ w : State, w.shoals = (s.setShoal th.p th.t (some { th.x with flags := th.x.flags ||| BitVec.ofNat 4 fl })).shoals →
          w.shoal q v = if q * 32 + v = th.p * 32 + th.t then some { th.x with flags := th.x.flags ||| BitVec.ofNat 4 fl }
            else s.shoal q v := by
        intro w hw
        have h := shoal_setShoal s th.p th.t q v (some { th.x with flags := th.x.flags ||| BitVec.ofNat 4 fl })
        unfold shoal at h ⊢
        rw [hw]
        exact h
      split
      · exact hk _ (((bump_ext ..).1 .shoals (by decide)).trans ((orLaunchWord_ext ..).1 .shoals (by decide)))
      · exact hk _ ((orUpdWord_ext ..).1 .shoals (by decide))
  · intro hp
    unfold gatherFlags
    split
    · subst fl
      have : s.launchWord th.p th.x.fill < 16 := by
        unfold launchWord g
        have := fld_lt (s.rd (pageBase .cor th.p + Off.corVflags)) (lwHi th.x.fill) (lwLo th.x.fill)
        revert this
        cases th.x.fill <;> simp [lwHi, lwLo]
      simp only [Nat.or_zero]
      omega
    · simp only [hs]
      rw [if_pos (by simpa [Thr.onCore] using hp)]
      have hb : ∀ w : State, (w.bump .cor th.p (0x380 + 16) nf).launchWord th.p th.x.fill = w.launchWord th.p th.x.fill := by
        intro w
        unfold launchWord g
        rw [rd_bump]
        · simp [Off.corVflags]
        · simp [Off.corVflags, Off.event]
        · have h1 : satItem .cor (0x380 + 16) / 64 = 0 := by decide
          simp [h1, Off.corVflags, Off.cntSat]
      rw [hb, launchWord_orLaunchWord]
      rfl

/-- Going on at the next word when one stands there. -/
theorem nextPc_spec (s : State) (th : Thr) (x : Shoal) (hs : s.shoal th.p th.t = some x) (hn : th.x.pc + 1 < th.len) :
    s.nextPc th = s.setShoal th.p th.t (some { x with pc := th.x.pc + 1 }) := by
  unfold nextPc goto
  simp only [hs]
  rw [if_pos ⟨by omega, by omega⟩]
  congr 2

theorem issueWord_ok {s : State} {p t cls op : Nat} {th : Thr} (h : Issues s p t cls op th) {f : State → Thr → Option State} {u : State}
    (h1 : (f s th).isSome) (h2 : f (s.countIssue th) th = some u) : s.issueWord p t .ok cls op f = u := by
  unfold issueWord
  rw [h.ready]
  simp only [h.cls, h.op, and_self, if_true, checkCode, h2, Option.getD_some]
  cases hf : f s th with
  | none => rw [hf] at h1; cases h1
  | some _ => rfl

theorem foldl_union (ls : List Nat) (f : Nat → LaneW) (a : Nat) :
    (ls.map fun l => (l, f l)).foldl (fun a e => a ||| e.2.fl) a = ls.foldl (fun a l => a ||| (f l).fl) a := by
  rw [List.foldl_map]

/-- What writing an instruction's lanes and going on does (R180, R193, R194). -/
theorem applyLanes_effect {s : State} {p t cls op : Nat} {th : Thr} (h : Issues s p t cls op th) (f : Nat → LaneW)
    (hw : ∀ l, ∀ e ∈ (f l).regs, e.1 < 64) (hp : ∀ l m v, (f l).pred = some (m, v) → m < 8) :
    LaneEffect s (((s.countIssue th).applyLanes th ((s.lanes th).map fun l => (l, f l))).nextPc th) p t th f := by
  obtain ⟨hp', ht', hsh⟩ := thrAt_spec h.ready
  obtain ⟨c1, c2, c3, c4, c5⟩ := countIssue_spec s th
  have hnd : (s.lanes th).Nodup := by
    unfold lanes activeLanes
    exact (List.nodup_range.filter _).filter _
  have hlt : ∀ l ∈ s.lanes th, l < 32 := fun l hl => lanes_lt hl
  obtain ⟨r2, p2, f2, s2, g2, k2⟩ := applyLane_fold (s.countIssue th) th f (s.lanes th) hlt hnd (fun l _ => hw l) (fun l _ => hp l)
  have e2 := foldl_union (s.lanes th) f 0
  unfold applyLanes
  rw [e2]
  change LaneEffect s ((gatherFlags _ th (laneUnion (s.lanes th) f) (laneUnion (s.lanes th) f % 2)).nextPc th) p t th f
  generalize hu : ((s.lanes th).map fun l => (l, f l)).foldl (fun s e => s.applyLane th e.1 e.2) (s.countIssue th) = u2 at r2 p2 f2 s2 g2 k2 ⊢
  have x2 : Ext [.gpr, .preds, .lflags, .shoals, .cores, .regs, .hlk] s u2 := by
    rw [← hu]
    exact foldl_all (P := fun u => Ext _ s u) ((countIssue_ext s th).step rfl (Ext.refl _ _))
      fun a x ha => (applyLane_ext a th x.1 x.2).step rfl ha
  have hsh2 : u2.shoal th.p th.t = some th.x := by
    unfold shoal at hsh ⊢
    rw [s2, c4, hp', ht']
    exact hsh
  have g3 := gatherFlags_spec u2 th (laneUnion (s.lanes th) f) (laneUnion (s.lanes th) f % 2) hsh2
  have x3 := (gatherFlags_ext u2 th (laneUnion (s.lanes th) f) (laneUnion (s.lanes th) f % 2)).step (ps := [.gpr, .preds, .lflags, .shoals, .cores, .regs, .hlk]) rfl x2
  generalize u2.gatherFlags th (laneUnion (s.lanes th) f) (laneUnion (s.lanes th) f % 2) = u3 at g3 x3 ⊢
  obtain ⟨a3, b3, d3, e3, w3⟩ := g3
  have hsh3 := e3 th.p th.t
  rw [if_pos rfl] at hsh3
  rw [nextPc_spec u3 th _ hsh3 h.next]
  have hreg : ∀ q v l r, u3.reg q v l r = u2.reg q v l r := fun q v l r => by unfold reg; rw [a3]
  have hpred : ∀ q v l n, u3.predOf q v l n = u2.predOf q v l n := fun q v l n => by unfold predOf; rw [b3]
  have hfl : ∀ q v l, u3.laneFlags q v l = u2.laneFlags q v l := fun q v l => by unfold laneFlags; rw [d3]
  have ireg : ∀ q v l r, (s.countIssue th).reg q v l r = s.reg q v l r := fun q v l r => by unfold reg; rw [c1]
  have ipred : ∀ q v l n, (s.countIssue th).predOf q v l n = s.predOf q v l n := fun q v l n => by unfold predOf; rw [c2]
  have ifl : ∀ q v l, (s.countIssue th).laneFlags q v l = s.laneFlags q v l := fun q v l => by unfold laneFlags; rw [c3]
  subst hp' ht'
  refine ⟨?_, ?_, ?_, ?_, ?_, ?_, ?_⟩
  · intro l r hl hr
    refine (hreg ..).trans ?_
    rw [r2 _ _ _ _ hl hr, ireg]
    simp
  · intro l n hl hn
    refine (hpred ..).trans ?_
    rw [p2 _ _ _ _ hl hn, ipred]
    simp
  · intro l hl
    refine (hfl ..).trans ?_
    rw [f2 _ _ _ hl, ifl]
    simp
  · intro q v l hq hl
    refine ⟨?_, ?_, ?_⟩
    · intro r hr
      refine (hreg ..).trans ?_
      rw [r2 _ _ _ _ hl hr, ireg, if_neg fun h => hq h.1]
    · intro n
      refine (hpred ..).trans ?_
      by_cases hn : n < 8
      · rw [p2 _ _ _ _ hl hn, ipred, if_neg fun h => hq h.1]
      · have hz : ∀ w : BitVec 8, w.toNat.testBit n = false := fun w =>
          Nat.testBit_lt_two_pow (Nat.lt_of_lt_of_le w.isLt (Nat.pow_le_pow_right (by omega) (by omega)))
        unfold predOf
        rw [hz, hz]
    · refine (hfl ..).trans ?_
      rw [f2 _ _ _ hl, ifl, if_neg fun h => hq h.1]
  · intro q v
    rw [shoal_setShoal]
    by_cases hq : q * 32 + v = th.p * 32 + th.t
    · rw [if_pos hq]
      exact if_pos hq
    · rw [if_neg hq]
      refine (if_neg hq).trans ?_
      rw [e3, if_neg hq]
      unfold shoal
      rw [s2, c4]
  · intro hp''
    change u3.launchWord th.p th.x.fill = _
    rw [w3 hp'']
    have : u2.launchWord th.p th.x.fill = s.launchWord th.p th.x.fill := by
      rw [← c5]
      unfold launchWord State.g rd
      rw [g2]
    rw [this]
  · exact ((setShoal_ext ..).step (ps := [.gpr, .preds, .lflags, .shoals, .cores, .regs, .hlk]) rfl x3).1

/-- A lane instruction whose lanes do not read what issuing counts does `f` in its lanes. -/
theorem laneOp_effect {s : State} {p t cls op : Nat} {th : Thr} (h : Issues s p t cls op th) (f : State → Thr → Nat → LaneW)
    (hc : ∀ l, f (s.countIssue th) th l = f s th l) (hw : ∀ l, ∀ e ∈ (f s th l).regs, e.1 < 64)
    (hp : ∀ l m v, (f s th l).pred = some (m, v) → m < 8) : LaneEffect s (s.laneOp p t .ok cls op f) p t th (f s th) := by
  have hl : (s.countIssue th).lanes th = s.lanes th := by
    have hg : (s.countIssue th).guard th = s.guard th := by
      funext l
      unfold guard predOf
      rw [(countIssue_spec s th).2.1]
    unfold lanes
    rw [hg]
  have e : s.laneOp p t .ok cls op f = ((s.countIssue th).applyLanes th ((s.lanes th).map fun l => (l, f s th l))).nextPc th := by
    unfold laneOp
    refine issueWord_ok h rfl ?_
    simp only [hl, hc]
  rw [e]
  exact applyLanes_effect h (f s th) hw hp

end State

end Sys2Proof.Machine
end

