-- ==== Sys2Proof/WellFormed.lean ====
section
/-! DEFINITION. Well-formed commands: every page, channel, core, queue, link and slot that a command names exists, and its
other operands lie in the ranges that the spec gives them. -/

namespace Sys2Proof

open Sys2Proof.Machine

/-- A transport names an existing link. -/
def Transport.wf : Transport → Bool
  | .host => true
  | .link l => decide (l < 96)

/-- The checks of each command. -/
def Instr.wf : Instr → Bool
  | .v36Make => true
  | .inputLoss => true
  | .presMake => true
  | .presDebounceDone => true
  | .mainRailsUp => true
  | .presBreak => true
  | .uvTrip _ => true
  | .ovTrip _ => true
  | .uvRelease _ => true
  | .ovRelease _ => true
  | .vinBandChange _ => true
  | .inletHigh _ => true
  | .inletTripTimer => true
  | .dieHot _ => true
  | .dieOvertempTrip _ => true
  | .dimmRefreshDouble ch => decide (ch < 24)
  | .dimmHot ch => decide (ch < 24)
  | .opticHot engine => decide (engine < 13)
  | .thermalRestart => true
  | .removeReq => true
  | .removalDrainResume => true
  | .removeDrainTimeout => true
  | .logicPllLockLost => true
  | .logicPllLockReturn => true
  | .rootRefStop => true
  | .rootRefReturn => true
  | .ddrPhyPllLockLost => true
  | .phyPllLockLost _ => true
  | .rstCtrlCold _ => true
  | .rstCtrlWarm _ => true
  | .rstCtrlBasin _ _ => true
  | .coldResetAssert => true
  | .warmResetAssert => true
  | .basinResetAssert basin => decide (basin < 4)
  | .coldResetRelease => true
  | .warmResetRelease => true
  | .basinResetRelease basin => decide (basin < 4)
  | .blockReady b i => decide (i < pageCount b)
  | .memTrainingDone ch _ => decide (ch < 24)
  | .powerOnCoreTestDone basin failed => decide (basin < 4) && failed.all fun q => decide (q < 2368)
  | .basinReady basin => decide (basin < 4)
  | .readyLate b i => decide (i < pageCount b)
  | .wellheadWatchdogExpiry => true
  | .blkReset b i => decide (i < pageCount b)
  | .deferredResetStart b i => decide (i < pageCount b)
  | .blockResetDone b i => decide (i < pageCount b)
  | .journalResolutionBegin => true
  | .journalTwinAnswer _ _ => true
  | .journalTwinTimeout => true
  | .twinLost => true
  | .registerWrite _ _ _ _ => true
  | .refusedAccess _ _ addr _ _ => decide (addr < 0x4000000)
  | .broadcastWrite _ addr _ _ => decide (addr < 0x4000000)
  | .quiesceWrite b i _ => decide (i < pageCount b)
  | .blockQuiesced b i => decide (i < pageCount b)
  | .eventRegWrite b i off _ => decide (i < pageCount b) && (off = 0x28 || off = 0x30 || off = 0x38)
  | .msixUnmask vec => decide (vec < 256)
  | .cntSnapTake b i => decide (i < pageCount b)
  | .devIfCapFloorWrite n _ _ => decide (n < 8)
  | .devLockWrite _ => true
  | .hostLinkTrained _ _ _ _ => true
  | .hostLightLoss _ => true
  | .hostHotReset => true
  | .functionLevelReset => true
  | .cxlReset => true
  | .hdmDecoderCommit n _ _ _ _ => decide (n < 2)
  | .hdmExposeWrite _ => true
  | .hlkBiasWrite n _ => decide (n < 16)
  | .biasSettled => true
  | .hostHdmAccess write _ len data => (!write || data.length = len)
  | .doeRequest _ => true
  | .ringOpen r _ => decide (r < 64)
  | .ringClose r => decide (r < 64)
  | .ringCloseDone r => decide (r < 64)
  | .ringReset r => decide (r < 64)
  | .ringResetDone r => decide (r < 64)
  | .commandTailDoorbell r _ => decide (r < 64)
  | .completionHeadDoorbell r _ => decide (r < 64)
  | .commandFetch r => decide (r < 64)
  | .ringNop r => decide (r < 64)
  | .loadKernel r => decide (r < 64)
  | .launch r => decide (r < 64)
  | .stream r => decide (r < 64)
  | .copy r => decide (r < 64)
  | .fence r => decide (r < 64)
  | .signal r => decide (r < 64)
  | .wait r => decide (r < 64)
  | .waitPoll r _ => decide (r < 64)
  | .stepBegin r => decide (r < 64)
  | .commandComplete r _ => decide (r < 64)
  | .getInfo _ _ => true
  | .faultLogOpen _ _ => true
  | .faultRead _ _ => true
  | .tlmRead _ _ => true
  | .fwStage _ _ => true
  | .fwActivateTrial _ _ => true
  | .fwActivateRestart _ _ => true
  | .fwActivateCancel _ _ => true
  | .wellheadActivationRestart _ => true
  | .getNonce _ _ => true
  | .unlock _ _ => true
  | .lock _ _ => true
  | .provision _ _ => true
  | .revoke _ _ => true
  | .xltResolveRetry _ _ => true
  | .xltResolveFail _ _ => true
  | .mbxResponse => true
  | .mbxTimeout => true
  | .launchStart c _ => decide (c < 2304)
  | .launchEndOnCore c _ => decide (c < 2304)
  | .swapRequest c _ => decide (c < 2304)
  | .swapDrainPoint c => decide (c < 2304)
  | .swapCopyStart c => decide (c < 2304)
  | .swapCopyDone c => decide (c < 2304)
  | .corPartWrite c _ => decide (c < 2304)
  | .partApply c => decide (c < 2304)
  | .corFlagsSet c _ => decide (c < 2304)
  | .corFlagsClr c _ => decide (c < 2304)
  | .barrierRelease c _ scope id => decide (c < 2304) && decide (1 ≤ scope ∧ scope ≤ 3) && decide (id < 8)
  | .barrierTimeout c _ scope id => decide (c < 2304) && decide (1 ≤ scope ∧ scope ≤ 3) && decide (id < 8)
  | .efWaitRelease c flag => decide (c < 2304) && decide (flag < 64)
  | .nop p t _ => decide (p < 2328) && decide (t < 32)
  | .endThread p t _ => decide (p < 2328) && decide (t < 32)
  | .bar p t _ => decide (p < 2328) && decide (t < 32)
  | .efset p t _ => decide (p < 2328) && decide (t < 32)
  | .efclr p t _ => decide (p < 2328) && decide (t < 32)
  | .efwait p t _ => decide (p < 2328) && decide (t < 32)
  | .efwaitc p t _ => decide (p < 2328) && decide (t < 32)
  | .braAny p t _ => decide (p < 2328) && decide (t < 32)
  | .braAll p t _ => decide (p < 2328) && decide (t < 32)
  | .braNone p t _ => decide (p < 2328) && decide (t < 32)
  | .iadd p t _ => decide (p < 2328) && decide (t < 32)
  | .isub p t _ => decide (p < 2328) && decide (t < 32)
  | .imul p t _ => decide (p < 2328) && decide (t < 32)
  | .imulh p t _ => decide (p < 2328) && decide (t < 32)
  | .and p t _ => decide (p < 2328) && decide (t < 32)
  | .or p t _ => decide (p < 2328) && decide (t < 32)
  | .xor p t _ => decide (p < 2328) && decide (t < 32)
  | .shl p t _ => decide (p < 2328) && decide (t < 32)
  | .shr p t _ => decide (p < 2328) && decide (t < 32)
  | .sar p t _ => decide (p < 2328) && decide (t < 32)
  | .imin p t _ => decide (p < 2328) && decide (t < 32)
  | .imax p t _ => decide (p < 2328) && decide (t < 32)
  | .sel p t _ => decide (p < 2328) && decide (t < 32)
  | .iaddImm p t _ => decide (p < 2328) && decide (t < 32)
  | .isubImm p t _ => decide (p < 2328) && decide (t < 32)
  | .imulImm p t _ => decide (p < 2328) && decide (t < 32)
  | .imulhImm p t _ => decide (p < 2328) && decide (t < 32)
  | .andImm p t _ => decide (p < 2328) && decide (t < 32)
  | .orImm p t _ => decide (p < 2328) && decide (t < 32)
  | .xorImm p t _ => decide (p < 2328) && decide (t < 32)
  | .shlImm p t _ => decide (p < 2328) && decide (t < 32)
  | .shrImm p t _ => decide (p < 2328) && decide (t < 32)
  | .sarImm p t _ => decide (p < 2328) && decide (t < 32)
  | .iminImm p t _ => decide (p < 2328) && decide (t < 32)
  | .imaxImm p t _ => decide (p < 2328) && decide (t < 32)
  | .movi p t _ => decide (p < 2328) && decide (t < 32)
  | .fadd p t _ => decide (p < 2328) && decide (t < 32)
  | .fmul p t _ => decide (p < 2328) && decide (t < 32)
  | .ffma p t _ => decide (p < 2328) && decide (t < 32)
  | .fmin p t _ => decide (p < 2328) && decide (t < 32)
  | .fmax p t _ => decide (p < 2328) && decide (t < 32)
  | .faddi p t _ => decide (p < 2328) && decide (t < 32)
  | .fmuli p t _ => decide (p < 2328) && decide (t < 32)
  | .hadd2 p t _ => decide (p < 2328) && decide (t < 32)
  | .hmul2 p t _ => decide (p < 2328) && decide (t < 32)
  | .hfma2 p t _ => decide (p < 2328) && decide (t < 32)
  | .exp2 p t _ => decide (p < 2328) && decide (t < 32)
  | .log2 p t _ => decide (p < 2328) && decide (t < 32)
  | .rcp p t _ => decide (p < 2328) && decide (t < 32)
  | .rsqrt p t _ => decide (p < 2328) && decide (t < 32)
  | .sqrt p t _ => decide (p < 2328) && decide (t < 32)
  | .tanh p t _ => decide (p < 2328) && decide (t < 32)
  | .sint p t _ => decide (p < 2328) && decide (t < 32)
  | .cost p t _ => decide (p < 2328) && decide (t < 32)
  | .fsetp p t _ => decide (p < 2328) && decide (t < 32)
  | .isetp p t _ => decide (p < 2328) && decide (t < 32)
  | .pand p t _ => decide (p < 2328) && decide (t < 32)
  | .por p t _ => decide (p < 2328) && decide (t < 32)
  | .pxor p t _ => decide (p < 2328) && decide (t < 32)
  | .vote p t _ => decide (p < 2328) && decide (t < 32)
  | .pbit p t _ => decide (p < 2328) && decide (t < 32)
  | .cvt p t _ => decide (p < 2328) && decide (t < 32)
  | .ld8 p t _ => decide (p < 2328) && decide (t < 32)
  | .ld16 p t _ => decide (p < 2328) && decide (t < 32)
  | .ld32 p t _ => decide (p < 2328) && decide (t < 32)
  | .ld64 p t _ => decide (p < 2328) && decide (t < 32)
  | .st8 p t _ => decide (p < 2328) && decide (t < 32)
  | .st16 p t _ => decide (p < 2328) && decide (t < 32)
  | .st32 p t _ => decide (p < 2328) && decide (t < 32)
  | .st64 p t _ => decide (p < 2328) && decide (t < 32)
  | .shfl p t _ => decide (p < 2328) && decide (t < 32)
  | .shflx p t _ => decide (p < 2328) && decide (t < 32)
  | .rsum p t _ => decide (p < 2328) && decide (t < 32)
  | .rmax p t _ => decide (p < 2328) && decide (t < 32)
  | .rmin p t _ => decide (p < 2328) && decide (t < 32)
  | .risum p t _ => decide (p < 2328) && decide (t < 32)
  | .mma p t _ => decide (p < 2328) && decide (t < 32)
  | .sqpush p t _ => decide (p < 2328) && decide (t < 32)
  | .sqsync p t _ => decide (p < 2328) && decide (t < 32)
  | .chain p t _ => decide (p < 2328) && decide (t < 32)
  | .ldm40 p t _ => decide (p < 2328) && decide (t < 32)
  | .stm40 p t _ => decide (p < 2328) && decide (t < 32)
  | .m40fma p t _ => decide (p < 2328) && decide (t < 32)
  | .sreg p t _ => decide (p < 2328) && decide (t < 32)
  | .sfrd p t _ => decide (p < 2328) && decide (t < 32)
  | .sfclr p t _ => decide (p < 2328) && decide (t < 32)
  | .sfset p t _ => decide (p < 2328) && decide (t < 32)
  | .cvtctx p t _ => decide (p < 2328) && decide (t < 32)
  | .chainRetire p t => decide (p < 2328) && decide (t < 32)
  | .kernelReplaceApply slot => decide (slot < 256)
  | .matrixTileStart c => decide (c < 2304)
  | .tileOverflowReplay c _ => decide (c < 2304)
  | .matrixTileDone c _ => decide (c < 2304)
  | .mxDebugHalt c => decide (c < 2304)
  | .mxDebugResume c => decide (c < 2304)
  | .devScalecfgWrite _ => true
  | .devScalebaseWrite _ => true
  | .devRecipeWrite k _ => decide (k < 16)
  | .scaleLoaded => true
  | .scaleReseed => true
  | .sdmCfgWrite basin _ => decide (basin < 4)
  | .sdmScrubStep basin _ _ _ _ => decide (basin < 4)
  | .sdmRowRemap basin vault _ => decide (basin < 4) && decide (vault < 64)
  | .memScrubStep ch _ _ _ _ _ => decide (ch < 24)
  | .memSppr ch _ bankGroup sub => decide (ch < 24) && decide (bankGroup < 8) && decide (sub < 2)
  | .install _ => true
  | .update _ => true
  | .invRange _ => true
  | .invUnpinned _ => true
  | .invAll _ => true
  | .lookup _ => true
  | .xltInvalidationDone => true
  | .translationMiss slice req _ _ _ => decide (slice < 4) && decide (1 ≤ req ∧ req ≤ 8)
  | .mapSearchDone _ => true
  | .mapDescRecheck _ => true
  | .xltFaultTimeout _ => true
  | .streamIn q => decide (q < 18464)
  | .streamOut q => decide (q < 18464)
  | .streamCopy q => decide (q < 18464)
  | .transferGrant q => decide (q < 18464)
  | .transferLanded q _ => decide (q < 18464)
  | .streamOpComplete q => decide (q < 18464)
  | .streamWaitPoll q => decide (q < 18464)
  | .streamTransferTimeout q _ => decide (q < 18464)
  | .cowCopyStart basin _ q => decide (basin < 4) && decide (q < 18464)
  | .cowCopyDone basin => decide (basin < 4)
  | .actSave q => decide (q < 18464)
  | .actRestore q => decide (q < 18464)
  | .actSaveRoomFreed q => decide (q < 18464)
  | .actRoomTimeout q => decide (q < 18464)
  | .actPurge basin => decide (basin < 4)
  | .convPatch q => decide (q < 18464)
  | .convTpatch q => decide (q < 18464)
  | .featureMapCodec q => decide (q < 18464)
  | .shlRun q => decide (q < 18464)
  | .convFwd basin _ => decide (basin < 4)
  | .convBwdData basin _ => decide (basin < 4)
  | .convBwdWeight basin _ => decide (basin < 4)
  | .poolMax basin _ => decide (basin < 4)
  | .poolAvg basin _ => decide (basin < 4)
  | .poolMaxBwd basin _ => decide (basin < 4)
  | .poolAvgBwd basin _ => decide (basin < 4)
  | .padFold basin _ => decide (basin < 4)
  | .shlJobDone basin => decide (basin < 4)
  | .shlJobTimeout basin => decide (basin < 4)
  | .attMask q => decide (q < 18464)
  | .kvGather q => decide (q < 18464)
  | .kvWrite q => decide (q < 18464)
  | .kvPageCopyDone q => decide (q < 18464)
  | .kvPoolWaitResume q => decide (q < 18464)
  | .kvPoolWaitTimeout q => decide (q < 18464)
  | .kvSend q => decide (q < 18464)
  | .create _ => true
  | .fork _ _ _ => true
  | .truncate _ _ => true
  | .release _ => true
  | .rxSet _ _ => true
  | .kvpPoolConfig n _ _ _ => decide (n < 4)
  | .fabTrainingStart l => decide (l < 96)
  | .fabLinkUp l => decide (l < 96)
  | .fabTrainingTimeout l => decide (l < 96)
  | .fabLightLoss l _ => decide (l < 96)
  | .flitRetry l _ => decide (l < 96)
  | .fabRetrainDone l => decide (l < 96)
  | .put l k => decide (l < 96) && decide (k.payload.length ≤ 4096)
  | .get l k => decide (l < 96) && decide (k.payload.length ≤ 4096)
  | .getData l k => decide (l < 96) && decide (k.payload.length ≤ 4096)
  | .ack l k => decide (l < 96) && decide (k.payload.length ≤ 4096)
  | .nack l k => decide (l < 96) && decide (k.payload.length ≤ 4096)
  | .hold l k => decide (l < 96) && decide (k.payload.length ≤ 4096)
  | .ping l k => decide (l < 96) && decide (k.payload.length ≤ 4096)
  | .pong l k => decide (l < 96) && decide (k.payload.length ≤ 4096)
  | .identify l k => decide (l < 96) && decide (k.payload.length ≤ 4096)
  | .leaving l k => decide (l < 96) && decide (k.payload.length ≤ 4096)
  | .resetNotice l k => decide (l < 96) && decide (k.payload.length ≤ 4096)
  | .adopt l k => decide (l < 96) && decide (k.payload.length ≤ 4096)
  | .reset l k => decide (l < 96) && decide (k.payload.length ≤ 4096)
  | .resetAck l k => decide (l < 96) && decide (k.payload.length ≤ 4096)
  | .spdmMessage l k => decide (l < 96) && decide (k.payload.length ≤ 4096)
  | .red l k => decide (l < 96) && decide (k.payload.length ≤ 4096)
  | .redC l k => decide (l < 96) && decide (k.payload.length ≤ 4096)
  | .upd l k => decide (l < 96) && decide (k.payload.length ≤ 4096)
  | .kv l k => decide (l < 96) && decide (k.payload.length ≤ 4096)
  | .kvAck l k => decide (l < 96) && decide (k.payload.length ≤ 4096)
  | .mirror l k => decide (l < 96) && decide (k.payload.length ≤ 4096)
  | .fabTxnTimeout _ _ => true
  | .fabHoldResend port _ => decide (port < 48)
  | .dupKeyExpiry _ => true
  | .fabPut q => decide (q < 18464)
  | .fabGet q => decide (q < 18464)
  | .fabMcmdPing port _ _ => decide (port < 48)
  | .fabMcmdReset port _ _ => decide (port < 48)
  | .fabMcmdSpdm port _ _ => decide (port < 48)
  | .fabMcmdTimeout port => decide (port < 48)
  | .devFabidWrite _ => true
  | .routeFlush => true
  | .redTileAccept c _ => decide (c < 2304)
  | .redPush q => decide (q < 18464)
  | .basinPieceReduce basin slot _ _ => decide (basin < 4) && decide (slot < 16384)
  | .redNodeSend slot _ _ _ => decide (slot < 16384)
  | .updateSlabStart _ n => decide (n < 12)
  | .updateSlabDone _ n => decide (n < 12)
  | .updateKernelTimeout _ n => decide (n < 12)
  | .stepClose _ => true
  | .stepAbandon _ => true
  | .stepVote => true
  | .verdictCombine => true
  | .verdictReceived => true
  | .twinStaged _ => true
  | .mirrorRedoDone => true
  | .twinFlipped => true
  | .verdictTimeout => true
  | .commitTimeout => true
  | .redBanksetWrite _ => true
  | .lwClearEntry _ => true
  | .lwClearAll => true
  | .bsteerStateWrite _ => true
  | .bsteerEmaLoad _ => true
  | .stgAcquire q => decide (q < 18464)
  | .stgPublish q => decide (q < 18464)
  | .stgAwait q => decide (q < 18464)
  | .stgRelease q => decide (q < 18464)
  | .sthStgcfgWrite j _ => decide (j < 16)
  | .stageOccupancySample j => decide (j < 16)
  | .stageWaitLong q => decide (q < 18464)
  | .workUnitExpiry c _ => decide (c < 2304)
  | .clockPowerLoopTick _ => true
  | .powerLimitRiseTick _ _ => true
  | .powerLimitFallTick _ _ => true
  | .rasReplayctlSet _ _ => true
  | .testDue phys => decide (phys < 2368)
  | .inFieldTestStart phys => decide (phys < 2368)
  | .inFieldTestDone phys _ => decide (phys < 2368)
  | .inFieldTestTimeout phys => decide (phys < 2368)
  | .testDeferExpiry phys => decide (phys < 2368)
  | .testOverdue phys => decide (phys < 2368)
  | .suspicionExpiry phys => decide (phys < 2368)
  | .rasTestreq _ => true
  | .rasVinject => true
  | .rasLoadgateWrite _ => true
  | .tlmPersistNow _ => true
  | .tlmPersistPeriodic _ => true
  | .tlmHistSample _ _ _ => true
  | .wellheadSramUe => true
  | .wellheadBoot => true
  | .fwTrialConfirm => true
  | .getVersion x _ => x.wf
  | .getCapabilities x _ => x.wf
  | .negotiateAlgorithms x _ => x.wf
  | .getDigests x _ => x.wf
  | .getCertificate x _ => x.wf
  | .challenge x _ => x.wf
  | .getMeasurements x _ => x.wf
  | .spdmUnsupportedRequest x _ => x.wf
  | .mbxBadOpcode _ _ _ => true
  | .notReadyTimeout r => decide (r < 64)
  | .inletDeratingEnd _ => true

end Sys2Proof
end

section
/-! SUPPORT. The frame of every command: each meaning answers a next state, and changes only the parts that `Instr.touches`
names for its command. -/

namespace Sys2Proof.Machine

/-- Every meaning, whatever its conditions, is `.next` of a state: no command of the table stops the machine or is refused. -/
theorem exec_next (c : Instr) (s : State) : ∃ u, exec c s = .next u := by
  cases c <;> exact ⟨_, rfl⟩

/-- The frame of each command is the frame of its meaning, in the order of the commands' declaration. -/
theorem exec_ext : ∀ (c : Instr) (s : State), HAll (fun u => Ext c.touches s u) (exec c s)
  -- module, power, removal (chapter 1)
  | .v36Make, s => execV36Make_ext s
  | .inputLoss, s => execInputLoss_ext s
  | .presMake, s => execPresMake_ext s
  | .presDebounceDone, s => execPresDebounceDone_ext s
  | .mainRailsUp, s => execMainRailsUp_ext s
  | .presBreak, s => execPresBreak_ext s
  | .uvTrip _, s => execUvTrip_ext _ s
  | .ovTrip _, s => execOvTrip_ext _ s
  | .uvRelease _, s => execUvRelease_ext _ s
  | .ovRelease _, s => execOvRelease_ext _ s
  | .vinBandChange _, s => execVinBandChange_ext _ s
  | .inletHigh _, s => execInletHigh_ext _ s
  | .inletTripTimer, s => execInletTripTimer_ext s
  | .dieHot _, s => execDieHot_ext _ s
  | .dieOvertempTrip _, s => execDieOvertempTrip_ext _ s
  | .dimmRefreshDouble _, s => execDimmRefreshDouble_ext _ s
  | .dimmHot _, s => execDimmHot_ext _ s
  | .opticHot _, s => execOpticHot_ext _ s
  | .thermalRestart, s => execThermalRestart_ext s
  | .removeReq, s => execRemoveReq_ext s
  | .removalDrainResume, s => execRemovalDrainResume_ext s
  | .removeDrainTimeout, s => execRemoveDrainTimeout_ext s
  -- clocks, reset, readiness (chapter 2)
  | .logicPllLockLost, s => execLogicPllLockLost_ext s
  | .logicPllLockReturn, s => execLogicPllLockReturn_ext s
  | .rootRefStop, s => execRootRefStop_ext s
  | .rootRefReturn, s => execRootRefReturn_ext s
  | .ddrPhyPllLockLost, s => execDdrPhyPllLockLost_ext s
  | .phyPllLockLost _, s => execPhyPllLockLost_ext _ s
  | .rstCtrlCold _, s => execRstCtrlCold_ext _ s
  | .rstCtrlWarm _, s => execRstCtrlWarm_ext _ s
  | .rstCtrlBasin _ _, s => execRstCtrlBasin_ext _ _ s
  | .coldResetAssert, s => execColdResetAssert_ext s
  | .warmResetAssert, s => execWarmResetAssert_ext s
  | .basinResetAssert _, s => execBasinResetAssert_ext _ s
  | .coldResetRelease, s => execColdResetRelease_ext s
  | .warmResetRelease, s => execWarmResetRelease_ext s
  | .basinResetRelease _, s => execBasinResetRelease_ext _ s
  | .blockReady _ _, s => execBlockReady_ext _ _ s
  | .memTrainingDone _ _, s => execMemTrainingDone_ext _ _ s
  | .powerOnCoreTestDone _ _, s => execPowerOnCoreTestDone_ext _ _ s
  | .basinReady _, s => execBasinReady_ext _ s
  | .readyLate _ _, s => execReadyLate_ext _ _ s
  | .wellheadWatchdogExpiry, s => execWellheadWatchdogExpiry_ext s
  | .blkReset _ _, s => execBlkReset_ext _ _ s
  | .deferredResetStart _ _, s => execDeferredResetStart_ext _ _ s
  | .blockResetDone _ _, s => execBlockResetDone_ext _ _ s
  | .journalResolutionBegin, s => execJournalResolutionBegin_ext s
  | .journalTwinAnswer _ _, s => execJournalTwinAnswer_ext _ _ s
  | .journalTwinTimeout, s => execJournalTwinTimeout_ext s
  | .twinLost, s => execTwinLost_ext s
  -- register pages (chapter 3)
  | .registerWrite _ _ _ _, s => execRegisterWrite_ext _ _ _ _ s
  | .refusedAccess host write addr size v, s => execRefusedAccess_ext host write addr size v s
  | .broadcastWrite _ _ _ _, s => execBroadcastWrite_ext _ _ _ _ s
  | .quiesceWrite _ _ _, s => execQuiesceWrite_ext _ _ _ s
  | .blockQuiesced _ _, s => execBlockQuiesced_ext _ _ s
  | .eventRegWrite _ _ _ _, s => execEventRegWrite_ext _ _ _ _ s
  | .msixUnmask _, s => execMsixUnmask_ext _ s
  | .cntSnapTake _ _, s => execCntSnapTake_ext _ _ s
  | .devIfCapFloorWrite _ _ _, s => execDevIfCapFloorWrite_ext _ _ _ s
  | .devLockWrite _, s => execDevLockWrite_ext _ s
  -- host link, rings, mailbox (chapter 4)
  | .hostLinkTrained _ _ _ _, s => execHostLinkTrained_ext _ _ _ _ s
  | .hostLightLoss _, s => execHostLightLoss_ext _ s
  | .hostHotReset, s => execHostHotReset_ext s
  | .functionLevelReset, s => execFunctionLevelReset_ext s
  | .cxlReset, s => execCxlReset_ext s
  | .hdmDecoderCommit _ _ _ _ _, s => execHdmDecoderCommit_ext _ _ _ _ _ s
  | .hdmExposeWrite _, s => execHdmExposeWrite_ext _ s
  | .hlkBiasWrite _ _, s => execHlkBiasWrite_ext _ _ s
  | .biasSettled, s => execBiasSettled_ext s
  | .hostHdmAccess _ _ _ _, s => execHostHdmAccess_ext _ _ _ _ s
  | .doeRequest _, s => execDoeRequest_ext _ s
  | .ringOpen _ _, s => execRingOpen_ext _ _ s
  | .ringClose _, s => execRingClose_ext _ s
  | .ringCloseDone _, s => execRingCloseDone_ext _ s
  | .ringReset _, s => execRingReset_ext _ s
  | .ringResetDone _, s => execRingResetDone_ext _ s
  | .commandTailDoorbell _ _, s => execCommandTailDoorbell_ext _ _ s
  | .completionHeadDoorbell _ _, s => execCompletionHeadDoorbell_ext _ _ s
  | .commandFetch _, s => execCommandFetch_ext _ s
  | .ringNop _, s => execRingNop_ext _ s
  | .loadKernel _, s => execLoadKernel_ext _ s
  | .launch _, s => execLaunch_ext _ s
  | .stream _, s => execStream_ext _ s
  | .copy _, s => execCopy_ext _ s
  | .fence _, s => execFence_ext _ s
  | .signal _, s => execSignal_ext _ s
  | .wait _, s => execWait_ext _ s
  | .waitPoll _ _, s => execWaitPoll_ext _ _ s
  | .stepBegin _, s => execStepBegin_ext _ s
  | .commandComplete _ _, s => execCommandComplete_ext _ _ s
  | .getInfo _ _, s => execGetInfo_ext _ _ s
  | .faultLogOpen _ _, s => execFaultLogOpen_ext _ _ s
  | .faultRead _ _, s => execFaultRead_ext _ _ s
  | .tlmRead _ _, s => execTlmRead_ext _ _ s
  | .fwStage _ _, s => execFwStage_ext _ _ s
  | .fwActivateTrial _ _, s => execFwActivateTrial_ext _ _ s
  | .fwActivateRestart _ _, s => execFwActivateRestart_ext _ _ s
  | .fwActivateCancel _ _, s => execFwActivateCancel_ext _ _ s
  | .wellheadActivationRestart _, s => execWellheadActivationRestart_ext _ s
  | .getNonce _ _, s => execGetNonce_ext _ _ s
  | .unlock _ _, s => execUnlock_ext _ _ s
  | .lock _ _, s => execLock_ext _ _ s
  | .provision _ _, s => execProvision_ext _ _ s
  | .revoke _ _, s => execRevoke_ext _ _ s
  | .xltResolveRetry _ _, s => execXltResolveRetry_ext _ _ s
  | .xltResolveFail _ _, s => execXltResolveFail_ext _ _ s
  | .mbxResponse, s => execMbxResponse_ext s
  | .mbxTimeout, s => execMbxTimeout_ext s
  -- cores, launches, swaps (chapter 5)
  | .launchStart _ _, s => execLaunchStart_ext _ _ s
  | .launchEndOnCore _ _, s => execLaunchEndOnCore_ext _ _ s
  | .swapRequest _ _, s => execSwapRequest_ext _ _ s
  | .swapDrainPoint _, s => execSwapDrainPoint_ext _ s
  | .swapCopyStart _, s => execSwapCopyStart_ext _ s
  | .swapCopyDone _, s => execSwapCopyDone_ext _ s
  | .corPartWrite _ _, s => execCorPartWrite_ext _ _ s
  | .partApply _, s => execPartApply_ext _ s
  | .corFlagsSet _ _, s => execCorFlagsSet_ext _ _ s
  | .corFlagsClr _ _, s => execCorFlagsClr_ext _ _ s
  | .barrierRelease _ _ _ _, s => execBarrierRelease_ext _ _ _ _ s
  | .barrierTimeout _ _ _ _, s => execBarrierTimeout_ext _ _ _ _ s
  | .efWaitRelease _ _, s => execEfWaitRelease_ext _ _ s
  -- Septoon (chapter 8)
  | .nop _ _ _, s => execNop_ext _ _ _ s
  | .endThread _ _ _, s => execEndThread_ext _ _ _ s
  | .bar _ _ _, s => execBar_ext _ _ _ s
  | .efset _ _ _, s => execEfset_ext _ _ _ s
  | .efclr _ _ _, s => execEfclr_ext _ _ _ s
  | .efwait _ _ _, s => execEfwait_ext _ _ _ s
  | .efwaitc _ _ _, s => execEfwaitc_ext _ _ _ s
  | .braAny _ _ _, s => execBraAny_ext _ _ _ s
  | .braAll _ _ _, s => execBraAll_ext _ _ _ s
  | .braNone _ _ _, s => execBraNone_ext _ _ _ s
  | .iadd _ _ _, s => execIadd_ext _ _ _ s
  | .isub _ _ _, s => execIsub_ext _ _ _ s
  | .imul _ _ _, s => execImul_ext _ _ _ s
  | .imulh _ _ _, s => execImulh_ext _ _ _ s
  | .and _ _ _, s => execAnd_ext _ _ _ s
  | .or _ _ _, s => execOr_ext _ _ _ s
  | .xor _ _ _, s => execXor_ext _ _ _ s
  | .shl _ _ _, s => execShl_ext _ _ _ s
  | .shr _ _ _, s => execShr_ext _ _ _ s
  | .sar _ _ _, s => execSar_ext _ _ _ s
  | .imin _ _ _, s => execImin_ext _ _ _ s
  | .imax _ _ _, s => execImax_ext _ _ _ s
  | .sel _ _ _, s => execSel_ext _ _ _ s
  | .iaddImm _ _ _, s => execIaddImm_ext _ _ _ s
  | .isubImm _ _ _, s => execIsubImm_ext _ _ _ s
  | .imulImm _ _ _, s => execImulImm_ext _ _ _ s
  | .imulhImm _ _ _, s => execImulhImm_ext _ _ _ s
  | .andImm _ _ _, s => execAndImm_ext _ _ _ s
  | .orImm _ _ _, s => execOrImm_ext _ _ _ s
  | .xorImm _ _ _, s => execXorImm_ext _ _ _ s
  | .shlImm _ _ _, s => execShlImm_ext _ _ _ s
  | .shrImm _ _ _, s => execShrImm_ext _ _ _ s
  | .sarImm _ _ _, s => execSarImm_ext _ _ _ s
  | .iminImm _ _ _, s => execIminImm_ext _ _ _ s
  | .imaxImm _ _ _, s => execImaxImm_ext _ _ _ s
  | .movi _ _ _, s => execMovi_ext _ _ _ s
  | .fadd _ _ _, s => execFadd_ext _ _ _ s
  | .fmul _ _ _, s => execFmul_ext _ _ _ s
  | .ffma _ _ _, s => execFfma_ext _ _ _ s
  | .fmin _ _ _, s => execFmin_ext _ _ _ s
  | .fmax _ _ _, s => execFmax_ext _ _ _ s
  | .faddi _ _ _, s => execFaddi_ext _ _ _ s
  | .fmuli _ _ _, s => execFmuli_ext _ _ _ s
  | .hadd2 _ _ _, s => execHadd2_ext _ _ _ s
  | .hmul2 _ _ _, s => execHmul2_ext _ _ _ s
  | .hfma2 _ _ _, s => execHfma2_ext _ _ _ s
  | .exp2 _ _ _, s => execExp2_ext _ _ _ s
  | .log2 _ _ _, s => execLog2_ext _ _ _ s
  | .rcp _ _ _, s => execRcp_ext _ _ _ s
  | .rsqrt _ _ _, s => execRsqrt_ext _ _ _ s
  | .sqrt _ _ _, s => execSqrt_ext _ _ _ s
  | .tanh _ _ _, s => execTanh_ext _ _ _ s
  | .sint _ _ _, s => execSint_ext _ _ _ s
  | .cost _ _ _, s => execCost_ext _ _ _ s
  | .fsetp _ _ _, s => execFsetp_ext _ _ _ s
  | .isetp _ _ _, s => execIsetp_ext _ _ _ s
  | .pand _ _ _, s => execPand_ext _ _ _ s
  | .por _ _ _, s => execPor_ext _ _ _ s
  | .pxor _ _ _, s => execPxor_ext _ _ _ s
  | .vote _ _ _, s => execVote_ext _ _ _ s
  | .pbit _ _ _, s => execPbit_ext _ _ _ s
  | .cvt _ _ _, s => execCvt_ext _ _ _ s
  | .ld8 _ _ _, s => execLd8_ext _ _ _ s
  | .ld16 _ _ _, s => execLd16_ext _ _ _ s
  | .ld32 _ _ _, s => execLd32_ext _ _ _ s
  | .ld64 _ _ _, s => execLd64_ext _ _ _ s
  | .st8 _ _ _, s => execSt8_ext _ _ _ s
  | .st16 _ _ _, s => execSt16_ext _ _ _ s
  | .st32 _ _ _, s => execSt32_ext _ _ _ s
  | .st64 _ _ _, s => execSt64_ext _ _ _ s
  | .shfl _ _ _, s => execShfl_ext _ _ _ s
  | .shflx _ _ _, s => execShflx_ext _ _ _ s
  | .rsum _ _ _, s => execRsum_ext _ _ _ s
  | .rmax _ _ _, s => execRmax_ext _ _ _ s
  | .rmin _ _ _, s => execRmin_ext _ _ _ s
  | .risum _ _ _, s => execRisum_ext _ _ _ s
  | .mma _ _ _, s => execMma_ext _ _ _ s
  | .sqpush _ _ _, s => execSqpush_ext _ _ _ s
  | .sqsync _ _ _, s => execSqsync_ext _ _ _ s
  | .chain _ _ _, s => execChain_ext _ _ _ s
  | .ldm40 _ _ _, s => execLdm40_ext _ _ _ s
  | .stm40 _ _ _, s => execStm40_ext _ _ _ s
  | .m40fma _ _ _, s => execM40fma_ext _ _ _ s
  | .sreg _ _ _, s => execSreg_ext _ _ _ s
  | .sfrd _ _ _, s => execSfrd_ext _ _ _ s
  | .sfclr _ _ _, s => execSfclr_ext _ _ _ s
  | .sfset _ _ _, s => execSfset_ext _ _ _ s
  | .cvtctx _ _ _, s => execCvtctx_ext _ _ _ s
  | .chainRetire _ _, s => execChainRetire_ext _ _ s
  | .kernelReplaceApply _, s => execKernelReplaceApply_ext _ s
  -- matrix engine (chapter 7)
  | .matrixTileStart _, s => execMatrixTileStart_ext _ s
  | .tileOverflowReplay _ _, s => execTileOverflowReplay_ext _ _ s
  | .matrixTileDone _ _, s => execMatrixTileDone_ext _ _ s
  | .mxDebugHalt _, s => execMxDebugHalt_ext _ s
  | .mxDebugResume _, s => execMxDebugResume_ext _ s
  -- scaling (chapter 6)
  | .devScalecfgWrite _, s => execDevScalecfgWrite_ext _ s
  | .devScalebaseWrite _, s => execDevScalebaseWrite_ext _ s
  | .devRecipeWrite _ _, s => execDevRecipeWrite_ext _ _ s
  | .scaleLoaded, s => execScaleLoaded_ext s
  | .scaleReseed, s => execScaleReseed_ext s
  -- memory and translation (chapter 9)
  | .sdmCfgWrite _ _, s => execSdmCfgWrite_ext _ _ s
  | .sdmScrubStep _ _ _ _ _, s => execSdmScrubStep_ext _ _ _ _ _ s
  | .sdmRowRemap _ _ _, s => execSdmRowRemap_ext _ _ _ s
  | .memScrubStep _ _ _ _ _ _, s => execMemScrubStep_ext _ _ _ _ _ _ s
  | .memSppr _ _ _ _, s => execMemSppr_ext _ _ _ _ s
  | .install _, s => execInstall_ext _ s
  | .update _, s => execUpdate_ext _ s
  | .invRange _, s => execInvRange_ext _ s
  | .invUnpinned _, s => execInvUnpinned_ext _ s
  | .invAll _, s => execInvAll_ext _ s
  | .lookup _, s => execLookup_ext _ s
  | .xltInvalidationDone, s => execXltInvalidationDone_ext s
  | .translationMiss _ _ _ _ _, s => execTranslationMiss_ext _ _ _ _ _ s
  | .mapSearchDone _, s => execMapSearchDone_ext _ s
  | .mapDescRecheck _, s => execMapDescRecheck_ext _ s
  | .xltFaultTimeout _, s => execXltFaultTimeout_ext _ s
  -- streams (chapter 10)
  | .streamIn _, s => execStreamIn_ext _ s
  | .streamOut _, s => execStreamOut_ext _ s
  | .streamCopy _, s => execStreamCopy_ext _ s
  | .transferGrant _, s => execTransferGrant_ext _ s
  | .transferLanded _ _, s => execTransferLanded_ext _ _ s
  | .streamOpComplete _, s => execStreamOpComplete_ext _ s
  | .streamWaitPoll _, s => execStreamWaitPoll_ext _ s
  | .streamTransferTimeout _ _, s => execStreamTransferTimeout_ext _ _ s
  | .cowCopyStart _ _ _, s => execCowCopyStart_ext _ _ _ s
  | .cowCopyDone _, s => execCowCopyDone_ext _ s
  -- activation store (chapter 11)
  | .actSave _, s => execActSave_ext _ s
  | .actRestore _, s => execActRestore_ext _ s
  | .actSaveRoomFreed _, s => execActSaveRoomFreed_ext _ s
  | .actRoomTimeout _, s => execActRoomTimeout_ext _ s
  | .actPurge _, s => execActPurge_ext _ s
  -- convolution and shallows (chapter 12)
  | .convPatch _, s => execConvPatch_ext _ s
  | .convTpatch _, s => execConvTpatch_ext _ s
  | .featureMapCodec _, s => execFeatureMapCodec_ext _ s
  | .shlRun _, s => execShlRun_ext _ s
  | .convFwd _ _, s => execConvFwd_ext _ _ s
  | .convBwdData _ _, s => execConvBwdData_ext _ _ s
  | .convBwdWeight _ _, s => execConvBwdWeight_ext _ _ s
  | .poolMax _ _, s => execPoolMax_ext _ _ s
  | .poolAvg _ _, s => execPoolAvg_ext _ _ s
  | .poolMaxBwd _ _, s => execPoolMaxBwd_ext _ _ s
  | .poolAvgBwd _ _, s => execPoolAvgBwd_ext _ _ s
  | .padFold _ _, s => execPadFold_ext _ _ s
  | .shlJobDone _, s => execShlJobDone_ext _ s
  | .shlJobTimeout _, s => execShlJobTimeout_ext _ s
  -- attention and KV (chapter 13)
  | .attMask _, s => execAttMask_ext _ s
  | .kvGather _, s => execKvGather_ext _ s
  | .kvWrite _, s => execKvWrite_ext _ s
  | .kvPageCopyDone _, s => execKvPageCopyDone_ext _ s
  | .kvPoolWaitResume _, s => execKvPoolWaitResume_ext _ s
  | .kvPoolWaitTimeout _, s => execKvPoolWaitTimeout_ext _ s
  | .kvSend _, s => execKvSend_ext _ s
  | .create _, s => execCreate_ext _ s
  | .fork _ _ _, s => execFork_ext _ _ _ s
  | .truncate _ _, s => execTruncate_ext _ _ s
  | .release _, s => execRelease_ext _ s
  | .rxSet _ _, s => execRxSet_ext _ _ s
  | .kvpPoolConfig _ _ _ _, s => execKvpPoolConfig_ext _ _ _ _ s
  -- Colsar fabric (chapter 14)
  | .fabTrainingStart _, s => execFabTrainingStart_ext _ s
  | .fabLinkUp _, s => execFabLinkUp_ext _ s
  | .fabTrainingTimeout _, s => execFabTrainingTimeout_ext _ s
  | .fabLightLoss _ _, s => execFabLightLoss_ext _ _ s
  | .flitRetry _ _, s => execFlitRetry_ext _ _ s
  | .fabRetrainDone _, s => execFabRetrainDone_ext _ s
  | .put _ _, s => execPut_ext _ _ s
  | .get _ _, s => execGet_ext _ _ s
  | .getData _ _, s => execGetData_ext _ _ s
  | .ack _ _, s => execAck_ext _ _ s
  | .nack _ _, s => execNack_ext _ _ s
  | .hold _ _, s => execHold_ext _ _ s
  | .ping _ _, s => execPing_ext _ _ s
  | .pong _ _, s => execPong_ext _ _ s
  | .identify _ _, s => execIdentify_ext _ _ s
  | .leaving _ _, s => execLeaving_ext _ _ s
  | .resetNotice _ _, s => execResetNotice_ext _ _ s
  | .adopt _ _, s => execAdopt_ext _ _ s
  | .reset _ _, s => execReset_ext _ _ s
  | .resetAck _ _, s => execResetAck_ext _ _ s
  | .spdmMessage _ _, s => execSpdmMessage_ext _ _ s
  | .red _ _, s => execRed_ext _ _ s
  | .redC _ _, s => execRedC_ext _ _ s
  | .upd _ _, s => execUpd_ext _ _ s
  | .kv _ _, s => execKv_ext _ _ s
  | .kvAck _ _, s => execKvAck_ext _ _ s
  | .mirror _ _, s => execMirror_ext _ _ s
  | .fabTxnTimeout _ _, s => execFabTxnTimeout_ext _ _ s
  | .fabHoldResend _ _, s => execFabHoldResend_ext _ _ s
  | .dupKeyExpiry _, s => execDupKeyExpiry_ext _ s
  | .fabPut _, s => execFabPut_ext _ s
  | .fabGet _, s => execFabGet_ext _ s
  | .fabMcmdPing _ _ _, s => execFabMcmdPing_ext _ _ _ s
  | .fabMcmdReset _ _ _, s => execFabMcmdReset_ext _ _ _ s
  | .fabMcmdSpdm _ _ _, s => execFabMcmdSpdm_ext _ _ _ s
  | .fabMcmdTimeout _, s => execFabMcmdTimeout_ext _ s
  | .devFabidWrite _, s => execDevFabidWrite_ext _ s
  | .routeFlush, s => execRouteFlush_ext s
  -- reduction and update (chapter 15)
  | .redTileAccept _ _, s => execRedTileAccept_ext _ _ s
  | .redPush _, s => execRedPush_ext _ s
  | .basinPieceReduce _ _ _ _, s => execBasinPieceReduce_ext _ _ _ _ s
  | .redNodeSend _ _ _ _, s => execRedNodeSend_ext _ _ _ _ s
  | .updateSlabStart _ _, s => execUpdateSlabStart_ext _ _ s
  | .updateSlabDone _ _, s => execUpdateSlabDone_ext _ _ s
  | .updateKernelTimeout _ _, s => execUpdateKernelTimeout_ext _ _ s
  | .stepClose _, s => execStepClose_ext _ s
  | .stepAbandon _, s => execStepAbandon_ext _ s
  | .stepVote, s => execStepVote_ext s
  | .verdictCombine, s => execVerdictCombine_ext s
  | .verdictReceived, s => execVerdictReceived_ext s
  | .twinStaged _, s => execTwinStaged_ext _ s
  | .mirrorRedoDone, s => execMirrorRedoDone_ext s
  | .twinFlipped, s => execTwinFlipped_ext s
  | .verdictTimeout, s => execVerdictTimeout_ext s
  | .commitTimeout, s => execCommitTimeout_ext s
  | .redBanksetWrite _, s => execRedBanksetWrite_ext _ s
  | .lwClearEntry _, s => execLwClearEntry_ext _ s
  | .lwClearAll, s => execLwClearAll_ext s
  -- job mapping (chapter 16)
  | .bsteerStateWrite _, s => execBsteerStateWrite_ext _ s
  | .bsteerEmaLoad _, s => execBsteerEmaLoad_ext _ s
  | .stgAcquire _, s => execStgAcquire_ext _ s
  | .stgPublish _, s => execStgPublish_ext _ s
  | .stgAwait _, s => execStgAwait_ext _ s
  | .stgRelease _, s => execStgRelease_ext _ s
  | .sthStgcfgWrite _ _, s => execSthStgcfgWrite_ext _ _ s
  | .stageOccupancySample _, s => execStageOccupancySample_ext _ s
  | .stageWaitLong _, s => execStageWaitLong_ext _ s
  | .workUnitExpiry _ _, s => execWorkUnitExpiry_ext _ _ s
  | .clockPowerLoopTick _, s => execClockPowerLoopTick_ext _ s
  | .powerLimitRiseTick _ _, s => execPowerLimitRiseTick_ext _ _ s
  | .powerLimitFallTick _ _, s => execPowerLimitFallTick_ext _ _ s
  -- reliability and telemetry (chapter 17)
  | .rasReplayctlSet _ _, s => execRasReplayctlSet_ext _ _ s
  | .testDue _, s => execTestDue_ext _ s
  | .inFieldTestStart _, s => execInFieldTestStart_ext _ s
  | .inFieldTestDone _ _, s => execInFieldTestDone_ext _ _ s
  | .inFieldTestTimeout _, s => execInFieldTestTimeout_ext _ s
  | .testDeferExpiry _, s => execTestDeferExpiry_ext _ s
  | .testOverdue _, s => execTestOverdue_ext _ s
  | .suspicionExpiry _, s => execSuspicionExpiry_ext _ s
  | .rasTestreq _, s => execRasTestreq_ext _ s
  | .rasVinject, s => execRasVinject_ext s
  | .rasLoadgateWrite _, s => execRasLoadgateWrite_ext _ s
  | .tlmPersistNow _, s => execTlmPersistNow_ext _ s
  | .tlmPersistPeriodic _, s => execTlmPersistPeriodic_ext _ s
  | .tlmHistSample _ _ _, s => execTlmHistSample_ext _ _ _ s
  -- security and firmware (chapter 18)
  | .wellheadSramUe, s => execWellheadSramUe_ext s
  | .wellheadBoot, s => execWellheadBoot_ext s
  | .fwTrialConfirm, s => execFwTrialConfirm_ext s
  | .getVersion _ _, s => execGetVersion_ext _ _ s
  | .getCapabilities _ _, s => execGetCapabilities_ext _ _ s
  | .negotiateAlgorithms _ _, s => execNegotiateAlgorithms_ext _ _ s
  | .getDigests _ _, s => execGetDigests_ext _ _ s
  | .getCertificate _ _, s => execGetCertificate_ext _ _ s
  | .challenge _ _, s => execChallenge_ext _ _ s
  | .getMeasurements _ _, s => execGetMeasurements_ext _ _ s
  | .spdmUnsupportedRequest _ _, s => execSpdmUnsupportedRequest_ext _ _ s
  | .mbxBadOpcode _ _ _, s => execMbxBadOpcode_ext _ _ _ s
  | .notReadyTimeout _, s => execNotReadyTimeout_ext _ s
  | .inletDeratingEnd _, s => execInletDeratingEnd_ext _ s

/-- The queue of waiting commands belongs to `step` alone. -/
theorem pending_not_mem_touches (c : Instr) : .pending ∉ c.touches := by
  have h : c.touches.contains .pending = false := by cases c <;> rfl
  simpa using h

/-- A property of a meaning's next state holds of the state that it answers with. -/
theorem HAll.exists_next {P : State → Prop} {o : Host.Outcome State Fault Refusal} (h : HAll P o) (hn : ∃ u, o = .next u) :
    ∃ u, o = .next u ∧ P u :=
  hn.imp fun u hu => ⟨hu, h.all u hu⟩

/-- Settles O3: the frames of the meanings, `exec_ext`, and that every meaning answers a next state, `exec_next`. -/
theorem commandsTouchOnlyTheirParts : Obligations.CommandsTouchOnlyTheirParts := by
  intro c s
  obtain ⟨u, hu, hframe, -⟩ := (exec_ext c s).exists_next (exec_next c s)
  have hqueue : u.pending = s.pending := hframe .pending (pending_not_mem_touches c)
  exact ⟨u, hu, hframe, hqueue⟩

end Sys2Proof.Machine
end

section
/-! SUPPORT. The registers of the DEV page: the relation DevKept, and the operations that leave every one of them alone because
they write the pages of other blocks only. -/

namespace Sys2Proof.Machine

/-- The stored register words of the DEV page, the page at BAR0 offset 0 (R53). -/
def State.devRegs (s : State) : Tab Word := s.regs.filter fun e => decide (e.1 < 0x1000)

/-- From s to u, no register of the DEV page changes. -/
structure DevKept (s u : State) : Prop where
  devRegs : u.devRegs = s.devRegs

theorem pageBase_ge_of_ne_dev {b : Blk} (hb : b ≠ .dev) (i : Nat) : 0x1000 ≤ pageBase b i := by
  cases b <;> simp [pageBase] at hb ⊢ <;> omega

/-- Writing a key that a predicate rejects does not show among the keys that it accepts. -/
theorem filter_tset_of_not {α : Type} [DecidableEq α] (t : Tab α) (d v : α) (a : Nat) (p : Nat → Bool) (h : p a = false) :
    (tset t d a v).filter (fun e => p e.1) = t.filter (fun e => p e.1 && e.1 < a) ++ t.filter (fun e => p e.1 && a < e.1) := by
  have hnew : (if v = d then [] else [(a, v)]).filter (fun e => p e.1) = [] := by split <;> simp [h]
  simp [tset, hnew, List.filter_filter]

namespace DevKept

variable {s t u : State}

theorem refl (s : State) : DevKept s s := ⟨rfl⟩

theorem trans (h : DevKept s t) (k : DevKept t u) : DevKept s u := ⟨k.devRegs.trans h.devRegs⟩

/-- A register of the DEV page reads as before. -/
theorem rd (h : DevKept s u) {a : Nat} (ha : a < 0x1000) : u.rd a = s.rd a := by
  have key (x : State) : x.rd a = tget x.devRegs (coldWord a) a := by
    have e := tget_filter x.regs (coldWord a) (fun k => decide (k < 0x1000)) a
    simpa [ha, State.rd, State.devRegs] using e.symm
  rw [key, key, h.devRegs]

/-- An operation that changes no register at all. -/
theorem frame {ps : List Part} (h : DevKept s t) (e : Ext ps t u) (hr : ps.contains .regs = false := by rfl) : DevKept s u := by
  have hregs : u.regs = t.regs := e.1 .regs (by simpa using hr)
  refine h.trans ⟨?_⟩
  unfold State.devRegs
  rw [hregs]

/-- An update of the state's other fields. -/
theorem of_regs (h : DevKept s t) (e : u.regs = t.regs := by rfl) : DevKept s u :=
  h.trans ⟨congrArg (List.filter fun x : Nat × Word => decide (x.1 < 0x1000)) e⟩

theorem ite {c : Prop} [Decidable c] (h : DevKept s t) (k : DevKept s u) : DevKept s (if c then t else u) := by
  split <;> assumption

/-! ### Registers, events, counters -/

theorem wr (h : DevKept s t) {a : Nat} (w : Word) (ha : 0x1000 ≤ a) : DevKept s (t.wr a w) := by
  refine h.trans ⟨?_⟩
  unfold State.devRegs State.wr
  rw [filter_tset_of_not t.regs _ w a (fun k => decide (k < 0x1000)) (by simpa using ha)]
  have hbelow : ∀ e : Nat × Word, (decide (e.1 < 0x1000) && decide (e.1 < a)) = decide (e.1 < 0x1000) := fun e => by
    simp; omega
  have habove : ∀ e : Nat × Word, (decide (e.1 < 0x1000) && decide (a < e.1)) = false := fun e => by
    simp; omega
  simp [hbelow, habove]

theorem p (h : DevKept s t) {b : Blk} {i off hi lo v : Nat} (hb : b ≠ .dev := by decide) : DevKept s (t.p b i off hi lo v) :=
  h.wr _ (Nat.le_add_right_of_le (pageBase_ge_of_ne_dev hb i))

theorem raise (h : DevKept s t) {b : Blk} {i n : Nat} (hb : b ≠ .dev := by decide) : DevKept s (t.raise b i n) := by
  unfold State.raise
  dsimp only
  split
  · exact (h.p hb).frame (State.msix_ext ..)
  · exact h.p hb

theorem saturate (h : DevKept s t) {b : Blk} {i item : Nat} (hb : b ≠ .dev) : DevKept s (t.saturate b i item) := by
  unfold State.saturate
  dsimp only
  split
  · exact h
  · split
    · exact (h.p hb).raise hb
    · exact h.p hb

theorem bump (h : DevKept s t) {b : Blk} {i off n : Nat} (hb : b ≠ .dev := by decide) : DevKept s (t.bump b i off n) := by
  have hw (w : Word) : DevKept s (t.wr (pageBase b i + off) w) :=
    h.wr w (Nat.le_add_right_of_le (pageBase_ge_of_ne_dev hb i))
  unfold State.bump
  dsimp only
  split
  · exact h
  · split
    · exact hw _
    · exact (hw _).saturate hb

/-! ### Failure records, detections, retirement -/

theorem putRecord (h : DevKept s t) {r : FRec} : DevKept s (t.putRecord r) := by
  unfold State.putRecord
  refine ite h.of_regs (ite (frame (bump (h.frame (Ext.set_ras_free ..))) (Ext.set_ras ..)) ?_)
  dsimp only
  split
  · exact frame (bump (h.frame (Ext.set_ras_free ..))) (Ext.set_ras ..)
  · exact raise (bump (bump (h.frame (Ext.set_ras_free ..))))

theorem record (h : DevKept s t) {b : Blk} {i kind outcome sev phys attempt detail addr : Nat} {step : Word} :
    DevKept s (t.record b i kind outcome sev phys step attempt detail addr) := h.putRecord

theorem spareLow (h : DevKept s t) {n b : Nat} : DevKept s (State.spareLow n t b) := by
  unfold State.spareLow
  dsimp only
  split
  · exact h.raise
  · exact h

theorem requestReplay (h : DevKept s t) {step : Word} {n : Nat} : DevKept s (t.requestReplay step n) := by
  unfold State.requestReplay
  dsimp only
  split
  · exact h
  · exact (((h.wr _ (Nat.le_add_right_of_le (by decide))).bump).bump).raise

theorem requestSwap (h : DevKept s t) {c : Nat} {x : Bool} : DevKept s (t.requestSwap c x) := by
  unfold State.requestSwap
  dsimp only
  split
  · split
    · exact h.record
    · exact (h.frame (State.setCore_ext ..)).spareLow
  all_goals exact h.frame (State.setCore_ext ..)

theorem retireMark (h : DevKept s t) {q : Nat} : DevKept s (t.retireMark q) := by
  unfold State.retireMark
  dsimp only
  exact spareLow (raise (bump (bump (record (frame (h.frame (State.setPcore_ext ..)) (Ext.set_ras ..))))))

theorem retire (h : DevKept s t) {q : Nat} : DevKept s (t.retire q) := by
  unfold State.retire
  dsimp only
  split
  · exact h
  · split
    · exact h.retireMark
    · split
      · exact h.retireMark.frame (State.coreLost_ext ..)
      · exact h.retireMark.requestSwap

theorem coreError (h : DevKept s t) {q : Nat} : DevKept s (t.coreError q) := by
  unfold State.coreError
  dsimp only
  split
  · exact (h.bump.frame (State.setPcore_ext ..)).retire
  · exact (h.bump.frame (State.setPcore_ext ..)).raise

theorem detected (h : DevKept s t) {b : Blk} {i kind detail addr : Nat} {step : Word} {phys : Option Nat} :
    DevKept s (t.detected b i kind step phys detail addr) := by
  unfold State.detected
  dsimp only
  split
  · exact (h.bump.frame (State.freeByte_ext ..)).record
  · split
    · exact h.bump.requestReplay.record.coreError
    · exact h.bump.requestReplay.record

end DevKept

end Sys2Proof.Machine
end

section
/-! SUPPORT. Reset columns and stored words: what a reset's columns make of the registers of a page, and of a register whose word
the table holds once. -/

namespace Sys2Proof.Machine

/-! ### The columns of a reset, word by word (R33, R34) -/

/-- What the columns of a reset make of one stored register word: nothing where it falls to its Cold value. -/
def columnEntry (warm : Bool) (p : Blk → Nat → Bool) (e : Nat × Word) : Option (Nat × Word) :=
  match pageAt e.1 with
  | some (b, i) =>
    if p b i then
      match RegMap.find b (e.1 % 0x1000) with
      | some (r, _) => if r.after warm b e.2 = r.cold then none else some (e.1, r.after warm b e.2)
      | none => some e
    else some e
  | none => some e

theorem State.columns_regs (s : State) (warm : Bool) (p : Blk → Nat → Bool) :
    (s.columns warm p).regs = s.regs.filterMap (columnEntry warm p) := rfl

theorem columnEntry_key {warm : Bool} {p : Blk → Nat → Bool} {e x : Nat × Word} (h : columnEntry warm p e = some x) : x.1 = e.1 := by
  unfold columnEntry at h
  repeat' split at h
  all_goals (cases h <;> rfl)

/-- The columns act on each register apart. -/
theorem filter_filterMap_columnEntry (warm : Bool) (p : Blk → Nat → Bool) (q : Nat → Bool) (l : Tab Word) :
    (l.filterMap (columnEntry warm p)).filter (fun e => q e.1) = (l.filter fun e => q e.1).filterMap (columnEntry warm p) := by
  rw [List.filter_filterMap, List.filterMap_filter]
  congr 1
  funext e
  cases h : columnEntry warm p e with
  | none => simp
  | some x => simp [Option.filter, columnEntry_key h]

theorem pageAt_of_lt {a : Nat} (h : a < 0x1000) : pageAt a = some (.dev, 0) := by
  simp [pageAt, allBlks, pageBase, pageCount, h]

/-- The columns of other pages leave the registers of the DEV page alone. -/
theorem DevKept.columns {s t : State} (h : DevKept s t) {warm : Bool} {p : Blk → Nat → Bool} (hp : p .dev 0 = false) :
    DevKept s (t.columns warm p) := by
  refine h.trans ⟨?_⟩
  have hkeep : ∀ e ∈ t.devRegs, columnEntry warm p e = some e := fun e he => by
    have ha : e.1 < 0x1000 := by simpa using (List.mem_filter.1 he).2
    simp [columnEntry, pageAt_of_lt ha, hp]
  unfold State.devRegs at hkeep ⊢
  rw [State.columns_regs, filter_filterMap_columnEntry _ _ (fun k => decide (k < 0x1000)), List.filterMap_congr hkeep,
    List.filterMap_some]

theorem DevKept.pageColumn {s t : State} (h : DevKept s t) {b : Blk} {i : Nat} (hb : b ≠ .dev := by decide) :
    DevKept s (t.pageColumn b i) := by
  have hc {warm : Bool} : DevKept s (t.columns warm fun b' i' => b' = b && i' = i) := h.columns (by simp [Ne.symm hb])
  exact ((hc.frame (State.pageState_ext ..)).frame (Ext.set_rst ..))

/-! ### Registers stored once -/

/-- The register table holds exactly the word w for the register at a. -/
structure Stored (s : State) (a : Nat) (w : Word) : Prop where
  once : s.regs.filter (fun e => decide (e.1 = a)) = if w = coldWord a then [] else [(a, w)]

namespace Stored

variable {s u : State} {a : Nat} {w : Word}

theorem rd (h : Stored s a w) : s.rd a = w := by
  have e := tget_filter s.regs (coldWord a) (fun k => decide (k = a)) a
  simp only [decide_true, if_true] at e
  unfold State.rd
  rw [← e, h.once]
  split
  · exact Eq.symm ‹_›
  · simp [tget]

theorem wr_same (s : State) (a : Nat) (w : Word) : Stored (s.wr a w) a w := by
  refine ⟨?_⟩
  unfold State.wr tset
  have hbelow : ∀ e : Nat × Word, (decide (e.1 = a) && decide (e.1 < a)) = false := fun e => by simp; omega
  have habove : ∀ e : Nat × Word, (decide (e.1 = a) && decide (a < e.1)) = false := fun e => by simp; omega
  simp only [List.filter_append, List.filter_filter, hbelow, habove]
  split <;> simp

theorem wr_other (h : Stored s a w) {b : Nat} (v : Word) (hb : b ≠ a) : Stored (s.wr b v) a w := by
  refine ⟨?_⟩
  rw [← h.once]
  unfold State.wr
  have hd : decide (b = a) = false := by simpa using hb
  rw [filter_tset_of_not s.regs _ v b (fun k => decide (k = a)) hd]
  rcases Nat.lt_or_gt_of_ne hb with hlt | hgt
  · have hbelow : ∀ e : Nat × Word, (decide (e.1 = a) && decide (e.1 < b)) = false := fun e => by simp; omega
    have habove : ∀ e : Nat × Word, (decide (e.1 = a) && decide (b < e.1)) = decide (e.1 = a) := fun e => by simp; omega
    simp [hbelow, habove]
  · have hbelow : ∀ e : Nat × Word, (decide (e.1 = a) && decide (e.1 < b)) = decide (e.1 = a) := fun e => by simp; omega
    have habove : ∀ e : Nat × Word, (decide (e.1 = a) && decide (b < e.1)) = false := fun e => by simp; omega
    simp [hbelow, habove]

theorem of_regs (h : Stored s a w) (e : u.regs = s.regs) : Stored u a w := ⟨e ▸ h.once⟩

theorem of_devKept (h : Stored s a w) (k : DevKept s u) (ha : a < 0x1000) : Stored u a w := by
  refine ⟨h.once ▸ ?_⟩
  have key (x : State) : x.regs.filter (fun e => decide (e.1 = a)) = x.devRegs.filter (fun e => decide (e.1 = a)) := by
    have hsub : ∀ e : Nat × Word, (decide (e.1 = a) && decide (e.1 < 0x1000)) = decide (e.1 = a) := fun e => by simp; omega
    simp [State.devRegs, List.filter_filter, hsub]
  rw [key, key, k.devRegs]

theorem p_same (s : State) (b : Blk) (i o hi lo v : Nat) :
    Stored (s.p b i o hi lo v) (pageBase b i + o) (putFld (s.rd (pageBase b i + o)) hi lo v) := wr_same ..

theorem p_other (h : Stored s a w) {b : Blk} {i o hi lo v : Nat} (hb : pageBase b i + o ≠ a) : Stored (s.p b i o hi lo v) a w :=
  h.wr_other _ hb

theorem raise (h : Stored s a w) {b : Blk} {i n : Nat} (hb : pageBase b i + Off.event ≠ a) : Stored (s.raise b i n) a w := by
  unfold State.raise
  dsimp only
  split
  · exact (h.p_other hb).of_regs ((State.msix_ext ..).1 .regs (by decide))
  · exact h.p_other hb

/-- A reset that reaches a register puts its columns in place. -/
theorem columns (h : Stored s a w) {warm : Bool} {p : Blk → Nat → Bool} {b : Blk} {i k : Nat} {r : RegRow}
    (hpage : pageAt a = some (b, i)) (hp : p b i = true) (hrow : RegMap.find b (a % 0x1000) = some (r, k))
    (hcold : r.after warm b r.cold = r.cold) : Stored (s.columns warm p) a (r.after warm b w) := by
  have hc : coldWord a = r.cold := by simp [coldWord, hpage, hrow]
  refine ⟨?_⟩
  rw [State.columns_regs, filter_filterMap_columnEntry _ _ (fun k => decide (k = a)), h.once, hc]
  by_cases hw : w = r.cold
  · simp [hw, hcold]
  · by_cases hw' : r.after warm b w = r.cold <;> simp [hw, hw', columnEntry, hpage, hp, hrow]

end Stored

end Sys2Proof.Machine
end

section
/-! SUPPORT. Memory, translation and KV pages: their operations leave every register of the DEV page alone. -/

namespace Sys2Proof.Machine

namespace DevKept

variable {s t u : State}

/-! ### Memory and translation -/

theorem countBytes (h : DevKept s t) {a n : Nat} {write : Bool} : DevKept s (t.countBytes a n write) :=
  foldl_all h fun v x hv => by
    split
    · exact hv.bump
    · exact hv.bump
    · exact hv

theorem countPartial (h : DevKept s t) {a n : Nat} : DevKept s (t.countPartial a n) :=
  foldl_all h fun v x hv => by
    dsimp only
    split
    · split
      · exact hv
      · exact hv.bump.bump
    · exact hv

theorem storePhys (h : DevKept s t) {a : Nat} {bs : Bytes} : DevKept s (t.storePhys a bs) :=
  foldl_all ((h.countPartial.frame (State.clearPoison_ext ..)).countBytes) fun v x hv => by
    dsimp only
    split
    · exact hv.bump.bump.detected
    · exact hv.of_regs

theorem vread (h : DevKept s t) {sl va n : Nat} : VAll (DevKept s) (t.vread sl va n) := by
  unfold State.vread
  split
  · trivial
  · dsimp only
    split
    · trivial
    · split
      · trivial
      · exact foldl_all h fun v x hv => (hv.frame (State.touch_ext ..)).countBytes

theorem vget (h : DevKept s t) {sl va n : Nat} : OAll (fun x => DevKept s x.2) (t.vget sl va n) := by
  unfold State.vget
  split
  next heq => exact .some ((h.vread (sl := sl) (va := va) (n := n)).of_ok heq)
  next => exact .none _

theorem vwrite (h : DevKept s t) {sl va : Nat} {bs : Bytes} : VAll (DevKept s) (t.vwrite sl va bs) := by
  unfold State.vwrite
  split
  · trivial
  · trivial
  · split
    · trivial
    · split
      · trivial
      · exact foldl_all h fun v x hv => (hv.frame (State.touch_ext ..)).storePhys

theorem vput (h : DevKept s t) {sl va : Nat} {bs : Bytes} : DevKept s (t.vput sl va bs) := by
  unfold State.vput
  split
  next heq => exact (h.vwrite (sl := sl) (va := va) (bs := bs)).of_ok heq
  next => exact h

/-! ### KV pages -/

theorem setKvBit (h : DevKept s t) {n i : Nat} {v : Bool} : DevKept s (t.setKvBit n i v) := by
  unfold State.setKvBit
  split
  next heq => exact (h.vget.of heq).vput
  next => exact h

theorem setKvRef (h : DevKept s t) {n i r : Nat} : DevKept s (t.setKvRef n i r) := by
  unfold State.setKvRef
  dsimp only
  refine frame (foldl_all (P := DevKept s) h.storePhys fun v k hv => ?_) (State.research_ext ..)
  exact hv.frame (State.setSlice_ext ..)

theorem kvDrop (h : DevKept s t) {n i : Nat} : DevKept s (t.kvDrop n i) := by
  unfold State.kvDrop
  dsimp only
  split
  · exact (DevKept.p h.setKvRef.setKvBit).bump
  · exact h.setKvRef

theorem copyPhys (h : DevKept s t) {old new n : Nat} : DevKept s (t.copyPhys old new n) := by
  have hf : DevKept s (((t.countBytes old n false).countBytes new n true).forget new n) :=
    h.countBytes.countBytes.frame (State.forget_ext ..)
  exact hf.of_regs

theorem kvCopyEnd (h : DevKept s t) {seq old new idx : Nat} : DevKept s (t.kvCopyEnd seq old new idx) := by
  unfold State.kvCopyEnd
  split
  · exact h
  · exact (vput (kvDrop (vput h.copyPhys))).bump.raise

theorem kvSettle (h : DevKept s t) {o : Op} : DevKept s (t.kvSettle o) := by
  unfold State.kvSettle
  split
  · exact h.kvCopyEnd
  · exact h

end DevKept

end Sys2Proof.Machine
end

section
/-! SUPPORT. Stream operations and their poisoned tails leave every register of the DEV page alone. -/

namespace Sys2Proof.Machine

namespace DevKept

variable {s t u : State}

/-! ### Stream operations and their poisoned tails -/

theorem plainDest (fuel : Nat) {q : Nat} {o : Op} (h : DevKept s t) {n len : Nat} {bs : Bytes} :
    DevKept s (State.plainDest fuel t q o n len bs) := by
  induction fuel generalizing t n len bs with
  | zero => exact h
  | succ fuel ih =>
    unfold State.plainDest
    dsimp only
    split
    · exact h
    · split
      · exact h.vput
      · refine ih ?_
        split
        · exact h.vput
        · exact h

theorem tailDest (h : DevKept s t) {q : Nat} {o : Op} {n len : Nat} {bs : Bytes} :
    DevKept s (State.tailDest q t o n len bs) := by
  unfold State.tailDest
  split
  · exact h.plainDest _
  · exact h

theorem setCur (h : DevKept s t) {q c : Nat} : DevKept s (t.setCur q c) := by
  unfold State.setCur
  split
  · exact h.wr _ (by simp [pageBase]; omega)
  · exact h

theorem beginTail (h : DevKept s t) {q cause c : Nat} {o : Op} {dest : State → Op → Nat → Nat → Bytes → State}
    (hd : ∀ {v o c k bs}, DevKept s v → DevKept s (dest v o c k bs)) : DevKept s (t.beginTail q o cause c dest) := by
  have hcur {f : Op → Op} : DevKept s (((t.kvSettle o).modOp q o.id f).setCur q c) :=
    setCur (h.kvSettle.frame (State.modOp_ext ..))
  unfold State.beginTail
  dsimp only
  split
  · exact hcur
  · exact hd hcur

theorem advance (h : DevKept s t) (fuel : Nat) {q id : Nat} {dest : State → Op → Nat → Nat → Bytes → State}
    (hd : ∀ {v o c k bs}, DevKept s v → DevKept s (dest v o c k bs)) :
    DevKept s (State.advance dest fuel t q id) := by
  induction fuel generalizing t with
  | zero => exact h
  | succ fuel ih =>
    unfold State.advance
    split
    · exact h
    · dsimp only
      split
      · exact h
      · split
        · split
          · exact h
          · split
            · split
              · exact ih ((h.frame (State.windowWrite_ext ..)).frame (State.deliverIn_ext ..))
              · exact h
            · split
              · split
                · exact ih ((h.frame (State.putFlag_ext ..)).frame (State.modOp_ext ..))
                · exact h
              · exact ih (h.frame (State.modOp_ext ..))
        · split
          · exact ih (h.beginTail hd)
          · split
            · exact h
            · split
              · split
                · exact ih (h.frame (State.deliverIn_ext ..))
                · exact h
              · refine ih (frame ?_ (State.modOp_ext ..))
                split
                · exact h.frame (State.putFlag_ext ..)
                · exact h

theorem pump (h : DevKept s t) {q id : Nat} : DevKept s (t.pump q id) := by
  unfold State.pump
  split
  · exact h.advance _ fun hv => hv.tailDest
  · exact h

theorem poisonTail (h : DevKept s t) {q id cause c : Nat} : DevKept s (t.poisonTail q id cause c) := by
  unfold State.poisonTail
  split
  · dsimp only
    split
    · exact h
    · exact pump (beginTail (h.frame (State.modOp_ext ..)) fun hv => hv.tailDest)
  · exact h

end DevKept

end Sys2Proof.Machine
end

section
/-! SUPPORT. What the die has lost (R24, R33) no failure record and no new core map gives back: the relation LossKept. -/

namespace Sys2Proof.Machine

/-- What the die has lost stays lost while registers, events, power, cores and records change. -/
theorem DieLost.of_same {s u : State} (hs : DieLost s) (same : Same [.power, .rst, .regs, .hlk, .cores, .ras, .free] s u)
    (rings : u.hlk.rings = s.hlk.rings) (mbx : u.hlk.mbx = s.hlk.mbx) (ready1 : u.rst.ready1 = s.rst.ready1)
    (ready2 : u.rst.ready2 = s.rst.ready2) (blk : u.rst.blk = s.rst.blk) : DieLost u := by
  obtain ⟨hret, ⟨hk, hlo, hla, hq, ha, hsh⟩, ⟨hs1, hs2, hs3, hs4⟩, ⟨hsr, hsu⟩, hm, ⟨hr, hb⟩, hn1, hn2, hn3⟩ := hs
  have hmem : u.mem = s.mem := same .mem (by decide)
  exact
    { retained := (same .retained (by decide)).trans hret
      work := ⟨(same .kernels (by decide)).trans hk, (same .loads (by decide)).trans hlo,
        (same .launches (by decide)).trans hla, (same .queues (by decide)).trans hq, (same .act (by decide)).trans ha,
        (same .shl (by decide)).trans hsh⟩
      threads := ⟨(same .shoals (by decide)).trans hs1, (same .gpr (by decide)).trans hs2,
        (same .preds (by decide)).trans hs3, (same .lflags (by decide)).trans hs4⟩
      sram := ⟨(same .sram (by decide)).trans hsr, (same .sramUe (by decide)).trans hsu⟩
      mem := hmem ▸ hm
      rings := ⟨rings.trans hr, mbx.trans hb⟩
      notReady := ⟨ready1.trans hn1, ready2.trans hn2, blk.trans hn3⟩ }

/-! ### Failure records and the new core map undo no loss -/

/-- From s to u, no register of the DEV page changes, nothing that the die has lost comes back, and no telemetry record is written. -/
structure LossKept (s u : State) : Prop where
  dev : DevKept s u
  same : Same [.power, .rst, .regs, .hlk, .cores, .ras, .free] s u
  rings : u.hlk.rings = s.hlk.rings
  mbx : u.hlk.mbx = s.hlk.mbx
  ready1 : u.rst.ready1 = s.rst.ready1
  ready2 : u.rst.ready2 = s.rst.ready2
  blk : u.rst.blk = s.rst.blk
  tlmSeq : u.ras.tlmSeq = s.ras.tlmSeq

theorem State.msix_rings_mbx (s : State) (v : Nat) : (s.msix v).hlk.rings = s.hlk.rings ∧ (s.msix v).hlk.mbx = s.hlk.mbx := by
  unfold State.msix
  dsimp only
  split <;> exact ⟨rfl, rfl⟩

theorem State.raise_rings_mbx (s : State) (b : Blk) (i n : Nat) :
    (s.raise b i n).hlk.rings = s.hlk.rings ∧ (s.raise b i n).hlk.mbx = s.hlk.mbx := by
  unfold State.raise
  dsimp only
  split
  · exact State.msix_rings_mbx ..
  · exact ⟨rfl, rfl⟩

theorem State.bump_rings_mbx (s : State) (b : Blk) (i off n : Nat) :
    (s.bump b i off n).hlk.rings = s.hlk.rings ∧ (s.bump b i off n).hlk.mbx = s.hlk.mbx := by
  unfold State.bump State.saturate
  dsimp only
  split
  · exact ⟨rfl, rfl⟩
  · split
    · exact ⟨rfl, rfl⟩
    · split
      · exact ⟨rfl, rfl⟩
      · split
        · exact State.raise_rings_mbx ..
        · exact ⟨rfl, rfl⟩

namespace LossKept

variable {s t u : State}

theorem refl (s : State) : LossKept s s := ⟨.refl s, (Ext.refl _ s).1, rfl, rfl, rfl, rfl, rfl, rfl⟩

theorem trans (h : LossKept s t) (k : LossKept t u) : LossKept s u :=
  ⟨h.dev.trans k.dev, h.same.trans k.same, k.rings.trans h.rings, k.mbx.trans h.mbx, k.ready1.trans h.ready1,
    k.ready2.trans h.ready2, k.blk.trans h.blk, k.tlmSeq.trans h.tlmSeq⟩

theorem ite {c : Prop} [Decidable c] (h : LossKept s t) (k : LossKept s u) : LossKept s (if c then t else u) := by
  split <;> assumption

theorem set_cores (h : LossKept s t) {c : Tab Core} : LossKept s { t with cores := c } :=
  h.trans ⟨(DevKept.refl t).of_regs, (Ext.set_cores ..).1.mono rfl, rfl, rfl, rfl, rfl, rfl, rfl⟩

theorem set_rst (h : LossKept s t) {r : Rst} (h1 : r.ready1 = t.rst.ready1 := by rfl) (h2 : r.ready2 = t.rst.ready2 := by rfl)
    (hb : r.blk = t.rst.blk := by rfl) : LossKept s { t with rst := r } :=
  h.trans ⟨(DevKept.refl t).of_regs, (Ext.set_rst ..).1.mono rfl, rfl, rfl, h1, h2, hb, rfl⟩

theorem set_ras (h : LossKept s t) {r : Ras} (hr : r.tlmSeq = t.ras.tlmSeq := by rfl) : LossKept s { t with ras := r } :=
  h.trans ⟨(DevKept.refl t).of_regs, (Ext.set_ras ..).1.mono rfl, rfl, rfl, rfl, rfl, rfl, hr⟩

theorem set_ras_free (h : LossKept s t) {r : Ras} {n : Nat} (hr : r.tlmSeq = t.ras.tlmSeq := by rfl) :
    LossKept s { t with ras := r, free := n } :=
  h.trans ⟨(DevKept.refl t).of_regs, (Ext.set_ras_free ..).1.mono rfl, rfl, rfl, rfl, rfl, rfl, hr⟩

/-- Events and counters of another page than DEV. -/
theorem of_regs_hlk (h : LossKept s t) (e : Ext [.regs, .hlk] t u) (hd : DevKept t u)
    (hh : u.hlk.rings = t.hlk.rings ∧ u.hlk.mbx = t.hlk.mbx) : LossKept s u := by
  have hrst : u.rst = t.rst := e.1 .rst (by decide)
  have hras : u.ras = t.ras := e.1 .ras (by decide)
  exact h.trans ⟨hd, e.1.mono rfl, hh.1, hh.2, by rw [hrst], by rw [hrst], by rw [hrst], by rw [hras]⟩

theorem raise (h : LossKept s t) {b : Blk} {i n : Nat} (hb : b ≠ .dev := by decide) : LossKept s (t.raise b i n) :=
  h.of_regs_hlk (State.raise_ext ..) ((DevKept.refl t).raise hb) (State.raise_rings_mbx ..)

theorem bump (h : LossKept s t) {b : Blk} {i off n : Nat} (hb : b ≠ .dev := by decide) : LossKept s (t.bump b i off n) :=
  h.of_regs_hlk (State.bump_ext ..) ((DevKept.refl t).bump hb) (State.bump_rings_mbx ..)

theorem record (h : LossKept s t) {b : Blk} {i kind outcome sev phys attempt detail addr : Nat} {step : Word} :
    LossKept s (t.record b i kind outcome sev phys step attempt detail addr) := by
  unfold State.record State.putRecord
  refine ite h.set_ras (ite (set_ras (bump h.set_ras_free)) ?_)
  dsimp only
  split
  · exact set_ras (bump h.set_ras_free)
  · exact raise (bump (bump h.set_ras_free))

theorem coreLost (h : LossKept s t) {c : Nat} : LossKept s (t.coreLost c) := set_rst (set_rst (set_rst h))

/-- Building a basin's core map anew (R110). -/
theorem rebuildBasin (h : LossKept s t) {b : Nat} : LossKept s (t.rebuildBasin b) := by
  unfold State.rebuildBasin
  extract_lets here swapless nonIdle coresUp cleared tested pairs mapped exhausted faulted
  have hcleared : LossKept s cleared := set_rst (t := nonIdle) (set_cores (t := swapless) (set_cores h))
  have htested : LossKept s tested := foldl_all hcleared fun v k hv => ite hv.set_ras hv
  have hmapped : LossKept s mapped := foldl_all htested fun v e hv => by
    split
    · exact hv.set_ras
    · exact hv.coreLost
  have hfaulted : LossKept s faulted := ite (foldl_all hmapped fun v c hv => hv.set_rst) hmapped
  exact ite hfaulted.record hfaulted

theorem rebuildMap (h : LossKept s t) : LossKept s t.rebuildMap := foldl_all h fun _ _ hv => hv.rebuildBasin

/-- What the die has lost stays lost. -/
theorem dieLost (h : LossKept s u) (hs : DieLost s) : DieLost u := hs.of_same h.same h.rings h.mbx h.ready1 h.ready2 h.blk

end LossKept

end Sys2Proof.Machine
end

section
/-! SUPPORT. The main converters turn off, and the die loses its state (R24, R33). -/

namespace Sys2Proof.Machine

/-! ### The clearing of the die (R33) -/

theorem State.dieClear_dieLost (s : State) : DieLost s.dieClear := by
  unfold State.dieClear
  refine (LossKept.refl _).rebuildMap.dieLost ?_
  constructor
  case mem =>
    refine ⟨rfl, rfl, fun e he => ?_⟩
    simpa [tdrop] using (List.mem_filter.1 he).2
  all_goals simp [State.zeroProcs, tdrop]

/-- The clearing of the die takes the Cold columns of the DEV page, and of the power state only the clock/power loop's. -/
theorem State.dieClear_spec (s : State) : DevKept (s.columns false fun _ _ => true) s.dieClear ∧
    s.dieClear.ras.tlmSeq = s.ras.tlmSeq ∧ s.dieClear.power = { s.power with nLoop := 0, nWin := 0, nLim := 0 } := by
  unfold State.dieClear
  extract_lets open_ cols cleared raised host
  have hcleared : DevKept cols cleared := (DevKept.refl cols).p
  have hraised : DevKept cols raised := .ite hcleared.raise hcleared
  have hext : Ext [.regs, .hlk, .snaps] s raised :=
    Ext.ite ((State.raise_ext ..).step rfl ((State.p_ext ..).step rfl ((State.columns_ext ..).step rfl (Ext.refl _ _))))
      ((State.p_ext ..).step rfl ((State.columns_ext ..).step rfl (Ext.refl _ _)))
  have hras : raised.ras = s.ras := hext.1 .ras (by decide)
  have hpower : raised.power = s.power := hext.1 .power (by decide)
  clear_value raised
  refine ⟨hraised.trans (DevKept.trans ?_ (LossKept.refl _).rebuildMap.dev), ?_, ?_⟩
  · exact (DevKept.refl raised).of_regs
  · rw [(LossKept.refl _).rebuildMap.tlmSeq, ← hras]
    rfl
  · refine ((State.rebuildMap_ext _).1 .power (by decide)).trans ?_
    exact congrArg (fun w : Power => { w with nLoop := 0, nWin := 0, nLim := 0 }) hpower

/-! ### The main converters turn off (R18, R22, R24) -/

/-- No reset waits and none holds the die: it has no power. -/
def State.unheld (s : State) : State := { s with rst := { s.rst with reqs := [], held := false } }

theorem State.unheld_lossKept (s : State) : LossKept s s.unheld := (LossKept.refl s).set_rst

theorem State.unheld_power (s : State) : s.unheld.power = s.power := rfl

/-- The converters are off and the transmitters dark, before the die's state goes. -/
def Power.off (w : Power) : Power := { w with converters := false, rails := false, debounce := false, txOn := false }

theorem State.mainOff_eq (s : State) : s.mainOff =
    if s.power.rails then (State.dieClear { s with power := s.power.off }).unheld else { s with power := s.power.off } := rfl

theorem State.mainOff_dieLost (s : State) (h : s.power.rails = true) : DieLost s.mainOff := by
  rw [State.mainOff_eq, if_pos h]
  exact (State.unheld_lossKept _).dieLost (State.dieClear_dieLost _)

theorem State.mainOff_tlmSeq (s : State) : s.mainOff.ras.tlmSeq = s.ras.tlmSeq := by
  rw [State.mainOff_eq]
  split
  · rw [(State.unheld_lossKept _).tlmSeq, (State.dieClear_spec _).2.1]
  · rfl

/-- Turning the converters off changes of the power state only their own bits and the clock/power loop's. -/
theorem State.mainOff_power (s : State) :
    s.mainOff.power = s.power.off ∨ s.mainOff.power = { s.power.off with nLoop := 0, nWin := 0, nLim := 0 } := by
  rw [State.mainOff_eq]
  split
  · exact .inr ((State.unheld_power _).trans (State.dieClear_spec _).2.2)
  · exact .inl rfl

theorem ConvertersOff.of_rails {s t u : State} (h : ConvertersOff t u) (e : t.power.rails = s.power.rails) : ConvertersOff s u := by
  obtain ⟨hconv, hrails, htx, hdeb, hlost⟩ := h
  exact ⟨hconv, hrails, htx, hdeb, fun hs => hlost (e.trans hs)⟩

theorem State.mainOff_convertersOff (s : State) : ConvertersOff s s.mainOff := by
  have hlost := s.mainOff_dieLost
  rcases s.mainOff_power with e | e <;> exact ⟨by rw [e]; rfl, by rw [e]; rfl, by rw [e]; rfl, by rw [e]; rfl, hlost⟩

/-- Turning the converters off releases no trip. -/
theorem State.mainOff_held (s : State) : s.mainOff.power.uvHeld = s.power.uvHeld ∧ s.mainOff.power.ovHeld = s.power.ovHeld ∧
    s.mainOff.power.thermHeld = s.power.thermHeld := by
  rcases s.mainOff_power with e | e <;> exact ⟨by rw [e]; rfl, by rw [e]; rfl, by rw [e]; rfl⟩

end Sys2Proof.Machine
end

section
/-! SUPPORT. Links and telemetry records: what goes down with a link leaves every register of the DEV page alone. -/

namespace Sys2Proof.Machine

namespace DevKept

variable {s t u : State}

/-! ### The host link goes down (R81, R105) -/

theorem hostLost (h : DevKept s t) : DevKept s t.hostLost :=
  foldl_all h fun v e hv => foldl_all hv fun w o hw => by
    split
    · exact hw.poisonTail
    · exact hw

theorem ledgerHostDown (h : DevKept s t) : DevKept s t.ledgerHostDown :=
  foldl_all h fun v b hv => foldl_all hv fun w r hw => vput (hw.frame (State.setLedger_ext ..))

theorem hlkRetrain (h : DevKept s t) {st : Nat} : DevKept s (t.hlkRetrain st) := by
  unfold State.hlkRetrain
  exact ledgerHostDown (wr (h.frame (Ext.set_hlk ..)) _ (Nat.le_add_right_of_le (by decide)))

theorem hlkBlock {s t : State} (h : DevKept s t) {st : Nat} : DevKept s (t.hlkBlock st) := by
  have hlost : DevKept s (if t.g .hlk 0 Off.hlkLink 2 0 = 2 then t.hostLost else t) := ite h.hostLost h
  have hheld := (hlost.frame (State.closeRings_ext _)).pageColumn (b := .hlk) (i := 0) |>.frame (State.holdPage_ext _ .hlk 0)
  unfold State.hlkBlock
  exact ite (ite (raise hheld.hlkRetrain) hheld.hlkRetrain) (bump (ite (raise hheld.hlkRetrain) hheld.hlkRetrain))

theorem hostDark {s t : State} (h : DevKept s t) : DevKept s t.hostDark := by
  have hblock : DevKept s (t.hostBlock 0) :=
    frame (pageColumn (h.hlkBlock.frame (State.dropMbx_ext _))) (State.holdPage_ext ..)
  exact ite hblock.raise hblock

/-! ### A Colsar link goes down (R321) -/

theorem emit (h : DevKept s t) {l : Nat} {k : Pkt} : DevKept s (t.emit l k) := h.bump.frame (State.out_ext ..)

theorem routeEntry (h : DevKept s t) {dst : Nat} : OAll (fun x => DevKept s x.2) (t.routeEntry dst) := by
  unfold State.routeEntry
  split
  · exact .some h
  · split
    next heq => exact .some (of_regs (h.vget.of heq))
    next => exact .none _

theorem route (h : DevKept s t) {dst : Nat} {vc0 : Bool} {avoid : Option Nat} : DevKept s (t.route dst vc0 avoid).2 := by
  unfold State.route
  dsimp only
  split
  · split
    · exact h
    · exact h
  · split
    · exact h
    next heq =>
      have he := h.routeEntry.of heq
      split
      · exact he
      · split
        · exact he.of_regs
        · split
          · exact he
          · exact he

theorem resend (h : DevKept s t) {x : Txn} {within : Bool} : OAll (DevKept s) (t.resend x within) := by
  unfold State.resend
  refine .ite (.none _) ?_
  dsimp only
  split
  next heq =>
    have hr := h.route (dst := x.k.dst.toNat) (vc0 := false) (avoid := some x.l)
    rw [heq] at hr
    exact .some (emit (bump (hr.frame (Ext.set_fab ..))))
  next => exact .none _

theorem linkLost (h : DevKept s t) {l : Nat} : DevKept s (t.linkLost l) :=
  foldl_all h fun v x hv => by
    split
    next heq => exact hv.resend.of heq
    next => exact hv

theorem dropLink (h : DevKept s t) {l : Nat} : DevKept s (t.dropLink l) := by
  unfold State.dropLink
  dsimp only
  refine linkLost ?_
  split
  · exact (h.frame (State.setLink_ext ..)).raise
  · exact h.frame (State.setLink_ext ..)

/-! ### Telemetry records (R410) -/

theorem takeSnap (h : DevKept s t) {b : Blk} {i : Nat} (hb : b ≠ .dev := by decide) : DevKept s (t.takeSnap b i) := by
  unfold State.takeSnap
  dsimp only
  split
  · exact h
  · exact p (h.frame (Ext.set_snaps ..)) hb

theorem persist (h : DevKept s t) {reason : Nat} {ok : Bool} : DevKept s (t.persist reason ok) := by
  unfold State.persist
  dsimp only
  split
  · exact raise (p (h.takeSnap.frame (Ext.set_ras ..)))
  · exact raise (h.takeSnap.frame (Ext.set_ras ..))

end DevKept

end Sys2Proof.Machine
end

section
/-! SUPPORT. The input that the DEV page shows (R15, R19), the latched bits of DEV_PWRCTL (R19), and what a trip does (R15, R18, R25). -/

namespace Sys2Proof.Machine

/-! ### Hardware fields of DEV_INPUT and DEV_PWRCTL in a Cold reset (R19) -/

/-- The row of DEV_INPUT in the register map. -/
def devInputRow : RegRow := RegMap.rowsDev[1]

/-- The row of DEV_PWRCTL in the register map. -/
def devPwrctlRow : RegRow := RegMap.rowsDev[3]

theorem find_devInput : RegMap.find .dev (regAt .dev 0 Off.devInput % 0x1000) = some (devInputRow, 0) := by decide

theorem find_devPwrctl : RegMap.find .dev (regAt .dev 0 Off.devPwrctl % 0x1000) = some (devPwrctlRow, 0) := by decide

/-- A Cold reset keeps VIN_MV. -/
theorem fld_devInput_cold (w : Word) : fld (devInputRow.after false .dev w) 63 48 = fld w 63 48 := by
  have h : devInputRow.after false .dev w =
      BitVec.ofNat 64 (0 + fld w 63 48 * 2 ^ 48 + fld w 47 32 * 2 ^ 32 + fld w 31 16 * 2 ^ 16) := rfl
  have h1 := fld_lt w 63 48
  have h2 := fld_lt w 47 32
  have h3 := fld_lt w 31 16
  rw [h, fld, nfld, BitVec.toNat_ofNat]
  omega

/-- A Cold reset keeps VIN_LOW and VIN_HIGH. -/
theorem fld_devPwrctl_cold (w : Word) : fld (devPwrctlRow.after false .dev w) 2 2 = fld w 2 2 ∧
    fld (devPwrctlRow.after false .dev w) 3 3 = fld w 3 3 := by
  have h : devPwrctlRow.after false .dev w = BitVec.ofNat 64 (0 + fld w 15 15 * 2 ^ 15 + fld w 14 14 * 2 ^ 14 +
      fld w 13 13 * 2 ^ 13 + fld w 12 12 * 2 ^ 12 + fld w 11 11 * 2 ^ 11 + fld w 10 10 * 2 ^ 10 + fld w 9 9 * 2 ^ 9 +
      fld w 8 8 * 2 ^ 8 + fld w 3 3 * 2 ^ 3 + fld w 2 2 * 2 ^ 2 + 0 * 2 ^ 1 + 0 * 2 ^ 0) := rfl
  have hlt (n : Nat) : fld w n n < 2 := by simpa using fld_lt w n n
  have h2 := hlt 2
  have h3 := hlt 3
  have h8 := hlt 8
  have h9 := hlt 9
  have h10 := hlt 10
  have h11 := hlt 11
  have h12 := hlt 12
  have h13 := hlt 13
  have h14 := hlt 14
  have h15 := hlt 15
  constructor <;>
  · rw [h]
    generalize fld w 2 2 = x2 at *
    generalize fld w 3 3 = x3 at *
    rw [fld, nfld, BitVec.toNat_ofNat]
    omega

/-! ### The input that the DEV page shows -/

/-- The registers that show the input hold, once each, a measured voltage and the bits VIN_LOW and VIN_HIGH. -/
structure VinStored (s : State) (mv low high : Nat) : Prop where
  input : ∃ w, Stored s (regAt .dev 0 Off.devInput) w ∧ fld w 63 48 = mv
  status : ∃ w, Stored s (regAt .dev 0 Off.devPwrctl) w ∧ fld w 2 2 = low ∧ fld w 3 3 = high

/-- VIN_LOW as the input and the undervoltage trip give it (R15). -/
def vinLow (w : Power) (mv : Nat) : Nat := if !w.uvHeld && decide (28500 ≤ mv ∧ mv < 30000) then 1 else 0

/-- VIN_HIGH as the input and the overvoltage trip give it (R15). -/
def vinHigh (w : Power) (mv : Nat) : Nat := if !w.ovHeld && decide (40000 < mv ∧ mv ≤ 41500) then 1 else 0

theorem State.vin_stored (s : State) (mv : BitVec 16) :
    VinStored (s.vin mv.toNat) mv.toNat (vinLow s.power mv.toNat) (vinHigh s.power mv.toNat) := by
  refine ⟨⟨_, .p_other (.p_other (.p_same ..) (by decide)) (by decide), ?_⟩, ⟨_, .p_same .., ?_, ?_⟩⟩
  · simpa using Nat.mod_eq_of_lt mv.isLt
  · rw [fld_putFld_below _ _ (by decide) (by decide) (by decide) (by decide), rd_p, if_pos rfl, fld_putFld_same]
    unfold vinLow
    split <;> simp_all
  · rw [fld_putFld_same]
    unfold vinHigh
    split <;> simp_all

namespace VinStored

variable {s u : State} {mv low high : Nat}

theorem of_devKept (h : VinStored s mv low high) (k : DevKept s u) : VinStored u mv low high := by
  obtain ⟨⟨w, hw, hmv⟩, v, hv, hbits⟩ := h
  exact ⟨⟨w, hw.of_devKept k (by decide), hmv⟩, v, hv.of_devKept k (by decide), hbits⟩

/-- Writes to other bits of DEV_PWRCTL. -/
theorem p (h : VinStored s mv low high) {n v : Nat} (hn : n < 2 ∨ 3 < n) (h64 : n < 64) :
    VinStored (s.p .dev 0 Off.devPwrctl n n v) mv low high := by
  obtain ⟨⟨w, hw, hmv⟩, x, hx, hlow, hhigh⟩ := h
  have hfld {m : Nat} (hm : m = 2 ∨ m = 3) : fld (putFld x n n v) m m = fld x m m := by
    rcases hn with hn | hn
    · exact fld_putFld_above x v (Nat.le_refl n) h64 (by omega)
    · exact fld_putFld_below x v (Nat.le_refl n) h64 (by omega) (Nat.le_refl m)
  refine ⟨⟨w, hw.p_other (by decide), hmv⟩, _, .p_same .., ?_, ?_⟩ <;> rw [hx.rd, hfld (by omega)] <;> assumption

theorem raise (h : VinStored s mv low high) {n : Nat} : VinStored (s.raise .dev 0 n) mv low high := by
  obtain ⟨⟨w, hw, hmv⟩, x, hx, hbits⟩ := h
  exact ⟨⟨w, hw.raise (by decide), hmv⟩, x, hx.raise (by decide), hbits⟩

theorem latchPwr (h : VinStored s mv low high) {n : Nat} (hn : 3 < n) (h64 : n < 64) : VinStored (s.latchPwr n) mv low high := by
  unfold State.latchPwr
  split
  · exact h
  · exact (h.p (.inr hn) h64).raise

/-- VIN_MV, VIN_LOW and VIN_HIGH follow the input also while the die loses its state (R19). -/
theorem mainOff (h : VinStored s mv low high) : VinStored s.mainOff mv low high := by
  rw [State.mainOff_eq]
  have hoff : VinStored { s with power := s.power.off } mv low high := h.of_devKept (DevKept.refl s).of_regs
  split
  · obtain ⟨⟨w, hw, hmv⟩, x, hx, hlow, hhigh⟩ := hoff
    have hcold : VinStored (State.columns { s with power := s.power.off } false fun _ _ => true) mv low high :=
      ⟨⟨_, hw.columns (pageAt_of_lt (by decide)) rfl find_devInput (by decide), (fld_devInput_cold w).trans hmv⟩,
        _, hx.columns (pageAt_of_lt (by decide)) rfl find_devPwrctl (by decide), (fld_devPwrctl_cold x).1.trans hlow,
        (fld_devPwrctl_cold x).2.trans hhigh⟩
    exact (hcold.of_devKept (State.dieClear_spec _).1).of_devKept (State.unheld_lossKept _).dev
  · exact hoff

theorem drainDone (h : VinStored s mv low high) : VinStored s.drainDone mv low high :=
  ((h.mainOff.p (n := 0) (by decide) (by decide)).p (n := 1) (by decide) (by decide)).of_devKept (DevKept.refl _).of_regs

theorem trip (h : VinStored s mv low high) {n : Nat} (hn : 3 < n) (h64 : n < 64) : VinStored (s.trip n) mv low high := by
  have hcount : VinStored (s.bump .tlm 0 (0x200 + 8 * 7) 1) mv low high := h.of_devKept (DevKept.refl s).bump
  unfold State.trip
  dsimp only
  refine latchPwr ?_ hn h64
  split
  · exact (hcount.of_devKept (DevKept.refl _).persist).drainDone
  · exact hcount.mainOff

/-- What the DEV page shows, as R15 and R19 state it. -/
theorem shown (h : VinStored u mv (vinLow u.power mv) (vinHigh u.power mv)) : VinShown u mv := by
  obtain ⟨⟨w, hw, hmv⟩, x, hx, hlow, hhigh⟩ := h
  refine ⟨by rw [State.g, hw.rd, hmv], ?_, ?_⟩
  · rw [State.g, hx.rd, hlow, vinLow]
    cases u.power.uvHeld <;> simp
  · rw [State.g, hx.rd, hhigh, vinHigh]
    cases u.power.ovHeld <;> simp

end VinStored

/-! ### Latched bits of DEV_PWRCTL (R19) -/

/-- Writing the value that a field holds changes nothing. -/
theorem putFld_self {w : Word} {hi lo v : Nat} (h : fld w hi lo = v) : putFld w hi lo v = w := by
  have hv : v % 2 ^ (hi + 1 - lo) = v := Nat.mod_eq_of_lt (h ▸ fld_lt w hi lo)
  have hle : v * 2 ^ lo ≤ w.toNat := by
    rw [← h]
    calc w.toNat / 2 ^ lo % 2 ^ (hi + 1 - lo) * 2 ^ lo ≤ w.toNat / 2 ^ lo * 2 ^ lo := Nat.mul_le_mul_right _ (Nat.mod_le _ _)
      _ ≤ w.toNat := Nat.div_mul_le_self _ _
  unfold putFld
  rw [h, hv, Nat.sub_add_cancel hle, BitVec.ofNat_toNat, BitVec.setWidth_eq]

namespace State

variable (s : State)

/-- Raising an event sets its EVENT bit. -/
theorem rd_raise_same (b : Blk) (i n : Nat) :
    (s.raise b i n).rd (pageBase b i + Off.event) = putFld (s.rd (pageBase b i + Off.event)) n n 1 := by
  unfold raise
  dsimp only
  split <;> simp [rd_msix, rd_p]

theorem rd_latchPwr_other {n a : Nat} (hp : a ≠ regAt .dev 0 Off.devPwrctl) (he : a ≠ regAt .dev 0 Off.event) :
    (s.latchPwr n).rd a = s.rd a := by
  unfold latchPwr
  split
  · rfl
  · rw [rd_raise _ _ _ _ _ he, rd_p, if_neg hp]

/-- The bit is set, and a change of it raises POWER. -/
theorem latchPwr_latched {t : State} (n : Nat) (hp : t.rd (regAt .dev 0 Off.devPwrctl) = s.rd (regAt .dev 0 Off.devPwrctl))
    (he : t.rd (regAt .dev 0 Off.event) = s.rd (regAt .dev 0 Off.event)) : PwrLatched s (t.latchPwr n) n := by
  have hg : t.g .dev 0 Off.devPwrctl n n = s.g .dev 0 Off.devPwrctl n n := congrArg (fld · n n) hp
  unfold latchPwr
  rw [hg]
  by_cases h : s.g .dev 0 Off.devPwrctl n n = 1
  · rw [if_pos h]
    exact ⟨hp.trans (putFld_self h).symm, by rw [if_pos h, he]⟩
  · rw [if_neg h]
    refine ⟨?_, ?_⟩
    · rw [FieldSet, rd_raise _ _ _ _ _ (by decide), rd_p, if_pos rfl, hp]
    · rw [if_neg h, rd_raise_same, rd_p, if_neg (by decide), he]

theorem g_latchPwr_same {n : Nat} (h64 : n < 64) : (s.latchPwr n).g .dev 0 Off.devPwrctl n n = 1 := by
  have h : (s.latchPwr n).rd (regAt .dev 0 Off.devPwrctl) = putFld (s.rd (regAt .dev 0 Off.devPwrctl)) n n 1 :=
    (s.latchPwr_latched n rfl rfl).1
  rw [g, h, fld_putFld_same _ _ (Nat.le_refl n) h64]
  simp

/-- Latching a bit leaves the bits below it alone. -/
theorem g_latchPwr_below {n hi lo : Nat} (h64 : n < 64) (hb : hi < n) (hl : lo ≤ hi) :
    (s.latchPwr n).g .dev 0 Off.devPwrctl hi lo = s.g .dev 0 Off.devPwrctl hi lo := by
  have h : (s.latchPwr n).rd (regAt .dev 0 Off.devPwrctl) = putFld (s.rd (regAt .dev 0 Off.devPwrctl)) n n 1 :=
    (s.latchPwr_latched n rfl rfl).1
  rw [g, h, fld_putFld_below _ _ (Nat.le_refl n) h64 hb hl]
  rfl

theorem latchPwr_power (n : Nat) : (s.latchPwr n).power = s.power := (s.latchPwr_ext n).1 .power (by decide)

/-- Latching a bit brings back nothing that the die has lost. -/
theorem latchPwr_dieLost (n : Nat) (h : DieLost s) : DieLost (s.latchPwr n) := by
  have hrst : (s.latchPwr n).rst = s.rst := (s.latchPwr_ext n).1 .rst (by decide)
  have hrings : (s.latchPwr n).hlk.rings = s.hlk.rings ∧ (s.latchPwr n).hlk.mbx = s.hlk.mbx := by
    unfold latchPwr
    split
    · exact ⟨rfl, rfl⟩
    · exact raise_rings_mbx ..
  exact h.of_same ((s.latchPwr_ext n).1.mono rfl) hrings.1 hrings.2 (by rw [hrst]) (by rw [hrst]) (by rw [hrst])

theorem latchPwr_convertersOff {t : State} (n : Nat) (h : ConvertersOff s t) : ConvertersOff s (t.latchPwr n) := by
  obtain ⟨hconv, hrails, htx, hdeb, hlost⟩ := h
  unfold ConvertersOff
  rw [latchPwr_power]
  exact ⟨hconv, hrails, htx, hdeb, fun hs => t.latchPwr_dieLost n (hlost hs)⟩

/-! ### The drain ends, and trips (R15, R18, R22, R25) -/

theorem persist_power (reason : Nat) (ok : Bool) : (s.persist reason ok).power = s.power :=
  (s.persist_ext reason ok).1 .power (by decide)

theorem bump_power (b : Blk) (i off n : Nat) : (s.bump b i off n).power = s.power := (s.bump_ext b i off n).1 .power (by decide)

theorem drainDone_convertersOff : ConvertersOff s s.drainDone := by
  obtain ⟨hconv, hrails, htx, hdeb, hlost⟩ := s.mainOff_convertersOff
  refine ⟨hconv, hrails, htx, hdeb, fun hs => (hlost hs).of_same ?_ rfl rfl rfl rfl rfl⟩
  exact ((Ext.set_power ..).step rfl ((p_ext ..).step rfl ((p_ext ..).step rfl (Ext.refl _ _)))).1

theorem drainDone_drain : s.drainDone.power.drain = .done := rfl

theorem drainDone_held : s.drainDone.power.uvHeld = s.power.uvHeld ∧ s.drainDone.power.ovHeld = s.power.ovHeld ∧
    s.drainDone.power.thermHeld = s.power.thermHeld := s.mainOff_held

/-- REMOVE_READY reads 1 and REMOVE_REQ 0 (R19). -/
theorem drainDone_ready : s.drainDone.g .dev 0 Off.devPwrctl 1 0 = 2 := by
  have hpair (w : Word) : fld w 1 0 = fld w 0 0 + 2 * fld w 1 1 := by
    unfold fld nfld
    omega
  have hword : s.drainDone.rd (regAt .dev 0 Off.devPwrctl) =
      putFld (putFld (s.mainOff.rd (regAt .dev 0 Off.devPwrctl)) 0 0 0) 1 1 1 := by
    change ((s.mainOff.p .dev 0 Off.devPwrctl 0 0 0).p .dev 0 Off.devPwrctl 1 1 1).rd (regAt .dev 0 Off.devPwrctl) = _
    rw [rd_p, if_pos rfl, rd_p, if_pos rfl]
  rw [g, hword, hpair, fld_putFld_below _ _ (by decide) (by decide) (by decide) (by decide), fld_putFld_same, fld_putFld_same]
  rfl

theorem drainDone_tlmSeq : s.drainDone.ras.tlmSeq = s.ras.tlmSeq := s.mainOff_tlmSeq

/-- What every trip does (R15, R18, R25): its bit is latched, the converters turn off, and a drain that runs is over. -/
theorem trip_spec {n : Nat} (hn : 1 < n) (h64 : n < 64) : ConvertersOff s (s.trip n) ∧ (s.trip n).g .dev 0 Off.devPwrctl n n = 1 ∧
    (s.power.drain = .running → (s.trip n).power.drain = .done ∧ (s.trip n).g .dev 0 Off.devPwrctl 1 0 = 2) ∧
    (s.trip n).power.uvHeld = s.power.uvHeld ∧ (s.trip n).power.ovHeld = s.power.ovHeld ∧
    (s.trip n).power.thermHeld = s.power.thermHeld := by
  have hcount := s.bump_power .tlm 0 (0x200 + 8 * 7) 1
  unfold trip
  generalize s.bump .tlm 0 (0x200 + 8 * 7) 1 = t at hcount ⊢
  dsimp only
  rw [latchPwr_power, hcount]
  by_cases hd : s.power.drain = .running
  · rw [if_pos hd]
    have hsaved := (t.persist_power 1 true).trans hcount
    generalize t.persist 1 true = v at hsaved ⊢
    have hoff : ConvertersOff s v.drainDone := v.drainDone_convertersOff.of_rails (by rw [hsaved])
    have hheld := v.drainDone_held
    rw [hsaved] at hheld
    exact ⟨s.latchPwr_convertersOff n hoff, v.drainDone.g_latchPwr_same h64,
      fun _ => ⟨v.drainDone_drain, (v.drainDone.g_latchPwr_below h64 hn (by decide)).trans v.drainDone_ready⟩, hheld⟩
  · rw [if_neg hd]
    have hoff : ConvertersOff s t.mainOff := t.mainOff_convertersOff.of_rails (by rw [hcount])
    have hheld := t.mainOff_held
    rw [hcount] at hheld
    exact ⟨s.latchPwr_convertersOff n hoff, t.mainOff.g_latchPwr_same h64, fun h => absurd h hd, hheld⟩

end State

end Sys2Proof.Machine
end

section
/-! SUPPORT. Statement O8: voltage trips and releases, and orderly removal (R15, R18, R21, R22, R25). -/

namespace Sys2Proof.Machine

/-- What a command changes, where its entry in `Instr.touches` names no part but the listed ones. -/
theorem exec_same {c : Instr} {s u : State} (h : exec c s = .next u) {ps : List Part}
    (hp : c.touches.all (ps.contains ·) = true := by rfl) : Same ps s u := ((exec_ext c s).all u h).1.mono hp

/-! ### Voltage trips -/

/-- A trip that holds the converters off: `w` is the power state with the trip's hold, `n` its bit of DEV_PWRCTL. -/
theorem State.voltageTrip_spec (s : State) (w : Power) (mv : BitVec 16) {n : Nat} (hn : 3 < n) (h64 : n < 64)
    (hrails : w.rails = s.power.rails) (hdrain : w.drain = s.power.drain)
    (same : Same dieParts s ((({ s with power := w } : State).vin mv.toNat).trip n)) :
    Tripped s ((({ s with power := w } : State).vin mv.toNat).trip n) n ∧
    (((({ s with power := w } : State).vin mv.toNat).trip n).power.uvHeld = w.uvHeld ∧
      ((({ s with power := w } : State).vin mv.toNat).trip n).power.ovHeld = w.ovHeld) ∧
    VinShown ((({ s with power := w } : State).vin mv.toNat).trip n) mv.toNat := by
  have hvin := (({ s with power := w } : State).vin_stored mv).trip hn h64
  have hpower : (({ s with power := w } : State).vin mv.toNat).power = w := rfl
  generalize (({ s with power := w } : State).vin mv.toNat) = t at *
  obtain ⟨hoff, hbit, hdrained, huv, hov, -⟩ := t.trip_spec (n := n) (by omega) h64
  rw [hpower] at huv hov hdrained
  refine ⟨⟨hoff.of_rails (by rw [hpower, hrails]), hbit, same, fun h => hdrained (hdrain.trans h)⟩, ⟨huv, hov⟩, ?_⟩
  refine VinStored.shown ?_
  simpa only [vinLow, vinHigh, huv, hov] using hvin

theorem exec_uvTrip {s : State} {mv : BitVec 16} (hs : s.power.standby = true) (hu : s.power.uvHeld = false) (hmv : mv.toNat < 28500) :
    exec (.uvTrip mv) s = .next ((({ s with power := { s.power with uvHeld := true } } : State).vin mv.toNat).trip 8) :=
  congrArg _ (if_pos ⟨hs, by simp [hu], hmv⟩)

theorem exec_ovTrip {s : State} {mv : BitVec 16} (hs : s.power.standby = true) (ho : s.power.ovHeld = false) (hmv : 41500 < mv.toNat) :
    exec (.ovTrip mv) s = .next ((({ s with power := { s.power with ovHeld := true } } : State).vin mv.toNat).trip 9) :=
  congrArg _ (if_pos ⟨hs, by simp [ho], hmv⟩)

/-! ### Releases and the input band -/

/-- The registers that an input measurement writes. -/
theorem State.vin_regsOnly (s : State) (mv : Nat) :
    RegsOnly [regAt .dev 0 Off.devInput, regAt .dev 0 Off.devPwrctl] s (s.vin mv) := by
  intro a ha
  simp only [List.mem_cons, List.not_mem_nil, or_false, not_or] at ha
  obtain ⟨hi, hp⟩ := ha
  change (((s.p .dev 0 Off.devInput 63 48 mv).p .dev 0 Off.devPwrctl 2 2 _).p .dev 0 Off.devPwrctl 3 3 _).rd a = s.rd a
  rw [rd_p, if_neg hp, rd_p, if_neg hp, rd_p, if_neg hi]

theorem State.debounceStart_regs (s : State) : s.debounceStart.regs = s.regs := s.debounceStart_ext.1 .regs (by decide)

/-- The debounce starts where PRES is mated, no trip holds, no removal is done and the converters are off (R11, R25). -/
theorem State.debounceStart_power (s : State) (hs : s.power.standby = true) (hu : s.power.uvHeld = false) (ho : s.power.ovHeld = false) :
    s.debounceStart.power.uvHeld = false ∧ s.debounceStart.power.ovHeld = false ∧
    s.debounceStart.power.debounce = (s.power.debounce ||
      (s.power.pres && !s.power.thermHeld && decide (s.power.drain ≠ .done) && !s.power.converters)) := by
  have hstart : (s.power.standby && s.power.pres && s.noTrip && decide (s.power.drain ≠ .done) && !s.power.converters) =
      (s.power.pres && !s.power.thermHeld && decide (s.power.drain ≠ .done) && !s.power.converters) := by
    simp [State.noTrip, hs, hu, ho]
  unfold State.debounceStart
  rw [hstart]
  split
  next h => exact ⟨hu, ho, by rw [h]; simp⟩
  next h => exact ⟨hu, ho, by rw [Bool.eq_false_of_not_eq_true h]; simp⟩

/-- The release of the last trip: `w` is the power state with that trip released. -/
theorem State.release_spec (s : State) (w : Power) (mv : BitVec 16) (hs : w.standby = true) (hu : w.uvHeld = false) (ho : w.ovHeld = false) :
    (({ s with power := w } : State).vin mv.toNat).debounceStart.power.uvHeld = false ∧
    (({ s with power := w } : State).vin mv.toNat).debounceStart.power.ovHeld = false ∧
    VinShown (({ s with power := w } : State).vin mv.toNat).debounceStart mv.toNat ∧
    (({ s with power := w } : State).vin mv.toNat).debounceStart.power.debounce =
      (w.debounce || (w.pres && !w.thermHeld && decide (w.drain ≠ .done) && !w.converters)) ∧
    RegsOnly [regAt .dev 0 Off.devInput, regAt .dev 0 Off.devPwrctl] s (({ s with power := w } : State).vin mv.toNat).debounceStart := by
  have hstored := ({ s with power := w } : State).vin_stored mv
  have honly := ({ s with power := w } : State).vin_regsOnly mv.toNat
  have hpower : (({ s with power := w } : State).vin mv.toNat).power = w := rfl
  generalize ({ s with power := w } : State).vin mv.toNat = t at *
  have hregs := t.debounceStart_regs
  obtain ⟨hu', ho', hdeb⟩ := t.debounceStart_power (by rw [hpower, hs]) (by rw [hpower, hu]) (by rw [hpower, ho])
  rw [hpower] at hdeb
  refine ⟨hu', ho', VinStored.shown ?_, hdeb, fun a ha => (rd_of_regs hregs a).trans (honly a ha)⟩
  have hkept := hstored.of_devKept ((DevKept.refl t).of_regs hregs)
  simpa only [vinLow, vinHigh, hu', ho', hu, ho] using hkept

theorem exec_uvRelease {s : State} {mv : BitVec 16} (hu : s.power.uvHeld = true) (hmv : 29500 ≤ mv.toNat) :
    exec (.uvRelease mv) s = .next (({ s with power := { s.power with uvHeld := false } } : State).vin mv.toNat).debounceStart :=
  congrArg _ (if_pos ⟨hu, hmv⟩)

theorem exec_ovRelease {s : State} {mv : BitVec 16} (ho : s.power.ovHeld = true) (hmv : mv.toNat ≤ 40500) :
    exec (.ovRelease mv) s = .next (({ s with power := { s.power with ovHeld := false } } : State).vin mv.toNat).debounceStart :=
  congrArg _ (if_pos ⟨ho, hmv⟩)

theorem exec_vinBandChange {s : State} {mv : BitVec 16} (hs : s.power.standby = true) :
    exec (.vinBandChange mv) s = .next (s.vin mv.toNat) := congrArg _ (if_pos hs)

/-! ### Orderly removal -/

theorem exec_removeReq {s : State} (hr : s.ready .dev 0 = true) : exec .removeReq s = .next s.removeReq := by
  have hpage : s.pageWrite .dev 0 Off.devPwrctl (·.removeReq) = s.removeReq := by
    simp [State.pageWrite, pageCount, hr]
  exact congrArg _ hpage

theorem State.removeReq_start {s : State} (hrails : s.power.rails = true) (hdrain : s.power.drain = .none)
    (hready : s.g .dev 0 Off.devPwrctl 1 1 = 0) : s.removeReq =
      { s.p .dev 0 Off.devPwrctl 0 0 1 with power := { s.power with drain := .running } } := if_pos ⟨hdrain, hready, hrails⟩

theorem State.removeReq_ready {s : State} (hready : s.g .dev 0 Off.devPwrctl 1 1 = 1) : s.removeReq = s :=
  if_neg fun h => by rw [hready] at h; exact absurd h.2.1 (by decide)

theorem exec_removalDrainResume {s : State} (hd : s.power.drain = .running) (hp : s.phase = 0) :
    exec .removalDrainResume s = .next (s.leave.persist 1 true).drainDone := congrArg _ (if_pos ⟨hd, hp⟩)

theorem exec_removeDrainTimeout {s : State} (hd : s.power.drain = .running) :
    exec .removeDrainTimeout s = .next ((s.persist 1 true).drainDone.latchPwr 15) := congrArg _ (if_pos hd)

/-- A telemetry record has the next number (R410). -/
theorem State.persist_tlmSeq (s : State) (reason : Nat) (ok : Bool) : (s.persist reason ok).ras.tlmSeq = s.ras.tlmSeq + 1 := by
  have hsnap : (s.takeSnap .tlm 0).ras = s.ras := (s.takeSnap_ext .tlm 0).1 .ras (by decide)
  have hraise (t : State) (n : Nat) : (t.raise .tlm 0 n).ras = t.ras := (t.raise_ext .tlm 0 n).1 .ras (by decide)
  unfold State.persist
  dsimp only
  split
  · rw [hraise, State.p_ras]
    exact congrArg (fun r : Ras => r.tlmSeq + 1) hsnap
  · rw [hraise]
    exact congrArg (fun r : Ras => r.tlmSeq + 1) hsnap

/-- A drain that ends after the counters are saved, from a state with the same power and the same telemetry. -/
theorem State.saved_drainDone {s t : State} (hpower : t.power = s.power) (hras : t.ras = s.ras) :
    ConvertersOff s (t.persist 1 true).drainDone ∧ (t.persist 1 true).drainDone.ras.tlmSeq = s.ras.tlmSeq + 1 := by
  refine ⟨(t.persist 1 true).drainDone_convertersOff.of_rails ?_, ?_⟩
  · rw [State.persist_power, hpower]
  · rw [State.drainDone_tlmSeq, State.persist_tlmSeq, hras]

/-! ### The statement -/

/-- Settles O8: a trip by `State.voltageTrip_spec`, a release by `State.release_spec`, the drain by `State.saved_drainDone`. -/
theorem tripsAndRemoval : Obligations.TripsAndRemoval := by
  refine ⟨fun s mv hs => ⟨?_, ?_, ?_, ?_⟩, fun s => ⟨?_, ?_, ?_⟩⟩
  · intro hu hmv
    have he := exec_uvTrip hs hu hmv
    obtain ⟨htrip, ⟨huv, -⟩, hvin⟩ := s.voltageTrip_spec { s.power with uvHeld := true } mv (by decide) (by decide) rfl rfl (exec_same he)
    exact ⟨_, he, htrip, huv, hvin⟩
  · intro ho hmv
    have he := exec_ovTrip hs ho hmv
    obtain ⟨htrip, ⟨-, hov⟩, hvin⟩ := s.voltageTrip_spec { s.power with ovHeld := true } mv (by decide) (by decide) rfl rfl (exec_same he)
    exact ⟨_, he, htrip, hov, hvin⟩
  · intro c hc huv hov
    simp only [List.mem_cons, List.not_mem_nil, or_false] at hc
    rcases hc with rfl | rfl
    · obtain ⟨hu, ho, hmv⟩ := huv rfl
      have he := exec_uvRelease hu hmv
      obtain ⟨hu', ho', hvin, hdeb, honly⟩ := s.release_spec { s.power with uvHeld := false } mv hs rfl ho
      exact ⟨_, he, hu', ho', hvin, hdeb, honly, exec_same he⟩
    · obtain ⟨ho, hu, hmv⟩ := hov rfl
      have he := exec_ovRelease ho hmv
      obtain ⟨hu', ho', hvin, hdeb, honly⟩ := s.release_spec { s.power with ovHeld := false } mv hs hu rfl
      exact ⟨_, he, hu', ho', hvin, hdeb, honly, exec_same he⟩
  · have he := exec_vinBandChange (mv := mv) hs
    exact ⟨_, he, (s.vin_stored mv).shown, s.vin_regsOnly _, exec_same he⟩
  · intro hr hrails hdrain hready
    refine ⟨_, exec_removeReq hr, ?_⟩
    have hsame : Same [.power, .regs] s s.removeReq := s.removeReq_ext.1
    rw [State.removeReq_start hrails hdrain hready] at hsame ⊢
    exact ⟨rfl, (s.rd_p ..).trans (if_pos rfl), fun a ha => (s.rd_p ..).trans (if_neg (mt List.mem_singleton.2 ha)), hsame⟩
  · intro hr hready
    rw [exec_removeReq hr, State.removeReq_ready hready]
  · intro c hc hd hphase
    simp only [List.mem_cons, List.not_mem_nil, or_false] at hc
    rcases hc with rfl | rfl
    · have he := exec_removalDrainResume hd (hphase rfl)
      obtain ⟨hoff, hseq⟩ := State.saved_drainDone (s.leave_ext.1 .power (by decide)) (s.leave_ext.1 .ras (by decide))
      exact ⟨_, he, rfl, hoff, State.drainDone_ready _, nofun, hseq, exec_same he⟩
    · have he := exec_removeDrainTimeout hd
      obtain ⟨hoff, hseq⟩ := State.saved_drainDone (s := s) (t := s) rfl rfl
      have hras (t : State) : (t.latchPwr 15).ras = t.ras := (t.latchPwr_ext 15).1 .ras (by decide)
      refine ⟨_, he, ?_, s.latchPwr_convertersOff 15 hoff, ?_, fun _ => State.g_latchPwr_same _ (by decide), ?_, exec_same he⟩
      · rw [State.latchPwr_power]
        rfl
      · exact (State.g_latchPwr_below _ (by decide) (by decide) (by decide)).trans (State.drainDone_ready _)
      · rw [hras, hseq]

end Sys2Proof.Machine
end

section
/-! SUPPORT. Statement O9: the thermal responses and their bits of DEV_THERM and DEV_PWRCTL (R18, R19). -/

namespace Sys2Proof.Machine

/-! ### Responses that latch a bit -/

/-- A response that has written DEV_THERM at most and then latches a bit of DEV_PWRCTL. -/
theorem State.latchPwr_response {s t : State} (h : ∀ a, a ≠ regAt .dev 0 Off.devTherm → t.rd a = s.rd a) (n : Nat) :
    PwrLatched s (t.latchPwr n) n ∧ RegsOnly thermalRegs s (t.latchPwr n) := by
  refine ⟨s.latchPwr_latched n (h _ (by decide)) (h _ (by decide)), fun a ha => ?_⟩
  simp only [thermalRegs, List.mem_cons, List.not_mem_nil, or_false, not_or] at ha
  obtain ⟨htherm, hpwr, hevent⟩ := ha
  rw [t.rd_latchPwr_other hpwr hevent, h a htherm]

/-- A response that records a temperature in DEV_THERM, has a new power state and latches a bit of DEV_PWRCTL. -/
theorem State.thermal_latched (s : State) (hi lo v n : Nat) (w : Power) :
    FieldSet s (({ s.p .dev 0 Off.devTherm hi lo v with power := w } : State).latchPwr n) .dev 0 Off.devTherm hi lo v ∧
    PwrLatched s (({ s.p .dev 0 Off.devTherm hi lo v with power := w } : State).latchPwr n) n ∧
    RegsOnly thermalRegs s (({ s.p .dev 0 Off.devTherm hi lo v with power := w } : State).latchPwr n) := by
  have hrd (a : Nat) : ({ s.p .dev 0 Off.devTherm hi lo v with power := w } : State).rd a =
      if a = regAt .dev 0 Off.devTherm then putFld (s.rd a) hi lo v else s.rd a := s.rd_p ..
  refine ⟨?_, State.latchPwr_response (fun a ha => (hrd a).trans (if_neg ha)) n⟩
  exact (State.rd_latchPwr_other _ (by decide) (by decide)).trans ((hrd _).trans (if_pos rfl))

theorem exec_inletHigh {s : State} {t : BitVec 16} (hs : s.power.standby = true) (ht : 640 < t.toInt) : exec (.inletHigh t) s =
    .next (({ s.p .dev 0 Off.devTherm 63 48 t.toNat with
      power := { s.power with inletHigh := true, capW := BitVec.ofNat 16 (State.derated t.toNat) } } : State).latchPwr 11) :=
  congrArg _ (if_pos ⟨hs, ht⟩)

theorem exec_inletDeratingEnd {s : State} {t : BitVec 16} (hs : s.power.standby = true) (ht : t.toInt ≤ 640) :
    exec (.inletDeratingEnd t) s = .next { s.p .dev 0 Off.devTherm 63 48 t.toNat with
      power := { s.power with inletHigh := false, capW := 6800 } } := congrArg _ (if_pos ⟨hs, ht⟩)

theorem exec_dieHot {s : State} {t : BitVec 16} (hr : s.power.rails = true) (ht : 1520 ≤ t.toInt) : exec (.dieHot t) s =
    .next (({ s.p .dev 0 Off.devTherm 31 16 t.toNat with power := { s.power with dieHot := true } } : State).latchPwr 12) := by
  have hhot : (s.p .dev 0 Off.devTherm 31 16 t.toNat).dieTemp t.toInt =
      { s.p .dev 0 Off.devTherm 31 16 t.toNat with power := { s.power with dieHot := true } } := by
    rw [State.dieTemp, if_pos ht]
    rfl
  rw [← hhot]
  exact congrArg _ (if_pos ⟨hr, ht⟩)

/-! ### Thermal trips -/

theorem State.thermTrip_eq {s : State} (hs : s.power.standby = true) (hh : s.power.thermHeld = false) :
    s.thermTrip = ({ s with power := { s.power with thermHeld := true } } : State).trip 10 := if_pos ⟨hs, by simp [hh]⟩

/-- A thermal trip is a trip, and holds the converters off; registers may have changed before it. -/
theorem State.thermTrip_spec {s t : State} (hpower : t.power = s.power) (hs : s.power.standby = true)
    (hh : s.power.thermHeld = false) (same : Same dieParts s t.thermTrip) :
    Tripped s t.thermTrip 10 ∧ t.thermTrip.power.thermHeld = true := by
  rw [State.thermTrip_eq (hpower ▸ hs) (hpower ▸ hh)] at same ⊢
  obtain ⟨hoff, hbit, hdrained, -, -, hheld⟩ :=
    ({ t with power := { t.power with thermHeld := true } } : State).trip_spec (n := 10) (by decide) (by decide)
  have hrails : t.power.rails = s.power.rails := by rw [hpower]
  have hdrain : t.power.drain = s.power.drain := by rw [hpower]
  exact ⟨⟨hoff.of_rails hrails, hbit, same, fun h => hdrained (hdrain.trans h)⟩, hheld⟩

theorem exec_inletTripTimer {s : State} (ht : 720 < sext 16 (s.g .dev 0 Off.devTherm 63 48)) :
    exec .inletTripTimer s = .next s.thermTrip := congrArg _ (if_pos ht)

theorem exec_dieOvertempTrip {s : State} {t : BitVec 16} (ht : 1680 ≤ t.toInt) :
    exec (.dieOvertempTrip t) s = .next (s.p .dev 0 Off.devTherm 31 16 t.toNat).thermTrip := congrArg _ (if_pos ht)

/-! ### DIMMs -/

theorem exec_dimmRefreshDouble {s : State} {ch : Nat} (hch : ch < 24) (hr : s.power.rails = true) : exec (.dimmRefreshDouble ch) s =
    .next { s with power := { s.power with dimmDouble := s.power.dimmDouble ||| BitVec.ofNat 24 (2 ^ ch) } } :=
  congrArg _ (if_pos ⟨hch, hr⟩)

theorem exec_dimmHot {s : State} {ch : Nat} (hch : ch < 24) (hr : s.power.rails = true) : exec (.dimmHot ch) s =
    .next (({ s with power := { s.power with dimmHalf := s.power.dimmHalf ||| BitVec.ofNat 24 (2 ^ ch) } } : State).latchPwr 13) :=
  congrArg _ (if_pos ⟨hch, hr⟩)

/-! ### Optical engines -/

theorem State.routeEntry_links (s : State) (dst : Nat) : OAll (fun x => x.2.fab.links = s.fab.links) (s.routeEntry dst) := by
  unfold State.routeEntry
  split
  · exact .some rfl
  · split
    next bs t heq =>
      have hfab : t.fab = s.fab := ((s.vget_ext _ _ _).of heq).1 .fab (by decide)
      have hlinks : t.fab.links = s.fab.links := by rw [hfab]
      exact .some hlinks
    next => exact .none _

theorem State.route_links (s : State) (dst : Nat) (vc0 : Bool) (avoid : Option Nat) :
    (s.route dst vc0 avoid).2.fab.links = s.fab.links := by
  unfold State.route
  dsimp only
  split
  · split
    · rfl
    · rfl
  · split
    · rfl
    next heq =>
      have hentry := (s.routeEntry_links dst).of heq
      split
      · exact hentry
      · split
        · exact hentry
        · split
          · exact hentry
          · exact hentry

/-- Resending a request changes no link. -/
theorem State.resend_links (s : State) (x : Txn) (within : Bool) : OAll (fun u => u.fab.links = s.fab.links) (s.resend x within) := by
  unfold State.resend
  refine .ite (.none _) ?_
  dsimp only
  split
  next heq =>
    have hroute := s.route_links x.k.dst.toNat false (some x.l)
    rw [heq] at hroute
    have hsent (t : State) (l l' n : Nat) (k : Pkt) : ((t.bump .fab l n 1).emit l' k).fab = t.fab :=
      (Ext.step (ps := [.regs, .hlk]) (State.emit_ext ..) rfl (State.bump_ext ..)).1 .fab (by decide)
    exact .some ((congrArg Fab.links (hsent ..)).trans hroute)
  next => exact .none _

theorem State.linkLost_links (s : State) (l : Nat) : (s.linkLost l).fab.links = s.fab.links :=
  foldl_all (P := fun u : State => u.fab.links = s.fab.links) rfl fun v x hv => by
    split
    next heq => exact ((v.resend_links x _).of heq).trans hv
    next => exact hv

/-- A link that drops is down, and no other link changes. -/
theorem State.dropLink_link (s : State) (l l' : Nat) : (s.dropLink l).link l' =
    if l' = l then { linkDown0 with lit := (s.link l).lit, fails := (s.link l).fails } else s.link l' := by
  have hlinks : (s.dropLink l).fab.links = (s.setLink l { linkDown0 with lit := (s.link l).lit, fails := (s.link l).fails }).fab.links := by
    unfold State.dropLink
    dsimp only
    rw [State.linkLost_links]
    split
    · exact congrArg Fab.links ((State.raise_ext ..).1 .fab (by decide))
    · rfl
  rw [State.link, hlinks]
  exact s.link_setLink ..

/-- One link of an optical engine whose transmitters turn off (R18): an active link drops, another is down. -/
def State.lightOff (s : State) (l : Nat) : State :=
  if [2, 3, 5].contains (s.link l).st.toNat then s.dropLink l else s.setLink l { linkDown0 with lit := (s.link l).lit }

theorem State.opticsOff_eq (s : State) (e : Nat) : s.opticsOff e =
    let t := ({ s with power := { s.power with opticOff := s.power.opticOff ||| BitVec.ofNat 13 (2 ^ e) } } : State).latchPwr 14
    if e = 12 then (if t.g .hlk 0 Off.hlkLink 2 0 = 2 ∨ t.g .hlk 0 Off.hlkLink 2 0 = 3 then t.hostDark else t)
    else ((List.range 8).map (8 * e + ·)).foldl State.lightOff t := rfl

theorem DevKept.lightOff {s t : State} (h : DevKept s t) {l : Nat} : DevKept s (t.lightOff l) :=
  ite h.dropLink (h.frame (State.setLink_ext ..))

theorem State.lightOff_power (s : State) (l : Nat) : (s.lightOff l).power = s.power := by
  unfold State.lightOff
  split
  · exact (s.dropLink_ext l).1 .power (by decide)
  · rfl

theorem State.lightOff_foldl_power (ls : List Nat) (s : State) : (ls.foldl State.lightOff s).power = s.power :=
  foldl_all (P := fun u : State => u.power = s.power) rfl fun u l hu => (u.lightOff_power l).trans hu

/-- The link is down, and a link that was down stays down. -/
theorem State.lightOff_st (s : State) (l l' : Nat) (h : l' = l ∨ (s.link l').st = 0) : ((s.lightOff l).link l').st = 0 := by
  unfold State.lightOff
  split
  · rw [State.dropLink_link]
    split
    · rfl
    · exact h.resolve_left ‹_›
  · rw [State.link_setLink]
    split
    · rfl
    · exact h.resolve_left ‹_›

/-- After an engine's links have gone dark one by one, each of them is down. -/
theorem State.lightOff_foldl_st (ls : List Nat) (s : State) (l : Nat) (h : l ∈ ls ∨ (s.link l).st = 0) :
    ((ls.foldl State.lightOff s).link l).st = 0 := by
  induction ls generalizing s with
  | nil => simpa using h
  | cons k ls ih =>
    refine ih (s.lightOff k) ?_
    rcases h with h | h
    · rcases List.mem_cons.1 h with rfl | h
      · exact .inr (s.lightOff_st _ _ (.inl rfl))
      · exact .inl h
    · exact .inr (s.lightOff_st _ _ (.inr h))

/-- OPTIC_HOT (R18): the engine is off, the bit is latched, and the links of a fabric engine are down. -/
theorem State.opticsOff_spec (s : State) (e : Nat) :
    (s.opticsOff e).power = { s.power with opticOff := s.power.opticOff ||| BitVec.ofNat 13 (2 ^ e) } ∧
    (s.opticsOff e).g .dev 0 Off.devPwrctl 14 14 = 1 ∧ ∀ l, e < 12 → l / 8 = e → ((s.opticsOff e).link l).st = 0 := by
  rw [State.opticsOff_eq]
  have hbit := ({ s with power := { s.power with opticOff := s.power.opticOff ||| BitVec.ofNat 13 (2 ^ e) } } : State).g_latchPwr_same
    (n := 14) (by decide)
  have hpower := ({ s with power := { s.power with opticOff := s.power.opticOff ||| BitVec.ofNat 13 (2 ^ e) } } : State).latchPwr_power 14
  generalize ({ s with power := { s.power with opticOff := s.power.opticOff ||| BitVec.ofNat 13 (2 ^ e) } } : State).latchPwr 14 = t
    at hbit hpower
  have hg {u : State} (k : DevKept t u) : u.g .dev 0 Off.devPwrctl 14 14 = 1 := by
    rw [State.g, k.rd (by decide)]
    exact hbit
  dsimp only
  by_cases he : e = 12
  · rw [if_pos he]
    have hdown (u : State) : ∀ l, e < 12 → l / 8 = e → (u.link l).st = 0 := fun l hlt => absurd he (Nat.ne_of_lt hlt)
    split
    · exact ⟨(t.hostDark_ext.1 .power (by decide)).trans hpower, hg (DevKept.refl t).hostDark, hdown _⟩
    · exact ⟨hpower, hbit, hdown _⟩
  · rw [if_neg he]
    refine ⟨?_, hg (foldl_all (DevKept.refl t) fun _ _ hv => hv.lightOff), fun l _ hl => State.lightOff_foldl_st _ _ _ (.inl ?_)⟩
    · exact (State.lightOff_foldl_power ..).trans hpower
    · exact List.mem_map.2 ⟨l % 8, List.mem_range.2 (Nat.mod_lt l (by decide)), by omega⟩

theorem exec_opticHot {s : State} {e : Nat} (he : e < 13) (hr : s.power.rails = true) :
    exec (.opticHot e) s = .next (s.opticsOff e) := congrArg _ (if_pos ⟨he, hr⟩)

/-! ### The restart after a thermal trip -/

theorem exec_thermalRestart {s : State} (hh : s.power.thermHeld = true) (hbit : s.g .dev 0 Off.devPwrctl 10 10 = 0) :
    exec .thermalRestart s = .next { s with power :=
      if s.power.uvHeld = false ∧ s.power.ovHeld = false ∧ s.power.pres = true ∧ s.power.drain ≠ .done then
        { s.power with thermHeld := false, converters := true, coldSrc := 0x02 }
      else { s.power with thermHeld := false } } := by
  have hstart : (({ s with power := { s.power with thermHeld := false } } : State).noTrip = true ∧ s.power.pres = true ∧
      s.power.drain ≠ .done) ↔ s.power.uvHeld = false ∧ s.power.ovHeld = false ∧ s.power.pres = true ∧ s.power.drain ≠ .done := by
    simp [State.noTrip, and_assoc]
  refine congrArg Host.Outcome.next ((if_pos ⟨hh, hbit⟩).trans ?_)
  dsimp only
  simp only [hstart]
  split <;> rfl

/-! ### The statement -/

/-- Settles O9: the derating and the hot sensors by `State.thermal_latched`, the trips by `State.thermTrip_spec`, the optics by
`State.opticsOff_spec`. -/
theorem thermalResponses : Obligations.ThermalResponses := by
  refine fun s => ⟨?_, ?_, ?_, ?_, ?_, ?_, ?_, ?_, ?_⟩
  · intro t hs ht
    have he := exec_inletHigh hs ht
    obtain ⟨hfield, hlatched, honly⟩ := s.thermal_latched 63 48 t.toNat 11
      { s.power with inletHigh := true, capW := BitVec.ofNat 16 (State.derated t.toNat) }
    exact ⟨_, he, State.latchPwr_power .., hfield, hlatched, honly, exec_same he⟩
  · intro t hs ht
    have he := exec_inletDeratingEnd hs ht
    refine ⟨_, he, rfl, (s.rd_p ..).trans (if_pos rfl), fun a ha => (s.rd_p ..).trans (if_neg ?_), exec_same he⟩
    exact List.ne_of_not_mem_cons ha
  · intro ht hs hh
    have he := exec_inletTripTimer ht
    exact ⟨_, he, State.thermTrip_spec rfl hs hh (exec_same he)⟩
  · intro t ht hs hh
    have he := exec_dieOvertempTrip (s := s) ht
    exact ⟨_, he, State.thermTrip_spec rfl hs hh (exec_same he)⟩
  · intro t hr ht
    have he := exec_dieHot hr ht
    obtain ⟨hfield, hlatched, honly⟩ := s.thermal_latched 31 16 t.toNat 12 { s.power with dieHot := true }
    exact ⟨_, he, State.latchPwr_power .., hfield, hlatched, honly, exec_same he⟩
  · exact fun ch hch hr => exec_dimmRefreshDouble hch hr
  · intro ch hch hr
    have he := exec_dimmHot hch hr
    have hresponse := State.latchPwr_response (s := s)
      (t := { s with power := { s.power with dimmHalf := s.power.dimmHalf ||| BitVec.ofNat 24 (2 ^ ch) } }) (fun _ _ => rfl) 13
    exact ⟨_, he, State.latchPwr_power .., hresponse.1, hresponse.2, exec_same he⟩
  · exact fun e he hr => ⟨_, exec_opticHot he hr, s.opticsOff_spec e⟩
  · exact fun hh hbit => exec_thermalRestart hh hbit

end Sys2Proof.Machine
end

section
/-! SUPPORT. The register map, row by row (R5, R6), and the reset columns of a page (R33, R34): what a register reads after them. -/

namespace Sys2Proof.Machine

/-! ### Pages of BAR0 (R53) -/

theorem mem_allBlks (b : Blk) : b ∈ allBlks := by cases b <;> decide

/-- The pages of two blocks do not meet. -/
theorem pages_disjoint : ∀ b ∈ allBlks, ∀ c ∈ allBlks, b ≠ c →
    pageBase b 0 + pageCount b * 0x1000 ≤ pageBase c 0 ∨ pageBase c 0 + pageCount c * 0x1000 ≤ pageBase b 0 := by decide

theorem pageBase_eq {b : Blk} {i : Nat} (hi : i < pageCount b) : pageBase b i = pageBase b 0 + i * 0x1000 := by
  cases b <;> simp only [pageCount, pageBase] at hi ⊢ <;> omega

/-- A register's BAR0 offset lies on its page. -/
theorem pageAt_regAt {b : Blk} {i off : Nat} (hi : i < pageCount b) (ho : off < 0x1000) : pageAt (regAt b i off) = some (b, i) := by
  have hin : pageBase b 0 ≤ regAt b i off ∧ regAt b i off < pageBase b 0 + pageCount b * 0x1000 := by
    rw [regAt, pageBase_eq hi]
    omega
  have hindex : (regAt b i off - pageBase b 0) / 0x1000 = i := by
    rw [regAt, pageBase_eq hi]
    omega
  have key (l : List Blk) (hl : l ⊆ allBlks) (hb : b ∈ l) : (l.findSome? fun c =>
      if pageBase c 0 ≤ regAt b i off ∧ regAt b i off < pageBase c 0 + pageCount c * 0x1000
      then some (c, (regAt b i off - pageBase c 0) / 0x1000) else none) = some (b, i) := by
    induction l with
    | nil => cases hb
    | cons c l ih =>
      by_cases hc : c = b
      · subst hc
        rw [List.findSome?_cons_of_isSome (by rw [if_pos hin]; rfl), if_pos hin, hindex]
      · have hout : ¬(pageBase c 0 ≤ regAt b i off ∧ regAt b i off < pageBase c 0 + pageCount c * 0x1000) := by
          have := pages_disjoint c (hl (by simp)) b (mem_allBlks b) hc
          omega
        rw [List.findSome?_cons_of_isNone (by rw [if_neg hout]; rfl)]
        exact ih (fun x hx => hl (by simp [hx])) ((List.mem_cons.1 hb).resolve_left (Ne.symm hc))
  exact key allBlks (fun _ h => h) (mem_allBlks b)

/-- A register's page offset is what is left of its BAR0 offset. -/
theorem regAt_mod {b : Blk} {i off : Nat} (ho : off < 0x1000) : regAt b i off % 0x1000 = off := by
  cases b <;> simp only [regAt, pageBase] <;> omega

/-! ### Rows of the register map (R5, R6) -/

/-- A row's fields stand in a word from high bits to low without overlap, its registers lie on their page, and a Warm number is the
Cold one. -/
structure RegRow.Tidy (r : RegRow) : Prop where
  order : r.flds.Pairwise fun f g => g.hi < f.lo
  inWord : ∀ f ∈ r.flds, f.lo ≤ f.hi ∧ f.hi < 64
  onPage : r.off + r.n * r.stride ≤ 0xFF8 + r.stride
  warm : ∀ f ∈ r.flds, f.warm = .keep ∨ f.warm = .fuse ∨ f.warm = .hw ∨ f.warm = f.cold

set_option maxRecDepth 10000 in
/-- Every row of the map is tidy. -/
theorem RegMap.tidy {b : Blk} {r : RegRow} (hr : r ∈ RegMap.rows b) : r.Tidy := by
  have key : ∀ r ∈ RegMap.rows b, (r.flds.Pairwise fun f g => g.hi < f.lo) ∧ (∀ f ∈ r.flds, f.lo ≤ f.hi ∧ f.hi < 64) ∧
      r.off + r.n * r.stride ≤ 0xFF8 + r.stride ∧
      ∀ f ∈ r.flds, f.warm = .keep ∨ f.warm = .fuse ∨ f.warm = .hw ∨ f.warm = f.cold := by cases b <;> decide
  obtain ⟨horder, hword, hpage, hwarm⟩ := key r hr
  exact ⟨horder, hword, hpage, hwarm⟩

/-- The row that the map finds is one of the block's, and the register lies on the page. -/
theorem RegMap.find_spec {b : Blk} {off k : Nat} {r : RegRow} (h : RegMap.find b off = some (r, k)) :
    r ∈ RegMap.rows b ∧ off < 0x1000 := by
  obtain ⟨x, hx, he⟩ := List.exists_of_findSome?_eq_some h
  split at he
  next hc =>
    obtain ⟨hle, hmod, hlt⟩ := hc
    obtain ⟨rfl, -⟩ := Prod.mk.inj (Option.some.inj he)
    have hpage := (RegMap.tidy hx).onPage
    refine ⟨hx, ?_⟩
    have hoff : off = x.off + (off - x.off) / x.stride * x.stride := by
      have := Nat.div_add_mod (off - x.off) x.stride
      rw [hmod, Nat.mul_comm] at this
      omega
    have hstride : ((off - x.off) / x.stride + 1) * x.stride ≤ x.n * x.stride := Nat.mul_le_mul_right _ hlt
    rw [Nat.add_mul] at hstride
    omega
  next => cases he

/-! ### A word of fields -/

/-- A word made of fields. -/
def fieldSum (v : Fld → Nat) (l : List Fld) : Nat := (l.map fun f => v f * 2 ^ f.lo).sum

theorem foldl_fieldSum (v : Fld → Nat) (l : List Fld) (n : Nat) :
    l.foldl (fun a f => a + v f * 2 ^ f.lo) n = n + fieldSum v l := by
  induction l generalizing n with
  | nil => rfl
  | cons f l ih =>
    rw [List.foldl_cons, ih, Nat.add_assoc]
    rfl

/-- Fields below bit n make a number below 2^n. -/
theorem fieldSum_lt {v : Fld → Nat} {l : List Fld} {n : Nat} (order : l.Pairwise fun f g => g.hi < f.lo)
    (hv : ∀ f ∈ l, f.lo ≤ f.hi ∧ v f < 2 ^ (f.hi + 1 - f.lo)) (hn : ∀ f ∈ l, f.hi < n) : fieldSum v l < 2 ^ n := by
  induction l generalizing n with
  | nil => exact Nat.two_pow_pos n
  | cons f l ih =>
    obtain ⟨hbelow, horder⟩ := List.pairwise_cons.1 order
    obtain ⟨hle, hlt⟩ := hv f (by simp)
    have hrest := ih horder (fun g hg => hv g (by simp [hg])) hbelow
    have htop : 2 ^ (f.hi + 1 - f.lo) * 2 ^ f.lo ≤ 2 ^ n := by
      rw [← Nat.pow_add]
      exact Nat.pow_le_pow_right (by decide) (by have := hn f (by simp); omega)
    have hmul : (v f + 1) * 2 ^ f.lo ≤ 2 ^ (f.hi + 1 - f.lo) * 2 ^ f.lo := Nat.mul_le_mul_right _ hlt
    rw [Nat.add_mul] at hmul
    change v f * 2 ^ f.lo + fieldSum v l < 2 ^ n
    omega

/-- A field of a word made of fields. -/
theorem nfld_fieldSum {v : Fld → Nat} {l : List Fld} {f : Fld} (order : l.Pairwise fun f g => g.hi < f.lo)
    (hv : ∀ f ∈ l, f.lo ≤ f.hi ∧ v f < 2 ^ (f.hi + 1 - f.lo)) (hf : f ∈ l) : nfld (fieldSum v l) f.hi f.lo = v f := by
  induction l with
  | nil => cases hf
  | cons g l ih =>
    obtain ⟨hbelow, horder⟩ := List.pairwise_cons.1 order
    have hv' : ∀ f ∈ l, f.lo ≤ f.hi ∧ v f < 2 ^ (f.hi + 1 - f.lo) := fun x hx => hv x (by simp [hx])
    change nfld (v g * 2 ^ g.lo + fieldSum v l) f.hi f.lo = v f
    rcases List.mem_cons.1 hf with rfl | hf
    · have hrest := fieldSum_lt horder hv' hbelow
      rw [nfld, Nat.add_comm, Nat.add_mul_div_right _ _ (Nat.two_pow_pos _), Nat.div_eq_of_lt hrest, Nat.zero_add]
      exact Nat.mod_eq_of_lt (hv f (by simp)).2
    · have hlo : 2 ^ g.lo = 2 ^ f.lo * (2 ^ (f.hi + 1 - f.lo) * 2 ^ (g.lo - (f.hi + 1))) := by
        rw [← Nat.pow_add, ← Nat.pow_add]
        congr 1
        have := hbelow f hf
        have := (hv' f hf).1
        omega
      rw [← ih horder hv' hf, nfld, hlo, Nat.mul_left_comm, Nat.mul_add_div (Nat.two_pow_pos _), Nat.mul_left_comm,
        Nat.mul_add_mod]
      rfl

theorem fld_ofNat_fieldSum {r : RegRow} (ht : r.Tidy) {v : Fld → Nat} (hv : ∀ f ∈ r.flds, v f < 2 ^ (f.hi + 1 - f.lo)) {f : Fld}
    (hf : f ∈ r.flds) : fld (BitVec.ofNat 64 (r.flds.foldl (fun a f => a + v f * 2 ^ f.lo) 0)) f.hi f.lo = v f := by
  have hv' : ∀ f ∈ r.flds, f.lo ≤ f.hi ∧ v f < 2 ^ (f.hi + 1 - f.lo) := fun f hf => ⟨(ht.inWord f hf).1, hv f hf⟩
  rw [foldl_fieldSum, Nat.zero_add, fld, BitVec.toNat_ofNat,
    Nat.mod_eq_of_lt (fieldSum_lt ht.order hv' fun f hf => (ht.inWord f hf).2), nfld_fieldSum ht.order hv' hf]

/-- A field of a register's Cold value is its column's number. -/
theorem fld_cold {b : Blk} {r : RegRow} (hr : r ∈ RegMap.rows b) {f : Fld} (hf : f ∈ r.flds) :
    fld r.cold f.hi f.lo = f.cold.num % 2 ^ (f.hi + 1 - f.lo) :=
  fld_ofNat_fieldSum (v := fun f => f.cold.num % 2 ^ (f.hi + 1 - f.lo)) (RegMap.tidy hr)
    (fun _ _ => Nat.mod_lt _ (Nat.two_pow_pos _)) hf

theorem Fld.after_lt (f : Fld) (warm : Bool) (b : Blk) (w : Word) : f.after warm b w < 2 ^ (f.hi + 1 - f.lo) := by
  unfold Fld.after
  split
  · exact Nat.mod_lt _ (Nat.two_pow_pos _)
  · exact fld_lt ..
  · exact Nat.two_pow_pos _
  · split
    · exact fld_lt ..
    · exact Nat.two_pow_pos _

/-- A field of a register after a reset. -/
theorem fld_after {b : Blk} {r : RegRow} (hr : r ∈ RegMap.rows b) {f : Fld} (hf : f ∈ r.flds) (warm : Bool) (w : Word) :
    fld (r.after warm b w) f.hi f.lo = f.after warm b w :=
  fld_ofNat_fieldSum (RegMap.tidy hr) (fun f _ => f.after_lt warm b w) hf

/-- A field whose column is a number takes that number in a reset. -/
theorem Fld.after_val {f : Fld} {warm : Bool} {n : Nat} (h : (if warm then f.warm else f.cold) = .val n) (b : Blk) (w : Word) :
    f.after warm b w = n % 2 ^ (f.hi + 1 - f.lo) := by
  unfold Fld.after
  rw [h]

/-- A field whose Warm column is a number holds it in the Cold value too. -/
theorem fld_cold_val {b : Blk} {r : RegRow} (hr : r ∈ RegMap.rows b) {f : Fld} (hf : f ∈ r.flds) {warm : Bool} {n : Nat}
    (h : (if warm then f.warm else f.cold) = .val n) : fld r.cold f.hi f.lo = n % 2 ^ (f.hi + 1 - f.lo) := by
  have hcold : f.cold = .val n := by
    cases warm
    · simpa using h
    · rcases (RegMap.tidy hr).warm f hf with e | e | e | e <;> simp_all
  rw [fld_cold hr hf, hcold]
  rfl

/-! ### The columns of a reset (R33, R34) -/

theorem coldWord_regAt {b : Blk} {i off k : Nat} {r : RegRow} (hi : i < pageCount b) (hrow : RegMap.find b off = some (r, k)) :
    coldWord (regAt b i off) = r.cold := by
  have ho := (RegMap.find_spec hrow).2
  simp only [coldWord, pageAt_regAt hi ho, regAt_mod ho, hrow]

namespace State

variable (s : State)

/-- What a register that the columns reach reads after them: its Cold value, or what the columns make of a word that it held. -/
theorem rd_columns {warm : Bool} {p : Blk → Nat → Bool} {b : Blk} {i off k : Nat} {r : RegRow} (hi : i < pageCount b)
    (hp : p b i = true) (hrow : RegMap.find b off = some (r, k)) :
    (s.columns warm p).rd (regAt b i off) = r.cold ∨ ∃ w, (s.columns warm p).rd (regAt b i off) = r.after warm b w := by
  have ho := (RegMap.find_spec hrow).2
  unfold rd
  rw [columns_regs, coldWord_regAt hi hrow]
  induction s.regs with
  | nil => exact .inl rfl
  | cons e l ih =>
    rw [List.filterMap_cons]
    cases hx : columnEntry warm p e with
    | none => exact ih
    | some x =>
      have hkey := columnEntry_key hx
      obtain ⟨a, v⟩ := x
      simp only [tget]
      by_cases ha : a = regAt b i off
      · rw [if_pos ha]
        have hea : e.1 = regAt b i off := hkey.symm.trans ha
        unfold columnEntry at hx
        simp only [hea, pageAt_regAt hi ho, hp, if_true, regAt_mod ho, hrow] at hx
        split at hx
        · cases hx
        · exact .inr ⟨e.2, (Prod.mk.inj (Option.some.inj hx)).2.symm⟩
      · rw [if_neg ha]
        exact ih

/-- A register that the columns do not bring to its Cold value. -/
theorem rd_columns_after {warm : Bool} {p : Blk → Nat → Bool} {b : Blk} {i off k : Nat} {r : RegRow} (hi : i < pageCount b)
    (hp : p b i = true) (hrow : RegMap.find b off = some (r, k)) (hcold : r.after warm b r.cold = r.cold)
    (hne : r.after warm b (s.rd (regAt b i off)) ≠ r.cold) :
    (s.columns warm p).rd (regAt b i off) = r.after warm b (s.rd (regAt b i off)) := by
  have ho := (RegMap.find_spec hrow).2
  unfold rd at hne ⊢
  rw [columns_regs, coldWord_regAt hi hrow]
  rw [coldWord_regAt hi hrow] at hne
  generalize s.regs = l at hne ⊢
  induction l with
  | nil => exact absurd hcold hne
  | cons e l ih =>
    obtain ⟨a, v⟩ := e
    rw [List.filterMap_cons]
    by_cases ha : a = regAt b i off
    · subst ha
      simp only [tget, if_true] at hne ⊢
      have hx : columnEntry warm p (regAt b i off, v) = some (regAt b i off, r.after warm b v) := by
        simp only [columnEntry, pageAt_regAt hi ho, hp, if_true, regAt_mod ho, hrow, if_neg hne]
      rw [hx]
      simp [tget]
    · simp only [tget, if_neg ha] at hne ⊢
      cases hx : columnEntry warm p (a, v) with
      | none => exact ih hne
      | some x =>
        have hkey : x.1 = a := columnEntry_key hx
        simp only [tget, if_neg (hkey ▸ ha : ¬x.1 = regAt b i off)]
        exact ih hne

/-- The columns of other pages leave a register alone. -/
theorem rd_columns_other {warm : Bool} {p : Blk → Nat → Bool} {b : Blk} {i off : Nat} (hi : i < pageCount b) (ho : off < 0x1000)
    (hp : p b i = false) : (s.columns warm p).rd (regAt b i off) = s.rd (regAt b i off) := by
  unfold rd
  rw [columns_regs]
  induction s.regs with
  | nil => rfl
  | cons e l ih =>
    obtain ⟨a, v⟩ := e
    rw [List.filterMap_cons]
    by_cases ha : a = regAt b i off
    · subst ha
      have hx : columnEntry warm p (regAt b i off, v) = some (regAt b i off, v) := by
        simp [columnEntry, pageAt_regAt hi ho, hp]
      rw [hx]
      simp [tget]
    · rw [tget, if_neg ha]
      cases hx : columnEntry warm p (a, v) with
      | none => exact ih
      | some x =>
        have hkey : x.1 = a := columnEntry_key hx
        simp only [tget, if_neg (hkey ▸ ha : ¬x.1 = regAt b i off)]
        exact ih

/-- After a reset its columns' numbers stand in the pages that it reaches. -/
theorem columns_columns (warm : Bool) (p : Blk → Nat → Bool) : Columns (s.columns warm p) warm fun b i => p b i = true := by
  intro b i off r k f n hp hi hrow hf hval
  have hr := (RegMap.find_spec hrow).1
  unfold g
  rcases s.rd_columns (warm := warm) hi hp hrow with e | ⟨w, e⟩
  · rw [e, fld_cold_val hr hf hval]
  · rw [e, fld_after hr hf, Fld.after_val hval]

end State

theorem Columns.of_regs {s u : State} {warm : Bool} {p q : Blk → Nat → Prop} (h : Columns s warm p) (e : u.regs = s.regs)
    (hq : ∀ b i, q b i → p b i) : Columns u warm q := fun b i off r k f n hb hi hrow hf hval => by
  rw [State.g, State.rd_of_regs e]
  exact h b i off r k f n (hq b i hb) hi hrow hf hval

end Sys2Proof.Machine
end

section
/-! SUPPORT. Statements O2 and O6: the local timer (R29), and the state after reset (R33, R36, R40). -/

namespace Sys2Proof.Machine

/-! ### The local timer (R29) -/

theorem State.tick_clock (s : State) :
    s.tick = { s with clock := { s.clock with timer := if s.power.standby then s.clock.timer + 1 else s.clock.timer } } := by
  unfold State.tick
  split <;> rfl

/-- Settles O2: the tick writes the timer and nothing else. -/
theorem idleStepTicksTheTimer : Obligations.IdleStepTicksTheTimer := by
  intro s hidle
  have hstep : step s = .next s.tick := by rw [step, hidle]
  refine ⟨s.tick, hstep, ?_, by rw [s.tick_clock]⟩
  rw [s.tick_clock]
  exact (Ext.set_clock s _).1

/-! ### The state after reset (R33, R40) -/

/-- RCC_RST_CAUSE is the one register that a reset leaves away from its Cold value (R36). -/
theorem State.rd_reset {a : Nat} (ha : a ≠ regAt .rcc 0 Off.rccRstCause) : State.reset.rd a = coldWord a :=
  if_neg (Ne.symm ha)

/-- RCC_RST_CAUSE holds what its hardware puts in it: no field has a number for its Cold column. -/
theorem RegMap.rccRstCause_hw {r : RegRow} {k : Nat} (h : RegMap.find .rcc Off.rccRstCause = some (r, k)) :
    ∀ f ∈ r.flds, f.cold = .hw := by
  have hrow : RegMap.find .rcc Off.rccRstCause =
      some (⟨some .rcc, 0x110, 1, 8, .plain, [⟨19, 16, .ro, .hw, .hw⟩, ⟨15, 8, .ro, .hw, .hw⟩, ⟨1, 0, .ro, .hw, .hw⟩]⟩, 0) := by decide
  obtain ⟨rfl, -⟩ := Prod.mk.inj (Option.some.inj (hrow.symm.trans h))
  decide

theorem State.reset_columns : Columns State.reset false fun _ _ => True := by
  intro b i off r k f n _ hi hrow hf hval
  obtain ⟨hr, ho⟩ := RegMap.find_spec hrow
  by_cases ha : regAt b i off = regAt .rcc 0 Off.rccRstCause
  · have hpage := pageAt_regAt hi ho
    have hoff : off = Off.rccRstCause := by rw [← regAt_mod (b := b) (i := i) ho, ha]; rfl
    rw [ha, pageAt_regAt (b := .rcc) (by decide) (by decide)] at hpage
    obtain ⟨rfl, rfl⟩ := Prod.mk.inj (Option.some.inj hpage)
    subst hoff
    rw [if_neg (by decide), RegMap.rccRstCause_hw hrow f hf] at hval
    cases hval
  · rw [g, State.rd_reset ha, coldWord_regAt hi hrow, fld_cold_val hr hf hval]

theorem State.reset_ready (b : Blk) (i : Nat) : State.reset.ready b i = false := by
  cases b <;> simp [State.ready, State.reset, bit]

/-- Settles O6: the columns hold because RCC_RST_CAUSE, the one register written, has no number in its Cold column. -/
theorem resetState : Obligations.ResetState :=
  ⟨State.reset_columns, ⟨fun _ _ _ _ => rfl, fun _ _ _ _ _ _ _ _ => rfl, fun _ _ _ _ => rfl⟩, State.reset_ready, rfl, rfl, by decide, rfl,
    rfl, rfl, rfl, rfl, rfl, fun _ => rfl, rfl, by decide, by decide, by decide, rfl⟩

end Sys2Proof.Machine
end

section
/-! SUPPORT. Statement O12: requests of RCC_RST_CTRL (R35, R36). -/

namespace Sys2Proof.Machine

/-- The word that a command writes to RCC_RST_CTRL: its key, and its request below bit 48. -/
theorem fld_rstCtrl_key (key : BitVec 16) {n : Nat} (hn : n < 2 ^ 48) : fld (BitVec.ofNat 64 (key.toNat * 2 ^ 48 + n)) 63 48 = key.toNat := by
  rw [fld, nfld, BitVec.toNat_ofNat]
  omega

namespace State

variable (s : State)

theorem requestReset_drain {c : RstClass} {b src : Nat} (h : s.power.drain = .running) :
    s.requestReset c b src = s.raise .rcc 0 Ev.rccResetRefused := if_pos h

/-- A reset that covers a request absorbs it. -/
theorem requestReset_absorbed {c : RstClass} {b src : Nat} (hd : s.power.drain ≠ .running)
    (h : ∃ r ∈ s.rst.reqs, covers r c b = true) : s.requestReset c b src = s := by
  rw [requestReset, if_neg hd, if_pos (List.any_eq_true.2 h)]

/-- A request that nothing covers joins those of its class, and abandons the others. -/
theorem requestReset_new {c : RstClass} {b src : Nat} (hd : s.power.drain ≠ .running)
    (h : ∀ r ∈ s.rst.reqs, covers r c b = false) : s.requestReset c b src = withReqs s
      ((s.rst.reqs.filter fun r => classRank r.cls = classRank c) ++
        [{ cls := c, basin := b, src := BitVec.ofNat 8 src, asserted := false }]) := by
  have hany : ¬s.rst.reqs.any (covers · c b) = true := by simpa using h
  rw [requestReset, if_neg hd, if_neg hany]
  rfl

/-- A wrong key raises KEY_BAD, and the write does nothing else. -/
theorem rstWrite_badKey (hr : s.ready .rcc 0 = true) {key : BitVec 16} (hkey : key ≠ 0xA5C3) {n : Nat} (hn : n < 2 ^ 48) :
    rstWrite s (BitVec.ofNat 64 (key.toNat * 2 ^ 48 + n)) = s.raise .rcc 0 Ev.rccKeyBad := by
  have hbad : fld (BitVec.ofNat 64 (key.toNat * 2 ^ 48 + n)) 63 48 ≠ 0xA5C3 := by
    rw [fld_rstCtrl_key key hn]
    exact fun e => hkey (BitVec.eq_of_toNat_eq e)
  rw [rstWrite, pageWrite, if_neg (by decide), hr, if_neg (by decide), writeRstCtrl, if_pos hbad]

theorem rstWrite_cold (hr : s.ready .rcc 0 = true) :
    rstWrite s (BitVec.ofNat 64 ((0xA5C3 : BitVec 16).toNat * 2 ^ 48 + 1)) = s.requestReset .cold 0 0x04 := by
  rw [rstWrite, pageWrite, if_neg (by decide), hr]
  rfl

theorem rstWrite_warm (hr : s.ready .rcc 0 = true) :
    rstWrite s (BitVec.ofNat 64 ((0xA5C3 : BitVec 16).toNat * 2 ^ 48 + 2)) = s.requestReset .warm 0 0x10 := by
  rw [rstWrite, pageWrite, if_neg (by decide), hr]
  rfl

/-- The request of a Basin reset that RCC_RST_CTRL makes. -/
def basinReq (b : Nat) : RstReq := { cls := .basin, basin := b, src := 0x20, asserted := false }

/-- The bits that a Basin request's word sets. -/
theorem basinMask_bits : ∀ mask : BitVec 4, fld (BitVec.ofNat 64 ((0xA5C3 : BitVec 16).toNat * 2 ^ 48 + mask.toNat * 16)) 63 48 = 0xA5C3 ∧
    bit (BitVec.ofNat 64 ((0xA5C3 : BitVec 16).toNat * 2 ^ 48 + mask.toNat * 16)) 0 = false ∧
    bit (BitVec.ofNat 64 ((0xA5C3 : BitVec 16).toNat * 2 ^ 48 + mask.toNat * 16)) 1 = false ∧
    ∀ b ∈ List.range 4, bit (BitVec.ofNat 64 ((0xA5C3 : BitVec 16).toNat * 2 ^ 48 + mask.toNat * 16)) (4 + b) = mask.toNat.testBit b := by
  decide

/-- Requests for distinct basins, made in turn, all stand. -/
theorem foldl_basinReq {p : Nat → Bool} {l : List Nat} (hl : l.Nodup) (hd : s.power.drain ≠ .running)
    (hreqs : ∀ r ∈ s.rst.reqs, r.cls = .basin ∧ r.basin ∉ l) :
    l.foldl (fun s b => if p b then s.requestReset .basin b 0x20 else s) s =
      withReqs s (s.rst.reqs ++ (l.filter p).map basinReq) := by
  induction l generalizing s with
  | nil => simp [withReqs]
  | cons b l ih =>
    obtain ⟨hb, hl⟩ := List.nodup_cons.1 hl
    rw [List.foldl_cons]
    cases hp : p b with
    | false =>
      rw [if_neg (by decide), ih s hl hd fun r hr => ⟨(hreqs r hr).1, fun h => (hreqs r hr).2 (List.mem_cons_of_mem _ h)⟩,
        List.filter_cons_of_neg (by simp [hp])]
    | true =>
      have hkeep : (s.rst.reqs.filter fun r => classRank r.cls = classRank .basin) = s.rst.reqs :=
        List.filter_eq_self.2 fun r hr => by simp [(hreqs r hr).1]
      have hnew : ∀ r ∈ s.rst.reqs, covers r .basin b = false := fun r hr => by
        obtain ⟨hcls, hout⟩ := hreqs r hr
        have hne : r.basin ≠ b := fun e => hout (by simp [e])
        simp [covers, hcls, hne]
      have hreq : s.requestReset .basin b 0x20 = withReqs s (s.rst.reqs ++ [basinReq b]) := by
        rw [s.requestReset_new hd hnew, hkeep]
        rfl
      rw [if_pos rfl, hreq, ih (withReqs s (s.rst.reqs ++ [basinReq b])) hl hd, List.filter_cons_of_pos (by simp [hp])]
      · simp [withReqs, basinReq]
      · intro r hr
        rcases List.mem_append.1 hr with hr | hr
        · exact ⟨(hreqs r hr).1, fun h => (hreqs r hr).2 (List.mem_cons_of_mem _ h)⟩
        · obtain rfl := List.mem_singleton.1 hr
          exact ⟨rfl, hb⟩

theorem rstWrite_basin (hr : s.ready .rcc 0 = true) (hd : s.power.drain ≠ .running) (hreqs : s.rst.reqs = []) (mask : BitVec 4) :
    rstWrite s (BitVec.ofNat 64 ((0xA5C3 : BitVec 16).toNat * 2 ^ 48 + mask.toNat * 16)) =
      withReqs s (((List.range 4).filter mask.toNat.testBit).map basinReq) := by
  obtain ⟨hkey, hcold, hwarm, hbits⟩ := basinMask_bits mask
  have hfold (u : State) : (List.range 4).foldl (fun s b =>
      if bit (BitVec.ofNat 64 ((0xA5C3 : BitVec 16).toNat * 2 ^ 48 + mask.toNat * 16)) (4 + b) then s.requestReset .basin b 0x20 else s) u =
      (List.range 4).foldl (fun s b => if mask.toNat.testBit b then s.requestReset .basin b 0x20 else s) u :=
    List.foldl_ext _ _ _ fun u b hb => by rw [hbits b hb]
  rw [rstWrite, pageWrite, if_neg (by decide), hr, if_neg (by decide), writeRstCtrl, if_neg (not_not_intro hkey)]
  simp only [hcold, hwarm, Bool.false_eq_true, if_false]
  rw [hfold, s.foldl_basinReq (List.nodup_range) hd (by simp [hreqs]), hreqs, List.nil_append]

end State

/-- An event of the RCC page alone. -/
theorem raise_only (s : State) (n : Nat) : EventSet s (s.raise .rcc 0 n) .rcc 0 n ∧
    RegsOnly [regAt .rcc 0 Off.event] s (s.raise .rcc 0 n) ∧ Same [.regs, .hlk] s (s.raise .rcc 0 n) :=
  ⟨s.rd_raise_same .rcc 0 n, fun a ha => s.rd_raise .rcc 0 n a (by simpa using ha), (State.raise_ext s .rcc 0 n).1⟩

/-- Settles O12: the write makes one request of each kind asked for, and a request is refused, absorbed or new. -/
theorem resetRequests : Obligations.ResetRequests := by
  intro s key mask hr
  refine ⟨fun hkey c hc => ?badKey, fun hd c hc => ?drain, fun hd hreqs => ?cold, fun hd hreqs => ?warm, fun hd hcold => ?absorbed,
    fun hd hreqs => ?basin⟩
  case badKey =>
    refine ⟨s.raise .rcc 0 Ev.rccKeyBad, ?_, raise_only s _⟩
    simp only [List.mem_cons, List.not_mem_nil, or_false] at hc
    rcases hc with rfl | rfl | rfl
    · exact congrArg _ (s.rstWrite_badKey hr hkey (n := 1) (by decide))
    · exact congrArg _ (s.rstWrite_badKey hr hkey (n := 2) (by decide))
    · exact congrArg _ (s.rstWrite_badKey hr hkey (n := mask.toNat * 16) (by have := mask.isLt; omega))
  case drain =>
    refine ⟨s.raise .rcc 0 Ev.rccResetRefused, ?_, raise_only s _⟩
    simp only [List.mem_cons, List.not_mem_nil, or_false] at hc
    rcases hc with rfl | rfl
    · exact congrArg _ ((s.rstWrite_cold hr).trans (s.requestReset_drain hd))
    · exact congrArg _ ((s.rstWrite_warm hr).trans (s.requestReset_drain hd))
  case cold =>
    have hnew : ∀ r ∈ s.rst.reqs, State.covers r .cold 0 = false := fun r h => by
      have := hreqs r h
      cases e : r.cls <;> simp_all [State.covers, State.classRank]
    have hkeep : (s.rst.reqs.filter fun r => State.classRank r.cls = State.classRank .cold) = [] :=
      List.filter_eq_nil_iff.2 fun r h => by
        have := hreqs r h
        cases e : r.cls <;> simp_all [State.classRank]
    exact congrArg _ ((s.rstWrite_cold hr).trans (by rw [s.requestReset_new hd hnew, hkeep]; rfl))
  case warm =>
    have hnew : ∀ r ∈ s.rst.reqs, State.covers r .warm 0 = false := fun r h => by simp [State.covers, hreqs r h, State.classRank]
    have hkeep : (s.rst.reqs.filter fun r => State.classRank r.cls = State.classRank .warm) = [] :=
      List.filter_eq_nil_iff.2 fun r h => by simp [hreqs r h, State.classRank]
    exact congrArg _ ((s.rstWrite_warm hr).trans (by rw [s.requestReset_new hd hnew, hkeep]; rfl))
  case absorbed =>
    obtain ⟨r, h, e⟩ := hcold
    exact congrArg _ ((s.rstWrite_warm hr).trans (s.requestReset_absorbed hd ⟨r, h, by simp [State.covers, e, State.classRank]⟩))
  case basin => exact congrArg _ (s.rstWrite_basin hr hd hreqs mask)

end Sys2Proof.Machine
end

section
/-! SUPPORT. What memory, the ledger and the counters leave alone: the relation Kept, of a register that no event and no counter
writes, of the reset state, and of the host link's rings and decoders. -/

namespace Sys2Proof.Machine

/-- A register offset away from a page's events, its CNT_SAT words and its counters (R53, R68, R74). -/
def Calm (a : Nat) : Prop := 0x100 ≤ a % 0x1000 ∧ a % 0x1000 < 0x200

/-- The page offsets of event counters (R74). -/
def isCounter (off : Nat) : Bool := decide (0x200 ≤ off) && decide (off < 0x1000)

/-- From s to u, register a, the reset state and the host link's decoders are as they were, and so are its rings where `rings` asks
for it. -/
structure Kept (a : Nat) (rings : Bool) (s u : State) : Prop where
  calm : Calm a
  rd : u.rd a = s.rd a
  rst : u.rst = s.rst
  rings : rings = true → u.hlk.rings = s.hlk.rings
  hdm : u.hlk.hdm = s.hlk.hdm
  exposed : u.hlk.exposed = s.hlk.exposed

/-! ### CNT_SAT words (R74) -/

/-- The items of a row's counters fit in the CNT_SAT words below offset 0x100. -/
def RegRow.itemsFit (r : RegRow) : Bool :=
  match r.kind with
  | .ctr n => decide (n + r.n ≤ 1280)
  | .hist n => decide (n + r.n ≤ 1280)
  | .plain => true

theorem RegMap.itemsFit {b : Blk} {r : RegRow} (hr : r ∈ RegMap.rows b) : r.itemsFit = true := by
  have key : ∀ r ∈ RegMap.rows b, r.itemsFit = true := by cases b <;> decide
  exact key r hr

theorem RegMap.find_index {b : Blk} {off k : Nat} {r : RegRow} (h : RegMap.find b off = some (r, k)) : k < r.n := by
  obtain ⟨x, -, he⟩ := List.exists_of_findSome?_eq_some h
  split at he
  next hc =>
    obtain ⟨rfl, rfl⟩ := Prod.mk.inj (Option.some.inj he)
    exact hc.2.2
  next => cases he

theorem State.satItem_lt (b : Blk) (off : Nat) : State.satItem b off < 1280 := by
  unfold State.satItem
  cases h : RegMap.find b off with
  | none => decide
  | some x =>
    obtain ⟨r, k⟩ := x
    have hk := RegMap.find_index h
    have hfit := RegMap.itemsFit (RegMap.find_spec h).1
    unfold RegRow.itemsFit at hfit
    dsimp only
    split <;> simp_all <;> omega

theorem pageBase_mod (b : Blk) (i : Nat) : pageBase b i % 0x1000 = 0 := regAt_mod (b := b) (i := i) (off := 0) (by decide)

theorem Calm.ne {a off : Nat} (ha : Calm a) (b : Blk) (i : Nat) (ho : off < 0x100 ∨ 0x200 ≤ off ∧ off < 0x1000) :
    a ≠ pageBase b i + off := by
  have := pageBase_mod b i
  obtain ⟨hlow, hhigh⟩ := ha
  omega

/-! ### Failure records (R405) -/

namespace State

variable (s : State)

/-- A record numbered and counted, with its history (R405). -/
def numbered (h : List FRec) : State :=
  ({ s with free := s.free + 44, ras := { s.ras with nextSeq := s.ras.nextSeq + 1, history := h } } : State).bump .tlm 0 (0x200 + 8 * 23) 1

/-- What writing a failure record can do (R405): a corrected record merges; any other is numbered, and the pending list takes it or
overflows. -/
theorem putRecord_cases (r : FRec) :
    (r.sev = 2 ∧ ∃ l, s.putRecord r = { s with ras := { s.ras with pending := l } }) ∨ ∃ h,
      (∃ l, s.putRecord r = { s.numbered h with ras := { (s.numbered h).ras with pending := l } }) ∨
      s.putRecord r = ((s.numbered h).bump .ras 0 (0x200 + 8 * 11) 1).raise .ras 0 Ev.rasLogOverflow := by
  obtain ⟨u, hu⟩ : ∃ u, u = s.putRecord r := ⟨_, rfl⟩
  rw [← hu]
  unfold putRecord at hu
  extract_lets logid fw q same l r0 h u0 v r1 at hu
  split at hu
  next hsame =>
    refine .inl ⟨?_, l, hu⟩
    obtain ⟨x, -, hx⟩ := List.any_eq_true.1 hsame
    simp only [same, Bool.and_eq_true, decide_eq_true_eq] at hx
    exact hx.1.1.1.1.1
  next =>
    refine .inr ⟨h, ?_⟩
    split at hu
    · exact .inl ⟨_, hu⟩
    · split at hu
      · exact .inl ⟨_, hu⟩
      · exact .inr hu

end State

namespace Kept

variable {a : Nat} {r : Bool} {s t u : State}

theorem refl (ha : Calm a) (s : State) : Kept a r s s := ⟨ha, rfl, rfl, fun _ => rfl, rfl, rfl⟩

theorem trans (h : Kept a r s t) (k : Kept a r t u) : Kept a r s u :=
  ⟨h.calm, k.rd.trans h.rd, k.rst.trans h.rst, fun e => (k.rings e).trans (h.rings e), k.hdm.trans h.hdm, k.exposed.trans h.exposed⟩

/-- An operation on other parts of the machine. -/
theorem frame {ps : List Part} (h : Kept a r s t) (e : Ext ps t u)
    (hp : (ps.contains .regs || ps.contains .rst || ps.contains .hlk) = false) : Kept a r s u := by
  obtain ⟨⟨hregs, hrst⟩, hhlk⟩ := (Bool.or_eq_false_iff.1 hp).imp Bool.or_eq_false_iff.1 id
  have eregs : u.regs = t.regs := e.1 .regs (by simpa using hregs)
  have erst : u.rst = t.rst := e.1 .rst (by simpa using hrst)
  have ehlk : u.hlk = t.hlk := e.1 .hlk (by simpa using hhlk)
  exact h.trans ⟨h.calm, State.rd_of_regs eregs a, erst, fun _ => by rw [ehlk], by rw [ehlk], by rw [ehlk]⟩

/-- An update of the state's other fields. -/
theorem of_fields (h : Kept a r s t) (eregs : u.regs = t.regs) (erst : u.rst = t.rst) (erings : u.hlk.rings = t.hlk.rings)
    (ehdm : u.hlk.hdm = t.hlk.hdm) (eexp : u.hlk.exposed = t.hlk.exposed) : Kept a r s u :=
  h.trans ⟨h.calm, State.rd_of_regs eregs a, erst, fun _ => erings, ehdm, eexp⟩

theorem ite {c : Prop} [Decidable c] (h : Kept a r s t) (k : Kept a r s u) : Kept a r s (if c then t else u) := by
  split <;> assumption

/-! ### Registers, events, counters -/

theorem wr (h : Kept a r s t) {x : Nat} (w : Word) (hx : a ≠ x) : Kept a r s (t.wr x w) :=
  h.trans ⟨h.calm, State.rd_wr_other _ _ hx, rfl, fun _ => rfl, rfl, rfl⟩

/-- A field of an event, a CNT_SAT word or a counter. -/
theorem p (h : Kept a r s t) {b : Blk} {i off hi lo v : Nat} (ho : off < 0x100 ∨ 0x200 ≤ off ∧ off < 0x1000) :
    Kept a r s (t.p b i off hi lo v) := h.wr _ (h.calm.ne b i ho)

theorem msix (h : Kept a r s t) {v : Nat} : Kept a r s (t.msix v) := by
  unfold State.msix
  dsimp only
  split
  · exact h.of_fields rfl rfl rfl rfl rfl
  · exact h.of_fields rfl rfl rfl rfl rfl

theorem raise (h : Kept a r s t) {b : Blk} {i n : Nat} : Kept a r s (t.raise b i n) := by
  unfold State.raise
  have hp : Kept a r s (t.p b i Off.event n n 1) := h.p (.inl (by decide))
  exact ite hp.msix hp

theorem saturate (h : Kept a r s t) {b : Blk} {i item : Nat} (hitem : item < 1280) : Kept a r s (t.saturate b i item) := by
  have hp {lo v : Nat} : Kept a r s (t.p b i (Off.cntSat + 8 * (item / 64)) lo lo v) :=
    h.p (.inl (by simp only [Off.cntSat]; omega))
  unfold State.saturate
  dsimp only
  split
  · exact h
  · split
    · exact hp.raise
    · exact hp

theorem bump (h : Kept a r s t) {b : Blk} {i off n : Nat} (ho : isCounter off = true) : Kept a r s (t.bump b i off n) := by
  have hw (w : Word) : Kept a r s (t.wr (pageBase b i + off) w) := h.wr w (h.calm.ne b i (.inr (by simpa [isCounter] using ho)))
  unfold State.bump
  exact ite h (ite (hw _) ((hw _).saturate (State.satItem_lt b off)))

/-! ### Failure records and detections outside a step -/

theorem putRecord (h : Kept a r s t) {x : FRec} : Kept a r s (t.putRecord x) := by
  have hnum (l : List FRec) : Kept a r s (t.numbered l) := (h.frame (Ext.set_ras_free ..) rfl).bump rfl
  rcases t.putRecord_cases x with ⟨-, l, e⟩ | ⟨n, ⟨l, e⟩ | e⟩
  · rw [e]
    exact h.frame (Ext.set_ras ..) rfl
  · rw [e]
    exact (hnum n).frame (Ext.set_ras ..) rfl
  · rw [e]
    exact ((hnum n).bump rfl).raise

theorem record (h : Kept a r s t) {b : Blk} {i kind outcome sev phys attempt detail addr : Nat} {step : Word} :
    Kept a r s (t.record b i kind outcome sev phys step attempt detail addr) := h.putRecord

/-- A detection outside a step asks for no replay and names no core. -/
theorem detected (h : Kept a r s t) {b : Blk} {i kind detail addr : Nat} : Kept a r s (t.detected b i kind 0 none detail addr) := by
  unfold State.detected
  exact ((h.bump rfl).frame (State.freeByte_ext ..) rfl).record

/-! ### Memory and translation -/

theorem countBytes (h : Kept a r s t) {x n : Nat} {write : Bool} : Kept a r s (t.countBytes x n write) :=
  foldl_all h fun v y hv => by
    have ho : isCounter (0x200 + (if write then 40 else 32)) = true := by cases write <;> decide
    split
    · exact hv.bump ho
    · exact hv.bump ho
    · exact hv

theorem countPartial (h : Kept a r s t) {x n : Nat} : Kept a r s (t.countPartial x n) :=
  foldl_all h fun v y hv => by
    dsimp only
    split
    · exact ite hv ((hv.bump rfl).bump rfl)
    · exact hv

theorem storePhys (h : Kept a r s t) {x : Nat} {bs : Bytes} : Kept a r s (t.storePhys x bs) :=
  foldl_all ((h.countPartial.frame (State.clearPoison_ext ..) rfl).countBytes) fun _ _ hv =>
    ite ((hv.bump rfl).bump rfl).detected (hv.of_fields rfl rfl rfl rfl rfl)

theorem vread (h : Kept a r s t) {sl va n : Nat} : VAll (Kept a r s) (t.vread sl va n) := by
  unfold State.vread
  split
  · trivial
  · refine VAll.ite trivial (VAll.ite trivial ?_)
    exact foldl_all h fun v x hv => (hv.frame (State.touch_ext ..) rfl).countBytes

theorem vget (h : Kept a r s t) {sl va n : Nat} : OAll (fun x => Kept a r s x.2) (t.vget sl va n) := by
  unfold State.vget
  split
  next heq => exact .some ((h.vread (sl := sl) (va := va) (n := n)).of_ok heq)
  next => exact .none _

theorem vwrite (h : Kept a r s t) {sl va : Nat} {bs : Bytes} : VAll (Kept a r s) (t.vwrite sl va bs) := by
  unfold State.vwrite
  split
  · trivial
  · trivial
  · refine VAll.ite trivial (VAll.ite trivial ?_)
    exact foldl_all h fun v x hv => (hv.frame (State.touch_ext ..) rfl).storePhys

theorem vput (h : Kept a r s t) {sl va : Nat} {bs : Bytes} : Kept a r s (t.vput sl va bs) := by
  unfold State.vput
  split
  next heq => exact (h.vwrite (sl := sl) (va := va) (bs := bs)).of_ok heq
  next => exact h

/-! ### The activation ledger (R271, R274) -/

theorem writeRec (h : Kept a r s t) {b : Nat} {x : ARec} : Kept a r s (t.writeRec b x) := h.vput

theorem putRec (h : Kept a r s t) {b : Nat} {x : ARec} : Kept a r s (t.putRec b x) :=
  (h.frame (State.setLedger_ext ..) rfl).writeRec

theorem gatherBit (h : Kept a r s t) {b tensor : Nat} {v : Bool} : Kept a r s (t.gatherBit b tensor v) := by
  unfold State.gatherBit
  dsimp only
  split
  · exact h.vput
  · exact h

theorem freeRec (h : Kept a r s t) {b : Nat} {x : ARec} : Kept a r s (t.freeRec b x) :=
  ite (h.frame (State.setLedger_ext ..) rfl).writeRec.gatherBit (h.frame (State.setLedger_ext ..) rfl).writeRec

theorem freeOrDue (h : Kept a r s t) {b : Nat} {x : ARec} : Kept a r s (t.freeOrDue b x) :=
  ite h.freeRec (h.frame (State.setLedger_ext ..) rfl)

theorem ledgerHostDown (h : Kept a r s t) : Kept a r s t.ledgerHostDown :=
  foldl_all h fun _ _ hv => foldl_all hv fun _ _ hw => hw.putRec

theorem ledgerRestart (h : Kept a r s t) {step : Word} : Kept a r s (t.ledgerRestart step) :=
  foldl_all h fun _ _ hv => foldl_all hv fun _ _ hw => hw.freeOrDue

end Kept

end Sys2Proof.Machine
end

section
/-! SUPPORT. READY of pages (R39, R40), a page that its Block reset holds, and the columns of one page (R33, R60). -/

namespace Sys2Proof.Machine

/-! ### Bits of a word -/

theorem bit_eq_fld (w : Word) (n : Nat) : bit w n = decide (fld w n n = 1) := by
  rw [bit, Nat.testBit_eq_decide_div_mod_eq, fld, nfld, Nat.add_sub_cancel_left, Nat.pow_one]

theorem bit_putBit_same (w : Word) {n : Nat} (h : n < 64) (v : Bool) : bit (putBit w n v) n = v := by
  rw [bit_eq_fld, putBit, fld_putFld_same _ _ (Nat.le_refl n) h, Nat.add_sub_cancel_left]
  cases v <;> rfl

theorem bit_putBit_other (w : Word) {n m : Nat} (h : n < 64) (hne : m ≠ n) (v : Bool) : bit (putBit w n v) m = bit w m := by
  rw [bit_eq_fld, bit_eq_fld, putBit]
  rcases Nat.lt_or_gt_of_ne hne with hlt | hgt
  · rw [fld_putFld_below _ _ (Nat.le_refl n) h hlt (Nat.le_refl m)]
  · rw [fld_putFld_above _ _ (Nat.le_refl n) h hgt]

/-! ### READY (R39, R40) -/

/-- The RCC_READY word that holds a block's READY bits (R39, R40). -/
def readyBank : Blk → Fin 3
  | .mem => 1
  | .fab => 2
  | _ => 0

/-- The lowest READY bit of a block; COR's are the BASIN bits. -/
def readyLow : Blk → Nat
  | .dev => 0
  | .rcc => 1
  | .mbx => 2
  | .hlk => 3
  | .xlt => 4
  | .kvp => 5
  | .red => 6
  | .ras => 7
  | .tlm => 8
  | .sec => 9
  | .cor => 16
  | .sdm => 20
  | .sth => 24
  | .act => 28
  | .shl => 32
  | .inl => 36
  | .shr => 48
  | .mem => 0
  | .fab => 0

/-- The READY bit of a page. -/
def readyAt (b : Blk) (i : Nat) : Nat := readyLow b + if b = .cor then i / 576 else i

/-- READY bits of a block. -/
def readyWidth (b : Blk) : Nat := if b = .cor then 4 else pageCount b

theorem readyBits_disjoint : ∀ b ∈ allBlks, ∀ c ∈ allBlks, b ≠ c →
    readyBank b ≠ readyBank c ∨ readyLow b + readyWidth b ≤ readyLow c ∨ readyLow c + readyWidth c ≤ readyLow b := by decide

theorem readyBits_inWord : ∀ b ∈ allBlks, readyLow b + readyWidth b ≤ 64 := by decide

theorem readyAt_bounds {b : Blk} {i : Nat} (hi : i < pageCount b) :
    readyLow b ≤ readyAt b i ∧ readyAt b i < readyLow b + readyWidth b := by
  unfold readyAt readyWidth
  by_cases hb : b = .cor
  · subst hb
    simp only [pageCount] at hi
    simp only [if_true]
    omega
  · simp only [if_neg hb]
    omega

theorem readyAt_lt {b : Blk} {i : Nat} (hi : i < pageCount b) : readyAt b i < 64 :=
  Nat.lt_of_lt_of_le (readyAt_bounds hi).2 (readyBits_inWord b (mem_allBlks b))

/-- Two pages, one of them no core's, have different READY bits. -/
theorem readyAt_ne {b c : Blk} {i j : Nat} (hb : b ≠ .cor) (hi : i < pageCount b) (hj : j < pageCount c) (hne : (c, j) ≠ (b, i)) :
    readyBank c ≠ readyBank b ∨ readyAt c j ≠ readyAt b i := by
  by_cases hc : c = b
  · subst hc
    refine .inr ?_
    simp only [readyAt, if_neg hb]
    intro e
    exact hne (by rw [Nat.add_left_cancel e])
  · have := readyAt_bounds hi
    have := readyAt_bounds hj
    rcases readyBits_disjoint c (mem_allBlks c) b (mem_allBlks b) hc with h | h
    · exact .inl h
    · exact .inr (by omega)

namespace State

variable (s : State)

/-- A word of RCC_READY. -/
def readyWord (k : Fin 3) : Word :=
  match k with
  | 0 => s.rst.ready0
  | 1 => s.rst.ready1
  | 2 => s.rst.ready2

theorem ready_eq_bit {b : Blk} {i : Nat} (hi : i < pageCount b) :
    s.ready b i = (bit (s.readyWord (readyBank b)) (readyAt b i) && (b ≠ .cor || !tget s.rst.coreDown false i)) := by
  cases b <;> simp [pageCount] at hi <;> simp [ready, readyBank, readyWord, readyAt, readyLow, hi]

theorem setReady_readyWord {b : Blk} {i : Nat} (hb : b ≠ .cor) (hi : i < pageCount b) (v : Bool) (k : Fin 3) :
    (s.setReady b i v).readyWord k = if k = readyBank b then putBit (s.readyWord k) (readyAt b i) v else s.readyWord k := by
  match k with
  | 0 | 1 | 2 =>
    cases b <;> simp [pageCount] at hi hb <;> simp [setReady, readyBank, readyWord, readyAt, readyLow, hi]

theorem setReady_coreDown {b : Blk} {i : Nat} (hb : b ≠ .cor) (v : Bool) : (s.setReady b i v).rst.coreDown = s.rst.coreDown := by
  cases b with
  | cor => exact absurd rfl hb
  | _ => rfl

/-- READY sets and clears. -/
theorem ready_setReady_same {b : Blk} {i : Nat} (hb : b ≠ .cor) (hi : i < pageCount b) (v : Bool) : (s.setReady b i v).ready b i = v := by
  rw [ready_eq_bit _ hi, setReady_readyWord _ hb hi, if_pos rfl, bit_putBit_same _ (readyAt_lt hi)]
  simp [hb]

/-- READY of a page moves no other page's. -/
theorem ready_setReady_other {b c : Blk} {i j : Nat} (hb : b ≠ .cor) (hi : i < pageCount b) (hj : j < pageCount c) (hne : (c, j) ≠ (b, i))
    (v : Bool) : (s.setReady b i v).ready c j = s.ready c j := by
  rw [ready_eq_bit _ hj, ready_eq_bit _ hj, setReady_readyWord _ hb hi, setReady_coreDown _ hb]
  split
  next hbank => rw [bit_putBit_other _ (readyAt_lt hi) ((readyAt_ne hb hi hj hne).resolve_left (not_not_intro hbank))]
  next => rfl

theorem ready_setReady_false (b : Blk) {i : Nat} (hi : i < pageCount b) : (s.setReady b i false).ready b i = false := by
  by_cases hb : b = .cor
  · subst hb
    simp [ready, setReady]
  · exact ready_setReady_same s hb hi false

theorem ready_congr {s u : State} {b : Blk} {i : Nat} (h0 : u.rst.ready0 = s.rst.ready0)
    (h1 : u.rst.ready1 = s.rst.ready1) (h2 : u.rst.ready2 = s.rst.ready2) (hc : u.rst.coreDown = s.rst.coreDown) : u.ready b i = s.ready b i := by
  cases b <;> simp [ready, h0, h1, h2, hc]

end State

end Sys2Proof.Machine
end

section
/-! SUPPORT. Statement O15: Block resets, their deferral and their end (R33, R35, R60). -/

namespace Sys2Proof.Machine

theorem BlkHeld.of_rst {s u : State} {b : Blk} {i : Nat} (h : BlkHeld s b i) (e : u.rst = s.rst) : BlkHeld u b i :=
  ⟨(State.ready_congr (congrArg Rst.ready0 e) (congrArg Rst.ready1 e) (congrArg Rst.ready2 e) (congrArg Rst.coreDown e)).trans h.1,
    (congrArg (fun r : Rst => tget r.blk noBlk (pageBase b i)) e).trans h.2⟩

namespace State

variable (s : State)

/-! ### What a Block reset does (R33, R60) -/

theorem holdPage_held (b : Blk) {i : Nat} (hi : i < pageCount b) : BlkHeld (s.holdPage b i) b i :=
  ⟨(ready_congr rfl rfl rfl rfl).trans (s.ready_setReady_false b hi), tget_tset_same ..⟩

theorem holdPage_regs (b : Blk) (i : Nat) : (s.holdPage b i).regs = s.regs := (holdPage_ext s b i).1 .regs (by simp)

/-- The reset columns of one page. -/
theorem pageColumn_columns (b : Blk) (i : Nat) : Columns (s.pageColumn b i) true fun k j => k = b ∧ j = i :=
  (s.columns_columns true fun k j => k = b && j = i).of_regs rfl fun k j h => by simp [h]

/-- What a Block reset does on every page but HLK's and RED's. -/
theorem blockStart_eq {b : Blk} (hb : b ∉ ownPages) (hh : b ≠ .hlk) (hr : b ≠ .red) (i : Nat) :
    s.blockStart b i = (((s.setReady b i false).blockWork b i).pageColumn b i).holdPage b i := by
  cases b with
  | dev | rcc | ras | tlm | sec => exact absurd (by decide) hb
  | hlk => exact absurd rfl hh
  | red => exact absurd rfl hr
  | _ => rfl

theorem blockStart_columns {b : Blk} (hb : b ∉ ownPages) (hh : b ≠ .hlk) (hr : b ≠ .red) (i : Nat) :
    Columns (s.blockStart b i) true fun k j => k = b ∧ j = i := by
  rw [s.blockStart_eq hb hh hr]
  exact (pageColumn_columns _ b i).of_regs (holdPage_regs _ b i) fun _ _ h => h

/-- HLK's page, held by its Block reset before the link changes (R89). -/
def hlkHeld : State := ((s.closeRings.pageColumn .hlk 0).holdPage .hlk 0)

/-- HLK_LINK (R89). -/
abbrev linkAt : Nat := regAt .hlk 0 Off.hlkLink

theorem linkAt_calm : Calm linkAt := ⟨by decide, by decide⟩

/-- The link's state and the decoders as HLK's Block reset leaves them. -/
structure LinkReset (t : State) (st : Nat) (u : State) : Prop where
  rst : u.rst = t.rst
  rings : u.hlk.rings = []
  hdm : u.hlk.hdm = []
  link : fld (u.rd linkAt) 2 0 = st % 8

theorem LinkReset.kept {t u v : State} {st : Nat} (h : LinkReset t st u) (k : Kept linkAt true u v) : LinkReset t st v :=
  ⟨k.rst.trans h.rst, (k.rings rfl).trans h.rings, k.hdm.trans h.hdm, by rw [k.rd, h.link]⟩

theorem hlkRetrain_reset (hrings : s.hlk.rings = []) (st : Nat) : LinkReset s st (s.hlkRetrain st) := by
  let c : State := { s with hlk :=
    { s.hlk with hdm := [], exposed := s.g .hlk 0 Off.hlkHdmcfg 10 0, biasSettling := false, msix := [] } }
  have hwritten : LinkReset s st (c.wr linkAt (putFld (putFld (c.rd linkAt) 63 40 0) 2 0 st)) :=
    ⟨rfl, hrings, rfl, by rw [rd_wr_same, fld_putFld_same]; rfl⟩
  exact hwritten.kept (Kept.refl linkAt_calm _).ledgerHostDown

/-- What HLK's Block reset leaves: the page held, no ring, no decoder, and the link in its new state (R33, R89). -/
theorem hlkBlock_reset (st : Nat) : ∃ t, LinkReset (hlkHeld t) st (s.hlkBlock st) := by
  let t := if s.g .hlk 0 Off.hlkLink 2 0 = 2 then s.hostLost else s
  have hdown : LinkReset (hlkHeld t) st (t.hlkHeld.hlkRetrain st) := hlkRetrain_reset t.hlkHeld rfl st
  have hraised : LinkReset (hlkHeld t) st (if s.g .hlk 0 Off.hlkLink 2 0 = 2 then (t.hlkHeld.hlkRetrain st).raise .hlk 0 Ev.hlkLinkDown
      else t.hlkHeld.hlkRetrain st) := hdown.kept (.ite (Kept.refl linkAt_calm _).raise (.refl linkAt_calm _))
  exact ⟨t, hraised.kept (.ite (.refl linkAt_calm _) ((Kept.refl linkAt_calm _).bump rfl))⟩

theorem hlkBlock_held (st : Nat) : BlkHeld (s.hlkBlock st) .hlk 0 := by
  obtain ⟨t, h⟩ := s.hlkBlock_reset st
  exact (holdPage_held _ .hlk (by decide)).of_rst h.rst

/-- A Block reset holds its page. -/
theorem blockStart_held {b : Blk} {i : Nat} (hb : b ∉ ownPages) (hi : i < pageCount b) : BlkHeld (s.blockStart b i) b i := by
  by_cases hh : b = .hlk
  · subst hh
    obtain rfl : i = 0 := by simpa [pageCount] using hi
    exact s.hlkBlock_held 1
  · by_cases hr : b = .red
    · subst hr
      obtain rfl : i = 0 := by simpa [pageCount] using hi
      exact holdPage_held _ .red (by decide)
    · rw [s.blockStart_eq hb hh hr]
      exact holdPage_held _ b hi

/-! ### Requests (R35) -/

theorem hasBlkRst_eq_false {b : Blk} (hb : b ∈ ownPages) : hasBlkRst b = false := by
  cases b <;> simp [ownPages] at hb <;> rfl

theorem hasBlkRst_eq_true {b : Blk} (hb : b ∉ ownPages) : hasBlkRst b = true := by
  cases b <;> simp [ownPages] at hb <;> rfl

theorem deferrable_iff (b : Blk) : deferrable b = true ↔ b ∈ [Blk.inl, .shr, .mem, .red] := by cases b <;> decide

/-- A page without a Block reset ignores the write. -/
theorem blockRequest_ownPage {b : Blk} (hb : b ∈ ownPages) (i : Nat) : s.blockRequest b i = s := by
  rw [blockRequest, hasBlkRst_eq_false hb]
  rfl

/-- A request that no reset absorbs waits for the journal or starts at once. -/
theorem blockRequest_free {b : Blk} {i : Nat} (hb : b ∉ ownPages) (hi : i < pageCount b) (hfree : BlkFree s b i) : s.blockRequest b i =
    if deferrable b && s.phase ≠ 0 then { s with rst := { s.rst with blk := tset s.rst.blk noBlk (pageBase b i) .deferred } }
    else s.blockStart b i := by
  obtain ⟨hcov, hblk⟩ := hfree
  have hin : decide (pageCount b ≤ i) = false := by simpa using hi
  rw [blockRequest, hasBlkRst_eq_true hb, hin, hcov, if_neg (by simp [hblk])]

/-! ### The end of a Block reset (R60) -/

theorem nowReady_of_ne_mem {b : Blk} (hb : b ≠ .mem) (i : Nat) : s.nowReady b i = (s.setReady b i true).latchFault b i false := if_neg hb

theorem phyRecord_of_not_lost {b : Blk} {i : Nat} (h : tget s.rst.phyLost false (pageBase b i) = false) : s.phyRecord b i = s := by
  rw [phyRecord, h]
  rfl

theorem applyWaiting_nil (h : s.rst.waiting = []) (b : Blk) (i : Nat) :
    s.applyWaiting b i = { s with rst := { s.rst with waiting := [] } } := by
  rw [applyWaiting, h]
  rfl

@[simp] theorem setReady_phyLost (b : Blk) (i : Nat) (v : Bool) : (s.setReady b i v).rst.phyLost = s.rst.phyLost := by cases b <;> rfl

@[simp] theorem setReady_waiting (b : Blk) (i : Nat) (v : Bool) : (s.setReady b i v).rst.waiting = s.rst.waiting := by cases b <;> rfl

@[simp] theorem setReady_blk (b : Blk) (i : Nat) (v : Bool) : (s.setReady b i v).rst.blk = s.rst.blk := by cases b <;> rfl

/-- A Block reset that nothing else waits for ends with READY. -/
theorem blockDone_spec {b : Blk} {i : Nat} (hi : i < pageCount b) (hc : b ≠ .cor) (hm : b ≠ .mem)
    (hphy : tget s.rst.phyLost false (pageBase b i) = false) (hwait : s.rst.waiting = [])
    (hready : ({ s with rst := { s.rst with blk := tset s.rst.blk noBlk (pageBase b i) noBlk } } : State).mayReady b i = true) :
    (s.blockDone b i).ready b i = true ∧ tget (s.blockDone b i).rst.blk noBlk (pageBase b i) = noBlk ∧ Same [.rst] s (s.blockDone b i) := by
  let s0 : State := { s with rst := { s.rst with blk := tset s.rst.blk noBlk (pageBase b i) noBlk } }
  let s1 : State := (s0.setReady b i true).latchFault b i false
  have hdone : s.blockDone b i = { s1 with rst := { s1.rst with waiting := [] } } := by
    have hphy1 : tget s1.rst.phyLost false (pageBase b i) = false := by
      change tget (s0.setReady b i true).rst.phyLost _ _ = _
      rwa [setReady_phyLost]
    have hwait1 : s1.rst.waiting = [] := (s0.setReady_waiting b i true).trans hwait
    calc s.blockDone b i = ((s0.nowReady b i).phyRecord b i).applyWaiting b i := if_pos (.inr hready)
      _ = s1.applyWaiting b i := by rw [s0.nowReady_of_ne_mem hm, phyRecord_of_not_lost _ hphy1]
      _ = _ := s1.applyWaiting_nil hwait1 b i
  rw [hdone]
  refine ⟨(ready_congr rfl rfl rfl rfl).trans (s0.ready_setReady_same hc hi true), ?_, ?_⟩
  · change tget (s0.setReady b i true).rst.blk _ _ = _
    rw [setReady_blk]
    exact tget_tset_same ..
  · have hset : Ext [.rst] s (s0.setReady b i true) := .step (setReady_ext s0 b i true) rfl (Ext.set_rst s _)
    exact (Ext.step (Ext.set_rst ..) rfl hset).1

end State

/-- Settles O15: a request absorbed by nothing starts the Block reset, which ends by holding the page, or waits for the journal. -/
theorem blockResets : Obligations.BlockResets := by
  intro s b i hi
  refine ⟨fun hb => congrArg _ (s.blockRequest_ownPage hb i), fun hb hfree hnow => ?start, fun hb hfree hphase => ?wait,
    fun hdef hb hphase => ?deferred, fun hrun hheld hphy hwait hc hm hready => ?done⟩
  case start =>
    have hidle : (State.deferrable b && s.phase ≠ 0) = false := by
      rcases hnow with h | h
      · rw [Bool.eq_false_iff.2 fun e => h ((State.deferrable_iff b).1 e)]
        rfl
      · simp [h]
    have hreq : s.blockRequest b i = s.blockStart b i := by rw [s.blockRequest_free hb hi hfree, hidle]; rfl
    refine ⟨s.blockStart b i, congrArg _ hreq, s.blockStart_held hb hi, fun hh hr => s.blockStart_columns hb hh hr i⟩
  case wait =>
    have hown : b ∉ ownPages := by
      intro h
      cases b <;> simp [ownPages] at h hb
    have hdefer : (State.deferrable b && s.phase ≠ 0) = true := by simp [(State.deferrable_iff b).2 hb, hphase]
    exact congrArg _ ((s.blockRequest_free hown hi hfree).trans (if_pos hdefer))
  case deferred =>
    have hown : b ∉ ownPages := by
      intro h
      cases b <;> simp [ownPages] at h hb
    exact ⟨s.blockStart b i, congrArg _ (if_pos ⟨hdef, hphase, hi⟩), s.blockStart_held hown hi⟩
  case done =>
    exact ⟨s.blockDone b i, congrArg _ (if_pos ⟨hi, hrun, by simp [hheld]⟩), s.blockDone_spec hi hc hm hphy hwait hready⟩

end Sys2Proof.Machine
end

section
/-! SUPPORT. Statement O14: READY of pages and basins, the power-on core test, and lateness (R37 to R41, R397, R399). -/

namespace Sys2Proof.Machine

namespace State

variable (s : State)

/-! ### READY of pages and basins (R39) -/

theorem mayReady_lt {b : Blk} {i : Nat} (h : s.mayReady b i = true) : i < pageCount b := by
  simp only [mayReady, Bool.and_eq_true, decide_eq_true_eq] at h
  tauto

/-- READY of a page: its bit sets, its latched fault clears, and no other page's bit moves. -/
theorem nowReady_spec {b : Blk} {i : Nat} (hm : b ≠ .mem) (hc : b ≠ .cor) (hi : i < pageCount b) : (s.nowReady b i).ready b i = true ∧
    tget (s.nowReady b i).rst.faultLatch false (pageBase b i) = false ∧
    (∀ c j, (c, j) ≠ (b, i) → j < pageCount c → (s.nowReady b i).ready c j = s.ready c j) ∧ Same [.rst] s (s.nowReady b i) := by
  rw [s.nowReady_of_ne_mem hm]
  refine ⟨Eq.trans (ready_congr rfl rfl rfl rfl) (s.ready_setReady_same hc hi true), tget_tset_same .., fun c j hne hj => ?_, ?_⟩
  · exact Eq.trans (ready_congr rfl rfl rfl rfl) (s.ready_setReady_other hc hi hj hne true)
  · exact (Ext.step (latchFault_ext ..) rfl (s.setReady_ext b i true)).1

/-- With no scale table there are no headers to check. -/
theorem headersDue_off (h : s.scaleEn = false) : s.headersDue = s := by
  rw [headersDue, h]
  rfl

end State

/-! ### The power-on core test (R397, R399) -/

/-- From s to u, no core leaves the retirement list or its mark, and the tests that are done stay done. -/
structure RetireKept (s u : State) : Prop where
  retired : ∀ q ∈ s.ras.retired, q ∈ u.ras.retired
  cores : ∀ q, (s.pcore q).retired = true → (u.pcore q).retired = true
  tested : u.rst.tested = s.rst.tested

namespace RetireKept

variable {s t u : State}

theorem refl (s : State) : RetireKept s s := ⟨fun _ h => h, fun _ h => h, rfl⟩

theorem trans (h : RetireKept s t) (k : RetireKept t u) : RetireKept s u :=
  ⟨fun q hq => k.retired q (h.retired q hq), fun q hq => k.cores q (h.cores q hq), k.tested.trans h.tested⟩

/-- A change of other parts than RAS, or of RAS away from the list and the marks. -/
theorem of_fields (h : RetireKept s t) (hret : u.ras.retired = t.ras.retired) (hcores : u.ras.cores = t.ras.cores)
    (hrst : u.rst.tested = t.rst.tested) : RetireKept s u :=
  h.trans ⟨fun q hq => by rwa [hret], fun q hq => by rwa [State.pcore, hcores], hrst⟩

theorem frame {ps : List Part} (h : RetireKept s t) (e : Ext ps t u)
    (hp : (ps.contains .ras || ps.contains .rst) = false) : RetireKept s u := by
  obtain ⟨hras, hrst⟩ := Bool.or_eq_false_iff.1 hp
  have eras : u.ras = t.ras := e.1 .ras (by simpa using hras)
  have erst : u.rst = t.rst := e.1 .rst (by simpa using hrst)
  exact h.of_fields (by rw [eras]) (by rw [eras]) (by rw [erst])

theorem ite {c : Prop} [Decidable c] (h : RetireKept s t) (k : RetireKept s u) : RetireKept s (if c then t else u) := by
  split <;> assumption

theorem raise (h : RetireKept s t) {b : Blk} {i n : Nat} : RetireKept s (t.raise b i n) := h.frame (State.raise_ext ..) rfl

theorem bump (h : RetireKept s t) {b : Blk} {i off n : Nat} : RetireKept s (t.bump b i off n) := h.frame (State.bump_ext ..) rfl

theorem set_ras (h : RetireKept s t) {r : Ras} (hret : r.retired = t.ras.retired) (hcores : r.cores = t.ras.cores) :
    RetireKept s { t with ras := r } := h.of_fields hret hcores rfl

theorem set_ras_free (h : RetireKept s t) {r : Ras} {n : Nat} (hret : r.retired = t.ras.retired)
    (hcores : r.cores = t.ras.cores) : RetireKept s { t with ras := r, free := n } := h.of_fields hret hcores rfl

theorem record (h : RetireKept s t) {b : Blk} {i kind outcome sev phys attempt detail addr : Nat} {step : Word} :
    RetireKept s (t.record b i kind outcome sev phys step attempt detail addr) := by
  have hnum (l : List FRec) : RetireKept s (t.numbered l) := by
    refine bump (h.set_ras_free ?_ ?_) <;> rfl
  unfold State.record
  rcases t.putRecord_cases _ with ⟨-, l, e⟩ | ⟨n, ⟨l, e⟩ | e⟩
  · rw [e]
    exact h.set_ras rfl rfl
  · rw [e]
    exact (hnum n).set_ras rfl rfl
  · rw [e]
    exact (hnum n).bump.raise

/-- A core's entry changes, and a retired core's entry stays retired. -/
theorem setPcore (h : RetireKept s t) {q : Nat} {x : PhysCore} (hx : (t.pcore q).retired = true → x.retired = true) :
    RetireKept s (t.setPcore q x) :=
  h.trans ⟨fun _ hr => hr, fun r hr => by
    rw [State.pcore_setPcore]
    split
    next e => subst e; exact hx hr
    next => exact hr, rfl⟩

theorem retireMark (h : RetireKept s t) {q : Nat} : RetireKept s (t.retireMark q) := by
  have hlist {v : State} (hv : RetireKept s v) {n : BitVec 4} :
      RetireKept s { v with ras := { v.ras with retired := v.ras.retired ++ [q], exhausted := n } } :=
    hv.trans ⟨fun _ hr => List.mem_append_left _ hr, fun _ hr => hr, rfl⟩
  unfold State.retireMark
  refine frame (raise (bump (bump (record ?_)))) (State.spareLow_ext ..) rfl
  exact hlist (h.setPcore fun _ => rfl)

theorem rebuildBasin (h : RetireKept s t) {b : Nat} : RetireKept s (t.rebuildBasin b) := by
  have htests {v : State} (hv : RetireKept s v) : RetireKept s ((List.range 592).foldl (fun v k =>
      if (v.pcore (b * 592 + k)).testing then v.setPcore (b * 592 + k) { v.pcore (b * 592 + k) with testing := false } else v) v) :=
    foldl_all hv fun _ _ hw => ite (hw.setPcore fun hr => hr) hw
  have hmap {v : State} (hv : RetireKept s v) (m : List (Nat × Option Nat)) : RetireKept s (m.foldl (fun v e => match e.2 with
      | some q => v.setPhysOf e.1 q
      | none => v.coreLost e.1) v) :=
    foldl_all hv fun _ _ hw => by
      split
      · exact hw.of_fields rfl rfl rfl
      · exact hw.of_fields rfl rfl rfl
  have hlatch {v : State} (hv : RetireKept s v) (l : List Nat) : RetireKept s (l.foldl (fun v c => v.latchFault .cor c true) v) :=
    foldl_all hv fun _ _ hw => hw.of_fields rfl rfl rfl
  have hbuilt {m : List (Nat × Option Nat)} {v : State} (hv : RetireKept s v) := hmap (htests hv) m
  unfold State.rebuildBasin
  refine ite (ite (hlatch (hbuilt ?_) _) (hbuilt ?_)).record (ite (hlatch (hbuilt ?_) _) (hbuilt ?_))
  all_goals exact h.of_fields rfl rfl rfl

end RetireKept

namespace State

variable (s : State)

/-- A retired core is on the list and marked (R397). -/
def IsRetired (q : Nat) : Prop := q ∈ s.ras.retired ∧ (s.pcore q).retired = true

theorem IsRetired.set_rst {s : State} {q : Nat} (h : s.IsRetired q) (r : Rst) : ({ s with rst := r } : State).IsRetired q := h

end State

theorem RetireKept.isRetired {s u : State} (h : RetireKept s u) {q : Nat} (hq : s.IsRetired q) : u.IsRetired q :=
  ⟨h.retired q hq.1, h.cores q hq.2⟩

namespace State

variable (s : State)

theorem retireMark_isRetired (q : Nat) : (s.retireMark q).IsRetired q := by
  have hlisted {u : State} {n : BitVec 4} (hu : (u.pcore q).retired = true) :
      ({ u with ras := { u.ras with retired := u.ras.retired ++ [q], exhausted := n } } : State).IsRetired q := ⟨by simp, hu⟩
  unfold retireMark
  refine RetireKept.isRetired (.frame (.raise (.bump (.bump (.record (.refl _))))) (spareLow_ext ..) rfl) ?_
  exact hlisted (by rw [pcore_setPcore, if_pos rfl])

theorem retireMark_foldl {l : List Nat} {q : Nat} (hq : q ∈ l) : (l.foldl (fun s q => s.retireMark q) s).IsRetired q := by
  induction l generalizing s with
  | nil => cases hq
  | cons x l ih =>
    rw [List.foldl_cons]
    by_cases hl : q ∈ l
    · exact ih _ hl
    · obtain rfl : q = x := (List.mem_cons.1 hq).resolve_right hl
      have hkept : RetireKept (s.retireMark q) (l.foldl (fun s q => s.retireMark q) (s.retireMark q)) :=
        foldl_all (.refl _) fun _ _ h => h.retireMark
      exact hkept.isRetired (s.retireMark_isRetired q)

theorem tested_set : ∀ t : BitVec 4, ∀ b < 4, (t ||| BitVec.ofNat 4 (2 ^ b)).toNat.testBit b = true := by decide

/-- What the end of a basin's power-on test leaves: the basin tested, and its failed cores retired. -/
theorem postDone_spec {b : Nat} (hb : b < 4) (failed : List Nat) : (s.postDone b failed).rst.tested.toNat.testBit b = true ∧
    ∀ q ∈ failed, q ∈ s.postCores b → (s.postDone b failed).IsRetired q := by
  obtain ⟨u, hu⟩ : ∃ u, u = s.postDone b failed := ⟨_, rfl⟩
  rw [← hu]
  unfold postDone at hu
  extract_lets all bad s0 s1 s2 s3 rst s4 at hu
  have hrecords : RetireKept s1 s3 := foldl_all (RetireKept.refl s1).bump.bump fun _ _ h => h.raise.record
  have hend : RetireKept s4 u := by
    rw [hu]
    exact .ite (.refl s4) (RetireKept.refl s4).rebuildBasin
  refine ⟨?_, fun q hq hcore => ?_⟩
  · rw [hend.tested]
    exact tested_set _ b hb
  · have hbad : q ∈ bad := by simpa [bad, all, hcore] using hq
    have hmarked : s3.IsRetired q := hrecords.isRetired (retireMark_foldl _ hbad)
    exact hend.isRetired (hmarked.set_rst _)

/-! ### Lateness (R41) -/

theorem rd_raise_below {b : Blk} {i n a : Nat} (h : a < pageBase b i) : (s.raise b i n).rd a = s.rd a := s.rd_raise b i n a (by omega)

theorem rd_bump_below {b : Blk} {i off n a : Nat} (h : a < pageBase b i) : (s.bump b i off n).rd a = s.rd a := by
  have hwr (w : Word) : (s.wr (pageBase b i + off) w).rd a = s.rd a := rd_wr_other _ w (by omega)
  have hsat (u : State) (item : Nat) : (u.saturate b i item).rd a = u.rd a := by
    have hp {o hi lo v : Nat} : (u.p b i o hi lo v).rd a = u.rd a := rd_wr_other _ _ (by omega)
    unfold saturate
    dsimp only
    split
    · rfl
    · split
      · rw [rd_raise_below _ h, hp]
      · exact hp
  unfold bump
  dsimp only
  split
  · rfl
  · split
    · exact hwr _
    · rw [hsat, hwr]

/-- Failure records count on the RAS and TLM pages, which stand above the RCC page. -/
theorem rd_putRecord_below {r : FRec} {a : Nat} (h : a < 0x280000) : (s.putRecord r).rd a = s.rd a := by
  have hnum (l : List FRec) : (s.numbered l).rd a = s.rd a := rd_bump_below _ (Nat.lt_trans h (by decide))
  rcases s.putRecord_cases r with ⟨-, l, e⟩ | ⟨n, ⟨l, e⟩ | e⟩
  · rw [e]
    rfl
  · rw [e]
    exact hnum n
  · rw [e, rd_raise_below _ h, rd_bump_below _ h, hnum]

/-- A record that is not a corrected one merges with none. -/
theorem putRecord_nextSeq {r : FRec} (h : r.sev ≠ 2) : (s.putRecord r).ras.nextSeq = s.ras.nextSeq + 1 := by
  have hnum (l : List FRec) : (s.numbered l).ras.nextSeq = s.ras.nextSeq + 1 := by rw [numbered, (bump_ext ..).1 .ras (by simp)]
  rcases s.putRecord_cases r with ⟨hsev, -⟩ | ⟨n, ⟨l, e⟩ | e⟩
  · exact absurd hsev h
  · rw [e]
    exact hnum n
  · rw [e, (raise_ext ..).1 .ras (by simp), (bump_ext ..).1 .ras (by simp), hnum]

theorem lateRecord_nextSeq (b : Blk) (i : Nat) : (s.lateRecord b i).ras.nextSeq = s.ras.nextSeq + 1 :=
  putRecord_nextSeq s.freeByte.2 (show 0 ≠ 2 by decide)

/-- What a late page leaves: the event, the record, and the page's fault latched. -/
theorem readyLate_spec {b : Blk} {i : Nat} (hr : s.ready b i = false) : ∃ u,
    u = (if b = .cor then (s.raise .rcc 0 Ev.rccReadyLate).lateRecord b i
      else ((s.raise .rcc 0 Ev.rccReadyLate).lateRecord b i).latchFault b i true) ∧ u.ready b i = false ∧
    u.g .rcc 0 Off.event Ev.rccReadyLate Ev.rccReadyLate = 1 ∧ (b ≠ .cor → u.faulted b i = true) ∧
    u.ras.nextSeq = s.ras.nextSeq + 1 := by
  let v := (s.raise .rcc 0 Ev.rccReadyLate).lateRecord b i
  have hrst : v.rst = s.rst := ((lateRecord_ext ..).1 .rst (by simp)).trans ((raise_ext s .rcc 0 Ev.rccReadyLate).1 .rst (by simp))
  have hready : v.ready b i = false := (ready_congr (by rw [hrst]) (by rw [hrst]) (by rw [hrst]) (by rw [hrst])).trans hr
  have hevent : v.rd (pageBase .rcc 0 + Off.event) = putFld (s.rd (pageBase .rcc 0 + Off.event)) Ev.rccReadyLate Ev.rccReadyLate 1 := by
    rw [← s.rd_raise_same .rcc 0]
    exact rd_putRecord_below (s.raise .rcc 0 Ev.rccReadyLate).freeByte.2 (by decide)
  have hlate : v.g .rcc 0 Off.event Ev.rccReadyLate Ev.rccReadyLate = 1 := by rw [g, hevent, fld_putFld_same _ _ (by decide) (by decide)]; rfl
  have hseq : v.ras.nextSeq = s.ras.nextSeq + 1 := by
    rw [lateRecord_nextSeq, (raise_ext s .rcc 0 Ev.rccReadyLate).1 .ras (by simp)]
  refine ⟨_, rfl, ?_⟩
  by_cases hb : b = .cor
  · rw [if_pos hb]
    exact ⟨hready, hlate, fun h => absurd hb h, hseq⟩
  · rw [if_neg hb]
    exact ⟨Eq.trans (ready_congr rfl rfl rfl rfl) hready, hlate, fun _ => by simp [faulted, latchFault], hseq⟩

end State

/-! ### The commands -/

theorem exec_basinReady {s : State} {b : Nat} (h : s.mayBasin b = true) :
    exec (.basinReady b) s = .next (s.setBasinReady b true).headersDue := congrArg _ (if_pos h)

theorem exec_powerOnCoreTestDone {s : State} {b : Nat} {failed : List Nat} (hb : b < 4) (ht : s.rst.tested.toNat.testBit b = false)
    (hdev : s.ready .dev 0 = true) (hheld : s.rst.held = false) : exec (.powerOnCoreTestDone b failed) s = .next (s.postDone b failed) := by
  change execPowerOnCoreTestDone b failed s = _
  rw [execPowerOnCoreTestDone, if_pos ⟨hb, by simp [ht], hdev, by simp [hheld]⟩]

theorem exec_readyLate {s : State} {b : Blk} {i : Nat} (hi : i < pageCount b) (hr : s.ready b i = false) : exec (.readyLate b i) s = .next
    (if b = .cor then (s.raise .rcc 0 Ev.rccReadyLate).lateRecord b i
      else ((s.raise .rcc 0 Ev.rccReadyLate).lateRecord b i).latchFault b i true) := congrArg _ (if_pos ⟨hi, by simp [hr]⟩)

/-- Settles O14: each command's one operation, by what it leaves of READY, the retirement list and the events. -/
theorem readiness : Obligations.Readiness := by
  intro s
  refine ⟨fun b i hmay hm hc => ?page, fun b hmay hoff => ?basin, fun b failed hb htest hdev hheld => ?test, fun b i hi hr => ?late⟩
  case page => exact ⟨s.nowReady b i, congrArg _ (if_pos hmay), s.nowReady_spec hm hc (s.mayReady_lt hmay)⟩
  case basin => rw [exec_basinReady hmay, State.headersDue_off (s.setBasinReady b true) hoff]
  case test => exact ⟨s.postDone b failed, exec_powerOnCoreTestDone hb htest hdev hheld, s.postDone_spec hb failed⟩
  case late =>
    obtain ⟨u, hu, hready, hevent, hfault, hseq⟩ := s.readyLate_spec hr
    have hexec : exec (.readyLate b i) s = .next u := by rw [exec_readyLate hi hr, hu]
    exact ⟨u, hexec, hready, hevent, hfault, hseq, exec_same hexec⟩

end Sys2Proof.Machine
end

section
/-! SUPPORT. What the end of stream operations, launches and commands leaves alone of HLK_LINK, the reset state and the decoders. -/

namespace Sys2Proof.Machine

open State (linkAt)

namespace Kept

variable {r : Bool} {s t u : State}

/-! ### KV pages (chapter 13) -/

/-- A register of a page above HLK's. -/
theorem pAbove (h : Kept linkAt r s t) {b : Blk} {i off hi lo v : Nat} (hb : 0x11000 ≤ pageBase b i) :
    Kept linkAt r s (t.p b i off hi lo v) := by
  refine h.wr _ ?_
  have : linkAt < 0x11000 := by decide
  omega

theorem pCore (h : Kept linkAt r s t) {c off hi lo v : Nat} : Kept linkAt r s (t.p .cor c off hi lo v) :=
  h.pAbove (Nat.le_add_right_of_le (by decide))

theorem pKv (h : Kept linkAt r s t) {off hi lo v : Nat} : Kept linkAt r s (t.p .kvp 0 off hi lo v) := h.pAbove (by decide)

variable {a : Nat}

theorem setKvBit (h : Kept a r s t) {n i : Nat} {v : Bool} : Kept a r s (t.setKvBit n i v) := by
  unfold State.setKvBit
  split
  next heq => exact (h.vget.of heq).vput
  next => exact h

theorem setKvRef (h : Kept a r s t) {n i x : Nat} : Kept a r s (t.setKvRef n i x) := by
  unfold State.setKvRef
  dsimp only
  refine frame (foldl_all (P := Kept a r s) h.storePhys fun v k hv => ?_) (State.research_ext ..) rfl
  exact hv.frame (State.setSlice_ext ..) rfl

theorem kvDrop (h : Kept linkAt r s t) {n i : Nat} : Kept linkAt r s (t.kvDrop n i) :=
  ite ((pKv h.setKvRef.setKvBit).bump rfl) h.setKvRef

theorem copyPhys (h : Kept a r s t) {old new n : Nat} : Kept a r s (t.copyPhys old new n) := by
  have hf : Kept a r s (((t.countBytes old n false).countBytes new n true).forget new n) :=
    h.countBytes.countBytes.frame (State.forget_ext ..) rfl
  exact hf.of_fields rfl rfl rfl rfl rfl

theorem putKv (h : Kept a r s t) {x : KvRec} : Kept a r s (t.putKv x) := h.vput

theorem putEntry (h : Kept a r s t) {x : KvRec} {i v : Nat} : Kept a r s (t.putEntry x i v) := h.vput

theorem kvCopyEnd (h : Kept linkAt r s t) {seq old new idx : Nat} : Kept linkAt r s (t.kvCopyEnd seq old new idx) := by
  unfold State.kvCopyEnd
  split
  · exact h
  · exact ((putKv (kvDrop (putEntry h.copyPhys))).bump rfl).raise

theorem kvSettle (h : Kept linkAt r s t) {o : Op} : Kept linkAt r s (t.kvSettle o) := by
  unfold State.kvSettle
  split
  · exact h.kvCopyEnd
  · exact h

theorem kvReleaseFrom (h : Kept linkAt r s t) {x : KvRec} {i : Nat} : Kept linkAt r s (t.kvReleaseFrom x i) :=
  foldl_all h fun _ _ hv => by
    split
    · exact ite hv hv.kvDrop.putEntry
    · exact hv

theorem kvTruncate (h : Kept linkAt r s t) {x : KvRec} {len : Nat} : Kept linkAt r s (t.kvTruncate x len) := h.kvReleaseFrom.putKv

theorem kvRun (h : Kept linkAt r s t) {op seq seq2 len : Nat} :
    OAll (fun x => Kept linkAt r s x.2) (t.kvRun op seq seq2 len) := by
  unfold State.kvRun
  split
  · refine OAll.bind (OAll.triv _) fun x _ => ?_
    split
    · exact .some h
    · exact .ite (.none _) (.some (putKv (foldl_all h fun _ _ hv => hv.putEntry)))
  · refine OAll.bind (OAll.triv _) fun x _ => ?_
    split
    · exact .some h
    · refine .ite (.some h) (OAll.bind (OAll.triv _) fun y _ => ?_)
      refine .ite (.some h) (.ite (.some h) (.ite (.some h) (.ite (.none _) (.ite (.some h.raise) (.some ?_)))))
      dsimp only
      refine bump (putKv ?_) rfl
      exact foldl_all (foldl_all (foldl_all h fun _ _ hv => hv.setKvRef) fun _ _ hv => hv.putEntry) fun _ _ hv => hv.putEntry
  · refine OAll.bind (OAll.triv _) fun x _ => ?_
    split
    · exact .some h
    · exact .ite (.some h) (.ite (.none _) (.some h.kvTruncate))
  · refine OAll.bind (OAll.triv _) fun x _ => ?_
    split
    · exact .some h
    · exact .ite (.none _) (.some h.kvTruncate.putKv)
  · refine OAll.bind (OAll.triv _) fun x _ => ?_
    split
    · exact .some h
    · exact .some h.putKv
  · exact .none _

theorem kvTry (h : Kept linkAt r s t) : Kept linkAt r s t.kvTry := by
  unfold State.kvTry
  dsimp only
  split
  · exact h
  · split
    · exact h
    next heq =>
      have hrun := h.kvRun.of heq
      exact raise (pKv (pKv (ite hrun.raise hrun)))

theorem kvOpEnd (h : Kept linkAt r s t) {o : Op} {cause : Nat} : Kept linkAt r s (t.kvOpEnd o cause) := by
  refine ite h (kvTry (ite h.kvSettle (ite (h.kvSettle.bump rfl) (ite (h.kvSettle.bump rfl) ?_))))
  dsimp only
  split
  · exact (h.kvSettle.bump rfl).putKv
  · exact h.kvSettle.bump rfl

/-! ### The end of a stream operation (R249, R252) -/

theorem setCur (h : Kept linkAt r s t) {q c : Nat} : Kept linkAt r s (t.setCur q c) := by
  refine ite (h.wr _ ?_) h
  have : linkAt < pageBase .cor (q / 8) := Nat.lt_of_lt_of_le (by decide) (Nat.le_add_right ..)
  omega

theorem setLast (h : Kept linkAt r s t) {q cause tag : Nat} : Kept linkAt r s (t.setLast q cause tag) := ite h.pCore.pCore h

theorem sigWrite (h : Kept a r s t) {q : Nat} {o : Op} : Kept a r s (t.sigWrite q o).1 := by
  unfold State.sigWrite
  split
  · exact h
  · split
    next heq => exact h.vwrite.of_ok heq
    next => exact h

theorem ledgerOpEnd (h : Kept a r s t) {b : Nat} {o : Op} {cause : Nat} : Kept a r s (t.ledgerOpEnd b o cause) := by
  unfold State.ledgerOpEnd
  refine ite h ?_
  split
  · exact h
  · have hcounted {x : ARec} {n m : Nat} : Kept a r s ((((t.putRec b x).bump .act b 0x200 1).bump .act b (0x200 + 16) n).bump .act b
        (0x200 + 24) m) := ((h.putRec.bump rfl).bump rfl).bump rfl
    refine ite (ite h.freeRec (ite hcounted.freeRec hcounted)) (ite ?_ h)
    exact ite (ite (h.bump rfl) h).freeOrDue (ite (h.bump rfl) h)

theorem tailEffects (h : Kept linkAt r s t) {q cause : Nat} {o : Op} : Kept linkAt r s (t.tailEffects q o cause) := by
  unfold State.tailEffects
  extract_lets b v0 v1
  have h1 : Kept linkAt r s v1 := ite ((h.raise.bump rfl).bump rfl) (h.raise.bump rfl)
  split
  · extract_lets v2
    have h2 : Kept linkAt r s v2 := by
      unfold v2
      split
      · exact h1.frame (State.setLaunch_ext ..) rfl
      · exact h1
    exact ite h2.pCore h2
  · exact ite (h1.frame (State.orBasinWord_ext ..) rfl) h1

/-- Commands of a ring change. -/
theorem setRing (h : Kept a false s t) {n : Nat} {x : Ring} : Kept a false s (t.setRing n x) :=
  h.trans ⟨h.calm, rfl, rfl, fun e => (Bool.false_ne_true e).elim, rfl, rfl⟩

theorem finishCmd (h : Kept a false s t) {n uid status : Nat} {result : Word} : Kept a false s (t.finishCmd n uid status result) := h.setRing

theorem retireOp (h : Kept linkAt false s t) {q cause : Nat} {o : Op} : Kept linkAt false s (t.retireOp q o cause) := by
  unfold State.retireOp
  extract_lets v0 v1 v2 v3 v4 v5 v6 before
  have hlast : Kept linkAt false s v1 := (h.frame (State.setQueue_ext ..) rfl).setLast
  have h2 : Kept linkAt false s v2 := ite (hlast.bump rfl) hlast
  have h3 : Kept linkAt false s v3 := by
    unfold v3
    split
    · exact ite (h2.frame (State.putFlag_ext ..) rfl) h2
    · exact h2
  have h6 : Kept linkAt false s v6 := of_fields (kvOpEnd (ledgerOpEnd (ite h3.tailEffects h3))) rfl rfl rfl rfl rfl
  split
  · exact h6
  · exact ite (h6.frame (State.setQueue_ext ..) rfl).finishCmd (ite h6 h6.finishCmd)

theorem resetOp (h : Kept linkAt false s t) {q : Nat} {o : Op} : Kept linkAt false s (t.resetOp q o) := h.kvSettle.setCur.sigWrite.retireOp

theorem resetOps (h : Kept linkAt false s t) {q : Nat} {p : Op → Bool} : Kept linkAt false s (t.resetOps q p) :=
  foldl_all h fun _ _ hv => ite hv.resetOp hv

/-! ### The end of a launch or a command (R98, R130) -/

theorem clearLaunchOn (h : Kept linkAt false s t) {l c : Nat} {fill gather : Bool} {step : Word} :
    Kept linkAt false s (t.clearLaunchOn l c fill step gather) := by
  unfold State.clearLaunchOn
  extract_lets run v1 x keep red x1 x2 x3 v2 v3
  have h1 : Kept linkAt false s v1 :=
    foldl_all h fun _ _ hv => (hv.frame (State.stopChain_ext ..) rfl).frame (State.setShoal_ext ..) rfl
  have h3 : Kept linkAt false s v3 := foldl_all (h1.frame (State.setCore_ext ..) rfl) fun _ _ hv => hv.resetOps
  exact ite (h3.pCore.frame (State.orBasinWord_ext ..) rfl) h3

theorem launchEnd (h : Kept linkAt false s t) {l cause core detail : Nat} {noGather : Nat → Bool} :
    Kept linkAt false s (t.launchEnd l cause core detail noGather) := by
  unfold State.launchEnd
  split
  · exact h
  · extract_lets v1 st v2 v3
    have h1 : Kept linkAt false s v1 := foldl_all h fun _ _ hv => hv.clearLaunchOn
    exact frame (ite h1.finishCmd.raise h1.finishCmd) (State.setLaunch_ext ..) rfl

theorem abortRing (h : Kept linkAt false s t) {n cls : Nat} : Kept linkAt false s (t.abortRing n cls) := by
  refine foldl_all (setRing (h.frame (Ext.set_loads ..) rfl)) fun v c hv => ite (finishCmd (foldl_all ?_ fun _ _ hw => hw.resetOps)) hv
  split
  · exact hv.launchEnd
  · exact hv

theorem hostWrite (h : Kept a r s t) {x : Nat} {bs : Bytes} : OAll (Kept a r s) (t.hostWrite x bs) :=
  .ite (.some h.storePhys) (.none _)

theorem ringStop (h : Kept a false s t) {n e : Nat} : Kept a false s (t.ringStop n e) := h.setRing.raise

theorem fenceDone (h : Kept a false s t) {n : Nat} : Kept a false s (t.fenceDone n) := by
  unfold State.fenceDone
  split
  · exact ite h.finishCmd h
  · exact h

theorem complete (h : Kept a false s t) {n : Nat} {c : Cmd} {st : BitVec 16} {res : Word} : Kept a false s (t.complete n c st res) := by
  unfold State.complete
  refine ite h.setRing.fenceDone ?_
  split
  · exact fenceDone (ite h.setRing h.setRing.ringStop)
  next heq =>
    have hwritten := h.setRing.hostWrite.of heq
    exact fenceDone (ite hwritten.setRing.msix hwritten.setRing)

theorem completeAll (h : Kept a false s t) {n : Nat} : Kept a false s (t.completeAll n) :=
  foldl_all h fun _ _ hv => by
    split
    · exact hv.complete
    · exact hv
    · exact hv

theorem abortRings (h : Kept linkAt false s t) {cls : Nat} : Kept linkAt false s (t.abortRings cls) :=
  foldl_all h fun _ _ hv => hv.abortRing.completeAll

/-! ### Links of the fabric (R321, R336) -/

theorem out (h : Kept a r s t) {m : List OutMsg} : Kept a r s (t.out m) := h.of_fields rfl rfl rfl rfl rfl

theorem emit (h : Kept a r s t) {l : Nat} {k : Pkt} : Kept a r s (t.emit l k) := (h.bump rfl).out

theorem routeEntry (h : Kept a r s t) {dst : Nat} : OAll (fun x => Kept a r s x.2) (t.routeEntry dst) := by
  unfold State.routeEntry
  split
  · exact .some h
  · split
    next heq => exact .some ((h.vget.of heq).of_fields rfl rfl rfl rfl rfl)
    next => exact .none _

theorem route (h : Kept a r s t) {dst : Nat} {vc0 : Bool} {x : Option Nat} : Kept a r s (t.route dst vc0 x).2 := by
  unfold State.route
  dsimp only
  split
  · split
    · exact h
    · exact h
  · split
    · exact h
    next heq =>
      have hentry := h.routeEntry.of heq
      split
      · exact hentry
      · split
        · exact hentry.of_fields rfl rfl rfl rfl rfl
        · split
          · exact hentry
          · exact hentry

theorem resend (h : Kept a r s t) {x : Txn} {within : Bool} : OAll (Kept a r s) (t.resend x within) := by
  unfold State.resend
  refine .ite (.none _) ?_
  split
  next heq =>
    have hroute : Kept a r s _ := h.route (dst := x.k.dst.toNat) (vc0 := false) (x := some x.l)
    rw [heq] at hroute
    refine .some (emit (bump ?_ rfl))
    exact hroute.of_fields rfl rfl rfl rfl rfl
  next => exact .none _

theorem linkLost (h : Kept a r s t) {l : Nat} : Kept a r s (t.linkLost l) :=
  foldl_all h fun _ _ hv => by
    split
    next heq => exact hv.resend.of heq
    next => exact hv

theorem dropTxn (h : Kept a r s t) {x : Txn} : Kept a r s (t.dropTxn x) := h.of_fields rfl rfl rfl rfl rfl

theorem portReset (h : Kept linkAt false s t) {n : Nat} : Kept linkAt false s (t.portReset n) := by
  refine foldl_all (h.of_fields rfl rfl rfl rfl rfl) fun v l hv => foldl_all (linkLost (hv.frame (State.setLink_ext ..) rfl)) fun w x hw => ?_
  split
  · split
    · exact hw.resetOp.dropTxn
    · exact hw.dropTxn
  · exact hw

end Kept

end Sys2Proof.Machine
end

section
/-! SUPPORT. Statement O11: the loss and the return of the root reference, the logic PLL and the PHY PLLs (R30). -/

namespace Sys2Proof.Machine

namespace State

variable (s : State)

/-! ### A clock of the die (R30) -/

/-- The die is held in reset, with no request left. -/
def stopped : State := { s with rst := { s.rst with held := true, reqs := [] } }

theorem clockLost_eq : s.clockLost = s.dieClear.stopped := rfl

theorem stopped_fields : s.stopped.rst.held = true ∧ s.stopped.rst.reqs = [] ∧ s.stopped.clock = s.clock := ⟨rfl, rfl, rfl⟩

theorem stopped_lossKept : LossKept s s.stopped := (LossKept.refl s).set_rst

/-- A lost clock holds the die in reset, and the die loses its state. -/
theorem clockLost_spec : s.clockLost.rst.held = true ∧ s.clockLost.rst.reqs = [] ∧ DieLost s.clockLost ∧ s.clockLost.clock = s.clock := by
  have hclock : s.dieClear.clock = s.clock := s.dieClear_ext.1 .clock (by simp)
  have hlost := s.dieClear.stopped_lossKept.dieLost s.dieClear_dieLost
  obtain ⟨hheld, hreqs, hsame⟩ := s.dieClear.stopped_fields
  rw [clockLost_eq]
  exact ⟨hheld, hreqs, hlost, hsame.trans hclock⟩

/-- A clock is back: with the others running and the die held, the Cold reset of source 0x03 stands asserted. -/
theorem clockBack_eq (hroot : s.clock.rootOk = true) (hlogic : s.clock.logicLock = true) (hrails : s.power.rails = true)
    (hheld : s.rst.held = true) : s.clockBack = s.coldAsserted 0x03 := by
  rw [clockBack, clocked, hroot, hlogic, hrails, hheld]
  rfl

/-! ### Block resets of a block's pages, one after the other (R30) -/

@[simp] theorem setReady_held (b : Blk) (i : Nat) (v : Bool) : (s.setReady b i v).rst.held = s.rst.held := by cases b <;> rfl

@[simp] theorem setReady_reqs (b : Blk) (i : Nat) (v : Bool) : (s.setReady b i v).rst.reqs = s.rst.reqs := by cases b <;> rfl

theorem coveredPage_congr {s u : State} {b : Blk} {i : Nat} (hheld : u.rst.held = s.rst.held) (hreqs : u.rst.reqs = s.rst.reqs) :
    u.coveredPage b i = s.coveredPage b i := by rw [coveredPage, hheld, hreqs, coveredPage]

/-- From s to u, page i of a block took a Block reset, and no other page of the block and no other reset changed. -/
structure PageHeld (s u : State) (b : Blk) (i : Nat) : Prop where
  page : BlkHeld u b i
  held : u.rst.held = s.rst.held
  reqs : u.rst.reqs = s.rst.reqs
  ready : ∀ j, j ≠ i → j < pageCount b → u.ready b j = s.ready b j
  blk : ∀ j, j ≠ i → j < pageCount b → tget u.rst.blk noBlk (pageBase b j) = tget s.rst.blk noBlk (pageBase b j)

theorem pageBase_inj {b c : Blk} {i j : Nat} (hi : i < pageCount b) (hj : j < pageCount c) (h : pageBase c j = pageBase b i) :
    (c, j) = (b, i) := by
  have hpage : pageAt (pageBase c j) = some (c, j) := pageAt_regAt (off := 0) hj (by decide)
  rw [h, show pageBase b i = regAt b i 0 from rfl, pageAt_regAt hi (by decide)] at hpage
  exact (Option.some.inj hpage).symm

/-- The columns of one page leave the other pages' Block resets alone. -/
theorem pageColumn_blk {b c : Blk} {i j : Nat} (hj : j < pageCount c) (hne : (c, j) ≠ (b, i)) :
    tget (s.pageColumn b i).rst.blk noBlk (pageBase c j) = tget s.rst.blk noBlk (pageBase c j) := by
  have hout : onPage (fun k l => k = b && l = i) (pageBase c j) = false := by
    have hpage : pageAt (pageBase c j) = some (c, j) := pageAt_regAt (off := 0) hj (by decide)
    rw [onPage, hpage]
    simpa using hne
  change tget (tdrop s.rst.blk _) _ _ = _
  rw [tget_tdrop, hout]
  rfl

theorem holdPage_blk {b c : Blk} {i j : Nat} (hi : i < pageCount b) (hj : j < pageCount c) (hne : (c, j) ≠ (b, i)) :
    tget (s.holdPage b i).rst.blk noBlk (pageBase c j) = tget s.rst.blk noBlk (pageBase c j) := by
  change tget (tset (s.setReady b i false).rst.blk _ _ _) _ _ = _
  rw [tget_tset_other _ _ _ _ fun e => hne (pageBase_inj hi hj e), setReady_blk]

theorem holdPage_ready {b c : Blk} {i j : Nat} (hb : b ≠ .cor) (hi : i < pageCount b) (hj : j < pageCount c) (hne : (c, j) ≠ (b, i)) :
    (s.holdPage b i).ready c j = s.ready c j := Eq.trans (ready_congr rfl rfl rfl rfl) (s.ready_setReady_other hb hi hj hne false)

/-- The columns of a page leave READY and the requests alone. -/
theorem pageColumn_rst (b : Blk) (i : Nat) : (s.pageColumn b i).rst.ready0 = s.rst.ready0 ∧
    (s.pageColumn b i).rst.ready1 = s.rst.ready1 ∧ (s.pageColumn b i).rst.ready2 = s.rst.ready2 ∧
    (s.pageColumn b i).rst.coreDown = s.rst.coreDown ∧ (s.pageColumn b i).rst.held = s.rst.held ∧
    (s.pageColumn b i).rst.reqs = s.rst.reqs := ⟨rfl, rfl, rfl, rfl, rfl, rfl⟩

/-- A Block reset of one page, where the page's own work leaves the reset state alone. -/
theorem blockStart_pageHeld {b : Blk} {i : Nat} (hb : b ∉ ownPages) (hh : b ≠ .hlk) (hr : b ≠ .red) (hc : b ≠ .cor) (hi : i < pageCount b)
    (hwork : ∀ t : State, (t.blockWork b i).rst = t.rst) : PageHeld s (s.blockStart b i) b i := by
  have hstart := s.blockStart_eq hb hh hr i
  have hpage := s.blockStart_held hb hi
  rw [hstart] at hpage ⊢
  let t := ((s.setReady b i false).blockWork b i).pageColumn b i
  have hrst := hwork (s.setReady b i false)
  obtain ⟨h0, h1, h2, hdown, hheld, hreqs⟩ := pageColumn_rst ((s.setReady b i false).blockWork b i) b i
  rw [hrst] at h0 h1 h2 hdown hheld hreqs
  rw [setReady_held] at hheld
  rw [setReady_reqs] at hreqs
  refine ⟨hpage, (setReady_held t b i false).trans hheld, (setReady_reqs t b i false).trans hreqs, fun j hj hlt => ?_, fun j hj hlt => ?_⟩
  · have hne : (b, j) ≠ (b, i) := fun e => hj (Prod.mk.inj e).2
    calc (t.holdPage b i).ready b j = t.ready b j := t.holdPage_ready hc hi hlt hne
      _ = (s.setReady b i false).ready b j := ready_congr h0 h1 h2 hdown
      _ = s.ready b j := ready_setReady_other s hc hi hlt hne false
  · have hne : (b, j) ≠ (b, i) := fun e => hj (Prod.mk.inj e).2
    have hwblk : ((s.setReady b i false).blockWork b i).rst.blk = s.rst.blk := by rw [hwork, setReady_blk]
    rw [holdPage_blk _ hi hlt hne, pageColumn_blk _ hlt hne, hwblk]

/-! ### The loss of a PHY PLL (R30) -/

/-- A page whose PHY PLL lost its lock. -/
def phyDown (b : Blk) (i : Nat) : State := { s with rst := { s.rst with phyLost := tset s.rst.phyLost false (pageBase b i) true } }

/-- A page takes the Block reset that follows the loss of its PHY PLL at once, unless the journal defers it. -/
theorem phyReset_eq {b : Blk} {i : Nat} (hb : b ∉ ownPages) (hi : i < pageCount b) (hfree : BlkFree s b i)
    (hidle : deferrable b = false ∨ s.phase = 0) : s.phyReset b i = (s.phyDown b i).blockStart b i := by
  have hnow : ¬(deferrable b && (s.phyDown b i).phase ≠ 0) = true := by
    rcases hidle with h | h
    · simp [h]
    · have : (s.phyDown b i).phase = 0 := h
      simp [this]
  exact ((s.phyDown b i).blockRequest_free hb hi hfree).trans (if_neg hnow)

theorem phyReset_pageHeld {b : Blk} {i : Nat} (hb : b ∉ ownPages) (hh : b ≠ .hlk) (hr : b ≠ .red) (hc : b ≠ .cor) (hi : i < pageCount b)
    (hwork : ∀ t : State, (t.blockWork b i).rst = t.rst) (hfree : BlkFree s b i) (hidle : deferrable b = false ∨ s.phase = 0) :
    PageHeld s (s.phyReset b i) b i := by
  rw [s.phyReset_eq hb hi hfree hidle]
  obtain ⟨hpage, hheld, hreqs, hready, hblk⟩ := (s.phyDown b i).blockStart_pageHeld hb hh hr hc hi hwork
  exact ⟨hpage, hheld, hreqs, fun j hj hlt => (hready j hj hlt).trans (ready_congr rfl rfl rfl rfl), hblk⟩

/-- Pages of a block that take Block resets in turn are all held in the end, and the others are as they were. -/
theorem foldl_pageHeld {b : Blk} {f : State → Nat → State} {P : State → Prop}
    (hstep : ∀ t i, P t → i < pageCount b → BlkFree t b i → PageHeld t (f t i) b i ∧ P (f t i)) {l : List Nat} (hl : l.Nodup)
    (hin : ∀ i ∈ l, i < pageCount b) (hP : P s) (hfree : ∀ i ∈ l, BlkFree s b i) {j : Nat} (hj : j < pageCount b) :
    (j ∈ l → BlkHeld (l.foldl f s) b j) ∧ (j ∉ l → (l.foldl f s).ready b j = s.ready b j ∧
      tget (l.foldl f s).rst.blk noBlk (pageBase b j) = tget s.rst.blk noBlk (pageBase b j)) := by
  induction l generalizing s with
  | nil => exact ⟨fun h => (List.not_mem_nil h).elim, fun _ => ⟨rfl, rfl⟩⟩
  | cons i l ih =>
    obtain ⟨hi, hl⟩ := List.nodup_cons.1 hl
    obtain ⟨⟨hpage, hheld, hreqs, hready, hblk⟩, hPf⟩ := hstep s i hP (hin i (by simp)) (hfree i (by simp))
    have hne : ∀ k ∈ l, k ≠ i := fun k hk e => hi (e ▸ hk)
    have hrest := ih (f s i) hl (fun k hk => hin k (by simp [hk])) hPf fun k hk => by
      obtain ⟨hcov, hnone⟩ := hfree k (by simp [hk])
      exact ⟨(coveredPage_congr hheld hreqs).trans hcov, (hblk k (hne k hk) (hin k (by simp [hk]))).trans hnone⟩
    rw [List.foldl_cons]
    refine ⟨fun hmem => ?_, fun hout => ?_⟩
    · by_cases hjl : j ∈ l
      · exact hrest.1 hjl
      · obtain rfl : j = i := (List.mem_cons.1 hmem).resolve_right hjl
        obtain ⟨hr, hk⟩ := hrest.2 hjl
        exact ⟨hr.trans hpage.1, hk.trans hpage.2⟩
    · obtain ⟨hji, hjl⟩ := not_or.1 fun h => hout (List.mem_cons.2 h)
      obtain ⟨hr, hk⟩ := hrest.2 hjl
      exact ⟨hr.trans (hready j hji hj), hk.trans (hblk j hji hj)⟩

/-- A Block reset of a DIMM channel leaves the journal's phase alone. -/
theorem blockStart_mem_phase (i : Nat) : (s.blockStart .mem i).phase = s.phase := by
  have hother : ((s.setReady .mem i false).columns true fun k j => k = .mem && j = i).rd (regAt .rcc 0 Off.rccBkp3) =
      s.rd (regAt .rcc 0 Off.rccBkp3) := rd_columns_other (s.setReady .mem i false) (by decide) (by decide) (by simp)
  exact congrArg (fld · 3 0) hother

/-- Every channel of the DIMM memory is held after its PHY PLL's loss (R30, R215). -/
theorem mem_phyReset_held (hfree : ∀ c, c < 24 → BlkFree s .mem c) (hphase : s.phase = 0) {c : Nat} (hc : c < 24) :
    BlkHeld ((List.range 24).foldl (fun s c => s.phyReset .mem c) s) .mem c := by
  have hstep : ∀ t i, t.phase = 0 → i < pageCount .mem → BlkFree t .mem i →
      PageHeld t (t.phyReset .mem i) .mem i ∧ (t.phyReset .mem i).phase = 0 := fun t i ht hi hf =>
    ⟨t.phyReset_pageHeld (by decide) (by decide) (by decide) (by decide) hi (fun _ => rfl) hf (.inr ht), by
      rw [t.phyReset_eq (by decide) hi hf (.inr ht), blockStart_mem_phase]
      exact ht⟩
  exact (s.foldl_pageHeld (P := fun t => t.phase = 0) hstep List.nodup_range (fun i hi => List.mem_range.1 hi) hphase
    (fun i hi => hfree i (List.mem_range.1 hi)) hc).1 (List.mem_range.2 hc)

/-- Every port of the fabric is held after its PHY PLL's loss (R30). -/
theorem fab_phyReset_held (hfree : ∀ n, n < 48 → BlkFree s .fab n) {n : Nat} (hn : n < 48) :
    BlkHeld ((List.range 48).foldl (fun s n => s.phyReset .fab n) s) .fab n := by
  have hwork (t : State) (i : Nat) : (t.blockWork .fab i).rst = t.rst := (Kept.refl (r := false) linkAt_calm t).portReset.rst
  have hstep : ∀ t i, True → i < pageCount .fab → BlkFree t .fab i → PageHeld t (t.phyReset .fab i) .fab i ∧ True := fun t i _ hi hf =>
    ⟨t.phyReset_pageHeld (by decide) (by decide) (by decide) (by decide) hi (hwork · i) hf (.inl rfl), trivial⟩
  exact (s.foldl_pageHeld (P := fun _ => True) hstep List.nodup_range (fun i hi => List.mem_range.1 hi) trivial
    (fun i hi => hfree i (List.mem_range.1 hi)) hn).1 (List.mem_range.2 hn)

theorem phyReset_clock (b : Blk) (i : Nat) : (s.phyReset b i).clock = s.clock := (s.phyReset_ext b i).1 .clock (by simp)

theorem foldl_phyReset_clock (b : Blk) (l : List Nat) : (l.foldl (fun s i => s.phyReset b i) s).clock = s.clock :=
  foldl_all (P := fun t : State => t.clock = s.clock) rfl fun t i h => (t.phyReset_clock b i).trans h

end State

/-! ### The commands -/

/-- The state with other clocks. -/
def State.withClock (s : State) (c : Clock) : State := { s with clock := c }

section

variable {s : State}

theorem exec_logicPllLockLost (hrails : s.power.rails = true) (hlock : s.clock.logicLock = true) : exec .logicPllLockLost s =
    .next (s.withClock { s.clock with logicLock := false }).clockLost := congrArg _ (if_pos ⟨hrails, hlock⟩)

theorem exec_rootRefStop (hstandby : s.power.standby = true) (hroot : s.clock.rootOk = true) : exec .rootRefStop s =
    .next (if s.power.rails then (s.withClock { s.clock with rootOk := false, degraded := true }).clockLost
      else s.withClock { s.clock with rootOk := false, degraded := true }) := congrArg _ (if_pos ⟨hstandby, hroot⟩)

theorem exec_ddrPhyPllLockLost (hrails : s.power.rails = true) (hheld : s.rst.held = false) (hlock : s.clock.ddrLock = true) :
    exec .ddrPhyPllLockLost s = .next ((List.range 24).foldl (fun s c => s.phyReset .mem c)
      (s.withClock { s.clock with ddrLock := false })) := by
  change execDdrPhyPllLockLost s = _
  rw [execDdrPhyPllLockLost, if_pos ⟨hrails, hlock, by simp [hheld]⟩]
  rfl

theorem exec_phyPllLockLost_host (hrails : s.power.rails = true) (hheld : s.rst.held = false) (hlock : s.clock.hostLock = true) :
    exec (.phyPllLockLost true) s = .next ((s.withClock { s.clock with hostLock := false }).phyReset .hlk 0) := by
  change execPhyPllLockLost true s = _
  rw [execPhyPllLockLost, if_neg (by simp [hrails, hheld]), if_pos rfl, if_pos hlock]
  rfl

theorem exec_phyPllLockLost_fab (hrails : s.power.rails = true) (hheld : s.rst.held = false) (hlock : s.clock.colsarLock = true) :
    exec (.phyPllLockLost false) s = .next ((List.range 48).foldl (fun s n => s.phyReset .fab n)
      (s.withClock { s.clock with colsarLock := false })) := by
  change execPhyPllLockLost false s = _
  rw [execPhyPllLockLost, if_neg (by simp [hrails, hheld]), if_neg (by decide), if_pos hlock]
  rfl

end

/-- Settles O11: a lost clock of the die clears it, and a PHY PLL's loss resets the pages of its PHY one by one. -/
theorem clockLossAndReturn : Obligations.ClockLossAndReturn := by
  intro s
  refine ⟨fun hrails hlock => ?logicLost, fun hstandby hroot => ?rootLost, fun hrails hheld hroot => ?logicBack,
    fun hrails hheld hlogic => ?rootBack, fun hrails hheld hlock hfree hphase => ?ddr, fun hrails hheld hlock hfree => ?host,
    fun hrails hheld hlock hfree => ?fab⟩
  case logicLost =>
    have hexec := exec_logicPllLockLost hrails hlock
    obtain ⟨hheld, hreqs, hlost, hclock⟩ := (s.withClock { s.clock with logicLock := false }).clockLost_spec
    exact ⟨_, hexec, hclock, hheld, hreqs, hlost, exec_same hexec⟩
  case rootLost =>
    have hexec := exec_rootRefStop hstandby hroot
    obtain ⟨hheld, hreqs, hlost, hclock⟩ := (s.withClock { s.clock with rootOk := false, degraded := true }).clockLost_spec
    refine ⟨_, hexec, ?_, fun hrails => ?_, exec_same hexec⟩
    · split
      · exact hclock
      · rfl
    · rw [if_pos hrails]
      exact ⟨hheld, hreqs, hlost⟩
  case logicBack => exact congrArg _ (State.clockBack_eq (s.withClock { s.clock with logicLock := true }) hroot rfl hrails hheld)
  case rootBack => exact congrArg _ (State.clockBack_eq (s.withClock { s.clock with rootOk := true }) rfl hlogic hrails hheld)
  case ddr =>
    let t := s.withClock { s.clock with ddrLock := false }
    exact ⟨_, exec_ddrPhyPllLockLost hrails hheld hlock, t.foldl_phyReset_clock .mem (List.range 24),
      fun c hc => t.mem_phyReset_held hfree hphase hc⟩
  case host =>
    let t := s.withClock { s.clock with hostLock := false }
    have hstart : t.phyReset .hlk 0 = (t.phyDown .hlk 0).blockStart .hlk 0 := t.phyReset_eq (by decide) (by decide) hfree (.inl rfl)
    have hpage : BlkHeld (t.phyReset .hlk 0) .hlk 0 := by
      rw [hstart]
      exact State.blockStart_held _ (by decide) (by decide)
    exact ⟨_, exec_phyPllLockLost_host hrails hheld hlock, t.phyReset_clock .hlk 0, hpage⟩
  case fab =>
    let t := s.withClock { s.clock with colsarLock := false }
    exact ⟨_, exec_phyPllLockLost_fab hrails hheld hlock, t.foldl_phyReset_clock .fab (List.range 48),
      fun n hn => t.fab_phyReset_held hfree hn⟩

end Sys2Proof.Machine
end

section
/-! SUPPORT. Statement O21, training: the mode that both sides accept (R66, R80), and the link that trains (R81, R89). -/

namespace Sys2Proof.Machine

namespace State

variable (s : State)

/-! ### Negotiation (R66) -/

/-- Interface 4's codes rise, and fit in a byte. -/
theorem mine_hostLink_sorted : (s.mine 4).Pairwise (· < ·) :=
  List.Pairwise.filter _ (show (ifCodes 4).Pairwise (· < ·) by decide)

theorem mine_hostLink_lt {m : Nat} (h : m ∈ s.mine 4) : m < 256 :=
  (show ∀ c ∈ ifCodes 4, c < 256 by decide) m (List.mem_filter.1 h).1

/-- The largest element of a list that rises is its last. -/
theorem reverse_eq_cons_of_max {l : List Nat} (hl : l.Pairwise (· < ·)) {m : Nat} (hm : m ∈ l) (hmax : ∀ c ∈ l, c ≤ m) :
    ∃ t, l.reverse = m :: t := by
  cases h : l.reverse with
  | nil => simp_all
  | cons v t =>
    have hv : v ∈ l := List.mem_reverse.1 (h ▸ List.mem_cons_self ..)
    have hsorted : (v :: t).Pairwise (· > ·) := h ▸ List.pairwise_reverse.2 hl
    have hmv : m ∈ v :: t := h ▸ List.mem_reverse.2 hm
    rcases List.mem_cons.1 hmv with rfl | hmt
    · exact ⟨t, rfl⟩
    · have := (List.pairwise_cons.1 hsorted).1 m hmt
      have := hmax v hv
      omega

/-- Interface n opens with the highest code that both sides accept. -/
theorem negotiate_chosen {n m : Nat} {their : Nat → Bool} (hs : (s.mine n).Pairwise (· < ·)) (hm : m ∈ s.mine n) (ht : their m = true)
    (hmax : ∀ c ∈ s.mine n, their c = true → c ≤ m) : s.negotiate n their =
      ((s.p .dev 0 (Off.devIf + 8 * n) 31 24 m).p .dev 0 (Off.devIf + 8 * n) 16 16 0, some m) := by
  obtain ⟨t, h⟩ := reverse_eq_cons_of_max (hs.filter their) (List.mem_filter.2 ⟨hm, ht⟩) fun c hc =>
    hmax c (List.mem_filter.1 hc).1 (List.mem_filter.1 hc).2
  rw [negotiate, h]

/-- With no code in common the interface does not open. -/
theorem negotiate_none {n : Nat} {their : Nat → Bool} (h : ∀ c ∈ s.mine n, ¬their c = true) : s.negotiate n their =
    ((s.p .dev 0 (Off.devIf + 8 * n) 16 16 1).raise .dev 0 Ev.devNegotiateFail, none) := by
  rw [negotiate, List.filter_eq_nil_iff.2 h]
  rfl

/-! ### The link as training leaves it (R81, R89) -/

/-- HLK_LINK of a link that is up. -/
def upWord (mode width speed lit : Nat) : Word :=
  BitVec.ofNat 64 (mode % 256 * 2 ^ 56 + width % 256 * 2 ^ 48 + speed % 256 * 2 ^ 40 + lit % 2 ^ 16 * 2 ^ 24 + 2)

theorem upWord_fields (mode width speed lit : Nat) : fld (upWord mode width speed lit) 2 0 = 2 ∧
    fld (upWord mode width speed lit) 63 56 = mode % 256 ∧ fld (upWord mode width speed lit) 55 48 = width % 256 ∧
    fld (upWord mode width speed lit) 47 40 = speed % 256 ∧ fld (upWord mode width speed lit) 39 24 = lit % 2 ^ 16 := by
  simp only [fld, nfld, upWord, BitVec.toNat_ofNat]
  omega

/-- The host link's EVENT register. -/
abbrev hlkEvent : Nat := regAt .hlk 0 Off.event

/-- A bit of EVENT after a page raises another one. -/
theorem fld_event_raise {b : Blk} {i n m : Nat} (hn : n < 64) (hne : m ≠ n) :
    fld ((s.raise b i n).rd (pageBase b i + Off.event)) m m = fld (s.rd (pageBase b i + Off.event)) m m := by
  rw [rd_raise_same]
  rcases Nat.lt_or_gt_of_ne hne with hlt | hgt
  · exact fld_putFld_below _ _ (Nat.le_refl n) hn hlt (Nat.le_refl m)
  · exact fld_putFld_above _ _ (Nat.le_refl n) hn hgt

theorem fld_event_raise_same {b : Blk} {i n : Nat} (hn : n < 64) : fld ((s.raise b i n).rd (pageBase b i + Off.event)) n n = 1 := by
  rw [rd_raise_same, fld_putFld_same _ _ (Nat.le_refl n) hn, Nat.add_sub_cancel_left]
  rfl

/-- What the link's training leaves: HLK_LINK, its events, and every other register as it was. -/
theorem hostTrained_spec (mode width speed lit : Nat) : ∃ u, u = s.hostTrained mode width speed lit ∧
    u.rd linkAt = upWord mode width speed lit ∧ (∀ a, a ≠ linkAt → a ≠ hlkEvent → u.rd a = s.rd a) ∧
    (s.hostState ≠ 3 → u.g .hlk 0 Off.event Ev.hlkLinkUp Ev.hlkLinkUp = 1) ∧
    (width < 16 → u.g .hlk 0 Off.event Ev.hlkWidthDegraded Ev.hlkWidthDegraded = 1) := by
  let t := s.wr linkAt (upWord mode width speed lit)
  let v := if s.hostState = 3 then t else t.raise .hlk 0 Ev.hlkLinkUp
  have hv (a : Nat) (ha : a ≠ hlkEvent) : v.rd a = t.rd a := by
    unfold v
    split
    · rfl
    · exact rd_raise _ _ _ _ _ ha
  have hup (h : s.hostState ≠ 3) : fld (v.rd hlkEvent) Ev.hlkLinkUp Ev.hlkLinkUp = 1 := by
    unfold v
    rw [if_neg h]
    exact fld_event_raise_same _ (by decide)
  refine ⟨if width < 16 then v.raise .hlk 0 Ev.hlkWidthDegraded else v, rfl, ?_⟩
  have hlink : v.rd linkAt = upWord mode width speed lit := (hv linkAt (by decide)).trans (rd_wr_same ..)
  have hother (a : Nat) (ha : a ≠ linkAt) (he : a ≠ hlkEvent) : v.rd a = s.rd a := (hv a he).trans (rd_wr_other _ _ ha)
  split
  · refine ⟨(rd_raise _ _ _ _ _ (by decide)).trans hlink, fun a ha he => (rd_raise _ _ _ _ _ he).trans (hother a ha he),
      fun h => (fld_event_raise _ (by decide) (by decide)).trans (hup h), fun _ => fld_event_raise_same _ (by decide)⟩
  next hw => exact ⟨hlink, hother, hup, fun h => absurd h hw⟩

theorem hostTrained_link {u : State} {mode width speed lit : Nat} (h : u.rd linkAt = upWord mode width speed lit) :
    u.hostState = 2 ∧ u.hostMode = mode % 256 ∧ u.g .hlk 0 Off.hlkLink 55 48 = width % 256 ∧
      u.g .hlk 0 Off.hlkLink 47 40 = speed % 256 ∧ u.g .hlk 0 Off.hlkLink 39 24 = lit % 2 ^ 16 := by
  obtain ⟨hst, hmode, hwidth, hspeed, hlit⟩ := upWord_fields mode width speed lit
  rw [← h] at hst hmode hwidth hspeed hlit
  exact ⟨hst, hmode, hwidth, hspeed, hlit⟩

end State

/-! ### Training (R66, R80, R81) -/

section

variable {s : State} {offer : List (BitVec 8)} {width speed : BitVec 8} {lit : BitVec 16}

theorem exec_hostLinkTrained (hmay : s.hostMayTrain = true) (hfits : widthFits lit.toNat width.toNat = true) (hlow : 1 ≤ speed.toNat)
    (hhigh : speed.toNat ≤ 5) : exec (.hostLinkTrained offer width speed lit) s =
      .next (s.hostTrain offer width.toNat speed.toNat lit.toNat) := congrArg _ (if_pos (by simp [hmay, hfits, hlow, hhigh]))

/-- A first training that agrees on a mode. -/
theorem hostTrain_chosen {m : Nat} (hst : s.hostState ≠ 3) (hm : Chosen s 4 (fun c => BitVec.ofNat 8 c ∈ offer) m) :
    ∃ u, u = s.hostTrain offer width.toNat speed.toNat lit.toNat ∧
      u.hostState = 2 ∧ u.hostMode = m ∧ u.g .hlk 0 Off.hlkLink 55 48 = width.toNat ∧ u.g .hlk 0 Off.hlkLink 47 40 = speed.toNat ∧
      u.g .hlk 0 Off.hlkLink 39 24 = lit.toNat ∧ u.g .dev 0 (Off.devIf + 32) 31 24 = m ∧ u.g .dev 0 (Off.devIf + 32) 16 16 = 0 ∧
      u.g .hlk 0 Off.event Ev.hlkLinkUp Ev.hlkLinkUp = 1 ∧
      (width.toNat < 16 → u.g .hlk 0 Off.event Ev.hlkWidthDegraded Ev.hlkWidthDegraded = 1) := by
  obtain ⟨hmine, hoffer, hmax⟩ := hm
  have hlt := s.mine_hostLink_lt hmine
  have hneg := s.negotiate_chosen (their := fun c => offer.contains (BitVec.ofNat 8 c)) s.mine_hostLink_sorted hmine (by simpa using hoffer)
    fun c hc ho => hmax c hc (by simpa using ho)
  let t := (s.p .dev 0 (Off.devIf + 8 * 4) 31 24 m).p .dev 0 (Off.devIf + 8 * 4) 16 16 0
  have htrain : s.hostTrain offer width.toNat speed.toNat lit.toNat = t.hostTrained m width.toNat speed.toNat lit.toNat := by
    rw [State.hostTrain, if_neg hst, hneg]
  have hrdIf : t.rd (regAt .dev 0 (Off.devIf + 32)) = putFld (putFld (s.rd (regAt .dev 0 (Off.devIf + 32))) 31 24 m) 16 16 0 := by
    simp [t, State.rd_p]
  have hrdLink : t.rd State.linkAt = s.rd State.linkAt := by
    simp only [t, State.rd_p]
    rw [if_neg (by decide), if_neg (by decide)]
  have hstt : t.hostState ≠ 3 := by
    rw [State.hostState, State.g, hrdLink]
    exact hst
  obtain ⟨u, hu, hlink, hother, hup, hdegraded⟩ := t.hostTrained_spec m width.toNat speed.toNat lit.toNat
  obtain ⟨hstate, hmode, hwidth, hspeed, hlit⟩ := State.hostTrained_link hlink
  have hIf : u.rd (regAt .dev 0 (Off.devIf + 32)) = t.rd (regAt .dev 0 (Off.devIf + 32)) := hother _ (by decide) (by decide)
  have hm24 : u.g .dev 0 (Off.devIf + 32) 31 24 = m := by
    rw [State.g, hIf, hrdIf, fld_putFld_above _ _ (by decide) (by decide) (by decide), fld_putFld_same]
    omega
  have hf16 : u.g .dev 0 (Off.devIf + 32) 16 16 = 0 := by
    rw [State.g, hIf, hrdIf, fld_putFld_same]
    rfl
  exact ⟨u, hu.trans htrain.symm, hstate, by omega, by have := width.isLt; omega, by have := speed.isLt; omega,
    by have := lit.isLt; omega, hm24, hf16, hup hstt, hdegraded⟩

/-- A first training with no mode in common. -/
theorem hostTrain_none (hst : s.hostState ≠ 3) (hnone : ∀ c, c ∈ s.mine 4 → BitVec.ofNat 8 c ∉ offer) :
    ∃ u, u = s.hostTrain offer width.toNat speed.toNat lit.toNat ∧ u.hostState = s.hostState ∧ u.g .dev 0 (Off.devIf + 32) 16 16 = 1 ∧
      u.g .dev 0 Off.event Ev.devNegotiateFail Ev.devNegotiateFail = 1 := by
  have hneg := s.negotiate_none (n := 4) (their := fun c => offer.contains (BitVec.ofNat 8 c)) fun c hc => by simpa using hnone c hc
  let t := (s.p .dev 0 (Off.devIf + 8 * 4) 16 16 1).raise .dev 0 Ev.devNegotiateFail
  have htrain : s.hostTrain offer width.toNat speed.toNat lit.toNat = t.p .hlk 0 Off.hlkLink 39 24 lit.toNat := by
    rw [State.hostTrain, if_neg hst, hneg]
  have hdev {a : Nat} (ha : a < 0x1000) : (t.p .hlk 0 Off.hlkLink 39 24 lit.toNat).rd a = t.rd a :=
    State.rd_wr_other _ _ (Nat.ne_of_lt (Nat.lt_trans ha (by decide)))
  have hlink : t.rd State.linkAt = s.rd State.linkAt :=
    (State.rd_raise _ _ _ _ _ (by decide)).trans (State.rd_wr_other _ _ (by decide))
  refine ⟨t.p .hlk 0 Off.hlkLink 39 24 lit.toNat, htrain.symm, ?_, ?_, ?_⟩
  · rw [State.hostState, State.g, State.rd_p, if_pos rfl, fld_putFld_below _ _ (by decide) (by decide) (by decide) (by decide), hlink]
    rfl
  · rw [State.g, hdev (by decide), State.rd_raise _ _ _ _ _ (by decide), State.rd_p, if_pos rfl, fld_putFld_same]
    rfl
  · rw [State.g, hdev (by decide), State.fld_event_raise_same _ (by decide)]

/-- A retrain keeps the mode. -/
theorem hostTrain_again (hst : s.hostState = 3) : ∃ u, u = s.hostTrain offer width.toNat speed.toNat lit.toNat ∧ u.hostState = 2 ∧
    u.hostMode = s.hostMode ∧ u.g .hlk 0 Off.hlkLink 55 48 = width.toNat := by
  obtain ⟨u, hu, hlink, -⟩ := s.hostTrained_spec s.hostMode width.toNat speed.toNat lit.toNat
  obtain ⟨hstate, hmode, hwidth, -⟩ := State.hostTrained_link hlink
  have hbyte : s.hostMode < 256 := fld_lt ..
  exact ⟨u, hu.trans (if_pos hst).symm, hstate, by omega, by have := width.isLt; omega⟩

end

end Sys2Proof.Machine
end

section
/-! SUPPORT. Statement O21, losses and resets of the host link: light, a hot reset, a Function Level Reset and CXL Reset (R32, R81,
R103, R105). -/

namespace Sys2Proof.Machine

namespace State

variable (s : State)

/-! ### Block resets of HLK and MBX (R32, R103) -/

/-- The Block reset of the mailbox page. -/
def mbxHeld : State := (s.dropMbx.pageColumn .mbx 0).holdPage .mbx 0

theorem pageColumn_hlk (b : Blk) (i : Nat) : (s.pageColumn b i).hlk = s.hlk := (s.pageColumn_ext b i).1 .hlk (by simp)

theorem holdPage_hlk (b : Blk) (i : Nat) : (s.holdPage b i).hlk = s.hlk := (s.holdPage_ext b i).1 .hlk (by simp)

theorem mbxHeld_hlk : s.mbxHeld.hlk = { s.hlk with mbx := none } := (holdPage_hlk _ _ _).trans (pageColumn_hlk _ _ _)

theorem mbxHeld_link : s.mbxHeld.rd linkAt = s.rd linkAt := by
  have hcolumns : (s.dropMbx.columns true fun k j => k = .mbx && j = 0).rd linkAt = s.dropMbx.rd linkAt :=
    rd_columns_other s.dropMbx (by decide) (by decide) (by simp)
  exact (rd_of_regs (holdPage_regs _ _ _) _).trans hcolumns

/-- The Block reset of the mailbox page leaves HLK's page as its own holds it. -/
theorem mbxHeld_held (h : BlkHeld s .hlk 0) : BlkHeld s.mbxHeld .hlk 0 ∧ BlkHeld s.mbxHeld .mbx 0 := by
  refine ⟨⟨?_, ?_⟩, holdPage_held _ .mbx (by decide)⟩
  · exact (holdPage_ready _ (by decide) (by decide) (by decide) (by decide)).trans (Eq.trans (ready_congr rfl rfl rfl rfl) h.1)
  · exact (holdPage_blk _ (by decide) (by decide) (by decide)).trans ((pageColumn_blk _ (by decide) (by decide)).trans h.2)

/-- HLK and MBX are held by their Block resets, with the link in a state, no ring, and no mailbox command. -/
structure HostReset (u : State) (st : Nat) : Prop where
  hlk : BlkHeld u .hlk 0
  mbx : BlkHeld u .mbx 0
  state : u.hostState = st
  rings : u.hlk.rings = []
  command : u.hlk.mbx = none

/-- A hot reset or the link's loss: besides, no decoder is committed. -/
theorem hostBlock_reset {st : Nat} (hst : st < 8) : HostReset (s.hostBlock st) st ∧ (s.hostBlock st).hlk.hdm = [] := by
  obtain ⟨t, hrst, hrings, hhdm, hlink⟩ := s.hlkBlock_reset st
  have hhlk : (s.hostBlock st).hlk = { (s.hlkBlock st).hlk with mbx := none } := (s.hlkBlock st).mbxHeld_hlk
  have hheld : BlkHeld (s.hostBlock st) .hlk 0 ∧ BlkHeld (s.hostBlock st) .mbx 0 := (s.hlkBlock st).mbxHeld_held (s.hlkBlock_held st)
  have hstate : (s.hostBlock st).hostState = st := by
    rw [hostState, g, show (s.hostBlock st).rd _ = _ from (s.hlkBlock st).mbxHeld_link, hlink]
    exact Nat.mod_eq_of_lt hst
  exact ⟨⟨hheld.1, hheld.2, hstate, by rw [hhlk]; exact hrings, by rw [hhlk]⟩, by rw [hhlk]; exact hhdm⟩

/-! ### Loss of light (R81, R105) -/

/-- The link goes down for want of light, as a surprise unless a removal drain runs. -/
theorem hostDark_reset : HostReset s.hostDark 0 ∧ s.hostDark.hlk.hdm = [] ∧
    (s.power.drain = .none → s.hostDark.g .hlk 0 Off.event Ev.hlkSurpriseDown Ev.hlkSurpriseDown = 1) := by
  obtain ⟨hreset, hhdm⟩ := s.hostBlock_reset (st := 0) (by decide)
  have hdrain : (s.hostBlock 0).power.drain = s.power.drain := congrArg Power.drain ((s.hostBlock_ext 0).1 .power (by simp))
  unfold hostDark
  dsimp only
  split
  · let u := (s.hostBlock 0).raise .hlk 0 Ev.hlkSurpriseDown
    have hkept : Kept linkAt true (s.hostBlock 0) u := (Kept.refl linkAt_calm _).raise
    refine ⟨⟨hreset.hlk.of_rst hkept.rst, hreset.mbx.of_rst hkept.rst, ?_, (hkept.rings rfl).trans hreset.rings, ?_⟩,
      hkept.hdm.trans hhdm, fun _ => fld_event_raise_same _ (by decide)⟩
    · exact (congrArg (fld · 2 0) hkept.rd).trans hreset.state
    · exact (raise_rings_mbx _ _ _ _).2.trans hreset.command
  next hd => exact ⟨hreset, hhdm, fun h => absurd (hdrain.trans h) hd⟩

/-- A link that is up, with no light on its lanes. -/
theorem hostLight_dark {lit : Nat} (hst : s.hostState = 2) (hdark : lit &&& s.hostLanes = 0) (hused : s.hostLanes ≠ 0) :
    s.hostLight lit = (s.p .hlk 0 Off.hlkLink 39 24 lit).hostDark := by
  have hlit : lanesLit lit s.hostLanes = false := by simp [lanesLit, hdark, Ne.symm hused]
  simp only [hostLight]
  rw [if_neg (by simp [hst, hlit]), if_neg (by simp [hdark])]

/-- A link that is up, with light on lanes that still make a width: it retrains. -/
theorem hostLight_retrain {lit : Nat} (hst : s.hostState = 2) (hpart : lit &&& s.hostLanes ≠ 0) (hlost : lanesLit lit s.hostLanes = false)
    (hwidth : ∃ w ∈ [16, 8, 4], widthFits lit w = true) :
    s.hostLight lit = ((s.p .hlk 0 Off.hlkLink 39 24 lit).p .hlk 0 Off.hlkLink 2 0 3).bump .hlk 0 0x200 1 := by
  simp only [hostLight]
  rw [if_neg (by simp [hst, hlost]), if_pos ⟨hpart, List.any_eq_true.2 hwidth⟩]

/-- An event counter that a page bumps counts up. -/
theorem bump_counted {b : Blk} {i off n : Nat} (hn : n ≠ 0) : Counted s (s.bump b i off n) b i off n := by
  intro hlt
  change (s.rd (pageBase b i + off)).toNat + n < 2 ^ 64 at hlt
  have hbump : s.bump b i off n = s.wr (pageBase b i + off) (BitVec.ofNat 64 ((s.rd (pageBase b i + off)).toNat + n)) := by
    unfold bump
    rw [if_neg hn, if_pos hlt]
  rw [hbump, show regAt b i off = pageBase b i + off from rfl, rd_wr_same, BitVec.toNat_ofNat, Nat.mod_eq_of_lt hlt]

theorem hostLight_retrain_spec {lit : BitVec 16} (u : State)
    (hu : u = ((s.p .hlk 0 Off.hlkLink 39 24 lit.toNat).p .hlk 0 Off.hlkLink 2 0 3).bump .hlk 0 0x200 1) :
    u.hostState = 3 ∧ u.g .hlk 0 Off.hlkLink 39 24 = lit.toNat ∧ Counted s u .hlk 0 0x200 1 := by
  let t := (s.p .hlk 0 Off.hlkLink 39 24 lit.toNat).p .hlk 0 Off.hlkLink 2 0 3
  have hlink : u.rd linkAt = putFld (putFld (s.rd linkAt) 39 24 lit.toNat) 2 0 3 := by
    have hkept : Kept linkAt true t u := hu ▸ (Kept.refl linkAt_calm t).bump rfl
    rw [hkept.rd]
    simp [t, rd_p]
  refine ⟨?_, ?_, ?_⟩
  · rw [hostState, g, hlink, fld_putFld_same]
    rfl
  · rw [g, hlink, fld_putFld_above _ _ (by decide) (by decide) (by decide), fld_putFld_same]
    have := lit.isLt
    omega
  · have hcount : t.rd (regAt .hlk 0 0x200) = s.rd (regAt .hlk 0 0x200) := by
      rw [rd_p, if_neg (by decide), rd_p, if_neg (by decide)]
    have hcounted := t.bump_counted (b := .hlk) (i := 0) (off := 0x200) (n := 1) (by decide)
    rw [Counted, hcount] at hcounted
    rw [hu]
    exact hcounted

/-! ### Function Level Reset (R103) -/

/-- HLK_LINK's row of the register map: its state field is HW's through a Warm column. -/
theorem linkRow : ∃ r k, RegMap.find .hlk Off.hlkLink = some (r, k) ∧ r.cold = 0 ∧ r.after true .hlk r.cold = r.cold ∧
    ∃ f ∈ r.flds, f.hi = 2 ∧ f.lo = 0 ∧ f.warm = .hw := by
  refine ⟨⟨some .hlk, 0x100, 1, 8, .plain, [⟨63, 56, .ro, (.val 0), .hw⟩, ⟨55, 48, .ro, (.val 0), .hw⟩, ⟨47, 40, .ro, (.val 0), .hw⟩,
    ⟨39, 24, .ro, .hw, .hw⟩, ⟨2, 0, .ro, (.val 0), .hw⟩]⟩, 0, ?_⟩
  decide

/-- The Warm column of HLK's page keeps a link that is up. -/
theorem pageColumn_link_up (h : fld (s.rd linkAt) 2 0 = 2) : fld ((s.pageColumn .hlk 0).rd linkAt) 2 0 = 2 := by
  obtain ⟨r, k, hrow, hzero, hcold, f, hf, hhi, hlo, hwarm⟩ := linkRow
  have hafter : fld (r.after true .hlk (s.rd linkAt)) 2 0 = 2 := by
    have := fld_after (RegMap.find_spec hrow).1 hf true (s.rd linkAt)
    rw [hhi, hlo] at this
    rw [this, Fld.after, if_pos rfl, hwarm]
    simpa [hhi, hlo] using h
  have hne : r.after true .hlk (s.rd linkAt) ≠ r.cold := by
    intro e
    rw [e, hzero] at hafter
    exact absurd hafter (by decide)
  have hrd : (s.columns true fun k j => k = .hlk && j = 0).rd linkAt = r.after true .hlk (s.rd linkAt) :=
    s.rd_columns_after (by decide) (by decide) hrow hcold hne
  exact (congrArg (fld · 2 0) hrd).trans hafter

/-- Every ring closed, and the MSI-X table PCI Express's again (R103). -/
def ringsGone : State := { s.closeRings with hlk := { s.closeRings.hlk with msix := [], biasSettling := false } }

theorem ringsGone_rd (a : Nat) : s.ringsGone.rd a = s.rd a := rfl

theorem ringsGone_hlk : s.ringsGone.hlk.rings = [] ∧ s.ringsGone.hlk.hdm = s.hlk.hdm ∧ s.ringsGone.hlk.exposed = s.hlk.exposed :=
  ⟨rfl, rfl, rfl⟩

theorem flr_eq : s.flr = (((s.abortRings 5).ringsGone.pageColumn .hlk 0).holdPage .hlk 0).mbxHeld := rfl

/-- Function Level Reset holds HLK and MBX, with the link kept up and the decoders and EXPOSE as they were. -/
theorem flr_reset (h : s.hostState = 2) : HostReset s.flr 2 ∧ s.flr.hlk.hdm = s.hlk.hdm ∧ s.flr.hlk.exposed = s.hlk.exposed := by
  have habort : Kept linkAt false s (s.abortRings 5) := (Kept.refl linkAt_calm s).abortRings
  obtain ⟨hrings, hhdm, hexposed⟩ := (s.abortRings 5).ringsGone_hlk
  have hrd := (s.abortRings 5).ringsGone_rd linkAt
  have hflr := s.flr_eq
  generalize (s.abortRings 5).ringsGone = q at hrings hhdm hexposed hrd hflr
  let t := (q.pageColumn .hlk 0).holdPage .hlk 0
  have hhlk : s.flr.hlk = { q.hlk with mbx := none } := by rw [hflr, mbxHeld_hlk, holdPage_hlk, pageColumn_hlk]
  have hheld : BlkHeld s.flr .hlk 0 ∧ BlkHeld s.flr .mbx 0 := hflr ▸ t.mbxHeld_held (holdPage_held _ .hlk (by decide))
  have hup : fld (q.rd linkAt) 2 0 = 2 := by
    rw [hrd, habort.rd]
    exact h
  have hlink : s.flr.rd linkAt = (q.pageColumn .hlk 0).rd linkAt := by
    rw [hflr, mbxHeld_link]
    exact rd_of_regs (holdPage_regs _ _ _) _
  have hstate : s.flr.hostState = 2 := (congrArg (fld · 2 0) hlink).trans (q.pageColumn_link_up hup)
  exact ⟨⟨hheld.1, hheld.2, hstate, by rw [hhlk]; exact hrings, by rw [hhlk]⟩, by rw [hhlk]; exact hhdm.trans habort.hdm,
    by rw [hhlk]; exact hexposed.trans habort.exposed⟩

end State

/-! ### The commands -/

section

variable {s : State}

theorem exec_hostLightLoss (hrails : s.power.rails = true) (hheld : s.rst.held = false) (lit : BitVec 16) :
    exec (.hostLightLoss lit) s = .next (s.hostLight lit.toNat) := congrArg _ (if_pos (by simp [hrails, hheld]))

theorem exec_functionLevelReset (hst : s.hostState = 2) (hcov : s.coveredPage .hlk 0 = false) :
    exec .functionLevelReset s = .next s.flr := by
  change execFunctionLevelReset s = _
  rw [execFunctionLevelReset, if_pos ⟨hst, by simp [hcov]⟩]

/-- CXL Reset is a Warm reset's request, which only a reset of a higher class absorbs (R103). -/
theorem exec_cxlReset (hst : s.hostState = 2) (hmode : s.hostMode = 0x20) (hd : s.power.drain ≠ .running)
    (hreqs : ∀ r ∈ s.rst.reqs, r.cls = .basin) : exec .cxlReset s =
      .next (withReqs s [{ cls := .warm, basin := 0, src := 0x11, asserted := false }]) := by
  have hnew : ∀ r ∈ s.rst.reqs, State.covers r .warm 0 = false := fun r h => by simp [State.covers, hreqs r h, State.classRank]
  have hkeep : (s.rst.reqs.filter fun r => State.classRank r.cls = State.classRank .warm) = [] :=
    List.filter_eq_nil_iff.2 fun r h => by simp [hreqs r h, State.classRank]
  have hreq : s.requestReset .warm 0 0x11 = withReqs s [{ cls := .warm, basin := 0, src := 0x11, asserted := false }] := by
    rw [s.requestReset_new hd hnew, hkeep]
    rfl
  exact congrArg _ ((if_pos ⟨hst, hmode⟩).trans hreq)

end

/-- Settles O21: training negotiates or keeps the mode, and each reset holds HLK and MBX and leaves the link in its state. -/
theorem hostLinkStates : Obligations.HostLinkStates := by
  refine ⟨fun s offer width speed lit hmay hfits hlow hhigh => ⟨fun m hst hm => ?chosen, fun hst hnone => ?none, fun hst => ?again⟩,
    fun s => ⟨fun lit hrails hheld hst hdark hused => ?dark, fun lit hrails hheld hst hpart hlost hwidth => ?retrain, fun hst => ?hot,
      fun hst hcov => ?flr, fun hst hmode hd hreqs => exec_cxlReset hst hmode hd hreqs, fun hmode => ?noCxl⟩⟩
  case chosen =>
    obtain ⟨u, rfl, hstate, hmode, hwidth, hspeed, hlit, hif, hopen, hup, hdegraded⟩ :=
      hostTrain_chosen (width := width) (speed := speed) (lit := lit) hst hm
    have hexec := exec_hostLinkTrained (offer := offer) hmay hfits hlow hhigh
    exact ⟨_, hexec, hstate, hmode, hwidth, hspeed, hlit, hif, hopen, hup, hdegraded, exec_same hexec⟩
  case none =>
    obtain ⟨u, rfl, hstate, hfail, hevent⟩ := hostTrain_none (width := width) (speed := speed) (lit := lit) hst hnone
    have hexec := exec_hostLinkTrained (offer := offer) hmay hfits hlow hhigh
    exact ⟨_, hexec, hstate, hfail, hevent, exec_same hexec⟩
  case again =>
    obtain ⟨u, rfl, hstate, hmode, hwidth⟩ := hostTrain_again (offer := offer) (width := width) (speed := speed) (lit := lit) hst
    have hexec := exec_hostLinkTrained (offer := offer) hmay hfits hlow hhigh
    exact ⟨_, hexec, hstate, hmode, hwidth, exec_same hexec⟩
  case dark =>
    obtain ⟨hreset, hhdm, hsurprise⟩ := (s.p .hlk 0 Off.hlkLink 39 24 lit.toNat).hostDark_reset
    have hexec := exec_hostLightLoss hrails hheld lit
    rw [s.hostLight_dark hst hdark hused] at hexec
    exact ⟨_, hexec, hreset.hlk, hreset.mbx, hreset.state, hreset.rings, hhdm, hreset.command, hsurprise⟩
  case retrain =>
    have hexec := exec_hostLightLoss hrails hheld lit
    obtain ⟨hstate, hlanes, hcount⟩ := s.hostLight_retrain_spec _ (s.hostLight_retrain hst hpart hlost hwidth)
    refine ⟨_, hexec, hstate, hlanes, hcount, ?_⟩
    rw [s.hostLight_retrain hst hpart hlost hwidth]
    exact (Ext.step (State.bump_ext ..) rfl (Ext.step (State.p_ext ..) rfl (Ext.step (State.p_ext ..) rfl (Ext.refl _ _)))).1
  case hot =>
    obtain ⟨hreset, hhdm⟩ := s.hostBlock_reset (st := 1) (by decide)
    exact ⟨s.hostBlock 1, congrArg _ (if_pos hst), hreset.hlk, hreset.mbx, hreset.state, hreset.rings, hhdm, hreset.command⟩
  case flr =>
    obtain ⟨hreset, hhdm, hexposed⟩ := s.flr_reset hst
    exact ⟨s.flr, exec_functionLevelReset hst hcov, hreset.hlk, hreset.mbx, hreset.state, hreset.rings, hhdm, hexposed, hreset.command⟩
  case noCxl => exact congrArg _ (if_neg fun h => hmode h.2)

end Sys2Proof.Machine
end

section
/-! SUPPORT. Statement O25: NOP, FENCE, SIGNAL, WAIT and STEP_BEGIN at the head of a ring (R39, R96, R363, R372). -/

namespace Sys2Proof.Machine

/-! ### The head command of a ring (R95, R97, R98) -/

namespace HeadIs

variable {s : State} {r op : Nat} {c : Cmd}

theorem headCmd (h : HeadIs s r op c) : s.headCmd r = some c := by
  have hfence : (c.fenced && !((s.ring r).cmds.head?.any (·.uid = c.uid))) = false := by
    cases hf : c.fenced with
    | false => rfl
    | true =>
      obtain ⟨d, hd, hu⟩ := Option.map_eq_some_iff.1 (h.fence hf)
      simp [hd, hu]
  simp only [State.headCmd]
  rw [if_neg (by simp [h.open_, h.going]), h.next]
  simp only [hfence]
  rfl

theorem headOp (h : HeadIs s r op c) : s.headOp r op = some c := by
  rw [State.headOp, h.headCmd]
  exact if_pos h.op

end HeadIs

namespace State

variable (s : State)

theorem startCmd_now (r uid : Nat) : CmdNow s (s.startCmd r uid) r uid .started := fun q => s.ring_setRing r q _

theorem startCmd_finishCmd_ends (r uid status : Nat) (result : Word) :
    CmdEnds s ((s.startCmd r uid).finishCmd r uid status result) r uid status result := by
  intro q
  by_cases hq : q = r
  · subst hq
    rw [finishCmd, modCmd, ring_setRing, if_pos rfl, if_pos rfl, (s.startCmd_now q uid) q, if_pos rfl]
    simp only [Ring.withPhase, List.map_map, Ring.mk.injEq, List.map_inj_left, true_and]
    intro c _
    by_cases hc : c.uid = uid <;> simp [hc]
  · rw [finishCmd, modCmd, ring_setRing, if_neg hq, if_neg hq, (s.startCmd_now r uid) q, if_neg hq]

theorem startCmd_finishCmd_same (r uid status : Nat) (result : Word) : Same [.hlk] s ((s.startCmd r uid).finishCmd r uid status result) :=
  (Ext.step (finishCmd_ext ..) rfl (s.startCmd_ext r uid)).1

/-- FENCE ends when nothing is before it (R96). -/
theorem fenceDone_first {r : Nat} {c : Cmd} (hop : c.op = 5) (hhead : (s.ring r).cmds.head? = some c) :
    (s.startCmd r c.uid).fenceDone r = (s.startCmd r c.uid).finishCmd r c.uid 0 0 := by
  obtain ⟨t, ht⟩ := List.head?_eq_some_iff.1 hhead
  have hring : ((s.startCmd r c.uid).ring r).cmds =
      { c with phase := .started } :: t.map fun d => if d.uid = c.uid then { d with phase := .started } else d := by
    rw [(s.startCmd_now r c.uid) r, if_pos rfl, Ring.withPhase, ht, List.map_cons, if_pos rfl]
  rw [fenceDone, hring]
  exact if_pos ⟨hop, rfl⟩

/-- FENCE waits behind another command (R96). -/
theorem fenceDone_later {r uid : Nat} (hhead : ∀ d, (s.ring r).cmds.head? = some d → d.uid ≠ uid ∧ d.op ≠ 5) :
    (s.startCmd r uid).fenceDone r = s.startCmd r uid := by
  have hring := (s.startCmd_now r uid) r
  rw [if_pos rfl] at hring
  rw [fenceDone, hring, Ring.withPhase]
  cases hcmds : (s.ring r).cmds with
  | nil => rfl
  | cons d t =>
    obtain ⟨huid, hop⟩ := hhead d (by rw [hcmds]; rfl)
    dsimp only
    rw [List.map_cons, if_neg huid]
    exact if_neg fun h => hop h.1

/-! ### STEP_BEGIN (R363, R370, R372) -/

/-- RED_STEPSTAT and RAS_REPLAYCTL (R363, R391). -/
abbrev stepstatAt : Nat := regAt .red 0 Off.redStepstat
abbrev replayctlAt : Nat := regAt .ras 0 Off.rasReplayctl

/-- A step's number and attempt stand in RED_STEPSTAT, with STATE 1. -/
def stepMark (step a : Nat) : State := s.wr stepstatAt (putFld (putFld (putFld (s.rd stepstatAt) 63 60 1) 59 56 a) 47 0 step)

/-- A replay request for the step that begins is taken. -/
def replayTaken (step : Nat) : State :=
  if s.g .ras 0 Off.rasReplay 63 63 = 1 ∧ s.g .ras 0 Off.rasReplay 47 0 = step then s.p .ras 0 Off.rasReplay 63 63 0 else s

/-- What a step that begins does after its attempt is known. -/
def stepBegun (step a : Nat) : State :=
  ((((s.updWords fun _ => 0).stepMark step a).replayTaken step).ledgerRestart (BitVec.ofNat 64 step)).redRelease

theorem stepMark_fields {step a : Nat} (hs : step < 2 ^ 48) (ha : a < 16) : fld ((s.stepMark step a).rd stepstatAt) 63 60 = 1 ∧
    fld ((s.stepMark step a).rd stepstatAt) 59 56 = a ∧ fld ((s.stepMark step a).rd stepstatAt) 47 0 = step := by
  rw [stepMark, rd_wr_same]
  refine ⟨?_, ?_, ?_⟩
  · rw [fld_putFld_above _ _ (by decide) (by decide) (by decide), fld_putFld_above _ _ (by decide) (by decide) (by decide), fld_putFld_same]
    rfl
  · rw [fld_putFld_above _ _ (by decide) (by decide) (by decide), fld_putFld_same]
    exact Nat.mod_eq_of_lt ha
  · rw [fld_putFld_same]
    exact Nat.mod_eq_of_lt hs

theorem replayTaken_rd {step a : Nat} (ha : a ≠ regAt .ras 0 Off.rasReplay) : (s.replayTaken step).rd a = s.rd a := by
  unfold replayTaken
  split
  · exact rd_wr_other _ _ ha
  · rfl

/-- The update words stand at offset 0x108 of their pages. -/
theorem updWords_rd {f : Nat → Nat} {a : Nat} (ha : a % 0x1000 ≠ Off.inlUpdword) : (s.updWords f).rd a = s.rd a := by
  refine foldl_all (P := fun u : State => u.rd a = s.rd a) rfl fun u n hu => ?_
  refine (rd_wr_other _ _ fun e => ha ?_).trans hu
  rw [e]
  exact regAt_mod (by decide)

/-- With no contribution waiting, none is released. -/
theorem redRelease_rd_of_nil (h : s.red.later = []) (a : Nat) : s.redRelease.rd a = s.rd a := by
  rw [redRelease, h]
  rfl

/-- A step that begins with no contribution waiting: its number and attempt stand in RED_STEPSTAT, and RAS_REPLAYCTL stays. -/
theorem stepBegun_spec {step a : Nat} (hs : step < 2 ^ 48) (ha : a < 16) (hlater : s.red.later = []) :
    (s.stepBegun step a).redState = 1 ∧ (s.stepBegun step a).redStep = step ∧ (s.stepBegun step a).attempt = a ∧
      (s.stepBegun step a).rd replayctlAt = s.rd replayctlAt := by
  let t := ((s.updWords fun _ => 0).stepMark step a).replayTaken step
  let u := t.ledgerRestart (BitVec.ofNat 64 step)
  have hbegun : s.stepBegun step a = u.redRelease := rfl
  have hregs : Ext [.regs] s t := by
    have hmark : Ext [.regs] s ((s.updWords fun _ => 0).stepMark step a) := .step (wr_ext ..) rfl (s.updWords_ext _)
    exact .ite (.step (p_ext ..) rfl hmark) hmark
  have hred : u.red.later = [] := by
    rw [(ledgerRestart_ext t _).1 .red (by simp), hregs.1 .red (by simp), hlater]
  have hrd (x : Nat) : (s.stepBegun step a).rd x = u.rd x := by
    rw [hbegun, u.redRelease_rd_of_nil hred]
  have hstat : (s.stepBegun step a).rd stepstatAt = ((s.updWords fun _ => 0).stepMark step a).rd stepstatAt := by
    have hkept : Kept stepstatAt false t u := (Kept.refl ⟨by decide, by decide⟩ t).ledgerRestart
    rw [hrd, hkept.rd, replayTaken_rd _ (by decide)]
  obtain ⟨hstate, hattempt, hstep⟩ := (s.updWords fun _ => 0).stepMark_fields hs ha
  rw [← hstat] at hstate hattempt hstep
  refine ⟨hstate, hstep, hattempt, ?_⟩
  have hkept : Kept replayctlAt false t u := (Kept.refl ⟨by decide, by decide⟩ t).ledgerRestart
  rw [hrd, hkept.rd, replayTaken_rd _ (by decide), stepMark, rd_wr_other _ _ (by decide), updWords_rd _ (by decide)]

/-- A replay armed for the step gives its attempt, and is used up (R391). -/
theorem takeAttempt_armed {step : Nat} (harmed : s.g .ras 0 Off.rasReplayctl 63 63 = 1)
    (hstep : s.g .ras 0 Off.rasReplayctl 47 0 = step) (restart : Bool) :
    s.takeAttempt step restart = (s.g .ras 0 Off.rasReplayctl 59 56, s.p .ras 0 Off.rasReplayctl 63 63 0) :=
  if_pos ⟨(bit_eq_fld _ 63).trans (decide_eq_true harmed), hstep⟩

/-- With no replay armed for it, a new step begins at attempt 0. -/
theorem takeAttempt_new {step : Nat} (h : ¬(s.g .ras 0 Off.rasReplayctl 63 63 = 1 ∧ s.g .ras 0 Off.rasReplayctl 47 0 = step)) :
    s.takeAttempt step false = (0, s) := by
  have hbit : ¬(bit (s.rd (pageBase .ras 0 + Off.rasReplayctl)) 63 = true ∧
      fld (s.rd (pageBase .ras 0 + Off.rasReplayctl)) 47 0 = step) := by
    rw [bit_eq_fld, decide_eq_true_eq]
    exact h
  exact (if_neg hbit).trans (if_neg (by decide))

/-- Nothing keeps a step from beginning (R363, R372). -/
structure MayBegin : Prop where
  ready : s.ready .red 0 = true
  phase : s.phase = 0
  state : s.redState = 0
  jrn : s.jrn = { due := false, resolving := false, held := false, resend := false }
  drain : s.power.drain = .none
  going : tget s.rst.quiesced false (pageBase .red 0) = false
  loud : s.quiet .red 0 = false

theorem stepOpen_new {step : Nat} (h : s.MayBegin) :
    s.stepOpen step = some ((s.takeAttempt step false).2.stepBegun step (s.takeAttempt step false).1) := by
  obtain ⟨hready, hphase, hstate, hjrn, hdrain, hgoing, hloud⟩ := h
  have hnew : decide (s.redState ≠ 0) = false := by simp [hstate]
  unfold stepOpen
  dsimp only
  rw [if_neg (by simp [hready, hphase, hstate, hjrn, hdrain, hgoing, hloud]), hnew, if_neg (not_not_intro hstate)]
  rfl

/-- What a step that begins leaves: STATE 1, its number, its attempt, and no replay armed for it. -/
theorem stepOpen_spec {step : Nat} (h : s.MayBegin) (hs : step < 2 ^ 48) (hlater : s.red.later = []) : ∃ u, s.stepOpen step = some u ∧
    u.redState = 1 ∧ u.redStep = step ∧
    (s.g .ras 0 Off.rasReplayctl 63 63 = 1 → s.g .ras 0 Off.rasReplayctl 47 0 = step →
      u.attempt = s.g .ras 0 Off.rasReplayctl 59 56 ∧ u.g .ras 0 Off.rasReplayctl 63 63 = 0) ∧
    (s.g .ras 0 Off.rasReplayctl 63 63 = 0 → u.attempt = 0) := by
  refine ⟨_, s.stepOpen_new h, ?_⟩
  by_cases harmed : s.g .ras 0 Off.rasReplayctl 63 63 = 1 ∧ s.g .ras 0 Off.rasReplayctl 47 0 = step
  · rw [s.takeAttempt_armed harmed.1 harmed.2]
    dsimp only
    obtain ⟨hstate, hstep, hattempt, hctl⟩ := stepBegun_spec (s.p .ras 0 Off.rasReplayctl 63 63 0) hs
      (show s.g .ras 0 Off.rasReplayctl 59 56 < 16 from fld_lt _ 59 56) hlater
    refine ⟨hstate, hstep, fun _ _ => ⟨hattempt, ?_⟩, fun h0 => absurd harmed.1 (by rw [h0]; decide)⟩
    refine (congrArg (fld · 63 63) hctl).trans ?_
    rw [rd_p, if_pos rfl, fld_putFld_same]
    rfl
  · rw [s.takeAttempt_new harmed]
    obtain ⟨hstate, hstep, hattempt, -⟩ := s.stepBegun_spec hs (a := 0) (by decide) hlater
    exact ⟨hstate, hstep, fun h1 h2 => absurd ⟨h1, h2⟩ harmed, fun _ => hattempt⟩

end State

/-! ### The commands -/

section

variable {s : State} {r : Nat} {c : Cmd}

theorem exec_ringNop (h : HeadIs s r 0 c) : exec (.ringNop r) s = .next ((s.startCmd r c.uid).finishCmd r c.uid 0 0) := by
  change execRingNop r s = _
  rw [execRingNop, h.headOp]

theorem exec_fence (h : HeadIs s r 5 c) : exec (.fence r) s = .next ((s.startCmd r c.uid).fenceDone r) := by
  change execFence r s = _
  rw [execFence, h.headOp]

theorem exec_signal (h : HeadIs s r 6 c) {s' : State} {b : Bytes} {p : Bool}
    (hw : s.vwrite 0 (c.arg 0 8) (natBytes 8 (c.arg 8 8)) = .ok b p s') :
    exec (.signal r) s = .next ((s'.startCmd r c.uid).finishCmd r c.uid 0 0) := by
  change execSignal r s = _
  rw [execSignal, h.headOp]
  simp only [State.signalRun, hw]

theorem exec_wait (h : HeadIs s r 7 c) (hform : c.arg 16 1 ≤ 1) : exec (.wait r) s = .next (s.startCmd r c.uid) := by
  change execWait r s = _
  rw [execWait, h.headOp]
  exact congrArg _ (if_neg (Nat.not_lt.2 hform))

theorem exec_waitPoll {i : Nat} (hi : ((s.ring r).cmds.filter fun c => c.op = 7 ∧ c.phase = .started)[i]? = some c) :
    exec (.waitPoll r i) s = .next (s.waitRun r c) := by
  change execWaitPoll r i s = _
  rw [execWaitPoll, hi]

/-- WAIT ends once the value that it reads meets its form: at least, or equal (R96). -/
theorem waitRun_read {bs : Bytes} {s' : State} (hread : s.vread 0 (c.arg 0 8) 8 = .ok bs false s') :
    if (c.arg 16 1 = 0 ∧ c.arg 8 8 ≤ leNat bs) ∨ (c.arg 16 1 ≠ 0 ∧ leNat bs = c.arg 8 8) then
      s.waitRun r c = s'.finishCmd r c.uid 0 0 else s.waitRun r c = s' := by
  rw [State.waitRun, hread]
  dsimp only
  by_cases hform : c.arg 16 1 = 0
  · by_cases hle : c.arg 8 8 ≤ leNat bs <;> simp [hform, hle]
  · by_cases heq : leNat bs = c.arg 8 8 <;> simp [hform, heq]

theorem exec_stepBegin (h : HeadIs s r 8 c) (hstep : c.step ≠ 0) {u : State} (hu : s.stepOpen c.step.toNat = some u) :
    exec (.stepBegin r) s = .next ((u.startCmd r c.uid).finishCmd r c.uid 0 0) := by
  change execStepBegin r s = _
  rw [execStepBegin, h.headOp]
  simp only [if_neg hstep, hu]

theorem exec_notReadyTimeout {op : Nat} (h : HeadIs s r op c) (hheld : s.headHeld r c = true) :
    exec (.notReadyTimeout r) s = .next ((s.startCmd r c.uid).finishCmd r c.uid 9 0) := by
  change execNotReadyTimeout r s = _
  rw [execNotReadyTimeout, h.headCmd]
  exact congrArg _ (if_pos hheld)

end

/-- Settles O25: each command starts, and ends at once, later, or with STATUS 9, as its own rule says. -/
theorem ringCommands : Obligations.RingCommands := by
  intro s r c
  have hends (t : State) (status : Nat) := t.startCmd_finishCmd_ends r c.uid status 0
  have hsame (t : State) (status : Nat) := t.startCmd_finishCmd_same r c.uid status 0
  have hstart : Same [.hlk] s (s.startCmd r c.uid) := (s.startCmd_ext r c.uid).1
  refine ⟨fun h => ⟨_, exec_ringNop h, hends s 0, hsame s 0⟩, fun h hhead => ?fence, fun h hhead => ?fenceWaits, fun s' b p h hw => ?signal,
    fun h hform => ⟨_, exec_wait h hform, s.startCmd_now r c.uid, hstart⟩,
    fun i bs s' hi hread => ⟨_, exec_waitPoll hi, waitRun_read hread⟩,
    fun h hstep hlt hready hphase hstate hjrn hdrain hgoing hloud hlater => ?step,
    fun op hop h hheld => ⟨_, exec_notReadyTimeout h hheld, hends s 9, hsame s 9⟩⟩
  case fence =>
    have hexec := exec_fence h
    rw [s.fenceDone_first (BitVec.eq_of_toNat_eq h.op) hhead] at hexec
    exact ⟨_, hexec, hends s 0, hsame s 0⟩
  case fenceWaits =>
    have hexec := exec_fence h
    rw [s.fenceDone_later hhead] at hexec
    exact ⟨_, hexec, s.startCmd_now r c.uid, hstart⟩
  case signal => exact ⟨_, exec_signal h hw, hsame s' 0 .mem (by simp), hends s' 0, hsame s' 0⟩
  case step =>
    obtain ⟨u, hu, hspec⟩ := s.stepOpen_spec ⟨hready, hphase, hstate, hjrn, hdrain, hgoing, hloud⟩ hlt hlater
    exact ⟨_, exec_stepBegin h hstep hu, hspec⟩

end Sys2Proof.Machine
end

section
/-! SUPPORT. Statement O17: EVENT bits and their message (R68, R70), and event counters that stay at their maximum (R74). -/

namespace Sys2Proof.Machine

theorem bit_and (v w : Word) (k : Nat) : bit (v &&& w) k = (bit v k && bit w k) := by
  rw [bit, BitVec.toNat_and, Nat.testBit_and]
  rfl

theorem eq_zero_iff_bit (w : Word) : w = 0 ↔ ∀ k, bit w k = false := by
  refine ⟨fun h k => ?_, fun h => BitVec.eq_of_toNat_eq (Nat.zero_of_testBit_eq_false h)⟩
  rw [h, bit]
  exact Nat.zero_testBit k

/-- Registers at two offsets of a page are two registers. -/
theorem regAt_ne {b : Blk} {i o o' : Nat} (h : o ≠ o') : regAt b i o ≠ regAt b i o' := fun e => h (Nat.add_left_cancel e)

/-- SATURATED is an EVENT bit of the page. -/
theorem RegMap.satEvent_lt {b : Blk} {e : Nat} (h : RegMap.satEvent b = some e) : e < 64 := by
  cases b <;> cases h <;> decide

namespace State

variable (s : State) (b : Blk) (i : Nat)

/-! ### The pending set and its message (R68, R70) -/

theorem msix_messaged (v : Nat) : Messaged s (s.msix v) v := by
  unfold Messaged msix
  dsimp only
  split
  · exact ⟨fun w => s.msixEntry_setMsix v w _, rfl⟩
  · rfl

theorem pendingSet_eq_zero_iff : s.pendingSet b i = 0 ↔
    ∀ k, (bit (s.rd (pageBase b i + Off.event)) k && bit (s.rd (pageBase b i + Off.eventEn)) k) = false := by
  simp only [pendingSet, eq_zero_iff_bit, bit_and]

variable {n : Nat}

/-- An empty pending set stays empty when a bit that EVENT_EN leaves out is set, and only then. -/
theorem pendingSet_setEvent (hn : n < 64) (h : s.pendingSet b i = 0) :
    (s.p b i Off.event n n 1).pendingSet b i = 0 ↔ bit (s.rd (pageBase b i + Off.eventEn)) n = false := by
  rw [pendingSet_eq_zero_iff] at h ⊢
  have hevent : (s.p b i Off.event n n 1).rd (pageBase b i + Off.event) = putBit (s.rd (pageBase b i + Off.event)) n true := by
    rw [rd_p, if_pos rfl]
    rfl
  have hen : (s.p b i Off.event n n 1).rd (pageBase b i + Off.eventEn) = s.rd (pageBase b i + Off.eventEn) := by
    rw [rd_p, if_neg (by simp)]
  rw [hevent, hen]
  refine ⟨fun hall => by simpa [bit_putBit_same _ hn] using hall n, fun hbit k => ?_⟩
  by_cases hk : k = n
  · rw [hk, hbit, Bool.and_false]
  · rw [bit_putBit_other _ hn hk]
    exact h k

/-- The message leaves on the page's vector when the pending set turns from empty to non-empty. -/
theorem raise_message (hn : n < 64) (h : s.pendingSet b i = 0) (hen : bit (s.rd (pageBase b i + Off.eventEn)) n = true) :
    s.raise b i n = (s.p b i Off.event n n 1).msix (s.eventVec b i) := by
  have hpend : (s.p b i Off.event n n 1).pendingSet b i ≠ 0 := fun h0 => by simp [(s.pendingSet_setEvent b i hn h).1 h0] at hen
  have hvec : (s.p b i Off.event n n 1).eventVec b i = s.eventVec b i := by rw [eventVec, g, rd_p, if_neg (by simp)]; rfl
  rw [raise, if_pos ⟨h, hpend⟩, hvec]

/-- No message leaves when the pending set was not empty, or stays empty. -/
theorem raise_silent (hn : n < 64) (h : s.pendingSet b i ≠ 0 ∨ bit (s.rd (pageBase b i + Off.eventEn)) n = false) :
    s.raise b i n = s.p b i Off.event n n 1 := by
  refine if_neg fun ⟨h0, hpend⟩ => ?_
  exact hpend ((s.pendingSet_setEvent b i hn h0).2 (h.resolve_left (not_not_intro h0)))

/-- An event of a page changes the page's EVENT register alone. -/
theorem raise_only_event : EventSet s (s.raise b i n) b i n ∧ RegsOnly [regAt b i Off.event] s (s.raise b i n) ∧
    Same [.regs, .hlk] s (s.raise b i n) :=
  ⟨s.rd_raise_same b i n, fun a ha => s.rd_raise b i n a (by simpa using ha), (s.raise_ext b i n).1⟩

/-! ### Event counters (R74) -/

/-- A sum that fits is what the counter holds. -/
theorem bump_fits {off : Nat} (hfits : (s.rd (pageBase b i + off)).toNat + n < 2 ^ 64) :
    (s.bump b i off n).rd (pageBase b i + off) = s.rd (pageBase b i + off) + BitVec.ofNat 64 n ∧
      RegsOnly [regAt b i off] s (s.bump b i off n) ∧ Same [.regs] s (s.bump b i off n) := by
  by_cases hn : n = 0
  · have hbump : s.bump b i off n = s := if_pos hn
    rw [hbump, hn]
    exact ⟨(BitVec.add_zero _).symm, fun _ _ => rfl, (Ext.refl _ s).1⟩
  · have hbump : s.bump b i off n = s.wr (pageBase b i + off) (s.rd (pageBase b i + off) + BitVec.ofNat 64 n) := by
      rw [bump, if_neg hn, if_pos hfits, BitVec.ofNat_add, BitVec.ofNat_toNat, BitVec.setWidth_eq]
    rw [hbump]
    exact ⟨rd_wr_same .., fun a ha => rd_wr_other _ _ (by simpa using ha), (State.wr_ext ..).1⟩

/-- A sum that does not fit leaves the counter at its maximum, and its CNT_SAT item saturates. -/
theorem bump_full {off : Nat} (hn : 0 < n) (hfull : 2 ^ 64 ≤ (s.rd (pageBase b i + off)).toNat + n) :
    s.bump b i off n = (s.wr (pageBase b i + off) (BitVec.allOnes 64)).saturate b i (satItem b off) := by
  rw [bump, if_neg (Nat.ne_of_gt hn), if_neg (Nat.not_lt.2 hfull)]
  rfl

variable (item : Nat)

/-- The page offset of an item's CNT_SAT word. -/
abbrev satWord : Nat := Off.cntSat + 8 * (item / 64)

/-- Saturating changes no word but the item's CNT_SAT word and the page's EVENT. -/
theorem rd_saturate {a : Nat} (he : a ≠ pageBase b i + Off.event) (hs : a ≠ pageBase b i + satWord item) :
    (s.saturate b i item).rd a = s.rd a := by
  have hp (v : Nat) : (s.p b i (satWord item) (item % 64) (item % 64) v).rd a = s.rd a := by rw [rd_p, if_neg hs]
  unfold saturate
  dsimp only
  split
  · rfl
  · split
    · rw [rd_raise _ _ _ _ _ he, hp]
    · exact hp 1

theorem saturate_bit : (s.saturate b i item).g b i (satWord item) (item % 64) (item % 64) = 1 := by
  have hbit : (s.p b i (satWord item) (item % 64) (item % 64) 1).g b i (satWord item) (item % 64) (item % 64) = 1 := by
    rw [g_p_same _ _ _ _ _ _ _ (Nat.le_refl _) (Nat.mod_lt _ (by decide)), Nat.add_sub_cancel_left]
    rfl
  have he : pageBase b i + satWord item ≠ pageBase b i + Off.event := regAt_ne (by simp only [satWord, Off.cntSat, Off.event]; omega)
  unfold saturate
  dsimp only
  split
  next hset => exact hset
  next =>
    split
    · rw [g, rd_raise _ _ _ _ _ he]
      exact hbit
    · exact hbit

/-- SATURATED is raised when the CNT_SAT bit was clear. -/
theorem saturate_event {e : Nat} (hclear : s.g b i (satWord item) (item % 64) (item % 64) = 0)
    (he : RegMap.satEvent b = some e) : (s.saturate b i item).g b i Off.event e e = 1 := by
  unfold saturate
  dsimp only
  rw [if_neg (by rw [hclear]; decide), he]
  exact fld_event_raise_same _ (RegMap.satEvent_lt he)

end State

/-- Settles O17: whether a message leaves follows from the pending set before and after, and a counter's word from its sum. -/
theorem eventsAndCounters : Obligations.EventsAndCounters := by
  refine ⟨fun s b i n hn => ?event, fun s b i off n hoff _ _ => ⟨s.bump_fits b i, fun hpos hfull => ?full⟩⟩
  case event =>
    obtain ⟨hset, honly, hsame⟩ := s.raise_only_event b i (n := n)
    refine ⟨hset, honly, hsame, fun h hen => ?_, fun h => by rw [s.raise_silent b i hn h]; rfl⟩
    rw [s.raise_message b i hn h hen]
    exact (s.p b i Off.event n n 1).msix_messaged (s.eventVec b i)
  case full =>
    rw [s.bump_full b i hpos hfull]
    let t := s.wr (regAt b i off) (BitVec.allOnes 64)
    have hitem := State.satItem_lt b off
    have hevent : regAt b i off ≠ regAt b i Off.event := regAt_ne (by simp only [Off.event]; omega)
    have hword : regAt b i off ≠ regAt b i (State.satWord (State.satItem b off)) :=
      regAt_ne (by simp only [State.satWord, Off.cntSat]; omega)
    refine ⟨(t.rd_saturate b i _ hevent hword).trans (State.rd_wr_same ..), ?_⟩
    rintro o m rfl rfl -
    refine ⟨t.saturate_bit b i _, fun hclear e he => t.saturate_event b i _ ?_ he⟩
    rw [State.g, State.rd_wr_other _ _ hword.symm]
    exact hclear

end Sys2Proof.Machine
end

section
/-! SUPPORT. Bytes of little-endian values (R5), and of lists made of pieces of one length. -/

namespace Sys2Proof.Machine

theorem bat_one (bs : Bytes) (k : Nat) : bat bs k 1 = (bs.getD k 0).toNat := by
  rw [bat, List.getD_eq_getElem?_getD, ← List.head?_drop]
  cases bs.drop k with
  | nil => rfl
  | cons b t => simp [leNat]

theorem leNat_byte (bs : Bytes) (i : Nat) : leNat bs / 256 ^ i % 256 = (bs.getD i 0).toNat := by
  induction bs generalizing i with
  | nil => simp [leNat]
  | cons b t ih =>
    have hb := b.isLt
    cases i with
    | zero => simp only [leNat, List.getD_cons_zero]; omega
    | succ i =>
      rw [List.getD_cons_succ, ← ih, leNat, Nat.pow_succ', ← Nat.div_div_eq_div_mul]
      congr 2
      omega

theorem leNat_lt (bs : Bytes) : leNat bs < 256 ^ bs.length := by
  induction bs with
  | nil => decide
  | cons b t ih =>
    have hb := b.isLt
    rw [leNat, List.length_cons, Nat.pow_succ]
    omega

theorem natBytes_getD {n i : Nat} (v : Nat) (h : i < n) : (natBytes n v).getD i 0 = BitVec.ofNat 8 (v / 256 ^ i) := by
  induction n generalizing v i with
  | zero => omega
  | succ n ih =>
    cases i with
    | zero => simp [natBytes]
    | succ i => rw [natBytes, List.getD_cons_succ, ih _ (by omega), Nat.div_div_eq_div_mul, Nat.pow_succ']

/-- A byte of a list made of pieces of one length. -/
theorem getD_flatten {m i : Nat} {l : List Bytes} (hl : ∀ x ∈ l, x.length = m) (hi : i < m) (j : Nat) :
    l.flatten.getD (m * j + i) 0 = (l.getD j []).getD i 0 := by
  induction l generalizing j with
  | nil => simp
  | cons x l ih =>
    have hx : x.length = m := hl x (by simp)
    cases j with
    | zero => rw [Nat.mul_zero, Nat.zero_add, List.flatten_cons, List.getD_append _ _ _ _ (by omega), List.getD_cons_zero]
    | succ j =>
      rw [List.flatten_cons, List.getD_append_right _ _ _ _ (by rw [hx, Nat.mul_succ]; omega), List.getD_cons_succ,
        ← ih (fun y hy => hl y (by simp [hy])), hx, Nat.mul_succ]
      congr 1
      omega

end Sys2Proof.Machine
end

section
/-! SUPPORT. Statement O27: the mailbox takes one command at a time, and its command ends by a response, a timeout or a restart of the
wellhead (R100, R101). -/

namespace Sys2Proof.Machine

namespace State

variable (s : State)

/-- A write to a page that is READY is made (R40). -/
theorem pageWrite_ready {b : Blk} {i : Nat} (off : Nat) (f : State → State) (hi : i < pageCount b) (hr : s.ready b i = true) :
    s.pageWrite b i off f = f s := by
  rw [pageWrite, if_neg (Nat.not_le.2 hi), hr, if_neg (by decide)]

/-! ### GO while a command is in flight (R101) -/

/-- Every row of the mailbox is rejected while a command is in flight. -/
theorem mbxRow_busy {op : Nat} {seq len : BitVec 16} {p : Bytes → Bool} (hr : s.ready .mbx 0 = true)
    (hgo : s.g .mbx 0 Off.mbxCmd 63 63 = 1) (hp : p (s.mbxPayload 2048) = true) :
    s.mbxRow op seq len p = s.raise .mbx 0 Ev.mbxBusyReject := by
  rw [mbxRow, s.pageWrite_ready _ _ (by decide) hr, if_pos hp, mbxGo, if_pos hgo]

theorem raise_busy_spec : EventSet s (s.raise .mbx 0 Ev.mbxBusyReject) .mbx 0 Ev.mbxBusyReject ∧
    RegsOnly [regAt .mbx 0 Off.event] s (s.raise .mbx 0 Ev.mbxBusyReject) ∧
    Same [.regs, .hlk] s (s.raise .mbx 0 Ev.mbxBusyReject) ∧ (s.raise .mbx 0 Ev.mbxBusyReject).hlk.mbx = s.hlk.mbx := by
  obtain ⟨hset, honly, hsame⟩ := s.raise_only_event .mbx 0 (n := Ev.mbxBusyReject)
  exact ⟨hset, honly, hsame, (s.raise_rings_mbx ..).2⟩

/-! ### A command that is taken (R101) -/

/-- MBX_CMD of a command in flight. -/
def goWord (op seq len : Nat) : Word := BitVec.ofNat 64 (2 ^ 63 + seq % 65536 * 2 ^ 32 + len % 65536 * 2 ^ 16 + op % 65536)

theorem fld_goWord (op seq len : Nat) : fld (goWord op seq len) 63 63 = 1 := by
  simp only [fld, nfld, goWord, BitVec.toNat_ofNat]
  omega

/-- The state with another mailbox command in hand, or none. -/
def setMbx (x : Option MbxRun) : State := { s with hlk := { s.hlk with mbx := x } }

theorem setMbx_rd (x : Option MbxRun) (a : Nat) : (s.setMbx x).rd a = s.rd a := rfl

theorem setMbx_setMbx (x y : Option MbxRun) : (s.setMbx x).setMbx y = s.setMbx y := rfl

theorem setMbx_ext (x : Option MbxRun) : Ext [.hlk] s (s.setMbx x) := Ext.set_hlk ..

/-- The mailbox with a command in hand: its word in MBX_CMD, DONE 0. -/
def mbxTaken (op seq len : Nat) (x : MbxRun) : State :=
  ((s.wr (regAt .mbx 0 Off.mbxCmd) (goWord op seq len)).p .mbx 0 Off.mbxResp 63 63 0).setMbx (some x)

theorem mbxTaken_ext (op seq len : Nat) (x : MbxRun) : Ext [.regs, .hlk] s (s.mbxTaken op seq len x) :=
  .step (setMbx_ext ..) rfl (.step (p_ext ..) rfl (.step (wr_ext ..) rfl (Ext.refl _ _)))

theorem mbxTaken_rd (op seq len : Nat) (x : MbxRun) (a : Nat) : (s.mbxTaken op seq len x).rd a =
    if a = regAt .mbx 0 Off.mbxResp then putFld (s.rd a) 63 63 0
    else if a = regAt .mbx 0 Off.mbxCmd then goWord op seq len else s.rd a := by
  rw [mbxTaken, setMbx_rd, rd_p]
  split
  next h => rw [rd_wr, if_neg (by rw [h]; decide)]
  next => exact rd_wr ..

/-- GO with no command in flight: the command is taken, and the wellhead serves it. -/
theorem mbxGo_free {op seq len : Nat} (h : s.g .mbx 0 Off.mbxCmd 63 63 = 0) : s.mbxGo op seq len =
    (s.mbxTaken op seq len { op := BitVec.ofNat 16 op, seq := BitVec.ofNat 16 seq, answer := none }).mbxServe :=
  if_neg (by rw [h]; decide)

/-- The wellhead answers an opcode outside its table with BAD_OPCODE, and does nothing else (R100). -/
theorem mbxServe_badOpcode {x : MbxRun} (hx : s.hlk.mbx = some x) (hnew : x.answer = none) (hrun : s.sec.running = true)
    (hwhole : s.sec.recovery = false) (hquiet : s.quiet .mbx 0 = false) (hop : x.op.toNat ∉ mbxOpcodes) :
    s.mbxServe = s.setMbx (some { x with answer := some (1, []) }) := by
  simp [mbxServe, mbxRun, setMbx, hx, hnew, hrun, hwhole, hquiet, hop]

/-- An opcode outside the table is taken and answered at once. -/
theorem mbxGo_badOpcode {op seq : BitVec 16} {len : Nat} (h : MbxFree s) (hop : op.toNat ∉ mbxOpcodes) :
    s.mbxGo op.toNat seq.toNat len = s.mbxTaken op.toNat seq.toNat len { op := op, seq := seq, answer := some (1, []) } := by
  obtain ⟨-, hidle, hquiet, hrun, hwhole⟩ := h
  rw [s.mbxGo_free hidle, BitVec.ofNat_toNat, BitVec.setWidth_eq, BitVec.ofNat_toNat, BitVec.setWidth_eq]
  have hsec : (s.mbxTaken op.toNat seq.toNat len { op := op, seq := seq, answer := none }).sec = s.sec := (mbxTaken_ext ..).1 .sec (by simp)
  have hloud : (s.mbxTaken op.toNat seq.toNat len { op := op, seq := seq, answer := none }).quiet .mbx 0 = false := by
    rw [← hquiet, quiet, quiet, g, g, mbxTaken_rd, if_neg (by decide), if_neg (by decide)]
  rw [mbxServe_badOpcode _ rfl rfl (by rw [hsec, hrun]) (by rw [hsec, hwhole]) hloud hop, mbxTaken, setMbx_setMbx, mbxTaken]

theorem mbxTaken_has (op seq : BitVec 16) (len st : Nat) (bs : Bytes) :
    MbxHas (s.mbxTaken op.toNat seq.toNat len { op := op, seq := seq, answer := some (BitVec.ofNat 16 st, bs) }) op.toNat seq st bs := by
  refine ⟨?_, ?_, ?_⟩
  · rw [BitVec.ofNat_toNat, BitVec.setWidth_eq]
    rfl
  · rw [g, mbxTaken_rd, if_neg (by decide), if_pos rfl, fld_goWord]
  · rw [g, mbxTaken_rd, if_pos rfl, fld_putFld_same]
    rfl

/-! ### A command that ends (R101) -/

/-- The command's end: MBX_RESP is `w`, GO reads 0, CMD_DONE is raised; the page's other events stay. -/
structure MbxEnded (u : State) (w : Word) : Prop where
  command : u.hlk.mbx = none
  resp : u.rd (regAt .mbx 0 Off.mbxResp) = w
  go : u.g .mbx 0 Off.mbxCmd 63 63 = 0
  done : u.g .mbx 0 Off.event Ev.mbxCmdDone Ev.mbxCmdDone = 1
  events : ∀ m, m ≠ Ev.mbxCmdDone → u.g .mbx 0 Off.event m m = s.g .mbx 0 Off.event m m

/-- MBX_RESP of a command that has ended. -/
def respWord (seq status len : Nat) : Word := BitVec.ofNat 64 (2 ^ 63 + seq * 2 ^ 32 + len * 2 ^ 16 + status)

theorem respWord_empty (seq status : Nat) : respWord seq status ([] : Bytes).length = BitVec.ofNat 64 (2 ^ 63 + seq * 2 ^ 32 + status) := by
  rw [respWord, List.length_nil, Nat.zero_mul, Nat.add_zero]

/-- The mailbox with no command in flight, GO 0, and a word in MBX_RESP. -/
def mbxClosed (w : Word) : State :=
  ((s.wr (regAt .mbx 0 Off.mbxResp) w).p .mbx 0 Off.mbxCmd 63 63 0).setMbx none

theorem mbxClosed_rd (w : Word) (a : Nat) : (s.mbxClosed w).rd a = if a = regAt .mbx 0 Off.mbxCmd then putFld (s.rd a) 63 63 0
    else if a = regAt .mbx 0 Off.mbxResp then w else s.rd a := by
  rw [mbxClosed, setMbx_rd, rd_p]
  split
  next h => rw [rd_wr, if_neg (by rw [h]; decide)]
  next => exact rd_wr ..

/-- The response's bytes in the payload buffer. -/
def answered (bs : Bytes) : State := if bs = [] then s else s.setPayload bs

theorem mbxDone_eq (seq status : Nat) (bs : Bytes) :
    s.mbxDone seq status bs = ((s.answered bs).mbxClosed (respWord seq status bs.length)).raise .mbx 0 Ev.mbxCmdDone := rfl

/-- A word of MBX_PAYLOAD. -/
abbrev payloadAt (k : Nat) : Nat := regAt .mbx 0 Off.mbxPayload + 8 * k

/-- Words written to MBX_PAYLOAD, in order. -/
def putWords (w : Nat → Word) (n : Nat) : State := (List.range n).foldl (fun s k => s.wr (payloadAt k) (w k)) s

theorem putWords_succ (w : Nat → Word) (n : Nat) : s.putWords w (n + 1) = (s.putWords w n).wr (payloadAt n) (w n) := by
  rw [putWords, List.range_succ, List.foldl_append]
  rfl

theorem putWords_rd_other (w : Nat → Word) {n a : Nat} (h : ∀ k, k < n → a ≠ payloadAt k) : (s.putWords w n).rd a = s.rd a := by
  induction n with
  | zero => rfl
  | succ n ih => rw [putWords_succ, rd_wr_other _ _ (h n (Nat.lt_succ_self n)), ih fun k hk => h k (Nat.lt_succ_of_lt hk)]

theorem putWords_rd (w : Nat → Word) {n k : Nat} (h : k < n) : (s.putWords w n).rd (payloadAt k) = w k := by
  induction n with
  | zero => omega
  | succ n ih =>
    rw [putWords_succ, rd_wr]
    split
    next he => rw [Nat.eq_of_mul_eq_mul_left (by decide) (Nat.add_left_cancel he)]
    next he => exact ih (Nat.lt_of_le_of_ne (Nat.le_of_lt_succ h) fun e => he (by rw [e]))

theorem setPayload_eq (bs : Bytes) : s.setPayload bs =
    s.putWords (fun k => BitVec.ofNat 64 (bat (bs ++ (s.mbxPayload 2048).drop bs.length) (8 * k) 8)) 256 := rfl

/-- The response leaves every register below MBX_PAYLOAD alone. -/
theorem answered_rd (bs : Bytes) {a : Nat} (h : a < payloadAt 0) : (s.answered bs).rd a = s.rd a := by
  unfold answered
  split
  · rfl
  · rw [setPayload_eq, putWords_rd_other]
    intro k _
    simp only [payloadAt] at h ⊢
    omega

/-- A byte of MBX_PAYLOAD, from its word (R5). -/
theorem mbxPayload_byte {k : Nat} (h : k < 2048) :
    bat (s.mbxPayload 2048) k 1 = (s.rd (payloadAt (k / 8))).toNat / 256 ^ (k % 8) % 256 := by
  have hpieces : ∀ x ∈ (List.range 256).map fun j => natBytes 8 (s.rd (payloadAt j)).toNat, x.length = 8 := by simp
  have hword : ((List.range 256).map fun j => natBytes 8 (s.rd (payloadAt j)).toNat).getD (k / 8) [] =
      natBytes 8 (s.rd (payloadAt (k / 8))).toNat := by
    have hk : k / 8 < 256 := by omega
    simp [List.getD_eq_getElem?_getD, hk]
  have hbyte := getD_flatten hpieces (Nat.mod_lt k (show 0 < 8 by decide)) (k / 8)
  rw [Nat.div_add_mod, hword, natBytes_getD _ (Nat.mod_lt k (by decide))] at hbyte
  have htake (l : Bytes) : (l.take 2048).getD k 0 = l.getD k 0 := by
    rw [List.getD_eq_getElem?_getD, List.getElem?_take_of_lt h, List.getD_eq_getElem?_getD]
  rw [bat_one, mbxPayload, htake]
  exact congrArg BitVec.toNat hbyte

/-- The response's bytes read back from the payload buffer. -/
theorem answered_byte {bs : Bytes} (hlen : bs.length ≤ 2048) {k : Nat} (h : k < bs.length) :
    ((s.answered bs).rd (payloadAt (k / 8))).toNat / 256 ^ (k % 8) % 256 = (bs.getD k 0).toNat := by
  have hk : k % 8 < 8 := Nat.mod_lt k (by decide)
  let l := ((bs ++ (s.mbxPayload 2048).drop bs.length).drop (8 * (k / 8))).take 8
  have hword : (s.answered bs).rd (payloadAt (k / 8)) = BitVec.ofNat 64 (leNat l) := by
    rw [answered, if_neg (List.ne_nil_of_length_pos (Nat.zero_lt_of_lt h)), setPayload_eq, putWords_rd _ _ (by omega)]
    rfl
  have hlt : leNat l < 2 ^ 64 := Nat.lt_of_lt_of_le (leNat_lt l) (Nat.pow_le_pow_right (by decide) (List.length_take_le 8 _))
  have hbyte : l.getD (k % 8) 0 = bs.getD k 0 := by
    simp only [l, List.getD_eq_getElem?_getD]
    rw [List.getElem?_take_of_lt hk, List.getElem?_drop, Nat.div_add_mod, List.getElem?_append_left h]
  rw [hword, BitVec.toNat_ofNat, Nat.mod_eq_of_lt hlt, leNat_byte, hbyte]

theorem mbxDone_ended (seq status : Nat) (bs : Bytes) : MbxEnded s (s.mbxDone seq status bs) (respWord seq status bs.length) := by
  rw [mbxDone_eq]
  let t := (s.answered bs).mbxClosed (respWord seq status bs.length)
  have hcmd : t.rd (regAt .mbx 0 Off.mbxCmd) = putFld (s.rd (regAt .mbx 0 Off.mbxCmd)) 63 63 0 := by
    rw [mbxClosed_rd, if_pos rfl, s.answered_rd bs (by decide)]
  have hevent : t.rd (regAt .mbx 0 Off.event) = s.rd (regAt .mbx 0 Off.event) := by
    rw [mbxClosed_rd, if_neg (by decide), if_neg (by decide), s.answered_rd bs (by decide)]
  refine ⟨(t.raise_rings_mbx ..).2, ?_, ?_, t.fld_event_raise_same (by decide), fun m hm => ?_⟩
  · rw [t.rd_raise _ _ _ _ (by decide), mbxClosed_rd, if_neg (by decide), if_pos rfl]
  · rw [g, t.rd_raise _ _ _ _ (by decide), hcmd, fld_putFld_same]
    rfl
  · exact (t.fld_event_raise (by decide) hm).trans (congrArg (fld · m m) hevent)

/-- The end of a command leaves the response's bytes in the payload buffer. -/
theorem mbxDone_payload {bs : Bytes} (hlen : bs.length ≤ 2048) (seq status : Nat) {k : Nat} (h : k < bs.length) :
    bat ((s.mbxDone seq status bs).mbxPayload 2048) k 1 = (bs.getD k 0).toNat := by
  have hne (a : Nat) (ha : a < payloadAt 0) : payloadAt (k / 8) ≠ a := by
    simp only [payloadAt] at ha ⊢
    omega
  rw [mbxPayload_byte _ (Nat.lt_of_lt_of_le h hlen), mbxDone_eq, rd_raise _ _ _ _ _ (hne _ (by decide)), mbxClosed_rd,
    if_neg (hne _ (by decide)), if_neg (hne _ (by decide))]
  exact s.answered_byte hlen h

/-- A restart of the wellhead on its watchdog, with a command in flight (R32, R101). -/
theorem wellheadRestart_eq {x : MbxRun} (h : s.hlk.mbx = some x) :
    s.wellheadRestart = (s.wellheadDown.raise .mbx 0 Ev.mbxWellheadRestart).mbxDone x.seq.toNat 3 [] := by
  have hmbx : (s.wellheadDown.raise .mbx 0 Ev.mbxWellheadRestart).hlk.mbx = some x := (raise_rings_mbx ..).2.trans h
  simp only [wellheadRestart, hmbx]

end State

/-! ### The commands -/

section

variable {s : State} {seq len : BitVec 16}

/-- The rows whose opcode alone names them. -/
theorem exec_mbxRow_busy (hr : s.ready .mbx 0 = true) (hgo : s.g .mbx 0 Off.mbxCmd 63 63 = 1) :
    ∀ c ∈ [Instr.getInfo seq len, .faultLogOpen seq len, .faultRead seq len, .tlmRead seq len, .fwStage seq len],
      exec c s = .next (s.raise .mbx 0 Ev.mbxBusyReject) := by
  have hrow (op : Nat) : s.mbxRow op seq len = s.raise .mbx 0 Ev.mbxBusyReject := s.mbxRow_busy hr hgo rfl
  intro c hc
  fin_cases hc <;> exact congrArg _ (hrow _)

/-- The rows that a byte of the payload tells apart. -/
theorem exec_mbxByteRow_busy (hr : s.ready .mbx 0 = true) (hgo : s.g .mbx 0 Off.mbxCmd 63 63 = 1) :
    ∀ e ∈ [(Instr.fwActivateTrial seq len, 0, 0), (.fwActivateRestart seq len, 0, 1), (.fwActivateCancel seq len, 0, 2),
        (.getNonce seq len, 0, 0), (.unlock seq len, 0, 1), (.lock seq len, 0, 2), (.provision seq len, 0, 3), (.revoke seq len, 0, 4),
        (.xltResolveRetry seq len, 4, 0), (.xltResolveFail seq len, 4, 1)],
      bat (s.mbxPayload 2048) e.2.1 1 = e.2.2 → exec e.1 s = .next (s.raise .mbx 0 Ev.mbxBusyReject) := by
  have hrow (op o v : Nat) (h : bat (s.mbxPayload 2048) o 1 = v) :
      s.mbxRow op seq len (fun p => bat p o 1 = v) = s.raise .mbx 0 Ev.mbxBusyReject := s.mbxRow_busy hr hgo (decide_eq_true h)
  intro e he hbyte
  fin_cases he <;> exact congrArg _ (hrow _ _ _ hbyte)

theorem exec_mbxBadOpcode {op : BitVec 16} (hop : op.toNat ∉ State.mbxOpcodes) :
    exec (.mbxBadOpcode seq len op) s = .next (s.mbxRow op.toNat seq len) := congrArg _ (if_neg (by simpa using hop))

theorem exec_mbxBadOpcode_free {op : BitVec 16} (hop : op.toNat ∉ State.mbxOpcodes) (h : MbxFree s) :
    exec (.mbxBadOpcode seq len op) s =
      .next (s.mbxTaken op.toNat seq.toNat len.toNat { op := op, seq := seq, answer := some (1, []) }) := by
  rw [exec_mbxBadOpcode hop, State.mbxRow, s.pageWrite_ready _ _ (by decide) h.ready, if_pos rfl, s.mbxGo_badOpcode h hop]

theorem exec_mbxResponse {x : MbxRun} {st : BitVec 16} {bs : Bytes} (hx : s.hlk.mbx = some x) (hans : x.answer = some (st, bs)) :
    exec .mbxResponse s = .next (s.mbxDone x.seq.toNat st.toNat bs) := by
  change execMbxResponse s = _
  simp only [execMbxResponse, hx, hans]

theorem exec_mbxTimeout {x : MbxRun} (hx : s.hlk.mbx = some x) (h : x.answer.isSome = true ∨ s.quiet .mbx 0 = false) :
    exec .mbxTimeout s = .next ((s.raise .mbx 0 Ev.mbxTimeout).mbxDone x.seq.toNat 4 []) := by
  have hruns : ¬(x.answer.isNone = true ∧ s.quiet .mbx 0 = true) := fun ⟨hnone, hquiet⟩ => by
    rcases h with h | h
    · simp [Option.isNone_iff_eq_none.1 hnone] at h
    · rw [hquiet] at h
      cases h
  change execMbxTimeout s = _
  simp only [execMbxTimeout, hx, if_neg hruns]

/-- With no command in flight nothing answers and nothing times out. -/
theorem exec_mbx_idle (hx : s.hlk.mbx = none) : exec .mbxResponse s = .next s ∧ exec .mbxTimeout s = .next s := by
  refine ⟨?_, ?_⟩
  · change execMbxResponse s = _
    simp only [execMbxResponse, hx]
  · change execMbxTimeout s = _
    simp only [execMbxTimeout, hx]

theorem exec_wellheadWatchdogExpiry {x : MbxRun} (hstandby : s.power.standby = true) (hrun : s.sec.running = true)
    (hx : s.hlk.mbx = some x) : exec .wellheadWatchdogExpiry s =
      .next ((s.wellheadDown.raise .mbx 0 Ev.mbxWellheadRestart).mbxDone x.seq.toNat 3 []) :=
  congrArg _ ((if_pos ⟨hstandby, hrun⟩).trans (s.wellheadRestart_eq hx))

end

/-- Settles O27: GO is rejected or takes the command, and `State.mbxDone` ends a command in each of the three ways. -/
theorem mailboxProtocol : Obligations.MailboxProtocol := by
  intro s seq len
  refine ⟨fun hr hgo c hc => ⟨_, exec_mbxRow_busy hr hgo c hc, s.raise_busy_spec⟩,
    fun hr hgo e he hbyte => ⟨_, exec_mbxByteRow_busy hr hgo e he hbyte, s.raise_busy_spec⟩,
    fun op hr hgo hop => ⟨_, (exec_mbxBadOpcode hop).trans (congrArg _ (s.mbxRow_busy hr hgo rfl)), s.raise_busy_spec⟩,
    exec_mbx_idle, fun op hfree hop => ?taken, fun x st bs hx hans hlen => ?response, fun x hx h => ?timeout,
    fun x hstandby hrun hx => ?restart⟩
  case taken =>
    exact ⟨_, exec_mbxBadOpcode_free hop hfree, s.mbxTaken_has op seq len.toNat 1 [], (s.mbxTaken_ext ..).1⟩
  case response =>
    have hexec := exec_mbxResponse hx hans
    obtain ⟨hcommand, hresp, hgo, hdone, -⟩ := s.mbxDone_ended x.seq.toNat st.toNat bs
    exact ⟨_, hexec, hcommand, hresp, hgo, hdone, fun k hk => s.mbxDone_payload hlen _ _ hk, exec_same hexec⟩
  case timeout =>
    have hexec := exec_mbxTimeout hx h
    obtain ⟨hcommand, hresp, hgo, hdone, hevents⟩ := (s.raise .mbx 0 Ev.mbxTimeout).mbxDone_ended x.seq.toNat 4 []
    have htimeout := (hevents Ev.mbxTimeout (by decide)).trans (s.fld_event_raise_same (by decide))
    exact ⟨_, hexec, hcommand, hresp.trans (State.respWord_empty ..), hgo, htimeout, hdone, exec_same hexec⟩
  case restart =>
    have hexec := exec_wellheadWatchdogExpiry hstandby hrun hx
    let t := s.wellheadDown.raise .mbx 0 Ev.mbxWellheadRestart
    obtain ⟨hcommand, hresp, -, -, hevents⟩ := t.mbxDone_ended x.seq.toNat 3 []
    have hrestart := (hevents Ev.mbxWellheadRestart (by decide)).trans (s.wellheadDown.fld_event_raise_same (by decide))
    have hsec : (t.mbxDone x.seq.toNat 3 []).sec = s.wellheadDown.sec :=
      (Ext.step (State.mbxDone_ext ..) rfl (State.raise_ext s.wellheadDown .mbx 0 Ev.mbxWellheadRestart)).1 .sec (by simp)
    exact ⟨_, hexec, hsec, hcommand, hresp.trans (State.respWord_empty ..), hrestart, exec_same hexec⟩

end Sys2Proof.Machine
end

section
/-! SUPPORT. Statement O23: a ring opens, closes and is reset, and its doorbells (R91 to R94, R99, R106). -/

namespace Sys2Proof.Machine

/-- A fold whose steps leave the state alone. -/
theorem foldl_eq_self {α β : Type} {f : α → β → α} {l : List β} (h : ∀ x ∈ l, ∀ a, f a x = a) (a : α) : l.foldl f a = a := by
  induction l with
  | nil => rfl
  | cons x l ih => rw [List.foldl_cons, h x (by simp), ih fun y hy => h y (by simp [hy])]

namespace State

variable (s : State) (r : Nat)

/-! ### HLK_RCFG (R91) -/

/-- ENABLE leaves the other fields of a word for HLK_RCFG alone. -/
theorem enable_fields (v : Word) (b : Bool) : fld (putBit v 0 b) 20 16 = fld v 20 16 ∧ fld (putBit v 0 b) 47 40 = fld v 47 40 ∧
    bit (putBit v 0 b) 1 = bit v 1 ∧ bit (putBit v 0 b) 63 = bit v 63 ∧ bit (putBit v 0 b) 0 = b := by
  refine ⟨?_, ?_, bit_putBit_other _ (by decide) (by decide) _, bit_putBit_other _ (by decide) (by decide) _,
    bit_putBit_same _ (by decide) _⟩
  · exact fld_putFld_above _ _ (by decide) (by decide) (by decide)
  · exact fld_putFld_above _ _ (by decide) (by decide) (by decide)

theorem rcfgMask_fields (v : Word) : fld (rcfgMask v) 20 16 = fld v 20 16 ∧ bit (rcfgMask v) 0 = bit v 0 := by
  have hsize : fld (rcfgMask v) 20 16 = fld v 20 16 := by
    simp only [fld, nfld, rcfgMask, BitVec.toNat_ofNat]
    omega
  have henable : fld (rcfgMask v) 0 0 = fld v 0 0 := by
    simp only [fld, nfld, rcfgMask, BitVec.toNat_ofNat]
    omega
  exact ⟨hsize, by rw [bit_eq_fld, bit_eq_fld, henable]⟩

theorem rcfgAt_ge : 0x10400 ≤ rcfgAt r := Nat.le_add_right _ _

theorem rcfgAt_ne {a : Nat} (h : a < 0x10400) : a ≠ rcfgAt r := Nat.ne_of_lt (Nat.lt_of_lt_of_le h (rcfgAt_ge r))

/-- A write to HLK_RCFG of a ring while HLK is READY. -/
theorem ringWrite_ready {r : Nat} (hr : r < 64) (hready : s.ready .hlk 0 = true) (f : State → State) : s.ringWrite r f = f s := by
  rw [ringWrite, if_neg (Nat.not_le.2 hr), s.pageWrite_ready _ _ (by decide) hready]

/-! ### Rings after an update -/

theorem ring_of_rings {s u : State} (h : u.hlk.rings = s.hlk.rings) (q : Nat) : u.ring q = s.ring q := by rw [ring, h, ring]

theorem ring_raise (b : Blk) (i n q : Nat) : (s.raise b i n).ring q = s.ring q := ring_of_rings (s.raise_rings_mbx b i n).1 q

theorem ring_wr (a : Nat) (w : Word) (q : Nat) : (s.wr a w).ring q = s.ring q := rfl

theorem ring_p (b : Blk) (i o hi lo v q : Nat) : (s.p b i o hi lo v).ring q = s.ring q := rfl

theorem ring_setRing_same (x : Ring) : (s.setRing r x).ring r = x := (s.ring_setRing r r x).trans (if_pos rfl)

theorem ring_setRing_other {r q : Nat} (x : Ring) (h : q ≠ r) : (s.setRing r x).ring q = s.ring q :=
  (s.ring_setRing r q x).trans (if_neg h)

theorem ringSize_setRing (x : Ring) (q : Nat) : (s.setRing r x).ringSize q = s.ringSize q := rfl

/-! ### Opening (R93) -/

/-- The codes that both sides accept depend on the interface's own register alone. -/
theorem mine_congr {s u : State} {n : Nat} (h : u.rd (regAt .dev 0 (Off.devIf + 8 * n)) = s.rd (regAt .dev 0 (Off.devIf + 8 * n))) :
    u.mine n = s.mine n := by
  have hg (hi lo : Nat) : u.g .dev 0 (Off.devIf + 8 * n) hi lo = s.g .dev 0 (Off.devIf + 8 * n) hi lo := congrArg (fld · hi lo) h
  simp only [mine, hg]

/-- The ring's writable fields as the open writes them. -/
def rcfgPut (v : Word) : State := s.wr (rcfgAt r) (rcfgMask v)

theorem rcfgPut_mine (v : Word) (n : Nat) (h : n < 8) : (s.rcfgPut r v).mine n = s.mine n :=
  mine_congr (rd_wr_other _ _ (rcfgAt_ne r (by simp only [regAt, pageBase, Off.devIf]; omega)))

theorem openRing_badSize {v : Word} (h : fld v 20 16 < 6 ∨ 16 < fld v 20 16) :
    s.openRing r v = (s.rcfgPut r v).setRing r { ringClosed with err := 5 } := if_pos h

/-- Interface 2 has taken a format; or has refused it. -/
def formatTaken (f : Nat) : State := (s.p .dev 0 (Off.devIf + 8 * 2) 31 24 f).p .dev 0 (Off.devIf + 8 * 2) 16 16 0
def formatRefused : State := (s.p .dev 0 (Off.devIf + 8 * 2) 16 16 1).raise .dev 0 Ev.devNegotiateFail

variable {v : Word} (hlow : 6 ≤ fld v 20 16) (hhigh : fld v 20 16 ≤ 16)

include hlow hhigh

theorem openRing_noFormat (h : fld v 47 40 ∉ s.mine 2) :
    s.openRing r v = (s.rcfgPut r v).formatRefused.setRing r { ringClosed with err := 4 } := by
  have hneg : (s.rcfgPut r v).negotiate 2 (fun c => c = fld v 47 40) = ((s.rcfgPut r v).formatRefused, none) := by
    refine negotiate_none _ fun c hc he => h ?_
    rw [s.rcfgPut_mine r v 2 (by decide)] at hc
    exact of_decide_eq_true he ▸ hc
  unfold rcfgPut at hneg ⊢
  simp only [openRing]
  rw [if_neg (by omega), hneg]

theorem openRing_format (h : fld v 47 40 ∈ s.mine 2) : s.openRing r v = ((s.rcfgPut r v).formatTaken (fld v 47 40)).setRing r
    { ringClosed with fmt := BitVec.ofNat 8 (fld v 47 40), phase := true, st := 1, fill := bit v 1 } := by
  have hneg : (s.rcfgPut r v).negotiate 2 (fun c => c = fld v 47 40) =
      ((s.rcfgPut r v).formatTaken (fld v 47 40), some (fld v 47 40)) := by
    rw [← s.rcfgPut_mine r v 2 (by decide)] at h
    refine negotiate_chosen _ ?_ h (decide_eq_true rfl) fun c _ he => Nat.le_of_eq (of_decide_eq_true he)
    exact List.Pairwise.filter _ (show (ifCodes 2).Pairwise (· < ·) by decide)
  unfold rcfgPut at hneg ⊢
  simp only [openRing]
  rw [if_neg (by omega), hneg]

omit hlow hhigh

theorem formatTaken_ring (f q : Nat) : ((s.rcfgPut r v).formatTaken f).ring q = s.ring q := by
  rw [formatTaken, ring_p, ring_p, rcfgPut, ring_wr]

/-- SIZE of the ring, as the open wrote it. -/
theorem formatTaken_ringSize (f : Nat) : ((s.rcfgPut r v).formatTaken f).ringSize r = 2 ^ fld v 20 16 := by
  have hrd : ((s.rcfgPut r v).formatTaken f).rd (rcfgAt r) = rcfgMask v := by
    have hne : rcfgAt r ≠ pageBase .dev 0 + (Off.devIf + 8 * 2) := (rcfgAt_ne r (by decide)).symm
    rw [formatTaken, rd_p, if_neg hne, rd_p, if_neg hne, rcfgPut, rd_wr_same]
  rw [ringSize, rcfg, ← (rcfgMask_fields v).1, ← hrd]
  rfl

theorem formatRefused_event : s.formatRefused.g .dev 0 Off.event Ev.devNegotiateFail Ev.devNegotiateFail = 1 :=
  fld_event_raise_same _ (by decide)

/-- A write of HLK_RCFG with ENABLE 1 opens a closed ring. -/
theorem writeRcfg_open {r : Nat} (hst : (s.ring r).st = 0) (hreset : bit v 63 = false) :
    s.writeRcfg r (putBit v 0 true) = s.openRing r (putBit v 0 true) := by
  obtain ⟨-, -, -, hkeep, henable⟩ := enable_fields v true
  unfold writeRcfg
  dsimp only
  rw [if_neg (by rw [hst]; decide), if_neg (by rw [hkeep, hreset]; decide), if_pos hst, if_pos henable]

/-! ### Closing (R106) -/

/-- An open ring as a close leaves it: ENABLE 0, and no more fetching. -/
def closing : State := (s.rcfgPut r (putBit (s.rcfg r) 0 false)).setRing r { s.ring r with closing := true }

theorem writeRcfg_close {r : Nat} (hst : (s.ring r).st = 1) (hreset : bit (s.rcfg r) 63 = false) :
    s.writeRcfg r (putBit (s.rcfg r) 0 false) = s.closing r := by
  obtain ⟨-, -, -, hkeep, henable⟩ := enable_fields (s.rcfg r) false
  unfold writeRcfg
  dsimp only
  rw [if_neg (by rw [hst]; decide), if_neg (by rw [hkeep, hreset]; decide), if_neg (by rw [hst]; decide),
    if_neg (by rw [henable]; decide)]
  rfl

theorem closing_spec : (∀ q, (s.closing r).ring q = if q = r then { s.ring r with closing := true } else s.ring q) ∧
    bit ((s.closing r).rcfg r) 0 = false ∧ RegsOnly [rcfgAt r] s (s.closing r) ∧ Same [.regs, .hlk] s (s.closing r) := by
  refine ⟨fun q => ring_setRing _ r q _, ?_, fun a ha => ?_, (Ext.step (setRing_ext ..) rfl (.step (wr_ext ..) rfl (Ext.refl _ _))).1⟩
  · have hrd : (s.closing r).rcfg r = rcfgMask (putBit (s.rcfg r) 0 false) := rd_wr_same ..
    obtain ⟨-, -, -, -, henable⟩ := enable_fields (s.rcfg r) false
    rw [hrd, (rcfgMask_fields _).2, henable]
  · exact rd_wr_other _ _ (by simpa using ha)

/-! ### A Queue reset (R99) -/

/-- The commands of a ring that have not started are gone, and so are its waiting loads. -/
def unfetched : State := { s with loads := s.loads.filter (·.ring ≠ r) }.setRing r
  { s.ring r with cmds := (s.ring r).cmds.filter fun c => !c.fetched }

/-- With no command started, a Queue reset only discards the commands that have not. -/
theorem abortRing_unfetched {cls : Nat} (h : ∀ c ∈ (s.ring r).cmds, c.phase ≠ .started) : s.abortRing r cls = s.unfetched r :=
  foldl_eq_self (fun c hc _ => if_neg (h c hc)) _

theorem unfetched_rd (a : Nat) : (s.unfetched r).rd a = s.rd a := rfl

/-- A ring in a Queue reset: STATE 3 and RESET 1. -/
def resetting : State := (s.setRing r { s.ring r with st := 3 }).wr (rcfgAt r) (putBit (s.rcfg r) 63 true)

theorem ringResetStart_eq (hst : (s.ring r).st = 1) (h : ∀ c ∈ (s.ring r).cmds, c.phase ≠ .started) :
    s.ringResetStart r = (s.unfetched r).resetting r := by
  rw [ringResetStart, if_neg (by rw [hst]; decide), s.abortRing_unfetched r h]
  rfl

theorem resetting_spec : ((s.resetting r).ring r = { s.ring r with st := 3 }) ∧ bit ((s.resetting r).rcfg r) 63 = true ∧
    (∀ q, q ≠ r → (s.resetting r).ring q = s.ring q) ∧ RegsOnly [rcfgAt r] s (s.resetting r) := by
  refine ⟨ring_setRing_same .., ?_, fun q hq => ring_setRing_other _ _ hq, fun a ha => rd_wr_other _ _ (by simpa using ha)⟩
  have hrd : (s.resetting r).rcfg r = putBit (s.rcfg r) 63 true := rd_wr_same ..
  rw [hrd, bit_putBit_same _ (by decide)]

theorem ringResetStart_spec (hst : (s.ring r).st = 1) (h : ∀ c ∈ (s.ring r).cmds, c.phase ≠ .started) : ∃ u, s.ringResetStart r = u ∧
    (u.ring r).st = 3 ∧ (u.ring r).cmds = (s.ring r).cmds.filter (fun c => !c.fetched) ∧ bit (u.rcfg r) 63 = true ∧
    (∀ q, q ≠ r → u.ring q = s.ring q) ∧ RegsOnly [rcfgAt r] s u ∧ Same [.regs, .hlk, .loads] s u := by
  obtain ⟨hring, hbit, hothers, hregs⟩ := (s.unfetched r).resetting_spec r
  have hcmds : (s.unfetched r).ring r = { s.ring r with cmds := (s.ring r).cmds.filter fun c => !c.fetched } := ring_setRing_same ..
  have hsame : Ext [.regs, .hlk, .loads] s ((s.unfetched r).resetting r) :=
    .step (wr_ext ..) rfl (.step (setRing_ext ..) rfl (.step (setRing_ext ..) rfl (.step (Ext.set_loads ..) rfl (Ext.refl _ _))))
  refine ⟨_, s.ringResetStart_eq r hst h, by rw [hring], by rw [hring, hcmds], hbit, fun q hq => ?_, fun a ha => ?_, hsame.1⟩
  · exact (hothers q hq).trans (ring_setRing_other _ _ hq)
  · exact (hregs a ha).trans (s.unfetched_rd r a)

/-- A ring whose Queue reset is over. -/
def ringCleared : State := (s.setRing r { ringClosed with err := (s.ring r).err }).wr (rcfgAt r) 0

theorem ringCleared_spec : (s.ringCleared r).ring r = { ringClosed with err := (s.ring r).err } ∧ (s.ringCleared r).rcfg r = 0 ∧
    RegsOnly [rcfgAt r] s (s.ringCleared r) ∧ Same [.regs, .hlk] s (s.ringCleared r) :=
  ⟨ring_setRing_same .., rd_wr_same .., fun _ ha => rd_wr_other _ _ (by simpa using ha),
    (Ext.step (wr_ext ..) rfl (.step (setRing_ext ..) rfl (Ext.refl _ _))).1⟩

/-! ### Doorbells (R92, R94) -/

/-- A ring stops with an ERROR, and RING_ERROR is raised. -/
theorem ringStop_spec (e : Nat) : (s.ringStop r e).ring r = { s.ring r with st := 2, err := BitVec.ofNat 8 e } ∧
    EventSet s (s.ringStop r e) .hlk 0 Ev.hlkRingError ∧ Same [.regs, .hlk] s (s.ringStop r e) :=
  ⟨(ring_raise ..).trans (ring_setRing_same ..), rd_raise_same .., (s.ringStop_ext r e).1⟩

variable {r : Nat} (hdrain : s.power.drain = .none)

include hdrain

theorem bells_idle (n : Nat) (hst : (s.ring r).st ≠ 1) :
    s.tailBell r n = s.raise .hlk 0 Ev.hlkDoorbellIdle ∧ s.headBell r n = s.raise .hlk 0 Ev.hlkDoorbellIdle := by
  exact ⟨(if_neg (not_not_intro hdrain)).trans (if_pos hst), (if_neg (not_not_intro hdrain)).trans (if_pos hst)⟩

theorem tailBell_open (n : Nat) (hst : (s.ring r).st = 1) :
    s.tailBell r n = if s.ringSize r ≤ n then s.ringStop r 1 else s.setRing r { s.ring r with tail := n } := by
  rw [tailBell, if_neg (not_not_intro hdrain), if_neg (not_not_intro hst)]

theorem headBell_open {n : Nat} (hst : (s.ring r).st = 1) (hn : n < s.ringSize r) :
    s.headBell r n = s.setRing r { s.ring r with chead := n } := by
  rw [headBell, if_neg (not_not_intro hdrain), if_neg (not_not_intro hst), Nat.mod_eq_of_lt hn]

end State

/-! ### The commands -/

section

variable {s : State} {r : Nat} (hr : r < 64)

include hr

theorem exec_ringOpen {v : Word} (hready : s.ready .hlk 0 = true) (hst : (s.ring r).st = 0) (hreset : bit v 63 = false) :
    exec (.ringOpen r v) s = .next (s.openRing r (putBit v 0 true)) :=
  congrArg _ ((s.ringWrite_ready hr hready _).trans (s.writeRcfg_open hst hreset))

theorem exec_ringClose (hready : s.ready .hlk 0 = true) (hst : (s.ring r).st = 1) (hreset : bit (s.rcfg r) 63 = false) :
    exec (.ringClose r) s = .next (s.closing r) := congrArg _ ((s.ringWrite_ready hr hready _).trans (s.writeRcfg_close hst hreset))

theorem exec_ringCloseDone (hclosing : (s.ring r).closing = true) (hst : (s.ring r).st = 1 ∨ (s.ring r).st = 2)
    (hcmds : ∀ c ∈ (s.ring r).cmds, c.phase = .fetched) :
    exec (.ringCloseDone r) s = .next (s.setRing r { ringClosed with err := (s.ring r).err }) :=
  congrArg _ (if_pos ⟨hr, hclosing, hst, List.all_eq_true.2 fun c hc => decide_eq_true (hcmds c hc)⟩)

theorem exec_ringReset (hready : s.ready .hlk 0 = true) : exec (.ringReset r) s = .next (s.ringResetStart r) :=
  congrArg _ (s.ringWrite_ready hr hready _)

theorem exec_ringResetDone (hst : (s.ring r).st = 3) (hcmds : (s.ring r).cmds = []) :
    exec (.ringResetDone r) s = .next (s.ringCleared r) := congrArg _ (if_pos ⟨hr, hst, hcmds⟩)

theorem exec_commandTailDoorbell (tail : BitVec 16) : exec (.commandTailDoorbell r tail) s = .next (s.tailBell r tail.toNat) :=
  congrArg _ (if_pos hr)

theorem exec_completionHeadDoorbell (head : BitVec 16) : exec (.completionHeadDoorbell r head) s = .next (s.headBell r head.toNat) :=
  congrArg _ (if_pos hr)

/-- A removal drain takes no doorbell (R22). -/
theorem exec_bells_drain (hdrain : s.power.drain ≠ .none) :
    ∀ c ∈ [Instr.commandTailDoorbell r 0, .completionHeadDoorbell r 0], exec c s = .next s := by
  have htail : s.tailBell r (0 : BitVec 16).toNat = s := if_pos hdrain
  have hhead : s.headBell r (0 : BitVec 16).toNat = s := if_pos hdrain
  intro c hc
  fin_cases hc
  · exact (exec_commandTailDoorbell hr 0).trans (congrArg _ htail)
  · exact (exec_completionHeadDoorbell hr 0).trans (congrArg _ hhead)

/-- A doorbell of a ring that is not open raises DOORBELL_IDLE. -/
theorem exec_bells_idle (hdrain : s.power.drain = .none) (hst : (s.ring r).st ≠ 1) :
    ∀ c ∈ [Instr.commandTailDoorbell r 0, .completionHeadDoorbell r 0], exec c s = .next (s.raise .hlk 0 Ev.hlkDoorbellIdle) := by
  obtain ⟨htail, hhead⟩ := s.bells_idle hdrain (0 : BitVec 16).toNat hst
  intro c hc
  fin_cases hc
  · exact (exec_commandTailDoorbell hr 0).trans (congrArg _ htail)
  · exact (exec_completionHeadDoorbell hr 0).trans (congrArg _ hhead)

end

/-- Settles O23: each command is one operation on one ring, by what that operation leaves of the ring, its HLK_RCFG and the events. -/
theorem ringLifecycle : Obligations.RingLifecycle := by
  intro s r hr
  refine ⟨fun v f hready hst hreset hlow hhigh hf hmine => ?opens, fun v hready hst hreset hsize => ?badSize,
    fun v hready hst hreset hlow hhigh hmine => ?noFormat,
    fun hready hst hreset => ⟨_, exec_ringClose hr hready hst hreset, s.closing_spec r⟩,
    fun hclosing hst hcmds => exec_ringCloseDone hr hclosing hst hcmds, fun hready hst hcmds => ?reset,
    fun hst hcmds => ⟨_, exec_ringResetDone hr hst hcmds, s.ringCleared_spec r⟩,
    fun tail hdrain hst => ⟨fun hlt => ?post, fun hge => ?stop⟩, fun head hdrain hst hlt => ?head,
    fun c hc => ⟨fun hdrain => exec_bells_drain hr hdrain c hc,
      fun hdrain hst => ⟨_, exec_bells_idle hr hdrain hst c hc, s.raise_only_event .hlk 0⟩⟩⟩
  case opens =>
    subst hf
    obtain ⟨hsize, hformat, hclass, -, -⟩ := State.enable_fields v true
    have hopen := s.openRing_format r (v := putBit v 0 true) (by rwa [hsize]) (by rwa [hsize]) (by rwa [hformat])
    have hexec := exec_ringOpen hr hready hst hreset
    have hsame := (s.openRing_ext r (putBit v 0 true)).1
    rw [hopen] at hexec hsame
    refine ⟨_, hexec, ?_, ?_, fun q hq => ?_, hsame⟩
    · rw [State.ring_setRing_same, hformat, hclass]
    · rw [State.ringSize_setRing, s.formatTaken_ringSize, hsize]
    · rw [State.ring_setRing_other _ _ hq, s.formatTaken_ring]
  case badSize =>
    obtain ⟨hfld, -, -, -, -⟩ := State.enable_fields v true
    have hopen := s.openRing_badSize r (v := putBit v 0 true) (by rwa [hfld])
    have hexec := exec_ringOpen hr hready hst hreset
    have hsame := (s.openRing_ext r (putBit v 0 true)).1
    rw [hopen] at hexec hsame
    exact ⟨_, hexec, State.ring_setRing_same .., hsame⟩
  case noFormat =>
    obtain ⟨hsize, hformat, -, -, -⟩ := State.enable_fields v true
    have hopen := s.openRing_noFormat r (v := putBit v 0 true) (by rwa [hsize]) (by rwa [hsize]) (by rwa [hformat])
    have hexec := exec_ringOpen hr hready hst hreset
    have hsame := (s.openRing_ext r (putBit v 0 true)).1
    rw [hopen] at hexec hsame
    exact ⟨_, hexec, State.ring_setRing_same .., State.formatRefused_event _, hsame⟩
  case reset =>
    obtain ⟨u, rfl, hspec⟩ := s.ringResetStart_spec r hst hcmds
    exact ⟨_, exec_ringReset hr hready, hspec⟩
  case post => rw [exec_commandTailDoorbell hr, s.tailBell_open hdrain _ hst, if_neg (Nat.not_le.2 hlt)]
  case stop =>
    refine ⟨_, ?_, s.ringStop_spec r 1⟩
    rw [exec_commandTailDoorbell hr, s.tailBell_open hdrain _ hst, if_pos hge]
  case head => rw [exec_completionHeadDoorbell hr, s.headBell_open hdrain hst hlt]

end Sys2Proof.Machine
end

section
/-! SUPPORT. What a store to physical memory leaves (R211, R217): its bytes, and the registers below the memory pages. -/

namespace Sys2Proof.Machine

theorem StoredAt.nil {s u : State} (h : u.mem.bytes = s.mem.bytes) (a : Nat) : StoredAt s u a [] := fun x => by
  rw [if_neg (by rw [List.length_nil]; omega), memByte, h, memByte]

/-- A store is seen in memory alone. -/
theorem StoredAt.of_mem {s t u v : State} {a : Nat} {bs : Bytes} (h : StoredAt t u a bs) (hs : t.mem = s.mem) (hu : v.mem = u.mem) :
    StoredAt s v a bs := fun x => by
  rw [memByte, hu, ← memByte, h x, memByte, hs, memByte]

/-- A store of bytes, and then of those that follow them. -/
theorem StoredAt.append {s t u : State} {a : Nat} {l r : Bytes} (hl : StoredAt s t a l) (hr : StoredAt t u (a + l.length) r) :
    StoredAt s u a (l ++ r) := fun x => by
  rw [hr x, hl x, List.length_append]
  by_cases hx : a ≤ x ∧ x < a + l.length
  · rw [if_neg (by omega), if_pos hx, if_pos (by omega), List.getD_append _ _ _ _ (by omega)]
  · rw [if_neg hx]
    by_cases hy : a + l.length ≤ x ∧ x < a + l.length + r.length
    · rw [if_pos hy, if_pos (by omega), List.getD_append_right _ _ _ _ (by omega), Nat.sub_add_eq]
    · rw [if_neg hy, if_neg (by omega)]

namespace State

variable (s : State)

/-! ### Channels (R216, R219) -/

theorem dimmChans_lt {c : Nat} (h : c ∈ s.dimmChans) : c < 24 := List.mem_range.1 (List.mem_filter.1 h).1

theorem chanOf_lt (d : Nat) : (s.chanOf d).1 < 24 := by
  rw [chanOf]
  dsimp only
  rw [List.getD_eq_getElem?_getD]
  cases h : s.dimmChans[d / 256 % s.dimmChans.length]? with
  | none => decide
  | some c => exact s.dimmChans_lt (List.mem_of_getElem? h)

/-- No range lies on a failed channel while every channel is READY. -/
theorem onFailed_ready (h : ∀ c, c < 24 → s.ready .mem c = true) (x : Nat) : s.onFailed x = false := by
  unfold onFailed
  split
  next d _ =>
    dsimp only
    rw [h _ (s.chanOf_lt d)]
    rfl
  next => rfl

/-! ### The bytes of a store -/

/-- Memory with other bytes. -/
def setBytes (m : List Host.Cell) : State := { s with mem := { s.mem with bytes := m } }

theorem setBytes_stored (x : Nat) (l : Bytes) : StoredAt s (s.setBytes (wrBytes s.mem.bytes x l)) x l := fun y => by
  change tget (wrBytes s.mem.bytes x l) 0 y = _
  split
  next h =>
    obtain ⟨k, rfl⟩ := Nat.exists_eq_add_of_le h.1
    have hk : k < l.length := by omega
    rw [tget_wrBytes_same _ _ _ _ hk, Nat.add_sub_cancel_left, List.getD_eq_getElem _ _ hk]
  next h => exact tget_wrBytes_other _ _ _ _ (by omega)

/-- One unit of a store to memory that has not failed. -/
def putUnit (a : Nat) (bs : Bytes) (u : Nat × Nat) : State :=
  s.setBytes (wrBytes s.mem.bytes u.1 ((bs.drop (u.1 - a)).take u.2))

theorem putUnit_ext (a : Nat) (bs : Bytes) (u : Nat × Nat) : Ext [.mem] s (s.putUnit a bs u) :=
  Ext.set_mem s _ (Memory.wf_wrBytes _ _ _)

theorem putUnits_ext (a : Nat) (bs : Bytes) (l : List (Nat × Nat)) : Ext [.mem] s (l.foldl (fun t u => t.putUnit a bs u) s) :=
  foldl_all (P := fun x => Ext _ _ x) (Ext.refl _ _) fun v _ hv => .step (v.putUnit_ext a bs _) rfl hv

/-- The units of a range, stored one by one, store its bytes. -/
theorem putUnits_stored (a : Nat) (bs : Bytes) (fuel : Nat) {x n : Nat} (hx : a ≤ x) (hn : (bs.drop (x - a)).length = n)
    (hfuel : n = 0 ∨ x % 256 + n ≤ 256 * fuel) :
    StoredAt s ((units fuel x n).foldl (fun t u => t.putUnit a bs u) s) x (bs.drop (x - a)) := by
  induction fuel generalizing s x n with
  | zero =>
    have h0 : n = 0 := by omega
    rw [List.eq_nil_of_length_eq_zero (hn.trans h0)]
    exact StoredAt.nil rfl x
  | succ fuel ih =>
    cases n with
    | zero =>
      rw [List.eq_nil_of_length_eq_zero hn]
      exact StoredAt.nil rfl x
    | succ n =>
      let k := min (n + 1) (256 - x % 256)
      have hk : k ≤ n + 1 := Nat.min_le_left ..
      have hlen : ((bs.drop (x - a)).take k).length = k := by rw [List.length_take, hn, Nat.min_eq_left hk]
      have hdrop : bs.drop (x + k - a) = (bs.drop (x - a)).drop k := by rw [List.drop_drop, Nat.sub_add_comm hx]
      have hfirst := s.setBytes_stored x ((bs.drop (x - a)).take k)
      have hrest := ih (s.putUnit a bs (x, k)) (x := x + k) (n := n + 1 - k) (by omega) (by rw [hdrop, List.length_drop, hn]) (by omega)
      rw [hdrop] at hrest
      have hall := StoredAt.append hfirst (u := _) (by rw [hlen]; exact hrest)
      rw [List.take_append_drop] at hall
      exact hall

/-! ### What a store counts -/

/-- The state that a store leaves before its bytes are written. -/
def counted (a n : Nat) : State := ((s.countPartial a n).clearPoison a n).countBytes a n true

theorem clearPoison_bytes (a n : Nat) : (s.clearPoison a n).mem.bytes = s.mem.bytes :=
  foldl_all (P := fun x : State => x.mem.bytes = s.mem.bytes) rfl fun v k hv => by
    dsimp only
    split
    · exact hv
    · exact hv

theorem counted_bytes (a n : Nat) : (s.counted a n).mem.bytes = s.mem.bytes := by
  rw [counted, (countBytes_ext ..).1 .mem (by simp), clearPoison_bytes, (countPartial_ext ..).1 .mem (by simp)]

theorem counted_ext (a n : Nat) : Ext [.regs, .hlk, .mem] s (s.counted a n) :=
  .step (countBytes_ext ..) rfl (.step (clearPoison_ext ..) rfl (.step (countPartial_ext ..) rfl (Ext.refl _ _)))

theorem rd_countBytes_below {a : Nat} (h : a < 0x100000) (x n : Nat) (write : Bool) : (s.countBytes x n write).rd a = s.rd a :=
  foldl_all (P := fun t : State => t.rd a = s.rd a) rfl fun v y hv => by
    split
    · rw [rd_bump_below v (show a < 0x120000 + _ by omega), hv]
    · rw [rd_bump_below v (show a < 0x100000 + _ by omega), hv]
    · exact hv

theorem rd_countPartial_below {a : Nat} (h : a < 0x100000) (x n : Nat) : (s.countPartial x n).rd a = s.rd a :=
  foldl_all (P := fun t : State => t.rd a = s.rd a) rfl fun v y hv => by
    dsimp only
    split
    · split
      · exact hv
      · rw [rd_bump_below _ (show a < 0x2A0000 by omega), rd_bump_below v (show a < 0x100000 + _ by omega), hv]
    · exact hv

/-- A store counts on the pages of memory, and leaves every register below them alone. -/
theorem rd_counted_below {a : Nat} (h : a < 0x100000) (x n : Nat) : (s.counted x n).rd a = s.rd a := by
  rw [counted, rd_countBytes_below _ h, rd_of_regs ((clearPoison_ext ..).1 .regs (by simp)), rd_countPartial_below _ h]

/-- One unit of a store: a failed channel discards it and reports (R219). -/
def storeUnit (a : Nat) (bs : Bytes) (u : Nat × Nat) : State :=
  if s.onFailed u.1 then
    let c := (s.chanOf (u.1 - 0x80000000000)).1
    ((s.bump .mem c (0x200 + 8) 1).bump .tlm 0 (0x200 + 8 * 19) 1).detected .mem c 0x07 0 (addr := u.1)
  else s.putUnit a bs u

theorem storePhys_units (a : Nat) (bs : Bytes) :
    s.storePhys a bs = (unitsOf a bs.length).foldl (fun t u => t.storeUnit a bs u) (s.counted a bs.length) := rfl

/-- No part of a range from `a` on lies on a failed channel, whatever the registers count. -/
def NoneFailed (a : Nat) : Prop := ∀ t : State, t.rst = s.rst → ∀ x, a ≤ x → t.onFailed x = false

theorem noneFailed_of_ready (h : ∀ c, c < 24 → s.ready .mem c = true) (a : Nat) : s.NoneFailed a := fun t ht x _ =>
  t.onFailed_ready (fun c hc => by rw [← h c hc, ready, ready, ht]) x

variable {a : Nat} (hok : s.NoneFailed a) (bs : Bytes)

theorem units_ge {fuel x n : Nat} (h : a ≤ x) : ∀ u ∈ units fuel x n, a ≤ u.1 := by
  induction fuel generalizing x n with
  | zero => exact fun u hu => nomatch hu
  | succ fuel ih =>
    cases n with
    | zero => exact fun u hu => nomatch hu
    | succ n =>
      intro u hu
      rcases List.mem_cons.1 hu with rfl | hu
      · exact h
      · exact ih (Nat.le_add_right_of_le h) u hu

include hok

theorem storeUnits_eq {l : List (Nat × Nat)} (hl : ∀ u ∈ l, a ≤ u.1) {t : State} (ht : t.rst = s.rst) :
    l.foldl (fun t u => t.storeUnit a bs u) t = l.foldl (fun t u => t.putUnit a bs u) t := by
  induction l generalizing t with
  | nil => rfl
  | cons u l ih =>
    rw [List.foldl_cons, List.foldl_cons, storeUnit, hok t ht _ (hl u (by simp)), if_neg (by decide)]
    exact ih (fun v hv => hl v (by simp [hv])) ht

theorem storePhys_eq : s.storePhys a bs = (unitsOf a bs.length).foldl (fun t u => t.putUnit a bs u) (s.counted a bs.length) :=
  (s.storePhys_units a bs).trans
    (s.storeUnits_eq hok bs (units_ge (Nat.le_refl a)) ((s.counted_ext ..).1 .rst (by simp)))

theorem storePhys_stored : StoredAt s (s.storePhys a bs) a bs := by
  have h := (s.counted a bs.length).putUnits_stored a bs (bs.length / 256 + 2) (Nat.le_refl a) (n := bs.length) (by simp) (by omega)
  rw [Nat.sub_self, List.drop_zero] at h
  intro x
  rw [s.storePhys_eq hok bs]
  refine (h x).trans ?_
  rw [memByte, counted_bytes, memByte]

theorem rd_storePhys_below {x : Nat} (h : x < 0x100000) : (s.storePhys a bs).rd x = s.rd x := by
  rw [s.storePhys_eq hok bs, rd_of_regs ((putUnits_ext ..).1 .regs (by simp)), rd_counted_below _ h]

end State

end Sys2Proof.Machine
end

section
/-! SUPPORT. Statement O22: the HDM window, its decoders, bias bits and host accesses, and DOE discovery (R84, R85, R87). -/

namespace Sys2Proof.Machine

namespace State

variable (s : State)

/-! ### Decoders (R84) -/

/-- A decoder after a commit that meets the rules, or that does not. -/
theorem hdmCommit_eq {n hpa dpa size ways : Nat} (hn : n < 2) (hup : s.hostState = 2) (hmode : s.hostMode ≠ 0x10)
    (hfree : (s.hdm n).committed = false) : s.hdmCommit n hpa dpa size ways = s.setHdm n
      { hpa := hpa, dpa := dpa, size := size
        committed := s.hdmOk n hpa dpa size ways
        notCommitted := !s.hdmOk n hpa dpa size ways } := by
  rw [hdmCommit, if_neg (by simp [hn, hup, hmode]), if_neg (by simp [hfree])]
  split
  next h => rw [h]; rfl
  next h => rw [Bool.eq_false_iff.2 h]; rfl

theorem hdm_setHdm_same (n : Nat) (x : Hdm) : (s.setHdm n x).hdm n = x := (s.hdm_setHdm n n x).trans (if_pos rfl)

theorem hdm_setHdm_other {n : Nat} (x : Hdm) (hn : n < 2) : (s.setHdm n x).hdm (1 - n) = s.hdm (1 - n) :=
  (s.hdm_setHdm n (1 - n) x).trans (if_neg (by omega))

/-! ### EXPOSE (R84) -/

theorem writeExpose_fits {e : Nat} (hlock : s.locked = false) (hmax : e ≤ 1024) (hsize : e ≤ s.dimmSize / 2 ^ 30) :
    s.writeExpose e = s.p .hlk 0 Off.hlkHdmcfg 10 0 e := by
  rw [writeExpose, hlock, if_neg (by decide), if_neg (by omega)]

theorem writeExpose_beyond {e : Nat} (hlock : s.locked = false) (h : 1024 < e ∨ s.dimmSize / 2 ^ 30 < e) :
    s.writeExpose e = s.raise .hlk 0 Ev.hlkRingError := by
  rw [writeExpose, hlock, if_neg (by decide), if_pos h]

/-- A field written in one register. -/
theorem p_only_field (b : Blk) (i off hi lo v : Nat) : FieldSet s (s.p b i off hi lo v) b i off hi lo v ∧
    RegsOnly [regAt b i off] s (s.p b i off hi lo v) ∧ Same [.regs] s (s.p b i off hi lo v) :=
  ⟨(s.rd_p ..).trans (if_pos rfl), fun _ ha => (s.rd_p ..).trans (if_neg (by simpa using ha)), (s.p_ext ..).1⟩

/-! ### Bias bits (R85) -/

/-- The host link while bias bits settle, or once they have. -/
def setSettling (v : Bool) : State := { s with hlk := { s.hlk with biasSettling := v } }

theorem setSettling_ext (v : Bool) : Ext [.hlk] s (s.setSettling v) := Ext.set_hlk ..

theorem setSettling_rd (v : Bool) (a : Nat) : (s.setSettling v).rd a = s.rd a := rfl

theorem writeBias_change {n : Nat} {v : Word} (h : v ≠ s.rd (regAt .hlk 0 (Off.hlkBias + 8 * n))) :
    s.writeBias n v = (s.wr (regAt .hlk 0 (Off.hlkBias + 8 * n)) v).setSettling true := by
  have hadd : pageBase .hlk 0 + Off.hlkBias + 8 * n = regAt .hlk 0 (Off.hlkBias + 8 * n) := Nat.add_assoc ..
  unfold writeBias
  dsimp only
  rw [hadd, if_neg h.symm]
  rfl

theorem writeBias_spec {n : Nat} {v : Word} (h : v ≠ s.rd (regAt .hlk 0 (Off.hlkBias + 8 * n))) :
    (s.writeBias n v).rd (regAt .hlk 0 (Off.hlkBias + 8 * n)) = v ∧ (s.writeBias n v).hlk.biasSettling = true ∧
      RegsOnly [regAt .hlk 0 (Off.hlkBias + 8 * n)] s (s.writeBias n v) ∧ Same [.regs, .hlk] s (s.writeBias n v) := by
  rw [s.writeBias_change h]
  refine ⟨?_, rfl, fun a ha => ?_, (Ext.step (setSettling_ext ..) rfl (.step (wr_ext ..) rfl (Ext.refl _ _))).1⟩
  · rw [setSettling_rd, rd_wr_same]
  · rw [setSettling_rd, rd_wr_other _ _ (by simpa using ha)]

/-! ### Host accesses (R84, R85) -/

variable {b : Blk} {i m : Nat}

/-- A counter that fills raises no event but SATURATED. -/
theorem event_saturate (item : Nat) (hm : RegMap.satEvent b ≠ some m) :
    (s.saturate b i item).g b i Off.event m m = s.g b i Off.event m m := by
  have hp : (s.p b i (satWord item) (item % 64) (item % 64) 1).rd (regAt b i Off.event) = s.rd (regAt b i Off.event) := by
    rw [rd_p, if_neg (regAt_ne (by simp only [Off.event, satWord, Off.cntSat]; omega))]
  unfold saturate
  dsimp only
  split
  · rfl
  · split
    next n hn => exact (fld_event_raise _ (RegMap.satEvent_lt hn) fun e => hm (by rw [hn, e])).trans (congrArg (fld · m m) hp)
    next => exact congrArg (fld · m m) hp

theorem event_bump {off n : Nat} (hoff : off ≠ Off.event) (hm : RegMap.satEvent b ≠ some m) :
    (s.bump b i off n).g b i Off.event m m = s.g b i Off.event m m := by
  have hw (w : Word) : (s.wr (regAt b i off) w).g b i Off.event m m = s.g b i Off.event m m :=
    congrArg (fld · m m) (rd_wr_other _ _ (regAt_ne hoff.symm))
  unfold bump
  dsimp only
  split
  · rfl
  · split
    · exact hw _
    · exact (event_saturate _ _ hm).trans (hw _)

/-- An access under device bias raises BIAS_VIOLATION and is counted. -/
def biasNoted (d n : Nat) : State :=
  if s.deviceBias d ∨ s.deviceBias (d + n - 1) then (s.raise .hlk 0 Ev.hlkBiasViolation).bump .hlk 0 (0x200 + 24) 1 else s

theorem biasNoted_ext (d n : Nat) : Ext [.regs, .hlk] s (s.biasNoted d n) :=
  .ite (.step (bump_ext ..) rfl (.step (raise_ext ..) rfl (Ext.refl _ _))) (Ext.refl _ _)

theorem biasNoted_event {d n : Nat} (h : s.deviceBias d = true) :
    (s.biasNoted d n).g .hlk 0 Off.event Ev.hlkBiasViolation Ev.hlkBiasViolation = 1 := by
  rw [biasNoted, if_pos (.inl h), event_bump _ (by decide) (by decide)]
  exact fld_event_raise_same _ (by decide)

theorem biasNoted_hostBias {d n : Nat} (hfirst : s.deviceBias d = false) (hlast : s.deviceBias (d + n - 1) = false) :
    s.biasNoted d n = s := if_neg (by simp [hfirst, hlast])

variable {hpa d room n : Nat} (hmap : s.hdmMap hpa = some (d, room)) (hn : 0 < n) (hroom : n ≤ room) (hup : s.hostState = 2)
  (hmode : s.hostMode ≠ 0x10) (hok : s.physRes (0x80000000000 + d) n = .ok)

include hmap hn hroom hup hmode hok

theorem hdmAccess_read : s.hdmAccess false hpa n [] = ((s.biasNoted d n).countBytes (0x80000000000 + d) n false).out
    [.hdm (rdBytes (s.biasNoted d n).mem.bytes (0x80000000000 + d) n) ((s.biasNoted d n).physPoison (0x80000000000 + d) n)] := by
  simp only [hdmAccess, hmap, Bool.false_eq_true, if_false]
  rw [if_neg (by simp [hup, hmode, hok, Nat.ne_of_gt hn, Nat.not_lt.2 hroom])]
  rfl

theorem hdmAccess_write {bs : Bytes} (hlen : bs.length = n) (len : Nat) :
    s.hdmAccess true hpa len bs = (s.biasNoted d n).storePhys (0x80000000000 + d) bs := by
  subst hlen
  simp only [hdmAccess, hmap, if_true]
  rw [if_neg (by simp [hup, hmode, hok, Nat.ne_of_gt hn, Nat.not_lt.2 hroom])]
  rfl

end State

section

variable {s : State}

theorem exec_hdmDecoderCommit {n hpa dpa size ways : Nat} (hn : n < 2) (hup : s.hostState = 2) (hmode : s.hostMode ≠ 0x10)
    (hfree : (s.hdm n).committed = false) : exec (.hdmDecoderCommit n hpa dpa size ways) s = .next (s.setHdm n
      { hpa := hpa, dpa := dpa, size := size
        committed := s.hdmOk n hpa dpa size ways
        notCommitted := !s.hdmOk n hpa dpa size ways }) := congrArg Host.Outcome.next (s.hdmCommit_eq hn hup hmode hfree)

theorem exec_hdmExposeWrite {e : BitVec 11} (hready : s.ready .hlk 0 = true) :
    exec (.hdmExposeWrite e) s = .next (s.writeExpose e.toNat) :=
  congrArg Host.Outcome.next (s.pageWrite_ready _ _ (by decide) hready)

theorem exec_hlkBiasWrite {n : Nat} {v : Word} (hn : n < 16) (hready : s.ready .hlk 0 = true) :
    exec (.hlkBiasWrite n v) s = .next (s.writeBias n v) :=
  congrArg Host.Outcome.next ((if_pos hn).trans (s.pageWrite_ready _ _ (by decide) hready))

theorem exec_hostHdmAccess (write : Bool) (hpa len : Nat) (bs : Bytes) :
    exec (.hostHdmAccess write hpa len bs) s = .next (s.hdmAccess write hpa len bs) := rfl

theorem exec_doeDiscovery (i : Byte) (hconf : s.hostConfig = true) :
    exec (.doeRequest (.discovery i)) s = .next (s.out [.doe (State.doeDiscovery i.toNat)]) :=
  congrArg Host.Outcome.next (if_neg (by simp [hconf]))

end

/-- Settles O22: each command is one operation on the host link; a host write is a store to DIMM space, whose channels are READY. -/
theorem hdmWindow : Obligations.HdmWindow := by
  intro s
  refine ⟨fun n hpa dpa size ways hn hup hmode hfree => ⟨_, exec_hdmDecoderCommit hn hup hmode hfree, (s.setHdm_ext n _).1, ?commit⟩,
    fun e hready hlock hmax hsize => ⟨_, exec_hdmExposeWrite hready, ?expose⟩,
    fun e hready hlock hbeyond => ⟨_, exec_hdmExposeWrite hready, ?beyond⟩,
    fun n v hn hready hv => ⟨_, exec_hlkBiasWrite hn hready, s.writeBias_spec hv⟩, rfl,
    fun hpa d room bs hmap hne hroom hup hmode hok hall => ⟨_, exec_hostHdmAccess .., ?write⟩,
    fun hpa d room n hmap hn hroom hup hmode hok hfirst hlast => ⟨_, exec_hostHdmAccess .., ?read⟩, exec_doeDiscovery⟩
  case commit =>
    rw [s.hdm_setHdm_same, s.hdm_setHdm_other _ hn]
    exact ⟨rfl, rfl, rfl, rfl, rfl, rfl⟩
  case expose =>
    rw [s.writeExpose_fits hlock hmax hsize]
    exact s.p_only_field ..
  case beyond =>
    rw [s.writeExpose_beyond hlock hbeyond]
    exact s.raise_only_event .hlk 0
  case write =>
    let t := s.biasNoted d bs.length
    have hnone : t.NoneFailed (0x80000000000 + d) := t.noneFailed_of_ready (fun c hc => by
      rw [← hall c hc, State.ready, State.ready, (s.biasNoted_ext d bs.length).1 .rst (by simp)]) _
    rw [s.hdmAccess_write hmap (List.length_pos_iff.2 hne) hroom hup hmode hok rfl bs.length]
    refine ⟨(t.storePhys_stored hnone bs).of_mem ((s.biasNoted_ext d bs.length).1 .mem (by simp)) rfl, fun hbias => ?_⟩
    rw [State.g, t.rd_storePhys_below hnone bs (by decide)]
    exact s.biasNoted_event hbias
  case read =>
    rw [s.hdmAccess_read hmap hn hroom hup hmode hok, s.biasNoted_hostBias hfirst hlast]
    exact ⟨(s.countBytes_ext ..).1 .mem (by simp), _, rfl⟩

end Sys2Proof.Machine
end

section
/-! SUPPORT. Statement O24: a ring's fetches and completions (R94, R95, R98); the operations of STREAM and COPY (R96, R235). -/

namespace Sys2Proof.Machine

/-! ### Fetching (R94, R95) -/

/-- A command as a ring takes it: one that is refused has ended. -/
def Cmd.taken (c : Cmd) (fmt : Nat) : Cmd :=
  match c.refused fmt with
  | some st => { c with phase := .finished (BitVec.ofNat 16 st) 0 }
  | none => c

namespace State

variable (s : State) (r : Nat)

/-- One more command has been numbered. -/
def uidDrawn : State := { s with hlk := { s.hlk with nextUid := s.hlk.nextUid + 1 } }

theorem uidDrawn_ext : Ext [.hlk] s s.uidDrawn := Ext.set_hlk ..

theorem uidDrawn_ring (q : Nat) : s.uidDrawn.ring q = s.ring q := rfl

theorem nextUid_setRing (x : Ring) : (s.setRing r x).hlk.nextUid = s.hlk.nextUid := rfl

/-- A ring with its next entry fetched. -/
def fetchedRing (c : Cmd) : Ring :=
  { s.ring r with head := ((s.ring r).head + 1) % s.ringSize r, cmds := (s.ring r).cmds ++ [c] }

/-- MPA offset and length of a ring's next entry. -/
def nextEntry : Nat × Nat :=
  (fld (s.rd (rcfgAt r + 8)) 63 12 * 4096 + (s.ring r).head * (if (s.ring r).fmt = 0x20 then 64 else 32),
    if (s.ring r).fmt = 0x20 then 64 else 32)

theorem fetchCmd_eq {e : Bytes} (he : s.hostRead (s.nextEntry r).1 (s.nextEntry r).2 = some e) : s.fetchCmd r =
    s.uidDrawn.setRing r (s.fetchedRing r ((Cmd.ofEntry s.hlk.nextUid (s.ring r).fmt.toNat e).taken (s.ring r).fmt.toNat)) := by
  unfold nextEntry at he
  unfold fetchCmd
  dsimp only at he ⊢
  rw [he]
  rfl

theorem fetchCmd_spec {e : Bytes} (he : s.hostRead (s.nextEntry r).1 (s.nextEntry r).2 = some e) {c : Cmd}
    (hc : c = Cmd.ofEntry s.hlk.nextUid (s.ring r).fmt.toNat e) :
    (∀ q, (s.fetchCmd r).ring q = if q = r then s.fetchedRing r (c.taken (s.ring r).fmt.toNat) else s.ring q) ∧
      (s.fetchCmd r).hlk.nextUid = s.hlk.nextUid + 1 ∧ Same [.hlk] s (s.fetchCmd r) := by
  subst hc
  rw [s.fetchCmd_eq r he]
  refine ⟨fun q => ?_, ?_, (Ext.step (setRing_ext ..) rfl s.uidDrawn_ext).1⟩
  · rw [ring_setRing, uidDrawn_ring]
  · rw [nextUid_setRing]
    rfl

/-! ### Host memory (R208) -/

theorem dimmSize_le : s.dimmSize ≤ 24 * (65535 * 1000000000) := by
  have hlen : s.dimmChans.length ≤ 24 := (List.length_filter_le _ _).trans (by simp)
  have hsize : s.g .xlt 0 Off.xltDspace 15 0 < 65536 := Nat.mod_lt _ (by decide)
  exact Nat.mul_le_mul hlen (Nat.mul_le_mul_right _ (Nat.le_of_lt_succ hsize))

/-- The DIMM space ends below the host region. -/
theorem region_above {x : Nat} (h : 0x10000000000000 ≤ x) : s.region x = if x < 0x20000000000000 then .host else .unmapped := by
  have hd := s.dimmSize_le
  rw [region, if_neg (by omega), if_neg (by omega)]
  by_cases hx : x < 0x20000000000000
  · rw [if_pos ⟨h, hx⟩, if_pos hx]
  · rw [if_neg (fun k => hx k.2), if_neg hx]

theorem onFailed_above {x : Nat} (h : 0x10000000000000 ≤ x) : s.onFailed x = false := by
  rw [onFailed, s.region_above h]
  by_cases hx : x < 0x20000000000000
  · rw [if_pos hx]
  · rw [if_neg hx]

/-- No part of host memory lies on a channel of the module. -/
theorem noneFailed_host (a : Nat) : s.NoneFailed (hostMpa a) := fun t _ _ hx => t.onFailed_above (Nat.le_of_add_right_le hx)

theorem physRes_host {a : Nat} (n : Nat) (ha : a < 0x10000000000000) (hup : s.hostUp = true) : s.physRes (hostMpa a) n = .ok := by
  rw [physRes, hostMpa, s.region_above (Nat.le_add_right _ _), if_pos (by omega)]
  exact if_pos hup

theorem hostWrite_up {a : Nat} {bs : Bytes} (hne : 0 < bs.length) (ha : a + bs.length ≤ 0x10000000000000) (hup : s.hostUp = true) :
    s.hostWrite a bs = some (s.storePhys (hostMpa a) bs) := by
  rw [hostWrite, s.physRes_host _ (by omega) hup]
  exact if_pos (by simpa [hostRange] using ha)

theorem calm_linkAt : Calm linkAt := ⟨by decide, by decide⟩

theorem ring_storePhys (a : Nat) (bs : Bytes) (q : Nat) : (s.storePhys a bs).ring q = s.ring q :=
  ring_of_rings ((Kept.refl (r := true) calm_linkAt s).storePhys.rings rfl) q

/-! ### Completions (R98) -/

theorem complEntry_length (c : Cmd) (st : BitVec 16) (res : Word) : (s.complEntry r c st res).length = complLen (s.ring r) := by
  rw [complEntry, complLen]
  by_cases h : (s.ring r).fmt = 0x20
  · rw [if_pos h, if_pos h]
    simp
  · rw [if_neg h, if_neg h]
    simp

theorem complLen_pos (x : Ring) : 0 < complLen x := by
  unfold complLen
  split <;> decide

/-- Nothing ends when the first command of a ring is no FENCE. -/
theorem fenceDone_none (h : ∀ d ds, (s.ring r).cmds = d :: ds → d.op ≠ 5) : s.fenceDone r = s := by
  unfold fenceDone
  split
  next d ds hcmds => exact if_neg fun k => h d ds hcmds k.1
  next => rfl

/-- Where the next completion of a ring goes. -/
def complAt : Nat := fld (s.rd (rcfgAt r + 16)) 63 12 * 4096 + (s.ring r).ctail * complLen (s.ring r)

/-- A ring without a command. -/
def dropCmd (uid : Nat) : State := s.setRing r { s.ring r with cmds := (s.ring r).cmds.filter (·.uid ≠ uid) }

/-- A ring whose completion tail moves past an entry, and whose phase flips at the wrap. -/
def complMoved : State :=
  let wrap := s.ringSize r ≤ (s.ring r).ctail + 1
  s.setRing r
    { s.ring r with ctail := if wrap then 0 else (s.ring r).ctail + 1, phase := if wrap then !(s.ring r).phase else (s.ring r).phase }

/-- A completion that is written, with no interrupt. -/
def completed (c : Cmd) (st : BitVec 16) (res : Word) : State :=
  ((s.dropCmd r c.uid).storePhys (hostMpa (s.complAt r)) (s.complEntry r c st res)).complMoved r

variable {r} {c : Cmd} {st : BitVec 16} {res : Word}

theorem dropCmd_mem (uid : Nat) : (s.dropCmd r uid).mem = s.mem := rfl

theorem dropCmd_hostUp (uid : Nat) : (s.dropCmd r uid).hostUp = s.hostUp := rfl

theorem complMoved_mem : (s.complMoved r).mem = s.mem := rfl

theorem dropCmd_ring (uid q : Nat) : ((s.dropCmd r uid).ring q) =
    if q = r then { s.ring r with cmds := (s.ring r).cmds.filter (·.uid ≠ uid) } else s.ring q := s.ring_setRing r q _

theorem complMoved_ring (q : Nat) : (s.complMoved r).ring q = if q = r then { s.ring r with
    ctail := if s.ringSize r ≤ (s.ring r).ctail + 1 then 0 else (s.ring r).ctail + 1
    phase := if s.ringSize r ≤ (s.ring r).ctail + 1 then !(s.ring r).phase else (s.ring r).phase } else s.ring q := s.ring_setRing r q _

/-- The rings after a completion is written. -/
theorem completed_ring (hr : r < 64) (q : Nat) : (s.completed r c st res).ring q = if q = r then { s.ring r with
    cmds := (s.ring r).cmds.filter (·.uid ≠ c.uid)
    ctail := if s.ringSize r ≤ (s.ring r).ctail + 1 then 0 else (s.ring r).ctail + 1
    phase := if s.ringSize r ≤ (s.ring r).ctail + 1 then !(s.ring r).phase else (s.ring r).phase } else s.ring q := by
  let t := s.dropCmd r c.uid
  have hlow : rcfgAt r < 0x100000 := by simp only [rcfgAt, pageBase, Off.hlkRcfg]; omega
  have hsize : (t.storePhys (hostMpa (s.complAt r)) (s.complEntry r c st res)).ringSize r = s.ringSize r := by
    have hrd := t.rd_storePhys_below (t.noneFailed_host (s.complAt r)) (s.complEntry r c st res) hlow
    exact congrArg (fun w => 2 ^ fld w 20 16) hrd
  rw [completed, complMoved_ring, hsize, ring_storePhys, ring_storePhys, dropCmd_ring, dropCmd_ring, if_pos rfl]
  by_cases hq : q = r
  · rw [if_pos hq, if_pos hq]
  · rw [if_neg hq, if_neg hq, if_neg hq]

theorem completed_stored : StoredAt s (s.completed r c st res) (0x10000000000000 + s.complAt r) (s.complEntry r c st res) :=
  ((s.dropCmd r c.uid).storePhys_stored ((s.dropCmd r c.uid).noneFailed_host (s.complAt r)) (s.complEntry r c st res)).of_mem
    (s.dropCmd_mem c.uid) (complMoved_mem _)

theorem complete_eq (herr : (s.ring r).err ≠ 3) (hflag : c.flags.toNat.testBit 0 = false) {t : State}
    (hwrite : (s.dropCmd r c.uid).hostWrite (s.complAt r) (s.complEntry r c st res) = some t) :
    s.complete r c st res = (t.complMoved r).fenceDone r := by
  unfold dropCmd complAt at hwrite
  unfold complete complMoved
  dsimp only
  rw [if_neg herr, hwrite, hflag]
  rfl

variable (herr : (s.ring r).err ≠ 3) (hfits : s.complAt r + complLen (s.ring r) ≤ 2 ^ 52) (hup : s.hostUp = true)
  (hflag : c.flags.toNat.testBit 0 = false)
  (hnext : ∀ d ds, (s.ring r).cmds.filter (·.uid ≠ c.uid) = d :: ds → d.op ≠ 5)

include herr hfits hup hflag hnext

theorem complete_written (hr : r < 64) : s.complete r c st res = s.completed r c st res := by
  have hlen := s.complEntry_length r c st res
  have hwrite := (s.dropCmd r c.uid).hostWrite_up (a := s.complAt r) (bs := s.complEntry r c st res)
    (by rw [hlen]; exact complLen_pos _) (by rw [hlen]; exact hfits) (by rw [dropCmd_hostUp, hup])
  rw [s.complete_eq herr hflag hwrite]
  have hcmds : ((s.completed r c st res).ring r).cmds = (s.ring r).cmds.filter (·.uid ≠ c.uid) := by
    rw [s.completed_ring hr, if_pos rfl]
  exact fenceDone_none (s.completed r c st res) r fun d ds hd => hnext d ds (hcmds.symm.trans hd)

end State

/-! ### Operations of ring commands (R235) -/

/-- Operations are pushed on one hub queue, in order. -/
structure Pushed (s u : State) (q : Nat) (ops : List Op) : Prop where
  queue : ∀ k, u.queue k = if k = q then s.queue q ++ ops else s.queue k
  same : Same [.queues, .nextOp] s u

/-- An operation of a ring command that has not started. -/
structure HubOp (r : Nat) (c : Cmd) (i : Nat) (d : Bytes) (o : Op) : Prop where
  desc : o.desc = d
  cmd : o.cmd = some (r, c.uid, i)
  step : o.step = c.step
  started : o.started = false

namespace Pushed

variable {s t u : State} {q : Nat} {l m : List Op}

theorem refl (s : State) (q : Nat) : Pushed s s q [] :=
  ⟨fun k => by split <;> simp_all, (Ext.refl _ s).1⟩

theorem trans (h : Pushed s t q l) (k : Pushed t u q m) : Pushed s u q (l ++ m) := by
  refine ⟨fun j => ?_, h.same.trans k.same⟩
  rw [k.queue, h.queue, h.queue, if_pos rfl, List.append_assoc]
  by_cases hj : j = q
  · rw [if_pos hj, if_pos hj]
  · rw [if_neg hj, if_neg hj, if_neg hj]

/-- What the head command of a ring leaves that starts and pushes its operations. -/
theorem started {r uid : Nat} (h : Pushed (s.startCmd r uid) u q l) : CmdNow s u r uid .started ∧
    (∀ k, u.queue k = if k = q then s.queue q ++ l else s.queue k) ∧ Same [.hlk, .queues, .nextOp] s u := by
  have hstart := (s.startCmd_ext r uid).1
  have hqueue (k : Nat) : (s.startCmd r uid).queue k = s.queue k := rfl
  have hhlk : u.hlk = (s.startCmd r uid).hlk := h.same .hlk (by simp)
  refine ⟨fun k => ?_, fun k => ?_, (hstart.mono rfl).trans (h.same.mono rfl)⟩
  · rw [State.ring_of_rings (congrArg _ hhlk), s.startCmd_now r uid k]
  · rw [h.queue, hqueue, hqueue]

end Pushed

namespace State

variable (s : State)

theorem pushHub_pushed (q r : Nat) (c : Cmd) (i : Nat) (d : Bytes) (al : Bool) (aux : List Nat) :
    ∃ o, Pushed s (s.pushHub q r c i d al aux) q [o] ∧ HubOp r c i d o :=
  ⟨_, ⟨fun k => queue_setQueue _ q k _, (s.pushHub_ext ..).1⟩, rfl, rfl, rfl, rfl⟩

/-- A list of descriptors becomes operations in its order (R235). -/
theorem pushList_pushed (q r : Nat) (c : Cmd) (va n i before : Nat) (bs : Bytes) :
    ∃ ops, Pushed s (pushList q r c va n i before bs s) q ops ∧ ops.length = n ∧
      ∀ k o, ops[k]? = some o → HubOp r c (i + k) (bsub bs (128 * k) 128) o := by
  induction n generalizing s i before bs with
  | zero => exact ⟨[], .refl s q, rfl, fun k o h => by simp at h⟩
  | succ n ih =>
    obtain ⟨o, hpush, ho⟩ := s.pushHub_pushed q r c i (bs.take 128) (decide ((va + 128 * i) % 32 = 0)) [before, 0]
    obtain ⟨ops, hrest, hlen, hops⟩ := ih (s.pushHub q r c i (bs.take 128) (decide ((va + 128 * i) % 32 = 0)) [before, 0]) (i + 1)
      (before + descTotal (bs.take 128)) (bs.drop 128)
    refine ⟨o :: ops, hpush.trans hrest, by rw [List.length_cons, hlen], fun k p hk => ?_⟩
    cases k with
    | zero =>
      obtain rfl := Option.some.inj hk
      exact ho
    | succ k =>
      have hp := hops k p hk
      rwa [bsub, List.drop_drop, Nat.add_right_comm i 1 k, Nat.add_assoc i k 1, show 128 + 128 * k = 128 * (k + 1) by omega] at hp

variable {s} {r : Nat} {c : Cmd}

theorem exec_stream {n : Nat} {bs : Bytes} {s' : State} (hhead : HeadIs s r 3 c) (hn : n = c.arg 8 4) (hpos : 0 < n)
    (hbasin : c.arg 12 1 ≤ 3) (hqueue : c.arg 13 1 ≤ 7) (hready : s.basinReady (c.arg 12 1) = true)
    (hread : s.vread 0 (c.arg 0 8) (128 * n) = .ok bs false s') : exec (.stream r) s =
      .next (pushList (18432 + 8 * c.arg 12 1 + c.arg 13 1) r c (c.arg 0 8) n 0 0 bs (s'.startCmd r c.uid)) := by
  subst hn
  have hrun : s.streamRun r c =
      pushList (18432 + 8 * c.arg 12 1 + c.arg 13 1) r c (c.arg 0 8) (c.arg 8 4) 0 0 bs (s'.startCmd r c.uid) := by
    unfold streamRun
    dsimp only
    rw [if_neg (by omega), hready, if_neg (by decide), if_neg (Nat.ne_of_gt hpos), hread]
  rw [← hrun]
  change execStream r s = _
  rw [execStream, hhead.headOp]

/-! ### COPY (R235) -/

/-- A part of a copy: its offset, the bytes of a run, runs, and blocks of runs. -/
abbrev CopyPart := Nat × Nat × Nat × Nat

/-- Bytes of a part. -/
def partBytes (p : CopyPart) : Nat := p.2.1 * p.2.2.1 * p.2.2.2

/-- The parts of a copy: whole blocks of 2^24 chunks, the chunks left, the bytes left. -/
def copyParts (len : Nat) : List CopyPart :=
  [(0, 4096, 2 ^ 24, len / 2 ^ 36), (len / 2 ^ 36 * 2 ^ 36, 4096, len / 4096 % 2 ^ 24, 1), (len / 4096 * 4096, len % 4096, 1, 1)]

theorem copyParts_sum (len : Nat) : ((copyParts len).map partBytes).sum = len := by
  simp only [copyParts, partBytes, List.map_cons, List.map_nil, List.sum_cons, List.sum_nil]
  omega

/-- The descriptor of a part of this command's copy. -/
def partDesc (c : Cmd) (p : CopyPart) : Bytes := copyDesc (c.arg 0 8 + p.1) (c.arg 8 8 + p.1) p.2.1 p.2.2.1 p.2.2.2

/-- Bytes behind a first part of a list. -/
theorem bat_append_right {l : Bytes} {k : Nat} (h : l.length = k) (m : Bytes) (o n : Nat) : bat (l ++ m) (k + o) n = bat m o n := by
  rw [bat, bat, ← h, List.drop_length_add_append]

/-- The value at the front of a list. -/
theorem bat_natBytes {n v : Nat} (hv : v < 2 ^ (8 * n)) (m : Bytes) : bat (natBytes n v ++ m) 0 n = v := by
  rw [bat, List.drop_zero, List.take_left' (by simp), leNat_natBytes, Nat.mod_eq_of_lt hv]

/-- Five counts that follow each other. -/
theorem bat_counts {c0 c1 c2 c3 c4 : Nat} (h0 : c0 < 2 ^ 32) (h1 : c1 < 2 ^ 32) (h2 : c2 < 2 ^ 32) (h3 : c3 < 2 ^ 32)
    (h4 : c4 < 2 ^ 32) {l w m : Bytes} (hl : l.length = 24)
    (hw : w = natBytes 4 c0 ++ (natBytes 4 c1 ++ (natBytes 4 c2 ++ (natBytes 4 c3 ++ (natBytes 4 c4 ++ m))))) :
    descTotal (l ++ w) = c0 * c1 * c2 * c3 * c4 := by
  have hskip (v : Nat) (m : Bytes) (o : Nat) : bat (natBytes 4 v ++ m) (4 + o) 4 = bat m o 4 := bat_append_right (by simp) m o 4
  have hat (o : Nat) : bat (l ++ w) (24 + o) 4 = bat w o 4 := bat_append_right hl w o 4
  have e0 : bat w 0 4 = c0 := by rw [hw, bat_natBytes h0]
  have e1 : bat w 4 4 = c1 := by rw [hw, hskip _ _ 0, bat_natBytes h1]
  have e2 : bat w 8 4 = c2 := by rw [hw, hskip _ _ 4, hskip _ _ 0, bat_natBytes h2]
  have e3 : bat w 12 4 = c3 := by rw [hw, hskip _ _ 8, hskip _ _ 4, hskip _ _ 0, bat_natBytes h3]
  have e4 : bat w 16 4 = c4 := by rw [hw, hskip _ _ 12, hskip _ _ 8, hskip _ _ 4, hskip _ _ 0, bat_natBytes h4]
  rw [descTotal, hat 0, hat 4, hat 8, hat 12, hat 16, e0, e1, e2, e3, e4]

/-- A copy's descriptor moves its part's bytes. -/
theorem descTotal_copyDesc {src dst c0 c1 c2 : Nat} (h0 : c0 < 2 ^ 32) (h1 : c1 < 2 ^ 32) (h2 : c2 < 2 ^ 32) :
    descTotal (copyDesc src dst c0 c1 c2) = c0 * c1 * c2 := by
  let head := natBytes 8 src ++ natBytes 8 dst ++ natBytes 4 0 ++ [2, 12, 0, 0]
  let rest := natBytes 4 0 ++ (natBytes 8 4096 ++ (natBytes 8 (2 ^ 36) ++ List.replicate 64 0))
  have hsplit : copyDesc src dst c0 c1 c2 =
      head ++ (natBytes 4 c0 ++ (natBytes 4 c1 ++ (natBytes 4 c2 ++ (natBytes 4 1 ++ (natBytes 4 1 ++ rest))))) := by
    simp only [copyDesc, List.append_assoc, head, rest]
  rw [hsplit, bat_counts h0 h1 h2 (by decide) (by decide) (by simp [head]) rfl, Nat.mul_one, Nat.mul_one]

theorem partDesc_total {len : Nat} (hlen : len ≤ 2 ^ 57) (c : Cmd) {p : CopyPart} (hp : p ∈ copyParts len) :
    descTotal (partDesc c p) = partBytes p := by
  refine descTotal_copyDesc ?_ ?_ ?_ <;>
  · simp only [copyParts, List.mem_cons, List.not_mem_nil, or_false] at hp
    rcases hp with rfl | rfl | rfl <;> dsimp only <;> omega

/-- The parts of a copy that have bytes. -/
def liveParts (len : Nat) : List CopyPart := (copyParts len).filter fun p => decide (0 < partBytes p)

/-- Parts without bytes add nothing. -/
theorem sum_filter_pos {α : Type} (f : α → Nat) (l : List α) : ((l.filter fun x => decide (0 < f x)).map f).sum = (l.map f).sum := by
  induction l with
  | nil => rfl
  | cons x l ih =>
    rw [List.map_cons, List.sum_cons, ← ih]
    by_cases h : 0 < f x
    · rw [List.filter_cons_of_pos (by simpa using h), List.map_cons, List.sum_cons]
    · rw [List.filter_cons_of_neg (by simpa using h), Nat.eq_zero_of_not_pos h, Nat.zero_add]

/-- One operation for each part of a copy. -/
def pushParts (s : State) (q r : Nat) (c : Cmd) (l : List CopyPart) : State :=
  l.foldl (fun s p => s.pushHub q r c 0 (partDesc c p) true [p.1, p.1 / 4096]) s

theorem pushParts_pushed (s : State) (q r : Nat) (c : Cmd) (l : List CopyPart) : ∃ ops, Pushed s (s.pushParts q r c l) q ops ∧
    ops.map (·.desc) = l.map (partDesc c) ∧ ∀ o ∈ ops, ∃ d, HubOp r c 0 d o := by
  induction l generalizing s with
  | nil => exact ⟨[], .refl s q, rfl, by simp⟩
  | cons p l ih =>
    obtain ⟨o, hpush, ho⟩ := s.pushHub_pushed q r c 0 (partDesc c p) true [p.1, p.1 / 4096]
    obtain ⟨ops, hrest, hdescs, hops⟩ := ih (s.pushHub q r c 0 (partDesc c p) true [p.1, p.1 / 4096])
    refine ⟨o :: ops, hpush.trans hrest, by rw [List.map_cons, List.map_cons, ho.desc, hdescs], fun x hx => ?_⟩
    rcases List.mem_cons.1 hx with rfl | hx
    · exact ⟨_, ho⟩
    · exact hops x hx

/-- The descriptors of a copy move all its bytes. -/
theorem partDescs_total {c : Cmd} {len : Nat} (hlen : len ≤ 2 ^ 57) {ops : List Op}
    (h : ops.map (·.desc) = (liveParts len).map (partDesc c)) : (ops.map fun o => descTotal o.desc).sum = len := by
  have hparts : ops.map (fun o => descTotal o.desc) = (liveParts len).map partBytes := by
    have hmap := congrArg (List.map descTotal) h
    rw [List.map_map, List.map_map] at hmap
    exact hmap.trans (List.map_congr_left fun p hp => partDesc_total hlen c (List.mem_of_mem_filter hp))
  have hsum : ((liveParts len).map partBytes).sum = ((copyParts len).map partBytes).sum := sum_filter_pos partBytes _
  rw [hparts, hsum, copyParts_sum]

theorem exec_copy {len : Nat} (hhead : HeadIs s r 4 c) (hlen : len = c.arg 16 8) (hpos : 0 < len) (hsrc : c.arg 0 8 + len ≤ 2 ^ 57)
    (hdst : c.arg 8 8 + len ≤ 2 ^ 57) (hready : s.basinReady (r % 4) = true) :
    exec (.copy r) s = .next ((s.startCmd r c.uid).pushParts (18432 + 8 * (r % 4)) r c (liveParts len)) := by
  subst hlen
  have hrun : s.copyRun r c = (s.startCmd r c.uid).pushParts (18432 + 8 * (r % 4)) r c (liveParts (c.arg 16 8)) := by
    unfold copyRun
    dsimp only
    rw [hready, if_neg (by decide), if_neg (Nat.ne_of_gt hpos), if_neg (by omega)]
    rfl
  rw [← hrun]
  change execCopy r s = _
  rw [execCopy, hhead.headOp]

end State

/-! ### The other commands -/

section

variable {s : State} {r : Nat}

theorem exec_commandFetch (hr : r < 64) (hopen : (s.ring r).st = 1) (hgoing : (s.ring r).closing = false)
    (hmore : (s.ring r).tail ≠ (s.ring r).head) (hready : s.ready .hlk 0 = true) (hquiet : s.quiet .hlk 0 = false)
    (hslots : 0 < s.slotsLeft r) : exec (.commandFetch r) s = .next (s.fetchCmd r) :=
  congrArg Host.Outcome.next (if_pos ⟨hr, hopen, by rw [hgoing]; rfl, hmore, hready, by rw [hquiet]; rfl, hslots⟩)

theorem exec_commandComplete {i : Nat} {c : Cmd} {st : BitVec 16} {res : Word} (hc : ((s.ring r).cmds.filter (·.ended))[i]? = some c)
    (hphase : c.phase = .finished st res) (hfence : c.fenced = true → (s.ring r).cmds.head?.map (·.uid) = some c.uid) :
    exec (.commandComplete r i) s = .next (s.complete r c st res) := by
  have hgo : (c.fenced && !((s.ring r).cmds.head?.any (·.uid = c.uid))) = false := by
    cases hf : c.fenced with
    | false => rfl
    | true =>
      obtain ⟨d, hd, hu⟩ := Option.map_eq_some_iff.1 (hfence hf)
      simp [hd, hu]
  change execCommandComplete r i s = _
  simp only [execCommandComplete, hc, hphase, hgo]
  rfl

end

/-- Settles O24: a fetch and a completion change one ring; a completion's entry is a store to host memory; the operations of STREAM and
COPY are pushed one by one, each with its descriptor. -/
theorem ringFlow : Obligations.RingFlow := by
  refine ⟨fun s r hr => ⟨fun e c n hopen hgoing hmore hready hquiet hslots hn he hc => ?fetch,
      fun i c st res a hc hphase hfence herr ha hfits hup hflag hnext => ?complete⟩,
    fun s r c => ⟨fun q n bs s' hhead hn hpos hbasin hqueue hready hq hread => ?stream,
      fun q len hhead hlen hpos hsrc hdst hready hq => ?copy⟩⟩
  case fetch =>
    subst hn
    exact ⟨_, exec_commandFetch hr hopen hgoing hmore hready hquiet hslots, s.fetchCmd_spec r he hc⟩
  case complete =>
    subst ha
    have hring := s.completed_ring (c := c) (st := st) (res := res) hr
    have hexec := exec_commandComplete hc hphase hfence
    rw [s.complete_written herr hfits hup hflag hnext hr] at hexec
    refine ⟨_, hexec, s.completed_stored, ?_, ?_, ?_, fun q hq => (hring q).trans (if_neg hq)⟩
    · rw [hring, if_pos rfl]
    · rw [hring, if_pos rfl]
    · rw [hring, if_pos rfl]
  case stream =>
    subst hq
    obtain ⟨ops, hpush, hlen, hops⟩ := (s'.startCmd r c.uid).pushList_pushed (18432 + 8 * c.arg 12 1 + c.arg 13 1) r c (c.arg 0 8) n 0 0 bs
    obtain ⟨hnow, hqueues, hsame⟩ := hpush.started
    refine ⟨_, ops, State.exec_stream hhead hn hpos hbasin hqueue hready hread, hnow, hqueues, hlen, fun i o ho => ?_, hsame⟩
    obtain ⟨hdesc, hcmd, hstep, hstarted⟩ := hops i o ho
    exact ⟨hdesc, by rw [hcmd, Nat.zero_add], hstep, hstarted⟩
  case copy =>
    subst hq
    obtain ⟨ops, hpush, hdescs, hops⟩ := (s.startCmd r c.uid).pushParts_pushed (18432 + 8 * (r % 4)) r c (State.liveParts len)
    obtain ⟨hnow, hqueues, hsame⟩ := hpush.started
    refine ⟨_, ops, State.exec_copy hhead hlen hpos hsrc hdst hready, hnow, hqueues,
      State.partDescs_total (Nat.le_of_add_left_le hsrc) hdescs, fun o ho => ?_, hsame⟩
    obtain ⟨d, -, hcmd, hstep, hstarted⟩ := hops o ho
    exact ⟨hcmd, hstep, hstarted⟩

end Sys2Proof.Machine
end

section
/-! SUPPORT. What reading a part of the machine gives where a command leaves that part alone, and tables written twice. -/

namespace Sys2Proof.Machine

/-! ### Reading an unchanged part -/

namespace Same

variable {ps : List Part} {s u : State}

theorem shoal (h : Same ps s u) (p t : Nat) (hp : ps.contains .shoals = false := by rfl) : u.shoal p t = s.shoal p t := by
  have e : u.shoals = s.shoals := h .shoals (by simpa using hp)
  rw [State.shoal, e, State.shoal]

theorem core (h : Same ps s u) (c : Nat) (hp : ps.contains .cores = false := by rfl) : u.core c = s.core c := by
  have e : u.cores = s.cores := h .cores (by simpa using hp)
  rw [State.core, e, State.core]

theorem launch (h : Same ps s u) (l : Nat) (hp : ps.contains .launches = false := by rfl) : u.launch? l = s.launch? l := by
  have e : u.launches = s.launches := h .launches (by simpa using hp)
  rw [State.launch?, e, State.launch?]

theorem queue (h : Same ps s u) (q : Nat) (hp : ps.contains .queues = false := by rfl) : u.queue q = s.queue q := by
  have e : u.queues = s.queues := h .queues (by simpa using hp)
  rw [State.queue, e, State.queue]

theorem pcore (h : Same ps s u) (q : Nat) (hp : ps.contains .ras = false := by rfl) : u.pcore q = s.pcore q := by
  have e : u.ras = s.ras := h .ras (by simpa using hp)
  rw [State.pcore, e, State.pcore]

theorem ring (h : Same ps s u) (r : Nat) (hp : ps.contains .hlk = false := by rfl) : u.ring r = s.ring r := by
  have e : u.hlk = s.hlk := h .hlk (by simpa using hp)
  rw [State.ring, e, State.ring]

theorem rd (h : Same ps s u) (a : Nat) (hp : ps.contains .regs = false := by rfl) : u.rd a = s.rd a :=
  State.rd_of_regs (h .regs (by simpa using hp)) a

end Same

/-! ### A table written twice -/

theorem tset_tset {α : Type} [DecidableEq α] (t : Tab α) (d : α) (a : Nat) (v w : α) : tset (tset t d a v) d a w = tset t d a w := by
  have hbelow : (tset t d a v).filter (fun e => decide (e.1 < a)) = t.filter fun e => decide (e.1 < a) := by
    rw [filter_tset_of_not t d v a (fun k => decide (k < a)) (by simp)]
    have hnone (e : Nat × α) : (decide (e.1 < a) && decide (a < e.1)) = false := by simp; omega
    simp [hnone]
  have habove : (tset t d a v).filter (fun e => decide (a < e.1)) = t.filter fun e => decide (a < e.1) := by
    rw [filter_tset_of_not t d v a (fun k => decide (a < k)) (by simp)]
    have hnone (e : Nat × α) : (decide (a < e.1) && decide (e.1 < a)) = false := by simp; omega
    simp [hnone]
  rw [tset, hbelow, habove, tset]
theorem State.setShoal_setShoal (s : State) (p t : Nat) (x y : Option Shoal) : (s.setShoal p t x).setShoal p t y = s.setShoal p t y := by
  simp only [State.setShoal, tset_tset]

theorem State.shoal_setShoal_same (s : State) (p t : Nat) (x : Option Shoal) : (s.setShoal p t x).shoal p t = x :=
  (s.shoal_setShoal p t p t x).trans (if_pos rfl)

end Sys2Proof.Machine
end

section
/-! SUPPORT. Statement O35: the control words of a shoal and its event flags (R117, R126, R130, R181, R182). -/

namespace Sys2Proof.Machine

/-! ### Folds that change nothing -/

/-- A fold whose every step leaves its start alone ends there. -/
theorem foldl_fixed {α β : Type} {f : α → β → α} {a : α} {l : List β} (h : ∀ x ∈ l, f a x = a) : l.foldl f a = a := by
  induction l with
  | nil => rfl
  | cons x l ih => rw [List.foldl_cons, h x (by simp), ih fun y hy => h y (by simp [hy])]

/-! ### Counting an issue -/

namespace State

variable (s : State) (th : Thr)

theorem countIssue_core (c : Nat) : (s.countIssue th).core c = if c = th.p ∧ th.p < 2304 then
    { s.core c with lastIssue := (s.core c).lastIssue.set (unitOf th) th.t } else s.core c := by
  by_cases hp : th.p < 2304
  · rw [countIssue, if_pos (by simpa [Thr.onCore] using hp), (bump_ext ..).1.core, core_setCore]
    by_cases hc : c = th.p
    · rw [if_pos hc, if_pos ⟨hc, hp⟩, hc]
    · rw [if_neg hc, if_neg fun h => hc h.1]
  · rw [countIssue, if_neg (by simpa [Thr.onCore] using hp), if_neg fun h => hp h.2]

theorem countIssue_shoal (p t : Nat) : (s.countIssue th).shoal p t = s.shoal p t := (s.countIssue_ext th).1.shoal p t

theorem countIssue_launch (l : Nat) : (s.countIssue th).launch? l = s.launch? l := (s.countIssue_ext th).1.launch l

theorem countIssue_flag (c n : Nat) : (s.countIssue th).flag c n = s.flag c n := by
  rw [flag, countIssue_core, flag]
  split <;> rfl

theorem countIssue_tilesRetired (c t l : Nat) : (s.countIssue th).tilesRetired c t l = s.tilesRetired c t l := by
  have h : ∃ x, (s.countIssue th).core c = { s.core c with lastIssue := x } := by
    rw [countIssue_core]
    split <;> exact ⟨_, rfl⟩
  obtain ⟨x, hx⟩ := h
  rw [tilesRetired, hx, tilesRetired]

theorem countIssue_guard (l : Nat) : (s.countIssue th).guard th l = s.guard th l := by
  rw [guard, predOf, (s.countIssue_spec th).2.1, guard, predOf]

theorem countIssue_lanes : (s.countIssue th).lanes th = s.lanes th := by
  rw [lanes, funext (s.countIssue_guard th), lanes]

/-! ### Event flags of a core without stream operations (R130) -/

variable {s}

theorem pumpCore_noStreams {c : Nat} (h : NoStreams s c) : s.pumpCore c = s :=
  foldl_fixed fun k hk => by rw [h k (List.mem_range.1 hk), List.foldl_nil]

theorem consumeSlot_noStreams {c : Nat} (h : NoStreams s c) (n : Nat) : s.consumeSlot c n = s :=
  foldl_fixed fun k hk => by
    dsimp only
    rw [h k (List.mem_range.1 hk), List.foldl_nil]

theorem setFlag_noStreams {c : Nat} (h : NoStreams s c) (n : Nat) : s.setFlag c n = s.putFlag c n true :=
  pumpCore_noStreams (s := s.putFlag c n true) h

theorem clearFlag_noStreams {c n : Nat} (h : NoStreams s c) : s.clearFlag c n = if s.flag c n then s.putFlag c n false else s := by
  rw [clearFlag, consumeSlot_noStreams (s := s.putFlag c n false) h, pumpCore_noStreams (s := s.putFlag c n false) h]

theorem clearFlag_cores {c n : Nat} (h : NoStreams s c) : Ext [.cores] s (s.clearFlag c n) := by
  rw [clearFlag_noStreams h]
  exact Ext.ite (s.putFlag_ext c n false) (Ext.refl _ s)

theorem flag_putFlag {n m : Nat} (hn : n < 64) (c d : Nat) (v : Bool) : (s.putFlag c n v).flag d m = if d = c ∧ m = n then v else s.flag d m := by
  rw [flag, putFlag, core_setCore]
  by_cases hd : d = c
  · subst hd
    by_cases hm : m = n
    · rw [if_pos rfl, if_pos ⟨rfl, hm⟩, hm]
      exact bit_putBit_same _ hn v
    · rw [if_pos rfl, if_neg fun h => hm h.2]
      exact bit_putBit_other _ hn hm v
  · rw [if_neg hd, if_neg fun h => hd h.1, flag]

theorem clearFlag_clears {c n : Nat} (h : NoStreams s c) (hn : n < 64) : (s.clearFlag c n).flag c n = false := by
  rw [clearFlag_noStreams h]
  cases hflag : s.flag c n with
  | false => exact hflag
  | true => exact (flag_putFlag hn c c false).trans (if_pos ⟨rfl, rfl⟩)

/-! ### A shoal goes on (R127, R130) -/

theorem resumeShoal_going {p t : Nat} {x : Shoal} {k : Kernel} {step : Word} (hx : s.shoal p t = some x) (hcode : s.codeOf p x = some (k, step))
    (hpc : x.pc < k.code.length) : s.resumeShoal p t = s.setShoal p t (some x.going) := by
  simp only [resumeShoal, hx, hcode]
  exact if_pos hpc

theorem codeOf_core {p : Nat} (hp : p < 2304) (x : Shoal) : s.codeOf p x = (s.launch? x.launch).map fun l => (l.kernel, l.step) :=
  if_pos hp

theorem thrAt_code {p t : Nat} {th : Thr} (h : s.thrAt p t = some th) : ∃ k step, s.codeOf p th.x = some (k, step) ∧ th.len = k.code.length := by
  unfold thrAt at h
  split at h
  · split at h
    · split at h
      case h_1 k step hcode =>
        cases h
        exact ⟨k, step, hcode, rfl⟩
      case h_2 => cases h
    · cases h
  · cases h

end State

/-! ### A word that issues -/

namespace Issues

variable {s : State} {p t cls op : Nat} {th : Thr}

theorem place (h : Issues s p t cls op th) : th.p = p ∧ th.t = t ∧ s.shoal p t = some th.x := State.thrAt_spec h.ready

theorem onCore (h : Issues s p t cls op th) (hp : p < 2304) : th.onCore = true := by
  rw [← h.place.1] at hp
  simpa [Thr.onCore] using hp

theorem shoal (h : Issues s p t cls op th) : (s.countIssue th).shoal th.p th.t = some th.x := by
  obtain ⟨hp, ht, hx⟩ := h.place
  rw [s.countIssue_shoal, hp, ht, hx]

theorem nextPc (h : Issues s p t cls op th) : (s.countIssue th).nextPc th = issuedAs s th (some th.atNext) :=
  State.nextPc_spec _ th th.x h.shoal h.next

theorem waitPc (h : Issues s p t cls op th) (w : Wait) :
    (s.countIssue th).waitPc th w = issuedAs s th (some { th.atNext with wait := w }) := by
  simp only [State.waitPc, h.shoal]
  rfl

theorem issued_shoal (h : Issues s p t cls op th) (x : Option Shoal) : (issuedAs s th x).shoal p t = x := by
  obtain ⟨hp, ht, -⟩ := h.place
  rw [issuedAs, hp, ht, State.shoal_setShoal_same]

theorem goto (h : Issues s p t cls op th) {n : Nat} {pc : Int} (hpc : pc = n) (hn : n < th.len) :
    (s.countIssue th).goto th pc = issuedAs s th (some { th.x with pc := n }) := by
  simp only [State.goto, h.shoal]
  rw [if_pos ⟨by omega, by omega⟩, hpc]
  rfl

/-- A shoal that waits at the next word and goes on at once. -/
theorem resume (h : Issues s p t cls op th) (hp : p < 2304) (w : Wait) :
    (issuedAs s th (some { th.atNext with wait := w })).resumeShoal p t = issuedAs s th (some { th.atNext with wait := .run }) := by
  obtain ⟨hthp, htht, -⟩ := h.place
  obtain ⟨k, step, hcode, hlen⟩ := State.thrAt_code h.ready
  have hnext := h.next
  rw [hlen] at hnext
  rw [State.resumeShoal_going (h.issued_shoal _) (k := k) (step := step) ?_ hnext, issuedAs, hthp, htht, State.setShoal_setShoal]
  · rw [issuedAs, hthp, htht]
    rfl
  · rw [State.codeOf_core hp] at hcode ⊢
    rw [← hcode]
    exact congrArg _ (s.countIssue_launch th th.x.launch)

end Issues

/-! ### The commands -/

section

variable {s : State} {p t : Nat} {th : Thr}

theorem exec_nop (h : Issues s p t 0 0x00 th) : exec (.nop p t .ok) s = .next (issuedAs s th (some th.atNext)) :=
  congrArg Host.Outcome.next (State.issueWord_ok h rfl (congrArg some h.nextPc))

theorem exec_endThread (h : Issues s p t 0 0x01 th) : exec (.endThread p t .ok) s = .next (issuedAs s th
    (if endedAfter s th = BitVec.allOnes 32 then none else some { th.atNext with ended := endedAfter s th })) := by
  refine congrArg Host.Outcome.next (State.issueWord_ok h rfl (congrArg some ?_))
  have hended : ((s.countIssue th).lanes th).foldl (fun m l => m ||| BitVec.ofNat 32 (2 ^ l)) th.x.ended = endedAfter s th := by
    rw [s.countIssue_lanes, endedAfter]
  simp only [State.endRun, hended]
  split
  · rfl
  · rw [State.nextPc_spec _ th _ (State.shoal_setShoal_same ..) h.next, State.setShoal_setShoal]
    rfl

theorem exec_bar (h : Issues s p t 0 0x02 th) (hp : p < 2304) (hretired : s.tilesRetired p t th.x.launch = true) :
    exec (.bar p t .ok) s = .next (issuedAs s th (some { th.atNext with wait := .bar (nfld th.w 21 20) (nfld th.w 18 16) })) := by
  obtain ⟨hthp, htht, -⟩ := h.place
  have hcore := h.onCore hp
  refine congrArg Host.Outcome.next (State.issueWord_ok h ?_ ?_)
  · simp [State.barRun, hcore, hthp, htht, hretired]
  · simp only [State.barRun, hcore, s.countIssue_tilesRetired, hthp, htht, hretired, h.waitPc]
    rfl

theorem branch_issued {op : Nat} {take : List Bool → Bool} (h : Issues s p t 0 op th) : s.branch p t .ok op take =
    if take ((State.activeLanes th).map (s.guard th)) then (s.countIssue th).goto th (th.x.pc + sext 32 th.imm32)
    else issuedAs s th (some th.atNext) := by
  refine State.issueWord_ok h rfl (congrArg some ?_)
  rw [funext (s.countIssue_guard th), h.nextPc]

/-- A branch goes to its target where it is taken, else to the next word (R182). -/
theorem branch_settled {op : Nat} {take : List Bool → Bool} {taken : Prop} {o : Host.Outcome State Fault Refusal}
    (ho : o = .next (s.branch p t .ok op take)) (h : Issues s p t 0 op th)
    (htake : take ((State.activeLanes th).map (s.guard th)) = true ↔ taken) :
    (¬taken → o = .next (issuedAs s th (some th.atNext))) ∧
    ∀ n : Nat, taken → (th.x.pc : Int) + sext 32 th.imm32 = n → n < th.len → o = .next (issuedAs s th (some { th.x with pc := n })) := by
  rw [ho, branch_issued h]
  refine ⟨fun hnot => by rw [if_neg fun hgo => hnot (htake.1 hgo)], fun n hgo hn hlen => ?_⟩
  rw [if_pos (htake.2 hgo), h.goto hn hlen]

/-- A shoal-scope word with an executing lane is issued once. -/
theorem shoalOp_issued {op : Nat} (h : Issues s p t 0 op th) (hlanes : s.lanes th ≠ []) {f : State → Thr → Nat → Option State} {u : State}
    (hf : ∀ l, (f s th l).isSome) (hu : ∀ l, f (s.countIssue th) th l = some u) : s.shoalOp p t .ok 0 op f = u := by
  obtain ⟨l, ls, hl⟩ := List.exists_cons_of_ne_nil hlanes
  refine State.issueWord_ok h ?_ ?_
  · simp only [hl, hf]
  · simp only [s.countIssue_lanes, hl, hu]

theorem exec_efset (h : Issues s p t 0 0x03 th) (hp : p < 2304) (hlanes : s.lanes th ≠ []) :
    exec (.efset p t .ok) s = .next (((s.countIssue th).setFlag p (th.imm16 % 64)).nextPc th) := by
  have hcore := h.onCore hp
  refine congrArg Host.Outcome.next (shoalOp_issued h hlanes (fun _ => ?_) fun _ => ?_)
  · rw [if_pos hcore]
    rfl
  · rw [if_pos hcore, h.place.1]

theorem exec_efclr (h : Issues s p t 0 0x04 th) (hp : p < 2304) (hlanes : s.lanes th ≠ []) :
    exec (.efclr p t .ok) s = .next (((s.countIssue th).clearFlag p (th.imm16 % 64)).nextPc th) := by
  have hcore := h.onCore hp
  refine congrArg Host.Outcome.next (shoalOp_issued h hlanes (fun _ => ?_) fun _ => ?_)
  · rw [if_pos hcore]
    rfl
  · rw [if_pos hcore, h.place.1]

theorem efwaitRun_issued {op : Nat} (h : Issues s p t 0 op th) (hp : p < 2304) (clr : Bool) :
    (s.countIssue th).efwaitRun th clr = some (
      let u := issuedAs s th (some { th.atNext with wait := .flag (th.imm16 % 64) clr })
      if s.flag p (th.imm16 % 64) then if clr then u.flagRelease p (th.imm16 % 64) else u.resumeShoal p t else u) := by
  obtain ⟨hthp, htht, -⟩ := h.place
  have hflag (x : Option Shoal) (n : Nat) : (issuedAs s th x).flag p n = s.flag p n := s.countIssue_flag th p n
  simp only [State.efwaitRun, h.onCore hp, h.waitPc, hthp, htht, hflag]
  rfl

theorem exec_efwait (h : Issues s p t 0 0x05 th) (hp : p < 2304) (hlanes : s.lanes th ≠ []) :
    exec (.efwait p t .ok) s = .next (issuedAs s th (some
      { th.atNext with wait := if s.flag p (th.imm16 % 64) then .run else .flag (th.imm16 % 64) false })) := by
  have hcore := h.onCore hp
  refine congrArg Host.Outcome.next (shoalOp_issued h hlanes (fun _ => ?_) fun _ => ?_)
  · simp [State.efwaitRun, hcore]
  · rw [efwaitRun_issued h hp]
    cases s.flag p (th.imm16 % 64) with
    | false => rfl
    | true => exact congrArg some (h.resume hp _)

theorem exec_efwaitc (h : Issues s p t 0 0x06 th) (hp : p < 2304) (hlanes : s.lanes th ≠ []) :
    exec (.efwaitc p t .ok) s = .next (
      let u := issuedAs s th (some { th.atNext with wait := .flag (th.imm16 % 64) true })
      if s.flag p (th.imm16 % 64) then u.flagRelease p (th.imm16 % 64) else u) := by
  have hcore := h.onCore hp
  refine congrArg Host.Outcome.next (shoalOp_issued h hlanes (fun _ => ?_) fun _ => ?_)
  · simp [State.efwaitRun, hcore]
  · rw [efwaitRun_issued h hp]
    rfl

/-- A flag word on a core without stream operations: the flag changes and the shoal stands at the next word. -/
theorem flagged_spec {op : Nat} {u : State} (h : Issues s p t 0 op th) (e : Ext [.cores] (s.countIssue th) u) :
    (u.nextPc th).flag p (th.imm16 % 64) = u.flag p (th.imm16 % 64) ∧ (u.nextPc th).shoal p t = some th.atNext ∧
      Same [.shoals, .cores, .regs, .hlk] s (u.nextPc th) := by
  obtain ⟨hp, ht, -⟩ := h.place
  have hx : u.shoal th.p th.t = some th.x := (e.1.shoal ..).trans h.shoal
  have hnext := State.nextPc_spec u th th.x hx h.next
  refine ⟨by rw [hnext]; rfl, ?_, ?_⟩
  · rw [hnext, hp, ht, State.shoal_setShoal_same]
    rfl
  · rw [hnext]
    exact (((State.setShoal_ext ..).step (by rfl) (e.step (by rfl) ((s.countIssue_ext th).step (by rfl) (Ext.refl _ s))))).1

end

/-- Settles O35: each word issues once, and a flag's change reaches nobody on a core without stream operations. -/
theorem controlInstructions : Obligations.ControlInstructions := by
  refine ⟨fun s p t th => ⟨exec_nop, exec_endThread, exec_bar, fun cmd op taken h hmem => ?branch⟩,
    fun s p t th hp hlanes => ⟨fun h => exec_efset h hp hlanes, fun h hnone => ?set, fun h => exec_efclr h hp hlanes, fun h hnone => ?clear,
      fun h => exec_efwait h hp hlanes, fun h hflag => ?waitClear, fun h hflag => ?waitSet⟩⟩
  case branch =>
    simp only [List.mem_cons, Prod.mk.injEq, List.not_mem_nil, or_false] at hmem
    obtain ⟨rfl, rfl, rfl⟩ | ⟨rfl, rfl, rfl⟩ | ⟨rfl, rfl, rfl⟩ := hmem
    · exact branch_settled rfl h (by simp)
    · exact branch_settled rfl h (by simp)
    · exact branch_settled rfl h (by simp)
  case set =>
    have hfree : NoStreams (s.countIssue th) p := fun k hk => ((s.countIssue_ext th).1.queue _).trans (hnone k hk)
    obtain ⟨hflag, hshoal, hsame⟩ := flagged_spec h (State.putFlag_ext (s.countIssue th) p (th.imm16 % 64) true)
    refine ⟨_, exec_efset h hp hlanes, ?_⟩
    rw [State.setFlag_noStreams hfree]
    exact ⟨by rw [hflag, State.flag_putFlag (Nat.mod_lt _ (by decide)), if_pos ⟨rfl, rfl⟩], hshoal, hsame⟩
  case clear =>
    have hfree : NoStreams (s.countIssue th) p := fun k hk => ((s.countIssue_ext th).1.queue _).trans (hnone k hk)
    obtain ⟨hflag, hshoal, hsame⟩ := flagged_spec h (State.clearFlag_cores hfree (n := th.imm16 % 64))
    exact ⟨_, exec_efclr h hp hlanes, hflag.trans (State.clearFlag_clears hfree (Nat.mod_lt _ (by decide))), hshoal, hsame⟩
  case waitClear =>
    rw [exec_efwaitc h hp hlanes, hflag]
    rfl
  case waitSet =>
    rw [exec_efwaitc h hp hlanes, hflag]
    rfl

end Sys2Proof.Machine
end

section
/-! SUPPORT. Statement O26: LOAD_KERNEL, replacements and LAUNCH (R122 to R124, R203, R204). -/

namespace Sys2Proof.Machine

namespace State

variable (s : State)

/-! ### A kernel takes a slot (R204) -/

/-- The kernel as it stands in a slot, with the slot's next generation. -/
def slotKernel (n : Nat) (k : Kernel) : Kernel := { k with gen := BitVec.ofNat 24 (tget s.gens 0 n + 1) }

/-- The state with a kernel in a slot. -/
def withKernel (n : Nat) (k : Kernel) : State :=
  { s with kernels := tset s.kernels none n (some (s.slotKernel n k)), gens := tset s.gens 0 n ((tget s.gens 0 n + 1) % 2 ^ 24) }

theorem placeKernel_eq (n : Nat) (k : Kernel) : s.placeKernel n k = ((s.slotKernel n k).handle n, s.withKernel n k) := by
  have hgen : BitVec.ofNat 24 ((tget s.gens 0 n + 1) % 2 ^ 24) = BitVec.ofNat 24 (tget s.gens 0 n + 1) :=
    BitVec.eq_of_toNat_eq (by simp)
  simp only [placeKernel, hgen]
  rfl

theorem withKernel_at (n m : Nat) (k : Kernel) : (s.withKernel n k).kernelAt m = if m = n then some (s.slotKernel n k) else s.kernelAt m :=
  tget_tset ..

theorem withKernel_ext (n : Nat) (k : Kernel) : Ext [.kernels, .gens] s (s.withKernel n k) :=
  (congrArg (Ext [.kernels, .gens] s ·.2) (s.placeKernel_eq n k)).mp (s.placeKernel_ext n k)

variable {s}

/-- The kernel of a new load stands in a free slot. -/
theorem placeNew_free {k : Kernel} (hroom : s.codeHeld + 8 * k.code.length ≤ 16777216) (hfree : ∃ n, n < 256 ∧ s.kernelAt n = none) :
    ∃ n, n < 256 ∧ s.kernelAt n = none ∧ s.placeNew k = .inr ((s.slotKernel n k).handle n, s.withKernel n k) := by
  obtain ⟨m, hm, hnone⟩ := hfree
  have hsome : ((List.range 256).find? fun n => (s.kernelAt n).isNone).isSome :=
    List.find?_isSome.2 ⟨m, List.mem_range.2 hm, by rw [hnone]; rfl⟩
  obtain ⟨n, hn⟩ := Option.isSome_iff_exists.1 hsome
  have hempty := List.find?_some hn
  refine ⟨n, List.mem_range.1 (List.mem_of_find?_eq_some hn), Option.isNone_iff_eq_none.1 hempty, ?_⟩
  rw [placeNew, hn]
  simp only [if_pos hroom, placeKernel_eq]

theorem placeOver_fits {h : Word} {k old : Kernel} (hold : s.kernelOf h = some old)
    (hroom : s.codeHeld - 8 * old.code.length + 8 * k.code.length ≤ 16777216) :
    s.placeOver h k = .inr ((s.slotKernel (h.toNat % 65536) k).handle (h.toNat % 65536), s.withKernel (h.toNat % 65536) k) := by
  rw [placeOver, hold]
  simp only [if_pos hroom, placeKernel_eq]

/-! ### LOAD_KERNEL (R203, R204) -/

variable {r : Nat} {c : Cmd}

theorem loadRun_short (hlen : c.arg 8 4 < 64) : s.loadRun r c =
    (s.startCmd r c.uid).finishCmd r c.uid 2 (BitVec.ofNat 64 (2 * 2 ^ 48 + c.arg 8 4)) := by
  have hmod : c.arg 8 4 % 2 ^ 32 = c.arg 8 4 := Nat.mod_eq_of_lt (by omega)
  simp only [loadRun, if_pos hlen, loadBad, hmod]

theorem loadRun_checked {h img : Bytes} {s1 s2 s3 : State} {v : Nat} {k : Kernel} (hlong : 64 ≤ c.arg 8 4)
    (hhead : s.vread 0 (c.arg 0 8) 64 = .ok h false s1) (hisa : s1.negotiate 1 (· = bat h 4 1) = (s2, some v))
    (hmagic : bat h 0 4 = 0x4E545053) (hlen : c.arg 8 4 = 64 + 8 * bat h 8 4) (himg : s2.vread 0 (c.arg 0 8) (c.arg 8 4) = .ok img false s3)
    (hk : imageKernel v img = .ok k) (hnew : bat img 32 8 = 0) :
    s.loadRun r c = (s3.startCmd r c.uid).loadEnd r c.uid ((s3.startCmd r c.uid).placeNew k) := by
  simp only [loadRun, if_neg (Nat.not_lt.2 hlong), hhead, hisa, hmagic, if_neg (not_not.2 hlen), himg, hk, hnew, loadPlace]
  rfl

/-! ### LAUNCH (R122 to R124) -/

variable (s) in
/-- LAUNCH has taken its class's turn, and has started (R122). -/
def turnTaken (r : Nat) (c : Cmd) : State :=
  { s with hlk := if (s.ring r).fill then { s.hlk with lastFill := r } else { s.hlk with lastPri := r } }.startCmd r c.uid

variable (s) in
theorem turnTaken_ring (r : Nat) (c : Cmd) (q : Nat) : (s.turnTaken r c).ring q = (s.startCmd r c.uid).ring q := by
  rw [turnTaken]
  cases (s.ring r).fill <;> rfl

theorem turnTaken_finishCmd_ring (r : Nat) (c : Cmd) (status : Nat) (result : Word) (q : Nat) :
    ((s.turnTaken r c).finishCmd r c.uid status result).ring q = ((s.startCmd r c.uid).finishCmd r c.uid status result).ring q := by
  rw [turnTaken]
  cases (s.ring r).fill <;> rfl

variable (s) in
theorem turnTaken_ext (r : Nat) (c : Cmd) : Ext [.hlk] s (s.turnTaken r c) := (startCmd_ext ..).step (by rfl) (Ext.set_hlk ..)

/-- The launch that a LAUNCH command dispatches (R123, R380). -/
def launchOf (s : State) (r : Nat) (c : Cmd) (cs : List Nat) (k : Kernel) : Launch :=
  { ring := r, uid := c.uid, fill := (s.ring r).fill, handle := BitVec.ofNat 64 (c.arg 0 8), kernel := k, args := BitVec.ofNat 64 (c.arg 8 8)
    targets := cs, shoals := c.arg 18 2, step := c.step, budget := s.budgetOf c, started := [], ended := [], poisoned := [] }

theorem dispatch_refused {cause core detail : Nat}
    (h : s.launchRefusal (s.ring r).fill (BitVec.ofNat 64 (c.arg 0 8)) (c.arg 16 2) (c.arg 18 2) (s.targetsOf (c.arg 16 2)) =
      some (cause, core, detail)) :
    s.dispatch r c = (s.turnTaken r c).finishCmd r c.uid 2 (BitVec.ofNat 64 (cause * 2 ^ 48 + core * 2 ^ 32 + detail % 2 ^ 32)) := by
  simp only [dispatch, h]
  rfl

theorem dispatch_queued {cs : List Nat} {k : Kernel} (hcs : s.targetsOf (c.arg 16 2) = some cs)
    (h : s.launchRefusal (s.ring r).fill (BitVec.ofNat 64 (c.arg 0 8)) (c.arg 16 2) (c.arg 18 2) (some cs) = none)
    (hk : s.kernelOf (BitVec.ofNat 64 (c.arg 0 8)) = some k) (hroom : ∀ d ∈ cs, (s.classQ d (s.ring r).fill).length < 4) :
    s.dispatch r c = ((s.turnTaken r c).setLaunch c.uid (some (s.launchOf r c cs k))).enqueue c.uid (s.launchOf r c cs k) := by
  have hall : (cs.all fun d => decide ((s.classQ d (s.ring r).fill).length < 4)) = true := by simpa using hroom
  simp only [dispatch, hcs, h, hk, Option.getD_some, hall]
  rfl

/-- A launch enters each target's queue once (R123). -/
theorem enqueue_classQ (l : Nat) (x : Launch) (hnodup : x.targets.Nodup) (t : State) (d : Nat) :
    (t.enqueue l x).classQ d x.fill = t.classQ d x.fill ++ if d ∈ x.targets then [l] else [] := by
  have step (t : State) (c d : Nat) : (t.setCore c (if x.fill then { t.core c with fillQ := (t.core c).fillQ ++ [l] }
      else { t.core c with priQ := (t.core c).priQ ++ [l] })).classQ d x.fill = t.classQ d x.fill ++ if d = c then [l] else [] := by
    simp only [classQ, core_setCore]
    by_cases hd : d = c
    · subst hd
      cases x.fill <;> simp
    · simp [hd]
  rw [enqueue]
  generalize x.targets = cs at hnodup ⊢
  induction cs generalizing t with
  | nil => simp
  | cons c cs ih =>
    obtain ⟨hc, hcs⟩ := List.nodup_cons.1 hnodup
    rw [List.foldl_cons, ih _ hcs, step, List.append_assoc]
    congr 1
    by_cases hd : d = c
    · subst hd
      simp [hc]
    · simp [hd]

end State

/-! ### The commands -/

section

variable {s : State} {r : Nat} {c : Cmd}

theorem exec_loadKernel (h : HeadIs s r 1 c) : exec (.loadKernel r) s = .next (s.loadRun r c) := by
  change execLoadKernel r s = _
  rw [execLoadKernel, h.headOp]

theorem exec_kernelReplaceApply {slot : Nat} {x : PendLoad} {old : Kernel} (hx : s.loads.find? (·.slot = slot) = some x)
    (hfree : s.handleUsed x.handle = false) (hold : s.kernelOf x.handle = some old)
    (hroom : s.codeHeld - 8 * old.code.length + 8 * x.kernel.code.length ≤ 16777216) : exec (.kernelReplaceApply slot) s = .next
      ((({ s with loads := s.loads.filter (· ≠ x) }).withKernel (x.handle.toNat % 65536) x.kernel).finishCmd x.ring x.uid 0
        ((s.slotKernel (x.handle.toNat % 65536) x.kernel).handle (x.handle.toNat % 65536))) := by
  change execKernelReplaceApply slot s = _
  have hplace := State.placeOver_fits (s := { s with loads := s.loads.filter (· ≠ x) }) (k := x.kernel) hold hroom
  simp only [execKernelReplaceApply, hx, hfree, hplace, State.loadEnd]
  rfl

theorem exec_launch (h : HeadIs s r 2 c) (hturn : s.turnOf (s.ring r).fill = some r) : exec (.launch r) s = .next (s.dispatch r c) := by
  change execLaunch r s = _
  rw [execLaunch, h.headOp]
  simp only [if_pos hturn]

end

/-- Settles O26: a load places its kernel under the slot's next generation, and a launch enters each target's queue or ends with its
cause. -/
theorem loadsAndLaunches : Obligations.LoadsAndLaunches := by
  refine fun s r c => ⟨fun h s1 s2 v img s3 k hhead hlong hh hisa hmagic hlen himg hk hnew hroom hfree => ?load, fun hhead hlen => ?short,
    fun slot x old hx hidle hold hslot hroom => ?replace, fun t cs k hhead hturn ht hcs hok hk hroom hnodup => ?launch,
    fun cause core detail hhead hturn hcause => ?refused⟩
  case load =>
    obtain ⟨n, hn, hempty, hplace⟩ := State.placeNew_free (s := s3.startCmd r c.uid) (k := k) hroom hfree
    have hexec := exec_loadKernel hhead
    rw [State.loadRun_checked hlong hh hisa hmagic hlen himg hk hnew, hplace] at hexec
    refine ⟨_, n, s3.slotKernel n k, hexec, hn, hempty, rfl, (s3.startCmd r c.uid).withKernel_at n (k := k),
      s3.startCmd_finishCmd_ends r c.uid 0 _, ?_⟩
    exact ((State.finishCmd_ext ..).step (by rfl) ((State.withKernel_ext ..).step (by rfl)
      ((s3.startCmd_ext r c.uid).step (by rfl) (Ext.refl _ s3)))).1
  case short =>
    have hexec := exec_loadKernel hhead
    rw [State.loadRun_short hlen] at hexec
    exact ⟨_, hexec, s.startCmd_finishCmd_ends r c.uid 2 _, s.startCmd_finishCmd_same r c.uid 2 _⟩
  case replace =>
    subst hslot
    have hexec := exec_kernelReplaceApply hx hidle hold hroom
    exact ⟨_, hexec, rfl, fun m => State.withKernel_at ({ s with loads := s.loads.filter (· ≠ x) }) _ m x.kernel, exec_same hexec⟩
  case launch =>
    subst ht
    have hexec := exec_launch hhead hturn
    rw [State.dispatch_queued hcs hok hk hroom] at hexec
    have henter := (((s.turnTaken r c).setLaunch c.uid (some (s.launchOf r c cs k))).enqueue_ext c.uid (s.launchOf r c cs k)).1
    have hturnTaken := (s.turnTaken_ext r c).1
    refine ⟨_, s.launchOf r c cs k, hexec, fun q => ?_, ?_, rfl, rfl, rfl, rfl, rfl, rfl, rfl, fun d => ?_, fun l hl => ?_, exec_same hexec⟩
    · rw [henter.ring]
      exact (s.turnTaken_ring r c q).trans (s.startCmd_now r c.uid q)
    · rw [henter.launch, State.launch_setLaunch, if_pos rfl]
    · rw [← show (s.launchOf r c cs k).fill = (s.ring r).fill from rfl, State.enqueue_classQ c.uid _ hnodup]
      rfl
    · rw [henter.launch, State.launch_setLaunch, if_neg hl, hturnTaken.launch]
  case refused =>
    have hexec := exec_launch hhead hturn
    rw [State.dispatch_refused hcause] at hexec
    refine ⟨_, hexec, ?_, ?_⟩
    · exact fun q => (State.turnTaken_finishCmd_ring ..).trans (s.startCmd_finishCmd_ends r c.uid 2 _ q)
    · exact ((State.finishCmd_ext ..).step (by rfl) (s.turnTaken_ext r c)).1

end Sys2Proof.Machine
end

section
/-! SUPPORT. Statement O38 fails: a launch's end on a core frees the place of the launch's own class (R117), and the statement's second
clause does not ask that the place named by the command is of that class. -/

namespace Sys2Proof.Machine

namespace State

variable {s : State}

theorem launchOver_of_overOn {l c : Nat} (h : OverOn s l c) : s.launchOver l c = true := by
  obtain ⟨hshoals, hrun, hwait, hout⟩ := h
  have hnone : s.shoalsOf c l = [] := by
    refine List.filterMap_eq_nil_iff.2 fun t ht => ?_
    cases hx : s.shoal c t with
    | none => rfl
    | some y => exact if_neg (hshoals t y (List.mem_range.1 ht) hx)
  simp only [launchOver, hnone, List.isEmpty_nil, Bool.true_and, Bool.and_eq_true]
  refine ⟨⟨?_, ?_⟩, ?_⟩
  · split
    · exact decide_eq_true (hrun _ ‹_›)
    · rfl
  · split
    · exact decide_eq_true (hwait _ ‹_›)
    · rfl
  · split
    · exact decide_eq_true (hout _ ‹_›)
    · rfl

/-- A launch that ends on a core leaves the place of the other class alone. -/
theorem launchFinish_running_other (l c : Nat) (x : Launch) : (s.launchFinish l x c).running c (!x.fill) = s.running c (!x.fill) := by
  have hcore : (s.launchFinish l x c).core c = ((s.gather c x.fill x.step).setCore c
      (if x.fill then { (s.gather c x.fill x.step).core c with fill := none }
        else { (s.gather c x.fill x.step).core c with pri := none })).core c := by
    rw [launchFinish]
    split
    · exact ((setLaunch_ext ..).1.core c).trans ((finishCmd_ext ..).1.core c)
    · exact (setLaunch_ext ..).1.core c
  rw [running, hcore, core_setCore, if_pos rfl, running, ← (s.gather_ext c x.fill x.step).1.core c]
  cases x.fill <;> rfl

end State

/-! ### The counterexample -/

/-- A fill launch that stands in a core's primary place. -/
def misplacedLaunch : Launch :=
  { ring := 0, uid := 0, fill := true, handle := 0, kernel := { isa := 0, gen := 0, target := 1, code := [], need := 0, entry := 0 }, args := 0
    targets := [0, 1], shoals := 1, step := 0, budget := 0, started := [0, 1], ended := [], poisoned := [] }

/-- The machine after reset, but core 0 runs the fill launch in its primary place. -/
def misplacedState : State :=
  { State.reset with cores := [(0, { coreIdle with pri := some 0 })], launches := [(0, some misplacedLaunch)] }

theorem misplaced_over : OverOn misplacedState 0 0 :=
  ⟨fun _ y _ (h : none = some y) => (nomatch h), fun y (h : none = some y) => (nomatch h), fun y (h : none = some y) => (nomatch h),
    fun y (h : none = some y) => (nomatch h)⟩

theorem exec_misplaced : exec (.launchEndOnCore 0 false) misplacedState = .next (misplacedState.launchFinish 0 misplacedLaunch 0) := by
  have hrun : misplacedState.running 0 false = some 0 := rfl
  have hlaunch : misplacedState.launch? 0 = some misplacedLaunch := rfl
  change execLaunchEndOnCore 0 false misplacedState = _
  simp only [execLaunchEndOnCore, hrun, hlaunch, State.launchOver_of_overOn misplaced_over]
  rfl

/-- Refutes O38: in `misplacedState` the primary place of core 0 holds a fill launch that is over there. Its end frees the core's fill
place, so the primary place is not empty afterwards, as the second clause says it is; the clause lacks the hypothesis that the launch is
of the class that the command names. -/
theorem not_launchExecution : ¬ Obligations.LaunchExecution := by
  intro h
  obtain ⟨-, hends, -⟩ := h misplacedState 0
  obtain ⟨u, hexec, hfree, -⟩ := hends false 0 misplacedLaunch (by decide) rfl rfl misplaced_over ⟨1, by decide, by decide⟩
  have hu : u = misplacedState.launchFinish 0 misplacedLaunch 0 := by
    rw [exec_misplaced] at hexec
    exact (Host.Outcome.next.inj hexec).symm
  have hkept : u.running 0 false = some 0 := by
    rw [hu]
    exact State.launchFinish_running_other 0 0 misplacedLaunch
  rw [hkept] at hfree
  cases hfree

end Sys2Proof.Machine
end

section
/-! SUPPORT. Statement O39, shoals that go on: every waiting slot of a release, core by core (R126, R127, R130). -/

namespace Sys2Proof.Machine

/-- From s to u the shoals of the slots that satisfy P go on, and nothing else changes. -/
structure Resumed (P : Nat → Nat → Prop) (s u : State) : Prop where
  going : ∀ d t, t < 32 → P d t → u.shoal d t = (s.shoal d t).map Shoal.going
  still : ∀ d t, t < 32 → ¬P d t → u.shoal d t = s.shoal d t
  same : Same [.shoals] s u

/-- A slot of a core whose shoal has a word to go on at. -/
def Resumable (s : State) (d t : Nat) : Prop :=
  d < 2304 ∧ t < 32 ∧ ∃ y x, s.shoal d t = some y ∧ s.launch? y.launch = some x ∧ y.pc < x.kernel.code.length

/-- A shoal of a launch waits at a barrier in a slot of a core. -/
def WaitsAt (s : State) (l scope id d t : Nat) : Prop := ∃ y, s.shoal d t = some y ∧ y.launch = l ∧ y.wait = .bar scope id

namespace Resumed

variable {P Q : Nat → Nat → Prop} {s t u : State}

theorem refl (s : State) (h : ∀ d t, ¬P d t) : Resumed P s s :=
  ⟨fun d t _ hp => absurd hp (h d t), fun _ _ _ _ => rfl, (Ext.refl _ s).1⟩

theorem congr (h : Resumed P s u) (hpq : ∀ d t, t < 32 → (P d t ↔ Q d t)) : Resumed Q s u :=
  ⟨fun d t ht hq => h.going d t ht ((hpq d t ht).2 hq), fun d t ht hq => h.still d t ht fun hp => hq ((hpq d t ht).1 hp), h.same⟩

theorem trans (h : Resumed P s t) (k : Resumed Q t u) : Resumed (fun d v => P d v ∨ Q d v) s u := by
  refine ⟨fun d v hv hpq => ?_, fun d v hv hpq => ?_, h.same.trans k.same⟩
  · by_cases hp : P d v
    · by_cases hq : Q d v
      · rw [k.going d v hv hq, h.going d v hv hp, Option.map_map]
        rfl
      · rw [k.still d v hv hq, h.going d v hv hp]
    · rw [k.going d v hv (hpq.resolve_left hp), h.still d v hv hp]
  · rw [k.still d v hv fun hq => hpq (.inr hq), h.still d v hv fun hp => hpq (.inl hp)]

theorem resumable (h : Resumed P s u) {d t : Nat} (hr : Resumable s d t) : Resumable u d t := by
  obtain ⟨hd, ht, y, x, hy, hx, hpc⟩ := hr
  refine ⟨hd, ht, ?_⟩
  by_cases hp : P d t
  · exact ⟨y.going, x, by rw [h.going d t ht hp, hy]; rfl, (h.same.launch _).trans hx, hpc⟩
  · exact ⟨y, x, by rw [h.still d t ht hp, hy], (h.same.launch _).trans hx, hpc⟩

/-- A shoal that still waits at a barrier has not gone on. -/
theorem waitsAt_iff (h : Resumed P s u) {l scope id d t : Nat} (ht : t < 32) :
    WaitsAt u l scope id d t ↔ WaitsAt s l scope id d t ∧ ¬P d t := by
  by_cases hp : P d t
  · refine ⟨fun ⟨y, hy, _, hwait⟩ => ?_, fun hw => absurd hp hw.2⟩
    rw [h.going d t ht hp] at hy
    obtain ⟨z, -, rfl⟩ := Option.map_eq_some_iff.1 hy
    cases hwait
  · rw [WaitsAt, h.still d t ht hp, WaitsAt]
    exact ⟨fun hw => ⟨hw, hp⟩, fun hw => hw.1⟩

end Resumed

namespace State

variable {s : State}

theorem resumeShoal_resumed {d t : Nat} (h : Resumable s d t) : Resumed (fun e v => e = d ∧ v = t) s (s.resumeShoal d t) := by
  obtain ⟨hd, ht, y, x, hy, hx, hpc⟩ := h
  have hcode : s.codeOf d y = some (x.kernel, x.step) := by
    rw [codeOf_core hd, hx]
    rfl
  rw [resumeShoal_going hy hcode hpc]
  refine ⟨fun e v _ hev => ?_, fun e v hv hev => ?_, (s.setShoal_ext ..).1⟩
  · rw [hev.1, hev.2, shoal_setShoal_same, hy]
    rfl
  · rw [shoal_setShoal, if_neg fun hk => hev ?_]
    simp only [skey] at hk
    omega

theorem resumeShoal_foldl {d : Nat} {ts : List Nat} (h : ∀ t ∈ ts, Resumable s d t) :
    Resumed (fun e v => e = d ∧ v ∈ ts) s (ts.foldl (fun s t => s.resumeShoal d t) s) := by
  induction ts generalizing s with
  | nil => exact Resumed.refl s fun _ _ hv => by simp at hv
  | cons t ts ih =>
    have hfirst := resumeShoal_resumed (h t (by simp))
    refine (hfirst.trans (ih fun v hv => hfirst.resumable (h v (by simp [hv])))).congr fun e v _ => ?_
    simp only [List.mem_cons]
    tauto

theorem mem_waitingAt {l scope id d : Nat} {e : Nat × Shoal} : e ∈ s.waitingAt l scope id d ↔
    e.1 < 32 ∧ s.shoal d e.1 = some e.2 ∧ e.2.launch = l ∧ e.2.wait = .bar scope id := by
  obtain ⟨t, y⟩ := e
  simp only [waitingAt, shoalsOf, List.mem_filter, List.mem_filterMap, List.mem_range, decide_eq_true_eq]
  constructor
  · rintro ⟨⟨v, hv, hsome⟩, hwait⟩
    split at hsome
    case h_1 x hx =>
      split at hsome
      case isTrue hl =>
        cases hsome
        exact ⟨hv, hx, hl, hwait⟩
      case isFalse => cases hsome
    case h_2 => cases hsome
  · rintro ⟨ht, hy, hl, hwait⟩
    refine ⟨⟨t, ht, ?_⟩, hwait⟩
    rw [hy]
    exact if_pos hl

theorem mem_waitingAt_slots {l scope id d t : Nat} : t ∈ (s.waitingAt l scope id d).map (·.1) ↔ t < 32 ∧ WaitsAt s l scope id d t := by
  simp only [List.mem_map, mem_waitingAt, WaitsAt]
  constructor
  · rintro ⟨e, ⟨ht, hy, hl, hwait⟩, rfl⟩
    exact ⟨ht, e.2, hy, hl, hwait⟩
  · rintro ⟨ht, y, hy, hl, hwait⟩
    exact ⟨(t, y), ⟨ht, hy, hl, hwait⟩, rfl⟩

/-- The release of a barrier on its cores, one after the other: each shoal that waits there goes on. -/
theorem waitingAt_foldl {l scope id : Nat} {cs : List Nat} (h : ∀ d ∈ cs, ∀ t, t < 32 → WaitsAt s l scope id d t → Resumable s d t) :
    Resumed (fun d t => d ∈ cs ∧ WaitsAt s l scope id d t) s
      (cs.foldl (fun s d => (s.waitingAt l scope id d).foldl (fun s e => s.resumeShoal d e.1) s) s) := by
  induction cs generalizing s with
  | nil => exact Resumed.refl s fun _ _ hv => by simp at hv
  | cons d cs ih =>
    have hfirst := resumeShoal_foldl (s := s) (d := d) (ts := (s.waitingAt l scope id d).map (·.1))
      fun t ht => h d (by simp) t (mem_waitingAt_slots.1 ht).1 (mem_waitingAt_slots.1 ht).2
    rw [List.foldl_map] at hfirst
    refine (hfirst.trans (ih fun e he t ht hw => hfirst.resumable (h e (by simp [he]) t ht ((hfirst.waitsAt_iff ht).1 hw).1))).congr
      fun e t ht => ?_
    rw [hfirst.waitsAt_iff ht, mem_waitingAt_slots, List.mem_cons]
    constructor
    · rintro (⟨rfl, -, hw⟩ | ⟨he, hw, -⟩)
      · exact ⟨.inl rfl, hw⟩
      · exact ⟨.inr he, hw⟩
    · rintro ⟨he, hw⟩
      by_cases hd : e = d
      · exact .inl ⟨hd, ht, hd ▸ hw⟩
      · exact .inr ⟨he.resolve_left hd, hw, fun hp => hd hp.1⟩

end State

end Sys2Proof.Machine
end

section
/-! SUPPORT. Statement O39, barriers that complete and event flags (R126, R127, R130, R246). -/

namespace Sys2Proof.Machine

namespace State

variable {s : State}

/-! ### A barrier that every participant has reached (R126, R127) -/

theorem opOn_noStreams {c : Nat} (h : NoStreams s c) (l : Nat) (p : Op → Bool) : s.opOn l c p = false := by
  refine List.any_eq_false.2 fun k hk => ?_
  rw [h k (List.mem_range.1 hk)]
  simp

theorem streamEnd_iff (scope id : Nat) : streamEnd scope id = true ↔ scope = 3 ∧ id = 3 := by simp [streamEnd]

theorem arrivedOn_of {l scope id d : Nat} {x : Launch} (h : ArrivedOn s l x scope id d) (hs : scope = 3 → id = 3 → NoStreams s d) :
    s.arrivedOn l x scope id d = true := by
  have hall : (s.shoalsOf d l).all (fun e => e.2.wait = .bar scope id) = true := by
    refine List.all_eq_true.2 fun e he => decide_eq_true ?_
    obtain ⟨t, ht, hsome⟩ := List.mem_filterMap.1 he
    split at hsome
    case h_1 y hy =>
      split at hsome
      case isTrue hl =>
        cases hsome
        exact h.2 t y (List.mem_range.1 ht) hy hl
      case isFalse => cases hsome
    case h_2 => cases hsome
  have hstream : (streamEnd scope id && s.opOn l d fun _ => true) = false := by
    by_cases hse : streamEnd scope id = true
    · obtain ⟨h3, hid⟩ := (streamEnd_iff scope id).1 hse
      rw [opOn_noStreams (hs h3 hid), Bool.and_false]
    · rw [Bool.not_eq_true] at hse
      rw [hse, Bool.false_and]
  rw [arrivedOn, hall, hstream, List.contains_iff_mem.2 h.1]
  rfl

theorem barComplete_of {l scope id c d t : Nat} {x : Launch} (h : ∀ e ∈ barCores x c scope, s.arrivedOn l x scope id e = true)
    (hd : d ∈ barCores x c scope) (ht : t < 32) (hw : WaitsAt s l scope id d t) : s.barComplete l x c scope id = true := by
  have hsome : (s.waitingAt l scope id d).isEmpty = false := by
    obtain ⟨e, he, -⟩ := List.mem_map.1 (mem_waitingAt_slots.2 ⟨ht, hw⟩)
    exact List.isEmpty_eq_false_iff_exists_mem.2 ⟨e, he⟩
  rw [barComplete, List.all_eq_true.2 h, Bool.true_and]
  exact List.any_eq_true.2 ⟨d, hd, by rw [hsome]; rfl⟩

/-- No swap holds a barrier where no participant's core has one (R111). -/
theorem barHeld_of {c scope id : Nat} {x : Launch} (h : ∀ d ∈ barCores x c scope, (s.core d).swap = .none) :
    s.barHeld x c scope id = false := by
  have hany : ((barCores x c scope).any fun d => s.swapping d || s.drainsAt d scope id) = false := by
    refine List.any_eq_false.2 fun d hd => ?_
    simp only [swapping, drainsAt, h d hd]
    simp
  rw [barHeld, hany, Bool.and_false]

theorem pbReport_clean {x : Launch} (h : x.poisoned = []) (b : Nat) : s.pbReport x b = s := by
  simp only [pbReport, h, List.filter_nil]

theorem setLaunch_same {l : Nat} {x : Launch} (h : s.launch? l = some x) (k : Nat) : (s.setLaunch l (some x)).launch? k = s.launch? k := by
  rw [launch_setLaunch]
  split
  case isTrue hk => rw [hk, h]
  case isFalse => rfl

/-- A complete barrier lets its shoals go on, core by core. -/
theorem barRelease_resumed {l scope id c : Nat} {x : Launch} (hx : s.launch? l = some x) (hclean : scope = 3 → id = 3 → x.poisoned = [])
    (hgo : ∀ d ∈ barCores x c scope, ∀ t, t < 32 → WaitsAt s l scope id d t → Resumable s d t) :
    ∃ t, (∀ k, t.launch? k = s.launch? k) ∧ Same [.launches] s t ∧
      Resumed (fun d v => d ∈ barCores x c scope ∧ WaitsAt s l scope id d v) t (s.barRelease l x c scope id) := by
  rw [barRelease]
  by_cases hse : streamEnd scope id = true
  · obtain ⟨h3, hid⟩ := (streamEnd_iff scope id).1 hse
    have hp := hclean h3 hid
    have hx' : { x with poisoned := [] } = x := by rw [← hp]
    have hreport : (List.range 4).foldl (fun s b => s.pbReport x b) s = s := foldl_fixed fun b _ => pbReport_clean hp b
    rw [if_pos hse, hreport, hx']
    have hl := setLaunch_same hx
    refine ⟨s.setLaunch l (some x), hl, (s.setLaunch_ext ..).1,
      (waitingAt_foldl (s := s.setLaunch l (some x)) fun d hd t ht hw => ?_).congr fun _ _ _ => Iff.rfl⟩
    obtain ⟨hd', -, y, z, hy, hz, hpc⟩ := hgo d hd t ht hw
    exact ⟨hd', ht, y, z, hy, (hl _).trans hz, hpc⟩
  · rw [if_neg hse]
    exact ⟨s, fun _ => rfl, (Ext.refl _ s).1, waitingAt_foldl hgo⟩

/-! ### Shoals that wait on an event flag (R130, R181) -/

theorem mem_flagWaiters {c n : Nat} {e : Nat × Bool} : e ∈ s.flagWaiters c n ↔
    e.1 < 32 ∧ ∃ y, s.shoal c e.1 = some y ∧ y.wait = .flag n e.2 := by
  obtain ⟨t, z⟩ := e
  simp only [flagWaiters, List.mem_filterMap, List.mem_range]
  constructor
  · rintro ⟨v, hv, hsome⟩
    split at hsome
    case h_1 y hy =>
      split at hsome
      case h_1 m z' hw =>
        split at hsome
        case isTrue hm =>
          cases hsome
          exact ⟨hv, y, hy, hm ▸ hw⟩
        case isFalse => cases hsome
      case h_2 => cases hsome
    case h_2 => cases hsome
  · rintro ⟨ht, y, hy, hw⟩
    refine ⟨t, ht, ?_⟩
    simp only [hy, hw, if_true]

theorem flagWaiters_any_clr {c n : Nat} : (s.flagWaiters c n).any (·.2) = true ↔
    ∃ t y, t < 32 ∧ s.shoal c t = some y ∧ y.wait = .flag n true := by
  simp only [List.any_eq_true, mem_flagWaiters]
  constructor
  · rintro ⟨⟨t, z⟩, ⟨ht, y, hy, hw⟩, rfl⟩
    exact ⟨t, y, ht, hy, hw⟩
  · rintro ⟨t, y, ht, hy, hw⟩
    exact ⟨(t, true), ⟨ht, y, hy, hw⟩, rfl⟩

/-- A set flag lets its waiting shoals go on, and is clear afterwards when one of them clears it. -/
theorem flagRelease_resumed {c n : Nat} (hc : c < 2304) (hn : n < 64) (hflag : s.flag c n = true) (hfree : NoStreams s c)
    (hgo : ∀ t, t < 32 → (s.shoal c t).isSome → Resumable s c t) :
    ∃ u, Same [.cores] s u ∧ (u.flag c n = !(s.flagWaiters c n).any (·.2)) ∧
      Resumed (fun d t => d = c ∧ ∃ z, (t, z) ∈ s.flagWaiters c n) u (s.flagRelease c n) := by
  let u := if (s.flagWaiters c n).any (·.2) then s.clearFlag c n else s
  have hsame : Same [.cores] s u := by
    refine (Ext.ite (clearFlag_cores hfree) (Ext.refl _ s)).1
  have hrel : s.flagRelease c n = ((s.flagWaiters c n).map (·.1)).foldl (fun s t => s.resumeShoal c t) u := by
    rw [flagRelease, if_pos hflag, List.foldl_map]
  have hnow : u.flag c n = !(s.flagWaiters c n).any (·.2) := by
    cases hany : (s.flagWaiters c n).any (·.2) with
    | false => simp only [u, hany]; exact hflag
    | true => simp only [u, hany]; exact clearFlag_clears hfree hn
  refine ⟨u, hsame, hnow, ?_⟩
  rw [hrel]
  refine (resumeShoal_foldl fun t ht => ?_).congr fun d t _ => ?_
  · obtain ⟨e, he, rfl⟩ := List.mem_map.1 ht
    obtain ⟨hlt, y, hy, -⟩ := mem_flagWaiters.1 he
    obtain ⟨-, -, y, x, hy, hx, hpc⟩ := hgo e.1 hlt (by rw [hy]; rfl)
    exact ⟨hc, hlt, y, x, (hsame.shoal ..).trans hy, (hsame.launch _).trans hx, hpc⟩
  · simp only [List.mem_map, Prod.exists, exists_and_right, exists_eq_right]

end State

end Sys2Proof.Machine
end

section
/-! SUPPORT. Statement O39, launches that end on their cores with a cause (R124). -/

namespace Sys2Proof.Machine

/-- From s to u a launch leaves the cores of a list: nothing of it runs or stands in a slot there. Of the registers only COR_VFLAGS may change,
and no shoal and no running launch is new. -/
structure Cleared (l : Nat) (cs : List Nat) (s u : State) : Prop where
  shoalGone : ∀ d ∈ cs, ∀ t y, t < 32 → u.shoal d t = some y → y.launch ≠ l
  runGone : ∀ d ∈ cs, ∀ fill, u.running d fill ≠ some l
  shoalOld : ∀ d t y, u.shoal d t = some y → s.shoal d t = some y
  runOld : ∀ d fill k, u.running d fill = some k → s.running d fill = some k
  regs : ∀ a, a % 0x1000 ≠ Off.corVflags → u.rd a = s.rd a
  same : Same [.shoals, .cores, .regs, .sram, .sramUe, .red, .free] s u

theorem Same.running {ps : List Part} {s u : State} (h : Same ps s u) (c : Nat) (fill : Bool) (hp : ps.contains .cores = false := by rfl) :
    u.running c fill = s.running c fill := by
  rw [State.running, h.core c hp, State.running]

namespace Cleared

variable {l : Nat} {cs ds : List Nat} {s t u : State}

theorem refl (s : State) : Cleared l [] s s where
  shoalGone _ hd := by cases hd
  runGone _ hd := by cases hd
  shoalOld _ _ _ h := h
  runOld _ _ _ h := h
  regs _ _ := rfl
  same := (Ext.refl _ s).1

theorem trans (h : Cleared l cs s t) (k : Cleared l ds t u) : Cleared l (cs ++ ds) s u where
  shoalGone d hd v y hv hy := (List.mem_append.1 hd).elim (fun hc => h.shoalGone d hc v y hv (k.shoalOld d v y hy))
    fun hd => k.shoalGone d hd v y hv hy
  runGone d hd fill hrun := (List.mem_append.1 hd).elim (fun hc => h.runGone d hc fill (k.runOld d fill l hrun)) fun hd => k.runGone d hd fill hrun
  shoalOld d v y hy := h.shoalOld d v y (k.shoalOld d v y hy)
  runOld d fill n hrun := h.runOld d fill n (k.runOld d fill n hrun)
  regs a ha := (k.regs a ha).trans (h.regs a ha)
  same := h.same.trans k.same

theorem noStreams (h : Cleared l cs s t) {c : Nat} (hs : NoStreams s c) : NoStreams t c := fun k hk =>
  (h.same.queue _).trans (hs k hk)

end Cleared

namespace State

variable {s : State}

theorem stopChain_shoal (c base : Nat) (x : Shoal) (d t : Nat) : (s.stopChain c base x).shoal d t = s.shoal d t :=
  (s.stopChain_ext c base x).1.shoal d t

/-- The shoals of a list of slots leave a core; no other slot takes one. -/
theorem stopShoals {c : Nat} {base : State → Nat} {es : List (Nat × Shoal)} :
    let u := es.foldl (fun s e => (s.stopChain c (base s) e.2).setShoal c e.1 none) s
    (∀ e ∈ es, e.1 < 32 → u.shoal c e.1 = none) ∧ (∀ d t y, u.shoal d t = some y → s.shoal d t = some y) ∧
      Same [.shoals, .sram, .sramUe, .free] s u := by
  induction es generalizing s with
  | nil =>
    intro u
    exact ⟨fun _ he => absurd he List.not_mem_nil, fun _ _ _ h => h, (Ext.refl _ s).1⟩
  | cons e es ih =>
    intro u
    obtain ⟨hgone, hold, hsame⟩ := ih (s := (s.stopChain c (base s) e.2).setShoal c e.1 none)
    have hset : ∀ d t y, ((s.stopChain c (base s) e.2).setShoal c e.1 none).shoal d t = some y → s.shoal d t = some y := fun d t y hy => by
      rw [shoal_setShoal, stopChain_shoal] at hy
      split at hy
      · cases hy
      · exact hy
    refine ⟨fun f hf hlt => ?_, fun d t y hy => hset d t y (hold d t y hy), ?_⟩
    · rcases List.mem_cons.1 hf with rfl | hf
      · refine Option.eq_none_iff_forall_not_mem.2 fun y hy => ?_
        have hnone := hold _ _ _ hy
        rw [shoal_setShoal_same] at hnone
        cases hnone
      · exact hgone f hf hlt
    · have hfirst : Ext [.shoals, .sram, .sramUe, .free] s ((s.stopChain c (base s) e.2).setShoal c e.1 none) :=
        Ext.step (setShoal_ext ..) rfl (Ext.step (stopChain_ext ..) rfl (Ext.refl _ s))
      exact hfirst.1.trans hsame

theorem resetOps_empty {q : Nat} (h : s.queue q = []) (p : Op → Bool) : s.resetOps q p = s := by rw [resetOps, h]; rfl

theorem gather_rd (c : Nat) (fill : Bool) (step : Word) {a : Nat} (h : a ≠ regAt .cor c Off.corVflags) : (s.gather c fill step).rd a = s.rd a := by
  have hword : (s.gather c fill step).regs = (s.p .cor c Off.corVflags 3 0 (s.g .cor c Off.corVflags 3 0 ||| s.launchWord c fill)).regs := by
    simp only [gather, orBasinWord]
    split <;> rfl
  rw [rd, hword]
  exact s.rd_wr_other _ h

/-- The shoals of a launch on a core leave it; their chains stop. -/
def shoalsStopped (s : State) (l c : Nat) (fill : Bool) : State :=
  (s.shoalsOf c l).foldl (fun s e => (s.stopChain c (s.classRegion c fill).1 e.2).setShoal c e.1 none) s

theorem mem_shoalsOf {c l t : Nat} {y : Shoal} (ht : t < 32) (hy : s.shoal c t = some y) (hl : y.launch = l) : (t, y) ∈ s.shoalsOf c l := by
  refine List.mem_filterMap.2 ⟨t, List.mem_range.2 ht, ?_⟩
  rw [hy]
  exact if_pos hl

theorem shoalsStopped_gone {l c t : Nat} {fill : Bool} {y : Shoal} (ht : t < 32)
    (hy : (s.shoalsStopped l c fill).shoal c t = some y) : y.launch ≠ l := fun hl => by
  obtain ⟨hgone, hold, -⟩ := stopShoals (s := s) (c := c) (base := fun s => (s.classRegion c fill).1) (es := s.shoalsOf c l)
  have hnone : (s.shoalsStopped l c fill).shoal c t = none := hgone (t, y) (mem_shoalsOf ht (hold c t y hy) hl) ht
  rw [hy] at hnone
  cases hnone

/-- A core once a launch has left its tiles, queues and places (R124). -/
def coreWithout (x : Core) (l : Nat) : Core :=
  let keep (o : Option Tile) : Option Tile := match o with
    | some t => if t.launch = l then none else some t
    | none => none
  let red := match x.redOut with
    | some t => if t.launch = l then none else some t
    | none => none
  let x := { x with mxRun := keep x.mxRun, mxWait := keep x.mxWait, redOut := red }
  let x := { x with priQ := x.priQ.filter (· ≠ l), fillQ := x.fillQ.filter (· ≠ l) }
  { x with pri := if x.pri = some l then none else x.pri, fill := if x.fill = some l then none else x.fill }

theorem coreWithout_pri (x : Core) (l : Nat) : (coreWithout x l).pri = if x.pri = some l then none else x.pri := rfl

theorem coreWithout_fill (x : Core) (l : Nat) : (coreWithout x l).fill = if x.fill = some l then none else x.fill := rfl

/-- A launch leaves a core without operations in its queues: its shoals go, then its places on the core, and its flags are gathered. -/
theorem clearLaunchOn_eq {l c : Nat} {fill : Bool} {step : Word} {doGather : Bool} (h : NoStreams s c) :
    s.clearLaunchOn l c fill step doGather =
      let t := (s.shoalsStopped l c fill).setCore c (coreWithout (s.core c) l)
      if s.running c fill = some l && doGather then t.gather c fill step else t := by
  have hsame : Same [.shoals, .sram, .sramUe, .free] s (s.shoalsStopped l c fill) := (stopShoals (s := s)).2.2
  have hreset : (List.range 8).foldl (fun s k => s.resetOps (8 * c + k) fun o => o.launch = some l)
      ((s.shoalsStopped l c fill).setCore c (coreWithout ((s.shoalsStopped l c fill).core c) l)) =
      (s.shoalsStopped l c fill).setCore c (coreWithout ((s.shoalsStopped l c fill).core c) l) :=
    foldl_fixed fun k hk => resetOps_empty (s := (s.shoalsStopped l c fill).setCore c _)
      (show (s.shoalsStopped l c fill).queue (8 * c + k) = [] from (hsame.queue _).trans (h k (List.mem_range.1 hk))) _
  have hform : s.clearLaunchOn l c fill step doGather =
      let t := (List.range 8).foldl (fun s k => s.resetOps (8 * c + k) fun o => o.launch = some l)
        ((s.shoalsStopped l c fill).setCore c (coreWithout ((s.shoalsStopped l c fill).core c) l))
      if s.running c fill = some l && doGather then t.gather c fill step else t := rfl
  rw [hform, hreset, hsame.core]

theorem gather_same (c : Nat) (fill : Bool) (step : Word) : Same [.regs, .red] s (s.gather c fill step) := (gather_ext ..).1

/-- A launch leaves one core, without operations in its queues. -/
theorem clearLaunchOn_cleared {l c : Nat} {fill : Bool} {step : Word} {doGather : Bool} (h : NoStreams s c) :
    Cleared l [c] s (s.clearLaunchOn l c fill step doGather) := by
  let x := coreWithout (s.core c) l
  have hstop : (∀ d t y, (s.shoalsStopped l c fill).shoal d t = some y → s.shoal d t = some y) ∧
      Same [.shoals, .sram, .sramUe, .free] s (s.shoalsStopped l c fill) :=
    (stopShoals (s := s)).2
  have hplain : Cleared l [c] s ((s.shoalsStopped l c fill).setCore c x) := by
    have hrun : ∀ d cls, ((s.shoalsStopped l c fill).setCore c x).running d cls =
        if d = c ∧ s.running d cls = some l then none else s.running d cls := fun d cls => by
      simp only [running, core_setCore, hstop.2.core]
      by_cases hd : d = c
      · cases cls <;> simp [hd, x, coreWithout_pri, coreWithout_fill]
      · simp [hd]
    refine ⟨fun d hd t y ht hy => ?_, fun d hd cls hr => ?_, hstop.1, fun d cls k hr => ?_, fun a _ => hstop.2.rd a, ?_⟩
    · cases List.mem_singleton.1 hd
      exact shoalsStopped_gone ht hy
    · rw [hrun] at hr
      split at hr
      case isTrue => cases hr
      case isFalse hn => exact hn ⟨List.mem_singleton.1 hd, hr⟩
    · rw [hrun] at hr
      split at hr
      case isTrue => cases hr
      case isFalse => exact hr
    · exact (hstop.2.mono rfl).trans ((setCore_ext ..).1.mono rfl)
  rw [clearLaunchOn_eq h]
  dsimp only
  split
  · have hg := ((s.shoalsStopped l c fill).setCore c x).gather_same c fill step
    refine ⟨fun d hd t y ht hy => hplain.shoalGone d hd t y ht ((hg.shoal d t).symm.trans hy), fun d hd cls hr => hplain.runGone d hd cls ?_,
      fun d t y hy => hplain.shoalOld d t y ((hg.shoal d t).symm.trans hy), fun d cls k hr => hplain.runOld d cls k ?_, fun a ha => ?_, ?_⟩
    · exact (hg.running d cls).symm.trans hr
    · exact (hg.running d cls).symm.trans hr
    · refine (gather_rd _ _ _ fun e => ha ?_).trans (hplain.regs a ha)
      rw [e, regAt_mod (by decide)]
    · exact hplain.same.trans (hg.mono rfl)
  · exact hplain

/-- A launch leaves each of its cores. -/
theorem clearLaunch_cleared {l : Nat} {fill : Bool} {step : Word} {g : Nat → Bool} {cs : List Nat} (h : ∀ c ∈ cs, NoStreams s c) :
    Cleared l cs s (cs.foldl (fun s c => s.clearLaunchOn l c fill step (g c)) s) := by
  induction cs generalizing s with
  | nil => exact Cleared.refl s
  | cons c cs ih =>
    have hfirst := clearLaunchOn_cleared (l := l) (fill := fill) (step := step) (doGather := g c) (h c (by simp))
    exact hfirst.trans (ih fun d hd => hfirst.noStreams (h d (by simp [hd])))

/-- A command that has not ended ends. -/
theorem finishCmd_ends {r uid : Nat} (h : Unended s r uid) (status : Nat) (result : Word) :
    CmdEnds s (s.finishCmd r uid status result) r uid status result := fun q => by
  refine (s.ring_setRing r q _).trans ?_
  split
  case isFalse => rfl
  case isTrue hq =>
    refine congrArg (fun cmds => { s.ring r with cmds := cmds }) (List.map_congr_left fun c hc => ?_)
    by_cases hu : c.uid = uid
    · have hend := h c hc hu
      simp only [if_pos hu]
      split
      case h_1 heq => simp [Cmd.ended, heq] at hend
      case h_2 => rfl
    · simp only [if_neg hu]

theorem detail_word {c detail : Nat} (hc : c < 2304) (hd : detail < 2 ^ 32) :
    6 % 65536 * 2 ^ 48 + c % 65536 * 2 ^ 32 + detail % 2 ^ 32 = 6 * 2 ^ 48 + c * 2 ^ 32 + detail := by omega

/-- A launch ends with cause 6 (R124, R128, R380), once registers were written that say so. -/
theorem launchEnd_expired {v : State} {l c detail : Nat} {x : Launch} (h : EndsCleanly s l x) (hv : Same [.regs, .hlk] s v)
    (hrings : v.hlk.rings = s.hlk.rings) (hc : c < 2304) (hd : detail < 2 ^ 32) :
    EndedAs s (v.launchEnd l 6 c detail) l x 6 6 c detail ∧
      ∀ a, a % 0x1000 ≠ Off.corVflags → (v.launchEnd l 6 c detail).rd a = v.rd a := by
  obtain ⟨hx, hcores, hcmd⟩ := h
  have hxv : v.launch? l = some x := (hv.launch l).trans hx
  let t := x.targets.foldl (fun s d => s.clearLaunchOn l d x.fill x.step true) v
  have hclear : Cleared l x.targets v t := clearLaunch_cleared fun d hd k hk => (hv.queue _).trans ((hcores d hd).2 k hk)
  let w := t.finishCmd x.ring x.uid 6 (BitVec.ofNat 64 (6 * 2 ^ 48 + c * 2 ^ 32 + detail))
  have hend : v.launchEnd l 6 c detail = w.setLaunch l none := by
    rw [launchEnd, hxv]
    simp only [detail_word hc hd]
    rfl
  have hring : ∀ q, t.ring q = s.ring q := fun q => (hclear.same.ring q).trans (ring_of_rings hrings q)
  have hw : Same [.hlk] t w := (finishCmd_ext ..).1
  have hcmdw : CmdEnds s w x.ring x.uid 6 (BitVec.ofNat 64 (6 * 2 ^ 48 + c * 2 ^ 32 + detail)) := fun q => by
    have hun : Unended t x.ring x.uid := fun e he => hcmd e ((hring x.ring) ▸ he)
    rw [finishCmd_ends hun 6 _ q, hring, hring]
  rw [hend]
  refine ⟨⟨(w.launch_setLaunch ..).trans (if_pos rfl), hcmdw, fun d hd => ⟨fun n y hn hy => ?_, fun hrun => ?_⟩, fun k hk => ?_⟩,
    fun a ha => ?_⟩
  · exact hclear.shoalGone d hd n y hn ((hw.shoal d n).symm.trans hy)
  · refine hclear.runGone d hd x.fill ?_
    exact (hw.running d x.fill).symm.trans hrun
  · rw [launch_setLaunch, if_neg hk, hw.launch, hclear.same.launch, hv.launch]
  · exact (hw.rd a).trans (hclear.regs a ha)

end State

end Sys2Proof.Machine
end

section
/-! SUPPORT. Statement O39: barriers that are released or expire, work units that expire, masks of event flags (R126 to R131, R246, R380). -/

namespace Sys2Proof.Machine

/-! ### Masks of event flags (R130) -/

/-- Of the cores nothing but event flags changes, and nothing but the cores. -/
def FlagsOnly (s u : State) : Prop := (∀ d, { u.core d with flags := (s.core d).flags } = s.core d) ∧ Same [.cores] s u

theorem FlagsOnly.refl (s : State) : FlagsOnly s s := ⟨fun _ => rfl, (Ext.refl _ s).1⟩

theorem FlagsOnly.trans {s t u : State} (h : FlagsOnly s t) (k : FlagsOnly t u) : FlagsOnly s u := by
  refine ⟨fun d => ?_, h.2.trans k.2⟩
  have hd := h.1 d
  rw [← k.1 d] at hd
  exact hd

/-- The machine with an event flag of a core written, and no reaction to it. -/
def FlagNow (c n : Nat) (b : Bool) (s u : State) : Prop :=
  (∀ d m, u.flag d m = if d = c ∧ m = n then b else s.flag d m) ∧ FlagsOnly s u

namespace State

variable {s : State}

theorem putFlag_now {c n : Nat} (hn : n < 64) (b : Bool) : FlagNow c n b s (s.putFlag c n b) := by
  refine ⟨fun d m => flag_putFlag hn c d b, fun d => ?_, (s.putFlag_ext c n b).1⟩
  rw [putFlag, core_setCore]
  by_cases hd : d = c
  · rw [if_pos hd, hd]
  · rw [if_neg hd]

theorem setFlag_now {c n : Nat} (h : NoStreams s c) (hn : n < 64) : FlagNow c n true s (s.setFlag c n) := by
  rw [setFlag_noStreams h]
  exact putFlag_now hn true

theorem clearFlag_now {c n : Nat} (h : NoStreams s c) (hn : n < 64) : FlagNow c n false s (s.clearFlag c n) := by
  rw [clearFlag_noStreams h]
  cases hflag : s.flag c n with
  | true => exact putFlag_now hn false
  | false =>
    rw [if_neg Bool.false_ne_true]
    refine ⟨fun d m => ?_, FlagsOnly.refl s⟩
    split
    case isTrue hd => rw [hd.1, hd.2, hflag]
    case isFalse => rfl

/-- A write of the flags of a mask, one after the other. -/
theorem flagMask {c : Nat} {v : Word} {b : Bool} {g : State → Nat → State} {ns : List Nat}
    (hg : ∀ s n, NoStreams s c → n < 64 → FlagNow c n b s (g s n)) (h : NoStreams s c) (hns : ∀ n ∈ ns, n < 64) :
    let u := ns.foldl (fun s n => if bit v n then g s n else s) s
    (∀ d m, u.flag d m = if d = c ∧ m ∈ ns ∧ bit v m = true then b else s.flag d m) ∧ FlagsOnly s u := by
  induction ns generalizing s with
  | nil =>
    intro u
    exact ⟨fun d m => by simp [u], FlagsOnly.refl s⟩
  | cons n ns ih =>
    intro u
    let t := if bit v n then g s n else s
    have ht : (∀ d m, t.flag d m = if d = c ∧ m = n ∧ bit v m = true then b else s.flag d m) ∧ FlagsOnly s t := by
      by_cases hbit : bit v n = true
      · simp only [t, if_pos hbit]
        obtain ⟨hflag, honly⟩ := hg s n h (hns n (by simp))
        refine ⟨fun d m => ?_, honly⟩
        by_cases hm : m = n
        · rw [hflag, hm]
          simp [hbit]
        · rw [hflag]
          simp [hm]
      · simp only [t, if_neg hbit]
        refine ⟨fun d m => ?_, FlagsOnly.refl s⟩
        rw [if_neg fun hd : d = c ∧ m = n ∧ bit v m = true => hbit (hd.2.1 ▸ hd.2.2)]
    have hrest := ih (s := t) (fun k hk => (ht.2.2.queue _).trans (h k hk)) fun m hm => hns m (by simp [hm])
    refine ⟨fun d m => (hrest.1 d m).trans ?_, ht.2.trans hrest.2⟩
    rw [ht.1]
    grind

theorem exec_corFlagsSet {c : Nat} {v : Word} (hc : c < 2304) (hready : s.ready .cor c = true) (h : NoStreams s c) :
    ∃ u, exec (.corFlagsSet c v) s = .next u ∧ (∀ d n, n < 64 → u.flag d n = (s.flag d n || (decide (d = c) && bit v n))) ∧
      FlagsOnly s u := by
  obtain ⟨hflag, honly⟩ := flagMask (v := v) (g := fun s n => s.setFlag c n) (ns := List.range 64) (fun _ _ h hn => setFlag_now h hn) h
    fun n hn => List.mem_range.1 hn
  refine ⟨s.setFlags c v, congrArg Host.Outcome.next (s.pageWrite_ready _ _ hc hready), fun d n hn => ?_, honly⟩
  refine (hflag d n).trans ?_
  by_cases hd : d = c <;> cases bit v n <;> simp [hd, hn]

theorem exec_corFlagsClr {c : Nat} {v : Word} (hc : c < 2304) (hready : s.ready .cor c = true) (h : NoStreams s c) :
    ∃ u, exec (.corFlagsClr c v) s = .next u ∧ (∀ d n, n < 64 → u.flag d n = (s.flag d n && !(decide (d = c) && bit v n))) ∧
      FlagsOnly s u := by
  obtain ⟨hflag, honly⟩ := flagMask (v := v) (g := fun s n => s.clearFlag c n) (ns := List.range 64) (fun _ _ h hn => clearFlag_now h hn) h
    fun n hn => List.mem_range.1 hn
  refine ⟨s.clearFlags c v, congrArg Host.Outcome.next (s.pageWrite_ready _ _ hc hready), fun d n hn => ?_, honly⟩
  refine (hflag d n).trans ?_
  by_cases hd : d = c <;> cases bit v n <;> simp [hd, hn]

/-! ### Waits on an event flag that end (R130) -/

theorem exec_efWaitRelease {c n : Nat} (hc : c < 2304) (hn : n < 64) : exec (.efWaitRelease c n) s = .next (s.flagRelease c n) :=
  congrArg Host.Outcome.next (if_pos ⟨hc, hn⟩)

theorem efWaitRelease_spec {c n : Nat} {k : Kernel} {step : Word} (hc : c < 2304) (hn : n < 64) (hflag : s.flag c n = true) (hfree : NoStreams s c)
    (hcode : ∀ t y, t < 32 → s.shoal c t = some y → s.codeOf c y = some (k, step) ∧ y.pc < k.code.length) :
    ∃ u, exec (.efWaitRelease c n) s = .next u ∧
      (∀ d t, t < 32 → u.shoal d t = (s.shoal d t).map fun y =>
        if d = c ∧ (y.wait = .flag n false ∨ y.wait = .flag n true) then y.going else y) ∧
      (u.flag c n = true ↔ ∀ t y, t < 32 → s.shoal c t = some y → y.wait ≠ .flag n true) ∧ Same [.shoals, .cores] s u := by
  have hgo : ∀ t, t < 32 → (s.shoal c t).isSome → Resumable s c t := fun t ht hsome => by
    obtain ⟨y, hy⟩ := Option.isSome_iff_exists.1 hsome
    obtain ⟨hk, hpc⟩ := hcode t y ht hy
    rw [codeOf_core hc] at hk
    obtain ⟨x, hx, heq⟩ := Option.map_eq_some_iff.1 hk
    cases heq
    exact ⟨hc, ht, y, x, hy, hx, hpc⟩
  obtain ⟨v, hv, hnow, hres⟩ := flagRelease_resumed hc hn hflag hfree hgo
  refine ⟨s.flagRelease c n, exec_efWaitRelease hc hn, fun d t ht => ?_, ?_, (hv.mono rfl).trans (hres.same.mono rfl)⟩
  · have hwaits : (∃ z, (t, z) ∈ s.flagWaiters c n) ↔ ∃ y, s.shoal c t = some y ∧ (y.wait = .flag n false ∨ y.wait = .flag n true) := by
      simp only [mem_flagWaiters, ht, true_and, Bool.exists_bool, ← exists_or, ← and_or_left]
    by_cases hd : d = c ∧ ∃ z, (t, z) ∈ s.flagWaiters c n
    · obtain ⟨y, hy, hw⟩ := hwaits.1 hd.2
      rw [hres.going d t ht hd, hv.shoal, hd.1, hy, Option.map_some, Option.map_some, if_pos ⟨rfl, hw⟩]
    · rw [hres.still d t ht hd, hv.shoal]
      cases hy : s.shoal d t with
      | none => rfl
      | some y =>
        have hno : ¬(d = c ∧ (y.wait = .flag n false ∨ y.wait = .flag n true)) := fun hw => hd ⟨hw.1, hwaits.2 ⟨y, hw.1 ▸ hy, hw.2⟩⟩
        rw [Option.map_some, if_neg hno]
  · have hflagu : (s.flagRelease c n).flag c n = !(s.flagWaiters c n).any (·.2) := by
      rw [← hnow, flag, hres.same.core, flag]
    rw [hflagu, Bool.not_eq_true', ← Bool.not_eq_true, flagWaiters_any_clr]
    grind

theorem flagRelease_clear {c n : Nat} (h : s.flag c n = false) : s.flagRelease c n = s := by
  rw [flagRelease, if_neg (by rw [h]; exact Bool.false_ne_true)]

/-! ### Barriers (R126, R127) -/

theorem mem_barCores {x : Launch} {c scope d : Nat} (hc : c ∈ x.targets) (h : d ∈ barCores x c scope) : d ∈ x.targets := by
  unfold barCores at h
  split at h
  · exact List.mem_singleton.1 h ▸ hc
  · split at h
    · exact (List.mem_filter.1 h).1
    · exact h

theorem exec_barrierRelease {c l scope id : Nat} {fill : Bool} {x : Launch} (hrun : s.running c fill = some l) (hx : s.launch? l = some x)
    (hfull : s.barComplete l x c scope id = true) (hheld : s.barHeld x c scope id = false) :
    exec (.barrierRelease c fill scope id) s = .next (s.barRelease l x c scope id) := by
  refine congrArg Host.Outcome.next ?_
  rw [barTry, hrun]
  simp only [hx, hfull, hheld]
  rfl

theorem barrierRelease_spec {c l scope id : Nat} {fill : Bool} {x : Launch} (hrun : s.running c fill = some l) (hx : s.launch? l = some x)
    (hin : ∀ d ∈ barCores x c scope, ArrivedOn s l x scope id d ∧ (s.core d).swap = .none)
    (hsome : ∃ d ∈ barCores x c scope, ∃ t y, t < 32 ∧ s.shoal d t = some y ∧ y.launch = l)
    (hend : scope = 3 → id = 3 → x.poisoned = [] ∧ ∀ d ∈ x.targets, NoStreams s d)
    (hpc : ∀ d t y, s.shoal d t = some y → y.launch = l → y.pc < x.kernel.code.length) (hcores : ∀ d ∈ x.targets, d < 2304)
    (hc : c ∈ x.targets) :
    ∃ u, exec (.barrierRelease c fill scope id) s = .next u ∧
      (∀ d t, t < 32 → u.shoal d t = (s.shoal d t).map fun y => if d ∈ barCores x c scope ∧ y.launch = l then y.going else y) ∧
      (∀ k, u.launch? k = s.launch? k) ∧ Same [.shoals, .launches] s u := by
  obtain ⟨e, he, t, y, ht, hy, hl⟩ := hsome
  have hfull : s.barComplete l x c scope id = true :=
    barComplete_of (fun d hd => arrivedOn_of (hin d hd).1 fun h3 hid => (hend h3 hid).2 d (mem_barCores hc hd)) he ht
      ⟨y, hy, hl, (hin e he).1.2 t y ht hy hl⟩
  obtain ⟨v, hlaunch, hv, hres⟩ := barRelease_resumed (c := c) hx (fun h3 hid => (hend h3 hid).1) fun d hd t ht ⟨y, hy, hl, _⟩ =>
    ⟨hcores d (mem_barCores hc hd), ht, y, x, hy, hl ▸ hx, hpc d t y hy hl⟩
  refine ⟨_, exec_barrierRelease hrun hx hfull (barHeld_of fun d hd => (hin d hd).2), fun d t ht => ?_,
    fun k => (hres.same.launch k).trans (hlaunch k), (hv.mono rfl).trans (hres.same.mono rfl)⟩
  by_cases hd : d ∈ barCores x c scope ∧ WaitsAt s l scope id d t
  · obtain ⟨y, hy, hl, -⟩ := hd.2
    rw [hres.going d t ht hd, hv.shoal, hy, Option.map_some, Option.map_some, if_pos ⟨hd.1, hl⟩]
  · rw [hres.still d t ht hd, hv.shoal]
    cases hy : s.shoal d t with
    | none => rfl
    | some y =>
      have hno : ¬(d ∈ barCores x c scope ∧ y.launch = l) := fun hw => hd ⟨hw.1, y, hy, hw.2, (hin d hw.1).1.2 t y ht hy hw.2⟩
      rw [Option.map_some, if_neg hno]

end State

end Sys2Proof.Machine
end

section
/-! SUPPORT. Statement O39, expiries (R128, R131, R380), and the statement. -/

namespace Sys2Proof.Machine

namespace State

variable {s : State}

/-! ### COR_BARSTAT (R131) -/

/-- COR_BARSTAT of an expiry as a word. -/
def barWord (scope id arrived shoals : Nat) (fill : Bool) : Word :=
  BitVec.ofNat 64 (scope % 4 * 2 ^ 62 + id % 8 * 2 ^ 56 + (if fill then 2 ^ 55 else 0) + arrived % 64 * 2 ^ 48 + shoals % 64 * 2 ^ 40 + 1)

theorem barWord_fields {scope id : Nat} (hs : scope < 4) (hid : id < 8) (arrived shoals : Nat) (fill : Bool) :
    fld (barWord scope id arrived shoals fill) 63 62 = scope ∧ fld (barWord scope id arrived shoals fill) 58 56 = id := by
  simp only [barWord, fld, nfld, BitVec.toNat_ofNat]
  cases fill <;> simp only [if_true, Bool.false_eq_true, if_false] <;> omega

theorem barStat_eq (l : Nat) (x : Launch) (c : Nat) (b : Option (Nat × Nat)) : ∃ arrived,
    s.barStat l x c b = s.wr (regAt .cor c Off.corBarstat) (barWord (b.getD (0, 0)).1 (b.getD (0, 0)).2 arrived x.shoals x.fill) :=
  ⟨_, rfl⟩

theorem raise_same (b : Blk) (i n : Nat) : Same [.regs, .hlk] s (s.raise b i n) := (raise_ext ..).1

theorem bump_same (b : Blk) (i off n : Nat) : Same [.regs, .hlk] s (s.bump b i off n) := (bump_ext ..).1

theorem wr_same (a : Nat) (w : Word) : Same [.regs, .hlk] s (s.wr a w) := (wr_ext ..).1.mono rfl

/-- Where launches end without touching a register's address, its field reads on. -/
theorem g_of_rd {u v : State} (h : ∀ a, a % 0x1000 ≠ Off.corVflags → u.rd a = v.rd a) (b : Blk) (i : Nat) {off : Nat} (ho : off < 0x1000)
    (hne : off ≠ Off.corVflags) (hi lo : Nat) : u.g b i off hi lo = v.g b i off hi lo := by
  have hrd := h (regAt b i off) (by rwa [regAt_mod ho])
  exact congrArg (fld · hi lo) hrd

/-! ### A barrier that expires (R128) -/

theorem notComplete {c l scope id : Nat} {x : Launch}
    (h : ∃ d ∈ barCores x c scope, ∃ t y, t < 32 ∧ s.shoal d t = some y ∧ y.launch = l ∧ y.wait = .run) :
    s.barComplete l x c scope id = false := by
  obtain ⟨d, hd, t, y, ht, hy, hl, hw⟩ := h
  have hall : (s.shoalsOf d l).all (fun e => e.2.wait = .bar scope id) = false := by
    refine List.all_eq_false.2 ⟨(t, y), mem_shoalsOf ht hy hl, ?_⟩
    simp [hw]
  have harr : s.arrivedOn l x scope id d = false := by rw [arrivedOn, hall, Bool.and_false, Bool.false_and]
  rw [barComplete, List.all_eq_false.2 ⟨d, hd, by rw [harr]; exact Bool.false_ne_true⟩, Bool.false_and]

theorem exec_barrierTimeout {c l scope id : Nat} {fill : Bool} {x : Launch} (hrun : s.running c fill = some l) (hx : s.launch? l = some x)
    (hb : x.budget = 0) (hwait : (s.waitingAt l scope id c).isEmpty = false) (hopen : s.barComplete l x c scope id = false)
    (hpri : fill = true → (s.core c).pri = none) (hfree : NoStreams s c) (hswap : (s.core c).swap = .none) :
    exec (.barrierTimeout c fill scope id) s =
      .next (((s.barStat l x c (some (scope, id))).raise .cor c Ev.corBarrierTimeout).launchEnd l 6 c (barByte scope id)) := by
  have hfill : ¬(fill = true ∧ (s.core c).pri.isSome = true) := fun hp => by
    rw [hpri hp.1] at hp
    exact Bool.false_ne_true hp.2
  refine congrArg Host.Outcome.next ?_
  simp only [hrun, hx]
  rw [opOn_noStreams hfree, swapping, hswap, hwait, hopen]
  exact if_pos ⟨hb, rfl, rfl, by rw [decide_eq_false hfill]; rfl, rfl, rfl⟩

theorem barByte_eq {scope id : Nat} (hs : scope < 4) (hid : id < 8) : barByte scope id = scope * 64 + id := by
  rw [barByte, Nat.mod_eq_of_lt hs, Nat.mod_eq_of_lt hid]

theorem barrierTimeout_spec {c l scope id : Nat} {fill : Bool} {x : Launch} (hrun : s.running c fill = some l) (hb : x.budget = 0) (hc : c < 2304)
    (hs : scope < 4) (hid : id < 8) (hwait : ∃ t y, t < 32 ∧ s.shoal c t = some y ∧ y.launch = l ∧ y.wait = .bar scope id)
    (hopen : ∃ d ∈ barCores x c scope, ∃ t y, t < 32 ∧ s.shoal d t = some y ∧ y.launch = l ∧ y.wait = .run)
    (hpri : fill = true → (s.core c).pri = none) (hswap : (s.core c).swap = .none) (hin : c ∈ x.targets) (h : EndsCleanly s l x) :
    ∃ u, exec (.barrierTimeout c fill scope id) s = .next u ∧ EndedAs s u l x 6 6 c (scope * 64 + id) ∧
      u.g .cor c Off.event Ev.corBarrierTimeout Ev.corBarrierTimeout = 1 ∧ u.g .cor c Off.corBarstat 63 62 = scope ∧
      u.g .cor c Off.corBarstat 58 56 = id := by
  obtain ⟨t, y, ht, hy, hl, hw⟩ := hwait
  have hsome : (s.waitingAt l scope id c).isEmpty = false := by
    obtain ⟨e, he, -⟩ := List.mem_map.1 (mem_waitingAt_slots.2 ⟨ht, y, hy, hl, hw⟩)
    exact List.isEmpty_eq_false_iff_exists_mem.2 ⟨e, he⟩
  obtain ⟨arrived, hstat⟩ := s.barStat_eq l x c (some (scope, id))
  let w := barWord scope id arrived x.shoals x.fill
  let v := (s.wr (regAt .cor c Off.corBarstat) w).raise .cor c Ev.corBarrierTimeout
  obtain ⟨hend, hregs⟩ := launchEnd_expired (v := v) (detail := scope * 64 + id) h ((wr_same _ _).trans (raise_same _ _ _))
    (raise_rings_mbx ..).1 hc (by omega)
  have hrd : v.rd (regAt .cor c Off.corBarstat) = w := by
    rw [rd_raise _ _ _ _ _ (regAt_ne (by decide)), rd_wr_same]
  obtain ⟨hscope, hident⟩ := barWord_fields hs hid arrived x.shoals x.fill
  refine ⟨v.launchEnd l 6 c (scope * 64 + id), ?_, hend, ?_, ?_, ?_⟩
  · rw [exec_barrierTimeout hrun h.1 hb hsome (notComplete hopen) hpri (h.2.1 c hin).2 hswap, hstat, barByte_eq hs hid]
    rfl
  · exact (g_of_rd hregs .cor c (by decide) (by decide) _ _).trans (fld_event_raise_same _ (by decide))
  · exact (g_of_rd hregs .cor c (by decide) (by decide) _ _).trans ((congrArg (fld · 63 62) hrd).trans hscope)
  · exact (g_of_rd hregs .cor c (by decide) (by decide) _ _).trans ((congrArg (fld · 58 56) hrd).trans hident)

/-! ### A work unit that expires (R380) -/

theorem pendingBar_running {c l : Nat} (h : ∀ t y, t < 32 → s.shoal c t = some y → y.launch = l → y.wait = .run) :
    s.pendingBar l c = none := by
  refine List.findSome?_eq_none_iff.2 fun e he => ?_
  obtain ⟨t, ht, hsome⟩ := List.mem_filterMap.1 he
  split at hsome
  case h_1 y hy =>
    split at hsome
    case isTrue hl =>
      cases hsome
      simp only [h t y (List.mem_range.1 ht) hy hl]
    case isFalse => cases hsome
  case h_2 => cases hsome

theorem exec_workUnitExpiry {c l : Nat} {fill : Bool} {x : Launch} (hrun : s.running c fill = some l) (hx : s.launch? l = some x)
    (hb : x.budget ≠ 0) (hnone : s.pendingBar l c = none) (hfree : NoStreams s c) (hswap : (s.core c).swap = .none) :
    exec (.workUnitExpiry c fill) s =
      .next ((((s.barStat l x c none).raise .tlm 0 Ev.tlmWuTimeout).bump .tlm 0 (0xC40 + 32) 1).launchEnd l 6 c 0) := by
  refine congrArg Host.Outcome.next ?_
  simp only [hrun, hx]
  rw [opOn_noStreams hfree, swapping, hswap, hnone]
  exact if_pos ⟨hb, rfl, rfl⟩

theorem workUnitExpiry_spec {c l : Nat} {fill : Bool} {x : Launch} (hrun : s.running c fill = some l) (hb : x.budget ≠ 0) (hc : c < 2304)
    (hswap : (s.core c).swap = .none) (hin : c ∈ x.targets)
    (hgo : ∀ t y, t < 32 → s.shoal c t = some y → y.launch = l → y.wait = .run) (h : EndsCleanly s l x) :
    ∃ u, exec (.workUnitExpiry c fill) s = .next u ∧ EndedAs s u l x 6 6 c 0 ∧ u.g .tlm 0 Off.event Ev.tlmWuTimeout Ev.tlmWuTimeout = 1 := by
  obtain ⟨arrived, hstat⟩ := s.barStat_eq l x c none
  let v := ((s.wr (regAt .cor c Off.corBarstat) (barWord 0 0 arrived x.shoals x.fill)).raise .tlm 0 Ev.tlmWuTimeout).bump .tlm 0 (0xC40 + 32) 1
  obtain ⟨hend, hregs⟩ := launchEnd_expired (v := v) (detail := 0) h (((wr_same _ _).trans (raise_same _ _ _)).trans (bump_same _ _ _ _))
    ((bump_rings_mbx ..).1.trans (raise_rings_mbx ..).1) hc (by decide)
  refine ⟨v.launchEnd l 6 c 0, ?_, hend, ?_⟩
  · rw [exec_workUnitExpiry hrun h.1 hb (pendingBar_running hgo) (h.2.1 c hin).2 hswap, hstat]
    rfl
  · refine (g_of_rd hregs .tlm 0 (by decide) (by decide) _ _).trans ?_
    exact (event_bump _ (by decide) (by decide)).trans (fld_event_raise_same _ (by decide))

end State

/-- Settles O39: a complete barrier's shoals go on core by core; an expiry clears the launch from each of its cores and ends its command. -/
theorem barriersAndFlags : Obligations.BarriersAndFlags := by
  intro s c
  refine ⟨fun fill scope id l x hrun hx hin hsome hend hpc hcores hc => State.barrierRelease_spec hrun hx hin hsome hend hpc hcores hc,
    fun fill scope id l x hrun hb hc hs hid hwait hopen hpri hswap hin h =>
      State.barrierTimeout_spec hrun hb hc hs hid hwait hopen hpri hswap hin h,
    fun fill l x hrun hb hc hswap hin hgo h => State.workUnitExpiry_spec hrun hb hc hswap hin hgo h, fun v hc hready hfree => ⟨?_, ?_⟩,
    fun n k step hc hn hflag hfree hcode => State.efWaitRelease_spec hc hn hflag hfree hcode, fun n hc hn hflag => ?_⟩
  · obtain ⟨u, he, hflag, honly, hsame⟩ := State.exec_corFlagsSet (v := v) hc hready hfree
    exact ⟨u, he, hflag, honly, hsame⟩
  · obtain ⟨u, he, hflag, honly, hsame⟩ := State.exec_corFlagsClr (v := v) hc hready hfree
    exact ⟨u, he, hflag, honly, hsame⟩
  · rw [State.exec_efWaitRelease hc hn, State.flagRelease_clear hflag]

end Sys2Proof.Machine
end

section
/-! SUPPORT. Statement O59: refused register writes, counters, and core swaps (R40, R78, R111, R112). -/

namespace Sys2Proof.Machine

/-- A counter that went up between two states went up from an earlier to a later one, where its word is the same. -/
theorem Counted.between {s t v u : State} {b : Blk} {i off n : Nat} (h : Counted t v b i off n)
    (hs : t.rd (regAt b i off) = s.rd (regAt b i off)) (hu : u.rd (regAt b i off) = v.rd (regAt b i off)) : Counted s u b i off n := by
  unfold Counted at h ⊢
  rwa [hu, ← hs]

theorem Event.of_rd {u v : State} {b : Blk} {i n : Nat} (h : Event v b i n) (hrd : u.rd (regAt b i Off.event) = v.rd (regAt b i Off.event)) :
    Event u b i n := (congrArg (fld · n n) hrd).trans h

namespace State

variable {s : State}

/-- Counting changes no other word from page offset 0x200 on. -/
theorem rd_bump_counter {b : Blk} {i off n a : Nat} (ha : 0x200 ≤ a % 0x1000) (hne : a ≠ regAt b i off) : (s.bump b i off n).rd a = s.rd a := by
  have hbase := pageBase_mod b i
  have hitem := satItem_lt b off
  refine s.rd_bump b i off n a hne ?_ ?_
  · intro e
    simp only [e, Off.event] at ha
    omega
  · intro e
    simp only [e, Off.cntSat] at ha
    omega

theorem rd_raise_counter {b : Blk} {i n a : Nat} (ha : 0x200 ≤ a % 0x1000) : (s.raise b i n).rd a = s.rd a := by
  have hbase := pageBase_mod b i
  refine s.rd_raise b i n a fun e => ?_
  simp only [e, Off.event] at ha
  omega

/-! ### A refused access (R40, R78) -/

theorem regAt_page_ne {b c : Blk} {i j off off' : Nat} (hi : i < pageCount b) (hj : j < pageCount c) (ho : off < 0x1000) (ho' : off' < 0x1000)
    (h : b ≠ c) : regAt b i off ≠ regAt c j off' := fun e => by
  have hb := pageAt_regAt hi ho
  rw [e, pageAt_regAt hj ho'] at hb
  exact h (Prod.ext_iff.1 (Option.some.inj hb)).1.symm

theorem refuse_refused {wh write : Bool} {cause a : Nat} : AccessRefused s (s.refuse wh write cause a) wh write cause a where
  record := by
    rw [refuse, rd_bump _ _ _ _ _ _ (by decide) (by decide) (by decide), rd_raise _ _ _ _ _ (regAt_ne (by decide))]
    exact rd_wr_same ..
  event := by
    have hevent : (s.refuse wh write cause a).rd (regAt .dev 0 Off.event) = _ :=
      (rd_bump _ _ _ _ _ _ (by decide) (by decide) (by decide)).trans (rd_raise_same _ .dev 0 cause)
    rw [EventSet, FieldSet, hevent, rd_wr_other _ _ (regAt_ne (by decide))]
  count := (bump_counted _ Nat.one_ne_zero).between ((rd_raise _ _ _ _ _ (by decide)).trans (rd_wr_other _ _ (by decide))) rfl
  regs b i off hdev htlm hi ho := by
    have hd (o : Nat) (h : o < 0x1000) : regAt b i off ≠ regAt .dev 0 o := regAt_page_ne hi (by decide) ho h hdev
    have ht (o : Nat) (h : o < 0x1000) : regAt b i off ≠ regAt .tlm 0 o := regAt_page_ne hi (by decide) ho h htlm
    have hitem := satItem_lt .tlm (0x200 + 8 * 22)
    rw [refuse, rd_bump _ _ _ _ _ _ (ht _ (by decide)) (ht _ (by decide)) (ht _ (by simp only [Off.cntSat]; omega)),
      rd_raise _ _ _ _ _ (hd _ (by decide)), rd_wr_other _ _ (hd _ (by decide))]
  frame := (s.refuse_ext wh write cause a).1

theorem pageWrite_early {b : Blk} {i : Nat} (off : Nat) (f : State → State) (hi : i < pageCount b) (hr : s.ready b i = false) :
    s.pageWrite b i off f = s.refuse false true Ev.devEarlyAccess (regAt b i off) := by
  rw [pageWrite, if_neg (Nat.not_le.2 hi), hr, Bool.not_false, if_pos rfl]

/-! ### Swaps (R111, R112) -/

theorem setCore_now (c : Nat) (x : Core) : CoreNow s (s.setCore c x) c x := fun d => s.core_setCore c d x

theorem setPcore_now (q : Nat) (x : PhysCore) : PhysNow s (s.setPcore q x) q x := fun p => s.pcore_setPcore q p x

theorem spareLow_same (n b : Nat) : Same [.regs, .hlk] s (spareLow n s b) := (spareLow_ext n s b).1

theorem requestSwap_spare {c q : Nat} {t : Bool} {l : List Nat} (hnone : (s.core c).swap = .none) (hfree : s.freeSpares (c / 576) = q :: l) :
    CoreNow s (s.requestSwap c t) c { s.core c with swap := .waiting t q } ∧ Same [.cores, .regs, .hlk] s (s.requestSwap c t) := by
  let x : Core := { s.core c with swap := .waiting t q }
  have hreq : s.requestSwap c t = spareLow (s.freeSpares (c / 576)).length (s.setCore c x) (c / 576) := by
    simp only [requestSwap, hnone, hfree]
    rfl
  have hlow := (s.setCore c x).spareLow_same (s.freeSpares (c / 576)).length (c / 576)
  rw [hreq]
  exact ⟨fun d => (hlow.core d).trans (s.setCore_now c x d), ((setCore_ext ..).1.mono rfl).trans (hlow.mono rfl)⟩

/-- A record that is not a corrected one stands at the end of the pending list, while there is room (R405). -/
theorem putRecord_recorded {r : FRec} (h : r.sev ≠ 2) : Recorded s (s.putRecord r) r.source r.inst r.kind := fun hroom => by
  obtain ⟨u, hu⟩ : ∃ u, u = s.putRecord r := ⟨_, rfl⟩
  rw [← hu]
  unfold putRecord at hu
  extract_lets logid fw q same l r0 h0 u0 v r1 at hu
  have hnone : s.ras.pending.any same = false := List.any_eq_false.2 fun x _ => by simp [same, q, h]
  have hpend : v.ras.pending = s.ras.pending := by rw [(bump_ext ..).1 .ras (by decide)]
  rw [if_neg (by rw [hnone]; exact Bool.false_ne_true), if_pos (by rw [hpend]; exact hroom)] at hu
  refine ⟨q, ?_, rfl, rfl, rfl, rfl⟩
  rw [hu]
  exact congrArg (· ++ [q]) hpend

theorem requestSwap_refused {c : Nat} {t : Bool} (hnone : (s.core c).swap = .none) (hfree : s.freeSpares (c / 576) = []) :
    Recorded s (s.requestSwap c t) 0x09 c 0x0D ∧ (s.requestSwap c t).cores = s.cores := by
  have hreq : s.requestSwap c t = s.record .cor c 0x0D 4 0 (phys := s.physOf c) := by
    simp only [requestSwap, hnone, hfree]
  rw [hreq]
  exact ⟨putRecord_recorded (show (0 : Nat) ≠ 2 by decide), (record_ext ..).1 .cores (by decide)⟩

theorem requestSwap_again {c q : Nat} {t t' : Bool} (h : (s.core c).swap = .waiting t' q) :
    s.requestSwap c t = s.setCore c { s.core c with swap := .waiting (t' && t) q } := by
  simp only [requestSwap, h]

theorem exec_swapRequest {c : Nat} {t : Bool} (h : s.coreUp c = true) : exec (.swapRequest c t) s = .next (s.requestSwap c t) :=
  congrArg Host.Outcome.next (if_pos h)

theorem exec_swapDrainPoint {c q : Nat} {t : Bool} (h : (s.core c).swap = .waiting t q) :
    exec (.swapDrainPoint c) s = .next (if s.atDrain c then s.setCore c { s.core c with swap := .drained t q } else s) := by
  change execSwapDrainPoint c s = _
  simp only [execSwapDrainPoint, h]

theorem exec_swapCopyStart {c q : Nat} {t : Bool} (h : (s.core c).swap = .drained t q) (hquiet : s.coreQuiet c = true) :
    exec (.swapCopyStart c) s = .next (s.setCore c { s.core c with swap := .copying t q }) := by
  change execSwapCopyStart c s = _
  simp only [execSwapCopyStart, h, hquiet, if_true]

theorem atDrain_idle {c : Nat} (h : (s.core c).pri = none) : s.atDrain c = true := by simp only [atDrain, h]

theorem atDrain_going {c l : Nat} {x : Launch} (h : (s.core c).pri = some l) (hx : s.launch? l = some x) (hbar : s.pendingBar l c = none) :
    s.atDrain c = false := by simp only [atDrain, h, hx, hbar]

/-- The spare of a swap serves its logical core. -/
def spareServes (s : State) (c q : Nat) : State := (s.setCore c { s.core c with swap := .none }).setPhysOf c q

theorem spareServes_ext (c q : Nat) : Ext [.cores, .ras] s (s.spareServes c q) :=
  Ext.step (setPhysOf_ext ..) rfl (.step (setCore_ext ..) rfl (Ext.refl _ s))

theorem spareServes_core (c q : Nat) : CoreNow s (s.spareServes c q) c { s.core c with swap := .none } := fun d => s.core_setCore c d _

theorem spareServes_physOf (c q : Nat) : (s.spareServes c q).physOf c = q := tget_tset_same ..

/-- The event and the counters of a swap that has ended. -/
def swapCounted (s : State) (c : Nat) (forTest : Bool) : State :=
  let u := (s.raise .cor c Ev.corSwapDone).bump .tlm 0 (0x200 + 8 * 12) 1
  if forTest then u.bump .ras 0 (0x200 + 8 * 5) 1 else u

theorem swapCounted_same (c : Nat) (t : Bool) : Same [.regs, .hlk] s (s.swapCounted c t) := by
  have h : Ext [.regs, .hlk] s ((s.raise .cor c Ev.corSwapDone).bump .tlm 0 (0x200 + 8 * 12) 1) :=
    Ext.step (bump_ext ..) rfl (Ext.step (raise_ext ..) rfl (Ext.refl _ s))
  exact (Ext.ite (Ext.step (bump_ext ..) rfl h) h).1

/-- A swap of a core without a primary launch ends. -/
theorem swapEnd_idle {c q : Nat} {t : Bool} (h : (s.core c).pri = none) : s.swapEnd c q t = (s.spareServes c q).swapCounted c t := by
  have hpri : (((s.spareServes c q).swapCounted c t).core c).pri = none := by
    rw [((s.spareServes c q).swapCounted_same c t).core, s.spareServes_core c q, if_pos rfl, h]
  rw [swapCounted, spareServes] at hpri ⊢
  rw [swapEnd]
  dsimp only at hpri ⊢
  rw [hpri]

theorem swapCounted_spec {c : Nat} {t : Bool} (hc : c < 2304) : Event (s.swapCounted c t) .cor c Ev.corSwapDone ∧
    Counted s (s.swapCounted c t) .tlm 0 (0x200 + 8 * 12) 1 ∧ (t = true → Counted s (s.swapCounted c t) .ras 0 (0x200 + 8 * 5) 1) := by
  let v := s.raise .cor c Ev.corSwapDone
  let u := v.bump .tlm 0 (0x200 + 8 * 12) 1
  have hpage (b : Blk) (hb : b ≠ .cor) (o : Nat) (h0 : 0 < pageCount b) (ho : o < 0x1000) : regAt .cor c Off.event ≠ regAt b 0 o :=
    regAt_page_ne hc h0 (by decide) ho hb.symm
  have hut : u.rd (regAt .cor c Off.event) = v.rd (regAt .cor c Off.event) := by
    have hitem := satItem_lt .tlm (0x200 + 8 * 12)
    exact rd_bump _ _ _ _ _ _ (hpage .tlm (by decide) _ (by decide) (by decide)) (hpage .tlm (by decide) _ (by decide) (by decide))
      (hpage .tlm (by decide) _ (by decide) (by simp only [Off.cntSat]; omega))
  have hur : (u.bump .ras 0 (0x200 + 8 * 5) 1).rd (regAt .cor c Off.event) = u.rd (regAt .cor c Off.event) := by
    have hitem := satItem_lt .ras (0x200 + 8 * 5)
    exact rd_bump _ _ _ _ _ _ (hpage .ras (by decide) _ (by decide) (by decide)) (hpage .ras (by decide) _ (by decide) (by decide))
      (hpage .ras (by decide) _ (by decide) (by simp only [Off.cntSat]; omega))
  have hset : Event v .cor c Ev.corSwapDone := fld_event_raise_same _ (by decide)
  have htlm : Counted s u .tlm 0 (0x200 + 8 * 12) 1 := (bump_counted _ Nat.one_ne_zero).between (rd_raise_counter (by decide)) rfl
  cases t with
  | false => exact ⟨hset.of_rd hut, htlm, fun h => absurd h Bool.false_ne_true⟩
  | true =>
    have hlast : (u.bump .ras 0 (0x200 + 8 * 5) 1).rd (regAt .tlm 0 (0x200 + 8 * 12)) = u.rd (regAt .tlm 0 (0x200 + 8 * 12)) :=
      rd_bump_counter (by decide) (by decide)
    have hform : s.swapCounted c true = u.bump .ras 0 (0x200 + 8 * 5) 1 := rfl
    rw [hform]
    refine ⟨hset.of_rd (hur.trans hut), htlm.between rfl hlast, fun _ => ?_⟩
    exact (bump_counted _ Nat.one_ne_zero).between ((rd_bump_counter (by decide) (by decide)).trans (rd_raise_counter (by decide))) rfl

theorem exec_swapCopyDone {c q : Nat} {t : Bool} (h : (s.core c).swap = .copying t q) : exec (.swapCopyDone c) s = .next (s.swapEnd c q t) := by
  change execSwapCopyDone c s = _
  simp only [execSwapCopyDone, h]

theorem swapCopyDone_spec {c q : Nat} {t : Bool} (hswap : (s.core c).swap = .copying t q) (hpri : (s.core c).pri = none) (hc : c < 2304) :
    ∃ u, exec (.swapCopyDone c) s = .next u ∧ CoreNow s u c { s.core c with swap := .none } ∧ u.physOf c = q ∧
      Event u .cor c Ev.corSwapDone ∧ Counted s u .tlm 0 (0x200 + 8 * 12) 1 ∧ (t = true → Counted s u .ras 0 (0x200 + 8 * 5) 1) ∧
      Same [.cores, .ras, .regs, .hlk] s u := by
  let v := s.spareServes c q
  have hv : Same [.cores, .ras] s v := (s.spareServes_ext c q).1
  have hu := v.swapCounted_same c t
  obtain ⟨hevent, htlm, hras⟩ := v.swapCounted_spec (t := t) hc
  refine ⟨v.swapCounted c t, by rw [exec_swapCopyDone hswap, swapEnd_idle hpri], fun d => (hu.core d).trans (s.spareServes_core c q d), ?_, hevent,
    htlm.between (hv.rd _) rfl, fun ht => (hras ht).between (hv.rd _) rfl, (hv.mono rfl).trans (hu.mono rfl)⟩
  rw [physOf, hu .ras (by decide)]
  exact s.spareServes_physOf c q

end State

end Sys2Proof.Machine
end

section
/-! SUPPORT. Statement O59: in-field tests, retirement and suspicion (R394 to R399). -/

namespace Sys2Proof.Machine

/-- From s to u only reports are made: no physical core's entry changes, the counters of tests stay, and the events of a failed test
and of a retirement stay raised. -/
structure Reported (s u : State) : Prop where
  pcores : ∀ p, u.pcore p = s.pcore p
  retired : u.ras.retired = s.ras.retired
  counts : ∀ o ∈ [0x218, 0x220], u.rd (regAt .ras 0 o) = s.rd (regAt .ras 0 o)
  events : ∀ m ∈ [Ev.rasTestFail, Ev.rasCoreRetired], Event s .ras 0 m → Event u .ras 0 m

namespace Reported

variable {s t u : State}

theorem refl (s : State) : Reported s s := ⟨fun _ => rfl, rfl, fun _ _ => rfl, fun _ _ h => h⟩

theorem trans (h : Reported s t) (k : Reported t u) : Reported s u :=
  ⟨fun p => (k.pcores p).trans (h.pcores p), k.retired.trans h.retired, fun o ho => (k.counts o ho).trans (h.counts o ho),
    fun m hm he => k.events m hm (h.events m hm he)⟩

/-- A change of other parts than the registers, or of RAS away from the cores and the list. -/
theorem of_fields (hcores : t.ras.cores = s.ras.cores) (hret : t.ras.retired = s.ras.retired) (hregs : t.regs = s.regs) : Reported s t := by
  have hrd (a : Nat) : t.rd a = s.rd a := State.rd_of_regs hregs a
  exact ⟨fun p => by rw [State.pcore, hcores, State.pcore], hret, fun o _ => hrd _, fun m _ he => he.of_rd (hrd _)⟩

theorem raise (h : Reported s t) {b : Blk} {i n : Nat} (hn : n < 64) : Reported s (t.raise b i n) := by
  have hras : (t.raise b i n).ras = t.ras := (State.raise_ext ..).1 .ras (by decide)
  refine h.trans ⟨fun p => by rw [State.pcore, hras, State.pcore], by rw [hras], fun o ho => State.rd_raise_counter ?_, fun m hm he => ?_⟩
  · rcases List.mem_pair.1 ho with rfl | rfl <;> decide
  · by_cases hpage : regAt .ras 0 Off.event = pageBase b i + Off.event
    · have hraised := t.fld_event_raise (b := b) (i := i) (m := m) hn
      have hset := t.fld_event_raise_same (b := b) (i := i) hn
      rw [← hpage] at hraised hset
      by_cases hmn : m = n
      · exact hmn ▸ hset
      · exact (hraised hmn).trans he
    · exact he.of_rd (t.rd_raise b i n _ hpage)

/-- Counting on the TLM page. -/
theorem bump_tlm (h : Reported s t) {off n : Nat} (ho : off < 0x1000) : Reported s (t.bump .tlm 0 off n) := by
  have hras : (t.bump .tlm 0 off n).ras = t.ras := (State.bump_ext ..).1 .ras (by decide)
  have hrd {o : Nat} (h : o < 0x1000) : (t.bump .tlm 0 off n).rd (regAt .ras 0 o) = t.rd (regAt .ras 0 o) := by
    have hitem := State.satItem_lt .tlm off
    have hne {o' : Nat} (h' : o' < 0x1000) : regAt .ras 0 o ≠ regAt .tlm 0 o' := State.regAt_page_ne (by decide) (by decide) h h' (by decide)
    exact State.rd_bump _ _ _ _ _ _ (hne ho) (hne (by decide)) (hne (by simp only [Off.cntSat]; omega))
  refine h.trans ⟨fun p => by rw [State.pcore, hras, State.pcore], by rw [hras], fun o hmem => hrd ?_, fun m _ he => ?_⟩
  · rcases List.mem_pair.1 hmem with rfl | rfl <;> decide
  · exact he.of_rd (hrd (by decide))

/-- Counting on the RAS page, other than of tests. -/
theorem bump_ras (h : Reported s t) {off n : Nat} (ho : off ∉ [Off.event, 0x218, 0x220]) : Reported s (t.bump .ras 0 off n) := by
  obtain ⟨hevent, hdone, hfail⟩ : off ≠ Off.event ∧ off ≠ 0x218 ∧ off ≠ 0x220 := by simpa using ho
  have hras : (t.bump .ras 0 off n).ras = t.ras := (State.bump_ext ..).1 .ras (by decide)
  refine h.trans ⟨fun p => by rw [State.pcore, hras, State.pcore], by rw [hras], fun o hmem => ?_, fun m hm he => ?_⟩
  · rcases List.mem_pair.1 hmem with rfl | rfl
    · exact State.rd_bump_counter (by decide) (regAt_ne hdone.symm)
    · exact State.rd_bump_counter (by decide) (regAt_ne hfail.symm)
  · refine (State.event_bump t hevent ?_).trans he
    rcases List.mem_pair.1 hm with rfl | rfl <;> decide

theorem putRecord (h : Reported s t) (r : FRec) : Reported s (t.putRecord r) := by
  have hnum (l : List FRec) : Reported s (t.numbered l) := by
    refine bump_tlm (h.trans (of_fields ?_ ?_ ?_)) (by decide) <;> rfl
  rcases t.putRecord_cases r with ⟨-, l, e⟩ | ⟨n, ⟨l, e⟩ | e⟩
  · rw [e]
    exact h.trans (of_fields rfl rfl rfl)
  · rw [e]
    exact (hnum n).trans (of_fields rfl rfl rfl)
  · rw [e]
    exact ((hnum n).bump_ras (by decide)).raise (by decide)

theorem record (h : Reported s t) {b : Blk} {i kind outcome sev phys attempt detail addr : Nat} {step : Word} :
    Reported s (t.record b i kind outcome sev phys step attempt detail addr) := h.putRecord _

theorem spareLow (h : Reported s t) {n b : Nat} : Reported s (State.spareLow n t b) := by
  unfold State.spareLow
  dsimp only
  split
  · exact h.raise (by decide)
  · exact h

theorem requestSwap (h : Reported s t) {c : Nat} {forTest : Bool} : Reported s (t.requestSwap c forTest) := by
  have hset (x : Core) : Reported s (t.setCore c x) := h.trans (of_fields rfl rfl rfl)
  unfold State.requestSwap
  dsimp only
  split
  · split
    · exact h.record
    · exact (hset _).spareLow
  · exact hset _
  · exact hset _
  · exact hset _

theorem coreLost (h : Reported s t) {c : Nat} : Reported s (t.coreLost c) := h.trans (of_fields rfl rfl rfl)

end Reported

namespace State

variable {s : State}

/-! ### Tests that fall due, start and pass (R394 to R396) -/

theorem makeDue_testable {q : Nat} (h : s.testable q = true) :
    s.makeDue q = s.setPcore q { s.pcore q with due := true, overdue := false, dueAt := s.now } := by
  rw [makeDue, if_pos h]

theorem exec_testDue {q : Nat} (hen : s.g .ras 0 Off.rasTestcfg 63 63 = 1) (hrails : s.power.rails = true) :
    exec (.testDue q) s = .next (s.makeDue q) := by
  have hexec : exec (.testDue q) s = execTestDue q s := rfl
  rw [hexec, execTestDue, if_pos ⟨hen, hrails⟩]

theorem setPcore_same (q : Nat) (x : PhysCore) : Same [.ras] s (s.setPcore q x) := (setPcore_ext ..).1

/-- A core's entry that stays as retired and as much in test as it was leaves the free spares. -/
theorem freeSpares_setPcore {q b : Nat} {x : PhysCore} (hret : x.retired = (s.pcore q).retired) (htest : x.testing = (s.pcore q).testing) :
    (s.setPcore q x).freeSpares b = s.freeSpares b := by
  have hentry (p : Nat) : ((s.setPcore q x).pcore p).retired = (s.pcore p).retired ∧ ((s.setPcore q x).pcore p).testing = (s.pcore p).testing := by
    rw [pcore_setPcore]
    split
    case isTrue hp => exact hp ▸ ⟨hret, htest⟩
    case isFalse => exact ⟨rfl, rfl⟩
  have hphys (k : Nat) : (s.setPcore q x).physOf k = s.physOf k := rfl
  have hspares : (s.setPcore q x).swapSpares = s.swapSpares := rfl
  have hsec : (s.setPcore q x).sec = s.sec := rfl
  simp only [freeSpares, hphys, hspares, hsec, (hentry _).1, (hentry _).2]

/-- A due test of a core in service asks for the swap that it needs. -/
theorem testStart_serving {q l : Nat} (h : s.testable q = true) (hdue : (s.pcore q).due = true) (hready : s.basinReady (q / 592) = true)
    (hgoing : s.quiet .ras 0 = false) (hlog : s.logicalOf q = some l) (hfree : s.g .ras 0 Off.rasTestcfg 3 0 < (s.freeSpares (q / 592)).length)
    (hnone : (s.core l).swap = .none) :
    s.testStart q = (s.setPcore q { s.pcore q with deferred := (s.core l).pri.isSome }).requestSwap l true := by
  have hgo : ¬((s.freeSpares (q / 592)).length ≤ s.g .ras 0 Off.rasTestcfg 3 0 ∨ (s.core l).swap ≠ .none) := fun hno =>
    hno.elim (Nat.not_le.2 hfree) fun hswap => hswap hnone
  rw [testStart]
  simp only [h, hdue, hready, hgoing, hlog, Bool.not_true, Bool.or_false, Bool.false_eq_true, if_false, if_neg hgo]

/-- A due test of a free spare begins. -/
theorem testStart_free {q : Nat} (h : s.testable q = true) (hdue : (s.pcore q).due = true) (hready : s.basinReady (q / 592) = true)
    (hgoing : s.quiet .ras 0 = false) (hlog : s.logicalOf q = none) (hfree : q ∈ s.freeSpares (q / 592))
    (hroom : s.testsIn (q / 592) < s.g .ras 0 Off.rasTestcfg 7 4) : s.testStart q = s.testBegin q := by
  have hgo : ((s.freeSpares (q / 592)).contains q && decide (s.testsIn (q / 592) < s.g .ras 0 Off.rasTestcfg 7 4)) = true := by
    rw [List.contains_iff_mem.2 hfree, decide_eq_true hroom]
    rfl
  rw [testStart]
  simp only [h, hdue, hready, hgoing, hlog, Bool.not_true, Bool.or_false, Bool.false_eq_true, if_false, if_pos hgo]

theorem testStart_spare {q : Nat} (h : s.testable q = true) (hdue : (s.pcore q).due = true) (hready : s.basinReady (q / 592) = true)
    (hgoing : s.quiet .ras 0 = false) (hlog : s.logicalOf q = none) (hfree : q ∈ s.freeSpares (q / 592))
    (hroom : s.testsIn (q / 592) < s.g .ras 0 Off.rasTestcfg 7 4) :
    PhysNow s (s.testStart q) q { s.pcore q with testing := true, due := false, deferred := false } ∧
      Same [.ras, .regs, .hlk] s (s.testStart q) := by
  let v := s.setPcore q { s.pcore q with testing := true, due := false, deferred := false }
  have hlow : Same [.regs, .hlk] v (s.testBegin q) := by
    rw [testBegin]
    exact v.spareLow_same _ _
  rw [testStart_free h hdue hready hgoing hlog hfree hroom]
  exact ⟨fun p => (hlow.pcore p).trans (s.setPcore_now q _ p), ((s.setPcore_same q _).mono rfl).trans (hlow.mono rfl)⟩

theorem testStart_swap {q l a : Nat} {r : List Nat} (h : s.testable q = true) (hdue : (s.pcore q).due = true) (hready : s.basinReady (q / 592) = true)
    (hgoing : s.quiet .ras 0 = false) (hlog : s.logicalOf q = some l) (hfree : s.freeSpares (q / 592) = a :: r)
    (hkeep : s.g .ras 0 Off.rasTestcfg 3 0 ≤ r.length) (hbasin : l / 576 = q / 592) (hnone : (s.core l).swap = .none) :
    CoreNow s (s.testStart q) l { s.core l with swap := .waiting true a } ∧
      PhysNow s (s.testStart q) q { s.pcore q with deferred := (s.core l).pri.isSome } ∧ Same [.cores, .ras, .regs, .hlk] s (s.testStart q) := by
  let v := s.setPcore q { s.pcore q with deferred := (s.core l).pri.isSome }
  have hkeep' : s.g .ras 0 Off.rasTestcfg 3 0 < (s.freeSpares (q / 592)).length := by
    rw [hfree, List.length_cons]
    exact Nat.lt_succ_of_le hkeep
  have hv : v.freeSpares (l / 576) = a :: r := by
    rw [hbasin, ← hfree]
    exact freeSpares_setPcore rfl rfl
  obtain ⟨hcore, hsame⟩ := requestSwap_spare (t := true) (show (v.core l).swap = .none from hnone) hv
  rw [testStart_serving h hdue hready hgoing hlog hkeep' hnone]
  exact ⟨hcore, fun p => (hsame.pcore p).trans (s.setPcore_now q _ p), ((s.setPcore_same q _).mono rfl).trans (hsame.mono rfl)⟩

theorem exec_inFieldTestDone_pass {q : Nat} (h : (s.pcore q).testing = true) : exec (.inFieldTestDone q true) s = .next (s.testPass q) :=
  congrArg Host.Outcome.next (if_pos h)

theorem testPass_spec (q : Nat) : ∀ w,
    w = s.now + hours (if (s.pcore q).suspect then s.g .ras 0 Off.rasTestcfg 47 40 else s.g .ras 0 Off.rasTestcfg 55 48) →
    PhysNow s (s.testPass q) q { s.pcore q with testing := false, due := false, overdue := false, deferred := false, dueAt := w } ∧
      Counted s (s.testPass q) .ras 0 (0x200 + 24) 1 ∧ Counted s (s.testPass q) .tlm 0 (0x200 + 8 * 13) 1 ∧
      Same [.ras, .regs, .hlk] s (s.testPass q) := by
  rintro w rfl
  let v := s.setPcore q { s.pcore q with
    testing := false, due := false, overdue := false, deferred := false
    dueAt := s.now + hours (if (s.pcore q).suspect then s.g .ras 0 Off.rasTestcfg 47 40 else s.g .ras 0 Off.rasTestcfg 55 48) }
  let t := v.bump .ras 0 (0x200 + 24) 1
  have hu : Ext [.regs, .hlk] v (t.bump .tlm 0 (0x200 + 8 * 13) 1) := Ext.step (bump_ext ..) rfl (Ext.step (bump_ext ..) rfl (Ext.refl _ v))
  have hpass : s.testPass q = t.bump .tlm 0 (0x200 + 8 * 13) 1 := rfl
  have hras : Counted s t .ras 0 (0x200 + 24) 1 := (bump_counted v Nat.one_ne_zero).between rfl rfl
  have hlast : (t.bump .tlm 0 (0x200 + 8 * 13) 1).rd (regAt .ras 0 (0x200 + 24)) = t.rd (regAt .ras 0 (0x200 + 24)) :=
    rd_bump_counter (by decide) (by decide)
  have hfirst : t.rd (regAt .tlm 0 (0x200 + 8 * 13)) = v.rd (regAt .tlm 0 (0x200 + 8 * 13)) := rd_bump_counter (by decide) (by decide)
  rw [hpass]
  exact ⟨fun p => (hu.1.pcore p).trans (s.setPcore_now q _ p), hras.between rfl hlast, (bump_counted t Nat.one_ne_zero).between hfirst rfl,
    ((s.setPcore_same q _).mono rfl).trans (hu.1.mono rfl)⟩

/-! ### Tests that fail (R394, R397, R398) -/

/-- A retired core's mark: the core is out of test, the list has it last, and its event is raised. -/
theorem retireMark_spec (q : Nat) : ((s.retireMark q).pcore q).retired = true ∧ ((s.retireMark q).pcore q).testing = false ∧
    (s.retireMark q).ras.retired = s.ras.retired ++ [q] ∧ Event (s.retireMark q) .ras 0 Ev.rasCoreRetired ∧
    (∀ o ∈ [0x218, 0x220], (s.retireMark q).rd (regAt .ras 0 o) = s.rd (regAt .ras 0 o)) ∧
    (Event s .ras 0 Ev.rasTestFail → Event (s.retireMark q) .ras 0 Ev.rasTestFail) := by
  obtain ⟨u, hu⟩ : ∃ u, u = s.retireMark q := ⟨_, rfl⟩
  rw [← hu]
  unfold retireMark at hu
  extract_lets b n full p v ex r w x y at hu
  have hpcore : w.pcore q = v.pcore q := rfl
  have hv : v.pcore q = { s.pcore q with retired := true, due := false, testing := false, deferred := false } := by
    rw [pcore_setPcore, if_pos rfl]
  have hy : Reported w y := ((Reported.refl w).record.bump_ras (by decide)).bump_tlm (by decide)
  have hlow : Reported (y.raise .ras 0 Ev.rasCoreRetired) u := hu ▸ (Reported.refl _).spareLow
  have hall : Reported w u := (hy.raise (by decide)).trans hlow
  refine ⟨?_, ?_, hall.retired, ?_, fun o ho => hall.counts o ho, fun he => hall.events _ (by decide) he⟩
  · rw [hall.pcores, hpcore, hv]
  · rw [hall.pcores, hpcore, hv]
  · exact hlow.events _ (by decide) (fld_event_raise_same y (by decide))

/-- Once a core is marked, only reports and the swap of its logical core follow. -/
theorem retire_reported {q : Nat} (h : (s.pcore q).retired = false) : Reported (s.retireMark q) (s.retire q) := by
  unfold retire
  rw [if_neg (by rw [h]; exact Bool.false_ne_true)]
  dsimp only
  split
  · exact Reported.refl _
  · split
    · exact (Reported.refl _).coreLost
    · exact (Reported.refl _).requestSwap

theorem testFail_spec {q : Nat} (h : (s.pcore q).retired = false) :
    ((s.testFail q).pcore q).retired = true ∧ ((s.testFail q).pcore q).testing = false ∧
    (s.testFail q).ras.retired = s.ras.retired ++ [q] ∧ Event (s.testFail q) .ras 0 Ev.rasTestFail ∧
    Event (s.testFail q) .ras 0 Ev.rasCoreRetired ∧ Counted s (s.testFail q) .ras 0 (0x200 + 24) 1 ∧
    Counted s (s.testFail q) .ras 0 (0x200 + 32) 1 := by
  let v := s.setPcore q { s.pcore q with testing := false }
  let t := v.bump .ras 0 (0x200 + 24) 1
  let u := t.bump .ras 0 (0x200 + 32) 1
  let w := (u.bump .tlm 0 (0x200 + 8 * 14) 1).raise .ras 0 Ev.rasTestFail
  let x := w.record .ras 0 0x0C 3 0 (phys := q)
  have huw : Reported u w := ((Reported.refl u).bump_tlm (by decide)).raise (by decide)
  have hwx : Reported w x := (Reported.refl w).record
  have hux : Reported u x := huw.trans hwx
  have hras : u.ras = v.ras := ((bump_ext ..).1 .ras (by decide)).trans ((bump_ext ..).1 .ras (by decide))
  have hret : (x.pcore q).retired = false := by
    have hv : v.pcore q = { s.pcore q with testing := false } := by rw [pcore_setPcore, if_pos rfl]
    rw [hux.pcores, pcore, hras]
    exact (congrArg PhysCore.retired hv).trans h
  obtain ⟨hretired, htesting, hlist, hmark, hcounts, hfail⟩ := retireMark_spec (s := x) q
  have hend : Reported (x.retireMark q) (s.testFail q) := retire_reported hret
  have hdone : Counted s u .ras 0 (0x200 + 24) 1 := (bump_counted v Nat.one_ne_zero).between rfl (rd_bump_counter (by decide) (by decide))
  have hfailed : Counted s u .ras 0 (0x200 + 32) 1 := (bump_counted t Nat.one_ne_zero).between (rd_bump_counter (by decide) (by decide)) rfl
  have hkept (o : Nat) (ho : o ∈ [0x218, 0x220]) : (s.testFail q).rd (regAt .ras 0 o) = u.rd (regAt .ras 0 o) :=
    (hend.counts o ho).trans ((hcounts o ho).trans (hux.counts o ho))
  refine ⟨?_, ?_, ?_, ?_, hend.events _ (by decide) hmark, hdone.between rfl (hkept _ (by decide)), hfailed.between rfl (hkept _ (by decide))⟩
  · rw [hend.pcores, hretired]
  · rw [hend.pcores, htesting]
  · rw [hend.retired, hlist, hux.retired, hras]
    rfl
  · exact hend.events _ (by decide) (hfail (hwx.events _ (by decide) (fld_event_raise_same _ (by decide))))

theorem exec_testFail {q : Nat} (h : (s.pcore q).testing = true) : ∀ e ∈ [Instr.inFieldTestDone q false, .inFieldTestTimeout q],
    exec e s = .next (s.testFail q) := fun e he => by
  rcases List.mem_pair.1 he with rfl | rfl
  · exact congrArg Host.Outcome.next (if_pos h)
  · exact congrArg Host.Outcome.next (if_pos h)

/-! ### Times that end (R395 to R397) -/

theorem exec_testDeferExpiry {q : Nat} (h : (s.pcore q).deferred = true) :
    exec (.testDeferExpiry q) s = .next (s.setPcore q { s.pcore q with deferred := false }) := congrArg Host.Outcome.next (if_pos h)

theorem exec_testOverdue {q : Nat} (h : (s.pcore q).due = true) (hnot : (s.pcore q).overdue = false) :
    exec (.testOverdue q) s = .next ((s.setPcore q { s.pcore q with overdue := true }).raise .ras 0 Ev.rasTestOverdue) :=
  congrArg Host.Outcome.next (if_pos (by rw [h, hnot]; rfl))

theorem testOverdue_spec (q : Nat) (x : PhysCore) : PhysNow s ((s.setPcore q x).raise .ras 0 Ev.rasTestOverdue) q x ∧
    EventSet s ((s.setPcore q x).raise .ras 0 Ev.rasTestOverdue) .ras 0 Ev.rasTestOverdue ∧
    Same [.ras, .regs, .hlk] s ((s.setPcore q x).raise .ras 0 Ev.rasTestOverdue) := by
  obtain ⟨hset, -, hsame⟩ := (s.setPcore q x).raise_only_event .ras 0 (n := Ev.rasTestOverdue)
  exact ⟨fun p => (hsame.pcore p).trans (s.setPcore_now q x p), hset, ((s.setPcore_same q x).mono rfl).trans (hsame.mono rfl)⟩

theorem exec_suspicionExpiry {q : Nat} (h : (s.pcore q).suspect = true) :
    exec (.suspicionExpiry q) s = .next (s.setPcore q { s.pcore q with suspect := false, suspectEnd := 0 }) := congrArg Host.Outcome.next (if_pos h)

end State

end Sys2Proof.Machine
end

section
/-! SUPPORT. Statement O59: what reads of memory, records and translations do not depend on (R208, R221, R225). -/

namespace Sys2Proof.Machine

/-- RAS_LOADGATE (R402). -/
abbrev loadgateAt : Nat := regAt .ras 0 Off.rasLoadgate

/-- Two machines with the same memory, resets and registers but for RAS_LOADGATE. -/
structure GateOnly (s u : State) : Prop where
  mem : u.mem = s.mem
  rst : u.rst = s.rst
  rd : ∀ a, a ≠ loadgateAt → u.rd a = s.rd a

namespace GateOnly

variable {s u : State}

theorem g (h : GateOnly s u) {b : Blk} {i off : Nat} (ha : regAt b i off ≠ loadgateAt) (hi lo : Nat) : u.g b i off hi lo = s.g b i off hi lo :=
  congrArg (fld · hi lo) (h.rd _ ha)

theorem page_ne {b : Blk} {i off : Nat} (ho : off < 0x100) : regAt b i off ≠ loadgateAt := fun e => by
  have hmod := congrArg (· % 0x1000) e
  simp only [regAt_mod (Nat.lt_trans ho (by decide)), regAt_mod (show Off.rasLoadgate < 0x1000 by decide)] at hmod
  simp only [Off.rasLoadgate] at hmod
  omega

theorem quiet (h : GateOnly s u) (b : Blk) (i : Nat) : u.quiet b i = s.quiet b i := by
  rw [State.quiet, h.g (page_ne (by decide)), State.quiet]

theorem faulted (h : GateOnly s u) (b : Blk) (i : Nat) : u.faulted b i = s.faulted b i := by
  have hrd : u.rd (pageBase b i + Off.event) = s.rd (pageBase b i + Off.event) := h.rd _ (page_ne (b := b) (i := i) (by decide))
  rw [State.faulted, hrd, h.rst, State.faulted]

theorem ready (h : GateOnly s u) (b : Blk) (i : Nat) : u.ready b i = s.ready b i :=
  State.ready_congr (by rw [h.rst]) (by rw [h.rst]) (by rw [h.rst]) (by rw [h.rst])

theorem dimmChans (h : GateOnly s u) : u.dimmChans = s.dimmChans := by rw [State.dimmChans, h.g (by decide), State.dimmChans]

theorem dimmSize (h : GateOnly s u) : u.dimmSize = s.dimmSize := by rw [State.dimmSize, h.dimmChans, h.g (by decide), State.dimmSize]

theorem region (h : GateOnly s u) (a : Nat) : u.region a = s.region a := by rw [State.region, h.dimmSize, State.region]

theorem chanOf (h : GateOnly s u) (d : Nat) : u.chanOf d = s.chanOf d := by rw [State.chanOf, h.dimmChans, State.chanOf]

theorem link (h : GateOnly s u) : u.g .hlk 0 Off.hlkLink 2 0 = s.g .hlk 0 Off.hlkLink 2 0 := h.g (by decide) 2 0

theorem hostUp (h : GateOnly s u) : u.hostUp = s.hostUp := by rw [State.hostUp, h.link, State.hostUp]

theorem physRes (h : GateOnly s u) (a n : Nat) : u.physRes a n = s.physRes a n := by
  rw [State.physRes, State.physRes, h.region]
  cases s.region a with
  | stacked b => simp only [h.ready, h.quiet]
  | dimm d => simp only [h.chanOf, h.ready, h.faulted, h.quiet]
  | host => simp only [h.hostUp, h.link]
  | unmapped => rfl

theorem onFailed (h : GateOnly s u) (a : Nat) : u.onFailed a = s.onFailed a := by
  rw [State.onFailed, State.onFailed, h.region]
  cases s.region a with
  | dimm d => simp only [h.chanOf, h.ready, h.faulted]
  | stacked b => rfl
  | host => rfl
  | unmapped => rfl

theorem wordOf (h : GateOnly s u) (a : Nat) : u.wordOf a = s.wordOf a := by rw [State.wordOf, h.region, State.wordOf]

theorem wordLen (h : GateOnly s u) (a : Nat) : u.wordLen a = s.wordLen a := by rw [State.wordLen, h.region, State.wordLen]

theorem physPoison (h : GateOnly s u) (a n : Nat) : u.physPoison a n = s.physPoison a n := by
  simp only [State.physPoison, h.onFailed, h.wordOf, h.wordLen, h.mem]

theorem translate (h : GateOnly s u) (sl va : Nat) (write : Bool) : u.translate sl va write = s.translate sl va write := by
  simp only [State.translate, State.slice, h.mem]

theorem pieces (h : GateOnly s u) (sl : Nat) (write : Bool) (f va n : Nat) : u.pieces sl write f va n = s.pieces sl write f va n := by
  induction f generalizing va n with
  | zero => cases n <;> rfl
  | succ f ih =>
    cases n with
    | zero => rfl
    | succ n => simp only [State.pieces, h.translate, ih]

/-- What a read answers, apart from the machine after it. -/
def readOf : VRes → Option (Bytes × Bool)
  | .ok bs p _ => some (bs, p)
  | .cow _ => none
  | .held => none
  | .hostDown => none

theorem vread (h : GateOnly s u) (sl va n : Nat) : readOf (u.vread sl va n) = readOf (s.vread sl va n) := by
  have hpieces : u.piecesOf sl va n false = s.piecesOf sl va n false := h.pieces ..
  rw [State.vread, State.vread, hpieces]
  cases s.piecesOf sl va n false with
  | error e => rfl
  | ok ps =>
    simp only [h.physRes, h.physPoison, h.mem]
    split
    · rfl
    · split <;> rfl

theorem vget_bytes (v : State) (sl va n : Nat) : (v.vget sl va n).map Prod.fst =
    (readOf (v.vread sl va n)).bind fun x => if x.2 then none else some x.1 := by
  rw [State.vget]
  cases v.vread sl va n with
  | ok bs p t => cases p <;> rfl
  | cow va => rfl
  | held => rfl
  | hostDown => rfl

theorem vget (h : GateOnly s u) (sl va n : Nat) : (u.vget sl va n).map Prod.fst = (s.vget sl va n).map Prod.fst := by
  rw [vget_bytes, vget_bytes, h.vread]

theorem tensor_bytes (v : State) (slot : Nat) : v.tensor slot = if v.g .red 0 Off.redLen 14 0 ≤ slot then none
    else ((v.vget 0 (v.tblVa Off.redTt 0x200000 + 128 * slot) 128).map Prod.fst).bind fun d =>
      let t : Tensor := ⟨slot, d⟩
      if t.role 7 && bat d 124 4 = crc32 (d.take 124) && t.rows ≠ 0 && t.rowLen ≠ 0 then some t else none := by
  rw [State.tensor]
  cases v.vget 0 (v.tblVa Off.redTt 0x200000 + 128 * slot) 128 <;> rfl

theorem tensor (h : GateOnly s u) (slot : Nat) : u.tensor slot = s.tensor slot := by
  have hva : u.tblVa Off.redTt 0x200000 = s.tblVa Off.redTt 0x200000 := by rw [State.tblVa, h.g (by decide), State.tblVa]
  rw [tensor_bytes, tensor_bytes, hva, h.vget, h.g (by decide)]

theorem whenOf (h : GateOnly s u) (k : Pkt) : u.whenOf k = s.whenOf k := by
  have hstat (hi lo : Nat) : u.g .red 0 Off.redStepstat hi lo = s.g .red 0 Off.redStepstat hi lo := h.g (by decide) hi lo
  have hlast : u.rd (pageBase .rcc 0 + Off.rccBkp1) = s.rd (pageBase .rcc 0 + Off.rccBkp1) := h.rd _ (by decide)
  have hstate : u.redState = s.redState := hstat 63 60
  have hstep : u.redStep = s.redStep := hstat 47 0
  have hattempt : u.attempt = s.attempt := hstat 59 56
  rw [State.whenOf, State.whenOf, hstate, hstep, hattempt, hlast]

end GateOnly

namespace State

variable {s : State}

/-! ### A verdict that is injected (R400, R412) -/

theorem stepstatAt_calm : Calm stepstatAt := ⟨by decide, by decide⟩

theorem countBytes_mem (a n : Nat) (write : Bool) : (s.countBytes a n write).mem = s.mem :=
  foldl_all (P := fun t : State => t.mem = s.mem) rfl fun t e ht => by
    split
    · exact ((bump_ext ..).1 .mem (by decide)).trans ht
    · exact ((bump_ext ..).1 .mem (by decide)).trans ht
    · exact ht

theorem touch_bytes (sl va : Nat) : (s.touch sl va).mem.bytes = s.mem.bytes := by
  rw [touch]
  split <;> rfl

theorem vread_bytes (sl va n : Nat) : VAll (fun t : State => t.mem.bytes = s.mem.bytes) (s.vread sl va n) := by
  unfold vread
  split
  · trivial
  · refine VAll.ite trivial (VAll.ite trivial ?_)
    refine foldl_all (P := fun t : State => t.mem.bytes = s.mem.bytes) rfl fun t p ht => ?_
    rw [countBytes_mem, touch_bytes]
    exact ht

/-- Reading a structure keeps the step's state, memory's bytes and the reduction. -/
theorem vget_keeps {sl va n : Nat} {r : Bytes} {s' : State} (h : s.vget sl va n = some (r, s')) :
    s'.redStep = s.redStep ∧ s'.red = s.red ∧ s'.mem.bytes = s.mem.bytes := by
  have hkept := (Kept.refl (r := false) stepstatAt_calm s).vget (sl := sl) (va := va) (n := n)
  have hext := s.vget_ext sl va n
  have hrd : s'.rd stepstatAt = s.rd stepstatAt := (hkept.all _ h).rd
  refine ⟨congrArg (fld · 47 0) hrd, (hext.all _ h).1 .red (by decide), ?_⟩
  unfold vget at h
  split at h
  case h_1 bs t hread =>
    cases h
    exact (s.vread_bytes sl va n).of_ok hread
  case h_2 => cases h

theorem exec_rasVinject (h : s.ready .ras 0 = true) : exec .rasVinject s = .next s.vinject :=
  congrArg Host.Outcome.next (s.pageWrite_ready _ _ (by decide) h)

theorem vinject_refused {base : Nat} (hb : base = s.g .ras 0 Off.rasVrec 56 17 * 131072) (h : base = 0 ∨ s.redState ≠ 3 ∨ s.phase ≠ 0) :
    s.vinject = s.raise .ras 0 Ev.rasInjectRefused := by
  subst hb
  exact if_pos h

theorem vinject_read {base : Nat} {r : Bytes} {s' : State} (hb : base = s.g .ras 0 Off.rasVrec 56 17 * 131072) (h0 : base ≠ 0)
    (hstate : s.redState = 3) (hphase : s.phase = 0) (hget : s.vget 0 base recLen = some (r, s')) :
    s.vinject = if bat r 0 8 = s'.redStep then s'.setRed { s'.red with verdict := some r } else s.raise .ras 0 Ev.rasInjectRefused := by
  subst hb
  have hgo : ¬(s.g .ras 0 Off.rasVrec 56 17 * 131072 = 0 ∨ s.redState ≠ 3 ∨ s.phase ≠ 0) := by simp [h0, hstate, hphase]
  simp only [vinject]
  rw [if_neg hgo, hget]

/-! ### The load gate (R402) -/

theorem exec_rasLoadgateWrite (h : s.ready .ras 0 = true) (hold : Bool) : exec (.rasLoadgateWrite hold) s = .next (s.writeLoadgate hold) :=
  congrArg Host.Outcome.next (s.pageWrite_ready _ _ (by decide) h)

/-- The machine with RAS_LOADGATE open. -/
def gateOpen (s : State) : State := s.p .ras 0 Off.rasLoadgate 0 0 0

theorem gateOpen_gateOnly (r : Red) : GateOnly s (s.gateOpen.setRed r) := ⟨rfl, rfl, fun _ ha => (s.rd_p ..).trans (if_neg ha)⟩

theorem writeLoadgate_open : s.writeLoadgate false = s.gateOpen.redRelease := rfl

/-- The machine with a list of packets kept for later. -/
def keepLater (s : State) (l : List (Nat × Pkt)) : State := s.setRed { s.red with later := l }

theorem keepLater_whenOf (l : List (Nat × Pkt)) (k : Pkt) : (s.keepLater l).whenOf k = s.whenOf k := rfl

/-- What one kept packet does when the kept packets are taken up again (R352). -/
def takeUp (s : State) (e : Nat × Pkt) : State :=
  match s.whenOf e.2 with
  | .now => s.redApply e.1 e.2
  | .later => s.setRed { s.red with later := s.red.later ++ [e] }
  | .stale => s.bump .red 0 (0x200 + 40) 1

theorem redRelease_eq : s.redRelease = s.red.later.foldl takeUp (s.keepLater []) := rfl

theorem takeUp_later {e : Nat × Pkt} (h : s.whenOf e.2 = .later) : s.takeUp e = s.keepLater (s.red.later ++ [e]) := by
  rw [takeUp, h]
  rfl

theorem takeUp_foldl_later {l : List (Nat × Pkt)} (pre : List (Nat × Pkt)) (h : ∀ e ∈ l, s.whenOf e.2 = .later) :
    l.foldl takeUp (s.keepLater pre) = s.keepLater (pre ++ l) := by
  induction l generalizing pre with
  | nil => rw [List.append_nil, List.foldl_nil]
  | cons e l ih =>
    have hfirst : (s.keepLater pre).takeUp e = s.keepLater (pre ++ [e]) := takeUp_later ((keepLater_whenOf pre e.2).trans (h e (by simp)))
    rw [List.foldl_cons, hfirst, ih _ fun x hx => h x (by simp [hx]), List.append_assoc, List.singleton_append]

/-- What is kept for a later step stays kept, in its order. -/
theorem redRelease_later (h : ∀ e ∈ s.red.later, s.whenOf e.2 = .later) : s.redRelease = s := by
  rw [redRelease_eq, takeUp_foldl_later [] h]
  rfl

/-- A mirrored slab of a piece whose unit is chosen by its number enters that unit's queue, while the gate is open (R354, R402). -/
theorem takeMirror_queued {l : Nat} {k : Pkt} {t : Tensor} (hgate : s.g .ras 0 Off.rasLoadgate 0 0 = 0) (ht : s.tensor (addrOf k).1 = some t)
    (hctrl : t.ctrl 0 = false) : (s.takeMirror l k).red.later = s.red.later ∧
      SlabQueued s (s.takeMirror l k) ((addrOf k).2.1 % 12) ⟨(addrOf k).1, (addrOf k).2.1, (addrOf k).2.2.1, BitVec.ofNat 16 (addrOf k).2.2.2, k.nf,
        slabZero (addrOf k).2.2.2 (slabOf 0 k.payload), false⟩ := by
  let x : UnitSlab := ⟨(addrOf k).1, (addrOf k).2.1, (addrOf k).2.2.1, BitVec.ofNat 16 (addrOf k).2.2.2, k.nf,
    slabZero (addrOf k).2.2.2 (slabOf 0 k.payload), false⟩
  let n := (addrOf k).2.1 % 12
  let v := (s.setUnit n { s.unit n with queue := (s.unit n).queue ++ [x] }).unitRegs n
  have hunit : s.unitFor t x.piece x.slab = some n := by
    rw [unitFor, hctrl]
    rfl
  have hroute : s.routeSlab t x = some v := by
    rw [routeSlab, hunit]
    rfl
  have hmirror : s.takeMirror l k = v.setRed { v.red with nf := v.red.nf || k.nf } := by
    rw [takeMirror]
    dsimp only
    rw [if_neg (by rw [hgate]; decide), ht]
    dsimp only
    rw [hroute]
  rw [hmirror]
  exact ⟨rfl, tget_tset_same ..⟩

theorem redApply_mirror {l : Nat} {k : Pkt} (h : k.typ = 0x40) : s.redApply l k = s.takeMirror l k := by
  rw [redApply, h]
  rfl

end State

end Sys2Proof.Machine
end

section
/-! SUPPORT. Statement O59: the RAS page's writes (R392, R400, R402, R412), and the statement. -/

namespace Sys2Proof.Machine

namespace State

variable {s : State}

/-! ### RAS_REPLAYCTL and RAS_TESTREQ (R392, R412) -/

/-- RAS_REPLAYCTL as the host sets it. -/
def replayWord (step : BitVec 48) (a : BitVec 4) : Word := BitVec.ofNat 64 (2 ^ 63 + a.toNat * 2 ^ 56 + step.toNat)

theorem replayWord_fields (step : BitVec 48) (a : BitVec 4) : fld (replayWord step a) 63 63 = 1 ∧ fld (replayWord step a) 59 56 = a.toNat ∧
    fld (replayWord step a) 47 0 = step.toNat := by
  have hstep := step.isLt
  have ha := a.isLt
  simp only [replayWord, fld, nfld, BitVec.toNat_ofNat]
  omega

theorem exec_rasReplayctlSet (h : s.ready .ras 0 = true) (step : BitVec 48) (a : BitVec 4) :
    exec (.rasReplayctlSet step a) s = .next (s.wr replayctlAt (replayWord step a)) :=
  congrArg Host.Outcome.next (s.pageWrite_ready _ _ (by decide) h)

theorem replayctlSet_spec (h : s.ready .ras 0 = true) (step : BitVec 48) (a : BitVec 4) :
    ∃ u, exec (.rasReplayctlSet step a) s = .next u ∧ u.g .ras 0 Off.rasReplayctl 63 63 = 1 ∧ u.g .ras 0 Off.rasReplayctl 59 56 = a.toNat ∧
      u.g .ras 0 Off.rasReplayctl 47 0 = step.toNat ∧ RegsOnly [regAt .ras 0 Off.rasReplayctl] s u ∧ Same [.regs] s u := by
  obtain ⟨hset, hattempt, hstep⟩ := replayWord_fields step a
  have hrd : (s.wr replayctlAt (replayWord step a)).rd (pageBase .ras 0 + Off.rasReplayctl) = replayWord step a := rd_wr_same ..
  refine ⟨_, exec_rasReplayctlSet h step a, ?_, ?_, ?_, fun x hx => rd_wr_other _ _ fun e => hx (List.mem_singleton.2 e), (wr_ext ..).1⟩
  · rw [g, hrd, hset]
  · rw [g, hrd, hattempt]
  · rw [g, hrd, hstep]

theorem exec_rasTestreq (h : s.ready .ras 0 = true) (p : BitVec 12) :
    exec (.rasTestreq p) s = .next ((s.p .ras 0 Off.rasTestreq 11 0 p.toNat).makeDue p.toNat) :=
  congrArg Host.Outcome.next (s.pageWrite_ready _ _ (by decide) h)

theorem testreq_spec (h : s.ready .ras 0 = true) {p : BitVec 12} (ht : s.testable p.toNat = true) : ∃ u, exec (.rasTestreq p) s = .next u ∧
    FieldSet s u .ras 0 Off.rasTestreq 11 0 p.toNat ∧ PhysNow s u p.toNat { s.pcore p.toNat with due := true, overdue := false, dueAt := s.now } ∧
    Same [.regs, .ras] s u := by
  let v := s.p .ras 0 Off.rasTestreq 11 0 p.toNat
  obtain ⟨hset, -, hsame⟩ := s.p_only_field .ras 0 Off.rasTestreq 11 0 p.toNat
  have hv : v.testable p.toNat = true := ht
  refine ⟨_, exec_rasTestreq h p, ?_⟩
  rw [makeDue_testable hv]
  exact ⟨hset, v.setPcore_now p.toNat _, (hsame.mono rfl).trans ((v.setPcore_same _ _).mono rfl)⟩

/-! ### RAS_VINJECT and RAS_LOADGATE -/

theorem vinject_unready {base : Nat} (h : s.ready .ras 0 = true) (hb : base = s.g .ras 0 Off.rasVrec 56 17 * 131072)
    (hno : base = 0 ∨ s.redState ≠ 3 ∨ s.phase ≠ 0) :
    ∃ u, exec .rasVinject s = .next u ∧ EventSet s u .ras 0 Ev.rasInjectRefused ∧ Same [.regs, .hlk] s u := by
  obtain ⟨hset, -, hsame⟩ := s.raise_only_event .ras 0 (n := Ev.rasInjectRefused)
  exact ⟨_, (exec_rasVinject h).trans (congrArg _ (vinject_refused hb hno)), hset, hsame⟩

theorem vinject_taken {base : Nat} {r : Bytes} {s' : State} (h : s.ready .ras 0 = true) (hb : base = s.g .ras 0 Off.rasVrec 56 17 * 131072)
    (h0 : base ≠ 0) (hstate : s.redState = 3) (hphase : s.phase = 0) (hget : s.vget 0 base recLen = some (r, s')) (hstep : bat r 0 8 = s.redStep) :
    ∃ u, exec .rasVinject s = .next u ∧ u.red = { s.red with verdict := some r } ∧ u.mem.bytes = s.mem.bytes := by
  obtain ⟨hredStep, hred, hbytes⟩ := vget_keeps hget
  have htaken : s.vinject = s'.setRed { s'.red with verdict := some r } :=
    (vinject_read hb h0 hstate hphase hget).trans (if_pos (hstep.trans hredStep.symm))
  exact ⟨_, (exec_rasVinject h).trans (congrArg _ htaken), congrArg (fun x : Red => { x with verdict := some r }) hred, hbytes⟩

theorem vinject_stale {base : Nat} {r : Bytes} {s' : State} (h : s.ready .ras 0 = true) (hb : base = s.g .ras 0 Off.rasVrec 56 17 * 131072)
    (h0 : base ≠ 0) (hstate : s.redState = 3) (hphase : s.phase = 0) (hget : s.vget 0 base recLen = some (r, s'))
    (hstep : bat r 0 8 ≠ s.redStep) :
    ∃ u, exec .rasVinject s = .next u ∧ EventSet s u .ras 0 Ev.rasInjectRefused ∧ Same [.regs, .hlk] s u := by
  obtain ⟨hset, -, hsame⟩ := s.raise_only_event .ras 0 (n := Ev.rasInjectRefused)
  have hrefused : s.vinject = s.raise .ras 0 Ev.rasInjectRefused :=
    (vinject_read hb h0 hstate hphase hget).trans (if_neg fun e => hstep (e.trans (vget_keeps hget).1))
  exact ⟨_, (exec_rasVinject h).trans (congrArg _ hrefused), hset, hsame⟩

theorem loadgate_later (h : s.ready .ras 0 = true) (hlater : ∀ e ∈ s.red.later, s.whenOf e.2 = .later) :
    ∃ u, exec (.rasLoadgateWrite false) s = .next u ∧ FieldSet s u .ras 0 Off.rasLoadgate 0 0 0 ∧ u.red = s.red ∧
      u.mem.bytes = s.mem.bytes := by
  have hopen : s.gateOpen.redRelease = s.gateOpen := redRelease_later fun e he => ((gateOpen_gateOnly s.red).whenOf e.2).trans (hlater e he)
  exact ⟨s.gateOpen, (exec_rasLoadgateWrite h false).trans (congrArg _ hopen), (s.p_only_field ..).1, rfl, rfl⟩

theorem loadgate_now {l : Nat} {k : Pkt} {a : Nat × Nat × Nat × Nat} {t : Tensor} (h : s.ready .ras 0 = true) (hlater : s.red.later = [(l, k)])
    (hwhen : s.whenOf k = .now) (htyp : k.typ = 0x40) (ha : a = addrOf k) (ht : s.tensor a.1 = some t) (hctrl : t.ctrl 0 = false) :
    ∃ u, exec (.rasLoadgateWrite false) s = .next u ∧ u.red.later = [] ∧ SlabQueued s u (a.2.1 % 12)
      ⟨a.1, a.2.1, a.2.2.1, BitVec.ofNat 16 a.2.2.2, k.nf, slabZero a.2.2.2 (slabOf 0 k.payload), false⟩ := by
  subst ha
  let v := s.gateOpen.keepLater []
  have hv : GateOnly s v := gateOpen_gateOnly _
  have hrel : s.gateOpen.redRelease = v.redApply l k := by
    have hone : s.gateOpen.redRelease = v.takeUp (l, k) := by
      rw [redRelease_eq, show s.gateOpen.red.later = [(l, k)] from hlater]
      rfl
    rw [hone, takeUp, (hv.whenOf k).trans hwhen]
  have hgate : v.g .ras 0 Off.rasLoadgate 0 0 = 0 := s.g_p_same .ras 0 Off.rasLoadgate 0 0 0
  obtain ⟨hkept, hqueued⟩ := takeMirror_queued (l := l) hgate ((hv.tensor _).trans ht) hctrl
  rw [← redApply_mirror htyp] at hkept hqueued
  exact ⟨v.redApply l k, (exec_rasLoadgateWrite h false).trans (congrArg _ hrel), hkept, hqueued⟩

/-- Writes of the RAS page before READY (R40). -/
theorem ras_early {step : BitVec 48} {a : BitVec 4} {p : BitVec 12} {hold : Bool} (h : s.ready .ras 0 = false) :
    ∀ e ∈ [(Instr.rasReplayctlSet step a, Off.rasReplayctl), (.rasTestreq p, Off.rasTestreq), (.rasVinject, Off.rasVinject),
        (.rasLoadgateWrite hold, Off.rasLoadgate)],
      ∃ u, exec e.1 s = .next u ∧ AccessRefused s u false true Ev.devEarlyAccess (regAt .ras 0 e.2) := by
  have hearly (off : Nat) (f : State → State) : ∃ u, (.next (s.pageWrite .ras 0 off f) : Host.Outcome State Fault Refusal) = .next u ∧
      AccessRefused s u false true Ev.devEarlyAccess (regAt .ras 0 off) :=
    ⟨_, congrArg _ (pageWrite_early off f (by decide) h), refuse_refused⟩
  intro e he
  simp only [List.mem_cons, List.not_mem_nil, or_false] at he
  rcases he with rfl | rfl | rfl | rfl
  · exact hearly Off.rasReplayctl _
  · exact hearly Off.rasTestreq _
  · exact hearly Off.rasVinject _
  · exact hearly Off.rasLoadgate _

end State

/-- Settles O59: each command of swaps and tests by its case of the model, and the RAS page's writes by what they read and keep. -/
theorem swapsAndTests : Obligations.SwapsAndTests := by
  intro s c q
  refine ⟨fun t hup _ => ⟨fun l hnone hfree => ?_, fun hnone hfree => ?_, fun t' hwait => ?_⟩, fun t hwait hpri => ?_,
    fun t l x hwait hpri hx hbar => ?_, fun t hdrained hquiet => ?_, fun t hcopy hpri hc => State.swapCopyDone_spec hcopy hpri hc,
    fun htest hen hrails => ?_, fun htest hdue hready hgoing => ⟨fun hlog hfree hroom => ?_, fun l a r hlog hfree hkeep hbasin hnone => ?_⟩,
    fun htesting => ⟨fun w hw => ?_, fun e he hret => ?_⟩, fun hdeferred => ?_, fun hdue hover => ?_, fun hsuspect => ?_, fun hready => ?_,
    fun step a p h hready => State.ras_early hready⟩
  · exact ⟨_, State.exec_swapRequest hup, State.requestSwap_spare hnone hfree⟩
  · exact ⟨_, State.exec_swapRequest hup, State.requestSwap_refused hnone hfree⟩
  · exact ⟨_, (State.exec_swapRequest hup).trans (congrArg _ (State.requestSwap_again hwait)), s.setCore_now c _, (State.setCore_ext ..).1⟩
  · exact ⟨_, (State.exec_swapDrainPoint hwait).trans (congrArg _ (if_pos (State.atDrain_idle hpri))), s.setCore_now c _,
      (State.setCore_ext ..).1⟩
  · have hno : ¬s.atDrain c = true := by rw [State.atDrain_going hpri hx hbar]; exact Bool.false_ne_true
    exact (State.exec_swapDrainPoint hwait).trans (congrArg _ (if_neg hno))
  · exact ⟨_, State.exec_swapCopyStart hdrained hquiet, s.setCore_now c _, (State.setCore_ext ..).1⟩
  · exact ⟨_, (State.exec_testDue hen hrails).trans (congrArg _ (State.makeDue_testable htest)), s.setPcore_now q _, s.setPcore_same q _⟩
  · exact ⟨s.testStart q, rfl, State.testStart_spare htest hdue hready hgoing hlog hfree hroom⟩
  · exact ⟨s.testStart q, rfl, State.testStart_swap htest hdue hready hgoing hlog hfree hkeep hbasin hnone⟩
  · exact ⟨_, State.exec_inFieldTestDone_pass htesting, State.testPass_spec q w hw⟩
  · exact ⟨_, State.exec_testFail htesting e he, State.testFail_spec hret⟩
  · exact ⟨_, State.exec_testDeferExpiry hdeferred, s.setPcore_now q _, s.setPcore_same q _⟩
  · exact ⟨_, State.exec_testOverdue hdue hover, s.testOverdue_spec q _⟩
  · exact ⟨_, State.exec_suspicionExpiry hsuspect, s.setPcore_now q _, s.setPcore_same q _⟩
  · refine ⟨fun step a => State.replayctlSet_spec hready step a, fun p ht => State.testreq_spec hready ht,
      fun base hb => ⟨State.vinject_unready hready hb, fun r s' h0 hstate hphase hget =>
        ⟨State.vinject_taken hready hb h0 hstate hphase hget, State.vinject_stale hready hb h0 hstate hphase hget⟩⟩,
      ⟨_, State.exec_rasLoadgateWrite hready true, s.p_only_field ..⟩, State.loadgate_later hready,
      fun l k a t hlater hwhen htyp ha ht hctrl => State.loadgate_now hready hlater hwhen htyp ha ht hctrl⟩

end Sys2Proof.Machine
end

section
/-! SUPPORT. Statement O41: writes of the scaling registers and the actions that declare the history valid (R150, R152 to R154). -/

namespace Sys2Proof.Machine

/-! ### The words of the scaling registers -/

/-- A recipe exponent's 8 bits read as its value (R147). -/
theorem sext_toNat (e : BitVec 8) : sext 8 e.toNat = e.toInt := by
  have he := e.isLt
  rw [sext, BitVec.toInt_eq_toNat_cond, Nat.mod_eq_of_lt he]
  split <;> split <;> omega

/-- A field copied from another word reads as it did there. -/
theorem fld_putFld_fld (w v : Word) {hi lo : Nat} (h : lo ≤ hi) (h64 : hi < 64) :
    fld (putFld w hi lo (fld v hi lo)) hi lo = fld v hi lo :=
  (fld_putFld_same w _ h h64).trans (Nat.mod_eq_of_lt (fld_lt v hi lo))

/-- DEV_SCALECFG once a write takes effect: the write's fields, and 0 elsewhere. -/
def scaleCfgWord (v : Word) : Word :=
  putFld (putFld (putFld (putFld (putFld 0 63 48 (fld v 63 48)) 42 32 (fld v 42 32)) 25 16 (fld v 25 16)) 6 4 (fld v 6 4)) 1 0 (fld v 1 0)

theorem scaleCfgWord_fields (v : Word) :
    ∀ e ∈ [(63, 48), (42, 32), (25, 16), (6, 4), (1, 0)], fld (scaleCfgWord v) e.1 e.2 = fld v e.1 e.2 := by
  simp (disch := omega) [scaleCfgWord, fld_putFld_above, fld_putFld_fld, -fld_putFld_same]

/-- DEV_SCALEBASE once a write takes effect. -/
def scaleBaseWord (v : Word) : Word := BitVec.ofNat 64 (fld v 56 12 * 4096 + fld v 0 0)

theorem scaleBaseWord_fields (v : Word) : fld (scaleBaseWord v) 56 12 = fld v 56 12 ∧ fld (scaleBaseWord v) 0 0 = fld v 0 0 := by
  have hva := fld_lt v 56 12
  have hen := fld_lt v 0 0
  rw [scaleBaseWord]
  generalize fld v 56 12 = va at *
  generalize fld v 0 0 = en at *
  simp only [fld, nfld, BitVec.toNat_ofNat]
  omega

namespace State

variable {s : State}

/-! ### Commands of the DEV page, with and without an open step -/

theorem openStep_closed (h : s.redState = 0) : s.openStep.isSome = false :=
  congrArg Option.isSome (if_pos h)

theorem openStep_open (h : s.redState ≠ 0) : s.openStep.isSome = true :=
  congrArg Option.isSome (if_neg h)

theorem devWrite_ready (h : s.ready .dev 0 = true) (off : Nat) (f : State → State) : s.devWrite off f = f s := if_pos h

theorem exec_devScalecfgWrite (h : s.ready .dev 0 = true) (v : Word) : exec (.devScalecfgWrite v) s = .next (s.writeScaleCfg v) :=
  congrArg Host.Outcome.next (devWrite_ready h ..)

theorem exec_devScalebaseWrite (h : s.ready .dev 0 = true) (v : Word) : exec (.devScalebaseWrite v) s = .next (s.writeScaleBase v) :=
  congrArg Host.Outcome.next (devWrite_ready h ..)

theorem exec_devRecipeWrite (h : s.ready .dev 0 = true) {k : Nat} (hk : k < 16) (e : BitVec 8) :
    exec (.devRecipeWrite k e) s = .next (s.writeRecipe k e.toNat) :=
  congrArg Host.Outcome.next ((if_pos hk).trans (devWrite_ready h ..))

theorem exec_scaleLoaded (h : s.ready .dev 0 = true) : exec .scaleLoaded s = .next (s.scaleAction true false) :=
  congrArg Host.Outcome.next (devWrite_ready h ..)

theorem exec_scaleReseed (h : s.ready .dev 0 = true) : exec .scaleReseed s = .next (s.scaleAction false true) :=
  congrArg Host.Outcome.next (devWrite_ready h ..)

/-- A word written in one register. -/
theorem wr_regsOnly (s : State) (a : Nat) (w : Word) : RegsOnly [a] s (s.wr a w) := fun _ hx =>
  rd_wr_other _ _ fun e => hx (List.mem_singleton.2 e)

/-! ### SCALE_HISTORY_VALID and WARMUP_LEFT (R47, R150) -/

/-- SCALE_HISTORY_VALID and WARMUP_LEFT take values. -/
def markHist (s : State) (valid left : Nat) : State := (s.p .rcc 0 Off.rccBkp0 0 0 valid).p .dev 0 Off.devScalestat 41 32 left

/-- From s to u, SCALE_HISTORY_VALID and WARMUP_LEFT are set in their registers. -/
def HistMarked (s u : State) (valid left : Nat) : Prop :=
  FieldSet s u .rcc 0 Off.rccBkp0 0 0 valid ∧ FieldSet s u .dev 0 Off.devScalestat 41 32 left

theorem markHist_rd_other (s : State) (valid left : Nat) {a : Nat} (hflag : a ≠ regAt .rcc 0 Off.rccBkp0)
    (hleft : a ≠ regAt .dev 0 Off.devScalestat) : (s.markHist valid left).rd a = s.rd a := by
  rw [markHist, rd_p, if_neg hleft, rd_p, if_neg hflag]

theorem markHist_same (s : State) (valid left : Nat) : Same [.regs] s (s.markHist valid left) :=
  Same.trans (p_ext ..).1 (p_ext ..).1

theorem markHist_marked (s : State) (valid left : Nat) : HistMarked s (s.markHist valid left) valid left := by
  constructor
  · rw [FieldSet, markHist, rd_p, if_neg (by decide), rd_p, if_pos rfl]
  · rw [FieldSet, markHist, rd_p, if_pos rfl, rd_p, if_neg (by decide)]

/-- A write of another register before the marks leaves them as they are. -/
theorem wr_markHist_marked (s : State) {a : Nat} (w : Word) (valid left : Nat) (hflag : regAt .rcc 0 Off.rccBkp0 ≠ a)
    (hleft : regAt .dev 0 Off.devScalestat ≠ a) : HistMarked s ((s.wr a w).markHist valid left) valid left := by
  obtain ⟨hvalid, hwarm⟩ := (s.wr a w).markHist_marked valid left
  rw [FieldSet, rd_wr_other _ _ hflag] at hvalid
  rw [FieldSet, rd_wr_other _ _ hleft] at hwarm
  exact ⟨hvalid, hwarm⟩

theorem markHist_regsOnly (s : State) (valid left : Nat) :
    RegsOnly [regAt .rcc 0 Off.rccBkp0, regAt .dev 0 Off.devScalestat] s (s.markHist valid left) := fun a ha => by
  simp only [List.mem_cons, List.not_mem_nil, or_false, not_or] at ha
  exact markHist_rd_other _ _ _ ha.1 ha.2

theorem clearHist_eq (s : State) : s.clearHist = s.markHist 0 (s.g .dev 0 Off.devScalecfg 25 16) := rfl

theorem histDeclared_eq (s : State) : s.histDeclared = s.markHist 1 0 := rfl

/-! ### DEV_SCALECFG (R152, R154) -/

/-- A write that takes effect with HIST_LEN as it was stores its fields. -/
theorem applyScaleCfg_same_len {v : Word} (h : fld v 42 32 = s.histLen) :
    s.applyScaleCfg v = s.wr (regAt .dev 0 Off.devScalecfg) (scaleCfgWord v) := if_pos h

/-- With scaling off, a write that changes HIST_LEN stores its fields and clears the history. -/
theorem applyScaleCfg_new_len {v : Word} (h : fld v 42 32 ≠ s.histLen) (hen : s.scaleEn = false) :
    s.applyScaleCfg v = (s.wr (regAt .dev 0 Off.devScalecfg) (scaleCfgWord v)).markHist 0 (fld v 25 16) := by
  have hoff : (s.wr (regAt .dev 0 Off.devScalecfg) (scaleCfgWord v)).scaleEn = false := by
    rw [scaleEn, g, rd_wr_other _ _ (by decide)]
    exact hen
  have hwarm : (s.wr (regAt .dev 0 Off.devScalecfg) (scaleCfgWord v)).g .dev 0 Off.devScalecfg 25 16 = fld v 25 16 := by
    rw [g, rd_wr_same]
    exact scaleCfgWord_fields v (25, 16) (by simp)
  calc s.applyScaleCfg v
    _ = (if (s.wr (regAt .dev 0 Off.devScalecfg) (scaleCfgWord v)).scaleEn then _ else
          s.wr (regAt .dev 0 Off.devScalecfg) (scaleCfgWord v)).clearHist := if_neg h
    _ = (s.wr (regAt .dev 0 Off.devScalecfg) (scaleCfgWord v)).clearHist := by rw [hoff]; rfl
    _ = _ := by rw [clearHist_eq, hwarm]

/-- The fields that DEV_SCALECFG holds are those of the write. -/
theorem scalecfg_fields {u : State} {v : Word} (h : u.rd (regAt .dev 0 Off.devScalecfg) = scaleCfgWord v) :
    ∀ e ∈ [(63, 48), (42, 32), (25, 16), (6, 4), (1, 0)], u.g .dev 0 Off.devScalecfg e.1 e.2 = fld v e.1 e.2 := fun e he => by
  rw [g, h]
  exact scaleCfgWord_fields v e he

theorem applyScaleCfg_spec (v : Word) (hen : s.scaleEn = false) :
    (∀ e ∈ [(63, 48), (42, 32), (25, 16), (6, 4), (1, 0)], (s.applyScaleCfg v).g .dev 0 Off.devScalecfg e.1 e.2 = fld v e.1 e.2) ∧
    (fld v 42 32 = s.histLen → RegsOnly [regAt .dev 0 Off.devScalecfg] s (s.applyScaleCfg v)) ∧
    (fld v 42 32 ≠ s.histLen → HistMarked s (s.applyScaleCfg v) 0 (fld v 25 16)) ∧ Same [.regs] s (s.applyScaleCfg v) := by
  have hwr : Same [.regs] s (s.wr (regAt .dev 0 Off.devScalecfg) (scaleCfgWord v)) := (wr_ext ..).1
  by_cases hlen : fld v 42 32 = s.histLen
  · rw [applyScaleCfg_same_len hlen]
    exact ⟨scalecfg_fields (rd_wr_same ..), fun _ => s.wr_regsOnly _ _, fun e => absurd hlen e, hwr⟩
  · rw [applyScaleCfg_new_len hlen hen]
    refine ⟨scalecfg_fields ?_, fun e => absurd e hlen, fun _ => s.wr_markHist_marked _ _ _ (by decide) (by decide),
      hwr.trans (markHist_same _ _ _)⟩
    rw [markHist_rd_other _ _ _ (by decide) (by decide), rd_wr_same]

theorem writeScaleCfg_refused {v : Word} (h : fld v 42 32 = 0 ∨ 1024 < fld v 42 32 ∨ fld v 63 48 = 0 ∨ fld v 1 0 = 3) :
    s.writeScaleCfg v = s.scaleRefused := if_pos h

theorem writeScaleCfg_waits {v : Word} (h : ¬(fld v 42 32 = 0 ∨ 1024 < fld v 42 32 ∨ fld v 63 48 = 0 ∨ fld v 1 0 = 3))
    (hopen : s.redState ≠ 0) : s.writeScaleCfg v = { s with scale := { s.scale with cfg := some v } } :=
  (if_neg h).trans (if_pos (openStep_open hopen))

theorem writeScaleCfg_now {v : Word} (h : ¬(fld v 42 32 = 0 ∨ 1024 < fld v 42 32 ∨ fld v 63 48 = 0 ∨ fld v 1 0 = 3))
    (hclosed : s.redState = 0) : s.writeScaleCfg v = s.applyScaleCfg v :=
  (if_neg h).trans (if_neg (Bool.eq_false_iff.1 (openStep_closed hclosed)))

/-! ### DEV_SCALEBASE (R152) -/

theorem writeScaleBase_waits (v : Word) (hopen : s.redState ≠ 0) :
    s.writeScaleBase v = { s with scale := { s.scale with base := some v } } := if_pos (openStep_open hopen)

theorem writeScaleBase_now (v : Word) (hclosed : s.redState = 0) : s.writeScaleBase v = s.applyScaleBase v :=
  if_neg (Bool.eq_false_iff.1 (openStep_closed hclosed))

/-- A write that takes effect stores the base and clears the history. -/
theorem applyScaleBase_eq (s : State) (v : Word) : s.applyScaleBase v =
    (s.wr (regAt .dev 0 Off.devScalebase) (scaleBaseWord v)).markHist 0 (s.g .dev 0 Off.devScalecfg 25 16) := by
  have hwarm : (s.wr (regAt .dev 0 Off.devScalebase) (scaleBaseWord v)).g .dev 0 Off.devScalecfg 25 16 =
      s.g .dev 0 Off.devScalecfg 25 16 := by
    rw [g, rd_wr_other _ _ (by decide), g]
  rw [← hwarm]
  rfl

theorem applyScaleBase_rd (s : State) (v : Word) : (s.applyScaleBase v).rd (regAt .dev 0 Off.devScalebase) = scaleBaseWord v := by
  rw [applyScaleBase_eq, markHist_rd_other _ _ _ (by decide) (by decide), rd_wr_same]

theorem applyScaleBase_fields (s : State) (v : Word) :
    (s.applyScaleBase v).scaleVa = fld v 56 12 * 4096 ∧ (s.applyScaleBase v).scaleEn = bit v 0 := by
  obtain ⟨hva, hen⟩ := scaleBaseWord_fields v
  constructor
  · rw [scaleVa, g, applyScaleBase_rd, hva]
  · rw [scaleEn, g, applyScaleBase_rd, hen, bit_eq_fld]

theorem applyScaleBase_marked (s : State) (v : Word) : HistMarked s (s.applyScaleBase v) 0 (s.g .dev 0 Off.devScalecfg 25 16) := by
  rw [applyScaleBase_eq]
  exact s.wr_markHist_marked _ _ _ (by decide) (by decide)

theorem applyScaleBase_regsOnly (s : State) (v : Word) :
    RegsOnly [regAt .dev 0 Off.devScalebase, regAt .rcc 0 Off.rccBkp0, regAt .dev 0 Off.devScalestat] s
      (s.applyScaleBase v) := fun a ha => by
  rw [applyScaleBase_eq]
  exact (markHist_regsOnly _ _ _ a fun hm => ha (List.mem_cons_of_mem _ hm)).trans
    (wr_regsOnly _ _ _ a fun hm => ha (List.mem_singleton.1 hm ▸ List.mem_cons_self))

/-! ### DEV_RECIPEk (R147, R152, R154) -/

theorem writeRecipe_refused (k : Nat) {e : BitVec 8} (h : e.toInt < -126) : s.writeRecipe k e.toNat = s.scaleRefused :=
  if_pos ((sext_toNat e).trans_lt h)

theorem writeRecipe_waits (k : Nat) {e : BitVec 8} (h : -126 ≤ e.toInt) (hopen : s.redState ≠ 0) : s.writeRecipe k e.toNat =
    { s with scale := { s.scale with recipes := tset s.scale.recipes none k (some (e.setWidth 64)) } } := by
  rw [← BitVec.ofNat_toNat]
  exact (if_neg (by rw [sext_toNat]; omega)).trans (if_pos (openStep_open hopen))

theorem writeRecipe_now (k : Nat) {e : BitVec 8} (h : -126 ≤ e.toInt) (hclosed : s.redState = 0) :
    s.writeRecipe k e.toNat = s.wr (regAt .dev 0 (Off.devRecipe0 + 8 * k)) (BitVec.ofNat 64 e.toNat) := by
  have happly : s.applyRecipe k e.toNat = s.wr (regAt .dev 0 (Off.devRecipe0 + 8 * k)) (BitVec.ofNat 64 e.toNat) := by
    rw [applyRecipe, Nat.mod_eq_of_lt (show e.toNat < 256 from e.isLt), Nat.add_assoc]
  exact ((if_neg (by rw [sext_toNat]; omega)).trans (if_neg (Bool.eq_false_iff.1 (openStep_closed hclosed)))).trans happly

/-- A recipe register that holds an exponent gives it to its kind. -/
theorem recipeExp_of_rd {k : Nat} (hk : k < 16) {e : BitVec 8}
    (h : s.rd (regAt .dev 0 (Off.devRecipe0 + 8 * k)) = BitVec.ofNat 64 e.toNat) : s.recipeExp k = e.toInt := by
  have he := e.isLt
  have hfld : fld (BitVec.ofNat 64 e.toNat) 7 0 = e.toNat := by
    simp only [fld, nfld, BitVec.toNat_ofNat]
    omega
  rw [recipeExp, Nat.mod_eq_of_lt hk, g, h, hfld, sext_toNat]

/-! ### LOADED and RESEED of DEV_SCALESTAT (R150, R152, R153) -/

theorem scaleLoaded_waits (hopen : s.redState ≠ 0) : s.scaleAction true false = { s with scale := { s.scale with loaded := true } } := by
  simp [scaleAction, openStep_open hopen]

theorem scaleReseed_waits (hopen : s.redState ≠ 0) : s.scaleAction false true = { s with scale := { s.scale with reseed := true } } := by
  simp [scaleAction, openStep_open hopen]

theorem scaleLoaded_now (hclosed : s.redState = 0) : s.scaleAction true false = s.markHist 1 0 := by
  simp [scaleAction, openStep_closed hclosed, histDeclared_eq]

theorem scaleReseed_now (hclosed : s.redState = 0) : s.scaleAction false true = s.reseedAll.markHist 1 0 := by
  simp [scaleAction, openStep_closed hclosed, histDeclared_eq]

/-- RESEED rebuilds no slot where none is ACTIVE. -/
theorem reseedAll_inactive (h : ∀ n hdr, n < 8192 → s.slotHdr 0 n = some hdr → hdrActive hdr = false) : s.reseedAll = s :=
  foldl_fixed fun n hn => by
    cases hslot : s.slotHdr 0 n with
    | none => rfl
    | some hdr => exact if_neg (Bool.eq_false_iff.1 (h n hdr (List.mem_range.1 hn) hslot))

end State

/-- Settles O41: each write by its case, refused, waiting or made, and the two history fields by what marks them. -/
theorem scalingSetup : Obligations.ScalingSetup := by
  intro s hready
  refine ⟨fun v hbad => ⟨_, State.exec_devScalecfgWrite hready v, ?_⟩,
    fun v hlen hmax hwarm hmode => ⟨fun hopen => ?_, fun hclosed hen => ⟨_, State.exec_devScalecfgWrite hready v, ?_⟩⟩,
    fun v => ⟨fun hopen => ?_, fun hclosed => ⟨_, State.exec_devScalebaseWrite hready v, ?_⟩⟩,
    fun k e hk => ⟨fun hlow => ⟨_, State.exec_devRecipeWrite hready hk e, ?_⟩,
      fun hok hopen => ⟨_, State.exec_devRecipeWrite hready hk e, ?_⟩,
      fun hok hclosed => ⟨_, State.exec_devRecipeWrite hready hk e, ?_⟩⟩,
    fun hclosed => ⟨_, State.exec_scaleLoaded hready, ?_⟩,
    fun hclosed hinactive => ⟨_, State.exec_scaleReseed hready, ?_⟩, fun hopen => ⟨?_, ?_⟩⟩
  · rw [State.writeScaleCfg_refused hbad]
    exact s.p_only_field ..
  · rw [State.exec_devScalecfgWrite hready, State.writeScaleCfg_waits (by omega) hopen]
  · rw [State.writeScaleCfg_now (by omega) hclosed]
    exact State.applyScaleCfg_spec v hen
  · rw [State.exec_devScalebaseWrite hready, State.writeScaleBase_waits v hopen]
  · rw [State.writeScaleBase_now v hclosed]
    obtain ⟨hva, hen⟩ := s.applyScaleBase_fields v
    obtain ⟨hflag, hleft⟩ := s.applyScaleBase_marked v
    exact ⟨hva, hen, hflag, hleft, s.applyScaleBase_regsOnly v, (State.applyScaleBase_ext ..).1⟩
  · rw [State.writeRecipe_refused k hlow]
    obtain ⟨hset, -, hsame⟩ := s.p_only_field .dev 0 Off.devScalestat 3 3 1
    exact ⟨hset, hsame⟩
  · rw [State.writeRecipe_waits k hok hopen]
    exact ⟨fun j => tget_tset .., (Ext.set_scale ..).1⟩
  · rw [State.writeRecipe_now k hok hclosed]
    exact ⟨State.recipeExp_of_rd hk (State.rd_wr_same ..), s.wr_regsOnly _ _, (State.wr_ext ..).1⟩
  · rw [State.scaleLoaded_now hclosed]
    obtain ⟨hflag, hleft⟩ := s.markHist_marked 1 0
    exact ⟨hflag, hleft, s.markHist_regsOnly 1 0, s.markHist_same 1 0⟩
  · rw [State.scaleReseed_now hclosed, State.reseedAll_inactive hinactive]
    obtain ⟨hflag, hleft⟩ := s.markHist_marked 1 0
    exact ⟨hflag, hleft, rfl, rfl⟩
  · rw [State.exec_scaleLoaded hready, State.scaleLoaded_waits hopen]
  · rw [State.exec_scaleReseed hready, State.scaleReseed_waits hopen]

end Sys2Proof.Machine
end

section
/-! SUPPORT. Statement O36: the words that hand work to the engines, and CVT, M40FMA, SFCLR and CVTCTX (R156, R186, R189, R190, R193,
R197, R233, R234). -/

namespace Sys2Proof.Machine

/-! ### What counting an issue leaves alone -/

namespace State

variable (s : State) (th : Thr)

theorem countIssue_rd {a : Nat} (ha : Calm a) : (s.countIssue th).rd a = s.rd a := by
  have hkept : Kept a false s (s.countIssue th) := by
    unfold countIssue
    have hcore (x : Core) : Kept a false s (s.setCore th.p x) := (Kept.refl ha s).frame (setCore_ext ..) rfl
    refine .ite ((hcore _).bump ?_) (Kept.refl ha s)
    split <;> rfl
  exact hkept.rd

theorem countIssue_thReg (l r : Nat) : (s.countIssue th).thReg th l r = s.thReg th l r := by
  rw [thReg, reg, (s.countIssue_spec th).1, thReg, reg]

theorem countIssue_queue (q : Nat) : (s.countIssue th).queue q = s.queue q := (s.countIssue_ext th).1.queue q

theorem countIssue_srRead (p a n : Nat) : (s.countIssue th).srRead p a n = s.srRead p a n := by
  have hsram : (s.countIssue th).sram = s.sram := (s.countIssue_ext th).1 .sram (by decide)
  rw [srRead, hsram, srRead]

theorem countIssue_thRegion : (s.countIssue th).thRegion th = s.thRegion th := by
  have hpart : (s.countIssue th).rd (regAt .cor th.p Off.corPart) = s.rd (regAt .cor th.p Off.corPart) := by
    refine s.countIssue_rd th ?_
    rw [Calm, regAt_mod (by decide)]
    decide
  rw [thRegion, classRegion, g, hpart, thRegion, classRegion, g]

theorem countIssue_cvtIn (l c r : Nat) : (s.countIssue th).cvtIn th l c r = s.cvtIn th l c r := by
  simp only [cvtIn, countIssue_thReg]

theorem countIssue_thRand (rm toff i : Nat) : (s.countIssue th).thRand th rm toff i = s.thRand th rm toff i := by
  rw [thRand, s.countIssue_rd th ⟨by decide, by decide⟩, thRand]

theorem countIssue_m40fmaLane (l : Nat) : (s.countIssue th).m40fmaLane th l = s.m40fmaLane th l := by
  simp only [m40fmaLane, countIssue_cvtIn, countIssue_thReg, countIssue_thRand]

theorem countIssue_laneFlags (p t l : Nat) : (s.countIssue th).laneFlags p t l = s.laneFlags p t l := by
  rw [laneFlags, (s.countIssue_spec th).2.2.1, laneFlags]

end State

/-! ### The word that hands over work -/

namespace Issues

variable {s v : State} {p t cls op l : Nat} {ls : List Nat} {th : Thr}

/-- A shoal-scope word acts once, in its lowest executing lane (R180). -/
theorem shoalOp (h : Issues s p t cls op th) (hlanes : s.lanes th = l :: ls) {f : State → Thr → Nat → Option State}
    (hcan : (f s th l).isSome = true) (hdone : f (s.countIssue th) th l = some v) : s.shoalOp p t .ok cls op f = v := by
  refine State.issueWord_ok h ?_ ?_
  · simp only [hlanes, hcan]
  · simp only [s.countIssue_lanes, hlanes, hdone]

/-- Once its work is handed over the shoal stands at the next word. -/
theorem nextPc_after (h : Issues s p t cls op th) {ps : List Part} (e : Ext ps (s.countIssue th) v)
    (hps : ps.contains .shoals = false := by rfl) :
    v.nextPc th = v.setShoal p t (some th.atNext) ∧ Same (.shoals :: .cores :: .regs :: .hlk :: ps) s (v.nextPc th) := by
  obtain ⟨hp, ht, -⟩ := h.place
  have hx : v.shoal th.p th.t = some th.x := (e.1.shoal _ _ hps).trans h.shoal
  have hnext : v.nextPc th = v.setShoal p t (some th.atNext) := by
    rw [State.nextPc_spec v th th.x hx h.next, hp, ht]
    rfl
  have hcount : Same (.shoals :: .cores :: .regs :: .hlk :: ps) s (s.countIssue th) := (s.countIssue_ext th).1.mono (by simp)
  refine ⟨hnext, (hcount.trans (e.1.mono ?_)).trans ?_⟩
  · simp +contextual
  · rw [hnext]
    exact (State.setShoal_ext ..).1.mono (by simp)

end Issues

/-! ### MMA, SQPUSH, SQSYNC and CHAIN -/

/-- The tile that MMA puts in the waiting place (R156, R189). -/
def mmaTile (s : State) (th : Thr) (l : Nat) : Tile :=
  { launch := th.x.launch, fill := th.x.fill, slot := th.t, mtdAddr := (opA s th l).toNat % 2 ^ 20
    maskAddr := (opB s th l).toNat % 2 ^ 20, word := th.x.pc, mtd := [], started := false, mask := 0, headroom := 0, attempt := 0
    fp32 := false, skip := false, halted := false }

/-- The operation that SQPUSH puts in a queue, from a descriptor of n bytes at a (R233). -/
def pushedOp (s : State) (th : Thr) (a n : Nat) : Op :=
  { id := s.nextOp, launch := some th.x.launch, cmd := none, fill := th.x.fill, step := th.step
    desc := s.srRead th.p ((s.thRegion th).1 + a) n, base := (s.thRegion th).1, size := (s.thRegion th).2
    flag := if th.w.testBit 6 then some (th.imm16 % 64) else none, started := false, issued := 0
    nissued := 0, xfers := [], landed := [], mark := none, cursor := 0, consumed := [], poison := none
    wait := .none, held := false, aux := [], buf := [], aligned := a % 32 = 0 }

/-- The state once an operation stands at the end of a queue. -/
def pushed (s : State) (q : Nat) (o : Op) : State := ({ s with nextOp := s.nextOp + 1 } : State).setQueue q (s.queue q ++ [o])

theorem pushed_ext (s : State) (q : Nat) (o : Op) : Ext [.queues, .nextOp] s (pushed s q o) :=
  .step (State.setQueue_ext ..) rfl (.step (Ext.set_nextOp s _) rfl (Ext.refl _ s))

section

variable {s : State} {p t l : Nat} {ls : List Nat} {th : Thr}

theorem mmaRun_free (hcore : th.onCore = true) (hfree : (s.core th.p).mxWait = none) :
    s.mmaRun th l = some ((s.setCore th.p { s.core th.p with mxWait := some (mmaTile s th l) }).nextPc th) :=
  if_neg (by simp [hcore, hfree])

theorem exec_mma (h : Issues s p t 9 0 th) (hp : p < 2304) (hlanes : s.lanes th = l :: ls) (hfree : (s.core p).mxWait = none) :
    exec (.mma p t .ok) s = .next
      (((s.countIssue th).setCore p { (s.countIssue th).core p with mxWait := some (mmaTile s th l) }).nextPc th) := by
  obtain ⟨hthp, -, -⟩ := h.place
  have hwait : ((s.countIssue th).core th.p).mxWait = none := by
    rw [s.countIssue_core, hthp]
    split <;> exact hfree
  have htile : mmaTile (s.countIssue th) th l = mmaTile s th l := by
    have hreg (r : Nat) : (s.countIssue th).reg th.p th.t l r = s.reg th.p th.t l r := s.countIssue_thReg th l r
    simp only [mmaTile, opA, opB, hreg]
  refine congrArg Host.Outcome.next (h.shoalOp hlanes ?_ ?_)
  · rw [mmaRun_free (h.onCore hp) (by rw [hthp]; exact hfree)]
    rfl
  · rw [mmaRun_free (h.onCore hp) hwait, hthp, htile]

theorem mma_spec (h : Issues s p t 9 0 th) (hp : p < 2304) (hlanes : s.lanes th = l :: ls) (hfree : (s.core p).mxWait = none) :
    ∃ u, exec (.mma p t .ok) s = .next u ∧ (u.core p).mxWait = some (mmaTile s th l) ∧ (u.core p).mxRun = (s.core p).mxRun ∧
      u.shoal p t = some th.atNext ∧ Same [.cores, .shoals, .regs, .hlk] s u := by
  let x := { (s.countIssue th).core p with mxWait := some (mmaTile s th l) }
  obtain ⟨hnext, hsame⟩ := h.nextPc_after (State.setCore_ext (s.countIssue th) p x)
  have hcore : (((s.countIssue th).setCore p x).nextPc th).core p = x := by
    rw [hnext]
    exact (State.core_setCore ..).trans (if_pos rfl)
  refine ⟨_, exec_mma h hp hlanes hfree, ?_, ?_, ?_, hsame.mono (by decide)⟩
  · rw [hcore]
  · rw [hcore]
    change ((s.countIssue th).core p).mxRun = _
    rw [s.countIssue_core]
    split <;> rfl
  · rw [hnext, State.shoal_setShoal_same]

theorem sqpushRun_fits {a n : Nat} (hcore : th.onCore = true) (hroom : (s.queue (8 * th.p + nfld th.w 18 16)).length < 16)
    (ha : a = (s.thReg th l th.sa).toNat) (hn : n = Op.descLen (bat (s.srRead th.p ((s.thRegion th).1 + a) 128) 45 1))
    (h128 : a + 128 ≤ (s.thRegion th).2) (hlen : a + n ≤ (s.thRegion th).2) :
    s.sqpushRun th l = some ((pushed s (8 * th.p + nfld th.w 18 16) (pushedOp s th a n)).nextPc th) := by
  subst ha hn
  unfold State.sqpushRun
  dsimp only
  rw [if_neg (by simp [hcore, hroom]), if_neg (Nat.not_lt.2 h128), if_neg (Nat.not_lt.2 hlen)]
  rfl

theorem pushedOp_countIssue (a n : Nat) : pushedOp (s.countIssue th) th a n = pushedOp s th a n := by
  have hnext : (s.countIssue th).nextOp = s.nextOp := (s.countIssue_ext th).1 .nextOp (by decide)
  simp only [pushedOp, hnext, s.countIssue_srRead, s.countIssue_thRegion]

theorem exec_sqpush {a n : Nat} (h : Issues s p t 0xA 0 th) (hp : p < 2304) (hlanes : s.lanes th = l :: ls)
    (hroom : (s.queue (8 * p + nfld th.w 18 16)).length < 16) (ha : a = (opA s th l).toNat)
    (hn : n = Op.descLen (bat (s.srRead p ((s.thRegion th).1 + a) 128) 45 1)) (h128 : a + 128 ≤ (s.thRegion th).2)
    (hlen : a + n ≤ (s.thRegion th).2) :
    exec (.sqpush p t .ok) s = .next ((pushed (s.countIssue th) (8 * p + nfld th.w 18 16) (pushedOp s th a n)).nextPc th) := by
  obtain ⟨rfl, -, -⟩ := h.place
  refine congrArg Host.Outcome.next (h.shoalOp hlanes ?_ ?_)
  · rw [sqpushRun_fits (h.onCore hp) hroom ha hn h128 hlen]
    rfl
  · rw [sqpushRun_fits (a := a) (n := n) (h.onCore hp) (by rw [s.countIssue_queue]; exact hroom)
      (by rw [s.countIssue_thReg]; exact ha) (by rw [s.countIssue_srRead, s.countIssue_thRegion]; exact hn)
      (by rw [s.countIssue_thRegion]; exact h128) (by rw [s.countIssue_thRegion]; exact hlen), pushedOp_countIssue]

theorem sqpush_spec {a n : Nat} (h : Issues s p t 0xA 0 th) (hp : p < 2304) (hlanes : s.lanes th = l :: ls)
    (hroom : (s.queue (8 * p + nfld th.w 18 16)).length < 16) (ha : a = (opA s th l).toNat)
    (hn : n = Op.descLen (bat (s.srRead p ((s.thRegion th).1 + a) 128) 45 1)) (h128 : a + 128 ≤ (s.thRegion th).2)
    (hlen : a + n ≤ (s.thRegion th).2) : ∃ u, exec (.sqpush p t .ok) s = .next u ∧
      (∀ q, u.queue q = if q = 8 * p + nfld th.w 18 16 then s.queue q ++ [pushedOp s th a n] else s.queue q) ∧
      u.shoal p t = some th.atNext ∧ Same [.queues, .nextOp, .shoals, .cores, .regs, .hlk] s u := by
  obtain ⟨hnext, hsame⟩ := h.nextPc_after (pushed_ext (s.countIssue th) (8 * p + nfld th.w 18 16) (pushedOp s th a n))
  refine ⟨_, exec_sqpush h hp hlanes hroom ha hn h128 hlen, fun q => ?_, ?_, hsame.mono (by decide)⟩
  · rw [hnext]
    refine (State.queue_setQueue ..).trans ?_
    split
    case isTrue hq => rw [hq, s.countIssue_queue]
    case isFalse => exact s.countIssue_queue th q
  · rw [hnext, State.shoal_setShoal_same]

theorem exec_sqsync (h : Issues s p t 0xA 1 th) (hp : p < 2304) (hlanes : s.lanes th = l :: ls)
    (hempty : s.queue (8 * p + nfld th.w 18 16) = []) : exec (.sqsync p t .ok) s = .next (issuedAs s th (some th.atNext)) := by
  have hq : th.onCore = true ∧ s.queue (8 * th.p + nfld th.w 18 16) = [] := ⟨h.onCore hp, h.place.1.symm ▸ hempty⟩
  refine congrArg Host.Outcome.next (h.shoalOp hlanes ?_ ?_)
  · rw [if_pos hq]
    rfl
  · rw [s.countIssue_queue, if_pos hq, h.nextPc]

/-- CHAIN with a descriptor that passes its checks makes its shoal wait (R192, R197). -/
theorem chainIssue_checked {a : Nat} {d : Bytes} (hcore : th.onCore = true) (ha : a = (s.thReg th l th.sa).toNat)
    (hd : d = s.srRead th.p ((s.thRegion th).1 + a) 160) (h32 : a % 32 = 0) (h160 : a + 160 ≤ (s.thRegion th).2)
    (hcheck : CDesc.check ⟨d⟩ th.old a = none) (hranges : ∀ x ∈ CDesc.ranges ⟨d⟩, x.1 + x.2 ≤ (s.thRegion th).2) :
    s.chainIssue th l = some (s.waitPc th (.chain d)) := by
  subst ha hd
  have hinside : (CDesc.ranges ⟨s.srRead th.p ((s.thRegion th).1 + (s.thReg th l th.sa).toNat) 160⟩).find?
      (fun x => decide ((s.thRegion th).2 < x.1 + x.2)) = none :=
    List.find?_eq_none.2 fun x hx => by simpa using hranges x hx
  unfold State.chainIssue
  simp only [hcore, h32, hcheck, hinside]
  rw [if_neg (by simp), if_neg (by simp), if_neg (Nat.not_lt.2 h160)]

theorem exec_chain {a : Nat} {d : Bytes} (h : Issues s p t 0xB 0 th) (hp : p < 2304) (hlanes : s.lanes th = l :: ls)
    (ha : a = (opA s th l).toNat) (hd : d = s.srRead p ((s.thRegion th).1 + a) 160) (h32 : a % 32 = 0)
    (h160 : a + 160 ≤ (s.thRegion th).2) (hcheck : CDesc.check ⟨d⟩ th.old a = none)
    (hranges : ∀ x ∈ CDesc.ranges ⟨d⟩, x.1 + x.2 ≤ (s.thRegion th).2) :
    exec (.chain p t .ok) s = .next (issuedAs s th (some { th.atNext with wait := .chain d })) := by
  rw [← h.place.1] at hd
  refine congrArg Host.Outcome.next (h.shoalOp hlanes ?_ ?_)
  · rw [chainIssue_checked (h.onCore hp) ha hd h32 h160 hcheck hranges]
    rfl
  · rw [chainIssue_checked (d := d) (h.onCore hp) (by rw [s.countIssue_thReg]; exact ha)
      (by rw [s.countIssue_srRead, s.countIssue_thRegion]; exact hd) h32 (by rw [s.countIssue_thRegion]; exact h160) hcheck
      (by rw [s.countIssue_thRegion]; exact hranges), h.waitPc]

end

/-! ### CVT and M40FMA (R186, R190) -/

theorem nfld_lt (w hi lo : Nat) : nfld w hi lo < 2 ^ (hi + 1 - lo) := Nat.mod_lt _ (Nat.two_pow_pos _)

theorem Num.scale2_zero (v : Num) : v.scale2 0 = v := by
  cases v with
  | fin z m e => rw [Num.scale2, Int.add_zero]
  | nan => rfl
  | inf => rfl

/-- Without a slot a conversion takes no scale and changes nothing (R144). -/
theorem State.convSlot_noSlot (s : State) (sl c rm om : Nat) (rnd : Nat → Nat) (xs : List Num) :
    s.convSlot sl 0xFFFF c rm om rnd xs = some (xs.mapIdx fun k v => convert c rm om (rnd k) v, s) := by
  have hone : State.scaleLg (.fin false 1 0) = 0 := by decide
  simp only [State.convSlot, State.slotUse, if_true, Option.map_some, hone, Num.scale2_zero]

/-- Registers that an even DST and its partner name, or one DST, are registers (R178). -/
theorem cvtOut_lt {th : Thr} {c v : Nat} (h : c = 0x18 → th.dst % 2 = 0) : ∀ e ∈ State.cvtOut th c v, e.1 < 64 := by
  have hdst : th.dst < 64 := nfld_lt th.w 47 42
  intro e he
  rw [State.cvtOut] at he
  split at he
  case isTrue hc =>
    have heven := h hc
    rcases List.mem_pair.1 he with rfl | rfl
    · exact hdst
    · show th.dst + 1 < 64
      omega
  case isFalse =>
    rw [List.mem_singleton.1 he]
    exact hdst

section

variable {s : State} {p t : Nat} {th : Thr}

/-- Conversions listed by the places of their lanes are conversions lane by lane. -/
theorem cvtLanes_eq {ls : List Nat} {rs : List FRes} (hrs : rs = (ls.map fun l => s.cvtIn th l (nfld th.w 15 8) th.sa).mapIdx fun k v =>
      convert (nfld th.w 7 0) (nfld th.w 17 16) (nfld th.w 19 18)
        (s.thRand th (nfld th.w 17 16) (nfld th.w 23 20) (s.thReg th (ls.getD k 0) th.sb).toNat) v) :
    ls.mapIdx (fun k l => (l, LaneW.mk (State.cvtOut th (nfld th.w 7 0) (rs.getD k ⟨0, 0⟩).bits) none (rs.getD k ⟨0, 0⟩).fl)) =
      ls.map fun l => (l, cvtLane s th l) := by
  refine List.ext_getElem (by simp) fun k hk _ => ?_
  have hlt : k < ls.length := by simpa using hk
  have hr : rs.getD k ⟨0, 0⟩ = convert (nfld th.w 7 0) (nfld th.w 17 16) (nfld th.w 19 18)
      (s.thRand th (nfld th.w 17 16) (nfld th.w 23 20) (s.thReg th ls[k] th.sb).toNat) (s.cvtIn th ls[k] (nfld th.w 15 8) th.sa) := by
    rw [List.getD_eq_getElem rs _ (by simpa [hrs] using hlt)]
    simp only [hrs, List.getElem_mapIdx, List.getElem_map, List.getD_eq_getElem _ _ hlt]
  simp only [List.getElem_mapIdx, List.getElem_map, hr]
  rfl

/-- CVT converts lane by lane where its destination takes no slot (R186). -/
theorem cvtRun_noSlot (hslot : th.x.ctxSlot = none ∨ fmtSlot (nfld th.w 7 0) = false) :
    s.cvtRun th = some ((s.applyLanes th ((s.lanes th).map fun l => (l, cvtLane s th l))).nextPc th) := by
  cases hctx : th.x.ctxSlot with
  | none =>
    simp only [State.cvtRun, hctx, State.convSlot_noSlot, Option.map_some]
    rw [cvtLanes_eq rfl]
  | some n =>
    have hfmt : ¬fmtSlot (nfld th.w 7 0) = true := by simpa [hctx] using hslot
    simp only [State.cvtRun, hctx, if_neg hfmt, State.convSlot_noSlot, Option.map_some]
    rw [cvtLanes_eq rfl]

theorem cvtLane_countIssue (l : Nat) : cvtLane (s.countIssue th) th l = cvtLane s th l := by
  have hreg (r : Nat) : (s.countIssue th).reg th.p th.t l r = s.reg th.p th.t l r := s.countIssue_thReg th l r
  simp only [cvtLane, opB, s.countIssue_cvtIn, s.countIssue_thRand, hreg]

theorem cvt_effect (h : Issues s p t 6 0 th) (hslot : th.x.ctxSlot = none ∨ fmtSlot (nfld th.w 7 0) = false)
    (hpair : nfld th.w 7 0 = 0x18 → th.dst % 2 = 0) : ∃ u, exec (.cvt p t .ok) s = .next u ∧ LaneEffect s u p t th (cvtLane s th) := by
  refine ⟨_, congrArg Host.Outcome.next (State.issueWord_ok h ?_ ?_),
    State.applyLanes_effect h (cvtLane s th) (fun l => cvtOut_lt hpair) fun l m v hpred => nomatch hpred⟩
  · rw [cvtRun_noSlot hslot]
    rfl
  · rw [cvtRun_noSlot hslot, s.countIssue_lanes, funext fun l => congrArg (Prod.mk l) (cvtLane_countIssue l)]

theorem m40fma_effect (h : Issues s p t 0xC 2 th) (heven : th.dst % 2 = 0) :
    ∃ u, exec (.m40fma p t .ok) s = .next u ∧ LaneEffect s u p t th (State.m40fmaLane s th) := by
  refine ⟨_, rfl, State.laneOp_effect h State.m40fmaLane (s.countIssue_m40fmaLane th) (fun l e he => ?_) fun l m v hpred => ?_⟩
  · simp only [State.m40fmaLane] at he
    exact cvtOut_lt (fun _ => heven) e he
  have hm : m = th.imm16 % 8 := by
    simp only [State.m40fmaLane] at hpred
    split at hpred
    · exact (Prod.mk.inj (Option.some.inj hpred)).1.symm
    · cases hpred
  omega

end

/-! ### SFCLR and CVTCTX (R186, R193) -/

section

variable {s : State} {p t : Nat} {th : Thr}

/-- Clearing sticky flags in a list of lanes of a shoal. -/
theorem laneFlags_foldl_clear (m : BitVec 4) {ls : List Nat} (hlt : ∀ l ∈ ls, l < 32) (hnodup : ls.Nodup) (q v k : Nat) (hk : k < 32) :
    (ls.foldl (fun s l => s.setLaneFlags p t l (s.laneFlags p t l &&& m)) s).laneFlags q v k =
      if q * 32 + v = p * 32 + t ∧ k ∈ ls then s.laneFlags q v k &&& m else s.laneFlags q v k := by
  induction ls generalizing s with
  | nil => simp
  | cons l ls ih =>
    obtain ⟨hnot, hrest⟩ := List.nodup_cons.1 hnodup
    have hl := hlt l (by simp)
    rw [List.foldl_cons, ih (fun x hx => hlt x (by simp [hx])) hrest, State.laneFlags_setLaneFlags _ _ _ _ _ _ _ _ hl hk]
    by_cases hplace : q * 32 + v = p * 32 + t
    · by_cases hkl : k = l
      · have hsame : s.laneFlags q v l = s.laneFlags p t l := by
          rw [State.laneFlags, (lkey_eq hl hl).2 ⟨hplace, rfl⟩, State.laneFlags]
        simp [hplace, hkl, hnot, hsame]
      · simp [hplace, hkl]
    · simp [hplace]

theorem sfclr_spec (h : Issues s p t 0xD 2 th) : ∃ u, exec (.sfclr p t .ok) s = .next u ∧
    (∀ l, l < 32 → u.laneFlags p t l =
      if l ∈ s.lanes th then s.laneFlags p t l &&& ~~~(BitVec.ofNat 4 th.imm16) else s.laneFlags p t l) ∧
    (∀ q v l, q * 32 + v ≠ p * 32 + t → l < 32 → u.laneFlags q v l = s.laneFlags q v l) ∧
    u.shoal p t = some th.atNext ∧ Same [.lflags, .shoals, .cores, .regs, .hlk] s u := by
  obtain ⟨hthp, htht, -⟩ := h.place
  let m := ~~~(BitVec.ofNat 4 th.imm16)
  let w := (s.lanes th).foldl (fun s l => s.setLaneFlags p t l (s.laneFlags p t l &&& m)) (s.countIssue th)
  have hclear : Ext [.lflags] (s.countIssue th) w :=
    foldl_all (P := fun x => Ext _ _ x) (Ext.refl _ _) fun v l hv => .step (State.setLaneFlags_ext ..) rfl hv
  obtain ⟨hnext, hsame⟩ := h.nextPc_after hclear
  have hnodup : (s.lanes th).Nodup := (List.nodup_range.filter _).filter _
  have hflags (q v l : Nat) (hl : l < 32) : (w.nextPc th).laneFlags q v l =
      if q * 32 + v = p * 32 + t ∧ l ∈ s.lanes th then s.laneFlags q v l &&& m else s.laneFlags q v l := by
    rw [hnext]
    refine (laneFlags_foldl_clear m (fun _ => State.lanes_lt) hnodup q v l hl).trans ?_
    rw [s.countIssue_laneFlags]
  refine ⟨w.nextPc th, congrArg Host.Outcome.next (State.issueWord_ok h rfl ?_), fun l hl => ?_, fun q v l hq hl => ?_, ?_,
    hsame.mono (by decide)⟩
  · simp only [State.sfclrRun, s.countIssue_lanes, hthp, htht]
    rfl
  · rw [hflags p t l hl]
    simp only [true_and]
    rfl
  · rw [hflags q v l hl, if_neg fun hand => hq hand.1]
  · rw [hnext, State.shoal_setShoal_same]

theorem exec_cvtctx {l : Nat} {ls : List Nat} (h : Issues s p t 0xD 4 th) (hlanes : s.lanes th = l :: ls) :
    exec (.cvtctx p t .ok) s = .next (issuedAs s th (some { th.atNext with
      ctxTensor := opA s th l, ctxSlot := if th.w.testBit 16 then some (th.imm16 % 2 ^ 13) else none })) := by
  refine congrArg Host.Outcome.next (h.shoalOp hlanes rfl (congrArg some ?_))
  rw [s.countIssue_thReg, State.nextPc_spec _ th _ (State.shoal_setShoal_same ..) h.next, State.setShoal_setShoal]
  rfl

end

/-- Settles O36: each word acts once in its lowest executing lane or in every lane, and counting the issue changes nothing that it reads. -/
theorem engineInstructions : Obligations.EngineInstructions := by
  refine ⟨fun s p t th l ls hp hlanes => ⟨fun h hfree => ?mma, fun h hroom a n ha hn h128 hlen => ?sqpush,
      fun h hempty => exec_sqsync h hp hlanes hempty,
      fun h a d ha hd h32 h160 hcheck hranges => exec_chain h hp hlanes ha hd h32 h160 hcheck hranges⟩,
    fun s p t th => ⟨cvt_effect, m40fma_effect, sfclr_spec, fun h l ls hlanes => exec_cvtctx h hlanes⟩⟩
  case mma =>
    obtain ⟨u, hexec, hwait, hrun, hshoal, hsame⟩ := mma_spec h hp hlanes hfree
    exact ⟨u, mmaTile s th l, hexec, hwait, hrun, rfl, rfl, h.place.2.1, rfl, rfl, rfl, rfl, hshoal, hsame⟩
  case sqpush =>
    obtain ⟨u, hexec, hqueue, hshoal, hsame⟩ := sqpush_spec h hp hlanes hroom ha hn h128 hlen
    refine ⟨u, pushedOp s th a n, hexec, hqueue, rfl, ?_, rfl, rfl, rfl, rfl, rfl, hshoal, hsame⟩
    rw [← h.place.1]
    rfl

end Sys2Proof.Machine
end

section
/-! SUPPORT. What works beside the cores: the relation OffCores of operations that count, report and write memory, and leave every core
and every register of the COR pages alone (R53, R145, R211, R217, R387 to R391, R405). -/

namespace Sys2Proof.Machine

/-- From s to u no core, launch, queue or SRAM byte changes, no ring of the host link, and no register of the COR pages, which stand above
every other block's (R53). -/
structure OffCores (s u : State) : Prop where
  same : Same [.regs, .hlk, .mem, .scale, .ras, .free] s u
  rings : u.hlk.rings = s.hlk.rings
  rd : ∀ a, 0x1000000 ≤ a → u.rd a = s.rd a

theorem State.region_stacked_lt {s : State} {a b : Nat} (h : s.region a = .stacked b) : b < 4 := by
  unfold State.region at h
  split at h
  · cases h
    omega
  · split at h
    · cases h
    · split at h <;> cases h

namespace OffCores

variable {s t u : State}

theorem refl (s : State) : OffCores s s := ⟨(Ext.refl _ s).1, rfl, fun _ _ => rfl⟩

theorem trans (h : OffCores s t) (k : OffCores t u) : OffCores s u :=
  ⟨h.same.trans k.same, k.rings.trans h.rings, fun a ha => (k.rd a ha).trans (h.rd a ha)⟩

/-- An operation on memory, scaling, RAS or free values alone. -/
theorem frame {ps : List Part} (h : OffCores s t) (e : Ext ps t u)
    (hps : ps.all ([Part.mem, .scale, .ras, .free].contains ·) = true := by rfl) : OffCores s u := by
  have hsame : Same [.mem, .scale, .ras, .free] t u := e.1.mono hps
  have hhlk : u.hlk = t.hlk := hsame .hlk (by decide)
  exact h.trans ⟨hsame.mono rfl, by rw [hhlk], fun a _ => hsame.rd a⟩

theorem ite {c : Prop} [Decidable c] (h : OffCores s t) (k : OffCores s u) : OffCores s (if c then t else u) := by
  split <;> assumption

/-! ### Registers, events, counters -/

theorem wr (h : OffCores s t) {a : Nat} (w : Word) (ha : a < 0x1000000) : OffCores s (t.wr a w) :=
  h.trans ⟨(State.wr_ext ..).1.mono rfl, rfl, fun _ hx => State.rd_wr_other _ _ (by omega)⟩

theorem raise (h : OffCores s t) {b : Blk} {i n : Nat} (hb : pageBase b i < 0x2D0000 := by decide) : OffCores s (t.raise b i n) :=
  h.trans ⟨(State.raise_ext ..).1.mono rfl, (t.raise_rings_mbx b i n).1, fun a ha => t.rd_raise b i n a (by simp only [Off.event]; omega)⟩

theorem bump (h : OffCores s t) {b : Blk} {i off n : Nat} (hb : pageBase b i < 0x2D0000 := by decide) (ho : off < 0x1000 := by decide) :
    OffCores s (t.bump b i off n) := by
  have hitem := State.satItem_lt b off
  refine h.trans ⟨(State.bump_ext ..).1.mono rfl, (t.bump_rings_mbx b i off n).1, fun a ha => t.rd_bump b i off n a ?_ ?_ ?_⟩
  · omega
  · simp only [Off.event]
    omega
  · simp only [Off.cntSat]
    omega

/-! ### Failure records and detections -/

theorem putRecord (h : OffCores s t) {r : FRec} : OffCores s (t.putRecord r) := by
  have hnum (l : List FRec) : OffCores s (t.numbered l) := (h.frame (Ext.set_ras_free ..)).bump
  rcases t.putRecord_cases r with ⟨-, l, e⟩ | ⟨n, ⟨l, e⟩ | e⟩
  · rw [e]
    exact h.frame (Ext.set_ras ..)
  · rw [e]
    exact (hnum n).frame (Ext.set_ras ..)
  · rw [e]
    exact (hnum n).bump.raise

theorem record (h : OffCores s t) {b : Blk} {i kind outcome sev phys attempt detail addr : Nat} {step : Word} :
    OffCores s (t.record b i kind outcome sev phys step attempt detail addr) := h.putRecord

theorem requestReplay (h : OffCores s t) {step : Word} {n : Nat} : OffCores s (t.requestReplay step n) :=
  ite h (h.wr _ (by decide)).bump.bump.raise

/-- The first error of a core makes it suspect, and no more (R397). -/
theorem coreError (h : OffCores s t) {q : Nat} (hq : (t.pcore q).suspect = false) : OffCores s (t.coreError q) := by
  unfold State.coreError
  dsimp only
  rw [hq, if_neg Bool.false_ne_true]
  exact (h.bump.frame (State.setPcore_ext ..)).raise

/-- A detection on a core that is not suspect retires nothing. -/
theorem detected (h : OffCores s t) {b : Blk} {i kind detail addr q : Nat} {step : Word} (hq : (t.pcore q).suspect = false) :
    OffCores s (t.detected b i kind step (some q) detail addr) := by
  unfold State.detected
  refine ite (h.bump.frame (State.freeByte_ext ..)).record ?_
  refine coreError h.bump.requestReplay.record ?_
  rw [((Reported.refl _).record).pcores, (State.requestReplay_ext ..).1.pcore, (State.bump_ext ..).1.pcore]
  exact hq

/-- A detection outside a step that names no core. -/
theorem detected_unstepped (h : OffCores s t) {b : Blk} {i kind detail addr : Nat} :
    OffCores s (t.detected b i kind 0 none detail addr) := (h.bump.frame (State.freeByte_ext ..)).record

/-! ### Memory (R211, R213, R217, R220) -/

theorem countBytes (h : OffCores s t) {x n : Nat} {write : Bool} : OffCores s (t.countBytes x n write) :=
  foldl_all h fun v y hv => by
    have ho : 0x200 + (if write then 40 else 32) < 0x1000 := by cases write <;> decide
    split
    next b hb =>
      have hbasin := State.region_stacked_lt hb
      exact hv.bump (by simp only [pageBase]; omega) ho
    next d _ =>
      have hchan := v.chanOf_lt d
      exact hv.bump (by simp only [pageBase]; omega) ho
    next => exact hv

theorem countPartial (h : OffCores s t) {x n : Nat} : OffCores s (t.countPartial x n) :=
  foldl_all h fun v y hv => by
    dsimp only
    split
    next d _ =>
      have hchan := v.chanOf_lt d
      exact ite hv (hv.bump (by simp only [pageBase]; omega)).bump
    next => exact hv

theorem storePhys (h : OffCores s t) {x : Nat} {bs : Bytes} : OffCores s (t.storePhys x bs) := by
  rw [t.storePhys_units]
  refine foldl_all (h.countPartial.frame (State.clearPoison_ext ..)).countBytes fun v y hv => ite ?_ (hv.frame (State.putUnit_ext ..))
  have hchan := v.chanOf_lt (y.1 - 0x80000000000)
  exact (hv.bump (by simp only [pageBase]; omega)).bump.detected_unstepped

theorem vput (h : OffCores s t) {sl va : Nat} {bs : Bytes} : OffCores s (t.vput sl va bs) := by
  have hwrite : VAll (OffCores s) (t.vwrite sl va bs) := by
    unfold State.vwrite
    split
    · trivial
    · trivial
    · exact .ite trivial (.ite trivial (foldl_all h fun v x hv => (hv.frame (State.touch_ext ..)).storePhys))
  unfold State.vput
  split
  next heq => exact hwrite.of_ok heq
  next => exact h

/-! ### Scale slots (R144, R145) -/

theorem slotFold (h : OffCores s t) {sl n amax sat : Nat} : OffCores s (t.slotFold sl n amax sat) := by
  unfold State.slotFold
  split
  · exact ite (h.vput.frame (Ext.set_scale ..)) h
  · exact h

theorem convSlot (h : OffCores s t) {sl slot c rm om : Nat} {rnd : Nat → Nat} {xs : List Num} :
    OAll (fun r => OffCores s r.2) (t.convSlot sl slot c rm om rnd xs) := by
  refine (OAll.triv _).map fun u _ => ?_
  have hfold (amax sat : Nat) : OffCores s (if slot = 0xFFFF then t else t.slotFold sl (slot % 8192) amax sat) := ite h h.slotFold
  dsimp only
  split
  · exact hfold _ _
  · exact (hfold _ _).frame (State.freeBytes_ext ..)

theorem blockSlot (h : OffCores s t) {sl slot f : Nat} {vals : List Num} {out : List (Nat × List FRes)} :
    OAll (fun r => OffCores s r.1) (t.blockSlot sl slot f vals out) := by
  refine .ite (.some h) ((OAll.triv _).map fun u _ => ?_)
  dsimp only
  split
  · exact h.slotFold
  · exact h.slotFold.frame (State.freeBytes_ext ..)

/-- Converting a tile's results uses its scale slots and no core (R168, R176). -/
theorem tileConvert (h : OffCores s t) {c : Nat} {x : Tile} {es : List TileElem} :
    OAll (fun r => OffCores s r.1) (t.tileConvert c x es) := by
  refine (OAll.triv _).bind fun _ _ => (OAll.triv _).bind fun _ _ => ?_
  exact .ite (h.convSlot.map fun r hr => hr) h.blockSlot

end OffCores

end Sys2Proof.Machine
end

section
/-! SUPPORT. Statement O40: a launch that a fault ends on its cores (R124, R192), and the tiles that a fault ends (R160, R173). -/

namespace Sys2Proof.Machine

namespace State

variable {s : State}

/-! ### A launch ends with cause 1 or 7 (R124) -/

/-- RESULT of a launch that ended, as the model and the statements write it. -/
theorem result_word {cause c detail : Nat} (hcause : cause < 65536) (hc : c < 2304) (hd : detail < 2 ^ 32) :
    cause % 65536 * 2 ^ 48 + c % 65536 * 2 ^ 32 + detail % 2 ^ 32 = cause * 2 ^ 48 + c * 2 ^ 32 + detail := by omega

/-- A launch that a region or thread fault ends, after work beside the cores: its command ends with status 5, LAUNCH_FAULT is raised, and of
the core's page only that and COR_VFLAGS may differ. -/
theorem launchEnd_faulted {v : State} {l c cause detail : Nat} {x : Launch} (h : EndsCleanly s l x) (hv : OffCores s v)
    (hcause : cause = 1 ∨ cause = 7) (hc : c < 2304) (hd : detail < 2 ^ 32) :
    EndedAs s (v.launchEnd l cause c detail) l x 5 cause c detail ∧ Event (v.launchEnd l cause c detail) .cor c Ev.corLaunchFault ∧
      ∀ a, 0x200 ≤ a % 0x1000 → (v.launchEnd l cause c detail).rd a = v.rd a := by
  obtain ⟨hx, hcores, hcmd⟩ := h
  have hxv : v.launch? l = some x := (hv.same.launch l).trans hx
  let t := x.targets.foldl (fun s d => s.clearLaunchOn l d x.fill x.step true) v
  have hclear : Cleared l x.targets v t := clearLaunch_cleared fun d hd k hk => (hv.same.queue _).trans ((hcores d hd).2 k hk)
  let result := BitVec.ofNat 64 (cause * 2 ^ 48 + c * 2 ^ 32 + detail)
  let w := (t.finishCmd x.ring x.uid 5 result).raise .cor c Ev.corLaunchFault
  have hend : v.launchEnd l cause c detail = w.setLaunch l none := by
    rw [launchEnd, hxv]
    simp only [result_word (show cause < 65536 by omega) hc hd]
    rcases hcause with rfl | rfl <;> rfl
  have hw : Same [.regs, .hlk] t w := ((finishCmd_ext ..).1.mono rfl).trans (raise_ext ..).1
  have hring (q : Nat) : t.ring q = s.ring q := (hclear.same.ring q).trans (ring_of_rings hv.rings q)
  have hcmdw : CmdEnds s w x.ring x.uid 5 result := fun q => by
    have hopen : Unended t x.ring x.uid := fun e he => hcmd e (hring x.ring ▸ he)
    rw [ring_raise, finishCmd_ends hopen 5 result q, hring, hring]
  rw [hend]
  refine ⟨⟨(w.launch_setLaunch ..).trans (if_pos rfl), hcmdw, fun d hd => ⟨fun n y hn hy => ?_, fun hrun => ?_⟩, fun k hk => ?_⟩,
    fld_event_raise_same _ (by decide), fun a ha => ?_⟩
  · exact hclear.shoalGone d hd n y hn ((hw.shoal d n).symm.trans hy)
  · exact hclear.runGone d hd x.fill ((hw.running d x.fill).symm.trans hrun)
  · rw [launch_setLaunch, if_neg hk, hw.launch, hclear.same.launch, hv.same.launch]
  · have hfinish : (t.finishCmd x.ring x.uid 5 result).rd a = t.rd a := (finishCmd_ext ..).1.rd a
    refine ((rd_raise_counter ha).trans hfinish).trans (hclear.regs a fun e => ?_)
    rw [e] at ha
    exact absurd ha (by decide)

/-! ### Tiles that end their launch (R160, R173) -/

theorem tileFault_ended {v : State} {c code : Nat} {t : Tile} {x : Launch} (h : EndsCleanly s t.launch x) (hv : OffCores s v)
    (hword : t.word < 2 ^ 24) (hcode : code < 256) (hc : c < 2304) :
    EndedAs s (v.tileFault c t code) t.launch x 5 7 c (t.word * 256 + code) ∧ Event (v.tileFault c t code) .cor c Ev.corLaunchFault ∧
      ∀ a, 0x200 ≤ a % 0x1000 → (v.tileFault c t code).rd a = v.rd a := by
  have hfault : v.tileFault c t code = v.launchEnd t.launch 7 c (t.word * 256 + code) := by
    rw [tileFault, threadFault, Nat.mod_eq_of_lt hword]
  rw [hfault]
  exact launchEnd_faulted h hv (.inr rfl) hc (by omega)

/-- A residue or parity error in a tile of a core that is not suspect ends the tile's launch and is counted (R173). -/
theorem tileCheck_ended {c : Nat} {t : Tile} {x : Launch} (h : EndsCleanly s t.launch x) (hword : t.word < 2 ^ 24) (hc : c < 2304)
    (hred : (Mtd.mk t.mtd).dRed = false) (hsuspect : (s.pcore (s.physOf c)).suspect = false) (residue : Bool) :
    EndedAs s (s.tileCheck c t residue) t.launch x 5 7 c (t.word * 256 + if residue then 0x10 else 0x11) ∧
      Counted s (s.tileCheck c t residue) .cor c (0x300 + 40) 1 := by
  let b := s.bump .cor c (0x300 + 40) 1
  have hb : Same [.regs, .hlk] s b := (bump_ext ..).1
  let v := b.detected .cor c (if residue then 1 else 2) (b.tileStep t) (some (b.physOf c))
    (t.word % 2 ^ 24 * 256 + if residue then 0x10 else 0x11)
  have hphys : b.physOf c = s.physOf c := by
    have hras : b.ras = s.ras := hb .ras (by decide)
    rw [physOf, hras, physOf]
  have hv : OffCores b v := (OffCores.refl b).detected (by rw [hb.pcore, hphys]; exact hsuspect)
  have hclean : EndsCleanly b t.launch x := by
    obtain ⟨hx, hcores, hcmd⟩ := h
    refine ⟨(hb.launch _).trans hx, fun d hd => ⟨(hcores d hd).1, fun k hk => (hb.queue _).trans ((hcores d hd).2 k hk)⟩, fun e he => ?_⟩
    rw [ring_of_rings (s.bump_rings_mbx ..).1] at he
    exact hcmd e he
  have hform : s.tileCheck c t residue = v.tileFault c t (if residue then 0x10 else 0x11) := by
    rw [tileCheck, hred]
    rfl
  obtain ⟨⟨hgone, hends, hcleared, hothers⟩, -, hrd⟩ :=
    tileFault_ended hclean hv hword (code := if residue then 0x10 else 0x11) (by split <;> decide) hc
  rw [hform]
  refine ⟨⟨hgone, fun q => ?_, hcleared, fun k hk => (hothers k hk).trans (hb.launch k)⟩, ?_⟩
  · rw [hends q, ring_of_rings (s.bump_rings_mbx ..).1, ring_of_rings (s.bump_rings_mbx ..).1]
  · refine (bump_counted s Nat.one_ne_zero).between rfl ?_
    rw [hrd _ (by rw [regAt_mod (by decide)]; decide), hv.rd _ (by simp only [regAt, pageBase]; omega)]

end State

end Sys2Proof.Machine
end

section
/-! SUPPORT. Statement O40, the results of a tile: 64 of them for each computed row, converted row by row and stored in SRAM (R137, R164 to
R168, R176). -/

namespace Sys2Proof.Machine

/-! ### Computed elements (R161, R164 to R166) -/

theorem length_foldr_bind {α β : Type} {f : α → List β → Option (List β)} (hf : ∀ a r out, f a r = some out → out.length = r.length + 1)
    {l : List α} {out : List β} (h : l.foldr (fun a acc => acc.bind (f a)) (some []) = some out) : out.length = l.length := by
  induction l generalizing out with
  | nil =>
    cases h
    rfl
  | cons a l ih =>
    obtain ⟨r, hr, hout⟩ := Option.bind_eq_some_iff.1 h
    rw [hf a r out hout, ih hr, List.length_cons]

theorem length_tileElems (rows : List Nat) :
    ((rows.map fun i => (List.range 64).map fun j => (i, j)).flatten).length = 64 * rows.length := by
  simp [List.length_flatten, Function.comp_def, Nat.mul_comm]

theorem TileIn.attempt_length {x : TileIn} {h : Nat} {es : List TileElem} (hes : x.attempt h = some es) :
    es.length = 64 * x.rows.length := by
  refine (length_foldr_bind (fun e r out hout => ?_) hes).trans (length_tileElems x.rows)
  split at hout
  · cases hout
    rfl
  · dsimp only at hout
    split at hout
    · cases hout
    · cases hout
      rfl

theorem TileIn.fp32Path_length (x : TileIn) : x.fp32Path.1.length = 64 * x.rows.length := by
  rw [← length_tileElems, TileIn.fp32Path]
  dsimp only
  generalize (x.rows.map fun i => (List.range 64).map fun j => (i, j)).flatten = l
  induction l with
  | nil => rfl
  | cons e l ih =>
    rw [List.foldr_cons, List.length_cons, ← ih]
    split <;> rfl

theorem tileValues_length {x : TileIn} {t : Tile} {es : List TileElem} {fl : Nat} (h : State.tileValues x t = some (es, fl)) :
    es.length = 64 * x.rows.length := by
  unfold State.tileValues at h
  split at h
  · rw [← x.fp32Path_length, Option.some.inj h]
  · obtain ⟨r, hr, he⟩ := Option.map_eq_some_iff.1 h
    cases he
    exact TileIn.attempt_length hr

/-! ### Converted rows (R136, R168, R176) -/

/-- The rows that a tile's mask leaves (R170). -/
def unmasked (t : Tile) : List Nat := (List.range 64).filter fun i => !t.mask.toNat.testBit i

/-- Converted rows of a tile: the unmasked ones, once each, of 64 results. -/
def RowsOf (t : Tile) (rows : List (Nat × List FRes)) : Prop := rows.map Prod.fst = unmasked t ∧ ∀ r ∈ rows, r.2.length = 64

theorem rowsOf_mapIdx {t : Tile} {f : Nat → Nat → List FRes} (h : ∀ n i, n < (unmasked t).length → (f n i).length = 64) :
    RowsOf t ((unmasked t).mapIdx fun n i => (i, f n i)) := by
  refine ⟨List.ext_getElem (by simp) fun n _ _ => by simp, fun r hr => ?_⟩
  obtain ⟨n, hn, rfl⟩ := List.mem_mapIdx.1 hr
  exact h n _ hn

/-- Other results in the same places. -/
theorem RowsOf.mapIdx {t : Tile} {rows : List (Nat × List FRes)} (h : RowsOf t rows) (g : Nat → Nat → FRes → FRes) :
    RowsOf t (rows.mapIdx fun n r => (r.1, r.2.mapIdx (g n))) := by
  refine ⟨(List.ext_getElem (by simp) fun n _ _ => by simp).trans h.1, fun r hr => ?_⟩
  obtain ⟨n, hn, rfl⟩ := List.mem_mapIdx.1 hr
  simpa using h.2 _ (List.getElem_mem hn)

theorem encBlock_length (c rm : Nat) (rnd : Nat → Nat) (xs : List Num) : (encBlock c rm rnd xs).2.length = xs.length := by
  unfold encBlock
  split
  · simp
  · split
    · simp
    · dsimp only
      split <;> simp

theorem fmtBlock_cases (c : Nat) : fmtBlock c = 0 ∨ fmtBlock c = 32 ∨ fmtBlock c = 64 := by
  unfold fmtBlock
  split <;> simp

/-- The blocks of a row hold its 64 results. -/
theorem length_blocks {b n R : Nat} (hb : b = 32 ∨ b = 64) (hn : n < R) {vals : List Num} (hv : vals.length = 64 * R)
    (c rm : Nat) (rnd : Nat → Nat → Nat) :
    (((List.range (64 / b)).map fun h => (encBlock c rm (rnd h) ((vals.drop (64 * n + h * b)).take b)).2).flatten).length = 64 := by
  have hblock : ∀ h ∈ List.range (64 / b), (encBlock c rm (rnd h) ((vals.drop (64 * n + h * b)).take b)).2.length = b := fun h hh => by
    have hlt := List.mem_range.1 hh
    rw [encBlock_length, List.length_take, List.length_drop, hv]
    rcases hb with rfl | rfl <;> omega
  rw [List.length_flatten, List.map_map]
  refine (congrArg List.sum (List.map_congr_left (g := fun _ => b) hblock)).trans ?_
  rcases hb with rfl | rfl <;> rfl

namespace State

variable {s : State}

theorem convSlot_length {sl slot c rm om : Nat} {rnd : Nat → Nat} {xs : List Num} :
    OAll (fun r => r.1.length = xs.length) (s.convSlot sl slot c rm om rnd xs) := by
  refine (OAll.triv _).map fun u _ => ?_
  dsimp only
  split <;> simp

theorem blockSlot_rows {sl slot f : Nat} {vals : List Num} {t : Tile} {out : List (Nat × List FRes)} (h : RowsOf t out) :
    OAll (fun r => RowsOf t r.2) (s.blockSlot sl slot f vals out) := by
  refine .ite (.some h) ((OAll.triv _).map fun u _ => ?_)
  dsimp only
  split
  · exact h
  · exact h.mapIdx _

theorem tileConvert_rows {c : Nat} {t : Tile} {es : List TileElem} (hes : es.length = 64 * (unmasked t).length) :
    OAll (fun r => RowsOf t r.2) (s.tileConvert c t es) := by
  refine (OAll.triv _).bind fun sa _ => (OAll.triv _).bind fun sb _ => ?_
  dsimp only
  split
  · refine convSlot_length.map fun q hq => rowsOf_mapIdx fun n i hn => ?_
    rw [List.length_take, List.length_drop, hq, List.length_map, hes]
    omega
  next hblock =>
    refine blockSlot_rows (rowsOf_mapIdx fun n i hn => ?_)
    exact length_blocks ((fmtBlock_cases _).resolve_left hblock) hn (by rw [List.length_map, hes]) ..

/-- What a tile that completes writes: its unmasked rows, of 64 results each. -/
theorem tile_rows {u : State} {c : Nat} {t : Tile} {es : List TileElem} {fl : Nat} {rows : List (Nat × List FRes)}
    (hvalues : tileValues (s.tileIn c t) t = some (es, fl)) (hconvert : s.tileConvert c t es = some (u, rows)) : RowsOf t rows :=
  (tileConvert_rows (tileValues_length hvalues)).of hconvert

/-! ### Rows in SRAM -/

theorem tget_foldl_tset {α : Type} [DecidableEq α] (T : Tab α) (d : α) (b n k : Nat) (f : Nat → α) :
    tget ((List.range n).foldl (fun t i => tset t d (b + i) (f i)) T) d k = if b ≤ k ∧ k < b + n then f (k - b) else tget T d k := by
  induction n with
  | zero => rw [if_neg (by omega), List.range_zero, List.foldl_nil]
  | succ n ih =>
    rw [List.range_succ, List.foldl_append, List.foldl_cons, List.foldl_nil, tget_tset, ih]
    by_cases hk : k = b + n
    · rw [if_pos hk, if_pos (by omega), hk, Nat.add_sub_cancel_left]
    · rw [if_neg hk]
      exact if_congr (by omega) rfl rfl

theorem sram_srWrite (c a : Nat) (bs : Bytes) (k : Nat) : tget (s.srWrite c a bs).sram 0 k =
    if srKey c a ≤ k ∧ k < srKey c a + bs.length then bs.getD (k - srKey c a) 0 else tget s.sram 0 k := by
  refine Eq.trans ?_ (tget_foldl_tset s.sram 0 (srKey c a) bs.length k fun i => bs.getD i 0)
  simp only [srWrite, srKey, Nat.add_assoc]

/-- Rows of bytes stored at a pitch (R168). -/
def putRows (s : State) (c base pitch : Nat) (rows : List (Nat × Bytes)) : State :=
  rows.foldl (fun s r => s.srWrite c (base + r.1 * pitch) r.2) s

theorem putRows_ext (c base pitch : Nat) (rows : List (Nat × Bytes)) : Ext [.sram, .sramUe] s (s.putRows c base pitch rows) :=
  foldl_all (P := fun x => Ext _ _ x) (Ext.refl _ _) fun _ _ hv => .step (srWrite_ext ..) rfl hv

variable {c base pitch n : Nat} {rows : List (Nat × Bytes)}

/-- Outside the rows SRAM keeps its bytes. -/
theorem putRows_other (hlen : ∀ r ∈ rows, r.2.length = n) {k : Nat}
    (hk : ∀ r ∈ rows, ¬(srKey c (base + r.1 * pitch) ≤ k ∧ k < srKey c (base + r.1 * pitch) + n)) :
    tget (s.putRows c base pitch rows).sram 0 k = tget s.sram 0 k := by
  induction rows generalizing s with
  | nil => rfl
  | cons r rows ih =>
    refine (ih (fun x hx => hlen x (by simp [hx])) fun x hx => hk x (by simp [hx])).trans ?_
    rw [sram_srWrite, hlen r (by simp), if_neg (hk r (by simp))]

/-- Rows no longer than the pitch do not reach into one another. -/
theorem rows_apart {i j : Nat} (hn : n ≤ pitch) (hij : i ≠ j) {k : Nat} (hk : k < n) :
    ¬(srKey c (base + j * pitch) ≤ srKey c (base + i * pitch) + k ∧ srKey c (base + i * pitch) + k < srKey c (base + j * pitch) + n) := by
  simp only [srKey]
  rcases Nat.lt_or_gt_of_ne hij with h | h
  · have := Nat.mul_le_mul_right pitch (Nat.succ_le_of_lt h)
    rw [Nat.succ_mul] at this
    omega
  · have := Nat.mul_le_mul_right pitch (Nat.succ_le_of_lt h)
    rw [Nat.succ_mul] at this
    omega

theorem putRows_read (hlen : ∀ r ∈ rows, r.2.length = n) (hn : n ≤ pitch) (hnodup : (rows.map Prod.fst).Nodup) :
    ∀ r ∈ rows, (s.putRows c base pitch rows).srRead c (base + r.1 * pitch) n = r.2 := by
  induction rows generalizing s with
  | nil => exact fun r hr => nomatch hr
  | cons r rows ih =>
    obtain ⟨hfresh, hrest⟩ := List.nodup_cons.1 hnodup
    have htail : ∀ x ∈ rows, x.2.length = n := fun x hx => hlen x (by simp [hx])
    intro x hx
    rcases List.mem_cons.1 hx with rfl | hx
    · refine List.ext_getElem (by simp [srRead, hlen x (by simp)]) fun k hk _ => ?_
      have hkn : k < n := by simpa [srRead] using hk
      have hbyte : tget ((s.srWrite c (base + x.1 * pitch) x.2).putRows c base pitch rows).sram 0 (srKey c (base + x.1 * pitch) + k) =
          x.2.getD k 0 := by
        rw [putRows_other htail fun y hy => rows_apart hn (fun e => hfresh (List.mem_map.2 ⟨y, hy, e.symm⟩)) hkn, sram_srWrite,
          hlen x (by simp), if_pos (by omega), Nat.add_sub_cancel_left]
      simp only [srRead, List.getElem_map, List.getElem_range]
      rw [show srKey c (base + x.1 * pitch + k) = srKey c (base + x.1 * pitch) + k by simp only [srKey]; omega]
      exact hbyte.trans (List.getD_eq_getElem ..)
    · exact ih htail hrest x hx

end State

end Sys2Proof.Machine
end

section
/-! SUPPORT. Statement O40: a tile's start, attempts, end and debug halt (R156 to R160, R164 to R168, R173 to R175). -/

namespace Sys2Proof.Machine

namespace EngineHolds

variable {s t u : State} {c : Nat} {run : Option Tile} {ps : List Part}

theorem after (hs : Same ps s t) (h : EngineHolds t u c run) (hp : ps.contains .cores = false := by rfl) : EngineHolds s u c run :=
  fun d => by
    rw [h d, hs.core d hp, hs.core c hp]

theorem before (h : EngineHolds s t c run) (hu : Same ps t u) (hp : ps.contains .cores = false := by rfl) : EngineHolds s u c run :=
  fun d => (hu.core d hp).trans (h d)

end EngineHolds

/-- The stored bytes of a row of results (R137). -/
def rowImage (m : Mtd) (r : List FRes) : Bytes := packBits (fmtBits (m.fmt 2)) (r.map (·.bits))

theorem rowImage_length {m : Mtd} {r : List FRes} (h : r.length = 64) : (rowImage m r).length = rowBytes (m.fmt 2) 64 := by
  rw [rowImage, packBits, natBytes_length, List.length_map, h, rowBytes]

/-- The state that a completed tile leaves, from `v`, the state after its conversion. -/
def tileStored (v : State) (c : Nat) (t : Tile) (base fl : Nat) (rows : List (Nat × List FRes)) : State :=
  ((v.tileFlags c t fl).putRows c base ((Mtd.mk t.mtd).pitch 2)
    (rows.map fun r => (r.1, rowImage (Mtd.mk t.mtd) r.2))).tileLeave c t []

/-- A code of R160 is one byte. -/
theorem Mtd.check_lt {m : Mtd} {a code : Nat} (h : m.check a = some code) : code < 256 := by
  unfold Mtd.check at h
  dsimp only at h
  split_ifs at h <;> cases h <;> decide

namespace State

variable {s : State} {c : Nat} {t : Tile}

theorem setCore_holds (s : State) (c : Nat) (run : Option Tile) : EngineHolds s (s.setCore c { s.core c with mxRun := run }) c run :=
  fun d => s.core_setCore c d _

/-! ### The start (R156, R160, R170, R171) -/

theorem exec_matrixTileStart (hrun : (s.core c).mxRun = none) (hwait : (s.core c).mxWait = some t) :
    exec (.matrixTileStart c) s = .next (s.tileStart c t) := by
  change execMatrixTileStart c s = _
  rw [execMatrixTileStart, hrun, hwait]

theorem tileStart_misaligned (h32 : t.mtdAddr % 32 ≠ 0) : s.tileStart c t = s.tileFault c t 0x06 := if_pos h32

theorem tileStart_outside (h32 : t.mtdAddr % 32 = 0) (hout : (s.tileRegion c t).2 < t.mtdAddr + 64) :
    s.tileStart c t = s.launchEnd t.launch 1 c t.mtdAddr := (if_neg (not_not_intro h32)).trans (if_pos hout)

section

variable {m : Mtd} (h32 : t.mtdAddr % 32 = 0) (hin : t.mtdAddr + 64 ≤ (s.tileRegion c t).2)
  (hm : m = Mtd.mk (s.srRead c ((s.tileRegion c t).1 + t.mtdAddr) 64))

include h32 hin hm

theorem tileStart_refused {code : Nat} (hcheck : m.check t.mtdAddr = some code) : s.tileStart c t = s.tileFault c t code := by
  subst hm
  refine (if_neg (not_not_intro h32)).trans ((if_neg (Nat.not_lt.2 hin)).trans ?_)
  simp only [hcheck]

theorem tileStart_runs {mask : Word} (hcheck : m.check t.mtdAddr = none) (hinside : TileInside s c t m)
    (hmask : mask = (if m.maskEn then BitVec.ofNat 64 (leNat (s.srRead c ((s.tileRegion c t).1 + t.maskAddr) 8)) else 0)) :
    s.tileStart c t = s.setCore c { s.core c with mxRun := some (tileStarted s c t m.d mask), mxWait := none } := by
  have hword : mask = BitVec.ofNat 64 (if m.maskEn then leNat (s.srRead c ((s.tileRegion c t).1 + t.maskAddr) 8) else 0) := by
    rw [hmask]
    split <;> rfl
  have hnone : (m.inRanges ++ m.outRanges ++ (if m.maskEn then [(t.maskAddr, 8)] else [])).find?
      (fun x : Nat × Nat => decide ((s.tileRegion c t).2 < x.1 + x.2)) = none :=
    List.find?_eq_none.2 fun x hx => by simpa using hinside x hx
  subst hm
  refine (if_neg (not_not_intro h32)).trans ((if_neg (Nat.not_lt.2 hin)).trans ?_)
  simp only [hcheck, hnone, hword]
  rfl

end

/-! ### Attempts (R165, R166) -/

theorem exec_tileOverflowReplay (hrun : (s.core c).mxRun = some t) (k : Check) :
    exec (.tileOverflowReplay c k) s = .next (s.tileReplay c t k) := by
  change execTileOverflowReplay c k s = _
  rw [execTileOverflowReplay, hrun]

/-- The tile after an attempt whose window overflowed: more headroom, or the FP32 path after the third replay. -/
def nextAttempt (t : Tile) : Tile :=
  if t.attempt < 3 then { t with attempt := t.attempt + 1, headroom := t.headroom + 8 } else { t with fp32 := true }

theorem tileReplay_overflow (hhalt : t.halted = false) (hskip : t.skip = false) (hfp : t.fp32 = false)
    (hover : (s.tileIn c t).attempt t.headroom = none) :
    s.tileReplay c t .ok = s.setCore c { s.core c with mxRun := some (nextAttempt t) } := by
  have hnone : (tileValues (s.tileIn c t) t).isSome = false := by simp [tileValues, hfp, hover]
  refine (if_neg (by simp [hhalt, hskip, hfp])).trans ((if_neg (by simp [hnone])).trans (if_neg (by simp)))

/-! ### Counters (R175) -/

theorem counted_bump (s : State) (b : Blk) (i off n : Nat) : Counted s (s.bump b i off n) b i off n := by
  by_cases hn : n = 0
  · have hsame : s.bump b i off n = s := if_pos hn
    rw [hsame, hn]
    exact fun _ => rfl
  · exact bump_counted s hn

/-- Counting leaves every other counter of its page alone. -/
theorem rd_bump_other {b : Blk} {i o off n : Nat} (hne : o ≠ off) (h200 : 0x200 ≤ o := by decide) (ho : o < 0x1000 := by decide) :
    (s.bump b i off n).rd (regAt b i o) = s.rd (regAt b i o) := rd_bump_counter (by rwa [regAt_mod ho]) (regAt_ne hne)

theorem tileCount_skipped (hskip : t.skip = true) : s.tileCount c t = s.bump .cor c (0x300 + 24) 1 := if_pos hskip

theorem tileCount_counted (hskip : t.skip = false) :
    Counted s (s.tileCount c t) .cor c 0x300 1 ∧ Counted s (s.tileCount c t) .cor c (0x300 + 8) t.attempt := by
  have hcount : s.tileCount c t =
      ((s.bump .cor c 0x300 1).bump .cor c (0x300 + 8) t.attempt).bump .cor c (0x300 + 16) (if t.fp32 then 1 else 0) :=
    if_neg (by simp [hskip])
  rw [hcount]
  constructor
  · refine (s.counted_bump .cor c 0x300 1).between rfl ?_
    rw [rd_bump_other (by decide), rd_bump_other (by decide)]
  · refine ((s.bump .cor c 0x300 1).counted_bump .cor c (0x300 + 8) t.attempt).between ?_ ?_
    · exact rd_bump_other (by decide)
    · exact rd_bump_other (by decide)

theorem rd_tileCount_calm {a : Nat} (ha : Calm a) : (s.tileCount c t).rd a = s.rd a := by
  have hkept : Kept a false s (s.tileCount c t) :=
    .ite ((Kept.refl ha s).bump rfl) ((((Kept.refl ha s).bump rfl).bump rfl).bump rfl)
  exact hkept.rd

/-! ### Leaving the engine (R157) -/

section

variable (hred : (Mtd.mk t.mtd).dRed = false) (data : List W32)

include hred

theorem tileLeave_eq : s.tileLeave c t data = (s.setCore c { s.core c with mxRun := none }).tileCount c t := by
  rw [tileLeave, hred]
  rfl

theorem tileLeave_holds : EngineHolds s (s.tileLeave c t data) c none := by
  rw [tileLeave_eq hred]
  exact (s.setCore_holds c none).before (tileCount_ext ..).1

end

/-! ### Flags of a tile (R167, R194) -/

theorem vflags_calm (c : Nat) : Calm (regAt .cor c Off.corVflags) := by
  rw [Calm, regAt_mod (by decide)]
  decide

theorem launchWord_of_rd {u : State} (h : u.rd (regAt .cor c Off.corVflags) = s.rd (regAt .cor c Off.corVflags)) (fill : Bool) :
    u.launchWord c fill = s.launchWord c fill := by
  rw [launchWord, g, h, launchWord, g]

theorem launchWord_lt (s : State) (c : Nat) (fill : Bool) : s.launchWord c fill < 16 := by
  have h := fld_lt (s.rd (regAt .cor c Off.corVflags)) (lwHi fill) (lwLo fill)
  cases fill <;> exact h

/-- Flags of a tile: with none nothing changes; else the issuing shoal may take them, the launch word does, and NF is counted. -/
theorem tileFlags_cases (s : State) (c : Nat) (t : Tile) (fl : Nat) : fl = 0 ∧ s.tileFlags c t fl = s ∨
    ∃ v, Same [.shoals, .lflags] s v ∧ s.tileFlags c t fl = (v.orLaunchWord c t.fill fl).bump .cor c (0x380 + 16) (fl % 2) := by
  by_cases hfl : fl = 0
  · exact .inl ⟨hfl, if_pos hfl⟩
  · refine .inr ?_
    unfold tileFlags
    rw [if_neg hfl]
    refine ⟨_, ?_, rfl⟩
    split
    · split
      · exact ((setShoal_ext ..).1.mono rfl).trans ((setLaneFlags_ext ..).1.mono rfl)
      · exact (Ext.refl _ s).1
    · exact (Ext.refl _ s).1

theorem tileFlags_word (s : State) (c : Nat) (t : Tile) (fl : Nat) :
    (s.tileFlags c t fl).launchWord c t.fill = (s.launchWord c t.fill ||| fl) % 16 := by
  rcases s.tileFlags_cases c t fl with ⟨rfl, e⟩ | ⟨v, hv, e⟩
  · rw [e, Nat.or_zero, Nat.mod_eq_of_lt (s.launchWord_lt c t.fill)]
  · have hbump := ((Kept.refl (r := false) (vflags_calm c) (v.orLaunchWord c t.fill fl)).bump (b := .cor) (i := c) (n := fl % 2)
      (show isCounter (0x380 + 16) = true from rfl)).rd
    rw [e, launchWord_of_rd hbump, launchWord_orLaunchWord, launchWord_of_rd (hv.rd _)]

theorem rd_tileFlags_counter {off fl : Nat} (h200 : 0x200 ≤ off) (ho : off < 0x1000) (hne : off ≠ 0x380 + 16) :
    (s.tileFlags c t fl).rd (regAt .cor c off) = s.rd (regAt .cor c off) := by
  rcases s.tileFlags_cases c t fl with ⟨-, e⟩ | ⟨v, hv, e⟩
  · rw [e]
  · have hword : off ≠ Off.corVflags := fun h => absurd (h ▸ h200) (by decide)
    rw [e, rd_bump_other hne h200 ho, orLaunchWord, rd_p, if_neg (regAt_ne hword), hv.rd]

/-! ### The end (R157, R168, R173) -/

theorem exec_matrixTileDone (hrun : (s.core c).mxRun = some t) (k : Check) : exec (.matrixTileDone c k) s = .next (s.tileDone c t k) := by
  change execMatrixTileDone c k s = _
  rw [execMatrixTileDone, hrun]

section

variable (hhalt : t.halted = false) (hred : (Mtd.mk t.mtd).dRed = false)

include hhalt hred

theorem tileDone_skipped (hskip : t.skip = true) : s.tileDone c t .ok = s.tileLeave c t [] :=
  (if_neg (by simp [hhalt, hred])).trans (if_pos hskip)

theorem tileDone_checked (hskip : t.skip = false) {k : Check} (hk : k ≠ .ok) : s.tileDone c t k = s.tileCheck c t (k = .residue) :=
  (if_neg (by simp [hhalt, hred])).trans ((if_neg (by simp [hskip])).trans (if_pos hk))

/-- A tile without D_RED that completes: its results are converted, then stored. -/
theorem tileDone_completes (hskip : t.skip = false) (hue : s.tileUe c t = false) {es : List TileElem} {fl : Nat} {v : State}
    {rows : List (Nat × List FRes)} (hvalues : tileValues (s.tileIn c t) t = some (es, fl))
    (hconvert : s.tileConvert c t es = some (v, rows)) :
    s.tileDone c t .ok = tileStored v c t ((v.tileRegion c t).1 + (Mtd.mk t.mtd).addr 20) (tileFlagUnion rows fl) rows := by
  have hbusy : ¬(t.halted ∨ ((Mtd.mk t.mtd).dRed ∧ (s.core c).redOut.isSome)) := by simp [hhalt, hred]
  refine (if_neg hbusy).trans ((if_neg (by simp [hskip])).trans ((if_neg (by simp)).trans ((if_neg (by simp [hue])).trans ?_)))
  simp only [hvalues, hconvert, hred, tileStored, putRows, List.foldl_map]
  rfl

end

/-! ### The debug halt (R174, R428) -/

theorem exec_mxDebugHalt (hrun : (s.core c).mxRun = some t) (hopen : s.g .sec 0 Off.secDebug 0 0 = 1)
    (harm : s.g .cor c Off.corMxdbgCtl 0 0 = 1) (hhalt : t.halted = false) (hskip : t.skip = false)
    (hchunk : s.g .cor c Off.corMxdbgCtl 43 32 < (Mtd.mk t.mtd).k16) : exec (.mxDebugHalt c) s =
      .next ((s.setCore c { s.core c with mxRun := some { t with halted := true } }).p .cor c Off.corMxdbgCtl 0 0 0) := by
  change execMxDebugHalt c s = _
  rw [execMxDebugHalt, hrun]
  exact congrArg Host.Outcome.next (if_pos ⟨decide_eq_true hopen, harm, by rw [hhalt]; rfl, by rw [hskip]; rfl, hchunk⟩)

section

variable (hc : c < 2304) (hready : s.ready .cor c = true)

include hc hready

theorem exec_mxDebugResume (hrun : (s.core c).mxRun = some t) (hopen : s.g .sec 0 Off.secDebug 0 0 = 1) :
    exec (.mxDebugResume c) s = .next (s.setCore c { s.core c with mxRun := some { t with halted := false } }) := by
  change execMxDebugResume c s = _
  rw [execMxDebugResume, if_neg (Nat.not_le.2 hc), hready, hrun]
  exact congrArg Host.Outcome.next (if_pos (decide_eq_true hopen))

theorem exec_mxDebugResume_locked (hlocked : s.g .sec 0 Off.secDebug 0 0 = 0) : exec (.mxDebugResume c) s = .next s := by
  have hdebug : s.debugOpen = false := by rw [debugOpen, hlocked]; rfl
  change execMxDebugResume c s = _
  rw [execMxDebugResume, if_neg (Nat.not_le.2 hc), hready, hdebug]
  cases hrun : (s.core c).mxRun with
  | none => simp
  | some t => simp

end

end State

end Sys2Proof.Machine
end

section
/-! SUPPORT. Statement O40: the results that a tile leaves in SRAM and in its core's registers, and the statement. -/

namespace Sys2Proof.Machine

namespace State

variable {s v : State} {c : Nat} {t : Tile}

theorem rd_cor_offCores (hv : OffCores s v) (c off : Nat) : v.rd (regAt .cor c off) = s.rd (regAt .cor c off) :=
  hv.rd _ (by simp only [regAt, pageBase]; omega)

theorem tileRegion_offCores (hv : OffCores s v) (c : Nat) (t : Tile) : v.tileRegion c t = s.tileRegion c t := by
  rw [tileRegion, classRegion, g, rd_cor_offCores hv, tileRegion, classRegion, g]

end State

/-! ### Its rows (R137, R168) -/

section

variable {s v : State} {c base fl : Nat} {t : Tile} {rows : List (Nat × List FRes)}

theorem tileStored_sram : (tileStored v c t base fl rows).sram = ((v.tileFlags c t fl).putRows c base ((Mtd.mk t.mtd).pitch 2)
    (rows.map fun r => (r.1, rowImage (Mtd.mk t.mtd) r.2))).sram := (State.tileLeave_ext ..).1 .sram (by decide)

variable (hrows : RowsOf t rows)

include hrows

theorem RowsOf.images : ∀ r ∈ rows.map (fun r => (r.1, rowImage (Mtd.mk t.mtd) r.2)),
    r.2.length = rowBytes ((Mtd.mk t.mtd).fmt 2) 64 := fun r hr => by
  obtain ⟨x, hx, rfl⟩ := List.mem_map.1 hr
  exact rowImage_length (hrows.2 x hx)

theorem RowsOf.row_lt {r : Nat × List FRes} (hr : r ∈ rows) : r.1 < 64 := by
  have hmem : r.1 ∈ unmasked t := hrows.1 ▸ List.mem_map_of_mem hr
  exact List.mem_range.1 (List.mem_filter.1 hmem).1

theorem tileStored_read (hpitch : rowBytes ((Mtd.mk t.mtd).fmt 2) 64 ≤ (Mtd.mk t.mtd).pitch 2) {r : Nat × List FRes} (hr : r ∈ rows) :
    (tileStored v c t base fl rows).srRead c (base + r.1 * (Mtd.mk t.mtd).pitch 2) (rowBytes ((Mtd.mk t.mtd).fmt 2) 64) =
      rowImage (Mtd.mk t.mtd) r.2 := by
  have hnodup : ((rows.map fun r => (r.1, rowImage (Mtd.mk t.mtd) r.2)).map Prod.fst).Nodup := by
    rw [List.map_map, show rows.map (Prod.fst ∘ fun r => (r.1, rowImage (Mtd.mk t.mtd) r.2)) = unmasked t from hrows.1]
    exact List.nodup_range.filter _
  rw [State.srRead, tileStored_sram]
  exact State.putRows_read hrows.images hpitch hnodup (r.1, rowImage (Mtd.mk t.mtd) r.2) (List.mem_map.2 ⟨r, hr, rfl⟩)

/-- A key that no row covers keeps its byte. -/
theorem tileStored_other (hv : OffCores s v) {k : Nat}
    (hk : ∀ r ∈ rows, ¬(State.srKey c (base + r.1 * (Mtd.mk t.mtd).pitch 2) ≤ k ∧
      k < State.srKey c (base + r.1 * (Mtd.mk t.mtd).pitch 2) + rowBytes ((Mtd.mk t.mtd).fmt 2) 64)) :
    tget (tileStored v c t base fl rows).sram 0 k = tget s.sram 0 k := by
  have hflags : (v.tileFlags c t fl).sram = s.sram :=
    ((State.tileFlags_ext ..).1 .sram (by decide)).trans (hv.same .sram (by decide))
  rw [tileStored_sram, State.putRows_other hrows.images, hflags]
  intro r hr
  obtain ⟨x, hx, rfl⟩ := List.mem_map.1 hr
  exact hk x hx

theorem tileStored_elsewhere (hv : OffCores s v) {a : Nat}
    (ha : ∀ r ∈ rows, ¬(base + r.1 * (Mtd.mk t.mtd).pitch 2 ≤ a ∧
      a < base + r.1 * (Mtd.mk t.mtd).pitch 2 + rowBytes ((Mtd.mk t.mtd).fmt 2) 64)) :
    tget (tileStored v c t base fl rows).sram 0 (State.srKey c a) = tget s.sram 0 (State.srKey c a) := by
  refine tileStored_other hrows hv fun r hr hin => ha r hr ?_
  simp only [State.srKey] at hin
  omega

theorem tileStored_otherCore (hv : OffCores s v)
    (hend : base + 63 * (Mtd.mk t.mtd).pitch 2 + rowBytes ((Mtd.mk t.mtd).fmt 2) 64 ≤ 0x100000) {d a : Nat} (hd : d ≠ c)
    (ha : a < 0x100000) :
    tget (tileStored v c t base fl rows).sram 0 (State.srKey d a) = tget s.sram 0 (State.srKey d a) := by
  refine tileStored_other hrows hv fun r hr hin => ?_
  have hrow := hrows.row_lt hr
  have hle : r.1 * (Mtd.mk t.mtd).pitch 2 ≤ 63 * (Mtd.mk t.mtd).pitch 2 := Nat.mul_le_mul_right _ (by omega)
  simp only [State.srKey] at hin
  omega

end

/-! ### Its core and registers (R157, R167, R175) -/

section

variable {s v : State} {c base fl : Nat} {t : Tile} {rows : List (Nat × List FRes)} (hv : OffCores s v) (hred : (Mtd.mk t.mtd).dRed = false)

include hv hred

theorem tileStored_holds : EngineHolds s (tileStored v c t base fl rows) c none :=
  (((State.tileLeave_holds hred []).after (State.putRows_ext ..).1).after (State.tileFlags_ext ..).1).after hv.same

theorem tileStored_word : (tileStored v c t base fl rows).launchWord c t.fill = (s.launchWord c t.fill ||| fl) % 16 := by
  have hword : v.launchWord c t.fill = s.launchWord c t.fill := State.launchWord_of_rd (State.rd_cor_offCores hv c _) _
  rw [← hword, ← State.tileFlags_word, tileStored, State.tileLeave_eq hred]
  refine State.launchWord_of_rd ((State.rd_tileCount_calm (State.vflags_calm c)).trans ?_) _
  exact ((State.setCore_ext ..).1.rd _).trans ((State.putRows_ext ..).1.rd _)

theorem tileStored_counts (hskip : t.skip = false) : Counted s (tileStored v c t base fl rows) .cor c 0x300 1 ∧
    Counted s (tileStored v c t base fl rows) .cor c (0x300 + 8) t.attempt := by
  have hrd {off : Nat} (h200 : 0x200 ≤ off) (ho : off < 0x1000) (hne : off ≠ 0x380 + 16) :
      ((v.tileFlags c t fl).putRows c base ((Mtd.mk t.mtd).pitch 2)
        (rows.map fun r => (r.1, rowImage (Mtd.mk t.mtd) r.2))).rd (regAt .cor c off) = s.rd (regAt .cor c off) :=
    (((State.putRows_ext ..).1.rd _).trans (State.rd_tileFlags_counter h200 ho hne)).trans (State.rd_cor_offCores hv c off)
  rw [tileStored, State.tileLeave_eq hred]
  obtain ⟨hdone, hreplays⟩ := State.tileCount_counted (s := State.setCore _ c _) (c := c) hskip
  exact ⟨hdone.between (hrd (by decide) (by decide) (by decide)) rfl, hreplays.between (hrd (by decide) (by decide) (by decide)) rfl⟩

end

/-! ### The commands -/

section

variable {s : State} {c : Nat} {t : Tile}

theorem tileStart_spec {m : Mtd} {mask : Word} (hrun : (s.core c).mxRun = none) (hwait : (s.core c).mxWait = some t)
    (h32 : t.mtdAddr % 32 = 0) (hin : t.mtdAddr + 64 ≤ (s.tileRegion c t).2)
    (hm : m = Mtd.mk (s.srRead c ((s.tileRegion c t).1 + t.mtdAddr) 64)) (hcheck : m.check t.mtdAddr = none) (hinside : TileInside s c t m)
    (hmask : mask = (if m.maskEn then BitVec.ofNat 64 (leNat (s.srRead c ((s.tileRegion c t).1 + t.maskAddr) 8)) else 0)) :
    ∃ u, exec (.matrixTileStart c) s = .next u ∧ (∀ d, u.core d = if d = c then
      { s.core c with mxRun := some (tileStarted s c t m.d mask), mxWait := none } else s.core d) ∧ Same [.cores] s u := by
  refine ⟨_, ?_, fun d => s.core_setCore c d _, (State.setCore_ext ..).1⟩
  rw [State.exec_matrixTileStart hrun hwait, State.tileStart_runs h32 hin hm hcheck hinside hmask]

/-- A descriptor that fails a check of R160 ends the tile's launch with the check's code. -/
theorem tileStart_bad {m : Mtd} {code : Nat} {x : Launch} (hc : c < 2304) (hrun : (s.core c).mxRun = none)
    (hwait : (s.core c).mxWait = some t) (h : EndsCleanly s t.launch x) (hword : t.word < 2 ^ 24)
    (hcode : (t.mtdAddr % 32 ≠ 0 ∧ code = 0x06) ∨ (t.mtdAddr % 32 = 0 ∧ t.mtdAddr + 64 ≤ (s.tileRegion c t).2 ∧
      m = Mtd.mk (s.srRead c ((s.tileRegion c t).1 + t.mtdAddr) 64) ∧ m.check t.mtdAddr = some code)) :
    ∃ u, exec (.matrixTileStart c) s = .next u ∧ EndedAs s u t.launch x 5 7 c (t.word * 256 + code) ∧ Event u .cor c Ev.corLaunchFault := by
  have hfault : s.tileStart c t = s.tileFault c t code ∧ code < 256 := by
    rcases hcode with ⟨hmis, rfl⟩ | ⟨h32, hin, hm, hcheck⟩
    · exact ⟨State.tileStart_misaligned hmis, by decide⟩
    · exact ⟨State.tileStart_refused h32 hin hm hcheck, Mtd.check_lt hcheck⟩
  obtain ⟨hended, hevent, -⟩ := State.tileFault_ended h (.refl s) hword hfault.2 hc
  exact ⟨_, by rw [State.exec_matrixTileStart hrun hwait, hfault.1], hended, hevent⟩

theorem tileStart_beyond {x : Launch} (hc : c < 2304) (hrun : (s.core c).mxRun = none) (hwait : (s.core c).mxWait = some t)
    (h : EndsCleanly s t.launch x) (h32 : t.mtdAddr % 32 = 0) (haddr : t.mtdAddr < 2 ^ 20) (hout : (s.tileRegion c t).2 < t.mtdAddr + 64) :
    ∃ u, exec (.matrixTileStart c) s = .next u ∧ EndedAs s u t.launch x 5 1 c t.mtdAddr := by
  obtain ⟨hended, -⟩ := State.launchEnd_faulted h (.refl s) (cause := 1) (.inl rfl) hc (show t.mtdAddr < 2 ^ 32 by omega)
  exact ⟨_, by rw [State.exec_matrixTileStart hrun hwait, State.tileStart_outside h32 hout], hended⟩

theorem tileReplay_spec (hrun : (s.core c).mxRun = some t) (hhalt : t.halted = false) (hskip : t.skip = false) (hfp : t.fp32 = false)
    (hover : (s.tileIn c t).attempt t.headroom = none) : ∃ u, exec (.tileOverflowReplay c .ok) s = .next u ∧
      EngineHolds s u c (some (State.nextAttempt t)) ∧ Same [.cores] s u := by
  refine ⟨_, ?_, s.setCore_holds c _, (State.setCore_ext ..).1⟩
  rw [State.exec_tileOverflowReplay hrun, State.tileReplay_overflow hhalt hskip hfp hover]

theorem tileSkip_spec (hrun : (s.core c).mxRun = some t) (hhalt : t.halted = false) (hskip : t.skip = true)
    (hred : (Mtd.mk t.mtd).dRed = false) : ∃ u, exec (.matrixTileDone c .ok) s = .next u ∧ EngineHolds s u c none ∧
      Counted s u .cor c (0x300 + 24) 1 ∧ Same [.cores, .regs, .hlk] s u := by
  refine ⟨_, ?_, State.tileLeave_holds hred [], ?_, (State.tileLeave_ext s c t []).1.mono (by decide)⟩
  · rw [State.exec_matrixTileDone hrun, State.tileDone_skipped hhalt hred hskip]
  · rw [State.tileLeave_eq hred, State.tileCount_skipped hskip]
    exact (State.counted_bump (s.setCore c { s.core c with mxRun := none }) .cor c (0x300 + 24) 1).between rfl rfl

theorem tileDone_spec {m : Mtd} {es : List TileElem} {fl base : Nat} {v : State} {rows : List (Nat × List FRes)}
    (hrun : (s.core c).mxRun = some t) (hhalt : t.halted = false) (hskip : t.skip = false) (hue : s.tileUe c t = false)
    (hm : m = Mtd.mk t.mtd) (hred : m.dRed = false) (hvalues : State.tileValues (s.tileIn c t) t = some (es, fl))
    (hconvert : s.tileConvert c t es = some (v, rows)) (hbase : base = (s.tileRegion c t).1 + m.addr 20)
    (hend : base + 63 * m.pitch 2 + rowBytes (m.fmt 2) 64 ≤ 0x100000) (hpitch : rowBytes (m.fmt 2) 64 ≤ m.pitch 2) :
    ∃ u, exec (.matrixTileDone c .ok) s = .next u ∧ EngineHolds s u c none ∧
      (∀ r ∈ rows, u.srRead c (base + r.1 * m.pitch 2) (rowBytes (m.fmt 2) 64) = packBits (fmtBits (m.fmt 2)) (r.2.map (·.bits))) ∧
      (∀ a, a < 0x100000 → (∀ r ∈ rows, ¬(base + r.1 * m.pitch 2 ≤ a ∧ a < base + r.1 * m.pitch 2 + rowBytes (m.fmt 2) 64)) →
        tget u.sram 0 (State.srKey c a) = tget s.sram 0 (State.srKey c a)) ∧
      (∀ d a, d ≠ c → a < 0x100000 → tget u.sram 0 (State.srKey d a) = tget s.sram 0 (State.srKey d a)) ∧
      u.launchWord c t.fill = (s.launchWord c t.fill ||| tileFlagUnion rows fl) % 16 ∧ Counted s u .cor c 0x300 1 ∧
      Counted s u .cor c (0x300 + 8) t.attempt := by
  subst hm
  have hv : OffCores s v := ((OffCores.refl s).tileConvert).of hconvert
  have hrows : RowsOf t rows := State.tile_rows hvalues hconvert
  obtain ⟨hdone, hreplays⟩ := tileStored_counts (base := base) (fl := tileFlagUnion rows fl) (rows := rows) hv hred hskip
  refine ⟨tileStored v c t base (tileFlagUnion rows fl) rows, ?_, tileStored_holds hv hred, fun r hr => tileStored_read hrows hpitch hr,
    fun a _ ha => tileStored_elsewhere hrows hv ha, fun d a hd ha => tileStored_otherCore hrows hv hend hd ha, tileStored_word hv hred,
    hdone, hreplays⟩
  rw [State.exec_matrixTileDone hrun, State.tileDone_completes hhalt hred hskip hue hvalues hconvert, State.tileRegion_offCores hv, ← hbase]

theorem tileCheck_spec {k : Check} {code : Nat} {x : Launch} (hc : c < 2304) (hrun : (s.core c).mxRun = some t) (hhalt : t.halted = false)
    (hskip : t.skip = false) (hred : (Mtd.mk t.mtd).dRed = false) (hk : k = Check.residue ∧ code = 0x10 ∨ k = .parity ∧ code = 0x11)
    (h : EndsCleanly s t.launch x) (hword : t.word < 2 ^ 24) (hsuspect : (s.pcore (s.physOf c)).suspect = false) :
    ∃ u, exec (.matrixTileDone c k) s = .next u ∧ EndedAs s u t.launch x 5 7 c (t.word * 256 + code) ∧
      Counted s u .cor c (0x300 + 40) 1 := by
  have hended := State.tileCheck_ended h hword hc hred hsuspect
  rcases hk with ⟨rfl, rfl⟩ | ⟨rfl, rfl⟩
  · exact ⟨_, by rw [State.exec_matrixTileDone hrun, State.tileDone_checked hhalt hred hskip (by decide)]; rfl, hended true⟩
  · exact ⟨_, by rw [State.exec_matrixTileDone hrun, State.tileDone_checked hhalt hred hskip (by decide)]; rfl, hended false⟩

theorem mxDebugHalt_spec (hrun : (s.core c).mxRun = some t) (hopen : s.g .sec 0 Off.secDebug 0 0 = 1)
    (harm : s.g .cor c Off.corMxdbgCtl 0 0 = 1) (hhalt : t.halted = false) (hskip : t.skip = false)
    (hchunk : s.g .cor c Off.corMxdbgCtl 43 32 < (Mtd.mk t.mtd).k16) : ∃ u, exec (.mxDebugHalt c) s = .next u ∧
      EngineHolds s u c (some { t with halted := true }) ∧ FieldSet s u .cor c Off.corMxdbgCtl 0 0 0 ∧
      RegsOnly [regAt .cor c Off.corMxdbgCtl] s u ∧ Same [.cores, .regs] s u := by
  let w := s.setCore c { s.core c with mxRun := some { t with halted := true } }
  obtain ⟨hset, honly, hsame⟩ := w.p_only_field .cor c Off.corMxdbgCtl 0 0 0
  exact ⟨_, State.exec_mxDebugHalt hrun hopen harm hhalt hskip hchunk, (s.setCore_holds c _).before hsame, hset, honly,
    ((State.setCore_ext ..).1.mono rfl).trans (hsame.mono rfl)⟩

end

/-- Settles O40: a tile's start, replay, end, error and debug halt, each by the branch that its hypotheses select. -/
theorem matrixEngine : Obligations.MatrixEngine := by
  intro s c hc
  refine ⟨fun t m mask hrun hwait h32 hin hm hcheck hinside hmask => tileStart_spec hrun hwait h32 hin hm hcheck hinside hmask,
    fun t m code x hrun hwait h hword hcode => tileStart_bad hc hrun hwait h hword hcode,
    fun t x hrun hwait h h32 haddr hout => tileStart_beyond hc hrun hwait h h32 haddr hout,
    fun t hrun hhalt hskip hfp hover => tileReplay_spec hrun hhalt hskip hfp hover,
    fun t hrun hhalt hskip hred => tileSkip_spec hrun hhalt hskip hred,
    fun t m es fl v rows base hrun hhalt hskip hue hm hred hvalues hconvert hbase hend hpitch =>
      tileDone_spec hrun hhalt hskip hue hm hred hvalues hconvert hbase hend hpitch,
    fun t k code x hrun hhalt hskip hred hk h hword hsuspect => tileCheck_spec hc hrun hhalt hskip hred hk h hword hsuspect,
    fun t hrun hopen harm hhalt hskip hchunk => mxDebugHalt_spec hrun hopen harm hhalt hskip hchunk,
    fun t hrun hready hopen => ?_, fun hready hlocked => State.exec_mxDebugResume_locked hc hready hlocked⟩
  exact ⟨_, State.exec_mxDebugResume hc hready hrun hopen, s.setCore_holds c _, (State.setCore_ext ..).1⟩

end Sys2Proof.Machine
end

section
/-! SUPPORT. Statement O32: the lane instructions of R181, each one lane function written in every executing lane (R180, R183 to R185,
R188, R191, R193). -/

namespace Sys2Proof.Machine

/-! ### What a lane reads while its word is counted -/

section

variable (s : State) (th : Thr)

@[simp] theorem opA_countIssue : opA (s.countIssue th) th = opA s th := funext fun l => s.countIssue_thReg th l th.sa

@[simp] theorem opB_countIssue (l : Nat) : opB (s.countIssue th) th l = opB s th l := s.countIssue_thReg th l th.sb

@[simp] theorem opC_countIssue (l : Nat) : opC (s.countIssue th) th l = opC s th l := s.countIssue_thReg th l th.sc

@[simp] theorem opP_countIssue (l r : Nat) : opP (s.countIssue th) th l r = opP s th l r := by
  rw [opP, State.predOf, (s.countIssue_spec th).2.1, opP, State.predOf]

@[simp] theorem fpA_countIssue (l : Nat) : fpA (s.countIssue th) th l = fpA s th l := by
  rw [fpA, opA_countIssue, fpA]

@[simp] theorem fpC_countIssue (l : Nat) : fpC (s.countIssue th) th l = fpC s th l := by
  rw [fpC, opC_countIssue, fpC]

@[simp] theorem voteMask_countIssue : voteMask (s.countIssue th) th = voteMask s th := by
  simp only [voteMask, s.countIssue_lanes, opP_countIssue]

@[simp] theorem shoalTree_countIssue (n : Nat) : shoalTree (s.countIssue th) th n = shoalTree s th n := by
  simp only [shoalTree, s.countIssue_lanes, opA_countIssue]

@[simp] theorem sregLane_countIssue (l : Nat) : (s.countIssue th).sregLane th l = s.sregLane th l := by
  have hclock : (s.countIssue th).clock = s.clock := (s.countIssue_ext th).1 .clock (by decide)
  simp only [State.sregLane, State.now, hclock]

end

/-! ### Lane functions -/

/-- A lane function reads nothing that counting an issue changes, and writes registers and predicates that exist. -/
structure LaneLocal (f : State → Thr → Nat → LaneW) : Prop where
  reads : ∀ s th l, f (s.countIssue th) th l = f s th l
  regs : ∀ s th l, ∀ e ∈ (f s th l).regs, e.1 < 64
  preds : ∀ s th l m v, (f s th l).pred = some (m, v) → m < 8

/-- Writing DST writes a register. -/
theorem LaneW.reg_lt {th : Thr} {v : W32} {fl : Nat} : ∀ e ∈ (LaneW.reg th.dst v fl).regs, e.1 < 64 := fun e he => by
  rw [List.mem_singleton.1 he]
  exact nfld_lt th.w 47 42

namespace LaneLocal

/-- A lane function that writes DST. -/
theorem reg {v : State → Thr → Nat → W32} {fl : State → Thr → Nat → Nat} (hv : ∀ s th l, v (s.countIssue th) th l = v s th l)
    (hfl : ∀ s th l, fl (s.countIssue th) th l = fl s th l) : LaneLocal fun s th l => .reg th.dst (v s th l) (fl s th l) where
  reads s th l := by rw [hv, hfl]
  regs s th l := LaneW.reg_lt
  preds s th l m v h := nomatch h

/-- A lane function that writes the predicate that bits [2:0] of DST name. -/
theorem setp {v : State → Thr → Nat → Bool} {fl : State → Thr → Nat → Nat} (hv : ∀ s th l, v (s.countIssue th) th l = v s th l)
    (hfl : ∀ s th l, fl (s.countIssue th) th l = fl s th l) :
    LaneLocal fun s th l => .setp (th.dst % 8) (v s th l) (fl s th l) where
  reads s th l := by rw [hv, hfl]
  regs s th l e he := nomatch he
  preds s th l m b h := by
    rw [← (Prod.mk.inj (Option.some.inj h)).1]
    exact Nat.mod_lt _ (by decide)

/-- A lane function that sets flags and writes nothing. -/
theorem flags (fl : Nat) : LaneLocal fun _ _ _ => { regs := [], pred := none, fl := fl } where
  reads _ _ _ := rfl
  regs _ _ _ _ he := nomatch he
  preds _ _ _ _ _ h := nomatch h

/-- A lane function that writes an FP result. -/
theorem fp {r : State → Thr → Nat → FRes} (hr : ∀ s th l, r (s.countIssue th) th l = r s th l) :
    LaneLocal fun s th l => fpLane th (r s th l) :=
  reg (fun s th l => by rw [hr]) fun s th l => by rw [hr]

/-- A packed lane function over its operands. -/
theorem packed {g : List Num → Num} {vs : State → Thr → Nat → List W32} (hvs : ∀ s th l, vs (s.countIssue th) th l = vs s th l) :
    LaneLocal fun s th l => packedLane th g (vs s th l) :=
  reg (fun s th l => by rw [hvs]) fun s th l => by rw [hvs]

end LaneLocal

/-! ### Rows of R181's table -/

namespace LaneRow

/-- The row's command is the lane instruction of the row's CLASS, OP and lane function. -/
def Runs (x : LaneRow) : Prop := ∀ s p t k, exec (x.cmd p t k) s = .next (s.laneOp p t k x.cls x.op x.f)

/-- A row whose lane function says in its own words what the command's says. -/
theorem Runs.of {x : LaneRow} (f : State → Thr → Nat → LaneW) (hexec : ∀ s p t k, exec (x.cmd p t k) s = .next (s.laneOp p t k x.cls x.op f))
    (hf : ∀ s th l, f s th l = x.f s th l) : x.Runs := by
  obtain rfl : f = x.f := funext fun s => funext fun th => funext (hf s th)
  exact hexec

theorem Runs.completes {x : LaneRow} (h : x.Runs) (hlocal : LaneLocal x.f) : x.Completes := fun s p t th hi =>
  ⟨_, h s p t .ok, State.laneOp_effect hi x.f (hlocal.reads s th) (hlocal.regs s th) (hlocal.preds s th)⟩

end LaneRow

/-! ### Integer arithmetic (R181) -/

/-- The high word of a product, signed or unsigned. -/
theorem intOp_mulh (sg : Bool) (a b : W32) : State.intOp 3 sg a b = mulHigh sg a b := by
  cases sg
  · refine BitVec.eq_of_toNat_eq ?_
    have hab : a.toNat * b.toNat < 2 ^ 32 * 2 ^ 32 := Nat.mul_lt_mul'' a.isLt b.isLt
    simp only [State.intOp, mulHigh, Bool.false_eq_true, if_false, BitVec.toNat_ofNat, BitVec.toNat_setWidth, BitVec.toNat_ushiftRight,
      BitVec.toNat_mul, Nat.mul_mod_mod, Nat.mod_mul_mod, Nat.shiftRight_eq_div_pow]
    omega
  · have hprod : a.signExtend 64 * b.signExtend 64 = BitVec.ofInt 64 (a.toInt * b.toInt) := (BitVec.ofInt_mul ..).symm
    refine BitVec.eq_of_toNat_eq ?_
    simp only [State.intOp, mulHigh, if_true, hprod, BitVec.toNat_ofInt, BitVec.toNat_setWidth, BitVec.toNat_ushiftRight,
      Nat.shiftRight_eq_div_pow]
    omega

theorem intOp_min (sg : Bool) (a b : W32) : State.intOp 10 sg a b = minOf sg a b := by
  cases sg
  · simp only [State.intOp, minOf, BitVec.ult, decide_eq_true_eq, Bool.false_eq_true, if_false, ← Nat.not_le, ite_not]
  · simp only [State.intOp, minOf, BitVec.slt, decide_eq_true_eq, if_true, ← Int.not_le, ite_not]

/-- Of two words the one with the greater key, whichever is taken when the keys are equal. -/
theorem ite_key_le {β : Type} [LinearOrder β] {key : W32 → β} (hkey : Function.Injective key) (a b : W32) :
    (if key a ≤ key b then b else a) = if key a < key b then b else a := by
  rcases lt_trichotomy (key a) (key b) with h | h | h
  · rw [if_pos h.le, if_pos h]
  · rw [hkey h, ite_self, ite_self]
  · rw [if_neg h.not_ge, if_neg h.not_gt]

theorem intOp_max (sg : Bool) (a b : W32) : State.intOp 11 sg a b = maxOf sg a b := by
  cases sg
  · simpa only [State.intOp, maxOf, BitVec.ult, decide_eq_true_eq, Bool.false_eq_true, if_false] using
      ite_key_le (fun _ _ => BitVec.eq_of_toNat_eq) a b
  · simpa only [State.intOp, maxOf, BitVec.slt, decide_eq_true_eq, if_true] using
      ite_key_le (fun _ _ => BitVec.eq_of_toInt_eq) a b

theorem toNat_imm32 (th : Thr) : (BitVec.ofNat 32 th.imm32).toNat = th.imm32 := by
  rw [BitVec.toNat_ofNat, Thr.imm32, Nat.mod_mod]

/-- The rows whose lane function differs from the command's in its words: high products, minima, maxima and shifts by IMM32. -/
theorem integerRows_run : ∀ x ∈ integerRows, x.Runs := by
  simp only [integerRows, List.forall_mem_append, List.forall_mem_cons, List.not_mem_nil, false_implies, implies_true, and_true]
  refine ⟨⟨?_, ?_, ?_, .of _ (fun _ _ _ _ => rfl) ?mulh, ?_, ?_, ?_, ?_, ?_, ?_, .of _ (fun _ _ _ _ => rfl) ?min,
      .of _ (fun _ _ _ _ => rfl) ?max, ?_⟩,
    ?_, ?_, ?_, .of _ (fun _ _ _ _ => rfl) ?mulhImm, ?_, ?_, ?_, .of _ (fun _ _ _ _ => rfl) ?shlImm, .of _ (fun _ _ _ _ => rfl) ?shrImm,
      .of _ (fun _ _ _ _ => rfl) ?sarImm, .of _ (fun _ _ _ _ => rfl) ?minImm, .of _ (fun _ _ _ _ => rfl) ?maxImm, ?_⟩
  case mulh | mulhImm => exact fun _ _ _ => congrArg (LaneW.reg _ ·) (intOp_mulh ..)
  case min | minImm => exact fun _ _ _ => congrArg (LaneW.reg _ ·) (intOp_min ..)
  case max | maxImm => exact fun _ _ _ => congrArg (LaneW.reg _ ·) (intOp_max ..)
  case shlImm | shrImm | sarImm =>
    intro s th l
    simp only [State.intOp, toNat_imm32]
    rfl
  all_goals exact fun _ _ _ _ => rfl

theorem integerRows_local : ∀ x ∈ integerRows, LaneLocal x.f := by
  simp only [integerRows, List.forall_mem_append, List.forall_mem_cons, List.not_mem_nil, false_implies, implies_true, and_true]
  and_intros
  all_goals exact .reg (fun s th l => by simp) fun _ _ _ => rfl

/-! ### FP32, packed and transcendental arithmetic (R181, R183 to R185) -/

theorem fabs_toNat (v : W32) : fabs v.toNat = (v &&& 0x7FFFFFFF).toNat := by
  rw [BitVec.toNat_and]
  exact (Nat.and_two_pow_sub_one_eq_mod v.toNat 31).symm

theorem fneg_toNat (v : W32) : fneg v.toNat = (v ^^^ 0x80000000).toNat := by
  rw [BitVec.toNat_xor]
  rfl

theorem fpSa_eq (s : State) (th : Thr) (l : Nat) : s.fpSa th l = fpA s th l := by
  have hall (v : W32) : v &&& 0xFFFFFFFF = v := BitVec.and_allOnes
  have habs : (if th.w.testBit 22 then fabs (opA s th l).toNat else (opA s th l).toNat) =
      (opA s th l &&& (if th.w.testBit 22 then 0x7FFFFFFF else 0xFFFFFFFF)).toNat := by
    split
    · exact fabs_toNat _
    · rw [hall]
  simp only [State.fpSa, State.thReg]
  rw [opA] at habs
  rw [habs, fpA, opA]
  split
  · exact fneg_toNat _
  · exact congrArg _ BitVec.xor_zero.symm

theorem fpSc_eq (s : State) (th : Thr) (l : Nat) : s.fpSc th l = fpC s th l := by
  rw [State.fpSc, fpC]
  split
  · exact fneg_toNat _
  · exact congrArg _ BitVec.xor_zero.symm

theorem floatRows_run : ∀ x ∈ floatRows, x.Runs := by
  simp only [floatRows, List.forall_mem_append, List.forall_mem_cons, List.not_mem_nil, false_implies, implies_true, and_true]
  refine ⟨⟨.of _ (fun _ _ _ _ => rfl) ?fadd, .of _ (fun _ _ _ _ => rfl) ?fmul, .of _ (fun _ _ _ _ => rfl) ?ffma,
    .of _ (fun _ _ _ _ => rfl) ?fmin, .of _ (fun _ _ _ _ => rfl) ?fmax, ?_, ?_, ?_, ?_, ?_⟩, ?_, ?_, ?_, ?_, ?_, ?_, ?_, ?_⟩
  case fadd | fmul | ffma | fmin | fmax =>
    intro s th l
    simp only [fpSa_eq, fpSc_eq]
    rfl
  all_goals exact fun _ _ _ _ => rfl

theorem floatRows_local : ∀ x ∈ floatRows, LaneLocal x.f := by
  simp only [floatRows, List.forall_mem_append, List.forall_mem_cons, List.not_mem_nil, false_implies, implies_true, and_true]
  refine ⟨⟨?_, ?_, ?_, ?_, ?_, ?_, ?_, .packed ?hadd2, .packed ?hmul2, .packed ?hfma2⟩, ?_, ?_, ?_, ?_, ?_, ?_, ?_, ?_⟩
  case hadd2 | hmul2 | hfma2 => exact fun s th l => by simp
  all_goals exact .fp fun s th l => by simp

/-! ### Comparisons (R181) -/

/-- A condition of R181 on the ordering of two words. -/
theorem condOf_ordering {o : Ordering} {sg : Bool} {a b : W32} (heq : a = b ↔ o = .eq)
    (hlt : (if sg then a.slt b else a.ult b) = decide (o = .lt)) (hgt : (if sg then b.slt a else b.ult a) = decide (o = .gt)) (c : Nat) :
    State.condOf c (some o) = intCond c sg a b := by
  simp only [intCond, ne_eq, heq, hlt, hgt]
  cases o <;> rcases c with _ | _ | _ | _ | _ | _ | c <;> rfl

theorem condOf_int (c : Nat) (sg : Bool) (a b : W32) :
    State.condOf c (some (if sg then compare a.toInt b.toInt else compare a.toNat b.toNat)) = intCond c sg a b := by
  cases sg
  · exact condOf_ordering (by simp [BitVec.toNat_inj]) (by simp [BitVec.ult, compare_lt_iff_lt]) (by simp [BitVec.ult, compare_gt_iff_gt]) c
  · exact condOf_ordering (by simp [BitVec.toInt_inj]) (by simp [BitVec.slt, compare_lt_iff_lt]) (by simp [BitVec.slt, compare_gt_iff_gt]) c

theorem predicateRows_run : ∀ x ∈ predicateRows, x.Runs := by
  simp only [predicateRows, List.forall_mem_cons, List.not_mem_nil, false_implies, implies_true, and_true]
  refine ⟨?_, .of _ (fun _ _ _ _ => rfl) fun _ _ _ => congrArg (LaneW.setp _ ·) (condOf_int ..), ?_, ?_, ?_, ?_, ?_⟩
  all_goals exact fun _ _ _ _ => rfl

theorem predicateRows_local : ∀ x ∈ predicateRows, LaneLocal x.f := by
  simp only [predicateRows, List.forall_mem_cons, List.not_mem_nil, false_implies, implies_true, and_true]
  refine ⟨?_, ?_, ?_, ?_, ?_, .reg (fun s th l => by simp) fun _ _ _ => rfl, ?_⟩
  all_goals exact .setp (fun s th l => by simp) fun s th l => by simp

/-! ### Cross-lane instructions (R188), SREG, SFRD and SFSET (R191, R193) -/

/-- The tree of a reduction over the lanes that a list contains. -/
theorem shoalTree_eq (s : State) (th : Thr) (n : Nat) : State.tree5 (State.redNode th.old n) ((List.range 32).map fun l =>
    if (s.lanes th).contains l then ((s.thReg th l th.sa).toNat, true) else (State.redFill n, false)) = shoalTree s th n := by
  simp only [shoalTree, List.contains_iff_mem]
  rfl

theorem crossRows_run : ∀ x ∈ crossRows, x.Runs := by
  simp only [crossRows, List.forall_mem_cons, List.not_mem_nil, false_implies, implies_true, and_true]
  refine ⟨?_, ?_, .of _ (fun _ _ _ _ => rfl) ?rsum, .of _ (fun _ _ _ _ => rfl) ?rmax, .of _ (fun _ _ _ _ => rfl) ?rmin,
    .of _ (fun _ _ _ _ => rfl) ?risum, ?_, ?_, ?_⟩
  case rsum | rmax | rmin =>
    intro s th l
    simp only [shoalTree_eq]
  case risum =>
    intro s th l
    simp only [List.foldl_map]
    rfl
  all_goals exact fun _ _ _ _ => rfl

theorem sregLane_local : LaneLocal State.sregLane where
  reads := sregLane_countIssue
  regs s th l := LaneW.reg_lt
  preds s th l m v h := by
    have hnone : (s.sregLane th l).pred = none := rfl
    rw [hnone] at h
    cases h

theorem crossRows_local : ∀ x ∈ crossRows, LaneLocal x.f := by
  simp only [crossRows, List.forall_mem_cons, List.not_mem_nil, false_implies, implies_true, and_true]
  refine ⟨?_, ?_, ?_, ?_, ?_, ?_, sregLane_local, ?_, .flags 8⟩
  all_goals exact .reg (fun s th l => by simp [State.countIssue_laneFlags, State.countIssue_lanes]) fun s th l => by simp

/-! ### The statement -/

/-- Settles O32: each row's command writes the row's lane function, which counting the issue leaves alone. -/
theorem laneInstructions : Obligations.LaneInstructions :=
  ⟨fun x hx => (integerRows_run x hx).completes (integerRows_local x hx), fun x hx => (floatRows_run x hx).completes (floatRows_local x hx),
    fun x hx => (predicateRows_run x hx).completes (predicateRows_local x hx),
    fun x hx => (crossRows_run x hx).completes (crossRows_local x hx)⟩

end Sys2Proof.Machine
end

section
/-! SUPPORT. Statement O33: the loads and stores of R181 and R190, over SRAM as bytes (R187, R389). -/

namespace Sys2Proof.Machine

/-! ### Values in two parts -/

theorem leNat_append (xs ys : Bytes) : leNat (xs ++ ys) = leNat xs + 256 ^ xs.length * leNat ys := by
  induction xs with
  | nil => simp [leNat]
  | cons x xs ih =>
    rw [List.cons_append, leNat, ih, leNat, List.length_cons, Nat.pow_succ']
    ring

theorem natBytes_append {m : Nat} (n : Nat) {a : Nat} (b : Nat) (ha : a < 256 ^ m) :
    natBytes (m + n) (a + b * 256 ^ m) = natBytes m a ++ natBytes n b := by
  induction m generalizing a with
  | zero =>
    have h0 : a = 0 := by simpa using ha
    simp [h0, natBytes]
  | succ m ih =>
    have hpow : b * 256 ^ (m + 1) = 256 * (b * 256 ^ m) := by ring
    have hbyte : BitVec.ofNat 8 (a + 256 * (b * 256 ^ m)) = BitVec.ofNat 8 a :=
      BitVec.eq_of_toNat_eq (by simp only [BitVec.toNat_ofNat]; omega)
    have hrest : (a + 256 * (b * 256 ^ m)) / 256 = a / 256 + b * 256 ^ m := by omega
    rw [Nat.pow_succ] at ha
    rw [Nat.succ_add, natBytes, hpow, hbyte, hrest, ih (by omega), natBytes, List.cons_append]

namespace State

variable (s : State)

theorem srRead_length (p a n : Nat) : (s.srRead p a n).length = n := by simp [srRead]

theorem srRead_add (p a m n : Nat) : s.srRead p a (m + n) = s.srRead p a m ++ s.srRead p (a + m) n := by
  simp only [srRead, List.range_add, List.map_append, List.map_map, Function.comp_def, Nat.add_assoc]

/-! ### Addresses and checks (R181, R187) -/

theorem sext16_eq (v : Nat) : sext 16 v = (BitVec.ofNat 16 v).toInt := by
  rw [BitVec.toInt_eq_toNat_cond, BitVec.toNat_ofNat, sext]
  split <;> split <;> omega

theorem memAddr_eq (th : Thr) : s.memAddr th = localAddr s th := by
  funext l
  rw [memAddr, sext16_eq, localAddr, BitVec.signExtend, BitVec.toNat_add, BitVec.toNat_ofInt, wrapN, thReg, opA]
  omega

variable {s} {th : Thr} {n : Nat}

theorem memFault_none {as : List Nat} (h : ∀ a ∈ as, a % n = 0 ∧ a + n ≤ (s.thRegion th).2) : s.memFault th n as = none := by
  have hinside : as.find? (fun a => decide ((s.thRegion th).2 < a + n)) = none :=
    List.find?_eq_none.2 fun a ha => by simpa using (h a ha).2
  rw [memFault, hinside, if_neg (by simpa using fun a ha => (h a ha).1)]

/-- The region of a shoal lies in its processor's SRAM (R120, R355). -/
theorem thRegion_le : (s.thRegion th).1 + (s.thRegion th).2 ≤ 0x100000 := by
  have hfield : s.g .cor th.p Off.corPart 3 0 < 2 ^ (3 + 1 - 0) := fld_lt ..
  rw [thRegion]
  split
  · rw [classRegion]
    split <;> omega
  · decide

end State

/-! ### What counting an issue leaves alone of an access -/

section

variable (s : State) (th : Thr)

@[simp] theorem localAddr_countIssue (l : Nat) : localAddr (s.countIssue th) th l = localAddr s th l := by
  rw [localAddr, opA_countIssue, localAddr]

@[simp] theorem localRead_countIssue (a n : Nat) : localRead (s.countIssue th) th a n = localRead s th a n := by
  rw [localRead, s.countIssue_srRead, s.countIssue_thRegion, localRead]

@[simp] theorem readable_countIssue (m n a : Nat) : Readable (s.countIssue th) th m n a ↔ Readable s th m n a := by
  have hue : (s.countIssue th).sramUe = s.sramUe := (s.countIssue_ext th).1 .sramUe (by decide)
  simp only [Readable, s.countIssue_thRegion, State.srUe, hue]

@[simp] theorem writable_countIssue (m n a : Nat) : Writable (s.countIssue th) th m n a ↔ Writable s th m n a := by
  rw [Writable, s.countIssue_thRegion, Writable]

end

/-! ### Loads (R187, R190) -/

/-- What LD8 to LD64 write in a lane that reads n good bytes (R187). -/
def loadLane (s : State) (n : Nat) (th : Thr) (l : Nat) : LaneW :=
  let v := localRead s th (localAddr s th l) n
  { regs := (th.dst, BitVec.ofNat 32 (v % 2 ^ 32)) :: if n = 8 then [(th.dst + 1, BitVec.ofNat 32 (v / 2 ^ 32))] else [], pred := none, fl := 0 }

/-- What LDM40 writes in a lane that reads a good word and a good byte (R190). -/
def m40LoadLane (s : State) (th : Thr) (l : Nat) : LaneW :=
  { regs := [(th.dst, BitVec.ofNat 32 (localRead s th (opA s th l).toNat 4)), (th.dst + 1, BitVec.ofNat 32 (localRead s th (opB s th l).toNat 1))]
    pred := none, fl := 0 }

section

variable {s : State} {p t op n : Nat} {th : Thr}

/-- A word whose effect is known where a condition holds that counting its issue keeps. -/
theorem Issues.runs {cls : Nat} (h : Issues s p t cls op th) {f : State → Thr → Option State} (P : State → Prop) {g : State → State}
    (hs : P s) (hc : P (s.countIssue th)) (hf : ∀ v, P v → f v th = some (g v)) : s.issueWord p t .ok cls op f = g (s.countIssue th) :=
  State.issueWord_ok h (by rw [hf s hs]; rfl) (hf _ hc)

/-- Words that are read good are all written and none is reported (R389). -/
theorem State.load_good (h : Issues s p t 7 op th) (hread : ∀ l ∈ s.lanes th, Readable s th n n (localAddr s th l)) :
    s.load p t .ok op n = ((s.countIssue th).applyLanes th ((s.lanes th).map fun l => (l, loadLane s n th l))).nextPc th := by
  refine (h.runs (fun v => ∀ l ∈ v.lanes th, Readable v th n n (localAddr v th l))
    (g := fun v => (v.applyLanes th ((v.lanes th).map fun l => (l, loadLane v n th l))).nextPc th) hread ?_ fun v hv => ?_).trans ?_
  · simpa [s.countIssue_lanes] using hread
  · have hnone : v.memFault th n ((v.lanes th).map (localAddr v th)) = none := memFault_none <| List.forall_mem_map.2 fun l hl => by
      obtain ⟨halign, hinside, -⟩ := hv l hl
      exact ⟨halign, hinside⟩
    have hgood : ∀ l ∈ v.lanes th, v.srUe th.p ((v.thRegion th).1 + localAddr v th l) n = false := fun l hl => (hv l hl).2.2
    have hbad : (v.lanes th).filter (fun l => v.srUe th.p ((v.thRegion th).1 + localAddr v th l) n) = [] :=
      List.filter_eq_nil_iff.2 fun l hl => by simp [hgood l hl]
    simp only [v.memAddr_eq, hnone, hbad, List.foldl_nil]
    congr 3
    refine List.map_congr_left fun l hl => ?_
    simp only [hgood l hl]
    rfl
  · simp only [s.countIssue_lanes, loadLane, localAddr_countIssue, localRead_countIssue]

/-! ### Lane effects of the lanes that execute -/

/-- A lane instruction's effect is what it does in the lanes that execute. -/
theorem LaneEffect.congr {u : State} {f g : Nat → LaneW} (h : LaneEffect s u p t th f) (hfg : ∀ l ∈ s.lanes th, f l = g l) :
    LaneEffect s u p t th g := by
  have hunion : laneUnion (s.lanes th) f = laneUnion (s.lanes th) g := List.foldl_ext _ _ _ fun a l hl => by rw [hfg l hl]
  have hlane {α : Type} (F : LaneW → α) (l : Nat) (a : α) :
      (if l ∈ s.lanes th then F (f l) else a) = if l ∈ s.lanes th then F (g l) else a :=
    ite_congr rfl (fun hm => by rw [hfg l hm]) fun _ => rfl
  refine ⟨fun l r hl hr => (h.regs l r hl hr).trans (hlane (·.regAfter r _) l _),
    fun l n hl hn => (h.preds l n hl hn).trans (hlane (·.predAfter n _) l _),
    fun l hl => (h.flags l hl).trans (hlane (fun w => _ ||| BitVec.ofNat 4 w.fl) l _), h.others, ?_, ?_, h.frame⟩
  · rw [← hunion]
    exact h.shoal
  · rw [← hunion]
    exact h.word

/-- A lane function inside a list of lanes; outside it does nothing. -/
def LaneW.within (ls : List Nat) (f : Nat → LaneW) (l : Nat) : LaneW := if l ∈ ls then f l else ⟨[], none, 0⟩

theorem LaneW.within_mem {ls : List Nat} (f : Nat → LaneW) {l : Nat} (hl : l ∈ ls) : within ls f l = f l := if_pos hl

theorem LaneW.within_cases (ls : List Nat) (f : Nat → LaneW) (l : Nat) : l ∈ ls ∧ within ls f l = f l ∨ within ls f l = ⟨[], none, 0⟩ := by
  by_cases hl : l ∈ ls
  · exact .inl ⟨hl, within_mem f hl⟩
  · exact .inr (if_neg hl)

/-- The effect of a word whose executing lanes write registers that exist. -/
theorem applyLanes_regs {cls : Nat} {f : Nat → LaneW} (h : Issues s p t cls op th) (hregs : ∀ l ∈ s.lanes th, ∀ e ∈ (f l).regs, e.1 < 64)
    (hpred : ∀ l, (f l).pred = none) :
    LaneEffect s (((s.countIssue th).applyLanes th ((s.lanes th).map fun l => (l, f l))).nextPc th) p t th f := by
  rw [List.map_congr_left fun l hl => congrArg (Prod.mk l) (LaneW.within_mem f hl).symm]
  refine (State.applyLanes_effect h (LaneW.within (s.lanes th) f) (fun l e he => ?_) fun l m v hm => ?_).congr fun l => LaneW.within_mem f
  · rcases LaneW.within_cases (s.lanes th) f l with ⟨hl, hw⟩ | hw <;> rw [hw] at he
    · exact hregs l hl e he
    · cases he
  · rcases LaneW.within_cases (s.lanes th) f l with ⟨-, hw⟩ | hw <;> rw [hw] at hm
    · rw [hpred l] at hm
      cases hm
    · cases hm

theorem pair_lt {th : Thr} {v w : W32} (heven : th.dst % 2 = 0) : ∀ e ∈ [(th.dst, v), (th.dst + 1, w)], e.1 < 64 := by
  have hdst : th.dst < 64 := nfld_lt th.w 47 42
  intro e he
  rcases List.mem_pair.1 he with rfl | rfl
  · exact hdst
  · show th.dst + 1 < 64
    omega

/-! ### The values that loads write -/

theorem loadLane_reg (hn : n ≠ 8) (l : Nat) :
    loadLane s n th l = .reg th.dst (BitVec.ofNat 32 (localRead s th (localAddr s th l) n)) := by
  have hmod (v : Nat) : BitVec.ofNat 32 (v % 2 ^ 32) = BitVec.ofNat 32 v := BitVec.eq_of_toNat_eq (by simp)
  simp only [loadLane, if_neg hn, hmod]
  rfl

theorem localRead_eight (a : Nat) : localRead s th a 8 = localRead s th a 4 + 2 ^ 32 * localRead s th (a + 4) 4 := by
  rw [localRead, s.srRead_add _ _ 4 4, leNat_append, State.srRead_length, localRead, localRead, Nat.add_assoc]
  rfl

theorem localRead_lt (a : Nat) : localRead s th a n < 256 ^ n := by
  have h := leNat_lt (s.srRead th.p ((s.thRegion th).1 + a) n)
  rwa [State.srRead_length] at h

theorem loadLane_pair (l : Nat) : loadLane s 8 th l =
    ⟨[(th.dst, BitVec.ofNat 32 (localRead s th (localAddr s th l) 4)), (th.dst + 1, BitVec.ofNat 32 (localRead s th (localAddr s th l + 4) 4))],
      none, 0⟩ := by
  have hlow : localRead s th (localAddr s th l) 4 < 2 ^ 32 := localRead_lt _
  rw [loadLane, localRead_eight, Nat.add_mul_mod_self_left, Nat.mod_eq_of_lt hlow, Nat.add_mul_div_left _ _ (by decide),
    Nat.div_eq_of_lt hlow, Nat.zero_add]
  rfl

/-! ### LDM40 (R190) -/

/-- An M40 access of aligned words and of bytes inside the region raises no fault (R190). -/
theorem m40Fault_none {v : State} {ls : List Nat} (hword : ∀ l ∈ ls, (opA v th l).toNat % 4 = 0 ∧ (opA v th l).toNat + 4 ≤ (v.thRegion th).2)
    (hext : ∀ l ∈ ls, (opB v th l).toNat % 1 = 0 ∧ (opB v th l).toNat + 1 ≤ (v.thRegion th).2) : v.m40Fault th ls = none := by
  have hw : v.memFault th 4 (ls.map fun l => (opA v th l).toNat) = none := State.memFault_none (List.forall_mem_map.2 hword)
  have he : v.memFault th 1 (ls.map fun l => (opB v th l).toNat) = none := State.memFault_none (List.forall_mem_map.2 hext)
  simp only [opA, opB] at hw he
  simp only [State.m40Fault, State.thReg, hw, he]

/-- Words and bytes that are read good are all written and none is reported (R190, R389). -/
theorem State.ldm40Run_good {v : State} (hread : ∀ l ∈ v.lanes th, Readable v th 4 4 (opA v th l).toNat ∧ Readable v th 1 1 (opB v th l).toNat) :
    v.ldm40Run th = (v.applyLanes th ((v.lanes th).map fun l => (l, m40LoadLane v th l))).nextPc th := by
  have hnone : v.m40Fault th (v.lanes th) = none := m40Fault_none
    (fun l hl => by obtain ⟨⟨halign, hinside, -⟩, -⟩ := hread l hl; exact ⟨halign, hinside⟩)
    (fun l hl => by obtain ⟨-, halign, hinside, -⟩ := hread l hl; exact ⟨halign, hinside⟩)
  have hgood : ∀ l ∈ v.lanes th, (v.srUe th.p ((v.thRegion th).1 + (v.thReg th l th.sa).toNat) 4 ||
      v.srUe th.p ((v.thRegion th).1 + (v.thReg th l th.sb).toNat) 1) = false := fun l hl => by
    obtain ⟨⟨-, -, hw⟩, -, -, he⟩ := hread l hl
    exact Bool.or_eq_false_iff.2 ⟨hw, he⟩
  have hbad : (v.lanes th).filter (fun l => v.srUe th.p ((v.thRegion th).1 + (v.thReg th l th.sa).toNat) 4 ||
      v.srUe th.p ((v.thRegion th).1 + (v.thReg th l th.sb).toNat) 1) = [] :=
    List.filter_eq_nil_iff.2 fun l hl => by simp [hgood l hl]
  simp only [ldm40Run, hnone, hbad, List.foldl_nil]
  congr 2
  refine List.map_congr_left fun l hl => ?_
  simp only [hgood l hl]
  rfl

theorem ldm40_effect (h : Issues s p t 0xC 0 th)
    (hread : ∀ l ∈ s.lanes th, Readable s th 4 4 (opA s th l).toNat ∧ Readable s th 1 1 (opB s th l).toNat ∧ th.dst % 2 = 0) :
    ∃ u, exec (.ldm40 p t .ok) s = .next u ∧ LaneEffect s u p t th (m40LoadLane s th) := by
  have hword : ∀ l ∈ s.lanes th, Readable s th 4 4 (opA s th l).toNat ∧ Readable s th 1 1 (opB s th l).toNat := fun l hl => by
    obtain ⟨hw, he, -⟩ := hread l hl
    exact ⟨hw, he⟩
  refine ⟨_, congrArg Host.Outcome.next (State.issueWord_ok h rfl (congrArg some ?_)),
    applyLanes_regs h (fun l hl => pair_lt (hread l hl).2.2) fun _ => rfl⟩
  rw [State.ldm40Run_good (by simpa [s.countIssue_lanes] using hword), s.countIssue_lanes]
  simp only [m40LoadLane, opA_countIssue, opB_countIssue, localRead_countIssue]

/-! ### The rows of loads -/

theorem load_effect {f : Nat → LaneW} (h : Issues s p t 7 op th) (hread : ∀ l ∈ s.lanes th, Readable s th n n (localAddr s th l))
    (hlane : ∀ l, loadLane s n th l = f l) (hregs : ∀ l ∈ s.lanes th, ∀ e ∈ (f l).regs, e.1 < 64) :
    LaneEffect s (s.load p t .ok op n) p t th f := by
  obtain rfl : loadLane s n th = f := funext hlane
  rw [State.load_good h hread]
  exact applyLanes_regs h hregs fun _ => rfl

theorem load_reg_effect (hn : n ≠ 8) (h : Issues s p t 7 op th) (hread : ∀ l ∈ s.lanes th, Readable s th n n (localAddr s th l)) :
    LaneEffect s (s.load p t .ok op n) p t th fun l => .reg th.dst (BitVec.ofNat 32 (localRead s th (localAddr s th l) n)) :=
  load_effect h hread (loadLane_reg hn) fun _ _ => LaneW.reg_lt

theorem loadRows_effect : ∀ x ∈ loadRows, ∀ s p t th, Issues s p t x.1.cls x.1.op th → (∀ l ∈ s.lanes th, x.2 s th l) →
    ∃ u, exec (x.1.cmd p t .ok) s = .next u ∧ LaneEffect s u p t th (x.1.f s th) := by
  simp only [loadRows, List.forall_mem_cons, List.not_mem_nil, false_implies, implies_true, and_true]
  refine ⟨fun s p t th h hread => ⟨_, rfl, load_reg_effect (by decide) h hread⟩,
    fun s p t th h hread => ⟨_, rfl, load_reg_effect (by decide) h hread⟩,
    fun s p t th h hread => ⟨_, rfl, load_reg_effect (by decide) h hread⟩,
    fun s p t th h hread => ⟨_, rfl, load_effect h (fun l hl => (hread l hl).1) loadLane_pair fun l hl => pair_lt (hread l hl).2⟩,
    fun s p t th h hread => ldm40_effect h hread⟩

end

/-! ### Bytes of stored pieces -/

/-- Pieces of a region stored one after the other. -/
def storePieces (s : State) (p base : Nat) (ps : List (Nat × Bytes)) : State := ps.foldl (fun u e => u.srWrite p (base + e.1) e.2) s

section

variable {s : State} {p t base : Nat} {th : Thr}

theorem storePieces_ext (ps : List (Nat × Bytes)) : Ext [.sram, .sramUe] s (storePieces s p base ps) :=
  foldl_all (P := fun x => Ext _ _ x) (Ext.refl _ _) fun _ _ hv => .step (State.srWrite_ext ..) rfl hv

theorem storePieces_lanes (ls : List Nat) (pieces : Nat → List (Nat × Bytes)) :
    storePieces s p base (ls.map pieces).flatten = ls.foldl (fun u l => storePieces u p base (pieces l)) s := by
  rw [storePieces, List.foldl_flatten, List.foldl_map]
  rfl

/-- A byte at a local address: the last piece that covers it. -/
theorem storePieces_byte (ps : List (Nat × Bytes)) (a : Nat) : tget (storePieces s p base ps).sram 0 (State.srKey p (base + a)) =
    pieceByte ps a (tget s.sram 0 (State.srKey p (base + a))) := by
  induction ps generalizing s with
  | nil => rfl
  | cons e ps ih =>
    have hstore : tget (s.srWrite p (base + e.1) e.2).sram 0 (State.srKey p (base + a)) =
        if e.1 ≤ a ∧ a < e.1 + e.2.length then e.2.getD (a - e.1) 0 else tget s.sram 0 (State.srKey p (base + a)) := by
      have hindex : State.srKey p (base + a) - State.srKey p (base + e.1) = a - e.1 := by simp only [State.srKey]; omega
      rw [State.sram_srWrite, hindex]
      exact if_congr (by simp only [State.srKey]; omega) rfl rfl
    rw [storePieces, List.foldl_cons, ← storePieces, ih, hstore]
    rfl

/-- A byte that no piece covers. -/
theorem storePieces_other {size : Nat} {ps : List (Nat × Bytes)} (hfit : ∀ e ∈ ps, e.1 + e.2.length ≤ size) (hregion : base + size ≤ 0x100000)
    {q a : Nat} (ha : a < 0x100000) (hout : q ≠ p ∨ a < base ∨ base + size ≤ a) :
    tget (storePieces s p base ps).sram 0 (State.srKey q a) = tget s.sram 0 (State.srKey q a) := by
  induction ps generalizing s with
  | nil => rfl
  | cons e ps ih =>
    have he := hfit e (by simp)
    rw [storePieces, List.foldl_cons, ← storePieces, ih fun x hx => hfit x (by simp [hx]), State.sram_srWrite, if_neg]
    simp only [State.srKey]
    omega

end

/-! ### Stores (R187, R190) -/

/-- The piece that ST8 to ST64 store in a lane (R187). -/
def storePiece (s : State) (n : Nat) (th : Thr) (l : Nat) : Nat × Bytes :=
  (localAddr s th l, natBytes n ((opB s th l).toNat + if n = 8 then (s.thReg th l (th.sb + 1)).toNat * 2 ^ 32 else 0))

/-- The two pieces that STM40 stores in a lane (R190). -/
def m40Pieces (s : State) (th : Thr) (l : Nat) : List (Nat × Bytes) :=
  [((opA s th l).toNat, natBytes 4 (opC s th l).toNat), ((opB s th l).toNat, natBytes 1 (s.thReg th l (th.sc + 1)).toNat)]

/-- A word has stored pieces in its executing lanes and is counted; its shoal is still at it. -/
def afterStores (s : State) (th : Thr) (pieces : Nat → List (Nat × Bytes)) : State :=
  storePieces (s.countIssue th) th.p (s.thRegion th).1 ((s.lanes th).map pieces).flatten

section

variable {s : State} {p t op n : Nat} {th : Thr}

theorem State.store_good (h : Issues s p t 7 op th) (hwrite : ∀ l ∈ s.lanes th, Writable s th n n (localAddr s th l)) :
    s.store p t .ok op n = (afterStores s th fun l => [storePiece s n th l]).nextPc th := by
  refine (h.runs (fun v => ∀ l ∈ v.lanes th, Writable v th n n (localAddr v th l))
    (g := fun v => (storePieces v th.p (v.thRegion th).1 ((v.lanes th).map fun l => [storePiece v n th l]).flatten).nextPc th)
    hwrite ?_ fun v hv => ?_).trans ?_
  · simpa [s.countIssue_lanes] using hwrite
  · have hnone : v.memFault th n ((v.lanes th).map (localAddr v th)) = none := memFault_none (List.forall_mem_map.2 hv)
    simp only [v.memAddr_eq, hnone, storePieces_lanes]
    rfl
  · simp only [afterStores, s.countIssue_lanes, s.countIssue_thRegion, storePiece, localAddr_countIssue, opB_countIssue, s.countIssue_thReg]

theorem State.stm40Run_good {v : State} (hwrite : ∀ l ∈ v.lanes th, Writable v th 4 4 (opA v th l).toNat ∧ Writable v th 1 1 (opB v th l).toNat) :
    v.stm40Run th = (storePieces v th.p (v.thRegion th).1 ((v.lanes th).map (m40Pieces v th)).flatten).nextPc th := by
  have hnone : v.m40Fault th (v.lanes th) = none := m40Fault_none (fun l hl => (hwrite l hl).1) fun l hl => (hwrite l hl).2
  simp only [stm40Run, hnone, storePieces_lanes]
  rfl

theorem exec_stm40 (h : Issues s p t 0xC 1 th)
    (hwrite : ∀ l ∈ s.lanes th, Writable s th 4 4 (opA s th l).toNat ∧ Writable s th 1 1 (opB s th l).toNat) :
    exec (.stm40 p t .ok) s = .next ((afterStores s th (m40Pieces s th)).nextPc th) := by
  refine congrArg Host.Outcome.next (State.issueWord_ok h rfl (congrArg some ?_))
  have hpieces : m40Pieces (s.countIssue th) th = m40Pieces s th := by
    funext l
    simp only [m40Pieces, opA_countIssue, opB_countIssue, opC_countIssue, s.countIssue_thReg]
  rw [State.stm40Run_good (by simpa [s.countIssue_lanes] using hwrite), hpieces, s.countIssue_lanes, s.countIssue_thRegion, afterStores]

theorem storePiece_eq (hn : n ≠ 8) (l : Nat) : storePiece s n th l = (localAddr s th l, natBytes n (opB s th l).toNat) := by
  rw [storePiece, if_neg hn, Nat.add_zero]

theorem storePiece_pair (l : Nat) : storePiece s 8 th l =
    (localAddr s th l, natBytes 4 (opB s th l).toNat ++ natBytes 4 (s.reg th.p th.t l (th.sb + 1)).toNat) :=
  congrArg (Prod.mk _) (natBytes_append 4 _ (opB s th l).isLt)

/-! ### The rows of stores -/

namespace StoreRow

/-- The row's command stores the row's pieces. -/
def Runs (x : StoreRow) : Prop := ∀ s p t th, Issues s p t x.cls x.op th → (∀ l ∈ s.lanes th, x.ok s th l) →
  exec (x.cmd p t .ok) s = .next ((afterStores s th (x.pieces s th)).nextPc th)

/-- The row's pieces lie in the region of a shoal that may store them. -/
def Fits (x : StoreRow) : Prop := ∀ s th l, x.ok s th l → ∀ e ∈ x.pieces s th l, e.1 + e.2.length ≤ (s.thRegion th).2

theorem Runs.of_store {x : StoreRow} {n : Nat} (hcls : x.cls = 7) (hexec : ∀ s p t, exec (x.cmd p t .ok) s = .next (s.store p t .ok x.op n))
    (hok : ∀ s th l, x.ok s th l → Writable s th n n (localAddr s th l)) (hpieces : ∀ s th l, [storePiece s n th l] = x.pieces s th l) :
    x.Runs := fun s p t th h hwrite => by
  rw [hexec, State.store_good (hcls ▸ h) fun l hl => hok s th l (hwrite l hl), funext (hpieces s th)]

end StoreRow

theorem storeRows_run : ∀ x ∈ storeRows, x.Runs := by
  simp only [storeRows, List.forall_mem_cons, List.not_mem_nil, false_implies, implies_true, and_true]
  refine ⟨.of_store (n := 1) rfl (fun _ _ _ => rfl) (fun _ _ _ => id) fun _ _ _ => congrArg (fun e => [e]) (storePiece_eq (by decide) _),
    .of_store (n := 2) rfl (fun _ _ _ => rfl) (fun _ _ _ => id) fun _ _ _ => congrArg (fun e => [e]) (storePiece_eq (by decide) _),
    .of_store (n := 4) rfl (fun _ _ _ => rfl) (fun _ _ _ => id) fun _ _ _ => congrArg (fun e => [e]) (storePiece_eq (by decide) _),
    .of_store (n := 8) rfl (fun _ _ _ => rfl) (fun _ _ _ => id) fun _ _ _ => congrArg (fun e => [e]) (storePiece_pair _),
    fun _ _ _ _ => exec_stm40⟩

theorem storeRows_fit : ∀ x ∈ storeRows, x.Fits := by
  simp only [storeRows, List.forall_mem_cons, List.not_mem_nil, false_implies, implies_true, and_true]
  refine ⟨?_, ?_, ?_, ?_, ?_⟩
  all_goals
    intro s th l hok
    simp only [Writable, List.mem_cons, List.not_mem_nil, or_false, forall_eq_or_imp, forall_eq, List.length_append,
      natBytes_length] at hok ⊢
    omega

theorem store_spec {x : StoreRow} (hruns : x.Runs) (hfits : x.Fits) (h : Issues s p t x.cls x.op th) (hok : ∀ l ∈ s.lanes th, x.ok s th l) :
    ∃ u, exec (x.cmd p t .ok) s = .next u ∧
      (∀ a, a < (s.thRegion th).2 → tget u.sram 0 (State.srKey p ((s.thRegion th).1 + a)) =
        pieceByte (storedPieces x s th) a (tget s.sram 0 (State.srKey p ((s.thRegion th).1 + a)))) ∧
      (∀ q a, a < 0x100000 → (q ≠ p ∨ a < (s.thRegion th).1 ∨ (s.thRegion th).1 + (s.thRegion th).2 ≤ a) →
        tget u.sram 0 (State.srKey q a) = tget s.sram 0 (State.srKey q a)) ∧
      (∀ q v, u.shoal q v = if q * 32 + v = p * 32 + t then some { th.x with pc := th.x.pc + 1 } else s.shoal q v) ∧
      Same [.sram, .sramUe, .shoals, .cores, .regs, .hlk] s u := by
  obtain ⟨hp, -, -⟩ := h.place
  have hext : Ext [.sram, .sramUe] (s.countIssue th) (afterStores s th (x.pieces s th)) := storePieces_ext _
  obtain ⟨hnext, hsame⟩ := h.nextPc_after hext
  have hsram : (s.countIssue th).sram = s.sram := (s.countIssue_ext th).1 .sram (by decide)
  have hfit : ∀ e ∈ storedPieces x s th, e.1 + e.2.length ≤ (s.thRegion th).2 := fun e he => by
    obtain ⟨ps, hps, he⟩ := List.mem_flatten.1 he
    obtain ⟨l, hl, rfl⟩ := List.mem_map.1 hps
    exact hfits s th l (hok l hl) e he
  refine ⟨_, hruns s p t th h hok, fun a ha => ?_, fun q a ha hout => ?_, fun q v => ?_, hsame.mono (by decide)⟩
  · rw [hnext, ← hp, ← hsram]
    exact storePieces_byte _ a
  · rw [hnext, ← hsram]
    rw [← hp] at hout
    exact storePieces_other hfit State.thRegion_le ha hout
  · rw [hnext, State.shoal_setShoal, hext.1.shoal, s.countIssue_shoal]
    rfl

end

/-- Settles O33: a load's lanes all read before any register is written; a store is its pieces in order, each inside the region. -/
theorem localMemoryInstructions : Obligations.LocalMemoryInstructions :=
  ⟨loadRows_effect, fun x hx _ _ _ _ h hok => store_spec (storeRows_run x hx) (storeRows_fit x hx) h hok⟩

end Sys2Proof.Machine
end

section
/-! SUPPORT. Statement O34: a checker that fires ends the word of every instruction alike (R192). -/

namespace Sys2Proof.Machine

/-- The command issues the word of a CLASS and OP with one effect, whatever the shoal. -/
def IssuesWord (x : (Nat → Nat → Check → Instr) × Nat × Nat) : Prop :=
  ∃ f, ∀ s p t k, exec (x.1 p t k) s = .next (s.issueWord p t k x.2.1 x.2.2 f)

theorem checkCode_eq (k : Check) : State.checkCode k = checkerFault k := by
  cases k <;> rfl

theorem State.issueWord_checked {s : State} {p t cls op code : Nat} {th : Thr} {k : Check} (hready : s.thrAt p t = some th) (hcls : th.cls = cls)
    (hop : th.op = op) (hk : checkerFault k = some code) (f : State → Thr → Option State) :
    s.issueWord p t k cls op f = (s.countIssue th).thrFault th code := by
  simp only [issueWord, hready, hcls, hop, and_self, if_true, checkCode_eq, hk]

theorem LaneRow.Runs.issues {x : LaneRow} (h : x.Runs) : IssuesWord (x.cmd, x.cls, x.op) := ⟨_, h⟩

/-- Every command of R181's table issues its word: the lane instructions as O32 runs them, the others by their meanings. -/
theorem issueRows_issue : ∀ x ∈ issueRows, IssuesWord x := by
  simp only [issueRows, List.forall_mem_append, List.forall_mem_map]
  refine ⟨⟨⟨⟨⟨⟨fun x hx => (integerRows_run x hx).issues, fun x hx => (floatRows_run x hx).issues⟩,
    fun x hx => (predicateRows_run x hx).issues⟩, fun x hx => (crossRows_run x hx).issues⟩, ?loads⟩, ?stores⟩, ?control⟩
  case loads | stores | control =>
    simp only [loadRows, storeRows, List.forall_mem_cons, List.not_mem_nil, false_implies, implies_true, and_true]
    and_intros <;> exact ⟨_, fun _ _ _ _ => rfl⟩

/-- Settles O34: counted, a word meets its checker before its own effect, which therefore does not matter. -/
theorem checkersFaultTheThread : Obligations.CheckersFaultTheThread := by
  intro x hx s p t th k code hready hcls hop hk
  obtain ⟨f, hexec⟩ := issueRows_issue x hx
  rw [hexec, State.issueWord_checked hready hcls hop hk]

end Sys2Proof.Machine
end

section
/-! SUPPORT. Statements O4 and O5: memory keeps its canonical form (R208 to R211). -/

namespace Sys2Proof.Machine

/-- A command's frame says that it keeps memory canonical. -/
theorem exec_memOk {c : Instr} {s u : State} (hok : s.memOk) (hexec : exec c s = .next u) : u.memOk :=
  ((exec_ext c s).all u hexec).2 hok

/-- A tick writes no memory. -/
theorem State.tick_memOk {s : State} (hok : s.memOk) : s.tick.memOk := by
  rw [s.tick_clock]
  exact hok

/-- Settles O4: a step is a tick or a command, on the state whose queue alone is shorter. -/
theorem stepKeepsMemoryCanonical : Obligations.StepKeepsMemoryCanonical := by
  intro s u hok hstep
  cases hqueue : s.pending with
  | nil =>
    rw [step, hqueue] at hstep
    obtain rfl := Host.Outcome.next.inj hstep
    exact State.tick_memOk hok
  | cons c rest =>
    rw [step, hqueue] at hstep
    exact exec_memOk (s := { s with pending := rest }) hok hstep

/-- Settles O5: nothing is listed at reset. -/
theorem resetMemoryCanonical : Obligations.ResetMemoryCanonical := rfl

end Sys2Proof.Machine
end

section
/-! SUPPORT. Statement O45: the bytes of a page descriptor and the fields that read back from them (R223). -/

namespace Sys2Proof.Machine

/-! ### Fields that follow each other (R5) -/

theorem natBytes_take {k n : Nat} (v : Nat) (h : n ≤ k) : (natBytes k v).take n = natBytes n v := by
  induction n generalizing k v with
  | zero => rfl
  | succ n ih =>
    obtain ⟨k, rfl⟩ : ∃ j, k = j + 1 := ⟨k - 1, by omega⟩
    rw [natBytes, natBytes, List.take_succ_cons, ih _ (by omega)]

/-- The low bytes of the field at the front of a list. -/
theorem bat_natBytes_low {k n : Nat} (v : Nat) (m : Bytes) (h : n ≤ k) : bat (natBytes k v ++ m) 0 n = v % 2 ^ (8 * n) := by
  rw [bat, List.drop_zero, List.take_append_of_le_length (by simpa using h), natBytes_take v h, leNat_natBytes]

/-- A field behind the front of a list. -/
theorem bat_natBytes_skip {k o : Nat} (v : Nat) (m : Bytes) (n : Nat) (h : k ≤ o) : bat (natBytes k v ++ m) o n = bat m (o - k) n := by
  obtain ⟨d, rfl⟩ := Nat.exists_eq_add_of_le h
  rw [State.bat_append_right (natBytes_length k v), Nat.add_sub_cancel_left]

/-! ### The DCRC -/

theorem crcByte_lt {c : Nat} (b : Byte) (hc : c < 2 ^ 32) : crcByte c b < 2 ^ 32 := by
  have hb : b.toNat < 2 ^ 32 := Nat.lt_of_lt_of_le b.isLt (by decide)
  refine foldl_all (P := (· < 2 ^ 32)) (Nat.xor_lt_two_pow hc hb) fun c _ hc => ?_
  have hhalf : c / 2 < 2 ^ 32 := Nat.lt_of_le_of_lt (Nat.div_le_self c 2) hc
  split
  · exact Nat.xor_lt_two_pow hhalf (by decide)
  · exact hhalf

theorem crc32_lt (bs : Bytes) : crc32 bs < 2 ^ 32 :=
  Nat.xor_lt_two_pow (foldl_all (P := (· < 2 ^ 32)) (by decide) fun _ b hc => crcByte_lt b hc) (by decide)

/-! ### The layout of R223 -/

namespace Xent

variable (e : Xent)

/-- A page descriptor before its DCRC. -/
def body : Bytes :=
  natBytes 8 (e.va + e.log2) ++ natBytes 8 e.pa ++ natBytes 2 e.flags.toNat ++ natBytes 2 e.ref.toNat ++ natBytes 4 e.tag.toNat ++
    natBytes 4 0

theorem bytes_eq : e.bytes = e.body ++ natBytes 4 (crc32 e.body) := rfl

theorem body_length : e.body.length = 28 := by simp [body]

theorem bytes_length : e.bytes.length = 32 := by simp [bytes_eq, body_length]

theorem bytes_take : e.bytes.take 28 = e.body := List.take_left' e.body_length

/-- What the descriptor's bytes hold, field by field. -/
structure Layout (d : Bytes) : Prop where
  va : bat d 0 8 = e.va + e.log2
  pa : bat d 8 8 = e.pa
  flags : bat d 16 2 = e.flags.toNat
  low : bat d 16 1 = e.flags.toNat % 256
  ref : bat d 18 2 = e.ref.toNat
  tag : bat d 20 4 = e.tag.toNat
  zero : bat d 24 4 = 0
  crc : bat d 28 4 = crc32 (d.take 28)

theorem bytes_layout (hva : e.va + e.log2 < 2 ^ 64) (hpa : e.pa < 2 ^ 64) : e.Layout e.bytes := by
  have hfront : e.bytes = natBytes 8 (e.va + e.log2) ++ (natBytes 8 e.pa ++ (natBytes 2 e.flags.toNat ++ (natBytes 2 e.ref.toNat ++
      (natBytes 4 e.tag.toNat ++ (natBytes 4 0 ++ (natBytes 4 (crc32 e.body) ++ [])))))) := by
    simp only [bytes_eq, body, List.append_assoc, List.append_nil]
  have hcrc := crc32_lt e.body
  have hflags := e.flags.isLt
  have href := e.ref.isLt
  have htag := e.tag.isLt
  constructor
  case crc =>
    rw [bytes_take]
    simp only [hfront, bat_natBytes_skip, bat_natBytes_low, Nat.reduceLeDiff, Nat.reduceSub, Nat.le_refl]
    exact Nat.mod_eq_of_lt hcrc
  all_goals
    simp only [hfront, bat_natBytes_skip, bat_natBytes_low, Nat.reduceLeDiff, Nat.reduceSub, Nat.reduceMul, Nat.le_refl, Nat.zero_mod]
    try omega

variable {e} {d : Bytes}

/-- Reading the layout back gives the entry: a page's base leaves the low twelve bits to LOG2SIZE. -/
theorem Layout.ofBytes (h : e.Layout d) (hva : e.va < 2 ^ 57) (hvaPage : e.va % 4096 = 0) (hpa : e.pa < 2 ^ 53) (hpaPage : e.pa % 4096 = 0)
    (hlog : e.log2 < 64) : Xent.ofBytes d = e := by
  have hbase : (e.va + e.log2) / 4096 * 4096 % 2 ^ 57 = e.va := by omega
  have hsize : (e.va + e.log2) % 64 = e.log2 := by omega
  have hpage : e.pa / 4096 * 4096 % 2 ^ 53 = e.pa := by
    rw [Nat.div_mul_cancel (Nat.dvd_of_mod_eq_zero hpaPage), Nat.mod_eq_of_lt hpa]
  rw [Xent.ofBytes, h.va, h.pa, h.flags, h.ref, h.tag, hbase, hsize, hpage]
  simp only [BitVec.ofNat_toNat, BitVec.setWidth_eq]

theorem Layout.valid (h : e.Layout d) : descValid d = e.flags.toNat.testBit 0 := by
  have hbit : e.flags.toNat % 256 % 2 = e.flags.toNat % 2 := by omega
  rw [descValid, h.low, hbit, Nat.testBit_zero]

theorem Layout.crcOk (h : e.Layout d) : descCrcOk d = true := decide_eq_true h.crc

theorem Layout.reservedOk (h : e.Layout d) (hva : e.va < 2 ^ 57) (hvaPage : e.va % 4096 = 0) (hpa : e.pa < 2 ^ 53)
    (hpaPage : e.pa % 4096 = 0) (hlog : e.log2 < 64) (hlow : nfld e.flags.toNat 7 5 = 0) (hhigh : nfld e.flags.toNat 15 12 = 0) :
    descReservedOk d = true := by
  have htop : (e.va + e.log2) / 2 ^ 57 = 0 := Nat.div_eq_of_lt (by omega)
  have hpaTop : e.pa / 2 ^ 53 = 0 := Nat.div_eq_of_lt hpa
  have hmid : nfld (e.va + e.log2) 11 6 = 0 := by
    simp only [nfld]
    omega
  rw [descReservedOk, h.va, h.pa, h.flags, h.zero, htop, hmid, hpaTop, hpaPage, hlow, hhigh]
  rfl

variable (e)

/-- A slice may hold the entry where its mask is 0 or has the slice's bit (R223). -/
theorem allows_iff {k : Nat} (hk : k < 4) :
    e.allows k = true ↔ nfld e.flags.toNat 11 8 = 0 ∨ e.flags.toNat.testBit (8 + k) = true := by
  have hbit : (nfld e.flags.toNat 11 8).testBit k = e.flags.toNat.testBit (8 + k) := by
    rw [nfld, Nat.testBit_mod_two_pow, Nat.testBit_div_two_pow, decide_eq_true hk, Bool.true_and, Nat.add_comm]
  simp only [allows, Bool.or_eq_true, decide_eq_true_eq, hbit]

end Xent

/-- Settles O45: every field stands at its place, so the fields read back, and the checks are sums over them. -/
theorem descriptorRoundTrip : Obligations.DescriptorRoundTrip := by
  intro e hva hvaPage hpa hpaPage hlog
  have h : e.Layout e.bytes := e.bytes_layout (by omega) (by omega)
  have hback : Xent.ofBytes e.bytes = e := h.ofBytes hva hvaPage hpa hpaPage hlog
  refine ⟨e.bytes_length, h.va, h.pa, h.flags, h.ref, h.tag, h.zero, h.crc, hback, h.crcOk, h.valid, rfl, rfl, rfl, rfl,
    fun _ => e.allows_iff, h.reservedOk hva hvaPage hpa hpaPage hlog, fun hmin hmax hvaSize hpaSize => ?_⟩
  simp [descSizeOk, hback, Xent.size, hmin, hmax, hvaSize, hpaSize]

end Sys2Proof.Machine
end

section
/-! SUPPORT. What a detection outside a step and a correction leave: the relation Noted of their counters and records (R390, R405), and
what an event counted and raised on one page shows (R68, R74). -/

namespace Sys2Proof.Machine

/-- The counters that reports of errors and their records go into (R390, R405, R412, R413). -/
def reportCounters : List Nat :=
  [regAt .ras 0 0x200, regAt .ras 0 (0x200 + 8 * 1), regAt .ras 0 (0x200 + 8 * 11), regAt .tlm 0 (0x200 + 8 * 23)]

/-- From s to u an error is reported: registers change on the pages from RAS on only, counters only where reports are counted, and
memory stays. -/
structure Noted (s u : State) : Prop where
  below : ∀ a, a < 0x280000 → u.rd a = s.rd a
  counters : ∀ a, 0x200 ≤ a % 0x1000 → a ∉ reportCounters → u.rd a = s.rd a
  mem : u.mem = s.mem

namespace Noted

variable {s t u : State}

theorem refl (s : State) : Noted s s := ⟨fun _ _ => rfl, fun _ _ _ => rfl, rfl⟩

theorem trans (h : Noted s t) (k : Noted t u) : Noted s u :=
  ⟨fun a ha => (k.below a ha).trans (h.below a ha), fun a ha hn => (k.counters a ha hn).trans (h.counters a ha hn), k.mem.trans h.mem⟩

theorem of_regs (hregs : u.regs = s.regs) (hmem : u.mem = s.mem) : Noted s u :=
  ⟨fun a _ => State.rd_of_regs hregs a, fun a _ _ => State.rd_of_regs hregs a, hmem⟩

theorem bump {b : Blk} {off n : Nat} (hb : 0x280000 ≤ pageBase b 0) (hc : regAt b 0 off ∈ reportCounters) : Noted s (s.bump b 0 off n) where
  below _ ha := State.rd_bump_below s (Nat.lt_of_lt_of_le ha hb)
  counters _ ha hn := State.rd_bump_counter ha fun e => hn (e ▸ hc)
  mem := (State.bump_ext ..).1 .mem (by decide)

theorem raise_ras {n : Nat} : Noted s (s.raise .ras 0 n) where
  below _ ha := State.rd_raise_below s ha
  counters _ ha _ := State.rd_raise_counter ha
  mem := (State.raise_ext ..).1 .mem (by decide)

theorem putRecord (r : FRec) : Noted s (s.putRecord r) := by
  have hnum (l : List FRec) : Noted s (s.numbered l) := by
    unfold State.numbered
    refine trans ?_ (Noted.bump (b := .tlm) (off := 0x200 + 8 * 23) (by decide) (by decide))
    exact of_regs rfl rfl
  rcases s.putRecord_cases r with ⟨-, l, e⟩ | ⟨n, ⟨l, e⟩ | e⟩
  · rw [e]
    exact of_regs rfl rfl
  · rw [e]
    exact (hnum n).trans (of_regs rfl rfl)
  · rw [e]
    exact ((hnum n).trans (Noted.bump (b := .ras) (off := 0x200 + 8 * 11) (by decide) (by decide))).trans raise_ras

theorem corrected {b : Blk} {i kind phys addr : Nat} : Noted s (s.corrected b i kind phys addr) :=
  (Noted.bump (b := .ras) (off := 0x200 + 8 * 1) (by decide) (by decide)).trans (putRecord _)

theorem detected {b : Blk} {i kind detail addr : Nat} : Noted s (s.detected b i kind 0 none detail addr) := by
  have hcount : Noted s (s.bump .ras 0 (0x200 + 8 * 0) 1).freeByte.2 :=
    (Noted.bump (b := .ras) (off := 0x200 + 8 * 0) (by decide) (by decide)).trans (of_regs rfl rfl)
  unfold State.detected
  exact hcount.trans (putRecord _)

theorem g (h : Noted s u) {b : Blk} {i off : Nat} (ha : regAt b i off < 0x280000) (hi lo : Nat) : u.g b i off hi lo = s.g b i off hi lo :=
  congrArg (fld · hi lo) (h.below _ ha)

theorem counted (h : Noted t u) {b : Blk} {i off n : Nat} (hc : Counted s t b i off n) (ha : 0x200 ≤ regAt b i off % 0x1000)
    (hn : regAt b i off ∉ reportCounters) : Counted s u b i off n := hc.between rfl (h.counters _ ha hn)

end Noted

namespace State

variable {s : State}

/-- A detection outside a step makes a record of its source and KIND (R390, R405). -/
theorem detected_recorded {b : Blk} {i kind detail addr : Nat} :
    Recorded s (s.detected b i kind 0 none detail addr) (typeCode b) i kind := by
  have hras : (s.bump .ras 0 (0x200 + 8 * 0) 1).ras = s.ras := (bump_ext ..).1 .ras (by decide)
  have hrec : Recorded (s.bump .ras 0 (0x200 + 8 * 0) 1).freeByte.2 (s.detected b i kind 0 none detail addr) (typeCode b) i kind :=
    putRecord_recorded (show (0 : Nat) ≠ 2 by decide)
  unfold Recorded at hrec ⊢
  change (s.bump .ras 0 (0x200 + 8 * 0) 1).ras.pending.length < 199 → _ at hrec
  rw [← hras]
  exact hrec

/-- An event that is counted and then raised: both show, and nothing else but registers and messages changes. -/
theorem counted_raised {b : Blk} {i off n ev : Nat} (hoff : 0x200 ≤ off) (hoff' : off < 0x1000) (hn : n ≠ 0) (hev : ev < 64) :
    Counted s ((s.bump b i off n).raise b i ev) b i off n ∧ ((s.bump b i off n).raise b i ev).g b i Off.event ev ev = 1 ∧
      Same [.regs, .hlk] s ((s.bump b i off n).raise b i ev) := by
  have hmod : 0x200 ≤ regAt b i off % 0x1000 := by rwa [regAt_mod hoff']
  exact ⟨(bump_counted _ hn).between rfl (rd_raise_counter hmod), fld_event_raise_same _ hev, ((bump_ext ..).1).trans (raise_ext ..).1⟩

end State

end Sys2Proof.Machine
end

section
/-! SUPPORT. Statement O42: the registers, poison and events of stacked DRAM and of the DIMM channels (R210, R212, R213, R215, R217, R218). -/

namespace Sys2Proof.Machine

namespace State

variable {s : State}

/-! ### The interleave setting (R210) -/

theorem ofNat_fld_low (v : Word) : BitVec.ofNat 64 (fld v 16 0) = v &&& 0x1FFFF := by
  apply BitVec.eq_of_toNat_eq
  have hmask : v.toNat &&& 2 ^ 17 - 1 = v.toNat % 2 ^ 17 := Nat.and_two_pow_sub_one_eq_mod ..
  have hlt : v.toNat % 2 ^ 17 < 2 ^ 64 := Nat.lt_trans (Nat.mod_lt _ (by decide)) (by decide)
  calc (BitVec.ofNat 64 (fld v 16 0)).toNat = v.toNat % 2 ^ 17 := by
        rw [fld, nfld, Nat.pow_zero, Nat.div_one, BitVec.toNat_ofNat, Nat.mod_eq_of_lt hlt]
    _ = (v &&& 0x1FFFF).toNat := hmask.symm

theorem fld_eq_iff_bit (v w : Word) (n : Nat) : fld v n n = fld w n n ↔ bit v n = bit w n := by
  simp only [bit, Nat.testBit_eq_decide_div_mod_eq, fld, nfld, Nat.add_sub_cancel_left, Nat.pow_one, decide_eq_decide]
  omega

/-- A write that keeps the interleave bit takes effect. -/
theorem sdmCfg_keep {b : Nat} {v : Word} (hbit : bit v 16 = bit (s.rd (regAt .sdm b Off.sdmCfg)) 16) :
    s.sdmCfg b v = s.wr (regAt .sdm b Off.sdmCfg) (v &&& 0x1FFFF) := by
  rw [sdmCfg, ofNat_fld_low, if_pos ((fld_eq_iff_bit ..).2 hbit)]

/-- A write that changes it on a running page is refused. -/
theorem sdmCfg_refuse {b : Nat} {v : Word} (hbit : bit v 16 ≠ bit (s.rd (regAt .sdm b Off.sdmCfg)) 16)
    (hrun : tget s.rst.quiesced false (pageBase .sdm b) = false) : s.sdmCfg b v = s.raise .sdm b Ev.sdmCfgRefused := by
  rw [sdmCfg, if_neg (mt (fld_eq_iff_bit ..).1 hbit), if_neg (by simp [hrun])]

/-- On a quiesced page it takes effect and the basin's contents are lost. -/
theorem sdmCfg_change {b : Nat} {v : Word} (hbit : bit v 16 ≠ bit (s.rd (regAt .sdm b Off.sdmCfg)) 16)
    (hquiet : tget s.rst.quiesced false (pageBase .sdm b) = true) :
    s.sdmCfg b v = (s.wr (regAt .sdm b Off.sdmCfg) (v &&& 0x1FFFF)).forget (b * 0x400000000) 0x400000000 := by
  rw [sdmCfg, ofNat_fld_low, if_neg (mt (fld_eq_iff_bit ..).1 hbit), if_pos hquiet]

theorem memByte_forget {a n k : Nat} (hk : ¬(a ≤ k ∧ k < a + n)) : memByte (s.forget a n) k = memByte s k := by
  unfold memByte forget
  rw [tget_tdrop, if_neg (by simpa using hk)]

theorem wr_only (a : Nat) (w : Word) : RegsOnly [a] s (s.wr a w) := fun _ hx => rd_wr_other _ _ (by simpa using hx)

end State

theorem exec_sdmCfgWrite {s : State} {b : Nat} {v : Word} (hb : b < 4) (hready : s.ready .sdm b = true) :
    exec (.sdmCfgWrite b v) s = .next (s.sdmCfg b v) :=
  congrArg Host.Outcome.next ((if_pos hb).trans (if_pos hready))

/-- The interleave setting of a basin (R210). -/
theorem interleave_written {s : State} {b : Nat} {v : Word} (hb : b < 4) (hready : s.ready .sdm b = true) :
    (bit v 16 = bit (s.rd (regAt .sdm b Off.sdmCfg)) 16 → ∃ u, exec (.sdmCfgWrite b v) s = .next u ∧
      u.rd (regAt .sdm b Off.sdmCfg) = v &&& 0x1FFFF ∧ RegsOnly [regAt .sdm b Off.sdmCfg] s u ∧ Same [.regs] s u) ∧
    (bit v 16 ≠ bit (s.rd (regAt .sdm b Off.sdmCfg)) 16 → tget s.rst.quiesced false (pageBase .sdm b) = false →
      ∃ u, exec (.sdmCfgWrite b v) s = .next u ∧ EventSet s u .sdm b Ev.sdmCfgRefused ∧
        RegsOnly [regAt .sdm b Off.event] s u ∧ Same [.regs, .hlk] s u) ∧
    (bit v 16 ≠ bit (s.rd (regAt .sdm b Off.sdmCfg)) 16 → tget s.rst.quiesced false (pageBase .sdm b) = true →
      ∃ u, exec (.sdmCfgWrite b v) s = .next u ∧ u.rd (regAt .sdm b Off.sdmCfg) = v &&& 0x1FFFF ∧
        RegsOnly [regAt .sdm b Off.sdmCfg] s u ∧
        (∀ a, ¬(b * 0x400000000 ≤ a ∧ a < (b + 1) * 0x400000000) → memByte u a = memByte s a) ∧ Same [.regs, .mem] s u) := by
  have hexec := exec_sdmCfgWrite (v := v) hb hready
  refine ⟨fun hbit => ⟨_, hexec, ?_⟩, fun hbit hrun => ⟨_, hexec, ?_⟩, fun hbit hquiet => ⟨_, hexec, ?_⟩⟩
  · rw [State.sdmCfg_keep hbit]
    exact ⟨State.rd_wr_same .., State.wr_only _ _, (State.wr_ext ..).1⟩
  · rw [State.sdmCfg_refuse hbit hrun]
    exact s.raise_only_event ..
  · rw [State.sdmCfg_change hbit hquiet]
    refine ⟨State.rd_wr_same .., State.wr_only _ _, fun a ha => State.memByte_forget (by omega), ?_⟩
    exact ((State.wr_ext ..).1.mono rfl).trans ((State.forget_ext ..).1.mono rfl)

/-! ### What a scrub finds (R212, R213, R217, R218) -/

/-- An error that a scrub finds: the word of the page's log, its counter, the die's counter, and the event. -/
def State.scrubLog (s : State) (b : Blk) (i logOff : Nat) (w : Word) (cnt tl ev : Nat) : State :=
  (((s.wr (regAt b i logOff) w).bump b i cnt 1).bump .tlm 0 tl 1).raise b i ev

section Scrub

variable {s u : State} {b : Blk} {i logOff cnt tl ev : Nat} {w : Word}

/-- What stays of it behind the report of the error. -/
structure ScrubLogged (s u : State) (b : Blk) (i logOff : Nat) (w : Word) (cnt tl ev : Nat) : Prop where
  counted : Counted s u b i cnt 1
  total : Counted s u .tlm 0 tl 1
  event : u.g b i Off.event ev ev = 1
  log : u.rd (regAt b i logOff) = w
  mem : u.mem = s.mem

theorem ScrubLogged.of_noted (hn : Noted (s.scrubLog b i logOff w cnt tl ev) u) (hpage : pageBase b i + 0x1000 ≤ 0x280000)
    (hlog : 0x100 ≤ logOff := by decide) (hlog' : logOff < 0x200 := by decide) (hcnt : 0x200 ≤ cnt := by decide)
    (hcnt' : cnt < 0x1000 := by decide) (htl : 0x200 ≤ tl := by decide) (htl' : tl < 0x1000 := by decide)
    (htotal : regAt .tlm 0 tl ∉ reportCounters := by decide) (hev : ev < 64 := by decide) : ScrubLogged s u b i logOff w cnt tl ev := by
  have hbelow {off : Nat} (ho : off < 0x1000) : regAt b i off < 0x280000 := Nat.lt_of_lt_of_le (Nat.add_lt_add_left ho _) hpage
  have hmodc : 0x200 ≤ regAt b i cnt % 0x1000 := by rwa [regAt_mod hcnt']
  have hmodt : 0x200 ≤ regAt .tlm 0 tl % 0x1000 := by rwa [regAt_mod htl']
  have hpages {off : Nat} (ho : off < 0x1000) : regAt b i off ≠ regAt .tlm 0 tl := by
    have := hbelow ho
    simp only [regAt, pageBase] at this ⊢
    omega
  have hcalm : Calm (regAt b i logOff) := by rw [Calm, regAt_mod (by omega)]; exact ⟨hlog, hlog'⟩
  refine ⟨?_, ?_, ?_, ?_, ?_⟩
  · refine (State.bump_counted (s := s.wr (regAt b i logOff) w) Nat.one_ne_zero).between ?_ ?_
    · exact State.rd_wr_other _ _ (regAt_ne (by omega))
    · rw [hn.below _ (hbelow hcnt'), State.scrubLog, State.rd_raise_counter hmodc, State.rd_bump_counter hmodc (hpages hcnt')]
  · refine (State.bump_counted (s := (s.wr (regAt b i logOff) w).bump b i cnt 1) Nat.one_ne_zero).between ?_ ?_
    · rw [State.rd_bump_counter hmodt (hpages hcnt').symm, State.rd_wr_other _ _ (hpages (by omega)).symm]
    · rw [hn.counters _ hmodt htotal, State.scrubLog, State.rd_raise_counter hmodt]
  · rw [hn.g (hbelow (by decide))]
    exact State.fld_event_raise_same _ hev
  · rw [hn.below _ (hbelow (by omega))]
    have hkept : Kept (regAt b i logOff) false (s.wr (regAt b i logOff) w) (s.scrubLog b i logOff w cnt tl ev) :=
      (((Kept.refl hcalm _).bump (by simp [isCounter, hcnt, hcnt'])).bump (by simp [isCounter, htl, htl'])).raise
    exact hkept.rd.trans (State.rd_wr_same ..)
  · calc u.mem = (s.scrubLog b i logOff w cnt tl ev).mem := hn.mem
      _ = (((s.wr (regAt b i logOff) w).bump b i cnt 1).bump .tlm 0 tl 1).mem := (State.raise_ext ..).1 .mem (by decide)
      _ = ((s.wr (regAt b i logOff) w).bump b i cnt 1).mem := (State.bump_ext ..).1 .mem (by decide)
      _ = s.mem := (State.bump_ext ..).1 .mem (by decide)

end Scrub

/-! ### Stacked DRAM (R210 to R213) -/

/-- SDM_ERRLOG of an error at a basin offset (R213). -/
def State.sdmWord (s : State) (b o : Nat) (ue : Bool) : Word :=
  BitVec.ofNat 64 ((if ue then 2 ^ 63 else 0) + 2 ^ 62 + s.vaultOf b o * 2 ^ 56 + o / 32 * 32)

section Sdm

variable {s : State} {b off : Nat}

theorem vaultOf_lt (hoff : off < 2 ^ 34) : s.vaultOf b off < 64 := by
  unfold State.vaultOf
  split <;> omega

theorem sdmWord_kind (hoff : off < 2 ^ 34) (ue : Bool) : fld (s.sdmWord b off ue) 63 62 = if ue then 3 else 1 := by
  have hv := vaultOf_lt (s := s) (b := b) hoff
  cases ue <;> simp only [State.sdmWord, fld, nfld, BitVec.toNat_ofNat, if_true, if_false, Bool.false_eq_true] <;> omega

theorem sdmWord_addr (hoff : off < 2 ^ 34) (ue : Bool) : fld (s.sdmWord b off ue) 55 0 = off / 32 * 32 := by
  have hv := vaultOf_lt (s := s) (b := b) hoff
  cases ue <;> simp only [State.sdmWord, fld, nfld, BitVec.toNat_ofNat, if_true, if_false, Bool.false_eq_true] <;> omega

theorem wr_setPoison {a k : Nat} {w : Word} {v : Bool} : (s.wr a w).setPoison k v = (s.setPoison k v).wr a w := rfl

theorem sdmErr_ce : s.sdmErr b off false =
    (s.scrubLog .sdm b Off.sdmErrlog (s.sdmWord b off false) 0x200 (0x200 + 8 * 16) Ev.sdmCe).corrected .sdm b 0x04
      (addr := b * 0x400000000 + off / 32 * 32) := by
  rw [State.sdmErr, if_neg Bool.false_ne_true]
  rfl

theorem sdmErr_ue : s.sdmErr b off true =
    ((s.setPoison (b * 0x400000000 + off / 32 * 32) true).scrubLog .sdm b Off.sdmErrlog (s.sdmWord b off true) 0x208 (0x200 + 8 * 17)
      Ev.sdmUe).detected .sdm b 0x05 0 (addr := b * 0x400000000 + off / 32 * 32) := by
  rw [State.sdmErr, if_pos rfl, wr_setPoison]
  rfl

theorem sdm_page_below (hb : b < 4) : pageBase .sdm b + 0x1000 ≤ 0x280000 := by
  simp only [pageBase]
  omega

theorem sdmErr_ce_logged (hb : b < 4) :
    ScrubLogged s (s.sdmErr b off false) .sdm b Off.sdmErrlog (s.sdmWord b off false) 0x200 (0x200 + 8 * 16) Ev.sdmCe := by
  rw [sdmErr_ce]
  exact .of_noted Noted.corrected (sdm_page_below hb)

theorem sdmErr_ue_logged (hb : b < 4) : ScrubLogged (s.setPoison (b * 0x400000000 + off / 32 * 32) true) (s.sdmErr b off true) .sdm b
    Off.sdmErrlog (s.sdmWord b off true) 0x208 (0x200 + 8 * 17) Ev.sdmUe := by
  rw [sdmErr_ue]
  exact .of_noted Noted.detected (sdm_page_below hb)

end Sdm

section Exec

variable {s : State} {b off : Nat} (hb : b < 4) (hoff : off < 2 ^ 34) (hready : s.ready .sdm b = true)
  (hrate : 0 < s.g .sdm b Off.sdmCfg 15 8)

include hb hoff hready hrate

theorem exec_sdmScrubStep (ue ce passEnd : Bool) : exec (.sdmScrubStep b off ue ce passEnd) s = .next
    (let s := if ue then s.sdmErr b off true else if ce then s.sdmErr b off false else s
     if passEnd then (s.bump .sdm b 0x218 1).raise .sdm b Ev.sdmScrubPass else s) :=
  congrArg Host.Outcome.next (if_pos ⟨hb, hoff, hready, hrate⟩)

theorem exec_sdmScrubStep_pass : exec (.sdmScrubStep b off false false true) s =
    .next ((s.bump .sdm b 0x218 1).raise .sdm b Ev.sdmScrubPass) := by
  simp only [exec_sdmScrubStep hb hoff hready hrate, if_true, if_false, Bool.false_eq_true]

theorem exec_sdmScrubStep_ce : exec (.sdmScrubStep b off false true false) s = .next (s.sdmErr b off false) := by
  simp only [exec_sdmScrubStep hb hoff hready hrate, if_true, if_false, Bool.false_eq_true]

theorem exec_sdmScrubStep_ue (ce : Bool) : exec (.sdmScrubStep b off true ce false) s = .next (s.sdmErr b off true) := by
  simp only [exec_sdmScrubStep hb hoff hready hrate, if_true, if_false, Bool.false_eq_true]

end Exec

theorem scrubLog_recorded {s : State} {b : Blk} {i logOff cnt tl ev kind addr : Nat} {w : Word} :
    Recorded s ((s.scrubLog b i logOff w cnt tl ev).detected b i kind 0 none 0 addr) (typeCode b) i kind := by
  have hras : (s.scrubLog b i logOff w cnt tl ev).ras = s.ras :=
    calc (s.scrubLog b i logOff w cnt tl ev).ras
        = (((s.wr (regAt b i logOff) w).bump b i cnt 1).bump .tlm 0 tl 1).ras := (State.raise_ext ..).1 .ras (by decide)
      _ = ((s.wr (regAt b i logOff) w).bump b i cnt 1).ras := (State.bump_ext ..).1 .ras (by decide)
      _ = s.ras := (State.bump_ext ..).1 .ras (by decide)
  have hrec : Recorded (s.scrubLog b i logOff w cnt tl ev) ((s.scrubLog b i logOff w cnt tl ev).detected b i kind 0 none 0 addr)
    (typeCode b) i kind := State.detected_recorded
  unfold Recorded at hrec ⊢
  rwa [← hras]

/-- Patrol scrub of stacked DRAM (R212, R213). -/
theorem sdmScrub {s : State} {b off : Nat} (hb : b < 4) (hoff : off < 2 ^ 34) (hready : s.ready .sdm b = true)
    (hrate : 0 < s.g .sdm b Off.sdmCfg 15 8) :
    (∃ u, exec (.sdmScrubStep b off false false true) s = .next u ∧ Counted s u .sdm b 0x218 1 ∧
      u.g .sdm b Off.event Ev.sdmScrubPass Ev.sdmScrubPass = 1 ∧ Same [.regs, .hlk] s u) ∧
    (∃ u, exec (.sdmScrubStep b off false true false) s = .next u ∧ Counted s u .sdm b 0x200 1 ∧
      u.g .sdm b Off.event Ev.sdmCe Ev.sdmCe = 1 ∧ u.g .sdm b Off.sdmErrlog 63 62 = 1 ∧
      u.g .sdm b Off.sdmErrlog 55 0 = off / 32 * 32 ∧ Counted s u .tlm 0 (0x200 + 8 * 16) 1 ∧ u.mem = s.mem) ∧
    (∃ u, exec (.sdmScrubStep b off true false false) s = .next u ∧ Counted s u .sdm b 0x208 1 ∧
      u.g .sdm b Off.event Ev.sdmUe Ev.sdmUe = 1 ∧ u.g .sdm b Off.sdmErrlog 63 62 = 3 ∧
      (∀ w, tget u.mem.poison false w = (tget s.mem.poison false w || decide (w = b * 0x400000000 + off / 32 * 32))) ∧
      u.mem.bytes = s.mem.bytes ∧ Recorded s u 0x06 b 0x05) := by
  refine ⟨⟨_, exec_sdmScrubStep_pass hb hoff hready hrate, State.counted_raised (by decide) (by decide) (by decide) (by decide)⟩,
    ⟨_, exec_sdmScrubStep_ce hb hoff hready hrate, ?_⟩, ⟨_, exec_sdmScrubStep_ue hb hoff hready hrate _, ?_⟩⟩
  · obtain ⟨hcount, htotal, hevent, hlog, hmem⟩ := sdmErr_ce_logged (s := s) (off := off) hb
    exact ⟨hcount, hevent, (congrArg (fld · 63 62) hlog).trans (sdmWord_kind hoff _),
      (congrArg (fld · 55 0) hlog).trans (sdmWord_addr hoff _), htotal, hmem⟩
  · obtain ⟨hcount, -, hevent, hlog, hmem⟩ := sdmErr_ue_logged (s := s) (off := off) hb
    refine ⟨hcount, hevent, (congrArg (fld · 63 62) hlog).trans (sdmWord_kind hoff _), fun w => ?_, (congrArg Mem.bytes hmem).trans rfl, ?_⟩
    · calc tget (s.sdmErr b off true).mem.poison false w
          = tget (s.setPoison (b * 0x400000000 + off / 32 * 32) true).mem.poison false w := by rw [hmem]
        _ = if w = b * 0x400000000 + off / 32 * 32 then true else tget s.mem.poison false w := tget_tset ..
        _ = (tget s.mem.poison false w || decide (w = b * 0x400000000 + off / 32 * 32)) := by split <;> simp [*]
    · rw [sdmErr_ue]
      exact scrubLog_recorded (s := s.setPoison (b * 0x400000000 + off / 32 * 32) true)

/-- Memory after a spare row replaces one (R212). -/
def Mem.remapped (m : Mem) (b v row : Nat) : Mem :=
  { m with spareUsed := tset m.spareUsed 0 (b * 64 + v) (tget m.spareUsed 0 (b * 64 + v) + 1), remaps := m.remaps ++ [(b * 64 + v, row)] }

/-- Row repair of stacked DRAM (R212). -/
theorem rowRemap {s : State} {b v row : Nat} (hb : b < 4) (hv : v < 64) (hready : s.ready .sdm b = true) :
    (tget s.mem.spareUsed 0 (b * 64 + v) < 64 → ∃ u, exec (.sdmRowRemap b v row) s = .next u ∧
      u.mem.remaps = s.mem.remaps ++ [(b * 64 + v, row)] ∧ u.sparesLeft b v = s.sparesLeft b v - 1 ∧
      u.mem.bytes = s.mem.bytes ∧ u.mem.poison = s.mem.poison ∧ Counted s u .sdm b 0x210 1 ∧
      u.g .sdm b Off.event Ev.sdmRepairDone Ev.sdmRepairDone = 1 ∧ Same [.regs, .hlk, .mem] s u) ∧
    (64 ≤ tget s.mem.spareUsed 0 (b * 64 + v) → ∃ u, exec (.sdmRowRemap b v row) s = .next u ∧
      EventSet s u .sdm b Ev.sdmRepairExhausted ∧ Same [.regs, .hlk] s u) := by
  have hspares : s.sparesLeft b v = 64 - tget s.mem.spareUsed 0 (b * 64 + v) := rfl
  refine ⟨fun hleft => ?_, fun hnone => ?_⟩
  · have hne : s.sparesLeft b v ≠ 0 := by omega
    have hexec : exec (.sdmRowRemap b v row) s =
        .next (({ s with mem := s.mem.remapped b v row }.bump .sdm b 0x210 1).raise .sdm b Ev.sdmRepairDone) :=
      congrArg Host.Outcome.next ((if_pos ⟨hb, hv, hready⟩).trans (if_neg hne))
    obtain ⟨hcount, hevent, hsame⟩ := State.counted_raised (s := { s with mem := s.mem.remapped b v row }) (b := .sdm) (i := b)
      (off := 0x210) (n := 1) (ev := Ev.sdmRepairDone) (by decide) (by decide) (by decide) (by decide)
    have hmem : State.mem _ = s.mem.remapped b v row := hsame .mem (by decide)
    refine ⟨_, hexec, (congrArg Mem.remaps hmem).trans rfl, ?_, (congrArg Mem.bytes hmem).trans rfl, (congrArg Mem.poison hmem).trans rfl,
      hcount, hevent, ?_⟩
    · rw [hspares, State.sparesLeft, hmem, Mem.remapped]
      simp only [tget_tset, if_true]
      omega
    · exact ((Ext.set_mem s (s.mem.remapped b v row) id).1.mono rfl).trans (hsame.mono rfl)
  · have hzero : s.sparesLeft b v = 0 := by omega
    refine ⟨_, congrArg Host.Outcome.next ((if_pos ⟨hb, hv, hready⟩).trans (if_pos hzero)), ?_⟩
    obtain ⟨hset, -, hsame⟩ := s.raise_only_event .sdm b (n := Ev.sdmRepairExhausted)
    exact ⟨hset, hsame⟩

/-! ### DIMM channels (R217, R218) -/

/-- MEM_ERRLOG of an error at a channel offset (R220). -/
def memWord (o : Nat) (ue : Bool) (dev : Nat) : Word :=
  BitVec.ofNat 64 ((if ue then 2 ^ 63 else 0) + 2 ^ 62 + o / 64 % 2 * 2 ^ 56 + dev * 2 ^ 52 + o / 64 * 64 % 2 ^ 48)

section Dimm

variable {s : State} {ch off dev : Nat}

theorem memWord_kind (hdev : dev < 16) (ue : Bool) : fld (memWord off ue dev) 63 62 = if ue then 3 else 1 := by
  have hparity : off / 64 % 2 < 2 := Nat.mod_lt _ (by decide)
  have hline : off / 64 * 64 % 2 ^ 48 < 2 ^ 48 := Nat.mod_lt _ (by decide)
  rw [memWord]
  generalize off / 64 % 2 = p at *
  generalize off / 64 * 64 % 2 ^ 48 = l at *
  cases ue <;> simp only [fld, nfld, BitVec.toNat_ofNat, if_true, if_false, Bool.false_eq_true] <;> omega

theorem memWord_dev (hdev : dev < 16) (ue : Bool) : fld (memWord off ue dev) 55 52 = dev := by
  have hparity : off / 64 % 2 < 2 := Nat.mod_lt _ (by decide)
  have hline : off / 64 * 64 % 2 ^ 48 < 2 ^ 48 := Nat.mod_lt _ (by decide)
  rw [memWord]
  generalize off / 64 % 2 = p at *
  generalize off / 64 * 64 % 2 ^ 48 = l at *
  cases ue <;> simp only [fld, nfld, BitVec.toNat_ofNat, if_true, if_false, Bool.false_eq_true] <;> omega

theorem memErr_ce : ∃ addr, s.memErr ch off false dev =
    (s.scrubLog .mem ch Off.memErrlog (memWord off false dev) 0x200 (0x200 + 8 * 18) Ev.memCe).corrected .mem ch 0x06 (addr := addr) := by
  unfold State.memErr
  extract_lets w s1 cs d ad
  rw [if_neg Bool.false_ne_true]
  exact ⟨ad, rfl⟩

/-- The line becomes poisoned where the channel is part of the DIMM space; the registers are written alike. -/
theorem memErr_ue : ∃ (t : State) (addr : Nat), t.regs = s.regs ∧ t.mem.bytes = s.mem.bytes ∧ s.memErr ch off true dev =
    (t.scrubLog .mem ch Off.memErrlog (memWord off true dev) 0x208 (0x200 + 8 * 19) Ev.memUe).detected .mem ch 0x07 0 (addr := addr) := by
  unfold State.memErr
  extract_lets w s1 cs d ad
  rw [if_pos rfl]
  by_cases hin : cs.contains ch ∧ d < s1.dimmSize
  · refine ⟨s.setPoison ad true, ad, rfl, rfl, ?_⟩
    rw [if_pos hin, wr_setPoison]
    rfl
  · refine ⟨s, ad, rfl, rfl, ?_⟩
    rw [if_neg hin]
    rfl

theorem mem_page_below (hch : ch < 24) : pageBase .mem ch + 0x1000 ≤ 0x280000 := by
  simp only [pageBase]
  omega

theorem memErr_ce_logged (hch : ch < 24) :
    ScrubLogged s (s.memErr ch off false dev) .mem ch Off.memErrlog (memWord off false dev) 0x200 (0x200 + 8 * 18) Ev.memCe := by
  obtain ⟨addr, hce⟩ := memErr_ce (s := s) (ch := ch) (off := off) (dev := dev)
  rw [hce]
  exact .of_noted Noted.corrected (mem_page_below hch)

theorem memErr_ue_logged (hch : ch < 24) : ∃ t : State, t.regs = s.regs ∧ t.mem.bytes = s.mem.bytes ∧
    ScrubLogged t (s.memErr ch off true dev) .mem ch Off.memErrlog (memWord off true dev) 0x208 (0x200 + 8 * 19) Ev.memUe := by
  obtain ⟨t, addr, hregs, hbytes, hue⟩ := memErr_ue (s := s) (ch := ch) (off := off) (dev := dev)
  refine ⟨t, hregs, hbytes, ?_⟩
  rw [hue]
  exact .of_noted Noted.detected (mem_page_below hch)

end Dimm

section Exec

variable {s : State} {ch off : Nat} {dev : BitVec 4} (hch : ch < 24) (hready : s.ready .mem ch = true)
  (hinfo : s.g .mem ch Off.memInfo 2 0 ∈ [1, 2]) (hrate : 0 < s.g .mem ch Off.memCfg 7 0)

include hch hready hinfo hrate

theorem exec_memScrubStep (ue ce passEnd : Bool) : exec (.memScrubStep ch off ue ce dev passEnd) s = .next
    (let s := if ue then s.memErr ch off true 15 else if ce then s.memErr ch off false dev.toNat else s
     if passEnd then (s.bump .mem ch 0x218 1).raise .mem ch Ev.memScrubPass else s) :=
  congrArg Host.Outcome.next (if_pos ⟨hch, hready, hinfo, hrate⟩)

theorem exec_memScrubStep_pass : exec (.memScrubStep ch off false false dev true) s =
    .next ((s.bump .mem ch 0x218 1).raise .mem ch Ev.memScrubPass) := by
  simp only [exec_memScrubStep hch hready hinfo hrate, if_true, if_false, Bool.false_eq_true]

theorem exec_memScrubStep_ce : exec (.memScrubStep ch off false true dev false) s = .next (s.memErr ch off false dev.toNat) := by
  simp only [exec_memScrubStep hch hready hinfo hrate, if_true, if_false, Bool.false_eq_true]

theorem exec_memScrubStep_ue (ce : Bool) : exec (.memScrubStep ch off true ce dev false) s = .next (s.memErr ch off true 15) := by
  simp only [exec_memScrubStep hch hready hinfo hrate, if_true, if_false, Bool.false_eq_true]

end Exec

/-- Patrol scrub of a DIMM channel (R217, R218). -/
theorem memScrub {s : State} {ch off : Nat} {dev : BitVec 4} (hch : ch < 24) (hready : s.ready .mem ch = true)
    (hinfo : s.g .mem ch Off.memInfo 2 0 ∈ [1, 2]) (hrate : 0 < s.g .mem ch Off.memCfg 7 0) :
    (∃ u, exec (.memScrubStep ch off false false dev true) s = .next u ∧ Counted s u .mem ch 0x218 1 ∧
      u.g .mem ch Off.event Ev.memScrubPass Ev.memScrubPass = 1 ∧ Same [.regs, .hlk] s u) ∧
    (∃ u, exec (.memScrubStep ch off false true dev false) s = .next u ∧ Counted s u .mem ch 0x200 1 ∧
      u.g .mem ch Off.event Ev.memCe Ev.memCe = 1 ∧ u.g .mem ch Off.memErrlog 63 62 = 1 ∧
      u.g .mem ch Off.memErrlog 55 52 = dev.toNat ∧ u.mem = s.mem) ∧
    (∃ u, exec (.memScrubStep ch off true false dev false) s = .next u ∧ Counted s u .mem ch 0x208 1 ∧
      u.g .mem ch Off.event Ev.memUe Ev.memUe = 1 ∧ u.g .mem ch Off.memErrlog 63 62 = 3 ∧ u.mem.bytes = s.mem.bytes) := by
  refine ⟨⟨_, exec_memScrubStep_pass hch hready hinfo hrate, State.counted_raised (by decide) (by decide) (by decide) (by decide)⟩,
    ⟨_, exec_memScrubStep_ce hch hready hinfo hrate, ?_⟩, ⟨_, exec_memScrubStep_ue hch hready hinfo hrate _, ?_⟩⟩
  · obtain ⟨hcount, -, hevent, hlog, hmem⟩ := memErr_ce_logged (s := s) (off := off) (dev := dev.toNat) hch
    exact ⟨hcount, hevent, (congrArg (fld · 63 62) hlog).trans (memWord_kind dev.isLt _),
      (congrArg (fld · 55 52) hlog).trans (memWord_dev dev.isLt _), hmem⟩
  · obtain ⟨t, hregs, hbytes, hcount, -, hevent, hlog, hmem⟩ := memErr_ue_logged (s := s) (off := off) (dev := 15) hch
    exact ⟨hcount.between (State.rd_of_regs hregs _) rfl, hevent, (congrArg (fld · 63 62) hlog).trans (memWord_kind (by decide) _),
      (congrArg Mem.bytes hmem).trans hbytes⟩

/-- Soft row repair of a DIMM channel (R218). -/
theorem rowRepair {s : State} {ch rank bg sub : Nat} (hch : ch < 24) (hready : s.ready .mem ch = true)
    (hon : s.g .mem ch Off.memCfg 16 16 = 1)
    (hrank : rank < s.g .mem ch Off.memInfo 55 48) (hbg : bg < 8) (hsub : sub < 2) :
    ((ch, (rank * 8 + bg) * 2 + sub) ∉ s.mem.ppr → ∃ u, exec (.memSppr ch rank bg sub) s = .next u ∧
      u.mem = { s.mem with ppr := s.mem.ppr ++ [(ch, (rank * 8 + bg) * 2 + sub)] } ∧ Counted s u .mem ch 0x210 1 ∧
      u.g .mem ch Off.event Ev.memPprDone Ev.memPprDone = 1 ∧ Same [.regs, .hlk, .mem] s u) ∧
    ((ch, (rank * 8 + bg) * 2 + sub) ∈ s.mem.ppr → ∃ u, exec (.memSppr ch rank bg sub) s = .next u ∧
      EventSet s u .mem ch Ev.memPprExhausted ∧ Same [.regs, .hlk] s u) := by
  have hcond : ch < 24 ∧ s.ready .mem ch = true ∧ s.g .mem ch Off.memCfg 16 16 = 1 ∧ rank < s.g .mem ch Off.memInfo 55 48 ∧ bg < 8 ∧
      sub < 2 :=
    ⟨hch, hready, hon, hrank, hbg, hsub⟩
  refine ⟨fun hfree => ?_, fun hused => ?_⟩
  · have hne : ¬s.mem.ppr.contains (ch, (rank * 8 + bg) * 2 + sub) = true := by simpa using hfree
    obtain ⟨m, hm⟩ : ∃ m : Mem, m = { s.mem with ppr := s.mem.ppr ++ [(ch, (rank * 8 + bg) * 2 + sub)] } := ⟨_, rfl⟩
    have hexec : exec (.memSppr ch rank bg sub) s =
        .next ((({ s with mem := m }.setPpr ch).bump .mem ch 0x210 1).raise .mem ch Ev.memPprDone) := by
      rw [hm]
      exact congrArg Host.Outcome.next ((if_pos hcond).trans (if_neg hne))
    have hwf : Memory.wf s.mem.bytes = true → Memory.wf m.bytes = true := by
      rw [hm]
      exact id
    obtain ⟨hcount, hevent, hsame⟩ := State.counted_raised (s := { s with mem := m }.setPpr ch) (b := .mem) (i := ch)
      (off := 0x210) (n := 1) (ev := Ev.memPprDone) (by decide) (by decide) (by decide) (by decide)
    have hsame' := ((State.setPpr_ext _ ch).1.mono rfl).trans hsame
    refine ⟨_, hexec, (hsame' .mem (by decide)).trans hm, hcount.between ?_ rfl, hevent, ((Ext.set_mem s m hwf).1.mono rfl).trans
      (hsame'.mono rfl)⟩
    exact State.rd_wr_other _ _ (regAt_ne (by decide))
  · have hin : s.mem.ppr.contains (ch, (rank * 8 + bg) * 2 + sub) = true := by simpa using hused
    refine ⟨_, congrArg Host.Outcome.next ((if_pos hcond).trans (if_pos hin)), ?_⟩
    obtain ⟨hset, -, hsame⟩ := s.raise_only_event .mem ch (n := Ev.memPprExhausted)
    exact ⟨hset, hsame⟩

/-! ### The end of DIMM training (R215) -/

section Layout

variable {s u : State}

theorem dimmLayout_congr (h : u.rst.dimms = s.rst.dimms) : u.dimmLayout = s.dimmLayout := by
  unfold State.dimmLayout
  rw [h]

/-- The DIMM of a channel that trained and may join the DIMM space (R215). -/
def State.joined (s : State) (c : Nat) : Option (Nat × Dimm) :=
  match tget s.rst.dimms none c with
  | some d => if d.fitted && d.supported && d.trainOk && d.spdOk then some (c, d) else none
  | none => none

theorem joined_fst {c : Nat} {x : Nat × Dimm} (h : s.joined c = some x) : x.1 = c := by
  unfold State.joined at h
  split at h
  · split at h
    · exact (congrArg Prod.fst (Option.some.inj h)).symm
    · cases h
  · cases h

theorem dimmLayout_used (s : State) : ∃ p, s.dimmLayout.2.2 = (((List.range 24).filterMap s.joined).filter p).map (·.1) := ⟨_, rfl⟩

/-- The channels used ascend (R215, R216). -/
theorem used_sorted (s : State) : s.dimmLayout.2.2.SortedLT := by
  obtain ⟨p, hused⟩ := dimmLayout_used s
  rw [hused, List.sortedLT_iff_pairwise, List.pairwise_map]
  refine (List.pairwise_filterMap.2 (List.pairwise_lt_range.imp ?_)).filter _
  intro c c' hlt x hx x' hx'
  rwa [joined_fst hx, joined_fst hx']

theorem used_lt {c : Nat} (hc : c ∈ s.dimmLayout.2.2) : c < 24 := by
  obtain ⟨p, hused⟩ := dimmLayout_used s
  rw [hused, List.mem_map] at hc
  obtain ⟨x, hx, rfl⟩ := hc
  obtain ⟨c, hc, hjoined⟩ := List.mem_filterMap.1 (List.mem_of_mem_filter hx)
  rw [joined_fst hjoined]
  exact List.mem_range.1 hc

/-- The capacity m of the layout fits its field. -/
theorem used_capacity (s : State) : s.dimmLayout.2.1 < 2 ^ 16 :=
  foldl_all (P := (· < 2 ^ 16)) (by decide) fun _ _ h => Nat.lt_of_le_of_lt (Nat.min_le_left ..) h

/-- The bits of XLT_DSPACE.USED (R216). -/
def usedBits (cs : List Nat) : Nat := cs.foldl (fun x c => x + 2 ^ c) 0

theorem bitIndices_usedBits {cs : List Nat} (h : cs.SortedLT) : (usedBits cs).bitIndices = cs := by
  rw [usedBits, ← List.foldl_map (g := (· + ·)), ← List.sum_eq_foldl, Nat.bitIndices_sum_map_two_pow h]

theorem testBit_usedBits {cs : List Nat} (h : cs.SortedLT) (c : Nat) : (usedBits cs).testBit c = true ↔ c ∈ cs := by
  rw [← Nat.mem_bitIndices, bitIndices_usedBits h]

theorem usedBits_eq_zero {cs : List Nat} (h : cs.SortedLT) : usedBits cs = 0 ↔ cs = [] := by
  refine ⟨fun hz => ?_, fun he => by rw [he]; rfl⟩
  rw [← bitIndices_usedBits h, hz, Nat.bitIndices_zero]

theorem usedBits_lt {cs : List Nat} (h : cs.SortedLT) (hlt : ∀ c ∈ cs, c < 24) : usedBits cs < 2 ^ 24 := by
  refine Nat.lt_pow_two_of_testBit _ fun c hc => ?_
  rw [Bool.eq_false_iff, ne_eq, testBit_usedBits h]
  exact fun hin => absurd (hlt c hin) (by omega)

theorem filter_usedBits {cs : List Nat} (h : cs.SortedLT) (hlt : ∀ c ∈ cs, c < 24) : (List.range 24).filter (usedBits cs).testBit = cs := by
  have hsorted : ((List.range 24).filter (usedBits cs).testBit).SortedLT :=
    (List.sortedLT_iff_pairwise.2 (List.pairwise_lt_range.filter _))
  refine hsorted.eq_of_mem_iff h fun c => ?_
  rw [List.mem_filter, List.mem_range, testBit_usedBits h]
  exact ⟨And.right, fun hc => ⟨hlt c hc, hc⟩⟩

/-- XLT_DSPACE of a layout (R216). -/
def dspaceWord (lay : Nat × Nat × List Nat) : Word :=
  BitVec.ofNat 64 (usedBits lay.2.2 * 2 ^ 16 + if usedBits lay.2.2 = 0 then 0 else lay.2.1)

theorem dspaceWord_capacity (s : State) : fld (dspaceWord s.dimmLayout) 15 0 = if s.dimmLayout.2.2 = [] then 0 else s.dimmLayout.2.1 := by
  have hlt := usedBits_lt (used_sorted s) fun c => used_lt
  have hcap := used_capacity s
  have hzero := usedBits_eq_zero (used_sorted s)
  rw [dspaceWord]
  simp only [hzero, fld, nfld, BitVec.toNat_ofNat]
  split <;> omega

theorem dspaceWord_used (s : State) : fld (dspaceWord s.dimmLayout) 39 16 = usedBits s.dimmLayout.2.2 := by
  have hlt := usedBits_lt (used_sorted s) fun c => used_lt
  have hcap := used_capacity s
  simp only [dspaceWord, fld, nfld, BitVec.toNat_ofNat]
  split <;> omega

/-- Where XLT_DSPACE shows the layout, its channels are the used ones. -/
theorem dimmChans_of_dspace (h : u.rd (regAt .xlt 0 Off.xltDspace) = dspaceWord s.dimmLayout) : u.dimmChans = s.dimmLayout.2.2 := by
  have hused : u.g .xlt 0 Off.xltDspace 39 16 = usedBits s.dimmLayout.2.2 := (congrArg (fld · 39 16) h).trans (dspaceWord_used s)
  rw [State.dimmChans, hused]
  exact filter_usedBits (used_sorted s) fun c => used_lt

end Layout

/-- MEM_INFO of one channel under a layout, and MISMATCH where it joined no space (R215, R220). -/
def State.showDimm (lay : Nat × Nat × List Nat) (s : State) (c : Nat) : State :=
  match tget s.rst.dimms none c with
  | some d =>
    let w := State.memInfoOf d c lay
    let s := s.wr (regAt .mem c Off.memInfo) w
    if fld w 2 0 = 3 ∧ s.g .mem c Off.event 3 3 = 0 then s.raise .mem c Ev.memMismatch else s
  | none => s

theorem applyLayout_eq (s : State) :
    s.applyLayout = ((List.range 24).foldl (State.showDimm s.dimmLayout) s).wr (regAt .xlt 0 Off.xltDspace) (dspaceWord s.dimmLayout) := rfl

section Show

variable {s : State} {c ch : Nat} {d : Dimm} {lay : Nat × Nat × List Nat}

theorem showDimm_rst (lay : Nat × Nat × List Nat) (s : State) (c : Nat) : (s.showDimm lay c).rst = s.rst := by
  unfold State.showDimm
  dsimp only
  split
  · split
    · exact (State.raise_ext ..).1 .rst (by decide)
    · rfl
  · rfl

theorem showDimm_same (hd : tget s.rst.dimms none c = some d) :
    (s.showDimm lay c).rd (regAt .mem c Off.memInfo) = State.memInfoOf d c lay := by
  unfold State.showDimm
  dsimp only
  rw [hd]
  dsimp only
  split
  · rw [State.rd_raise _ _ _ _ _ (regAt_ne (by decide)), State.rd_wr_same]
  · exact State.rd_wr_same ..

theorem showDimm_other (hne : regAt .mem ch Off.memInfo ≠ regAt .mem c Off.memInfo) :
    (s.showDimm lay c).rd (regAt .mem ch Off.memInfo) = s.rd (regAt .mem ch Off.memInfo) := by
  have hcalm : Calm (regAt .mem ch Off.memInfo) := by
    rw [Calm, regAt_mod (by decide)]
    decide
  have hwr (w : Word) : Kept (regAt .mem ch Off.memInfo) false s (s.wr (regAt .mem c Off.memInfo) w) := (Kept.refl hcalm s).wr w hne
  unfold State.showDimm
  dsimp only
  split
  · split
    · exact (hwr _).raise.rd
    · exact (hwr _).rd
  · rfl

theorem showDimms_other {cs : List Nat} (hch : ch ∉ cs) :
    (cs.foldl (State.showDimm lay) s).rd (regAt .mem ch Off.memInfo) = s.rd (regAt .mem ch Off.memInfo) := by
  induction cs generalizing s with
  | nil => rfl
  | cons c cs ih =>
    rw [List.mem_cons, not_or] at hch
    have hne : regAt .mem ch Off.memInfo ≠ regAt .mem c Off.memInfo := by
      simp only [regAt, pageBase]
      omega
    rw [List.foldl_cons, ih hch.2, showDimm_other hne]

theorem showDimms_rd {cs : List Nat} (hnodup : cs.Nodup) (hch : ch ∈ cs) (hd : tget s.rst.dimms none ch = some d) :
    (cs.foldl (State.showDimm lay) s).rd (regAt .mem ch Off.memInfo) = State.memInfoOf d ch lay := by
  induction cs generalizing s with
  | nil => simp at hch
  | cons c cs ih =>
    rw [List.nodup_cons] at hnodup
    rw [List.foldl_cons]
    by_cases hc : ch = c
    · subst hc
      rw [showDimms_other hnodup.1, showDimm_same hd]
    · exact ih hnodup.2 (List.mem_of_ne_of_mem hc hch) (by rwa [showDimm_rst])

end Show

section MemInfo

variable {d : Dimm} {ch : Nat} {lay : Nat × Nat × List Nat}

/-- STATE is the low field of MEM_INFO (R220). -/
theorem memInfo_state (typ rk cap m st : Nat) (hst : st < 8) :
    fld (BitVec.ofNat 64 (typ * 2 ^ 56 + rk * 2 ^ 48 + cap * 2 ^ 32 + m * 2 ^ 16 + st)) 2 0 = st := by
  simp only [fld, nfld, BitVec.toNat_ofNat]
  omega

theorem memInfoOf_empty (h : d.fitted = false) : State.memInfoOf d ch lay = 0 := by
  unfold State.memInfoOf
  rw [h]
  rfl

theorem memInfoOf_failed (h : d.fitted = true) (hfail : d.trainOk = false) : fld (State.memInfoOf d ch lay) 2 0 = 4 := by
  unfold State.memInfoOf
  rw [h, hfail]
  exact memInfo_state _ _ _ _ 4 (by decide)

theorem memInfoOf_trained (h : d.fitted = true) (hok : d.trainOk = true) : fld (State.memInfoOf d ch lay) 2 0 ∈ [1, 2, 3] := by
  unfold State.memInfoOf
  rw [h, hok]
  dsimp only
  generalize hst :
    (if (!true) = true then 4 else if (!lay.2.2.contains ch) = true then 3 else if d.capGB.toNat = lay.2.1 then 1 else 2) = st
  have hmem : st ∈ [1, 2, 3] := by
    subst hst
    split
    · simp_all
    · split
      · simp
      · split <;> simp
  rw [if_neg (by simp), memInfo_state _ _ _ _ st (by simp at hmem; omega)]
  exact hmem

end MemInfo

/-- The reset state after a channel's training (R215). -/
def Rst.trainedWith (r : Rst) (ch : Nat) (d : Dimm) : Rst :=
  { r with trained := r.trained ||| BitVec.ofNat 24 (2 ^ ch), dimms := tset r.dimms none ch (some d) }

/-- The die after it, before the channel's event or READY. -/
def State.trainingShown (s : State) (ch : Nat) (d : Dimm) : State := (State.applyLayout { s with rst := s.rst.trainedWith ch d }).setPpr ch

section Training

variable {s : State} {ch : Nat} {d : Dimm}

theorem exec_memTrainingDone (hch : ch < 24) (hlock : s.clock.ddrLock = true) (hheld : s.rst.held = false) (hrails : s.power.rails = true)
    (hnew : s.rst.trained.toNat.testBit ch = false) (hready : s.ready .dev 0 = true) : exec (.memTrainingDone ch d) s = .next
      (if d.fitted && !d.trainOk then (s.trainingShown ch d).raise .mem ch Ev.memTrainFail
        else (s.trainingShown ch d).setReady .mem ch true) :=
  congrArg Host.Outcome.next (if_pos ⟨hch, hlock, by rw [hheld]; rfl, hrails, hnew, hready⟩)

theorem trainingShown_rst : (s.trainingShown ch d).rst = s.rst.trainedWith ch d := by
  obtain ⟨t, ht⟩ : ∃ t : State, t = { s with rst := s.rst.trainedWith ch d } := ⟨_, rfl⟩
  have hrst : t.rst = s.rst.trainedWith ch d := by rw [ht]
  calc (s.trainingShown ch d).rst = (t.applyLayout.setPpr ch).rst := by rw [ht]; rfl
    _ = t.applyLayout.rst := (State.setPpr_ext ..).1 .rst (by decide)
    _ = t.rst := (State.applyLayout_ext ..).1 .rst (by decide)
    _ = s.rst.trainedWith ch d := hrst

theorem trainingShown_layout : (s.trainingShown ch d).dimmLayout = State.dimmLayout { s with rst := s.rst.trainedWith ch d } :=
  dimmLayout_congr (congrArg Rst.dimms trainingShown_rst)

theorem trainingShown_dspace (hch : ch < 24) :
    (s.trainingShown ch d).rd (regAt .xlt 0 Off.xltDspace) = dspaceWord (s.trainingShown ch d).dimmLayout := by
  have hne : regAt .xlt 0 Off.xltDspace ≠ regAt .mem ch Off.memPpr :=
    State.regAt_page_ne (by decide) hch (by decide) (by decide) (by decide)
  rw [trainingShown_layout, State.trainingShown, State.setPpr, State.rd_wr_other _ _ hne, applyLayout_eq, State.rd_wr_same]

theorem trainingShown_memInfo (hch : ch < 24) :
    (s.trainingShown ch d).rd (regAt .mem ch Off.memInfo) = State.memInfoOf d ch (s.trainingShown ch d).dimmLayout := by
  have hpage : regAt .mem ch Off.memInfo ≠ regAt .xlt 0 Off.xltDspace :=
    State.regAt_page_ne hch (by decide) (by decide) (by decide) (by decide)
  rw [trainingShown_layout, State.trainingShown, State.setPpr, State.rd_wr_other _ _ (regAt_ne (by decide)), applyLayout_eq,
    State.rd_wr_other _ _ hpage]
  exact showDimms_rd List.nodup_range (List.mem_range.2 hch) (tget_tset_same ..)

theorem trainingShown_same (ch : Nat) (d : Dimm) : Same [.rst, .regs, .hlk] s (s.trainingShown ch d) :=
  (((Ext.set_rst ..).1.mono rfl).trans ((State.applyLayout_ext ..).1.mono rfl)).trans ((State.setPpr_ext ..).1.mono rfl)

/-- What shows of a training's end, whether an event or READY tells it. -/
structure TrainingShown (s u : State) (ch : Nat) (d : Dimm) : Prop where
  trained : u.rst.trained = s.rst.trained ||| BitVec.ofNat 24 (2 ^ ch)
  dimms : u.rst.dimms = tset s.rst.dimms none ch (some d)
  dspace : u.rd (regAt .xlt 0 Off.xltDspace) = dspaceWord u.dimmLayout
  memInfo : u.rd (regAt .mem ch Off.memInfo) = State.memInfoOf d ch u.dimmLayout
  same : Same [.rst, .regs, .hlk] s u

theorem TrainingShown.failed (hch : ch < 24) : TrainingShown s ((s.trainingShown ch d).raise .mem ch Ev.memTrainFail) ch d := by
  have hrst : ((s.trainingShown ch d).raise .mem ch Ev.memTrainFail).rst = (s.trainingShown ch d).rst :=
    (State.raise_ext ..).1 .rst (by decide)
  have hlay : ((s.trainingShown ch d).raise .mem ch Ev.memTrainFail).dimmLayout = (s.trainingShown ch d).dimmLayout :=
    dimmLayout_congr (congrArg Rst.dimms hrst)
  refine ⟨?_, ?_, ?_, ?_, (trainingShown_same ch d).trans ((State.raise_ext ..).1.mono rfl)⟩
  · rw [hrst, trainingShown_rst, Rst.trainedWith]
  · rw [hrst, trainingShown_rst, Rst.trainedWith]
  · rw [hlay, ← trainingShown_dspace hch]
    exact State.rd_raise _ _ _ _ _ (State.regAt_page_ne (by decide) hch (by decide) (by decide) (by decide))
  · rw [hlay, ← trainingShown_memInfo hch]
    exact State.rd_raise _ _ _ _ _ (regAt_ne (by decide))

theorem setReady_mem_keeps (t : State) (ch : Nat) : (t.setReady .mem ch true).rst.trained = t.rst.trained ∧
    (t.setReady .mem ch true).rst.dimms = t.rst.dimms ∧ (t.setReady .mem ch true).regs = t.regs := ⟨rfl, rfl, rfl⟩

theorem TrainingShown.ready (hch : ch < 24) : TrainingShown s ((s.trainingShown ch d).setReady .mem ch true) ch d := by
  obtain ⟨htrained, hdimms, hregs⟩ := setReady_mem_keeps (s.trainingShown ch d) ch
  have hlay := dimmLayout_congr hdimms
  refine ⟨?_, ?_, ?_, ?_, (trainingShown_same ch d).trans ((State.setReady_ext ..).1.mono rfl)⟩
  · rw [htrained, trainingShown_rst, Rst.trainedWith]
  · rw [hdimms, trainingShown_rst, Rst.trainedWith]
  · rw [hlay, ← trainingShown_dspace hch, State.rd_of_regs hregs]
  · rw [hlay, ← trainingShown_memInfo hch, State.rd_of_regs hregs]

end Training

/-- The end of training of a channel (R215, R216, R220). -/
theorem trainingDone {s : State} {ch : Nat} {d : Dimm} (hch : ch < 24) (hlock : s.clock.ddrLock = true) (hheld : s.rst.held = false)
    (hrails : s.power.rails = true) (hnew : s.rst.trained.toNat.testBit ch = false) (hready : s.ready .dev 0 = true) :
    ∃ u, exec (.memTrainingDone ch d) s = .next u ∧ TrainingShown s u ch d ∧
      (d.fitted = true → d.trainOk = false → u.g .mem ch Off.event Ev.memTrainFail Ev.memTrainFail = 1 ∧
        u.ready .mem ch = s.ready .mem ch) ∧
      ((d.fitted = false ∨ d.trainOk = true) → u.ready .mem ch = true) := by
  have hexec := exec_memTrainingDone (d := d) hch hlock hheld hrails hnew hready
  cases hfail : d.fitted && !d.trainOk with
  | true =>
    rw [hfail, if_pos rfl] at hexec
    refine ⟨_, hexec, .failed hch, fun _ _ => ⟨State.fld_event_raise_same _ (by decide), ?_⟩, fun hor => ?_⟩
    · have hrst : ((s.trainingShown ch d).raise .mem ch Ev.memTrainFail).rst = s.rst.trainedWith ch d :=
        ((State.raise_ext ..).1 .rst (by decide)).trans trainingShown_rst
      exact State.ready_congr (by rw [hrst]; rfl) (by rw [hrst]; rfl) (by rw [hrst]; rfl) (by rw [hrst]; rfl)
    · simp only [Bool.and_eq_true, Bool.not_eq_true'] at hfail
      rcases hor with h | h <;> simp [h] at hfail
  | false =>
    rw [hfail, if_neg Bool.false_ne_true] at hexec
    refine ⟨_, hexec, .ready hch, fun hfit hbad => ?_, fun _ => State.ready_setReady_same _ (by decide) hch true⟩
    rw [hfit, hbad] at hfail
    cases hfail

/-- Settles O42, command by command. -/
theorem memoryDevices : Obligations.MemoryDevices := by
  intro s
  refine ⟨fun b v hb hready => interleave_written hb hready, fun b off hb hoff hready hrate => sdmScrub hb hoff hready hrate,
    fun b v row hb hv hready => rowRemap hb hv hready, fun ch off dev hch hready hinfo hrate => memScrub hch hready hinfo hrate,
    fun ch rank bg sub hch hready hon hrank hbg hsub => rowRepair hch hready hon hrank hbg hsub,
    fun ch d hch hlock hheld hrails hnew hready => ?_⟩
  obtain ⟨u, hexec, ⟨htrained, hdimms, hdspace, hinfo, hsame⟩, hfailed, hup⟩ := trainingDone (d := d) hch hlock hheld hrails hnew hready
  refine ⟨u, hexec, htrained, fun c => ?_, dimmChans_of_dspace hdspace, (congrArg (fld · 15 0) hdspace).trans (dspaceWord_capacity u), ?_,
    ?_, ?_,
    hup, hsame⟩
  · rw [hdimms, tget_tset]
  · exact fun hfit => hinfo.trans (memInfoOf_empty hfit)
  · exact fun hfit hbad => ⟨(congrArg (fld · 2 0) hinfo).trans (memInfoOf_failed hfit hbad), hfailed hfit hbad⟩
  · intro hfit hok
    rw [show u.g .mem ch Off.memInfo 2 0 = _ from congrArg (fld · 2 0) hinfo]
    exact memInfoOf_trained hfit hok

end Sys2Proof.Machine
end

section
/-! SUPPORT. Statement O43: XLT_CMD, its command data and the directory slices (R222 to R227, R231). -/

namespace Sys2Proof.Machine

namespace State

variable {s u : State}

/-! ### The command register (R227, R232) -/

theorem cmdStart_rd_other {op m a : Nat} (ha : a ≠ regAt .xlt 0 Off.xltCmd) : (s.cmdStart op m).rd a = s.rd a := rd_wr_other _ _ ha

theorem cmdStart_only (op m : Nat) : RegsOnly [regAt .xlt 0 Off.xltCmd] s (s.cmdStart op m) :=
  fun _ ha => cmdStart_rd_other (mt List.mem_singleton.2 ha)

theorem cmdStart_go (op m : Nat) : (s.cmdStart op m).g .xlt 0 Off.xltCmd 63 63 = 1 := by
  unfold cmdStart g
  rw [rd_wr_same, fld_putFld_above _ _ (by decide) (by decide) (by decide), fld_putFld_same]
  rfl

theorem cmdEnd_ended {r f : Nat} (hr : r < 2 ^ 8) (hf : f < 2 ^ 4) : XltEnded (s.cmdEnd r f) r f := by
  have hword : (s.cmdEnd r f).rd (regAt .xlt 0 Off.xltCmd) =
      putFld (putFld (putFld (s.rd (regAt .xlt 0 Off.xltCmd)) 39 32 r) 55 52 f) 63 63 0 :=
    (rd_raise _ _ _ _ _ (regAt_ne (by decide))).trans (rd_wr_same ..)
  have hfield (hi lo : Nat) : (s.cmdEnd r f).g .xlt 0 Off.xltCmd hi lo =
      fld (putFld (putFld (putFld (s.rd (regAt .xlt 0 Off.xltCmd)) 39 32 r) 55 52 f) 63 63 0) hi lo := congrArg (fld · hi lo) hword
  refine ⟨?_, ?_, ?_, fld_event_raise_same _ (by decide)⟩
  · rw [hfield, fld_putFld_below _ _ (by decide) (by decide) (by decide) (by decide),
      fld_putFld_below _ _ (by decide) (by decide) (by decide) (by decide), fld_putFld_same]
    exact Nat.mod_eq_of_lt hr
  · rw [hfield, fld_putFld_below _ _ (by decide) (by decide) (by decide) (by decide), fld_putFld_same]
    exact Nat.mod_eq_of_lt hf
  · rw [hfield, fld_putFld_same]
    rfl

theorem cmdEnd_rd_other {r f a : Nat} (ha : a ≠ regAt .xlt 0 Off.xltCmd) (he : a ≠ regAt .xlt 0 Off.event) : (s.cmdEnd r f).rd a = s.rd a :=
  (rd_raise _ _ _ _ _ he).trans (rd_wr_other _ _ ha)

theorem cmdEnd_mem {r f : Nat} : (s.cmdEnd r f).mem = s.mem := (cmdEnd_ext ..).1 .mem (by decide)

theorem cmdEnd_slice {r f k : Nat} : (s.cmdEnd r f).slice k = s.slice k := congrArg (fun m : Mem => tget m.slices [] k) cmdEnd_mem

/-- A command that starts and ends changes registers alone. -/
theorem cmdEnd_cmdStart_same {op m r f : Nat} : Same [.regs, .hlk] s ((s.cmdStart op m).cmdEnd r f) :=
  ((cmdStart_ext ..).1.mono rfl).trans (cmdEnd_ext ..).1

theorem mapped_congr {a n : Nat} (h : u.rd (regAt .xlt 0 Off.xltDspace) = s.rd (regAt .xlt 0 Off.xltDspace)) :
    u.mapped a n = s.mapped a n := by
  unfold mapped dimmSize dimmChans g
  rw [h]

theorem descCheck_cmdStart {op m : Nat} {d : Bytes} : (s.cmdStart op m).descCheck d = s.descCheck d := by
  have hdspace : (s.cmdStart op m).rd (regAt .xlt 0 Off.xltDspace) = s.rd (regAt .xlt 0 Off.xltDspace) := cmdStart_rd_other (by decide)
  unfold descCheck
  dsimp only
  rw [mapped_congr hdspace]

theorem descCheck_lt (s : State) (d : Bytes) : s.descCheck d < 2 ^ 8 := by
  unfold descCheck
  dsimp only
  split
  · decide
  · split <;> decide

theorem sliceRefusal_lt (es : List Xent) (e : Xent) : sliceRefusal es e < 2 ^ 8 := by
  unfold sliceRefusal
  split_ifs <;> decide

/-! ### The selected slices (R227) -/

theorem mem_cmdSlices {m : BitVec 4} {k : Nat} : k ∈ cmdSlices m.toNat ↔ Selected m k := by
  have hzero : m.toNat % 16 = 0 ↔ m = 0 := by
    rw [Nat.mod_eq_of_lt m.isLt]
    exact (BitVec.toNat_inj (y := 0#4))
  unfold cmdSlices Selected
  rw [List.mem_filter, List.mem_range, Bool.or_eq_true, decide_eq_true_iff, hzero]

theorem cmdSlices_nodup (m : Nat) : (cmdSlices m).Nodup := List.nodup_range.filter _

theorem cmdSlices_single {k : Nat} (hk : k < 4) : cmdSlices (2 ^ k) = [k] := by
  interval_cases k <;> decide

end State

theorem XltEnded.of_regs {s u : State} {r f : Nat} (h : XltEnded s r f) (hregs : u.regs = s.regs) : XltEnded u r f := by
  have hg (b : Blk) (i off hi lo : Nat) : u.g b i off hi lo = s.g b i off hi lo := congrArg (fld · hi lo) (State.rd_of_regs hregs _)
  exact ⟨(hg ..).trans h.result, (hg ..).trans h.refused, (hg ..).trans h.go, (hg ..).trans h.done⟩

/-! ### Commands start (R227) -/

theorem xltGo_free {s : State} (h : XltFree s) (op : Nat) (m : BitVec 4) : xltGo s op m = s.xltRun op m.toNat := by
  have hfree : s.xltFree = true := by
    rw [State.xltFree, h.ready, h.idle]
    rfl
  rw [xltGo, if_neg (by rw [h.ready]; decide), if_pos hfree, if_neg (by rw [h.going]; simp)]

theorem xltGo_early {s : State} (h : s.ready .xlt 0 = false) (op : Nat) (m : BitVec 4) :
    xltGo s op m = s.refuse false true Ev.devEarlyAccess (regAt .xlt 0 Off.xltCmd) := by
  rw [xltGo, if_pos (by rw [h]; rfl)]

/-- A write of GO while a command runs does nothing (R8). -/
theorem xltGo_busy {s : State} (hready : s.ready .xlt 0 = true) (hgo : s.g .xlt 0 Off.xltCmd 63 63 = 1) (op : Nat) (m : BitVec 4) :
    xltGo s op m = s := by
  have hfree : s.xltFree = false := by
    rw [State.xltFree, hready, hgo]
    rfl
  rw [xltGo, if_neg (by rw [hready]; decide), if_neg (by rw [hfree]; decide)]

/-- The commands of XLT_CMD on some slices. -/
def xltCommands (m : BitVec 4) : List Instr := [.install m, .update m, .invRange m, .invUnpinned m, .invAll m, .lookup m]

theorem exec_xltCommand {s : State} {m : BitVec 4} {c : Instr} (hc : c ∈ xltCommands m) : ∃ op, exec c s = .next (xltGo s op m) := by
  simp only [xltCommands, List.mem_cons, List.not_mem_nil, or_false] at hc
  rcases hc with rfl | rfl | rfl | rfl | rfl | rfl
  · exact ⟨1, rfl⟩
  · exact ⟨2, rfl⟩
  · exact ⟨3, rfl⟩
  · exact ⟨4, rfl⟩
  · exact ⟨5, rfl⟩
  · exact ⟨6, rfl⟩

section Start

variable {s : State} {m : BitVec 4} (h : XltFree s)

include h

theorem exec_install_free : exec (.install m) s = .next (s.xltInstall m.toNat) := congrArg Host.Outcome.next (xltGo_free h 1 m)

theorem exec_update_free : exec (.update m) s = .next (s.xltUpdate m.toNat) := congrArg Host.Outcome.next (xltGo_free h 2 m)

theorem exec_invRange_free : exec (.invRange m) s =
    .next (s.xltInvalidate 3 m.toNat (Xent.ofBytes s.cmdData).va (Xent.ofBytes s.cmdData).size
    (·.meets (Xent.ofBytes s.cmdData).va (Xent.ofBytes s.cmdData).size)) := congrArg Host.Outcome.next (xltGo_free h 3 m)

theorem exec_invUnpinned_free : exec (.invUnpinned m) s = .next (s.xltInvalidate 4 m.toNat 0 (2 ^ 57) (fun x => !x.pinned)) :=
  congrArg Host.Outcome.next (xltGo_free h 4 m)

theorem exec_invAll_free : exec (.invAll m) s = .next (s.xltInvalidate 5 m.toNat 0 (2 ^ 57) (fun _ => true)) :=
  congrArg Host.Outcome.next (xltGo_free h 5 m)

theorem exec_lookup_free : exec (.lookup m) s = .next (s.xltLookup m.toNat) := congrArg Host.Outcome.next (xltGo_free h 6 m)

end Start

/-! ### Several slices change at once -/

/-- Each listed slice changes by a function of its number and entries. -/
def State.mapSlices (s : State) (f : Nat → List Xent → List Xent) (ks : List Nat) : State :=
  ks.foldl (fun s k => s.setSlice k (f k (s.slice k))) s

section Slices

variable {s : State} {f : Nat → List Xent → List Xent} {ks : List Nat}

/-- Nothing changes but the directory. -/
theorem mapSlices_eq (s : State) (f : Nat → List Xent → List Xent) (ks : List Nat) :
    ∃ t, s.mapSlices f ks = { s with mem := { s.mem with slices := t } } :=
  foldl_all (P := fun x : State => ∃ t, x = { s with mem := { s.mem with slices := t } }) ⟨s.mem.slices, rfl⟩ fun x k hx => by
    obtain ⟨t, rfl⟩ := hx
    exact ⟨_, rfl⟩

theorem mapSlices_regs : (s.mapSlices f ks).regs = s.regs := by
  obtain ⟨t, ht⟩ := mapSlices_eq s f ks
  rw [ht]

theorem mapSlices_bytes : (s.mapSlices f ks).mem.bytes = s.mem.bytes := by
  obtain ⟨t, ht⟩ := mapSlices_eq s f ks
  rw [ht]

theorem mapSlices_same : Same [.mem] s (s.mapSlices f ks) := by
  obtain ⟨t, ht⟩ := mapSlices_eq s f ks
  rw [ht]
  exact (Ext.set_mem s { s.mem with slices := t } id).1

theorem slice_mapSlices (hnodup : ks.Nodup) (k : Nat) : (s.mapSlices f ks).slice k = if k ∈ ks then f k (s.slice k) else s.slice k := by
  induction ks generalizing s with
  | nil => rfl
  | cons j ks ih =>
    rw [List.nodup_cons] at hnodup
    have hfold : s.mapSlices f (j :: ks) = (s.setSlice j (f j (s.slice j))).mapSlices f ks := rfl
    rw [hfold, ih hnodup.2, State.slice_setSlice]
    by_cases hk : k = j
    · subst hk
      simp [hnodup.1]
    · simp [hk]

end Slices

/-! ### INSTALL (R222, R227) -/

section Install

variable {s : State} {e : Xent} {k : Nat}

theorem installIn_room (hroom : (s.slice k).length < 16384) : s.installIn k e = s.setSlice k (e :: s.slice k) := by
  have henter : sliceEnter (s.slice k) e = (e :: s.slice k, false) := if_neg (by rw [sliceCap]; omega)
  rw [State.installIn, henter]
  rfl

/-- The least recently used entry that is not pinned is the last one. -/
theorem find?_reverse_eq_getLast? (p : Xent → Bool) (es : List Xent) : es.reverse.find? p = (es.filter p).getLast? := by
  rw [List.getLast?_eq_head?_reverse, ← List.filter_reverse, List.head?_filter]

theorem installIn_full {v : Xent} (hfull : 16384 ≤ (s.slice k).length) (hv : ((s.slice k).filter fun x => !x.pinned).getLast? = some v) :
    s.installIn k e = (s.setSlice k (e :: (s.slice k).filter (· ≠ v))).bump .xlt 0 (0x200 + 32) 1 := by
  have henter : sliceEnter (s.slice k) e = (e :: (s.slice k).filter (· ≠ v), true) := by
    rw [sliceEnter, if_pos (show _ ≥ sliceCap from hfull), find?_reverse_eq_getLast?, hv]
  rw [State.installIn, henter]
  rfl

theorem installIns_room {ks : List Nat} (hnodup : ks.Nodup) (hroom : ∀ k ∈ ks, (s.slice k).length < 16384) :
    ks.foldl (fun s k => s.installIn k e) s = s.mapSlices (fun _ es => e :: es) ks := by
  induction ks generalizing s with
  | nil => rfl
  | cons j ks ih =>
    rw [List.nodup_cons] at hnodup
    have hfold : s.mapSlices (fun _ es => e :: es) (j :: ks) = (s.setSlice j (e :: s.slice j)).mapSlices (fun _ es => e :: es) ks := rfl
    rw [hfold, List.foldl_cons, installIn_room (hroom j (by simp))]
    refine ih hnodup.2 fun k hk => ?_
    have hne : k ≠ j := fun hkj => hnodup.1 (hkj ▸ hk)
    rw [State.slice_setSlice, if_neg hne]
    exact hroom k (List.mem_cons_of_mem _ hk)

/-- INSTALL by its checks: a refused descriptor, no slice that may hold it, refusing slices, or entries. -/
theorem xltInstall_bad {m : Nat} (h : s.descCheck s.cmdData ≠ 0) :
    s.xltInstall m = (s.cmdStart 1 m).cmdEnd (s.descCheck s.cmdData) 0 := by
  unfold State.xltInstall
  dsimp only
  rw [State.descCheck_cmdStart, if_pos h]

/-- The slices that an INSTALL enters. -/
def installSlices (m : Nat) (e : Xent) : List Nat := (State.cmdSlices m).filter (e.allows ·)

theorem xltInstall_entered {m : Nat} (hcheck : s.descCheck s.cmdData = 0) (he : e = Xent.ofBytes s.cmdData) (hsome : installSlices m e ≠ [])
    (hok : ∀ k ∈ installSlices m e, sliceRefusal (s.slice k) e = 0) :
    s.xltInstall m = ((installSlices m e).foldl (fun s k => s.installIn k e) (s.cmdStart 1 m)).cmdEnd 0 0 := by
  have hbad : (installSlices m e).filter (fun k => decide (sliceRefusal ((s.cmdStart 1 m).slice k) e ≠ 0)) = [] :=
    List.filter_eq_nil_iff.2 fun k hk => by simpa using show sliceRefusal ((s.cmdStart 1 m).slice k) e = 0 from hok k hk
  subst he
  unfold installSlices at hbad hsome ⊢
  unfold State.xltInstall
  dsimp only
  rw [State.descCheck_cmdStart, if_neg (not_not.2 hcheck), if_neg hsome, hbad]

theorem xltInstall_refused {m r : Nat} (hcheck : s.descCheck s.cmdData = 0) (he : e = Xent.ofBytes s.cmdData)
    (hone : installSlices m e = [k])
    (hr : r ≠ 0) (hrefuse : sliceRefusal (s.slice k) e = r) : s.xltInstall m = (s.cmdStart 1 m).cmdEnd r (2 ^ k) := by
  have hbad : (installSlices m e).filter (fun k => decide (sliceRefusal ((s.cmdStart 1 m).slice k) e ≠ 0)) = [k] := by
    rw [hone, List.filter_cons_of_pos]
    · rfl
    · change decide (sliceRefusal (s.slice k) e ≠ 0) = true
      rw [hrefuse]
      simpa using hr
  subst he
  have hslice : (s.cmdStart 1 m).slice k = s.slice k := rfl
  unfold State.xltInstall
  dsimp only
  unfold installSlices at hbad hone
  rw [State.descCheck_cmdStart, if_neg (not_not.2 hcheck), if_neg (by rw [hone]; simp), hbad]
  dsimp only
  rw [hslice, hrefuse]
  simp

theorem mem_installSlices {m : BitVec 4} : k ∈ installSlices m.toNat e ↔ Selected m k ∧ e.allows k = true := by
  rw [installSlices, List.mem_filter, State.mem_cmdSlices]

theorem installSlices_single (hk : k < 4) (hallow : e.allows k = true) : installSlices (2 ^ k) e = [k] := by
  rw [installSlices, State.cmdSlices_single hk, List.filter_cons_of_pos hallow, List.filter_nil]

end Install

/-! ### UPDATE (R227) -/

section Update

variable {s : State} {e : Xent} {m : Nat}

/-- The entry of the same page as a descriptor's. -/
def samePage (e x : Xent) : Bool := x.va = e.va && x.log2 = e.log2

theorem samePage_iff {x : Xent} : samePage e x = true ↔ x.va = e.va ∧ x.log2 = e.log2 := by simp [samePage]

/-- What an UPDATE makes of an entry. -/
def updatedXent (e x : Xent) : Xent :=
  if x.va = e.va ∧ x.log2 = e.log2 then { x with flags := e.flags, ref := e.ref, tag := e.tag } else x

/-- The selected slices that hold the page. -/
def updateSlices (s : State) (m : Nat) (e : Xent) : List Nat := (State.cmdSlices m).filter fun k => (s.slice k).any (samePage e)

/-- UPDATE's own checks of the descriptor. -/
def UpdateOk (d : Bytes) (e : Xent) : Prop :=
  (descValid d && decide (12 ≤ e.log2 ∧ e.log2 ≤ 30) && descReservedOk d && descCrcOk d) = true

theorem xltUpdate_none (he : e = Xent.ofBytes s.cmdData) (hok : UpdateOk s.cmdData e) (hnone : updateSlices s m e = []) :
    s.xltUpdate m = (s.cmdStart 2 m).cmdEnd 6 0 := by
  subst he
  have hslices : ((State.cmdSlices m).filter fun k => ((s.cmdStart 2 m).slice k).any (samePage (Xent.ofBytes s.cmdData))) = [] := hnone
  unfold samePage at hslices
  unfold State.xltUpdate
  dsimp only
  rw [if_neg (by rw [hok]; decide), if_pos hslices]

theorem xltUpdate_some (he : e = Xent.ofBytes s.cmdData) (hok : UpdateOk s.cmdData e) (hsome : updateSlices s m e ≠ [])
    (hpin : e.pinned = false) (hallow : ∀ k, e.allows k = true) : s.xltUpdate m =
      (((s.cmdStart 2 m).mapSlices (fun _ es => es.map (updatedXent e)) (updateSlices s m e)).cmdEnd 0 0).research m e.va e.size := by
  subst he
  have hslices : ((State.cmdSlices m).filter fun k => ((s.cmdStart 2 m).slice k).any (samePage (Xent.ofBytes s.cmdData))) ≠ [] := hsome
  unfold samePage at hslices
  unfold State.xltUpdate
  dsimp only
  rw [if_neg (by rw [hok]; decide), if_neg hslices, if_neg (by simp [hpin])]
  simp only [hallow, if_true, Bool.and_eq_true, decide_eq_true_iff]
  rfl

theorem mem_updateSlices {m : BitVec 4} {k : Nat} :
    k ∈ updateSlices s m.toNat e ↔ Selected m k ∧ ∃ x ∈ s.slice k, x.va = e.va ∧ x.log2 = e.log2 := by
  simp only [updateSlices, List.mem_filter, State.mem_cmdSlices, List.any_eq_true, samePage_iff]

theorem updateSlices_nodup : (updateSlices s m e).Nodup := (State.cmdSlices_nodup m).filter _

/-- A slice without the page is as an UPDATE of it would leave it. -/
theorem map_updatedXent {es : List Xent} (h : ¬∃ x ∈ es, x.va = e.va ∧ x.log2 = e.log2) : es.map (updatedXent e) = es := by
  refine (List.map_congr_left fun x hx => ?_).trans (List.map_id _)
  exact if_neg fun hsame => h ⟨x, hx, hsame⟩

end Update

/-! ### The invalidations (R227, R231) -/

/-- An invalidation drops entries of the selected slices and stays busy. -/
theorem xltInvalidate_drops {s : State} {m : BitVec 4} {op va n : Nat} {p keep : Xent → Bool} (hkeep : ∀ x, keep x = !p x) :
    (∀ k, (Selected m k → (s.xltInvalidate op m.toNat va n p).slice k = (s.slice k).filter keep) ∧
      (¬Selected m k → (s.xltInvalidate op m.toNat va n p).slice k = s.slice k)) ∧
    (s.xltInvalidate op m.toNat va n p).mem.inval = some (m.toNat, va, n) ∧
    (s.xltInvalidate op m.toNat va n p).g .xlt 0 Off.xltCmd 63 63 = 1 ∧ (s.xltInvalidate op m.toNat va n p).mem.bytes = s.mem.bytes ∧
    RegsOnly [regAt .xlt 0 Off.xltCmd] s (s.xltInvalidate op m.toNat va n p) ∧
      Same [.regs, .mem] s (s.xltInvalidate op m.toNat va n p) := by
  obtain rfl : keep = fun x => !p x := funext hkeep
  obtain ⟨t, ht⟩ : ∃ t, t = (s.cmdStart op m.toNat).mapSlices (fun _ es => es.filter fun x => !p x) (State.cmdSlices m.toNat) := ⟨_, rfl⟩
  have hu : s.xltInvalidate op m.toNat va n p = { t with mem := { t.mem with inval := some (m.toNat, va, n) } } := by rw [ht]; rfl
  have hslice (k : Nat) : t.slice k = if k ∈ State.cmdSlices m.toNat then (s.slice k).filter fun x => !p x else s.slice k := by
    rw [ht]
    exact slice_mapSlices (s := s.cmdStart op m.toNat) (State.cmdSlices_nodup _) k
  have hregs : t.regs = (s.cmdStart op m.toNat).regs := by rw [ht, mapSlices_regs]
  have hsame : Same [.regs, .mem] s t := by
    rw [ht]
    exact ((State.cmdStart_ext ..).1.mono rfl).trans (mapSlices_same.mono rfl)
  rw [hu]
  refine ⟨fun k => ⟨fun hk => (hslice k).trans (if_pos (State.mem_cmdSlices.2 hk)), fun hk => (hslice k).trans
    (if_neg (mt State.mem_cmdSlices.1 hk))⟩,
    rfl, ?_, ?_, fun a ha => ?_, ?_⟩
  · exact (congrArg (fld · 63 63) (State.rd_of_regs hregs _)).trans (State.cmdStart_go _ _)
  · rw [ht]
    exact mapSlices_bytes
  · exact (State.rd_of_regs hregs a).trans (State.cmdStart_only _ _ a ha)
  · exact hsame.trans ((Ext.set_mem t { t.mem with inval := some (m.toNat, va, n) } id).1.mono rfl)

theorem research_none {s : State} {m va n : Nat} (h : s.mem.faults = []) : s.research m va n = s := by
  have hmap (f : XFault → XFault) : s.mem.faults.map f = s.mem.faults := by rw [h, List.map_nil]
  unfold State.research
  dsimp only
  rw [hmap]

/-- GO clears when the accesses that an invalidation waits for have completed; without faults nothing searches again. -/
theorem invalidationDone {s : State} {r va n : Nat} (hinval : s.mem.inval = some (r, va, n)) (hfaults : s.mem.faults = []) :
    ∃ u, exec .xltInvalidationDone s = .next u ∧ XltEnded u 0 0 ∧ u.mem = { s.mem with inval := none } ∧ Same [.regs, .hlk, .mem] s u := by
  obtain ⟨t, ht⟩ : ∃ t : State, t = { s with mem := { s.mem with inval := none } } := ⟨_, rfl⟩
  have hmem : t.mem = { s.mem with inval := none } := by rw [ht]
  have hexec : exec .xltInvalidationDone s = .next ((t.cmdEnd 0 0).research r va n) := by
    subst ht
    refine congrArg Host.Outcome.next ?_
    rw [hinval]
  have hres : (t.cmdEnd 0 0).research r va n = t.cmdEnd 0 0 := by
    have hnone : (t.cmdEnd 0 0).mem.faults = [] := by
      rw [State.cmdEnd_mem, hmem]
      exact hfaults
    exact research_none hnone
  refine ⟨_, hexec, ?_, ?_, ((exec_ext _ s).all _ hexec).1⟩
  · rw [hres]
    exact State.cmdEnd_ended (by decide) (by decide)
  · rw [hres, State.cmdEnd_mem, hmem]

/-! ### LOOKUP and its command data (R227, R232) -/

section Lookup

variable {s u : State} {m : Nat}

theorem natBytes_leNat (l : Bytes) : natBytes l.length (leNat l) = l := by
  induction l with
  | nil => rfl
  | cons b l ih =>
    have hlow : BitVec.ofNat 8 (b.toNat + 256 * leNat l) = b := by
      apply BitVec.eq_of_toNat_eq
      have := b.isLt
      rw [BitVec.toNat_ofNat]
      omega
    have hhigh : (b.toNat + 256 * leNat l) / 256 = leNat l := by
      have := b.isLt
      omega
    rw [List.length_cons, leNat, natBytes, hlow, hhigh, ih]

theorem cmdData_congr (h : ∀ n, n < 4 → u.rd (regAt .xlt 0 Off.xltCmddata + 8 * n) = s.rd (regAt .xlt 0 Off.xltCmddata + 8 * n)) :
    u.cmdData = s.cmdData := by
  unfold State.cmdData
  refine congrArg List.flatten (List.map_congr_left fun n hn => ?_)
  exact congrArg (fun w : Word => natBytes 8 w.toNat) (h n (List.mem_range.1 hn))

theorem cmdData_setCmdData {d : Bytes} (hd : d.length = 32) : (s.setCmdData d).cmdData = d := by
  have hword (n : Nat) (hn : n < 4) : (s.setCmdData d).rd (regAt .xlt 0 Off.xltCmddata + 8 * n) = BitVec.ofNat 64 (bat d (8 * n) 8) := by
    interval_cases n <;> simp [State.setCmdData, List.range_succ, State.rd_wr]
  have hbytes (n : Nat) (hn : n < 4) : natBytes 8 (BitVec.ofNat 64 (bat d (8 * n) 8)).toNat = (d.drop (8 * n)).take 8 := by
    have hlen : ((d.drop (8 * n)).take 8).length = 8 := by
      rw [List.length_take, List.length_drop]
      omega
    have hlt := leNat_lt ((d.drop (8 * n)).take 8)
    rw [hlen, show 256 ^ 8 = 2 ^ 64 from rfl] at hlt
    have hnat := natBytes_leNat ((d.drop (8 * n)).take 8)
    rw [hlen] at hnat
    rw [BitVec.toNat_ofNat, bat, Nat.mod_eq_of_lt hlt, hnat]
  have hmap : (s.setCmdData d).cmdData = ((List.range 4).map fun n => (d.drop (8 * n)).take 8).flatten := by
    unfold State.cmdData
    refine congrArg List.flatten (List.map_congr_left fun n hn => ?_)
    rw [hword n (List.mem_range.1 hn), hbytes n (List.mem_range.1 hn)]
  have hlast : (d.drop 24).take 8 = d.drop 24 := List.take_of_length_le (by simp [hd])
  have hjoin (n : Nat) : (d.drop n).take 8 ++ d.drop (n + 8) = d.drop n := by
    rw [← List.drop_drop]
    exact List.take_append_drop 8 _
  calc (s.setCmdData d).cmdData = (d.drop 0).take 8 ++ ((d.drop 8).take 8 ++ ((d.drop 16).take 8 ++ (d.drop 24).take 8)) := by
        rw [hmap]
        simp [List.range_succ]
    _ = d := by rw [hlast, hjoin 16, hjoin 8, hjoin 0, List.drop_zero]

theorem cmdEnd_cmdData {r f : Nat} : (s.cmdEnd r f).cmdData = s.cmdData := by
  refine cmdData_congr fun n hn => State.cmdEnd_rd_other ?_ ?_ <;> simp only [regAt, Off.xltCmddata, Off.xltCmd, Off.event] <;> omega

theorem cmdStart_cmdData {op : Nat} : (s.cmdStart op m).cmdData = s.cmdData := by
  refine cmdData_congr fun n hn => State.cmdStart_rd_other ?_
  simp only [regAt, Off.xltCmddata, Off.xltCmd]
  omega

/-- The entry that a LOOKUP shows. -/
def lookedUp (s : State) (m : Nat) : Option Xent :=
  (State.cmdSlices m).findSome? fun k => (s.slice k).find? (·.covers (Xent.ofBytes s.cmdData).va)

theorem xltLookup_found {x : Xent} (h : lookedUp s m = some x) :
    s.xltLookup m = ((s.cmdStart 6 m).setCmdData x.bytes).cmdEnd 0 0 := by
  have hfind : ((State.cmdSlices m).findSome? fun k => ((s.cmdStart 6 m).slice k).find? (·.covers (Xent.ofBytes s.cmdData).va)) = some x := h
  unfold State.xltLookup
  dsimp only
  rw [hfind]

theorem xltLookup_none (h : lookedUp s m = none) : s.xltLookup m = (s.cmdStart 6 m).cmdEnd 6 0 := by
  have hfind : ((State.cmdSlices m).findSome? fun k => ((s.cmdStart 6 m).slice k).find? (·.covers (Xent.ofBytes s.cmdData).va)) = none := h
  unfold State.xltLookup
  dsimp only
  rw [hfind]

end Lookup

/-! ### The statement -/

section Settle

variable {s : State} {m : BitVec 4} {e : Xent}

theorem install_bad (h : XltFree s) (hbad : s.descCheck s.cmdData ≠ 0) :
    ∃ u, exec (.install m) s = .next u ∧ XltEnded u (s.descCheck s.cmdData) 0 ∧ u.mem = s.mem ∧ Same [.regs, .hlk] s u := by
  refine ⟨_, exec_install_free h, ?_⟩
  rw [xltInstall_bad hbad]
  exact ⟨State.cmdEnd_ended (State.descCheck_lt ..) (by decide), State.cmdEnd_mem, State.cmdEnd_cmdStart_same⟩

theorem install_entered (h : XltFree s) (hcheck : s.descCheck s.cmdData = 0) (he : e = Xent.ofBytes s.cmdData)
    (hsome : ∃ k, Selected m k ∧ e.allows k = true)
    (hok : ∀ k, Selected m k → e.allows k = true → sliceRefusal (s.slice k) e = 0 ∧ (s.slice k).length < 16384) :
    ∃ u, exec (.install m) s = .next u ∧ XltEnded u 0 0 ∧
      (∀ k, (Selected m k ∧ e.allows k = true → u.slice k = e :: s.slice k) ∧
        (¬(Selected m k ∧ e.allows k = true) → u.slice k = s.slice k)) ∧ u.mem.bytes = s.mem.bytes ∧ Same [.regs, .hlk, .mem] s u := by
  have hexec := exec_install_free (m := m) h
  have hne : installSlices m.toNat e ≠ [] := by
    obtain ⟨k, hk⟩ := hsome
    exact List.ne_nil_of_mem (mem_installSlices.2 hk)
  have hokIn : ∀ k ∈ installSlices m.toNat e, sliceRefusal (s.slice k) e = 0 ∧ (s.slice k).length < 16384 := fun k hk =>
    hok k (mem_installSlices.1 hk).1 (mem_installSlices.1 hk).2
  have hnodup : (installSlices m.toNat e).Nodup := (State.cmdSlices_nodup _).filter _
  have hinstall := xltInstall_entered hcheck he hne fun k hk => (hokIn k hk).1
  rw [installIns_room (s := s.cmdStart 1 m.toNat) hnodup fun k hk => (hokIn k hk).2] at hinstall
  have hslice (k : Nat) : (s.xltInstall m.toNat).slice k = if k ∈ installSlices m.toNat e then e :: s.slice k else s.slice k := by
    rw [hinstall, State.cmdEnd_slice, slice_mapSlices hnodup]
    rfl
  refine ⟨_, hexec, ?_, fun k => ⟨fun hk => ?_, fun hk => ?_⟩, ?_, ((exec_ext _ s).all _ hexec).1⟩
  · rw [hinstall]
    exact State.cmdEnd_ended (by decide) (by decide)
  · rw [hslice, if_pos (mem_installSlices.2 hk)]
  · rw [hslice, if_neg (mt mem_installSlices.1 hk)]
  · rw [hinstall, State.cmdEnd_mem, mapSlices_bytes]
    rfl

theorem install_evicts {k : Nat} {v : Xent} (h : XltFree s) (hcheck : s.descCheck s.cmdData = 0) (he : e = Xent.ofBytes s.cmdData)
    (hk : k < 4)
    (hm : m.toNat = 2 ^ k) (hallow : e.allows k = true) (hok : sliceRefusal (s.slice k) e = 0) (hfull : 16384 ≤ (s.slice k).length)
    (hv : ((s.slice k).filter fun x => !x.pinned).getLast? = some v) :
    ∃ u, exec (.install m) s = .next u ∧ XltEnded u 0 0 ∧ u.slice k = e :: (s.slice k).filter (· ≠ v) ∧
      Counted s u .xlt 0 (0x200 + 32) 1 := by
  have hone : installSlices m.toNat e = [k] := by rw [hm, installSlices_single hk hallow]
  have hinstall := xltInstall_entered (m := m.toNat) hcheck he (by rw [hone]; simp) (by simpa [hone] using hok)
  rw [hone, List.foldl_cons, List.foldl_nil, installIn_full (s := s.cmdStart 1 m.toNat) hfull hv] at hinstall
  refine ⟨_, exec_install_free h, ?_⟩
  rw [hinstall]
  refine ⟨State.cmdEnd_ended (by decide) (by decide), ?_, ?_⟩
  · rw [State.cmdEnd_slice]
    have hmem := (State.bump_ext (((s.cmdStart 1 m.toNat).setSlice k (e :: (s.slice k).filter (· ≠ v)))) .xlt 0 (0x200 + 32) 1).1 .mem
      (by decide)
    calc State.slice _ k = tget ((s.cmdStart 1 m.toNat).setSlice k (e :: (s.slice k).filter (· ≠ v))).mem.slices [] k :=
          congrArg (fun m : Mem => tget m.slices [] k) hmem
      _ = e :: (s.slice k).filter (· ≠ v) := tget_tset_same ..
  · refine (State.bump_counted _ Nat.one_ne_zero).between ?_ (State.cmdEnd_rd_other (by decide) (by decide))
    exact State.cmdStart_rd_other (by decide)

theorem install_refused {k r : Nat} (h : XltFree s) (hcheck : s.descCheck s.cmdData = 0) (he : e = Xent.ofBytes s.cmdData) (hk : k < 4)
    (hm : m.toNat = 2 ^ k) (hallow : e.allows k = true) (hr : r ≠ 0) (hrefuse : sliceRefusal (s.slice k) e = r) :
    ∃ u, exec (.install m) s = .next u ∧ XltEnded u r (2 ^ k) ∧ u.mem = s.mem ∧ Same [.regs, .hlk] s u := by
  have hone : installSlices m.toNat e = [k] := by rw [hm, installSlices_single hk hallow]
  refine ⟨_, exec_install_free h, ?_⟩
  rw [xltInstall_refused hcheck he hone hr hrefuse]
  exact ⟨State.cmdEnd_ended (hrefuse ▸ State.sliceRefusal_lt ..) (Nat.pow_lt_pow_right (by decide) hk), State.cmdEnd_mem,
    State.cmdEnd_cmdStart_same⟩

theorem update_some (h : XltFree s) (he : e = Xent.ofBytes s.cmdData) (hok : UpdateOk s.cmdData e) (hpin : e.pinned = false)
    (hsome : ∃ k, Selected m k ∧ ∃ x ∈ s.slice k, x.va = e.va ∧ x.log2 = e.log2) (hallow : ∀ k, e.allows k = true) :
    ∃ u, exec (.update m) s = .next u ∧ XltEnded u 0 0 ∧ Same [.regs, .hlk, .mem] s u ∧
      (∀ k, Selected m k → u.slice k = (s.slice k).map (updatedXent e)) ∧ (∀ k, ¬Selected m k → u.slice k = s.slice k) := by
  have hexec := exec_update_free (m := m) h
  have hne : updateSlices s m.toNat e ≠ [] := by
    obtain ⟨k, hk⟩ := hsome
    exact List.ne_nil_of_mem (mem_updateSlices.2 hk)
  obtain ⟨t, ht⟩ : ∃ t, t = (s.cmdStart 2 m.toNat).mapSlices (fun _ es => es.map (updatedXent e)) (updateSlices s m.toNat e) := ⟨_, rfl⟩
  have hupdate : s.xltUpdate m.toNat = (t.cmdEnd 0 0).research m.toNat e.va e.size := by rw [ht, xltUpdate_some he hok hne hpin hallow]
  have hslice (k : Nat) : (s.xltUpdate m.toNat).slice k =
      if k ∈ updateSlices s m.toNat e then (s.slice k).map (updatedXent e) else s.slice k := by
    have hresearch : (s.xltUpdate m.toNat).slice k = (t.cmdEnd 0 0).slice k := by rw [hupdate]; rfl
    rw [hresearch, State.cmdEnd_slice, ht, slice_mapSlices updateSlices_nodup]
    rfl
  refine ⟨_, hexec, ?_, ((exec_ext _ s).all _ hexec).1, fun k hk => ?_, fun k hk => ?_⟩
  · rw [hupdate]
    exact (State.cmdEnd_ended (s := t) (by decide) (by decide)).of_regs rfl
  · rw [hslice]
    split
    · rfl
    · rename_i hnot
      exact (map_updatedXent fun hx => hnot (mem_updateSlices.2 ⟨hk, hx⟩)).symm
  · rw [hslice, if_neg fun hin => hk (mem_updateSlices.1 hin).1]

theorem update_none (h : XltFree s) (he : e = Xent.ofBytes s.cmdData) (hok : UpdateOk s.cmdData e)
    (hnone : ∀ k, Selected m k → ∀ x ∈ s.slice k, ¬(x.va = e.va ∧ x.log2 = e.log2)) :
    ∃ u, exec (.update m) s = .next u ∧ XltEnded u 6 0 ∧ u.mem = s.mem ∧ Same [.regs, .hlk] s u := by
  have hempty : updateSlices s m.toNat e = [] := List.eq_nil_iff_forall_not_mem.2 fun k hk => by
    obtain ⟨hsel, x, hx, hsame⟩ := mem_updateSlices.1 hk
    exact hnone k hsel x hx hsame
  refine ⟨_, exec_update_free h, ?_⟩
  rw [xltUpdate_none he hok hempty]
  exact ⟨State.cmdEnd_ended (by decide) (by decide), State.cmdEnd_mem, State.cmdEnd_cmdStart_same⟩

theorem lookup_found {k : Nat} {x : Xent} (h : XltFree s) (hk : k < 4) (hm : m.toNat = 2 ^ k)
    (hx : (s.slice k).find? (fun x => x.covers (Xent.ofBytes s.cmdData).va) = some x) :
    ∃ u, exec (.lookup m) s = .next u ∧ XltEnded u 0 0 ∧ u.cmdData = x.bytes ∧ u.mem = s.mem ∧ Same [.regs, .hlk] s u := by
  have hfind : lookedUp s m.toNat = some x := by
    rw [lookedUp, hm, State.cmdSlices_single hk, List.findSome?_cons, hx]
  refine ⟨_, exec_lookup_free h, ?_⟩
  rw [xltLookup_found hfind]
  refine ⟨State.cmdEnd_ended (by decide) (by decide), ?_, ?_, ?_⟩
  · rw [cmdEnd_cmdData, cmdData_setCmdData x.bytes_length]
  · exact State.cmdEnd_mem.trans ((State.setCmdData_ext ..).1 .mem (by decide))
  · exact (((State.cmdStart_ext ..).1.mono rfl).trans ((State.setCmdData_ext ..).1.mono rfl)).trans (State.cmdEnd_ext ..).1

theorem lookup_none (h : XltFree s) (hnone : ∀ k, Selected m k → ∀ x ∈ s.slice k, x.covers (Xent.ofBytes s.cmdData).va = false) :
    ∃ u, exec (.lookup m) s = .next u ∧ XltEnded u 6 0 ∧ u.cmdData = s.cmdData ∧ u.mem = s.mem ∧ Same [.regs, .hlk] s u := by
  have hfind : lookedUp s m.toNat = none := by
    rw [lookedUp, List.findSome?_eq_none_iff]
    intro k hk
    rw [List.find?_eq_none]
    intro x hx
    rw [hnone k (State.mem_cmdSlices.1 hk) x hx]
    decide
  refine ⟨_, exec_lookup_free h, ?_⟩
  rw [xltLookup_none hfind]
  exact ⟨State.cmdEnd_ended (by decide) (by decide), by rw [cmdEnd_cmdData, cmdStart_cmdData], State.cmdEnd_mem, State.cmdEnd_cmdStart_same⟩

end Settle

/-- Settles O43, command by command. -/
theorem translationCommands : Obligations.TranslationCommands := by
  rintro s m d e rfl he
  have hupdate (hvalid : descValid s.cmdData = true) (hres : descReservedOk s.cmdData = true) (hcrc : descCrcOk s.cmdData = true)
      (hlow : 12 ≤ e.log2) (hhigh : e.log2 ≤ 30) : UpdateOk s.cmdData e := by
    simp [UpdateOk, hvalid, hres, hcrc, hlow, hhigh]
  refine ⟨install_bad, fun h hcheck => install_entered h hcheck he, fun k v h hcheck => install_evicts h hcheck he,
    fun k r h hcheck hk hm hallow hr => install_refused h hcheck he hk hm hallow hr,
    fun h hvalid hres hcrc hlow hhigh hpin hsome hallow _ => ?_,
    fun h hvalid hres hcrc hlow hhigh hnone => update_none h he (hupdate hvalid hres hcrc hlow hhigh) hnone,
    fun c hc h => ?_, fun r va n => invalidationDone, fun k x h hk hm hx => ?_, fun h hnone => ?_, fun c hc =>
      ⟨fun hready => ?_, fun hready hgo => ?_⟩⟩
  · exact update_some h he (hupdate hvalid hres hcrc hlow hhigh) hpin hsome hallow
  · simp only [List.mem_cons, List.not_mem_nil, or_false] at hc
    subst he
    rcases hc with rfl | rfl | rfl
    · dsimp only
      exact ⟨_, exec_invRange_free h, xltInvalidate_drops fun _ => rfl⟩
    · dsimp only
      exact ⟨_, exec_invUnpinned_free h, xltInvalidate_drops fun x => (Bool.not_not x.pinned).symm⟩
    · dsimp only
      exact ⟨_, exec_invAll_free h, xltInvalidate_drops fun _ => rfl⟩
  · subst he
    exact lookup_found h hk hm hx
  · subst he
    exact lookup_none h hnone
  · obtain ⟨op, hexec⟩ := exec_xltCommand (s := s) (m := m) hc
    refine ⟨_, hexec, ?_⟩
    rw [xltGo_early hready]
    exact State.refuse_refused
  · obtain ⟨op, hexec⟩ := exec_xltCommand (s := s) (m := m) hc
    rw [hexec, xltGo_busy hready hgo]

end Sys2Proof.Machine
end

section
/-! SUPPORT. Statement O44: misses, map searches and host faults (R225, R228 to R230, R249). -/

namespace Sys2Proof.Machine

/-- The only element that passes is the one found. -/
theorem find?_eq_some_of_unique {α : Type} {p : α → Bool} {l : List α} {x : α} (hx : x ∈ l) (hp : p x = true)
    (honly : ∀ y ∈ l, p y = true → y = x) : l.find? p = some x := by
  cases hfind : l.find? p with
  | none => exact absurd hp (List.find?_eq_none.1 hfind x hx)
  | some y => rw [honly y (List.mem_of_find?_eq_some hfind) (List.find?_some hfind)]

theorem foldl_fixed_of_mem {α β : Type} {f : α → β → α} {a : α} {l : List β} (h : ∀ b ∈ l, f a b = a) : l.foldl f a = a := by
  induction l with
  | nil => rfl
  | cons b l ih =>
    rw [List.foldl_cons, h b (by simp)]
    exact ih fun c hc => h c (List.mem_cons_of_mem _ hc)

/-- Memory and translation state replaced. -/
def State.setMem (s : State) (m : Mem) : State := { s with mem := m }

/-- A counter's change leaves the other pages' registers. -/
theorem rd_bump_page {s : State} {b c : Blk} {i j off off' n : Nat} (hi : i < pageCount b) (hj : j < pageCount c) (ho : off < 0x1000)
    (ho' : off' < 0x1000) (h : c ≠ b) : (s.bump b i off n).rd (regAt c j off') = s.rd (regAt c j off') := by
  have hitem := State.satItem_lt b off
  refine s.rd_bump b i off n _ ?_ ?_ ?_
  · exact State.regAt_page_ne hj hi ho' ho h
  · exact State.regAt_page_ne hj hi ho' (by decide) h
  · exact State.regAt_page_ne hj hi ho' (by simp only [Off.cntSat]; omega) h

/-! ### A miss (R225, R228, R249) -/

section Miss

variable {s t : State} {sl va : Nat} {w : Bool}

theorem exec_translationMiss (hsl : sl < 4) (hready : s.ready .xlt 0 = true) (req h : Nat) :
    exec (.translationMiss sl req va w h) s = .next (s.missFault sl req va w h) := congrArg Host.Outcome.next (if_pos ⟨hsl, hready⟩)

/-- The fault that a first miss on a page makes. -/
def firstFault (s : State) (sl req va : Nat) (w : Bool) (holder : Nat) : XFault :=
  { id := s.mem.nextFault, slice := sl, kind := 0, va := va, write := w, req := req, round := 0, stage := .search,
    holders := [(holder, va)] }

/-- Memory with that fault entered. -/
def Mem.faulted (m : Mem) (f : XFault) : Mem := { m with faults := m.faults ++ [f], nextFault := (m.nextFault + 1) % 2 ^ 32 }

/-- The holding of the requester itself (R249). -/
def State.heldFor (s : State) (holder va : Nat) : State := if State.isQueue holder then s.holdQueue holder va else s

/-- The faults of a miss on one slice and page, those of R228 that may merge. -/
def mergesWith (sl va : Nat) (f : XFault) : Bool := f.slice = sl && f.va / 4096 = va / 4096 && decide (f.kind = 2 ↔ 0 = 2)

theorem missFault_new {req h : Nat} (hmiss : s.translate sl va w = .miss)
    (hmem : (s.heldFor (State.holderKey req h) va).mem = s.mem) (hnew : ∀ f ∈ s.mem.faults, ¬(f.slice = sl ∧ f.va / 4096 = va / 4096)) :
    s.missFault sl req va w h =
      ((s.heldFor (State.holderKey req h) va).setMem
        (s.mem.faulted (firstFault s sl req va w (State.holderKey req h)))).bump .xlt 0 0x200 1 := by
  have hfind : (s.heldFor (State.holderKey req h) va).mem.faults.find? (mergesWith sl va) = none := by
    rw [hmem, List.find?_eq_none]
    intro f hf
    have hno := hnew f hf
    simp only [mergesWith, Bool.and_eq_true, decide_eq_true_iff]
    tauto
  unfold State.missFault
  rw [hmiss]
  dsimp only
  unfold mergesWith at hfind
  unfold State.heldFor at hfind hmem ⊢
  rw [hfind]
  dsimp only
  rw [hmem]
  rfl

theorem missFault_merge {req h : Nat} {f : XFault} (hmiss : s.translate sl va w = .miss)
    (hunit : State.isQueue (State.holderKey req h) = false)
    (hf : f ∈ s.mem.faults) (hslice : f.slice = sl) (hkind : f.kind ≠ 2) (hpage : f.va / 4096 = va / 4096)
    (honly : ∀ g ∈ s.mem.faults, g ≠ f → ¬(g.slice = sl ∧ g.va / 4096 = va / 4096)) :
    s.missFault sl req va w h = s.setFault { f with holders := f.holders ++ [(State.holderKey req h, va)] } := by
  have hfind : s.mem.faults.find? (mergesWith sl va) = some f := by
    refine find?_eq_some_of_unique hf (by simp [mergesWith, hslice, hpage, hkind]) fun g hg hmerge => ?_
    by_contra hne
    simp only [mergesWith, Bool.and_eq_true, decide_eq_true_iff] at hmerge
    exact honly g hg hne hmerge.1
  unfold State.missFault
  rw [hmiss]
  dsimp only
  rw [hunit, if_neg Bool.false_ne_true]
  unfold mergesWith at hfind
  rw [hfind]

theorem holderKey_ring {r : Nat} (hr : r < 64) : State.holderKey 8 r = 30000 + r := by
  unfold State.holderKey
  rw [if_neg (by omega), if_pos rfl]

theorem holderKey_queue {q : Nat} : State.holderKey 1 q = q := if_pos (.inl (by decide))

theorem isQueue_ring (r : Nat) : State.isQueue (30000 + r) = false := by
  rw [State.isQueue, decide_eq_false_iff_not]
  omega

/-- A ring's miss makes a fault that holds it (R228). -/
theorem ringMiss {r : Nat} (hsl : sl < 4) (hready : s.ready .xlt 0 = true) (hr : r < 64) (hmiss : s.translate sl va w = .miss)
    (hnew : ∀ f ∈ s.mem.faults, ¬(f.slice = sl ∧ f.va / 4096 = va / 4096)) :
    ∃ u f, exec (.translationMiss sl 8 va w r) s = .next u ∧
      u.mem = { s.mem with faults := s.mem.faults ++ [f], nextFault := (s.mem.nextFault + 1) % 2 ^ 32 } ∧
      f.id = s.mem.nextFault ∧ f.slice = sl ∧ f.va = va ∧ f.write = w ∧ f.stage = .search ∧ f.round = 0 ∧
      f.holders = [(30000 + r, va)] ∧ Counted s u .xlt 0 0x200 1 ∧ Same [.regs, .hlk, .mem] s u := by
  have hexec := exec_translationMiss (va := va) (w := w) hsl hready 8 r
  have hheld : s.heldFor (State.holderKey 8 r) va = s := by
    rw [State.heldFor, holderKey_ring hr, isQueue_ring, if_neg Bool.false_ne_true]
  have hmissed := missFault_new (req := 8) (h := r) hmiss (by rw [hheld]) hnew
  rw [hheld, holderKey_ring hr] at hmissed
  refine ⟨_, firstFault s sl 8 va w (30000 + r), hexec, ?_, rfl, rfl, rfl, rfl, rfl, rfl, rfl, ?_, ?_⟩
  · rw [hmissed]
    exact (State.bump_ext ..).1 .mem (by decide)
  · rw [hmissed]
    exact State.bump_counted (s.setMem (s.mem.faulted (firstFault s sl 8 va w (30000 + r)))) Nat.one_ne_zero
  · rw [hmissed]
    exact ((Ext.set_mem s (s.mem.faulted (firstFault s sl 8 va w (30000 + r))) id).1.mono rfl).trans ((State.bump_ext ..).1.mono rfl)

/-- A later miss on the page joins the fault (R228). -/
theorem ringMerge {r : Nat} {f : XFault} (hsl : sl < 4) (hready : s.ready .xlt 0 = true) (hr : r < 64) (hmiss : s.translate sl va w = .miss)
    (hf : f ∈ s.mem.faults) (hslice : f.slice = sl) (hkind : f.kind ≠ 2) (hpage : f.va / 4096 = va / 4096)
    (honly : ∀ g ∈ s.mem.faults, g ≠ f → ¬(g.slice = sl ∧ g.va / 4096 = va / 4096)) (hids : (s.mem.faults.map (·.id)).Nodup) :
    ∃ u, exec (.translationMiss sl 8 va w r) s = .next u ∧
      u.mem = { s.mem with faults := s.mem.faults.map fun g =>
        if g = f then { f with holders := f.holders ++ [(30000 + r, va)] } else g } ∧ Same [.mem] s u := by
  have hexec := exec_translationMiss (va := va) (w := w) hsl hready 8 r
  have hunit : State.isQueue (State.holderKey 8 r) = false := by rw [holderKey_ring hr, isQueue_ring]
  rw [missFault_merge hmiss hunit hf hslice hkind hpage honly, holderKey_ring hr] at hexec
  have hmap : (s.mem.faults.map fun g => if g.id = f.id then { f with holders := f.holders ++ [(30000 + r, va)] } else g) =
      s.mem.faults.map fun g => if g = f then { f with holders := f.holders ++ [(30000 + r, va)] } else g := by
    refine List.map_congr_left fun g hg => ?_
    have hid : g.id = f.id ↔ g = f := ⟨fun h => List.inj_on_of_nodup_map hids hg hf h, fun h => by rw [h]⟩
    simp only [hid]
  refine ⟨_, hexec, ?_, (State.setFault_ext ..).1⟩
  unfold State.setFault
  dsimp only
  rw [hmap]

/-! ### The held operation of a queue (R249) -/

theorem heldOp_single {q : Nat} {o : Op} (hq : s.queue q = [o]) : s.heldOp q va = some o := by
  have hl : tget s.queues [] q = [o] := hq
  unfold State.heldOp
  dsimp only
  rw [hl, List.find?_cons]
  cases State.opTouches o va <;> rfl

theorem markHeld_single {q : Nat} {o : Op} {v : Bool} (hq : s.queue q = [o]) : s.markHeld q va v = s.setQueue q [{ o with held := v }] := by
  have hl : tget s.queues [] q = [o] := hq
  unfold State.markHeld State.setQueue
  rw [heldOp_single hq]
  dsimp only
  rw [hl]
  simp

/-- The hold of a core queue's operation: its cursor, FAULT_HELD, and its counter. -/
def State.holdShown (s : State) (q : Nat) (o : Op) : State :=
  (((s.setQueue q [{ o with held := true }]).wr (pageBase .cor (q / 8) + Off.corSqcur + 8 * (q % 8))
    (BitVec.ofNat 64 (2 ^ 63 + o.cursor % 2 ^ 48))).raise .sth (q / 8 / 576) Ev.sthFaultHeld).bump .sth (q / 8 / 576) (0x200 + 32) 1

theorem holdQueue_single {q : Nat} {o : Op} (hlt : q < 18432) (hq : s.queue q = [o]) (hheld : o.held = false) :
    s.holdQueue q va = s.holdShown q o := by
  have hbasin : State.queueBasin q = q / 8 / 576 := if_pos hlt
  unfold State.holdQueue
  rw [heldOp_single hq]
  dsimp only
  rw [hheld, if_neg Bool.false_ne_true, if_pos hlt, markHeld_single hq, hbasin]
  rfl

theorem holdShown_mem {q : Nat} {o : Op} : (s.holdShown q o).mem = s.mem :=
  ((State.bump_ext ..).1 .mem (by decide)).trans ((State.raise_ext ..).1 .mem (by decide))

theorem holdShown_queue {q : Nat} {o : Op} (k : Nat) :
    (s.holdShown q o).queue k = if k = q then [{ o with held := true }] else s.queue k := by
  have hsame : Same [.regs, .hlk] (s.setQueue q [{ o with held := true }]) (s.holdShown q o) :=
    (((State.wr_ext ..).1.mono rfl).trans (State.raise_ext ..).1).trans (State.bump_ext ..).1
  rw [hsame.queue k, State.queue_setQueue]

theorem holdShown_cursor {q : Nat} {o : Op} (hlt : q < 18432) :
    (s.holdShown q o).rd (regAt .cor (q / 8) (Off.corSqcur + 8 * (q % 8))) = BitVec.ofNat 64 (2 ^ 63 + o.cursor % 2 ^ 48) := by
  have hcor : q / 8 < pageCount .cor := by
    simp only [pageCount]
    omega
  have hsth : q / 8 / 576 < pageCount .sth := by
    simp only [pageCount]
    omega
  have hoff : Off.corSqcur + 8 * (q % 8) < 0x1000 := by
    simp only [Off.corSqcur]
    omega
  have hne : regAt .cor (q / 8) (Off.corSqcur + 8 * (q % 8)) ≠ regAt .sth (q / 8 / 576) Off.event :=
    State.regAt_page_ne hcor hsth hoff (by decide) (by decide)
  rw [State.holdShown, rd_bump_page hsth hcor (by decide) hoff (by decide), State.rd_raise _ _ _ _ _ hne, regAt, ← Nat.add_assoc,
    State.rd_wr_same]

theorem holdShown_event {q : Nat} {o : Op} :
    (s.holdShown q o).g .sth (q / 8 / 576) Off.event Ev.sthFaultHeld Ev.sthFaultHeld = 1 := by
  rw [State.holdShown, State.event_bump _ (by decide) (by decide)]
  exact State.fld_event_raise_same _ (by decide)

/-- A counted fault leaves the registers of the other pages. -/
theorem rd_faulted {m : Mem} {c : Blk} {j off : Nat} (hj : j < pageCount c) (ho : off < 0x1000) (h : c ≠ .xlt) :
    ((t.setMem m).bump .xlt 0 0x200 1).rd (regAt c j off) = t.rd (regAt c j off) :=
  rd_bump_page (by decide) hj (by decide) ho h

theorem mem_faulted {m : Mem} : ((t.setMem m).bump .xlt 0 0x200 1).mem = m := (State.bump_ext ..).1 .mem (by decide)

theorem queue_faulted {m : Mem} (k : Nat) : ((t.setMem m).bump .xlt 0 0x200 1).queue k = t.queue k := (State.bump_ext ..).1.queue k

/-- A core queue's miss holds its operation and shows its cursor (R249). -/
theorem queueMiss {q : Nat} {o : Op} (hsl : sl < 4) (hready : s.ready .xlt 0 = true) (hlt : q < 18432) (hq : s.queue q = [o])
    (hheld : o.held = false) (hmiss : s.translate sl va w = .miss) (hnew : ∀ f ∈ s.mem.faults, ¬(f.slice = sl ∧ f.va / 4096 = va / 4096)) :
    ∃ u, exec (.translationMiss sl 1 va w q) s = .next u ∧
      (∀ k, u.queue k = if k = q then [{ o with held := true }] else s.queue k) ∧
      u.rd (regAt .cor (q / 8) (Off.corSqcur + 8 * (q % 8))) = BitVec.ofNat 64 (2 ^ 63 + o.cursor % 2 ^ 48) ∧
      u.g .sth (q / 8 / 576) Off.event Ev.sthFaultHeld Ev.sthFaultHeld = 1 ∧ u.mem.faults.length = s.mem.faults.length + 1 := by
  have hheldFor : s.heldFor (State.holderKey 1 q) va = s.holdShown q o := by
    rw [State.heldFor, holderKey_queue, if_pos (by rw [State.isQueue, decide_eq_true_iff]; omega), holdQueue_single hlt hq hheld]
  have hexec := exec_translationMiss (va := va) (w := w) hsl hready 1 q
  rw [missFault_new (req := 1) (h := q) hmiss (by rw [hheldFor, holdShown_mem]) hnew, hheldFor] at hexec
  have hcor : q / 8 < pageCount .cor := by
    simp only [pageCount]
    omega
  have hsth : q / 8 / 576 < pageCount .sth := by
    simp only [pageCount]
    omega
  have hoff : Off.corSqcur + 8 * (q % 8) < 0x1000 := by
    simp only [Off.corSqcur]
    omega
  refine ⟨_, hexec, fun k => ?_, ?_, ?_, ?_⟩
  · rw [queue_faulted, holdShown_queue]
  · rw [rd_faulted hcor hoff (by decide), holdShown_cursor hlt]
  · exact (congrArg (fld · _ _) (rd_faulted hsth (by decide) (by decide))).trans holdShown_event
  · rw [mem_faulted, Mem.faulted, List.length_append, List.length_singleton]

end Miss

/-! ### A search ends (R228 to R230) -/

/-- Memory without a fault. -/
def Mem.without (m : Mem) (id : Nat) : Mem := { m with faults := m.faults.filter fun g => decide (g.id ≠ id) }

section Search

variable {s u : State} {f : XFault} {st : XStage}

theorem LoneFault.find? (h : LoneFault s f st) : s.mem.faults.find? (fun g => g.id = f.id && g.stage = st) = some f := by
  refine find?_eq_some_of_unique h.mem (by simp [h.stage]) fun g hg hpass => ?_
  simp only [Bool.and_eq_true, decide_eq_true_iff] at hpass
  exact List.inj_on_of_nodup_map h.single hg h.mem hpass.1

/-- A fault stored again takes the place of the one with its number. -/
theorem mem_setFault {f' : XFault} (hf : f ∈ s.mem.faults) (hid : f'.id = f.id) (g : XFault) :
    g ∈ (s.setFault f').mem.faults ↔ g ∈ s.mem.faults ∧ g.id ≠ f.id ∨ g = f' := by
  change g ∈ s.mem.faults.map (fun x => if x.id = f'.id then f' else x) ↔ _
  rw [List.mem_map, hid]
  constructor
  · rintro ⟨x, hx, rfl⟩
    split
    · exact .inr rfl
    · rename_i hne
      exact .inl ⟨hx, hne⟩
  · rintro (⟨hg, hne⟩ | rfl)
    · exact ⟨g, hg, if_neg hne⟩
    · exact ⟨f, hf, if_pos rfl⟩

theorem resume_free (h : f.holders = []) : s.resume f = s.setMem (s.mem.without f.id) := by
  unfold State.resume
  rw [h]
  rfl

theorem pullHost_none (h : ∀ g ∈ s.mem.faults, g.stage ≠ .hostWait) : s.pullHost = s := by
  have hfind : s.mem.faults.find? (fun g => g.stage = .hostWait) = none := List.find?_eq_none.2 fun g hg => by simpa using h g hg
  unfold State.pullHost
  rw [hfind]

theorem unpark_none (h : ∀ p, p < 48 → s.parkedAt p = []) : s.unpark = s := by
  unfold State.unpark
  refine foldl_fixed_of_mem fun p hp => ?_
  rw [h p (List.mem_range.1 hp)]
  rfl

/-- Nobody that the fault held goes on, and no request of the fabric is tried again. -/
theorem afterResume_free (h : f.holders = []) (hfab : u.fab = s.fab) (hwait : NothingWaits s) : u.afterResume f = u := by
  have hparked : ∀ p, p < 48 → u.parkedAt p = [] := fun p hp => by
    have hp' := hwait.1 p hp
    unfold State.parkedAt at hp' ⊢
    rwa [hfab]
  unfold State.afterResume
  rw [h]
  exact unpark_none hparked

theorem without_noWait (hwait : NothingWaits s) : ∀ g ∈ (s.mem.without f.id).faults, g.stage ≠ .hostWait :=
  fun g hg => hwait.2 g (List.mem_of_mem_filter hg)

theorem exec_mapSearchDone (h : LoneFault s f .search) : exec (.mapSearchDone f.id) s = .next (s.searchEnd f false) := by
  refine congrArg Host.Outcome.next ?_
  rw [h.find?]

theorem exec_mapDescRecheck (h : LoneFault s f .recheck) : exec (.mapDescRecheck f.id) s = .next (s.searchEnd f true) := by
  refine congrArg Host.Outcome.next ?_
  rw [h.find?]

theorem exec_xltFaultTimeout (h : LoneFault s f .queued) : exec (.xltFaultTimeout f.id) s = .next (s.xltFail f) := by
  refine congrArg Host.Outcome.next ?_
  rw [h.find?]

theorem searchEnd_miss {again : Bool} (hmiss : s.translate f.slice f.va f.write = .miss) :
    s.searchEnd f again = (s.mapDone f again State.xltFail).afterResume f := by
  unfold State.searchEnd
  dsimp only
  rw [hmiss]

/-- The map may be read (R226). -/
def MapReadable (s : State) : Prop := s.mapped (s.rd (regAt .xlt 0 Off.xltMapbase)).toNat (32 * s.mapLen) = true

section Map

variable {d : Bytes} {p again : Bool} {n : Nat} (hmiss : s.translate f.slice f.va f.write = .miss) (hmap : MapReadable s)
  (hfind : s.mapFind f.va s.mapLen = some (d, p, n))

include hmiss hmap hfind

theorem mapSearch_bad (hbad : p = true ∨ descCrcOk d = false) : s.mapSearch f again = if again then .kind 3 else .recheck := by
  have hmap' : ¬(0 < s.mapLen ∧ (!s.mapped (s.rd (pageBase .xlt 0 + Off.xltMapbase)).toNat (32 * s.mapLen)) = true) := by
    rw [show s.mapped _ _ = true from hmap]
    simp
  unfold State.mapSearch
  dsimp only
  rw [hmiss]
  dsimp only
  rw [if_neg hmap', hfind]
  dsimp only
  rw [if_pos (by rcases hbad with h | h <;> simp [h])]

theorem mapSearch_entry (hp : p = false) (hcrc : descCrcOk d = true) (hcheck : s.descCheck d = 0)
    (hallow : (Xent.ofBytes d).allows f.slice = true)
    (hroom : sliceRefusal ((s.slice f.slice).filter fun x => !x.meets (Xent.ofBytes d).va (Xent.ofBytes d).size) (Xent.ofBytes d) = 0) :
    s.mapSearch f again = .entry (Xent.ofBytes d) := by
  have hmap' : ¬(0 < s.mapLen ∧ (!s.mapped (s.rd (pageBase .xlt 0 + Off.xltMapbase)).toNat (32 * s.mapLen)) = true) := by
    rw [show s.mapped _ _ = true from hmap]
    simp
  unfold State.mapSearch
  dsimp only
  rw [hmiss]
  dsimp only
  rw [if_neg hmap', hfind]
  dsimp only
  rw [if_neg (by simp [hp, hcrc]), if_neg (not_not.2 hcheck), if_neg (by simp [hallow]), if_neg (not_not.2 hroom)]

end Map

theorem mapSearch_empty {again : Bool} (hmiss : s.translate f.slice f.va f.write = .miss) (hlen : s.mapLen = 0) :
    s.mapSearch f again = .kind 1 := by
  unfold State.mapSearch
  dsimp only
  rw [hmiss]
  dsimp only
  rw [hlen, if_neg (by simp)]
  rfl

/-! ### The entry that a search installs (R228) -/

/-- The entries of a slice that do not overlap a new one. -/
def clearOf (s : State) (k : Nat) (e : Xent) : List Xent := (s.slice k).filter fun x => !x.meets e.va e.size

/-- The state with the entry in its slice, before it is counted. -/
def State.withEntry (s : State) (k : Nat) (e : Xent) : State := (s.setSlice k (clearOf s k e)).setSlice k (e :: clearOf s k e)

theorem withEntry_slice {k : Nat} {e : Xent} (j : Nat) : (s.withEntry k e).slice j = if j = k then e :: clearOf s j e else s.slice j := by
  rw [State.withEntry, State.slice_setSlice, State.slice_setSlice]
  split
  · rename_i hj
    rw [hj]
  · rfl

/-- The state after a search has installed an entry and its fault is gone. -/
def State.searchInstalled (s : State) (f : XFault) (e : Xent) : State :=
  ((s.withEntry f.slice e).bump .xlt 0 (0x200 + 8) 1).setMem ((s.withEntry f.slice e).mem.without f.id)

theorem mapDone_entry {again : Bool} {e : Xent} {fail : State → XFault → State} (hsearch : s.mapSearch f again = .entry e)
    (hroom : (s.slice f.slice).length < 16384) (hfree : f.holders = []) (hwait : NothingWaits s) :
    s.mapDone f again fail = s.searchInstalled f e := by
  have hclear : (s.setSlice f.slice (clearOf s f.slice e)).slice f.slice = clearOf s f.slice e := by rw [State.slice_setSlice, if_pos rfl]
  have hlen : ((s.setSlice f.slice (clearOf s f.slice e)).slice f.slice).length < 16384 := by
    rw [hclear]
    exact Nat.lt_of_le_of_lt (List.length_filter_le ..) hroom
  have hinstall : (s.setSlice f.slice (clearOf s f.slice e)).installIn f.slice e = s.withEntry f.slice e := by
    rw [installIn_room hlen, hclear, State.withEntry]
  have hmem : ((s.withEntry f.slice e).bump .xlt 0 (0x200 + 8) 1).mem = (s.withEntry f.slice e).mem :=
    (State.bump_ext ..).1 .mem (by decide)
  have hdone : s.mapDone f again fail =
      ((((s.setSlice f.slice (clearOf s f.slice e)).installIn f.slice e).bump .xlt 0 (0x200 + 8) 1).resume f).pullHost := by
    unfold State.mapDone
    rw [hsearch]
    rfl
  rw [hdone, hinstall, resume_free hfree, hmem]
  exact pullHost_none fun g hg => without_noWait hwait g hg

theorem searchInstalled_fab {e : Xent} : (s.searchInstalled f e).fab = s.fab :=
  (State.bump_ext (s.withEntry f.slice e) ..).1 .fab (by decide)

theorem searchInstalled_bytes {e : Xent} : (s.searchInstalled f e).mem.bytes = s.mem.bytes := rfl

theorem searchInstalled_faults {e : Xent} :
    (s.searchInstalled f e).mem.faults = s.mem.faults.filter (fun g => decide (g.id ≠ f.id)) := rfl

theorem searchInstalled_slice {e : Xent} (k : Nat) :
    (s.searchInstalled f e).slice k = if k = f.slice then e :: clearOf s k e else s.slice k := by
  have hslices : (s.searchInstalled f e).mem.slices = (s.withEntry f.slice e).mem.slices := rfl
  rw [State.slice, hslices]
  exact withEntry_slice k

theorem searchInstalled_counted {e : Xent} : Counted s (s.searchInstalled f e) .xlt 0 (0x200 + 8) 1 :=
  State.bump_counted (s.withEntry f.slice e) Nat.one_ne_zero

/-- A search that finds a descriptor enters it and ends its fault (R228). -/
theorem searchEnds_entry {c : Instr} {d : Bytes} {n : Nat} {e : Xent}
    (hc : LoneFault s f .search ∧ c = Instr.mapSearchDone f.id ∨ LoneFault s f .recheck ∧ c = .mapDescRecheck f.id)
    (hwait : NothingWaits s) (hmiss : s.translate f.slice f.va f.write = .miss) (hmap : MapReadable s)
    (hfind : s.mapFind f.va s.mapLen = some (d, false, n)) (hcrc : descCrcOk d = true) (hcheck : s.descCheck d = 0)
      (he : e = Xent.ofBytes d)
    (hallow : e.allows f.slice = true) (hok : sliceRefusal (clearOf s f.slice e) e = 0) (hroom : (s.slice f.slice).length < 16384) :
    ∃ u, exec c s = .next u ∧ (∀ k, u.slice k = if k = f.slice then e :: clearOf s k e else s.slice k) ∧
      u.mem.faults = s.mem.faults.filter (fun g => decide (g.id ≠ f.id)) ∧
      Counted s u .xlt 0 (0x200 + 8) 1 ∧ u.mem.bytes = s.mem.bytes := by
  subst he
  obtain ⟨again, hfree, hexec⟩ : ∃ again, f.holders = [] ∧ exec c s = .next (s.searchEnd f again) := by
    rcases hc with ⟨hf, rfl⟩ | ⟨hf, rfl⟩
    · exact ⟨false, hf.free, exec_mapSearchDone hf⟩
    · exact ⟨true, hf.free, exec_mapDescRecheck hf⟩
  rw [searchEnd_miss hmiss, mapDone_entry (mapSearch_entry hmiss hmap hfind rfl hcrc hcheck hallow hok) hroom hfree hwait,
    afterResume_free hfree searchInstalled_fab hwait] at hexec
  exact ⟨_, hexec, searchInstalled_slice, searchInstalled_faults, searchInstalled_counted, searchInstalled_bytes⟩

/-- A bad descriptor is read again before it counts (R229). -/
theorem searchEnds_again {d : Bytes} {p : Bool} {n : Nat} (hf : LoneFault s f .search) (hwait : NothingWaits s)
    (hmiss : s.translate f.slice f.va f.write = .miss) (hmap : MapReadable s) (hfind : s.mapFind f.va s.mapLen = some (d, p, n))
    (hbad : p = true ∨ descCrcOk d = false) : exec (.mapSearchDone f.id) s = .next (s.setFault { f with stage := .recheck }) := by
  have hdone : s.mapDone f false State.xltFail = s.setFault { f with stage := .recheck } := by
    unfold State.mapDone
    rw [mapSearch_bad hmiss hmap hfind hbad]
    rfl
  rw [exec_mapSearchDone hf, searchEnd_miss hmiss, hdone,
    afterResume_free (s := s) (u := s.setFault { f with stage := .recheck }) hf.free rfl hwait]

/-! ### Faults that go to the host (R229, R230) -/

/-- A fault in the host's queue. -/
def hostBound (f : XFault) (kind : Nat) : XFault := { f with kind := kind, stage := .queued, round := f.round + 1 }

theorem toHost_room {kind : Nat} (h : s.hostQueued < 64) :
    s.toHost f kind = ((s.setFault (hostBound f kind)).bump .xlt 0 (0x200 + 16) 1).raise .xlt 0 Ev.xltHostFault := if_pos h

theorem toHost_mem {kind : Nat} (h : s.hostQueued < 64) : (s.toHost f kind).mem = (s.setFault (hostBound f kind)).mem := by
  rw [toHost_room h]
  exact ((State.raise_ext ..).1 .mem (by decide)).trans ((State.bump_ext ..).1 .mem (by decide))

/-- A raised event of the page itself leaves its counters. -/
theorem toHost_sent {kind : Nat} (h : s.hostQueued < 64) (hf : f ∈ s.mem.faults) : SentToHost s (s.toHost f kind) f kind := by
  refine ⟨fun g => ?_, ?_, ?_⟩
  · rw [toHost_mem h]
    exact mem_setFault (f' := hostBound f kind) hf rfl g
  · rw [toHost_room h]
    exact State.fld_event_raise_same _ (by decide)
  · rw [toHost_room h]
    exact (State.bump_counted (s.setFault (hostBound f kind)) Nat.one_ne_zero).between rfl (State.rd_raise_counter (by decide))

theorem toHost_fab {kind : Nat} (h : s.hostQueued < 64) : (s.toHost f kind).fab = s.fab := by
  rw [toHost_room h]
  exact ((State.raise_ext ..).1 .fab (by decide)).trans ((State.bump_ext ..).1 .fab (by decide))

theorem mapDone_kind {again : Bool} {kind : Nat} {fail : State → XFault → State} (hsearch : s.mapSearch f again = .kind kind)
    (hround : f.round < 5) :
    s.mapDone f again fail = (if kind = 3 then s.raise .xlt 0 Ev.xltMapBad else s).toHost f kind := by
  unfold State.mapDone
  rw [hsearch]
  exact if_neg (by omega)

/-- A descriptor that is bad again goes to the host as MAP_BAD (R229). -/
theorem searchEnds_bad {d : Bytes} {p : Bool} {n : Nat} (hf : LoneFault s f .recheck) (hwait : NothingWaits s)
    (hmiss : s.translate f.slice f.va f.write = .miss) (hmap : MapReadable s) (hfind : s.mapFind f.va s.mapLen = some (d, p, n))
    (hbad : p = true ∨ descCrcOk d = false) (hround : f.round < 5) (hroom : s.hostQueued < 64) :
    ∃ u, exec (.mapDescRecheck f.id) s = .next u ∧ SentToHost s u f 3 ∧ u.g .xlt 0 Off.event Ev.xltMapBad Ev.xltMapBad = 1 ∧
      u.mem.slices = s.mem.slices := by
  obtain ⟨t, ht⟩ : ∃ t, t = s.raise .xlt 0 Ev.xltMapBad := ⟨_, rfl⟩
  have hmem : t.mem = s.mem := by
    rw [ht]
    exact (State.raise_ext ..).1 .mem (by decide)
  have hfab : t.fab = s.fab := by
    rw [ht]
    exact (State.raise_ext ..).1 .fab (by decide)
  have hroom' : t.hostQueued < 64 := by
    unfold State.hostQueued at hroom ⊢
    rwa [hmem]
  have hexec : exec (.mapDescRecheck f.id) s = .next (t.toHost f 3) := by
    rw [exec_mapDescRecheck hf, searchEnd_miss hmiss, mapDone_kind (mapSearch_bad hmiss hmap hfind hbad) hround, if_pos rfl, ← ht,
      afterResume_free hf.free ((toHost_fab hroom').trans hfab) hwait]
  obtain ⟨hsent, hevent, hcount⟩ := toHost_sent (f := f) (kind := 3) hroom' (hmem ▸ hf.mem)
  refine ⟨_, hexec, ⟨fun g => (hsent g).trans (by rw [hmem]), hevent, hcount.between ?_ rfl⟩, ?_, ?_⟩
  · rw [ht]
    exact State.rd_raise_counter (by decide)
  · have hraised : t.g .xlt 0 Off.event Ev.xltMapBad Ev.xltMapBad = 1 := by
      rw [ht]
      exact State.fld_event_raise_same _ (by decide)
    calc (t.toHost f 3).g .xlt 0 Off.event Ev.xltMapBad Ev.xltMapBad
        = ((t.setFault (hostBound f 3)).bump .xlt 0 (0x200 + 16) 1).g .xlt 0 Off.event Ev.xltMapBad Ev.xltMapBad := by
          rw [toHost_room hroom']
          exact State.fld_event_raise _ (by decide) (by decide)
      _ = (t.setFault (hostBound f 3)).g .xlt 0 Off.event Ev.xltMapBad Ev.xltMapBad := State.event_bump _ (by decide) (by decide)
      _ = 1 := hraised
  · rw [toHost_mem hroom']
    exact (congrArg Mem.slices hmem :)

/-- A page that the map does not hold goes to the host as MISS (R229). -/
theorem searchEnds_miss (hf : LoneFault s f .search) (hwait : NothingWaits s) (hmiss : s.translate f.slice f.va f.write = .miss)
    (hlen : s.mapLen = 0) (hround : f.round < 5) (hroom : s.hostQueued < 64) :
    ∃ u, exec (.mapSearchDone f.id) s = .next u ∧ SentToHost s u f 1 ∧ u.mem.slices = s.mem.slices := by
  have hexec : exec (.mapSearchDone f.id) s = .next (s.toHost f 1) := by
    rw [exec_mapSearchDone hf, searchEnd_miss hmiss, mapDone_kind (mapSearch_empty hmiss hlen) hround, if_neg (by decide),
      afterResume_free hf.free (toHost_fab hroom) hwait]
  exact ⟨_, hexec, toHost_sent hroom hf.mem, by rw [toHost_mem hroom]; rfl⟩

/-! ### Unresolvable faults (R229) -/

/-- The state with the fault gone, UNRESOLVED raised and counted. -/
def State.unresolvedShown (s : State) (f : XFault) : State :=
  ((s.setMem (s.mem.without f.id)).raise .xlt 0 Ev.xltUnresolved).bump .xlt 0 (0x200 + 24) 1

/-- The state with its failure record too. -/
def State.unresolved (s : State) (f : XFault) : State := (s.unresolvedShown f).record .xlt 0 0x0F 4 0 (addr := f.va)

theorem unresolved_mem : (s.unresolved f).mem = s.mem.without f.id :=
  (((State.record_ext ..).1 .mem (by decide)).trans ((State.bump_ext ..).1 .mem (by decide))).trans
    ((State.raise_ext ..).1 .mem (by decide))

theorem unresolved_event : (s.unresolved f).g .xlt 0 Off.event Ev.xltUnresolved Ev.xltUnresolved = 1 := by
  have hshown : (s.unresolvedShown f).g .xlt 0 Off.event Ev.xltUnresolved Ev.xltUnresolved = 1 :=
    (State.event_bump _ (by decide) (by decide)).trans (State.fld_event_raise_same _ (by decide))
  have hrd : (s.unresolved f).rd (regAt .xlt 0 Off.event) = (s.unresolvedShown f).rd (regAt .xlt 0 Off.event) :=
    State.rd_putRecord_below _ (by decide)
  exact (congrArg (fld · _ _) hrd).trans hshown

theorem unresolved_recorded : Recorded s (s.unresolved f) 0x07 0 0x0F := by
  have hras : (s.unresolvedShown f).ras = s.ras := ((State.bump_ext ..).1 .ras (by decide)).trans ((State.raise_ext ..).1 .ras (by decide))
  have hrec : Recorded (s.unresolvedShown f) (s.unresolved f) 0x07 0 0x0F := State.putRecord_recorded (show (0 : Nat) ≠ 2 by decide)
  unfold Recorded at hrec ⊢
  rwa [← hras]

theorem xltFail_free (hfree : f.holders = []) (hwait : ∀ g ∈ (s.mem.without f.id).faults, g.stage ≠ .hostWait) :
    s.xltFail f = s.unresolved f := by
  have hpull : (s.unresolved f).pullHost = s.unresolved f := pullHost_none fun g hg => hwait g (by rwa [unresolved_mem] at hg)
  have hfail : s.xltFail f = (f.holders.foldl (fun s h => s.holderFail h.1 h.2) (s.unresolved f)).pullHost := by
    unfold State.xltFail State.unresolved State.unresolvedShown State.setMem Mem.without
    dsimp only
  rw [hfail, hfree, List.foldl_nil, hpull]

theorem faultTimeout (hf : LoneFault s f .queued) (hwait : NothingWaits s) :
    ∃ u, exec (.xltFaultTimeout f.id) s = .next u ∧ u.mem.faults = s.mem.faults.filter (fun g => decide (g.id ≠ f.id)) ∧
      u.mem.slices = s.mem.slices ∧ u.g .xlt 0 Off.event Ev.xltUnresolved Ev.xltUnresolved = 1 ∧ Recorded s u 0x07 0 0x0F := by
  refine ⟨_, exec_xltFaultTimeout hf, ?_⟩
  rw [xltFail_free hf.free (without_noWait hwait), unresolved_mem]
  exact ⟨rfl, rfl, unresolved_event, unresolved_recorded⟩

end Search

/-- Settles O44, case by case. -/
theorem translationFaults : Obligations.TranslationFaults := by
  intro s
  exact ⟨fun sl r va w hsl hready hr hmiss hnew => ringMiss hsl hready hr hmiss hnew,
    fun sl q o va w hsl hready hlt hq hheld hmiss hnew => queueMiss hsl hready hlt hq hheld hmiss hnew,
    fun sl r va w f hsl hready hr hmiss hf hslice hkind hpage honly hids => ringMerge hsl hready hr hmiss hf hslice hkind hpage honly hids,
    fun c f d n e hc hwait hmiss hmap hfind hcrc hcheck he hallow hok hroom =>
      searchEnds_entry hc hwait hmiss hmap hfind hcrc hcheck he hallow hok hroom,
    fun f d p n hf hwait hmiss hmap hfind hbad => searchEnds_again hf hwait hmiss hmap hfind hbad,
    fun f d p n hf hwait hmiss hmap hfind hbad hround hroom => searchEnds_bad hf hwait hmiss hmap hfind hbad hround hroom,
    fun f hf hwait hmiss hlen hround hroom => searchEnds_miss hf hwait hmiss hlen hround hroom,
    fun f hf hwait => faultTimeout hf hwait⟩

end Sys2Proof.Machine
end

section
/-! SUPPORT. A mailbox command of the table, taken and answered (R100 to R102). -/

namespace Sys2Proof.Machine

namespace State

variable {s t u : State} {op : Nat} {seq len : BitVec 16}

/-- The command in hand before its answer. -/
def taking (op : Nat) (seq : BitVec 16) : MbxRun := { op := BitVec.ofNat 16 op, seq := seq, answer := none }

/-- The state in which the wellhead runs a command. -/
def taken (s : State) (op : Nat) (seq len : BitVec 16) : State := s.mbxTaken op seq.toNat len.toNat (taking op seq)

/-- The state with an answer in hand. -/
def answering (u : State) (op : Nat) (seq : BitVec 16) (st : Nat) (bs : Bytes) : State :=
  u.setMbx (some { taking op seq with answer := some (BitVec.ofNat 16 st, bs) })

theorem taken_same : Same [.regs, .hlk] s (s.taken op seq len) := (mbxTaken_ext ..).1

theorem taken_rd {a : Nat} (hresp : a ≠ regAt .mbx 0 Off.mbxResp) (hcmd : a ≠ regAt .mbx 0 Off.mbxCmd) :
    (s.taken op seq len).rd a = s.rd a := by
  rw [taken, mbxTaken_rd, if_neg hresp, if_neg hcmd]

theorem taken_cmd : (s.taken op seq len).rd (regAt .mbx 0 Off.mbxCmd) = goWord op seq.toNat len.toNat := by
  rw [taken, mbxTaken_rd, if_neg (by decide), if_pos rfl]

theorem taken_len : (s.taken op seq len).g .mbx 0 Off.mbxCmd 31 16 = len.toNat := by
  have hlen := len.isLt
  rw [g, taken_cmd, goWord]
  simp only [fld, nfld, BitVec.toNat_ofNat]
  omega

theorem mbxPayload_congr {n : Nat} (h : ∀ k, k < 256 → u.rd (payloadAt k) = s.rd (payloadAt k)) : u.mbxPayload n = s.mbxPayload n := by
  unfold mbxPayload
  refine congrArg (fun l : List Bytes => l.flatten.take n) (List.map_congr_left fun k hk => ?_)
  exact congrArg (fun w : Word => natBytes 8 w.toNat) (h k (List.mem_range.1 hk))

theorem taken_payload {n : Nat} : (s.taken op seq len).mbxPayload n = s.mbxPayload n := by
  refine mbxPayload_congr fun k _ => taken_rd ?_ ?_ <;> simp only [payloadAt, regAt, Off.mbxPayload, Off.mbxResp, Off.mbxCmd] <;> omega

theorem mbxPayload_length {n : Nat} (h : n ≤ 2048) : (s.mbxPayload n).length = n := by
  unfold mbxPayload
  rw [List.length_take, List.length_flatten, List.map_map]
  simp only [Function.comp_def, natBytes_length, List.map_const', List.length_range, List.sum_replicate, smul_eq_mul]
  omega

theorem mbxPayload_take {n k : Nat} (h : n ≤ k) : (s.mbxPayload k).take n = s.mbxPayload n := by
  unfold mbxPayload
  rw [List.take_take, Nat.min_eq_left h]

/-- What a command of the table does (R102). -/
def mbxCommand (s : State) (op : Nat) (req : Bytes) : Nat × Bytes × State :=
  match op with
  | 0x0001 => s.cmdGetInfo req
  | 0x0010 => s.cmdFaultLogOpen req
  | 0x0011 => s.cmdFaultRead req
  | 0x0020 => s.cmdTlmRead req
  | 0x0030 => s.cmdFwStage req
  | 0x0031 => s.cmdFwActivate req
  | 0x0032 => s.cmdDebug req
  | _ => s.cmdXltResolve req

theorem mbxCommand_getInfo {req : Bytes} : s.mbxCommand 0x0001 req = s.cmdGetInfo req := by simp only [mbxCommand]

theorem mbxCommand_faultLogOpen {req : Bytes} : s.mbxCommand 0x0010 req = s.cmdFaultLogOpen req := by simp only [mbxCommand]

theorem mbxCommand_faultRead {req : Bytes} : s.mbxCommand 0x0011 req = s.cmdFaultRead req := by simp only [mbxCommand]

theorem mbxCommand_tlmRead {req : Bytes} : s.mbxCommand 0x0020 req = s.cmdTlmRead req := by simp only [mbxCommand]

theorem mbxCommand_xltResolve {req : Bytes} : s.mbxCommand 0x0040 req = s.cmdXltResolve req := by simp only [mbxCommand]

theorem mbxRun_known {n : Nat} {req : Bytes} (hwhole : s.sec.recovery = false) (hop : op ∈ mbxOpcodes) (hn : n ≤ 2048) :
    s.mbxRun op n req = s.mbxCommand op req := by
  have hin : mbxOpcodes.contains op = true := by simpa using hop
  unfold mbxRun
  rw [hwhole, hin, if_neg (by simp), if_neg (by decide), if_neg (by omega)]
  rfl

theorem mbxServe_answers {x : MbxRun} {n st : Nat} {bs : Bytes} (hx : t.hlk.mbx = some x) (hnew : x.answer = none)
    (hrun : t.sec.running = true)
    (hquiet : t.quiet .mbx 0 = false) (hn : t.g .mbx 0 Off.mbxCmd 31 16 = n) (h : t.mbxRun x.op.toNat n (t.mbxPayload n) = (st, bs, u)) :
    t.mbxServe = u.setMbx (some { x with answer := some (BitVec.ofNat 16 st, bs) }) := by
  subst hn
  unfold mbxServe
  rw [hx]
  dsimp only
  rw [hnew, hrun, hquiet, if_neg (by decide), h]
  rfl

/-- A command of the table is taken, run and answered. -/
theorem mbxRow_served {p : Bytes → Bool} {n st : Nat} {bs : Bytes} (h : MbxFree s) (hop : op ∈ mbxOpcodes) (hn : len.toNat = n)
    (hlen : n ≤ 2048)
    (hp : p (s.mbxPayload 2048) = true) (hcommand : (s.taken op seq len).mbxCommand op (s.mbxPayload n) = (st, bs, u)) :
    s.mbxRow op seq len p = u.answering op seq st bs := by
  subst hn
  obtain ⟨hready, hidle, hquiet, hrun, hwhole⟩ := h
  have hsec : (s.taken op seq len).sec = s.sec := taken_same .sec (by decide)
  have hloud : (s.taken op seq len).quiet .mbx 0 = false := by
    rw [quiet, g, taken_rd (by decide) (by decide)]
    exact hquiet
  have hop16 : (BitVec.ofNat 16 op).toNat = op := by
    have hlt : op < 2 ^ 16 := (show ∀ o ∈ mbxOpcodes, o < 2 ^ 16 by decide) op hop
    rw [BitVec.toNat_ofNat, Nat.mod_eq_of_lt hlt]
  have hrunEq :
      (s.taken op seq len).mbxRun (taking op seq).op.toNat len.toNat ((s.taken op seq len).mbxPayload len.toNat) = (st, bs, u) := by
    rw [taken_payload, taking, hop16, mbxRun_known (by rw [hsec, hwhole]) hop hlen, hcommand]
  have hgo : s.mbxGo op seq.toNat len.toNat = (s.taken op seq len).mbxServe := by
    rw [mbxGo_free _ hidle, BitVec.ofNat_toNat, BitVec.setWidth_eq]
    rfl
  rw [mbxRow, s.pageWrite_ready _ _ (by decide) hready, if_pos hp, hgo]
  exact mbxServe_answers rfl rfl (by rw [hsec, hrun]) hloud taken_len hrunEq

/-- The answer waits where the command's run kept MBX_CMD and MBX_RESP. -/
theorem answering_has {st : Nat} {bs : Bytes} (hcmd : u.rd (regAt .mbx 0 Off.mbxCmd) = (s.taken op seq len).rd (regAt .mbx 0 Off.mbxCmd))
    (hresp : u.rd (regAt .mbx 0 Off.mbxResp) = (s.taken op seq len).rd (regAt .mbx 0 Off.mbxResp)) :
    MbxHas (u.answering op seq st bs) op seq st bs := by
  refine ⟨rfl, ?_, ?_⟩
  · rw [g, answering, setMbx_rd, hcmd, taken_cmd, fld_goWord]
  · rw [g, answering, setMbx_rd, hresp, taken, mbxTaken_rd, if_pos rfl, fld_putFld_same]
    rfl

theorem taken_has {st : Nat} {bs : Bytes} : MbxHas ((s.taken op seq len).answering op seq st bs) op seq st bs := answering_has rfl rfl

theorem answering_g {st : Nat} {bs : Bytes} (b : Blk) (i off hi lo : Nat) :
    (u.answering op seq st bs).g b i off hi lo = u.g b i off hi lo := rfl

theorem answering_ras {st : Nat} {bs : Bytes} : (u.answering op seq st bs).ras = u.ras := rfl

theorem answering_mem {st : Nat} {bs : Bytes} : (u.answering op seq st bs).mem = u.mem := rfl

theorem answering_tlmRecord {st n r : Nat} {bs : Bytes} : (u.answering op seq st bs).tlmRecord n r = u.tlmRecord n r := rfl

theorem answering_same {st : Nat} {bs : Bytes} : Same [.hlk] u (u.answering op seq st bs) := (setMbx_ext ..).1

end State

theorem bat_take {l : Bytes} {o n k : Nat} (h : o + n ≤ k) : bat (l.take k) o n = bat l o n := by
  rw [bat, List.drop_take, List.take_take, Nat.min_eq_left (by omega), bat]

theorem bat_byte_lt (l : Bytes) (o : Nat) : bat l o 1 < 256 :=
  Nat.lt_of_lt_of_le (leNat_lt _) (Nat.pow_le_pow_right (j := 1) (by decide) (List.length_take_le ..))

end Sys2Proof.Machine
end

section
/-! SUPPORT. Statement O28: GET_INFO, the fault log, TLM_READ and XLT_RESOLVE (R230, R409, R411, R429). -/

namespace Sys2Proof.Machine

namespace State

variable {s t u : State} {op : Nat} {seq len : BitVec 16} {req : Bytes}

/-! ### GET_INFO (R429) -/

/-- The response of GET_INFO, field by field. -/
def infoBytes (s : State) : Bytes :=
  natBytes 4 (s.g .sec 0 Off.secBoot 63 32) ++ (natBytes 1 (s.g .sec 0 Off.secBoot 0 0) ++ (natBytes 1 s.pendingByte ++
    (natBytes 1 s.sec.fwMeta.tries ++ (natBytes 1 (s.g .sec 0 Off.secBoot 31 24) ++ (natBytes 1 s.sec.rollback ++
    (natBytes 1 (if s.sec.recovery then 1 else 0) ++ (natBytes 1 (s.g .sec 0 Off.secDebug 0 0) ++
      ([0] ++ (natBytes 4 Config.romVersion.toNat ++
    (uuidBytes ++ ((List.range 4).map (fun n => BitVec.ofNat 8 (s.freeSpares n).length) ++
    ((List.range 4).map (fun n => BitVec.ofNat 8 (s.retiredIn n)) ++ zeros 24))))))))))))

theorem cmdGetInfo_whole (h : req.length = 0) : s.cmdGetInfo req = (0, s.infoBytes, s) := by
  unfold cmdGetInfo infoBytes
  rw [if_neg (by omega)]
  simp only [List.append_assoc]

theorem cmdGetInfo_long (h : req.length ≠ 0) : s.cmdGetInfo req = (2, [], s) := if_pos h

theorem infoBytes_length : s.infoBytes.length = 64 := by
  simp [infoBytes, natBytes_length, uuidBytes, zeros]

theorem pendingByte_lt (s : State) : s.pendingByte < 256 := by
  unfold pendingByte
  split
  · split <;> decide
  · decide

/-- What GET_INFO shows (R429). -/
structure InfoOf (s : State) (bs : Bytes) : Prop where
  version : bat bs 0 4 = s.g .sec 0 Off.secBoot 63 32
  active : bat bs 4 1 = s.g .sec 0 Off.secBoot 0 0
  pending : bat bs 5 1 = s.pendingByte
  tries : bat bs 6 1 = s.sec.fwMeta.tries % 256
  security : bat bs 7 1 = s.g .sec 0 Off.secBoot 31 24
  rollback : bat bs 8 1 = s.sec.rollback % 256
  recovery : bat bs 9 1 = if s.sec.recovery then 1 else 0
  debug : bat bs 10 1 = s.g .sec 0 Off.secDebug 0 0

theorem g_lt (s : State) (b : Blk) (i off hi lo : Nat) : s.g b i off hi lo < 2 ^ (hi + 1 - lo) := Nat.mod_lt _ (Nat.two_pow_pos _)

theorem infoBytes_info : InfoOf s s.infoBytes := by
  have hversion := s.g_lt .sec 0 Off.secBoot 63 32
  have hactive := s.g_lt .sec 0 Off.secBoot 0 0
  have hsecurity := s.g_lt .sec 0 Off.secBoot 31 24
  have hdebug := s.g_lt .sec 0 Off.secDebug 0 0
  have hpending := s.pendingByte_lt
  unfold infoBytes
  constructor <;> simp only [bat_natBytes_skip, bat_natBytes_low, Nat.reduceLeDiff, Nat.reduceSub, Nat.reduceMul, Nat.le_refl,
    Nat.reducePow]
  · exact Nat.mod_eq_of_lt hversion
  · exact Nat.mod_eq_of_lt (Nat.lt_trans hactive (by decide))
  · exact Nat.mod_eq_of_lt hpending
  · exact Nat.mod_eq_of_lt hsecurity
  · split <;> rfl
  · exact Nat.mod_eq_of_lt (Nat.lt_trans hdebug (by decide))

theorem InfoOf.congr {bs : Bytes} (h : InfoOf t bs) (hsec : t.sec = s.sec)
    (hboot : t.rd (regAt .sec 0 Off.secBoot) = s.rd (regAt .sec 0 Off.secBoot))
    (hdebug : t.rd (regAt .sec 0 Off.secDebug) = s.rd (regAt .sec 0 Off.secDebug)) : InfoOf s bs := by
  obtain ⟨hversion, hactive, hpending, htries, hsecurity, hrollback, hrecovery, hlock⟩ := h
  unfold pendingByte at hpending
  unfold g at hversion hactive hsecurity hlock
  rw [hboot] at hversion hactive hsecurity
  rw [hdebug] at hlock
  rw [hsec] at hpending htries hrollback hrecovery
  exact ⟨hversion, hactive, hpending, htries, hsecurity, hrollback, hrecovery, hlock⟩

theorem taken_info : InfoOf s (s.taken op seq len).infoBytes :=
  infoBytes_info.congr (taken_same .sec (by decide)) (taken_rd (by decide) (by decide)) (taken_rd (by decide) (by decide))

/-! ### The fault log (R409) -/

/-- The log opened at a version. -/
def logOpened (s : State) (v : Nat) : State :=
  ((s.p .dev 0 (Off.devIf + 8 * 3) 31 24 v).p .dev 0 (Off.devIf + 8 * 3) 16 16 0).p .ras 0 Off.rasFlog 63 56 v

/-- The response of FAULT_LOG_OPEN. -/
def logBytes (s : State) (v : Nat) : Bytes :=
  natBytes 4 v ++ (natBytes 4 s.ras.pending.length ++ natBytes 8 ((s.ras.pending.head?.map (·.seq)).getD 0))

theorem mine_sorted : (s.mine 3).Pairwise (· < ·) := by
  unfold mine
  exact List.Pairwise.filter _ (show [0x10, 0x20].Pairwise (· < ·) by decide)

theorem cmdFaultLogOpen_known {v : Nat} (hreq : req.length = 1) (hv : bat req 0 1 = v) (hmine : v ∈ s.mine 3) :
    s.cmdFaultLogOpen req = (0, s.logBytes v, s.logOpened v) := by
  have hopen := s.negotiate_chosen (their := fun c => decide (c = v)) mine_sorted hmine (by simp) fun c _ hc => by
    rw [decide_eq_true_iff] at hc
    exact Nat.le_of_eq hc
  unfold cmdFaultLogOpen
  rw [if_neg (by omega), hv, hopen]
  dsimp only
  rw [List.append_assoc]
  rfl

/-- The log refused for its version. -/
def logRefused (s : State) : State := (s.p .dev 0 (Off.devIf + 8 * 3) 16 16 1).raise .dev 0 Ev.devNegotiateFail

theorem cmdFaultLogOpen_unknown (hreq : req.length = 1) (hmine : bat req 0 1 ∉ s.mine 3) :
    s.cmdFaultLogOpen req = (6, [], s.logRefused) := by
  have hopen := s.negotiate_none (n := 3) (their := fun c => decide (c = bat req 0 1)) fun c hc heq => by
    rw [decide_eq_true_iff] at heq
    exact hmine (heq ▸ hc)
  unfold cmdFaultLogOpen
  rw [if_neg (by omega), hopen]
  rfl

theorem logOpened_rd_mbx {v : Nat} {off : Nat} (ho : off < 0x1000) : (s.logOpened v).rd (regAt .mbx 0 off) = s.rd (regAt .mbx 0 off) := by
  have hdev : regAt .mbx 0 off ≠ regAt .dev 0 (Off.devIf + 8 * 3) := regAt_page_ne (by decide) (by decide) ho (by decide) (by decide)
  have hras : regAt .mbx 0 off ≠ regAt .ras 0 Off.rasFlog := regAt_page_ne (by decide) (by decide) ho (by decide) (by decide)
  rw [logOpened, rd_p, if_neg hras, rd_p, if_neg hdev, rd_p, if_neg hdev]

theorem logOpened_version {v : Nat} (hv : v < 256) : (s.logOpened v).g .ras 0 Off.rasFlog 63 56 = v :=
  (g_p_same ..).trans (Nat.mod_eq_of_lt hv)

theorem logOpened_same {v : Nat} : Same [.regs] s (s.logOpened v) := ((p_ext ..).1.trans (p_ext ..).1).trans (p_ext ..).1

theorem logRefused_same : Same [.regs, .hlk] s s.logRefused := ((p_ext ..).1.mono rfl).trans (raise_ext ..).1

theorem logRefused_rd {a : Nat} (ha : a ≠ regAt .dev 0 (Off.devIf + 8 * 3)) (he : a ≠ regAt .dev 0 Off.event) :
    s.logRefused.rd a = s.rd a := by
  rw [logRefused, rd_raise _ _ _ _ _ he, rd_p, if_neg ha]

/-- Records up to an acknowledged SEQ leave the log. -/
def acked (s : State) (ack : Nat) : State :=
  { s with ras := { s.ras with pending := s.ras.pending.filter fun q => decide (ack < q.seq)
                               ackSeq := max s.ras.ackSeq (min ack (s.ras.nextSeq - 1)) } }

theorem acked_rd {ack : Nat} (a : Nat) : (s.acked ack).rd a = s.rd a := rfl

theorem acked_pending {ack : Nat} : (s.acked ack).ras.pending = s.ras.pending.filter fun q => decide (ack < q.seq) := rfl

theorem acked_same {ack : Nat} : Same [.ras] s (s.acked ack) := (Ext.set_ras ..).1

/-- The response of FAULT_READ. -/
def readBytes (rs : List FRec) (n : Nat) (two : Bool) : Bytes := ((rs.take (min n (if two then 6 else 7))).map (cper two)).flatten

theorem cmdFaultRead_whole {ack n : Nat} {two : Bool} (hreq : req.length = 9) (hack : bat req 0 8 = ack) (hn : bat req 8 1 = n)
    (htwo : two = decide (s.g .ras 0 Off.rasFlog 63 56 = 0x20)) :
    s.cmdFaultRead req = (0, readBytes (s.acked ack).ras.pending n two, s.acked ack) := by
  subst hack hn
  have hflog : (s.acked (bat req 0 8)).g .ras 0 Off.rasFlog 63 56 = s.g .ras 0 Off.rasFlog 63 56 := rfl
  unfold cmdFaultRead
  rw [if_neg (by omega)]
  unfold readBytes
  rw [htwo, ← hflog]
  simp only [decide_eq_true_iff]
  rfl

/-! ### TLM_READ (R411) -/

theorem cmdTlmRead_live {h : Nat} (hreq : req.length = 2) (hsrc : bat req 0 1 = 0) (hhalf : bat req 1 1 = h) (hh : h < 2) :
    s.cmdTlmRead req = (0, bsub ((s.takeSnap .tlm 0).tlmRecord (s.takeSnap .tlm 0).ras.tlmSeq 0) (2048 * h) 2048, s.takeSnap .tlm 0) := by
  unfold cmdTlmRead
  dsimp only
  rw [if_neg (by omega), hsrc, hhalf, if_neg (by omega), if_pos rfl]

theorem cmdTlmRead_stored {h : Nat} {r : TlmRec} (hreq : req.length = 2) (hsrc : bat req 0 1 = 1) (hhalf : bat req 1 1 = h) (hh : h < 2)
    (hr : (s.ras.tlm.filter fun (q : TlmRec) => q.good).getLast? = some r) :
    s.cmdTlmRead req = (0, bsub r.data (2048 * h) 2048, s) := by
  unfold cmdTlmRead
  dsimp only
  rw [if_neg (by omega), hsrc, hhalf, if_neg (by omega), if_neg (by decide), hr]

theorem counterRegs_tlm : counterRegs .tlm 0 ≠ [] := by
  have hany : (RegMap.rows .tlm).any (fun r => r.kind ≠ .plain) = true := by decide
  have hrows : (RegMap.rows .tlm).filter (fun r => r.kind ≠ .plain) ≠ [] := fun he => by
    obtain ⟨r, hr, hk⟩ := List.any_eq_true.1 hany
    exact List.filter_eq_nil_iff.1 he r hr hk
  unfold counterRegs
  rw [if_neg hrows]
  simp

/-- The counters of a page are copied, and GEN alone of the registers changes (R75). -/
theorem takeSnap_rd {b : Blk} {i : Nat} (h : counterRegs b i ≠ []) (a : Nat) : (s.takeSnap b i).rd a =
    if a = regAt b i Off.cntSnap then putFld (s.rd a) 47 32 (s.g b i Off.cntSnap 47 32 + 1) else s.rd a := by
  obtain ⟨t, hregs, ht⟩ : ∃ t : State, t.regs = s.regs ∧ s.takeSnap b i = t.p b i Off.cntSnap 47 32 (t.g b i Off.cntSnap 47 32 + 1) := by
    refine ⟨{ s with snaps := (counterRegs b i).foldl (fun t a => tset t 0 a (s.rd a)) s.snaps }, rfl, ?_⟩
    unfold takeSnap
    exact if_neg h
  rw [ht, rd_p, g, g, rd_of_regs hregs, rd_of_regs hregs]

/-! ### XLT_RESOLVE (R230) -/

section Resolve

variable {f : XFault} (hreq : req.length = 8) (hzero : bat req 5 3 = 0)
  (hfind : (s.mem.faults.find? fun g => g.id = bat req 0 4 && g.stage = .queued) = some f) (hwait : ∀ g ∈ s.mem.faults, g.stage ≠ .hostWait)

include hreq hzero hfind hwait

theorem cmdXltResolve_retry (hact : bat req 4 1 = 0) : s.cmdXltResolve req = (0, [], s.setFault { f with stage := .search }) := by
  have hpull : (s.setFault { f with stage := .search }).pullHost = s.setFault { f with stage := .search } := by
    refine pullHost_none fun g hg => ?_
    rcases (mem_setFault (f' := { f with stage := .search }) (List.mem_of_find?_eq_some hfind) rfl g).1 hg with ⟨hg, -⟩ | rfl
    · exact hwait g hg
    · exact show XStage.search ≠ .hostWait by decide
  unfold cmdXltResolve
  rw [if_neg (by omega), if_neg (by omega), hfind]
  dsimp only
  rw [if_pos hact, hpull]

theorem cmdXltResolve_fail (hact : bat req 4 1 = 1) (hfree : f.holders = []) : s.cmdXltResolve req = (0, [], s.unresolved f) := by
  have hstay : ∀ g ∈ (s.mem.without f.id).faults, g.stage ≠ .hostWait := fun g hg => hwait g (List.mem_of_mem_filter hg)
  have hpull : (s.unresolved f).pullHost = s.unresolved f := pullHost_none fun g hg => hstay g (by rwa [unresolved_mem] at hg)
  unfold cmdXltResolve
  rw [if_neg (by omega), if_neg (by omega), hfind]
  dsimp only
  rw [if_neg (by omega), xltFail_free hfree hstay, hpull]

end Resolve

theorem setFault_rd {f : XFault} (a : Nat) : (s.setFault f).rd a = s.rd a := rfl

theorem setFault_slices {f : XFault} : (s.setFault f).mem.slices = s.mem.slices := rfl

theorem unresolved_rd_below {f : XFault} {a : Nat} (ha : a < pageBase .xlt 0) : (s.unresolved f).rd a = s.rd a := by
  have hrecord : (s.unresolved f).rd a = (s.unresolvedShown f).rd a := rd_putRecord_below _ (Nat.lt_trans ha (by decide))
  rw [hrecord, unresolvedShown, rd_bump_below _ ha, rd_raise_below _ ha]
  rfl

end State

/-! ### The rows of the mailbox -/

section Rows

variable {s : State} {seq len : BitVec 16}

theorem exec_getInfo : exec (.getInfo seq len) s = .next (s.mbxRow 0x0001 seq len) := rfl

theorem exec_faultLogOpen : exec (.faultLogOpen seq len) s = .next (s.mbxRow 0x0010 seq len) := rfl

theorem exec_faultRead : exec (.faultRead seq len) s = .next (s.mbxRow 0x0011 seq len) := rfl

theorem exec_tlmRead : exec (.tlmRead seq len) s = .next (s.mbxRow 0x0020 seq len) := rfl

theorem exec_xltResolveRetry : exec (.xltResolveRetry seq len) s = .next (s.mbxRow 0x0040 seq len fun p => bat p 4 1 = 0) := rfl

theorem exec_xltResolveFail : exec (.xltResolveFail seq len) s = .next (s.mbxRow 0x0040 seq len fun p => bat p 4 1 = 1) := rfl

end Rows

/-! ### The statement -/

section Settle

variable {s : State} {seq : BitVec 16}

theorem getInfo_reports (h : MbxFree s) : ∃ u bs, exec (.getInfo seq 0) s = .next u ∧ MbxHas u 0x0001 seq 0 bs ∧ bs.length = 64 ∧
    State.InfoOf s bs ∧ Same [.regs, .hlk] s u := by
  have hcommand : (s.taken 0x0001 seq 0).mbxCommand 0x0001 (s.mbxPayload 0) = (0, (s.taken 0x0001 seq 0).infoBytes, s.taken 0x0001 seq 0) :=
    State.mbxCommand_getInfo.trans (State.cmdGetInfo_whole (State.mbxPayload_length (by decide)))
  have hserved := State.mbxRow_served (n := 0) h (by decide) rfl (by decide) (p := fun _ => true) rfl hcommand
  refine ⟨_, _, exec_getInfo.trans (congrArg Host.Outcome.next hserved), State.taken_has, State.infoBytes_length,
    State.taken_info, State.taken_same.trans (State.answering_same.mono rfl)⟩

theorem getInfo_badLength {len : BitVec 16} (h : MbxFree s) (hne : len ≠ 0) (hlen : len.toNat ≤ 2048) :
    ∃ u, exec (.getInfo seq len) s = .next u ∧ MbxHas u 0x0001 seq 2 [] ∧ Same [.regs, .hlk] s u := by
  have hpos : (s.mbxPayload len.toNat).length ≠ 0 := by
    rw [State.mbxPayload_length hlen]
    exact fun hz => hne (BitVec.eq_of_toNat_eq hz)
  have hcommand : (s.taken 0x0001 seq len).mbxCommand 0x0001 (s.mbxPayload len.toNat) = (2, [], s.taken 0x0001 seq len) :=
    State.mbxCommand_getInfo.trans <| State.cmdGetInfo_long hpos
  have hserved := State.mbxRow_served (n := len.toNat) h (by decide) rfl hlen (p := fun _ => true) rfl hcommand
  exact ⟨_, exec_getInfo.trans (congrArg Host.Outcome.next hserved), State.taken_has,
    State.taken_same.trans (State.answering_same.mono rfl)⟩

theorem faultLog_opens {v : Nat} (h : MbxFree s) (hv : bat (s.mbxPayload 1) 0 1 = v) (hmine : v ∈ s.mine 3) :
    ∃ u bs, exec (.faultLogOpen seq 1) s = .next u ∧ MbxHas u 0x0010 seq 0 bs ∧ bs.length = 16 ∧ bat bs 0 1 = v ∧
      bat bs 4 4 = s.ras.pending.length % 2 ^ 32 ∧ u.g .ras 0 Off.rasFlog 63 56 = v ∧ Same [.regs, .hlk] s u := by
  have hlt : v < 256 := by
    rw [← hv]
    exact bat_byte_lt ..
  have hmine' : v ∈ (s.taken 0x0010 seq 1).mine 3 := by
    unfold State.mine State.g at hmine ⊢
    rwa [State.taken_rd (by decide) (by decide)]
  have hcommand : (s.taken 0x0010 seq 1).mbxCommand 0x0010 (s.mbxPayload 1) =
      (0, (s.taken 0x0010 seq 1).logBytes v, (s.taken 0x0010 seq 1).logOpened v) :=
    State.mbxCommand_faultLogOpen.trans (State.cmdFaultLogOpen_known (State.mbxPayload_length (by decide)) hv hmine')
  have hras : (s.taken 0x0010 seq 1).ras = s.ras := State.taken_same .ras (by decide)
  have hserved := State.mbxRow_served (n := 1) h (by decide) rfl (by decide) (p := fun _ => true) rfl hcommand
  refine ⟨_, _, exec_faultLogOpen.trans (congrArg Host.Outcome.next hserved),
    State.answering_has (State.logOpened_rd_mbx (by decide)) (State.logOpened_rd_mbx (by decide)), ?_, ?_, ?_, ?_, ?_⟩
  · simp [State.logBytes, natBytes_length]
  · rw [State.logBytes, bat_natBytes_low _ _ (by decide)]
    exact Nat.mod_eq_of_lt hlt
  · rw [State.logBytes, bat_natBytes_skip _ _ _ (by decide), bat_natBytes_low _ _ (by decide), hras]
  · rw [State.answering_g, State.logOpened_version hlt]
  · exact (State.taken_same.trans (State.logOpened_same.mono rfl)).trans (State.answering_same.mono rfl)

theorem faultLog_refuses (h : MbxFree s) (hmine : bat (s.mbxPayload 1) 0 1 ∉ s.mine 3) :
    ∃ u, exec (.faultLogOpen seq 1) s = .next u ∧ MbxHas u 0x0010 seq 6 [] ∧
      u.g .ras 0 Off.rasFlog 63 56 = s.g .ras 0 Off.rasFlog 63 56 ∧ Same [.regs, .hlk] s u := by
  have hmine' : bat (s.mbxPayload 1) 0 1 ∉ (s.taken 0x0010 seq 1).mine 3 := by
    unfold State.mine State.g at hmine ⊢
    rwa [State.taken_rd (by decide) (by decide)]
  have hcommand : (s.taken 0x0010 seq 1).mbxCommand 0x0010 (s.mbxPayload 1) = (6, [], (s.taken 0x0010 seq 1).logRefused) :=
    State.mbxCommand_faultLogOpen.trans (State.cmdFaultLogOpen_unknown (State.mbxPayload_length (by decide)) hmine')
  have hserved := State.mbxRow_served (n := 1) h (by decide) rfl (by decide) (p := fun _ => true) rfl hcommand
  refine ⟨_, exec_faultLogOpen.trans (congrArg Host.Outcome.next hserved),
    State.answering_has (State.logRefused_rd (by decide) (by decide)) (State.logRefused_rd (by decide) (by decide)), ?_, ?_⟩
  · rw [State.answering_g, State.g, State.logRefused_rd (by decide) (by decide), State.taken_rd (by decide) (by decide), State.g]
  · exact (State.taken_same.trans State.logRefused_same).trans (State.answering_same.mono rfl)

theorem faultRead_reads {ack n : Nat} {two : Bool} (h : MbxFree s) (hack : bat (s.mbxPayload 9) 0 8 = ack)
    (hn : bat (s.mbxPayload 9) 8 1 = n)
    (htwo : two = decide (s.g .ras 0 Off.rasFlog 63 56 = 0x20)) :
    ∃ u, exec (.faultRead seq 9) s = .next u ∧ u.ras.pending = s.ras.pending.filter (fun q => decide (ack < q.seq)) ∧
      MbxHas u 0x0011 seq 0 (((u.ras.pending.take (min n (if two then 6 else 7))).map (cper two)).flatten) ∧
        Same [.regs, .hlk, .ras] s u := by
  have htwo' : two = decide ((s.taken 0x0011 seq 9).g .ras 0 Off.rasFlog 63 56 = 0x20) := by
    rw [State.g, State.taken_rd (by decide) (by decide)]
    exact htwo
  have hcommand : (s.taken 0x0011 seq 9).mbxCommand 0x0011 (s.mbxPayload 9) =
      (0, State.readBytes ((s.taken 0x0011 seq 9).acked ack).ras.pending n two, (s.taken 0x0011 seq 9).acked ack) :=
    State.mbxCommand_faultRead.trans (State.cmdFaultRead_whole (State.mbxPayload_length (by decide)) hack hn htwo')
  have hras : (s.taken 0x0011 seq 9).ras = s.ras := State.taken_same .ras (by decide)
  have hserved := State.mbxRow_served (n := 9) h (by decide) rfl (by decide) (p := fun _ => true) rfl hcommand
  refine ⟨_, exec_faultRead.trans (congrArg Host.Outcome.next hserved), ?_, State.answering_has (State.acked_rd _) (State.acked_rd _), ?_⟩
  · rw [State.answering_ras, State.acked_pending, hras]
  · exact ((State.taken_same.mono rfl).trans (State.acked_same.mono rfl)).trans (State.answering_same.mono rfl)

/-- The live record (R411). -/
theorem tlmRead_live {k : Nat} (h : MbxFree s) (hk : k < 2) (hsrc : bat (s.mbxPayload 2) 0 1 = 0) (hhalf : bat (s.mbxPayload 2) 1 1 = k) :
    ∃ u, exec (.tlmRead seq 2) s = .next u ∧ MbxHas u 0x0020 seq 0 (bsub (u.tlmRecord s.ras.tlmSeq 0) (2048 * k) 2048) ∧
      FieldSet s u .tlm 0 Off.cntSnap 47 32 (s.g .tlm 0 Off.cntSnap 47 32 + 1) ∧ Same [.regs, .hlk, .snaps] s u := by
  obtain ⟨t, ht⟩ : ∃ t, t = (s.taken 0x0020 seq 2).takeSnap .tlm 0 := ⟨_, rfl⟩
  have hcommand : (s.taken 0x0020 seq 2).mbxCommand 0x0020 (s.mbxPayload 2) =
      (0, bsub (t.tlmRecord t.ras.tlmSeq 0) (2048 * k) 2048, t) := by
    rw [ht]
    exact State.mbxCommand_tlmRead.trans (State.cmdTlmRead_live (State.mbxPayload_length (by decide)) hsrc hhalf hk)
  have hserved := State.mbxRow_served (n := 2) h (by decide) rfl (by decide) (p := fun _ => true) rfl hcommand
  have hras : t.ras = s.ras := by
    rw [ht]
    exact ((State.takeSnap_ext ..).1 .ras (by decide)).trans (State.taken_same .ras (by decide))
  have hrd (a : Nat) : t.rd a = if a = regAt .tlm 0 Off.cntSnap then
      putFld ((s.taken 0x0020 seq 2).rd a) 47 32 ((s.taken 0x0020 seq 2).g .tlm 0 Off.cntSnap 47 32 + 1)
      else (s.taken 0x0020 seq 2).rd a := by
    rw [ht]
    exact State.takeSnap_rd State.counterRegs_tlm a
  rw [hras] at hserved
  refine ⟨_, exec_tlmRead.trans (congrArg Host.Outcome.next hserved), ?_, ?_, ?_⟩
  · rw [State.answering_tlmRecord]
    exact State.answering_has ((hrd _).trans (if_neg (by decide))) ((hrd _).trans (if_neg (by decide)))
  · have hset := (hrd (regAt .tlm 0 Off.cntSnap)).trans (if_pos rfl)
    rw [State.g, State.taken_rd (by decide) (by decide)] at hset
    exact hset
  · have hsnap : Same [.regs, .snaps] (s.taken 0x0020 seq 2) t := by
      rw [ht]
      exact (State.takeSnap_ext ..).1
    exact ((State.taken_same.mono rfl).trans (hsnap.mono rfl)).trans (State.answering_same.mono rfl)

/-- The last good record in flash (R411). -/
theorem tlmRead_stored {k : Nat} {r : TlmRec} (h : MbxFree s) (hk : k < 2) (hsrc : bat (s.mbxPayload 2) 0 1 = 1)
    (hhalf : bat (s.mbxPayload 2) 1 1 = k) (hr : (s.ras.tlm.filter fun (q : TlmRec) => q.good).getLast? = some r) :
    ∃ u, exec (.tlmRead seq 2) s = .next u ∧ MbxHas u 0x0020 seq 0 (bsub r.data (2048 * k) 2048) ∧ Same [.regs, .hlk] s u := by
  have hras : (s.taken 0x0020 seq 2).ras = s.ras := State.taken_same .ras (by decide)
  have hcommand : (s.taken 0x0020 seq 2).mbxCommand 0x0020 (s.mbxPayload 2) = (0, bsub r.data (2048 * k) 2048, s.taken 0x0020 seq 2) :=
    State.mbxCommand_tlmRead.trans (State.cmdTlmRead_stored (State.mbxPayload_length (by decide)) hsrc hhalf hk (by rw [hras]; exact hr))
  have hserved := State.mbxRow_served (n := 2) h (by decide) rfl (by decide) (p := fun _ => true) rfl hcommand
  exact ⟨_, exec_tlmRead.trans (congrArg Host.Outcome.next hserved), State.taken_has,
    State.taken_same.trans (State.answering_same.mono rfl)⟩

/-- The byte that chooses RETRY or FAIL stands in the request too. -/
theorem resolve_byte (s : State) : bat (s.mbxPayload 8) 4 1 = bat (s.mbxPayload 2048) 4 1 := by
  rw [← State.mbxPayload_take (n := 8) (k := 2048) (by decide), bat_take (by decide)]

section Resolve

variable {f : XFault} (h : MbxFree s) (hzero : bat (s.mbxPayload 8) 5 3 = 0)
  (hfind : (s.mem.faults.find? fun g => g.id = bat (s.mbxPayload 8) 0 4 && g.stage = .queued) = some f)
  (hwait : ∀ g ∈ s.mem.faults, g.stage ≠ .hostWait)

include h hzero hfind hwait

theorem resolve_retry (hact : bat (s.mbxPayload 2048) 4 1 = 0) : ∃ u, exec (.xltResolveRetry seq 8) s = .next u ∧ MbxHas u 0x0040 seq 0 [] ∧
    (∀ g, g ∈ u.mem.faults ↔ g ∈ s.mem.faults ∧ g.id ≠ f.id ∨ g = { f with stage := .search }) ∧ u.mem.slices = s.mem.slices := by
  have hmem : (s.taken 0x0040 seq 8).mem = s.mem := State.taken_same .mem (by decide)
  obtain ⟨t, ht⟩ : ∃ t, t = s.taken 0x0040 seq 8 := ⟨_, rfl⟩
  rw [← ht] at hmem
  have hcommand : (s.taken 0x0040 seq 8).mbxCommand 0x0040 (s.mbxPayload 8) = (0, [], t.setFault { f with stage := .search }) := by
    rw [← ht]
    exact State.mbxCommand_xltResolve.trans (State.cmdXltResolve_retry (State.mbxPayload_length (by decide)) hzero
      (by rw [hmem]; exact hfind)
      (by rw [hmem]; exact hwait) ((resolve_byte s).trans hact))
  have hserved := State.mbxRow_served (n := 8) h (by decide) rfl (by decide) (p := fun p => bat p 4 1 = 0) (by simpa using hact) hcommand
  refine ⟨_, exec_xltResolveRetry.trans (congrArg Host.Outcome.next hserved), State.answering_has (s := s) (len := 8) ?_ ?_, fun g => ?_,
    ?_⟩
  · rw [State.setFault_rd, ht]
  · rw [State.setFault_rd, ht]
  · rw [State.answering_mem, ← hmem]
    exact mem_setFault (f := f) (f' := { f with stage := .search }) (by rw [hmem]; exact List.mem_of_find?_eq_some hfind) rfl g
  · rw [State.answering_mem, State.setFault_slices, hmem]

theorem resolve_fail (hact : bat (s.mbxPayload 2048) 4 1 = 1) (hfree : f.holders = []) :
    ∃ u, exec (.xltResolveFail seq 8) s = .next u ∧ MbxHas u 0x0040 seq 0 [] ∧
      (∀ g, g ∈ u.mem.faults ↔ g ∈ s.mem.faults ∧ g.id ≠ f.id) ∧ u.mem.slices = s.mem.slices := by
  have hmem : (s.taken 0x0040 seq 8).mem = s.mem := State.taken_same .mem (by decide)
  obtain ⟨t, ht⟩ : ∃ t, t = s.taken 0x0040 seq 8 := ⟨_, rfl⟩
  rw [← ht] at hmem
  have hcommand : (s.taken 0x0040 seq 8).mbxCommand 0x0040 (s.mbxPayload 8) = (0, [], t.unresolved f) := by
    rw [← ht]
    exact State.mbxCommand_xltResolve.trans (State.cmdXltResolve_fail (State.mbxPayload_length (by decide)) hzero
      (by rw [hmem]; exact hfind)
      (by rw [hmem]; exact hwait) ((resolve_byte s).trans hact) hfree)
  have hserved := State.mbxRow_served (n := 8) h (by decide) rfl (by decide) (p := fun p => bat p 4 1 = 1) (by simpa using hact) hcommand
  refine ⟨_, exec_xltResolveFail.trans (congrArg Host.Outcome.next hserved), State.answering_has (s := s) (len := 8) ?_ ?_, fun g => ?_, ?_⟩
  · rw [State.unresolved_rd_below (by decide), ht]
  · rw [State.unresolved_rd_below (by decide), ht]
  · rw [State.answering_mem, unresolved_mem, hmem]
    simp [Mem.without]
  · rw [State.answering_mem, unresolved_mem, hmem, Mem.without]

end Resolve

end Settle

/-- Settles O28, command by command. -/
theorem mailboxReports : Obligations.MailboxReports := by
  refine ⟨fun s seq h => ⟨?_, fun len hne hlen => getInfo_badLength h hne hlen, fun v hv hmine => faultLog_opens h hv hmine,
    fun hmine => faultLog_refuses h hmine, fun ack n two hack hn htwo => faultRead_reads h hack hn htwo,
    fun k hk hsrc hhalf => tlmRead_live h hk hsrc hhalf, fun k r hk hsrc hhalf hr => tlmRead_stored h hk hsrc hhalf hr⟩,
    fun s seq f h hzero hfind hwait _ => ⟨fun hact => resolve_retry h hzero hfind hwait hact,
      fun hact hfree => resolve_fail h hzero hfind hwait hact hfree⟩⟩
  obtain ⟨u, bs, hexec, hhas, hlen, ⟨hversion, hactive, hpending, htries, hsecurity, hrollback, hrecovery, hdebug⟩, hsame⟩ :=
    getInfo_reports (seq := seq) h
  rw [h.whole] at hrecovery
  exact ⟨u, bs, hexec, hhas, hlen, hversion, hactive, hpending, htries, hsecurity, hrollback, hrecovery, hdebug, hsame⟩

end Sys2Proof.Machine
end
